-- ==== Sys2Proof/Word.lean ====
section
/-!
DEFINITION. The word and byte types, and their plainest field arithmetic (R5: registers are 32 bits wide).
-/

namespace Sys2Proof

abbrev Word := BitVec 32
abbrev Byte := BitVec 8

/-- The bits `lo .. lo + width - 1` set, all others clear. -/
def fieldMask (lo width : Nat) : Word := BitVec.ofNat 32 (2 ^ width - 1) <<< lo

/-- The value of the field of `width` bits at bit `lo`. -/
def getField (w : Word) (lo width : Nat) : Nat := ((w >>> lo) &&& BitVec.ofNat 32 (2 ^ width - 1)).toNat

/-- `w` with the field of `width` bits at bit `lo` holding `v` (truncated to the field). -/
def setField (w : Word) (lo width v : Nat) : Word :=
  (w &&& ~~~ fieldMask lo width) ||| ((BitVec.ofNat 32 v <<< lo) &&& fieldMask lo width)

end Sys2Proof
end

