-- ==== Sys2Proof/Types.lean ====
section
/-!
DEFINITION. The data types shared by the commands and the state: masters and owners (R22, R405), domain time (R12),
packets and cells (R65 to R75), and what the hub sends out.
-/

namespace Sys2Proof.Machine

/-- Privilege levels of R22. -/
inductive Priv where
  | f | e | h | b | d
deriving DecidableEq, Repr

/-- Management-bus masters of R22, identified as R386 numbers them. -/
inductive Master where
  | core (n : Fin 4)
  | engine (e : Fin 32)
  | displayDma (d : Fin 4)
  | pcieDma (b : Fin 2)
  | a0 | usb | smbus | dap
deriving DecidableEq, Repr

/-- Owners of commands and transactions (R405, R417): A0 together with the source hub, the USB management function,
the SMBus target, the ROM. -/
inductive Owner where
  | a0 (hub : Nat)
  | usb | smbus | rom
deriving DecidableEq, Repr

/-- Domain time (R12): seconds modulo 2^48, nanoseconds below 10^9, fraction in 2^-32 ns. -/
structure Time where
  sec : Nat := 0
  ns : Nat := 0
  frac : Nat := 0
deriving DecidableEq, Repr

/-- A packet: the header fields of R70 and R72 (`len` is LENGTH), the payload, and the tail code of R66 it carries. -/
structure Packet where
  ver : Nat := 3
  cls : Nat := 0
  tc : Nat := 0
  mcast : Bool := false
  spray : Bool := false
  ackreq : Bool := false
  dstHub : Nat := 0
  dstAdp : Nat := 0
  srcHub : Nat := 0
  srcAdp : Nat := 0
  seq : Nat := 0
  ts : Nat := 0
  len : Nat := 0
  payload : List Byte := []
  tail : Nat := 0
deriving DecidableEq, Repr

/-- A symbol of the link code, an element of GF(2^10) (R39). -/
abbrev Sym := BitVec 10

/-- What the checker of lane `lane` received last, first bit first (R62). -/
structure PatternSeen where
  lane : Fin 24 := 0
  bits : List Bool := []
deriving DecidableEq, Repr

/-- Scan-out of pipe `pipe` runs dry in line `line` from column `col` on (R217). -/
structure RunDry where
  pipe : Fin 4 := 0
  line : Fin 65536 := 0
  col : Fin 65536 := 0
deriving DecidableEq, Repr

/-- Channel `channel` limits again after `idle` tenths of a microsecond in which it did not (R330). -/
structure LimitBegin where
  channel : Fin 8 := 0
  idle : Fin 10000 := 0
deriving DecidableEq, Repr

/-- Bits [1263:1208] of a training frame (R45). -/
structure TrainFrame where
  step : Nat
  gaitCap : Nat
  gaitSel : Nat
  txReq : Nat
  preset : Nat
  txAck : Nat
  rxReady : Bool
  qual : Nat
  rtTag : Nat
  rtEcho : Nat
  rtHold : Nat
deriving DecidableEq, Repr

/-- One received 64-byte cell: the fields of its header (R66) and its valid data bytes. -/
structure Cell where
  kind : Nat
  first : Bool
  last : Bool
  tc : Nat
  tail : Nat
  data : List Byte
  kp : Nat
  pnLo : Nat
  crTc : Nat
  crCnt : Nat
deriving DecidableEq, Repr

/-- A native unit an adapter has accepted: its bytes and the stamp of its first byte (R20). A domain control message also
names the hub and adapter it goes to (R82), or the cable port of a message in neighbour form (R171); a received
Ethernet frame names the partition it waits in (R278). -/
structure NativeUnit where
  bytes : List Byte
  ts : Nat
  ackreq : Bool := false
  held : Bool := false
  dst : Option (Nat × Nat) := none
  via : Option Nat := none
  part : Option Nat := none
deriving DecidableEq, Repr

/-- A picture format (R203, R205): FMT, size, MUTE, PROTECTED, TYPE1, the source frame period in ns, whether the stream came compressed (R218). -/
structure DispFormat where
  fmt : Nat := 0
  width : Nat := 0
  height : Nat := 0
  mute : Bool := false
  prot : Bool := false
  type1 : Bool := false
  period : Nat := 0
  comp : Bool := false
deriving DecidableEq, Repr

/-- A USB 2.0 transaction of a bulk, control, interrupt or isochronous endpoint (R260, R261): its token and what follows it. -/
inductive TokenKind where
  | setup | out | in_ | ping
deriving DecidableEq, Repr

/-- A token a host sends at a tunnel port (R261 to R263): a transaction's token (address, endpoint, toggle, data, isochronous, and whether
the host acknowledges the data of an IN), or a start of micro-frame. -/
inductive HostToken where
  | xfer (kind : TokenKind) (addr : Fin 128) (ep : Fin 16) (toggle iso acked : Bool) (data : List Byte)
  | sof (frame : Fin 2048) (micro : Fin 8)
deriving DecidableEq, Repr

/-- Requests of the host to the hubs and the function (R255, R265 to R268); port requests name a port. `getDescriptor` is asked of the USB 2.0 hub (0), the
USB 3.2 hub (1) or the function (2). -/
inductive HubReq where
  | setAddress (addr : Fin 128)
  | setConfiguration (on : Bool)
  | multiTt (on : Bool)
  | remoteWake (on : Bool)
  | functionAddress (addr : Fin 128)
  | functionConfiguration (on : Bool)
  | portPower (on : Bool)
  | portReset
  | portWarmReset
  | portDisable
  | portSuspend (on : Bool)
  | portL1
  | portLink (u : Fin 4)
  | clearChange (mask : Fin 32)
  | getDescriptor (device : Fin 3) (ty ix : Fin 256) (len : Fin 65536)
deriving DecidableEq, Repr

/-- USB PD messages the hub sends or awaits an answer to (R301, R305 to R323); `vdm`'s words in `Out.pd` are SOP' (1) or SOP (0), SVID, command,
command type (0 request, 1 ACK, 2 NAK) and VDOs. -/
inductive PdMsg where
  | sourceCaps | request | accept | reject | notSupported | psRdy | getSourceCap | getSinkCap | sinkCaps | prSwap | drSwap | vconnSwap | frSwap
  | hardReset | eprEnter | eprEntered | eprEnterFailed | eprExit | eprSourceCaps | eprKeepAlive | eprKeepAliveAck | ppsStatus | vdm | firmware
deriving DecidableEq, Repr

/-- A partner's answer to a message of the hub (R438). -/
inductive PdAnswer where
  | accept | reject | wait | notSupported
deriving DecidableEq, Repr

/-- Local PLLs of R343. -/
inductive Pll where
  | lane (p : Fin 6)
  | pixel (d : Fin 4)
  | eth (m : Fin 2)
  | usb
  | pcie (b : Fin 2)
deriving DecidableEq, Repr

/-- The monitored clocks of R349. `derived c`: c is the CLOCK code of CK_MON_SRC. -/
inductive ClockSource where
  | reference
  | rootPll
  | derived (c : Nat)
  | local (p : Pll)
deriving DecidableEq, Repr

end Sys2Proof.Machine
end

