-- ==== Sys2Proof/Syntax.lean ====
section
/-!
DEFINITION. The commands of the hub: one constructor for each row of the table of operations and events
(spec/opcode_table.json), with the operands the row needs from outside.
-/

namespace Sys2Proof

open Machine

inductive Instr where
  /-- MARKER_BLOCK_RECEIVE (R33). A lane receives a marker block, checks its comma and CRC and sets the block boundary. -/
  | markerBlockReceive (n : Fin 24) (c : BitVec 64) (f : BitVec 80) (r : BitVec 1136) (gap : Nat) (skew : Fin 65536)
  /-- DATA_BLOCK_RECEIVE (R36). A locked lane takes a block at a data position as data, whatever its header. -/
  | dataBlockReceive (n : Fin 24) (block : BitVec 1282)
  /-- CODEWORD_RECEIVE (R43). A received RS(272,256) codeword is decoded and its five cells pass to the link layer. -/
  | codewordReceive (p : Fin 6) (a b c : List Sym)
  /-- TRAINING_FRAME_RECEIVE (R45). A training frame is received and its requests, acknowledgements and round-trip tags are acted on. -/
  | trainingFrameReceive (n : Fin 24) (w : BitVec 72) (r : BitVec 1208) (roundTrip : Fin 65536)
  /-- TRAINING_STEP_DONE (R46). A training step completes and the link moves to the next step of the training table. -/
  | trainingStepDone (p : Fin 6) (locked : Fin 16)
  /-- QUAL_WINDOW_END (R47). The 1 ms qualification window ends and the lane passes or fails at its gait. -/
  | qualWindowEnd (n : Fin 24) (corrected : Fin 65536) (uncorr : Bool)
  /-- TRAINING_RETRY (R51). 10 ms after a training failure the port trains again, up to RETRIES times, then goes Off. -/
  | trainingRetry (p : Fin 6)
  /-- TEST_WRITE (R61). A write of LN_CTRL.TEST enters Test from Off or Failed, or leaves Test to Off. -/
  | testWrite (m : Master) (n : Fin 24) (on : Bool)
  /-- GIVE_LANE (R54). At the announced codeword the direction drops a lane, restripes with reduced WIDTH and idles or reverses it. -/
  | giveLane (p : Fin 6)
  /-- LOCK_PATTERN_END (R54). The taking hub's lock pattern ends at a block boundary and it sends the join marker. -/
  | lockPatternEnd (p : Fin 6)
  /-- JOIN_MARKER_RECEIVE (R54). A join marker is accepted, the lane is deskewed and striping continues with the new WIDTH. -/
  | joinMarkerReceive (n : Fin 24) (payload : BitVec 1280)
  /-- LEAD_FAIL (R56). No join marker by 4 µs fails the lead change, sets LN_EVT0.LEAD_FAIL and reports it. -/
  | leadFail (n : Fin 24)
  /-- LANE_RETRAIN_DONE (R56). In-service retraining of a lane ends and the lane returns to the scheduler or goes Failed. -/
  | laneRetrainDone (n : Fin 24) (ok : Bool)
  /-- LOW_POWER_ENTER (R59). At its announced codeword a lane leaves striping for Stand or Stable. -/
  | lowPowerEnter (p : Fin 6)
  /-- ES_START (R60). A write of LN_ES_CTRL.START scans the set point with the second sampler. -/
  | esStart (m : Master) (n : Fin 24) (v : BitVec 32)
  /-- ES_STOP (R60). A write of LN_ES_CTRL.STOP aborts the point and sets ES_ABORT. -/
  | esStop (m : Master) (n : Fin 24) (v : BitVec 32)
  /-- ES_DONE (R60). An eye-scan point completes, writes LN_ES_RES and sets LN_EVT1.ES_DONE. -/
  | esDone (n : Fin 24) (errors : BitVec 32)
  /-- PAT_CLEAR (R62). A write of LN_PAT_CTRL.CLEAR clears LN_PAT_ERR and LN_PAT_BITS. -/
  | patClear (m : Master) (n : Fin 24) (v : BitVec 32)
  /-- PAT_LOCKED (R62). After 64 consecutive correct bits the checker reports LOCKED and starts counting. -/
  | patLocked (seen : PatternSeen)
  /-- PAT_LOCK_DROP (R62). 32 wrong bits within 64 drop LOCKED and the checker seeds itself again. -/
  | patLockDrop (n : Fin 24) (wrong : BitVec 64) (errors : Fin 4294967296)
  /-- INJ_FIRE (R63). A write of LN_INJ_CTRL.FIRE injects a single error burst. -/
  | injFire (m : Master) (n : Fin 24) (v : BitVec 32)
  /-- INJ_INTERVAL (R63). In periodic mode a burst is injected every LN_INJ_INT blocks. -/
  | injInterval (n : Fin 24)
  /-- CELL_RECEIVE (R69). A received cell is sorted by kind and class and repairs the cell stream after loss. -/
  | cellReceive (p : Fin 6)
  /-- PACKET_CLASS_TIMEOUT (R69). No cell for 20 µs in a class with an open packet closes it with TAIL 0b11. -/
  | packetClassTimeout (p : Fin 6) (tc : Fin 8)
  /-- CREDIT_TIMER (R78). Every 16 µs the receiver sends a CREDIT message with cumulative freed cells. -/
  | creditTimer (p : Fin 6)
  /-- VERSION_OFFER (R83). A VERSION_OFFER is received and the end answers with VERSION_ACK of the highest common version. -/
  | versionOffer (p : Fin 6) (vers : Fin 256) (policy : Fin 256) (role : Fin 256) (floor : Fin 256) (uid : BitVec 64)
  /-- VERSION_OFFER_REPEAT (R83). An end repeats VERSION_OFFER every 100 µs until it receives the partner's offer. -/
  | versionOfferRepeat (p : Fin 6)
  /-- VERSION_ACK (R83). A VERSION_ACK equal to the end's choice sets CL_STAT.VER and proceeds to credits and authentication. -/
  | versionAck (p : Fin 6) (version : Fin 256)
  /-- VERSION_TIMEOUT (R83). No offer within 10 ms fails version negotiation. -/
  | versionTimeout (p : Fin 6)
  /-- CREDIT_INIT (R77). A CREDIT_INIT gives the sender its initial credits per class. -/
  | creditInit (p : Fin 6) (init : List (BitVec 24))
  /-- CREDIT (R78). A CREDIT message raises the sender's cumulative credit count if ahead. -/
  | credit (p : Fin 6) (cum : List (BitVec 24))
  /-- PLAN_FLIP (R161). A follower with FOLLOW = 1 makes the named table active at the owner's codeword. -/
  | planFlip (p : Fin 6) (table : Fin 2) (cw : BitVec 64)
  /-- LEAD_CHANGE (R54). A LEAD_CHANGE message schedules the drop of a lane at codeword N. -/
  | leadChange (p : Fin 6) (lane : Fin 4) (giver : Fin 2) (newPos : Fin 4) (cw : BitVec 64)
  /-- LEAD_RESULT (R80). A LEAD_RESULT reports the outcome of a lead change or a refused park. -/
  | leadResult (p : Fin 6) (lane : Fin 4) (result : Fin 256) (cw : BitVec 64)
  /-- LANE_FAULT (R57). A LANE_FAULT makes the far hub restripe the direction without that lane. -/
  | laneFault (p : Fin 6) (lane : Fin 4) (reason : Fin 256)
  /-- RESTRIPE (R57). A RESTRIPE announces the codeword at which a lane is removed from striping. -/
  | restripe (p : Fin 6) (lane : Fin 4) (cw : BitVec 64)
  /-- LOW_POWER (R59). A LOW_POWER message schedules a lane's entry to Stand or Stable or its exit. -/
  | lowPower (p : Fin 6) (lane : Fin 4) (action : Fin 3) (cw : BitVec 64)
  /-- AUTH_HELLO (R87). An AUTH_HELLO carrying nonce and UID advances authentication. -/
  | authHello (p : Fin 6) (nonce : BitVec 256) (uid : BitVec 64)
  /-- AUTH_CERT (R87). An AUTH_CERT chain is verified against the image trust anchors and the UID. -/
  | authCert (p : Fin 6) (index : Fin 256) (count : Fin 256) (cert : List Byte)
  /-- AUTH_KEYSHARE (R87). An AUTH_KEYSHARE is verified and ECDH derives the link keys. -/
  | authKeyshare (p : Fin 6) (pub : BitVec 776) (sig : BitVec 768)
  /-- AUTH_FINISH (R87). A verified AUTH_FINISH completes authentication and turns encryption on. -/
  | authFinish (p : Fin 6) (mac : BitVec 384)
  /-- AUTH_FAIL (R89). An authentication failure is recorded in CL_AUTH.REASON and the link carries link control only. -/
  | authFail (p : Fin 6) (reason : Fin 16)
  /-- AUTH_STEP_TIMEOUT (R87). An authentication step not completed within CL_AUTH.TIMEOUT fails with REASON 5. -/
  | authStepTimeout (p : Fin 6)
  /-- AUTH_RETRY (R86). After a failure with REASON 1 to 5 or 7 authentication is retried every 1 s. -/
  | authRetry (p : Fin 6)
  /-- REKEY_TRIGGER (R90). The packet number reaching 2^REKEY_EXP starts a key phase change. -/
  | rekeyTrigger (p : Fin 6)
  /-- KEY_UPDATE (R90). A KEY_UPDATE makes the receiver derive the next phase key and acknowledge it. -/
  | keyUpdate (p : Fin 6) (kp : Fin 2)
  /-- KEY_UPDATE_ACK (R90). A KEY_UPDATE_ACK lets the sender start the next packet with the new key phase. -/
  | keyUpdateAck (p : Fin 6) (kp : Fin 2)
  /-- SYNC_EXCHANGE (R96). Every 1 ms the time master sends SYNC and stamps t1. -/
  | syncExchange (p : Fin 6)
  /-- SYNC (R96). The slave stamps t2 on a SYNC. -/
  | sync (p : Fin 6) (id : BitVec 32)
  /-- SYNC_FOLLOW (R96). A SYNC_FOLLOW delivers t1 and the slave sends DELAY_REQ. -/
  | syncFollow (p : Fin 6) (id : BitVec 32) (t1 : Time)
  /-- DELAY_REQ (R96). The master stamps t4 on a DELAY_REQ and returns DELAY_RESP. -/
  | delayReq (p : Fin 6) (id : BitVec 32)
  /-- DELAY_RESP (R98). A DELAY_RESP lets the slave compute offset and delay and steer its counter. -/
  | delayResp (p : Fin 6) (id : BitVec 32) (t4 : Time)
  /-- ROLE_SWAP_REQ (R177). A ROLE_SWAP_REQ asking the hub to take host is accepted, refused or resolved by UID. -/
  | roleSwapReq (p : Fin 6) (role : Fin 2) (uid : BitVec 64)
  /-- ROLE_SWAP_ACK (R177). A ROLE_SWAP_ACK ends a Thrumlink role swap request. -/
  | roleSwapAck (p : Fin 6) (result : Fin 3)
  /-- LINK_DOWN (R516). A LINK_DOWN message takes the link down and the receiver acts on its REASON. -/
  | linkDown (p : Fin 6) (reason : Fin 256)
  /-- ECHO (R80). An ECHO link control message is answered with ECHO_REPLY carrying its token. -/
  | echo (p : Fin 6) (token : BitVec 32)
  /-- ECHO_REPLY (R80). An ECHO_REPLY completes a round-trip measurement. -/
  | echoReply (p : Fin 6) (token : BitVec 32)
  /-- WAKE_PATTERN_REPEAT (R100). The wake pattern is repeated every 10 ms until the link trains or returns to Active. -/
  | wakePatternRepeat (p : Fin 6)
  /-- WAKE_PATTERN_DETECT (R365). Detection of the wake pattern unparks the link lane by lane. -/
  | wakePatternDetect (p : Fin 6)
  /-- ENUM_PROBE (R172). A probed hub answers ENUM_REPLY and records its upstream port. -/
  | enumProbe (p : Fin 6) (hop : Fin 8)
  /-- ENUM_REPLY (R172). An ENUM_REPLY is forwarded to, or handled by, the host-role hub, which assigns a position. -/
  | enumReply (via : Option (Fin 6)) (src : Fin 16384) (port : Fin 6) (vers : Fin 16) (role : Fin 3) (linked : Fin 64) (uid : BitVec 64) (declared : Fin 256)
  /-- ADDR_ASSIGN (R172). An ADDR_ASSIGN with the hub's UID gives it its address; another UID records a peer address. -/
  | addrAssign (p : Option (Fin 6)) (addr : Fin 16384) (str : Fin 65536) (uid : BitVec 64)
  /-- ROUTE_SET (R178). A ROUTE_SET is checked whole, applied to DM_RT and answered with ROUTE_ACK. -/
  | routeSet (src : Fin 16384) (count : Fin 65536) (entries : List (BitVec 32))
  /-- ROUTE_ACK (R172). A ROUTE_ACK paces enumeration at the host-role hub. -/
  | routeAck (src : Fin 16384) (applied : Fin 65536) (status : Fin 256)
  /-- FLOOR_GOSSIP (R191). A FLOOR_GOSSIP record is adopted when it is lower or fresher. -/
  | floorGossip (lowest : Fin 256) (origin : Fin 16384) (age : BitVec 32)
  /-- GM_ANNOUNCE (R186). A GM_ANNOUNCE is compared with the best held and forwarded on change. -/
  | gmAnnounce (p : Fin 6) (prio cls steps : Fin 256) (uid : BitVec 64)
  /-- HUB_GONE (R175). A HUB_GONE closes adapters toward the gone hub and frees its position. -/
  | hubGone (hub : Fin 16384)
  /-- EVENT_NOTIFY (R82). An EVENT_NOTIFY at A0 is relayed on the USB interrupt endpoint or discarded. -/
  | eventNotify (src : Fin 16384) (entry : List Byte)
  /-- PATH_PROBE (R82). A PATH_PROBE is received at A0 of a version-3 hub. -/
  | pathProbe (path : Fin 256) (sent : Time)
  /-- TUNNEL_OPEN (R413). A TUNNEL_OPEN opens the named adapter when CLASS and TC match, resetting its sequence numbers. -/
  | tunnelOpen (srcHub : Fin 16384) (srcAdp dstAdp : Fin 256) (dstHub : Fin 16384) (cls : Fin 4) (tc : Fin 8)
  /-- TUNNEL_CLOSE (R413). A TUNNEL_CLOSE closes every adapter that names the closing adapter as peer. -/
  | tunnelClose (adp : Fin 256) (hub : Fin 16384)
  /-- CONFIRM (R241). A CONFIRM releases a confirmed-write hold and counts the result. -/
  | confirm (a : Fin 256) (seq : Fin 65536) (status : Fin 256)
  /-- COMMAND (R422). A COMMAND message at A0 carries a command frame or a relayed response. -/
  | command (src : Fin 16384) (neighbour : Bool) (frame : List Byte)
  /-- TRANSLATE_PACKET (R84). The version translator converts a packet between versions and readmits it at SP18. -/
  | translatePacket
  /-- NATIVE_UNIT_DISPATCH (R517). An adapter accepts a native unit, polices it, checks queue room and assigns SEQ to its packets. -/
  | nativeUnitDispatch (a : Fin 256) (unit : Option (List Byte)) (secondary : Bool)
  /-- WORK_ITEM_COMPLETE (R112). An engine finishes a work item and starts the next one in its queue. -/
  | workItemComplete (e : Fin 32)
  /-- STEAL (R114). At its 16th idle clock an engine takes half the stealable items of a cluster victim. -/
  | steal (e : Fin 32)
  /-- XSTEAL (R115). At its 64th idle clock an engine steals across clusters. -/
  | xsteal (e : Fin 32)
  /-- STEAL_MOVE_DONE (R114). A steal move ends and the thief starts the oldest item it took. -/
  | stealMoveDone (e : Fin 32)
  /-- EGRESS_QUEUE_ROOM (R113). An egress packet waiting for home-queue room enters the queue when room appears. -/
  | egressQueueRoom (e : Fin 32)
  /-- EGRESS_PACKET_ARRIVE (R117). A packet reaches the adapter's re-sequencer and is delivered, held or dropped. -/
  | egressPacketArrive (a : Fin 256)
  /-- RSQ_TMO (R117). The oldest held packet waiting RSQ_TMO skips EXP_SEQ to the lowest held. -/
  | rsqTmo (a : Fin 256)
  /-- PACKET_ADMIT (R134). A packet's first cell at an input chooses outputs and is admitted or dropped. -/
  | packetAdmit (p : Fin 20)
  /-- RESERVE_WAIT_ADMIT (R134). A lossless local packet waiting for reserve room is admitted when room appears. -/
  | reserveWaitAdmit (p : Fin 20)
  /-- CROSSBAR_GRANT (R130). An output arbiter with staging room takes the next cell round-robin from the input VOQs. -/
  | crossbarGrant (o : Fin 20) (tc : Fin 8) (read : Fin 4)
  /-- MIRROR_SEND (R140). SP17 sends a mirror copy store-and-forward as a new lossy packet. -/
  | mirrorSend
  /-- AUDIT_PERIOD (R141). Every PERIOD × 10 ms the farrier starts an audit. -/
  | auditPeriod
  /-- FARRIER_START (R141). A write of SW_FAR_CTRL.START starts an audit unless one runs. -/
  | farrierStart (m : Master) (v : BitVec 32)
  /-- AUDIT_COMPLETE (R142). An audit ends, reports findings and acts on leaked and duplicate cells. -/
  | auditComplete (dups : Fin 65536)
  /-- CELL_SLOT (R151). A cable scheduler fills one cell slot from Q0, strict, weighted queues or an idle cell. -/
  | cellSlot (p : Fin 6)
  /-- GATE_ENTRY_END (R155). A gate-list entry's duration expires and the next entry takes force. -/
  | gateEntryEnd (p : Fin 6)
  /-- EPOCH_BOUNDARY (R159). At an epoch boundary an armed shadow table becomes active and the lane plan acts. -/
  | epochBoundary
  /-- DECISION_POINT (R164). 1.5 µs before a boundary the owner evaluates the lane-plan rules and announces one action. -/
  | decisionPoint
  /-- ARM_WRITE (R159). A write of AL_ARM.ARM arms the shadow table for the next boundary. -/
  | armWrite (m : Master) (p : Fin 6)
  /-- DISARM_WRITE (R159). A write of AL_ARM.DISARM disarms the shadow table. -/
  | disarmWrite (m : Master) (p : Fin 6)
  /-- PROBE_START (R172). A port whose link is up, authenticated and locked, or 20 ms up, is probed with ENUM_PROBE. -/
  | probeStart (p : Fin 6)
  /-- PEER_ANNOUNCE (R182). An authenticated peer port of an addressed hub sends ADDR_ASSIGN announcing itself. -/
  | peerAnnounce (p : Fin 6)
  /-- GM_ANNOUNCE_TIMER (R186). Every 125 ms a candidate or forwarder sends GM_ANNOUNCE. -/
  | gmAnnounceTimer
  /-- GM_ANNOUNCE_EXPIRE (R186). An announcement not renewed for 375 ms is dropped and the best is chosen again. -/
  | gmAnnounceExpire (p : Fin 6)
  /-- PADDOCK_ARRIVE (R188). A sprayed packet enters the paddock with a release time, or is released at once. -/
  | paddockArrive
  /-- PADDOCK_RELEASE (R188). A paddock packet reaches its release time and passes to the engine. -/
  | paddockRelease
  /-- FLOOR_GOSSIP_TIMER (R191). Each second a version-3 hub sends FLOOR_GOSSIP to every neighbour. -/
  | floorGossipTimer
  /-- FLOOR_RECORD_LAPSE (R191). A floor record that reaches 60 s lapses and the floor may rise. -/
  | floorRecordLapse
  /-- CAPTURE_FRAME_START (R206). A captured frame starts and is written into the free frame copy. -/
  | captureFrameStart (d : Fin 4) (f : DispFormat) (tiles : List (List Byte))
  /-- TILE_EXTRACT (R207). A completed tile row is extracted and changed tiles are sent as TILE records. -/
  | tileExtract (d : Fin 4)
  /-- REFRESH_PERIOD (R208). FULL_PERIOD × 100 ms since the last refresh triggers a full refresh. -/
  | refreshPeriod (d : Fin 4)
  /-- CAPTURE_NO_FRAME (R208). No captured frame for 100 ms sends FORMAT with MUTE. -/
  | captureNoFrame (d : Fin 4)
  /-- HPD_LOW_END (R209). 100 ms after an EDID change pulse the capture HPD rises with the new EDID. -/
  | hpdLowEnd (d : Fin 4)
  /-- HPD_HOLD_EXPIRE (R209). 2 s after the display tunnel closes HPD goes low, then returns with the fallback EDID. -/
  | hpdHoldExpire (d : Fin 4)
  /-- PUSH_TAIL_WRITE (R210). A write of DS_PUSH_TAIL hands new push records to the pipe. -/
  | pushTailWrite (m : Master) (d : Fin 4) (tail : Fin 4096)
  /-- PUSH_RECORD_SEND (R210). The pipe sends the record at HEAD with its signature and advances HEAD. -/
  | pushRecordSend (d : Fin 4)
  /-- TILE_RECORD (R213). A sink checks a TILE record and writes it into the pending or live copy. -/
  | tileRecord (d : Fin 4) (record : List Byte) (enc : Bool)
  /-- FRAME_END (R212). A FRAME_END commits pending tiles now or at the next vertical blank. -/
  | frameEnd (d : Fin 4) (full : Bool) (frame tiles : Fin 65536)
  /-- FORMAT (R214). A changed FORMAT discards pending tiles, invalidates tiles and requests a refresh. -/
  | format (d : Fin 4) (f : DispFormat)
  /-- REFRESH_REQ (R208). A REFRESH_REQ triggers a refresh, or sets DS_EVT.REFRESH_REQ in PUSH mode. -/
  | refreshReq (d : Fin 4) (reason : Fin 4) (frame : Fin 65536)
  /-- SINK_EDID (R209). A SINK_EDID block updates the EDID presented by the capture receiver. -/
  | sinkEdid (d : Fin 4) (idx total : Fin 256) (block : List Byte)
  /-- SINK_STATUS (R203). A SINK_STATUS record reports the sink's panel, HDCP and refresh state. -/
  | sinkStatus (d : Fin 4) (flags : Fin 16) (frame : Fin 65536) (refresh : BitVec 32)
  /-- HDCP_TOPO (R221). An HDCP_TOPO record is assembled into the repeater's ReceiverID_List. -/
  | hdcpTopo (d : Fin 4) (depth count : Fin 256) (devs casc : Bool) (ids : List Byte)
  /-- VBLANK_START (R212). At the first line of vertical blank pending tiles commit and a stretch may begin. -/
  | vblankStart (d : Fin 4) (lines : Fin 65536)
  /-- STRETCH_END (R219). A stretched blank reaches its period and the next frame starts. -/
  | stretchEnd (d : Fin 4)
  /-- SCANOUT_FRAME_START (R220). A scan-out frame starts and its signature feeds the freeze detector. -/
  | scanoutFrameStart (d : Fin 4)
  /-- COMMIT_TMO (R212). Pending tiles older than COMMIT_TMO are committed and REFRESH_REQ REASON 3 sent. -/
  | commitTmo (d : Fin 4)
  /-- REFRESH_REQ_REPEAT (R214). The sink repeats REFRESH_REQ every 50 ms until a full clean refresh commits. -/
  | refreshReqRepeat (d : Fin 4)
  /-- SINK_STATUS_TIMER (R214). The sink sends SINK_STATUS every 100 ms. -/
  | sinkStatusTimer (d : Fin 4)
  /-- UNDERRUN (R217). A late frame-memory read mutes the rest of the line and sets DS_EVT.UNDERRUN. -/
  | underrun (u : RunDry)
  /-- DP_LOSS (R217). The panel HPD dropping sets DS_EVT.DP_LOSS while tiles keep committing. -/
  | dpLoss (d : Fin 4)
  /-- HPD_RETURN (R217). The panel HPD returning retrains the link and scan-out resumes. -/
  | hpdReturn (d : Fin 4) (edid : List (List Byte))
  /-- RELAY_INPUT_STOP (R225). A RELAY input stopped for 100 ms mutes the pipe and sets DP_LOSS. -/
  | relayInputStop (d : Fin 4)
  /-- MC_READY (R229). Frame-memory training completing sets MC_STAT.READY and pipes resume. -/
  | mcReady (failed : Fin 16)
  /-- TLP_RECORD (R233). A TLP record from a tunnel is forwarded to the native link or another vDSP. -/
  | tlpRecord (a : Fin 256) (record : List Byte) (seq : Fin 65536) (ackreq : Bool) (peer : Option (Fin 256))
  /-- LINK_STATE (R236). A LINK_STATE record updates the vDSP's slot and link status. -/
  | linkState (a : Fin 256) (up : Bool) (speed : Fin 8) (width : Fin 16)
  /-- LINK_STATE_TIMER (R236). A ROOT bridge sends LINK_STATE every 100 ms. -/
  | linkStateTimer (b : Fin 2)
  /-- PCIE_LINK_CHANGE (R236). A change of the ROOT bridge's native link sends LINK_STATE. -/
  | pcieLinkChange (b : Fin 2) (up : Bool) (speed : Fin 8) (width : Fin 16)
  /-- RESET_RECORD (R235). A RESET record drives hot reset or PERST# on the ROOT bridge. -/
  | resetRecord (a : Fin 256) (kind : Fin 4)
  /-- PB_ERROR_RECORD (R243). An ERROR record is reported as AER or logged at the receiving bridge. -/
  | pbErrorRecord (a : Fin 256) (cause : Fin 16) (status : Fin 256) (seq : Fin 65536) (addr : BitVec 64)
  /-- POWER_CONTROLLER_CONTROL (R236). A host write of vDSP Power Controller Control sends RESET with PERST# asserted or released. -/
  | powerControllerControl (a : Fin 256) (off : Bool)
  /-- SECONDARY_BUS_RESET (R236). A host write of Secondary Bus Reset sends RESET with hot reset. -/
  | secondaryBusReset (a : Fin 256)
  /-- PCIE_ACK (R240). An Ack DLLP for a confirmed TLP makes the destination send CONFIRM OK. -/
  | pcieAck (a : Fin 256) (seq : Fin 65536)
  /-- CONFIRM_TIMEOUT (R241). No CONFIRM within TMO releases the hold and counts a failure. -/
  | confirmTimeout (a : Fin 256)
  /-- CPL_TIMEOUT (R242). A non-posted request without completion within CPL_TMO gets a CA completion. -/
  | cplTimeout (a : Fin 256)
  /-- PERST_RELEASE (R234). A ROOT bridge releases PERST# 100 ms after supplies are valid. -/
  | perstRelease (b : Fin 2)
  /-- READ_RECORD (R245). A register-bus READ record runs an I²C read on this hub's controller. -/
  | readRecord (a : Fin 256) (tag size : Fin 256) (addr : BitVec 32)
  /-- WRITE_RECORD (R245). A register-bus WRITE record runs an I²C write on this hub's controller. -/
  | writeRecord (a : Fin 256) (tag : Fin 256) (addr : BitVec 32) (data : List Byte) (seq : Fin 65536) (ackreq : Bool)
  /-- READ_RESP (R245). A READ_RESP answers an outstanding register-bus read. -/
  | readResp (a tag status : Fin 256) (data : List Byte)
  /-- RB_ERROR_RECORD (R246). A register-bus ERROR sets SB_EVT.RB_FAR_ERR and fills SB_RB_ERR. -/
  | rbErrorRecord (a : Fin 256) (tag status : Fin 256) (addr : BitVec 32)
  /-- I2C_DONE (R244). An I²C transaction completes and its result is returned. -/
  | i2cDone (status : Fin 256) (data : List Byte)
  /-- RB_READ_TIMEOUT (R246). A READ unanswered within SB_RB_CFG.TMO is answered TIMEOUT. -/
  | rbReadTimeout (tag : Fin 256)
  /-- SIGNAL_ACCEPT (R247). An input held FILT ticks at a new level is accepted. -/
  | signalAccept (n : Fin 32) (level : Bool)
  /-- GROUP_UPDATE (R249). A sideband group sends an update after its interval or a 1 ms keepalive. -/
  | groupUpdate (g : Fin 8)
  /-- UPDATE_RECEIVE (R250). A sideband update is applied at once, scheduled, or discarded if older. -/
  | updateReceive (g : Fin 8) (ts : BitVec 34) (value : BitVec 32) (edges : List (Fin 16)) (interval : Fin 65536)
  /-- TIMED_APPLY (R250). A timed update is applied at TS + DELAY. -/
  | timedApply (g : Fin 8)
  /-- STALE (R251). No update for 3 ms drives outputs to SAFE and sets SB_EVT.STALE. -/
  | stale (g : Fin 8)
  /-- UPSTREAM_CONNECT (R256). An upstream source presents a connection and takes the upstream if free. -/
  | upstreamConnect (src : Fin 4) (ss : Fin 5)
  /-- HEADER_RECORD (R259). A USB3 HEADER record is regenerated as a SuperSpeed header packet. -/
  | headerRecord (a : Fin 256) (header : List Byte)
  /-- DATA_RECORD (R259). A USB3 DATA record is regenerated as a SuperSpeed data packet. -/
  | dataRecord (a : Fin 256) (header data : List Byte)
  /-- ITP_RECORD (R259). A USB3 ITP record is scheduled for release at TS + SOF_DELAY. -/
  | itpRecord (a : Fin 256) (ts : BitVec 34) (itp : List Byte)
  /-- ITP_RELEASE (R259). A tunnelled ITP is sent with its delta rewritten. -/
  | itpRelease (delta : Fin 8192)
  /-- USB3_PORT_RECORD (R259). A USB3 PORT record applies connect, reset or U3 events. -/
  | usb3PortRecord (a : Fin 256) (event : Fin 7)
  /-- HOST_TOKEN (R261). A host token at a tunnel port is answered from cache, NAKed or forwarded as XFER. -/
  | hostToken (k : Fin 6) (t : HostToken)
  /-- XFER (R261). An XFER record is played once to the far device. -/
  | xfer (kind : TokenKind) (addr : Fin 128) (ep : Fin 16) (toggle iso : Bool) (data : List Byte) (pid : Fin 256) (rtoggle : Bool) (rdata : List Byte)
  /-- RESULT (R261). A RESULT record fills the tunnel port's cache entry. -/
  | result (k : Fin 6) (pid : Fin 256) (addr : Fin 128) (ep : Fin 16) (isIn toggle : Bool) (data : List Byte)
  /-- SOF_RECORD (R263). A SOF record schedules the far hub's micro-frame start. -/
  | sofRecord (ts : BitVec 34) (frame : Fin 2048) (micro : Fin 8)
  /-- SOF_RELEASE (R263). At TS + SOF_DELAY the far hub starts the micro-frame on its ports. -/
  | sofRelease
  /-- SOF_LATE (R263). A missing SOF record makes the far hub generate the SOF and set UH_EVT.SOF_LATE. -/
  | sofLate
  /-- USB2_PORT_RECORD (R260). A USB2 PORT record applies reset, suspend, resume or L1 events. -/
  | usb2PortRecord (a : Fin 256) (event : Fin 9)
  /-- USB_ATTACH_DEBOUNCE (R265). Attach debounce expiry reports a connection on a USB port. -/
  | usbAttachDebounce (n : Fin 12) (hs : Fin 4) (ss : Fin 5)
  /-- OVERCURRENT (R266). An overcurrent through its deglitch switches port power off. -/
  | overcurrent (n : Fin 5)
  /-- SUSPEND_ENTRY (R265). 3 ms of upstream idle suspends the USB 2.0 hub and function. -/
  | suspendEntry
  /-- REMOTE_WAKE (R271). A downstream remote wake is propagated, or merged with a host resume. -/
  | remoteWake (n : Fin 12)
  /-- SEND_COMMAND (R270). A SEND_COMMAND control transfer executes its frame when the data stage completes. -/
  | sendCommand (wLength : Fin 65536) (data : List Byte) (status : Bool)
  /-- GET_RESPONSE (R269). A GET_RESPONSE returns the cached response of a sequence. -/
  | getResponse (seq wLength : Fin 65536)
  /-- BULK_FRAME (R270). A bulk OUT frame executes when its last packet is acknowledged. -/
  | bulkFrame (data : List Byte) (last : Bool)
  /-- BUS_RESET (R270). A USB bus reset returns the function to Default and discards incomplete frames. -/
  | busReset
  /-- FRAME_RECEIVE (R277). A received Ethernet frame is checked, mapped to an adapter and buffered. -/
  | frameReceive (m : Fin 2) (frame : List Byte) (fcsOk : Bool) (stamp : Time)
  /-- PFC_REPEAT (R279). The PFC frame is repeated every QUANTA × 256 bit times above XON. -/
  | pfcRepeat (m : Fin 2) (p : Fin 9)
  /-- PFC_FRAME (R280). A received PFC or PAUSE frame stops the mapped transmit queues. -/
  | pfcFrame (m : Fin 2) (pfc : Bool) (enable : Fin 256) (quanta : List (Fin 65536))
  /-- PAUSE_EXPIRE (R280). A transmit queue's pause time runs out and it may send again. -/
  | pauseExpire (m : Fin 2) (p : Fin 9)
  /-- FRAME_TRANSMIT (R281). The MAC starts the next frame from the highest ready transmit queue. -/
  | frameTransmit (m : Fin 2)
  /-- ETH_LINK_CHANGE (R275). An Ethernet link goes up or down, or is refused for a low PHY speed. -/
  | ethLinkChange (m : Fin 2) (up : Bool) (speed : Fin 6)
  /-- TXTS_HEAD_READ (R294). A read of EN_TXTS_HEAD removes the oldest stamp entry and latches it. -/
  | txtsHeadRead (m : Master) (mac : Fin 2)
  /-- SECONDS_ROLLOVER (R283). The nanoseconds count reaching 10⁹ increments the seconds count. -/
  | secondsRollover
  /-- TM_NS_READ (R284). A read of TM_NS latches fraction and seconds of the same tick. -/
  | tmNsRead (m : Master)
  /-- SERVO_SAMPLE (R287). A time sample steps or slews the counter and updates FREQ. -/
  | servoSample (src : Fin 9) (theta : Int) (ms : Fin 8192)
  /-- SOURCE_NO_SAMPLE (R290). Three intervals without a sample lose the external source. -/
  | sourceNoSample
  /-- ACQUIRE_TIMER (R288). 375 ms with no GM_ANNOUNCE heard sets TM_STAT.ACQUIRED. -/
  | acquireTimer
  /-- TM_CMD_STEP (R299). A write of TM_CMD.STEP loads the TM_SET time at the next tick. -/
  | tmCmdStep (m : Master)
  /-- PPS_IN_EDGE (R296). A TPPS_IN rising edge is stamped and may serve as a sample. -/
  | ppsInEdge (t : Time)
  /-- PPS_MISS (R296). No PPS edge 1.1 s after the last sets TM_EVT.PPS_MISS. -/
  | ppsMiss
  /-- GPTP_SYNC_TIMER (R295). A gPTP master port sends Sync every 125 ms. -/
  | gptpSyncTimer (m : Fin 2)
  /-- PDELAY_TIMER (R295). A gPTP port sends Pdelay_Req every 1 s. -/
  | pdelayTimer (m : Fin 2)
  /-- CC_ATTACH_DEBOUNCE (R303). A CC level held for CC_DEB attaches the port and a source closes F(p). -/
  | ccAttachDebounce (p : Fin 6) (source cc2 ra : Bool)
  /-- DETACH (R303). Rd or Rp absent, or VBUS low, for 10 ms detaches the port. -/
  | detach (p : Fin 6)
  /-- SOURCE_CAP_TIMER (R303). Source_Capabilities go out 15 ms after VBUS valid and every 150 ms until answered. -/
  | sourceCapTimer (p : Fin 6)
  /-- SOURCE_CAPABILITIES (R305). The hub as sink receives Source_Capabilities and requests from them. -/
  | sourceCapabilities (p : Fin 6) (caps : List (BitVec 32)) (epr rev2 : Bool)
  /-- REQUEST (R305). A Request is accepted and a transition started, or rejected. -/
  | request (p : Fin 6) (pos : Fin 16) (volt : Fin 4096) (cur : Fin 1024) (rev2 : Bool)
  /-- TRANSITION_DONE (R305). VBUS within 5 % for 2 ms lets the source send PS_RDY. -/
  | transitionDone (p : Fin 6)
  /-- PS_RDY (R305). A PS_RDY completes a contract or swap at the sink. -/
  | psRdy (p : Fin 6)
  /-- SINK_CAPABILITIES (R309). Sink_Capabilities change want[p] and recompute the budget. -/
  | sinkCapabilities (p : Fin 6) (caps : List (BitVec 32)) (epr rev2 : Bool) (frs : Fin 4)
  /-- PPS_REQUEST_TIMEOUT (R306). No PPS Request for 13 s sends Hard Reset. -/
  | ppsRequestTimeout (p : Fin 6)
  /-- PPS_REQUEST_TIMER (R306). As PPS sink the hub repeats its Request every 8 s. -/
  | ppsRequestTimer (p : Fin 6)
  /-- EPR_MODE (R307). EPR_Mode (Enter) is checked and answered, or Exit leaves EPR. -/
  | eprMode (p : Fin 6) (kind : Fin 4)
  /-- EPR_KEEPALIVE (R307). An EPR_KeepAlive renews the EPR contract. -/
  | eprKeepalive (p : Fin 6)
  /-- EPR_KEEPALIVE_TIMEOUT (R307). No EPR_KeepAlive for 900 ms sends Hard Reset. -/
  | eprKeepaliveTimeout (p : Fin 6)
  /-- EPR_KEEPALIVE_TIMER (R307). As EPR sink the hub sends EPR_KeepAlive every 375 ms. -/
  | eprKeepaliveTimer (p : Fin 6)
  /-- CAPS_CUT_TIMEOUT (R310). No new Request 30 ms after a cut sends Hard Reset. -/
  | capsCutTimeout (p : Fin 6)
  /-- PR_SWAP (R312). A PR_Swap is accepted or rejected by ACC_PRS and budget. -/
  | prSwap (p : Fin 6)
  /-- DR_SWAP (R312). A DR_Swap is accepted, rejected, or answered with Hard Reset while a mode is active. -/
  | drSwap (p : Fin 6)
  /-- VCONN_SWAP (R312). A VCONN_Swap is accepted or rejected by ACC_VCS. -/
  | vconnSwap (p : Fin 6)
  /-- SWAP_RETRY (R313). A discarded swap request is retried 40 ms later, up to 3 times. -/
  | swapRetry (p : Fin 6)
  /-- VCONN_OC (R314). VCONN above 1 W for 2 ms is switched off and sets PD_EVT.VCONN_OC. -/
  | vconnOc (p : Fin 6)
  /-- FR_SWAP (R315). An FR_Swap exchange completes the role swap at initiator or responder. -/
  | frSwap (p : Fin 6)
  /-- FRS_SIGNAL_DETECT (R316). A detected FRS signal on an armed port closes F(p) as new source. -/
  | frsSignalDetect (p : Fin 6)
  /-- RETAKE_TIMER (R317). A main input valid for RETAKE seconds makes source-preferring ports send PR_Swap. -/
  | retakeTimer
  /-- VBUS_RANGE_FAULT (R319). VBUS outside 90–110 % for 1 ms sends Hard Reset. -/
  | vbusRangeFault (p : Fin 6)
  /-- HARD_RESET (R319). Hard Reset sent or received ends contract and modes and takes the link down. -/
  | hardReset (p : Fin 6)
  /-- DISCOVER_IDENTITY (R320). Discover Identity on SOP′ or SOP reads the cable or partner identity. -/
  | discoverIdentity (p : Fin 6) (kind : Fin 3) (vdo : BitVec 32) (cable : Fin 5) (amps5 epr : Bool)
  /-- DISCOVER_SVIDS (R320). Discover SVIDs lists the partner's SVIDs. -/
  | discoverSvids (p : Fin 6) (request lists : Bool)
  /-- DISCOVER_MODES (R320). Discover Modes reports or records the Thrumlink and DisplayPort modes. -/
  | discoverModes (p : Fin 6) (request dp : Bool) (vdo : BitVec 32)
  /-- ENTER_MODE (R321). An acknowledged Enter Mode puts the port in Thrumlink mode or fails with MODE_FAIL. -/
  | enterMode (p : Fin 6) (kind : Fin 4) (vdo : BitVec 32)
  /-- EXIT_MODE (R323). Exit Mode ends the entered mode while the contract stands. -/
  | exitMode (p : Fin 6) (answer : Bool)
  /-- CONFIGURE (R322). A DisplayPort Configure switches the port's lanes to DisplayPort receive. -/
  | configure (p : Fin 6) (c : Bool)
  /-- ATTENTION (R322). Attention reports HPD for DisplayPort Alt Mode. -/
  | attention (p : Fin 6)
  /-- PD_FIRMWARE_MESSAGE (R301). A message that the firmware answers is answered from image data. -/
  | pdFirmwareMessage (p : Fin 6) (listed ready : Bool)
  /-- PD_FW_TIMEOUT (R301). A firmware answer missing after 15 ms is answered Not_Supported. -/
  | pdFwTimeout (p : Fin 6)
  /-- SHORT_CIRCUIT (R329). A sense voltage of 3 × VLIM pulls the gate off at once and counts a trip. -/
  | shortCircuit (n : Fin 8)
  /-- LIMIT_START (R331). A channel starting to limit drops PG and starts the fault timer. -/
  | limitStart (b : LimitBegin)
  /-- FAULT_TIMER_EXPIRE (R330). The fault timer reaching FAULT_T trips the channel. -/
  | faultTimerExpire (n : Fin 8)
  /-- FAULT_TIMER_CLEAR (R330). 1 ms without limiting clears the fault timer. -/
  | faultTimerClear (n : Fin 8)
  /-- PG_RISE (R331). 1 ms fully on without limiting raises PG. -/
  | pgRise (n : Fin 8)
  /-- CHANNEL_CLOSE (R332). The PD controller closes a VBUS channel with current-limited start. -/
  | channelClose (n : Fin 6) (orient : Fin 2)
  /-- CHANNEL_OPEN (R332). The PD controller opens a VBUS channel without fault. -/
  | channelOpen (n : Fin 6)
  /-- REVERSE (R332). Reverse current on a VBUS channel for 10 µs pulls the gate and sets EF_EVT.REVERSE. -/
  | reverse (n : Fin 6)
  /-- WINDOW_ENTER (R333). EF_VIN entering the UV–OV window starts insertion debounce. -/
  | windowEnter (k : Fin 2)
  /-- INSERTION_DEBOUNCE (R336). INS_DEB passing starts pre-charge, or holds the insertion under the retry timer. -/
  | insertionDebounce (k : Fin 2)
  /-- PRECHARGE_DONE (R333). EF_VIN − EF_VOUT within PC_DV starts the main gate. -/
  | prechargeDone (k : Fin 2)
  /-- PRECHARGE_TIMEOUT (R333). Pre-charge not done within PC_TMO sets EF_EVT.PC_FAIL. -/
  | prechargeTimeout (k : Fin 2)
  /-- WINDOW_FAULT (R333). EF_VIN outside the window for 2 µs opens the channel and sets UV or OV. -/
  | windowFault (k : Fin 2) (above : Bool)
  /-- REVERSE_BLOCK (R334). Reverse current on a main channel moves it to Blocking. -/
  | reverseBlock (k : Fin 2)
  /-- BLOCK_RELEASE (R334). EF_VIN 20 mV above EF_VOUT returns a Blocking channel to On. -/
  | blockRelease (k : Fin 2)
  /-- INPUT_VALID_CHANGE (R334). INPUT_VALID of a main channel rises or falls. -/
  | inputValidChange
  /-- RETRY_TIMER_EXPIRE (R335). The retry timer expires and the channel may start again. -/
  | retryTimerExpire (n : Fin 8)
  /-- TRIPS_RESET (R335). 10 s of continuous PG returns TRIPS to 0. -/
  | tripsReset (n : Fin 8)
  /-- EF_CMD_CLEAR (R335). A write of EF_CMD.CLEAR leaves the latch and clears TRIPS. -/
  | efCmdClear (m : Master) (n : Fin 8)
  /-- POWER_ON_RESET_RELEASE (R510). Always-on rails valid for 2 ms release power-on reset and latch straps. -/
  | powerOnResetRelease (straps : BitVec 16)
  /-- PIN_RESET (R351). SYS_RST_N low for 1 µs resets the whole hub. -/
  | pinReset
  /-- TEST_RESET (R351). TRST_N or the TAP reset state resets the test logic. -/
  | testReset
  /-- CORE_RESET_RELEASE (R355). Core reset released 100 µs after core valid starts the ROM boot. -/
  | coreResetRelease
  /-- CORE_SUPPLY_FAIL (R510). A core rail below 90 % starts a warm reset with cause 6. -/
  | coreSupplyFail
  /-- REF_WINDOW (R344). A 100 µs reference window ends and is judged against the RC. -/
  | refWindow (count : Fin 65536)
  /-- ROOT_PLL_LOCK (R355). Root PLL lock moves the clocks to the PLL and starts the time counter. -/
  | rootPllLock
  /-- RAMP_STEP (R347). Each 1 µs dwell advances a domain clock ramp to its next divider step. -/
  | rampStep (c : Fin 8)
  /-- RC_TRIM_WINDOW (R345). A 1 ms trim window moves the RC trim one step toward its target. -/
  | rcTrimWindow (rc : Fin 65536)
  /-- SOF_TRIM_WINDOW (R346). An 8-frame SOF window trims the RC against upstream SOFs. -/
  | sofTrimWindow (rc : Fin 524288)
  /-- CLOCK_ENABLE_WRITE (R348). A write of GC_CLKEN gates or ungates block clocks, refused for blocks with open tunnels by command. -/
  | clockEnableWrite (m : Master) (v : BitVec 32)
  /-- CLOCK_FAULT (R349). A monitored clock or PLL fault is flagged and handled per clock. -/
  | clockFault (c : ClockSource)
  /-- REFERENCE_LOSS (R350). Reference loss moves MGMT and AON to the RC and takes every link down. -/
  | referenceLoss
  /-- LANE_PLL_UNLOCK (R349). A lane PLL losing lock sets LANE_PLL and resets its port. -/
  | lanePllUnlock (p : Fin 6)
  /-- REF_FAIL_TIMER (R356). No stable reference 20 ms after core reset release sets CK_EVT.REF_FAIL. -/
  | refFailTimer
  /-- PLL_LOCK_TIMEOUT (R356). Root PLL unlocked 1 ms after REF_OK retries lock, then counts as REF_FAIL. -/
  | pllLockTimeout
  /-- WARM_RESET_WRITE (R352). A write of GC_RST.WARM requests a warm reset. -/
  | warmResetWrite (m : Master)
  /-- WARM_RESET (R352). 1 µs after its request a warm reset resets everything outside the always-on domain. -/
  | warmReset
  /-- PORT_RESET_WRITE (R353). A write of GC_RST.PORT resets the lanes and link layer of a cable port. -/
  | portResetWrite (m : Master) (ports : BitVec 6)
  /-- WATCHDOG_KICK (R354). A write of GC_WDT.KICK restarts the watchdog. -/
  | watchdogKick (m : Master) (v : BitVec 32)
  /-- WATCHDOG_EXPIRE (R354). An unkicked watchdog sets GC_EVT.WDT and may warm-reset. -/
  | watchdogExpire
  /-- PS_GO_WRITE (R361). A write of PS_CTRL.GO requests the target hub state. -/
  | psGoWrite (m : Master) (target : Fin 4)
  /-- HANDSHAKE_ROUND (R362). Blocks answer the power-state request; all accepted parks links and enters. -/
  | handshakeRound
  /-- DELAY_EXPIRE (R362). The longest requested delay ends and delaying blocks are asked again. -/
  | delayExpire
  /-- MAX_WAIT_EXPIRE (R362). Handshake past MAX_WAIT abandons entry and sets PS_EVT.ENTRY_TMO. -/
  | maxWaitExpire
  /-- ENTRY_COMPLETE (R366). The last entry step completes and the hub is in the target state. -/
  | entryComplete
  /-- WAKE_EVENT (R367). An enabled wake source wakes the hub from H2 or H3, or abandons an entry. -/
  | wakeEvent (src : Fin 22) (last8 : Bool)
  /-- WAKE_COMPLETE (R368). Clocks, memory and links are restored and the hub reaches WAKE_TO. -/
  | wakeComplete (slept : BitVec 64)
  /-- WAKE_TIMER_EXPIRE (R367). PS_WAKE_TMR reaching 0 is a wake source. -/
  | wakeTimerExpire
  /-- DOMAIN_IDLE_OFF (R370). A domain idle for IDLE_T goes off. -/
  | domainIdleOff (d : Fin 22)
  /-- DOMAIN_WAKE_DONE (R370). A domain woken by an access or cell is ready after 220 µs. -/
  | domainWakeDone (d : Fin 22) (us : Fin 65536)
  /-- LOAD (R380). KS_CTRL OP LOAD loads the working key from KS_KEY with a check value. -/
  | load (m : Master) (attr : Fin 4)
  /-- LOAD_WRAPPED (R380). KS_CTRL OP LOAD_WRAPPED unwraps a blob with the root wrap key into the working key. -/
  | loadWrapped (m : Master) (attr : Fin 4)
  /-- UNWRAP_LOAD (R380). KS_CTRL OP UNWRAP_LOAD unwraps a key with the working key and loads it. -/
  | unwrapLoad (m : Master) (attr : Fin 4)
  /-- ERASE (R380). KS_CTRL OP ERASE clears the working key. -/
  | erase (m : Master)
  /-- ENCRYPT (R379). KS_CTRL OP ENCRYPT runs AES-256-GCM encryption with the working key. -/
  | encrypt (m : Master)
  /-- DECRYPT (R379). KS_CTRL OP DECRYPT runs AES-256-GCM decryption and tag check. -/
  | decrypt (m : Master)
  /-- WRAP (R379). KS_CTRL OP WRAP wraps a key under the working key. -/
  | wrap (m : Master)
  /-- DERIVE (R379). KS_CTRL OP DERIVE runs HKDF-Expand with the working key. -/
  | derive (m : Master)
  /-- KEY_UNIT_DONE (R379). A key-unit operation or load completes and writes its status. -/
  | keyUnitDone
  /-- RNG_HEALTH_FAIL (R378). A random-source health failure sets KS_EVT.RNG_FAIL and blocks random operations. -/
  | rngHealthFail
  /-- DRAIN_COMPLETE (R387). The last access checked under old gate rules completes and DRAIN reads 1. -/
  | drainComplete (g : Fin 26)
  /-- DBGAUTH_CHALLENGE (R389). Shifting DBGAUTH returns a fresh nonce and the UID. -/
  | dbgauthChallenge
  /-- DBG_VERIFY (R389). VERIFY submits scope, key and signature for debug unlock. -/
  | dbgVerify (scope : BitVec 32) (pub sig : List Byte)
  /-- DBG_VERIFY_DONE (R389). The key unit's verdict unlocks the scope or counts a failure. -/
  | dbgVerifyDone
  /-- NONCE_LAPSE (R389). A debug nonce lapses 10 s after it was read. -/
  | nonceLapse
  /-- IMAGE_LOAD (R400). The ROM selects, verifies, validates and applies a slot image, falling back if it fails. -/
  | imageLoad (there : Bool)
  /-- TXN_IDLE_TIMEOUT (R407). A transaction idle for 10 s is rolled back and sets GC_TXN_EVT.IDLE_RB. -/
  | txnIdleTimeout (id : Fin 65536)
  /-- QUIET_POINT (R411). The last affected adapter stopping opens the quiet point and the apply strobe copies the shadows. -/
  | quietPoint (quietNs drainUs : Fin 65536) (inflight : BitVec 26)
  /-- DRAIN_TIMEOUT (R411). Drain past DRAIN × 10 µs releases adapters, changes nothing and answers TIMEOUT. -/
  | drainTimeout
  /-- GET_INFO (R432). Command 0x0000 returns identity, role, state and reset cause. -/
  | getInfo (o : Owner) (seq txn : Fin 65536) (csv : Fin 16)
  /-- ECHO_CMD (R432). Command 0x0001 returns its body. -/
  | echoCmd (o : Owner) (seq txn : Fin 65536) (csv : Fin 16) (data : List Byte)
  /-- RESET (R432). Command 0x0002 requests a warm or port reset. -/
  | reset (o : Owner) (seq txn : Fin 65536) (csv : Fin 16) (kind ports : Fin 256)
  /-- POWER_STATE (R432). Command 0x0003 requests a hub power state. -/
  | powerState (o : Owner) (seq txn : Fin 65536) (csv : Fin 16) (target : Fin 256)
  /-- NOTIFY_CFG (R432). Command 0x0004 selects notification paths and severity. -/
  | notifyCfg (o : Owner) (seq txn : Fin 65536) (csv : Fin 16) (paths severity : Fin 256) (hub : Fin 65536)
  /-- BEGIN (R405). Command 0x0100 opens a transaction for its owner. -/
  | begin (o : Owner) (seq txn : Fin 65536) (csv : Fin 16)
  /-- STAGE (R406). Command 0x0101 checks and stages register writes in a transaction. -/
  | stage (o : Owner) (seq txn : Fin 65536) (csv : Fin 16) (l : List (Word × Word))
  /-- STAGE_READ (R433). Command 0x0102 returns staged or in-force values. -/
  | stageRead (o : Owner) (seq txn : Fin 65536) (csv : Fin 16) (l : List Word)
  /-- COMMIT (R408). Command 0x0103 validates the transaction and starts the commit drain. -/
  | commit (o : Owner) (seq txn : Fin 65536) (csv : Fin 16)
  /-- ROLLBACK (R407). Command 0x0104 discards a transaction's staged values. -/
  | rollback (o : Owner) (seq txn : Fin 65536) (csv : Fin 16)
  /-- TXN_INFO (R433). Command 0x0105 returns the owner's open transaction. -/
  | txnInfo (o : Owner) (seq txn : Fin 65536) (csv : Fin 16)
  /-- IMG_INFO (R434). Command 0x0200 reports the flash slots. -/
  | imgInfo (o : Owner) (seq txn : Fin 65536) (csv : Fin 16)
  /-- IMG_ERASE (R434). Command 0x0201 erases a non-running slot. -/
  | imgErase (o : Owner) (seq txn : Fin 65536) (csv : Fin 16) (slot : Fin 256)
  /-- IMG_WRITE (R434). Command 0x0202 programs flash and checks read-back. -/
  | imgWrite (o : Owner) (seq txn : Fin 65536) (csv : Fin 16) (slot : Fin 256) (ofs : BitVec 32) (data : List Byte)
  /-- IMG_READ (R434). Command 0x0203 reads flash bytes. -/
  | imgRead (o : Owner) (seq txn : Fin 65536) (csv : Fin 16) (slot : Fin 256) (ofs len : BitVec 32)
  /-- IMG_CHECK (R434). Command 0x0204 checks a slot or patch without loading it. -/
  | imgCheck (o : Owner) (seq txn : Fin 65536) (csv : Fin 16) (slot : Fin 256)
  /-- TUNNEL_LIST (R435). Command 0x0300 returns the open-tunnel bitmap. -/
  | tunnelList (o : Owner) (seq txn : Fin 65536) (csv : Fin 16)
  /-- TUNNEL_STAT (R435). Command 0x0301 returns an adapter's status and counters. -/
  | tunnelStat (o : Owner) (seq txn : Fin 65536) (csv : Fin 16) (adp : Fin 256)
  /-- TUNNEL_REOPEN (R435). Command 0x0302 sends TUNNEL_CLOSE then TUNNEL_OPEN for an adapter. -/
  | tunnelReopen (o : Owner) (seq txn : Fin 65536) (csv : Fin 16) (adp : Fin 256)
  /-- AL_STATUS (R436). Command 0x0400 returns a port's scheduler status. -/
  | alStatus (o : Owner) (seq txn : Fin 65536) (csv : Fin 16) (port : Fin 256)
  /-- AL_TABLE_WRITE (R436). Command 0x0401 writes an allotment table unless it is active. -/
  | alTableWrite (o : Owner) (seq txn : Fin 65536) (csv : Fin 16) (port table : Fin 256) (l : List (Word × Word))
  /-- AL_ARM (R436). Command 0x0402 arms or disarms a port's shadow table. -/
  | alArm (o : Owner) (seq txn : Fin 65536) (csv : Fin 16) (port arm : Fin 256)
  /-- POLICER_READ (R436). Command 0x0403 returns and clears a policer entry's counts. -/
  | policerRead (o : Owner) (seq txn : Fin 65536) (csv : Fin 16) (k : Fin 256)
  /-- LINK_STATUS (R437). Command 0x0500 returns link and lane status. -/
  | linkStatus (o : Owner) (seq txn : Fin 65536) (csv : Fin 16) (port : Fin 256)
  /-- LINK_ACTION (R437). Command 0x0501 resets a port, allows Thrumlink again, changes key phase or measures round trip. -/
  | linkAction (o : Owner) (seq txn : Fin 65536) (csv : Fin 16) (port action : Fin 256)
  /-- ROLE_SWAP (R437). Command 0x0502 asks the far end to take host. -/
  | roleSwap (o : Owner) (seq txn : Fin 65536) (csv : Fin 16) (port : Fin 256)
  /-- EYE_SCAN (R437). Command 0x0503 scans a grid of eye points. -/
  | eyeScan (o : Owner) (seq txn : Fin 65536) (csv : Fin 16) (lane eye dwell phLo phHi vLo vHi : Fin 256)
  /-- PD_STATUS (R438). Command 0x0600 returns a PD port's state. -/
  | pdStatus (o : Owner) (seq txn : Fin 65536) (csv : Fin 16) (port : Fin 256)
  /-- PD_ACTION (R438). Command 0x0601 starts a PD exchange on a port. -/
  | pdAction (o : Owner) (seq txn : Fin 65536) (csv : Fin 16) (port action : Fin 256)
  /-- EF_STATUS (R438). Command 0x0602 returns an eFuse channel's state. -/
  | efStatus (o : Owner) (seq txn : Fin 65536) (csv : Fin 16) (channel : Fin 256)
  /-- EF_CLEAR (R438). Command 0x0603 clears a channel's latch and TRIPS. -/
  | efClear (o : Owner) (seq txn : Fin 65536) (csv : Fin 16) (channel : Fin 256)
  /-- BUDGET_STATUS (R438). Command 0x0604 returns the power budget state. -/
  | budgetStatus (o : Owner) (seq txn : Fin 65536) (csv : Fin 16)
  /-- KEY_LOAD (R439). Command 0x0700 loads the working key. -/
  | keyLoad (o : Owner) (seq txn : Fin 65536) (csv : Fin 16) (op attr : Fin 256) (kcv : BitVec 32) (data : List Byte)
  /-- KEY_OP (R439). Command 0x0701 runs a key operation on data. -/
  | keyOp (o : Owner) (seq txn : Fin 65536) (csv : Fin 16) (op : Fin 256) (data : List Byte)
  /-- KEY_ERASE (R439). Command 0x0702 erases the working key. -/
  | keyErase (o : Owner) (seq txn : Fin 65536) (csv : Fin 16)
  /-- ROLLBACK_ADV (R375). Command 0x0703 raises a rollback fuse counter to the running version. -/
  | rollbackAdv (o : Owner) (seq txn : Fin 65536) (csv : Fin 16) (which : Fin 256)
  /-- CERT_READ (R439). Command 0x0704 returns the certificate chain. -/
  | certRead (o : Owner) (seq txn : Fin 65536) (csv : Fin 16)
  /-- GATE_VIOL (R439). Command 0x0705 returns a gate's violation record and may release it. -/
  | gateViol (o : Owner) (seq txn : Fin 65536) (csv : Fin 16) (gate flags : Fin 256)
  /-- LOG_READ (R440). Command 0x0800 returns event-log entries. -/
  | logRead (o : Owner) (seq txn : Fin 65536) (csv : Fin 16) (index : BitVec 32) (count : Fin 65536)
  /-- BIST_RUN (R440). Command 0x0801 runs a block self-test and returns its signature. -/
  | bistRun (o : Owner) (seq txn : Fin 65536) (csv : Fin 16) (block : Fin 256)
  /-- FARRIER_RUN (R440). Command 0x0802 runs a farrier audit. -/
  | farrierRun (o : Owner) (seq txn : Fin 65536) (csv : Fin 16)
  /-- TIME_GET (R441). Command 0x0900 returns domain time and servo state. -/
  | timeGet (o : Owner) (seq txn : Fin 65536) (csv : Fin 16)
  /-- TIME_STEP (R441). Command 0x0901 steps domain time absolutely or relatively at the grandmaster. -/
  | timeStep (o : Owner) (seq txn : Fin 65536) (csv : Fin 16) (relative : Bool) (data : List Byte)
  /-- TXTS_READ (R441). Command 0x0902 removes and returns transmit stamp entries. -/
  | txtsRead (o : Owner) (seq txn : Fin 65536) (csv : Fin 16) (mac max_ : Fin 256)
  /-- DISP_STATUS (R442). Command 0x0A00 returns a pipe's status. -/
  | dispStatus (o : Owner) (seq txn : Fin 65536) (csv : Fin 16) (pipe : Fin 256)
  /-- DISP_EDID (R442). Command 0x0A01 returns an EDID block. -/
  | dispEdid (o : Owner) (seq txn : Fin 65536) (csv : Fin 16) (pipe block : Fin 256)
  /-- DISP_TOPO (R442). Command 0x0A02 returns the last HDCP topology. -/
  | dispTopo (o : Owner) (seq txn : Fin 65536) (csv : Fin 16) (pipe : Fin 256)
  /-- DOMAIN_STATUS (R443). Command 0x0B00 returns domain state. -/
  | domainStatus (o : Owner) (seq txn : Fin 65536) (csv : Fin 16)
  /-- HUB_LIST (R443). Command 0x0B01 lists held string positions. -/
  | hubList (o : Owner) (seq txn : Fin 65536) (csv : Fin 16)
  /-- HUB_REMOVE (R443). Command 0x0B02 sends HUB_GONE for a hub and frees its positions. -/
  | hubRemove (o : Owner) (seq txn : Fin 65536) (csv : Fin 16) (hub : Fin 65536)
  /-- ROUTE_READ (R443). Command 0x0B03 returns routing entries. -/
  | routeRead (o : Owner) (seq txn : Fin 65536) (csv : Fin 16) (first count : Fin 65536)
  /-- RELAY (R446). Command 0x0B04 sends an embedded command to another hub's A0. -/
  | relay (o : Owner) (seq txn : Fin 65536) (csv : Fin 16) (dst tmo : Fin 65536) (inner : List Byte)
  /-- RELAY_TIMEOUT (R446). No inner response within TMO answers RELAY with TIMEOUT. -/
  | relayTimeout (o : Owner)
  /-- REG_READ (R444). Command 0x0C00 reads registers. -/
  | regRead (o : Owner) (seq txn : Fin 65536) (csv : Fin 16) (l : List Word)
  /-- REG_WRITE (R444). Command 0x0C01 writes registers. -/
  | regWrite (o : Owner) (seq txn : Fin 65536) (csv : Fin 16) (l : List (Word × Word))
  /-- REG_RMW (R444). Command 0x0C02 read-modify-writes a register. -/
  | regRmw (o : Owner) (seq txn : Fin 65536) (csv : Fin 16) (a mask v : BitVec 32)
  /-- RB_READ (R444). Command 0x0C03 reads over the register bus. -/
  | rbRead (o : Owner) (seq txn : Fin 65536) (csv : Fin 16) (adp size : Fin 256) (a : BitVec 32)
  /-- RB_WRITE (R444). Command 0x0C04 writes over the register bus. -/
  | rbWrite (o : Owner) (seq txn : Fin 65536) (csv : Fin 16) (adp size : Fin 256) (a : BitVec 32) (data : List Byte)
  /-- COMMAND_TIMEOUT (R431). A command past its time limit is stopped and answered TIMEOUT. -/
  | commandTimeout (o : Owner)
  /-- SMB_FRAME_START (R423). SMBus code 0x01 Block Write starts a new command frame. -/
  | smbFrameStart (addr : Fin 128) (data : List Byte) (pecOk : Bool)
  /-- SMB_FRAME_CONTINUE (R423). SMBus code 0x02 Block Write continues the frame and completes it at 16 + LENGTH bytes. -/
  | smbFrameContinue (addr : Fin 128) (data : List Byte) (pecOk : Bool)
  /-- SMB_RESPONSE_READ (R423). SMBus code 0x03 Block Read returns further bytes of the selected response. -/
  | smbResponseRead (addr : Fin 128)
  /-- SMB_SELECT (R423). SMBus code 0x04 Write Word selects the cached response of a SEQ. -/
  | smbSelect (addr : Fin 128) (seq : Fin 65536)
  /-- SMB_SCL_TIMEOUT (R423). SCL held low for 25 ms resets the target interface. -/
  | smbSclTimeout
  /-- BIST_START (R449). A write of BT_CTRL.START starts a block self-test or is refused. -/
  | bistStart (m : Master) (block : Fin 32)
  /-- BIST_DONE (R451). A self-test ends, compares its MISR and resets the block. -/
  | bistDone (misr : BitVec 32)
  /-- RC_COUNTER_READ (R470). A read of an RC field returns and clears it. -/
  | rcCounterRead (m : Master) (a : BitVec 32)
  /-- REGISTER_WRITE (R8). A direct management write to a register without its own row passes the bus checks and takes effect. -/
  | registerWrite (m : Master) (a : BitVec 32) (data : List Byte)
  /-- LOW_POWER_EXIT (R59). At the codeword announced by LOW_POWER with ACTION 2 a lane in Stand or Stable leaves its low-power state, relocks and prepares to rejoin with a join marker. -/
  | lowPowerExit (p : Fin 6)
  /-- LOCAL_PLL_LOCK (R343). A lane, Ethernet, USB, pixel or PCIe PLL reaches lock, sets its CK_STAT bit and lets its interface train, as a port trains again after a port or warm reset. -/
  | localPllLock (x : Pll)
  /-- DP_LINK_TRAINED (R215). A pipe's DisplayPort link finishes training, the pipe shows DS_MUTE or scans out, and a mode that does not fit the link sets MODE_FAIL. -/
  | dpLinkTrained (d : Fin 4) (rate : Fin 8) (lanes : Fin 5) (dscMax : Fin 385) (adaptive : Bool) (minRate : Fin 65536)
  /-- HDCP_SESSION_AUTH (R221). An HDCP 2.3 session with the source or panel completes authentication, and the repeater sends its ReceiverID_List within 2 s. -/
  | hdcpSessionAuth (d : Fin 4) (src legacy type1 : Bool) (depth count : Fin 256) (excess : Fin 4) (ids : List Byte)
  /-- HUB_CLASS_REQUEST (R266). A USB hub class request from the host, such as SetPortFeature PORT_RESET or PORT_POWER, acts on a downstream or tunnel port. -/
  | hubClassRequest (n : Fin 12) (r : HubReq)
  /-- PORT_RESET_COMPLETE (R265). The driven port reset, warm reset or resume on a USB port reaches its 15 ms, 100 ms or 20 ms end and the port changes state. -/
  | portResetComplete (n : Fin 12)
  /-- UPSTREAM_RESUME (R271). The host drives resume on a suspended upstream, and the hub resumes and drives resume downstream for 20 ms, merging with any remote wake. -/
  | upstreamResume
  /-- PPS_PULSE_END (R296). TPPS_OUT goes low TM_PPS.WIDTH ms after the whole second. -/
  | ppsPulseEnd
  /-- ACCEPT (R438). The partner's Accept, Reject, Wait or Not_Supported answers a Request, swap or other exchange the hub sent, and the exchange continues or ends. -/
  | accept (p : Fin 6) (answer : PdAnswer)
  /-- SENDER_RESPONSE_TIMEOUT (R308). A PD response timer, such as sender response, VDM response, PS_RDY wait or FR_Swap answer, expires and the exchange fails or Hard Reset is sent. -/
  | senderResponseTimeout (p : Fin 6)
  /-- SOURCE_RECOVER (R319). 800 ms after VBUS reaches vSafe0V following a Hard Reset the source restores vSafe5V and negotiation restarts. -/
  | sourceRecover (p : Fin 6)
  /-- MODE_EXIT_WAIT (R516). No Exit Mode arrives within 45 ms after LINK_DOWN with REASON 0, so the hub trains again from time zero. -/
  | modeExitWait (p : Fin 6)
  /-- INTERRUPT_ENDPOINT_READ (R456). The host takes a notification's last packet from interrupt endpoint 0x82, or a response from bulk IN, freeing its queue place. -/
  | interruptEndpointRead (bulk : Bool)
  /-- ALERT_RESPONSE (R423). A read of the SMBus Alert Response Address is answered with the hub's own address while SMBALERT# is low. -/
  | alertResponse
  /-- RELAY_INPUT_FRAME (R225). A frame starts on a RELAY pipe's Compatibility-mode input; its lines are written to the frame store and the output frame starts RELAY_LINES later. -/
  | relayInputFrame (d : Fin 4) (f : DispFormat) (tiles : List (List Byte))
  /-- ALWAYS_ON_SUPPLY_FAIL (R510). An always-on rail falls below 90 % and asserts power-on reset, abandoning any Fast Role Swap and turning eFuse gates off. -/
  | alwaysOnSupplyFail
  /-- GET_PPS_STATUS (R306). A Get_PPS_Status from the partner is answered by hardware with PPS_Status carrying measured VBUS and the current-limit flag. -/
  | getPpsStatus (p : Fin 6) (volt : Fin 65536) (limiting : Bool)
deriving DecidableEq, Repr

end Sys2Proof
end

