-- ==== Sys2Proof/Decode.lean ====
section
/-!
DEFINITION. Words that spell a command. The hub takes commands from outside and its table of operations gives no row any bits (the frames of the command set,
R418, are decoded by Machine/Firmware.lean).
-/

namespace Sys2Proof

/-- The command a word of the table spells: no row has bits, so no word spells one. -/
def decodeTableWord (_nbits _w : Nat) : Option Instr := none

end Sys2Proof
end

