-- ==== Sys2Proof/Config.lean ====
section
/-!
DEFINITION. What the spec leaves to an implementation or to a public standard, as constants without a body: no proof can
see a value of one, so a statement holds for every value (assumption rows 1 to 6).
-/

namespace Sys2Proof.Config

/-- A fresh value each time, for a value the spec leaves open or random (a nonce, an ephemeral key): the argument is the
counter of free values in the state. -/
opaque freeWord : Nat → Word
opaque freeBytes : Nat → Nat → List Byte

/-- A byte of frame memory that a test of block 13 has left undefined (R450): which test, and the offset. -/
opaque frameNoise : Nat → Nat → Byte

/-- The signature table of the ROM for stepping B0 (R451): the spec gives no values. -/
opaque btRef : Nat → Word

/-- A byte of the ROM (R467): the spec does not give its contents. -/
opaque romByte : Nat → Byte

/-- SHA-384 of a byte string (R382, R389, R395). -/
opaque sha384 : List Byte → List Byte

/-- HMAC-SHA-384 with a key (R87, R380). -/
opaque hmac384 : List Byte → List Byte → List Byte

/-- HKDF-Expand with SHA-384: PRK, info, length (R88, R379). -/
opaque hkdfExpand : List Byte → List Byte → Nat → List Byte

/-- HKDF with SHA-384: salt, IKM, info, length (R376). -/
opaque hkdf : List Byte → List Byte → List Byte → Nat → List Byte

/-- AES-256-GCM (R379, R91): the key stream of a key, an IV and a length, and the 16-byte tag of key, IV, AAD and ciphertext. -/
opaque gcmPad : List Byte → List Byte → Nat → List Byte
opaque gcmTag : List Byte → List Byte → List Byte → List Byte → List Byte

/-- Bytes DERIVE gives, at most 255 (R379): the spec does not say how the request sets it. Argument: the info. -/
opaque deriveLength : List Byte → Nat

/-- AES key wrap (RFC 3394) with a 256-bit key, and its inverse; none when the integrity check fails. -/
opaque keyWrap : List Byte → List Byte → List Byte
opaque keyUnwrap : List Byte → List Byte → Option (List Byte)

/-- ECDSA P-384 verification: public key, hash, signature. -/
opaque ecdsaVerify : List Byte → List Byte → List Byte → Bool

/-- ECDSA P-384 signature: private key, hash. -/
opaque ecdsaSign : List Byte → List Byte → List Byte

/-- P-384: the public key of a private scalar, and the ECDH secret of a private scalar and a public key. -/
opaque p384Public : List Byte → List Byte
opaque p384Ecdh : List Byte → List Byte → List Byte

/-- What checking a certificate chain against the trust anchors finds: 0 accepted, else the REASON of R89, from the
chain, the anchors and the UID of AUTH_HELLO. -/
opaque certCheck : List (List Byte) → List (List Byte) → Nat → Nat

/-- The public key an X.509 certificate holds (R87, R377). -/
opaque certPublicKey : List Byte → List Byte

/-- What the patch header of a patch area reads as (R382): none when it does not check, else its version. The layout of the
patch header is not in the spec. -/
opaque patchCheck : List Byte → List Word → Option Nat

/-- The on-die certificate store (R377): the chain, device certificate first. -/
opaque certStore : List (List Byte)

/-- A pixel of format 1, 2 or 3 as format 0 shows it (R202): the spec gives no conversion. Arguments: FMT, the pixel's bits (a pair's in
format 3), whether it is the pair's second. -/
opaque pixelTo30 : Nat → Nat → Bool → Nat

/-- Bytes of the USB hub class descriptors that the spec does not give (R255). -/
opaque usbOpen : Nat → Byte

end Sys2Proof.Config
end

