-- ==== Sys2Proof/Reg.lean ====
section
/-!
DEFINITION. What a register, a field of it, an event flag and a catalogue row are (R5 to R10).
-/

namespace Sys2Proof.Machine

/-- The access types of R8; `stRws` is a field the spec marks both ST and RWS (R392, R385), `cnt` an RW field that is an event count (R10). -/
inductive Access where
  | rw | ro | wo | w1c | rc | rws | st | stRws | cnt
deriving DecidableEq, Repr

/-- One field of a catalogue row: its lowest bit, its width, its access type and, where R9 limits it, the ranges
of values it takes (an empty list: every value its bits can hold). -/
structure FieldSpec where
  lo : Nat
  width : Nat
  access : Access
  allowed : List (Nat × Nat)
deriving DecidableEq, Repr

/-- One row of a block's catalogue: the offset of the first register, how many there are, the distance between
them, the reset value and the fields. Bits no field covers are reserved (R6). -/
structure RegSpec where
  off : Nat
  count : Nat
  stride : Nat
  reset : Nat
  fields : List FieldSpec
deriving DecidableEq, Repr

/-- A named field: the address of its register, its lowest bit and its width. -/
structure Fld where
  addr : Nat
  lo : Nat
  width : Nat
deriving DecidableEq, Repr

/-- An event (R10): its flag, its 8-bit count, and what a log entry of it says (R453): the block by gate number,
the instance, the offset of the flag register, and the severity of R455. -/
structure Evt where
  flag : Fld
  count : Fld
  source : Nat
  inst : Nat
  flagOfs : Nat
  severity : Nat
deriving DecidableEq, Repr

end Sys2Proof.Machine
end

