-- ==== Sys2Proof/Machine/RegsIface.lean ====
section
/-!
DEFINITION. The registers of the blocks DS, MC, PB, SB, UH, EN, PD, PDB, EF under the names the spec gives them:
an address for every register (R467, R472 to R495), a field for every field of its table, an event for every
flag with its count (R10) and its severity (R455), and the catalogue rows the bus decodes an address with.
-/

namespace Sys2Proof.Machine

/-! ### DS: display pipe d (R227, R487) -/

def DS_CFG (d : Nat) : Nat := 0x40600000 + 0x4000 * d
def DS_CFG.MODE (d : Nat) : Fld := ⟨DS_CFG d, 0, 3⟩
def DS_CFG.PAIR (d : Nat) : Fld := ⟨DS_CFG d, 3, 1⟩
def DS_CFG.TEAR (d : Nat) : Fld := ⟨DS_CFG d, 4, 1⟩
def DS_CFG.LOWREF_EN (d : Nat) : Fld := ⟨DS_CFG d, 5, 1⟩
def DS_CFG.HDCP_EN (d : Nat) : Fld := ⟨DS_CFG d, 6, 1⟩
def DS_CFG.SRC_PORT (d : Nat) : Fld := ⟨DS_CFG d, 8, 3⟩
def DS_CFG.MST_PORT (d : Nat) : Fld := ⟨DS_CFG d, 11, 3⟩
def DS_STAT (d : Nat) : Nat := 0x40600004 + 0x4000 * d
def DS_STAT.STATE (d : Nat) : Fld := ⟨DS_STAT d, 0, 3⟩
def DS_STAT.RATE (d : Nat) : Fld := ⟨DS_STAT d, 3, 4⟩
def DS_STAT.LANES (d : Nat) : Fld := ⟨DS_STAT d, 7, 3⟩
def DS_STAT.DSC (d : Nat) : Fld := ⟨DS_STAT d, 10, 1⟩
def DS_STAT.HDCP_AUTH (d : Nat) : Fld := ⟨DS_STAT d, 11, 1⟩
def DS_STAT.LOW (d : Nat) : Fld := ⟨DS_STAT d, 12, 1⟩
def DS_STAT.HPD (d : Nat) : Fld := ⟨DS_STAT d, 13, 1⟩
def DS_EVT (d : Nat) : Nat := 0x40600008 + 0x4000 * d
def DS_EVT.FREEZE (d : Nat) : Fld := ⟨DS_EVT d, 0, 1⟩
def DS_EVT.UNDERRUN (d : Nat) : Fld := ⟨DS_EVT d, 1, 1⟩
def DS_EVT.MISSING (d : Nat) : Fld := ⟨DS_EVT d, 2, 1⟩
def DS_EVT.FMT_MISMATCH (d : Nat) : Fld := ⟨DS_EVT d, 3, 1⟩
def DS_EVT.HDCP_FAIL (d : Nat) : Fld := ⟨DS_EVT d, 4, 1⟩
def DS_EVT.DP_LOSS (d : Nat) : Fld := ⟨DS_EVT d, 5, 1⟩
def DS_EVT.MODE_FAIL (d : Nat) : Fld := ⟨DS_EVT d, 6, 1⟩
def DS_EVT.PUSH_ERR (d : Nat) : Fld := ⟨DS_EVT d, 7, 1⟩
def DS_EVT.REFRESH_REQ (d : Nat) : Fld := ⟨DS_EVT d, 8, 1⟩
def DS_EVT_CNT0 (d : Nat) : Nat := 0x4060000C + 0x4000 * d
def DS_EVT_CNT0.FREEZE_CNT (d : Nat) : Fld := ⟨DS_EVT_CNT0 d, 0, 8⟩
def DS_EVT_CNT0.UNDERRUN_CNT (d : Nat) : Fld := ⟨DS_EVT_CNT0 d, 8, 8⟩
def DS_EVT_CNT0.MISSING_CNT (d : Nat) : Fld := ⟨DS_EVT_CNT0 d, 16, 8⟩
def DS_EVT_CNT0.FMT_MISMATCH_CNT (d : Nat) : Fld := ⟨DS_EVT_CNT0 d, 24, 8⟩
def DS_EVT_CNT1 (d : Nat) : Nat := 0x40600010 + 0x4000 * d
def DS_EVT_CNT1.HDCP_FAIL_CNT (d : Nat) : Fld := ⟨DS_EVT_CNT1 d, 0, 8⟩
def DS_EVT_CNT1.DP_LOSS_CNT (d : Nat) : Fld := ⟨DS_EVT_CNT1 d, 8, 8⟩
def DS_EVT_CNT1.MODE_FAIL_CNT (d : Nat) : Fld := ⟨DS_EVT_CNT1 d, 16, 8⟩
def DS_EVT_CNT1.PUSH_ERR_CNT (d : Nat) : Fld := ⟨DS_EVT_CNT1 d, 24, 8⟩
def DS_EVT_CNT2 (d : Nat) : Nat := 0x40600014 + 0x4000 * d
def DS_EVT_CNT2.REFRESH_REQ_CNT (d : Nat) : Fld := ⟨DS_EVT_CNT2 d, 0, 8⟩
def DS_TIMING_H (d : Nat) : Nat := 0x40600020 + 0x4000 * d
def DS_TIMING_H.ACTIVE (d : Nat) : Fld := ⟨DS_TIMING_H d, 0, 16⟩
def DS_TIMING_H.TOTAL (d : Nat) : Fld := ⟨DS_TIMING_H d, 16, 16⟩
def DS_TIMING_V (d : Nat) : Nat := 0x40600024 + 0x4000 * d
def DS_TIMING_V.ACTIVE (d : Nat) : Fld := ⟨DS_TIMING_V d, 0, 16⟩
def DS_TIMING_V.TOTAL (d : Nat) : Fld := ⟨DS_TIMING_V d, 16, 16⟩
def DS_SYNC (d : Nat) : Nat := 0x40600028 + 0x4000 * d
def DS_SYNC.HFP (d : Nat) : Fld := ⟨DS_SYNC d, 0, 12⟩
def DS_SYNC.HSW (d : Nat) : Fld := ⟨DS_SYNC d, 12, 8⟩
def DS_SYNC.VFP (d : Nat) : Fld := ⟨DS_SYNC d, 20, 8⟩
def DS_SYNC.VSW (d : Nat) : Fld := ⟨DS_SYNC d, 28, 4⟩
def DS_PCLK (d : Nat) : Nat := 0x4060002C + 0x4000 * d
def DS_PCLK.KHZ (d : Nat) : Fld := ⟨DS_PCLK d, 0, 23⟩
def DS_FS_BASE (d : Nat) : Nat := 0x40600030 + 0x4000 * d
def DS_FS_BASE.BASE (d : Nat) : Fld := ⟨DS_FS_BASE d, 0, 19⟩
def DS_FS_SIZE (d : Nat) : Nat := 0x40600034 + 0x4000 * d
def DS_FS_SIZE.TILES (d : Nat) : Fld := ⟨DS_FS_SIZE d, 0, 14⟩
def DS_TILE_CFG (d : Nat) : Nat := 0x40600038 + 0x4000 * d
def DS_TILE_CFG.FULL_PERIOD (d : Nat) : Fld := ⟨DS_TILE_CFG d, 0, 8⟩
def DS_TILE_CFG.COMMIT_TMO (d : Nat) : Fld := ⟨DS_TILE_CFG d, 8, 8⟩
def DS_TILE_CFG.RELAY_LINES (d : Nat) : Fld := ⟨DS_TILE_CFG d, 16, 8⟩
def DS_LOWREF (d : Nat) : Nat := 0x4060003C + 0x4000 * d
def DS_LOWREF.N (d : Nat) : Fld := ⟨DS_LOWREF d, 0, 8⟩
def DS_LOWREF.K (d : Nat) : Fld := ⟨DS_LOWREF d, 8, 8⟩
def DS_LOWREF.MIN_RATE (d : Nat) : Fld := ⟨DS_LOWREF d, 16, 16⟩
def DS_DSC (d : Nat) : Nat := 0x40600040 + 0x4000 * d
def DS_DSC.BPP (d : Nat) : Fld := ⟨DS_DSC d, 0, 10⟩
def DS_DSC.SLICES (d : Nat) : Fld := ⟨DS_DSC d, 10, 3⟩
def DS_DSC.ENC (d : Nat) : Fld := ⟨DS_DSC d, 13, 1⟩
def DS_MUTE (d : Nat) : Nat := 0x40600044 + 0x4000 * d
def DS_MUTE.B (d : Nat) : Fld := ⟨DS_MUTE d, 0, 10⟩
def DS_MUTE.G (d : Nat) : Fld := ⟨DS_MUTE d, 10, 10⟩
def DS_MUTE.R (d : Nat) : Fld := ⟨DS_MUTE d, 20, 10⟩
def DS_SIG (d : Nat) : Nat := 0x40600048 + 0x4000 * d
def DS_SIG.SIG (d : Nat) : Fld := ⟨DS_SIG d, 0, 32⟩
def DS_FRAME (d : Nat) : Nat := 0x4060004C + 0x4000 * d
def DS_FRAME.FRAME (d : Nat) : Fld := ⟨DS_FRAME d, 0, 16⟩
def DS_FRAME.SKIP (d : Nat) : Fld := ⟨DS_FRAME d, 16, 16⟩
def DS_TILES (d : Nat) : Nat := 0x40600050 + 0x4000 * d
def DS_TILES.TILES (d : Nat) : Fld := ⟨DS_TILES d, 0, 32⟩
def DS_PUSH_BASE (d : Nat) : Nat := 0x40600054 + 0x4000 * d
def DS_PUSH_BASE.BASE (d : Nat) : Fld := ⟨DS_PUSH_BASE d, 0, 20⟩
def DS_PUSH_SIZE (d : Nat) : Nat := 0x40600058 + 0x4000 * d
def DS_PUSH_SIZE.SLOTS (d : Nat) : Fld := ⟨DS_PUSH_SIZE d, 0, 12⟩
def DS_PUSH_HEAD (d : Nat) : Nat := 0x4060005C + 0x4000 * d
def DS_PUSH_HEAD.HEAD (d : Nat) : Fld := ⟨DS_PUSH_HEAD d, 0, 12⟩
def DS_PUSH_TAIL (d : Nat) : Nat := 0x40600060 + 0x4000 * d
def DS_PUSH_TAIL.TAIL (d : Nat) : Fld := ⟨DS_PUSH_TAIL d, 0, 12⟩

def Ev.DS_FREEZE (d : Nat) : Evt := ⟨DS_EVT.FREEZE d, DS_EVT_CNT0.FREEZE_CNT d, 16, d, 8, 2⟩
def Ev.DS_UNDERRUN (d : Nat) : Evt := ⟨DS_EVT.UNDERRUN d, DS_EVT_CNT0.UNDERRUN_CNT d, 16, d, 8, 2⟩
def Ev.DS_MISSING (d : Nat) : Evt := ⟨DS_EVT.MISSING d, DS_EVT_CNT0.MISSING_CNT d, 16, d, 8, 2⟩
def Ev.DS_FMT_MISMATCH (d : Nat) : Evt := ⟨DS_EVT.FMT_MISMATCH d, DS_EVT_CNT0.FMT_MISMATCH_CNT d, 16, d, 8, 1⟩
def Ev.DS_HDCP_FAIL (d : Nat) : Evt := ⟨DS_EVT.HDCP_FAIL d, DS_EVT_CNT1.HDCP_FAIL_CNT d, 16, d, 8, 2⟩
def Ev.DS_DP_LOSS (d : Nat) : Evt := ⟨DS_EVT.DP_LOSS d, DS_EVT_CNT1.DP_LOSS_CNT d, 16, d, 8, 2⟩
def Ev.DS_MODE_FAIL (d : Nat) : Evt := ⟨DS_EVT.MODE_FAIL d, DS_EVT_CNT1.MODE_FAIL_CNT d, 16, d, 8, 2⟩
def Ev.DS_PUSH_ERR (d : Nat) : Evt := ⟨DS_EVT.PUSH_ERR d, DS_EVT_CNT1.PUSH_ERR_CNT d, 16, d, 8, 1⟩
def Ev.DS_REFRESH_REQ (d : Nat) : Evt := ⟨DS_EVT.REFRESH_REQ d, DS_EVT_CNT2.REFRESH_REQ_CNT d, 16, d, 8, 1⟩

def catDS0 : List RegSpec :=
  [⟨0, 1, 4, 0, [⟨0, 3, .st, [(0, 4)]⟩, ⟨3, 1, .st, []⟩, ⟨4, 1, .st, []⟩, ⟨5, 1, .st, []⟩, ⟨6, 1, .st, []⟩, ⟨8, 3, .st, [(0, 5)]⟩, ⟨11, 3, .st, [(0, 4)]⟩]⟩,
   ⟨4, 1, 4, 0, [⟨0, 3, .ro, []⟩, ⟨3, 4, .ro, []⟩, ⟨7, 3, .ro, []⟩, ⟨10, 1, .ro, []⟩, ⟨11, 1, .ro, []⟩, ⟨12, 1, .ro, []⟩, ⟨13, 1, .ro, []⟩]⟩,
   ⟨8, 1, 4, 0, [⟨0, 1, .w1c, []⟩, ⟨1, 1, .w1c, []⟩, ⟨2, 1, .w1c, []⟩, ⟨3, 1, .w1c, []⟩, ⟨4, 1, .w1c, []⟩, ⟨5, 1, .w1c, []⟩, ⟨6, 1, .w1c, []⟩, ⟨7, 1, .w1c, []⟩, ⟨8, 1, .w1c, []⟩]⟩,
   ⟨0xC, 1, 4, 0, [⟨0, 8, .cnt, []⟩, ⟨8, 8, .cnt, []⟩, ⟨16, 8, .cnt, []⟩, ⟨24, 8, .cnt, []⟩]⟩,
   ⟨0x10, 1, 4, 0, [⟨0, 8, .cnt, []⟩, ⟨8, 8, .cnt, []⟩, ⟨16, 8, .cnt, []⟩, ⟨24, 8, .cnt, []⟩]⟩,
   ⟨0x14, 1, 4, 0, [⟨0, 8, .cnt, []⟩]⟩,
   ⟨0x20, 1, 4, 0, [⟨0, 16, .st, []⟩, ⟨16, 16, .st, []⟩]⟩,
   ⟨0x24, 1, 4, 0, [⟨0, 16, .st, []⟩, ⟨16, 16, .st, []⟩]⟩]
def catDS1 : List RegSpec :=
  [⟨0x28, 1, 4, 0, [⟨0, 12, .st, []⟩, ⟨12, 8, .st, []⟩, ⟨20, 8, .st, []⟩, ⟨28, 4, .st, []⟩]⟩,
   ⟨0x2C, 1, 4, 0, [⟨0, 23, .st, []⟩]⟩,
   ⟨0x30, 1, 4, 0, [⟨0, 19, .st, []⟩]⟩,
   ⟨0x34, 1, 4, 0, [⟨0, 14, .st, [(0, 16320)]⟩]⟩,
   ⟨0x38, 1, 4, 0x106432, [⟨0, 8, .st, []⟩, ⟨8, 8, .st, [(1, 255)]⟩, ⟨16, 8, .st, [(1, 255)]⟩]⟩,
   ⟨0x3C, 1, 4, 0x408, [⟨0, 8, .st, [(1, 255)]⟩, ⟨8, 8, .st, [(1, 255)]⟩, ⟨16, 16, .st, []⟩]⟩,
   ⟨0x40, 1, 4, 0, [⟨0, 10, .st, [(0, 0), (128, 384)]⟩, ⟨10, 3, .st, [(0, 3)]⟩, ⟨13, 1, .st, []⟩]⟩,
   ⟨0x44, 1, 4, 0, [⟨0, 10, .st, []⟩, ⟨10, 10, .st, []⟩, ⟨20, 10, .st, []⟩]⟩]
def catDS2 : List RegSpec :=
  [⟨0x48, 1, 4, 0, [⟨0, 32, .ro, []⟩]⟩,
   ⟨0x4C, 1, 4, 0, [⟨0, 16, .ro, []⟩, ⟨16, 16, .rc, []⟩]⟩,
   ⟨0x50, 1, 4, 0, [⟨0, 32, .ro, []⟩]⟩,
   ⟨0x54, 1, 4, 0, [⟨0, 20, .st, []⟩]⟩,
   ⟨0x58, 1, 4, 0, [⟨0, 12, .st, [(0, 0), (2, 4095)]⟩]⟩,
   ⟨0x5C, 1, 4, 0, [⟨0, 12, .ro, []⟩]⟩,
   ⟨0x60, 1, 4, 0, [⟨0, 12, .rw, []⟩]⟩]
/-- The catalogue of block DS, by offset. -/
def catDS : List RegSpec := catDS0 ++ catDS1 ++ catDS2

/-! ### MC: memory controller (R228, R488) -/

def MC_CFG : Nat := 0x40D00000
def MC_CFG.SIZE : Fld := ⟨MC_CFG, 0, 3⟩
def MC_CFG.CH_EN : Fld := ⟨MC_CFG, 4, 4⟩
def MC_STAT : Nat := 0x40D00004
def MC_STAT.READY : Fld := ⟨MC_STAT, 0, 1⟩
def MC_STAT.CH_FAIL : Fld := ⟨MC_STAT, 4, 4⟩
def MC_WIN : Nat := 0x40D00008
def MC_WIN.SLICE : Fld := ⟨MC_WIN, 0, 3⟩
def MC_RD : Nat := 0x40D0000C
def MC_RD.UNITS : Fld := ⟨MC_RD, 0, 32⟩
def MC_WR : Nat := 0x40D00010
def MC_WR.UNITS : Fld := ⟨MC_WR, 0, 32⟩


def catMC0 : List RegSpec :=
  [⟨0, 1, 4, 0xF0, [⟨0, 3, .st, [(0, 4)]⟩, ⟨4, 4, .st, []⟩]⟩,
   ⟨4, 1, 4, 0, [⟨0, 1, .ro, []⟩, ⟨4, 4, .ro, []⟩]⟩,
   ⟨8, 1, 4, 0, [⟨0, 3, .rw, []⟩]⟩,
   ⟨0xC, 1, 4, 0, [⟨0, 32, .ro, []⟩]⟩,
   ⟨0x10, 1, 4, 0, [⟨0, 32, .ro, []⟩]⟩]
/-- The catalogue of block MC, by offset. -/
def catMC : List RegSpec := catMC0

/-! ### PB: PCIe bridge b (R253, R489) -/

def PB_CFG (b : Nat) : Nat := 0x40700000 + 0x4000 * b
def PB_CFG.MODE (b : Nat) : Fld := ⟨PB_CFG b, 0, 2⟩
def PB_CFG.MAXGEN (b : Nat) : Fld := ⟨PB_CFG b, 2, 3⟩
def PB_CFG.CPL_TMO (b : Nat) : Fld := ⟨PB_CFG b, 8, 8⟩
def PB_CFG.IEP_EN (b : Nat) : Fld := ⟨PB_CFG b, 16, 1⟩
def PB_STAT (b : Nat) : Nat := 0x40700004 + 0x4000 * b
def PB_STAT.LINK_UP (b : Nat) : Fld := ⟨PB_STAT b, 0, 1⟩
def PB_STAT.SPEED (b : Nat) : Fld := ⟨PB_STAT b, 1, 3⟩
def PB_STAT.WIDTH (b : Nat) : Fld := ⟨PB_STAT b, 4, 4⟩
def PB_EVT (b : Nat) : Nat := 0x40700008 + 0x4000 * b
def PB_EVT.SURPRISE_DOWN (b : Nat) : Fld := ⟨PB_EVT b, 0, 1⟩
def PB_EVT.CPL_TMO (b : Nat) : Fld := ⟨PB_EVT b, 1, 1⟩
def PB_EVT.CONF_FAIL (b : Nat) : Fld := ⟨PB_EVT b, 2, 1⟩
def PB_EVT.FAR_ERR (b : Nat) : Fld := ⟨PB_EVT b, 3, 1⟩
def PB_EVT.POISON (b : Nat) : Fld := ⟨PB_EVT b, 4, 1⟩
def PB_EVT_CNT0 (b : Nat) : Nat := 0x4070000C + 0x4000 * b
def PB_EVT_CNT0.SURPRISE_DOWN_CNT (b : Nat) : Fld := ⟨PB_EVT_CNT0 b, 0, 8⟩
def PB_EVT_CNT0.CPL_TMO_CNT (b : Nat) : Fld := ⟨PB_EVT_CNT0 b, 8, 8⟩
def PB_EVT_CNT0.CONF_FAIL_CNT (b : Nat) : Fld := ⟨PB_EVT_CNT0 b, 16, 8⟩
def PB_EVT_CNT0.FAR_ERR_CNT (b : Nat) : Fld := ⟨PB_EVT_CNT0 b, 24, 8⟩
def PB_EVT_CNT1 (b : Nat) : Nat := 0x40700010 + 0x4000 * b
def PB_EVT_CNT1.POISON_CNT (b : Nat) : Fld := ⟨PB_EVT_CNT1 b, 0, 8⟩
def PB_ID (b : Nat) : Nat := 0x40700014 + 0x4000 * b
def PB_ID.VID (b : Nat) : Fld := ⟨PB_ID b, 0, 16⟩
def PB_ID.DID (b : Nat) : Fld := ⟨PB_ID b, 16, 16⟩
def PB_SUBSYS (b : Nat) : Nat := 0x40700018 + 0x4000 * b
def PB_SUBSYS.VID (b : Nat) : Fld := ⟨PB_SUBSYS b, 0, 16⟩
def PB_SUBSYS.DID (b : Nat) : Fld := ⟨PB_SUBSYS b, 16, 16⟩
def PB_ERR_INFO (b : Nat) : Nat := 0x40700020 + 0x4000 * b
def PB_ERR_INFO.ADP (b : Nat) : Fld := ⟨PB_ERR_INFO b, 0, 8⟩
def PB_ERR_INFO.CAUSE (b : Nat) : Fld := ⟨PB_ERR_INFO b, 8, 4⟩
def PB_ERR_INFO.STATUS (b : Nat) : Fld := ⟨PB_ERR_INFO b, 12, 8⟩
def PB_ERR_INFO.VALID (b : Nat) : Fld := ⟨PB_ERR_INFO b, 31, 1⟩
def PB_ERR_ADDR_LO (b : Nat) : Nat := 0x40700024 + 0x4000 * b
def PB_ERR_ADDR_LO.VALUE (b : Nat) : Fld := ⟨PB_ERR_ADDR_LO b, 0, 32⟩
def PB_ERR_ADDR_HI (b : Nat) : Nat := 0x40700028 + 0x4000 * b
def PB_ERR_ADDR_HI.VALUE (b : Nat) : Fld := ⟨PB_ERR_ADDR_HI b, 0, 32⟩
def PB_ERR_TS_S (b : Nat) : Nat := 0x4070002C + 0x4000 * b
def PB_ERR_TS_S.VALUE (b : Nat) : Fld := ⟨PB_ERR_TS_S b, 0, 32⟩
def PB_ERR_TS_NS (b : Nat) : Nat := 0x40700030 + 0x4000 * b
def PB_ERR_TS_NS.VALUE (b : Nat) : Fld := ⟨PB_ERR_TS_NS b, 0, 30⟩
def PB_VDSP (b i : Nat) : Nat := 0x40700100 + 0x4000 * b + 4 * i
def PB_VDSP.ADP (b i : Nat) : Fld := ⟨PB_VDSP b i, 0, 8⟩
def PB_VDSP.SLOT (b i : Nat) : Fld := ⟨PB_VDSP b i, 8, 13⟩
def PB_VDSP.HP (b i : Nat) : Fld := ⟨PB_VDSP b i, 21, 1⟩
def PB_WIN_BASE (b i : Nat) : Nat := 0x40700200 + 0x4000 * b + 0x20 * i
def PB_WIN_BASE.ADDR (b i : Nat) : Fld := ⟨PB_WIN_BASE b i, 0, 32⟩
def PB_WIN_BASEH (b i : Nat) : Nat := 0x40700204 + 0x4000 * b + 0x20 * i
def PB_WIN_BASEH.ADDRH (b i : Nat) : Fld := ⟨PB_WIN_BASEH b i, 0, 12⟩
def PB_WIN_LIMIT (b i : Nat) : Nat := 0x40700208 + 0x4000 * b + 0x20 * i
def PB_WIN_LIMIT.ADDR (b i : Nat) : Fld := ⟨PB_WIN_LIMIT b i, 0, 32⟩
def PB_WIN_LIMITH (b i : Nat) : Nat := 0x4070020C + 0x4000 * b + 0x20 * i
def PB_WIN_LIMITH.ADDRH (b i : Nat) : Fld := ⟨PB_WIN_LIMITH b i, 0, 12⟩
def PB_WIN_CTL (b i : Nat) : Nat := 0x40700210 + 0x4000 * b + 0x20 * i
def PB_WIN_CTL.EN (b i : Nat) : Fld := ⟨PB_WIN_CTL b i, 0, 1⟩
def PB_WIN_CTL.CONF (b i : Nat) : Fld := ⟨PB_WIN_CTL b i, 1, 1⟩
def PB_WIN_CTL.TMO (b i : Nat) : Fld := ⟨PB_WIN_CTL b i, 8, 8⟩
def PB_WIN_CNT (b i : Nat) : Nat := 0x40700214 + 0x4000 * b + 0x20 * i
def PB_WIN_CNT.CONFIRMED (b i : Nat) : Fld := ⟨PB_WIN_CNT b i, 0, 16⟩
def PB_WIN_CNT.FAILED (b i : Nat) : Fld := ⟨PB_WIN_CNT b i, 16, 16⟩

def Ev.PB_SURPRISE_DOWN (b : Nat) : Evt := ⟨PB_EVT.SURPRISE_DOWN b, PB_EVT_CNT0.SURPRISE_DOWN_CNT b, 17, b, 8, 1⟩
def Ev.PB_CPL_TMO (b : Nat) : Evt := ⟨PB_EVT.CPL_TMO b, PB_EVT_CNT0.CPL_TMO_CNT b, 17, b, 8, 2⟩
def Ev.PB_CONF_FAIL (b : Nat) : Evt := ⟨PB_EVT.CONF_FAIL b, PB_EVT_CNT0.CONF_FAIL_CNT b, 17, b, 8, 3⟩
def Ev.PB_FAR_ERR (b : Nat) : Evt := ⟨PB_EVT.FAR_ERR b, PB_EVT_CNT0.FAR_ERR_CNT b, 17, b, 8, 3⟩
def Ev.PB_POISON (b : Nat) : Evt := ⟨PB_EVT.POISON b, PB_EVT_CNT1.POISON_CNT b, 17, b, 8, 3⟩

def catPB0 : List RegSpec :=
  [⟨0, 1, 4, 0xA14, [⟨0, 2, .st, []⟩, ⟨2, 3, .st, [(1, 5)]⟩, ⟨8, 8, .st, []⟩, ⟨16, 1, .st, []⟩]⟩,
   ⟨4, 1, 4, 0, [⟨0, 1, .ro, []⟩, ⟨1, 3, .ro, []⟩, ⟨4, 4, .ro, []⟩]⟩,
   ⟨8, 1, 4, 0, [⟨0, 1, .w1c, []⟩, ⟨1, 1, .w1c, []⟩, ⟨2, 1, .w1c, []⟩, ⟨3, 1, .w1c, []⟩, ⟨4, 1, .w1c, []⟩]⟩,
   ⟨0xC, 1, 4, 0, [⟨0, 8, .cnt, []⟩, ⟨8, 8, .cnt, []⟩, ⟨16, 8, .cnt, []⟩, ⟨24, 8, .cnt, []⟩]⟩,
   ⟨0x10, 1, 4, 0, [⟨0, 8, .cnt, []⟩]⟩,
   ⟨0x14, 1, 4, 0, [⟨0, 16, .st, []⟩, ⟨16, 16, .st, []⟩]⟩,
   ⟨0x18, 1, 4, 0, [⟨0, 16, .st, []⟩, ⟨16, 16, .st, []⟩]⟩,
   ⟨0x20, 1, 4, 0, [⟨0, 8, .ro, []⟩, ⟨8, 4, .ro, []⟩, ⟨12, 8, .ro, []⟩, ⟨31, 1, .ro, []⟩]⟩]
def catPB1 : List RegSpec :=
  [⟨0x24, 1, 4, 0, [⟨0, 32, .ro, []⟩]⟩,
   ⟨0x28, 1, 4, 0, [⟨0, 32, .ro, []⟩]⟩,
   ⟨0x2C, 1, 4, 0, [⟨0, 32, .ro, []⟩]⟩,
   ⟨0x30, 1, 4, 0, [⟨0, 30, .ro, []⟩]⟩,
   ⟨0x104, 31, 4, 0x200000, [⟨0, 8, .st, []⟩, ⟨8, 13, .st, []⟩, ⟨21, 1, .st, []⟩]⟩,
   ⟨0x200, 8, 0x20, 0, [⟨0, 32, .st, []⟩]⟩,
   ⟨0x204, 8, 0x20, 0, [⟨0, 12, .st, []⟩]⟩,
   ⟨0x208, 8, 0x20, 0, [⟨0, 32, .st, []⟩]⟩]
def catPB2 : List RegSpec :=
  [⟨0x20C, 8, 0x20, 0, [⟨0, 12, .st, []⟩]⟩,
   ⟨0x210, 8, 0x20, 0x6400, [⟨0, 1, .st, []⟩, ⟨1, 1, .st, []⟩, ⟨8, 8, .st, []⟩]⟩,
   ⟨0x214, 8, 0x20, 0, [⟨0, 16, .rc, []⟩, ⟨16, 16, .rc, []⟩]⟩]
/-- The catalogue of block PB, by offset. -/
def catPB : List RegSpec := catPB0 ++ catPB1 ++ catPB2

/-! ### SB: sideband mirror and register-bus bridge (R254, R490) -/

def SB_EVT : Nat := 0x40780000
def SB_EVT.STALE : Fld := ⟨SB_EVT, 0, 1⟩
def SB_EVT.LATE : Fld := ⟨SB_EVT, 1, 1⟩
def SB_EVT.COLLAPSE : Fld := ⟨SB_EVT, 2, 1⟩
def SB_EVT.RB_FAR_ERR : Fld := ⟨SB_EVT, 3, 1⟩
def SB_EVT.RB_TMO : Fld := ⟨SB_EVT, 4, 1⟩
def SB_EVT_CNT0 : Nat := 0x40780004
def SB_EVT_CNT0.STALE_CNT : Fld := ⟨SB_EVT_CNT0, 0, 8⟩
def SB_EVT_CNT0.LATE_CNT : Fld := ⟨SB_EVT_CNT0, 8, 8⟩
def SB_EVT_CNT0.COLLAPSE_CNT : Fld := ⟨SB_EVT_CNT0, 16, 8⟩
def SB_EVT_CNT0.RB_FAR_ERR_CNT : Fld := ⟨SB_EVT_CNT0, 24, 8⟩
def SB_EVT_CNT1 : Nat := 0x40780008
def SB_EVT_CNT1.RB_TMO_CNT : Fld := ⟨SB_EVT_CNT1, 0, 8⟩
def SB_IN : Nat := 0x4078000C
def SB_IN.VALUE : Fld := ⟨SB_IN, 0, 32⟩
def SB_OUT : Nat := 0x40780010
def SB_OUT.VALUE : Fld := ⟨SB_OUT, 0, 32⟩
def SB_LOST_EDGES : Nat := 0x40780014
def SB_LOST_EDGES.VALUE : Fld := ⟨SB_LOST_EDGES, 0, 32⟩
def SB_GRP (i : Nat) : Nat := 0x40780040 + 4 * i
def SB_GRP.ADP (i : Nat) : Fld := ⟨SB_GRP i, 0, 8⟩
def SB_GRP.INTERVAL (i : Nat) : Fld := ⟨SB_GRP i, 8, 10⟩
def SB_GRP.TIMED (i : Nat) : Fld := ⟨SB_GRP i, 18, 1⟩
def SB_GRP.DELAY (i : Nat) : Fld := ⟨SB_GRP i, 20, 12⟩
def SB_SIG (i : Nat) : Nat := 0x40780080 + 4 * i
def SB_SIG.DIR (i : Nat) : Fld := ⟨SB_SIG i, 0, 2⟩
def SB_SIG.OD (i : Nat) : Fld := ⟨SB_SIG i, 2, 1⟩
def SB_SIG.SAFE (i : Nat) : Fld := ⟨SB_SIG i, 3, 1⟩
def SB_SIG.GROUP (i : Nat) : Fld := ⟨SB_SIG i, 4, 3⟩
def SB_SIG.SRC_BIT (i : Nat) : Fld := ⟨SB_SIG i, 7, 5⟩
def SB_SIG.FILT (i : Nat) : Fld := ⟨SB_SIG i, 16, 8⟩
def SB_RB_CFG : Nat := 0x40780100
def SB_RB_CFG.SPEED : Fld := ⟨SB_RB_CFG, 0, 2⟩
def SB_RB_CFG.OFS_BYTES : Fld := ⟨SB_RB_CFG, 2, 2⟩
def SB_RB_CFG.TMO : Fld := ⟨SB_RB_CFG, 8, 8⟩
def SB_RB_STAT : Nat := 0x40780104
def SB_RB_STAT.OUTSTANDING : Fld := ⟨SB_RB_STAT, 0, 5⟩
def SB_RB_STAT.BUSY : Fld := ⟨SB_RB_STAT, 8, 1⟩
def SB_RB_ERR : Nat := 0x40780108
def SB_RB_ERR.STATUS : Fld := ⟨SB_RB_ERR, 0, 8⟩
def SB_RB_ERR.TAG : Fld := ⟨SB_RB_ERR, 8, 8⟩
def SB_RB_ERR.ADP : Fld := ⟨SB_RB_ERR, 16, 8⟩
def SB_RB_ERR.VALID : Fld := ⟨SB_RB_ERR, 31, 1⟩
def SB_RB_ERR_ADDR : Nat := 0x4078010C
def SB_RB_ERR_ADDR.VALUE : Fld := ⟨SB_RB_ERR_ADDR, 0, 32⟩
def SB_RB_ERR_TS_S : Nat := 0x40780110
def SB_RB_ERR_TS_S.VALUE : Fld := ⟨SB_RB_ERR_TS_S, 0, 32⟩
def SB_RB_ERR_TS_NS : Nat := 0x40780114
def SB_RB_ERR_TS_NS.VALUE : Fld := ⟨SB_RB_ERR_TS_NS, 0, 30⟩
def SB_RBWIN_BASE (i : Nat) : Nat := 0x40780140 + 0x10 * i
def SB_RBWIN_BASE.ADDR (i : Nat) : Fld := ⟨SB_RBWIN_BASE i, 0, 32⟩
def SB_RBWIN_LIMIT (i : Nat) : Nat := 0x40780144 + 0x10 * i
def SB_RBWIN_LIMIT.ADDR (i : Nat) : Fld := ⟨SB_RBWIN_LIMIT i, 0, 32⟩
def SB_RBWIN_CTL (i : Nat) : Nat := 0x40780148 + 0x10 * i
def SB_RBWIN_CTL.EN (i : Nat) : Fld := ⟨SB_RBWIN_CTL i, 0, 1⟩
def SB_RBWIN_CTL.CONF (i : Nat) : Fld := ⟨SB_RBWIN_CTL i, 1, 1⟩
def SB_RBWIN_CTL.TMO (i : Nat) : Fld := ⟨SB_RBWIN_CTL i, 8, 8⟩
def SB_RBWIN_CNT (i : Nat) : Nat := 0x4078014C + 0x10 * i
def SB_RBWIN_CNT.CONFIRMED (i : Nat) : Fld := ⟨SB_RBWIN_CNT i, 0, 16⟩
def SB_RBWIN_CNT.FAILED (i : Nat) : Fld := ⟨SB_RBWIN_CNT i, 16, 16⟩

def Ev.SB_STALE : Evt := ⟨SB_EVT.STALE, SB_EVT_CNT0.STALE_CNT, 18, 0, 0, 1⟩
def Ev.SB_LATE : Evt := ⟨SB_EVT.LATE, SB_EVT_CNT0.LATE_CNT, 18, 0, 0, 1⟩
def Ev.SB_COLLAPSE : Evt := ⟨SB_EVT.COLLAPSE, SB_EVT_CNT0.COLLAPSE_CNT, 18, 0, 0, 1⟩
def Ev.SB_RB_FAR_ERR : Evt := ⟨SB_EVT.RB_FAR_ERR, SB_EVT_CNT0.RB_FAR_ERR_CNT, 18, 0, 0, 3⟩
def Ev.SB_RB_TMO : Evt := ⟨SB_EVT.RB_TMO, SB_EVT_CNT1.RB_TMO_CNT, 18, 0, 0, 2⟩

def catSB0 : List RegSpec :=
  [⟨0, 1, 4, 0, [⟨0, 1, .w1c, []⟩, ⟨1, 1, .w1c, []⟩, ⟨2, 1, .w1c, []⟩, ⟨3, 1, .w1c, []⟩, ⟨4, 1, .w1c, []⟩]⟩,
   ⟨4, 1, 4, 0, [⟨0, 8, .cnt, []⟩, ⟨8, 8, .cnt, []⟩, ⟨16, 8, .cnt, []⟩, ⟨24, 8, .cnt, []⟩]⟩,
   ⟨8, 1, 4, 0, [⟨0, 8, .cnt, []⟩]⟩,
   ⟨0xC, 1, 4, 0, [⟨0, 32, .ro, []⟩]⟩,
   ⟨0x10, 1, 4, 0, [⟨0, 32, .ro, []⟩]⟩,
   ⟨0x14, 1, 4, 0, [⟨0, 32, .rc, []⟩]⟩,
   ⟨0x40, 8, 4, 0xA00, [⟨0, 8, .st, []⟩, ⟨8, 10, .st, [(1, 1000)]⟩, ⟨18, 1, .st, []⟩, ⟨20, 12, .st, []⟩]⟩,
   ⟨0x80, 32, 4, 0, [⟨0, 2, .st, [(0, 2)]⟩, ⟨2, 1, .st, []⟩, ⟨3, 1, .st, []⟩, ⟨4, 3, .st, []⟩, ⟨7, 5, .st, []⟩, ⟨16, 8, .st, []⟩]⟩]
def catSB1 : List RegSpec :=
  [⟨0x100, 1, 4, 0x3205, [⟨0, 2, .st, [(0, 2)]⟩, ⟨2, 2, .st, [(0, 2)]⟩, ⟨8, 8, .st, [(1, 255)]⟩]⟩,
   ⟨0x104, 1, 4, 0, [⟨0, 5, .ro, []⟩, ⟨8, 1, .ro, []⟩]⟩,
   ⟨0x108, 1, 4, 0, [⟨0, 8, .ro, []⟩, ⟨8, 8, .ro, []⟩, ⟨16, 8, .ro, []⟩, ⟨31, 1, .ro, []⟩]⟩,
   ⟨0x10C, 1, 4, 0, [⟨0, 32, .ro, []⟩]⟩,
   ⟨0x110, 1, 4, 0, [⟨0, 32, .ro, []⟩]⟩,
   ⟨0x114, 1, 4, 0, [⟨0, 30, .ro, []⟩]⟩,
   ⟨0x140, 8, 0x10, 0, [⟨0, 32, .st, []⟩]⟩,
   ⟨0x144, 8, 0x10, 0, [⟨0, 32, .st, []⟩]⟩]
def catSB2 : List RegSpec :=
  [⟨0x148, 8, 0x10, 0x6400, [⟨0, 1, .st, []⟩, ⟨1, 1, .st, []⟩, ⟨8, 8, .st, []⟩]⟩,
   ⟨0x14C, 8, 0x10, 0, [⟨0, 16, .rc, []⟩, ⟨16, 16, .rc, []⟩]⟩]
/-- The catalogue of block SB, by offset. -/
def catSB : List RegSpec := catSB0 ++ catSB1 ++ catSB2

/-! ### UH: USB block (R273, R491) -/

def UH_CFG : Nat := 0x40800000
def UH_CFG.EN : Fld := ⟨UH_CFG, 0, 1⟩
def UH_CFG.MGMT_EN : Fld := ⟨UH_CFG, 1, 1⟩
def UH_CFG.C0_UP : Fld := ⟨UH_CFG, 2, 1⟩
def UH_CFG.DEBOUNCE : Fld := ⟨UH_CFG, 8, 8⟩
def UH_CFG.SOF_DELAY : Fld := ⟨UH_CFG, 16, 8⟩
def UH_UP : Nat := 0x40800004
def UH_UP.UP3_ADP : Fld := ⟨UH_UP, 0, 8⟩
def UH_UP.UP2_ADP : Fld := ⟨UH_UP, 8, 8⟩
def UH_ID : Nat := 0x40800008
def UH_ID.VID : Fld := ⟨UH_ID, 0, 16⟩
def UH_ID.HUB_PID : Fld := ⟨UH_ID, 16, 16⟩
def UH_MID : Nat := 0x4080000C
def UH_MID.PID : Fld := ⟨UH_MID, 0, 16⟩
def UH_STAT : Nat := 0x40800010
def UH_STAT.UPSRC : Fld := ⟨UH_STAT, 0, 2⟩
def UH_STAT.SS_SPEED : Fld := ⟨UH_STAT, 2, 3⟩
def UH_STAT.HS_STATE : Fld := ⟨UH_STAT, 5, 2⟩
def UH_STAT.SUSPENDED : Fld := ⟨UH_STAT, 7, 1⟩
def UH_STAT.MGMT_ADDR : Fld := ⟨UH_STAT, 8, 7⟩
def UH_STAT.MGMT_CFG : Fld := ⟨UH_STAT, 15, 1⟩
def UH_STAT.MTT : Fld := ⟨UH_STAT, 16, 1⟩
def UH_PORT (i : Nat) : Nat := 0x4080003C + 4 * i
def UH_PORT.CONNECT (i : Nat) : Fld := ⟨UH_PORT i, 0, 1⟩
def UH_PORT.ENABLE (i : Nat) : Fld := ⟨UH_PORT i, 1, 1⟩
def UH_PORT.SUSPEND (i : Nat) : Fld := ⟨UH_PORT i, 2, 1⟩
def UH_PORT.L1 (i : Nat) : Fld := ⟨UH_PORT i, 3, 1⟩
def UH_PORT.OVERCURRENT (i : Nat) : Fld := ⟨UH_PORT i, 4, 1⟩
def UH_PORT.POWER (i : Nat) : Fld := ⟨UH_PORT i, 5, 1⟩
def UH_PORT.HS_SPEED (i : Nat) : Fld := ⟨UH_PORT i, 6, 2⟩
def UH_PORT.U_STATE (i : Nat) : Fld := ⟨UH_PORT i, 8, 4⟩
def UH_PORT.SS_SPEED (i : Nat) : Fld := ⟨UH_PORT i, 12, 3⟩
def UH_TPORT (i : Nat) : Nat := 0x40800080 + 4 * i
def UH_TPORT.ADP3 (i : Nat) : Fld := ⟨UH_TPORT i, 0, 8⟩
def UH_TPORT.ADP2 (i : Nat) : Fld := ⟨UH_TPORT i, 8, 8⟩
def UH_EVT : Nat := 0x408000A0
def UH_EVT.COLLIDE : Fld := ⟨UH_EVT, 0, 1⟩
def UH_EVT.OVERCURRENT : Fld := ⟨UH_EVT, 1, 1⟩
def UH_EVT.RESET_MID : Fld := ⟨UH_EVT, 2, 1⟩
def UH_EVT.CMD_DISCARD : Fld := ⟨UH_EVT, 3, 1⟩
def UH_EVT.UP_BUSY : Fld := ⟨UH_EVT, 4, 1⟩
def UH_EVT.SOF_LATE : Fld := ⟨UH_EVT, 5, 1⟩
def UH_EVT.PROXY_TMO : Fld := ⟨UH_EVT, 6, 1⟩
def UH_EVT.CACHE_HIT : Fld := ⟨UH_EVT, 7, 1⟩
def UH_EVT_CNT0 : Nat := 0x408000A4
def UH_EVT_CNT0.COLLIDE_CNT : Fld := ⟨UH_EVT_CNT0, 0, 8⟩
def UH_EVT_CNT0.OVERCURRENT_CNT : Fld := ⟨UH_EVT_CNT0, 8, 8⟩
def UH_EVT_CNT0.RESET_MID_CNT : Fld := ⟨UH_EVT_CNT0, 16, 8⟩
def UH_EVT_CNT0.CMD_DISCARD_CNT : Fld := ⟨UH_EVT_CNT0, 24, 8⟩
def UH_EVT_CNT1 : Nat := 0x408000A8
def UH_EVT_CNT1.UP_BUSY_CNT : Fld := ⟨UH_EVT_CNT1, 0, 8⟩
def UH_EVT_CNT1.SOF_LATE_CNT : Fld := ⟨UH_EVT_CNT1, 8, 8⟩
def UH_EVT_CNT1.PROXY_TMO_CNT : Fld := ⟨UH_EVT_CNT1, 16, 8⟩
def UH_EVT_CNT1.CACHE_HIT_CNT : Fld := ⟨UH_EVT_CNT1, 24, 8⟩
def UH_COLLIDE : Nat := 0x408000AC
def UH_COLLIDE.COUNT : Fld := ⟨UH_COLLIDE, 0, 32⟩
def UH_MGMT_CMDS : Nat := 0x408000B0
def UH_MGMT_CMDS.COUNT : Fld := ⟨UH_MGMT_CMDS, 0, 32⟩

def Ev.UH_COLLIDE : Evt := ⟨UH_EVT.COLLIDE, UH_EVT_CNT0.COLLIDE_CNT, 19, 0, 0xA0, 1⟩
def Ev.UH_OVERCURRENT : Evt := ⟨UH_EVT.OVERCURRENT, UH_EVT_CNT0.OVERCURRENT_CNT, 19, 0, 0xA0, 1⟩
def Ev.UH_RESET_MID : Evt := ⟨UH_EVT.RESET_MID, UH_EVT_CNT0.RESET_MID_CNT, 19, 0, 0xA0, 1⟩
def Ev.UH_CMD_DISCARD : Evt := ⟨UH_EVT.CMD_DISCARD, UH_EVT_CNT0.CMD_DISCARD_CNT, 19, 0, 0xA0, 1⟩
def Ev.UH_UP_BUSY : Evt := ⟨UH_EVT.UP_BUSY, UH_EVT_CNT1.UP_BUSY_CNT, 19, 0, 0xA0, 1⟩
def Ev.UH_SOF_LATE : Evt := ⟨UH_EVT.SOF_LATE, UH_EVT_CNT1.SOF_LATE_CNT, 19, 0, 0xA0, 1⟩
def Ev.UH_PROXY_TMO : Evt := ⟨UH_EVT.PROXY_TMO, UH_EVT_CNT1.PROXY_TMO_CNT, 19, 0, 0xA0, 2⟩
def Ev.UH_CACHE_HIT : Evt := ⟨UH_EVT.CACHE_HIT, UH_EVT_CNT1.CACHE_HIT_CNT, 19, 0, 0xA0, 1⟩

def catUH0 : List RegSpec :=
  [⟨0, 1, 4, 0xA6406, [⟨0, 1, .st, []⟩, ⟨1, 1, .st, []⟩, ⟨2, 1, .st, []⟩, ⟨8, 8, .st, [(10, 255)]⟩, ⟨16, 8, .st, [(2, 255)]⟩]⟩,
   ⟨4, 1, 4, 0, [⟨0, 8, .st, []⟩, ⟨8, 8, .st, []⟩]⟩,
   ⟨8, 1, 4, 0, [⟨0, 16, .st, []⟩, ⟨16, 16, .st, []⟩]⟩,
   ⟨0xC, 1, 4, 0, [⟨0, 16, .st, []⟩]⟩,
   ⟨0x10, 1, 4, 0, [⟨0, 2, .ro, []⟩, ⟨2, 3, .ro, []⟩, ⟨5, 2, .ro, []⟩, ⟨7, 1, .ro, []⟩, ⟨8, 7, .ro, []⟩, ⟨15, 1, .ro, []⟩, ⟨16, 1, .ro, []⟩]⟩,
   ⟨0x40, 11, 4, 0, [⟨0, 1, .ro, []⟩, ⟨1, 1, .ro, []⟩, ⟨2, 1, .ro, []⟩, ⟨3, 1, .ro, []⟩, ⟨4, 1, .ro, []⟩, ⟨5, 1, .ro, []⟩, ⟨6, 2, .ro, []⟩, ⟨8, 4, .ro, []⟩, ⟨12, 3, .ro, []⟩]⟩,
   ⟨0x80, 6, 4, 0, [⟨0, 8, .st, []⟩, ⟨8, 8, .st, []⟩]⟩,
   ⟨0xA0, 1, 4, 0, [⟨0, 1, .w1c, []⟩, ⟨1, 1, .w1c, []⟩, ⟨2, 1, .w1c, []⟩, ⟨3, 1, .w1c, []⟩, ⟨4, 1, .w1c, []⟩, ⟨5, 1, .w1c, []⟩, ⟨6, 1, .w1c, []⟩, ⟨7, 1, .w1c, []⟩]⟩]
def catUH1 : List RegSpec :=
  [⟨0xA4, 1, 4, 0, [⟨0, 8, .cnt, []⟩, ⟨8, 8, .cnt, []⟩, ⟨16, 8, .cnt, []⟩, ⟨24, 8, .cnt, []⟩]⟩,
   ⟨0xA8, 1, 4, 0, [⟨0, 8, .cnt, []⟩, ⟨8, 8, .cnt, []⟩, ⟨16, 8, .cnt, []⟩, ⟨24, 8, .cnt, []⟩]⟩,
   ⟨0xAC, 1, 4, 0, [⟨0, 32, .ro, []⟩]⟩,
   ⟨0xB0, 1, 4, 0, [⟨0, 32, .ro, []⟩]⟩]
/-- The catalogue of block UH, by offset. -/
def catUH : List RegSpec := catUH0 ++ catUH1

/-! ### EN: Ethernet MAC m (R298, R492) -/

def EN_CFG (m : Nat) : Nat := 0x40900000 + 0x4000 * m
def EN_CFG.IF (m : Nat) : Fld := ⟨EN_CFG m, 0, 3⟩
def EN_CFG.FEC (m : Nat) : Fld := ⟨EN_CFG m, 3, 2⟩
def EN_CFG.AN_EN (m : Nat) : Fld := ⟨EN_CFG m, 5, 1⟩
def EN_CFG.PTP_MODE (m : Nat) : Fld := ⟨EN_CFG m, 6, 2⟩
def EN_CFG.MAXLEN (m : Nat) : Fld := ⟨EN_CFG m, 8, 14⟩
def EN_STAT (m : Nat) : Nat := 0x40900004 + 0x4000 * m
def EN_STAT.LINK (m : Nat) : Fld := ⟨EN_STAT m, 0, 1⟩
def EN_STAT.SPEED (m : Nat) : Fld := ⟨EN_STAT m, 1, 3⟩
def EN_STAT.AN_DONE (m : Nat) : Fld := ⟨EN_STAT m, 4, 1⟩
def EN_STAT.FEC_LOCK (m : Nat) : Fld := ⟨EN_STAT m, 5, 1⟩
def EN_STAT.TX_PAUSED (m : Nat) : Fld := ⟨EN_STAT m, 8, 8⟩
def EN_EVT (m : Nat) : Nat := 0x40900008 + 0x4000 * m
def EN_EVT.LINK_DOWN (m : Nat) : Fld := ⟨EN_EVT m, 0, 1⟩
def EN_EVT.FCS_ERR (m : Nat) : Fld := ⟨EN_EVT m, 1, 1⟩
def EN_EVT.RX_DROP (m : Nat) : Fld := ⟨EN_EVT m, 2, 1⟩
def EN_EVT.NO_ADP (m : Nat) : Fld := ⟨EN_EVT m, 3, 1⟩
def EN_EVT.TXTS_OVF (m : Nat) : Fld := ⟨EN_EVT m, 4, 1⟩
def EN_EVT.GATE_OVERRUN (m : Nat) : Fld := ⟨EN_EVT m, 5, 1⟩
def EN_EVT.SPEED_REFUSED (m : Nat) : Fld := ⟨EN_EVT m, 6, 1⟩
def EN_EVT_CNT0 (m : Nat) : Nat := 0x4090000C + 0x4000 * m
def EN_EVT_CNT0.LINK_DOWN_CNT (m : Nat) : Fld := ⟨EN_EVT_CNT0 m, 0, 8⟩
def EN_EVT_CNT0.FCS_ERR_CNT (m : Nat) : Fld := ⟨EN_EVT_CNT0 m, 8, 8⟩
def EN_EVT_CNT0.RX_DROP_CNT (m : Nat) : Fld := ⟨EN_EVT_CNT0 m, 16, 8⟩
def EN_EVT_CNT0.NO_ADP_CNT (m : Nat) : Fld := ⟨EN_EVT_CNT0 m, 24, 8⟩
def EN_EVT_CNT1 (m : Nat) : Nat := 0x40900010 + 0x4000 * m
def EN_EVT_CNT1.TXTS_OVF_CNT (m : Nat) : Fld := ⟨EN_EVT_CNT1 m, 0, 8⟩
def EN_EVT_CNT1.GATE_OVERRUN_CNT (m : Nat) : Fld := ⟨EN_EVT_CNT1 m, 8, 8⟩
def EN_EVT_CNT1.SPEED_REFUSED_CNT (m : Nat) : Fld := ⟨EN_EVT_CNT1 m, 16, 8⟩
def EN_ADPMAP (m : Nat) : Nat := 0x40900014 + 0x4000 * m
def EN_ADPMAP.DEF_ADP (m : Nat) : Fld := ⟨EN_ADPMAP m, 0, 8⟩
def EN_ADPMAP.DEF_PCP (m : Nat) : Fld := ⟨EN_ADPMAP m, 8, 3⟩
def EN_VLMAP (m i : Nat) : Nat := 0x40900020 + 0x4000 * m + 4 * i
def EN_VLMAP.VID (m i : Nat) : Fld := ⟨EN_VLMAP m i, 0, 12⟩
def EN_VLMAP.ADP (m i : Nat) : Fld := ⟨EN_VLMAP m i, 12, 8⟩
def EN_VLMAP.EN (m i : Nat) : Fld := ⟨EN_VLMAP m i, 20, 1⟩
def EN_TXQMAP (m : Nat) : Nat := 0x40900040 + 0x4000 * m
def EN_TXQMAP.QUEUE_PCP0 (m : Nat) : Fld := ⟨EN_TXQMAP m, 0, 3⟩
def EN_TXQMAP.QUEUE_PCP1 (m : Nat) : Fld := ⟨EN_TXQMAP m, 3, 3⟩
def EN_TXQMAP.QUEUE_PCP2 (m : Nat) : Fld := ⟨EN_TXQMAP m, 6, 3⟩
def EN_TXQMAP.QUEUE_PCP3 (m : Nat) : Fld := ⟨EN_TXQMAP m, 9, 3⟩
def EN_TXQMAP.QUEUE_PCP4 (m : Nat) : Fld := ⟨EN_TXQMAP m, 12, 3⟩
def EN_TXQMAP.QUEUE_PCP5 (m : Nat) : Fld := ⟨EN_TXQMAP m, 15, 3⟩
def EN_TXQMAP.QUEUE_PCP6 (m : Nat) : Fld := ⟨EN_TXQMAP m, 18, 3⟩
def EN_TXQMAP.QUEUE_PCP7 (m : Nat) : Fld := ⟨EN_TXQMAP m, 21, 3⟩
def EN_PFC (m : Nat) : Nat := 0x40900044 + 0x4000 * m
def EN_PFC.RX_EN (m : Nat) : Fld := ⟨EN_PFC m, 0, 8⟩
def EN_PFC.TX_EN (m : Nat) : Fld := ⟨EN_PFC m, 8, 8⟩
def EN_PFC.LLFC (m : Nat) : Fld := ⟨EN_PFC m, 16, 1⟩
def EN_PAUSE (m : Nat) : Nat := 0x40900048 + 0x4000 * m
def EN_PAUSE.QUANTA (m : Nat) : Fld := ⟨EN_PAUSE m, 0, 16⟩
def EN_RXBUF (m i : Nat) : Nat := 0x40900060 + 0x4000 * m + 4 * i
def EN_RXBUF.SIZE (m i : Nat) : Fld := ⟨EN_RXBUF m i, 0, 11⟩
def EN_RXBUF.XOFF (m i : Nat) : Fld := ⟨EN_RXBUF m i, 11, 10⟩
def EN_RXBUF.XON (m i : Nat) : Fld := ⟨EN_RXBUF m i, 21, 10⟩
def EN_TXQCFG (m i : Nat) : Nat := 0x40900080 + 0x4000 * m + 4 * i
def EN_TXQCFG.SHAPE (m i : Nat) : Fld := ⟨EN_TXQCFG m i, 0, 1⟩
def EN_TXQCFG.SLOPE (m i : Nat) : Fld := ⟨EN_TXQCFG m i, 1, 20⟩
def EN_TXQCFG.HICREDIT (m i : Nat) : Fld := ⟨EN_TXQCFG m i, 21, 11⟩
def EN_GCL_CTRL (m : Nat) : Nat := 0x409000C0 + 0x4000 * m
def EN_GCL_CTRL.LEN (m : Nat) : Fld := ⟨EN_GCL_CTRL m, 0, 6⟩
def EN_GCL_CTRL.EN (m : Nat) : Fld := ⟨EN_GCL_CTRL m, 6, 1⟩
def EN_GCL_E (m i : Nat) : Nat := 0x40900100 + 0x4000 * m + 4 * i
def EN_GCL_E.GATES (m i : Nat) : Fld := ⟨EN_GCL_E m i, 0, 8⟩
def EN_GCL_E.DUR (m i : Nat) : Fld := ⟨EN_GCL_E m i, 16, 16⟩
def EN_PTP_LAT (m : Nat) : Nat := 0x40900180 + 0x4000 * m
def EN_PTP_LAT.TX (m : Nat) : Fld := ⟨EN_PTP_LAT m, 0, 16⟩
def EN_PTP_LAT.RX (m : Nat) : Fld := ⟨EN_PTP_LAT m, 16, 16⟩
def EN_TXTS_HEAD (m : Nat) : Nat := 0x40900184 + 0x4000 * m
def EN_TXTS_HEAD.VALID (m : Nat) : Fld := ⟨EN_TXTS_HEAD m, 0, 1⟩
def EN_TXTS_HEAD.MSG (m : Nat) : Fld := ⟨EN_TXTS_HEAD m, 4, 4⟩
def EN_TXTS_HEAD.FRAC (m : Nat) : Fld := ⟨EN_TXTS_HEAD m, 8, 4⟩
def EN_TXTS_HEAD.ID (m : Nat) : Fld := ⟨EN_TXTS_HEAD m, 16, 16⟩
def EN_TXTS_NS (m : Nat) : Nat := 0x40900188 + 0x4000 * m
def EN_TXTS_NS.NS (m : Nat) : Fld := ⟨EN_TXTS_NS m, 0, 30⟩
def EN_TXTS_SEC (m : Nat) : Nat := 0x4090018C + 0x4000 * m
def EN_TXTS_SEC.SEC (m : Nat) : Fld := ⟨EN_TXTS_SEC m, 0, 32⟩
def EN_TXTS_STAT (m : Nat) : Nat := 0x40900190 + 0x4000 * m
def EN_TXTS_STAT.DEPTH (m : Nat) : Fld := ⟨EN_TXTS_STAT m, 0, 7⟩
def EN_TXTS_STAT.OVF (m : Nat) : Fld := ⟨EN_TXTS_STAT m, 16, 16⟩
def EN_RX_FRAMES (m : Nat) : Nat := 0x409001A0 + 0x4000 * m
def EN_RX_FRAMES.COUNT (m : Nat) : Fld := ⟨EN_RX_FRAMES m, 0, 32⟩
def EN_TX_FRAMES (m : Nat) : Nat := 0x409001A4 + 0x4000 * m
def EN_TX_FRAMES.COUNT (m : Nat) : Fld := ⟨EN_TX_FRAMES m, 0, 32⟩
def EN_RX_DROP (m : Nat) : Nat := 0x409001A8 + 0x4000 * m
def EN_RX_DROP.COUNT (m : Nat) : Fld := ⟨EN_RX_DROP m, 0, 32⟩
def EN_PAUSE_RX (m : Nat) : Nat := 0x409001AC + 0x4000 * m
def EN_PAUSE_RX.COUNT (m : Nat) : Fld := ⟨EN_PAUSE_RX m, 0, 32⟩

def Ev.EN_LINK_DOWN (m : Nat) : Evt := ⟨EN_EVT.LINK_DOWN m, EN_EVT_CNT0.LINK_DOWN_CNT m, 20, m, 8, 1⟩
def Ev.EN_FCS_ERR (m : Nat) : Evt := ⟨EN_EVT.FCS_ERR m, EN_EVT_CNT0.FCS_ERR_CNT m, 20, m, 8, 1⟩
def Ev.EN_RX_DROP (m : Nat) : Evt := ⟨EN_EVT.RX_DROP m, EN_EVT_CNT0.RX_DROP_CNT m, 20, m, 8, 2⟩
def Ev.EN_NO_ADP (m : Nat) : Evt := ⟨EN_EVT.NO_ADP m, EN_EVT_CNT0.NO_ADP_CNT m, 20, m, 8, 1⟩
def Ev.EN_TXTS_OVF (m : Nat) : Evt := ⟨EN_EVT.TXTS_OVF m, EN_EVT_CNT1.TXTS_OVF_CNT m, 20, m, 8, 1⟩
def Ev.EN_GATE_OVERRUN (m : Nat) : Evt := ⟨EN_EVT.GATE_OVERRUN m, EN_EVT_CNT1.GATE_OVERRUN_CNT m, 20, m, 8, 2⟩
def Ev.EN_SPEED_REFUSED (m : Nat) : Evt := ⟨EN_EVT.SPEED_REFUSED m, EN_EVT_CNT1.SPEED_REFUSED_CNT m, 20, m, 8, 1⟩

def catEN0 : List RegSpec :=
  [⟨0, 1, 4, 0x5EE20, [⟨0, 3, .st, [(0, 5)]⟩, ⟨3, 2, .st, [(0, 2)]⟩, ⟨5, 1, .st, []⟩, ⟨6, 2, .st, [(0, 2)]⟩, ⟨8, 14, .st, [(1518, 9216)]⟩]⟩,
   ⟨4, 1, 4, 0, [⟨0, 1, .ro, []⟩, ⟨1, 3, .ro, []⟩, ⟨4, 1, .ro, []⟩, ⟨5, 1, .ro, []⟩, ⟨8, 8, .ro, []⟩]⟩,
   ⟨8, 1, 4, 0, [⟨0, 1, .w1c, []⟩, ⟨1, 1, .w1c, []⟩, ⟨2, 1, .w1c, []⟩, ⟨3, 1, .w1c, []⟩, ⟨4, 1, .w1c, []⟩, ⟨5, 1, .w1c, []⟩, ⟨6, 1, .w1c, []⟩]⟩,
   ⟨0xC, 1, 4, 0, [⟨0, 8, .cnt, []⟩, ⟨8, 8, .cnt, []⟩, ⟨16, 8, .cnt, []⟩, ⟨24, 8, .cnt, []⟩]⟩,
   ⟨0x10, 1, 4, 0, [⟨0, 8, .cnt, []⟩, ⟨8, 8, .cnt, []⟩, ⟨16, 8, .cnt, []⟩]⟩,
   ⟨0x14, 1, 4, 0, [⟨0, 8, .st, []⟩, ⟨8, 3, .st, []⟩]⟩,
   ⟨0x20, 8, 4, 0, [⟨0, 12, .st, []⟩, ⟨12, 8, .st, []⟩, ⟨20, 1, .st, []⟩]⟩,
   ⟨0x40, 1, 4, 0xFAC688, [⟨0, 3, .st, []⟩, ⟨3, 3, .st, []⟩, ⟨6, 3, .st, []⟩, ⟨9, 3, .st, []⟩, ⟨12, 3, .st, []⟩, ⟨15, 3, .st, []⟩, ⟨18, 3, .st, []⟩, ⟨21, 3, .st, []⟩]⟩]
def catEN1 : List RegSpec :=
  [⟨0x44, 1, 4, 0, [⟨0, 8, .st, []⟩, ⟨8, 8, .st, []⟩, ⟨16, 1, .st, []⟩]⟩,
   ⟨0x48, 1, 4, 0xFFFF, [⟨0, 16, .st, []⟩]⟩,
   ⟨0x60, 8, 4, 0x8030080, [⟨0, 11, .st, []⟩, ⟨11, 10, .st, []⟩, ⟨21, 10, .st, []⟩]⟩,
   ⟨0x80, 8, 4, 0x4000000, [⟨0, 1, .st, []⟩, ⟨1, 20, .st, []⟩, ⟨21, 11, .st, []⟩]⟩,
   ⟨0xC0, 1, 4, 1, [⟨0, 6, .st, [(1, 32)]⟩, ⟨6, 1, .st, []⟩]⟩,
   ⟨0x100, 32, 4, 0x1F400FF, [⟨0, 8, .st, []⟩, ⟨16, 16, .st, []⟩]⟩,
   ⟨0x180, 1, 4, 0, [⟨0, 16, .st, []⟩, ⟨16, 16, .st, []⟩]⟩,
   ⟨0x184, 1, 4, 0, [⟨0, 1, .rc, []⟩, ⟨4, 4, .rc, []⟩, ⟨8, 4, .rc, []⟩, ⟨16, 16, .rc, []⟩]⟩]
def catEN2 : List RegSpec :=
  [⟨0x188, 1, 4, 0, [⟨0, 30, .ro, []⟩]⟩,
   ⟨0x18C, 1, 4, 0, [⟨0, 32, .ro, []⟩]⟩,
   ⟨0x190, 1, 4, 0, [⟨0, 7, .ro, []⟩, ⟨16, 16, .rc, []⟩]⟩,
   ⟨0x1A0, 1, 4, 0, [⟨0, 32, .ro, []⟩]⟩,
   ⟨0x1A4, 1, 4, 0, [⟨0, 32, .ro, []⟩]⟩,
   ⟨0x1A8, 1, 4, 0, [⟨0, 32, .rc, []⟩]⟩,
   ⟨0x1AC, 1, 4, 0, [⟨0, 32, .ro, []⟩]⟩]
/-- The catalogue of block EN, by offset. -/
def catEN : List RegSpec := catEN0 ++ catEN1 ++ catEN2

/-! ### PD: PD port p (R325, R493) -/

def PD_CFG (p : Nat) : Nat := 0x40A00000 + 0x1000 * p
def PD_CFG.ROLE (p : Nat) : Fld := ⟨PD_CFG p, 0, 2⟩
def PD_CFG.TRY (p : Nat) : Fld := ⟨PD_CFG p, 2, 2⟩
def PD_CFG.DATA_PREF (p : Nat) : Fld := ⟨PD_CFG p, 4, 2⟩
def PD_CFG.ACC_PRS (p : Nat) : Fld := ⟨PD_CFG p, 6, 1⟩
def PD_CFG.ACC_DRS (p : Nat) : Fld := ⟨PD_CFG p, 7, 1⟩
def PD_CFG.ACC_VCS (p : Nat) : Fld := ⟨PD_CFG p, 8, 1⟩
def PD_CFG.FRS_CUR (p : Nat) : Fld := ⟨PD_CFG p, 10, 2⟩
def PD_CFG.FRS_RX (p : Nat) : Fld := ⟨PD_CFG p, 12, 1⟩
def PD_CFG.EPR_EN (p : Nat) : Fld := ⟨PD_CFG p, 13, 1⟩
def PD_CFG.PPS_EN (p : Nat) : Fld := ⟨PD_CFG p, 14, 1⟩
def PD_CFG.TL_EN (p : Nat) : Fld := ⟨PD_CFG p, 15, 1⟩
def PD_CFG.DP_EN (p : Nat) : Fld := ⟨PD_CFG p, 16, 1⟩
def PD_CFG.VCONN_EN (p : Nat) : Fld := ⟨PD_CFG p, 17, 1⟩
def PD_CFG.PRIO (p : Nat) : Fld := ⟨PD_CFG p, 18, 2⟩
def PD_CFG.RP (p : Nat) : Fld := ⟨PD_CFG p, 20, 2⟩
def PD_CFG.CC_DEB (p : Nat) : Fld := ⟨PD_CFG p, 22, 8⟩
def PD_POWER (p : Nat) : Nat := 0x40A00004 + 0x1000 * p
def PD_POWER.MAX (p : Nat) : Fld := ⟨PD_POWER p, 0, 10⟩
def PD_POWER.GUAR (p : Nat) : Fld := ⟨PD_POWER p, 10, 10⟩
def PD_SRC_PDO (p i : Nat) : Nat := 0x40A00010 + 0x1000 * p + 4 * i
def PD_SRC_PDO.PDO (p i : Nat) : Fld := ⟨PD_SRC_PDO p i, 0, 32⟩
def PD_EPR_PDO (p i : Nat) : Nat := 0x40A00030 + 0x1000 * p + 4 * i
def PD_EPR_PDO.PDO (p i : Nat) : Fld := ⟨PD_EPR_PDO p i, 0, 32⟩
def PD_SNK_PDO (p i : Nat) : Nat := 0x40A00040 + 0x1000 * p + 4 * i
def PD_SNK_PDO.PDO (p i : Nat) : Fld := ⟨PD_SNK_PDO p i, 0, 32⟩
def PD_STAT (p : Nat) : Nat := 0x40A00050 + 0x1000 * p
def PD_STAT.ATTACHED (p : Nat) : Fld := ⟨PD_STAT p, 0, 1⟩
def PD_STAT.PWR_ROLE (p : Nat) : Fld := ⟨PD_STAT p, 1, 1⟩
def PD_STAT.DATA_ROLE (p : Nat) : Fld := ⟨PD_STAT p, 2, 1⟩
def PD_STAT.VCONN (p : Nat) : Fld := ⟨PD_STAT p, 3, 1⟩
def PD_STAT.ORIENT (p : Nat) : Fld := ⟨PD_STAT p, 4, 1⟩
def PD_STAT.CONTRACT (p : Nat) : Fld := ⟨PD_STAT p, 5, 1⟩
def PD_STAT.EPR (p : Nat) : Fld := ⟨PD_STAT p, 6, 1⟩
def PD_STAT.PPS (p : Nat) : Fld := ⟨PD_STAT p, 7, 1⟩
def PD_STAT.MODE (p : Nat) : Fld := ⟨PD_STAT p, 8, 2⟩
def PD_STAT.FRS_ARMED (p : Nat) : Fld := ⟨PD_STAT p, 10, 1⟩
def PD_STAT.DEAD_BATT (p : Nat) : Fld := ⟨PD_STAT p, 11, 1⟩
def PD_STAT.PSTATE (p : Nat) : Fld := ⟨PD_STAT p, 16, 8⟩
def PD_CONTRACT (p : Nat) : Nat := 0x40A00054 + 0x1000 * p
def PD_CONTRACT.VOLT (p : Nat) : Fld := ⟨PD_CONTRACT p, 0, 12⟩
def PD_CONTRACT.CURR (p : Nat) : Fld := ⟨PD_CONTRACT p, 12, 10⟩
def PD_CONTRACT.POS (p : Nat) : Fld := ⟨PD_CONTRACT p, 22, 4⟩
def PD_ALLOC (p : Nat) : Nat := 0x40A00058 + 0x1000 * p
def PD_ALLOC.ALLOC (p : Nat) : Fld := ⟨PD_ALLOC p, 0, 13⟩
def PD_ALLOC.WANT (p : Nat) : Fld := ⟨PD_ALLOC p, 13, 13⟩
def PD_EVT (p : Nat) : Nat := 0x40A00060 + 0x1000 * p
def PD_EVT.HARD_RESET (p : Nat) : Fld := ⟨PD_EVT p, 0, 1⟩
def PD_EVT.PULL_MID (p : Nat) : Fld := ⟨PD_EVT p, 1, 1⟩
def PD_EVT.COLLIDE (p : Nat) : Fld := ⟨PD_EVT p, 2, 1⟩
def PD_EVT.FRS (p : Nat) : Fld := ⟨PD_EVT p, 3, 1⟩
def PD_EVT.VCONN_OC (p : Nat) : Fld := ⟨PD_EVT p, 4, 1⟩
def PD_EVT.MODE_FAIL (p : Nat) : Fld := ⟨PD_EVT p, 5, 1⟩
def PD_EVT.CAPS_CUT (p : Nat) : Fld := ⟨PD_EVT p, 6, 1⟩
def PD_EVT.VBUS_FAULT (p : Nat) : Fld := ⟨PD_EVT p, 7, 1⟩
def PD_EVT_CNT0 (p : Nat) : Nat := 0x40A00064 + 0x1000 * p
def PD_EVT_CNT0.HARD_RESET_CNT (p : Nat) : Fld := ⟨PD_EVT_CNT0 p, 0, 8⟩
def PD_EVT_CNT0.PULL_MID_CNT (p : Nat) : Fld := ⟨PD_EVT_CNT0 p, 8, 8⟩
def PD_EVT_CNT0.COLLIDE_CNT (p : Nat) : Fld := ⟨PD_EVT_CNT0 p, 16, 8⟩
def PD_EVT_CNT0.FRS_CNT (p : Nat) : Fld := ⟨PD_EVT_CNT0 p, 24, 8⟩
def PD_EVT_CNT1 (p : Nat) : Nat := 0x40A00068 + 0x1000 * p
def PD_EVT_CNT1.VCONN_OC_CNT (p : Nat) : Fld := ⟨PD_EVT_CNT1 p, 0, 8⟩
def PD_EVT_CNT1.MODE_FAIL_CNT (p : Nat) : Fld := ⟨PD_EVT_CNT1 p, 8, 8⟩
def PD_EVT_CNT1.CAPS_CUT_CNT (p : Nat) : Fld := ⟨PD_EVT_CNT1 p, 16, 8⟩
def PD_EVT_CNT1.VBUS_FAULT_CNT (p : Nat) : Fld := ⟨PD_EVT_CNT1 p, 24, 8⟩
def PD_XFER (p : Nat) : Nat := 0x40A00070 + 0x1000 * p
def PD_XFER.FROM (p : Nat) : Fld := ⟨PD_XFER p, 0, 12⟩
def PD_XFER.TO (p : Nat) : Fld := ⟨PD_XFER p, 12, 12⟩
def PD_XFER_TS_S (p : Nat) : Nat := 0x40A00074 + 0x1000 * p
def PD_XFER_TS_S.VALUE (p : Nat) : Fld := ⟨PD_XFER_TS_S p, 0, 32⟩
def PD_XFER_TS_NS (p : Nat) : Nat := 0x40A00078 + 0x1000 * p
def PD_XFER_TS_NS.VALUE (p : Nat) : Fld := ⟨PD_XFER_TS_NS p, 0, 30⟩
def PD_CABLE_VDO (p : Nat) : Nat := 0x40A00080 + 0x1000 * p
def PD_CABLE_VDO.VDO (p : Nat) : Fld := ⟨PD_CABLE_VDO p, 0, 32⟩
def PD_PARTNER_IDH (p : Nat) : Nat := 0x40A00084 + 0x1000 * p
def PD_PARTNER_IDH.VDO (p : Nat) : Fld := ⟨PD_PARTNER_IDH p, 0, 32⟩
def PD_PARTNER_TL (p : Nat) : Nat := 0x40A00088 + 0x1000 * p
def PD_PARTNER_TL.VDO (p : Nat) : Fld := ⟨PD_PARTNER_TL p, 0, 32⟩

def Ev.PD_HARD_RESET (p : Nat) : Evt := ⟨PD_EVT.HARD_RESET p, PD_EVT_CNT0.HARD_RESET_CNT p, 21, p, 0x60, 3⟩
def Ev.PD_PULL_MID (p : Nat) : Evt := ⟨PD_EVT.PULL_MID p, PD_EVT_CNT0.PULL_MID_CNT p, 21, p, 0x60, 3⟩
def Ev.PD_COLLIDE (p : Nat) : Evt := ⟨PD_EVT.COLLIDE p, PD_EVT_CNT0.COLLIDE_CNT p, 21, p, 0x60, 1⟩
def Ev.PD_FRS (p : Nat) : Evt := ⟨PD_EVT.FRS p, PD_EVT_CNT0.FRS_CNT p, 21, p, 0x60, 2⟩
def Ev.PD_VCONN_OC (p : Nat) : Evt := ⟨PD_EVT.VCONN_OC p, PD_EVT_CNT1.VCONN_OC_CNT p, 21, p, 0x60, 1⟩
def Ev.PD_MODE_FAIL (p : Nat) : Evt := ⟨PD_EVT.MODE_FAIL p, PD_EVT_CNT1.MODE_FAIL_CNT p, 21, p, 0x60, 2⟩
def Ev.PD_CAPS_CUT (p : Nat) : Evt := ⟨PD_EVT.CAPS_CUT p, PD_EVT_CNT1.CAPS_CUT_CNT p, 21, p, 0x60, 2⟩
def Ev.PD_VBUS_FAULT (p : Nat) : Evt := ⟨PD_EVT.VBUS_FAULT p, PD_EVT_CNT1.VBUS_FAULT_CNT p, 21, p, 0x60, 3⟩

def catPD0 : List RegSpec :=
  [⟨0, 1, 4, 0x192281C2, [⟨0, 2, .st, [(0, 2)]⟩, ⟨2, 2, .st, [(0, 2)]⟩, ⟨4, 2, .st, [(0, 2)]⟩, ⟨6, 1, .st, []⟩, ⟨7, 1, .st, []⟩, ⟨8, 1, .st, []⟩, ⟨10, 2, .st, []⟩, ⟨12, 1, .st, []⟩, ⟨13, 1, .st, []⟩, ⟨14, 1, .st, []⟩, ⟨15, 1, .st, []⟩, ⟨16, 1, .st, []⟩, ⟨17, 1, .st, []⟩, ⟨18, 2, .st, []⟩, ⟨20, 2, .st, [(0, 2)]⟩, ⟨22, 8, .st, [(100, 200)]⟩]⟩,
   ⟨4, 1, 4, 0x781E, [⟨0, 10, .st, []⟩, ⟨10, 10, .st, []⟩]⟩,
   ⟨0x10, 7, 4, 0, [⟨0, 32, .st, []⟩]⟩,
   ⟨0x30, 3, 4, 0, [⟨0, 32, .st, []⟩]⟩,
   ⟨0x40, 4, 4, 0, [⟨0, 32, .st, []⟩]⟩,
   ⟨0x50, 1, 4, 0, [⟨0, 1, .ro, []⟩, ⟨1, 1, .ro, []⟩, ⟨2, 1, .ro, []⟩, ⟨3, 1, .ro, []⟩, ⟨4, 1, .ro, []⟩, ⟨5, 1, .ro, []⟩, ⟨6, 1, .ro, []⟩, ⟨7, 1, .ro, []⟩, ⟨8, 2, .ro, []⟩, ⟨10, 1, .ro, []⟩, ⟨11, 1, .ro, []⟩, ⟨16, 8, .ro, []⟩]⟩,
   ⟨0x54, 1, 4, 0, [⟨0, 12, .ro, []⟩, ⟨12, 10, .ro, []⟩, ⟨22, 4, .ro, []⟩]⟩,
   ⟨0x58, 1, 4, 0, [⟨0, 13, .ro, []⟩, ⟨13, 13, .ro, []⟩]⟩]
def catPD1 : List RegSpec :=
  [⟨0x60, 1, 4, 0, [⟨0, 1, .w1c, []⟩, ⟨1, 1, .w1c, []⟩, ⟨2, 1, .w1c, []⟩, ⟨3, 1, .w1c, []⟩, ⟨4, 1, .w1c, []⟩, ⟨5, 1, .w1c, []⟩, ⟨6, 1, .w1c, []⟩, ⟨7, 1, .w1c, []⟩]⟩,
   ⟨0x64, 1, 4, 0, [⟨0, 8, .cnt, []⟩, ⟨8, 8, .cnt, []⟩, ⟨16, 8, .cnt, []⟩, ⟨24, 8, .cnt, []⟩]⟩,
   ⟨0x68, 1, 4, 0, [⟨0, 8, .cnt, []⟩, ⟨8, 8, .cnt, []⟩, ⟨16, 8, .cnt, []⟩, ⟨24, 8, .cnt, []⟩]⟩,
   ⟨0x70, 1, 4, 0, [⟨0, 12, .ro, []⟩, ⟨12, 12, .ro, []⟩]⟩,
   ⟨0x74, 1, 4, 0, [⟨0, 32, .ro, []⟩]⟩,
   ⟨0x78, 1, 4, 0, [⟨0, 30, .ro, []⟩]⟩,
   ⟨0x80, 1, 4, 0, [⟨0, 32, .ro, []⟩]⟩,
   ⟨0x84, 1, 4, 0, [⟨0, 32, .ro, []⟩]⟩]
def catPD2 : List RegSpec :=
  [⟨0x88, 1, 4, 0, [⟨0, 32, .ro, []⟩]⟩]
/-- The catalogue of block PD, by offset. -/
def catPD : List RegSpec := catPD0 ++ catPD1 ++ catPD2

/-! ### PDB: power budget (R326, R493) -/

def PDB_IN0 : Nat := 0x40A08000
def PDB_IN0.WATTS : Fld := ⟨PDB_IN0, 0, 13⟩
def PDB_IN1 : Nat := 0x40A08004
def PDB_IN1.WATTS : Fld := ⟨PDB_IN1, 0, 13⟩
def PDB_RESERVE : Nat := 0x40A08008
def PDB_RESERVE.WATTS : Fld := ⟨PDB_RESERVE, 0, 13⟩
def PDB_STAT : Nat := 0x40A0800C
def PDB_STAT.AVAIL : Fld := ⟨PDB_STAT, 0, 13⟩
def PDB_STAT.IN_VALID : Fld := ⟨PDB_STAT, 13, 2⟩
def PDB_STAT.FRS_IN : Fld := ⟨PDB_STAT, 15, 1⟩
def PDB_EVT : Nat := 0x40A08010
def PDB_EVT.INPUT_LOSS : Fld := ⟨PDB_EVT, 0, 1⟩
def PDB_EVT.SHORTFALL : Fld := ⟨PDB_EVT, 1, 1⟩
def PDB_EVT_CNT : Nat := 0x40A08014
def PDB_EVT_CNT.INPUT_LOSS_CNT : Fld := ⟨PDB_EVT_CNT, 0, 8⟩
def PDB_EVT_CNT.SHORTFALL_CNT : Fld := ⟨PDB_EVT_CNT, 8, 8⟩
def PDB_CFG : Nat := 0x40A08018
def PDB_CFG.RETAKE : Fld := ⟨PDB_CFG, 0, 8⟩

def Ev.PDB_INPUT_LOSS : Evt := ⟨PDB_EVT.INPUT_LOSS, PDB_EVT_CNT.INPUT_LOSS_CNT, 21, 0, 0x8010, 3⟩
def Ev.PDB_SHORTFALL : Evt := ⟨PDB_EVT.SHORTFALL, PDB_EVT_CNT.SHORTFALL_CNT, 21, 0, 0x8010, 3⟩

def catPDB0 : List RegSpec :=
  [⟨0, 1, 4, 0, [⟨0, 13, .st, []⟩]⟩,
   ⟨4, 1, 4, 0, [⟨0, 13, .st, []⟩]⟩,
   ⟨8, 1, 4, 0x76, [⟨0, 13, .st, []⟩]⟩,
   ⟨0xC, 1, 4, 0, [⟨0, 13, .ro, []⟩, ⟨13, 2, .ro, []⟩, ⟨15, 1, .ro, []⟩]⟩,
   ⟨0x10, 1, 4, 0, [⟨0, 1, .w1c, []⟩, ⟨1, 1, .w1c, []⟩]⟩,
   ⟨0x14, 1, 4, 0, [⟨0, 8, .cnt, []⟩, ⟨8, 8, .cnt, []⟩]⟩,
   ⟨0x18, 1, 4, 1, [⟨0, 8, .st, []⟩]⟩]
/-- The catalogue of block PDB, by offset. -/
def catPDB : List RegSpec := catPDB0

/-! ### EF: eFuse channel n (R341, R494) -/

def EF_CFG (n : Nat) : Nat := 0x40B00000 + 0x100 * n
def EF_CFG.EN (n : Nat) : Fld := ⟨EF_CFG n, 0, 1⟩
def EF_CFG.VLIM (n : Nat) : Fld := ⟨EF_CFG n, 2, 6⟩
def EF_CFG.FAULT_T (n : Nat) : Fld := ⟨EF_CFG n, 8, 7⟩
def EF_CFG.GATE_I (n : Nat) : Fld := ⟨EF_CFG n, 16, 2⟩
def EF_CFG.RETRY_MAX (n : Nat) : Fld := ⟨EF_CFG n, 18, 4⟩
def EF_CFG.RETRY_T (n : Nat) : Fld := ⟨EF_CFG n, 24, 8⟩
def EF_MAIN (n : Nat) : Nat := 0x40B00004 + 0x100 * n
def EF_MAIN.UV (n : Nat) : Fld := ⟨EF_MAIN n, 0, 10⟩
def EF_MAIN.OV (n : Nat) : Fld := ⟨EF_MAIN n, 10, 10⟩
def EF_MAIN.PC_DV (n : Nat) : Fld := ⟨EF_MAIN n, 20, 6⟩
def EF_MAIN.PC_TMO (n : Nat) : Fld := ⟨EF_MAIN n, 26, 6⟩
def EF_CFG2 (n : Nat) : Nat := 0x40B00008 + 0x100 * n
def EF_CFG2.INS_DEB (n : Nat) : Fld := ⟨EF_CFG2 n, 0, 8⟩
def EF_STAT (n : Nat) : Nat := 0x40B0000C + 0x100 * n
def EF_STAT.STATE (n : Nat) : Fld := ⟨EF_STAT n, 0, 3⟩
def EF_STAT.PG (n : Nat) : Fld := ⟨EF_STAT n, 3, 1⟩
def EF_STAT.LIMITING (n : Nat) : Fld := ⟨EF_STAT n, 4, 1⟩
def EF_STAT.ORIENT (n : Nat) : Fld := ⟨EF_STAT n, 5, 1⟩
def EF_STAT.INPUT_VALID (n : Nat) : Fld := ⟨EF_STAT n, 6, 1⟩
def EF_STAT.IN_WIN (n : Nat) : Fld := ⟨EF_STAT n, 7, 1⟩
def EF_STAT.TRIPS (n : Nat) : Fld := ⟨EF_STAT n, 8, 4⟩
def EF_TMR (n : Nat) : Nat := 0x40B00010 + 0x100 * n
def EF_TMR.FAULT (n : Nat) : Fld := ⟨EF_TMR n, 0, 10⟩
def EF_TMR.RETRY_LEFT (n : Nat) : Fld := ⟨EF_TMR n, 16, 16⟩
def EF_MEAS (n : Nat) : Nat := 0x40B00014 + 0x100 * n
def EF_MEAS.VIN (n : Nat) : Fld := ⟨EF_MEAS n, 0, 10⟩
def EF_MEAS.VOUT (n : Nat) : Fld := ⟨EF_MEAS n, 10, 10⟩
def EF_MEAS.ISNS (n : Nat) : Fld := ⟨EF_MEAS n, 20, 12⟩
def EF_EVT (n : Nat) : Nat := 0x40B00018 + 0x100 * n
def EF_EVT.TRIP (n : Nat) : Fld := ⟨EF_EVT n, 0, 1⟩
def EF_EVT.SHORT (n : Nat) : Fld := ⟨EF_EVT n, 1, 1⟩
def EF_EVT.PC_FAIL (n : Nat) : Fld := ⟨EF_EVT n, 2, 1⟩
def EF_EVT.REVERSE (n : Nat) : Fld := ⟨EF_EVT n, 3, 1⟩
def EF_EVT.UV (n : Nat) : Fld := ⟨EF_EVT n, 4, 1⟩
def EF_EVT.OV (n : Nat) : Fld := ⟨EF_EVT n, 5, 1⟩
def EF_EVT.LATCH (n : Nat) : Fld := ⟨EF_EVT n, 6, 1⟩
def EF_EVT.INS_HELD (n : Nat) : Fld := ⟨EF_EVT n, 7, 1⟩
def EF_EVT_CNT0 (n : Nat) : Nat := 0x40B0001C + 0x100 * n
def EF_EVT_CNT0.TRIP_CNT (n : Nat) : Fld := ⟨EF_EVT_CNT0 n, 0, 8⟩
def EF_EVT_CNT0.SHORT_CNT (n : Nat) : Fld := ⟨EF_EVT_CNT0 n, 8, 8⟩
def EF_EVT_CNT0.PC_FAIL_CNT (n : Nat) : Fld := ⟨EF_EVT_CNT0 n, 16, 8⟩
def EF_EVT_CNT0.REVERSE_CNT (n : Nat) : Fld := ⟨EF_EVT_CNT0 n, 24, 8⟩
def EF_EVT_CNT1 (n : Nat) : Nat := 0x40B00020 + 0x100 * n
def EF_EVT_CNT1.UV_CNT (n : Nat) : Fld := ⟨EF_EVT_CNT1 n, 0, 8⟩
def EF_EVT_CNT1.OV_CNT (n : Nat) : Fld := ⟨EF_EVT_CNT1 n, 8, 8⟩
def EF_EVT_CNT1.LATCH_CNT (n : Nat) : Fld := ⟨EF_EVT_CNT1 n, 16, 8⟩
def EF_EVT_CNT1.INS_HELD_CNT (n : Nat) : Fld := ⟨EF_EVT_CNT1 n, 24, 8⟩
def EF_CMD (n : Nat) : Nat := 0x40B00024 + 0x100 * n
def EF_CMD.CLEAR (n : Nat) : Fld := ⟨EF_CMD n, 0, 1⟩

def Ev.EF_TRIP (n : Nat) : Evt := ⟨EF_EVT.TRIP n, EF_EVT_CNT0.TRIP_CNT n, 22, n, 0x18, 3⟩
def Ev.EF_SHORT (n : Nat) : Evt := ⟨EF_EVT.SHORT n, EF_EVT_CNT0.SHORT_CNT n, 22, n, 0x18, 3⟩
def Ev.EF_PC_FAIL (n : Nat) : Evt := ⟨EF_EVT.PC_FAIL n, EF_EVT_CNT0.PC_FAIL_CNT n, 22, n, 0x18, 3⟩
def Ev.EF_REVERSE (n : Nat) : Evt := ⟨EF_EVT.REVERSE n, EF_EVT_CNT0.REVERSE_CNT n, 22, n, 0x18, 1⟩
def Ev.EF_UV (n : Nat) : Evt := ⟨EF_EVT.UV n, EF_EVT_CNT1.UV_CNT n, 22, n, 0x18, 1⟩
def Ev.EF_OV (n : Nat) : Evt := ⟨EF_EVT.OV n, EF_EVT_CNT1.OV_CNT n, 22, n, 0x18, 1⟩
def Ev.EF_LATCH (n : Nat) : Evt := ⟨EF_EVT.LATCH n, EF_EVT_CNT1.LATCH_CNT n, 22, n, 0x18, 3⟩
def Ev.EF_INS_HELD (n : Nat) : Evt := ⟨EF_EVT.INS_HELD n, EF_EVT_CNT1.INS_HELD_CNT n, 22, n, 0x18, 1⟩

def catEF0 : List RegSpec :=
  [⟨0, 1, 4, 0xA3D0A65, [⟨0, 1, .st, []⟩, ⟨2, 6, .st, [(10, 63)]⟩, ⟨8, 7, .st, [(1, 100)]⟩, ⟨16, 2, .st, []⟩, ⟨18, 4, .st, []⟩, ⟨24, 8, .st, []⟩]⟩,
   ⟨4, 1, 4, 0x50A9006C, [⟨0, 10, .st, []⟩, ⟨10, 10, .st, []⟩, ⟨20, 6, .st, [(1, 63)]⟩, ⟨26, 6, .st, [(1, 63)]⟩]⟩,
   ⟨8, 1, 4, 0xA, [⟨0, 8, .st, [(1, 255)]⟩]⟩,
   ⟨0xC, 1, 4, 0, [⟨0, 3, .ro, []⟩, ⟨3, 1, .ro, []⟩, ⟨4, 1, .ro, []⟩, ⟨5, 1, .ro, []⟩, ⟨6, 1, .ro, []⟩, ⟨7, 1, .ro, []⟩, ⟨8, 4, .ro, []⟩]⟩,
   ⟨0x10, 1, 4, 0, [⟨0, 10, .ro, []⟩, ⟨16, 16, .ro, []⟩]⟩,
   ⟨0x14, 1, 4, 0, [⟨0, 10, .ro, []⟩, ⟨10, 10, .ro, []⟩, ⟨20, 12, .ro, []⟩]⟩,
   ⟨0x18, 1, 4, 0, [⟨0, 1, .w1c, []⟩, ⟨1, 1, .w1c, []⟩, ⟨2, 1, .w1c, []⟩, ⟨3, 1, .w1c, []⟩, ⟨4, 1, .w1c, []⟩, ⟨5, 1, .w1c, []⟩, ⟨6, 1, .w1c, []⟩, ⟨7, 1, .w1c, []⟩]⟩,
   ⟨0x1C, 1, 4, 0, [⟨0, 8, .cnt, []⟩, ⟨8, 8, .cnt, []⟩, ⟨16, 8, .cnt, []⟩, ⟨24, 8, .cnt, []⟩]⟩]
def catEF1 : List RegSpec :=
  [⟨0x20, 1, 4, 0, [⟨0, 8, .cnt, []⟩, ⟨8, 8, .cnt, []⟩, ⟨16, 8, .cnt, []⟩, ⟨24, 8, .cnt, []⟩]⟩,
   ⟨0x24, 1, 4, 0, [⟨0, 1, .wo, []⟩]⟩]
/-- The catalogue of block EF, by offset. -/
def catEF : List RegSpec := catEF0 ++ catEF1

end Sys2Proof.Machine
end

