-- ==== Sys2Proof/Machine/RegsLink.lean ====
section
/-!
DEFINITION. The registers of the blocks LN, CL, TA, SE, SW, AL, ALP, POL, DM under the names the spec gives them:
an address for every register (R467, R472 to R495), a field for every field of its table, an event for every
flag with its count (R10) and its severity (R455), and the catalogue rows the bus decodes an address with.
-/

namespace Sys2Proof.Machine

/-! ### LN: lane n (R64, R481) -/

def LN_CTRL (n : Nat) : Nat := 0x40080000 + 0x1000 * n
def LN_CTRL.EN (n : Nat) : Fld := ⟨LN_CTRL n, 0, 1⟩
def LN_CTRL.MAX_GAIT (n : Nat) : Fld := ⟨LN_CTRL n, 1, 2⟩
def LN_CTRL.NO_TURN (n : Nat) : Fld := ⟨LN_CTRL n, 3, 1⟩
def LN_CTRL.TEST (n : Nat) : Fld := ⟨LN_CTRL n, 4, 1⟩
def LN_CTRL.LOCK_LEN (n : Nat) : Fld := ⟨LN_CTRL n, 8, 5⟩
def LN_STAT (n : Nat) : Nat := 0x40080004 + 0x1000 * n
def LN_STAT.STATE (n : Nat) : Fld := ⟨LN_STAT n, 0, 4⟩
def LN_STAT.GAIT (n : Nat) : Fld := ⟨LN_STAT n, 4, 2⟩
def LN_STAT.DIR (n : Nat) : Fld := ⟨LN_STAT n, 6, 1⟩
def LN_STAT.POS (n : Nat) : Fld := ⟨LN_STAT n, 7, 2⟩
def LN_STAT.WIDTH (n : Nat) : Fld := ⟨LN_STAT n, 9, 2⟩
def LN_STAT.LOCK (n : Nat) : Fld := ⟨LN_STAT n, 11, 1⟩
def LN_STAT.INVERTED (n : Nat) : Fld := ⟨LN_STAT n, 12, 1⟩
def LN_STAT.PARTNER_LANE (n : Nat) : Fld := ⟨LN_STAT n, 13, 2⟩
def LN_EVT0 (n : Nat) : Nat := 0x40080008 + 0x1000 * n
def LN_EVT0.LOCK_LOSS (n : Nat) : Fld := ⟨LN_EVT0 n, 0, 1⟩
def LN_EVT0.LEAD_FAIL (n : Nat) : Fld := ⟨LN_EVT0 n, 1, 1⟩
def LN_EVT0.QUAL_FAIL (n : Nat) : Fld := ⟨LN_EVT0 n, 2, 1⟩
def LN_EVT0.DEGRADE (n : Nat) : Fld := ⟨LN_EVT0 n, 3, 1⟩
def LN_EVT0_CNT (n : Nat) : Nat := 0x4008000C + 0x1000 * n
def LN_EVT0_CNT.LOCK_LOSS_CNT (n : Nat) : Fld := ⟨LN_EVT0_CNT n, 0, 8⟩
def LN_EVT0_CNT.LEAD_FAIL_CNT (n : Nat) : Fld := ⟨LN_EVT0_CNT n, 8, 8⟩
def LN_EVT0_CNT.QUAL_FAIL_CNT (n : Nat) : Fld := ⟨LN_EVT0_CNT n, 16, 8⟩
def LN_EVT0_CNT.DEGRADE_CNT (n : Nat) : Fld := ⟨LN_EVT0_CNT n, 24, 8⟩
def LN_EVT1 (n : Nat) : Nat := 0x40080010 + 0x1000 * n
def LN_EVT1.HDR_ERR (n : Nat) : Fld := ⟨LN_EVT1 n, 0, 1⟩
def LN_EVT1.TEST_REFUSED (n : Nat) : Fld := ⟨LN_EVT1 n, 1, 1⟩
def LN_EVT1.ES_DONE (n : Nat) : Fld := ⟨LN_EVT1 n, 2, 1⟩
def LN_EVT1.ES_ABORT (n : Nat) : Fld := ⟨LN_EVT1 n, 3, 1⟩
def LN_EVT1_CNT (n : Nat) : Nat := 0x40080014 + 0x1000 * n
def LN_EVT1_CNT.HDR_ERR_CNT (n : Nat) : Fld := ⟨LN_EVT1_CNT n, 0, 8⟩
def LN_EVT1_CNT.TEST_REFUSED_CNT (n : Nat) : Fld := ⟨LN_EVT1_CNT n, 8, 8⟩
def LN_EVT1_CNT.ES_DONE_CNT (n : Nat) : Fld := ⟨LN_EVT1_CNT n, 16, 8⟩
def LN_EVT1_CNT.ES_ABORT_CNT (n : Nat) : Fld := ⟨LN_EVT1_CNT n, 24, 8⟩
def LN_TRAIN (n : Nat) : Nat := 0x40080018 + 0x1000 * n
def LN_TRAIN.QUAL_MAX (n : Nat) : Fld := ⟨LN_TRAIN n, 0, 8⟩
def LN_TRAIN.RETRIES (n : Nat) : Fld := ⟨LN_TRAIN n, 8, 4⟩
def LN_TRAIN.DEGRADE_THR (n : Nat) : Fld := ⟨LN_TRAIN n, 16, 16⟩
def LN_EQ_TX (n : Nat) : Nat := 0x4008001C + 0x1000 * n
def LN_EQ_TX.PRE2 (n : Nat) : Fld := ⟨LN_EQ_TX n, 0, 3⟩
def LN_EQ_TX.PRE1 (n : Nat) : Fld := ⟨LN_EQ_TX n, 3, 5⟩
def LN_EQ_TX.POST (n : Nat) : Fld := ⟨LN_EQ_TX n, 8, 4⟩
def LN_EQ_TX.MAIN (n : Nat) : Fld := ⟨LN_EQ_TX n, 12, 7⟩
def LN_EQ_TX.PRESET (n : Nat) : Fld := ⟨LN_EQ_TX n, 19, 3⟩
def LN_EQ_RX (n : Nat) : Nat := 0x40080020 + 0x1000 * n
def LN_EQ_RX.CTLE (n : Nat) : Fld := ⟨LN_EQ_RX n, 0, 6⟩
def LN_EQ_RX.VGA (n : Nat) : Fld := ⟨LN_EQ_RX n, 6, 5⟩
def LN_EQ_RX.DFE1 (n : Nat) : Fld := ⟨LN_EQ_RX n, 11, 6⟩
def LN_TURN_CNT (n : Nat) : Nat := 0x40080024 + 0x1000 * n
def LN_TURN_CNT.TURNS (n : Nat) : Fld := ⟨LN_TURN_CNT n, 0, 32⟩
def LN_SYM_CORR (n : Nat) : Nat := 0x40080028 + 0x1000 * n
def LN_SYM_CORR.SYMBOLS (n : Nat) : Fld := ⟨LN_SYM_CORR n, 0, 32⟩
def LN_ES_CTRL (n : Nat) : Nat := 0x40080030 + 0x1000 * n
def LN_ES_CTRL.START (n : Nat) : Fld := ⟨LN_ES_CTRL n, 0, 1⟩
def LN_ES_CTRL.STOP (n : Nat) : Fld := ⟨LN_ES_CTRL n, 1, 1⟩
def LN_ES_CTRL.EYE (n : Nat) : Fld := ⟨LN_ES_CTRL n, 2, 2⟩
def LN_ES_CTRL.PHASE (n : Nat) : Fld := ⟨LN_ES_CTRL n, 4, 6⟩
def LN_ES_CTRL.VOLT (n : Nat) : Fld := ⟨LN_ES_CTRL n, 10, 7⟩
def LN_ES_CTRL.DWELL (n : Nat) : Fld := ⟨LN_ES_CTRL n, 17, 5⟩
def LN_ES_CTRL.BUSY (n : Nat) : Fld := ⟨LN_ES_CTRL n, 31, 1⟩
def LN_ES_RES (n : Nat) : Nat := 0x40080034 + 0x1000 * n
def LN_ES_RES.ERRORS (n : Nat) : Fld := ⟨LN_ES_RES n, 0, 32⟩
def LN_PAT_CTRL (n : Nat) : Nat := 0x40080038 + 0x1000 * n
def LN_PAT_CTRL.SEL (n : Nat) : Fld := ⟨LN_PAT_CTRL n, 0, 3⟩
def LN_PAT_CTRL.GEN_EN (n : Nat) : Fld := ⟨LN_PAT_CTRL n, 3, 1⟩
def LN_PAT_CTRL.CHK_EN (n : Nat) : Fld := ⟨LN_PAT_CTRL n, 4, 1⟩
def LN_PAT_CTRL.INV (n : Nat) : Fld := ⟨LN_PAT_CTRL n, 5, 1⟩
def LN_PAT_CTRL.LOCKED (n : Nat) : Fld := ⟨LN_PAT_CTRL n, 6, 1⟩
def LN_PAT_CTRL.CLEAR (n : Nat) : Fld := ⟨LN_PAT_CTRL n, 7, 1⟩
def LN_PAT_ERR (n : Nat) : Nat := 0x4008003C + 0x1000 * n
def LN_PAT_ERR.ERRORS (n : Nat) : Fld := ⟨LN_PAT_ERR n, 0, 32⟩
def LN_PAT_BITS_LO (n : Nat) : Nat := 0x40080040 + 0x1000 * n
def LN_PAT_BITS_LO.BITS_LO (n : Nat) : Fld := ⟨LN_PAT_BITS_LO n, 0, 32⟩
def LN_PAT_BITS_HI (n : Nat) : Nat := 0x40080044 + 0x1000 * n
def LN_PAT_BITS_HI.BITS_HI (n : Nat) : Fld := ⟨LN_PAT_BITS_HI n, 0, 16⟩
def LN_INJ_CTRL (n : Nat) : Nat := 0x40080048 + 0x1000 * n
def LN_INJ_CTRL.BURST_LEN (n : Nat) : Fld := ⟨LN_INJ_CTRL n, 0, 7⟩
def LN_INJ_CTRL.MODE (n : Nat) : Fld := ⟨LN_INJ_CTRL n, 7, 2⟩
def LN_INJ_CTRL.TARGET (n : Nat) : Fld := ⟨LN_INJ_CTRL n, 9, 1⟩
def LN_INJ_CTRL.ALIGN (n : Nat) : Fld := ⟨LN_INJ_CTRL n, 10, 1⟩
def LN_INJ_CTRL.FIRE (n : Nat) : Fld := ⟨LN_INJ_CTRL n, 11, 1⟩
def LN_INJ_INT (n : Nat) : Nat := 0x4008004C + 0x1000 * n
def LN_INJ_INT.INTERVAL (n : Nat) : Fld := ⟨LN_INJ_INT n, 0, 32⟩
def LN_INJ_CNT (n : Nat) : Nat := 0x40080050 + 0x1000 * n
def LN_INJ_CNT.BURSTS (n : Nat) : Fld := ⟨LN_INJ_CNT n, 0, 32⟩

def Ev.LN_LOCK_LOSS (n : Nat) : Evt := ⟨LN_EVT0.LOCK_LOSS n, LN_EVT0_CNT.LOCK_LOSS_CNT n, 10, n, 8, 2⟩
def Ev.LN_LEAD_FAIL (n : Nat) : Evt := ⟨LN_EVT0.LEAD_FAIL n, LN_EVT0_CNT.LEAD_FAIL_CNT n, 10, n, 8, 2⟩
def Ev.LN_QUAL_FAIL (n : Nat) : Evt := ⟨LN_EVT0.QUAL_FAIL n, LN_EVT0_CNT.QUAL_FAIL_CNT n, 10, n, 8, 2⟩
def Ev.LN_DEGRADE (n : Nat) : Evt := ⟨LN_EVT0.DEGRADE n, LN_EVT0_CNT.DEGRADE_CNT n, 10, n, 8, 1⟩
def Ev.LN_HDR_ERR (n : Nat) : Evt := ⟨LN_EVT1.HDR_ERR n, LN_EVT1_CNT.HDR_ERR_CNT n, 10, n, 0x10, 1⟩
def Ev.LN_TEST_REFUSED (n : Nat) : Evt := ⟨LN_EVT1.TEST_REFUSED n, LN_EVT1_CNT.TEST_REFUSED_CNT n, 10, n, 0x10, 1⟩
def Ev.LN_ES_DONE (n : Nat) : Evt := ⟨LN_EVT1.ES_DONE n, LN_EVT1_CNT.ES_DONE_CNT n, 10, n, 0x10, 1⟩
def Ev.LN_ES_ABORT (n : Nat) : Evt := ⟨LN_EVT1.ES_ABORT n, LN_EVT1_CNT.ES_ABORT_CNT n, 10, n, 0x10, 1⟩

def catLN0 : List RegSpec :=
  [⟨0, 1, 4, 0xC04, [⟨0, 1, .st, []⟩, ⟨1, 2, .st, [(0, 2)]⟩, ⟨3, 1, .st, []⟩, ⟨4, 1, .rw, []⟩, ⟨8, 5, .rw, []⟩]⟩,
   ⟨4, 1, 4, 0, [⟨0, 4, .ro, []⟩, ⟨4, 2, .ro, []⟩, ⟨6, 1, .ro, []⟩, ⟨7, 2, .ro, []⟩, ⟨9, 2, .ro, []⟩, ⟨11, 1, .ro, []⟩, ⟨12, 1, .ro, []⟩, ⟨13, 2, .ro, []⟩]⟩,
   ⟨8, 1, 4, 0, [⟨0, 1, .w1c, []⟩, ⟨1, 1, .w1c, []⟩, ⟨2, 1, .w1c, []⟩, ⟨3, 1, .w1c, []⟩]⟩,
   ⟨0xC, 1, 4, 0, [⟨0, 8, .cnt, []⟩, ⟨8, 8, .cnt, []⟩, ⟨16, 8, .cnt, []⟩, ⟨24, 8, .cnt, []⟩]⟩,
   ⟨0x10, 1, 4, 0, [⟨0, 1, .w1c, []⟩, ⟨1, 1, .w1c, []⟩, ⟨2, 1, .w1c, []⟩, ⟨3, 1, .w1c, []⟩]⟩,
   ⟨0x14, 1, 4, 0, [⟨0, 8, .cnt, []⟩, ⟨8, 8, .cnt, []⟩, ⟨16, 8, .cnt, []⟩, ⟨24, 8, .cnt, []⟩]⟩,
   ⟨0x18, 1, 4, 0x4000340, [⟨0, 8, .st, []⟩, ⟨8, 4, .st, []⟩, ⟨16, 16, .rw, []⟩]⟩,
   ⟨0x1C, 1, 4, 0, [⟨0, 3, .ro, []⟩, ⟨3, 5, .ro, []⟩, ⟨8, 4, .ro, []⟩, ⟨12, 7, .ro, []⟩, ⟨19, 3, .ro, []⟩]⟩]
def catLN1 : List RegSpec :=
  [⟨0x20, 1, 4, 0, [⟨0, 6, .ro, []⟩, ⟨6, 5, .ro, []⟩, ⟨11, 6, .ro, []⟩]⟩,
   ⟨0x24, 1, 4, 0, [⟨0, 32, .ro, []⟩]⟩,
   ⟨0x28, 1, 4, 0, [⟨0, 32, .rc, []⟩]⟩,
   ⟨0x30, 1, 4, 0x140000, [⟨0, 1, .wo, []⟩, ⟨1, 1, .wo, []⟩, ⟨2, 2, .rw, [(0, 2)]⟩, ⟨4, 6, .rw, []⟩, ⟨10, 7, .rw, []⟩, ⟨17, 5, .rw, [(10, 30)]⟩, ⟨31, 1, .ro, []⟩]⟩,
   ⟨0x34, 1, 4, 0, [⟨0, 32, .ro, []⟩]⟩,
   ⟨0x38, 1, 4, 0, [⟨0, 3, .rw, [(0, 5)]⟩, ⟨3, 1, .rw, []⟩, ⟨4, 1, .rw, []⟩, ⟨5, 1, .rw, []⟩, ⟨6, 1, .ro, []⟩, ⟨7, 1, .wo, []⟩]⟩,
   ⟨0x3C, 1, 4, 0, [⟨0, 32, .ro, []⟩]⟩,
   ⟨0x40, 1, 4, 0, [⟨0, 32, .ro, []⟩]⟩]
def catLN2 : List RegSpec :=
  [⟨0x44, 1, 4, 0, [⟨0, 16, .ro, []⟩]⟩,
   ⟨0x48, 1, 4, 0, [⟨0, 7, .rw, []⟩, ⟨7, 2, .rw, [(0, 2)]⟩, ⟨9, 1, .rw, []⟩, ⟨10, 1, .rw, []⟩, ⟨11, 1, .wo, []⟩]⟩,
   ⟨0x4C, 1, 4, 1, [⟨0, 32, .rw, []⟩]⟩,
   ⟨0x50, 1, 4, 0, [⟨0, 32, .ro, []⟩]⟩]
/-- The catalogue of block LN, by offset. -/
def catLN : List RegSpec := catLN0 ++ catLN1 ++ catLN2

/-! ### CL: link layer of cable port p (R102, R482) -/

def CL_CTRL (p : Nat) : Nat := 0x40100000 + 0x4000 * p
def CL_CTRL.AUTH_POLICY (p : Nat) : Fld := ⟨CL_CTRL p, 0, 2⟩
def CL_CTRL.VER_ALLOW (p : Nat) : Fld := ⟨CL_CTRL p, 2, 2⟩
def CL_CTRL.TIME_MASTER (p : Nat) : Fld := ⟨CL_CTRL p, 4, 1⟩
def CL_STAT (p : Nat) : Nat := 0x40100004 + 0x4000 * p
def CL_STAT.PEER_FAIL (p : Nat) : Fld := ⟨CL_STAT p, 0, 1⟩
def CL_STAT.PEER_FAIL_CNT (p : Nat) : Fld := ⟨CL_STAT p, 8, 8⟩
def CL_STAT.VER (p : Nat) : Fld := ⟨CL_STAT p, 16, 4⟩
def CL_STAT.LSTATE (p : Nat) : Fld := ⟨CL_STAT p, 20, 3⟩
def CL_STAT.ENC (p : Nat) : Fld := ⟨CL_STAT p, 23, 1⟩
def CL_STAT.KP (p : Nat) : Fld := ⟨CL_STAT p, 24, 1⟩
def CL_STAT.TLOCK (p : Nat) : Fld := ⟨CL_STAT p, 25, 1⟩
def CL_STAT.AUTH_OK (p : Nat) : Fld := ⟨CL_STAT p, 26, 1⟩
def CL_STAT.TWIN (p : Nat) : Fld := ⟨CL_STAT p, 27, 1⟩
def CL_EVT (p : Nat) : Nat := 0x40100008 + 0x4000 * p
def CL_EVT.VER_FAIL (p : Nat) : Fld := ⟨CL_EVT p, 0, 1⟩
def CL_EVT.AUTH_FAIL (p : Nat) : Fld := ⟨CL_EVT p, 1, 1⟩
def CL_EVT.TAG_FAIL (p : Nat) : Fld := ⟨CL_EVT p, 2, 1⟩
def CL_EVT.UNCORR (p : Nat) : Fld := ⟨CL_EVT p, 3, 1⟩
def CL_EVT.ORPHAN (p : Nat) : Fld := ⟨CL_EVT p, 4, 1⟩
def CL_EVT.TIME_UNLOCK (p : Nat) : Fld := ⟨CL_EVT p, 5, 1⟩
def CL_EVT.LATE_CW (p : Nat) : Fld := ⟨CL_EVT p, 6, 1⟩
def CL_EVT.XLATE_DROP (p : Nat) : Fld := ⟨CL_EVT p, 7, 1⟩
def CL_EVT_CNT0 (p : Nat) : Nat := 0x4010000C + 0x4000 * p
def CL_EVT_CNT0.VER_FAIL_CNT (p : Nat) : Fld := ⟨CL_EVT_CNT0 p, 0, 8⟩
def CL_EVT_CNT0.AUTH_FAIL_CNT (p : Nat) : Fld := ⟨CL_EVT_CNT0 p, 8, 8⟩
def CL_EVT_CNT0.TAG_FAIL_CNT (p : Nat) : Fld := ⟨CL_EVT_CNT0 p, 16, 8⟩
def CL_EVT_CNT0.UNCORR_CNT (p : Nat) : Fld := ⟨CL_EVT_CNT0 p, 24, 8⟩
def CL_EVT_CNT1 (p : Nat) : Nat := 0x40100010 + 0x4000 * p
def CL_EVT_CNT1.ORPHAN_CNT (p : Nat) : Fld := ⟨CL_EVT_CNT1 p, 0, 8⟩
def CL_EVT_CNT1.TIME_UNLOCK_CNT (p : Nat) : Fld := ⟨CL_EVT_CNT1 p, 8, 8⟩
def CL_EVT_CNT1.LATE_CW_CNT (p : Nat) : Fld := ⟨CL_EVT_CNT1 p, 16, 8⟩
def CL_EVT_CNT1.XLATE_DROP_CNT (p : Nat) : Fld := ⟨CL_EVT_CNT1 p, 24, 8⟩
def CL_CW_CORR (p : Nat) : Nat := 0x40100014 + 0x4000 * p
def CL_CW_CORR.CODEWORDS (p : Nat) : Fld := ⟨CL_CW_CORR p, 0, 32⟩
def CL_CW_UNCORR (p : Nat) : Nat := 0x40100018 + 0x4000 * p
def CL_CW_UNCORR.CODEWORDS (p : Nat) : Fld := ⟨CL_CW_UNCORR p, 0, 32⟩
def CL_AUTH (p : Nat) : Nat := 0x4010001C + 0x4000 * p
def CL_AUTH.REASON (p : Nat) : Fld := ⟨CL_AUTH p, 0, 4⟩
def CL_AUTH.TIMEOUT (p : Nat) : Fld := ⟨CL_AUTH p, 8, 8⟩
def CL_AUTH.REKEY_EXP (p : Nat) : Fld := ⟨CL_AUTH p, 16, 6⟩
def CL_SYNC_OFS (p : Nat) : Nat := 0x40100020 + 0x4000 * p
def CL_SYNC_OFS.OFFSET (p : Nat) : Fld := ⟨CL_SYNC_OFS p, 0, 32⟩
def CL_SYNC_DLY (p : Nat) : Nat := 0x40100024 + 0x4000 * p
def CL_SYNC_DLY.DELAY (p : Nat) : Fld := ⟨CL_SYNC_DLY p, 0, 32⟩
def CL_POISON (p : Nat) : Nat := 0x40100028 + 0x4000 * p
def CL_POISON.TX (p : Nat) : Fld := ⟨CL_POISON p, 0, 16⟩
def CL_POISON.RX (p : Nat) : Fld := ⟨CL_POISON p, 16, 16⟩
def CL_CRED_INIT (p i : Nat) : Nat := 0x40100040 + 0x4000 * p + 4 * i
def CL_CRED_INIT.INIT (p i : Nat) : Fld := ⟨CL_CRED_INIT p i, 0, 24⟩
def CL_CRED_AVAIL (p i : Nat) : Nat := 0x40100060 + 0x4000 * p + 4 * i
def CL_CRED_AVAIL.AVAIL (p i : Nat) : Fld := ⟨CL_CRED_AVAIL p i, 0, 24⟩

def Ev.CL_PEER_FAIL (p : Nat) : Evt := ⟨CL_STAT.PEER_FAIL p, CL_STAT.PEER_FAIL_CNT p, 11, p, 4, 2⟩
def Ev.CL_VER_FAIL (p : Nat) : Evt := ⟨CL_EVT.VER_FAIL p, CL_EVT_CNT0.VER_FAIL_CNT p, 11, p, 8, 2⟩
def Ev.CL_AUTH_FAIL (p : Nat) : Evt := ⟨CL_EVT.AUTH_FAIL p, CL_EVT_CNT0.AUTH_FAIL_CNT p, 11, p, 8, 2⟩
def Ev.CL_TAG_FAIL (p : Nat) : Evt := ⟨CL_EVT.TAG_FAIL p, CL_EVT_CNT0.TAG_FAIL_CNT p, 11, p, 8, 3⟩
def Ev.CL_UNCORR (p : Nat) : Evt := ⟨CL_EVT.UNCORR p, CL_EVT_CNT0.UNCORR_CNT p, 11, p, 8, 3⟩
def Ev.CL_ORPHAN (p : Nat) : Evt := ⟨CL_EVT.ORPHAN p, CL_EVT_CNT1.ORPHAN_CNT p, 11, p, 8, 1⟩
def Ev.CL_TIME_UNLOCK (p : Nat) : Evt := ⟨CL_EVT.TIME_UNLOCK p, CL_EVT_CNT1.TIME_UNLOCK_CNT p, 11, p, 8, 1⟩
def Ev.CL_LATE_CW (p : Nat) : Evt := ⟨CL_EVT.LATE_CW p, CL_EVT_CNT1.LATE_CW_CNT p, 11, p, 8, 1⟩
def Ev.CL_XLATE_DROP (p : Nat) : Evt := ⟨CL_EVT.XLATE_DROP p, CL_EVT_CNT1.XLATE_DROP_CNT p, 11, p, 8, 2⟩

def catCL0 : List RegSpec :=
  [⟨0, 1, 4, 0xD, [⟨0, 2, .st, [(0, 2)]⟩, ⟨2, 2, .st, []⟩, ⟨4, 1, .st, []⟩]⟩,
   ⟨4, 1, 4, 0, [⟨0, 1, .w1c, []⟩, ⟨8, 8, .cnt, []⟩, ⟨16, 4, .ro, []⟩, ⟨20, 3, .ro, []⟩, ⟨23, 1, .ro, []⟩, ⟨24, 1, .ro, []⟩, ⟨25, 1, .ro, []⟩, ⟨26, 1, .ro, []⟩, ⟨27, 1, .ro, []⟩]⟩,
   ⟨8, 1, 4, 0, [⟨0, 1, .w1c, []⟩, ⟨1, 1, .w1c, []⟩, ⟨2, 1, .w1c, []⟩, ⟨3, 1, .w1c, []⟩, ⟨4, 1, .w1c, []⟩, ⟨5, 1, .w1c, []⟩, ⟨6, 1, .w1c, []⟩, ⟨7, 1, .w1c, []⟩]⟩,
   ⟨0xC, 1, 4, 0, [⟨0, 8, .cnt, []⟩, ⟨8, 8, .cnt, []⟩, ⟨16, 8, .cnt, []⟩, ⟨24, 8, .cnt, []⟩]⟩,
   ⟨0x10, 1, 4, 0, [⟨0, 8, .cnt, []⟩, ⟨8, 8, .cnt, []⟩, ⟨16, 8, .cnt, []⟩, ⟨24, 8, .cnt, []⟩]⟩,
   ⟨0x14, 1, 4, 0, [⟨0, 32, .rc, []⟩]⟩,
   ⟨0x18, 1, 4, 0, [⟨0, 32, .rc, []⟩]⟩,
   ⟨0x1C, 1, 4, 0x200A00, [⟨0, 4, .ro, []⟩, ⟨8, 8, .st, [(1, 255)]⟩, ⟨16, 6, .st, [(20, 40)]⟩]⟩]
def catCL1 : List RegSpec :=
  [⟨0x20, 1, 4, 0, [⟨0, 32, .ro, []⟩]⟩,
   ⟨0x24, 1, 4, 0, [⟨0, 32, .ro, []⟩]⟩,
   ⟨0x28, 1, 4, 0, [⟨0, 16, .rc, []⟩, ⟨16, 16, .rc, []⟩]⟩,
   ⟨0x40, 8, 4, 0, [⟨0, 24, .st, []⟩]⟩,
   ⟨0x60, 8, 4, 0, [⟨0, 24, .ro, []⟩]⟩]
/-- The catalogue of block CL, by offset. -/
def catCL : List RegSpec := catCL0 ++ catCL1

/-! ### TA: adapter a (R125, R483) -/

def TA_CFG0 (a : Nat) : Nat := 0x40200000 + 0x100 * a
def TA_CFG0.TYPE (a : Nat) : Fld := ⟨TA_CFG0 a, 0, 4⟩
def TA_CFG0.INST (a : Nat) : Fld := ⟨TA_CFG0 a, 4, 2⟩
def TA_CFG0.DIR (a : Nat) : Fld := ⟨TA_CFG0 a, 6, 2⟩
def TA_CFG0.HOME (a : Nat) : Fld := ⟨TA_CFG0 a, 8, 5⟩
def TA_CFG0.PIN (a : Nat) : Fld := ⟨TA_CFG0 a, 13, 1⟩
def TA_CFG0.SPRAY (a : Nat) : Fld := ⟨TA_CFG0 a, 14, 1⟩
def TA_CFG0.CLASS (a : Nat) : Fld := ⟨TA_CFG0 a, 15, 2⟩
def TA_CFG0.TC (a : Nat) : Fld := ⟨TA_CFG0 a, 17, 3⟩
def TA_PEER (a : Nat) : Nat := 0x40200004 + 0x100 * a
def TA_PEER.HUB (a : Nat) : Fld := ⟨TA_PEER a, 0, 14⟩
def TA_PEER.ADP (a : Nat) : Fld := ⟨TA_PEER a, 14, 8⟩
def TA_PEER.MCAST (a : Nat) : Fld := ⟨TA_PEER a, 22, 1⟩
def TA_CFG1 (a : Nat) : Nat := 0x40200008 + 0x100 * a
def TA_CFG1.POLICER (a : Nat) : Fld := ⟨TA_CFG1 a, 0, 8⟩
def TA_CFG1.RSQ_TMO (a : Nat) : Fld := ⟨TA_CFG1 a, 8, 8⟩
def TA_STAT (a : Nat) : Nat := 0x4020000C + 0x100 * a
def TA_STAT.OPEN (a : Nat) : Fld := ⟨TA_STAT a, 0, 1⟩
def TA_STAT.RSQ_DEPTH (a : Nat) : Fld := ⟨TA_STAT a, 8, 8⟩
def TA_STAT.EXP_SEQ (a : Nat) : Fld := ⟨TA_STAT a, 16, 16⟩
def TA_SEQ (a : Nat) : Nat := 0x40200010 + 0x100 * a
def TA_SEQ.TX_SEQ (a : Nat) : Fld := ⟨TA_SEQ a, 0, 16⟩
def TA_EVT (a : Nat) : Nat := 0x40200014 + 0x100 * a
def TA_EVT.GAP (a : Nat) : Fld := ⟨TA_EVT a, 0, 1⟩
def TA_EVT.LATE (a : Nat) : Fld := ⟨TA_EVT a, 1, 1⟩
def TA_EVT.POISON (a : Nat) : Fld := ⟨TA_EVT a, 2, 1⟩
def TA_EVT.POLICED (a : Nat) : Fld := ⟨TA_EVT a, 3, 1⟩
def TA_EVT.QFULL (a : Nat) : Fld := ⟨TA_EVT a, 4, 1⟩
def TA_EVT.MISROUTE (a : Nat) : Fld := ⟨TA_EVT a, 5, 1⟩
def TA_EVT.FRAG_ERR (a : Nat) : Fld := ⟨TA_EVT a, 6, 1⟩
def TA_EVT.OOO (a : Nat) : Fld := ⟨TA_EVT a, 7, 1⟩
def TA_EVT_CNT0 (a : Nat) : Nat := 0x40200018 + 0x100 * a
def TA_EVT_CNT0.GAP_CNT (a : Nat) : Fld := ⟨TA_EVT_CNT0 a, 0, 8⟩
def TA_EVT_CNT0.LATE_CNT (a : Nat) : Fld := ⟨TA_EVT_CNT0 a, 8, 8⟩
def TA_EVT_CNT0.POISON_CNT (a : Nat) : Fld := ⟨TA_EVT_CNT0 a, 16, 8⟩
def TA_EVT_CNT0.POLICED_CNT (a : Nat) : Fld := ⟨TA_EVT_CNT0 a, 24, 8⟩
def TA_EVT_CNT1 (a : Nat) : Nat := 0x4020001C + 0x100 * a
def TA_EVT_CNT1.QFULL_CNT (a : Nat) : Fld := ⟨TA_EVT_CNT1 a, 0, 8⟩
def TA_EVT_CNT1.MISROUTE_CNT (a : Nat) : Fld := ⟨TA_EVT_CNT1 a, 8, 8⟩
def TA_EVT_CNT1.FRAG_ERR_CNT (a : Nat) : Fld := ⟨TA_EVT_CNT1 a, 16, 8⟩
def TA_EVT_CNT1.OOO_CNT (a : Nat) : Fld := ⟨TA_EVT_CNT1 a, 24, 8⟩
def TA_PKT_TX (a : Nat) : Nat := 0x40200020 + 0x100 * a
def TA_PKT_TX.PACKETS (a : Nat) : Fld := ⟨TA_PKT_TX a, 0, 32⟩
def TA_PKT_RX (a : Nat) : Nat := 0x40200024 + 0x100 * a
def TA_PKT_RX.PACKETS (a : Nat) : Fld := ⟨TA_PKT_RX a, 0, 32⟩
def TA_BYTE_TX_LO (a : Nat) : Nat := 0x40200028 + 0x100 * a
def TA_BYTE_TX_LO.BYTES_LO (a : Nat) : Fld := ⟨TA_BYTE_TX_LO a, 0, 32⟩
def TA_BYTE_TX_HI (a : Nat) : Nat := 0x4020002C + 0x100 * a
def TA_BYTE_TX_HI.BYTES_HI (a : Nat) : Fld := ⟨TA_BYTE_TX_HI a, 0, 32⟩
def TA_BYTE_RX_LO (a : Nat) : Nat := 0x40200030 + 0x100 * a
def TA_BYTE_RX_LO.BYTES_LO (a : Nat) : Fld := ⟨TA_BYTE_RX_LO a, 0, 32⟩
def TA_BYTE_RX_HI (a : Nat) : Nat := 0x40200034 + 0x100 * a
def TA_BYTE_RX_HI.BYTES_HI (a : Nat) : Fld := ⟨TA_BYTE_RX_HI a, 0, 32⟩
def TA_DROP (a : Nat) : Nat := 0x40200038 + 0x100 * a
def TA_DROP.POLICE (a : Nat) : Fld := ⟨TA_DROP a, 0, 16⟩
def TA_DROP.QFULL (a : Nat) : Fld := ⟨TA_DROP a, 16, 16⟩

def Ev.TA_GAP (a : Nat) : Evt := ⟨TA_EVT.GAP a, TA_EVT_CNT0.GAP_CNT a, 12, a, 0x14, 3⟩
def Ev.TA_LATE (a : Nat) : Evt := ⟨TA_EVT.LATE a, TA_EVT_CNT0.LATE_CNT a, 12, a, 0x14, 3⟩
def Ev.TA_POISON (a : Nat) : Evt := ⟨TA_EVT.POISON a, TA_EVT_CNT0.POISON_CNT a, 12, a, 0x14, 3⟩
def Ev.TA_POLICED (a : Nat) : Evt := ⟨TA_EVT.POLICED a, TA_EVT_CNT0.POLICED_CNT a, 12, a, 0x14, 1⟩
def Ev.TA_QFULL (a : Nat) : Evt := ⟨TA_EVT.QFULL a, TA_EVT_CNT1.QFULL_CNT a, 12, a, 0x14, 1⟩
def Ev.TA_MISROUTE (a : Nat) : Evt := ⟨TA_EVT.MISROUTE a, TA_EVT_CNT1.MISROUTE_CNT a, 12, a, 0x14, 1⟩
def Ev.TA_FRAG_ERR (a : Nat) : Evt := ⟨TA_EVT.FRAG_ERR a, TA_EVT_CNT1.FRAG_ERR_CNT a, 12, a, 0x14, 3⟩
def Ev.TA_OOO (a : Nat) : Evt := ⟨TA_EVT.OOO a, TA_EVT_CNT1.OOO_CNT a, 12, a, 0x14, 1⟩

def catTA0 : List RegSpec :=
  [⟨0, 1, 4, 0, [⟨0, 4, .st, [(0, 10)]⟩, ⟨4, 2, .st, []⟩, ⟨6, 2, .st, [(0, 2)]⟩, ⟨8, 5, .st, []⟩, ⟨13, 1, .st, []⟩, ⟨14, 1, .st, []⟩, ⟨15, 2, .st, []⟩, ⟨17, 3, .st, []⟩]⟩,
   ⟨4, 1, 4, 0, [⟨0, 14, .st, []⟩, ⟨14, 8, .st, []⟩, ⟨22, 1, .st, []⟩]⟩,
   ⟨8, 1, 4, 0x1400, [⟨0, 8, .st, []⟩, ⟨8, 8, .st, []⟩]⟩,
   ⟨0xC, 1, 4, 0, [⟨0, 1, .ro, []⟩, ⟨8, 8, .ro, []⟩, ⟨16, 16, .ro, []⟩]⟩,
   ⟨0x10, 1, 4, 0, [⟨0, 16, .ro, []⟩]⟩,
   ⟨0x14, 1, 4, 0, [⟨0, 1, .w1c, []⟩, ⟨1, 1, .w1c, []⟩, ⟨2, 1, .w1c, []⟩, ⟨3, 1, .w1c, []⟩, ⟨4, 1, .w1c, []⟩, ⟨5, 1, .w1c, []⟩, ⟨6, 1, .w1c, []⟩, ⟨7, 1, .w1c, []⟩]⟩,
   ⟨0x18, 1, 4, 0, [⟨0, 8, .cnt, []⟩, ⟨8, 8, .cnt, []⟩, ⟨16, 8, .cnt, []⟩, ⟨24, 8, .cnt, []⟩]⟩,
   ⟨0x1C, 1, 4, 0, [⟨0, 8, .cnt, []⟩, ⟨8, 8, .cnt, []⟩, ⟨16, 8, .cnt, []⟩, ⟨24, 8, .cnt, []⟩]⟩]
def catTA1 : List RegSpec :=
  [⟨0x20, 1, 4, 0, [⟨0, 32, .ro, []⟩]⟩,
   ⟨0x24, 1, 4, 0, [⟨0, 32, .ro, []⟩]⟩,
   ⟨0x28, 1, 4, 0, [⟨0, 32, .ro, []⟩]⟩,
   ⟨0x2C, 1, 4, 0, [⟨0, 32, .ro, []⟩]⟩,
   ⟨0x30, 1, 4, 0, [⟨0, 32, .ro, []⟩]⟩,
   ⟨0x34, 1, 4, 0, [⟨0, 32, .ro, []⟩]⟩,
   ⟨0x38, 1, 4, 0, [⟨0, 16, .rc, []⟩, ⟨16, 16, .rc, []⟩]⟩]
/-- The catalogue of block TA, by offset. -/
def catTA : List RegSpec := catTA0 ++ catTA1

/-! ### SE: stride engine e (R126, R484) -/

def SE_CTRL (e : Nat) : Nat := 0x40300000 + 0x400 * e
def SE_CTRL.STEAL_EN (e : Nat) : Fld := ⟨SE_CTRL e, 0, 1⟩
def SE_CTRL.XSTEAL_EN (e : Nat) : Fld := ⟨SE_CTRL e, 1, 1⟩
def SE_STAT (e : Nat) : Nat := 0x40300004 + 0x400 * e
def SE_STAT.DEPTH (e : Nat) : Fld := ⟨SE_STAT e, 0, 7⟩
def SE_STAT.BUSY (e : Nat) : Fld := ⟨SE_STAT e, 7, 1⟩
def SE_STAT.STEALABLE (e : Nat) : Fld := ⟨SE_STAT e, 8, 7⟩
def SE_STAT.CLUSTER (e : Nat) : Fld := ⟨SE_STAT e, 16, 2⟩
def SE_ITEMS (e : Nat) : Nat := 0x40300008 + 0x400 * e
def SE_ITEMS.ITEMS (e : Nat) : Fld := ⟨SE_ITEMS e, 0, 32⟩
def SE_STOLEN_IN (e : Nat) : Nat := 0x4030000C + 0x400 * e
def SE_STOLEN_IN.ITEMS (e : Nat) : Fld := ⟨SE_STOLEN_IN e, 0, 32⟩
def SE_STOLEN_OUT (e : Nat) : Nat := 0x40300010 + 0x400 * e
def SE_STOLEN_OUT.ITEMS (e : Nat) : Fld := ⟨SE_STOLEN_OUT e, 0, 32⟩
def SE_XSTEAL (e : Nat) : Nat := 0x40300014 + 0x400 * e
def SE_XSTEAL.ITEMS (e : Nat) : Fld := ⟨SE_XSTEAL e, 0, 32⟩
def SE_IDLE (e : Nat) : Nat := 0x40300018 + 0x400 * e
def SE_IDLE.CLOCKS (e : Nat) : Fld := ⟨SE_IDLE e, 0, 32⟩
def SE_EVT (e : Nat) : Nat := 0x4030001C + 0x400 * e
def SE_EVT.QFULL (e : Nat) : Fld := ⟨SE_EVT e, 0, 1⟩
def SE_EVT_CNT (e : Nat) : Nat := 0x40300020 + 0x400 * e
def SE_EVT_CNT.QFULL_CNT (e : Nat) : Fld := ⟨SE_EVT_CNT e, 0, 8⟩

def Ev.SE_QFULL (e : Nat) : Evt := ⟨SE_EVT.QFULL e, SE_EVT_CNT.QFULL_CNT e, 13, e, 0x1C, 1⟩

def catSE0 : List RegSpec :=
  [⟨0, 1, 4, 3, [⟨0, 1, .rw, []⟩, ⟨1, 1, .rw, []⟩]⟩,
   ⟨4, 1, 4, 0, [⟨0, 7, .ro, []⟩, ⟨7, 1, .ro, []⟩, ⟨8, 7, .ro, []⟩, ⟨16, 2, .ro, []⟩]⟩,
   ⟨8, 1, 4, 0, [⟨0, 32, .ro, []⟩]⟩,
   ⟨0xC, 1, 4, 0, [⟨0, 32, .ro, []⟩]⟩,
   ⟨0x10, 1, 4, 0, [⟨0, 32, .ro, []⟩]⟩,
   ⟨0x14, 1, 4, 0, [⟨0, 32, .ro, []⟩]⟩,
   ⟨0x18, 1, 4, 0, [⟨0, 32, .rc, []⟩]⟩,
   ⟨0x1C, 1, 4, 0, [⟨0, 1, .w1c, []⟩]⟩]
def catSE1 : List RegSpec :=
  [⟨0x20, 1, 4, 0, [⟨0, 8, .cnt, []⟩]⟩]
/-- The catalogue of block SE, by offset. -/
def catSE : List RegSpec := catSE0 ++ catSE1

/-! ### SW: switch core (R148, R485) -/

def SW_FREE : Nat := 0x40400000
def SW_FREE.FREE : Fld := ⟨SW_FREE, 0, 19⟩
def SW_SHARED : Nat := 0x40400004
def SW_SHARED.CELLS : Fld := ⟨SW_SHARED, 0, 19⟩
def SW_SHARED_USED : Nat := 0x40400008
def SW_SHARED_USED.CELLS : Fld := ⟨SW_SHARED_USED, 0, 19⟩
def SW_EVT : Nat := 0x4040000C
def SW_EVT.ECC_UNCORR : Fld := ⟨SW_EVT, 0, 1⟩
def SW_EVT.DESC_ERR : Fld := ⟨SW_EVT, 1, 1⟩
def SW_EVT.ADMIT_DROP : Fld := ⟨SW_EVT, 2, 1⟩
def SW_EVT.MC_MISS : Fld := ⟨SW_EVT, 3, 1⟩
def SW_EVT.MIR_DROP : Fld := ⟨SW_EVT, 4, 1⟩
def SW_EVT.LEAK : Fld := ⟨SW_EVT, 5, 1⟩
def SW_EVT.DUP : Fld := ⟨SW_EVT, 6, 1⟩
def SW_EVT.FLUSH : Fld := ⟨SW_EVT, 7, 1⟩
def SW_EVT_CNT0 : Nat := 0x40400010
def SW_EVT_CNT0.ECC_UNCORR_CNT : Fld := ⟨SW_EVT_CNT0, 0, 8⟩
def SW_EVT_CNT0.DESC_ERR_CNT : Fld := ⟨SW_EVT_CNT0, 8, 8⟩
def SW_EVT_CNT0.ADMIT_DROP_CNT : Fld := ⟨SW_EVT_CNT0, 16, 8⟩
def SW_EVT_CNT0.MC_MISS_CNT : Fld := ⟨SW_EVT_CNT0, 24, 8⟩
def SW_EVT_CNT1 : Nat := 0x40400014
def SW_EVT_CNT1.MIR_DROP_CNT : Fld := ⟨SW_EVT_CNT1, 0, 8⟩
def SW_EVT_CNT1.LEAK_CNT : Fld := ⟨SW_EVT_CNT1, 8, 8⟩
def SW_EVT_CNT1.DUP_CNT : Fld := ⟨SW_EVT_CNT1, 16, 8⟩
def SW_EVT_CNT1.FLUSH_CNT : Fld := ⟨SW_EVT_CNT1, 24, 8⟩
def SW_ECC : Nat := 0x40400018
def SW_ECC.CORR : Fld := ⟨SW_ECC, 0, 16⟩
def SW_ECC.UNCORR : Fld := ⟨SW_ECC, 16, 16⟩
def SW_FLUSHED : Nat := 0x4040001C
def SW_FLUSHED.PACKETS : Fld := ⟨SW_FLUSHED, 0, 32⟩
def SW_RSV (i : Nat) : Nat := 0x40400020 + 4 * i
def SW_RSV.CELLS (i : Nat) : Fld := ⟨SW_RSV i, 0, 19⟩
def SW_RSV_USED (i : Nat) : Nat := 0x40400070 + 4 * i
def SW_RSV_USED.CELLS (i : Nat) : Fld := ⟨SW_RSV_USED i, 0, 19⟩
def SW_TC (i : Nat) : Nat := 0x404000C0 + 4 * i
def SW_TC.SHR_CAP (i : Nat) : Fld := ⟨SW_TC i, 0, 19⟩
def SW_TC.LOSSLESS (i : Nat) : Fld := ⟨SW_TC i, 19, 1⟩
def SW_VOQ_CAP (i : Nat) : Nat := 0x404000E0 + 4 * i
def SW_VOQ_CAP.CELLS (i : Nat) : Fld := ⟨SW_VOQ_CAP i, 0, 19⟩
def SW_SHR_USED (i : Nat) : Nat := 0x40400100 + 4 * i
def SW_SHR_USED.CELLS (i : Nat) : Fld := ⟨SW_SHR_USED i, 0, 19⟩
def SW_CT (i : Nat) : Nat := 0x40400120 + 4 * i
def SW_CT.CT (i : Nat) : Fld := ⟨SW_CT i, 0, 8⟩
def SW_PDROP (i : Nat) : Nat := 0x40400170 + 4 * i
def SW_PDROP.UNROUTED (i : Nat) : Fld := ⟨SW_PDROP i, 0, 16⟩
def SW_PDROP.ADMIT (i : Nat) : Fld := ⟨SW_PDROP i, 16, 16⟩
def SW_MIR_CTL (i : Nat) : Nat := 0x40400200 + 0x20 * i
def SW_MIR_CTL.EN (i : Nat) : Fld := ⟨SW_MIR_CTL i, 0, 1⟩
def SW_MIR_CTL.KIND (i : Nat) : Fld := ⟨SW_MIR_CTL i, 1, 2⟩
def SW_MIR_CTL.PORT (i : Nat) : Fld := ⟨SW_MIR_CTL i, 3, 5⟩
def SW_MIR_CTL.TC_MASK (i : Nat) : Fld := ⟨SW_MIR_CTL i, 8, 8⟩
def SW_MIR_CTL.DST_TC (i : Nat) : Fld := ⟨SW_MIR_CTL i, 16, 3⟩
def SW_MIR_CTL.SNAP (i : Nat) : Fld := ⟨SW_MIR_CTL i, 19, 11⟩
def SW_MIR_SRC (i : Nat) : Nat := 0x40400204 + 0x20 * i
def SW_MIR_SRC.HUB (i : Nat) : Fld := ⟨SW_MIR_SRC i, 0, 14⟩
def SW_MIR_SRC.ADP (i : Nat) : Fld := ⟨SW_MIR_SRC i, 14, 8⟩
def SW_MIR_DST (i : Nat) : Nat := 0x40400208 + 0x20 * i
def SW_MIR_DST.HUB (i : Nat) : Fld := ⟨SW_MIR_DST i, 0, 14⟩
def SW_MIR_DST.ADP (i : Nat) : Fld := ⟨SW_MIR_DST i, 14, 8⟩
def SW_MIR_DST.SRC_ADP (i : Nat) : Fld := ⟨SW_MIR_DST i, 22, 8⟩
def SW_MIR_SMP (i : Nat) : Nat := 0x40400210 + 0x20 * i
def SW_MIR_SMP.SAMPLE (i : Nat) : Fld := ⟨SW_MIR_SMP i, 0, 16⟩
def SW_MIR_CNT (i : Nat) : Nat := 0x40400214 + 0x20 * i
def SW_MIR_CNT.COPIES (i : Nat) : Fld := ⟨SW_MIR_CNT i, 0, 16⟩
def SW_MIR_CNT.DROPS (i : Nat) : Fld := ⟨SW_MIR_CNT i, 16, 16⟩
def SW_FAR_CTRL : Nat := 0x40400300
def SW_FAR_CTRL.EN : Fld := ⟨SW_FAR_CTRL, 0, 1⟩
def SW_FAR_CTRL.RECLAIM : Fld := ⟨SW_FAR_CTRL, 1, 1⟩
def SW_FAR_CTRL.START : Fld := ⟨SW_FAR_CTRL, 2, 1⟩
def SW_FAR_CTRL.PERIOD : Fld := ⟨SW_FAR_CTRL, 8, 8⟩
def SW_FAR_STAT : Nat := 0x40400304
def SW_FAR_STAT.BUSY : Fld := ⟨SW_FAR_STAT, 0, 1⟩
def SW_FAR_STAT.AUDITS : Fld := ⟨SW_FAR_STAT, 16, 16⟩
def SW_FAR_RES : Nat := 0x40400308
def SW_FAR_RES.LEAKED : Fld := ⟨SW_FAR_RES, 0, 16⟩
def SW_FAR_RES.DUP : Fld := ⟨SW_FAR_RES, 16, 16⟩
def SW_FAR_RECL : Nat := 0x4040030C
def SW_FAR_RECL.CELLS : Fld := ⟨SW_FAR_RECL, 0, 32⟩
def SW_MCG_LO (i : Nat) : Nat := 0x40408000 + 8 * i
def SW_MCG_LO.PORTS (i : Nat) : Fld := ⟨SW_MCG_LO i, 0, 20⟩
def SW_MCG_LO.TAG (i : Nat) : Fld := ⟨SW_MCG_LO i, 20, 10⟩
def SW_MCG_LO.V2_OK (i : Nat) : Fld := ⟨SW_MCG_LO i, 30, 1⟩
def SW_MCG_LO.VALID (i : Nat) : Fld := ⟨SW_MCG_LO i, 31, 1⟩
def SW_MCG_HI (i : Nat) : Nat := 0x40408004 + 8 * i
def SW_MCG_HI.LADP0 (i : Nat) : Fld := ⟨SW_MCG_HI i, 0, 8⟩
def SW_MCG_HI.LADP1 (i : Nat) : Fld := ⟨SW_MCG_HI i, 8, 8⟩
def SW_MCG_HI.LADP2 (i : Nat) : Fld := ⟨SW_MCG_HI i, 16, 8⟩
def SW_MCG_HI.LADP3 (i : Nat) : Fld := ⟨SW_MCG_HI i, 24, 8⟩

def Ev.SW_ECC_UNCORR : Evt := ⟨SW_EVT.ECC_UNCORR, SW_EVT_CNT0.ECC_UNCORR_CNT, 14, 0, 0xC, 3⟩
def Ev.SW_DESC_ERR : Evt := ⟨SW_EVT.DESC_ERR, SW_EVT_CNT0.DESC_ERR_CNT, 14, 0, 0xC, 3⟩
def Ev.SW_ADMIT_DROP : Evt := ⟨SW_EVT.ADMIT_DROP, SW_EVT_CNT0.ADMIT_DROP_CNT, 14, 0, 0xC, 2⟩
def Ev.SW_MC_MISS : Evt := ⟨SW_EVT.MC_MISS, SW_EVT_CNT0.MC_MISS_CNT, 14, 0, 0xC, 1⟩
def Ev.SW_MIR_DROP : Evt := ⟨SW_EVT.MIR_DROP, SW_EVT_CNT1.MIR_DROP_CNT, 14, 0, 0xC, 2⟩
def Ev.SW_LEAK : Evt := ⟨SW_EVT.LEAK, SW_EVT_CNT1.LEAK_CNT, 14, 0, 0xC, 3⟩
def Ev.SW_DUP : Evt := ⟨SW_EVT.DUP, SW_EVT_CNT1.DUP_CNT, 14, 0, 0xC, 3⟩
def Ev.SW_FLUSH : Evt := ⟨SW_EVT.FLUSH, SW_EVT_CNT1.FLUSH_CNT, 14, 0, 0xC, 1⟩

def catSW0 : List RegSpec :=
  [⟨0, 1, 4, 0x60000, [⟨0, 19, .ro, []⟩]⟩,
   ⟨4, 1, 4, 0x60000, [⟨0, 19, .ro, []⟩]⟩,
   ⟨8, 1, 4, 0, [⟨0, 19, .ro, []⟩]⟩,
   ⟨0xC, 1, 4, 0, [⟨0, 1, .w1c, []⟩, ⟨1, 1, .w1c, []⟩, ⟨2, 1, .w1c, []⟩, ⟨3, 1, .w1c, []⟩, ⟨4, 1, .w1c, []⟩, ⟨5, 1, .w1c, []⟩, ⟨6, 1, .w1c, []⟩, ⟨7, 1, .w1c, []⟩]⟩,
   ⟨0x10, 1, 4, 0, [⟨0, 8, .cnt, []⟩, ⟨8, 8, .cnt, []⟩, ⟨16, 8, .cnt, []⟩, ⟨24, 8, .cnt, []⟩]⟩,
   ⟨0x14, 1, 4, 0, [⟨0, 8, .cnt, []⟩, ⟨8, 8, .cnt, []⟩, ⟨16, 8, .cnt, []⟩, ⟨24, 8, .cnt, []⟩]⟩,
   ⟨0x18, 1, 4, 0, [⟨0, 16, .rc, []⟩, ⟨16, 16, .rc, []⟩]⟩,
   ⟨0x1C, 1, 4, 0, [⟨0, 32, .rc, []⟩]⟩]
def catSW1 : List RegSpec :=
  [⟨0x20, 20, 4, 0, [⟨0, 19, .st, []⟩]⟩,
   ⟨0x70, 20, 4, 0, [⟨0, 19, .ro, []⟩]⟩,
   ⟨0xC0, 8, 4, 0x60000, [⟨0, 19, .st, []⟩, ⟨19, 1, .st, []⟩]⟩,
   ⟨0xE0, 8, 4, 0x60000, [⟨0, 19, .st, []⟩]⟩,
   ⟨0x100, 8, 4, 0, [⟨0, 19, .ro, []⟩]⟩,
   ⟨0x120, 20, 4, 0xFF, [⟨0, 8, .st, []⟩]⟩,
   ⟨0x170, 20, 4, 0, [⟨0, 16, .rc, []⟩, ⟨16, 16, .rc, []⟩]⟩,
   ⟨0x200, 8, 0x20, 0x3F38FF00, [⟨0, 1, .st, []⟩, ⟨1, 2, .st, []⟩, ⟨3, 5, .st, []⟩, ⟨8, 8, .st, []⟩, ⟨16, 3, .st, []⟩, ⟨19, 11, .st, []⟩]⟩]
def catSW2 : List RegSpec :=
  [⟨0x204, 8, 0x20, 0, [⟨0, 14, .st, []⟩, ⟨14, 8, .st, []⟩]⟩,
   ⟨0x208, 8, 0x20, 0, [⟨0, 14, .st, []⟩, ⟨14, 8, .st, []⟩, ⟨22, 8, .st, []⟩]⟩,
   ⟨0x210, 8, 0x20, 0, [⟨0, 16, .st, []⟩]⟩,
   ⟨0x214, 8, 0x20, 0, [⟨0, 16, .rc, []⟩, ⟨16, 16, .rc, []⟩]⟩,
   ⟨0x300, 1, 4, 0xA03, [⟨0, 1, .rw, []⟩, ⟨1, 1, .rw, []⟩, ⟨2, 1, .wo, []⟩, ⟨8, 8, .rw, []⟩]⟩,
   ⟨0x304, 1, 4, 0, [⟨0, 1, .ro, []⟩, ⟨16, 16, .ro, []⟩]⟩,
   ⟨0x308, 1, 4, 0, [⟨0, 16, .ro, []⟩, ⟨16, 16, .ro, []⟩]⟩,
   ⟨0x30C, 1, 4, 0, [⟨0, 32, .ro, []⟩]⟩]
def catSW3 : List RegSpec :=
  [⟨0x8000, 4096, 8, 0, [⟨0, 20, .st, []⟩, ⟨20, 10, .st, []⟩, ⟨30, 1, .st, []⟩, ⟨31, 1, .st, []⟩]⟩,
   ⟨0x8004, 4096, 8, 0, [⟨0, 8, .st, []⟩, ⟨8, 8, .st, []⟩, ⟨16, 8, .st, []⟩, ⟨24, 8, .st, []⟩]⟩]
/-- The catalogue of block SW, by offset. -/
def catSW : List RegSpec := catSW0 ++ catSW1 ++ catSW2 ++ catSW3

/-! ### AL: scheduler, global (R168, R486) -/

def AL_EPOCH : Nat := 0x40500000
def AL_EPOCH.EPOCH : Fld := ⟨AL_EPOCH, 0, 7⟩
def AL_EPOCH_NUM : Nat := 0x40500004
def AL_EPOCH_NUM.INDEX : Fld := ⟨AL_EPOCH_NUM, 0, 19⟩


def catAL0 : List RegSpec :=
  [⟨0, 1, 4, 8, [⟨0, 7, .st, [(2, 2), (4, 4), (5, 5), (8, 8), (10, 10), (16, 16), (20, 20), (25, 25), (32, 32), (40, 40), (50, 50), (64, 64)]⟩]⟩,
   ⟨4, 1, 4, 0, [⟨0, 19, .ro, []⟩]⟩]
/-- The catalogue of block AL, by offset. -/
def catAL : List RegSpec := catAL0

/-! ### AL: scheduler of cable port p (R168, R486) -/

def AL_CTRL (p : Nat) : Nat := 0x40501000 + 0x1000 * p
def AL_CTRL.FOLLOW (p : Nat) : Fld := ⟨AL_CTRL p, 0, 1⟩
def AL_CTRL.PARK_EN (p : Nat) : Fld := ⟨AL_CTRL p, 1, 1⟩
def AL_STAT (p : Nat) : Nat := 0x40501004 + 0x1000 * p
def AL_STAT.ACT (p : Nat) : Fld := ⟨AL_STAT p, 0, 1⟩
def AL_STAT.ARMED (p : Nat) : Fld := ⟨AL_STAT p, 1, 1⟩
def AL_STAT.OWNER (p : Nat) : Fld := ⟨AL_STAT p, 2, 1⟩
def AL_STAT.OWNER_KNOWN (p : Nat) : Fld := ⟨AL_STAT p, 3, 1⟩
def AL_STAT.TX_W (p : Nat) : Fld := ⟨AL_STAT p, 4, 2⟩
def AL_STAT.RX_W (p : Nat) : Fld := ⟨AL_STAT p, 6, 2⟩
def AL_STAT.BUSY (p : Nat) : Fld := ⟨AL_STAT p, 8, 1⟩
def AL_STAT.TXU (p : Nat) : Fld := ⟨AL_STAT p, 16, 8⟩
def AL_STAT.RXU (p : Nat) : Fld := ⟨AL_STAT p, 24, 8⟩
def AL_ARM (p : Nat) : Nat := 0x40501008 + 0x1000 * p
def AL_ARM.ARM (p : Nat) : Fld := ⟨AL_ARM p, 0, 1⟩
def AL_ARM.DISARM (p : Nat) : Fld := ⟨AL_ARM p, 1, 1⟩
def AL_BACKLOG (p : Nat) : Nat := 0x4050100C + 0x1000 * p
def AL_BACKLOG.CELLS (p : Nat) : Fld := ⟨AL_BACKLOG p, 0, 19⟩
def AL_EVT (p : Nat) : Nat := 0x40501010 + 0x1000 * p
def AL_EVT.FLIP_HELD (p : Nat) : Fld := ⟨AL_EVT p, 0, 1⟩
def AL_EVT.TURN (p : Nat) : Fld := ⟨AL_EVT p, 1, 1⟩
def AL_EVT.TURN_BLOCKED (p : Nat) : Fld := ⟨AL_EVT p, 2, 1⟩
def AL_EVT.GATE_OVERRUN (p : Nat) : Fld := ⟨AL_EVT p, 3, 1⟩
def AL_EVT.ACT_WRITE (p : Nat) : Fld := ⟨AL_EVT p, 4, 1⟩
def AL_EVT.PLAN_FAIL (p : Nat) : Fld := ⟨AL_EVT p, 5, 1⟩
def AL_EVT_CNT0 (p : Nat) : Nat := 0x40501014 + 0x1000 * p
def AL_EVT_CNT0.FLIP_HELD_CNT (p : Nat) : Fld := ⟨AL_EVT_CNT0 p, 0, 8⟩
def AL_EVT_CNT0.TURN_CNT (p : Nat) : Fld := ⟨AL_EVT_CNT0 p, 8, 8⟩
def AL_EVT_CNT0.TURN_BLOCKED_CNT (p : Nat) : Fld := ⟨AL_EVT_CNT0 p, 16, 8⟩
def AL_EVT_CNT0.GATE_OVERRUN_CNT (p : Nat) : Fld := ⟨AL_EVT_CNT0 p, 24, 8⟩
def AL_EVT_CNT1 (p : Nat) : Nat := 0x40501018 + 0x1000 * p
def AL_EVT_CNT1.ACT_WRITE_CNT (p : Nat) : Fld := ⟨AL_EVT_CNT1 p, 0, 8⟩
def AL_EVT_CNT1.PLAN_FAIL_CNT (p : Nat) : Fld := ⟨AL_EVT_CNT1 p, 8, 8⟩
def AL_QMAP (p : Nat) : Nat := 0x40501020 + 0x1000 * p
def AL_QMAP.QUEUE_TC0 (p : Nat) : Fld := ⟨AL_QMAP p, 0, 4⟩
def AL_QMAP.QUEUE_TC1 (p : Nat) : Fld := ⟨AL_QMAP p, 4, 4⟩
def AL_QMAP.QUEUE_TC2 (p : Nat) : Fld := ⟨AL_QMAP p, 8, 4⟩
def AL_QMAP.QUEUE_TC3 (p : Nat) : Fld := ⟨AL_QMAP p, 12, 4⟩
def AL_QMAP.QUEUE_TC4 (p : Nat) : Fld := ⟨AL_QMAP p, 16, 4⟩
def AL_QMAP.QUEUE_TC5 (p : Nat) : Fld := ⟨AL_QMAP p, 20, 4⟩
def AL_QMAP.QUEUE_TC6 (p : Nat) : Fld := ⟨AL_QMAP p, 24, 4⟩
def AL_QMAP.QUEUE_TC7 (p : Nat) : Fld := ⟨AL_QMAP p, 28, 4⟩
def AL_ASYM (p : Nat) : Nat := 0x40501024 + 0x1000 * p
def AL_ASYM.HI (p : Nat) : Fld := ⟨AL_ASYM p, 0, 8⟩
def AL_ASYM.LO (p : Nat) : Fld := ⟨AL_ASYM p, 8, 8⟩
def AL_ASYM.CONFIRM (p : Nat) : Fld := ⟨AL_ASYM p, 16, 4⟩
def AL_ASYM.DWELL (p : Nat) : Fld := ⟨AL_ASYM p, 20, 8⟩
def AL_ASYM.MINW_TX (p : Nat) : Fld := ⟨AL_ASYM p, 28, 2⟩
def AL_ASYM.MINW_RX (p : Nat) : Fld := ⟨AL_ASYM p, 30, 2⟩
def AL_ASYM2 (p : Nat) : Nat := 0x40501028 + 0x1000 * p
def AL_ASYM2.RELAX (p : Nat) : Fld := ⟨AL_ASYM2 p, 0, 8⟩
def AL_ASYM2.PARK (p : Nat) : Fld := ⟨AL_ASYM2 p, 8, 8⟩
def AL_ASYM2.BACKLOG_MIN (p : Nat) : Fld := ⟨AL_ASYM2 p, 16, 16⟩
def AL_QCFG (p i : Nat) : Nat := 0x40501040 + 0x1000 * p + 4 * i
def AL_QCFG.OVH (p i : Nat) : Fld := ⟨AL_QCFG p i, 0, 6⟩
def AL_QCFG.HICREDIT (p i : Nat) : Fld := ⟨AL_QCFG p i, 6, 16⟩
def AL_QCELLS (p i : Nat) : Nat := 0x40501080 + 0x1000 * p + 4 * i
def AL_QCELLS.CELLS (p i : Nat) : Fld := ⟨AL_QCELLS p i, 0, 32⟩
def AL_TBL0_HDR (p : Nat) : Nat := 0x40501100 + 0x1000 * p
def AL_TBL0_HDR.PLAN (p : Nat) : Fld := ⟨AL_TBL0_HDR p, 0, 2⟩
def AL_TBL0_HDR.GCL (p : Nat) : Fld := ⟨AL_TBL0_HDR p, 2, 1⟩
def AL_TBL0_HDR.GCL_EN (p : Nat) : Fld := ⟨AL_TBL0_HDR p, 3, 1⟩
def AL_TBL0_Q (p i : Nat) : Nat := 0x40501140 + 0x1000 * p + 4 * i
def AL_TBL0_Q.WEIGHT (p i : Nat) : Fld := ⟨AL_TBL0_Q p i, 0, 8⟩
def AL_TBL0_Q.SHAPE (p i : Nat) : Fld := ⟨AL_TBL0_Q p i, 8, 1⟩
def AL_TBL0_Q.SLOPE (p i : Nat) : Fld := ⟨AL_TBL0_Q p i, 9, 20⟩
def AL_TBL1_HDR (p : Nat) : Nat := 0x40501180 + 0x1000 * p
def AL_TBL1_HDR.PLAN (p : Nat) : Fld := ⟨AL_TBL1_HDR p, 0, 2⟩
def AL_TBL1_HDR.GCL (p : Nat) : Fld := ⟨AL_TBL1_HDR p, 2, 1⟩
def AL_TBL1_HDR.GCL_EN (p : Nat) : Fld := ⟨AL_TBL1_HDR p, 3, 1⟩
def AL_TBL1_Q (p i : Nat) : Nat := 0x405011C0 + 0x1000 * p + 4 * i
def AL_TBL1_Q.WEIGHT (p i : Nat) : Fld := ⟨AL_TBL1_Q p i, 0, 8⟩
def AL_TBL1_Q.SHAPE (p i : Nat) : Fld := ⟨AL_TBL1_Q p i, 8, 1⟩
def AL_TBL1_Q.SLOPE (p i : Nat) : Fld := ⟨AL_TBL1_Q p i, 9, 20⟩
def AL_GCL0_CTRL (p : Nat) : Nat := 0x40501400 + 0x1000 * p
def AL_GCL0_CTRL.LEN (p : Nat) : Fld := ⟨AL_GCL0_CTRL p, 0, 6⟩
def AL_GCL0_E (p i : Nat) : Nat := 0x40501480 + 0x1000 * p + 4 * i
def AL_GCL0_E.GATES (p i : Nat) : Fld := ⟨AL_GCL0_E p i, 0, 16⟩
def AL_GCL0_E.DUR (p i : Nat) : Fld := ⟨AL_GCL0_E p i, 16, 16⟩
def AL_GCL1_CTRL (p : Nat) : Nat := 0x40501500 + 0x1000 * p
def AL_GCL1_CTRL.LEN (p : Nat) : Fld := ⟨AL_GCL1_CTRL p, 0, 6⟩
def AL_GCL1_E (p i : Nat) : Nat := 0x40501580 + 0x1000 * p + 4 * i
def AL_GCL1_E.GATES (p i : Nat) : Fld := ⟨AL_GCL1_E p i, 0, 16⟩
def AL_GCL1_E.DUR (p i : Nat) : Fld := ⟨AL_GCL1_E p i, 16, 16⟩

def Ev.AL_FLIP_HELD (p : Nat) : Evt := ⟨AL_EVT.FLIP_HELD p, AL_EVT_CNT0.FLIP_HELD_CNT p, 15, p, 0x10, 1⟩
def Ev.AL_TURN (p : Nat) : Evt := ⟨AL_EVT.TURN p, AL_EVT_CNT0.TURN_CNT p, 15, p, 0x10, 1⟩
def Ev.AL_TURN_BLOCKED (p : Nat) : Evt := ⟨AL_EVT.TURN_BLOCKED p, AL_EVT_CNT0.TURN_BLOCKED_CNT p, 15, p, 0x10, 1⟩
def Ev.AL_GATE_OVERRUN (p : Nat) : Evt := ⟨AL_EVT.GATE_OVERRUN p, AL_EVT_CNT0.GATE_OVERRUN_CNT p, 15, p, 0x10, 2⟩
def Ev.AL_ACT_WRITE (p : Nat) : Evt := ⟨AL_EVT.ACT_WRITE p, AL_EVT_CNT1.ACT_WRITE_CNT p, 15, p, 0x10, 1⟩
def Ev.AL_PLAN_FAIL (p : Nat) : Evt := ⟨AL_EVT.PLAN_FAIL p, AL_EVT_CNT1.PLAN_FAIL_CNT p, 15, p, 0x10, 2⟩

def catALP0 : List RegSpec :=
  [⟨0, 1, 4, 0, [⟨0, 1, .st, []⟩, ⟨1, 1, .st, []⟩]⟩,
   ⟨4, 1, 4, 0, [⟨0, 1, .ro, []⟩, ⟨1, 1, .ro, []⟩, ⟨2, 1, .ro, []⟩, ⟨3, 1, .ro, []⟩, ⟨4, 2, .ro, []⟩, ⟨6, 2, .ro, []⟩, ⟨8, 1, .ro, []⟩, ⟨16, 8, .ro, []⟩, ⟨24, 8, .ro, []⟩]⟩,
   ⟨8, 1, 4, 0, [⟨0, 1, .wo, []⟩, ⟨1, 1, .wo, []⟩]⟩,
   ⟨0xC, 1, 4, 0, [⟨0, 19, .ro, []⟩]⟩,
   ⟨0x10, 1, 4, 0, [⟨0, 1, .w1c, []⟩, ⟨1, 1, .w1c, []⟩, ⟨2, 1, .w1c, []⟩, ⟨3, 1, .w1c, []⟩, ⟨4, 1, .w1c, []⟩, ⟨5, 1, .w1c, []⟩]⟩,
   ⟨0x14, 1, 4, 0, [⟨0, 8, .cnt, []⟩, ⟨8, 8, .cnt, []⟩, ⟨16, 8, .cnt, []⟩, ⟨24, 8, .cnt, []⟩]⟩,
   ⟨0x18, 1, 4, 0, [⟨0, 8, .cnt, []⟩, ⟨8, 8, .cnt, []⟩]⟩,
   ⟨0x20, 1, 4, 0x19876542, [⟨0, 4, .st, [(1, 15)]⟩, ⟨4, 4, .st, [(1, 15)]⟩, ⟨8, 4, .st, [(1, 15)]⟩, ⟨12, 4, .st, [(1, 15)]⟩, ⟨16, 4, .st, [(1, 15)]⟩, ⟨20, 4, .st, [(1, 15)]⟩, ⟨24, 4, .st, [(1, 15)]⟩, ⟨28, 4, .st, [(1, 15)]⟩]⟩]
def catALP1 : List RegSpec :=
  [⟨0x24, 1, 4, 0x5104C0F0, [⟨0, 8, .st, []⟩, ⟨8, 8, .st, []⟩, ⟨16, 4, .st, []⟩, ⟨20, 8, .st, []⟩, ⟨28, 2, .st, [(1, 2)]⟩, ⟨30, 2, .st, [(1, 2)]⟩]⟩,
   ⟨0x28, 1, 4, 0x100407D, [⟨0, 8, .st, []⟩, ⟨8, 8, .st, []⟩, ⟨16, 16, .st, []⟩]⟩,
   ⟨0x40, 16, 4, 0x800, [⟨0, 6, .st, []⟩, ⟨6, 16, .st, []⟩]⟩,
   ⟨0x80, 16, 4, 0, [⟨0, 32, .ro, []⟩]⟩,
   ⟨0x100, 1, 4, 0, [⟨0, 2, .rw, []⟩, ⟨2, 1, .rw, []⟩, ⟨3, 1, .rw, []⟩]⟩,
   ⟨0x140, 16, 4, 0x10, [⟨0, 8, .rw, []⟩, ⟨8, 1, .rw, []⟩, ⟨9, 20, .rw, []⟩]⟩,
   ⟨0x180, 1, 4, 0, [⟨0, 2, .rw, []⟩, ⟨2, 1, .rw, []⟩, ⟨3, 1, .rw, []⟩]⟩,
   ⟨0x1C0, 16, 4, 0x10, [⟨0, 8, .rw, []⟩, ⟨8, 1, .rw, []⟩, ⟨9, 20, .rw, []⟩]⟩]
/-- Bit 0 of GATES reads 1 whatever is written (R155, R168). -/
def catALP2 : List RegSpec :=
  [⟨0x400, 1, 4, 1, [⟨0, 6, .st, [(1, 32)]⟩]⟩,
   ⟨0x480, 32, 4, 0x1F4FFFF, [⟨0, 1, .ro, []⟩, ⟨1, 15, .st, []⟩, ⟨16, 16, .st, []⟩]⟩,
   ⟨0x500, 1, 4, 1, [⟨0, 6, .st, [(1, 32)]⟩]⟩,
   ⟨0x580, 32, 4, 0x1F4FFFF, [⟨0, 1, .ro, []⟩, ⟨1, 15, .st, []⟩, ⟨16, 16, .st, []⟩]⟩]
/-- The catalogue of block ALP, by offset. -/
def catALP : List RegSpec := catALP0 ++ catALP1 ++ catALP2

/-! ### AL: policer entries 1 to 255 (R168, R486) -/

def AL_POL_RATE (i : Nat) : Nat := 0x40508000 + 0x10 * i
def AL_POL_RATE.RATE (i : Nat) : Fld := ⟨AL_POL_RATE i, 0, 20⟩
def AL_POL_BURST (i : Nat) : Nat := 0x40508004 + 0x10 * i
def AL_POL_BURST.BURST (i : Nat) : Fld := ⟨AL_POL_BURST i, 0, 24⟩
def AL_POL_PASS (i : Nat) : Nat := 0x40508008 + 0x10 * i
def AL_POL_PASS.PASS (i : Nat) : Fld := ⟨AL_POL_PASS i, 0, 32⟩
def AL_POL_DROP (i : Nat) : Nat := 0x4050800C + 0x10 * i
def AL_POL_DROP.DROP (i : Nat) : Fld := ⟨AL_POL_DROP i, 0, 32⟩


def catPOL0 : List RegSpec :=
  [⟨0x10, 255, 0x10, 0, [⟨0, 20, .st, []⟩]⟩,
   ⟨0x14, 255, 0x10, 0, [⟨0, 24, .st, []⟩]⟩,
   ⟨0x18, 255, 0x10, 0, [⟨0, 32, .rc, []⟩]⟩,
   ⟨0x1C, 255, 0x10, 0, [⟨0, 32, .rc, []⟩]⟩]
/-- The catalogue of block POL, by offset. -/
def catPOL : List RegSpec := catPOL0

/-! ### DM: string and domain (R195, R495) -/

def DM_CFG : Nat := 0x40C00000
def DM_CFG.STRING : Fld := ⟨DM_CFG, 0, 8⟩
def DM_CFG.DUAL : Fld := ⟨DM_CFG, 8, 1⟩
def DM_CFG.REUSE : Fld := ⟨DM_CFG, 16, 8⟩
def DM_PCFG : Nat := 0x40C00004
def DM_PCFG.PEER : Fld := ⟨DM_PCFG, 0, 6⟩
def DM_PCFG.SPAN_EDGE : Fld := ⟨DM_PCFG, 8, 6⟩
def DM_ID : Nat := 0x40C00008
def DM_ID.ADDR : Fld := ⟨DM_ID, 0, 14⟩
def DM_ID.VALID : Fld := ⟨DM_ID, 14, 1⟩
def DM_ID.HOP : Fld := ⟨DM_ID, 16, 3⟩
def DM_ID.UPPORT : Fld := ⟨DM_ID, 20, 3⟩
def DM_UID_LO : Nat := 0x40C00010
def DM_UID_LO.UID : Fld := ⟨DM_UID_LO, 0, 32⟩
def DM_UID_HI : Nat := 0x40C00014
def DM_UID_HI.UID : Fld := ⟨DM_UID_HI, 0, 32⟩
def DM_FLOOR : Nat := 0x40C00018
def DM_FLOOR.FLOOR : Fld := ⟨DM_FLOOR, 0, 4⟩
def DM_FLOOR.ADV : Fld := ⟨DM_FLOOR, 4, 4⟩
def DM_FLOOR.ORIGIN : Fld := ⟨DM_FLOOR, 8, 14⟩
def DM_FLOOR_AGE : Nat := 0x40C0001C
def DM_FLOOR_AGE.AGE : Fld := ⟨DM_FLOOR_AGE, 0, 32⟩
def DM_PDK_CFG : Nat := 0x40C00020
def DM_PDK_CFG.SKEW : Fld := ⟨DM_PDK_CFG, 0, 9⟩
def DM_PDK_STAT : Nat := 0x40C00024
def DM_PDK_STAT.DEPTH : Fld := ⟨DM_PDK_STAT, 0, 14⟩
def DM_PDK_CNT : Nat := 0x40C00028
def DM_PDK_CNT.LATE : Fld := ⟨DM_PDK_CNT, 0, 16⟩
def DM_PDK_CNT.FULL : Fld := ⟨DM_PDK_CNT, 16, 16⟩
def DM_EVT : Nat := 0x40C0002C
def DM_EVT.LIMIT : Fld := ⟨DM_EVT, 0, 1⟩
def DM_EVT.LOOP : Fld := ⟨DM_EVT, 1, 1⟩
def DM_EVT.ROLE_CONFLICT : Fld := ⟨DM_EVT, 2, 1⟩
def DM_EVT.DUP_ADDR : Fld := ⟨DM_EVT, 3, 1⟩
def DM_EVT.PDK_LATE : Fld := ⟨DM_EVT, 4, 1⟩
def DM_EVT.PDK_FULL : Fld := ⟨DM_EVT, 5, 1⟩
def DM_EVT.FLOOR_DROP : Fld := ⟨DM_EVT, 6, 1⟩
def DM_EVT.FAILOVER : Fld := ⟨DM_EVT, 7, 1⟩
def DM_EVT_CNT0 : Nat := 0x40C00030
def DM_EVT_CNT0.LIMIT_CNT : Fld := ⟨DM_EVT_CNT0, 0, 8⟩
def DM_EVT_CNT0.LOOP_CNT : Fld := ⟨DM_EVT_CNT0, 8, 8⟩
def DM_EVT_CNT0.ROLE_CONFLICT_CNT : Fld := ⟨DM_EVT_CNT0, 16, 8⟩
def DM_EVT_CNT0.DUP_ADDR_CNT : Fld := ⟨DM_EVT_CNT0, 24, 8⟩
def DM_EVT_CNT1 : Nat := 0x40C00034
def DM_EVT_CNT1.PDK_LATE_CNT : Fld := ⟨DM_EVT_CNT1, 0, 8⟩
def DM_EVT_CNT1.PDK_FULL_CNT : Fld := ⟨DM_EVT_CNT1, 8, 8⟩
def DM_EVT_CNT1.FLOOR_DROP_CNT : Fld := ⟨DM_EVT_CNT1, 16, 8⟩
def DM_EVT_CNT1.FAILOVER_CNT : Fld := ⟨DM_EVT_CNT1, 24, 8⟩
def DM_GM : Nat := 0x40C00040
def DM_GM.PRIORITY : Fld := ⟨DM_GM, 0, 8⟩
def DM_GM.CLASS : Fld := ⟨DM_GM, 8, 8⟩
def DM_GM.CAPABLE : Fld := ⟨DM_GM, 16, 1⟩
def DM_GM_STAT : Nat := 0x40C00044
def DM_GM_STAT.STEPS : Fld := ⟨DM_GM_STAT, 0, 8⟩
def DM_GM_STAT.IS_GM : Fld := ⟨DM_GM_STAT, 8, 1⟩
def DM_GM_STAT.MASTER : Fld := ⟨DM_GM_STAT, 16, 6⟩
def DM_GM_UID_LO : Nat := 0x40C00048
def DM_GM_UID_LO.UID : Fld := ⟨DM_GM_UID_LO, 0, 32⟩
def DM_GM_UID_HI : Nat := 0x40C0004C
def DM_GM_UID_HI.UID : Fld := ⟨DM_GM_UID_HI, 0, 32⟩
def DM_POS_LO : Nat := 0x40C00050
def DM_POS_LO.HELD : Fld := ⟨DM_POS_LO, 0, 32⟩
def DM_POS_HI : Nat := 0x40C00054
def DM_POS_HI.HELD : Fld := ⟨DM_POS_HI, 0, 32⟩
def DM_MC_HELD : Nat := 0x40C00058
def DM_MC_HELD.COPIES : Fld := ⟨DM_MC_HELD, 0, 32⟩
def DM_PEER (i : Nat) : Nat := 0x40C00060 + 4 * i
def DM_PEER.ADDR (i : Nat) : Fld := ⟨DM_PEER i, 0, 14⟩
def DM_PEER.VALID (i : Nat) : Fld := ⟨DM_PEER i, 14, 1⟩
def DM_PEER.REDUNDANT (i : Nat) : Fld := ⟨DM_PEER i, 15, 1⟩
def DM_PEER.VER (i : Nat) : Fld := ⟨DM_PEER i, 16, 4⟩
def DM_SRT (i : Nat) : Nat := 0x40C00400 + 4 * i
def DM_SRT.PORT (i : Nat) : Fld := ⟨DM_SRT i, 0, 3⟩
def DM_SRT.ALT (i : Nat) : Fld := ⟨DM_SRT i, 3, 3⟩
def DM_MCW (i : Nat) : Nat := 0x40C00800 + 4 * i
def DM_MCW.WIDE (i : Nat) : Fld := ⟨DM_MCW i, 0, 32⟩
def DM_RT (i : Nat) : Nat := 0x40C10000 + 4 * i
def DM_RT.PORT (i : Nat) : Fld := ⟨DM_RT i, 0, 3⟩
def DM_RT.ALT (i : Nat) : Fld := ⟨DM_RT i, 3, 3⟩

def Ev.DM_LIMIT : Evt := ⟨DM_EVT.LIMIT, DM_EVT_CNT0.LIMIT_CNT, 23, 0, 0x2C, 1⟩
def Ev.DM_LOOP : Evt := ⟨DM_EVT.LOOP, DM_EVT_CNT0.LOOP_CNT, 23, 0, 0x2C, 1⟩
def Ev.DM_ROLE_CONFLICT : Evt := ⟨DM_EVT.ROLE_CONFLICT, DM_EVT_CNT0.ROLE_CONFLICT_CNT, 23, 0, 0x2C, 1⟩
def Ev.DM_DUP_ADDR : Evt := ⟨DM_EVT.DUP_ADDR, DM_EVT_CNT0.DUP_ADDR_CNT, 23, 0, 0x2C, 1⟩
def Ev.DM_PDK_LATE : Evt := ⟨DM_EVT.PDK_LATE, DM_EVT_CNT1.PDK_LATE_CNT, 23, 0, 0x2C, 2⟩
def Ev.DM_PDK_FULL : Evt := ⟨DM_EVT.PDK_FULL, DM_EVT_CNT1.PDK_FULL_CNT, 23, 0, 0x2C, 2⟩
def Ev.DM_FLOOR_DROP : Evt := ⟨DM_EVT.FLOOR_DROP, DM_EVT_CNT1.FLOOR_DROP_CNT, 23, 0, 0x2C, 2⟩
def Ev.DM_FAILOVER : Evt := ⟨DM_EVT.FAILOVER, DM_EVT_CNT1.FAILOVER_CNT, 23, 0, 0x2C, 1⟩

def catDM0 : List RegSpec :=
  [⟨0, 1, 4, 0xA0000, [⟨0, 8, .st, []⟩, ⟨8, 1, .st, []⟩, ⟨16, 8, .st, []⟩]⟩,
   ⟨4, 1, 4, 0, [⟨0, 6, .st, []⟩, ⟨8, 6, .st, []⟩]⟩,
   ⟨8, 1, 4, 0x700000, [⟨0, 14, .ro, []⟩, ⟨14, 1, .ro, []⟩, ⟨16, 3, .ro, []⟩, ⟨20, 3, .ro, []⟩]⟩,
   ⟨0x10, 1, 4, 0, [⟨0, 32, .ro, []⟩]⟩,
   ⟨0x14, 1, 4, 0, [⟨0, 32, .ro, []⟩]⟩,
   ⟨0x18, 1, 4, 0x33, [⟨0, 4, .ro, []⟩, ⟨4, 4, .ro, []⟩, ⟨8, 14, .ro, []⟩]⟩,
   ⟨0x1C, 1, 4, 0, [⟨0, 32, .ro, []⟩]⟩,
   ⟨0x20, 1, 4, 0x32, [⟨0, 9, .st, []⟩]⟩]
def catDM1 : List RegSpec :=
  [⟨0x24, 1, 4, 0, [⟨0, 14, .ro, []⟩]⟩,
   ⟨0x28, 1, 4, 0, [⟨0, 16, .rc, []⟩, ⟨16, 16, .rc, []⟩]⟩,
   ⟨0x2C, 1, 4, 0, [⟨0, 1, .w1c, []⟩, ⟨1, 1, .w1c, []⟩, ⟨2, 1, .w1c, []⟩, ⟨3, 1, .w1c, []⟩, ⟨4, 1, .w1c, []⟩, ⟨5, 1, .w1c, []⟩, ⟨6, 1, .w1c, []⟩, ⟨7, 1, .w1c, []⟩]⟩,
   ⟨0x30, 1, 4, 0, [⟨0, 8, .cnt, []⟩, ⟨8, 8, .cnt, []⟩, ⟨16, 8, .cnt, []⟩, ⟨24, 8, .cnt, []⟩]⟩,
   ⟨0x34, 1, 4, 0, [⟨0, 8, .cnt, []⟩, ⟨8, 8, .cnt, []⟩, ⟨16, 8, .cnt, []⟩, ⟨24, 8, .cnt, []⟩]⟩,
   ⟨0x40, 1, 4, 0xF880, [⟨0, 8, .st, []⟩, ⟨8, 8, .st, []⟩, ⟨16, 1, .st, []⟩]⟩,
   ⟨0x44, 1, 4, 0, [⟨0, 8, .ro, []⟩, ⟨8, 1, .ro, []⟩, ⟨16, 6, .ro, []⟩]⟩,
   ⟨0x48, 1, 4, 0, [⟨0, 32, .ro, []⟩]⟩]
def catDM2 : List RegSpec :=
  [⟨0x4C, 1, 4, 0, [⟨0, 32, .ro, []⟩]⟩,
   ⟨0x50, 1, 4, 0, [⟨0, 32, .ro, []⟩]⟩,
   ⟨0x54, 1, 4, 0, [⟨0, 32, .ro, []⟩]⟩,
   ⟨0x58, 1, 4, 0, [⟨0, 32, .rc, []⟩]⟩,
   ⟨0x60, 6, 4, 0, [⟨0, 14, .ro, []⟩, ⟨14, 1, .ro, []⟩, ⟨15, 1, .ro, []⟩, ⟨16, 4, .ro, []⟩]⟩,
   ⟨0x400, 256, 4, 0x3F, [⟨0, 3, .st, []⟩, ⟨3, 3, .st, []⟩]⟩,
   ⟨0x800, 128, 4, 0, [⟨0, 32, .st, []⟩]⟩,
   ⟨0x10000, 16384, 4, 0x3F, [⟨0, 3, .rw, []⟩, ⟨3, 3, .rw, []⟩]⟩]
/-- The catalogue of block DM, by offset. -/
def catDM : List RegSpec := catDM0 ++ catDM1 ++ catDM2

end Sys2Proof.Machine
end

