-- ==== Sys2Proof/Machine/RegsPlatform.lean ====
section
/-!
DEFINITION. The registers of the blocks GC, CK, PS, BG, KS, BT, TM under the names the spec gives them:
an address for every register (R467, R472 to R495), a field for every field of its table, an event for every
flag with its count (R10) and its severity (R455), and the catalogue rows the bus decodes an address with.
-/

namespace Sys2Proof.Machine

/-! ### GC: global control (R358, R416, R448, R473) -/

def GC_ID : Nat := 0x40000000
def GC_ID.PART : Fld := ⟨GC_ID, 0, 16⟩
def GC_ID.STEP : Fld := ⟨GC_ID, 16, 8⟩
def GC_ID.ROM : Fld := ⟨GC_ID, 24, 8⟩
def GC_CFG : Nat := 0x40000004
def GC_CFG.GATED_ACCESS : Fld := ⟨GC_CFG, 0, 1⟩
def GC_CLKEN : Nat := 0x40000008
def GC_CLKEN.PORT : Fld := ⟨GC_CLKEN, 0, 6⟩
def GC_CLKEN.ENGINES : Fld := ⟨GC_CLKEN, 6, 1⟩
def GC_CLKEN.SW : Fld := ⟨GC_CLKEN, 7, 1⟩
def GC_CLKEN.AL : Fld := ⟨GC_CLKEN, 8, 1⟩
def GC_CLKEN.DS : Fld := ⟨GC_CLKEN, 9, 4⟩
def GC_CLKEN.MC : Fld := ⟨GC_CLKEN, 13, 1⟩
def GC_CLKEN.PB : Fld := ⟨GC_CLKEN, 14, 2⟩
def GC_CLKEN.SB : Fld := ⟨GC_CLKEN, 16, 1⟩
def GC_CLKEN.UH : Fld := ⟨GC_CLKEN, 17, 1⟩
def GC_CLKEN.EN : Fld := ⟨GC_CLKEN, 18, 2⟩
def GC_CLKEN.DM : Fld := ⟨GC_CLKEN, 20, 1⟩
def GC_CLKEN.TM : Fld := ⟨GC_CLKEN, 21, 1⟩
def GC_CLKEN.KS : Fld := ⟨GC_CLKEN, 22, 1⟩
def GC_CLKEN.BT : Fld := ⟨GC_CLKEN, 23, 1⟩
def GC_CLKEN.ALWAYS_ON : Fld := ⟨GC_CLKEN, 24, 1⟩
def GC_RST : Nat := 0x4000000C
def GC_RST.WARM : Fld := ⟨GC_RST, 0, 1⟩
def GC_RST.PORT : Fld := ⟨GC_RST, 8, 6⟩
def GC_RST_CAUSE : Nat := 0x40000010
def GC_RST_CAUSE.LAST : Fld := ⟨GC_RST_CAUSE, 0, 4⟩
def GC_RST_CAUSE.WARM_CNT : Fld := ⟨GC_RST_CAUSE, 8, 8⟩
def GC_STRAP : Nat := 0x40000014
def GC_STRAP.STRAPS : Fld := ⟨GC_STRAP, 0, 16⟩
def GC_WDT : Nat := 0x40000018
def GC_WDT.EN : Fld := ⟨GC_WDT, 0, 1⟩
def GC_WDT.ACT : Fld := ⟨GC_WDT, 1, 1⟩
def GC_WDT.KICK : Fld := ⟨GC_WDT, 2, 1⟩
def GC_WDT.TMO : Fld := ⟨GC_WDT, 16, 16⟩
def GC_EVT : Nat := 0x4000001C
def GC_EVT.GATED : Fld := ⟨GC_EVT, 0, 1⟩
def GC_EVT.WDT : Fld := ⟨GC_EVT, 1, 1⟩
def GC_EVT.ST_WRITE : Fld := ⟨GC_EVT, 2, 1⟩
def GC_EVT_CNT : Nat := 0x40000020
def GC_EVT_CNT.GATED_CNT : Fld := ⟨GC_EVT_CNT, 0, 8⟩
def GC_EVT_CNT.WDT_CNT : Fld := ⟨GC_EVT_CNT, 8, 8⟩
def GC_EVT_CNT.ST_WRITE_CNT : Fld := ⟨GC_EVT_CNT, 16, 8⟩
def GC_GATED_ADDR : Nat := 0x40000024
def GC_GATED_ADDR.ADDR : Fld := ⟨GC_GATED_ADDR, 0, 32⟩
def GC_ST_ADDR : Nat := 0x40000028
def GC_ST_ADDR.ADDR : Fld := ⟨GC_ST_ADDR, 0, 32⟩
def GC_CMD_CFG : Nat := 0x40000100
def GC_CMD_CFG.SMB_ADDR : Fld := ⟨GC_CMD_CFG, 0, 7⟩
def GC_CMD_CFG.SMB_PEC : Fld := ⟨GC_CMD_CFG, 8, 1⟩
def GC_CMD_CFG.A0_EN : Fld := ⟨GC_CMD_CFG, 9, 1⟩
def GC_CMD_CFG.CSV_MAX : Fld := ⟨GC_CMD_CFG, 16, 4⟩
def GC_CMD_STAT : Nat := 0x40000104
def GC_CMD_STAT.A0_Q : Fld := ⟨GC_CMD_STAT, 0, 4⟩
def GC_CMD_STAT.USB_Q : Fld := ⟨GC_CMD_STAT, 4, 4⟩
def GC_CMD_STAT.SMB_Q : Fld := ⟨GC_CMD_STAT, 8, 4⟩
def GC_CMD_STAT.RUNNING : Fld := ⟨GC_CMD_STAT, 12, 3⟩
def GC_CMD_STAT.ALERT : Fld := ⟨GC_CMD_STAT, 15, 1⟩
def GC_CMD_EVT : Nat := 0x40000108
def GC_CMD_EVT.FRAME_ERR : Fld := ⟨GC_CMD_EVT, 0, 1⟩
def GC_CMD_EVT.QUEUE_FULL : Fld := ⟨GC_CMD_EVT, 1, 1⟩
def GC_CMD_EVT.SEQ_CONFLICT : Fld := ⟨GC_CMD_EVT, 2, 1⟩
def GC_CMD_EVT.REPEAT : Fld := ⟨GC_CMD_EVT, 3, 1⟩
def GC_CMD_EVT.RELAY_LATE : Fld := ⟨GC_CMD_EVT, 4, 1⟩
def GC_CMD_EVT_CNT0 : Nat := 0x4000010C
def GC_CMD_EVT_CNT0.FRAME_ERR_CNT : Fld := ⟨GC_CMD_EVT_CNT0, 0, 8⟩
def GC_CMD_EVT_CNT0.QUEUE_FULL_CNT : Fld := ⟨GC_CMD_EVT_CNT0, 8, 8⟩
def GC_CMD_EVT_CNT0.SEQ_CONFLICT_CNT : Fld := ⟨GC_CMD_EVT_CNT0, 16, 8⟩
def GC_CMD_EVT_CNT0.REPEAT_CNT : Fld := ⟨GC_CMD_EVT_CNT0, 24, 8⟩
def GC_CMD_EVT_CNT1 : Nat := 0x40000110
def GC_CMD_EVT_CNT1.RELAY_LATE_CNT : Fld := ⟨GC_CMD_EVT_CNT1, 0, 8⟩
def GC_CMD_A0 : Nat := 0x40000114
def GC_CMD_A0.COUNT : Fld := ⟨GC_CMD_A0, 0, 32⟩
def GC_CMD_SMB : Nat := 0x40000118
def GC_CMD_SMB.COUNT : Fld := ⟨GC_CMD_SMB, 0, 32⟩
def GC_CMD_LAST : Nat := 0x4000011C
def GC_CMD_LAST.OPCODE : Fld := ⟨GC_CMD_LAST, 0, 16⟩
def GC_CMD_LAST.STATUS : Fld := ⟨GC_CMD_LAST, 16, 8⟩
def GC_CMD_LAST.TRANSPORT : Fld := ⟨GC_CMD_LAST, 24, 2⟩
def GC_IMG_STAT : Nat := 0x40000300
def GC_IMG_STAT.SLOT : Fld := ⟨GC_IMG_STAT, 0, 2⟩
def GC_IMG_STAT.STATE : Fld := ⟨GC_IMG_STAT, 2, 2⟩
def GC_IMG_STAT.STATUS_A : Fld := ⟨GC_IMG_STAT, 8, 8⟩
def GC_IMG_STAT.STATUS_B : Fld := ⟨GC_IMG_STAT, 16, 8⟩
def GC_IMG_REL : Nat := 0x40000304
def GC_IMG_REL.RELEASE : Fld := ⟨GC_IMG_REL, 0, 32⟩
def GC_IMG_INFO : Nat := 0x40000308
def GC_IMG_INFO.SVN : Fld := ⟨GC_IMG_INFO, 0, 6⟩
def GC_IMG_INFO.ROLE : Fld := ⟨GC_IMG_INFO, 6, 1⟩
def GC_IMG_INFO.RECORDS : Fld := ⟨GC_IMG_INFO, 16, 16⟩
def GC_TXN_CFG : Nat := 0x40000310
def GC_TXN_CFG.DRAIN : Fld := ⟨GC_TXN_CFG, 0, 8⟩
def GC_TXN_STAT : Nat := 0x40000314
def GC_TXN_STAT.OPEN : Fld := ⟨GC_TXN_STAT, 0, 3⟩
def GC_TXN_STAT.COMMITTING : Fld := ⟨GC_TXN_STAT, 3, 1⟩
def GC_TXN_STAT.HELD : Fld := ⟨GC_TXN_STAT, 16, 15⟩
def GC_TXN_EVT : Nat := 0x40000318
def GC_TXN_EVT.IDLE_RB : Fld := ⟨GC_TXN_EVT, 0, 1⟩
def GC_TXN_EVT.VAL_FAIL : Fld := ⟨GC_TXN_EVT, 1, 1⟩
def GC_TXN_EVT.DRAIN_TMO : Fld := ⟨GC_TXN_EVT, 2, 1⟩
def GC_TXN_EVT.IMG_FALLBACK : Fld := ⟨GC_TXN_EVT, 3, 1⟩
def GC_TXN_EVT_CNT : Nat := 0x4000031C
def GC_TXN_EVT_CNT.IDLE_RB_CNT : Fld := ⟨GC_TXN_EVT_CNT, 0, 8⟩
def GC_TXN_EVT_CNT.VAL_FAIL_CNT : Fld := ⟨GC_TXN_EVT_CNT, 8, 8⟩
def GC_TXN_EVT_CNT.DRAIN_TMO_CNT : Fld := ⟨GC_TXN_EVT_CNT, 16, 8⟩
def GC_TXN_EVT_CNT.IMG_FALLBACK_CNT : Fld := ⟨GC_TXN_EVT_CNT, 24, 8⟩
def GC_QUIET : Nat := 0x40000320
def GC_QUIET.QUIET_NS : Fld := ⟨GC_QUIET, 0, 16⟩
def GC_QUIET.DRAIN_US : Fld := ⟨GC_QUIET, 16, 16⟩
def GC_COMMITS : Nat := 0x40000324
def GC_COMMITS.COUNT : Fld := ⟨GC_COMMITS, 0, 32⟩

def Ev.GC_GATED : Evt := ⟨GC_EVT.GATED, GC_EVT_CNT.GATED_CNT, 3, 0, 0x1C, 1⟩
def Ev.GC_WDT : Evt := ⟨GC_EVT.WDT, GC_EVT_CNT.WDT_CNT, 3, 0, 0x1C, 3⟩
def Ev.GC_ST_WRITE : Evt := ⟨GC_EVT.ST_WRITE, GC_EVT_CNT.ST_WRITE_CNT, 3, 0, 0x1C, 1⟩
def Ev.GC_FRAME_ERR : Evt := ⟨GC_CMD_EVT.FRAME_ERR, GC_CMD_EVT_CNT0.FRAME_ERR_CNT, 3, 0, 0x108, 1⟩
def Ev.GC_QUEUE_FULL : Evt := ⟨GC_CMD_EVT.QUEUE_FULL, GC_CMD_EVT_CNT0.QUEUE_FULL_CNT, 3, 0, 0x108, 1⟩
def Ev.GC_SEQ_CONFLICT : Evt := ⟨GC_CMD_EVT.SEQ_CONFLICT, GC_CMD_EVT_CNT0.SEQ_CONFLICT_CNT, 3, 0, 0x108, 1⟩
def Ev.GC_REPEAT : Evt := ⟨GC_CMD_EVT.REPEAT, GC_CMD_EVT_CNT0.REPEAT_CNT, 3, 0, 0x108, 1⟩
def Ev.GC_RELAY_LATE : Evt := ⟨GC_CMD_EVT.RELAY_LATE, GC_CMD_EVT_CNT1.RELAY_LATE_CNT, 3, 0, 0x108, 1⟩
def Ev.GC_IDLE_RB : Evt := ⟨GC_TXN_EVT.IDLE_RB, GC_TXN_EVT_CNT.IDLE_RB_CNT, 3, 0, 0x318, 1⟩
def Ev.GC_VAL_FAIL : Evt := ⟨GC_TXN_EVT.VAL_FAIL, GC_TXN_EVT_CNT.VAL_FAIL_CNT, 3, 0, 0x318, 2⟩
def Ev.GC_DRAIN_TMO : Evt := ⟨GC_TXN_EVT.DRAIN_TMO, GC_TXN_EVT_CNT.DRAIN_TMO_CNT, 3, 0, 0x318, 2⟩
def Ev.GC_IMG_FALLBACK : Evt := ⟨GC_TXN_EVT.IMG_FALLBACK, GC_TXN_EVT_CNT.IMG_FALLBACK_CNT, 3, 0, 0x318, 1⟩

def catGC0 : List RegSpec :=
  [⟨0, 1, 4, 0x30B00860, [⟨0, 16, .ro, []⟩, ⟨16, 8, .ro, []⟩, ⟨24, 8, .ro, []⟩]⟩,
   ⟨4, 1, 4, 0, [⟨0, 1, .st, []⟩]⟩,
   ⟨8, 1, 4, 0x1000000, [⟨0, 6, .rw, []⟩, ⟨6, 1, .rw, []⟩, ⟨7, 1, .rw, []⟩, ⟨8, 1, .rw, []⟩, ⟨9, 4, .rw, []⟩, ⟨13, 1, .rw, []⟩, ⟨14, 2, .rw, []⟩, ⟨16, 1, .rw, []⟩, ⟨17, 1, .rw, []⟩, ⟨18, 2, .rw, []⟩, ⟨20, 1, .rw, []⟩, ⟨21, 1, .rw, []⟩, ⟨22, 1, .rw, []⟩, ⟨23, 1, .rw, []⟩, ⟨24, 1, .ro, []⟩]⟩,
   ⟨0xC, 1, 4, 0, [⟨0, 1, .wo, []⟩, ⟨8, 6, .wo, []⟩]⟩,
   ⟨0x10, 1, 4, 1, [⟨0, 4, .ro, []⟩, ⟨8, 8, .ro, []⟩]⟩,
   ⟨0x14, 1, 4, 0, [⟨0, 16, .ro, []⟩]⟩,
   ⟨0x18, 1, 4, 0x3E80000, [⟨0, 1, .rw, []⟩, ⟨1, 1, .rw, []⟩, ⟨2, 1, .wo, []⟩, ⟨16, 16, .rw, []⟩]⟩,
   ⟨0x1C, 1, 4, 0, [⟨0, 1, .w1c, []⟩, ⟨1, 1, .w1c, []⟩, ⟨2, 1, .w1c, []⟩]⟩]
def catGC1 : List RegSpec :=
  [⟨0x20, 1, 4, 0, [⟨0, 8, .cnt, []⟩, ⟨8, 8, .cnt, []⟩, ⟨16, 8, .cnt, []⟩]⟩,
   ⟨0x24, 1, 4, 0, [⟨0, 32, .ro, []⟩]⟩,
   ⟨0x28, 1, 4, 0, [⟨0, 32, .ro, []⟩]⟩,
   ⟨0x100, 1, 4, 0x30200, [⟨0, 7, .ro, []⟩, ⟨8, 1, .st, []⟩, ⟨9, 1, .st, []⟩, ⟨16, 4, .ro, []⟩]⟩,
   ⟨0x104, 1, 4, 0, [⟨0, 4, .ro, []⟩, ⟨4, 4, .ro, []⟩, ⟨8, 4, .ro, []⟩, ⟨12, 3, .ro, []⟩, ⟨15, 1, .ro, []⟩]⟩,
   ⟨0x108, 1, 4, 0, [⟨0, 1, .w1c, []⟩, ⟨1, 1, .w1c, []⟩, ⟨2, 1, .w1c, []⟩, ⟨3, 1, .w1c, []⟩, ⟨4, 1, .w1c, []⟩]⟩,
   ⟨0x10C, 1, 4, 0, [⟨0, 8, .cnt, []⟩, ⟨8, 8, .cnt, []⟩, ⟨16, 8, .cnt, []⟩, ⟨24, 8, .cnt, []⟩]⟩,
   ⟨0x110, 1, 4, 0, [⟨0, 8, .cnt, []⟩]⟩]
def catGC2 : List RegSpec :=
  [⟨0x114, 1, 4, 0, [⟨0, 32, .ro, []⟩]⟩,
   ⟨0x118, 1, 4, 0, [⟨0, 32, .ro, []⟩]⟩,
   ⟨0x11C, 1, 4, 0, [⟨0, 16, .ro, []⟩, ⟨16, 8, .ro, []⟩, ⟨24, 2, .ro, []⟩]⟩,
   ⟨0x300, 1, 4, 0xFFFF03, [⟨0, 2, .ro, []⟩, ⟨2, 2, .ro, []⟩, ⟨8, 8, .ro, []⟩, ⟨16, 8, .ro, []⟩]⟩,
   ⟨0x304, 1, 4, 0, [⟨0, 32, .ro, []⟩]⟩,
   ⟨0x308, 1, 4, 0, [⟨0, 6, .ro, []⟩, ⟨6, 1, .ro, []⟩, ⟨16, 16, .ro, []⟩]⟩,
   ⟨0x310, 1, 4, 0xA, [⟨0, 8, .st, []⟩]⟩,
   ⟨0x314, 1, 4, 0, [⟨0, 3, .ro, []⟩, ⟨3, 1, .ro, []⟩, ⟨16, 15, .ro, []⟩]⟩]
def catGC3 : List RegSpec :=
  [⟨0x318, 1, 4, 0, [⟨0, 1, .w1c, []⟩, ⟨1, 1, .w1c, []⟩, ⟨2, 1, .w1c, []⟩, ⟨3, 1, .w1c, []⟩]⟩,
   ⟨0x31C, 1, 4, 0, [⟨0, 8, .cnt, []⟩, ⟨8, 8, .cnt, []⟩, ⟨16, 8, .cnt, []⟩, ⟨24, 8, .cnt, []⟩]⟩,
   ⟨0x320, 1, 4, 0, [⟨0, 16, .ro, []⟩, ⟨16, 16, .ro, []⟩]⟩,
   ⟨0x324, 1, 4, 0, [⟨0, 32, .ro, []⟩]⟩]
/-- The catalogue of block GC, by offset. -/
def catGC : List RegSpec := catGC0 ++ catGC1 ++ catGC2 ++ catGC3

/-! ### CK: clocks (R359, R474) -/

def CK_CFG : Nat := 0x40010000
def CK_CFG.TRIM_EN : Fld := ⟨CK_CFG, 0, 1⟩
def CK_CFG.TRIM_SRC : Fld := ⟨CK_CFG, 1, 1⟩
def CK_STAT : Nat := 0x40010004
def CK_STAT.REF_OK : Fld := ⟨CK_STAT, 0, 1⟩
def CK_STAT.ROOT_LOCK : Fld := ⟨CK_STAT, 1, 1⟩
def CK_STAT.ON_PLL : Fld := ⟨CK_STAT, 2, 1⟩
def CK_STAT.TRIM_SOF : Fld := ⟨CK_STAT, 3, 1⟩
def CK_STAT.LANE_LOCK : Fld := ⟨CK_STAT, 4, 6⟩
def CK_STAT.PIX_LOCK : Fld := ⟨CK_STAT, 10, 4⟩
def CK_STAT.ETH_LOCK : Fld := ⟨CK_STAT, 14, 2⟩
def CK_STAT.USB_LOCK : Fld := ⟨CK_STAT, 16, 1⟩
def CK_STAT.PCIE_LOCK : Fld := ⟨CK_STAT, 17, 2⟩
def CK_RC : Nat := 0x40010008
def CK_RC.TRIM : Fld := ⟨CK_RC, 0, 8⟩
def CK_RC.FUSED : Fld := ⟨CK_RC, 8, 8⟩
def CK_REFCNT : Nat := 0x4001000C
def CK_REFCNT.COUNT : Fld := ⟨CK_REFCNT, 0, 16⟩
def CK_EVT : Nat := 0x40010010
def CK_EVT.REF_LOSS : Fld := ⟨CK_EVT, 0, 1⟩
def CK_EVT.REF_FAIL : Fld := ⟨CK_EVT, 1, 1⟩
def CK_EVT.PLL_UNLOCK : Fld := ⟨CK_EVT, 2, 1⟩
def CK_EVT.MON : Fld := ⟨CK_EVT, 3, 1⟩
def CK_EVT.LANE_PLL : Fld := ⟨CK_EVT, 4, 1⟩
def CK_EVT.PIX_PLL : Fld := ⟨CK_EVT, 5, 1⟩
def CK_EVT.RC_TRIM : Fld := ⟨CK_EVT, 6, 1⟩
def CK_EVT_CNT0 : Nat := 0x40010014
def CK_EVT_CNT0.REF_LOSS_CNT : Fld := ⟨CK_EVT_CNT0, 0, 8⟩
def CK_EVT_CNT0.REF_FAIL_CNT : Fld := ⟨CK_EVT_CNT0, 8, 8⟩
def CK_EVT_CNT0.PLL_UNLOCK_CNT : Fld := ⟨CK_EVT_CNT0, 16, 8⟩
def CK_EVT_CNT0.MON_CNT : Fld := ⟨CK_EVT_CNT0, 24, 8⟩
def CK_EVT_CNT1 : Nat := 0x40010018
def CK_EVT_CNT1.LANE_PLL_CNT : Fld := ⟨CK_EVT_CNT1, 0, 8⟩
def CK_EVT_CNT1.PIX_PLL_CNT : Fld := ⟨CK_EVT_CNT1, 8, 8⟩
def CK_EVT_CNT1.RC_TRIM_CNT : Fld := ⟨CK_EVT_CNT1, 16, 8⟩
def CK_MON_SRC : Nat := 0x4001001C
def CK_MON_SRC.CLOCK : Fld := ⟨CK_MON_SRC, 0, 3⟩

def Ev.CK_REF_LOSS : Evt := ⟨CK_EVT.REF_LOSS, CK_EVT_CNT0.REF_LOSS_CNT, 4, 0, 0x10, 3⟩
def Ev.CK_REF_FAIL : Evt := ⟨CK_EVT.REF_FAIL, CK_EVT_CNT0.REF_FAIL_CNT, 4, 0, 0x10, 3⟩
def Ev.CK_PLL_UNLOCK : Evt := ⟨CK_EVT.PLL_UNLOCK, CK_EVT_CNT0.PLL_UNLOCK_CNT, 4, 0, 0x10, 3⟩
def Ev.CK_MON : Evt := ⟨CK_EVT.MON, CK_EVT_CNT0.MON_CNT, 4, 0, 0x10, 3⟩
def Ev.CK_LANE_PLL : Evt := ⟨CK_EVT.LANE_PLL, CK_EVT_CNT1.LANE_PLL_CNT, 4, 0, 0x10, 1⟩
def Ev.CK_PIX_PLL : Evt := ⟨CK_EVT.PIX_PLL, CK_EVT_CNT1.PIX_PLL_CNT, 4, 0, 0x10, 1⟩
def Ev.CK_RC_TRIM : Evt := ⟨CK_EVT.RC_TRIM, CK_EVT_CNT1.RC_TRIM_CNT, 4, 0, 0x10, 1⟩

def catCK0 : List RegSpec :=
  [⟨0, 1, 4, 1, [⟨0, 1, .rw, []⟩, ⟨1, 1, .st, []⟩]⟩,
   ⟨4, 1, 4, 0, [⟨0, 1, .ro, []⟩, ⟨1, 1, .ro, []⟩, ⟨2, 1, .ro, []⟩, ⟨3, 1, .ro, []⟩, ⟨4, 6, .ro, []⟩, ⟨10, 4, .ro, []⟩, ⟨14, 2, .ro, []⟩, ⟨16, 1, .ro, []⟩, ⟨17, 2, .ro, []⟩]⟩,
   ⟨8, 1, 4, 0, [⟨0, 8, .ro, []⟩, ⟨8, 8, .ro, []⟩]⟩,
   ⟨0xC, 1, 4, 0, [⟨0, 16, .ro, []⟩]⟩,
   ⟨0x10, 1, 4, 0, [⟨0, 1, .w1c, []⟩, ⟨1, 1, .w1c, []⟩, ⟨2, 1, .w1c, []⟩, ⟨3, 1, .w1c, []⟩, ⟨4, 1, .w1c, []⟩, ⟨5, 1, .w1c, []⟩, ⟨6, 1, .w1c, []⟩]⟩,
   ⟨0x14, 1, 4, 0, [⟨0, 8, .cnt, []⟩, ⟨8, 8, .cnt, []⟩, ⟨16, 8, .cnt, []⟩, ⟨24, 8, .cnt, []⟩]⟩,
   ⟨0x18, 1, 4, 0, [⟨0, 8, .cnt, []⟩, ⟨8, 8, .cnt, []⟩, ⟨16, 8, .cnt, []⟩]⟩,
   ⟨0x1C, 1, 4, 0, [⟨0, 3, .ro, []⟩]⟩]
/-- The catalogue of block CK, by offset. -/
def catCK : List RegSpec := catCK0

/-! ### PS: power states (R373, R475) -/

def PS_CTRL : Nat := 0x40020000
def PS_CTRL.TARGET : Fld := ⟨PS_CTRL, 0, 2⟩
def PS_CTRL.GO : Fld := ⟨PS_CTRL, 2, 1⟩
def PS_CFG : Nat := 0x40020004
def PS_CFG.WAKE_TO : Fld := ⟨PS_CFG, 0, 1⟩
def PS_CFG.IDLE_T : Fld := ⟨PS_CFG, 8, 8⟩
def PS_CFG.MAX_WAIT : Fld := ⟨PS_CFG, 16, 8⟩
def PS_CFG.OSC_STOP : Fld := ⟨PS_CFG, 24, 1⟩
def PS_STAT : Nat := 0x40020008
def PS_STAT.STATE : Fld := ⟨PS_STAT, 0, 2⟩
def PS_STAT.ENTERING : Fld := ⟨PS_STAT, 2, 1⟩
def PS_STAT.WAKING : Fld := ⟨PS_STAT, 3, 1⟩
def PS_DOM : Nat := 0x4002000C
def PS_DOM.ON : Fld := ⟨PS_DOM, 0, 22⟩
def PS_REFUSE : Nat := 0x40020010
def PS_REFUSE.BLOCKS : Fld := ⟨PS_REFUSE, 0, 21⟩
def PS_WAKE_EN : Nat := 0x40020014
def PS_WAKE_EN.SRC : Fld := ⟨PS_WAKE_EN, 0, 22⟩
def PS_WAKE_SRC : Nat := 0x40020018
def PS_WAKE_SRC.SRC : Fld := ⟨PS_WAKE_SRC, 0, 22⟩
def PS_WAKE_TS_S : Nat := 0x4002001C
def PS_WAKE_TS_S.VALUE : Fld := ⟨PS_WAKE_TS_S, 0, 32⟩
def PS_WAKE_TS_NS : Nat := 0x40020020
def PS_WAKE_TS_NS.VALUE : Fld := ⟨PS_WAKE_TS_NS, 0, 30⟩
def PS_EVT : Nat := 0x40020024
def PS_EVT.REFUSED : Fld := ⟨PS_EVT, 0, 1⟩
def PS_EVT.ENTRY_TMO : Fld := ⟨PS_EVT, 1, 1⟩
def PS_EVT.WAKE : Fld := ⟨PS_EVT, 2, 1⟩
def PS_EVT.ABANDONED : Fld := ⟨PS_EVT, 3, 1⟩
def PS_EVT_CNT : Nat := 0x40020028
def PS_EVT_CNT.REFUSED_CNT : Fld := ⟨PS_EVT_CNT, 0, 8⟩
def PS_EVT_CNT.ENTRY_TMO_CNT : Fld := ⟨PS_EVT_CNT, 8, 8⟩
def PS_EVT_CNT.WAKE_CNT : Fld := ⟨PS_EVT_CNT, 16, 8⟩
def PS_EVT_CNT.ABANDONED_CNT : Fld := ⟨PS_EVT_CNT, 24, 8⟩
def PS_STALL : Nat := 0x4002002C
def PS_STALL.US : Fld := ⟨PS_STALL, 0, 16⟩
def PS_WAKE_TMR : Nat := 0x40020030
def PS_WAKE_TMR.MS : Fld := ⟨PS_WAKE_TMR, 0, 32⟩

def Ev.PS_REFUSED : Evt := ⟨PS_EVT.REFUSED, PS_EVT_CNT.REFUSED_CNT, 5, 0, 0x24, 1⟩
def Ev.PS_ENTRY_TMO : Evt := ⟨PS_EVT.ENTRY_TMO, PS_EVT_CNT.ENTRY_TMO_CNT, 5, 0, 0x24, 2⟩
def Ev.PS_WAKE : Evt := ⟨PS_EVT.WAKE, PS_EVT_CNT.WAKE_CNT, 5, 0, 0x24, 1⟩
def Ev.PS_ABANDONED : Evt := ⟨PS_EVT.ABANDONED, PS_EVT_CNT.ABANDONED_CNT, 5, 0, 0x24, 1⟩

def catPS0 : List RegSpec :=
  [⟨0, 1, 4, 0, [⟨0, 2, .wo, []⟩, ⟨2, 1, .wo, []⟩]⟩,
   ⟨4, 1, 4, 0x1320A00, [⟨0, 1, .st, []⟩, ⟨8, 8, .st, []⟩, ⟨16, 8, .st, []⟩, ⟨24, 1, .st, []⟩]⟩,
   ⟨8, 1, 4, 0, [⟨0, 2, .ro, []⟩, ⟨2, 1, .ro, []⟩, ⟨3, 1, .ro, []⟩]⟩,
   ⟨0xC, 1, 4, 1, [⟨0, 22, .ro, []⟩]⟩,
   ⟨0x10, 1, 4, 0, [⟨0, 21, .ro, []⟩]⟩,
   ⟨0x14, 1, 4, 0x3FFFFF, [⟨0, 22, .rw, []⟩]⟩,
   ⟨0x18, 1, 4, 0, [⟨0, 22, .ro, []⟩]⟩,
   ⟨0x1C, 1, 4, 0, [⟨0, 32, .ro, []⟩]⟩]
def catPS1 : List RegSpec :=
  [⟨0x20, 1, 4, 0, [⟨0, 30, .ro, []⟩]⟩,
   ⟨0x24, 1, 4, 0, [⟨0, 1, .w1c, []⟩, ⟨1, 1, .w1c, []⟩, ⟨2, 1, .w1c, []⟩, ⟨3, 1, .w1c, []⟩]⟩,
   ⟨0x28, 1, 4, 0, [⟨0, 8, .cnt, []⟩, ⟨8, 8, .cnt, []⟩, ⟨16, 8, .cnt, []⟩, ⟨24, 8, .cnt, []⟩]⟩,
   ⟨0x2C, 1, 4, 0, [⟨0, 16, .rc, []⟩]⟩,
   ⟨0x30, 1, 4, 0, [⟨0, 32, .rw, []⟩]⟩]
/-- The catalogue of block PS, by offset. -/
def catPS : List RegSpec := catPS0 ++ catPS1

/-! ### BG: bridle gates, gate g (R392, R476) -/

def BG_R_BASE (g i : Nat) : Nat := 0x40030000 + 0x800 * g + 0x10 * i
def BG_R_BASE.ADDR (g i : Nat) : Fld := ⟨BG_R_BASE g i, 0, 28⟩
def BG_R_LIMIT (g i : Nat) : Nat := 0x40030004 + 0x800 * g + 0x10 * i
def BG_R_LIMIT.ADDR (g i : Nat) : Fld := ⟨BG_R_LIMIT g i, 0, 28⟩
def BG_R_PERM (g i : Nat) : Nat := 0x40030008 + 0x800 * g + 0x10 * i
def BG_R_PERM.PERM (g i : Nat) : Fld := ⟨BG_R_PERM g i, 0, 15⟩
def BG_R_PERM.EN (g i : Nat) : Fld := ⟨BG_R_PERM g i, 15, 1⟩
def BG_R_PERM.LOCK (g i : Nat) : Fld := ⟨BG_R_PERM g i, 16, 1⟩
def BG_R_PERM.UNLOCKABLE (g i : Nat) : Fld := ⟨BG_R_PERM g i, 17, 1⟩
def BG_R_PERM.UNLOCKED (g i : Nat) : Fld := ⟨BG_R_PERM g i, 18, 1⟩
def BG_STAT (g : Nat) : Nat := 0x40030400 + 0x800 * g
def BG_STAT.DRAIN (g : Nat) : Fld := ⟨BG_STAT g, 0, 1⟩
def BG_STAT.VIOL (g : Nat) : Fld := ⟨BG_STAT g, 1, 1⟩
def BG_STAT.VIOL_CNT (g : Nat) : Fld := ⟨BG_STAT g, 8, 8⟩
def BG_VIOL_INFO (g : Nat) : Nat := 0x40030404 + 0x800 * g
def BG_VIOL_INFO.KIND (g : Nat) : Fld := ⟨BG_VIOL_INFO g, 0, 2⟩
def BG_VIOL_INFO.SIZE (g : Nat) : Fld := ⟨BG_VIOL_INFO g, 2, 3⟩
def BG_VIOL_INFO.PRIV (g : Nat) : Fld := ⟨BG_VIOL_INFO g, 5, 3⟩
def BG_VIOL_INFO.MASTER (g : Nat) : Fld := ⟨BG_VIOL_INFO g, 8, 8⟩
def BG_VIOL_INFO.REGION (g : Nat) : Fld := ⟨BG_VIOL_INFO g, 16, 7⟩
def BG_VIOL_INFO.LOCKED (g : Nat) : Fld := ⟨BG_VIOL_INFO g, 23, 1⟩
def BG_VIOL_INFO.VALID (g : Nat) : Fld := ⟨BG_VIOL_INFO g, 31, 1⟩
def BG_VIOL_ADDR_LO (g : Nat) : Nat := 0x40030408 + 0x800 * g
def BG_VIOL_ADDR_LO.VALUE (g : Nat) : Fld := ⟨BG_VIOL_ADDR_LO g, 0, 32⟩
def BG_VIOL_ADDR_HI (g : Nat) : Nat := 0x4003040C + 0x800 * g
def BG_VIOL_ADDR_HI.VALUE (g : Nat) : Fld := ⟨BG_VIOL_ADDR_HI g, 0, 8⟩
def BG_VIOL_TS_S (g : Nat) : Nat := 0x40030410 + 0x800 * g
def BG_VIOL_TS_S.VALUE (g : Nat) : Fld := ⟨BG_VIOL_TS_S g, 0, 32⟩
def BG_VIOL_TS_NS (g : Nat) : Nat := 0x40030414 + 0x800 * g
def BG_VIOL_TS_NS.VALUE (g : Nat) : Fld := ⟨BG_VIOL_TS_NS g, 0, 30⟩
def BG_VIOL_MORE (g : Nat) : Nat := 0x40030418 + 0x800 * g
def BG_VIOL_MORE.VALUE (g : Nat) : Fld := ⟨BG_VIOL_MORE g, 0, 32⟩

def Ev.BG_VIOL (g : Nat) : Evt := ⟨BG_STAT.VIOL g, BG_STAT.VIOL_CNT g, 6, g, 0x400, 3⟩

def catBG0 : List RegSpec :=
  [⟨0, 64, 0x10, 0, [⟨0, 28, .st, []⟩]⟩,
   ⟨4, 64, 0x10, 0, [⟨0, 28, .st, []⟩]⟩,
   ⟨8, 64, 0x10, 0, [⟨0, 15, .st, []⟩, ⟨15, 1, .st, []⟩, ⟨16, 1, .stRws, []⟩, ⟨17, 1, .stRws, []⟩, ⟨18, 1, .ro, []⟩]⟩,
   ⟨0x400, 1, 4, 1, [⟨0, 1, .ro, []⟩, ⟨1, 1, .w1c, []⟩, ⟨8, 8, .cnt, []⟩]⟩,
   ⟨0x404, 1, 4, 0, [⟨0, 2, .ro, []⟩, ⟨2, 3, .ro, []⟩, ⟨5, 3, .ro, []⟩, ⟨8, 8, .ro, []⟩, ⟨16, 7, .ro, []⟩, ⟨23, 1, .ro, []⟩, ⟨31, 1, .w1c, []⟩]⟩,
   ⟨0x408, 1, 4, 0, [⟨0, 32, .ro, []⟩]⟩,
   ⟨0x40C, 1, 4, 0, [⟨0, 8, .ro, []⟩]⟩,
   ⟨0x410, 1, 4, 0, [⟨0, 32, .ro, []⟩]⟩]
def catBG1 : List RegSpec :=
  [⟨0x414, 1, 4, 0, [⟨0, 30, .ro, []⟩]⟩,
   ⟨0x418, 1, 4, 0, [⟨0, 32, .rc, []⟩]⟩]
/-- The catalogue of block BG, by offset. -/
def catBG : List RegSpec := catBG0 ++ catBG1

/-! ### KS: key unit and fuse shadow (R391, R478) -/

def KS_CTRL : Nat := 0x40040000
def KS_CTRL.OP : Fld := ⟨KS_CTRL, 0, 4⟩
def KS_CTRL.ATTR : Fld := ⟨KS_CTRL, 4, 2⟩
def KS_CTRL.START : Fld := ⟨KS_CTRL, 6, 1⟩
def KS_STAT : Nat := 0x40040004
def KS_STAT.BUSY : Fld := ⟨KS_STAT, 0, 1⟩
def KS_STAT.LOADED : Fld := ⟨KS_STAT, 1, 1⟩
def KS_STAT.ATTR : Fld := ⟨KS_STAT, 2, 2⟩
def KS_STAT.STATUS : Fld := ⟨KS_STAT, 4, 8⟩
def KS_STAT.GEN : Fld := ⟨KS_STAT, 16, 16⟩
def KS_SRC : Nat := 0x40040008
def KS_SRC.VALUE : Fld := ⟨KS_SRC, 0, 32⟩
def KS_DST : Nat := 0x4004000C
def KS_DST.VALUE : Fld := ⟨KS_DST, 0, 32⟩
def KS_LEN : Nat := 0x40040010
def KS_LEN.VALUE : Fld := ⟨KS_LEN, 0, 16⟩
def KS_KEY (i : Nat) : Nat := 0x40040020 + 4 * i
def KS_KEY.VALUE (i : Nat) : Fld := ⟨KS_KEY i, 0, 32⟩
def KS_KCV : Nat := 0x40040040
def KS_KCV.VALUE : Fld := ⟨KS_KCV, 0, 32⟩
def KS_EVT : Nat := 0x40040044
def KS_EVT.KCV_FAIL : Fld := ⟨KS_EVT, 0, 1⟩
def KS_EVT.ATTR_DENY : Fld := ⟨KS_EVT, 1, 1⟩
def KS_EVT.PATCH_FAIL : Fld := ⟨KS_EVT, 2, 1⟩
def KS_EVT.RNG_FAIL : Fld := ⟨KS_EVT, 3, 1⟩
def KS_EVT.DBG_FAIL : Fld := ⟨KS_EVT, 4, 1⟩
def KS_EVT.DBG_UNLOCK : Fld := ⟨KS_EVT, 5, 1⟩
def KS_EVT_CNT0 : Nat := 0x40040048
def KS_EVT_CNT0.KCV_FAIL_CNT : Fld := ⟨KS_EVT_CNT0, 0, 8⟩
def KS_EVT_CNT0.ATTR_DENY_CNT : Fld := ⟨KS_EVT_CNT0, 8, 8⟩
def KS_EVT_CNT0.PATCH_FAIL_CNT : Fld := ⟨KS_EVT_CNT0, 16, 8⟩
def KS_EVT_CNT0.RNG_FAIL_CNT : Fld := ⟨KS_EVT_CNT0, 24, 8⟩
def KS_EVT_CNT1 : Nat := 0x4004004C
def KS_EVT_CNT1.DBG_FAIL_CNT : Fld := ⟨KS_EVT_CNT1, 0, 8⟩
def KS_EVT_CNT1.DBG_UNLOCK_CNT : Fld := ⟨KS_EVT_CNT1, 8, 8⟩
def KS_DBG_STAT : Nat := 0x40040050
def KS_DBG_STAT.UNLOCKED : Fld := ⟨KS_DBG_STAT, 0, 1⟩
def KS_DBG_STAT.LOCKOUT : Fld := ⟨KS_DBG_STAT, 1, 1⟩
def KS_DBG_STAT.FAILS : Fld := ⟨KS_DBG_STAT, 2, 2⟩
def KS_DBG_SCOPE : Nat := 0x40040054
def KS_DBG_SCOPE.SCOPE : Fld := ⟨KS_DBG_SCOPE, 0, 32⟩
def KS_ROMKH (i : Nat) : Nat := 0x40041000 + 4 * i
def KS_ROMKH.HASH (i : Nat) : Fld := ⟨KS_ROMKH i, 0, 32⟩
def KS_DBGKH (i : Nat) : Nat := 0x40041030 + 4 * i
def KS_DBGKH.HASH (i : Nat) : Fld := ⟨KS_DBGKH i, 0, 32⟩
def KS_IMG_MIN : Nat := 0x40041060
def KS_IMG_MIN.COUNT : Fld := ⟨KS_IMG_MIN, 0, 32⟩
def KS_PATCH_MIN : Nat := 0x40041064
def KS_PATCH_MIN.COUNT : Fld := ⟨KS_PATCH_MIN, 0, 16⟩
def KS_FUSE_MISC : Nat := 0x40041068
def KS_FUSE_MISC.DBG_DISABLE : Fld := ⟨KS_FUSE_MISC, 0, 1⟩

def Ev.KS_KCV_FAIL : Evt := ⟨KS_EVT.KCV_FAIL, KS_EVT_CNT0.KCV_FAIL_CNT, 7, 0, 0x44, 3⟩
def Ev.KS_ATTR_DENY : Evt := ⟨KS_EVT.ATTR_DENY, KS_EVT_CNT0.ATTR_DENY_CNT, 7, 0, 0x44, 1⟩
def Ev.KS_PATCH_FAIL : Evt := ⟨KS_EVT.PATCH_FAIL, KS_EVT_CNT0.PATCH_FAIL_CNT, 7, 0, 0x44, 3⟩
def Ev.KS_RNG_FAIL : Evt := ⟨KS_EVT.RNG_FAIL, KS_EVT_CNT0.RNG_FAIL_CNT, 7, 0, 0x44, 3⟩
def Ev.KS_DBG_FAIL : Evt := ⟨KS_EVT.DBG_FAIL, KS_EVT_CNT1.DBG_FAIL_CNT, 7, 0, 0x44, 3⟩
def Ev.KS_DBG_UNLOCK : Evt := ⟨KS_EVT.DBG_UNLOCK, KS_EVT_CNT1.DBG_UNLOCK_CNT, 7, 0, 0x44, 2⟩

def catKS0 : List RegSpec :=
  [⟨0, 1, 4, 0, [⟨0, 4, .wo, []⟩, ⟨4, 2, .wo, []⟩, ⟨6, 1, .wo, []⟩]⟩,
   ⟨4, 1, 4, 0, [⟨0, 1, .ro, []⟩, ⟨1, 1, .ro, []⟩, ⟨2, 2, .ro, []⟩, ⟨4, 8, .ro, []⟩, ⟨16, 16, .ro, []⟩]⟩,
   ⟨8, 1, 4, 0, [⟨0, 32, .rw, []⟩]⟩,
   ⟨0xC, 1, 4, 0, [⟨0, 32, .rw, []⟩]⟩,
   ⟨0x10, 1, 4, 0, [⟨0, 16, .rw, []⟩]⟩,
   ⟨0x20, 8, 4, 0, [⟨0, 32, .wo, []⟩]⟩,
   ⟨0x40, 1, 4, 0, [⟨0, 32, .wo, []⟩]⟩,
   ⟨0x44, 1, 4, 0, [⟨0, 1, .w1c, []⟩, ⟨1, 1, .w1c, []⟩, ⟨2, 1, .w1c, []⟩, ⟨3, 1, .w1c, []⟩, ⟨4, 1, .w1c, []⟩, ⟨5, 1, .w1c, []⟩]⟩]
def catKS1 : List RegSpec :=
  [⟨0x48, 1, 4, 0, [⟨0, 8, .cnt, []⟩, ⟨8, 8, .cnt, []⟩, ⟨16, 8, .cnt, []⟩, ⟨24, 8, .cnt, []⟩]⟩,
   ⟨0x4C, 1, 4, 0, [⟨0, 8, .cnt, []⟩, ⟨8, 8, .cnt, []⟩]⟩,
   ⟨0x50, 1, 4, 0, [⟨0, 1, .ro, []⟩, ⟨1, 1, .ro, []⟩, ⟨2, 2, .ro, []⟩]⟩,
   ⟨0x54, 1, 4, 0, [⟨0, 32, .ro, []⟩]⟩,
   ⟨0x1000, 12, 4, 0, [⟨0, 32, .ro, []⟩]⟩,
   ⟨0x1030, 12, 4, 0, [⟨0, 32, .ro, []⟩]⟩,
   ⟨0x1060, 1, 4, 0, [⟨0, 32, .ro, []⟩]⟩,
   ⟨0x1064, 1, 4, 0, [⟨0, 16, .ro, []⟩]⟩]
def catKS2 : List RegSpec :=
  [⟨0x1068, 1, 4, 0, [⟨0, 1, .ro, []⟩]⟩]
/-- The catalogue of block KS, by offset. -/
def catKS : List RegSpec := catKS0 ++ catKS1 ++ catKS2

/-! ### BT: self-test and log (R461, R479) -/

def BT_CTRL : Nat := 0x40050000
def BT_CTRL.BLOCK : Fld := ⟨BT_CTRL, 0, 5⟩
def BT_CTRL.START : Fld := ⟨BT_CTRL, 5, 1⟩
def BT_STAT : Nat := 0x40050004
def BT_STAT.LAST : Fld := ⟨BT_STAT, 0, 5⟩
def BT_STAT.BUSY : Fld := ⟨BT_STAT, 5, 1⟩
def BT_STAT.MATCH : Fld := ⟨BT_STAT, 6, 1⟩
def BT_MISR : Nat := 0x40050008
def BT_MISR.SIG : Fld := ⟨BT_MISR, 0, 32⟩
def BT_EVT : Nat := 0x4005000C
def BT_EVT.MISMATCH : Fld := ⟨BT_EVT, 0, 1⟩
def BT_EVT.REFUSED : Fld := ⟨BT_EVT, 1, 1⟩
def BT_EVT.NOTIFY_LOST : Fld := ⟨BT_EVT, 2, 1⟩
def BT_EVT_CNT : Nat := 0x40050010
def BT_EVT_CNT.MISMATCH_CNT : Fld := ⟨BT_EVT_CNT, 0, 8⟩
def BT_EVT_CNT.REFUSED_CNT : Fld := ⟨BT_EVT_CNT, 8, 8⟩
def BT_EVT_CNT.NOTIFY_LOST_CNT : Fld := ⟨BT_EVT_CNT, 16, 8⟩
def BT_REF (i : Nat) : Nat := 0x40050040 + 4 * i
def BT_REF.SIG (i : Nat) : Fld := ⟨BT_REF i, 0, 32⟩
def BT_LOG_HEAD : Nat := 0x40050100
def BT_LOG_HEAD.VALUE : Fld := ⟨BT_LOG_HEAD, 0, 32⟩
def BT_LOG_OLDEST : Nat := 0x40050104
def BT_LOG_OLDEST.VALUE : Fld := ⟨BT_LOG_OLDEST, 0, 32⟩
def BT_LOG_LOST : Nat := 0x40050108
def BT_LOG_LOST.VALUE : Fld := ⟨BT_LOG_LOST, 0, 32⟩
def BT_INT_EN : Nat := 0x40050110
def BT_INT_EN.BLOCKS : Fld := ⟨BT_INT_EN, 0, 26⟩
def BT_INT_STAT : Nat := 0x40050114
def BT_INT_STAT.BLOCKS : Fld := ⟨BT_INT_STAT, 0, 26⟩

def Ev.BT_MISMATCH : Evt := ⟨BT_EVT.MISMATCH, BT_EVT_CNT.MISMATCH_CNT, 8, 0, 0xC, 3⟩
def Ev.BT_REFUSED : Evt := ⟨BT_EVT.REFUSED, BT_EVT_CNT.REFUSED_CNT, 8, 0, 0xC, 1⟩
def Ev.BT_NOTIFY_LOST : Evt := ⟨BT_EVT.NOTIFY_LOST, BT_EVT_CNT.NOTIFY_LOST_CNT, 8, 0, 0xC, 1⟩

def catBT0 : List RegSpec :=
  [⟨0, 1, 4, 0, [⟨0, 5, .rw, [(0, 20)]⟩, ⟨5, 1, .wo, []⟩]⟩,
   ⟨4, 1, 4, 0, [⟨0, 5, .ro, []⟩, ⟨5, 1, .ro, []⟩, ⟨6, 1, .ro, []⟩]⟩,
   ⟨8, 1, 4, 0, [⟨0, 32, .ro, []⟩]⟩,
   ⟨0xC, 1, 4, 0, [⟨0, 1, .w1c, []⟩, ⟨1, 1, .w1c, []⟩, ⟨2, 1, .w1c, []⟩]⟩,
   ⟨0x10, 1, 4, 0, [⟨0, 8, .cnt, []⟩, ⟨8, 8, .cnt, []⟩, ⟨16, 8, .cnt, []⟩]⟩,
   ⟨0x40, 21, 4, 0, [⟨0, 32, .st, []⟩]⟩,
   ⟨0x100, 1, 4, 0, [⟨0, 32, .ro, []⟩]⟩,
   ⟨0x104, 1, 4, 0, [⟨0, 32, .ro, []⟩]⟩]
def catBT1 : List RegSpec :=
  [⟨0x108, 1, 4, 0, [⟨0, 32, .rc, []⟩]⟩,
   ⟨0x110, 1, 4, 0, [⟨0, 26, .rw, []⟩]⟩,
   ⟨0x114, 1, 4, 0, [⟨0, 26, .ro, []⟩]⟩]
/-- The catalogue of block BT, by offset. -/
def catBT : List RegSpec := catBT0 ++ catBT1

/-! ### TM: time (R299, R480) -/

def TM_NS : Nat := 0x40060000
def TM_NS.NS : Fld := ⟨TM_NS, 0, 30⟩
def TM_FRAC : Nat := 0x40060004
def TM_FRAC.FRAC : Fld := ⟨TM_FRAC, 0, 32⟩
def TM_SEC_LO : Nat := 0x40060008
def TM_SEC_LO.SEC : Fld := ⟨TM_SEC_LO, 0, 32⟩
def TM_SEC_HI : Nat := 0x4006000C
def TM_SEC_HI.SEC : Fld := ⟨TM_SEC_HI, 0, 16⟩
def TM_INC_NOM_NS : Nat := 0x40060010
def TM_INC_NOM_NS.NS : Fld := ⟨TM_INC_NOM_NS, 0, 4⟩
def TM_INC_NOM_FRAC : Nat := 0x40060014
def TM_INC_NOM_FRAC.FRAC : Fld := ⟨TM_INC_NOM_FRAC, 0, 32⟩
def TM_INC_EFF_NS : Nat := 0x40060018
def TM_INC_EFF_NS.NS : Fld := ⟨TM_INC_EFF_NS, 0, 4⟩
def TM_INC_EFF_FRAC : Nat := 0x4006001C
def TM_INC_EFF_FRAC.FRAC : Fld := ⟨TM_INC_EFF_FRAC, 0, 32⟩
def TM_SRC : Nat := 0x40060020
def TM_SRC.SRC : Fld := ⟨TM_SRC, 0, 2⟩
def TM_SRC.EXT_STEP : Fld := ⟨TM_SRC, 2, 1⟩
def TM_SRC.LOCK_CLASS : Fld := ⟨TM_SRC, 8, 8⟩
def TM_SRC.HOLD_CLASS : Fld := ⟨TM_SRC, 16, 8⟩
def TM_SRC.LOCK_NS : Fld := ⟨TM_SRC, 24, 8⟩
def TM_SERVO : Nat := 0x40060024
def TM_SERVO.KP_SH : Fld := ⟨TM_SERVO, 0, 4⟩
def TM_SERVO.KI_SH : Fld := ⟨TM_SERVO, 4, 4⟩
def TM_SERVO.MAX_PPM : Fld := ⟨TM_SERVO, 8, 10⟩
def TM_SERVO.STEP_THR : Fld := ⟨TM_SERVO, 18, 10⟩
def TM_FREQ : Nat := 0x40060028
def TM_FREQ.FREQ : Fld := ⟨TM_FREQ, 0, 32⟩
def TM_OFS : Nat := 0x4006002C
def TM_OFS.OFS : Fld := ⟨TM_OFS, 0, 32⟩
def TM_STAT : Nat := 0x40060030
def TM_STAT.ACQUIRED : Fld := ⟨TM_STAT, 0, 1⟩
def TM_STAT.SRC_LOCK : Fld := ⟨TM_STAT, 1, 1⟩
def TM_STAT.HOLDOVER : Fld := ⟨TM_STAT, 2, 1⟩
def TM_STAT.INPORT : Fld := ⟨TM_STAT, 3, 3⟩
def TM_STAT.KIND : Fld := ⟨TM_STAT, 6, 2⟩
def TM_EVT : Nat := 0x40060034
def TM_EVT.STEP : Fld := ⟨TM_EVT, 0, 1⟩
def TM_EVT.SRC_LOSS : Fld := ⟨TM_EVT, 1, 1⟩
def TM_EVT.SLEW_LIMIT : Fld := ⟨TM_EVT, 2, 1⟩
def TM_EVT.PPS_MISS : Fld := ⟨TM_EVT, 3, 1⟩
def TM_EVT_CNT : Nat := 0x40060038
def TM_EVT_CNT.STEP_CNT : Fld := ⟨TM_EVT_CNT, 0, 8⟩
def TM_EVT_CNT.SRC_LOSS_CNT : Fld := ⟨TM_EVT_CNT, 8, 8⟩
def TM_EVT_CNT.SLEW_LIMIT_CNT : Fld := ⟨TM_EVT_CNT, 16, 8⟩
def TM_EVT_CNT.PPS_MISS_CNT : Fld := ⟨TM_EVT_CNT, 24, 8⟩
def TM_SET_NS : Nat := 0x40060040
def TM_SET_NS.NS : Fld := ⟨TM_SET_NS, 0, 30⟩
def TM_SET_SEC_LO : Nat := 0x40060044
def TM_SET_SEC_LO.SEC : Fld := ⟨TM_SET_SEC_LO, 0, 32⟩
def TM_SET_SEC_HI : Nat := 0x40060048
def TM_SET_SEC_HI.SEC : Fld := ⟨TM_SET_SEC_HI, 0, 16⟩
def TM_CMD : Nat := 0x4006004C
def TM_CMD.STEP : Fld := ⟨TM_CMD, 0, 1⟩
def TM_PPS : Nat := 0x40060050
def TM_PPS.OUT_EN : Fld := ⟨TM_PPS, 0, 1⟩
def TM_PPS.IN_EN : Fld := ⟨TM_PPS, 1, 1⟩
def TM_PPS.WIDTH : Fld := ⟨TM_PPS, 8, 8⟩
def TM_PPS_IN_NS : Nat := 0x40060054
def TM_PPS_IN_NS.NS : Fld := ⟨TM_PPS_IN_NS, 0, 30⟩
def TM_PPS_IN_SEC : Nat := 0x40060058
def TM_PPS_IN_SEC.SEC : Fld := ⟨TM_PPS_IN_SEC, 0, 32⟩

def Ev.TM_STEP : Evt := ⟨TM_EVT.STEP, TM_EVT_CNT.STEP_CNT, 9, 0, 0x34, 1⟩
def Ev.TM_SRC_LOSS : Evt := ⟨TM_EVT.SRC_LOSS, TM_EVT_CNT.SRC_LOSS_CNT, 9, 0, 0x34, 2⟩
def Ev.TM_SLEW_LIMIT : Evt := ⟨TM_EVT.SLEW_LIMIT, TM_EVT_CNT.SLEW_LIMIT_CNT, 9, 0, 0x34, 1⟩
def Ev.TM_PPS_MISS : Evt := ⟨TM_EVT.PPS_MISS, TM_EVT_CNT.PPS_MISS_CNT, 9, 0, 0x34, 1⟩

def catTM0 : List RegSpec :=
  [⟨0, 1, 4, 0, [⟨0, 30, .ro, []⟩]⟩,
   ⟨4, 1, 4, 0, [⟨0, 32, .ro, []⟩]⟩,
   ⟨8, 1, 4, 0, [⟨0, 32, .ro, []⟩]⟩,
   ⟨0xC, 1, 4, 0, [⟨0, 16, .ro, []⟩]⟩,
   ⟨0x10, 1, 4, 6, [⟨0, 4, .st, []⟩]⟩,
   ⟨0x14, 1, 4, 0x66666666, [⟨0, 32, .st, []⟩]⟩,
   ⟨0x18, 1, 4, 6, [⟨0, 4, .ro, []⟩]⟩,
   ⟨0x1C, 1, 4, 0x66666666, [⟨0, 32, .ro, []⟩]⟩]
def catTM1 : List RegSpec :=
  [⟨0x20, 1, 4, 0xA070600, [⟨0, 2, .st, []⟩, ⟨2, 1, .st, []⟩, ⟨8, 8, .st, []⟩, ⟨16, 8, .st, []⟩, ⟨24, 8, .st, []⟩]⟩,
   ⟨0x24, 1, 4, 0x4C841, [⟨0, 4, .st, []⟩, ⟨4, 4, .st, []⟩, ⟨8, 10, .st, [(1, 500)]⟩, ⟨18, 10, .st, [(1, 1023)]⟩]⟩,
   ⟨0x28, 1, 4, 0, [⟨0, 32, .ro, []⟩]⟩,
   ⟨0x2C, 1, 4, 0, [⟨0, 32, .ro, []⟩]⟩,
   ⟨0x30, 1, 4, 0x38, [⟨0, 1, .ro, []⟩, ⟨1, 1, .ro, []⟩, ⟨2, 1, .ro, []⟩, ⟨3, 3, .ro, []⟩, ⟨6, 2, .ro, []⟩]⟩,
   ⟨0x34, 1, 4, 0, [⟨0, 1, .w1c, []⟩, ⟨1, 1, .w1c, []⟩, ⟨2, 1, .w1c, []⟩, ⟨3, 1, .w1c, []⟩]⟩,
   ⟨0x38, 1, 4, 0, [⟨0, 8, .cnt, []⟩, ⟨8, 8, .cnt, []⟩, ⟨16, 8, .cnt, []⟩, ⟨24, 8, .cnt, []⟩]⟩,
   ⟨0x40, 1, 4, 0, [⟨0, 30, .rw, []⟩]⟩]
def catTM2 : List RegSpec :=
  [⟨0x44, 1, 4, 0, [⟨0, 32, .rw, []⟩]⟩,
   ⟨0x48, 1, 4, 0, [⟨0, 16, .rw, []⟩]⟩,
   ⟨0x4C, 1, 4, 0, [⟨0, 1, .wo, []⟩]⟩,
   ⟨0x50, 1, 4, 0xA00, [⟨0, 1, .st, []⟩, ⟨1, 1, .st, []⟩, ⟨8, 8, .st, [(1, 255)]⟩]⟩,
   ⟨0x54, 1, 4, 0, [⟨0, 30, .ro, []⟩]⟩,
   ⟨0x58, 1, 4, 0, [⟨0, 32, .ro, []⟩]⟩]
/-- The catalogue of block TM, by offset. -/
def catTM : List RegSpec := catTM0 ++ catTM1 ++ catTM2

end Sys2Proof.Machine
end

