-- ==== Sys2Proof/Machine/RegMap.lean ====
section
/-!
DEFINITION. The management address space (R467): every block's range, its catalogue, its gate, clock enable and power
domain, the decoding of an address, and the reset value of every register.
-/

namespace Sys2Proof.Machine

/-- A register block of R467. `clk` and `clkDiv`: the bit of GC_CLKEN of instance i is clk + i / clkDiv (clkDiv 0: the bit is
clk; 24 is ALWAYS_ON). `dom` and `domDiv`: the bit of PS_DOM in the same way; 22 stands for the always-on domain. -/
structure Block where
  base : Nat
  stride : Nat
  count : Nat
  gate : Nat
  clk : Nat
  clkDiv : Nat
  dom : Nat
  domDiv : Nat
  cat : List RegSpec
  size : Nat
deriving DecidableEq, Repr

/-- The register blocks of R467, in address order. -/
def blocks : List Block :=
  [⟨0x40000000, 0x1000, 1, 3, 24, 0, 22, 0, catGC, 0x1000⟩, ⟨0x40010000, 0x1000, 1, 4, 24, 0, 22, 0, catCK, 0x1000⟩,
   ⟨0x40020000, 0x1000, 1, 5, 24, 0, 22, 0, catPS, 0x1000⟩, ⟨0x40030000, 0x800, 26, 6, 24, 0, 22, 0, catBG, 0x10000⟩,
   ⟨0x40040000, 0x2000, 1, 7, 22, 0, 20, 0, catKS, 0x2000⟩, ⟨0x40050000, 0x1000, 1, 8, 23, 0, 21, 0, catBT, 0x1000⟩,
   ⟨0x40060000, 0x1000, 1, 9, 21, 0, 19, 0, catTM, 0x1000⟩] ++
  [⟨0x40080000, 0x1000, 24, 10, 0, 4, 2, 4, catLN, 0x18000⟩, ⟨0x40100000, 0x4000, 6, 11, 0, 1, 1, 0, catCL, 0x18000⟩,
   ⟨0x40200000, 0x100, 256, 12, 6, 0, 1, 0, catTA, 0x10000⟩, ⟨0x40300000, 0x400, 32, 13, 6, 0, 1, 0, catSE, 0x8000⟩,
   ⟨0x40400000, 0x10000, 1, 14, 7, 0, 1, 0, catSW, 0x10000⟩, ⟨0x40500000, 0x1000, 1, 15, 8, 0, 1, 0, catAL, 0x1000⟩,
   ⟨0x40501000, 0x1000, 6, 15, 8, 0, 1, 0, catALP, 0x7000⟩, ⟨0x40508000, 0x1000, 1, 15, 8, 0, 1, 0, catPOL, 0x1000⟩] ++
  [⟨0x40600000, 0x4000, 4, 16, 9, 1, 8, 1, catDS, 0x10000⟩, ⟨0x40700000, 0x4000, 2, 17, 14, 1, 13, 1, catPB, 0x8000⟩,
   ⟨0x40780000, 0x1000, 1, 18, 16, 0, 18, 0, catSB, 0x1000⟩, ⟨0x40800000, 0x1000, 1, 19, 17, 0, 15, 0, catUH, 0x1000⟩,
   ⟨0x40900000, 0x4000, 2, 20, 18, 1, 16, 1, catEN, 0x8000⟩, ⟨0x40A00000, 0x1000, 6, 21, 24, 0, 22, 0, catPD, 0x8000⟩,
   ⟨0x40A08000, 0x1000, 1, 21, 24, 0, 22, 0, catPDB, 0x1000⟩, ⟨0x40B00000, 0x100, 8, 22, 24, 0, 22, 0, catEF, 0x800⟩,
   ⟨0x40C00000, 0x20000, 1, 23, 20, 0, 1, 0, catDM, 0x20000⟩, ⟨0x40D00000, 0x1000, 1, 24, 13, 0, 12, 0, catMC, 0x1000⟩]

/-- The block whose range holds address `a`. -/
def blockOf (a : Nat) : Option Block := blocks.find? (fun b => decide (b.base ≤ a ∧ a < b.base + b.size))

/-- The instance of a block that an address of its range falls into. -/
def Block.inst (b : Block) (a : Nat) : Nat := (a - b.base) / b.stride

/-- The GC_CLKEN bit and the PS_DOM bit of the instance an address falls into. -/
def Block.clkBit (b : Block) (a : Nat) : Nat := if b.clkDiv = 0 then b.clk else b.clk + b.inst a / b.clkDiv
def Block.domBit (b : Block) (a : Nat) : Nat := if b.domDiv = 0 then b.dom else b.dom + b.inst a / b.domDiv

/-- Whether a catalogue row covers an offset. -/
def RegSpec.covers (r : RegSpec) (o : Nat) : Bool :=
  decide (r.off ≤ o ∧ o < r.off + r.count * r.stride ∧ (o - r.off) % r.stride = 0)

/-- A row all of whose fields are read-only. -/
def RegSpec.readOnly (r : RegSpec) : RegSpec := { r with fields := r.fields.map fun f => { f with access := .ro } }

/-- What one instance has of a row: TA_CFG0, TA_PEER and TA_CFG1 of A0 are RO (R125), EF_MAIN and EF_CFG2 of F0 to F5 are reserved (R341),
LOSSLESS of SW_TC7 is RO (R148). -/
def RegSpec.atInstance (r : RegSpec) (a : Nat) : RegSpec :=
  if a = TA_CFG0 0 ∨ a = TA_PEER 0 ∨ a = TA_CFG1 0 then r.readOnly
  else if 0x40B00000 ≤ a ∧ a < 0x40B00600 ∧ (a % 0x100 = 4 ∨ a % 0x100 = 8) then { r with fields := [] }
  else if a = SW_TC 7 then { r with fields := r.fields.map fun f => if f.lo = 19 then { f with access := .ro } else f }
  else r

/-- The catalogue row of the register at address `a`; none where the register map assigns no register (R7). -/
def regSpecAt (a : Nat) : Option RegSpec :=
  match blockOf a with
  | none => none
  | some b =>
    if b.inst a < b.count then (b.cat.find? (fun r => r.covers ((a - b.base) % b.stride))).map fun r => r.atInstance a else none

/-- Reset values that differ between instances or come from elsewhere than the catalogue row: A0 (R105), SE_STAT.CLUSTER (R126),
TC 7 (R133), the first PDOs (R302), EF_MAIN and EF_CFG2 of F0 to F5 (R494), the signatures of the ROM (R451), the fixed
gate regions (R477; region 0 of gate 2 is written at the end of the patch check). -/
def resetSpecial (a : Nat) : Option Word :=
  if a = TA_CFG0 0 then some 0x000FA001#32
  else if a = SW_TC 7 then some 0x000E0000#32
  else if a = BG_R_LIMIT 0 0 then some 0x000000FF#32
  else if a = BG_R_PERM 0 0 then some 0x00018005#32
  else if a = BG_R_BASE 7 0 ∨ a = BG_R_LIMIT 7 0 then some 0x00040040#32
  else if a = BG_R_PERM 7 0 then some 0x000180C3#32
  else if a = BG_R_BASE 7 1 ∨ a = BG_R_LIMIT 7 1 then some 0x00040041#32
  else if a = BG_R_PERM 7 1 then some 0x00018041#32
  else if 0x40300000 ≤ a ∧ a < 0x40308000 ∧ a % 0x400 = 4 then some (BitVec.ofNat 32 ((a - 0x40300000) / 0x2000 * 0x10000))
  else if 0x40A00000 ≤ a ∧ a < 0x40A06000 ∧ (a % 0x1000 = 0x10 ∨ a % 0x1000 = 0x40) then some 0x0001912C#32
  else if 0x40B00000 ≤ a ∧ a < 0x40B00600 ∧ (a % 0x100 = 4 ∨ a % 0x100 = 8) then some 0#32
  else if BT_REF 0 ≤ a ∧ a ≤ BT_REF 20 ∧ a % 4 = 0 then some (Config.btRef ((a - BT_REF 0) / 4))
  else none

/-- The value a register holds after reset (R358 to R495). -/
def resetValue (a : Nat) : Word :=
  match resetSpecial a with
  | some w => w
  | none => match regSpecAt a with
    | some r => BitVec.ofNat 32 r.reset
    | none => 0#32

end Sys2Proof.Machine
end

