-- ==== Sys2Proof/Machine/Tab.lean ====
section
/-!
DEFINITION. Tables from numbers to values, held as plain data in one canonical form: keys strictly rising and no
entry equal to what an unlisted key reads as. Memory, flash, registers and the per-instance state are all kept so.
-/

namespace Sys2Proof.Machine

/-- A table: the listed keys in rising order, each with its value. -/
abbrev Tab (α : Type) := List (Nat × α)

/-- The value at key `k`; `d` is what an unlisted key reads as. -/
def Tab.get {α : Type} (d : α) : Tab α → Nat → α
  | [], _ => d
  | (j, v) :: t, k => if j = k then v else Tab.get d t k

/-- Remove key `k`. -/
def Tab.del {α : Type} : Tab α → Nat → Tab α
  | [], _ => []
  | (j, v) :: t, k => if j = k then Tab.del t k else (j, v) :: Tab.del t k

/-- List key `k` with value `v`, keeping the keys in order. -/
def Tab.ins {α : Type} : Tab α → Nat → α → Tab α
  | [], k, v => [(k, v)]
  | (j, w) :: t, k, v =>
    if j = k then (k, v) :: t else if k < j then (k, v) :: (j, w) :: t else (j, w) :: Tab.ins t k v

/-- Write `v` at key `k`; `d` is what `k` reads as when it is not listed. -/
def Tab.put {α : Type} [DecidableEq α] (d : α) (t : Tab α) (k : Nat) (v : α) : Tab α :=
  if v = d then Tab.del t k else Tab.ins t k v

/-- The keys rise strictly, and every key is above `b`. -/
def Tab.risesFrom {α : Type} : Nat → Tab α → Bool
  | _, [] => true
  | b, (j, _) :: t => decide (b ≤ j) && Tab.risesFrom (j + 1) t

/-- The canonical form: keys strictly rising, no entry equal to what its key reads as when unlisted. -/
def Tab.wf {α : Type} [DecidableEq α] (d : Nat → α) (t : Tab α) : Bool :=
  Tab.risesFrom 0 t && t.all (fun e => decide (e.2 ≠ d e.1))

end Sys2Proof.Machine
end

