-- ==== Sys2Proof/Machine/State.lean ====
section
/-!
DEFINITION. The state of the hub as plain data. Registers stand in one table by bus address (R467); what the spec gives the
hub beyond its registers stands in one structure per block. Everything the hub sends stands in `out`, newest last.
-/

namespace Sys2Proof.Machine

/-- What a command can meet that the hub cannot do. No command of this model answers one. -/
inductive Fault where
  /-- Raised by no command: the spec gives every command an effect. Safe. -/
  | none
deriving DecidableEq, Repr

/-- Why a command has no meaning. -/
inductive Refusal where
  /-- The command of this mnemonic has no meaning in the model yet. Safe: nothing follows from it. -/
  | notModelled (mnemonic : String)
deriving DecidableEq, Repr

/-! ### What the hub sends -/

/-- Everything that leaves the hub, by interface. -/
inductive Out where
  /-- A link control message on cable port `p` (R80): TYPE and the bytes from byte 4. -/
  | link (p : Nat) (type : Nat) (body : List Byte)
  /-- One 64-byte cell of any kind in a slot of cable port `p` (R65, R66). -/
  | cell (p : Nat) (bytes : List Byte)
  /-- What a lane begins to do (R54, R59, R61, R63, R100): 0 send nothing, 1 training frames, 2 lock pattern, 3 join marker, 4 data, 5 Stand pattern,
  6 wake pattern, 7 test pattern, 8 a burst (first bit inverted in the block, length), 9 load its stored equaliser sets (transmit, receive). -/
  | lane (n : Nat) (what : Nat) (args : List Nat)
  /-- The levels a lane drives for one block, or for the head of a test pattern (R30, R31, R61). -/
  | wave (n : Nat) (levels : List Int)
  /-- A USB PD message on port `p`, with its data words. -/
  | pd (p : Nat) (msg : PdMsg) (words : List Nat)
  /-- A native unit delivered to the local block of adapter `a`; `poisoned` as R124. -/
  | native (a : Nat) (bytes : List Byte) (poisoned : Bool)
  /-- A command response frame to its owner (R420). -/
  | response (o : Owner) (frame : List Byte)
  /-- A notification on a path (R456): 0 USB interrupt endpoint, 1 A0. -/
  | notify (path : Nat) (entry : List Byte)
  /-- The level of a pin of a kind and number: 1 Dd_HPD, 2 S (2: released), 3 Pb_PERST#, 4 UPWREN, 5 TPPS_OUT, 6 EF_GATE, 7 EF_PCG, 8 EF_PG, 9 the FRS signal on
  CC, 10 VBUS_DIS, 11 VCONN, 12 OSC_EN, 15 REG_EN, 16 and 17 the duties of REG_VSET and REG_ISET. -/
  | pin (id : Nat) (idx : Nat) (level : Nat)
  /-- An Ethernet frame of MAC `m` and how it ends (good FCS or inverted). -/
  | eth (m : Nat) (bytes : List Byte) (good : Bool)
  /-- A transaction on a native PCIe, USB, DisplayPort or I2C interface: interface, instance, code, data. -/
  | bus (iface : Nat) (inst : Nat) (code : Nat) (bytes : List Byte)
  /-- A read of the management bus answered, with `ok` false for a bus error. -/
  | busRead (ok : Bool) (value : Word)
  /-- A write of the management bus answered, with `ok` false for a bus error. -/
  | busWrite (ok : Bool)
deriving DecidableEq, Repr

/-! ### Lanes (R27 to R63) -/

/-- One lane, beyond its registers. Receiving: commas accepted in a row and expected markers missed (R35), blocks since the last marker position and the
BLOCK_CNT of that marker, the descrambler (R38), the symbols not yet in a codeword (R41), the first codeword it carries (R54), whether retraining is done and
its join marker is due (R56), corrected symbols of the last 1 ms with their uptime (R43), a checker's last count (R62). Training: twice the one-way flight
time in tenths of a ns (R46), qualification (0 pending, 1 pass, 2 fail, R47), adaptation done, the last frame received with its uptime, the next tag, the
status of the partner's last request (R45), the transmit set stored at Walk (R47, R52). Transmitting: blocks sent in training, the scrambler, symbols not
yet in a block, a join marker sent in this block period (R58), bursts due and what is left of one begun (R63), blocks since the last periodic one. -/
structure LaneSt where
  commas : Nat := 0
  missed : Nat := 0
  rxBlk : Nat := 0
  rxCnt : Nat := 0
  rxScr : BitVec 58 := 0
  rxq : List Sym := []
  rxFrom : Nat := 0
  joining : Bool := false
  recent : List (Nat × Nat) := []
  patAt : Nat := 0
  trip : Nat := 0
  qual : Nat := 0
  ready : Bool := false
  far : Option TrainFrame := none
  farAt : Nat := 0
  rtTag : Nat := 0
  txAck : Nat := 0
  walkEq : Word := 0#32
  txBlk : Nat := 0
  txScr : BitVec 58 := 0
  txq : List Sym := []
  joined : Bool := false
  shots : Nat := 0
  burst : Nat := 0
  injBlk : Nat := 0
deriving DecidableEq, Repr

/-- A lane action announced for a codeword (R54, R57, R59): kind 0 lead change, 1 restripe, 2 enter Stand, 3 enter Stable, 4 leave low power; the lane;
whether the direction named is this hub's transmit direction; its new POS; the codeword; whether the codeword has come; whether the far end announced it;
whether it waits for its own lane to leave low power, and so is never late (R58). -/
structure LaneAct where
  kind : Nat
  lane : Nat
  tx : Bool
  newPos : Nat := 0
  cw : Nat
  begun : Bool := false
  far : Bool := false
  noLate : Bool := false
deriving DecidableEq, Repr

/-- A packet arriving in cells on one class of a cable port (R67, R69): the number the switch knows it by, its bytes as they came, its packet
number and the PRK it is opened with, whether it is dropped at the link layer. -/
structure OpenRx where
  tc : Nat
  id : Nat
  raw : List Byte
  pn : Nat := 0
  prk : List Byte := []
  drop : Bool := false
deriving DecidableEq, Repr

/-- One cable port's link, beyond its registers. Training (R46 to R51): step, 5 while it waits to retry; the far GAIT_CAP, attempts, whether the PLL relocks
at the target gait. Striping (R31, R41): codewords of each direction since link-up; slots filled of the codeword in progress, its cells, its lanes by POS,
the residue of its first symbol; block periods since link-up; the lanes and residue of the codeword being received; the lane action in progress and those
held; a lane this end took whose LEAD_RESULT is due (R54). Parking (R365): the (lane, POS) of each direction before it, lanes still to rejoin, whether this
end announces the rejoins. Negotiation (R83): the partner's offer. Whether the partner forces its time mastership, and the intervals without its SYNC
(R187); the uptime of link-up. Credits (R78): cumulative count of the partner, freed cells, cells to return in headers and the class they rotate at.
Receiving: cells of good codewords with the time of their codeword, open packets, the time of the last control message's first cell (R97), the open control
message with its packet number and PRK. Authentication (R87) and keys (R88 to R92): steps sent and received, nonces, certificates, ephemeral key and its
share, transcript, PRKs of both directions, the next one of the receiver, the new key phase asked for. Time (R96 to R99). -/
structure LinkSt where
  tstep : Nat := 0
  farCap : Nat := 0
  attempts : Nat := 0
  relock : Bool := false
  linkUp : Bool := false
  cwTx : Nat := 0
  cwRx : Nat := 0
  slot : Nat := 0
  txCells : List (List Byte) := []
  order : List Nat := []
  txRes : Nat := 0
  txBlk : Nat := 0
  rxOrder : List Nat := []
  rxRes : Nat := 0
  turned : Option Nat := none
  act : Option LaneAct := none
  held : List LaneAct := []
  parked : Bool := false
  waking : Bool := false
  prePark : List (Nat × Nat × Nat) := []
  offerGot : Bool := false
  chosen : Nat := 0
  peerUid : Nat := 0
  peerPolicy : Nat := 0
  peerRole : Nat := 0
  peerForces : Bool := false
  syncIdle : Nat := 0
  upAt : Nat := 0
  mseqTx : Nat := 0
  credCum : List Nat := List.replicate 8 0
  freed : List Nat := List.replicate 8 0
  credPend : List Nat := List.replicate 8 0
  credRot : Nat := 0
  cells : List (Time × List Byte) := []
  rx : List OpenRx := []
  ctlAt : Option Time := none
  ctlRx : Option (List Byte × Nat × List Byte) := none
  authSent : Nat := 0
  authGot : Nat := 0
  nonce : List Byte := []
  peerNonce : List Byte := []
  certs : List (List Byte) := []
  eph : List Byte := []
  share : List Byte := []
  transcript : List Byte := []
  prkNew : List Byte := []
  prkTx : List Byte := []
  prkRx : List Byte := []
  rxNext : Option (List Byte) := none
  rekeying : Option Nat := none
  pnTx : Nat := 0
  pnRx : Option Nat := none
  kpRx : Nat := 0
  tagFails : Nat := 0
  syncId : Nat := 0
  t1 : Option Time := none
  t2 : Option Time := none
  t3 : Option Time := none
  goodOfs : Nat := 0
  badOfs : Nat := 0
  exitWait : Bool := false
  rejoinOwn : Bool := false
  echoTok : Nat := 0
  failover : Bool := false
deriving DecidableEq, Repr

/-! ### Adapters and engines (R103 to R124) -/

/-- A native unit being rebuilt (R111): the SEQ of its first fragment, fragments taken, its bytes, whether it is broken, poisoned, or begun at its MAC
(R124). -/
structure FragSt where
  start : Nat := 0
  next : Nat := 0
  data : List Byte := []
  bad : Bool := false
  poison : Bool := false
  begun : Bool := false
deriving DecidableEq, Repr

/-- An adapter, beyond its registers: accepted units, packets the engine has handed over (with their number in the buffer and whether the
paddock released them), packets the re-sequencer holds (oldest arrival first, with the uptime of arrival), the unit being rebuilt (of A0: one for each
source, numbered 256 × SRC_HUB + SRC_ADP + 1; else 0), quiet-point state. Of a bridge: the confirmed write held for (window, SEQ,
record), requests sent and received that await completion, SEQs of confirmed TLPs that await their Ack, TLP headers sent by SEQ (R239 to R243), and of the
requests sent those that came from another vDSP (requester and tag, adapter of that vDSP; R233). -/
structure AdapterSt where
  accepted : List NativeUnit := []
  rx : List (Packet × Nat × Bool) := []
  held : List (Packet × Nat × Nat) := []
  frags : Tab FragSt := []
  stopped : Bool := false
  conf : Option (Nat × Nat × List Byte) := none
  open_ : List (List Byte) := []
  owed : List (List Byte) := []
  acks : List Nat := []
  headers : Tab (List Byte) := []
  p2p : List (Nat × Nat) := []
deriving DecidableEq, Repr

/-- A work item (R112): a packet to build on ingress (`out`: the cable port of a message in neighbour form), or a packet to check on egress
with its number in the buffer and whether the paddock released it; whether its adapter was pinned when it was queued (R122). -/
structure Item where
  ingress : Bool
  adp : Nat
  pkt : Packet
  id : Nat := 0
  out : Option Nat := none
  pdk : Bool := false
  pin : Bool := false
deriving DecidableEq, Repr

/-- A stride engine: its queue, head first, the item in progress and whether its packet has been admitted, and a move of stolen
items in progress. -/
structure EngineSt where
  queue : List Item := []
  cur : Option Item := none
  admitted : Bool := false
  moving : Option (List Item) := none
deriving DecidableEq, Repr

/-! ### Switch core (R127 to R147) -/

/-- A packet stored once in the buffer (R134, R138): its header and the payload so far, the input it is charged to, the cells charged, its
class's kind, its references, whether its last cell has been written, the cable port it came in on, whether a port's loss cut it, whether SP17 built
it (R139), the audit mark its cells carry (R141). -/
structure Stored where
  pkt : Packet
  inp : Nat
  cells : Nat
  lossless : Bool
  refs : Nat
  complete : Bool
  cut : Bool := false
  origin : Option Nat := none
  analysed : Bool := false
  mark : Nat := 0
deriving DecidableEq, Repr

/-- A mirror copy (R139, R140): its session, the output it copies, and TC, SNAP, destination and SRC_ADP as the session had them when the original was
admitted (R147). -/
structure MirRef where
  k : Nat
  out : Nat
  tc : Nat
  snap : Nat
  hub : Nat
  adp : Nat
  src : Nat
deriving DecidableEq, Repr

/-- One reference to a stored packet in a VOQ (R129, R138): the packet, the receiving adapter (for a local output), whether it may leave
cut-through, whether a version-2 link may carry it (R84), the cells granted, the mirror copy it is, and the cells read with an error, as read (R131). -/
structure Ref where
  id : Nat
  adp : Nat := 0
  cut : Bool := true
  v2ok : Bool := true
  granted : Nat := 0
  mirror : Option MirRef := none
  bad : List (Nat × List Byte) := []
deriving DecidableEq, Repr

/-- One cell in a staging queue (R130). `lost`: it closes a packet whose descriptor failed (R132). -/
structure StageCell where
  ref : Ref
  idx : Nat
  last : Bool
  lost : Bool := false
deriving DecidableEq, Repr

/-- A packet at the translator (R84): its reference, its class, the cells taken, whether the last one has come, and the number it was readmitted under,
0 when it is not sent on. -/
structure XlatePkt where
  ref : Ref
  tc : Nat
  cells : Nat := 1
  whole : Bool := false
  newId : Option Nat := none
deriving DecidableEq, Repr

/-- A packet whose first cell stands at an input, waiting for admission: its number, the engine that holds it if one does, whether all of it is there, the
cable cells arrived, the cable port it came in on, the output a translated packet keeps, whether it waits for reserve, whether SP17 built it. -/
structure Arrival where
  id : Nat
  pkt : Packet
  cells : Nat
  eng : Option Nat := none
  whole : Bool := true
  got : Nat := 0
  origin : Option Nat := none
  out : Option Nat := none
  waiting : Bool := false
  analysed : Bool := false
deriving DecidableEq, Repr

/-- Cells no descriptor refers to and the free list lacks (R132, R144): input, class, count, the audit mark they carry, whether one audit found them suspect. -/
structure Lost where
  inp : Nat
  tc : Nat
  cells : Nat
  lossless : Bool
  mark : Nat := 0
  suspect : Bool := false
deriving DecidableEq, Repr

/-- A packet in the paddock (R188): its number, its adapter, its release time in ns of domain time, its SEQ. -/
structure PdkEntry where
  id : Nat
  adp : Nat
  release : Nat
  seq : Nat
deriving DecidableEq, Repr

/-- The switch core, beyond its registers: stored packets by number, arrivals by input port, VOQs by their index (R129), staging queues and round robins by
output and class, local packets by (number, adapter): taken up by an engine or the paddock, wholly out of the switch, counted as waiting for queue room,
lost with their descriptor (R132), begun at their MAC before their tail came (R124), read with errors (R131); packets at the translator, copies at the
analysis port, the paddock's input and contents and the packets it has released that wait for queue room (R113), the audit mark (R141), lost cells, mirror
counters by session, cells held by mirror references. -/
structure SwitchSt where
  nextId : Nat := 1
  store : Tab (Option Stored) := []
  arrivals : Tab (List Arrival) := []
  voqs : Tab (List Ref) := []
  stage : Tab (List StageCell) := []
  rr : Tab Nat := []
  running : Tab (Option Nat) := []
  taken : List (Nat × Nat) := []
  ready : List (Nat × Nat) := []
  qwait : List (Nat × Nat) := []
  gone : List (Nat × Nat) := []
  begun : List (Nat × Nat) := []
  misread : List Ref := []
  xlate : List XlatePkt := []
  mirq : List Ref := []
  pdkIn : List (Nat × Nat) := []
  pdk : List PdkEntry := []
  pdkOut : List (Nat × Nat) := []
  mark : Nat := 0
  lost : List Lost := []
  mirMatch : Tab Nat := []
  mirSeq : Tab Nat := []
  mirSkip : Tab Nat := []
  mirHeld : Nat := 0
deriving DecidableEq, Repr

/-! ### Clocks, reset, power (R342 to R373) -/

/-- Where the hub stands between power-on and service (R355, R356, R350, R402). -/
inductive Phase where
  /-- Power-on reset held: an always-on rail is down (R510). -/
  | held
  /-- The always-on domain runs, core reset held. -/
  | aon
  /-- The ROM runs on the RC and waits for the reference (R344). -/
  | rom
  /-- The reference is judged stable, the root PLL locks. -/
  | pll
  /-- Full speed; the image is to be loaded (R400). -/
  | imaging
  /-- REF_FAIL of R356: SMBus commands only. -/
  | refFail
  /-- An image is active. -/
  | active
  /-- No image (R402). -/
  | noImage
  /-- Reference lost (R350). -/
  | refLost
deriving DecidableEq, Repr

/-- Clocks and reset, beyond the registers: windows agreeing and disagreeing in a row (R344, R349), lock retries (R356), the m of each running ramp by clock
(R347), the cause of a warm reset requested (R352), the uptime at which the watchdog last restarted (R354), whether the cores have stopped serving (R24). -/
structure ClockSt where
  phase : Phase := .held
  agree : Nat := 0
  bad : Nat := 0
  retries : Nat := 0
  ramps : Tab Nat := []
  warm : Option Nat := none
  wdtAt : Nat := 0
  stopped : Bool := false
deriving DecidableEq, Repr

/-- The steps of a power-state entry (R362 to R366). -/
inductive EntryStep where
  | idle | handshake | parking
deriving DecidableEq, Repr

/-- The power-state controller, beyond its registers: the step of an entry, its target, requests that wait, blocks that have accepted and those that
delay (bits of R363), level sources seen in the last 8 clocks of an entry (R366), when the last entry completed and the domains it switched off. -/
structure PowerSt where
  step : EntryStep := .idle
  target : Nat := 0
  queued : List Nat := []
  accepted : List Nat := []
  delayed : List Nat := []
  lateLevel : List Nat := []
  sleepAt : Nat := 0
  sleepDoms : List Nat := []
deriving DecidableEq, Repr

/-! ### Keys, gates, debug (R374 to R390) -/

/-- The fuses of R374; an unprogrammed bit reads 0. -/
structure Fuses where
  root : List Byte := []
  uid : Nat := 0
  rcTrim : Nat := 0
  romKeyHash : List Word := []
  dbgKeyHash : List Word := []
  dbgDisable : Bool := false
  imgMin : Nat := 0
  patchMin : Nat := 0
deriving DecidableEq, Repr

/-- A key-unit operation running (R379, R380): OP, ATTR, the key it began with, its input, its destination, and whether a command
(its owner) or the registers asked for it. -/
structure KeyOp where
  op : Nat
  attr : Nat
  key : List Byte
  input : List Byte
  kcv : List Byte
  dst : Nat
  by_ : Option Owner := none
deriving DecidableEq, Repr

/-- The key unit, beyond its registers. -/
structure KeySt where
  key : List Byte := []
  op : Option KeyOp := none
  rngOk : Bool := true
  slots : List (Nat × List Byte) := []
  nonce : Option (List Byte) := none
  dbgResult : Nat := 0
  dbgPending : Option (Nat × List Byte × List Byte × Option (List Byte)) := none
  patch : Option Nat := none
deriving DecidableEq, Repr

/-! ### Image and transactions (R393 to R415) -/

/-- An open transaction (R405, R406): identifier, owner, staged values by address, uptime of the last command naming it. -/
structure Txn where
  id : Nat
  owner : Owner
  staged : Tab Word := []
  last : Nat := 0
deriving DecidableEq, Repr

/-- What the image installs beside registers (R399, R400 step 7), the direction it fixed for each display PHY (1 receives, 2 transmits, R197), and the flash. -/
structure ImageSt where
  dpDir : Tab Nat := []
  anchors : List (List Byte) := []
  edid : Tab (List (List Byte)) := []
  pdInfo : List (Nat × Nat × List Byte) := []
  txns : List Txn := []
  nextTxn : Nat := 1
  commit : Option (Nat × List Nat) := none
  rwsUsed : List Nat := []
deriving DecidableEq, Repr

/-! ### Commands (R417 to R448) -/

/-- What a command that does not answer at once waits for (R431). -/
inductive Wait where
  | none
  | commit (txn : Nat)
  | eye (lane : Nat) (todo : List (Nat × Nat)) (done : List Word)
  | pd (port : Nat) (action : Nat)
  | bist (block : Nat)
  | farrier
  | relay (hub : Nat) (inner : List Byte)
  | power
  | regBus (tag : Nat)
  | roleSwap (port : Nat)
  | echo (port : Nat) (sent : Time)
  | key
deriving DecidableEq, Repr

/-- A command accepted and not answered: its owner, its frame header fields (`flags` without CSV, and the reserved bytes), its body, the largest frame of
its transport, whether it runs and what it waits for. -/
structure CmdEntry where
  owner : Owner
  op : Nat
  seq : Nat
  txn : Nat
  csv : Nat
  flags : Nat := 0
  rsv : Nat := 0
  body : List Byte
  limit : Nat := 65552
  running : Bool := false
  wait : Wait := .none
deriving DecidableEq, Repr

/-- A response held for repeats (R425): its key and the request it answered. -/
structure CacheEntry where
  owner : Owner
  seq : Nat
  op : Nat
  len : Nat
  crc : Nat
  frame : List Byte
deriving DecidableEq, Repr

/-- The command transports, beyond their registers: commands accepted, oldest first; response caches; the SMBus frame being assembled, responses not
read there and the one being read with the bytes read (R423); the paths of NOTIFY_CFG (R432); entries waiting for the interrupt endpoint, the time of the last
EVENT_NOTIFY, the INDEX an SMBus LOG_READ has reached (R456, R457); responses to control and to bulk commands of the USB function, whether it is configured,
sequence numbers of bulk commands not answered (R269). -/
structure CmdSt where
  entries : List CmdEntry := []
  cache : List CacheEntry := []
  partial_ : List Byte := []
  unread : List (Nat × List Byte) := []
  reading : Option (Nat × List Byte) := none
  notifyUsb : Bool := false
  notifyAlert : Bool := false
  notifyA0 : Bool := false
  notifySev : Nat := 0
  notifyHub : Nat := 0
  usbQueue : List (List Byte) := []
  lastA0 : Option Time := none
  smbNext : Nat := 0
  usbResp : List (Nat × List Byte) := []
  bulkResp : List (List Byte) := []
  usbReady : Bool := false
  bulkSeq : List Nat := []
deriving DecidableEq, Repr

/-! ### Self-test and log (R449 to R460) -/

/-- A log entry (R453) without SRC_HUB and RELAYED, which are 0 in an entry of this hub. -/
structure LogEntry where
  index : Nat
  severity : Nat
  source : Nat
  inst : Nat
  flagOfs : Nat
  flagBit : Nat
  count : Nat
  time : Time
  detail : List Word
deriving DecidableEq, Repr

/-- Self-test and the log, beyond their registers: the block under test, the log ring, and which undefined content unlisted frame memory has since a test of
block 13 (0: none, R450). -/
structure TestSt where
  under : Option Nat := none
  log : List LogEntry := []
  frameGen : Nat := 0
deriving DecidableEq, Repr

/-! ### Allotment scheduler (R149 to R167) -/

/-- One queue of a cable port's scheduler (R151): the class of its open packet, finish tag, wake mark, credit (in bytes, times the scale of
`creditScale`), the class its round robin takes next, the open packet's packet number, key phase and PRK, whether its gate has stayed
open since the packet started. -/
structure QueueSt where
  opened : Option Nat := none
  fin : Nat := 0
  woke : Bool := false
  credit : Int := 0
  rr : Nat := 0
  pn : Nat := 0
  kp : Nat := 0
  prk : List Byte := []
  inWindow : Bool := true
deriving DecidableEq, Repr

/-- A link control message at Q0 (R79, R151): its bytes from TYPE on, cells sent, and once its first cell has left the bytes as protected. -/
structure CtlMsg where
  raw : List Byte
  sent : Nat := 0
  wire : List Byte := []
deriving DecidableEq, Repr

/-- One cable port's scheduler, beyond its registers: Q0, virtual time, queues, the gate list in force
(none: all open) whether a new selection waits for a cycle start and since when (ns), the flip latched at the decision point, a flip
due and the time (ns) from which a codeword takes it (R158, R159), the backlog at an epoch's end that fell in a codeword (R163), the time of the codeword in
progress (R150), the follower's announced flip, slot counts of the epoch, and the consecutive epochs of each rule of R164. -/
structure SchedSt where
  ctl : List CtlMsg := []
  v : Nat := 0
  queues : Tab QueueSt := []
  gates : Option (List (Nat × Nat)) := none
  gatePend : Bool := false
  gateFrom : Nat := 0
  flipNext : Bool := false
  flipAt : Option (Nat × Nat) := none
  epochEnd : Option Nat := none
  cwAt : Time := {}
  follow : Option (Nat × Nat) := none
  slots : Nat := 0
  slotsRx : Nat := 0
  busyTx : Nat := 0
  busyRx : Nat := 0
  pressTx : Nat := 0
  pressRx : Nat := 0
  turnTx : Nat := 0
  turnRx : Nat := 0
  relax : Nat := 0
  parkTx : Nat := 0
  parkRx : Nat := 0
  dwell : Nat := 255
deriving DecidableEq, Repr

/-- Policer buckets (R157), by entry: tokens in 1/80000 byte, and the uptime of the last refill. The end of the last quiet point (R26), in ns of domain time. -/
structure SchedGlobal where
  quietUntil : Nat := 0
  tokens : Tab (Nat × Nat) := []
deriving DecidableEq, Repr

/-! ### Display pipes (R196 to R229) -/

/-- The extraction or refresh running at a source (R207, R208): whether it is a refresh, the copy and frame it reads, the next row of tiles,
the TILE records sent. -/
structure Extract where
  refresh : Bool
  copy : Nat
  frame : Nat
  row : Nat := 0
  sent : Nat := 0
deriving DecidableEq, Repr

/-- A frame copy of a capture pipe (R206): the number and format of its frame, the signatures its tiles had as they arrived. -/
structure FrameCopy where
  frame : Nat := 0
  fmt : DispFormat := {}
  sigs : List Nat := []
deriving DecidableEq, Repr

/-- Tiles that wait for a blank to become live (R212, R214): the frame of the last FRAME_END, whether a FULL one and whether a clean FULL one is among those
received, the tiles, those of them not sent by a refresh, whether COMMIT_TMO put them here. -/
structure TileCommit where
  frame : Nat := 0
  full : Bool := false
  clean : Bool := false
  tiles : List Nat := []
  damage : List Nat := []
  tmo : Bool := false
deriving DecidableEq, Repr

/-- A display pipe, beyond its registers. Source: the format of the last captured or pushed frame, signatures last sent and the format they stand for, the two
copies, the one being captured, the one that waits for extraction and the last complete one, the extraction running, refresh triggers, EDIDs, whether the close
hold runs, the sink's last status and topology. Sink: the current format, live copies, pending and valid tiles, records accepted of each frame, a commit waiting
for a blank, the refresh asked for, the blank (lines at its start, stretched) with the uptime of its start, lines muted by an underrun with the column from
which, the runs of R219 and R220, panel facts (the highest DSC rate it takes, 0 for none) and the rate sent to it in 1/16 bit per pixel. -/
structure PipeSt where
  src : DispFormat := {}
  sentSig : Tab (Option Nat) := []
  sentFor : DispFormat := {}
  frameNo : Nat := 0
  copies : Tab FrameCopy := []
  cur : Option Nat := none
  fresh : Option Nat := none
  last : Option Nat := none
  extract : Option Extract := none
  due : Bool := false
  armed : Bool := false
  edidIn : List (Nat × List Byte) := []
  edid : List (List Byte) := []
  edidNext : Option (List (List Byte)) := none
  hold : Bool := false
  sinkStatus : List Byte := []
  topo : List Byte := []
  format : Option DispFormat := none
  fmtFrame : Option Nat := none
  live : Tab Nat := []
  pending : List Nat := []
  pendDamage : List Nat := []
  valid : List Nat := []
  recv : Tab Nat := []
  seen : Option Nat := none
  commit : Option TileCommit := none
  refreshReq : Option Nat := none
  blank : Option (Nat × Bool) := none
  blankAt : Nat := 0
  late : List (Nat × Nat) := []
  quietFrames : Nat := 0
  committed : Bool := false
  damage : Bool := false
  suspects : Nat := 0
  muteFrame : Bool := false
  trained : Bool := false
  adaptive : Bool := false
  panelMin : Nat := 0
  dscMax : Nat := 0
  outRate : Nat := 0
  panelEdid : List (List Byte) := []
  legacy : Bool := false
deriving DecidableEq, Repr


/-! ### Bridges, register bus, sideband (R230 to R254) -/

/-- A virtual downstream port (R232, R236), by its adapter: the far link of the last LINK_STATE, Slot and Link Status events, AER status
(Surprise Down, Uncorrectable Internal Error, Completer Abort) with the header log, Power Controller Control. -/
structure VdspSt where
  up : Bool := false
  speed : Nat := 0
  width : Nat := 0
  presence : Bool := false
  linkChange : Bool := false
  surprise : Bool := false
  internalErr : Bool := false
  completerAbort : Bool := false
  header : List Byte := []
  powerOff : Bool := false
deriving DecidableEq, Repr

/-- A register-bus request (R244 to R246): its adapter (0: this hub's own controller), record fields, whether the requester is here, the
window of a confirmed write, and the SEQ a confirmed write of a peer came with. -/
structure RbReq where
  adp : Nat
  tag : Nat
  read : Bool
  size : Nat
  addr : Nat
  data : List Byte
  mine : Bool
  conf : Option Nat := none
  seq : Nat := 0
deriving DecidableEq, Repr

/-- A sideband group (R247 to R251). Sender: value and edges last sent, uptime of the last update, stamp of the first change not sent, the
far interval. Receiver: the last update applied (full stamp in ns, VALUE, EDGES), the timed updates that wait (apply time first), and whether 3 ms
have passed since the last update. -/
structure GroupSt where
  sentValue : Nat := 0
  sentEdges : List Nat := List.replicate 32 0
  lastSend : Option Nat := none
  firstChange : Option Nat := none
  farInterval : Option Nat := none
  applied : Option (Nat × Nat × List Nat) := none
  waiting : List (Nat × Nat × Nat × List Nat) := []
  stale : Bool := false
deriving DecidableEq, Repr

/-- The bridges, beyond their registers: vDSPs by adapter, bridges whose PERST# is released, requests of this hub outstanding on the register
bus, requests for this hub's I2C controller (head running), the next TAG, edge counts of the inputs, groups. -/
structure BridgeSt where
  vdsps : Tab VdspSt := []
  perst : List Nat := []
  rbOut : List RbReq := []
  i2c : List RbReq := []
  nextTag : Nat := 0
  edges : Tab Nat := []
  groups : Tab GroupSt := []
deriving DecidableEq, Repr

/-! ### USB (R255 to R272) -/

/-- A proxy cache entry of a tunnel port (R261): address, endpoint, IN, the toggle, the result when known (PID, toggle, data), whether an
XFER is on its way. -/
structure ProxyEntry where
  addr : Nat
  ep : Nat
  isIn : Bool
  toggle : Bool
  pending : Bool := false
  result : Option (Nat × Bool × List Byte) := none
deriving DecidableEq, Repr

/-- A tunnel port (R258 to R264): its cache, the isochronous IN data of the last micro-frame by address and endpoint, whether the far hub has
answered connect, the last SETUP by address, the descriptor bytes of its data stage, the interfaces of endpoints (address, endpoint address,
interface) seen in configuration descriptors. -/
structure TunnelPortSt where
  cache : List ProxyEntry := []
  isoIn : List (Nat × Nat × List Byte) := []
  far : Bool := false
  setups : Tab (List Byte) := []
  desc : Tab (List Byte) := []
  epMap : List (Nat × Nat × Nat) := []
deriving DecidableEq, Repr

/-- The USB block, beyond its registers: sources that present a connection (1 tunnel, 2 C0, 3 native) with their speed, tunnel ports, the far end of the
upstream tunnel (6 of `tports`), isochronous OUT for the next micro-frame, what each port drives (1 reset, 2 warm reset, 3 resume, 4 exit from U3), C_PORT
bits, SOFs waiting (number, micro-frame, release in ns), the last micro-frame started, ITPs waiting, remote wake: enabled, ports that woke, being
propagated; the control and bulk transfers in progress of the function. -/
structure UsbSt where
  offers : List (Nat × Nat) := []
  tports : Tab TunnelPortSt := []
  isoOut : List (Nat × List Byte) := []
  driven : Tab Nat := []
  change : Tab Nat := []
  sofs : List (Nat × Nat × Nat) := []
  sofLast : Option (Nat × Nat × Nat) := none
  itps : List (Nat × List Byte) := []
  wakeEn : Bool := false
  waking : Bool := false
  resuming : Bool := false
  control : Option (Nat × List Byte) := none
  bulk : List Byte := []
  hubAddr : Nat := 0
deriving DecidableEq, Repr

/-! ### Ethernet and domain time (R274 to R297) -/

/-- A MAC, beyond its registers: transmit queues (frame, good FCS), priorities paused (8: PAUSE), priorities that sent XOFF (8: PAUSE), credits and the
uptime they were judged at, the frame being sent (queue, uptime it ends), transmit stamps, sequenceIds of the gPTP port. -/
structure MacSt where
  txq : Tab (List (List Byte × Bool)) := []
  paused : List Nat := []
  xoff : List Nat := []
  credit : Tab Int := []
  creditAt : Nat := 0
  sending : Option (Nat × Nat) := none
  stamps : List (Nat × Nat × Nat × Nat × Nat) := []
  seqSync : Nat := 0
  seqDelay : Nat := 0
deriving DecidableEq, Repr

/-- The time block, beyond its registers: ticks of the slew left, consecutive good and bad samples of the external source, consecutive samples
within 8 ns of a link master, whether TPPS_OUT is high. -/
structure TimeSt where
  slewLeft : Nat := 0
  good : Nat := 0
  bad : Nat := 0
  close : Nat := 0
  ppsHigh : Bool := false
deriving DecidableEq, Repr

/-! ### USB Power Delivery (R300 to R326) -/

/-- What a port presents on CC (R26, R304, R311): nothing, Rd, Rp, or both in turn. -/
inductive CcPull where
  | nothing | rd | rp | toggle
deriving DecidableEq, Repr

/-- A PD port, beyond its registers: the DisplayPort pin assignment (3 C, 4 D); the cable as SOP' Discover Identity gave it (0 not read, 1 no e-marker,
2 passive, 3 active and qualified, 4 active), whether it declares 5 A and EPR, shows Ra; VCONN off until the next attach; a revision 2.0 partner.
As source: PDOs last sent by position, Source_Capabilities sent, whether a cut awaits a Request. Of the partner: power wanted (0.5 W), EPR capable,
the FRS current it asks (R315 code), the Thrumlink mode listed. Exchanges: contract being made (20 mV, 10 mA, position, PPS), voltage step
(from, to in 20 mV), message awaiting an answer, swap accepted and running, swap request discarded with its tries. Fast Role Swap: 1 signalled,
2 FR_Swap sent, 3 accepted, 4 PS_RDY sent, 5 signal detected; the FRS current held as sink; left as sink (R317). Thrumlink barred (R323); PD_CFG as the attach
found it (R302); a firmware answer due; the partner's swap request that waits for the end of the hub's own exchange (R313); what the board
regulator is set to (20 mV, 10 mA; none: off; R305, R306, R502). -/
structure PdSt where
  dpPin : Nat := 0
  cable : Nat := 0
  amps5 : Bool := false
  cableEpr : Bool := false
  ra : Bool := false
  vconnLost : Bool := false
  rev2 : Bool := false
  offered : List (Nat × Nat) := []
  capsSent : Nat := 0
  cut : Bool := false
  want : Option Nat := none
  eprPartner : Bool := false
  frsAsk : Nat := 0
  partnerTl : Bool := false
  next : Option (Nat × Nat × Nat × Bool) := none
  step : Option (Nat × Nat) := none
  asked : Option PdMsg := none
  swap : Option PdMsg := none
  dropped : Option (PdMsg × Nat) := none
  tries : Nat := 0
  frs : Nat := 0
  frsHeld : Nat := 0
  leftSink : Bool := false
  noTl : Bool := false
  cfg : Option Word := none
  fwWait : Bool := false
  deferred : Option PdMsg := none
  reg : Option (Nat × Nat) := none
deriving DecidableEq, Repr

/-! ### Electronic fuses (R327 to R341) -/

/-- An eFuse channel, beyond its registers: the uptime at which limiting last began, the uptime of the last change of ORIENT, the fault time before `limitFrom`
(0.1 ns), the uptime at which the retry timer ends (none: not running), whether the insertion debounce has passed since the input entered its window. -/
structure EfSt where
  limitFrom : Nat := 0
  orientAt : Option Nat := none
  faultAcc : Nat := 0
  retryEnd : Option Nat := none
  debounced : Bool := false
deriving DecidableEq, Repr

/-! ### Strings and domains (R169 to R195) -/

/-- A position of the string (R173): the UID last assigned to it, whether it is held, the uptime at which its last holder left. -/
structure PosEntry where
  uid : Nat := 0
  held : Bool := false
  leftAt : Option Nat := none
deriving DecidableEq, Repr

/-- A hub the host-role hub has given an address (R172): the hub that probed it, the port of that hub, whether it has acknowledged its address. -/
structure HubEntry where
  addr : Nat
  uid : Nat
  parent : Nat
  port : Nat
  acked : Bool := false
deriving DecidableEq, Repr

/-- A grandmaster announcement (R186): priority, clock class, steps removed as the sender gave them, UID. -/
structure Announce where
  prio : Nat
  cls : Nat
  steps : Nat
  uid : Nat
deriving DecidableEq, Repr

/-- The string and domain block, beyond its registers: announcements held by the cable port they came in on; at the host-role hub the positions,
the hubs of the string and the ROUTE_SETs that wait for the ROUTE_ACK of the first (target, new address, port); at a prober the ports on
which UIDs answered; gone addresses with the uptime (R194); ports refused (R174); the hop count of the probe; whether a dual-role hub has
yielded (R177); the floor record (version, origin, age when entered, uptime when entered; none before any); ports on which ROLE_SWAP_REQ is out;
adapters whose TUNNEL_OPEN awaits its answer; ports probed a second time, with the hop count of the probe and whether the reply has left (R172); ports whose
partner announced this hub's own address (R182). -/
structure DomSt where
  heard : Tab (Option Announce) := []
  positions : Tab PosEntry := []
  hubs : List HubEntry := []
  routes : List (Nat × Nat × Nat) := []
  replyPort : List (Nat × Nat) := []
  gone : List (Nat × Nat) := []
  refused : List Nat := []
  probeHop : Nat := 0
  yielded : Bool := false
  floor : Option (Nat × Nat × Nat × Nat) := none
  swapAsked : List Nat := []
  openSent : List Nat := []
  twice : List (Nat × Nat × Bool) := []
  dup : List Nat := []
deriving DecidableEq, Repr

/-! ### The whole hub -/

/-- The state of the hub. `regs`: every register that differs from its reset value. `mem`: management RAM and the patch area.
`flash`: the xSPI flash (erased bytes unlisted). `frame`: frame memory. `time`: the live domain time. `uptime`: 0.1 ns steps
since power-on, which no step of domain time moves. `out`: everything sent. -/
structure State where
  regs : Tab Word
  mem : Tab Byte
  flash : Tab Byte
  frame : Tab Byte
  time : Time
  lanes : Tab LaneSt
  links : Tab LinkSt
  adps : Tab AdapterSt
  engs : Tab EngineSt
  sw : SwitchSt
  scheds : Tab SchedSt
  pol : SchedGlobal
  clk : ClockSt
  pwr : PowerSt
  fuses : Fuses
  keys : KeySt
  img : ImageSt
  cmd : CmdSt
  test : TestSt
  uptime : Nat
  pipes : Tab PipeSt
  brg : BridgeSt
  usb : UsbSt
  macs : Tab MacSt
  tm : TimeSt
  pds : Tab PdSt
  efs : Tab EfSt
  dom : DomSt
  out : List Out
  free : Nat
  pending : List Instr
deriving DecidableEq, Repr

/-- The hub right after reset: power-on reset held, every register at its reset value, every memory listing nothing, no command
waiting. Power-on reset is released by POWER_ON_RESET_RELEASE (R510). -/
def State.reset : State where
  regs := []
  mem := []
  flash := []
  frame := []
  time := {}
  lanes := []
  links := []
  adps := []
  engs := []
  sw := {}
  scheds := []
  pol := {}
  clk := {}
  pwr := {}
  fuses := {}
  keys := {}
  img := {}
  cmd := {}
  test := {}
  uptime := 0
  pipes := []
  brg := {}
  usb := {}
  macs := []
  tm := {}
  pds := []
  efs := []
  dom := {}
  out := []
  free := 0
  pending := []

end Sys2Proof.Machine
end

