-- ==== Sys2Proof/Machine/Ops.lean ====
section
/-!
DEFINITION. The named operations over registers, memory, time and what the hub sends. Every read and write of a register by the hub
itself goes through `reg` and `setReg`, every field through `rd` and `wr`.
-/

namespace Sys2Proof.Machine

abbrev Res := Host.Outcome State Fault Refusal

/-! ### Registers and fields -/

def State.reg (s : State) (a : Nat) : Word := Tab.get (resetValue a) s.regs a

def State.setReg (s : State) (a : Nat) (w : Word) : State := { s with regs := Tab.put (resetValue a) s.regs a w }

/-- The value of a field. -/
def State.rd (s : State) (f : Fld) : Nat := getField (s.reg f.addr) f.lo f.width

/-- Write a field; the other bits of its register stay. -/
def State.wr (s : State) (f : Fld) (v : Nat) : State := s.setReg f.addr (setField (s.reg f.addr) f.lo f.width v)

/-- A field of one bit reads 1. -/
def State.on (s : State) (f : Fld) : Bool := decide (s.rd f ≠ 0)

/-- Bit `i` of a field as a field of its own. -/
def Fld.bit (f : Fld) (i : Nat) : Fld := ⟨f.addr, f.lo + i, 1⟩

/-- Add to a saturating counter (R459). -/
def State.satAdd (s : State) (f : Fld) (n : Nat) : State := s.wr f (min (2 ^ f.width - 1) (s.rd f + n))

/-- Add to a wrapping counter (R459). -/
def State.wrapAdd (s : State) (f : Fld) (n : Nat) : State := s.wr f ((s.rd f + n) % 2 ^ f.width)

/-- A 64-bit wrapping counter in two registers. -/
def State.wrapAdd64 (s : State) (lo hi : Fld) (n : Nat) : State :=
  let v := s.rd lo + 2 ^ 32 * s.rd hi + n
  (s.wr lo (v % 2 ^ 32)).wr hi (v / 2 ^ 32 % 2 ^ 32)

/-- Write a 64-bit value into two registers. -/
def State.wr64 (s : State) (lo hi : Fld) (v : Nat) : State := (s.wr lo (v % 2 ^ 32)).wr hi (v / 2 ^ 32)

/-- Signed value of a field of `w` bits, and its encoding. -/
def toSigned (w v : Nat) : Int := if v < 2 ^ (w - 1) then (v : Int) else (v : Int) - (2 ^ w : Nat)
def ofSigned (w : Nat) (i : Int) : Nat := (i % ((2 ^ w : Nat) : Int)).toNat

/-- A signed value limited to `w` bits. -/
def satSigned (w : Nat) (i : Int) : Int := max (-((2 ^ (w - 1) : Nat) : Int)) (min i (((2 ^ (w - 1) : Nat) : Int) - 1))

/-! ### State tables -/

def State.lane (s : State) (n : Nat) : LaneSt := Tab.get {} s.lanes n
def State.setLane (s : State) (n : Nat) (v : LaneSt) : State := { s with lanes := Tab.put {} s.lanes n v }
def State.link (s : State) (p : Nat) : LinkSt := Tab.get {} s.links p
def State.setLink (s : State) (p : Nat) (v : LinkSt) : State := { s with links := Tab.put {} s.links p v }
def State.modLink (s : State) (p : Nat) (f : LinkSt → LinkSt) : State := s.setLink p (f (s.link p))
def State.adp (s : State) (a : Nat) : AdapterSt := Tab.get {} s.adps a
def State.setAdp (s : State) (a : Nat) (v : AdapterSt) : State := { s with adps := Tab.put {} s.adps a v }
def State.modAdp (s : State) (a : Nat) (f : AdapterSt → AdapterSt) : State := s.setAdp a (f (s.adp a))
def State.eng (s : State) (e : Nat) : EngineSt := Tab.get {} s.engs e
def State.setEng (s : State) (e : Nat) (v : EngineSt) : State := { s with engs := Tab.put {} s.engs e v }
def State.modEng (s : State) (e : Nat) (f : EngineSt → EngineSt) : State := s.setEng e (f (s.eng e))
def State.sched (s : State) (p : Nat) : SchedSt := Tab.get {} s.scheds p
def State.setSched (s : State) (p : Nat) (v : SchedSt) : State := { s with scheds := Tab.put {} s.scheds p v }
def State.modSched (s : State) (p : Nat) (f : SchedSt → SchedSt) : State := s.setSched p (f (s.sched p))

/-- Run an operation for every number below `n`, in order. -/
def State.each (s : State) (n : Nat) (f : Nat → State → State) : State := (List.range n).foldl (fun t i => f i t) s

/-- Run an operation for every element of a list, in order. -/
def State.eachIn {α : Type} (s : State) (l : List α) (f : α → State → State) : State := l.foldl (fun t x => f x t) s

/-- Do it only when the condition holds. -/
def State.onlyIf (s : State) (c : Bool) (f : State → State) : State := if c then f s else s

/-! ### What the hub sends, free values -/

def State.send (s : State) (o : Out) : State := { s with out := s.out ++ [o] }

/-- Take the next free value (assumption row 1). -/
def State.fresh (s : State) : Word × State := (Config.freeWord s.free, { s with free := s.free + 1 })
def State.freshBytes (s : State) (n : Nat) : List Byte × State := (Config.freeBytes s.free n, { s with free := s.free + 1 })

/-! ### Time -/

/-- 34-bit packet stamp of a domain time (R74). -/
def Time.stamp (t : Time) : Nat := t.sec % 4 * 2 ^ 32 + t.ns

/-- Nanoseconds since the epoch of domain time. -/
def Time.toNs (t : Time) : Nat := t.sec * 1000000000 + t.ns

/-- Domain time advanced by `ns` nanoseconds and `frac` of 2^-32 ns (R283, R285). -/
def Time.add (t : Time) (ns frac : Nat) : Time :=
  let fr := t.frac + frac
  let n := t.ns + ns + fr / 2 ^ 32
  { sec := (t.sec + n / 1000000000) % 2 ^ 48, ns := n % 1000000000, frac := fr % 2 ^ 32 }

def Time.ofNs (n : Nat) : Time := { sec := n / 1000000000 % 2 ^ 48, ns := n % 1000000000, frac := 0 }

/-- A stamp resolves 1/16 ns (R97). -/
def Time.fine (t : Time) : Time := { t with frac := t.frac / 2 ^ 28 * 2 ^ 28 }

/-! ### Bytes -/

def le (n v : Nat) : List Byte := (List.range n).map (fun i => BitVec.ofNat 8 (v / 256 ^ i))
def be (n v : Nat) : List Byte := (le n v).reverse
def ofLe (l : List Byte) : Nat := l.foldr (fun b r => b.toNat + 256 * r) 0
def ofBe (l : List Byte) : Nat := ofLe l.reverse
def bytesAt (l : List Byte) (i n : Nat) : List Byte := (l.drop i).take n
def leAt (l : List Byte) (i n : Nat) : Nat := ofLe (bytesAt l i n)
def beAt (l : List Byte) (i n : Nat) : Nat := ofBe (bytesAt l i n)
def byteAt (l : List Byte) (i : Nat) : Nat := (l.getD i 0#8).toNat
def wordLe (w : Word) : List Byte := le 4 w.toNat

/-- The 14-byte time field T: big-endian in link messages (R80), little-endian in commands (R441). -/
def Time.be (t : Time) : List Byte := Machine.be 6 t.sec ++ Machine.be 4 t.ns ++ Machine.be 4 t.frac
def Time.ofBe (l : List Byte) : Time := { sec := beAt l 0 6, ns := beAt l 6 4, frac := beAt l 10 4 }
def Time.le (t : Time) : List Byte := Machine.le 6 t.sec ++ Machine.le 4 t.ns ++ Machine.le 4 t.frac

/-- CRC-32 of IEEE 802.3 over a byte string (R33, R425). -/
def crcBit (c : Nat) : Nat := if c % 2 = 1 then Nat.xor (c / 2) 0xEDB88320 else c / 2
def crcByte (c : Nat) (b : Byte) : Nat :=
  crcBit (crcBit (crcBit (crcBit (crcBit (crcBit (crcBit (crcBit (Nat.xor c b.toNat))))))))
def crc32 (l : List Byte) : Nat := Nat.xor (l.foldl crcByte 0xFFFFFFFF) 0xFFFFFFFF

/-! ### Memories -/

/-- Management RAM and the patch area: an unlisted byte reads as 0 (assumption row 8). -/
def State.memByte (s : State) (a : Nat) : Byte := Tab.get 0#8 s.mem a
def State.setMemByte (s : State) (a : Nat) (b : Byte) : State := { s with mem := Tab.put 0#8 s.mem a b }

/-- The flash: an unlisted byte is erased and reads 0xFF (R434). -/
def State.flashByte (s : State) (a : Nat) : Byte := Tab.get 0xFF#8 s.flash a
def State.setFlashByte (s : State) (a : Nat) (b : Byte) : State := { s with flash := Tab.put 0xFF#8 s.flash a b }

/-- Frame memory: an unlisted byte reads as 0 (assumption row 8), after a test of block 13 as a free value (R450). -/
def State.frameFill (s : State) (a : Nat) : Byte := if s.test.frameGen = 0 then 0#8 else Config.frameNoise s.test.frameGen a
def State.frameByte (s : State) (a : Nat) : Byte := Tab.get (s.frameFill a) s.frame a
def State.setFrameByte (s : State) (a : Nat) (b : Byte) : State := { s with frame := Tab.put (s.frameFill a) s.frame a b }

def State.memBytes (s : State) (a n : Nat) : List Byte := (List.range n).map (fun i => s.memByte (a + i))
def State.setMemBytes (s : State) (a : Nat) : List Byte → State
  | [] => s
  | b :: l => (s.setMemByte a b).setMemBytes (a + 1) l
def State.flashBytes (s : State) (a n : Nat) : List Byte := (List.range n).map (fun i => s.flashByte (a + i))
def State.frameBytes (s : State) (a n : Nat) : List Byte := (List.range n).map (fun i => s.frameByte (a + i))
def State.setFrameBytes (s : State) (a : Nat) : List Byte → State
  | [] => s
  | b :: l => (s.setFrameByte a b).setFrameBytes (a + 1) l

/-- The canonical form of the memories, and of the register table. -/
def Memory.wf (s : State) : Bool :=
  Tab.wf (fun _ => 0#8) s.mem && Tab.wf (fun _ => 0xFF#8) s.flash && Tab.wf s.frameFill s.frame &&
    Tab.wf resetValue s.regs

/-! ### Facts several blocks read -/

/-- The role of the active image (R1): true for host. -/
def State.host (s : State) : Bool := s.on GC_IMG_INFO.ROLE

/-- This hub's address, 0 while it has none (R171), and its UID (R170). -/
def State.hubAddr (s : State) : Nat := if s.on DM_ID.VALID then s.rd DM_ID.ADDR else 0
def State.uid (s : State) : Nat := s.fuses.uid

/-- Bit `i` of a number. -/
def bitOf (v i : Nat) : Bool := decide (v / 2 ^ i % 2 = 1)

/-- A clock enable bit of GC_CLKEN (R348). -/
def State.clkOn (s : State) (bit : Nat) : Bool := s.on ⟨GC_CLKEN, bit, 1⟩

/-- A domain bit of PS_DOM (R371); 22 is the always-on domain. -/
def State.domOn (s : State) (bit : Nat) : Bool := decide (bit = 22) || s.on ⟨PS_DOM, bit, 1⟩

/-- The certificates of the store (R377: the device certificate and up to two issuing ones), each of at most 1,600 bytes (the message AUTH_CERT). -/
def certs : List (List Byte) := (Config.certStore.take 3).map fun c => c.take 1600

end Sys2Proof.Machine
end

