-- ==== Sys2Proof/Machine/Flags.lean ====
section
/-!
DEFINITION. Event flags, event counts, the log and the notifications (R10, R450 to R458): the one operation by which every event
of every block is reported.
-/

namespace Sys2Proof.Machine

/-- Whether the self-test block of R449 numbered `b` holds the block of a gate and instance. -/
def testCovers (b source inst : Nat) : Bool :=
  match b with
  | 0 => decide (source = 0)
  | 1 => decide (source = 14)
  | 2 => decide (source = 12 ∨ source = 13)
  | 3 | 4 | 5 | 6 | 7 | 8 => decide ((source = 10 ∧ inst / 4 = b - 3) ∨ (source = 11 ∧ inst = b - 3))
  | 9 | 10 | 11 | 12 => decide (source = 16 ∧ inst = b - 9)
  | 13 => decide (source = 24)
  | 14 | 15 => decide (source = 17 ∧ inst = b - 14)
  | 16 => decide (source = 19)
  | 17 | 18 => decide (source = 20 ∧ inst = b - 17)
  | 19 => decide (source = 7)
  | 20 => decide (source = 18)
  | _ => false

/-- The domain bit of a block of R449 (R371): MGMT for the ROM, CORE for the switch core and the engines. -/
def testDomain (b : Nat) : Nat :=
  if b = 0 then 0 else if b ≤ 2 then 1 else if b ≤ 18 then b - 1 else if b = 19 then 20 else 18

/-- The block of a gate and instance is under self-test (R450). -/
def State.underTest (s : State) (source inst : Nat) : Bool :=
  match s.test.under with
  | none => false
  | some b => testCovers b source inst

/-- The bytes of a log entry (R453), with the SRC_HUB and RELAYED of R82. -/
def LogEntry.bytes (e : LogEntry) (srcHub relayed : Nat := 0) : List Byte :=
  le 4 e.index ++ le 1 e.severity ++ le 1 e.source ++ le 2 e.inst ++ le 2 e.flagOfs ++ le 1 e.flagBit ++ le 1 e.count ++
  le 6 e.time.sec ++ le 4 e.time.ns ++ le 4 e.time.frac ++ le 2 (4 * e.detail.length) ++ le 2 srcHub ++ le 1 relayed ++
  le 1 0 ++ e.detail.flatMap wordLe

def LogEntry.size (e : LogEntry) : Nat := 32 + 4 * e.detail.length

/-- Bytes a log holds. -/
def logSize (l : List LogEntry) : Nat := (l.map LogEntry.size).sum

/-- Discard the oldest entries until the log fits the ring of 64 KiB (R452); what remains, and how many were discarded. -/
def trimLog : List LogEntry → List LogEntry × Nat
  | [] => ([], 0)
  | e :: l => if logSize (e :: l) ≤ 65536 then (e :: l, 0) else
      let r := trimLog l
      (r.1, r.2 + 1)

/-- Write one entry to the log (R452, R453). -/
def State.writeLog (s : State) (severity source inst ofs bit count : Nat) (detail : List Word) : LogEntry × State :=
  let e : LogEntry := ⟨s.rd BT_LOG_HEAD.VALUE, severity, source, inst, ofs, bit, count, s.time, detail⟩
  let r := trimLog (s.test.log ++ [e])
  let s := { s with test := { s.test with log := r.1 } }
  let s := s.wrapAdd BT_LOG_HEAD.VALUE 1
  let s := s.wr BT_LOG_OLDEST.VALUE ((r.1.head?.map LogEntry.index).getD 0)
  (e, s.satAdd BT_LOG_LOST.VALUE r.2)

/-- Set a flag and count its event (R10); answers whether the flag read 0 before. -/
def State.setFlag (s : State) (e : Evt) : Bool × State :=
  (decide (s.rd e.flag = 0), (s.satAdd e.count 1).wr e.flag 1)

/-- The USB path of R456: a queue of 32 entries, taken only when the function is configured. -/
def State.notifyUsb (s : State) (b : List Byte) : Option State :=
  if s.cmd.usbReady ∧ s.cmd.usbQueue.length < 32 then
    some { s with cmd := { s.cmd with usbQueue := s.cmd.usbQueue ++ [b] } }
  else none

/-- Append a native unit to those an adapter has accepted (R108, R517). -/
def State.accept (s : State) (a : Nat) (u : NativeUnit) : State := s.modAdp a fun x => { x with accepted := x.accepted ++ [u] }

/-- Give A0 a domain control message for an adapter of another hub, or of this one (R82). -/
def State.domMsg (s : State) (hub adp type : Nat) (body : List Byte) : State :=
  s.accept 0 { bytes := [BitVec.ofNat 8 type, 0, 0, 0] ++ body, ts := s.time.stamp, dst := some (hub, adp) }

/-- Give A0 a domain control message in neighbour form for cable port `p` (R171). -/
def State.neighMsg (s : State) (p type : Nat) (body : List Byte) : State :=
  s.accept 0 { bytes := [BitVec.ofNat 8 type, 0, 0, 0] ++ body, ts := s.time.stamp, via := some p }

/-- The A0 path of R456: at most one EVENT_NOTIFY per 100 us. -/
def State.notifyHub (s : State) (b : List Byte) : Option State :=
  match s.cmd.lastA0 with
  | some t => if s.time.toNs < t.toNs + 100000 ∧ t.toNs ≤ s.time.toNs then none else
      some ({ s with cmd := { s.cmd with lastA0 := some s.time } }.domMsg s.cmd.notifyHub 0 0x88 b)
  | none => some ({ s with cmd := { s.cmd with lastA0 := some s.time } }.domMsg s.cmd.notifyHub 0 0x88 b)

/-- Report a notification that its path cannot take (R456), as an event with an entry of its own when its flag read 0; that entry is
not notified again on a path that just refused one. -/
def State.notifyLost (s : State) : State :=
  let r := s.setFlag Ev.BT_NOTIFY_LOST
  if r.1 then (r.2.writeLog Ev.BT_NOTIFY_LOST.severity 8 0 0xC 2 (r.2.rd Ev.BT_NOTIFY_LOST.count) []).2 else r.2

/-- Send an entry on the selected paths (R456), after it stands in the log. -/
def State.notify (s : State) (e : LogEntry) : State :=
  if e.severity < s.cmd.notifySev then s else
    let s := if s.cmd.notifyUsb then (s.notifyUsb e.bytes).getD s.notifyLost else s
    if s.cmd.notifyA0 then (s.notifyHub e.bytes).getD s.notifyLost else s

/-- Report an event (R10, R454): its flag and count; an entry when the flag read 0, or always where the rule captures detail; frozen while
the block is under test (R450). -/
def State.raiseWith (s : State) (e : Evt) (always : Bool) (detail : List Word) : State :=
  if s.underTest e.source e.inst then s else
    let r := s.setFlag e
    if r.1 || always then
      let w := r.2.writeLog e.severity e.source e.inst e.flagOfs e.flag.lo (r.2.rd e.count) detail
      w.2.notify w.1
    else r.2

/-- Report an event whose rule captures no detail. -/
def State.raise (s : State) (e : Evt) : State := s.raiseWith e false []

/-- Bits of BT_INT_STAT (R458): bit g reads 1 while any event flag of the block of gate g reads 1. -/
def State.intStat (s : State) : Nat :=
  s.regs.foldl (fun v (a, w) =>
    match regSpecAt a, blockOf a with
    | some r, some b =>
      if (r.fields.any fun f => decide (f.access = .w1c ∧ f.lo ≠ 31 ∧ getField w f.lo f.width ≠ 0)) ∧ ¬ bitOf v b.gate then
        v + 2 ^ b.gate else v
    | _, _ => v) 0

/-- INT_N is driven low (R458). -/
def State.intLow (s : State) : Bool := decide (Nat.land s.intStat (s.rd BT_INT_EN.BLOCKS) ≠ 0)

/-- SMBALERT# is driven low (R457). -/
def State.alertLow (s : State) : Bool :=
  !s.cmd.unread.isEmpty || (s.cmd.notifyAlert && s.test.log.any fun e => decide (s.cmd.notifySev ≤ e.severity ∧ s.cmd.smbNext ≤ e.index))

end Sys2Proof.Machine
end

