-- ==== Sys2Proof/Machine/Gate.lean ====
section
/-!
DEFINITION. Gate lists in the manner of IEEE 802.1Qbv (R155, R156, R281): the entry in force at a time and the rest of a queue's window. A list
is its entries in order, each a mask and a duration in ns.
-/

namespace Sys2Proof.Machine

/-- Cycle of a list in ns. -/
def gateCycle (l : List (Nat × Nat)) : Nat := (l.map Prod.snd).sum

/-- The list turned to the entry in force `pos` ns into the cycle, that entry shortened to what is left of it. -/
def gateFrom : List (Nat × Nat) → Nat → List (Nat × Nat)
  | [], _ => []
  | (m, d) :: l, pos => if pos < d then (m, d - pos) :: l else gateFrom l (pos - d)

/-- The run of bit `q` from the head of a list: its length, and whether it reaches the end. -/
def gateRun (q : Nat) : List (Nat × Nat) → Nat × Bool
  | [] => (0, true)
  | (m, d) :: l => if d = 0 then gateRun q l else if bitOf m q then (d + (gateRun q l).1, (gateRun q l).2) else (0, false)

/-- The mask in force at a time (R155); an empty cycle leaves every gate open. -/
def gateMask (l : List (Nat × Nat)) (ns : Nat) : Nat :=
  match gateFrom l (ns % gateCycle l) with
  | (m, _) :: _ => m
  | [] => 2 ^ 32 - 1

/-- What is left of the window of queue `q` in ns: none when it never ends, some 0 when the gate is closed. -/
def windowLeft (l : List (Nat × Nat)) (ns q : Nat) : Option Nat :=
  let r := gateRun q (gateFrom l (ns % gateCycle l) ++ l)
  if r.2 then none else some r.1

/-- A window of queue `q` has room for `ns`. -/
def windowFits (l : List (Nat × Nat)) (now q ns : Nat) : Bool :=
  match windowLeft l now q with
  | none => true
  | some n => decide (0 < n ∧ ns ≤ n)

end Sys2Proof.Machine
end

