-- ==== Sys2Proof/Machine/Operands.lean ====
section
/-!
DEFINITION. The layouts that several blocks read and write: the packet header (R70), cells (R66, R75), fragment words (R109), time
stamps (R74), protected units (R91), lanes of a direction (R27, R135), switch ports of adapters (R15, R104).
-/

namespace Sys2Proof.Machine

/-! ### Packets -/

/-- The 16 header bytes of a packet (R70, R72). -/
def Packet.header (p : Packet) : List Byte :=
  let flags := p.tc * 8 + p.mcast.toNat * 4 + p.spray.toNat * 2 + p.ackreq.toNat
  be 16 (p.ver * 2 ^ 124 + p.cls * 2 ^ 122 + flags * 2 ^ 116 + p.dstHub * 2 ^ 102 + p.dstAdp * 2 ^ 94 + p.srcHub * 2 ^ 80 +
    p.srcAdp * 2 ^ 72 + p.len * 2 ^ 61 + p.seq * 2 ^ 45 + p.ts * 2 ^ 11)

/-- Bits `lo .. lo + n - 1` of a number. -/
def bitsOf (v lo n : Nat) : Nat := v / 2 ^ lo % 2 ^ n

/-- The packet whose header the 16 bytes are. -/
def Packet.ofHeader (l : List Byte) : Packet :=
  let v := ofBe (l.take 16)
  { ver := bitsOf v 124 4, cls := bitsOf v 122 2, tc := bitsOf v 119 3, mcast := bitOf v 118, spray := bitOf v 117,
    ackreq := bitOf v 116, dstHub := bitsOf v 102 14, dstAdp := bitsOf v 94 8, srcHub := bitsOf v 80 14, srcAdp := bitsOf v 72 8,
    len := bitsOf v 61 11, seq := bitsOf v 45 16, ts := bitsOf v 11 34 }

/-- Bytes a packet takes on a link (R75). -/
def Packet.size (p : Packet) (enc : Bool) : Nat := 16 + p.len + if enc then 17 else 0

/-- Cells that carry `n` bytes (R75). -/
def cellsFor (n : Nat) : Nat := (n + 59) / 60

def Packet.cells (p : Packet) (enc : Bool) : Nat := cellsFor (p.size enc)

/-- The TC rule of R72. -/
def Packet.tcOk (p : Packet) : Bool := decide ((p.cls = 3) = (p.tc = 7))

/-- The 22-bit group identifier of a multicast packet (R72, R106). -/
def Packet.group (p : Packet) : Nat := p.dstHub + 2 ^ 14 * p.dstAdp

/-- The fragment word of R109. -/
def fragWord (more : Bool) (idx : Nat) : List Byte := be 2 ((if more then 0x8000 else 0) + idx % 4096)

/-- Cut a native unit into the payloads of its fragments (R109); `idx` counts them, `fuel` bounds them. -/
def fragments : Nat → Nat → List Byte → List (List Byte)
  | 0, _, _ => []
  | fuel + 1, idx, l =>
    if l.length ≤ 2045 then [fragWord false idx ++ l]
    else (fragWord true idx ++ l.take 2045) :: fragments fuel (idx + 1) (l.drop 2045)

/-- Adapter types whose native units are sent as fragments (R104). -/
def typeFragments (ty : Nat) : Bool := decide (ty = 1 ∨ ty = 2 ∨ ty = 3 ∨ ty = 8)

/-- The payloads of the packets of a native unit. -/
def unitPayloads (ty : Nat) (l : List Byte) : List (List Byte) :=
  if typeFragments ty then fragments (l.length / 2045 + 1) 0 l else [l]

/-! ### AES-256-GCM -/

def xorBytes (a b : List Byte) : List Byte := a.zipWith (· ^^^ ·) b

def aesGcmSeal (key iv aad pt : List Byte) : List Byte :=
  let ct := xorBytes pt (Config.gcmPad key iv pt.length)
  ct ++ Config.gcmTag key iv aad ct

/-- Decryption of ciphertext and tag; none when the tag fails. -/
def aesGcmOpen (key iv aad l : List Byte) : Option (List Byte) :=
  let ct := l.take (l.length - 16)
  if Config.gcmTag key iv aad ct = l.drop (l.length - 16) then some (xorBytes ct (Config.gcmPad key iv ct.length)) else none

/-! ### Stamps -/

/-- The seconds of the full stamp nearest a time (R188): the value congruent to TS[33:32] modulo 4 that places it nearest. -/
def fullStamp (ts : Nat) (now : Time) : Nat :=
  let sub := ts / 2 ^ 32 % 4
  let ns := ts % 2 ^ 32
  let base := now.sec / 4 * 4 + sub
  let n := now.toNs
  let cand := [base * 1000000000 + ns, (base + 4) * 1000000000 + ns, (base - 4) * 1000000000 + ns]
  let d := fun c => if c ≤ n then n - c else c - n
  cand.foldl (fun b c => if d c < d b then c else b) (base * 1000000000 + ns)

/-! ### Lanes of a cable port -/

def State.laneState (s : State) (n : Nat) : Nat := s.rd (LN_STAT.STATE n)

/-- The lanes of port `p` in Active that stripe in a direction (0 transmit, 1 receive). -/
def State.striped (s : State) (p d : Nat) : List Nat :=
  (List.range 4).map (4 * p + ·) |>.filter fun n =>
    decide (s.laneState n = 3 ∧ s.rd (LN_STAT.DIR n) = d ∧ s.rd (LN_STAT.WIDTH n) ≠ 0)

/-- WIDTH of a direction of port `p`. -/
def State.width (s : State) (p d : Nat) : Nat := ((s.striped p d).map fun n => s.rd (LN_STAT.WIDTH n)).foldl max 0

/-- The gait of port `p` (R29). -/
def State.gait (s : State) (p : Nat) : Nat :=
  (((List.range 4).map (4 * p + ·)).filter (fun n => decide (s.laneState n ≠ 0 ∧ s.laneState n ≠ 8))).head?.elim 0
    fun n => s.rd (LN_STAT.GAIT n)

/-- The cell rate of a direction, in lanes at Walk (R135). -/
def State.cellRate (s : State) (p d : Nat) : Nat := s.width p d * 2 ^ s.gait p

/-! ### Switch ports and adapters -/

def State.adpType (s : State) (a : Nat) : Nat := s.rd (TA_CFG0.TYPE a)

/-- The switch port a type and instance serve (R104). -/
def portOfType (ty inst : Nat) : Option Nat :=
  match ty with
  | 1 => some 16
  | 2 | 3 => some (6 + inst)
  | 4 | 5 => some (10 + inst % 2)
  | 6 | 7 => some 12
  | 8 => some (13 + inst % 2)
  | 9 | 10 => some 15
  | _ => none

def State.adpPort (s : State) (a : Nat) : Option Nat := portOfType (s.adpType a) (s.rd (TA_CFG0.INST a))

/-- The block behind a switch port, by gate and instance (R15). -/
def portBlock (o : Nat) : Nat × Nat :=
  if o < 6 then (11, o) else if o ≤ 9 then (16, o - 6) else if o ≤ 11 then (17, o - 10) else if o = 12 then (19, 0)
  else if o ≤ 14 then (20, o - 13) else if o = 15 then (18, 0) else (64, 0)

/-- A switch port whose block is enabled and not under self-test (R15, R16, R348, R450): its clock runs and its configuration does not turn it off (R197, R230,
R274). -/
def State.portEnabled (s : State) (o : Nat) : Bool :=
  !s.underTest (portBlock o).1 (portBlock o).2 &&
  match o with
  | 6 | 7 | 8 | 9 => s.clkOn (9 + (o - 6)) && s.on (DS_CFG.MODE (o - 6))
  | 10 | 11 => s.clkOn (14 + (o - 10)) && (s.on (PB_CFG.MODE (o - 10)) || decide (s.rd (PB_CFG.MODE 0) = 3))
  | 12 => s.clkOn 17 && s.on UH_CFG.EN
  | 13 | 14 => s.clkOn (18 + (o - 13)) && s.on (EN_CFG.IF (o - 13))
  | 15 => s.clkOn 16
  | _ => true

def State.tunnelOpen (s : State) (a : Nat) : Bool := s.on (TA_STAT.OPEN a)

/-- The adapter sends, or receives (R106). -/
def State.adpSends (s : State) (a : Nat) : Bool := decide (s.rd (TA_CFG0.DIR a) ≠ 2)
def State.adpReceives (s : State) (a : Nat) : Bool := decide (s.rd (TA_CFG0.DIR a) ≠ 1)

/-- The adapters of a type (and instance), lowest first. -/
def State.adaptersOf (s : State) (p : Nat → Nat → Bool) : List Nat :=
  (List.range 256).filter fun a => p (s.adpType a) (s.rd (TA_CFG0.INST a))

def State.classLossless (s : State) (tc : Nat) : Bool := s.on (SW_TC.LOSSLESS tc)

/-- The domain floor reads 3 (R192). -/
def State.floor3 (s : State) : Bool := decide (s.rd DM_FLOOR.FLOOR = 3)

/-- Whether a source adapter sprays (R120, R183): SPRAY set, the floor at 3, and the peer in this span. -/
def State.sprays (s : State) (a : Nat) : Bool :=
  s.on (TA_CFG0.SPRAY a) && s.floor3 && (s.on (TA_PEER.MCAST a) || decide (s.rd (TA_PEER.HUB a) / 512 = s.hubAddr / 512))

/-- Whether a port is a peer port, a span edge, redundant (R182, R183, R172). -/
def State.peerPort (s : State) (p : Nat) : Bool := s.on (DM_PCFG.PEER.bit p)
def State.spanEdge (s : State) (p : Nat) : Bool := s.on (DM_PCFG.SPAN_EDGE.bit p)
def State.redundant (s : State) (p : Nat) : Bool := s.on (DM_PEER.REDUNDANT p)

def State.lstate (s : State) (p : Nat) : Nat := s.rd (CL_STAT.LSTATE p)
def State.linkEnc (s : State) (p : Nat) : Bool := s.on (CL_STAT.ENC p)
def State.linkVer (s : State) (p : Nat) : Nat := s.rd (CL_STAT.VER p)

/-- The link of port `p` is up: trained (R46) and not gone down. -/
def State.linkIsUp (s : State) (p : Nat) : Bool := (s.link p).linkUp

/-- A cable port that may carry tunnel traffic (R179). -/
def State.portUsable (s : State) (p : Nat) : Bool :=
  decide (p < 6) && s.linkIsUp p && !s.redundant p && decide (s.lstate p = 4)

/-- The session keys of a direction (R88): key and salt from a PRK, for a link version and for whether the sender has the lower UID. -/
def linkKey (prk : List Byte) (ver : Nat) (lowToHigh : Bool) : List Byte × List Byte :=
  let tag := if lowToHigh then "lo>hi" else "hi>lo"
  let pre := if ver = 3 then "TL3 " else "TL2 "
  let b := fun (t : String) => t.toList.map fun c => BitVec.ofNat 8 c.toNat
  (Config.hkdfExpand prk (b (pre ++ "key " ++ tag)) 32, Config.hkdfExpand prk (b (pre ++ "iv " ++ tag)) 4)

/-- Strings as ASCII bytes. -/
def ascii (t : String) : List Byte := t.toList.map fun c => BitVec.ofNat 8 c.toNat

end Sys2Proof.Machine
end

