-- ==== Sys2Proof/Machine/Mac.lean ====
section
/-!
DEFINITION. What the tunnel adapters and the Ethernet MACs share (R276 to R280): frame tags, transmit queues, receive partitions and the flow
control they send. The tag positions are those of IEEE 802.1Q (assumption row 7).
-/

namespace Sys2Proof.Machine

def State.mac (s : State) (m : Nat) : MacSt := Tab.get {} s.macs m
def State.setMac (s : State) (m : Nat) (v : MacSt) : State := { s with macs := Tab.put {} s.macs m v }
def State.modMac (s : State) (m : Nat) (f : MacSt → MacSt) : State := s.setMac m (f (s.mac m))

/-- The frame's outer tag is a VLAN tag. -/
def ethTagged (f : List Byte) : Bool := decide (beAt f 12 2 = 0x8100 ∨ beAt f 12 2 = 0x88A8)

/-- Outer VLAN ID and priority of a tagged frame. -/
def ethVid (f : List Byte) : Nat := beAt f 14 2 % 4096
def ethPcp (f : List Byte) : Nat := beAt f 14 2 / 8192

/-- Priority of a frame at MAC `m` (R277). -/
def State.framePcp (s : State) (m : Nat) (f : List Byte) : Nat := if ethTagged f then ethPcp f else s.rd (EN_ADPMAP.DEF_PCP m)

/-- The transmit queue of a priority (R277). -/
def State.txQueueOf (s : State) (m p : Nat) : Nat := s.rd ⟨EN_TXQMAP m, 3 * p, 3⟩

def MacSt.queue (x : MacSt) (q : Nat) : List (List Byte × Bool) := Tab.get [] x.txq q

/-- The gate list of a MAC (R281): its entries in use with their durations in ns. -/
def State.macGates (s : State) (m : Nat) : List (Nat × Nat) :=
  (List.range (min 32 (s.rd (EN_GCL_CTRL.LEN m)))).map fun i => (s.rd (EN_GCL_E.GATES m i), s.rd (EN_GCL_E.DUR m i) * 16)

/-- The gate of queue `q` of a MAC is open (R281). -/
def State.macGateOpen (s : State) (m q : Nat) : Bool := !s.on (EN_GCL_CTRL.EN m) || bitOf (gateMask (s.macGates m) s.time.ns) q

/-- The credit of a shaped queue after `dt` tenths of a ns (R154, R281), in 1/80000 byte, which SLOPE Mbit/s fills in a tenth of a ns. -/
def shapeCredit (c : Int) (slope hi dt : Nat) (waiting gate : Bool) : Int :=
  if !gate then c
  else if waiting then min (c + slope * dt) (hi * 64 * 80000)
  else if 0 < c then 0 else min (c + slope * dt) 0

/-- Bring the credits of a MAC to now. -/
def State.macCredits (s : State) (m : Nat) : State :=
  let x := s.mac m
  s.setMac m { x with
    creditAt := s.uptime
    credit := (List.range 8).foldl (fun t q =>
      Tab.put 0 t q (if s.on (EN_TXQCFG.SHAPE m q) then
        shapeCredit (Tab.get 0 t q) (s.rd (EN_TXQCFG.SLOPE m q)) (s.rd (EN_TXQCFG.HICREDIT m q)) (s.uptime - x.creditAt)
          (!(x.queue q).isEmpty) (s.macGateOpen m q)
      else 0)) x.credit }

/-- A frame from a tunnel enters its transmit queue; `good` is false for a frame that ends with an inverted FCS (R124, R277). -/
def State.macEnqueue (s : State) (m : Nat) (f : List Byte) (good : Bool) : State :=
  let q := s.txQueueOf m (s.framePcp m f)
  (s.macCredits m).modMac m fun x => { x with txq := Tab.put [] x.txq q (x.queue q ++ [(f, good)]) }

/-- Bytes that wait in partition `p` of MAC `m` (R278). -/
def State.partitionUse (s : State) (m p : Nat) : Nat :=
  ((s.adaptersOf fun ty inst => decide (ty = 8 ∧ inst % 2 = m)).map fun a =>
    (((s.adp a).accepted.filter fun u => decide (u.part = some p)).map fun u => u.bytes.length).sum).sum

/-- Send a PFC frame of priority `p`, or a PAUSE frame for `p` = 8 (R279). -/
def State.sendPause (s : State) (m p quanta : Nat) : State :=
  if p = 8 then s.send (.bus 4 m 2 (be 2 quanta)) else s.send (.bus 4 m 1 (be 1 p ++ be 2 quanta))

/-- Flow control of one priority against its thresholds: XOFF when the use has reached it, XON when it has fallen to it (R279). -/
def State.flowOne (s : State) (m p use part : Nat) : State :=
  let on := (s.mac m).xoff.contains p
  if ¬ on ∧ s.rd (EN_RXBUF.XOFF m part) * 256 ≤ use then
    (s.modMac m fun x => { x with xoff := x.xoff ++ [p] }).sendPause m p (s.rd (EN_PAUSE.QUANTA m))
  else if on ∧ use ≤ s.rd (EN_RXBUF.XON m part) * 256 then
    (s.modMac m fun x => { x with xoff := x.xoff.filter (· ≠ p) }).sendPause m p 0
  else s

/-- Flow control of a MAC after its partitions changed (R279). -/
def State.flowControl (s : State) (m : Nat) : State :=
  let en := s.rd (EN_PFC.TX_EN m)
  if en ≠ 0 then s.each 8 fun p t => if bitOf en p then t.flowOne m p (t.partitionUse m p) p else t
  else if s.on (EN_PFC.LLFC m) then s.flowOne m 8 ((List.range 8).map fun p => s.partitionUse m p).sum 0
  else s

end Sys2Proof.Machine
end

