-- ==== Sys2Proof/Machine/Bridle.lean ====
section
/-!
DEFINITION. The bridle gates (R383 to R387): who may reach what, and the record of a denied access. Gate 25 also judges the frame-memory accesses of the
display DMA.
-/

namespace Sys2Proof.Machine

/-- Privilege of a master (R22); cores run ROM or patch code. -/
def Master.priv : Master → Priv
  | .core _ => .f
  | .engine _ | .displayDma _ | .pcieDma _ => .e
  | .a0 | .usb => .h
  | .smbus => .b
  | .dap => .d

/-- The codes of PRIV and of the permission triples (R386, R392). -/
def Priv.code : Priv → Nat
  | .f => 0
  | .e => 1
  | .h => 2
  | .b => 3
  | .d => 4

/-- The master identifier (R386). -/
def Master.id : Master → Nat
  | .core n => n
  | .engine e => 0x10 + e
  | .displayDma d => 0x30 + d
  | .pcieDma b => 0x34 + b
  | .a0 => 0x40
  | .usb => 0x41
  | .smbus => 0x42
  | .dap => 0x50

/-- KIND of R386. -/
inductive AccessKind where
  | read | write | execute
deriving DecidableEq, Repr

def AccessKind.code : AccessKind → Nat
  | .read => 0
  | .write => 1
  | .execute => 2

/-- The lowest enabled region of a gate that contains an address of 40 bits (R384). -/
def State.regionAt (s : State) (g a : Nat) : Option Nat :=
  (List.range 64).find? fun r =>
    s.on (BG_R_PERM.EN g r) && decide (s.rd (BG_R_BASE.ADDR g r) ≤ a / 4096 ∧ a / 4096 ≤ s.rd (BG_R_LIMIT.ADDR g r))

/-- A permission bit of a region. -/
def State.permits (s : State) (g r : Nat) (p : Priv) (k : AccessKind) : Bool := bitOf (s.rd (BG_R_PERM.PERM g r)) (3 * p.code + k.code)

/-- How a gate judges an access (R384, R385): allowed, the region that decided (64: none), denied by LOCK alone. -/
structure Verdict where
  ok : Bool
  region : Nat
  locked : Bool
deriving DecidableEq, Repr

def State.judge (s : State) (g a : Nat) (p : Priv) (k : AccessKind) : Verdict :=
  match s.regionAt g a with
  | none => ⟨decide (p = .f), 64, false⟩
  | some r =>
    let perm := s.permits g r p k
    if p = .d ∧ s.on (BG_R_PERM.LOCK g r) ∧ ¬ s.on (BG_R_PERM.UNLOCKED g r) then ⟨false, r, perm⟩ else ⟨perm, r, false⟩

/-- log2 of an access size. -/
def sizeLog (n : Nat) : Nat := ((List.range 7).find? fun k => decide (n ≤ 2 ^ k)).getD 6

/-- Record a violation (R386): in full while no record is held, else counted in MORE. Each writes a log entry with the six registers (R453). -/
def State.violate (s : State) (g a : Nat) (master : Nat) (p : Priv) (k : AccessKind) (n : Nat) (v : Verdict) : State :=
  if s.underTest 6 g then s
  else
    let s := if s.on (BG_VIOL_INFO.VALID g) then s.satAdd (BG_VIOL_MORE.VALUE g) 1
      else
        let s := (((s.wr (BG_VIOL_INFO.KIND g) k.code).wr (BG_VIOL_INFO.SIZE g) (sizeLog n)).wr (BG_VIOL_INFO.PRIV g) p.code).wr
          (BG_VIOL_INFO.MASTER g) master
        let s := ((s.wr (BG_VIOL_INFO.REGION g) v.region).wr (BG_VIOL_INFO.LOCKED g) v.locked.toNat).wr (BG_VIOL_INFO.VALID g) 1
        let s := (s.wr (BG_VIOL_ADDR_LO.VALUE g) (a % 2 ^ 32)).wr (BG_VIOL_ADDR_HI.VALUE g) (a / 2 ^ 32)
        (s.wr (BG_VIOL_TS_S.VALUE g) (s.time.sec % 2 ^ 32)).wr (BG_VIOL_TS_NS.VALUE g) s.time.ns
    s.raiseWith (Ev.BG_VIOL g) true
      [s.reg (BG_VIOL_INFO g), s.reg (BG_VIOL_ADDR_LO g), s.reg (BG_VIOL_ADDR_HI g), s.reg (BG_VIOL_TS_S g), s.reg (BG_VIOL_TS_NS g), s.reg (BG_VIOL_MORE g)]

/-- Pass an access through a gate: whether it may go on, and the record of a denial. -/
def State.gatePass (s : State) (g a : Nat) (m : Master) (p : Priv) (k : AccessKind) (n : Nat) : Bool × State :=
  let v := s.judge g a p k
  if v.ok then (true, s) else (false, s.violate g a m.id p k n v)

/-! ### The frame memory as the display DMA reaches it (R383) -/

/-- Where gate 25 sees a frame-memory offset. -/
def frameGate (x : Nat) : Nat := 0x1000000000 + x

/-- Offsets and lengths of the 64-byte accesses of a transfer. -/
def dmaUnits (a n : Nat) : List (Nat × Nat) := (List.range ((n + 63) / 64)).map fun i => (a + 64 * i, min 64 (n - 64 * i))

/-- The DMA of pipe `d` writes frame memory; a denied access writes nothing. -/
def State.dmaWrite (s : State) (d a : Nat) (l : List Byte) : State :=
  s.eachIn (dmaUnits a l.length) fun u t =>
    let r := t.gatePass 25 (frameGate u.1) (.displayDma (Fin.ofNat 4 d)) .e .write u.2
    if r.1 then r.2.setFrameBytes u.1 (bytesAt l (u.1 - a) u.2) else r.2

/-- The DMA of pipe `d` reads frame memory; what a denied access returns is free. -/
def State.dmaRead (s : State) (d a n : Nat) : List Byte × State :=
  (dmaUnits a n).foldl (fun (p : List Byte × State) u =>
    let r := p.2.gatePass 25 (frameGate u.1) (.displayDma (Fin.ofNat 4 d)) .e .read u.2
    if r.1 then (p.1 ++ r.2.frameBytes u.1 u.2, r.2)
    else
      let f := r.2.freshBytes u.2
      (p.1 ++ f.1, f.2)) ([], s)

/-- Whether the DMA of a pipe may read every page of a range. -/
def State.dmaMayRead (s : State) (a n : Nat) : Bool := (dmaUnits a n).all fun u => (s.judge 25 (frameGate u.1) .e .read).ok

end Sys2Proof.Machine
end

