-- ==== Sys2Proof/Machine/Respond.lean ====
section
/-!
DEFINITION. Answering commands (R418 to R428): the response frame, the response cache, the delivery to the owner. Executing commands is
in Machine/Command.lean.
-/

namespace Sys2Proof.Machine

/-! ### Status codes (R428) -/

def stOk : Nat := 0
def stBusy : Nat := 1
def stDenied : Nat := 2
def stInvalid : Nat := 3
def stNoTxn : Nat := 4
def stConflict : Nat := 5
def stTimeout : Nat := 6
def stVersion : Nat := 7
def stIntegrity : Nat := 8
def stResource : Nat := 9
def stAborted : Nat := 0xA

/-- Two owners share a cache and a count (R425): A0 whatever the source hub. -/
def Owner.kind : Owner → Nat
  | .a0 _ => 0
  | .usb => 1
  | .smbus => 2
  | .rom => 3

/-- Privilege of the transport (R22, R417). -/
def Owner.priv : Owner → Priv
  | .a0 _ => .h
  | .usb => .h
  | .smbus => .b
  | .rom => .f

/-- The bus master an owner's accesses count as (R386). -/
def Owner.master : Owner → Master
  | .a0 _ => .a0
  | .usb => .usb
  | .smbus => .smbus
  | .rom => .core 0

/-- Most entries a cache holds (R425). -/
def Owner.cacheSize (o : Owner) : Nat := if o.kind = 0 then 64 else 16

/-- A response frame (R418 to R420). -/
def responseFrame (op seq txn csv status detail : Nat) (data : List Byte) : List Byte :=
  le 2 op ++ le 2 seq ++ le 2 txn ++ le 2 (1 + csv * 4096) ++ le 4 (8 + data.length) ++ le 4 0 ++
  [BitVec.ofNat 8 status, 0, 0, 0] ++ le 4 detail ++ data

/-- Send a response to its owner: over A0 as a COMMAND message (R422), to the read side of the USB function (R269; the latest 16 of control commands
stay there) or of the SMBus target. -/
def State.respondOut (s : State) (o : Owner) (frame : List Byte) : State :=
  let s := s.send (.response o frame)
  let seq := leAt frame 2 2
  match o with
  | .a0 hub => s.domMsg hub 0 0x8D frame
  | .usb =>
    if s.cmd.bulkSeq.contains seq then { s with cmd := { s.cmd with bulkSeq := s.cmd.bulkSeq.erase seq, bulkResp := s.cmd.bulkResp ++ [frame] } }
    else
      let l := s.cmd.usbResp.filter fun r => decide (r.1 ≠ seq)
      { s with cmd := { s.cmd with usbResp := l.drop (l.length - 15) ++ [(seq, frame)] } }
  | .smbus => { s with cmd := { s.cmd with unread := s.cmd.unread ++ [(seq, frame)] } }
  | .rom => s

/-- Enter a response in its owner's cache, discarding the oldest when it is full (R425). -/
def State.cacheResponse (s : State) (e : CmdEntry) (frame : List Byte) : State :=
  if e.seq = 0 then s else
    let same := s.cmd.cache.filter fun c => decide (c.owner.kind = e.owner.kind)
    let others := s.cmd.cache.filter fun c => decide (c.owner.kind ≠ e.owner.kind)
    let same := if e.owner.cacheSize ≤ same.length then same.drop 1 else same
    let entry : CacheEntry := ⟨e.owner, e.seq, e.op, e.body.length, crc32 e.body, frame⟩
    { s with cmd := { s.cmd with cache := others ++ same ++ [entry] } }

/-- The last command answered (R448). -/
def State.lastAnswer (s : State) (o : Owner) (op status : Nat) : State :=
  ((s.wr GC_CMD_LAST.OPCODE op).wr GC_CMD_LAST.STATUS status).wr GC_CMD_LAST.TRANSPORT (o.kind % 3)

/-- Commands executed, by transport (R448, R273). -/
def State.countExecuted (s : State) (o : Owner) : State :=
  match o with
  | .a0 _ => s.wrapAdd GC_CMD_A0.COUNT 1
  | .usb => s.wrapAdd UH_MGMT_CMDS.COUNT 1
  | .smbus => s.wrapAdd GC_CMD_SMB.COUNT 1
  | .rom => s

/-- Answer a command (R420, R425): its response enters the cache and goes to its owner by `out`. -/
def State.answerBy (out : State → Owner → List Byte → State) (s : State) (e : CmdEntry) (status detail : Nat) (data : List Byte) : State :=
  let frame := responseFrame e.op e.seq e.txn e.csv status detail data
  let s := { s with cmd := { s.cmd with entries := s.cmd.entries.erase e } }
  out (((s.lastAnswer e.owner e.op status).countExecuted e.owner).cacheResponse e frame) e.owner frame

/-- The executing command that waits for something. -/
def State.waiter (s : State) (p : Wait → Bool) : Option CmdEntry := s.cmd.entries.find? fun e => e.running && p e.wait

/-- A RELAY waits for this response frame of a hub: its OPCODE, SEQ and TXN (R446). -/
def relayOf (hub : Nat) (frame : List Byte) (w : Wait) : Bool :=
  match w with
  | .relay h inner => decide (h = hub ∧ inner.take 6 = frame.take 6)
  | _ => false

/-- An inner response ends the RELAY that waits for it; a late one is discarded (R446). -/
def State.relayResponse (s : State) (hub : Nat) (frame : List Byte) : State :=
  match s.waiter (relayOf hub frame) with
  | some e => s.answerBy State.respondOut e stOk 0 frame
  | none => s.raise Ev.GC_RELAY_LATE

/-- Send a response; one to this hub's own A0 is that of a RELAY to itself (R446). Cores that have stopped serving send none (R24). -/
def State.respond (s : State) (o : Owner) (frame : List Byte) : State :=
  if s.clk.stopped then s
  else match o with
  | .a0 hub => if hub = s.hubAddr then (s.send (.response o frame)).relayResponse hub frame else s.respondOut o frame
  | _ => s.respondOut o frame

def State.answer (s : State) (e : CmdEntry) (status detail : Nat) (data : List Byte) : State := s.answerBy State.respond e status detail data

/-- Answer the command that waits for something, if one does. -/
def State.finish (s : State) (p : Wait → Bool) (status detail : Nat) (data : List Byte) : State :=
  match s.waiter p with
  | some e => s.answer e status detail data
  | none => s

/-- The gates let an owner read registers, each given with its gate (R22, R386). -/
def State.readsPass (s : State) (o : Owner) : List (Nat × Nat) → Bool × State
  | [] => (true, s)
  | (g, a) :: l =>
    let r := s.gatePass g a o.master o.priv .read 4
    if r.1 then r.2.readsPass o l else r

/-- Answer the command that waits for something with registers, read at its transport's privilege (R421), each given with its gate. -/
def State.finishRegs (s : State) (p : Wait → Bool) (l : List (Nat × Nat)) (more : List Byte) : State :=
  match s.waiter p with
  | some e =>
    let r := s.readsPass e.owner l
    if r.1 then r.2.answer e stOk 0 ((l.flatMap fun x => wordLe (r.2.reg x.2)) ++ more) else r.2.answer e stDenied 0 []
  | none => s

/-- What the executing command of an owner waits for becomes `w`. -/
def State.setWait (s : State) (e : CmdEntry) (w : Wait) : State :=
  { s with cmd := { s.cmd with entries := s.cmd.entries.replace e { e with wait := w } } }

/-! ### What executes in which state (R429) -/

/-- Commands served while there is no image. -/
def noImageServes (op : Nat) : Bool := decide (op / 256 = 0 ∨ op / 256 = 2 ∨ op / 256 = 8)

/-- Commands served while there is no reference. -/
def noRefServes (op : Nat) : Bool := noImageServes op || decide (op / 256 = 0x0C) || (decide (op / 256 = 6) && decide (op ≠ 0x0601))

/-- The reference is lost: executing commands that are not served then are answered ABORTED (R447). -/
def State.abortUnserved (s : State) : State :=
  (s.cmd.entries.filter fun e => e.running && !(noRefServes e.op && decide (e.owner = .smbus))).foldl (fun t e => t.answer e stAborted 0 []) s

end Sys2Proof.Machine
end

