-- ==== Sys2Proof/Machine/Buffer.lean ====
section
/-!
DEFINITION. The cell buffer (R131 to R138): stored packets, their charges, their references, and the credits their release returns.
-/

namespace Sys2Proof.Machine

def State.mapSw (s : State) (f : SwitchSt → SwitchSt) : State := { s with sw := f s.sw }

/-- The VOQ index of R129. -/
def voqIdx (inp out tc : Nat) : Nat := (inp * 20 + out) * 8 + tc

/-- The staging queue, round robin and running packet of an output and class stand at this index. -/
def stIdx (out tc : Nat) : Nat := out * 8 + tc

def State.stored (s : State) (id : Nat) : Option Stored := Tab.get none s.sw.store id
def State.setStored (s : State) (id : Nat) (v : Option Stored) : State :=
  s.mapSw fun w => { w with store := Tab.put none w.store id v }
def State.voq (s : State) (i : Nat) : List Ref := Tab.get [] s.sw.voqs i
def State.setVoq (s : State) (i : Nat) (l : List Ref) : State := s.mapSw fun w => { w with voqs := Tab.put [] w.voqs i l }
def State.stage (s : State) (i : Nat) : List StageCell := Tab.get [] s.sw.stage i
def State.setStage (s : State) (i : Nat) (l : List StageCell) : State :=
  s.mapSw fun w => { w with stage := Tab.put [] w.stage i l }
def State.arrivals (s : State) (p : Nat) : List Arrival := Tab.get [] s.sw.arrivals p
def State.setArrivals (s : State) (p : Nat) (l : List Arrival) : State :=
  s.mapSw fun w => { w with arrivals := Tab.put [] w.arrivals p l }

/-- A number for a packet new to the switch. -/
def State.newId (s : State) : Nat × State := (s.sw.nextId, s.mapSw fun w => { w with nextId := w.nextId + 1 })

/-- Take from or add to a counter of cells. -/
def State.addCells (s : State) (f : Fld) (n : Nat) : State := s.wr f (s.rd f + n)
def State.subCells (s : State) (f : Fld) (n : Nat) : State := s.wr f (s.rd f - n)

/-- Return `n` cells of class `tc` to the far hub of cable port `p` (R78). -/
def State.freeCredit (s : State) (p tc n : Nat) : State :=
  if p < 6 then s.modLink p fun l =>
    { l with freed := l.freed.set tc ((l.freed.getD tc 0 + n) % 2 ^ 24), credPend := l.credPend.set tc (l.credPend.getD tc 0 + n) }
  else s

/-- Remove the charge of `n` cells of an input and class (R134, R143). -/
def State.uncharge (s : State) (inp tc n : Nat) (lossless : Bool) : State :=
  if lossless then (s.subCells (SW_RSV_USED.CELLS inp) n).freeCredit inp tc n
  else (s.subCells SW_SHARED_USED.CELLS n).subCells (SW_SHR_USED.CELLS tc) n

/-- Free a stored packet: its cells, its charge, its credits (R134, R138). -/
def State.freeStored (s : State) (id : Nat) (st : Stored) : State :=
  ((s.setStored id none).addCells SW_FREE.FREE st.cells).uncharge st.inp st.pkt.tc st.cells st.lossless

/-- Release one reference; the last frees the cells (R138). A mirror reference also leaves the hold (R139). -/
def State.release (s : State) (id : Nat) (mirror : Option MirRef) : State :=
  match s.stored id with
  | none => s
  | some st =>
    let s := if mirror.isSome then s.mapSw fun w => { w with mirHeld := w.mirHeld - st.cells } else s
    if st.refs ≤ 1 then s.freeStored id st else s.setStored id (some { st with refs := st.refs - 1 })

/-- The cells VOQ `i` holds (R134): those granted have left it. -/
def State.voqCells (s : State) (i : Nat) : Nat :=
  ((s.voq i).map fun r => (s.stored r.id).elim 0 Stored.cells - r.granted).sum

/-- Cells queued toward an output in a class: the VOQs of every input and the staging queue (R163, R180). -/
def State.queuedCells (s : State) (out tc : Nat) : Nat :=
  ((List.range 20).map fun i => s.voqCells (voqIdx i out tc)).sum + (s.stage (stIdx out tc)).length

/-- Cells of the output layout of a stored packet (R69, R75): all of them, or when it was cut, the whole cells there are and a tail cell. -/
def Stored.outCells (st : Stored) (enc : Bool) : Nat :=
  if st.complete ∧ st.cut then (16 + st.pkt.payload.length) / 60 + 1 else st.pkt.cells enc

/-- Cell `i` of the output layout may leave: all is there, or it holds neither tail, trailer nor tag and its bytes are there. -/
def Stored.cellReady (st : Stored) (enc : Bool) (i : Nat) : Bool :=
  st.complete || decide (i + 1 < st.pkt.cells enc ∧ 60 * (i + 1) ≤ 16 + st.pkt.len ∧ 60 * (i + 1) ≤ 16 + st.pkt.payload.length)

/-- The output of a port is encrypted: cable ports only. -/
def State.outEnc (s : State) (o : Nat) : Bool := decide (o < 6) && s.linkEnc o

/-- A packet as a reference reads it (R131): cells that could not be corrected hold what was read, and the tail is poisoned. The header is the
descriptor's copy (R132). -/
def Ref.view (r : Ref) (p : Packet) : Packet :=
  if r.bad.isEmpty then p
  else { p with
    payload := r.bad.foldl (fun l (i, b) =>
      let b := (if i = 0 then b.drop 16 else b).take (l.length - (60 * i - 16))
      l.take (60 * i - 16) ++ b ++ l.drop (60 * i - 16 + b.length)) p.payload
    tail := if p.tail = 0 then 2 else p.tail }

/-- The mark of cells a packet loses now (R141): a running audit has walked them or marked them at their allocation, so that only the next one finds them
suspect (R144). -/
def State.lostMark (s : State) (st : Stored) : Nat := if s.on SW_FAR_STAT.BUSY then s.sw.mark else st.mark

/-- Drop a reference whose descriptor is lost (R132). With it the last reference goes, and the cells are neither free nor referenced
until the farrier reclaims them (R144). One descriptor stands for one output: the references of the other outputs stay (assumption row 146). -/
def State.loseStored (s : State) (id : Nat) (mirror : Option MirRef) : State :=
  match s.stored id with
  | none => s
  | some st =>
    let s := if mirror.isSome then s.mapSw fun w => { w with mirHeld := w.mirHeld - st.cells } else s
    if st.refs ≤ 1 then
      (s.mapSw fun w => { w with
        lost := w.lost ++ [{ inp := st.inp, tc := st.pkt.tc, cells := st.cells, lossless := st.lossless, mark := s.lostMark st }] }).setStored id none
    else s.setStored id (some { st with refs := st.refs - 1 })

/-- Release the packets queued to cable port `o` (R146): every VOQ reference and staged packet; answers how many packets went. -/
def State.releaseQueued (s : State) (o : Nat) : Nat × State :=
  let voqs := (List.range 20).flatMap fun i => (List.range 8).map fun tc => voqIdx i o tc
  let fromVoq := voqs.flatMap fun i => s.voq i
  let staged := (List.range 8).flatMap fun tc => ((s.stage (stIdx o tc)).filter StageCell.last).map StageCell.ref
  let all := fromVoq ++ staged
  let s := voqs.foldl (fun t i => t.setVoq i []) s
  let s := (List.range 8).foldl (fun t tc =>
    (t.setStage (stIdx o tc) []).mapSw fun w => { w with running := Tab.put none w.running (stIdx o tc) none }) s
  (all.length, s.eachIn all fun r t => t.release r.id r.mirror)

/-- Flush a cable port (R146). -/
def State.flush (s : State) (o : Nat) : State :=
  let r := s.releaseQueued o
  if r.1 = 0 then s else (r.2.satAdd SW_FLUSHED.PACKETS r.1).raise Ev.SW_FLUSH

end Sys2Proof.Machine
end

