-- ==== Sys2Proof/Machine/Tlp.lean ====
section
/-!
DEFINITION. PCIe transaction layer packets as the bridges read and build them (R230, R235, R242): a bridge record is KIND and WIN, three
reserved bytes and the body. Field places of a TLP header are those of the public PCIe base specification (assumption row 7).
-/

namespace Sys2Proof.Machine

/-- Format and type of a TLP's first byte. -/
def tlpFmt (l : List Byte) : Nat := byteAt l 0 / 32
def tlpType (l : List Byte) : Nat := byteAt l 0 % 32

/-- Header length: 16 bytes when Fmt bit 0 is 1, else 12. -/
def tlpHdr (l : List Byte) : Nat := if tlpFmt l % 2 = 1 then 16 else 12

def tlpHasData (l : List Byte) : Bool := decide (tlpFmt l / 2 % 2 = 1)
def tlpIsMem (l : List Byte) : Bool := decide (tlpType l = 0 ∨ tlpType l = 1)
def tlpIsCpl (l : List Byte) : Bool := decide (tlpType l = 0xA ∨ tlpType l = 0xB)
def tlpIsMsg (l : List Byte) : Bool := decide (16 ≤ tlpType l ∧ tlpType l < 24)
def tlpIsMemWrite (l : List Byte) : Bool := decide (tlpType l = 0) && tlpHasData l

/-- A non-posted request: neither a memory write, a message nor a completion. -/
def tlpNonPosted (l : List Byte) : Bool := !tlpIsCpl l && !tlpIsMsg l && !tlpIsMemWrite l

/-- Address of a memory request. -/
def tlpAddr (l : List Byte) : Nat := if tlpHdr l = 16 then beAt l 8 8 / 4 * 4 else beAt l 8 4 / 4 * 4

/-- Relaxed Ordering attribute. -/
def tlpRelaxed (l : List Byte) : Bool := bitOf (byteAt l 2) 5

/-- Requester and tag of a request, and of the request a completion answers. -/
def tlpTag (l : List Byte) : Nat := beAt l 4 2 * 256 + byteAt l 6
def cplTag (l : List Byte) : Nat := beAt l 8 2 * 256 + byteAt l 10

/-- The last completion of a request: no data, or the bytes left do not exceed those it carries. -/
def cplFinal (t : List Byte) : Bool :=
  let bc := beAt t 6 2 % 4096
  let len := beAt t 2 2 % 1024
  !tlpHasData t || decide ((if bc = 0 then 4096 else bc) ≤ 4 * (if len = 0 then 1024 else len))

/-- A completion without data of a status (1 UR, 4 CA) for a requester and tag. -/
def tlpCpl (status reqTag : Nat) : List Byte :=
  [0x0A, 0, 0, 0] ++ be 2 0 ++ be 2 (status * 8192) ++ be 2 (reqTag / 256) ++ [BitVec.ofNat 8 reqTag, 0]

/-- A bridge record (R235). -/
def pbRecord (kind win : Nat) (body : List Byte) : List Byte := [BitVec.ofNat 8 (kind * 16 + win), 0, 0, 0] ++ body

/-- The ERROR record of R235. -/
def pbError (cause status seq addr : Nat) : List Byte := pbRecord 3 15 (be 1 cause ++ be 1 status ++ be 2 seq ++ be 8 addr)

/-- The address split of a bonded bridge (R230): SP11 for a memory request with address bit 12 = 1. -/
def pbSplit (payload : List Byte) : Nat :=
  if byteAt payload 0 / 16 = 0 ∧ tlpIsMem (payload.drop 4) ∧ bitOf (tlpAddr (payload.drop 4)) 12 then 11 else 10

/-- MODE of a bridge: with P0 bonded P1 reads 3 (R230). -/
def State.pbMode (s : State) (b : Nat) : Nat := if s.rd (PB_CFG.MODE 0) = 3 then 3 else s.rd (PB_CFG.MODE b)

/-- The bridge of a PCIe adapter: P0 where it runs bonded. -/
def State.bridgeOf (s : State) (a : Nat) : Nat := if s.rd (PB_CFG.MODE 0) = 3 then 0 else s.rd (TA_CFG0.INST a) % 2

/-- The switch port of a packet of a local adapter (R104, R230). -/
def State.packetPort (s : State) (a : Nat) (payload : List Byte) : Option Nat :=
  if s.adpType a = 4 ∧ s.rd (PB_CFG.MODE 0) = 3 then some (pbSplit payload) else s.adpPort a

/-- An ERROR record to the far bridge of a PCIe adapter (R242). -/
def State.sendPbError (s : State) (a cause status seq addr : Nat) : State :=
  s.accept a { bytes := pbError cause status seq addr, ts := s.time.stamp }

/-- GAP or LATE on a PCIe tunnel (R242): ERROR, cause 0 or 1. -/
def State.farGap (s : State) (a cause seq : Nat) : State :=
  if s.adpType a = 4 ∨ s.adpType a = 5 then s.sendPbError a cause 0 seq 0 else s

/-- A CONFIRM for SEQ `seq` to the peer of adapter `a` (R240, R82). -/
def State.sendConfirm (s : State) (a seq status : Nat) : State :=
  s.domMsg (s.rd (TA_PEER.HUB a)) (s.rd (TA_PEER.ADP a)) 0x8C (be 2 seq ++ be 1 status)

/-- Present a unit of a local block to its adapter (R106, R517): one that only receives takes none. -/
def State.present (s : State) (a : Nat) (bytes : List Byte) (ackreq : Bool := false) : State :=
  if s.adpSends a ∧ (a = 0 ∨ s.tunnelOpen a) then s.accept a { bytes := bytes, ts := s.time.stamp, ackreq := ackreq } else s

/-- A TLP to the native link of the bridge of adapter `a`. -/
def State.nativeTlp (s : State) (a : Nat) (t : List Byte) : State := s.send (.bus 0 (s.bridgeOf a) 0 t)

/-- A completion this bridge makes for a request it sent into the tunnel of adapter `a` goes where that request came from: the native link, or the
tunnel of another vDSP (R233, R242). -/
def State.answerRequest (s : State) (a status tag : Nat) : State :=
  match (s.adp a).p2p.find? fun r => decide (r.1 = tag) with
  | some (_, c) => s.present c (pbRecord 0 15 (tlpCpl status tag))
  | none => s.nativeTlp a (tlpCpl status tag)

/-- Request `tag` sent into the tunnel of adapter `a` is complete. -/
def State.requestDone (s : State) (a tag : Nat) : State :=
  s.modAdp a fun x => { x with
    open_ := x.open_.filter fun r => decide (tlpTag r ≠ tag), p2p := x.p2p.filter fun r => decide (r.1 ≠ tag) }

/-- A synthesized CA completion is a Completer Abort in the AER status of the vDSP (R243). -/
def State.caNoted (s : State) (a : Nat) : State :=
  if s.adpType a = 4 then
    { s with brg := { s.brg with vdsps := Tab.put {} s.brg.vdsps a { Tab.get {} s.brg.vdsps a with completerAbort := true } } }
  else s

/-- A poisoned arrival at a bridge (R242): a completion of status CA for a request (back into the tunnel) or for a completion (to the native
side), an ERROR with cause 2 for a posted write. -/
def State.farPoison (s : State) (a : Nat) (p : Packet) : State :=
  let t := p.payload.drop 4
  let s := s.raise (Ev.PB_POISON (s.bridgeOf a))
  if byteAt p.payload 0 / 16 ≠ 0 then s
  else if tlpIsCpl t then
    ((s.caNoted a).answerRequest a 4 (cplTag t)).requestDone a (cplTag t)
  else if tlpNonPosted t then (s.caNoted a).accept a { bytes := pbRecord 0 15 (tlpCpl 4 (tlpTag t)), ts := s.time.stamp }
  else s.sendPbError a 2 0 p.seq (if tlpIsMem t then tlpAddr t else 0)

end Sys2Proof.Machine
end

