-- ==== Sys2Proof/Machine/Adapter.lean ====
section
/-!
DEFINITION. Tunnel adapters and stride engines (R103 to R124, R517): dispatch of native units, the policer, work queues and stealing, the
egress checks, the re-sequencer and the rebuilding of native units.
-/

namespace Sys2Proof.Machine

/-! ### Engines -/

/-- Idle (R114): nothing queued, nothing in progress, no move. -/
def EngineSt.idle (e : EngineSt) : Bool := e.queue.isEmpty && e.cur.isNone && e.moving.isNone

/-- An item may be stolen: its adapter is not pinned now (R114, R119, R116) and was not when the item was queued (R122). -/
def State.stealable (s : State) (it : Item) : Bool := !it.pin && !s.on (TA_CFG0.PIN it.adp)

/-- The engine takes up an item (R112). An ingress item's first cell goes to the input port of its adapter for admission (R134). -/
def State.startItem (s : State) (e : Nat) (it : Item) : State :=
  if it.ingress then
    let r := s.newId
    let s := r.2.modEng e fun x => { x with cur := some { it with id := r.1 }, admitted := false }
    let p := (s.packetPort it.adp it.pkt.payload).getD 16
    s.setArrivals p (s.arrivals p ++ [{ id := r.1, pkt := it.pkt, cells := it.pkt.cells false, eng := some e, whole := false, out := it.out }])
  else s.modEng e fun x => { x with cur := some it, admitted := true }

/-- An engine with nothing in progress takes the head of its queue. -/
def State.startNext (s : State) (e : Nat) : State :=
  let x := s.eng e
  match x.cur, x.moving, x.queue with
  | none, none, it :: rest => (s.modEng e fun y => { y with queue := rest }).startItem e it
  | _, _, _ => s

/-- Queue an item at its adapter's home engine (R113), with the adapter's PIN as it stands (R122). -/
def State.enqueue (s : State) (e : Nat) (it : Item) : State :=
  (s.modEng e fun x => { x with queue := x.queue ++ [{ it with pin := s.on (TA_CFG0.PIN it.adp) }] }).startNext e

/-- Room in a work queue of 64 items (R112, R113); items on their way into it hold their places (R114). -/
def State.queueRoom (s : State) (e n : Nat) : Bool :=
  decide ((s.eng e).queue.length + ((s.eng e).moving.elim 0 List.length) + n ≤ 64)

def State.home (s : State) (a : Nat) : Nat := s.rd (TA_CFG0.HOME a)

/-- End of the item in progress: count it and start the next (R112). -/
def State.endItem (s : State) (e : Nat) : State :=
  ((s.modEng e fun x => { x with cur := none }).wrapAdd (SE_ITEMS.ITEMS e) 1).startNext e

/-- Bytes of the native unit in a packet: the payload without its fragment word (R109, R125). -/
def State.nativeBytes (s : State) (a : Nat) (p : Packet) : Nat :=
  if typeFragments (s.adpType a) then p.payload.length - 2 else p.payload.length

/-- A local packet as the switch handed it over (R131): with the cells it read in error; `d` where it is no longer stored. -/
def State.localPacket (s : State) (id adp : Nat) (d : Packet) : Packet :=
  let p := (s.stored id).elim d Stored.pkt
  (s.sw.misread.find? fun r => decide (r.id = id ∧ r.adp = adp)).elim p (·.view p)

/-- A local packet is out of the switch: its marks go. -/
def State.forgetLocal (s : State) (id adp : Nat) : State :=
  s.mapSw fun w => { w with
    ready := w.ready.erase (id, adp), taken := w.taken.erase (id, adp), gone := w.gone.erase (id, adp)
    misread := w.misread.filter fun r => !decide (r.id = id ∧ r.adp = adp) }

/-- An engine finishes its item (R112): on ingress the last cell is written, which needs the admission of its first; on egress the packet is
checked and handed to the re-sequencer, which needs its last cell from the switch. -/
def State.completeItem (s : State) (e : Nat) : State :=
  match (s.eng e).cur with
  | none => s
  | some it =>
    if it.ingress then
      if (s.eng e).admitted then
        let s := match s.stored it.id with
          | some st => s.setStored it.id (some { st with complete := true })
          | none => s
        let s := s.wrapAdd (TA_PKT_TX.PACKETS it.adp) 1
        let s := s.wrapAdd64 (TA_BYTE_TX_LO.BYTES_LO it.adp) (TA_BYTE_TX_HI.BYTES_HI it.adp) (s.nativeBytes it.adp it.pkt)
        s.endItem e
      else s
    else if s.sw.ready.contains (it.id, it.adp) then
      let t := s.forgetLocal it.id it.adp
      if s.sw.gone.contains (it.id, it.adp) then t.endItem e
      else (t.modAdp it.adp fun x => { x with rx := x.rx ++ [(s.localPacket it.id it.adp it.pkt, it.id, it.pdk)] }).endItem e
    else s

/-- The victim of a thief among engines `l` (R114): most stealable items, the lower number on a tie, two at least. -/
def State.victim (s : State) (l : List Nat) : Option (Nat × Nat) :=
  let best := l.foldl (fun b v =>
    let n := ((s.eng v).queue.filter s.stealable).length
    match b with
    | some (_, m) => if m < n then some (v, n) else b
    | none => some (v, n)) none
  match best with
  | some (v, n) => if 2 ≤ n then some (v, n) else none
  | none => none

/-- Take the last `k` stealable items of a queue; what remains and what was taken, both in order. -/
def State.takeLast (s : State) : List Item → Nat → List Item × List Item
  | [], _ => ([], [])
  | it :: l, k =>
    let r := s.takeLast l k
    if r.2.length < k ∧ s.stealable it then (r.1, it :: r.2) else (it :: r.1, r.2)

/-- A thief takes half the stealable items of its victim (R114). -/
def State.steal (s : State) (e v n : Nat) (cross : Bool) : State :=
  let k := n / 2
  let r := s.takeLast (s.eng v).queue k
  let s := s.modEng v fun x => { x with queue := r.1 }
  let s := s.modEng e fun x => { x with moving := some r.2 }
  let s := (s.wrapAdd (SE_STOLEN_IN.ITEMS e) k).wrapAdd (SE_STOLEN_OUT.ITEMS v) k
  if cross then s.wrapAdd (SE_XSTEAL.ITEMS e) k else s

def cluster (e : Nat) : List Nat := (List.range 8).map (e / 8 * 8 + ·)
def otherClusters (e : Nat) : List Nat := (List.range 32).filter fun v => decide (v / 8 ≠ e / 8)

/-- STEAL (R114): the thief is idle, may steal and finds a victim in its cluster. -/
def execSteal (e : Fin 32) (s : State) : Res :=
  .next (if (s.eng e).idle ∧ s.on (SE_CTRL.STEAL_EN e) then
    match s.victim ((cluster e).filter (· ≠ e.val)) with
    | some (v, n) => s.steal e v n false
    | none => s
  else s)

/-- XSTEAL (R115): across clusters, when its own cluster gave no victim on this clock. -/
def execXsteal (e : Fin 32) (s : State) : Res :=
  .next (if (s.eng e).idle ∧ s.on (SE_CTRL.XSTEAL_EN e) ∧
      (¬ s.on (SE_CTRL.STEAL_EN e) ∨ (s.victim ((cluster e).filter (· ≠ e.val))).isNone) then
    match s.victim (otherClusters e) with
    | some (v, n) => s.steal e v n true
    | none => s
  else s)

/-- STEAL_MOVE_DONE (R114, R116): the stolen items come before the thief's own, and the oldest starts. -/
def execStealMoveDone (e : Fin 32) (s : State) : Res :=
  .next (match (s.eng e).moving with
  | none => s
  | some l => (s.modEng e fun x => { x with moving := none, queue := l ++ x.queue }).startNext e)

/-- WORK_ITEM_COMPLETE (R112). -/
def execWorkItemComplete (e : Fin 32) (s : State) : Res := .next (s.completeItem e)

/-! ### The policer (R123, R157) -/

/-- Charge of a native unit: 16 + LENGTH for each packet it forms (R123). -/
def unitCharge (l : List (List Byte)) : Nat := (l.map fun p => 16 + p.length).sum

/-- Tokens of an entry now, in 1/80000 byte: RATE Mbit/s is RATE/80000 byte in a tenth of a ns, which the uptime counts. -/
def State.tokensNow (s : State) (i : Nat) : Nat :=
  let r := Tab.get (0, 0) s.pol.tokens i
  min (s.rd (AL_POL_BURST.BURST i) * 80000) (r.1 + s.rd (AL_POL_RATE.RATE i) * (s.uptime - r.2))

/-- Charge an entry: whether the unit passes, and the bucket after it (R157). -/
def State.police (s : State) (i charge : Nat) : Bool × State :=
  let have_ := s.tokensNow i
  let set := fun (t : State) (v : Nat) => { t with pol := { t.pol with tokens := Tab.put (0, 0) t.pol.tokens i (v, t.uptime) } }
  if charge * 80000 ≤ have_ then (true, (set s (have_ - charge * 80000)).satAdd (AL_POL_PASS.PASS i) 1)
  else (false, (set s have_).satAdd (AL_POL_DROP.DROP i) 1)

/-- Fill an entry (R157): at the quiet point of the commit that writes it. -/
def State.fillPolicer (s : State) (i : Nat) : State :=
  { s with pol := { s.pol with tokens := Tab.put (0, 0) s.pol.tokens i (s.rd (AL_POL_BURST.BURST i) * 80000, s.uptime) } }

/-! ### Dispatch (R108 to R113, R517) -/

/-- The header of the next packet of an adapter (R70, R106, R108, R110). -/
def State.txPacket (s : State) (a : Nat) (u : NativeUnit) (payload : List Byte) : Packet :=
  let mc := s.on (TA_PEER.MCAST a)
  let hub := s.hubAddr
  { ver := 3, cls := s.rd (TA_CFG0.CLASS a), tc := s.rd (TA_CFG0.TC a), mcast := mc, spray := s.sprays a, ackreq := u.ackreq
    dstHub := match u.dst, u.via with
      | some (h, _), _ => h
      | none, some _ => hub
      | none, none => s.rd (TA_PEER.HUB a)
    dstAdp := match u.dst, u.via with
      | some (_, d), _ => d
      | none, some _ => 0
      | none, none => s.rd (TA_PEER.ADP a)
    srcHub := hub, srcAdp := a, len := payload.length, seq := s.rd (TA_SEQ.TX_SEQ a), ts := u.ts, payload := payload }

/-- Build and queue the packets of a unit, each with the next SEQ (R108). -/
def State.dispatchPackets (s : State) (a : Nat) (u : NativeUnit) : List (List Byte) → State
  | [] => s
  | p :: l =>
    let it : Item := { ingress := true, adp := a, pkt := s.txPacket a u p, out := u.via }
    ((s.wrapAdd (TA_SEQ.TX_SEQ a) 1).enqueue (s.home a) it).dispatchPackets a u l

/-- Whether the adapter's class is lossy: ISO or LOSSY (R71). -/
def State.adpLossy (s : State) (a : Nat) : Bool := decide (s.rd (TA_CFG0.CLASS a) = 0 ∨ s.rd (TA_CFG0.CLASS a) = 2)

/-- The unit has passed its policer: check the home queue, then assign SEQ and queue (R113). -/
def State.dispatchUnit (s : State) (a : Nat) (u : NativeUnit) (rest : List NativeUnit) (ps : List (List Byte)) : State :=
  if s.queueRoom (s.home a) ps.length then (s.modAdp a fun x => { x with accepted := rest }).dispatchPackets a u ps
  else if s.adpLossy a then
    (((s.modAdp a fun x => { x with accepted := rest }).raise (Ev.TA_QFULL a)).satAdd (TA_DROP.QFULL a) 1).raise (Ev.SE_QFULL (s.home a))
  else if u.held then s
  else (s.modAdp a fun x => { x with accepted := { u with held := true } :: rest }).raise (Ev.SE_QFULL (s.home a))

/-- A unit that a held confirmed write of its tunnel keeps back (R239): every later TLP, except one with Relaxed Ordering that is no
write to the same window; on a register bus every later request. -/
def State.heldBack (s : State) (a : Nat) (u : NativeUnit) : Bool :=
  match (s.adp a).conf with
  | none => false
  | some (w, _, _) =>
    if s.adpType a = 10 then decide (byteAt u.bytes 0 = 1 ∨ byteAt u.bytes 0 = 2)
    else
      let t := u.bytes.drop 4
      decide (byteAt u.bytes 0 / 16 = 0) && !(tlpRelaxed t && !(tlpIsMemWrite t && decide (byteAt u.bytes 0 % 16 = w)))

/-- The oldest unit of a list that is not held back, and the others in order. -/
def State.nextUnit (s : State) (a : Nat) : List NativeUnit → Option (NativeUnit × List NativeUnit)
  | [] => none
  | u :: l => if s.heldBack a u then (s.nextUnit a l).map fun r => (r.1, u :: r.2) else some (u, l)

/-- What a bridge remembers of a unit it has sent (R239, R242, R243): the confirmed write it now holds for, a non-posted request that awaits its
completion, the first TLP header under its SEQ. -/
def State.noteSent (s : State) (a seq : Nat) (u : NativeUnit) : State :=
  if s.adpType a = 4 ∨ s.adpType a = 5 then
    if byteAt u.bytes 0 / 16 ≠ 0 then s else
      let t := u.bytes.drop 4
      s.modAdp a fun x => { x with
        conf := if u.ackreq then some (byteAt u.bytes 0 % 16, seq, u.bytes) else x.conf
        open_ := if tlpNonPosted t then x.open_ ++ [t] else x.open_
        owed := if tlpIsCpl t && cplFinal t then x.owed.filter (fun r => tlpTag r ≠ cplTag t) else x.owed
        headers := Tab.put [] x.headers seq (t.take (tlpHdr t)) }
  else if s.adpType a = 10 ∧ u.ackreq then s.modAdp a fun x => { x with conf := some (byteAt u.bytes 3, seq, u.bytes) }
  else s

/-- Units left the adapter: flow control of its MAC follows the partitions (R278, R279). -/
def State.unitGone (s : State) (a : Nat) : State := if s.adpType a = 8 then s.flowControl (s.rd (TA_CFG0.INST a) % 2) else s

/-- Dispatch the oldest unit (R517, R123, R113, R108) adapter `a` has accepted and that nothing holds back. -/
def State.dispatch (s : State) (a : Nat) : State :=
  match s.nextUnit a (s.adp a).accepted with
  | none => s
  | some (u, rest) =>
    if (s.adp a).stopped then s
    else if a ≠ 0 ∧ ¬ s.tunnelOpen a then (s.modAdp a fun x => { x with accepted := rest }).unitGone a
    else
      let ps := unitPayloads (s.adpType a) u.bytes
      let i := s.rd (TA_CFG1.POLICER a)
      let seq := s.rd (TA_SEQ.TX_SEQ a)
      let n := (s.adp a).accepted.length
      let s := if s.adpLossy a ∧ i ≠ 0 then
          let r := s.police i (unitCharge ps)
          if r.1 then r.2.dispatchUnit a u rest ps
          else ((r.2.modAdp a fun x => { x with accepted := rest }).raise (Ev.TA_POLICED a)).satAdd (TA_DROP.POLICE a) 1
        else s.dispatchUnit a u rest ps
      if (s.adp a).accepted.length < n then (if s.rd (TA_SEQ.TX_SEQ a) ≠ seq then s.noteSent a seq u else s).unitGone a else s

/-! ### Egress: home queue, re-sequencer, rebuild (R107, R111, R113, R117 to R124) -/

/-- A local packet whose first cell stands in staging enters its home queue when there is room; otherwise the engine counts it once and the
packet waits (R113). -/
def State.egressEnter (s : State) (id adp : Nat) (pkt : Packet) (pdk : Bool) : State :=
  if s.queueRoom (s.home adp) 1 then
    (s.mapSw fun w => { w with taken := w.taken ++ [(id, adp)], qwait := w.qwait.erase (id, adp) }).enqueue (s.home adp)
      { ingress := false, adp := adp, pkt := pkt, id := id, pdk := pdk }
  else if s.sw.qwait.contains (id, adp) then s
  else (s.mapSw fun w => { w with qwait := w.qwait ++ [(id, adp)] }).raise (Ev.SE_QFULL (s.home adp))

/-- Hand a native unit to the local block; an Ethernet frame enters its MAC's transmit queue. -/
def State.deliverNative (s : State) (a : Nat) (bytes : List Byte) (poisoned : Bool) : State :=
  let s := s.send (.native a bytes poisoned)
  if s.adpType a = 8 then s.macEnqueue (s.rd (TA_CFG0.INST a) % 2) bytes (!poisoned) else s

/-- A poisoned register-bus packet (R124, R245): the requester of a READ or WRITE gets an error response; a response that came poisoned
answers its requester here with INTEGRITY. -/
def State.rbPoison (s : State) (a : Nat) (l : List Byte) : State :=
  let tag := byteAt l 1
  let err := fun (op : Nat) => be 1 op ++ be 1 tag ++ be 1 0 ++ be 1 8 ++ bytesAt l 4 4
  match byteAt l 0 with
  | 0x01 => s.accept a { bytes := err 0x81, ts := s.time.stamp }
  | 0x02 => s.accept a { bytes := err 0x83, ts := s.time.stamp }
  | 0x81 =>
    let s := { s with brg := { s.brg with rbOut := s.brg.rbOut.filter fun r => !decide (r.adp = a ∧ r.tag = tag) } }
    (s.wr SB_RB_STAT.OUTSTANDING s.brg.rbOut.length).finish (fun w => decide (w = .regBus tag)) stOk 0 [8, 0, 0, 0]
  | _ => s

/-- The unit that adapter `a` rebuilds under number `k`. -/
def State.frag (s : State) (a k : Nat) : FragSt := Tab.get {} (s.adp a).frags k
def State.setFrag (s : State) (a k : Nat) (x : FragSt) : State := s.modAdp a fun y => { y with frags := Tab.put {} y.frags k x }

/-- Discard the unit being rebuilt because its fragments are broken (R111). -/
def State.fragErr (s : State) (a k : Nat) : State := (s.setFrag a k {}).raise (Ev.TA_FRAG_ERR a)

/-- Count packets and native bytes delivered (R125). -/
def State.countRx (s : State) (a packets bytes : Nat) : State :=
  (s.wrapAdd (TA_PKT_RX.PACKETS a) packets).wrapAdd64 (TA_BYTE_RX_LO.BYTES_LO a) (TA_BYTE_RX_HI.BYTES_HI a) bytes

/-- The unit's last fragment is in: deliver it whole, or discard it (R111, R124). An ETH frame whose transmission has begun ends with an inverted FCS. -/
def State.endUnit (s : State) (a k : Nat) : State :=
  let x := s.frag a k
  let t := s.setFrag a k {}
  if x.bad then s.fragErr a k
  else if x.poison then (if s.adpType a = 8 ∧ x.begun then t.deliverNative a x.data true else t)
  else (t.countRx a x.next x.data.length).deliverNative a x.data false

/-- Whether a fragment belongs to another unit than the one being rebuilt, whose rest is then missing (R111): the SEQ of its first fragment differs, or at A0,
which checks no SEQ (R105), its index is 0. -/
def FragSt.broken (x : FragSt) (a start idx : Nat) : Bool := decide (x.next ≠ 0) && (if a = 0 then decide (idx = 0) else decide (start ≠ x.start))

/-- Take one fragment of unit `k`, in SEQ order (R109, R111). `early`: its MAC began to send it before its tail came (R124). -/
def State.takeFragment (s : State) (a k : Nat) (pkt : Packet) (early : Bool) : State :=
  let w := beAt pkt.payload 0 2
  let more := bitOf w 15
  let idx := w % 4096
  let start := (pkt.seq + 65536 - idx) % 65536
  let data := pkt.payload.drop 2
  let poisoned := decide (pkt.tail ≠ 0)
  let s := if (s.frag a k).broken a start idx then s.fragErr a k else s
  let x := s.frag a k
  let broken := decide (idx ≠ x.next) || (!poisoned && more && decide (data.length ≠ 2045))
  let s := s.setFrag a k
    { start := start, next := x.next + 1, data := x.data ++ data, bad := x.bad || broken, poison := x.poison || poisoned
      begun := x.begun || early || !(x.poison || poisoned) }
  if more then s else s.endUnit a k

/-- An adapter has done with a packet: its cells are released. -/
def State.letGo (s : State) (a id : Nat) : State := (s.mapSw fun w => { w with begun := w.begun.erase (id, a) }).release id none

/-- A poisoned packet of a type without fragments (R124): a bridge treats it as a far-side error, and answers one that asked for a CONFIRM with
INTEGRITY (R240), the requester on the register bus gets an error response, every other is discarded. -/
def State.poisonedUnit (s : State) (a : Nat) (pkt : Packet) : State :=
  if s.adpType a = 4 ∨ s.adpType a = 5 then
    let s := s.farPoison a pkt
    if pkt.ackreq then s.sendConfirm a pkt.seq stIntegrity else s
  else if s.adpType a = 10 then (if pkt.ackreq then s.sendConfirm a pkt.seq stIntegrity else s.rbPoison a pkt.payload)
  else s

/-- Deliver one packet in order and release its cells (R111, R117, R124). -/
def State.deliver (s : State) (a : Nat) (pkt : Packet) (id : Nat) : State :=
  let bad := decide (pkt.tail ≠ 0)
  let early := s.sw.begun.contains (id, a)
  let s := if bad then s.raise (Ev.TA_POISON a) else s
  let s := if typeFragments (s.adpType a) then s.takeFragment a 0 pkt early
    else if bad then s.poisonedUnit a pkt
    else (s.countRx a 1 pkt.payload.length).deliverNative a pkt.payload false
  s.letGo a id

/-- A packet at A0 (R105, R111, R124): a control message is rebuilt from its fragments, in arrival order; the messages of each source apart. -/
def State.deliverA0 (s : State) (pkt : Packet) (id : Nat) : State :=
  let s := if pkt.tail ≠ 0 then s.raise (Ev.TA_POISON 0) else s
  (s.takeFragment 0 (256 * pkt.srcHub + pkt.srcAdp + 1) pkt false).letGo 0 id

/-- A packet of class CONTROL for another adapter than A0 (R107): a CONFIRM goes straight to the adapter's bridge. No other message is addressed so (R82);
one that comes is dropped as from no peer (assumption row 147). -/
def State.deliverConfirm (s : State) (a : Nat) (pkt : Packet) (id : Nat) : State :=
  (if pkt.tail ≠ 0 then s.raise (Ev.TA_POISON a)
    else if byteAt pkt.payload 2 = 0x8C then s.deliverNative a (pkt.payload.drop 2) false
    else s.raise (Ev.TA_MISROUTE a)).letGo a id

def State.expSeq (s : State) (a : Nat) : Nat := s.rd (TA_STAT.EXP_SEQ a)
def State.setHeld (s : State) (a : Nat) (l : List (Packet × Nat × Nat)) : State :=
  (s.modAdp a fun x => { x with held := l }).wr (TA_STAT.RSQ_DEPTH a) l.length

/-- How far a SEQ lies ahead of another, modulo 2^16. -/
def seqAhead (q e : Nat) : Nat := (q + 65536 - e) % 65536

/-- Deliver the run of held packets that starts at EXP_SEQ (R117); `fuel` bounds it by the 255 held packets. -/
def State.deliverRun (s : State) (a : Nat) : Nat → State
  | 0 => s
  | fuel + 1 =>
    match (s.adp a).held.find? (fun h => decide (h.1.seq = s.expSeq a)) with
    | none => s
    | some h =>
      let s := s.setHeld a ((s.adp a).held.filter fun g => decide (g.1.seq ≠ h.1.seq))
      ((s.deliver a h.1 h.2.1).wrapAdd (TA_STAT.EXP_SEQ a) 1).deliverRun a fuel

/-- The held packet nearest ahead of EXP_SEQ. -/
def State.lowestHeld (s : State) (a : Nat) : Option Nat :=
  (s.adp a).held.foldl (fun b h =>
    match b with
    | none => some h.1.seq
    | some q => if seqAhead h.1.seq (s.expSeq a) < seqAhead q (s.expSeq a) then some h.1.seq else b) none

/-- `skip_to_lowest_held` of R117. -/
def State.skipToLowest (s : State) (a : Nat) : State :=
  match s.lowestHeld a with
  | none => s
  | some q => (((s.farGap a 0 (s.expSeq a)).raise (Ev.TA_GAP a)).wr (TA_STAT.EXP_SEQ a) q).deliverRun a 256

/-- Drop a packet behind EXP_SEQ, or a duplicate of a held one (R117, R118). -/
def State.dropLate (s : State) (a : Nat) (pkt : Packet) (id : Nat) : State :=
  ((s.farGap a 1 pkt.seq).raise (Ev.TA_LATE a)).letGo a id

/-- The re-sequencer handles an arriving packet (R117); when it is full it skips and handles the packet again. -/
def State.resequence (s : State) (a : Nat) (pkt : Packet) (id : Nat) : Nat → State
  | 0 => s
  | fuel + 1 =>
    let d := seqAhead pkt.seq (s.expSeq a)
    if d = 0 then ((s.deliver a pkt id).wrapAdd (TA_STAT.EXP_SEQ a) 1).deliverRun a 256
    else if d < 32768 then
      if (s.adp a).held.any (fun h => decide (h.1.seq = pkt.seq)) then s.dropLate a pkt id
      else if 255 ≤ (s.adp a).held.length then (s.skipToLowest a).resequence a pkt id fuel
      else s.setHeld a ((s.adp a).held ++ [(pkt, id, s.uptime)])
    else s.dropLate a pkt id

/-- A packet that passes in the order it came (R120, R190): EXP_SEQ stays one above the highest SEQ delivered. -/
def State.passOne (s : State) (a : Nat) (pkt : Packet) (id : Nat) : State :=
  if seqAhead pkt.seq (s.expSeq a) < 32768 then (s.deliver a pkt id).wr (TA_STAT.EXP_SEQ a) ((pkt.seq + 1) % 65536)
  else (s.deliver a pkt id).raise (Ev.TA_OOO a)

/-- A packet the paddock released (R120, R190): the re-sequencer holds nothing from then on; what it held passes first, in the order it came
(assumption row 147). -/
def State.passThrough (s : State) (a : Nat) (pkt : Packet) (id : Nat) : State :=
  (((s.setHeld a []).eachIn (s.adp a).held fun h t => t.passOne a h.1 h.2.1)).passOne a pkt id

/-- Whether the adapter accepts a packet (R107). -/
def State.accepts (s : State) (a : Nat) (pkt : Packet) : Bool :=
  decide (pkt.srcHub = s.rd (TA_PEER.HUB a) ∧ pkt.srcAdp = s.rd (TA_PEER.ADP a)) && s.adpReceives a && s.tunnelOpen a

/-- What EGRESS_PACKET_ARRIVE does (R105, R107, R117, R120, R124): the oldest packet an engine has handed over for adapter `a`. -/
def State.egressArrive (s : State) (a : Nat) : State :=
  match (s.adp a).rx with
  | [] => s
  | (pkt, id, pdk) :: rest =>
    let s := s.modAdp a fun x => { x with rx := rest }
    if pkt.cls = 3 then (if a = 0 then s.deliverA0 pkt id else s.deliverConfirm a pkt id)
    else if a = 0 ∨ ¬ s.accepts a pkt then (s.raise (Ev.TA_MISROUTE a)).letGo a id
    else if pdk then s.passThrough a pkt id
    else s.resequence a pkt id 2

/-- RSQ_TMO (R117): the oldest held packet has waited; nothing held, nothing to skip. -/
def execRsqTmo (a : Fin 256) (s : State) : Res := .next (s.skipToLowest a)

/-- Close a tunnel at this adapter (R122, R108, R517): the run from EXP_SEQ is delivered, what is still held is discarded, accepted units are
discarded, and the numbers return to 0. -/
def State.closeAdapter (s : State) (a : Nat) : State :=
  let s := s.deliverRun a 256
  let left := (s.adp a).held
  let s := s.setHeld a []
  let s := s.eachIn left fun h t => t.letGo a h.2.1
  let s := if left.isEmpty then s else (s.farGap a 0 (s.expSeq a)).raise (Ev.TA_GAP a)
  let s := s.modAdp a fun x => { x with accepted := [], frags := [] }
  ((s.wr (TA_STAT.OPEN a) 0).wr (TA_SEQ.TX_SEQ a) 0).wr (TA_STAT.EXP_SEQ a) 0

/-- Open a tunnel at this adapter (R108): SEQ and EXP_SEQ at 0. -/
def State.openAdapter (s : State) (a : Nat) : State :=
  ((s.wr (TA_SEQ.TX_SEQ a) 0).wr (TA_STAT.EXP_SEQ a) 0).wr (TA_STAT.OPEN a) 1

end Sys2Proof.Machine
end

