-- ==== Sys2Proof/Machine/Coding.lean ====
section
/-!
DEFINITION. The line coding of a lane (R30 to R42, R45, R61): symbols on the wire, the link code RS(272,256), the scrambler, marker blocks, training
frames, test patterns. Everything here is a function of its arguments; the lanes use it in Machine/LaneBlocks.lean.
-/

namespace Sys2Proof.Machine

/-! ### Symbols on the wire (R30) -/

/-- The bits of a word of `n` bits in the order they are sent: the highest first. -/
def sentBits (n v : Nat) : List Bool := (List.range n).map fun i => bitOf v (n - 1 - i)

/-- The word that bits sent in this order spell. -/
def ofSent (l : List Bool) : Nat := l.foldl (fun v b => 2 * v + b.toNat) 0

/-- The PAM4 level of a pair of bits, the earlier bit first (R30). -/
def pam4 (a b : Bool) : Int :=
  match a, b with
  | false, false => -3
  | false, true => -1
  | true, true => 1
  | true, false => 3

/-- The levels of a stream of bits at PAM4; a last bit without a partner waits for the next stream. -/
def pam4Levels : List Bool → List Int
  | a :: b :: l => pam4 a b :: pam4Levels l
  | _ => []

/-- The levels a lane drives for a stream of bits (R29, R30): NRZ with bit 0 low at Walk, Gray-coded PAM4 at Trot and Canter. -/
def lineLevels (gait : Nat) (l : List Bool) : List Int :=
  if gait = 0 then l.map fun b => if b then 1 else -1 else pam4Levels l

/-! ### The field of the link code (R39) -/

/-- Times α, a root of x^10 + x^3 + 1. -/
def gfDouble (a : Sym) : Sym := if a.getLsbD 9 then (a <<< 1) ^^^ 9#10 else a <<< 1

/-- Product in GF(2^10). -/
def gfMul (a b : Sym) : Sym :=
  if a = 0#10 then 0#10
  else (List.range 10).foldl (fun r i => let d := gfDouble r; if b.getLsbD (9 - i) then d ^^^ a else d) 0#10

/-- α to the power `n` below 1,024, by squaring. -/
def gfAlpha (n : Nat) : Sym :=
  (List.range 10).foldl (fun r i => let q := gfMul r r; if bitOf n (9 - i) then gfDouble q else q) 1#10

/-- Inverse of a field element that is not 0: its 1,022nd power. -/
def gfInv (a : Sym) : Sym :=
  ((List.range 9).foldl (fun (x : Sym × Sym) _ => let q := gfMul x.1 x.1; (q, gfMul x.2 q)) (a, 1#10)).2

/-! ### The link code RS(272,256) (R39) -/

/-- A polynomial times (x - α^i), highest power first. -/
def polyRoot (p : List Sym) (i : Nat) : List Sym :=
  List.zipWith (· ^^^ ·) (p ++ [0#10]) (0#10 :: p.map fun c => gfMul c (gfAlpha i))

/-- The generator polynomial (x - α^0)(x - α^1)…(x - α^15) below its leading 1, highest power first. -/
def rsGen : List Sym := ((List.range 16).foldl polyRoot [1#10]).drop 1

/-- One message symbol through the division by the generator polynomial; a remainder has 16 symbols. -/
def rsShift (r : List Sym) (m : Sym) : List Sym :=
  let f := m ^^^ r.headD 0#10
  List.zipWith (fun a g => a ^^^ gfMul f g) (r.drop 1 ++ [0#10]) rsGen

/-- The 16 parity symbols of a message. -/
def rsParity (m : List Sym) : List Sym := m.foldl rsShift (List.replicate 16 0#10)

/-- A codeword: 256 message symbols, then 16 parity symbols. -/
def rsEncode (m : List Sym) : List Sym := m ++ rsParity m

/-- A word is a codeword when its parity is that of its message. -/
def rsGood (w : List Sym) : Bool := decide (rsParity (w.take 256) = w.drop 256)

/-- The value of a polynomial, lowest power first. -/
def polyAt (p : List Sym) (x : Sym) : Sym := p.foldr (fun c v => c ^^^ gfMul v x) 0#10

/-- The 16 syndromes of a received word, whose first symbol is the coefficient of x^271. -/
def syndromes (w : List Sym) : List Sym := (List.range 16).map fun i => polyAt w.reverse (gfAlpha i)

/-- The search for the error locator: the locator, the one before its last change, the number of errors, the steps since that change, the discrepancy
then. -/
structure Locator where
  cur : List Sym
  old : List Sym
  errs : Nat
  gap : Nat
  disc : Sym
deriving DecidableEq, Repr

/-- `p + f x^k q`, lowest power first. -/
def polyMix (p : List Sym) (f : Sym) (k : Nat) (q : List Sym) : List Sym :=
  (List.range (max p.length (k + q.length))).map fun i =>
    p.getD i 0#10 ^^^ (if k ≤ i then gfMul f (q.getD (i - k) 0#10) else 0#10)

/-- One step of the search, at syndrome `n`. -/
def Locator.step (s : List Sym) (x : Locator) (n : Nat) : Locator :=
  let d := (List.range (x.errs + 1)).foldl (fun v i => v ^^^ gfMul (x.cur.getD i 0#10) (if i ≤ n then s.getD (n - i) 0#10 else 0#10)) 0#10
  if d = 0#10 then { x with gap := x.gap + 1 }
  else
    let c := polyMix x.cur (gfMul d (gfInv x.disc)) x.gap x.old
    if 2 * x.errs ≤ n then { cur := c, old := x.cur, errs := n + 1 - x.errs, gap := 1, disc := d }
    else { x with cur := c, gap := x.gap + 1 }

/-- The error locator of a word's syndromes, lowest power first. -/
def errorLocator (s : List Sym) : Locator :=
  (List.range 16).foldl (Locator.step s) { cur := [1#10], old := [1#10], errs := 0, gap := 1, disc := 1#10 }

/-- The places of a received word that the locator names: symbol `i` is the coefficient of x^(271 - i). -/
def errorPlaces (l : List Sym) : List Nat := (List.range 272).filter fun i => decide (polyAt l (gfAlpha (1023 - (271 - i))) = 0#10)

/-- What is wrong with symbol `i`. -/
def errorValue (s l : List Sym) (i : Nat) : Sym :=
  let x := gfAlpha (1023 - (271 - i))
  let top := (List.range 16).map fun n => (List.range (n + 1)).foldl (fun v k => v ^^^ gfMul (l.getD k 0#10) (s.getD (n - k) 0#10)) 0#10
  let slope := (List.range l.length).map fun n => if n % 2 = 0 then l.getD (n + 1) 0#10 else 0#10
  gfMul (gfAlpha (271 - i)) (gfMul (polyAt top x) (gfInv (polyAt slope x)))

/-- Decode a received word (R39): a codeword at most 8 symbols away, with the places corrected; none when there is none. -/
def rsDecode (w : List Sym) : Option (List Sym × List Nat) :=
  if rsGood w then some (w, [])
  else
    let s := syndromes w
    let l := errorLocator s
    let places := errorPlaces l.cur
    let fixed := (List.range 272).map fun i => w.getD i 0#10 ^^^ (if places.contains i then errorValue s l.cur i else 0#10)
    if places.length ≤ 8 ∧ rsGood fixed then some (fixed, places) else none

/-! ### Cells and symbols (R40) -/

/-- A number of `n` symbols, the first one most significant. -/
def symsOf (n v : Nat) : List Sym := (List.range n).map fun i => BitVec.ofNat 10 (v / 1024 ^ (n - 1 - i))
def ofSyms (l : List Sym) : Nat := l.foldl (fun v s => 1024 * v + s.toNat) 0

/-- The 256 message symbols of five cells, and the cells of 256 message symbols. -/
def cellSyms (cells : List (List Byte)) : List Sym := symsOf 256 (ofBe cells.flatten)
def symCells (m : List Sym) : List (List Byte) :=
  let b := be 320 (ofSyms m)
  (List.range 5).map fun i => bytesAt b (64 * i) 64

/-! ### The scrambler (R38) -/

/-- The generator reloaded after a marker. Bit i of the register is s(n - 1 - i) (assumption row 133). -/
def scramblerSeed (blockCnt k : Nat) : BitVec 58 := BitVec.ofNat 58 (blockCnt * 1024 + k % 4 * 256 + 0xAA)

/-- The next bit of the generator, and the generator after it. -/
def scramblerNext (g : BitVec 58) : Bool × BitVec 58 :=
  let b := xor (g.getLsbD 38) (g.getLsbD 57)
  (b, (g <<< 1) ||| BitVec.ofNat 58 b.toNat)

/-- `n` bits of the generator, the first one most significant, and the generator after them. -/
def scramblerBits : Nat → BitVec 58 → Nat → Nat × BitVec 58
  | 0, g, v => (v, g)
  | n + 1, g, v => let r := scramblerNext g; scramblerBits n r.2 (2 * v + r.1.toNat)

/-- A data payload scrambled or descrambled, and the generator after it. -/
def scramble (g : BitVec 58) (payload : BitVec 1280) : BitVec 1280 × BitVec 58 :=
  let r := scramblerBits 1280 g 0
  (payload ^^^ BitVec.ofNat 1280 r.1, r.2)

/-! ### Pattern generators (R33, R61) -/

/-- Degree and taps of the patterns of R61 by SEL: bit i of the register is the bit sent i + 1 bits ago. -/
def prbsDegree (sel : Nat) : Nat := match sel with
  | 0 => 7
  | 1 => 9
  | 2 => 13
  | 3 => 15
  | 4 => 23
  | _ => 31
def prbsTaps (sel : Nat) : List Nat := match sel with
  | 0 => [7, 6]
  | 1 => [9, 5]
  | 2 => [13, 12, 2, 1]
  | 3 => [15, 14]
  | 4 => [23, 18]
  | _ => [31, 28]

/-- The bit that follows a run of bits, the latest first, in a pattern: the sum of the bits its polynomial names. -/
def prbsNext (sel : Nat) (last : List Bool) : Bool := (prbsTaps sel).foldl (fun v i => xor v (last.getD (i - 1) false)) false

/-- `n` bits of a pattern after a run of bits (latest first), in the order they are sent. -/
def prbsBits (sel : Nat) : Nat → List Bool → List Bool
  | 0, _ => []
  | n + 1, last =>
    let b := prbsNext sel last
    b :: prbsBits sel n ((b :: last).take (prbsDegree sel))

/-- Every bit from the seed's end on is the one its pattern asks for (R62): the first bits seed the checker. -/
def prbsHolds (sel : Nat) : List Bool → List Bool → Bool
  | _, [] => true
  | last, b :: l =>
    if last.length < prbsDegree sel then prbsHolds sel (b :: last) l
    else decide (b = prbsNext sel last) && prbsHolds sel ((b :: last).take (prbsDegree sel)) l

/-! ### Marker blocks (R33) -/

def comma : BitVec 64 := 0x6E2B94D1C3A70F58#64

/-- The FILL of a marker: PRBS9 from a register of all ones (assumption row 133), 1,104 bits. -/
def markerFill : Nat := ofSent (prbsBits 1 1104 (List.replicate 9 true))

/-- The fields [1215:1136] of a marker: SRC_LANE, POS, WIDTH, GAIT, JOIN, TRAIN, BLOCK_CNT, CW_CNT. -/
def markerFields (k pos width gait : Nat) (join train : Bool) (blockCnt cwCnt : Nat) : Nat :=
  k % 4 * 2 ^ 78 + pos * 2 ^ 76 + width * 2 ^ 74 + gait * 2 ^ 72 + join.toNat * 2 ^ 71 + train.toNat * 2 ^ 70 + blockCnt % 2 ^ 48 * 2 ^ 16 + cwCnt % 2 ^ 16

/-- The payload of a marker block. -/
def markerPayload (fields : Nat) : BitVec 1280 :=
  BitVec.ofNat 1280 (comma.toNat * 2 ^ 1216 + fields * 2 ^ 1136 + crc32 (be 10 fields) * 2 ^ 1104 + markerFill)

/-! ### Training frames (R45) -/

/-- The 56 bits of a frame. -/
def TrainFrame.fields (f : TrainFrame) : Nat :=
  f.step * 2 ^ 52 + f.gaitCap * 2 ^ 49 + f.gaitSel * 2 ^ 47 + f.txReq * 2 ^ 41 + f.preset * 2 ^ 37 + f.txAck * 2 ^ 35 + f.rxReady.toNat * 2 ^ 34 +
    f.qual * 2 ^ 32 + f.rtTag * 2 ^ 24 + f.rtEcho * 2 ^ 16 + f.rtHold

def TrainFrame.ofFields (v : Nat) : TrainFrame :=
  { step := bitsOf v 52 4, gaitCap := bitsOf v 49 3, gaitSel := bitsOf v 47 2, txReq := bitsOf v 41 6, preset := bitsOf v 37 4, txAck := bitsOf v 35 2
    rxReady := bitOf v 34, qual := bitsOf v 32 2, rtTag := bitsOf v 24 8, rtEcho := bitsOf v 16 8, rtHold := bitsOf v 0 16 }

/-- The payload that carries a frame, before scrambling. -/
def TrainFrame.payload (f : TrainFrame) : BitVec 1280 :=
  BitVec.ofNat 1280 (0x7A3C * 2 ^ 1264 + f.fields * 2 ^ 1208 + crc32 (be 7 f.fields) * 2 ^ 1176)

/-- The frame a payload carries: none when its identifier or its CRC is wrong. -/
def TrainFrame.ofPayload (b : BitVec 1280) : Option TrainFrame :=
  let v := b.toNat
  let w := bitsOf v 1208 56
  if bitsOf v 1264 16 = 0x7A3C ∧ bitsOf v 1176 32 = crc32 (be 7 w) then some (TrainFrame.ofFields w) else none

/-! ### Bursts (R63) -/

/-- A mask of `n` bits in a row of a 1,282-bit block, the first at place `at_` in the order they are sent; bits beyond the block fall away. -/
def burstMask (at_ n : Nat) : BitVec 1282 :=
  BitVec.ofNat 1282 (((List.range n).filter fun i => decide (at_ + i < 1282)).foldl (fun v i => v + 2 ^ (1281 - (at_ + i))) 0)

end Sys2Proof.Machine
end

