-- ==== Sys2Proof/Machine/LaneBlocks.lean ====
section
/-!
DEFINITION. Lane blocks (R31 to R42): what a lane puts on the wire, the codewords of a direction striped over its lanes, and the codewords taken from the
lanes that receive.
-/

namespace Sys2Proof.Machine

/-- The lanes of cable port `p` (R27). -/
def portLanes (p : Nat) : List Nat := (List.range 4).map (4 * p + ·)

/-- The port of a lane, and its direction after reset: 0 transmit for even k, 1 receive for odd k (R27). -/
def lanePort (n : Nat) : Nat := n / 4
def resetDir (n : Nat) : Nat := n % 2

def State.modLane (s : State) (n : Nat) (f : LaneSt → LaneSt) : State := s.setLane n (f (s.lane n))

/-- What a lane begins to do. -/
def State.laneSend (s : State) (n what : Nat) (args : List Nat := []) : State := s.send (.lane n what args)

/-- The lane transmits in Active (R63). -/
def State.transmits (s : State) (n : Nat) : Bool := decide (s.laneState n = 3 ∧ s.rd (LN_STAT.DIR n) = 0)

/-! ### Blocks on the wire (R31, R33, R38, R63) -/

/-- The first bit a burst inverts in the block that goes next (R63), if it starts there; free where the rule leaves it open (assumption row 134). Bits 0
and 1 are the header; symbol i of a data block begins at bit 2 + 10 i. -/
def State.burstAt (s : State) (n : Nat) (data : Bool) : Option Nat × State :=
  let r := s.fresh
  let v := r.1.toNat % 1282
  let edge := if s.on (LN_INJ_CTRL.ALIGN n) then 2 else 11
  if s.on (LN_INJ_CTRL.TARGET n) then (some (if data ∧ 2 ≤ v then (v - 2) / 10 * 10 + edge else v), r.2)
  else if data then (some (v % 128 * 10 + edge), r.2)
  else (none, s)

/-- Drive the levels of a block (R30). -/
def State.drive (s : State) (n : Nat) (block : BitVec 1282) : State :=
  s.send (.wave n (lineLevels (s.rd (LN_STAT.GAIT n)) (sentBits 1282 block.toNat)))

/-- Send one block of a lane: header and payload, with the bits of a burst inverted (R31, R63). Every burst sent is counted. -/
def State.sendBlock (s : State) (n : Nat) (data : Bool) (payload : BitVec 1280) : State :=
  let l := s.lane n
  let block : BitVec 1282 := ((if data then 1#2 else 2#2) ++ payload) ^^^ burstMask 0 l.burst
  let s := s.modLane n fun x => { x with burst := 0, injBlk := x.injBlk + 1 }
  if l.shots = 0 ∨ ¬ s.transmits n then s.drive n block
  else
    let r := s.burstAt n data
    match r.1 with
    | none => r.2.drive n block
    | some k =>
      let len := s.rd (LN_INJ_CTRL.BURST_LEN n) + 1
      let s := r.2.modLane n fun x => { x with shots := x.shots - 1, burst := k + len - 1282 }
      ((s.laneSend n 8 [k, len]).wrapAdd (LN_INJ_CNT.BURSTS n) 1).drive n (block ^^^ burstMask k len)

/-- Send a marker block (R33); the scrambler is reloaded from it (R38). -/
def State.sendMarker (s : State) (n : Nat) (join train : Bool) (cnt cw : Nat) : State :=
  let f := markerFields (n % 4) (s.rd (LN_STAT.POS n)) (if train then 0 else s.rd (LN_STAT.WIDTH n)) (s.rd (LN_STAT.GAIT n)) join train cnt cw
  (s.modLane n fun l => { l with txScr := scramblerSeed cnt n }).sendBlock n false (markerPayload f)

/-- Send a data block with this payload, scrambled (R38). -/
def State.sendData (s : State) (n : Nat) (payload : BitVec 1280) : State :=
  let r := scramble (s.lane n).txScr payload
  (s.modLane n fun l => { l with txScr := r.2 }).sendBlock n true r.1

/-- A data block of the first 128 symbols a lane holds; what is missing is zeros (R54 step 2). -/
def State.sendSymbols (s : State) (n : Nat) : State :=
  let q := (s.lane n).txq
  let w := (List.range 128).map fun i => q.getD i 0#10
  (s.modLane n fun l => { l with txq := l.txq.drop 128 }).sendData n (BitVec.ofNat 1280 (ofSyms w))

/-- A transmitting lane leaves striping: it completes its blocks with scrambled zeros (R54 step 2). -/
def State.finishBlocks (s : State) (n : Nat) : State :=
  s.each (((s.lane n).txq.length + 127) / 128) fun _ t => t.sendSymbols n

/-! ### Striping (R31, R32, R40, R41) -/

/-- The lanes that stripe a direction, in the order of their POS. `now` is the direction's codeword: a lane that joined for a later one (R54 step 6) and the lane
an action drops at this one (R54 step 1) are not among them. -/
def State.stripeOrder (s : State) (p d now : Nat) : List Nat :=
  let drops := fun n => match (s.link p).act with
    | some a => decide (a.lane = n ∧ a.begun = false ∧ a.kind ≠ 4 ∧ a.cw ≤ now ∧ a.tx = decide (d = 0))
    | none => false
  let l := (s.striped p d).filter fun n => decide ((s.lane n).rxFrom ≤ now ∨ d = 0) && !drops n
  (List.range 4).filterMap fun i => l.find? fun n => decide (s.rd (LN_STAT.POS n) = i)

/-- The symbols of a codeword that lane `e` of `w` carries, when its first symbol is symbol `first` of the stream (R41). -/
def stripeShare (word : List Sym) (first w e : Nat) : List Sym :=
  ((List.range word.length).filter fun i => decide ((first + i) % w = e)).map fun i => word.getD i 0#10

/-- The lanes have a block each to send: 128 symbols, but for a lane whose join marker stands in this period (R31). -/
def State.blockReady (s : State) (p : Nat) : Bool :=
  !(s.link p).order.isEmpty && (s.link p).order.all fun n => (s.lane n).joined || decide (128 ≤ (s.lane n).txq.length)

/-- One block period of the transmit direction (R31, R32): on every lane a marker block when its number is a multiple of 257, else a data block. CW_CNT
is the first codeword of which no symbol has been sent (R33). -/
def State.blockPeriod (s : State) (p : Nat) : State :=
  let l := s.link p
  let held := (l.order.map fun n => (s.lane n).txq.length).sum
  let s := s.eachIn l.order fun n t =>
    if (t.lane n).joined then t
    else if l.txBlk % 257 = 0 then t.sendMarker n false false (l.txBlk / 257) (l.cwTx - held / 272)
    else t.sendSymbols n
  (s.eachIn (portLanes p) fun n t => t.modLane n fun x => { x with joined := false }).modLink p fun x => { x with txBlk := x.txBlk + 1 }

/-- The five cells of a codeword leave (R39 to R41): coded, striped, and in as many block periods as the symbols fill (assumption row 135). -/
def State.sendCodeword (s : State) (p : Nat) : State :=
  let l := s.link p
  let w := l.order.length
  let word := rsEncode (cellSyms l.txCells)
  let s := (s.eachIn (List.range w) fun e t => t.modLane (l.order.getD e 0) fun x => { x with txq := x.txq ++ stripeShare word l.txRes w e }).modLink p fun x =>
    { x with txCells := [], txRes := (l.txRes + 272) % w, cwTx := x.cwTx + 1 }
  s.each 8 fun _ t => if t.blockReady p then t.blockPeriod p else t

/-- One cell into the slot in progress (R65). -/
def State.putCell (s : State) (p : Nat) (bytes : List Byte) : State :=
  (s.send (.cell p bytes)).modLink p fun l => { l with txCells := l.txCells ++ [bytes] }

/-- A codeword of the transmit direction begins: its lanes; a restripe begins the stream anew (R41). -/
def State.beginStripe (s : State) (p : Nat) : State :=
  let o := s.stripeOrder p 0 (s.link p).cwTx
  s.modLink p fun l => { l with order := o, txRes := if o = l.order then l.txRes else 0 }

/-- Send a join marker (R54 step 5, R58): the direction's block count, the lane's new POS and WIDTH; it serves as the lane's regular marker where one
is due in this block. -/
def State.sendJoin (s : State) (n : Nat) : State :=
  let l := s.link (lanePort n)
  ((s.laneSend n 3).sendMarker n true false (l.txBlk / 257) (if l.slot = 0 then l.cwTx else l.cwTx + 1)).modLane n fun x =>
    { x with joined := true, txq := [] }

/-! ### Blocks received (R36, R38, R41) -/

/-- The payload of a data block of lane `n` (R34, R38): its symbols go to the codewords when the lane stripes. -/
def State.takeData (s : State) (n : Nat) (payload : BitVec 1280) : BitVec 1280 × State :=
  let r := scramble (s.lane n).rxScr (if s.on (LN_STAT.INVERTED n) then ~~~ payload else payload)
  let striped := s.linkIsUp (lanePort n) && decide (s.laneState n = 3 ∧ s.rd (LN_STAT.WIDTH n) ≠ 0)
  (r.1, s.modLane n fun l =>
    { l with rxScr := r.2, rxBlk := l.rxBlk + 1, rxq := if striped then l.rxq ++ symsOf 128 r.1.toNat else l.rxq })

/-- Symbols of a codeword that lane `e` of `w` carries. -/
def shareCount (first w e : Nat) : Nat := ((List.range 272).filter fun i => decide ((first + i) % w = e)).length

/-- A codeword as received: its symbols, and the lanes that carried it with the residue of its first symbol. -/
structure RxWord where
  word : List Sym
  order : List Nat
  first : Nat
deriving DecidableEq, Repr

/-- The codeword next in the receive direction, and the lanes without it (R41): none while a locked lane has not received its share, or no lane is locked. `a`,
`b` and `c`: the symbols that the lane at POS 0, 1 or 2 gives when it has no lock (assumption row 136). -/
def State.takeWord (s : State) (p : Nat) (a b c : List Sym) : Option (RxWord × State) :=
  let l := s.link p
  let o := s.stripeOrder p 1 l.cwRx
  let w := o.length
  let first := if o = l.rxOrder then l.rxRes else 0
  let short := fun e => decide ((s.lane (o.getD e 0)).rxq.length < shareCount first w e)
  let locked := fun n => s.on (LN_STAT.LOCK n)
  if !(o.any locked) || (List.range w).any fun e => short e && locked (o.getD e 0) then none
  else
    let noise := fun e => if e = 0 then a else if e = 1 then b else c
    let word := (List.range 272).map fun i =>
      let e := (first + i) % w
      ((s.lane (o.getD e 0)).rxq).getD (i / w) ((noise e).getD (i / w) 0#10)
    let s := s.eachIn (List.range w) fun e t => t.modLane (o.getD e 0) fun x => { x with rxq := x.rxq.drop (shareCount first w e) }
    some (⟨word, o, first⟩, s.modLink p fun x => { x with cwRx := x.cwRx + 1, rxOrder := o, rxRes := (first + 272) % w })

end Sys2Proof.Machine
end

