-- ==== Sys2Proof/Machine/Switch.lean ====
section
/-!
DEFINITION. The switch core (R127 to R147), the version translator (R84) and the routing it uses (R178 to R185).
-/

namespace Sys2Proof.Machine

/-! ### Routing -/

/-- PORT and ALT toward a hub (R178); 7 means none. -/
def State.routeOf (s : State) (h : Nat) : Nat × Nat :=
  if s.rd (DM_RT.PORT h) < 6 then (s.rd (DM_RT.PORT h), s.rd (DM_RT.ALT h))
  else if s.rd (DM_SRT.PORT (h / 64)) < 6 then (s.rd (DM_SRT.PORT (h / 64)), s.rd (DM_SRT.ALT (h / 64)))
  else (s.rd DM_ID.UPPORT, 7)

/-- A port that sprayed packets may use (R180). -/
def State.sprayUsable (s : State) (p : Nat) : Bool := s.portUsable p && decide (s.linkVer p ≠ 2) && !s.spanEdge p

/-- PORT is unusable and ALT serves: the failover is reported once for each event that made PORT unusable (R179). -/
def State.noteFailover (s : State) (p : Nat) : State :=
  if p < 6 ∧ ¬ (s.link p).failover then (s.modLink p fun l => { l with failover := true }).raise Ev.DM_FAILOVER else s

/-- The cable port of a packet for another hub (R178 to R180); none when it has none. A sprayed packet never crosses a span edge; one left with a version-2 link
goes to the translator, which drops it. -/
def State.cableOut (s : State) (pkt : Packet) : Option Nat × State :=
  let r := s.routeOf pkt.dstHub
  if pkt.spray ∧ s.floor3 ∧ (s.sprayUsable r.1 ∨ s.sprayUsable r.2) then
    if ¬ s.sprayUsable r.1 then (some r.2, s)
    else if s.sprayUsable r.2 ∧ s.queuedCells r.2 pkt.tc < s.queuedCells r.1 pkt.tc then (some r.2, s)
    else (some r.1, s)
  else
    let ok := fun p => s.portUsable p && !(pkt.spray && s.floor3 && s.spanEdge p)
    if ok r.1 then (some r.1, s)
    else if ok r.2 then (some r.2, if s.portUsable r.1 then s else s.noteFailover r.1)
    else (none, s)

/-- A domain control message in neighbour form (R171). -/
def Packet.neighbour (p : Packet) : Bool :=
  decide (p.cls = 3 ∧ p.dstHub = p.srcHub ∧ p.dstAdp = 0 ∧ p.srcAdp = 0)

/-- Cable port `o` takes a packet: it carries tunnel traffic, or a message to the neighbour while a duplicate address keeps it to link control (R182). -/
def State.carries (s : State) (pkt : Packet) (o : Nat) : Bool := s.portUsable o || (pkt.neighbour && s.linkIsUp o && s.dom.dup.contains o)

/-- What stands between a packet and its outputs. -/
inductive Route where
  | to (outs : List (Nat × Nat))
  | unrouted
  | mcMiss
deriving DecidableEq, Repr

/-- The local output of adapter `a` (R104, R128, R15). -/
def State.localOut (s : State) (a : Nat) (pkt : Packet) : Option Nat :=
  match s.packetPort a pkt.payload with
  | none => none
  | some o => if s.portEnabled o then some o else none

/-- The local adapters a group names (R137). -/
def State.groupAdapters (s : State) (g : Nat) : List Nat :=
  [s.rd (SW_MCG_HI.LADP0 g), s.rd (SW_MCG_HI.LADP1 g), s.rd (SW_MCG_HI.LADP2 g), s.rd (SW_MCG_HI.LADP3 g)].filter (· ≠ 0)

/-- The outputs of a multicast packet at this hub (R137, R138, R185): cable ports, then one for each listed adapter whose port is listed.
A copy toward the cable port it came from is not made. -/
def State.groupOuts (s : State) (pkt : Packet) (origin : Option Nat) : List (Nat × Nat) :=
  let g := pkt.group % 4096
  let ports := s.rd (SW_MCG_LO.PORTS g)
  let cables := (List.range 6).filter fun o => decide (bitOf ports o ∧ some o ≠ origin)
  cables.map (fun o => (o, 0)) ++ (s.groupAdapters g).filterMap fun a =>
    match s.localOut a pkt with
    | some o => if bitOf ports o then some (o, a) else none
    | none => none

/-- Copies for local adapters that do not exist or whose block is disabled: dropped, and counted at the input (R15, R128). -/
def State.groupDrops (s : State) (pkt : Packet) : Nat := ((s.groupAdapters (pkt.group % 4096)).filter fun a => (s.localOut a pkt).isNone).length

/-- A wide group's copy toward a peer port is not made while the floor is below 3 (R185). -/
def State.heldCopy (s : State) (pkt : Packet) (o : Nat) : Bool :=
  let g := pkt.group % 4096
  decide (o < 6) && s.peerPort o && !s.floor3 && bitOf (s.rd (DM_MCW.WIDE (g / 32))) (g % 32)

/-- Copies toward version-2 links go to the translator first (R84, R128): output 18, the port in the adapter's place. -/
def State.viaTranslator (s : State) (pkt : Packet) (o a : Nat) : Nat × Nat :=
  if o < 6 ∧ s.linkVer o = 2 ∧ pkt.ver ≠ 2 then (18, o) else (o, a)

/-- Choose the outputs of a packet at input `p` (R128). `8` in the place of the adapter of output 18 asks the translator to route again. A group entry that
gives no output at this hub leaves the packet unrouted (assumption row 146). -/
def State.route (s : State) (p : Nat) (x : Arrival) : Route × State :=
  let pkt := x.pkt
  if p < 6 ∧ pkt.ver = 2 then (.to [(18, 8)], s)
  else match x.out with
  | some o => if s.carries pkt o then (.to [if p = 18 then (o, 0) else s.viaTranslator pkt o 0], s) else (.unrouted, s)
  | none =>
    if pkt.neighbour ∧ x.origin.isSome then (.to [(16, 0)], s)
    else if pkt.mcast then
      let g := pkt.group % 4096
      if s.on (SW_MCG_LO.VALID g) ∧ s.rd (SW_MCG_LO.TAG g) = pkt.group / 4096 then
        let outs := s.groupOuts pkt x.origin
        let held := outs.filter fun o => s.heldCopy pkt o.1
        let drops := s.groupDrops pkt
        let s := (s.satAdd DM_MC_HELD.COPIES held.length).satAdd (SW_PDROP.UNROUTED p) drops
        let outs := outs.filter fun o => !s.heldCopy pkt o.1
        if outs.isEmpty ∧ held.isEmpty ∧ drops = 0 then (.unrouted, s) else (.to (outs.map fun o => s.viaTranslator pkt o.1 o.2), s)
      else (.mcMiss, s)
    else if pkt.dstHub = s.hubAddr then
      match s.localOut pkt.dstAdp pkt with
      | some o => (.to [(o, pkt.dstAdp)], s)
      | none => (.unrouted, s)
    else
      match s.cableOut pkt with
      | (some o, s) => if x.origin = some o then (.unrouted, s) else (.to [s.viaTranslator pkt o 0], s)
      | (none, s) => (.unrouted, s)

/-! ### Admission (R134) -/

/-- The packet's engine may go on: its first cell has been admitted or dropped. -/
def State.engineAdmitted (s : State) (x : Arrival) : State :=
  match x.eng with
  | some e => s.modEng e fun y => { y with admitted := true }
  | none => s

/-- Drop a packet at its input: its credits return, its engine goes on. -/
def State.dropArrival (s : State) (p : Nat) (x : Arrival) : State :=
  let s := (s.freeCredit p x.pkt.tc x.got).engineAdmitted x
  if p < 6 then s.modLink p fun l => { l with rx := l.rx.map fun o => if o.id = x.id then { o with drop := true } else o } else s

/-- Cut-through or store-and-forward toward output `o` (R135). -/
def State.cutThrough (s : State) (p o tc : Nat) (origin : Option Nat) : Bool :=
  bitOf (s.rd (SW_CT.CT o)) tc && decide (o ≠ 17) &&
    (decide (6 ≤ p) || decide (6 ≤ o) || decide (s.cellRate o 0 ≤ s.cellRate (origin.getD p) 1))

/-- A version-2 link may carry a packet (R84): not one that sprays, nor a multicast one whose group is not marked. -/
def State.v2Allows (s : State) (pkt : Packet) : Bool := !pkt.spray && (!pkt.mcast || s.on (SW_MCG_LO.V2_OK (pkt.group % 4096)))

/-- Put the references of an admitted packet into its VOQs (R129, R138); what the group entry says of them is judged here (R147). -/
def State.placeRefs (s : State) (p : Nat) (x : Arrival) (outs : List (Nat × Nat)) : State :=
  s.eachIn outs fun o t =>
    let i := voqIdx p o.1 x.pkt.tc
    t.setVoq i (t.voq i ++ [{ id := x.id, adp := o.2, cut := t.cutThrough p o.1 x.pkt.tc x.origin, v2ok := t.v2Allows x.pkt }])

/-- Copies toward cable ports whose link is down, or that carry no tunnel traffic (R86, R172), release their reference at once (R138, R146). Each packet
whose copies go so sets FLUSH anew (assumption row 146). -/
def State.dropDownCopies (s : State) (pkt : Packet) (outs : List (Nat × Nat)) : List (Nat × Nat) × State :=
  let down := outs.filter fun o => decide (o.1 < 6) && !s.carries pkt o.1
  let up := outs.filter fun o => !(decide (o.1 < 6) && !s.carries pkt o.1)
  if down.isEmpty then (up, s) else (up, (s.satAdd SW_FLUSHED.PACKETS down.length).raise Ev.SW_FLUSH)

/-- Whether mirror session `k` copies a packet of input `p` to output `o` (R139). KIND 1 looks at one output, the others at the packet. -/
def State.mirrorMatches (s : State) (k p : Nat) (pkt : Packet) (o : Option Nat) : Bool :=
  s.on (SW_MIR_CTL.EN k) && bitOf (s.rd (SW_MIR_CTL.TC_MASK k)) pkt.tc &&
  match s.rd (SW_MIR_CTL.KIND k), o with
  | 1, some o => decide (o = s.rd (SW_MIR_CTL.PORT k))
  | 0, none => decide (p = s.rd (SW_MIR_CTL.PORT k))
  | 2, none => decide (pkt.srcHub = s.rd (SW_MIR_SRC.HUB k) ∧ pkt.srcAdp = s.rd (SW_MIR_SRC.ADP k))
  | 3, none => decide (pkt.dstHub = s.rd (SW_MIR_SRC.HUB k) ∧ pkt.dstAdp = s.rd (SW_MIR_SRC.ADP k))
  | _, _ => false

/-- One match of a session: the first is copied, then every (SAMPLE + 1)th; a copy beyond the hold limit is skipped (R139). -/
def State.mirrorMatch (s : State) (k p n : Nat) (x : Arrival) (out : Nat) : State :=
  let c := Tab.get 0 s.sw.mirMatch k
  let s := s.mapSw fun w => { w with mirMatch := Tab.put 0 w.mirMatch k (c + 1) }
  if c % (s.rd (SW_MIR_SMP.SAMPLE k) + 1) ≠ 0 then s
  else if s.sw.mirHeld + n ≤ s.rd (SW_RSV.CELLS 17) then
    let i := voqIdx p 17 x.pkt.tc
    let m : MirRef := ⟨k, out, s.rd (SW_MIR_CTL.DST_TC k), s.rd (SW_MIR_CTL.SNAP k), s.rd (SW_MIR_DST.HUB k), s.rd (SW_MIR_DST.ADP k), s.rd (SW_MIR_DST.SRC_ADP k)⟩
    let s := s.setVoq i (s.voq i ++ [{ id := x.id, cut := false, mirror := some m }])
    let s := match s.stored x.id with
      | some st => s.setStored x.id (some { st with refs := st.refs + 1 })
      | none => s
    s.mapSw fun w => { w with mirHeld := w.mirHeld + n }
  else
    ((s.mapSw fun w => { w with mirSkip := Tab.put 0 w.mirSkip k (min 65535 (Tab.get 0 w.mirSkip k + 1)) }).satAdd
      (SW_MIR_CNT.DROPS k) 1).raise Ev.SW_MIR_DROP

/-- Every session looks at an admitted packet and at each of its copies (R139). -/
def State.mirror (s : State) (p n : Nat) (x : Arrival) (outs : List (Nat × Nat)) : State :=
  if p = 17 ∨ x.analysed then s else
    s.each 8 fun k t =>
      let t := if t.mirrorMatches k p x.pkt none then t.mirrorMatch k p n x 31 else t
      t.eachIn outs fun o u => if u.mirrorMatches k p x.pkt (some o.1) then u.mirrorMatch k p n x o.1 else u

/-- The wake pattern on the transmitting lanes of a parked port with a packet to send (R100, R365). -/
def State.wakeLink (s : State) (p : Nat) : State :=
  if (s.link p).parked ∧ ¬ (s.link p).waking then
    let s := s.modLink p fun l => { l with waking := true }
    s.eachIn ((List.range 4).map (4 * p + ·)) fun n t =>
      if t.rd (LN_STAT.DIR n) = 0 ∧ t.on (LN_CTRL.EN n) then t.send (.lane n 6 [10, 1000]) else t
  else s

/-- The mark a cell takes with its allocation (R141): the running audit's, else none. -/
def State.allocMark (s : State) : Nat := if s.on SW_FAR_STAT.BUSY then s.sw.mark else 0

/-- The packet is stored and charged: place its references, copy it to the mirrors, wake a parked output, let its engine go on. -/
def State.takeIn (s : State) (p : Nat) (x : Arrival) (lossless : Bool) (outs : List (Nat × Nat)) : State :=
  let n := x.cells
  let s := if lossless then s.addCells (SW_RSV_USED.CELLS p) n
    else ((s.addCells SW_SHARED_USED.CELLS n).addCells (SW_SHR_USED.CELLS x.pkt.tc) n).freeCredit p x.pkt.tc x.got
  let s := s.subCells SW_FREE.FREE n
  let r := s.dropDownCopies x.pkt outs
  let outs := r.1
  let s := r.2.setStored x.id (some
    { pkt := x.pkt, inp := p, cells := n, lossless := lossless, refs := outs.length, complete := x.whole
      cut := x.whole && decide (x.pkt.payload.length < x.pkt.len), origin := x.origin, analysed := decide (p = 17) || x.analysed, mark := s.allocMark })
  let s := ((s.placeRefs p x outs).mirror p n x outs).engineAdmitted x
  let s := s.eachIn outs fun o t => if o.1 < 6 then t.wakeLink o.1 else t
  match s.stored x.id with
  | some st => if st.refs = 0 then s.freeStored x.id st else s
  | none => s

/-- Lossy admission against pool and caps (R134). -/
def State.admitLossy (s : State) (p : Nat) (x : Arrival) (outs : List (Nat × Nat)) : State :=
  let n := x.cells
  let tc := x.pkt.tc
  if s.rd SW_SHARED.CELLS < s.rd SW_SHARED_USED.CELLS + n ∨ s.rd (SW_TC.SHR_CAP tc) < s.rd (SW_SHR_USED.CELLS tc) + n then
    ((s.satAdd (SW_PDROP.ADMIT p) 1).raise Ev.SW_ADMIT_DROP).dropArrival p x
  else
    let fits := fun (o : Nat × Nat) => decide (s.voqCells (voqIdx p o.1 tc) + n ≤ s.rd (SW_VOQ_CAP.CELLS tc))
    let lost := (outs.filter fun o => !fits o).length
    let s := (List.range lost).foldl (fun t _ => (t.satAdd (SW_PDROP.ADMIT p) 1).raise Ev.SW_ADMIT_DROP) s
    let outs := outs.filter fits
    if outs.isEmpty then s.dropArrival p x else s.takeIn p x false outs

/-- The reserve of a local input has room for an arrival (R134). -/
def State.reserveFits (s : State) (p : Nat) (x : Arrival) : Bool := decide (s.rd (SW_RSV_USED.CELLS p) + x.cells ≤ s.rd (SW_RSV.CELLS p))

/-- Admission with the outputs chosen (R134): a lossless packet of a local input waits for its reserve, behind those that wait already. -/
def State.admitTo (s : State) (p : Nat) (x : Arrival) (outs : List (Nat × Nat)) : State :=
  if s.classLossless x.pkt.tc then
    if p < 6 ∨ s.reserveFits p x then s.takeIn p x true outs
    else
      let l := s.arrivals p
      s.setArrivals p ((l.filter Arrival.waiting) ++ { x with waiting := true } :: l.filter fun y => !y.waiting)
  else s.admitLossy p x outs

/-- The first arrival of a list that a test selects, and the others. -/
def takeArrival (f : Arrival → Bool) : List Arrival → Option (Arrival × List Arrival)
  | [] => none
  | x :: l => if f x then some (x, l) else (takeArrival f l).map fun r => (r.1, x :: r.2)

/-- Choose the outputs of an arrival and take in or drop it (R128, R134). -/
def State.admitArrival (s : State) (p : Nat) (x : Arrival) : State :=
  match s.route p x with
  | (.to outs, s) => if outs.isEmpty then s.dropArrival p x else s.admitTo p x outs
  | (.unrouted, s) => (s.satAdd (SW_PDROP.UNROUTED p) 1).dropArrival p x
  | (.mcMiss, s) => (s.raise Ev.SW_MC_MISS).dropArrival p x

/-- PACKET_ADMIT (R128, R134, R135, R137 to R139): the oldest first cell at input `p` that has not been judged. -/
def State.packetAdmit (s : State) (p : Nat) : State :=
  match takeArrival (fun x => !x.waiting) (s.arrivals p) with
  | none => s
  | some (x, rest) => (s.setArrivals p rest).admitArrival p x

def execPacketAdmit (p : Fin 20) (s : State) : Res := .next (s.packetAdmit p)

/-- RESERVE_WAIT_ADMIT (R134): the oldest waiting packet for which the reserve has room is admitted. Each engine waits for its own item alone. -/
def State.reserveWaitAdmit (s : State) (p : Nat) : State :=
  match takeArrival (fun x => x.waiting && s.reserveFits p x) (s.arrivals p) with
  | none => s
  | some (x, rest) => (s.setArrivals p rest).admitArrival p { x with waiting := false }

def execReserveWaitAdmit (p : Fin 20) (s : State) : Res := .next (s.reserveWaitAdmit p)

/-! ### Crossbar (R130 to R132, R136) -/

/-- How a read of the buffer and of the descriptor turns out (R131, R132). -/
def readClean : Fin 4 := 0
def readCorrected : Fin 4 := 1
def readUncorrectable : Fin 4 := 2
def readDescErr : Fin 4 := 3

/-- The next cell of the head of a VOQ may be granted (R135, R136). -/
def State.headReady (s : State) (o : Nat) (i : Nat) : Bool :=
  match s.voq i with
  | [] => false
  | r :: _ => match s.stored r.id with
    | none => true
    | some st => if r.cut then st.cellReady (s.outEnc o) r.granted else st.complete

/-- The input the round robin of an output and class takes next (R130): the one whose packet runs, else the first ready from its place. -/
def State.nextInput (s : State) (o tc : Nat) : Option Nat :=
  match Tab.get none s.sw.running (stIdx o tc) with
  | some i => if s.headReady o (voqIdx i o tc) then some i else none
  | none =>
    let start := Tab.get 0 s.sw.rr (stIdx o tc)
    ((List.range 20).map fun k => (start + k) % 20).find? fun i => s.headReady o (voqIdx i o tc)

/-- Whether packets of an adapter go through the paddock (R188, R190). -/
def State.toPaddock (s : State) (adp : Nat) (pkt : Packet) : Bool :=
  adp ≠ 0 && (pkt.spray || s.sw.pdk.any (fun e => decide (e.adp = adp)) || s.sw.pdkIn.any (fun e => decide (e.2 = adp)))

/-- The packet at a local output is a fragment its engine has begun to hand to its MAC before its tail came (R124): of an ETH adapter, at EXP_SEQ, the
item in progress of some engine, of more than one cell. -/
def State.macBegun (s : State) (c : StageCell) : Bool :=
  decide (s.adpType c.ref.adp = 8 ∧ c.idx ≠ 0 ∧ ((s.stored c.ref.id).elim 0 fun st => st.pkt.seq) = s.rd (TA_STAT.EXP_SEQ c.ref.adp)) &&
    (List.range 32).any fun e => (s.eng e).cur.any fun it => decide (it.id = c.ref.id ∧ it.adp = c.ref.adp)

/-- The last cell of a local packet has left the switch (R112): its engine can complete. A packet lost with its descriptor has none to hand over (R132). -/
def State.localWhole (s : State) (c : StageCell) : State :=
  let key := (c.ref.id, c.ref.adp)
  let s := if s.macBegun c then s.mapSw fun w => { w with begun := w.begun ++ [key] } else s
  let s := if c.ref.bad.isEmpty then s else s.mapSw fun w => { w with misread := w.misread ++ [c.ref] }
  let s := s.mapSw fun w => { w with ready := w.ready ++ [key] }
  if c.lost then (s.mapSw fun w => { w with gone := w.gone ++ [key] }).loseStored c.ref.id none else s

/-- Local packets leave staging for their engine or the paddock as long as there is room (R112, R113, R188); `fuel` bounds the cells. -/
def State.drainLocal (s : State) (o tc : Nat) : Nat → State
  | 0 => s
  | fuel + 1 =>
    match s.stage (stIdx o tc) with
    | [] => s
    | c :: rest =>
      let key := (c.ref.id, c.ref.adp)
      if s.sw.taken.contains key then
        let s := s.setStage (stIdx o tc) rest
        (if c.last then s.localWhole c else s).drainLocal o tc fuel
      else
        let pkt := (s.stored c.ref.id).elim {} Stored.pkt
        let s := if s.toPaddock c.ref.adp pkt then
            s.mapSw fun w => { w with taken := w.taken ++ [key], pdkIn := w.pdkIn ++ [key] }
          else s.egressEnter c.ref.id c.ref.adp pkt false
        if s.sw.taken.contains key then s.drainLocal o tc fuel else s

/-- Copies leave staging for the analysis port, which gathers one of each class at a time (R130, R140); `fuel` bounds the cells. -/
def State.drainMirror (s : State) (tc : Nat) : Nat → State
  | 0 => s
  | fuel + 1 =>
    match s.stage (stIdx 17 tc) with
    | [] => s
    | c :: rest =>
      if c.idx = 0 ∧ s.sw.mirq.any (fun r => decide (((s.stored r.id).elim 0 fun st => st.pkt.tc) = tc)) then s
      else
        let s := s.setStage (stIdx 17 tc) rest
        let s := if c.lost then s.loseStored c.ref.id c.ref.mirror
          else if c.last then s.mapSw fun w => { w with mirq := w.mirq ++ [c.ref] } else s
        s.drainMirror tc fuel

/-- A packet that grows at an input, where it waits or is stored (R84): its payload so far, and with its last cell its tail. -/
def State.growPacket (s : State) (p id : Nat) (pay : List Byte) (tail : Option Nat) : State :=
  if (s.arrivals p).any fun x => decide (x.id = id) then
    s.setArrivals p ((s.arrivals p).map fun x =>
      if x.id = id then { x with pkt := { x.pkt with payload := pay, tail := tail.getD x.pkt.tail }, whole := tail.isSome } else x)
  else match s.stored id with
    | some st => s.setStored id (some { st with
        pkt := { st.pkt with payload := pay, tail := tail.getD st.pkt.tail }, complete := tail.isSome
        cut := tail.isSome && decide (pay.length < st.pkt.len) })
    | none => s

/-- What the translator has of a packet's payload. -/
def XlatePkt.payload (x : XlatePkt) (st : Stored) : List Byte :=
  let v := (x.ref.view st.pkt).payload
  if x.whole then v else v.take (60 * x.cells - 16)

/-- The translator has taken one more cell (R84): the readmitted packet grows by it; with the last one the first admission is released. -/
def State.xlateGrow (s : State) (x : XlatePkt) (lost : Bool) : State :=
  let s := s.mapSw fun w => { w with xlate := w.xlate.map fun y => if y.ref.id = x.ref.id ∧ y.ref.adp = x.ref.adp then x else y }
  match x.newId, s.stored x.ref.id with
  | some n, some st =>
    let s := s.growPacket 18 n (x.payload st) (if lost then some 3 else if x.whole then some (x.ref.view st.pkt).tail else none)
    if x.whole then
      let s := s.mapSw fun w => { w with xlate := w.xlate.filter fun y => !decide (y.ref.id = x.ref.id ∧ y.ref.adp = x.ref.adp) }
      if lost then s.loseStored x.ref.id none else s.release x.ref.id none
    else s
  | _, _ => if lost then
      (s.mapSw fun w => { w with xlate := w.xlate.filter fun y => !decide (y.ref.id = x.ref.id ∧ y.ref.adp = x.ref.adp) }).loseStored x.ref.id none
    else s

/-- Packets leave staging for the translator, one of each class at a time (R84, R130); `fuel` bounds the cells. -/
def State.drainXlate (s : State) (tc : Nat) : Nat → State
  | 0 => s
  | fuel + 1 =>
    match s.stage (stIdx 18 tc) with
    | [] => s
    | c :: rest =>
      match s.sw.xlate.find? fun x => decide (x.tc = tc) with
      | none =>
        ((s.setStage (stIdx 18 tc) rest).mapSw fun w => { w with xlate := w.xlate ++ [{ ref := c.ref, tc := tc, whole := c.last }] }).drainXlate tc fuel
      | some x =>
        if c.idx = 0 then s
        else ((s.setStage (stIdx 18 tc) rest).xlateGrow { x with ref := c.ref, cells := x.cells + 1, whole := c.last } c.lost).drainXlate tc fuel

/-- The queue of a cable port that a class maps to (R149). -/
def State.queueOf (s : State) (p tc : Nat) : Nat := s.rd ⟨AL_QMAP p, 4 * tc, 4⟩

def SchedSt.queue (x : SchedSt) (q : Nat) : QueueSt := Tab.get {} x.queues q
def SchedSt.setQueue (x : SchedSt) (q : Nat) (v : QueueSt) : SchedSt := { x with queues := Tab.put {} x.queues q v }

/-- A queue has no open packet and nothing in staging (R152). -/
def State.queueIdle (s : State) (p q : Nat) : Bool :=
  ((s.sched p).queue q).opened.isNone && (List.range 8).all fun tc => s.queueOf p tc ≠ q || (s.stage (stIdx p tc)).isEmpty

/-- A granted cell goes into staging; a packet that an idle cable queue receives sets its wake mark (R130, R152). -/
def State.stageCell (s : State) (o tc : Nat) (c : StageCell) : State :=
  let s := if o < 6 ∧ c.idx = 0 ∧ s.queueIdle o (s.queueOf o tc) then
      s.modSched o fun x => x.setQueue (s.queueOf o tc) { x.queue (s.queueOf o tc) with woke := true }
    else s
  let s := s.setStage (stIdx o tc) (s.stage (stIdx o tc) ++ [c])
  if o < 6 then s else if o = 17 then s.drainMirror tc 64 else if o = 18 then s.drainXlate tc 64 else s.drainLocal o tc 64

/-- The packet of the head of VOQ `v` ends for output `o`: it leaves the VOQ, and the round robin moves on (R130). -/
def State.packetEnds (s : State) (v o tc i : Nat) (rest : List Ref) : State :=
  (s.setVoq v rest).mapSw fun w => { w with running := Tab.put none w.running (stIdx o tc) none, rr := Tab.put 0 w.rr (stIdx o tc) ((i + 1) % 20) }

/-- A double-bit error in a descriptor (R132): a packet of which nothing has been granted is dropped; one that has begun ends with a poisoned tail cell
(assumption row 146). -/
def State.grantLost (s : State) (o tc i : Nat) (r : Ref) (rest : List Ref) : State :=
  let v := voqIdx i o tc
  (if r.granted = 0 then (s.setVoq v rest).loseStored r.id r.mirror
    else (s.packetEnds v o tc i rest).stageCell o tc { ref := r, idx := r.granted, last := true, lost := true }).raise Ev.SW_DESC_ERR

/-- How a read of the buffer turns out (R131): corrected, or uncorrectable, when what is read is free and this reference is poisoned. -/
def State.readCell (s : State) (r : Ref) (read : Nat) : Ref × State :=
  if read = 1 then (r, s.satAdd SW_ECC.CORR 1)
  else if read = 2 then
    let f := s.freshBytes 60
    ({ r with bad := r.bad ++ [(r.granted, f.1)] }, (f.2.satAdd SW_ECC.UNCORR 1).raise Ev.SW_ECC_UNCORR)
  else (r, s)

/-- One grant of an output and class (R130): the next cell of input `i`. -/
def State.grant (s : State) (o tc i : Nat) (read : Nat) : State :=
  let v := voqIdx i o tc
  match s.voq v with
  | [] => s
  | r :: rest =>
    match s.stored r.id with
    | none => s.setVoq v rest
    | some st =>
      if read = 3 then s.grantLost o tc i r rest
      else
        let x := s.readCell r read
        let s := x.2
        let last := decide (st.outCells (s.outEnc o) ≤ r.granted + 1)
        let r' := { x.1 with granted := r.granted + 1 }
        let s := if last then s.packetEnds v o tc i rest
          else (s.setVoq v (r' :: rest)).mapSw fun w => { w with running := Tab.put none w.running (stIdx o tc) (some i) }
        s.stageCell o tc { ref := r', idx := r.granted, last := last }

/-- CROSSBAR_GRANT (R130, R131, R132): with room among the 32 staged cells, the next cell round robin over the inputs. -/
def State.crossbarGrant (s : State) (o tc read : Nat) : State :=
  if (s.stage (stIdx o tc)).length < 32 then
    match s.nextInput o tc with
    | some i => s.grant o tc i read
    | none => s
  else s

def execCrossbarGrant (out : Fin 20) (tc : Fin 8) (read : Fin 4) (s : State) : Res := .next (s.crossbarGrant out tc read)

/-- A packet the paddock released enters its home queue (R113, R188). -/
def State.pdkEnter (s : State) (id adp : Nat) : State :=
  s.enqueue (s.home adp) { ingress := false, adp := adp, pkt := (s.stored id).elim {} Stored.pkt, id := id, pdk := true }

/-- The released packets that wait for engine `e` enter its queue while it has room, in the order of their release (R113). -/
def State.drainPdk (s : State) (e : Nat) : State :=
  (s.sw.pdkOut.filter fun k => decide (s.home k.2 = e)).foldl (fun t k =>
    if t.queueRoom e 1 then (t.mapSw fun w => { w with pdkOut := w.pdkOut.erase k }).pdkEnter k.1 k.2 else t) s

/-- Room in the queue of engine `e` (R113): the packets that wait for it go on, those of the paddock first, then output by output, class by class. -/
def State.queueFreed (s : State) (e : Nat) : State :=
  (s.drainPdk e).eachIn ((List.range 20).filter fun o => decide (6 ≤ o ∧ o < 17)) fun o t => t.each 8 fun tc u =>
    match u.stage (stIdx o tc) with
    | c :: _ => if u.home c.ref.adp = e then u.drainLocal o tc 64 else u
    | [] => u

/-- EGRESS_QUEUE_ROOM (R113): the packets waiting in staging for a home queue enter it while it has room. -/
def execEgressQueueRoom (e : Fin 32) (s : State) : Res := .next (s.queueFreed e)

/-! ### Translator and analysis port (R84, R140) -/

/-- A packet that no version-2 link may carry (R84): the message TYPE of FLOOR_GOSSIP and PATH_PROBE. -/
def Packet.consumedByV2 (p : Packet) : Bool :=
  decide (p.cls = 3 ∧ (byteAt p.payload 2 = 0x85 ∨ byteAt p.payload 2 = 0x89))

/-- A packet as version 2 carries it, and as version 3 does (R84). -/
def Packet.toV2 (p : Packet) : Packet := { p with ver := 2, ts := p.ts % 2 ^ 32 }
def Packet.toV3 (p : Packet) (now : Time) : Packet :=
  let n := now.toNs
  let cand := (List.range 4).map fun q => (q, fullStamp (q * 2 ^ 32 + p.ts % 2 ^ 32) now)
  let d := fun c => if c ≤ n then n - c else c - n
  let best := cand.foldl (fun b c => if d c.2 < d b.2 then c else b) (cand.headD (0, 0))
  { p with ver := 3, ts := best.1 * 2 ^ 32 + p.ts % 2 ^ 32 }

/-- A new packet at a local input of the core (R84, R140). -/
def State.readmit (s : State) (p : Nat) (x : Arrival) : State :=
  let r := s.newId
  r.2.setArrivals p (r.2.arrivals p ++ [{ x with id := r.1, cells := x.pkt.cells false }])

/-- The translator sends a packet on, cut-through as far as it has its cells (R84), or takes its remaining cells and sends nothing. -/
def State.xlateStart (s : State) (x : XlatePkt) (st : Stored) (send : Option (Packet × Option Nat)) : State :=
  let v := x.ref.view st.pkt
  let s := match send with
    | some (pkt, out) => s.readmit 18 { id := 0, pkt := { pkt with payload := x.payload st, tail := if x.whole then v.tail else 0 }, cells := 0
                                        whole := x.whole, origin := st.origin, out := out, analysed := st.analysed }
    | none => s
  if x.whole then
    ((s.mapSw fun w => { w with xlate := w.xlate.filter fun y => !decide (y.ref.id = x.ref.id ∧ y.ref.adp = x.ref.adp) }).release x.ref.id none).drainXlate x.tc 64
  else s.mapSw fun w => { w with xlate := w.xlate.map fun y =>
    if y.ref.id = x.ref.id ∧ y.ref.adp = x.ref.adp then { y with newId := some (if send.isSome then w.nextId - 1 else 0) } else y }

/-- TRANSLATE_PACKET (R84): the oldest packet at the translator that it has not begun. -/
def State.translatePacket (s : State) : State :=
  match s.sw.xlate.find? fun x => x.newId.isNone with
  | none => s
  | some x =>
    match s.stored x.ref.id with
    | none => s.mapSw fun w => { w with xlate := w.xlate.filter fun y => !decide (y.ref.id = x.ref.id ∧ y.ref.adp = x.ref.adp) }
    | some st =>
      let port := x.ref.adp
      if port = 8 then s.xlateStart x st (some (st.pkt.toV3 s.time, none))
      else if st.pkt.consumedByV2 then s.xlateStart x st none
      else if ¬ x.ref.v2ok then (s.xlateStart x st none).raise (Ev.CL_XLATE_DROP port)
      else s.xlateStart x st (some (st.pkt.toV2, some port))

def execTranslatePacket (s : State) : Res := .next s.translatePacket

/-- The packet SP17 builds of a copy (R140). -/
def State.mirrorPacket (s : State) (r : Ref) (m : MirRef) (st : Stored) : Packet :=
  let o := r.view st.pkt
  let n := min o.len (min m.snap 2023)
  let b0 := m.k + (if n < o.len then 64 else 0) + (if o.tail ≠ 0 then 128 else 0)
  let body := be 1 b0 ++ be 1 st.inp ++ be 1 m.out ++ be 1 o.tc ++ be 2 (Tab.get 0 s.sw.mirSkip m.k) ++ be 2 0 ++ o.header ++ o.payload.take n
  { ver := 3, cls := 2, tc := m.tc, dstHub := m.hub, dstAdp := m.adp, srcHub := s.hubAddr, srcAdp := m.src, len := body.length
    seq := Tab.get 0 s.sw.mirSeq m.k, ts := s.time.stamp, payload := body }

/-- MIRROR_SEND (R140): the oldest copy at the analysis port leaves as a new packet. -/
def State.mirrorSend (s : State) : State :=
  match s.sw.mirq with
  | [] => s
  | r :: rest =>
    let s := s.mapSw fun w => { w with mirq := rest }
    match s.stored r.id, r.mirror with
    | some st, some m =>
      let pkt := s.mirrorPacket r m st
      let s := s.mapSw fun w => { w with
        mirSkip := Tab.put 0 w.mirSkip m.k 0, mirSeq := Tab.put 0 w.mirSeq m.k ((Tab.get 0 w.mirSeq m.k + 1) % 65536) }
      (((s.satAdd (SW_MIR_CNT.COPIES m.k) 1).release r.id (some m)).readmit 17 { id := 0, pkt := pkt, cells := 0 }).drainMirror st.pkt.tc 64
    | _, _ => s

def execMirrorSend (s : State) : Res := .next s.mirrorSend

/-! ### The farrier (R141 to R144) -/

/-- Start an audit unless one runs (R141): it picks a new audit mark. -/
def State.startAudit (s : State) : State :=
  if s.on SW_FAR_STAT.BUSY then s else (s.mapSw fun w => { w with mark := w.mark + 1 }).wr SW_FAR_STAT.BUSY 1

/-- AUDIT_PERIOD (R141): EN = 1 and a period that is not 0. -/
def execAuditPeriod (s : State) : Res :=
  .next (if s.on SW_FAR_CTRL.EN ∧ s.rd SW_FAR_CTRL.PERIOD ≠ 0 then s.startAudit else s)

/-- Give the cells of a leak back (R143): the credit of a lossless class of a cable input returns with the next CREDIT message. -/
def State.reclaim (s : State) (l : Lost) : State :=
  let s := s.addCells SW_FREE.FREE l.cells
  let s := if l.lossless then
      let s := s.subCells (SW_RSV_USED.CELLS l.inp) l.cells
      if l.inp < 6 then s.modLink l.inp fun k => { k with freed := k.freed.set l.tc ((k.freed.getD l.tc 0 + l.cells) % 2 ^ 24) } else s
    else s.uncharge l.inp l.tc l.cells false
  s.wrapAdd SW_FAR_RECL.CELLS l.cells

/-- The end of an audit (R142, R143): lost cells without its mark are suspects, leaked when they were already; `dups` free-list entries are duplicates
and leave the list. -/
def State.auditEnd (s : State) (dups : Nat) : State :=
  if s.on SW_FAR_STAT.BUSY then
    let found := fun (l : Lost) => decide (l.mark ≠ s.sw.mark)
    let leaked := s.sw.lost.filter fun l => found l && l.suspect
    let others := s.sw.lost.filter fun l => !(found l && l.suspect)
    let n := (leaked.map Lost.cells).sum
    let rec_ := s.on SW_FAR_CTRL.RECLAIM
    let s := (s.wr SW_FAR_RES.LEAKED (min 65535 n)).wr SW_FAR_RES.DUP (min 65535 dups)
    let s := s.mapSw fun w => { w with lost := (if rec_ then [] else leaked) ++ others.map fun l => { l with suspect := found l } }
    let s := if rec_ then s.eachIn leaked fun l t => t.reclaim l else s
    let s := s.subCells SW_FREE.FREE dups
    let s := (s.wr SW_FAR_STAT.BUSY 0).wrapAdd SW_FAR_STAT.AUDITS 1
    let s := if n = 0 then s else s.raise Ev.SW_LEAK
    let s := if dups = 0 then s else s.raise Ev.SW_DUP
    s.finishRegs (fun w => decide (w = .farrier)) [(14, SW_FAR_RES), (14, SW_FAR_RECL)] []
  else s

end Sys2Proof.Machine
end

