-- ==== Sys2Proof/Machine/Display.lean ====
section
/-!
DEFINITION. Display pipes and the memory controller (R196 to R229).
-/

namespace Sys2Proof.Machine

def State.pipe (s : State) (d : Nat) : PipeSt := Tab.get {} s.pipes d
def State.setPipe (s : State) (d : Nat) (v : PipeSt) : State := { s with pipes := Tab.put {} s.pipes d v }
def State.modPipe (s : State) (d : Nat) (f : PipeSt → PipeSt) : State := s.setPipe d (f (s.pipe d))
def State.dsMode (s : State) (d : Nat) : Nat := s.rd (DS_CFG.MODE d)
def State.mcReady (s : State) : Bool := s.on MC_STAT.READY

/-- The display adapter that serves pipe `d` (R196); pipe adapters are DISP_SRC (2) and DISP_SNK (3). -/
def State.pipeAdapter (s : State) (d : Nat) : Option Nat :=
  (s.adaptersOf fun ty inst => decide ((ty = 2 ∨ ty = 3) ∧ inst = d)).head?

/-- Present a record to the pipe's adapter; a receive-only adapter sends none (R106, R198). -/
def State.dispSend (s : State) (d : Nat) (rec : List Byte) : State :=
  match s.pipeAdapter d with
  | some a => if s.adpSends a ∧ s.tunnelOpen a then s.accept a { bytes := rec, ts := s.time.stamp } else s
  | none => s

/-! ### Tiles (R201 to R205) -/

/-- CRC-32 with the Castagnoli polynomial (R202). -/
def crcCBit (c : Nat) : Nat := if c % 2 = 1 then Nat.xor (c / 2) 0x82F63B78 else c / 2
def crcCByte (c : Nat) (b : Byte) : Nat :=
  crcCBit (crcCBit (crcCBit (crcCBit (crcCBit (crcCBit (crcCBit (crcCBit (Nat.xor c b.toNat))))))))
def crc32c (l : List Byte) : Nat := Nat.xor (l.foldl crcCByte 0xFFFFFFFF) 0xFFFFFFFF

def tilesX (f : DispFormat) : Nat := (f.width + 63) / 64
def tilesY (f : DispFormat) : Nat := (f.height + 63) / 64
def tileW (f : DispFormat) (x : Nat) : Nat := min 64 (f.width - 64 * x)
def tileH (f : DispFormat) (y : Nat) : Nat := min 64 (f.height - 64 * y)

/-- Bits per pixel of a format (R205), and the bytes of a row of `w` pixels. -/
def fmtBits (fmt : Nat) : Nat := if fmt = 1 then 24 else if fmt = 3 then 20 else 30
def rowBytes (fmt w : Nat) : Nat := (w * fmtBits fmt + 7) / 8

def tileBytes (f : DispFormat) (x y : Nat) : Nat := tileH f y * rowBytes f.fmt (tileW f x)

/-- Where copy `c` of tile `t` of a pipe stands in frame memory (R211); the odd pipe of a pair uses the region of the even one (R216). -/
def State.pairBase (s : State) (d : Nat) : Nat := if d % 2 = 1 ∧ s.on (DS_CFG.PAIR (d - 1)) then d - 1 else d
def State.tileAddr (s : State) (d t c : Nat) : Nat := s.rd (DS_FS_BASE.BASE (s.pairBase d)) * 32768 + t * 32768 + c * 16384

/-- Frame-memory accesses count in 64-byte units (R228). -/
def State.countRd (s : State) (n : Nat) : State := s.wrapAdd MC_RD.UNITS ((n + 63) / 64)
def State.countWr (s : State) (n : Nat) : State := s.wrapAdd MC_WR.UNITS ((n + 63) / 64)
def State.writeTile (s : State) (d t c : Nat) (px : List Byte) : State :=
  (s.dmaWrite d (s.tileAddr d t c) px).countWr px.length

/-- The header of a TILE record (R204). -/
def tileHeader (refresh prot type1 : Bool) (frame x y w h fmt sig : Nat) : List Byte :=
  be 1 1 ++ be 1 (refresh.toNat + 2 * prot.toNat + 4 * type1.toNat) ++ be 2 frame ++ be 1 x ++ be 1 y ++ be 1 (w - 1) ++ be 1 (h - 1) ++
  be 1 fmt ++ be 3 0 ++ be 4 sig

def frameEndRec (full prot : Bool) (frame tiles : Nat) : List Byte :=
  be 1 2 ++ be 1 (full.toNat + 2 * prot.toNat) ++ be 2 frame ++ be 2 tiles ++ be 2 0

def formatRec (f : DispFormat) : List Byte :=
  be 1 3 ++ be 1 f.fmt ++ be 1 (f.mute.toNat + 2 * f.prot.toNat + 4 * f.type1.toNat) ++ be 1 0 ++ be 2 f.width ++ be 2 f.height ++ be 4 f.period

/-! ### Source: capture (R206 to R209, R222) -/

/-- The output link of a pipe's tunnel is encrypted (R222); a tunnel inside the hub crosses no link. -/
def State.srcEncrypted (s : State) (d : Nat) : Bool :=
  match s.pipeAdapter d with
  | none => false
  | some a =>
    if s.on (TA_PEER.MCAST a) then
      let g := (s.rd (TA_PEER.HUB a) + 2 ^ 14 * s.rd (TA_PEER.ADP a)) % 4096
      (List.range 6).all fun p => !bitOf (s.rd (SW_MCG_LO.PORTS g)) p || s.linkEnc p
    else if s.rd (TA_PEER.HUB a) = s.hubAddr then true
    else match (s.cableOut { dstHub := s.rd (TA_PEER.HUB a), tc := s.rd (TA_CFG0.TC a) }).1 with
      | some p => s.linkEnc p
      | none => false

/-- Formats of one shape (R208, R214). -/
def sameShape (f g : DispFormat) : Bool := decide (f.fmt = g.fmt ∧ f.width = g.width ∧ f.height = g.height)

/-- A frame format the hub takes (R205, R218): format 3 needs an even width, and a compressed line is at most 8,192 pixels wide. -/
def formatOk (f : DispFormat) : Bool := decide (f.fmt < 4 ∧ ¬ (f.fmt = 3 ∧ f.width % 2 = 1) ∧ ¬ (f.comp = true ∧ 8192 < f.width))

/-- FORMAT with MUTE = 1 from a source (R208, R222, R229). -/
def State.sendMute (s : State) (d : Nat) : State :=
  (s.dispSend d (formatRec { (s.pipe d).src with mute := true }))

/-- A trigger of a refresh (R208). -/
def State.triggerRefresh (s : State) (d : Nat) : State := s.modPipe d fun x => { x with due := true }

/-- Write a captured frame into a copy, tile by tile. -/
def State.storeFrame (s : State) (d c : Nat) (tiles : List (List Byte)) : State :=
  (List.range tiles.length).foldl (fun t i => t.writeTile d i c (tiles.getD i [])) s

/-- The extraction of copy `c` starts; signatures sent of frames of another shape count no more (R207). -/
def State.extractCopy (s : State) (d c : Nat) (refresh : Bool) : State :=
  s.modPipe d fun y =>
    let k := Tab.get {} y.copies c
    { y with
      armed := y.armed && !refresh, fresh := if y.fresh = some c then none else y.fresh
      sentSig := if sameShape k.fmt y.sentFor then y.sentSig else [], sentFor := k.fmt
      extract := some { refresh := refresh, copy := c, frame := k.frame } }

/-- A refresh that its frame start has armed begins with the last complete frame and its FORMAT, or the extraction of the last frame (R207, R208). -/
def State.beginExtract (s : State) (d : Nat) : State :=
  let x := s.pipe d
  if x.extract.isSome then s
  else match (if x.armed then x.last else none), x.fresh with
    | some c, _ => (s.extractCopy d c true).dispSend d (formatRec (Tab.get {} x.copies c).fmt)
    | none, some c => s.extractCopy d c false
    | none, none => s

/-- A frame starts (R206, R208): the one before is complete, and a trigger before it arms the refresh; what waits for nothing begins. -/
def State.captureTurn (s : State) (d : Nat) : State :=
  (s.modPipe d fun y =>
    let last := if y.cur.isSome then y.cur else y.last
    { y with last := last, cur := none, armed := y.armed || (y.due && last.isSome), due := y.due && last.isNone }).beginExtract d

/-- The copy the next frame goes to (R206): the one not being extracted, else the one that does not hold the last complete frame. -/
def PipeSt.target (x : PipeSt) : Nat :=
  match x.extract, x.last with
  | some e, _ => 1 - e.copy
  | none, some l => 1 - l
  | none, none => 0

/-- The frame `tiles` of format `f` goes to its copy, each tile with its signature (R206). A new shape triggers a refresh (R208). -/
def State.captureFrame (s : State) (d : Nat) (f : DispFormat) (tiles : List (List Byte)) : State :=
  let s := s.captureTurn d
  let x := s.pipe d
  let c := x.target
  let s := if x.fresh = some c then s.satAdd (DS_FRAME.SKIP d) 1 else s
  let n := (x.frameNo + 1) % 65536
  let f := { f with mute := false }
  let s := (s.storeFrame d c tiles).wr (DS_STAT.DSC d) f.comp.toNat
  s.modPipe d fun y => { y with
    src := f, frameNo := n, copies := Tab.put {} y.copies c { frame := n, fmt := f, sigs := tiles.map crc32c }, fresh := some c, cur := some c
    last := if y.last = some c then (if (Tab.get {} y.copies (1 - c)).frame = 0 then none else some (1 - c)) else y.last
    due := y.due || !sameShape f x.src }

/-- CAPTURE_FRAME_START (R206, R208); a frame of a format the hub does not take is refused (R205). -/
def execCaptureFrameStart (d : Fin 4) (f : DispFormat) (tiles : List (List Byte)) (s : State) : Res :=
  .next (if s.dsMode d = 1 ∧ s.mcReady ∧ formatOk f then s.captureFrame d f tiles else s)

/-- One tile of a row: sent when a refresh runs or its captured signature differs from the one last sent (R207). -/
def State.extractTile (s : State) (d : Nat) (e : Extract) (i : Nat) : State :=
  let k := Tab.get {} (s.pipe d).copies e.copy
  let f := k.fmt
  let t := e.row * tilesX f + i
  let n := tileBytes f i e.row
  let r := s.dmaRead d (s.tileAddr d t e.copy) n
  let sig := k.sigs.getD t 0
  let s := r.2.countRd n
  if e.refresh ∨ Tab.get none (s.pipe d).sentSig t ≠ some sig then
    let s := s.dispSend d (tileHeader e.refresh f.prot f.type1 e.frame i e.row (tileW f i) (tileH f e.row) f.fmt sig ++ r.1)
    let s := s.modPipe d fun y => { y with
      sentSig := Tab.put none y.sentSig t (some sig), extract := y.extract.map fun z => { z with sent := z.sent + 1 } }
    s.wrapAdd (DS_TILES.TILES d) 1
  else s

/-- TILE_EXTRACT (R207, R208, R222): the next row of tiles of the extraction or refresh of pipe `d`. -/
def State.tileExtract (s : State) (d : Nat) : State :=
  if s.dsMode d ≠ 1 ∨ ¬ s.mcReady then s else
    let s := s.beginExtract d
    match (s.pipe d).extract with
    | none => s
    | some e =>
      let f := (Tab.get {} (s.pipe d).copies e.copy).fmt
      if f.prot ∧ ¬ s.srcEncrypted d then
        ((s.sendMute d).raise (Ev.DS_HDCP_FAIL d)).modPipe d fun y => { y with extract := none, armed := y.armed || e.refresh }
      else
        let s := (List.range (tilesX f)).foldl (fun t i => t.extractTile d e i) s
        if tilesY f ≤ e.row + 1 then
          let sent := ((s.pipe d).extract.map Extract.sent).getD 0
          let s := s.dispSend d (frameEndRec e.refresh f.prot e.frame sent)
          (s.modPipe d fun y => { y with extract := none }).wr (DS_FRAME.FRAME d) e.frame
        else s.modPipe d fun y => { y with extract := y.extract.map fun z => { z with row := z.row + 1 } }

def execTileExtract (d : Fin 4) (s : State) : Res := .next (s.tileExtract d)

/-- REFRESH_PERIOD (R208). -/
def execRefreshPeriod (d : Fin 4) (s : State) : Res :=
  .next (if s.dsMode d = 1 ∧ s.rd (DS_TILE_CFG.FULL_PERIOD d) ≠ 0 then s.triggerRefresh d else s)

/-- CAPTURE_NO_FRAME (R208): FORMAT with MUTE; the next refresh clears it. -/
def execCaptureNoFrame (d : Fin 4) (s : State) : Res := .next (if s.dsMode d = 1 then s.sendMute d else s)

/-- Drive the capture receiver's HPD (R209). -/
def State.setHpd (s : State) (d : Nat) (v : Nat) : State := (s.wr (DS_STAT.HPD d) v).send (.pin 1 d v)

/-- Present an EDID: with another one presented HPD goes low for 100 ms first (R209). -/
def State.presentEdid (s : State) (d : Nat) (e : List (List Byte)) : State :=
  if s.mcReady then
    if (s.pipe d).edid = e then s
    else if s.on (DS_STAT.HPD d) then (s.modPipe d fun x => { x with edidNext := some e }).setHpd d 0
    else if (s.pipe d).edidNext.isSome then s.modPipe d fun x => { x with edidNext := some e }
    else (s.modPipe d fun x => { x with edid := e }).setHpd d 1
  else s.modPipe d fun x => { x with edid := e }

/-- SINK_EDID (R209): one block; block 0 begins an EDID anew, the last missing block completes it. -/
def execSinkEdid (d : Fin 4) (idx total : Fin 256) (block : List Byte) (s : State) : Res :=
  .next (if s.dsMode d = 1 ∨ s.dsMode d = 2 then
    let had := if idx.val = 0 then [] else (s.pipe d).edidIn.filter fun b => decide (b.1 ≠ idx.val ∧ b.1 < total.val)
    let blocks := had ++ [(idx.val, block.take 128)]
    if blocks.length = total.val ∧ s.dsMode d = 1 then
      let e := (List.range total.val).map fun i => ((blocks.find? fun b => decide (b.1 = i)).map Prod.snd).getD []
      (s.modPipe d fun x => { x with edidIn := [] }).presentEdid d e
    else s.modPipe d fun x => { x with edidIn := blocks }
  else s)

/-- HPD_LOW_END (R209): HPD rises with the new EDID, if there is one. -/
def execHpdLowEnd (d : Fin 4) (s : State) : Res :=
  .next (match (s.pipe d).edidNext with
  | some e => if e.isEmpty then s.modPipe d fun x => { x with edid := [], edidNext := none }
      else (s.modPipe d fun x => { x with edid := e, edidNext := none }).setHpd d 1
  | none => s)

/-- HPD_HOLD_EXPIRE (R209): the tunnel has not reopened in 2 s; HPD goes low and returns with the image's fallback EDID. -/
def execHpdHoldExpire (d : Fin 4) (s : State) : Res :=
  .next (if (s.pipe d).hold then
    (s.modPipe d fun x => { x with hold := false, edidIn := [], edidNext := some (Tab.get [] s.img.edid d) }).setHpd d 0
  else s)

/-- SINK_STATUS (R203): the sink's report, kept as it came. -/
def execSinkStatus (d : Fin 4) (flags : Fin 16) (frame : Fin 65536) (refresh : BitVec 32) (s : State) : Res :=
  .next (s.modPipe d fun x => { x with sinkStatus := be 1 flags ++ be 2 frame ++ be 4 refresh.toNat })

/-- HDCP_TOPO (R203, R221): assembled into the repeater's ReceiverID_List, DEPTH one greater, the limits marked. -/
def execHdcpTopo (d : Fin 4) (depth count : Fin 256) (devs casc : Bool) (ids : List Byte) (s : State) : Res :=
  .next (
    let ids := ids.take 155
    let body := be 1 (depth.val + 1) ++ be 1 count ++
      be 1 ((devs || decide (31 < count.val)).toNat + 2 * (casc || decide (4 < depth.val + 1)).toNat) ++ ids
    let s := s.modPipe d fun x => { x with topo := body }
    if s.on (DS_CFG.HDCP_EN d) then s.send (.bus 3 d 1 body) else s)

/-! ### Source: direct tile push (R210) -/

/-- Length of a well-formed push record (R203 to R205) against the last FORMAT pushed; none when it breaks the rules. -/
def pushLen (f : DispFormat) (slot : List Byte) : Option Nat :=
  match byteAt slot 0 with
  | 1 =>
    let x := byteAt slot 4
    let y := byteAt slot 5
    let fmt := byteAt slot 8
    if x < tilesX f ∧ y < tilesY f ∧ fmt = f.fmt ∧ byteAt slot 6 + 1 = tileW f x ∧ byteAt slot 7 + 1 = tileH f y then
      some (16 + tileBytes f x y)
    else none
  | 2 => some 8
  | 3 => if formatOk { fmt := byteAt slot 1, width := beAt slot 4 2 } then some 12 else none
  | _ => none

/-- The format a pushed FORMAT record gives. -/
def pushFormat (slot : List Byte) : DispFormat :=
  { fmt := byteAt slot 1, width := beAt slot 4 2, height := beAt slot 6 2, mute := bitOf (byteAt slot 2) 0, prot := bitOf (byteAt slot 2) 1
    type1 := bitOf (byteAt slot 2) 2, period := beAt slot 8 4 }

/-- A pushed record as it is sent: a tile with its signature (R204, R210). -/
def pushBytes (r : List Byte) : List Byte := if byteAt r 0 = 1 then r.take 12 ++ be 4 (crc32c (r.drop 16)) ++ r.drop 16 else r

/-- What a sent record leaves: the tiles counted, the last FRAME, the last FORMAT (R210, R227). -/
def State.pushTrace (s : State) (d : Nat) (r : List Byte) : State :=
  match byteAt r 0 with
  | 1 => s.wrapAdd (DS_TILES.TILES d) 1
  | 2 => s.wr (DS_FRAME.FRAME d) (beAt r 2 2)
  | 3 => s.modPipe d fun x => { x with src := pushFormat r }
  | _ => s

/-- The record `r` of the slot at HEAD goes to adapter `a` (R210): HEAD advances to `next` once its last fragment has entered the engine's queue. A record that
does not get there stays in the ring. -/
def State.pushRecord (s : State) (d a next : Nat) (r : List Byte) : State :=
  let t := ((s.countRd r.length).dispSend d (pushBytes r)).dispatch a
  if t.rd (TA_SEQ.TX_SEQ a) ≠ s.rd (TA_SEQ.TX_SEQ a) then (t.pushTrace d r).wr (DS_PUSH_HEAD.HEAD d) next
  else t.modAdp a fun x => { x with accepted := [] }

/-- The bytes `rd.1` of the slot at HEAD: its record goes out, or it holds none that keeps the rules and is skipped (R210). -/
def State.pushRead (s : State) (d a next : Nat) (rd : List Byte × State) : State :=
  match pushLen (s.pipe d).src rd.1 with
  | none => (rd.2.raise (Ev.DS_PUSH_ERR d)).wr (DS_PUSH_HEAD.HEAD d) next
  | some n => rd.2.pushRecord d a next (rd.1.take n)

/-- The slot at HEAD, read by the capture pipe's master (R210). -/
def State.pushSlot (s : State) (d a head size : Nat) : State :=
  s.pushRead d a ((head + 1) % size) (s.dmaRead d (s.rd (DS_PUSH_BASE.BASE d) * 16384 + head * 16384) 16384)

/-- PUSH_RECORD_SEND (R210): the record at HEAD, while the tunnel is open and its adapter free. -/
def State.pushSend (s : State) (d : Nat) : State :=
  let head := s.rd (DS_PUSH_HEAD.HEAD d)
  let size := s.rd (DS_PUSH_SIZE.SLOTS d)
  if s.dsMode d ≠ 2 ∨ ¬ s.mcReady ∨ size = 0 ∨ head = s.rd (DS_PUSH_TAIL.TAIL d) then s
  else match s.pipeAdapter d with
  | none => s
  | some a => if (s.adp a).stopped ∨ ¬ (s.adp a).accepted.isEmpty ∨ ¬ s.tunnelOpen a then s else s.pushSlot d a head size

def execPushRecordSend (d : Fin 4) (s : State) : Res := .next (s.pushSend d)

/-- REFRESH_REQ (R208, R210): a refresh of a capture pipe; in PUSH mode an event for host software. -/
def execRefreshReq (d : Fin 4) (_reason : Fin 4) (_frame : Fin 65536) (s : State) : Res :=
  .next (if s.dsMode d = 1 then s.triggerRefresh d
  else if s.dsMode d = 2 then s.raise (Ev.DS_REFRESH_REQ d) else s)

/-! ### Sink: records (R211 to R214, R223) -/

/-- The current refresh in 0.01 Hz: pixel clock over pixels of a frame, the stretched rate while LOW (R203, R219). -/
def State.refreshRate (s : State) (d : Nat) : Nat :=
  let px := s.rd (DS_TIMING_H.TOTAL d) * s.rd (DS_TIMING_V.TOTAL d)
  if s.on (DS_STAT.LOW d) then
    if s.rd (DS_LOWREF.MIN_RATE d) = 0 then (s.pipe d).panelMin else s.rd (DS_LOWREF.MIN_RATE d)
  else if px = 0 then 0 else s.rd (DS_PCLK.KHZ d) * 100000 / px

/-- The pipes that drive the panel of pipe `d`: both of a pair (R216). -/
def State.panelPipes (s : State) (d : Nat) : List Nat := if s.on (DS_CFG.PAIR d) ∧ d % 2 = 0 then [d, d + 1] else [d]

/-- The odd pipe of a pair, whose timing and adapter fields are ignored (R216). -/
def State.oddOfPair (c : State) (d : Nat) : Bool := decide (c.pairBase d ≠ d)

/-- SINK_STATUS of a sink (R203, R214). -/
def State.sendSinkStatus (s : State) (d : Nat) : State :=
  let frozen := (s.panelPipes d).any fun k => s.on (DS_EVT.FREEZE k)
  let flags := ((s.pipe d).trained && s.on (DS_STAT.HPD d)).toNat + 2 * s.rd (DS_STAT.HDCP_AUTH d) + 4 * s.rd (DS_STAT.LOW d) + 8 * frozen.toNat
  s.dispSend d (be 1 0x12 ++ be 1 flags ++ be 2 (s.rd (DS_FRAME.FRAME d)) ++ be 4 (s.refreshRate d))

/-- REFRESH_REQ of a sink, repeated until a clean full refresh commits (R213, R214). -/
def State.askRefresh (s : State) (d reason : Nat) : State :=
  (s.modPipe d fun x => { x with refreshReq := some reason }).dispSend d (be 1 0x10 ++ be 1 reason ++ be 2 (s.rd (DS_FRAME.FRAME d)))

/-- FRAME number `a` lies before `b`, modulo 2^16. -/
def frameBefore (a b : Nat) : Bool := decide (0 < (b + 65536 - a) % 65536 ∧ (b + 65536 - a) % 65536 < 32768)

/-- Protected content is allowed (R223): the link it came on and the panel's session, and for TYPE1 no legacy device. -/
def State.protOk (s : State) (d : Nat) (enc type1 : Bool) : Bool :=
  enc && s.on (DS_STAT.HDCP_AUTH d) && (!type1 || !(s.pipe d).legacy)

/-- The parts of a TILE record a sink checks (R204, R213). -/
def tileFits (f : DispFormat) (rec : List Byte) : Bool :=
  let x := byteAt rec 4
  let y := byteAt rec 5
  decide (byteAt rec 0 = 1 ∧ x < tilesX f ∧ y < tilesY f ∧ byteAt rec 6 + 1 = tileW f x ∧ byteAt rec 7 + 1 = tileH f y ∧ byteAt rec 8 % 4 = f.fmt ∧
    rec.length = 16 + tileBytes f x y ∧ crc32c (rec.drop 16) = beAt rec 12 4)

/-- A record that a sink pipe takes up: not while the frame memory is out of service (R229), and none at the odd pipe of a pair (R216). -/
def State.sinkTakes (s : State) (d : Nat) : Bool := decide (s.dsMode d = 3) && s.mcReady && !s.oddOfPair d

/-- A record that refers to a FRAME before the current FORMAT (R214). -/
def PipeSt.stale (x : PipeSt) (frame : Nat) : Bool := x.fmtFrame.elim false fun q => frameBefore frame q

/-- The latest FRAME a sink has seen. -/
def PipeSt.latest (x : PipeSt) (frame : Nat) : Nat := x.seen.elim frame fun q => if frameBefore frame q then q else frame

/-- A tile lies, wholly or in part, on pipe `d`'s half of its panel (R216, R220). -/
def State.onHalf (s : State) (d : Nat) (f : DispFormat) (t : Nat) : Bool :=
  let e := s.pairBase d
  let half := s.rd (DS_TIMING_H.ACTIVE e) / 2
  let x := t % max 1 (tilesX f)
  if ¬ s.on (DS_CFG.PAIR e) then true else if d = e then decide (64 * x < half) else decide (half < 64 * x + tileW f x)

/-- Tiles became live (R219, R220): every pipe of the panel counts a commit, and damage where it lies on its half; a stretched blank ends 2 lines on. -/
def State.noteCommit (s : State) (d : Nat) (f : DispFormat) (damage : List Nat) : State :=
  s.eachIn (s.panelPipes d) fun k t =>
    (t.modPipe k fun y => { y with
      committed := true, quietFrames := 0, damage := y.damage || damage.any (t.onHalf k f)
      blank := if (y.blank.map Prod.snd).getD false then some (2, false) else y.blank
      blankAt := if (y.blank.map Prod.snd).getD false then t.uptime else y.blankAt }).wr (DS_STAT.LOW k) 0

/-- A tile that passed the checks is written into the copy that is not live, or with TEAR into the live one (R211, R212). -/
def State.storeTile (s : State) (d : Nat) (f : DispFormat) (rec : List Byte) : State :=
  let t := byteAt rec 5 * tilesX f + byteAt rec 4
  let frame := beAt rec 2 2
  let tear := s.on (DS_CFG.TEAR d)
  let live := Tab.get 0 (s.pipe d).live t
  let s := s.writeTile d t (if tear then live else 1 - live) (rec.drop 16)
  let dmg := if bitOf (byteAt rec 1) 0 then [] else [t]
  let s := (s.modPipe d fun y => { y with
    pending := if tear ∨ y.pending.contains t then y.pending else y.pending ++ [t]
    valid := if tear ∧ !y.valid.contains t then y.valid ++ [t] else y.valid
    pendDamage := if tear then y.pendDamage else y.pendDamage ++ dmg
    recv := Tab.put 0 y.recv frame (Tab.get 0 y.recv frame + 1) }).wrapAdd (DS_TILES.TILES d) 1
  if tear then s.noteCommit d f dmg else s

/-- TILE_RECORD (R211 to R213, R223): check the record, and that the region has room for its tile. -/
def State.tileRecord (s : State) (d : Nat) (rec : List Byte) (enc : Bool) : State :=
  if s.sinkTakes d = false then s
  else
    let x := s.pipe d
    let frame := beAt rec 2 2
    let s := s.modPipe d fun y => { y with seen := some (y.latest frame) }
    match x.format with
    | none => s
    | some f =>
      if x.stale frame || !tileFits f rec || decide (s.rd (DS_FS_SIZE.TILES d) ≤ byteAt rec 5 * tilesX f + byteAt rec 4) then s
      else if bitOf (byteAt rec 1) 1 ∧ ¬ s.protOk d enc (bitOf (byteAt rec 1) 2) then
        (s.modPipe d fun y => { y with muteFrame := true }).raise (Ev.DS_HDCP_FAIL d)
      else s.storeTile d f rec

def execTileRecord (d : Fin 4) (rec : List Byte) (enc : Bool) (s : State) : Res := .next (s.tileRecord d rec enc)

/-- The waiting tiles become live (R212, R214): a FULL commit makes its tiles valid, a clean one ends the refresh asked for. A FRAME_END without tiles is no commit
of R219 and R220 (assumption row 155). SINK_STATUS tells the new last FRAME; after a timeout REFRESH_REQ follows. -/
def State.commitTiles (s : State) (d : Nat) (c : TileCommit) : State :=
  let f := (s.pipe d).format.getD {}
  let told := decide (s.rd (DS_FRAME.FRAME d) ≠ c.frame) || (s.on (DS_STAT.LOW d) && !c.tiles.isEmpty)
  let s := s.modPipe d fun y => { y with
    live := c.tiles.foldl (fun l t => Tab.put 0 l t (1 - Tab.get 0 l t)) y.live
    valid := if c.full then y.valid ++ c.tiles.filter (fun t => !y.valid.contains t) else y.valid
    commit := none, refreshReq := if c.clean then none else y.refreshReq }
  let s := if c.tiles.isEmpty then s else s.noteCommit d f c.damage
  let s := s.eachIn (s.panelPipes d) fun k t => t.wr (DS_FRAME.FRAME k) c.frame
  let s := if told then s.sendSinkStatus d else s
  if c.tmo then s.askRefresh d 3 else s

/-- Lines left of the blank in which pipe `d` is (R212). -/
def State.linesLeft (s : State) (d : Nat) : Nat :=
  let x := s.pipe d
  x.blank.elim 0 fun b => b.1 - (s.uptime - x.blankAt) / max 1 (s.rd (DS_TIMING_H.TOTAL d) * 10000000 / max 1 (s.rd (DS_PCLK.KHZ d)))

/-- In a blank with 2 lines left, or a stretched one, a commit is immediate (R212). -/
def State.commitNow (s : State) (d : Nat) : Bool := ((s.pipe d).blank.map Prod.snd).getD false || decide (2 ≤ s.linesLeft d)

/-- The pending tiles wait for their commit, with those that wait already (R212). -/
def State.gather (s : State) (d : Nat) (c : TileCommit) : State :=
  s.modPipe d fun y =>
    let o := y.commit.getD {}
    { y with
      pending := [], pendDamage := []
      commit := some { frame := c.frame, full := o.full || c.full, clean := o.clean || c.clean, tmo := o.tmo || c.tmo, damage := o.damage ++ y.pendDamage
                       tiles := o.tiles ++ y.pending.filter fun t => !o.tiles.contains t } }

/-- What waits commits now if the scan-out allows (R212). -/
def State.tryCommit (s : State) (d : Nat) : State :=
  match (s.pipe d).commit with
  | some c => if s.commitNow d then s.commitTiles d c else s
  | none => s

/-- FRAME_END (R212, R213, R214): missing records are reported; the pending tiles commit now or at the next blank. -/
def State.frameEnd (s : State) (d : Nat) (full : Bool) (frame tiles : Nat) : State :=
  if s.sinkTakes d = false ∨ (s.pipe d).stale frame = true then s
  else
    let missing := decide (Tab.get 0 (s.pipe d).recv frame < tiles)
    let s := s.modPipe d fun y => { y with recv := Tab.put 0 y.recv frame 0, seen := some (y.latest frame) }
    let s := if missing then (s.raise (Ev.DS_MISSING d)).askRefresh d 0 else s
    if s.on (DS_CFG.TEAR d) then (if full && !missing then s.modPipe d fun y => { y with refreshReq := none } else s)
    else (s.gather d { frame := frame, full := full, clean := full && !missing }).tryCommit d

def execFrameEnd (d : Fin 4) (full : Bool) (frame tiles : Fin 65536) (s : State) : Res := .next (s.frameEnd d full frame tiles)

/-- What DS_STAT.STATE shows of a pipe whose panel link has trained (R215, R229): muted without frame memory, else by the FORMAT of its panel. -/
def State.shownState (s : State) (d : Nat) : Nat :=
  if ¬ s.mcReady then 4 else match (s.pipe (s.pairBase d)).format with
    | none => 2
    | some f => if f.mute then 4 else 3

/-- A new FORMAT stands: pending tiles go, every tile is invalid (R214). -/
def State.startFormat (s : State) (d : Nat) : State :=
  let s := s.modPipe d fun y => { y with pending := [], pendDamage := [], valid := [], recv := [], commit := none, fmtFrame := y.seen }
  (s.eachIn (s.panelPipes d) fun k t =>
    if (t.pipe k).trained ∧ t.rd (DS_STAT.STATE k) ≠ 1 then t.wr (DS_STAT.STATE k) (t.shownState k) else t).askRefresh d 1

/-- FORMAT (R211, R214, R215): a changed format discards pending tiles, invalidates all and asks for a refresh. One the hub does not take is refused (R205). -/
def State.newFormat (s : State) (d : Nat) (f : DispFormat) : State :=
  if s.sinkTakes d = false ∨ formatOk f = false then s
  else
    let tooBig := decide (s.rd (DS_FS_SIZE.TILES d) < tilesX f * tilesY f)
    let differs := decide (f.width ≠ s.rd (DS_TIMING_H.ACTIVE d) ∨ f.height ≠ s.rd (DS_TIMING_V.ACTIVE d))
    let s := if tooBig || differs then s.raise (Ev.DS_FMT_MISMATCH d) else s
    let f := if tooBig then { f with mute := true } else f
    let same := (s.pipe d).format.elim false fun g => sameShape g f && decide (g.mute = f.mute)
    let s := s.modPipe d fun y => { y with format := some f }
    if same then s else s.startFormat d

def execFormat (d : Fin 4) (f : DispFormat) (s : State) : Res := .next (s.newFormat d f)

/-- REFRESH_REQ_REPEAT (R214). -/
def execRefreshReqRepeat (d : Fin 4) (s : State) : Res :=
  .next (match (s.pipe d).refreshReq with
  | some r => s.askRefresh d r
  | none => s)

/-- SINK_STATUS_TIMER (R214). -/
def execSinkStatusTimer (d : Fin 4) (s : State) : Res := .next (if s.dsMode d = 3 ∧ s.oddOfPair d = false then s.sendSinkStatus d else s)

/-- COMMIT_TMO (R212): pending tiles with no FRAME_END commit at the next vertical blank, and REFRESH_REQ with REASON 3 follows. -/
def execCommitTmo (d : Fin 4) (s : State) : Res :=
  .next (if (s.pipe d).pending.isEmpty then s
  else s.gather d { frame := (s.pipe d).seen.getD 0, tmo := true })

/-! ### Scan-out (R215 to R220, R225) -/

/-- A raw pixel of a tile: the bits of pixel `x` of row `y`; in format 3 the bits of its pair. -/
def rawPixel (fmt w x y : Nat) (px : List Byte) : Nat :=
  let row := bytesAt px (y * rowBytes fmt w) (rowBytes fmt w)
  let v := ofBe row
  let total := 8 * rowBytes fmt w
  if fmt = 3 then bitsOf v (total - 40 * (x / 2 + 1)) 40 else bitsOf v (total - fmtBits fmt * (x + 1)) (fmtBits fmt)

/-- The colour of DS_MUTE in format 0: R, G, B. -/
def State.muteColour (s : State) (d : Nat) : Nat :=
  s.rd (DS_MUTE.R d) * 2 ^ 20 + s.rd (DS_MUTE.G d) * 2 ^ 10 + s.rd (DS_MUTE.B d)

/-- The pixel a scanned-out frame shows at (x, y), in format 0 (R215), but for a line that an underrun cut short (R217). `x0`: the first column of this pipe's
half (R216). -/
def State.shownPixel (s : State) (d x0 x y : Nat) : Nat :=
  let p := s.pipe (s.pairBase d)
  match p.format with
  | none => s.muteColour d
  | some f =>
    let cut := (s.pipe d).late.any fun l => decide (l.1 = y ∧ l.2 ≤ x)
    let x := x0 + x
    let tx := x / 64
    let ty := y / 64
    let t := ty * tilesX f + tx
    if cut ∨ f.mute ∨ p.muteFrame ∨ ¬ s.mcReady ∨ f.width ≤ x ∨ f.height ≤ y ∨ ¬ p.valid.contains t then s.muteColour d
    else if ¬ s.dmaMayRead (s.tileAddr d t (Tab.get 0 p.live t)) (tileBytes f tx ty) then (Config.freeWord s.free).toNat % 2 ^ 30
    else
      let px := s.frameBytes (s.tileAddr d t (Tab.get 0 p.live t)) (tileBytes f tx ty)
      let raw := rawPixel f.fmt (tileW f tx) (x % 64) (y % 64) px
      if f.fmt = 0 then raw else Config.pixelTo30 f.fmt raw (decide (x % 2 = 1))

/-- Pixels of 30 bits packed into bytes, most significant bit first, the last byte filled with zeros. -/
def packLine (l : List Nat) : List Byte :=
  let bits := 30 * l.length
  let n := (bits + 7) / 8
  be n (l.foldl (fun v p => v * 2 ^ 30 + p) 0 * 2 ^ (8 * n - bits))

/-- Columns and lines of the panel of pipe `d` (R215, R216): its timing, in RELAY mode the source's own (R219). -/
def State.panelSize (s : State) (d : Nat) : Nat × Nat :=
  let e := s.pairBase d
  match s.dsMode e, (s.pipe e).format with
  | 4, some f => (f.width, f.height)
  | _, _ => (s.rd (DS_TIMING_H.ACTIVE e), s.rd (DS_TIMING_V.ACTIVE e))

/-- The signature of the frame a pipe scans out (R202): of its half, for a pipe of a pair (R216). -/
def State.frameSig (s : State) (d : Nat) : Nat :=
  let e := s.pairBase d
  let size := s.panelSize d
  let w := if s.on (DS_CFG.PAIR e) then size.1 / 2 else size.1
  let x0 := if d ≠ e then w else 0
  Nat.xor ((List.range size.2).foldl (fun c y =>
    (packLine ((List.range w).map fun x => s.shownPixel d x0 x y)).foldl crcCByte c) 0xFFFFFFFF) 0xFFFFFFFF

/-- The tiles a frame shows on a pipe are read from frame memory, through gate 25 (R228, R383). -/
def State.scanRead (s : State) (d : Nat) : State :=
  let p := s.pipe (s.pairBase d)
  match p.format with
  | none => s
  | some f =>
    if f.mute ∨ p.muteFrame ∨ ¬ s.mcReady then s
    else s.eachIn (p.valid.filter (s.onHalf d f)) fun t u =>
      let n := tileBytes f (t % tilesX f) (t / tilesX f)
      (u.dmaRead d (u.tileAddr d t (Tab.get 0 p.live t)) n).2.countRd n

/-- One pipe starts a frame (R219, R220): the frame's signature, the freeze detector, the count of frames without a commit. -/
def State.scanPipe (s : State) (d : Nat) : State :=
  if s.rd (DS_STAT.STATE d) < 2 ∨ ¬ (s.dsMode d = 3 ∨ s.dsMode d = 4) then s else
    let s := s.modPipe d fun y => { y with late := [] }
    let x := s.pipe d
    let sig := s.frameSig d
    let suspect := x.damage && decide (sig = s.rd (DS_SIG.SIG d))
    let run := if suspect then x.suspects + 1 else if x.committed then 0 else x.suspects
    let s := (s.scanRead d).wr (DS_SIG.SIG d) sig
    let quiet := if x.committed then 0 else x.quietFrames + 1
    let frozen := suspect && decide (s.rd (DS_LOWREF.K d) ≤ run)
    let s := s.modPipe d fun y => { y with
      suspects := if frozen then 0 else run, quietFrames := quiet, committed := false, damage := false, blank := none }
    if frozen then (s.raise (Ev.DS_FREEZE d)).sendSinkStatus (s.pairBase d) else s

/-- SCANOUT_FRAME_START (R216, R219, R220): every pipe of the panel starts its frame, on the timing of the even pipe of a pair. -/
def State.scanFrame (s : State) (d : Nat) : State :=
  if s.oddOfPair d then s else (s.eachIn (s.panelPipes d) fun k t => t.scanPipe k).modPipe d fun y => { y with muteFrame := false }

def execScanoutFrameStart (d : Fin 4) (s : State) : Res := .next (s.scanFrame d)

/-- The blank of a panel begins or goes on, stretched or not (R216, R219). -/
def State.setBlank (s : State) (d lines : Nat) (stretched : Bool) : State :=
  s.eachIn (s.panelPipes d) fun k t => t.modPipe k fun y => { y with blank := some (lines, stretched), blankAt := t.uptime }

/-- A panel's blank stretches after N frames without a commit (R219). -/
def State.stretch (s : State) (d lines : Nat) : State :=
  if s.dsMode d = 3 ∧ s.on (DS_CFG.LOWREF_EN d) ∧ (s.pipe d).adaptive ∧ s.rd (DS_LOWREF.N d) ≤ (s.pipe d).quietFrames then
    let was := s.on (DS_STAT.LOW d)
    let s := (s.setBlank d lines true).eachIn (s.panelPipes d) fun k t => t.wr (DS_STAT.LOW k) 1
    if was then s else s.sendSinkStatus d
  else s

/-- VBLANK_START (R212, R219): a commit that waits takes place; after N frames without one the blank stretches. `lines`: lines of the blank. -/
def State.vblank (s : State) (d lines : Nat) : State :=
  if ¬ (s.dsMode d = 3 ∨ s.dsMode d = 4) ∨ s.oddOfPair d then s else
    let s := s.setBlank d lines false
    (match (s.pipe d).commit with
      | some c => s.commitTiles d c
      | none => s).stretch d lines

def execVblankStart (d : Fin 4) (lines : Fin 65536) (s : State) : Res := .next (s.vblank d lines)

/-- STRETCH_END (R219): the next frame starts; the stretch repeats until a commit. -/
def execStretchEnd (d : Fin 4) (s : State) : Res :=
  .next (if ((s.pipe d).blank.map Prod.snd).getD false then s.scanFrame d else s)

/-- UNDERRUN (R217): line `y` shows DS_MUTE from column `x` on, and its frame has the signature of what is sent (R202). -/
def State.underrun (s : State) (d y x : Nat) : State :=
  let s := s.modPipe d fun p => { p with late := p.late ++ [(y, x)] }
  (s.wr (DS_SIG.SIG d) (s.frameSig d)).raise (Ev.DS_UNDERRUN d)

def execUnderrun (u : RunDry) (s : State) : Res := .next (if s.rd (DS_STAT.STATE u.pipe) = 3 then s.underrun u.pipe u.line u.col else s)

/-- The DisplayPort link of a pipe is down. -/
def State.dpDown (s : State) (d : Nat) : State :=
  ((((s.wr (DS_STAT.STATE d) 1).wr (DS_STAT.RATE d) 0).wr (DS_STAT.LANES d) 0).wr (DS_STAT.DSC d) 0).modPipe d fun x => { x with trained := false }

/-- DP_LOSS (R217): the panel's HPD dropped; tiles keep committing. -/
def execDpLoss (d : Fin 4) (s : State) : Res :=
  .next (if s.dsMode d = 3 ∨ s.dsMode d = 4 then
    ((((s.dpDown d).wr (DS_STAT.HPD d) 0).wr (DS_STAT.LOW d) 0).wr (DS_STAT.HDCP_AUTH d) 0 |>.raise (Ev.DS_DP_LOSS d)).sendSinkStatus d
  else s)

/-- The EDID blocks of the panel go to the source (R214). -/
def State.sendEdid (s : State) (d : Nat) : State :=
  let bl := (s.pipe d).panelEdid
  (List.range bl.length).foldl (fun t i => t.dispSend d (be 1 0x11 ++ be 1 i ++ be 1 bl.length ++ be 1 0 ++ (bl.getD i []).take 128)) s

/-- HPD_RETURN (R217): HPD is back with the panel's EDID, told to the source when it is another; the link trains again. -/
def execHpdReturn (d : Fin 4) (edid : List (List Byte)) (s : State) : Res :=
  .next (if s.dsMode d = 3 ∨ s.dsMode d = 4 then
    let was := (s.pipe d).panelEdid
    let s := ((s.wr (DS_STAT.HPD d) 1).wr (DS_STAT.STATE d) 1).modPipe d fun x => { x with panelEdid := edid, quietFrames := 0 }
    (if was = edid then s else s.sendEdid d).send (.bus 3 d 2 [])
  else s)

/-- Payload of a trained link in kbit/s (R199). -/
def dpPayload (rate lanes : Nat) : Nat :=
  (match rate with
    | 1 => 5180000 | 2 => 8640000 | 3 => 17280000 | 4 => 25920000 | 5 => 38790000 | 6 => 52360000 | 7 => 77580000 | _ => 0) * lanes / 4

/-- The rate a pipe sends, in 1/16 bit per pixel, over a link trained at `rate` on `lanes` (R199, R218); a pipe of a pair sends half the pixels (R216): 30 bits per
pixel, or with DSC the rate of DS_DSC.BPP, where 0 takes the highest that the panel supports and the link fits. None when it does not fit. -/
def State.dpRate (s : State) (d rate lanes : Nat) : Option Nat :=
  let khz := s.rd (DS_PCLK.KHZ (s.pairBase d))
  let room := 97 * 16 * dpPayload rate lanes * (if s.on (DS_CFG.PAIR (s.pairBase d)) then 2 else 1)
  let fits := fun b => if khz * b * 100 ≤ room then some b else none
  if (s.pipe d).dscMax ≠ 0 ∧ s.on (DS_DSC.ENC d) then
    if s.rd (DS_DSC.BPP d) ≠ 0 then fits (s.rd (DS_DSC.BPP d))
    else
      let b := min 384 (min (s.pipe d).dscMax (room / (max 1 khz * 100)))
      if 128 ≤ b then some b else none
  else fits 480

/-- The pipe's mode is judged against its trained link (R199): it scans out, or sends nothing with STATE 1 until a mode that fits. -/
def State.judgeMode (s : State) (d : Nat) : State :=
  match s.dpRate d (s.rd (DS_STAT.RATE d)) (s.rd (DS_STAT.LANES d)) with
  | some b =>
    if (s.pipe d).trained then s.modPipe d fun x => { x with outRate := b }
    else (s.modPipe d fun x => { x with trained := true, outRate := b }).wr (DS_STAT.STATE d) (s.shownState d)
  | none => ((s.modPipe d fun x => { x with trained := false, outRate := 0 }).wr (DS_STAT.STATE d) 1).raise (Ev.DS_MODE_FAIL d)

/-- DP_LINK_TRAINED (R199, R215, R217, R218, R229): the link of a pipe has trained at `rate` on `lanes`; `dscMax` (0: no DSC), `adaptive`, `minRate`: what the
panel reports. A capture pipe's own receiver shows it muted while the frame memory is out of service. -/
def State.dpTrained (s : State) (d rate lanes dscMax : Nat) (adaptive : Bool) (minRate : Nat) : State :=
  let s := (s.wr (DS_STAT.RATE d) rate).wr (DS_STAT.LANES d) lanes
  if s.dsMode d = 3 ∨ s.dsMode d = 4 then
    let s := s.modPipe d fun x => { x with adaptive := adaptive, panelMin := minRate, dscMax := dscMax, trained := false }
    let s := (s.wr (DS_STAT.DSC d) (decide (dscMax ≠ 0) && s.on (DS_DSC.ENC d)).toNat).wr (DS_STAT.HPD d) 1
    let s := s.judgeMode d
    if (s.pipe d).trained then s.sendSinkStatus (s.pairBase d) else s
  else if s.dsMode d = 1 then s.wr (DS_STAT.STATE d) (if s.mcReady then 3 else 4)
  else s

def execDpLinkTrained (d : Fin 4) (rate : Fin 8) (lanes : Fin 5) (dscMax : Fin 385) (adaptive : Bool) (minRate : Fin 65536) (s : State) : Res :=
  .next (if s.underTest 16 d then s else s.dpTrained d rate lanes dscMax adaptive minRate)

/-- RELAY_INPUT_FRAME (R225): the lines go to the frame store and out, RELAY_LINES behind the input; they are no tiles of R220. A compressed input is decoded (R218). -/
def execRelayInputFrame (d : Fin 4) (f : DispFormat) (tiles : List (List Byte)) (s : State) : Res :=
  .next (if s.dsMode d = 4 ∧ s.mcReady ∧ formatOk f then
    let s := s.storeFrame d 0 tiles
    let s := s.modPipe d fun x => { x with format := some f, live := [], valid := List.range tiles.length }
    let s := if f.comp then s.wr (DS_STAT.DSC d) 1 else s
    let s := (s.send (.bus 3 d 3 (be 1 (s.rd (DS_TILE_CFG.RELAY_LINES d))))).wrapAdd (DS_FRAME.FRAME d) 1
    if (s.pipe d).trained then s.wr (DS_STAT.STATE d) 3 else s
  else s)

/-- RELAY_INPUT_STOP (R225): DS_MUTE at the last timing. -/
def execRelayInputStop (d : Fin 4) (s : State) : Res :=
  .next (if s.dsMode d = 4 then
    let s := s.modPipe d fun x => { x with format := x.format.map fun f => { f with mute := true } }
    (if s.rd (DS_STAT.STATE d) = 3 then s.wr (DS_STAT.STATE d) 4 else s).raise (Ev.DS_DP_LOSS d)
  else s)

/-- HDCP_SESSION_AUTH (R203, R221, R223): a session with the panel, whose topology a SCANOUT pipe sends to the source in HDCP_TOPO; or with the source
(`src`), which takes the ReceiverID_List. -/
def State.hdcpAuth (s : State) (d : Nat) (src legacy type1 : Bool) (topo : List Byte) : State :=
  if ¬ s.on (DS_CFG.HDCP_EN d) then s else
    let s := s.wr (DS_STAT.HDCP_AUTH d) 1
    if src then
      (s.modPipe d fun x => { x with src := { x.src with type1 := type1 } }).send (.bus 3 d 1 (s.pipe d).topo)
    else
      let s := s.modPipe d fun x => { x with legacy := legacy, topo := topo }
      let s := if s.dsMode d = 3 then s.dispSend d (be 1 0x13 ++ topo) else s
      s.sendSinkStatus d

def execHdcpSessionAuth (d : Fin 4) (src legacy type1 : Bool) (depth count : Fin 256) (excess : Fin 4) (ids : List Byte) (s : State) : Res :=
  .next (s.hdcpAuth d src legacy type1 (be 1 depth ++ be 1 count ++ be 1 excess ++ ids.take 155))

/-! ### Memory controller and tunnel events (R208, R209, R214, R229) -/

/-- The sink's greeting when its tunnel opens (R214, R229): REFRESH_REQ with REASON 2 unless the frame memory is out of service, EDID blocks, SINK_STATUS. -/
def State.sinkOpen (s : State) (d : Nat) : State := ((if s.mcReady then s.askRefresh d 2 else s).sendEdid d).sendSinkStatus d

/-- A display tunnel opens (R208, R209, R214, R229). -/
def State.displayOpened (s : State) (a : Nat) : State :=
  let d := s.rd (TA_CFG0.INST a)
  match s.dsMode d with
  | 1 => if s.mcReady then (s.modPipe d fun x => { x with hold := false }).triggerRefresh d
         else (s.modPipe d fun x => { x with hold := false }).sendMute d
  | 3 => s.sinkOpen d
  | _ => s

/-- A display tunnel closes (R209): HPD of a capture pipe stays high for 2 s. -/
def State.displayClosed (s : State) (a : Nat) : State :=
  let d := s.rd (TA_CFG0.INST a)
  if s.dsMode d = 1 then s.modPipe d fun x => { x with hold := s.on (DS_STAT.HPD d) } else s.modPipe d fun x => { x with refreshReq := none }

/-- MC_READY (R229): training of the frame memory ends, `fail` the channels that failed; with every enabled channel trained READY rises and
each pipe resumes. -/
def execMcReady (fail : Fin 16) (s : State) : Res :=
  .next (
    let bad := Nat.land fail.val (s.rd MC_CFG.CH_EN)
    let s := s.wr MC_STAT.CH_FAIL bad
    if bad ≠ 0 ∨ s.mcReady then s else
      (s.wr MC_STAT.READY 1).each 4 fun d t =>
        let t := if t.rd (DS_STAT.STATE d) = 4 then t.wr (DS_STAT.STATE d) (if t.dsMode d = 1 ∨ t.dsMode d = 2 then 3 else t.shownState d) else t
        match t.dsMode d with
        | 1 => if (t.pipe d).edid.isEmpty then t else t.setHpd d 1
        | 3 =>
          match t.pipeAdapter d with
          | some a => if t.tunnelOpen a then t.askRefresh d 2 else t
          | none => t
        | _ => t)

end Sys2Proof.Machine
end

