-- ==== Sys2Proof/Machine/LinkCtl.lean ====
section
/-!
DEFINITION. Sending link control messages (R79, R80), links that carry link control only (R86), and what the ends of a link offer each other.
-/

namespace Sys2Proof.Machine

/-- The AUTH messages are not protected (R91). -/
def authType (t : Nat) : Bool := decide (0x10 ≤ t ∧ t ≤ 0x14)

/-- Queue a link control message at Q0 of port `p` (R79, R151): TYPE, MSEQ, BODY_LEN, and its body from byte 4. -/
def State.sendCtl (s : State) (p type : Nat) (body : List Byte) : State :=
  if s.linkIsUp p then
    let raw := [BitVec.ofNat 8 type, BitVec.ofNat 8 (s.link p).mseqTx] ++ be 2 body.length ++ body
    let s := s.send (.link p type body)
    let s := s.modLink p fun l => { l with mseqTx := (l.mseqTx + 1) % 256 }
    s.modSched p fun x => { x with ctl := x.ctl ++ [{ raw := raw }] }
  else s

/-- VERS of VERSION_OFFER and ENUM_REPLY (R80, R83): bit 2 version 2, bit 3 version 3. -/
def State.versBitmap (s : State) (p : Nat) : Nat := s.rd (CL_CTRL.VER_ALLOW p) * 4

/-- The hub is host-role: its image says so and it has not yielded (R1, R177). -/
def State.hostRole (s : State) : Bool := s.host && !s.dom.yielded

/-- ROLE as port `p` offers it (R80, R17). -/
def State.offeredRole (s : State) (p : Nat) : Nat := if s.peerPort p then 2 else if s.hostRole then 1 else 0

/-- The highest version that VER_ALLOW permits on any port (R191). -/
def State.ownVersion (s : State) : Nat := if (List.range 6).any (fun p => bitOf (s.rd (CL_CTRL.VER_ALLOW p)) 1) then 3 else 2

/-- The port carries link control only from now on (R86): packets queued to it go (R179, R146). Its failover is reported anew if it was usable. -/
def State.linkOnly (s : State) (p : Nat) : State :=
  let was := s.portUsable p
  ((s.wr (CL_STAT.LSTATE p) 6).modLink p fun l => { l with failover := !was && l.failover }).flush p

/-- The port carries tunnel traffic (R83, R86). -/
def State.linkOpen (s : State) (p : Nat) : State :=
  s.wr (CL_STAT.LSTATE p) 4

/-- A port that carries domain control messages (R86). -/
def State.domainPort (s : State) (p : Nat) : Bool := s.linkIsUp p && decide (s.lstate p = 4)

end Sys2Proof.Machine
end

