-- ==== Sys2Proof/Machine/Bridge.lean ====
section
/-!
DEFINITION. PCIe bridges, the register-bus bridge and the sideband mirror (R230 to R254). Which vDSP a TLP's routing names, and whether a
configuration request names a vDSP's secondary bus, follow from what the host wrote into the switch's configuration space: they are operands
(assumption row 20).
-/

namespace Sys2Proof.Machine

def State.modBrg (s : State) (f : BridgeSt → BridgeSt) : State := { s with brg := f s.brg }
def State.vdsp (s : State) (a : Nat) : VdspSt := Tab.get {} s.brg.vdsps a
def State.modVdsp (s : State) (a : Nat) (f : VdspSt → VdspSt) : State :=
  s.modBrg fun b => { b with vdsps := Tab.put {} b.vdsps a (f (Tab.get {} b.vdsps a)) }

/-- The adapter is a PCIe adapter. -/
def State.isPcie (s : State) (a : Nat) : Bool := decide (s.adpType a = 4 ∨ s.adpType a = 5)

/-- The PCIe adapters of bridge `b`. -/
def State.bridgeAdapters (s : State) (b : Nat) : List Nat := (List.range 256).filter fun a => s.isPcie a && decide (s.bridgeOf a = b)

/-! ### Errors (R242, R243) -/

/-- Report an error at a bridge: PB_ERR, the event with its own log entry, and at a bridge with a host the AER status of the vDSP. -/
def State.pbReport (s : State) (a cause status addr : Nat) (header : List Byte) (abort_ : Bool := false) : State :=
  let b := s.bridgeOf a
  let s := (((s.wr (PB_ERR_INFO.ADP b) a).wr (PB_ERR_INFO.CAUSE b) cause).wr (PB_ERR_INFO.STATUS b) status).wr (PB_ERR_INFO.VALID b) 1
  let s := s.wr64 (PB_ERR_ADDR_LO.VALUE b) (PB_ERR_ADDR_HI.VALUE b) addr
  let s := (s.wr (PB_ERR_TS_S.VALUE b) s.time.sec).wr (PB_ERR_TS_NS.VALUE b) s.time.ns
  let s := if s.adpType a = 4 then
      s.modVdsp a fun v => { v with
        internalErr := v.internalErr || !abort_, completerAbort := v.completerAbort || abort_, header := header }
    else s
  s.raiseWith (Ev.PB_FAR_ERR b) true
    [s.reg (PB_ERR_INFO b), s.reg (PB_ERR_ADDR_LO b), s.reg (PB_ERR_ADDR_HI b), s.reg (PB_ERR_TS_S b), s.reg (PB_ERR_TS_NS b)]

/-- A failure of a bridge's own: reported where there is a host, else sent to the peer as ERROR (R243). -/
def State.pbOwnError (s : State) (a cause status seq addr : Nat) (header : List Byte) (abort_ : Bool := false) : State :=
  if s.adpType a = 4 then s.pbReport a cause status addr header abort_ else s.sendPbError a cause status seq addr

/-- PB_ERROR_RECORD (R243): an ERROR of the peer is reported as AER, or logged in ROOT mode; the header is that of the TLP sent with its SEQ. -/
def State.pbErrorRecord (s : State) (a cause status seq addr : Nat) : State :=
  if s.isPcie a then s.pbReport a cause status addr (Tab.get [] (s.adp a).headers seq) else s

def execPbErrorRecord (a : Fin 256) (cause : Fin 16) (status : Fin 256) (seq : Fin 65536) (addr : BitVec 64) (s : State) : Res :=
  .next (s.pbErrorRecord a cause status seq addr.toNat)

/-! ### From the native link into the tunnel (R233, R234, R238, R239) -/

/-- The write window of an address (R238). -/
def State.pbWindow (s : State) (b addr : Nat) : Option Nat :=
  (List.range 8).find? fun w =>
    s.on (PB_WIN_CTL.EN b w) &&
    decide (s.rd (PB_WIN_BASE.ADDR b w) + 2 ^ 32 * s.rd (PB_WIN_BASEH.ADDRH b w) ≤ addr / 2 ^ 20 ∧
      addr / 2 ^ 20 ≤ s.rd (PB_WIN_LIMIT.ADDR b w) + 2 ^ 32 * s.rd (PB_WIN_LIMITH.ADDRH b w))

/-- A configuration request for the secondary bus leaves as Type 0 (R233). -/
def cfgType0 (t : List Byte) : List Byte := if tlpType t = 5 then BitVec.ofNat 8 (byteAt t 0 - 1) :: t.drop 1 else t

/-- TLPs of the native link that adapter `a` has credit for (R237): what its home queue can take beside the units it has accepted. -/
def State.pcieCredit (s : State) (a : Nat) : Nat :=
  64 - ((s.eng (s.home a)).queue.length + (s.eng (s.home a)).moving.elim 0 List.length + (s.adp a).accepted.length)

/-- A request that the closed tunnel, or a far link that is not up, cannot take (R233, R242, R517): UR for a non-posted one, else dropped. -/
def State.refuseTlp (s : State) (a : Nat) (t : List Byte) : State := if tlpNonPosted t then s.nativeTlp a (tlpCpl 1 (tlpTag t)) else s

/-- A TLP of the native link for adapter `a`; `secondary`: it names the vDSP's secondary bus. Without credit the link partner keeps it (R237). -/
def State.fromNative (s : State) (a : Nat) (t : List Byte) (secondary : Bool) : State :=
  let t := if secondary then cfgType0 t else t
  if ¬ s.tunnelOpen a ∨ (s.adpType a = 4 ∧ ¬ (s.vdsp a).up ∧ ¬ tlpIsCpl t) then s.refuseTlp a t
  else if s.pcieCredit a = 0 then s
  else
    let b := s.bridgeOf a
    let w := if tlpIsMemWrite t then s.pbWindow b (tlpAddr t) else none
    let conf := match w with
      | some w => s.on (PB_WIN_CTL.CONF b w)
      | none => false
    s.present a (pbRecord 0 (w.getD 15) t) conf

/-- NATIVE_UNIT_DISPATCH (R517, R123, R113, R108): the local block presents a unit, if one is given, and the adapter dispatches its oldest. On a
PCIe adapter the unit is a TLP of the native link. -/
def execNativeUnitDispatch (a : Fin 256) (unit : Option (List Byte)) (secondary : Bool) (s : State) : Res :=
  .next (match unit with
  | none => s.dispatch a
  | some u => (if s.isPcie a then s.fromNative a u secondary else s.present a u).dispatch a)

/-! ### From the tunnel to the native link (R233 to R236, R240, R242) -/

/-- LINK_STATE of a ROOT bridge (R236). -/
def State.sendLinkState (s : State) (b : Nat) : State :=
  if s.pbMode b ≠ 1 then s else
    s.eachIn (s.bridgeAdapters b) fun a t =>
      t.present a (pbRecord 1 15 (be 1 (t.rd (PB_STAT.LINK_UP b)) ++ be 1 (t.rd (PB_STAT.SPEED b)) ++ be 1 (t.rd (PB_STAT.WIDTH b)) ++ be 1 0))

/-- The vDSP of adapter `a` signals hot-plug events to its host when it is hot-plug capable (R232, R236). -/
def State.vdspMsi (s : State) (a : Nat) : State :=
  let b := s.bridgeOf a
  match ((List.range 32).drop 1).find? fun v => decide (s.rd (PB_VDSP.ADP b v) = a) with
  | some v => if s.on (PB_VDSP.HP b v) then s.send (.bus 0 b 4 (be 1 v)) else s
  | none => s

/-- LINK_STATE at the vDSP (R236): content that differs from the last updates it. -/
def State.linkState (s : State) (a : Nat) (up : Bool) (speed width : Nat) : State :=
  if s.adpType a ≠ 4 then s else
    let v := s.vdsp a
    let s := s.modVdsp a fun x => { x with up := up, speed := speed, width := width }
    if v.up = up then s
    else
      let s := s.modVdsp a fun x => { x with presence := true, linkChange := true, surprise := x.surprise || !up }
      (if up then s else s.raise (Ev.PB_SURPRISE_DOWN (s.bridgeOf a))).vdspMsi a

def execLinkState (a : Fin 256) (up : Bool) (speed : Fin 8) (width : Fin 16) (s : State) : Res := .next (s.linkState a up speed width)

/-- LINK_STATE_TIMER (R236): every 100 ms. -/
def execLinkStateTimer (b : Fin 2) (s : State) : Res := .next (s.sendLinkState b)

/-- RESET at a ROOT bridge (R235): 0 hot reset, 1 assert PERST#, 2 release it. -/
def State.resetRecord (s : State) (a kind : Nat) : State :=
  let b := s.bridgeOf a
  if s.adpType a ≠ 5 then s
  else if kind = 0 then s.send (.bus 0 b 3 [])
  else if kind = 1 then (s.modBrg fun x => { x with perst := x.perst.filter (· ≠ b) }).send (.pin 3 b 0)
  else if kind = 2 then (s.modBrg fun x => { x with perst := x.perst.filter (· ≠ b) ++ [b] }).send (.pin 3 b 1)
  else s

def execResetRecord (a : Fin 256) (kind : Fin 4) (s : State) : Res := .next (s.resetRecord a kind)

/-- A TLP from the tunnel goes to the native link (R234, R240, R242). -/
def State.toNative (s : State) (a : Nat) (t : List Byte) (seq : Nat) (ackreq : Bool) : State :=
  let b := s.bridgeOf a
  if s.on (PB_STAT.LINK_UP b) then
    let s := (s.nativeTlp a t).modAdp a fun x => { x with
      owed := if tlpNonPosted t then x.owed ++ [t] else x.owed, acks := if ackreq then x.acks ++ [seq] else x.acks }
    if tlpIsCpl t && cplFinal t then s.requestDone a (cplTag t) else s
  else if ackreq then s.sendConfirm a seq 0xA
  else if tlpNonPosted t then s.present a (pbRecord 0 15 (tlpCpl 1 (tlpTag t)))
  else if tlpIsCpl t then s
  else s.sendPbError a 3 0 seq (if tlpIsMem t then tlpAddr t else 0)

/-- A TLP whose routing names another vDSP passes between the two tunnels (R233). -/
def State.toPeer (s : State) (a c : Nat) (t : List Byte) (seq : Nat) (ackreq : Bool) : State :=
  let s := if ackreq then s.sendConfirm a seq 0 else s
  let s := if tlpIsCpl t && cplFinal t then s.requestDone a (cplTag t) else s
  if (s.vdsp c).up ∧ s.tunnelOpen c then
    (if tlpNonPosted t then s.modAdp c fun x => { x with p2p := x.p2p ++ [(tlpTag t, a)] } else s).present c (pbRecord 0 15 t)
  else if tlpNonPosted t then s.present a (pbRecord 0 15 (tlpCpl 1 (tlpTag t))) else s

/-- TLP_RECORD (R233, R235): a bridge record of a tunnel packet of SEQ `seq`; `peer`: the adapter of the vDSP its routing names. -/
def State.tlpRecord (s : State) (a : Nat) (record : List Byte) (seq : Nat) (ackreq : Bool) (peer : Option Nat) : State :=
  if ¬ s.isPcie a then s else
    let t := record.drop 4
    match byteAt record 0 / 16 with
    | 0 => match peer with
      | some c => if c ≠ a ∧ s.adpType a = 4 ∧ s.adpType c = 4 then s.toPeer a c t seq ackreq else s.toNative a t seq ackreq
      | none => s.toNative a t seq ackreq
    | 1 => s.linkState a (bitOf (byteAt record 4) 0) (byteAt record 5) (byteAt record 6)
    | 2 => s.resetRecord a (byteAt record 4)
    | 3 => s.pbErrorRecord a (byteAt record 4) (byteAt record 5) (beAt record 6 2) (beAt record 8 8)
    | _ => s.raiseWith (Ev.PB_FAR_ERR (s.bridgeOf a)) true []

def execTlpRecord (a : Fin 256) (record : List Byte) (seq : Fin 65536) (ackreq : Bool) (peer : Option (Fin 256)) (s : State) : Res :=
  .next (s.tlpRecord a record seq ackreq (peer.map Fin.val))

/-- PCIE_ACK (R240): the Ack DLLP of a confirmed TLP. -/
def execPcieAck (a : Fin 256) (seq : Fin 65536) (s : State) : Res :=
  .next (if (s.adp a).acks.contains seq.val then
    (s.modAdp a fun x => { x with acks := x.acks.erase seq.val }).sendConfirm a seq 0
  else s)

/-- The native link of bridge `b` changes (R236, R240, R242); going down ends what waited for it. -/
def State.pcieLinkChange (s : State) (b : Nat) (up : Bool) (speed width : Nat) : State :=
  if s.rd (PB_CFG.MODE b) = 0 ∨ (b = 1 ∧ s.pbMode b = 3) then s else
    let was := s.on (PB_STAT.LINK_UP b)
    let s := ((s.wr (PB_STAT.LINK_UP b) up.toNat).wr (PB_STAT.SPEED b) (if up then speed else 0)).wr (PB_STAT.WIDTH b) (if up then width else 0)
    let s := if was && !up then s.eachIn (s.bridgeAdapters b) fun a t =>
        let x := t.adp a
        let t := t.modAdp a fun y => { y with owed := [], acks := [] }
        let t := t.eachIn x.owed fun r u => u.present a (pbRecord 0 15 (tlpCpl 1 (tlpTag r)))
        t.eachIn x.acks fun q u => u.sendConfirm a q 0xA
      else s
    s.sendLinkState b

/-- PCIE_LINK_CHANGE: not of a bridge under self-test, whose link trains again afterwards (R450, R460). -/
def execPcieLinkChange (b : Fin 2) (up : Bool) (speed : Fin 8) (width : Fin 16) (s : State) : Res :=
  .next (if s.underTest 17 b then s else s.pcieLinkChange b up speed width)

/-- POWER_CONTROLLER_CONTROL (R236): off asserts the far PERST#, on releases it. -/
def execPowerControllerControl (a : Fin 256) (off : Bool) (s : State) : Res :=
  .next (if s.adpType a = 4 then
    (s.modVdsp a fun v => { v with powerOff := off }).present a (pbRecord 2 15 (be 1 (if off then 1 else 2) ++ be 3 0))
  else s)

/-- SECONDARY_BUS_RESET (R236). -/
def execSecondaryBusReset (a : Fin 256) (s : State) : Res :=
  .next (if s.adpType a = 4 then s.present a (pbRecord 2 15 (be 4 0)) else s)

/-- PERST_RELEASE (R234): 100 ms after the supplies are valid. -/
def execPerstRelease (b : Fin 2) (s : State) : Res :=
  .next (if s.pbMode b = 1 then (s.modBrg fun x => { x with perst := x.perst.filter (· ≠ b.val) ++ [b.val] }).send (.pin 3 b 1) else s)

/-- CPL_TIMEOUT (R242): the oldest request of adapter `a` has not completed; its requester gets CA. -/
def State.cplTimeout (s : State) (a : Nat) : State :=
  match (s.adp a).open_ with
  | [] => s
  | r :: rest =>
    let s := s.modAdp a fun x => { x with open_ := rest }
    let s := (s.answerRequest a 4 (tlpTag r)).raise (Ev.PB_CPL_TMO (s.bridgeOf a))
    let s := s.modAdp a fun x => { x with p2p := x.p2p.filter fun q => decide (q.1 ≠ tlpTag r) }
    s.pbOwnError a 5 4 0 (if tlpIsMem r then tlpAddr r else 0) (r.take (tlpHdr r)) true

def execCplTimeout (a : Fin 256) (s : State) : Res := .next (s.cplTimeout a)

/-! ### Register bus (R244 to R246) -/

def State.setRbOut (s : State) (l : List RbReq) : State := (s.modBrg fun b => { b with rbOut := l }).wr SB_RB_STAT.OUTSTANDING l.length

/-- An I2C transaction leaves on RBSCL and RBSDA (R244). -/
def State.i2cStart (s : State) (r : RbReq) : State :=
  let n := s.rd SB_RB_CFG.OFS_BYTES
  (s.wr SB_RB_STAT.BUSY 1).send (.bus 5 0 (if r.read then 0 else 1)
    (be 1 (r.addr / 2 ^ 24 % 128) ++ be n (r.addr % 2 ^ 16) ++ (if r.read then be 1 r.size else r.data)))

/-- Queue a request for this hub's controller; one runs at a time, in order of arrival. -/
def State.i2cQueue (s : State) (r : RbReq) : State :=
  let first := s.brg.i2c.isEmpty
  let s := s.modBrg fun b => { b with i2c := b.i2c ++ [r] }
  if first then s.i2cStart r else s

/-- SIZE and ADDR in range (R244, R245). -/
def rbValid (size addr : Nat) : Bool := decide (1 ≤ size ∧ size ≤ 32 ∧ addr < 2 ^ 31 ∧ addr / 2 ^ 16 % 256 = 0)

/-- Answer of the target bridge for a request (R245, R246). -/
def State.rbAnswer (s : State) (r : RbReq) (status : Nat) (data : List Byte) : State :=
  if r.read then
    s.present r.adp (be 1 0x81 ++ be 1 r.tag ++ be 1 r.size ++ be 1 status ++ be 4 0 ++ (if status = 0 then data.take r.size else []))
  else if r.conf.isSome then s.sendConfirm r.adp r.seq status
  else if status = 0 then s
  else s.present r.adp (be 1 0x83 ++ be 1 r.tag ++ be 1 0 ++ be 1 status ++ be 4 r.addr)

/-- READ_RECORD (R245). -/
def execReadRecord (a : Fin 256) (tag size : Fin 256) (addr : BitVec 32) (s : State) : Res :=
  let r : RbReq := { adp := a, tag := tag, read := true, size := size, addr := addr.toNat, data := [], mine := false }
  .next (if s.adpType a ≠ 10 then s else if rbValid size addr.toNat then s.i2cQueue r else s.rbAnswer r 3 [])

/-- WRITE_RECORD (R245, R246): `ackreq` asks for a CONFIRM of SEQ `seq`. -/
def execWriteRecord (a : Fin 256) (tag : Fin 256) (addr : BitVec 32) (data : List Byte) (seq : Fin 65536) (ackreq : Bool) (s : State) : Res :=
  let r : RbReq := { adp := a, tag := tag, read := false, size := data.length, addr := addr.toNat, data := data, mine := false
                     conf := if ackreq then some 15 else none, seq := seq }
  .next (if s.adpType a ≠ 10 then s else if rbValid data.length addr.toNat then s.i2cQueue r else s.rbAnswer r 3 [])

/-- The response data of a register-bus command (R444). -/
def rbData (read : Bool) (status : Nat) (data : List Byte) : List Byte :=
  if read then be 1 status ++ be 3 0 ++ (if status = 0 then data else []) else be 1 status

/-- Answer the command that waits for a request. -/
def State.rbFinish (s : State) (r : RbReq) (cmdStatus status : Nat) (data : List Byte) : State :=
  s.finish (fun w => decide (w = .regBus r.tag)) cmdStatus 0 (rbData r.read status data)

/-- What I2C_DONE does (R244, R245): the running transaction ends with a status; the next starts. -/
def State.i2cDone (s : State) (status : Nat) (data : List Byte) : State :=
  match s.brg.i2c with
  | [] => s
  | r :: rest =>
    let s := (s.modBrg fun b => { b with i2c := rest }).wr SB_RB_STAT.BUSY 0
    let s := if r.mine then (s.setRbOut (s.brg.rbOut.erase r)).rbFinish r stOk status (data.take r.size) else s.rbAnswer r status data
    match rest with
    | q :: _ => s.i2cStart q
    | [] => s

/-- A register-bus error (R246): its record, the event with an entry of its own. -/
def State.rbError (s : State) (a tag status addr : Nat) : State :=
  let s := (((s.wr SB_RB_ERR.STATUS status).wr SB_RB_ERR.TAG tag).wr SB_RB_ERR.ADP a).wr SB_RB_ERR.VALID 1
  let s := ((s.wr SB_RB_ERR_ADDR.VALUE addr).wr SB_RB_ERR_TS_S.VALUE s.time.sec).wr SB_RB_ERR_TS_NS.VALUE s.time.ns
  s.raiseWith Ev.SB_RB_FAR_ERR true [s.reg SB_RB_ERR, s.reg SB_RB_ERR_ADDR, s.reg SB_RB_ERR_TS_S, s.reg SB_RB_ERR_TS_NS]

/-- RB_ERROR_RECORD (R246): a posted-through write of this hub failed. -/
def execRbErrorRecord (a : Fin 256) (tag status : Fin 256) (addr : BitVec 32) (s : State) : Res :=
  .next (if s.adpType a = 10 then s.rbError a tag status addr.toNat else s)

/-- The request of this hub with a tag through an adapter. -/
def State.rbFind (s : State) (a tag : Nat) : Option RbReq := s.brg.rbOut.find? fun r => decide (r.adp = a ∧ r.tag = tag)

/-- What READ_RESP does (R245): a late response finds no request and is discarded. -/
def State.readResp (s : State) (a tag status : Nat) (data : List Byte) : State :=
  match s.rbFind a tag with
  | some r => if r.read then (s.setRbOut (s.brg.rbOut.erase r)).rbFinish r stOk status (data.take r.size) else s
  | none => s

/-- What RB_READ_TIMEOUT does (R246). -/
def State.rbReadTimeout (s : State) (tag : Nat) : State :=
  match s.brg.rbOut.find? fun r => decide (r.tag = tag) with
  | some r => if r.read then ((s.setRbOut (s.brg.rbOut.erase r)).raise Ev.SB_RB_TMO).rbFinish r stTimeout stTimeout [] else s
  | none => s

/-- The register-bus write window of an ADDR (R246). -/
def State.rbWindow (s : State) (addr : Nat) : Option Nat :=
  (List.range 8).find? fun w =>
    s.on (SB_RBWIN_CTL.EN w) && decide (s.rd (SB_RBWIN_BASE.ADDR w) ≤ addr ∧ addr ≤ s.rd (SB_RBWIN_LIMIT.ADDR w))

/-- What became of a request of this hub: refused for want of room, answered at once with a status byte, or waiting under a tag. -/
inductive RbStart where
  | full
  | done (status : Nat)
  | waits (tag : Nat)
deriving DecidableEq, Repr

/-- A request of this hub (R244, R246): on its own controller (`a` = 0) or through REGBUS adapter `a`; at most 16 outstanding. -/
def State.rbRequest (s : State) (a : Nat) (read : Bool) (size addr : Nat) (data : List Byte) : RbStart × State :=
  if ¬ rbValid size addr then (.done 3, s)
  else if 16 ≤ s.brg.rbOut.length then (.full, s)
  else
    let used := s.brg.rbOut.map RbReq.tag
    let tag := (((List.range 256).map fun i => (s.brg.nextTag + i) % 256).find? fun t => !used.contains t).getD 0
    let r : RbReq := { adp := a, tag := tag, read := read, size := size, addr := addr, data := data, mine := true }
    let s := s.modBrg fun b => { b with nextTag := (tag + 1) % 256 }
    if a = 0 then (.waits tag, (s.setRbOut (s.brg.rbOut ++ [r])).i2cQueue r)
    else if ¬ s.tunnelOpen a then (.done 0xA, s)
    else
      let w := if read then none else s.rbWindow addr
      let conf := match w with
        | some w => s.on (SB_RBWIN_CTL.CONF w)
        | none => false
      let rec_ := be 1 (if read then 1 else 2) ++ be 1 tag ++ be 1 size ++ be 1 (w.getD 15) ++ be 4 addr ++ data
      let s := (s.present a rec_ conf).dispatch a
      if read || conf then (.waits tag, s.setRbOut (s.brg.rbOut ++ [{ r with conf := if conf then w else none }])) else (.done 0, s)

/-! ### CONFIRM (R239 to R241, R246) -/

/-- The hold of a confirmed write ends with a status (R241, R246); `cmdStatus` answers a register-bus command. -/
def State.confirmed (s : State) (a w seq : Nat) (record : List Byte) (status cmdStatus : Nat) : State :=
  let s := s.modAdp a fun x => { x with conf := none }
  if s.adpType a = 10 then
    let tag := byteAt record 1
    let s := if status = 0 then s.satAdd (SB_RBWIN_CNT.CONFIRMED w) 1
      else (s.satAdd (SB_RBWIN_CNT.FAILED w) 1).rbError a tag status (beAt record 4 4)
    match s.rbFind a tag with
    | some r => (s.setRbOut (s.brg.rbOut.erase r)).rbFinish r cmdStatus status []
    | none => s
  else
    let b := s.bridgeOf a
    let t := record.drop 4
    if status = 0 then s.satAdd (PB_WIN_CNT.CONFIRMED b w) 1
    else ((s.satAdd (PB_WIN_CNT.FAILED b w) 1).raise (Ev.PB_CONF_FAIL b)).pbOwnError a 4 status seq (tlpAddr t) (t.take (tlpHdr t))

/-- What CONFIRM does: one for the held write ends the hold, any other is discarded (R107, R241). -/
def State.confirm (s : State) (a seq status : Nat) : State :=
  match (s.adp a).conf with
  | some (w, q, record) => if q = seq then s.confirmed a w q record status stOk else s
  | none => s

/-- What CONFIRM_TIMEOUT does (R241). -/
def State.confirmTimeout (s : State) (a : Nat) : State :=
  match (s.adp a).conf with
  | some (w, q, record) => s.confirmed a w q record stTimeout stTimeout
  | none => s

/-! ### Sideband (R247 to R251) -/

def State.group (s : State) (g : Nat) : GroupSt := Tab.get {} s.brg.groups g
def State.modGroup (s : State) (g : Nat) (f : GroupSt → GroupSt) : State :=
  s.modBrg fun b => { b with groups := Tab.put {} b.groups g (f (Tab.get {} b.groups g)) }

/-- Input `n` belongs to group `g`; output likewise. -/
def State.sbInput (s : State) (g n : Nat) : Bool := decide (s.rd (SB_SIG.DIR n) = 1 ∧ s.rd (SB_SIG.GROUP n) = g)
def State.sbOutput (s : State) (g n : Nat) : Bool := decide (s.rd (SB_SIG.DIR n) = 2 ∧ s.rd (SB_SIG.GROUP n) = g)

/-- VALUE and EDGES of a group now (R248). -/
def State.groupValue (s : State) (g : Nat) : Nat :=
  ((List.range 32).map fun n => if s.sbInput g n ∧ bitOf (s.rd SB_IN.VALUE) n then 2 ^ n else 0).sum
def State.groupEdges (s : State) (g : Nat) : List Nat :=
  (List.range 32).map fun n => if s.sbInput g n then Tab.get 0 s.brg.edges n else 0

/-- The bytes of an update record (R248): EDGES has signal 31 first. -/
def updateRecord (value : Nat) (edges : List Nat) (interval : Nat) : List Byte :=
  be 4 value ++ be 16 (edges.reverse.foldl (fun v e => v * 16 + e % 16) 0) ++ be 2 interval ++ be 2 0

/-- SIGNAL_ACCEPT (R247): input `n` has held a new level for FILT ticks. -/
def execSignalAccept (n : Fin 32) (level : Bool) (s : State) : Res :=
  .next (if s.rd (SB_SIG.DIR n) = 1 ∧ s.on (SB_IN.VALUE.bit n) ≠ level then
    let s := s.wr (SB_IN.VALUE.bit n) level.toNat
    let s := s.modBrg fun b => { b with edges := Tab.put 0 b.edges n ((Tab.get 0 b.edges n + 1) % 16) }
    s.modGroup (s.rd (SB_SIG.GROUP n)) fun x => { x with firstChange := some (x.firstChange.getD s.time.stamp) }
  else s)

/-- GROUP_UPDATE (R249): an update when one is due at the slower side's rate. -/
def State.groupUpdate (s : State) (g : Nat) : State :=
  let a := s.rd (SB_GRP.ADP g)
  let x := s.group g
  if a = 0 ∨ ¬ s.tunnelOpen a ∨ ¬ s.adpSends a then s
  else
    let value := s.groupValue g
    let edges := s.groupEdges g
    let changed := decide (value ≠ x.sentValue ∨ edges ≠ x.sentEdges)
    let interval := max (s.rd (SB_GRP.INTERVAL g)) (x.farInterval.getD 0)
    let due := match x.lastSend with
      | none => true
      | some t => if changed then decide (t + interval * 10000 ≤ s.uptime) else decide (t + 10000000 ≤ s.uptime)
    if due then
      let ts := if changed then x.firstChange.getD s.time.stamp else s.time.stamp
      let s := s.accept a { bytes := updateRecord value edges (s.rd (SB_GRP.INTERVAL g)), ts := ts }
      s.modGroup g fun y => { y with sentValue := value, sentEdges := edges, lastSend := some s.uptime, firstChange := none }
    else s

def execGroupUpdate (g : Fin 8) (s : State) : Res := .next (s.groupUpdate g)

/-- Drive output `n` to a level (R247): push-pull, or open-drain, where 1 releases the pin (shown as level 2). -/
def State.sbDrive (s : State) (n level : Nat) : State :=
  if s.rd (SB_OUT.VALUE.bit n) = level then s
  else (s.wr (SB_OUT.VALUE.bit n) level).send (.pin 2 n (if s.on (SB_SIG.OD n) ∧ level = 1 then 2 else level))

/-- Every output of a group goes to SAFE (R251). -/
def State.driveSafe (s : State) (g : Nat) : State :=
  s.each 32 fun n t => if t.sbOutput g n then t.sbDrive n (t.rd (SB_SIG.SAFE n)) else t

/-- Apply an update of full stamp `ts` (R247, R250); one older than the last applied is discarded. -/
def State.applyUpdate (s : State) (g ts value : Nat) (edges : List Nat) : State :=
  let last := (s.group g).applied
  let older := match last with
    | some (t, _, _) => decide (ts < t)
    | none => false
  if older then s else
    let lost := ((List.range 32).map fun n =>
      if s.sbOutput g n then
        let b := s.rd (SB_SIG.SRC_BIT n)
        let shown := if s.rd (SB_OUT.VALUE.bit n) ≠ (bitOf value b).toNat then 1 else 0
        match last with
        | some (_, _, e) => (edges.getD b 0 + 16 - e.getD b 0) % 16 - shown
        | none => 0
      else 0).sum
    let s := s.modGroup g fun y => { y with applied := some (ts, value, edges), stale := false }
    let s := s.each 32 fun n t => if t.sbOutput g n then t.sbDrive n (bitOf value (t.rd (SB_SIG.SRC_BIT n))).toNat else t
    if lost = 0 then s else (s.satAdd SB_LOST_EDGES.VALUE lost).raise Ev.SB_COLLAPSE

/-- UPDATE_RECEIVE (R250): at once, or at TS + DELAY; a timed update that comes after its time applies at once and counts as late. -/
def State.updateReceive (s : State) (g ts value : Nat) (edges : List Nat) (interval : Nat) : State :=
  let s := s.modGroup g fun y => { y with farInterval := some interval }
  let full := fullStamp ts s.time
  if s.on (SB_GRP.TIMED g) then
    let at_ := full + s.rd (SB_GRP.DELAY g) * 1000
    if at_ < s.time.toNs then (s.raise Ev.SB_LATE).applyUpdate g full value edges
    else s.modGroup g fun y => { y with
      waiting := y.waiting.filter (fun w => decide (w.2.1 ≤ full)) ++ [(at_, full, value, edges)] ++ y.waiting.filter (fun w => decide (full < w.2.1)) }
  else s.applyUpdate g full value edges

def execUpdateReceive (g : Fin 8) (ts : BitVec 34) (value : BitVec 32) (edges : List (Fin 16)) (interval : Fin 65536) (s : State) : Res :=
  .next (s.updateReceive g ts.toNat value.toNat (edges.map Fin.val) interval)

/-- TIMED_APPLY (R250): the first waiting update has reached its time. -/
def execTimedApply (g : Fin 8) (s : State) : Res :=
  .next (match (s.group g).waiting with
  | [] => s
  | w :: rest => (s.modGroup g fun y => { y with waiting := rest }).applyUpdate g w.2.1 w.2.2.1 w.2.2.2)

/-- STALE (R251): no update for 3 ms on the open tunnel of a group. -/
def execStale (g : Fin 8) (s : State) : Res :=
  .next (if s.rd (SB_GRP.ADP g) ≠ 0 ∧ s.tunnelOpen (s.rd (SB_GRP.ADP g)) then
    ((s.modGroup g fun y => { y with stale := true }).driveSafe g).raise Ev.SB_STALE
  else s)

/-! ### Tunnels opening and closing (R236, R242, R251, R252, R517) -/

/-- A PCIe tunnel closes: the hold is released as ABORTED, open and accepted requests end with UR, the vDSP sees its link down. -/
def State.pcieClosed (s : State) (a : Nat) : State :=
  let s := match (s.adp a).conf with
    | some (w, q, record) => s.confirmed a w q record 0xA stOk
    | none => s
  let x := s.adp a
  let unsent := (x.accepted.filter fun u => decide (byteAt u.bytes 0 / 16 = 0)).map fun u => u.bytes.drop 4
  let s := s.eachIn (x.open_ ++ unsent.filter tlpNonPosted) fun r t => t.answerRequest a 1 (tlpTag r)
  let s := s.modAdp a fun y => { y with open_ := [], owed := [], acks := [], p2p := [] }
  s.linkState a false (s.vdsp a).speed (s.vdsp a).width

/-- A register-bus tunnel closes: its requests are answered ABORTED. -/
def State.rbClosed (s : State) (a : Nat) : State :=
  let s := match (s.adp a).conf with
    | some (w, q, record) => s.confirmed a w q record 0xA stOk
    | none => s
  let gone := s.brg.rbOut.filter fun r => decide (r.adp = a)
  let s := s.setRbOut (s.brg.rbOut.filter fun r => decide (r.adp ≠ a))
  s.eachIn gone fun r t => t.rbFinish r stOk 0xA []

/-- The groups an adapter carries. -/
def State.groupsOf (s : State) (a : Nat) : List Nat := (List.range 8).filter fun g => decide (s.rd (SB_GRP.ADP g) = a)

/-- A sideband tunnel closes: its outputs go to SAFE, waiting updates are gone. -/
def State.sbClosed (s : State) (a : Nat) : State :=
  s.eachIn (s.groupsOf a) fun g t => (t.modGroup g fun y => { y with applied := none, waiting := [], farInterval := none, lastSend := none, stale := false }).driveSafe g

/-- A tunnel of a bridge opens: a ROOT bridge sends LINK_STATE. -/
def State.bridgeOpened (s : State) (a : Nat) : State := if s.adpType a = 5 then s.sendLinkState (s.bridgeOf a) else s

def State.bridgeClosed (s : State) (a : Nat) : State :=
  match s.adpType a with
  | 4 | 5 => s.pcieClosed a
  | 9 => s.sbClosed a
  | 10 => s.rbClosed a
  | _ => s

end Sys2Proof.Machine
end

