-- ==== Sys2Proof/Machine/UsbDesc.lean ====
section
/-!
DEFINITION. The USB descriptors the hubs and the management function give (R255, R267, R268). Where the spec gives a field, it stands here; the
layouts and the class bytes of a hub are those of the public USB specifications (assumption row 7), and a byte that neither gives is free.
-/

namespace Sys2Proof.Machine

/-- Who is asked: the USB 2.0 hub, the USB 3.2 hub, the management function. -/
inductive UsbDevice where
  | hub2 | hub3 | function
deriving DecidableEq, Repr

def usbDevice : Nat → UsbDevice
  | 0 => .hub2
  | 1 => .hub3
  | _ => .function

/-- A string descriptor in UTF-16, of characters below 128. -/
def usbString (l : List Nat) : List Byte := be 1 (2 + 2 * l.length) ++ be 1 3 ++ l.flatMap (le 2)

def asciiOf (t : String) : List Nat := t.toList.map Char.toNat

/-- Character of a hexadecimal digit, upper case. -/
def hexDigit (d : Nat) : Nat := if d < 10 then 48 + d else 55 + d

/-- Device descriptor: bcdUSB, class, subclass, protocol, largest packet of endpoint 0, vendor, product, string numbers (R255, R268). -/
def deviceDesc (usb cls sub proto mps vid pid mf pr sn : Nat) : List Byte :=
  be 1 18 ++ be 1 1 ++ le 2 usb ++ be 1 cls ++ be 1 sub ++ be 1 proto ++ be 1 mps ++ le 2 vid ++ le 2 pid ++ le 2 0x0300 ++ be 1 mf ++ be 1 pr ++
    be 1 sn ++ be 1 1

def endpointDesc (addr attr size interval : Nat) : List Byte := be 1 7 ++ be 1 5 ++ be 1 addr ++ be 1 attr ++ le 2 size ++ be 1 interval

/-- Configuration descriptor of the management function (R268). -/
def functionConfig : List Byte :=
  be 1 9 ++ be 1 2 ++ le 2 39 ++ be 1 1 ++ be 1 1 ++ be 1 0 ++ be 1 0xE0 ++ be 1 0 ++
    (be 1 9 ++ be 1 4 ++ be 1 0 ++ be 1 0 ++ be 1 3 ++ be 1 0xFF ++ be 1 0x43 ++ be 1 0x03 ++ be 1 0) ++
    endpointDesc 0x01 2 512 0 ++ endpointDesc 0x81 2 512 0 ++ endpointDesc 0x82 3 64 4

/-- USB 2.0 Extension: LPM, BESL supported, baseline 4 and deep 9 both valid (R267). -/
def lpmCapability : List Byte := be 1 7 ++ be 1 0x10 ++ be 1 2 ++ le 4 (2 + 4 + 8 + 16 + 4 * 2 ^ 8 + 9 * 2 ^ 12)

/-- SuperSpeed capability: U1 exit latency 10 us, U2 exit latency 200 us (R267). -/
def superSpeedCapability : List Byte := be 1 10 ++ be 1 0x10 ++ be 1 3 ++ be 1 0 ++ le 2 0x0E ++ be 1 1 ++ be 1 10 ++ le 2 200

def bosDesc (caps : List (List Byte)) : List Byte := be 1 5 ++ be 1 0xF ++ le 2 (5 + caps.flatten.length) ++ be 1 caps.length ++ caps.flatten

/-- Hub class descriptors (R255): 11 ports, wHubCharacteristics 0x000D, 20 ms to good power, ports 5 to 11 not removable. -/
def hubDesc2 : List Byte :=
  be 1 11 ++ be 1 0x29 ++ be 1 11 ++ le 2 0x000D ++ be 1 10 ++ [Config.usbOpen 0] ++ le 2 0x0FE0 ++ le 2 0xFFFF
def hubDesc3 : List Byte :=
  be 1 12 ++ be 1 0x2A ++ be 1 11 ++ le 2 0x000D ++ be 1 10 ++ [Config.usbOpen 1, Config.usbOpen 2, Config.usbOpen 3, Config.usbOpen 4] ++ le 2 0x0FE0

/-- Configuration descriptors of the hubs: one interface of the hub class with a status change endpoint; that of the USB 2.0 hub has alternate setting 0 for
single-TT and 1 for multi-TT (R255). -/
def hubConfig (body : List Byte) : List Byte :=
  be 1 9 ++ be 1 2 ++ le 2 (9 + body.length) ++ be 1 1 ++ be 1 1 ++ be 1 0 ++ [Config.usbOpen 5, Config.usbOpen 6] ++ body
def hubInterface (alt proto : Nat) : List Byte := be 1 9 ++ be 1 4 ++ be 1 0 ++ be 1 alt ++ be 1 1 ++ be 1 9 ++ be 1 0 ++ be 1 proto ++ be 1 0
def hubConfig2 : List Byte := hubConfig (hubInterface 0 1 ++ endpointDesc 0x81 3 2 12 ++ hubInterface 1 2 ++ endpointDesc 0x81 3 2 12)
def hubConfig3 : List Byte := hubConfig (hubInterface 0 0 ++ endpointDesc 0x81 0x13 2 8 ++ (be 1 6 ++ be 1 0x30 ++ be 2 0 ++ le 2 2))

/-- The descriptor of a type and index a device gives (R255, R267, R268); none: the request is answered STALL. -/
def State.usbDescriptor (s : State) (d : UsbDevice) (ty ix : Nat) : Option (List Byte) :=
  let vid := s.rd UH_ID.VID
  match d, ty with
  | .function, 1 => some (deviceDesc 0x0201 0 0 0 64 vid (s.rd UH_MID.PID) 1 2 3)
  | .hub2, 1 => some (deviceDesc 0x0201 9 0 2 64 vid (s.rd UH_ID.HUB_PID) 0 0 0)
  | .hub3, 1 => some (deviceDesc 0x0320 9 0 3 9 vid (s.rd UH_ID.HUB_PID) 0 0 0)
  | .function, 2 => some functionConfig
  | .hub2, 2 => some hubConfig2
  | .hub3, 2 => some hubConfig3
  | .function, 0xF => some (bosDesc [lpmCapability])
  | _, 0xF => some (bosDesc [lpmCapability, superSpeedCapability])
  | .hub2, 0x29 => some hubDesc2
  | .hub3, 0x2A => some hubDesc3
  | .function, 3 =>
    match ix with
    | 0 => some (usbString [0x0409])
    | 1 => some (usbString (asciiOf "Modrieth Microsystems"))
    | 2 => some (usbString (asciiOf "Colpalum CX860 Management"))
    | 3 => some (usbString ((List.range 16).map fun i => hexDigit (s.uid / 16 ^ (15 - i) % 16)))
    | _ => none
  | _, _ => none

end Sys2Proof.Machine
end

