-- ==== Sys2Proof/Machine/Usb.lean ====
section
/-!
DEFINITION. The USB hubs, their tunnels and the transaction proxy (R255 to R272). Commands of the management function are in
Machine/Command.lean. PIDs, the places of a descriptor's bytes and of an ITP's delta are those of the public USB specifications (assumption row 7).
-/

namespace Sys2Proof.Machine

def State.modUsb (s : State) (f : UsbSt → UsbSt) : State := { s with usb := f s.usb }

def pidAck : Nat := 0xD2
def pidNak : Nat := 0x5A
def TokenKind.pid : TokenKind → Nat
  | .setup => 0x2D
  | .out => 0xE1
  | .in_ => 0x69
  | .ping => 0xB4

/-- Adapters of tunnel port `k` (R258) and of the upstream. -/
def State.tpAdp3 (s : State) (k : Nat) : Nat := s.rd (UH_TPORT.ADP3 k)
def State.tpAdp2 (s : State) (k : Nat) : Nat := s.rd (UH_TPORT.ADP2 k)
def State.up3 (s : State) : Nat := s.rd UH_UP.UP3_ADP
def State.up2 (s : State) : Nat := s.rd UH_UP.UP2_ADP

/-- The tunnel port an adapter is bound to. -/
def State.tportOf (s : State) (a : Nat) : Option Nat := (List.range 6).find? fun k => decide (a ≠ 0 ∧ (s.tpAdp3 k = a ∨ s.tpAdp2 k = a))

def State.tport (s : State) (k : Nat) : TunnelPortSt := Tab.get {} s.usb.tports k
def State.modTport (s : State) (k : Nat) (f : TunnelPortSt → TunnelPortSt) : State :=
  s.modUsb fun u => { u with tports := Tab.put {} u.tports k (f (Tab.get {} u.tports k)) }

/-- The far end of the upstream tunnel keeps its part of the proxy here. -/
def farEnd : Nat := 6

/-- PORT records (R259, R260). -/
def State.sendPort3 (s : State) (a event : Nat) : State := if a = 0 then s else s.present a (be 1 4 ++ be 3 0 ++ be 1 event)
def State.sendPort2 (s : State) (a event : Nat) : State := if a = 0 then s else s.present a (be 1 0x14 ++ be 3 0 ++ be 1 event)

/-- Something on the wires of hub port `n` (0: upstream). -/
def State.usbWire (s : State) (n code : Nat) (bytes : List Byte) : State := s.send (.bus 1 n code bytes)

def State.driven (s : State) (n : Nat) : Nat := Tab.get 0 s.usb.driven n
def State.setDriven (s : State) (n v : Nat) : State := s.modUsb fun u => { u with driven := Tab.put 0 u.driven n v }
/-- Set C_PORT bits: 1 connection, 2 enable, 4 suspend, 8 overcurrent, 16 reset. -/
def State.setChange (s : State) (n bits : Nat) : State :=
  s.modUsb fun u => { u with change := Tab.put 0 u.change n (Nat.lor (Tab.get 0 u.change n) bits) }

/-! ### Ports -/

/-- The enable output of ports 1 to 4 (R266). -/
def State.upwren (s : State) (n level : Nat) : State := if 1 ≤ n ∧ n ≤ 4 then s.send (.pin 4 n level) else s

/-- The management function is in its Default state (R270): address 0, unconfigured, no transfer in progress. -/
def State.functionDefault (s : State) : State :=
  let s := s.modUsb fun u => { u with control := none, bulk := [] }
  let s := { s with cmd := { s.cmd with usbReady := false } }
  (s.wr UH_STAT.MGMT_ADDR 0).wr UH_STAT.MGMT_CFG 0

/-- A bus reset reaches the function (R270): what it cuts short is reported, and a frame whose data is incomplete is discarded. -/
def State.functionReset (s : State) : State :=
  let s := if s.usb.control.isSome then s.raise Ev.UH_RESET_MID else s
  let partial_ := match s.usb.control with
    | some (n, l) => decide (l.length < n)
    | none => false
  (if partial_ || !s.usb.bulk.isEmpty then s.raise Ev.UH_CMD_DISCARD else s).functionDefault

/-- A port reports a disconnect (R258, R265); at port 5 the function is gone from its bus. -/
def State.portGone (s : State) (n : Nat) : State :=
  let was := s.on (UH_PORT.CONNECT n)
  let s := ((((((s.wr (UH_PORT.CONNECT n) 0).wr (UH_PORT.ENABLE n) 0).wr (UH_PORT.SUSPEND n) 0).wr (UH_PORT.L1 n) 0).wr (UH_PORT.HS_SPEED n) 0).wr
    (UH_PORT.SS_SPEED n) 0).wr (UH_PORT.U_STATE n) 5
  let s := s.setDriven n 0
  let s := if 6 ≤ n then s.modTport (n - 6) fun t => { t with cache := [], isoIn := [] } else if n = 5 then s.functionDefault else s
  if was then s.setChange n 1 else s

def State.portOff (s : State) (n : Nat) : State := ((s.portGone n).wr (UH_PORT.POWER n) 0).upwren n 0

/-- No upstream: both hubs unattached, enables low, caches gone (R266, R272). -/
def State.usbUnattached (s : State) : State :=
  let s := ((((s.wr UH_STAT.UPSRC 0).wr UH_STAT.SS_SPEED 0).wr UH_STAT.HS_STATE 0).wr UH_STAT.SUSPENDED 0).wr UH_STAT.MTT 0
  let s := s.each 11 fun i t => t.portOff (i + 1)
  let s := s.each 7 fun k t => t.modTport k fun x => { x with cache := [], isoIn := [], setups := [], desc := [], epMap := [] }
  s.modUsb fun u => { u with
    sofs := [], itps := [], isoOut := [], change := [], waking := false, resuming := false, wakeEn := false, hubAddr := 0 }

/-! ### Upstream (R256, R257) -/

/-- C0 is attached and not in Thrumlink mode, and its upstream is allowed. -/
def State.c0Offers (s : State) : Bool := s.on (PD_STAT.ATTACHED 0) && decide (s.rd (PD_STAT.MODE 0) ≠ 1) && s.on UH_CFG.C0_UP && !s.peerPort 0

/-- The SuperSpeed upstream of C0 beside DisplayPort (R257): none with pin assignment C, one pair with D. -/
def State.c0Speed (s : State) (ss : Nat) : Nat :=
  if s.rd (PD_STAT.MODE 0) ≠ 2 then ss
  else if (Tab.get {} s.pds 0).dpPin = 4 then (if ss = 4 then 2 else if ss = 3 then 1 else ss)
  else 0

/-- The SuperSpeed speed of the upstream of a source (R256, R257, R259): the tunnel has one when it carries a USB3 adapter, one lane at Gen 2
(assumption row 157). -/
def State.upSpeed (s : State) (src ss : Nat) : Nat :=
  if src = 1 then (if s.up3 = 0 then 0 else 2) else if src = 2 then s.c0Speed ss else ss

def State.upAllowed (s : State) (src : Nat) : Bool :=
  s.on UH_CFG.EN && match src with
  | 1 => !s.host && decide (s.up3 ≠ 0 ∨ s.up2 ≠ 0) && (decide (s.up3 = 0) || s.tunnelOpen s.up3) && (decide (s.up2 = 0) || s.tunnelOpen s.up2)
  | 2 => !s.host && s.c0Offers
  | 3 => s.host
  | _ => false

/-- A source takes the free upstream. -/
def State.upTake (s : State) (src ss : Nat) : State :=
  let s := ((s.wr UH_STAT.UPSRC src).wr UH_STAT.SS_SPEED (s.upSpeed src ss)).wr UH_STAT.HS_STATE 1
  if src = 1 then (s.sendPort3 s.up3 0).sendPort2 s.up2 0 else s.usbWire 0 0 []

/-- A second source is refused (R256): nothing is shown on C0, a tunnel is answered disconnect. -/
def State.upRefuse (s : State) (src : Nat) : State :=
  let s := s.raise Ev.UH_UP_BUSY
  if src = 1 then (s.sendPort3 s.up3 1).sendPort2 s.up2 1 else s

/-- A PORT record of the tunnelled upstream while C0 holds it (R256): connect is an offer, disconnect withdraws it, and every one is answered
disconnect. -/
def State.upTunnelRefuse (s : State) (event ss : Nat) : State :=
  let l := s.usb.offers.filter fun o => decide (o.1 ≠ 1)
  (s.modUsb fun u => { u with offers := if event = 0 then l ++ [(1, ss)] else if event = 1 then l else u.offers }).upRefuse 1

/-- UPSTREAM_CONNECT (R256): a source presents a connection. -/
def State.upConnect (s : State) (src ss : Nat) : State :=
  if ¬ s.upAllowed src then s else
    let s := s.modUsb fun u => { u with offers := u.offers.filter (fun o => o.1 ≠ src) ++ [(src, ss)] }
    if s.rd UH_STAT.UPSRC = 0 then s.upTake src ss
    else if s.rd UH_STAT.UPSRC = src then s
    else s.upRefuse src

def execUpstreamConnect (src : Fin 4) (ss : Fin 5) (s : State) : Res := .next (if s.underTest 19 0 then s else s.upConnect src ss)

/-- A source disconnects; the other one is offered at once. -/
def State.upDisconnect (s : State) (src : Nat) : State :=
  let s := s.modUsb fun u => { u with offers := u.offers.filter fun o => o.1 ≠ src }
  if s.rd UH_STAT.UPSRC = src then
    let s := s.usbUnattached
    match s.usb.offers with
    | (o, ss) :: _ => if s.upAllowed o then s.upTake o ss else s
    | [] => s
  else s

/-! ### Collisions, suspend, wake (R265, R271) -/

def State.collide (s : State) : State := (s.raise Ev.UH_COLLIDE).wrapAdd UH_COLLIDE.COUNT 1

/-- SUSPEND_ENTRY (R265): 3 ms of upstream idle. -/
def execSuspendEntry (s : State) : Res := .next (if s.rd UH_STAT.UPSRC ≠ 0 then s.wr UH_STAT.SUSPENDED 1 else s)

/-- The resume of one port begins: 20 ms of resume, or PORT resume to the far hub. -/
def State.resumePort (s : State) (n : Nat) : State :=
  let s := s.setDriven n 3
  if 6 ≤ n then s.sendPort2 (s.tpAdp2 (n - 6)) 5 else s.usbWire n 3 []

/-- UPSTREAM_RESUME (R271): the host drives resume; a remote wake being propagated merges with it. -/
def State.upstreamResume (s : State) : State :=
  if s.on UH_STAT.SUSPENDED then
    let s := if s.usb.waking then s.collide else s
    let s := (s.modUsb fun u => { u with waking := false, resuming := true }).wr UH_STAT.SUSPENDED 0
    (s.setDriven 0 3).each 11 fun i t =>
      if t.on (UH_PORT.CONNECT (i + 1)) ∧ ¬ t.on (UH_PORT.SUSPEND (i + 1)) ∧ i ≠ 4 then t.resumePort (i + 1) else t
  else s

def execUpstreamResume (s : State) : Res := .next s.upstreamResume

/-- REMOTE_WAKE (R265, R271, R272): a device below port `n` wakes. -/
def State.remoteWake (s : State) (n : Nat) : State :=
  if s.driven n = 1 ∨ s.driven n = 2 then s
  else if s.driven n = 3 ∨ s.driven n = 4 ∨ s.usb.resuming then s.collide
  else if s.on UH_STAT.SUSPENDED then
    if s.usb.wakeEn ∧ ¬ s.usb.waking then
      let s := s.modUsb fun u => { u with waking := true }
      if s.rd UH_STAT.UPSRC = 1 then s.sendPort2 s.up2 6 else s.usbWire 0 6 []
    else s
  else if s.on (UH_PORT.SUSPEND n) then s.resumePort n
  else if s.rd (UH_PORT.U_STATE n) = 3 then s.wr (UH_PORT.U_STATE n) 0
  else s

def execRemoteWake (n : Fin 12) (s : State) : Res := .next (s.remoteWake n)

/-! ### Port events (R258, R265, R266) -/

/-- Both tunnels of a tunnel port are open and the far hub has answered connect. -/
def State.tportReady (s : State) (k : Nat) : Bool :=
  decide (s.tpAdp2 k ≠ 0) && s.tunnelOpen (s.tpAdp2 k) && (decide (s.tpAdp3 k = 0) || s.tunnelOpen (s.tpAdp3 k)) && (s.tport k).far

/-- USB_ATTACH_DEBOUNCE (R258, R265): the connection at port `n` has been stable; `hs`, `ss`: the speeds found. -/
def State.attachDebounce (s : State) (n hs ss : Nat) : State :=
  let ok := s.on (UH_PORT.POWER n) && !s.on (UH_PORT.CONNECT n) &&
    (if 6 ≤ n then s.tportReady (n - 6) else if n = 5 then s.on UH_CFG.MGMT_EN else decide (1 ≤ n))
  if ok then
    let hs := if 5 ≤ n then 3 else hs
    let ss := if n = 5 ∨ (6 ≤ n ∧ s.tpAdp3 (n - 6) = 0) then 0 else ss
    ((((s.wr (UH_PORT.CONNECT n) 1).wr (UH_PORT.HS_SPEED n) hs).wr (UH_PORT.SS_SPEED n) ss).wr (UH_PORT.U_STATE n) (if ss = 0 then 5 else 0)).setChange n 1
  else s

def execUsbAttachDebounce (n : Fin 12) (hs : Fin 4) (ss : Fin 5) (s : State) : Res := .next (s.attachDebounce n hs ss)

/-- OVERCURRENT (R266, R272): power off until the host sets it again; a reset of the port is abandoned. -/
def execOvercurrent (n : Fin 5) (s : State) : Res :=
  .next (if 1 ≤ n.val ∧ s.on (UH_PORT.POWER n) then
    ((((s.portOff n).wr (UH_PORT.OVERCURRENT n) 1).setChange n 8).raise Ev.UH_OVERCURRENT)
  else s)

/-- What a port drives ends (R265): kinds 1 to 4. -/
def State.driveEnd (s : State) (n : Nat) : State :=
  let k := s.driven n
  let s := s.setDriven n 0
  match k with
  | 1 => ((s.wr (UH_PORT.ENABLE n) 1).wr (UH_PORT.SUSPEND n) 0).setChange n 16
  | 2 => ((s.wr (UH_PORT.ENABLE n) 1).wr (UH_PORT.U_STATE n) 0).setChange n 16
  | 3 => if n = 0 then s.modUsb fun u => { u with resuming := false }
         else if s.on (UH_PORT.SUSPEND n) then (s.wr (UH_PORT.SUSPEND n) 0).setChange n 4 else s
  | 4 => s.wr (UH_PORT.U_STATE n) 0
  | _ => s

/-- PORT_RESET_COMPLETE (R265): on a tunnel port a reset ends with the far hub's reset done instead. -/
def execPortResetComplete (n : Fin 12) (s : State) : Res :=
  .next (if 6 ≤ n.val ∧ (s.driven n = 1 ∨ s.driven n = 2) then s else s.driveEnd n)

/-- Entries below a port are discarded when it is reset (R264). -/
def State.dropCache (s : State) (n : Nat) : State :=
  if 6 ≤ n then s.modTport (n - 6) fun t => { t with cache := [], isoIn := [] } else s

/-- A link state that is a low-power state of a SuperSpeed port or its exit, on the wires of a port of this hub. -/
def State.linkWire (s : State) (n u : Nat) : State := s.usbWire n 8 (be 1 u)

/-- A request of the host (R255, R265 to R268). -/
def State.hubRequest (s : State) (n : Nat) (r : HubReq) : State :=
  let here := decide (1 ≤ n) && s.on (UH_PORT.CONNECT n)
  match r with
  | .setAddress a => (s.modUsb fun u => { u with hubAddr := a }).wr UH_STAT.HS_STATE 2
  | .setConfiguration on =>
    let s := (s.wr UH_STAT.HS_STATE (if on then 3 else 2)).wr UH_STAT.MTT 0
    if on then s else s.each 11 fun i t => t.portOff (i + 1)
  | .multiTt on => s.wr UH_STAT.MTT on.toNat
  | .remoteWake on => s.modUsb fun u => { u with wakeEn := on }
  | .functionAddress a => if s.on UH_CFG.MGMT_EN then s.wr UH_STAT.MGMT_ADDR a else s
  | .functionConfiguration on =>
    if s.on UH_CFG.MGMT_EN then { s.wr UH_STAT.MGMT_CFG on.toNat with cmd := { s.cmd with usbReady := on } } else s
  | .portPower on =>
    if n = 0 ∨ s.rd UH_STAT.HS_STATE ≠ 3 then s
    else if on then ((s.wr (UH_PORT.POWER n) 1).wr (UH_PORT.OVERCURRENT n) 0).upwren n 1
    else s.portOff n
  | .portReset =>
    if here then
      let s := ((s.setDriven n 1).wr (UH_PORT.ENABLE n) 0).dropCache n
      let s := if n = 5 then s.functionReset else s
      if 6 ≤ n then s.sendPort2 (s.tpAdp2 (n - 6)) 2 else s.usbWire n 1 []
    else s
  | .portWarmReset =>
    if here ∧ s.rd (UH_PORT.SS_SPEED n) ≠ 0 then
      let s := (s.setDriven n 2).wr (UH_PORT.ENABLE n) 0
      if 6 ≤ n then s.sendPort3 (s.tpAdp3 (n - 6)) 2 else s.usbWire n 2 []
    else s
  | .portDisable => if here then (s.wr (UH_PORT.ENABLE n) 0).wr (UH_PORT.U_STATE n) 4 else s
  | .portSuspend on =>
    if ¬ (here ∧ s.on (UH_PORT.ENABLE n)) then s
    else if on then
      let s := s.wr (UH_PORT.SUSPEND n) 1
      if 6 ≤ n then s.sendPort2 (s.tpAdp2 (n - 6)) 4 else s.usbWire n 4 []
    else if s.on (UH_PORT.SUSPEND n) then s.resumePort n
    else if s.on (UH_PORT.L1 n) then
      let s := s.wr (UH_PORT.L1 n) 0
      if 6 ≤ n then s.sendPort2 (s.tpAdp2 (n - 6)) 8 else s.usbWire n 3 []
    else s
  | .portL1 =>
    if here ∧ s.on (UH_PORT.ENABLE n) then
      let s := s.wr (UH_PORT.L1 n) 1
      if 6 ≤ n then s.sendPort2 (s.tpAdp2 (n - 6)) 7 else s.usbWire n 7 []
    else s
  | .portLink u =>
    if here ∧ s.rd (UH_PORT.SS_SPEED n) ≠ 0 then
      let was := s.rd (UH_PORT.U_STATE n)
      if u = 3 then
        let s := s.wr (UH_PORT.U_STATE n) 3
        if 6 ≤ n then s.sendPort3 (s.tpAdp3 (n - 6)) 4 else s.linkWire n 3
      else if was = 3 then
        let s := s.setDriven n 4
        if 6 ≤ n then s.sendPort3 (s.tpAdp3 (n - 6)) 5 else s.linkWire n 0
      else (s.wr (UH_PORT.U_STATE n) u).linkWire n u
    else s
  | .getDescriptor d ty ix len =>
    if s.rd UH_STAT.UPSRC = 0 ∨ (d.val = 2 ∧ ¬ s.on (UH_PORT.CONNECT 5)) then s
    else match s.usbDescriptor (usbDevice d) ty ix with
    | some l => s.usbWire 0 13 (l.take len)
    | none => s.usbWire 0 9 []
  | .clearChange m => s.modUsb fun u => { u with change := Tab.put 0 u.change n (Tab.get 0 u.change n - Nat.land (Tab.get 0 u.change n) m) }

def execHubClassRequest (n : Fin 12) (r : HubReq) (s : State) : Res := .next (s.hubRequest n r)

/-! ### SuperSpeed records (R259) -/

/-- The hub port a record of a USB adapter acts on: its tunnel port, or upstream. -/
def State.usbPortOf (s : State) (a : Nat) : Option Nat :=
  match s.tportOf a with
  | some k => some (6 + k)
  | none => if a ≠ 0 ∧ (a = s.up3 ∨ a = s.up2) then some 0 else none

/-- HEADER_RECORD and DATA_RECORD (R259): the packet leaves on the native side of the end that receives it. -/
def execHeaderRecord (a : Fin 256) (header : List Byte) (s : State) : Res :=
  .next (match s.usbPortOf a with
  | some n => s.usbWire n 0x21 (header.take 12)
  | none => s)

def execDataRecord (a : Fin 256) (header data : List Byte) (s : State) : Res :=
  .next (match s.usbPortOf a with
  | some n => s.usbWire n 0x22 (header.take 12 ++ data.take 1024)
  | none => s)

/-- ITP_RECORD (R259): scheduled for TS + SOF_DELAY. -/
def execItpRecord (a : Fin 256) (ts : BitVec 34) (itp : List Byte) (s : State) : Res :=
  .next (if a.val ≠ 0 ∧ a.val = s.up3 then
    let t := fullStamp ts.toNat s.time + s.rd UH_CFG.SOF_DELAY * 1000
    s.modUsb fun u => { u with itps := u.itps ++ [(t, itp.take 12)] }
  else s)

/-- ITP_RELEASE (R259): the oldest ITP leaves on every SuperSpeed port with the delta of this instant. -/
def execItpRelease (delta : Fin 8192) (s : State) : Res :=
  .next (match s.usb.itps with
  | [] => s
  | (_, itp) :: rest =>
    (s.modUsb fun u => { u with itps := rest }).usbWire 0 0x23 (be 4 (delta.val * 2 ^ 19 + beAt itp 0 4 % 2 ^ 19) ++ itp.drop 4))

/-- Bus reset of the USB 2.0 hub: Default state (R265). -/
def State.hubDefault (s : State) : State :=
  let s := ((s.wr UH_STAT.HS_STATE 1).wr UH_STAT.SUSPENDED 0).wr UH_STAT.MTT 0
  let s := s.each 11 fun i t => t.portOff (i + 1)
  s.modUsb fun u => { u with hubAddr := 0, change := [], wakeEn := false, waking := false, resuming := false }

/-- USB3_PORT_RECORD (R256, R258, R259, R265, R271). -/
def State.usb3Port (s : State) (a event : Nat) : State :=
  match s.tportOf a with
  | some k =>
    let n := 6 + k
    match event with
    | 0 => s.modTport k fun t => { t with far := true }
    | 1 => (s.modTport k fun t => { t with far := false }).portGone n
    | 4 => s.wr (UH_PORT.U_STATE n) 3
    | 5 => s.remoteWake n
    | 6 => if s.driven n = 2 then s.driveEnd n else s
    | _ => s
  | none =>
    if a = 0 ∨ a ≠ s.up3 then s
    else if s.rd UH_STAT.UPSRC ≠ 0 ∧ s.rd UH_STAT.UPSRC ≠ 1 then s.upTunnelRefuse event 2
    else match event with
    | 0 => s.upConnect 1 2
    | 1 => s.upDisconnect 1
    | 2 | 3 => (s.each 11 fun i t => if i = 4 then t else t.wr (UH_PORT.U_STATE (i + 1)) 5).sendPort3 s.up3 6
    | 4 => s.wr UH_STAT.SUSPENDED 1
    | 5 => s.upstreamResume
    | _ => s

def execUsb3PortRecord (a : Fin 256) (event : Fin 7) (s : State) : Res := .next (s.usb3Port a event)

/-- USB2_PORT_RECORD (R256, R258, R260, R264, R265, R271). -/
def State.usb2Port (s : State) (a event : Nat) : State :=
  match s.tportOf a with
  | some k =>
    let n := 6 + k
    match event with
    | 0 => s.modTport k fun t => { t with far := true }
    | 1 => (s.modTport k fun t => { t with far := false }).portGone n
    | 3 => if s.driven n = 1 then s.driveEnd n else s
    | 5 => if s.driven n = 3 then s.driveEnd n else s
    | 6 => s.remoteWake n
    | 8 => s.wr (UH_PORT.L1 n) 0
    | _ => s
  | none =>
    if a = 0 ∨ a ≠ s.up2 then s
    else if s.rd UH_STAT.UPSRC ≠ 0 ∧ s.rd UH_STAT.UPSRC ≠ 1 then s.upTunnelRefuse event 0
    else match event with
    | 0 => s.upConnect 1 0
    | 1 => s.upDisconnect 1
    | 2 => ((s.functionReset.hubDefault.modTport farEnd fun t => { t with cache := [], isoIn := [], setups := [], desc := [] }).sendPort2 s.up2 3)
    | 4 => s.wr UH_STAT.SUSPENDED 1
    | 5 => s.upstreamResume
    | 7 => s.usbWire 0 7 []
    | 8 => s.usbWire 0 8 []
    | _ => s

def execUsb2PortRecord (a : Fin 256) (event : Fin 9) (s : State) : Res := .next (s.usb2Port a event)

/-! ### The transaction proxy (R260 to R264) -/

/-- An XFER record (R260). -/
def xferRecord (k : TokenKind) (addr ep : Nat) (toggle iso : Bool) (data : List Byte) : List Byte :=
  be 1 0x11 ++ be 3 0 ++ be 1 k.pid ++ be 1 addr ++ be 1 ep ++ be 1 (toggle.toNat + 2 * iso.toNat) ++ be 2 data.length ++ data

/-- A RESULT record (R260); the endpoint byte carries the direction in bit 7. -/
def resultRecord (pid addr ep : Nat) (isIn toggle : Bool) (data : List Byte) : List Byte :=
  be 1 0x12 ++ be 3 0 ++ be 1 pid ++ be 1 addr ++ be 1 (ep + if isIn then 128 else 0) ++ be 1 toggle.toNat ++ be 2 data.length ++ data

/-- Interfaces of the endpoints of a configuration descriptor; `iface` is the interface last seen. -/
def parseConfig : Nat → Nat → List Byte → List (Nat × Nat)
  | 0, _, _ => []
  | fuel + 1, iface, l =>
    let n := byteAt l 0
    if n < 2 then [] else
      match byteAt l 1 with
      | 4 => parseConfig fuel (byteAt l 2) (l.drop n)
      | 5 => (byteAt l 2, iface) :: parseConfig fuel iface (l.drop n)
      | _ => parseConfig fuel iface (l.drop n)

/-- Endpoint address of a cache entry. -/
def ProxyEntry.epAddr (e : ProxyEntry) : Nat := e.ep + if e.isIn then 128 else 0

/-- A control request has passed its status stage (R264): what it discards, or the map it gives. -/
def TunnelPortSt.statusStage (t : TunnelPortSt) (addr : Nat) : TunnelPortSt :=
  let q := Tab.get [] t.setups addr
  let ty := byteAt q 0
  let rq := byteAt q 1
  let t' := { t with setups := Tab.put [] t.setups addr [], desc := Tab.put [] t.desc addr [] }
  let keep := fun (drop : ProxyEntry → Bool) => { t' with cache := t'.cache.filter fun e => !(decide (e.addr = addr) && drop e) }
  if ty = 0x80 ∧ rq = 6 ∧ byteAt q 3 = 2 then
    let m := parseConfig 256 0 (Tab.get [] t.desc addr)
    { t' with epMap := t'.epMap.filter (fun x => x.1 ≠ addr) ++ m.map fun x => (addr, x.1, x.2) }
  else if ty = 0 ∧ rq = 9 then keep fun e => decide (e.ep ≠ 0)
  else if ty = 1 ∧ rq = 11 then
    let i := byteAt q 4
    if t'.epMap.any fun x => decide (x.1 = addr) then
      keep fun e => t'.epMap.contains (addr, e.epAddr, i)
    else keep fun e => decide (e.ep ≠ 0)
  else if ty = 2 ∧ rq = 1 ∧ byteAt q 2 = 0 then keep fun e => decide (e.epAddr = byteAt q 4)
  else t'

/-- A result of endpoint 0 seen at either end: data of an IN data stage is kept, a status stage that succeeds acts. -/
def TunnelPortSt.seeResult (t : TunnelPortSt) (addr ep : Nat) (isIn : Bool) (pid : Nat) (data : List Byte) : TunnelPortSt :=
  let q := Tab.get [] t.setups addr
  let read := bitOf (byteAt q 0) 7
  if ep ≠ 0 ∨ q.isEmpty ∨ pid ≠ pidAck then t
  else if read ∧ isIn then { t with desc := Tab.put [] t.desc addr (Tab.get [] t.desc addr ++ data) }
  else if isIn ≠ read ∧ (data.isEmpty ∨ read) then t.statusStage addr
  else t

def TunnelPortSt.seeSetup (t : TunnelPortSt) (addr : Nat) (data : List Byte) : TunnelPortSt :=
  { t with setups := Tab.put [] t.setups addr data, desc := Tab.put [] t.desc addr [] }

def TunnelPortSt.find (t : TunnelPortSt) (addr ep : Nat) (isIn : Bool) : Option ProxyEntry :=
  t.cache.find? fun e => decide (e.addr = addr ∧ e.ep = ep ∧ e.isIn = isIn)
def TunnelPortSt.drop (t : TunnelPortSt) (addr ep : Nat) (isIn : Bool) : TunnelPortSt :=
  { t with cache := t.cache.filter fun e => !decide (e.addr = addr ∧ e.ep = ep ∧ e.isIn = isIn) }

/-- Answer the host on tunnel port `k` with a handshake or data; PID 0 is no handshake, which is reported (R261). -/
def State.proxyAnswer (s : State) (k pid : Nat) (data : List Byte) : State :=
  if pid = 0 then s.raise Ev.UH_PROXY_TMO else s.usbWire (6 + k) 0x10 (be 1 pid ++ data)

/-- A transaction token at tunnel port `k` (R261, R262). -/
def State.hostXfer (s : State) (k : Nat) (kind : TokenKind) (addr ep : Nat) (toggle iso acked : Bool) (data : List Byte) : State :=
  let a := s.tpAdp2 k
  let isIn := decide (kind = .in_)
  let fwd := fun (t : State) => t.present a (xferRecord kind addr ep toggle iso data)
  if kind = .setup then fwd ((s.modTport k fun t => t.seeSetup addr data).proxyAnswer k pidAck [])
  else if iso then
    if isIn then
      let old := ((s.tport k).isoIn.find? fun i => decide (i.1 = addr ∧ i.2.1 = ep)).map fun i => i.2.2
      let s := s.usbWire (6 + k) 0x11 (old.getD [])
      fwd (s.modTport k fun t => { t with isoIn := t.isoIn.filter (fun i => !decide (i.1 = addr ∧ i.2.1 = ep)) ++ [(addr, ep, [])] })
    else fwd s
  else
    match (s.tport k).find addr ep isIn with
    | some e =>
      match e.result with
      | some (pid, tg, d) =>
        if kind = .ping ∨ e.toggle = toggle then
          let s := s.proxyAnswer k pid (if isIn ∧ pid = pidAck then be 1 tg.toNat ++ d else [])
          if pid = pidNak ∨ pid = 0 ∨ (isIn ∧ acked) then s.modTport k fun t => t.drop addr ep isIn else s
        else
          (fwd (s.modTport k fun t => { t.drop addr ep isIn with cache := (t.drop addr ep isIn).cache ++
            [{ addr := addr, ep := ep, isIn := isIn, toggle := toggle, pending := true }] })).proxyAnswer k pidNak []
      | none =>
        if kind = .ping ∨ (e.pending ∧ e.toggle = toggle) then s.proxyAnswer k pidNak []
        else
          (fwd (s.modTport k fun t => { t.drop addr ep isIn with cache := (t.drop addr ep isIn).cache ++
            [{ addr := addr, ep := ep, isIn := isIn, toggle := toggle, pending := true }] })).proxyAnswer k pidNak []
    | none =>
      if kind = .ping then s.proxyAnswer k pidNak []
      else (fwd (s.modTport k fun t => { t with cache := t.cache ++
        [{ addr := addr, ep := ep, isIn := isIn, toggle := toggle, pending := true }] })).proxyAnswer k pidNak []

/-- HOST_TOKEN (R261 to R263): a start of micro-frame goes to the far hub stamped with its arrival. -/
def execHostToken (k : Fin 6) (t : HostToken) (s : State) : Res :=
  .next (if ¬ s.on (UH_PORT.ENABLE (6 + k)) then s else
    match t with
    | .xfer kind addr ep toggle iso acked data => s.hostXfer k kind addr ep toggle iso acked data
    | .sof frame micro => s.present (s.tpAdp2 k) (be 1 0x13 ++ be 3 0 ++ be 2 frame ++ be 1 micro))

/-- RESULT (R261, R262, R264): the entry that waits is filled, isochronous data is kept for the next micro-frame. -/
def execResult (k : Fin 6) (pid : Fin 256) (addr : Fin 128) (ep : Fin 16) (isIn toggle : Bool) (data : List Byte) (s : State) : Res :=
  .next (s.modTport k fun t =>
    if isIn ∧ t.isoIn.any (fun i => decide (i.1 = addr.val ∧ i.2.1 = ep.val)) then
      { t with isoIn := t.isoIn.map fun i => if i.1 = addr.val ∧ i.2.1 = ep.val then (addr.val, ep.val, data) else i }
    else
      let cache := t.cache.map fun e =>
        if e.addr = addr.val ∧ e.ep = ep.val ∧ e.isIn = isIn ∧ e.pending then
          { e with pending := false, result := some (pid.val, toggle, data) } else e
      { t with cache := cache }.seeResult addr ep isIn pid data)

/-- XFER (R261, R262, R264): the far hub plays the transaction once; `pid`, `rtoggle`, `rdata` are the device's answer (PID 0: none in three
attempts). An isochronous OUT waits for the next micro-frame and has no answer. -/
def execXfer (kind : TokenKind) (addr : Fin 128) (ep : Fin 16) (toggle iso : Bool) (data : List Byte) (pid : Fin 256) (rtoggle : Bool)
    (rdata : List Byte) (s : State) : Res :=
  .next (
    let isIn := decide (kind = .in_)
    let wire := xferRecord kind addr ep toggle iso data
    if s.up2 = 0 then s
    else if iso ∧ ¬ isIn then s.modUsb fun u => { u with isoOut := u.isoOut ++ [(addr.val, wire)] }
    else
      let s := s.usbWire 0 0x12 wire
      let s := s.modTport farEnd fun t =>
        let t := if kind = .setup then t.seeSetup addr data else t
        let t := t.drop addr ep isIn
        let e : ProxyEntry := { addr := addr, ep := ep, isIn := isIn, toggle := toggle, result := some (pid.val, rtoggle, []) }
        { t with cache := t.cache ++ [e] }.seeResult addr ep isIn pid rdata
      if kind = .setup then s else s.present s.up2 (resultRecord pid addr ep isIn rtoggle rdata))

/-! ### Micro-frames (R262, R263) -/

/-- The number after a micro-frame. -/
def nextMicro (frame micro : Nat) : Nat × Nat := if micro = 7 then ((frame + 1) % 2048, 0) else (frame, micro + 1)

/-- The far hub starts a micro-frame on its ports, TTs and tunnel ports; isochronous OUTs of the last one go out. -/
def State.startMicro (s : State) (frame micro at_ : Nat) : State :=
  let s := s.usbWire 0 0x13 (be 2 frame ++ be 1 micro)
  let out := s.usb.isoOut
  let s := s.modUsb fun u => { u with isoOut := [], sofLast := some (frame, micro, at_) }
  let s := s.eachIn out fun o t => t.usbWire 0 0x12 o.2
  s.each 6 fun k t => if t.on (UH_PORT.ENABLE (6 + k)) then t.present (t.tpAdp2 k) (be 1 0x13 ++ be 3 0 ++ be 2 frame ++ be 1 micro) else t

/-- SOF_RECORD (R263): scheduled for TS + SOF_DELAY. -/
def execSofRecord (ts : BitVec 34) (frame : Fin 2048) (micro : Fin 8) (s : State) : Res :=
  .next (if s.up2 = 0 then s else
    let t := fullStamp ts.toNat s.time + s.rd UH_CFG.SOF_DELAY * 1000
    s.modUsb fun u => { u with sofs := u.sofs ++ [(frame.val, micro.val, t)] })

/-- SOF_RELEASE (R263, R272): the first SOF issued for a micro-frame stands. -/
def execSofRelease (s : State) : Res :=
  .next (match s.usb.sofs with
  | [] => s
  | (f, m, t) :: rest =>
    let s := s.modUsb fun u => { u with sofs := rest }
    match s.usb.sofLast with
    | some (g, n, _) => if f = g ∧ m = n then s else s.startMicro f m t
    | none => s.startMicro f m t)

/-- SOF_LATE (R263): the far hub generates the next SOF 125 us after the previous one. -/
def execSofLate (s : State) : Res :=
  .next (match s.usb.sofLast with
  | some (f, m, t) =>
    let n := nextMicro f m
    (s.startMicro n.1 n.2 (t + 125000)).raise Ev.UH_SOF_LATE
  | none => s)

/-! ### The function's bus reset (R270) -/

/-- BUS_RESET (R265, R270, R272): the function and the USB 2.0 hub return to Default. -/
def execBusReset (s : State) : Res := .next s.functionReset.hubDefault

/-! ### Tunnels opening and closing (R258, R272) -/

/-- A USB tunnel opens: a tunnel port whose tunnels are open sends PORT connect. -/
def State.usbOpened (s : State) (a : Nat) : State :=
  match s.tportOf a with
  | some _ => if s.adpType a = 6 then s.sendPort3 a 0 else s.sendPort2 a 0
  | none => s

/-- A USB tunnel closes: its port reports a disconnect, or the upstream is gone. -/
def State.usbClosed (s : State) (a : Nat) : State :=
  match s.tportOf a with
  | some k => (s.modTport k fun t => { t with far := false }).portGone (6 + k)
  | none => if a ≠ 0 ∧ (a = s.up3 ∨ a = s.up2) then s.upDisconnect 1 else s

end Sys2Proof.Machine
end

