-- ==== Sys2Proof/Machine/Domain.lean ====
section
/-!
DEFINITION. Strings, spans and domains (R169 to R195) and tunnels opening and closing (R122, R413). A domain control message is dispatched and
delivered like any unit of A0; the commands named after messages are their receipt.
-/

namespace Sys2Proof.Machine

def State.modDom (s : State) (f : DomSt → DomSt) : State := { s with dom := f s.dom }

/-- The address of the host-role hub of this hub's string (R169). -/
def State.hostAddr (s : State) : Nat := s.hubAddr / 64 * 64

/-! ### Tunnels (R106, R122, R413) -/

/-- Open the tunnel of adapter `a`, and tell its block. -/
def State.tunnelOpened (s : State) (a : Nat) : State := (((s.openAdapter a).bridgeOpened a).displayOpened a).usbOpened a

/-- Close the tunnel of adapter `a` (R122), and tell its block. -/
def State.tunnelClosed (s : State) (a : Nat) : State :=
  if s.tunnelOpen a then (((s.bridgeClosed a).displayClosed a).usbClosed a).closeAdapter a else s

/-- An adapter in use whose peer is one adapter of another hub or this one. -/
def State.pairedWith (s : State) (a hub : Nat) : Bool :=
  decide (a ≠ 0 ∧ s.adpType a ≠ 0 ∧ s.rd (TA_PEER.HUB a) = hub) && !s.on (TA_PEER.MCAST a)

/-- The fields of TUNNEL_OPEN for adapter `a` (R82). -/
def State.tunnelOpenBody (s : State) (a : Nat) : List Byte :=
  be 1 a ++ be 1 (s.rd (TA_PEER.ADP a)) ++ be 2 (s.rd (TA_PEER.HUB a)) ++ be 1 (s.rd (TA_CFG0.CLASS a)) ++ be 1 (s.rd (TA_CFG0.TC a)) ++
    be 1 ((s.on (TA_CFG0.PIN a)).toNat + 2 * (s.on (TA_CFG0.SPRAY a)).toNat)

/-- Send TUNNEL_OPEN for adapter `a` to the A0 of its peer hub. -/
def State.sendTunnelOpen (s : State) (a : Nat) : State :=
  (s.domMsg (s.rd (TA_PEER.HUB a)) 0 0x8A (s.tunnelOpenBody a)).modDom fun d => { d with openSent := d.openSent.filter (· ≠ a) ++ [a] }

/-- Send TUNNEL_CLOSE for adapter `a` to the A0 of hub `hub`. -/
def State.sendTunnelClose (s : State) (a hub : Nat) : State := s.domMsg hub 0 0x8B (be 1 a ++ be 1 0 ++ be 2 s.hubAddr)

/-- A HUB_GONE for address `h` arrived less than 2 ms ago (R194). -/
def State.recentlyGone (s : State) (h : Nat) : Bool := s.dom.gone.any fun g => decide (g.1 = h ∧ s.uptime < g.2 + 20000000)

/-- TUNNEL_OPEN (R413, R194): the named adapter opens when CLASS and TC agree and it names the sender (a multicast source names its group); it answers
unless this is the answer to its own. -/
def State.tunnelOpenMsg (s : State) (srcHub srcAdp dstAdp dstHub cls tc : Nat) : State :=
  let a := dstAdp
  let mc := s.on (TA_PEER.MCAST a)
  let names := mc || decide (s.rd (TA_PEER.HUB a) = srcHub ∧ s.rd (TA_PEER.ADP a) = srcAdp)
  if s.recentlyGone srcHub ∨ s.recentlyGone dstHub ∨ a = 0 ∨ s.adpType a = 0 ∨ dstHub ≠ s.hubAddr ∨ names = false ∨
      s.rd (TA_CFG0.CLASS a) ≠ cls ∨ s.rd (TA_CFG0.TC a) ≠ tc then s
  else
    let s := if mc ∧ s.tunnelOpen a then s else s.tunnelOpened a
    if s.dom.openSent.contains a then s.modDom fun d => { d with openSent := d.openSent.filter (· ≠ a) }
    else if mc then
      s.domMsg srcHub 0 0x8A (be 1 a ++ be 1 srcAdp ++ be 2 srcHub ++ be 1 cls ++ be 1 tc ++
        be 1 ((s.on (TA_CFG0.PIN a)).toNat + 2 * (s.on (TA_CFG0.SPRAY a)).toNat))
    else s.domMsg srcHub 0 0x8A (s.tunnelOpenBody a)

def execTunnelOpen (srcHub : Fin 16384) (srcAdp dstAdp : Fin 256) (dstHub : Fin 16384) (cls : Fin 4) (tc : Fin 8) (s : State) : Res :=
  .next (s.tunnelOpenMsg srcHub srcAdp dstAdp dstHub cls tc)

/-- What TUNNEL_CLOSE does (R413): every local adapter that names the closing adapter as peer closes. -/
def State.tunnelCloseMsg (s : State) (adp hub : Nat) : State :=
  s.eachIn ((List.range 256).filter fun a => s.pairedWith a hub && decide (s.rd (TA_PEER.ADP a) = adp)) fun a t => t.tunnelClosed a

/-- Close every adapter toward a gone hub, and note it (R175, R194). -/
def State.closeToward (s : State) (hub : Nat) : State :=
  (s.eachIn ((List.range 256).filter fun a => s.pairedWith a hub) fun a t => t.tunnelClosed a).modDom fun d =>
    { d with gone := d.gone.filter (fun g => decide (g.1 ≠ hub)) ++ [(hub, s.uptime)] }

/-- The host-role hub opens the tunnels of its image to a new hub (R172 step 5). -/
def State.openTunnelsTo (s : State) (hub : Nat) : State :=
  s.eachIn ((List.range 256).filter fun a => s.pairedWith a hub) fun a t => t.sendTunnelOpen a

/-! ### Grandmaster and time masters (R186, R187) -/

/-- The first announcement is better (R186); `ua`, `ub`: the UID of the partner it came from. -/
def Announce.better (a : Announce) (ua : Nat) (b : Announce) (ub : Nat) : Bool :=
  if a.prio ≠ b.prio then decide (a.prio < b.prio)
  else if a.cls ≠ b.cls then decide (a.cls < b.cls)
  else if a.uid ≠ b.uid then decide (a.uid < b.uid)
  else if a.steps ≠ b.steps then decide (a.steps < b.steps)
  else decide (ua < ub)

/-- The clock class this hub announces (R289). -/
def State.ownClass (s : State) : Nat :=
  if s.rd TM_SRC.SRC = 0 then s.rd DM_GM.CLASS
  else if s.on TM_STAT.SRC_LOCK then s.rd TM_SRC.LOCK_CLASS
  else if s.on TM_STAT.HOLDOVER then s.rd TM_SRC.HOLD_CLASS
  else s.rd DM_GM.CLASS

/-- This hub's own candidacy, which counts once it has acquired (R186, R288). -/
def State.ownAnnounce (s : State) : Option Announce :=
  if s.on DM_GM.CAPABLE ∧ s.on TM_STAT.ACQUIRED then some ⟨s.rd DM_GM.PRIORITY, s.ownClass, 0, s.uid⟩ else none

/-- The best announcement at this hub with the port it came in on (none: its own candidacy); steps count from this hub. -/
def State.bestAnnounce (s : State) : Option (Announce × Option Nat) :=
  (List.range 6).foldl (fun b p =>
    match Tab.get none s.dom.heard p with
    | none => b
    | some h =>
      let h := { h with steps := h.steps + 1 }
      match b with
      | none => some (h, some p)
      | some (a, q) =>
        let uq := match q with
          | some q => (s.link q).peerUid
          | none => s.uid
        if h.better (s.link p).peerUid a uq then some (h, some p) else b) (s.ownAnnounce.map fun a => (a, none))

/-- This hub is time master on port `p` (R187). A partner that forces shows it by sending SYNC to a hub that would be master. -/
def State.timeMaster (s : State) (p : Nat) : Bool :=
  let lower := decide (s.uid < (s.link p).peerUid)
  if s.on (CL_CTRL.TIME_MASTER p) then !(s.link p).peerForces || lower
  else if (s.link p).peerForces then false
  else match s.bestAnnounce with
    | none =>
      if (s.offeredRole p = 1) = ((s.link p).peerRole = 1) then lower else decide (s.offeredRole p = 1)
    | some (b, _) =>
      match Tab.get none s.dom.heard p with
      | none => true
      | some h => if b.steps = h.steps then lower else decide (b.steps < h.steps)

/-- Send GM_ANNOUNCE on port `p`: on every linked port but span edges and the port the best announcement came in on. -/
def State.sendAnnounce (s : State) (p : Nat) : State :=
  match s.bestAnnounce with
  | none => s
  | some (b, q) =>
    if s.domainPort p ∧ ¬ s.spanEdge p ∧ q ≠ some p then
      s.neighMsg p 0x86 (be 1 b.prio ++ be 1 b.cls ++ be 1 (min 255 b.steps) ++ be 1 0 ++ be 8 b.uid)
    else s

/-- The ports on which this hub is time master (R187), as DM_GM_STAT.MASTER reads. -/
def State.masterPorts (s : State) : Nat :=
  ((List.range 6).map fun p => if s.linkIsUp p ∧ ¬ s.spanEdge p ∧ s.timeMaster p then 2 ^ p else 0).sum

/-- DM_GM_STAT and DM_GM_UID show the best announcement. -/
def State.showGm (s : State) : State :=
  match s.bestAnnounce with
  | none => ((s.wr DM_GM_STAT.STEPS 0).wr DM_GM_STAT.IS_GM 0).wr64 DM_GM_UID_LO.UID DM_GM_UID_HI.UID 0
  | some (b, q) => ((s.wr DM_GM_STAT.STEPS (min 255 b.steps)).wr DM_GM_STAT.IS_GM q.isNone.toNat).wr64 DM_GM_UID_LO.UID DM_GM_UID_HI.UID b.uid

/-- Show the grandmaster after something it depends on changed; a change of the best since `old` is forwarded at once (R186). -/
def State.gmChanged (s : State) (old : Option (Announce × Option Nat)) : State :=
  let s := s.showGm
  if s.bestAnnounce = old then s else s.each 6 fun q t => t.sendAnnounce q

/-- The announcement held of port `p` becomes `h`. -/
def State.setHeard (s : State) (p : Nat) (h : Option Announce) : State :=
  (s.modDom fun d => { d with heard := Tab.put none d.heard p h }).gmChanged s.bestAnnounce

/-- GM_ANNOUNCE (R186, R183). -/
def execGmAnnounce (p : Fin 6) (prio cls steps : Fin 256) (uid : BitVec 64) (s : State) : Res :=
  .next (if s.spanEdge p then s else s.setHeard p (some ⟨prio, cls, steps, uid.toNat⟩))

/-- GM_ANNOUNCE_TIMER (R186): every 125 ms. -/
def execGmAnnounceTimer (s : State) : Res := .next (s.each 6 fun p t => t.sendAnnounce p)

/-- GM_ANNOUNCE_EXPIRE (R186): the announcement of port `p` was not renewed for 375 ms. -/
def execGmAnnounceExpire (p : Fin 6) (s : State) : Res := .next (s.setHeard p none)

/-! ### Floor version (R191, R192) -/

/-- The floor record: version, origin, age (in tenths of a ns); before any, this hub's own advertisement. -/
def State.floorRecord (s : State) : Nat × Nat × Nat :=
  match s.dom.floor with
  | some (v, o, a, t) => (v, o, a + (s.uptime - t))
  | none => (s.ownVersion, s.hubAddr, 0)

/-- Age of the record in ms, as DM_FLOOR_AGE reads. -/
def State.floorAgeMs (s : State) : Nat := min (2 ^ 32 - 1) (s.floorRecord.2.2 / 10000000)

/-- FLOOR_GOSSIP to the neighbour on port `p`; never on a version-2 link (R84). -/
def State.sendGossip (s : State) (p : Nat) : State :=
  if s.domainPort p ∧ s.linkVer p = 3 then
    let r := s.floorRecord
    s.neighMsg p 0x85 (be 1 (s.rd DM_FLOOR.FLOOR) ++ be 1 r.1 ++ be 2 r.2.1 ++ be 4 s.floorAgeMs)
  else s

/-- DM_FLOOR shows the record; a drop to 2 is an event, and a record that falls is sent at once (R191, R192). -/
def State.showFloor (s : State) (old : Nat) : State :=
  let r := s.floorRecord
  let s := (s.wr DM_FLOOR.FLOOR r.1).wr DM_FLOOR.ORIGIN r.2.1
  let s := if old = 3 ∧ r.1 < 3 then s.raise Ev.DM_FLOOR_DROP else s
  if r.1 < old then s.each 6 fun p t => t.sendGossip p else s

/-- A hub without a record enters its own advertisement (R191). -/
def State.holdFloor (s : State) : State :=
  if s.dom.floor.isSome then s
  else (s.modDom fun d => { d with floor := some (s.ownVersion, s.hubAddr, 0, s.uptime) }).showFloor (s.rd DM_FLOOR.FLOOR)

/-- Offer a record (R191): adopted when its version is lower, or equal with a smaller age. -/
def State.offerFloor (s : State) (v origin age : Nat) : State :=
  let s := s.holdFloor
  let r := s.floorRecord
  let old := s.rd DM_FLOOR.FLOOR
  if v < r.1 ∨ (v = r.1 ∧ age < r.2.2) then (s.modDom fun d => { d with floor := some (v, origin, age, s.uptime) }).showFloor old
  else s

/-- This hub's advertisement, and version 2 for its version-2 neighbours (R85), at age 0. -/
def State.ownFloor (s : State) : State :=
  let s := s.offerFloor s.ownVersion s.hubAddr 0
  if (List.range 6).any (fun p => s.linkIsUp p && decide (s.linkVer p = 2)) then s.offerFloor 2 s.hubAddr 0 else s

/-- FLOOR_GOSSIP_TIMER (R191): each second. -/
def execFloorGossipTimer (s : State) : Res := .next (s.ownFloor.each 6 fun p t => t.sendGossip p)

/-- FLOOR_GOSSIP (R191): lowest version, originating hub, age in ms. -/
def execFloorGossip (lowest : Fin 256) (origin : Fin 16384) (age : BitVec 32) (s : State) : Res :=
  .next (s.offerFloor lowest origin (age.toNat * 10000000))

/-- FLOOR_RECORD_LAPSE (R191): a record that has reached 60 s lapses. -/
def execFloorRecordLapse (s : State) : Res :=
  .next (let old := s.rd DM_FLOOR.FLOOR
    if s.floorRecord.2.2 < 600000000000 then s
    else ((s.modDom fun d => { d with floor := some (s.ownVersion, s.hubAddr, 0, s.uptime) }).showFloor old).ownFloor)

/-! ### Roles (R176, R177) -/

/-- Show which positions are held. -/
def State.showPositions (s : State) : State :=
  s.wr64 DM_POS_LO.HELD DM_POS_HI.HELD
    (((List.range 64).map fun i => if (Tab.get ({} : PosEntry) s.dom.positions i).held then 2 ^ i else 0).sum)

/-- Remove the routing entry toward a hub (R175, R178). -/
def State.dropRoute (s : State) (h : Nat) : State := (s.wr (DM_RT.PORT h) 7).wr (DM_RT.ALT h) 7

/-- The fields of HUB_GONE (R82). -/
def hubGoneBody (h reason : Nat) : List Byte := be 2 h ++ be 1 reason

/-- The dual-role hub yields (R177, R169): HUB_GONE with reason 3 for every hub of its string, itself among them, to the others; its own tunnels to them
close; no address until the winner assigns one. Its routes stay, by which the messages leave (assumption row 152). -/
def State.yieldRole (s : State) : State :=
  let hubs := s.dom.hubs.map HubEntry.addr
  let s := s.eachIn (s.hubAddr :: hubs) fun h t => t.eachIn hubs fun hub u => if hub = h then u else u.domMsg hub 0 0x87 (hubGoneBody h 3)
  let s := s.eachIn hubs fun h t => t.closeToward h
  let s := s.modDom fun d => { d with yielded := true, hubs := [], positions := [], routes := [], refused := [] }
  ((s.wr DM_ID.VALID 0).wr DM_ID.UPPORT 7).showPositions

/-- Be the host-role hub (R169). -/
def State.takeHost (s : State) : State :=
  let s := s.modDom fun d => { d with yielded := false }
  (((s.wr DM_ID.ADDR (s.rd DM_CFG.STRING * 64)).wr DM_ID.VALID 1).wr DM_ID.HOP 0).wr DM_ID.UPPORT 7

/-- ROLE_SWAP_REQ (R177): ROLE 1, the sender asks for host; ROLE 0, it asks this hub to take host. -/
def State.roleSwapReq (s : State) (p role uid : Nat) : State :=
  if role = 1 then
    if ¬ s.hostRole then s.sendCtl p 0x31 (be 1 0)
    else if ¬ s.on DM_CFG.DUAL then s.sendCtl p 0x31 (be 1 1)
    else if s.uid < uid then s.yieldRole.sendCtl p 0x31 (be 1 2)
    else s
  else if s.on DM_CFG.DUAL then (if s.hostRole then s else s.takeHost).sendCtl p 0x31 (be 1 0)
  else s.sendCtl p 0x31 (be 1 1)

def execRoleSwapReq (p : Fin 6) (role : Fin 2) (uid : BitVec 64) (s : State) : Res := .next (s.roleSwapReq p role uid.toNat)

/-- Ask on port `p`: `role` as in ROLE_SWAP_REQ. -/
def State.sendRoleSwap (s : State) (p role : Nat) : State :=
  (s.sendCtl p 0x30 (be 1 role ++ be 3 0 ++ be 8 s.uid)).modDom fun d => { d with swapAsked := d.swapAsked.filter (· ≠ p) ++ [p] }

/-- What ROLE_SWAP_ACK does to the roles: a far end that takes host at this hub's asking makes it yield. -/
def State.roleSwapAck (s : State) (p result : Nat) : State :=
  let byCommand := (s.waiter fun w => decide (w = .roleSwap p)).isSome
  let s := s.modDom fun d => { d with swapAsked := d.swapAsked.filter (· ≠ p) }
  if byCommand ∧ result = 0 ∧ s.hostRole ∧ s.on DM_CFG.DUAL then s.yieldRole else s

/-! ### Enumeration (R172 to R174) -/

/-- The link of port `p` carries link control only until its hub is probed again (R174). -/
def State.shutOut (s : State) (p : Nat) : State := (s.linkOnly p).modDom fun d => { d with refused := d.refused.filter (· ≠ p) ++ [p] }

/-- The hub at this end refuses the hub on port `p` (R174): its link carries link control only. -/
def State.refuseHub (s : State) (p : Nat) : State := (s.raise Ev.DM_LIMIT).shutOut p

/-- The link of port `p` is marked redundant (R172). -/
def State.markRedundant (s : State) (p : Nat) : State := ((s.raise Ev.DM_LOOP).linkOnly p).wr (DM_PEER.REDUNDANT p) 1

/-- The hub that answered a probe on port `p` has got no address: the host-role hub has refused it. -/
def State.unassigned (s : State) (p : Nat) : Bool := (s.dom.replyPort.any fun r => decide (r.2 = p)) && !s.on (DM_PEER.VALID p)

/-- PROBE_START (R172, R174, R177), with the time locked or 20 ms after link-up. A hub whose reply brought no address by the time its port is probed again has
been refused by the host-role hub, which has no message to say so (assumption row 150). -/
def State.probeStart (s : State) (p : Nat) : State :=
  let again := s.dom.refused.contains p
  if ¬ s.linkIsUp p ∨ s.peerPort p ∨ s.redundant p ∨ ¬ (s.lstate p = 4 ∨ again) ∨ ¬ (s.on (CL_STAT.TLOCK p) ∨ (s.link p).upAt + 200000000 ≤ s.uptime) then s
  else if ¬ s.hostRole ∧ (¬ s.on DM_ID.VALID ∨ p = s.rd DM_ID.UPPORT) then s
  else if s.hostRole ∧ s.on DM_CFG.DUAL ∧ (s.link p).peerRole = 1 then s.sendRoleSwap p 1
  else
    let hop := (if s.hostRole then 0 else s.rd DM_ID.HOP) + 1
    if 5 ≤ hop then (if again then s else s.refuseHub p)
    else if ¬ again ∧ s.unassigned p then s.shutOut p
    else
      let s := if again then (s.linkOpen p).modDom fun d => { d with refused := d.refused.filter (· ≠ p) } else s
      s.neighMsg p 0x80 (be 1 hop ++ be 1 p ++ be 2 0 ++ be 8 s.uid)

def execProbeStart (p : Fin 6) (s : State) : Res := .next (s.probeStart p)

/-- ENUM_REPLY of this hub (R172 step 2). -/
def State.enumReplyBody (s : State) (p : Nat) : List Byte :=
  let linked := ((List.range 6).map fun q => if s.linkIsUp q then 2 ^ q else 0).sum
  be 1 (s.versBitmap p) ++ be 1 (s.offeredRole p) ++ be 1 linked ++ be 1 0 ++ be 8 s.uid ++
    be 2 (((List.range 256).filter fun a => decide (a ≠ 0 ∧ s.adpType a ≠ 0)).length)

/-- ENUM_PROBE on port `p` (R172, R177, R194): a dual-role host-role hub yields; the first probe's port becomes the upstream port, one on another port is
kept until its reply has left. -/
def State.enumProbe (s : State) (p hop : Nat) : State :=
  let s := if s.hostRole ∧ s.on DM_CFG.DUAL then s.yieldRole else s
  let s := if ¬ s.hostRole ∧ (s.rd DM_ID.UPPORT = 7 ∨ s.rd DM_ID.UPPORT = p) then (s.wr DM_ID.UPPORT p).modDom fun d => { d with probeHop := hop }
    else s.modDom fun d => { d with twice := d.twice.filter (fun e => decide (e.1 ≠ p)) ++ [(p, hop, false)] }
  s.neighMsg p 0x81 (s.enumReplyBody p)

/-- A second probe of this hub came on port `p` and the reply has left (R172, R174, R194). A host-role hub refuses the link, with ROLE_CONFLICT toward a
host-role prober (R177). A hub with an address marks it redundant, once its own probe of that end has been answered or where the prober is the host-role
hub, which recognises it (assumption row 150). -/
def State.checkTwice (s : State) (p : Nat) : State :=
  match s.dom.twice.find? fun e => decide (e.1 = p) with
  | some (_, hop, true) =>
    if s.hostRole then
      if s.dom.refused.contains p ∨ s.redundant p then s
      else (if hop = 1 ∧ (s.link p).peerRole = 1 then s.raise Ev.DM_ROLE_CONFLICT else s).refuseHub p
    else if s.on DM_ID.VALID ∧ ¬ s.redundant p ∧ s.rd DM_ID.UPPORT ≠ p ∧ (hop = 1 ∨ (s.dom.replyPort.any fun r => decide (r.2 = p))) then s.markRedundant p
    else s
  | _ => s

/-- The ENUM_REPLY to a probe on port `p` has left. -/
def State.replySent (s : State) (p : Nat) : State :=
  (s.modDom fun d => { d with twice := d.twice.map fun e => if e.1 = p then (p, e.2.1, true) else e }).checkTwice p

def execEnumProbe (p : Fin 6) (hop : Fin 8) (s : State) : Res := .next (if s.peerPort p then s else s.enumProbe p hop)

/-- The position a UID gets (R173): none when it must wait or all are held. -/
def State.choosePosition (s : State) (uid : Nat) : Option Nat :=
  let e := fun i => Tab.get ({} : PosEntry) s.dom.positions i
  let free := (List.range 64).filter fun i => decide (i ≠ 0) && !(e i).held
  let since := fun (i n : Nat) => match (e i).leftAt with
    | none => true
    | some t => decide (t + n ≤ s.uptime)
  match free.find? fun i => decide ((e i).uid = uid ∧ (e i).leftAt.isSome) with
  | some i => if since i 20000000 then some i else none
  | none =>
    match free.find? fun i => since i (max 20000000 (s.rd DM_CFG.REUSE * 10000000000)) with
    | some i => some i
    | none => free.find? fun i => since i 20000000

/-- All 63 positions are held. -/
def State.positionsFull (s : State) : Bool := ((List.range 64).drop 1).all fun i => (Tab.get ({} : PosEntry) s.dom.positions i).held

/-- Send ADDR_ASSIGN for a hub behind port `port` of hub `parent` (R172 step 3). -/
def State.sendAssign (s : State) (parent port addr uid : Nat) : State :=
  let body := be 2 addr ++ be 2 (s.rd DM_CFG.STRING) ++ be 8 uid
  if parent = s.hubAddr then ((s.neighMsg port 0x82 body).wr (DM_PEER.ADDR port) addr).wr (DM_PEER.VALID port) 1
  else s.domMsg parent 0 0x82 body

/-- The host-role hub handles a reply from behind port `port` of hub `parent` (R172 to R174). -/
def State.assignPosition (s : State) (parent port uid : Nat) : State :=
  match s.dom.hubs.find? fun h => decide (h.uid = uid) with
  | some h =>
    if h.parent = parent ∧ h.port = port then s.sendAssign parent port h.addr uid
    else
      if parent = s.hubAddr then s.markRedundant port else s.raise Ev.DM_LOOP
  | none =>
    if uid = s.uid then s.raise Ev.DM_LOOP
    else match s.choosePosition uid with
    | some i =>
      let addr := s.rd DM_CFG.STRING * 64 + i
      let s := s.modDom fun d => { d with
        positions := Tab.put {} d.positions i { uid := uid, held := true }
        hubs := d.hubs ++ [{ addr := addr, uid := uid, parent := parent, port := port }] }
      s.showPositions.sendAssign parent port addr uid
    | none =>
      if s.positionsFull then (if parent = s.hubAddr then s.refuseHub port else s.raise Ev.DM_LIMIT) else s

/-- ENUM_REPLY (R172, R174, R177): in neighbour form on port `via`, or from the prober `src`, whose port is `port`. -/
def State.enumReply (s : State) (via : Option Nat) (src port : Nat) (vers role linked uid declared : Nat) : State :=
  match via with
  | none => if s.hostRole then s.assignPosition src port uid else s
  | some p =>
    if role = 1 ∧ ¬ s.peerPort p then
      if s.dom.refused.contains p then s else (if s.hostRole then s.raise Ev.DM_ROLE_CONFLICT else s).refuseHub p
    else if s.hostRole then s.assignPosition s.hubAddr p uid
    else
      let s := s.modDom fun d => { d with replyPort := d.replyPort.filter (fun r => decide (r.1 ≠ uid)) ++ [(uid, p)] }
      (s.domMsg s.hostAddr 0 0x81 (be 1 vers ++ be 1 role ++ be 1 linked ++ be 1 0 ++ be 8 uid ++ be 2 declared)).checkTwice p

def execEnumReply (via : Option (Fin 6)) (src : Fin 16384) (port : Fin 6) (vers : Fin 16) (role : Fin 3) (linked : Fin 64)
    (uid : BitVec 64) (declared : Fin 256) (s : State) : Res :=
  .next (s.enumReply (via.map Fin.val) src port vers role linked uid.toNat declared)

/-- ADDR_ASSIGN with this hub's UID (R172 step 4). It then asks for the tunnels of its image to hubs other than the host-role hub, which asks for its own
(R172 step 5, assumption row 151); a second probe that waited for the address is judged (R194). -/
def State.takeAddress (s : State) (addr : Nat) : State :=
  let s := ((s.wr DM_ID.ADDR addr).wr DM_ID.VALID 1).wr DM_ID.HOP s.dom.probeHop
  let s := s.domMsg (addr / 64 * 64) 0 0x84 (be 2 0 ++ be 1 0)
  let s := s.eachIn ((List.range 256).filter fun a => s.pairedWith a (s.rd (TA_PEER.HUB a)) && decide (s.rd (TA_PEER.HUB a) ≠ addr ∧
    s.rd (TA_PEER.HUB a) ≠ addr / 64 * 64)) fun a t => t.sendTunnelOpen a
  s.each 6 fun p t => t.checkTwice p

/-- ADDR_ASSIGN with another UID in neighbour form on port `p` (R182): the partner announces itself. A duplicate of this hub's address keeps the link to link
control until the next announcement. -/
def State.peerAddress (s : State) (p addr : Nat) : State :=
  let s := (s.wr (DM_PEER.ADDR p) addr).wr (DM_PEER.VALID p) 1
  let was := s.dom.dup.contains p
  let s := s.modDom fun d => { d with dup := d.dup.filter (· ≠ p) }
  if s.on DM_ID.VALID ∧ addr = s.hubAddr then
    let s := s.raise Ev.DM_DUP_ADDR
    (if s.lstate p = 4 then s.linkOnly p else s).modDom fun d => { d with dup := if was ∨ s.lstate p = 4 then d.dup ++ [p] else d.dup }
  else if s.linkIsUp p ∧ s.lstate p = 6 ∧ was then s.linkOpen p else s

/-- ADDR_ASSIGN (R172, R182): in neighbour form on port `p`, or at the prober, which relays it on the port the reply came from. For a hub lost meanwhile the
prober sends HUB_GONE (R194). -/
def State.addrAssign (s : State) (p : Option Nat) (addr str uid : Nat) : State :=
  match p with
  | some p => if uid = s.uid then (if s.hostRole then s else s.takeAddress addr) else s.peerAddress p addr
  | none =>
    match s.dom.replyPort.find? fun r => decide (r.1 = uid) with
    | some (_, q) =>
      ((s.neighMsg q 0x82 (be 2 addr ++ be 2 str ++ be 8 uid)).wr (DM_PEER.ADDR q) addr).wr (DM_PEER.VALID q) 1
    | none => s.domMsg s.hostAddr 0 0x87 (hubGoneBody addr 0)

def execAddrAssign (p : Option (Fin 6)) (addr : Fin 16384) (str : Fin 65536) (uid : BitVec 64) (s : State) : Res :=
  .next (s.addrAssign (p.map Fin.val) addr str uid.toNat)

/-- PEER_ANNOUNCE (R182): also while a duplicate address keeps the link to link control. -/
def execPeerAnnounce (p : Fin 6) (s : State) : Res :=
  .next (if s.peerPort p ∧ (s.domainPort p ∨ (s.linkIsUp p ∧ s.dom.dup.contains p)) ∧ s.on DM_ID.VALID then
    s.neighMsg p 0x82 (be 2 s.hubAddr ++ be 2 (s.hubAddr / 64) ++ be 8 s.uid)
  else s)

/-! ### Routes (R172 step 5, R178) -/

/-- ROUTE_SET (R178): checked whole; entries [31:18] hub, [17:15] port, [14:12] alternate. -/
def State.routeSet (s : State) (src count : Nat) (entries : List Nat) : State :=
  if 12 < count ∨ entries.length < count then s.domMsg src 0 0x84 (be 2 0 ++ be 1 3)
  else
    let s := s.eachIn (entries.take count) fun e t =>
      (t.wr (DM_RT.PORT (bitsOf e 18 14)) (bitsOf e 15 3)).wr (DM_RT.ALT (bitsOf e 18 14)) (bitsOf e 12 3)
    s.domMsg src 0 0x84 (be 2 count ++ be 1 0)

def execRouteSet (src : Fin 16384) (count : Fin 65536) (entries : List (BitVec 32)) (s : State) : Res :=
  .next (s.routeSet src count (entries.map BitVec.toNat))

/-- The hubs between the host-role hub and a hub, nearest it first, each with its port on the way; `fuel`: at most 4 hops (R174). -/
def State.pathTo (s : State) (h : HubEntry) : Nat → List (Nat × Nat)
  | 0 => []
  | fuel + 1 => match s.dom.hubs.find? fun g => decide (g.addr = h.parent) with
    | some g => (h.parent, h.port) :: s.pathTo g fuel
    | none => [(h.parent, h.port)]

/-- Send the ROUTE_SET at the head of those waiting. -/
def State.sendRoute (s : State) : State :=
  match s.dom.routes with
  | (target, new, port) :: _ => s.domMsg target 0 0x83 (be 2 1 ++ be 2 0 ++ be 4 (new * 2 ^ 18 + port * 2 ^ 15 + 7 * 2 ^ 12))
  | [] => s

/-- A new hub has its address: routes toward it on its path, then its tunnels (R172 step 5). -/
def State.routeNew (s : State) (h : HubEntry) : State :=
  let s := s.modDom fun d => { d with hubs := d.hubs.map fun g => if g.uid = h.uid then { g with acked := true } else g }
  let path := s.pathTo h 5
  let s := match path.find? fun e => decide (e.1 = s.hubAddr) with
    | some e => (s.wr (DM_RT.PORT h.addr) e.2).wr (DM_RT.ALT h.addr) 7
    | none => s
  let sets := (path.filter fun e => decide (e.1 ≠ s.hubAddr)).map fun e => (e.1, h.addr, e.2)
  let first := s.dom.routes.isEmpty
  let s := s.modDom fun d => { d with routes := d.routes ++ sets }
  if sets.isEmpty then s.openTunnelsTo h.addr else if first then s.sendRoute else s

/-- ROUTE_ACK (R172): of a hub that took its address, or of the outstanding ROUTE_SET. -/
def State.routeAck (s : State) (src : Nat) : State :=
  match s.dom.routes with
  | (target, new, _) :: rest =>
    if target = src then
      let s := (s.modDom fun d => { d with routes := rest }).sendRoute
      if rest.any fun r => decide (r.2.1 = new) then s else s.openTunnelsTo new
    else match s.dom.hubs.find? fun h => decide (h.addr = src) && !h.acked with
      | some h => s.routeNew h
      | none => s
  | [] => match s.dom.hubs.find? fun h => decide (h.addr = src) && !h.acked with
    | some h => s.routeNew h
    | none => s

def execRouteAck (src : Fin 16384) (_applied : Fin 65536) (_status : Fin 256) (s : State) : Res := .next (if s.hostRole then s.routeAck src else s)

/-! ### Hubs and links that go (R175) -/

/-- The position of a gone hub is free (R175). -/
def State.freePosition (s : State) (h : Nat) : State :=
  let i := h % 64
  let e := Tab.get ({} : PosEntry) s.dom.positions i
  let s := s.modDom fun d => { d with
    hubs := d.hubs.filter (fun g => decide (g.addr ≠ h)), routes := d.routes.filter (fun r => decide (r.1 ≠ h ∧ r.2.1 ≠ h))
    positions := if e.held then Tab.put {} d.positions i { e with held := false, leftAt := some s.uptime } else d.positions }
  (s.dropRoute h).showPositions

/-- A RELAY waits for a hub (R446). -/
def relayTo (h : Nat) (w : Wait) : Bool :=
  match w with
  | .relay d _ => decide (d = h)
  | _ => false

/-- A hub is gone (R175, R194, R446): the RELAYs that wait for it are answered ABORTED; the entry toward a hub of this string goes. -/
def State.hubGone (s : State) (h : Nat) : State :=
  let s := (s.cmd.entries.filter fun e => e.running && relayTo h e.wait).foldl (fun t e => t.answer e stAborted 0 []) (s.closeToward h)
  if s.hostRole then (if s.dom.hubs.any (fun g => decide (g.addr = h)) then s.freePosition h else s)
  else if h / 64 = s.hubAddr / 64 ∧ h ≠ s.hostAddr then s.dropRoute h else s

/-- The hubs the host-role hub reached through its port `p`; `fuel` bounds the depth. -/
def State.subtree (s : State) : Nat → List Nat → List Nat
  | 0, l => l
  | fuel + 1, l => s.subtree fuel (l ++ (s.dom.hubs.filter fun h => l.contains h.parent && !l.contains h.addr).map HubEntry.addr)

/-- What HUB_GONE does at the hub that receives it (R175): the host-role hub tells the other hubs of its string, any of which may have a tunnel to the lost
one. -/
def State.hubGoneMsg (s : State) (h : Nat) : State :=
  let lost := s.subtree 4 [h]
  let rest := if s.hostRole ∧ s.dom.hubs.any (fun g => decide (g.addr = h)) then (s.dom.hubs.map HubEntry.addr).filter fun g => !lost.contains g else []
  (s.eachIn rest fun hub t => t.domMsg hub 0 0x87 (hubGoneBody h 0)).hubGone h

/-- The hubs with a routing entry through port `p`. -/
def State.routedThrough (s : State) (p : Nat) : List Nat :=
  s.regs.filterMap fun e =>
    if DM_RT 0 ≤ e.1 ∧ e.1 < DM_RT 16384 ∧ getField e.2 0 3 = p then some ((e.1 - DM_RT 0) / 4) else none

/-- The hubs lost with port `p`: below it in the string (R175). -/
def State.lostHubs (s : State) (p : Nat) : List Nat :=
  if s.peerPort p then []
  else if s.hostRole then s.subtree 4 ((s.dom.hubs.filter fun h => decide (h.parent = s.hubAddr ∧ h.port = p)).map HubEntry.addr)
  else if s.rd DM_ID.UPPORT = p then []
  else
    let l := s.routedThrough p
    if s.on (DM_PEER.VALID p) ∧ ¬ l.contains (s.rd (DM_PEER.ADDR p)) then l ++ [s.rd (DM_PEER.ADDR p)] else l

/-- The link of port `p` has gone down (R175, R186): HUB_GONE with reason 0 for the lost hubs, to the host-role hub, and from the host-role hub to
the other hubs of its string, any of which may have a tunnel to them; this hub closes its own adapters. -/
def State.domainPortLost (s : State) (p : Nat) : State :=
  let lost := s.lostHubs p
  let s := s.setReg (DM_PEER p) 0
  let s := if s.rd DM_ID.UPPORT = p then s.wr DM_ID.UPPORT 7 else s
  let s := s.modDom fun d => { d with
    refused := d.refused.filter (· ≠ p), replyPort := d.replyPort.filter (fun r => decide (r.2 ≠ p)), swapAsked := d.swapAsked.filter (· ≠ p)
    twice := d.twice.filter (fun e => decide (e.1 ≠ p)), dup := d.dup.filter (· ≠ p) }
  let s := s.eachIn lost fun h t =>
    let t := if t.hostRole then t.eachIn ((t.dom.hubs.map HubEntry.addr).filter fun g => !lost.contains g) fun hub u => u.domMsg hub 0 0x87 (hubGoneBody h 0)
      else t.domMsg t.hostAddr 0 0x87 (hubGoneBody h 0)
    t.hubGone h
  s.setHeard p none

/-! ### The paddock (R188 to R190) -/

def State.setPdk (s : State) (l : List PdkEntry) : State := (s.mapSw fun w => { w with pdk := l }).wr DM_PDK_STAT.DEPTH l.length

/-- SKEW in ns (R195). -/
def State.skewNs (s : State) : Nat := max 2 (min 500 (s.rd DM_PDK_CFG.SKEW)) * 1000

/-- The entry that leaves first: by release time, equal stamps in SEQ order (R188). -/
def earliest (l : List PdkEntry) : Option PdkEntry :=
  l.foldl (fun b e =>
    match b with
    | none => some e
    | some f => if e.release < f.release ∨ (e.release = f.release ∧ e.adp = f.adp ∧ 32768 ≤ seqAhead e.seq f.seq) then some e else b) none

/-- Release an entry to its engine (R188): it leaves the paddock, and waits in the buffer while its home queue has no room (R113). -/
def State.pdkRelease (s : State) (e : PdkEntry) : State :=
  let s := s.setPdk (s.sw.pdk.erase e)
  if s.queueRoom (s.home e.adp) 1 ∧ (s.sw.pdkOut.all fun k => decide (s.home k.2 ≠ s.home e.adp)) then s.pdkEnter e.id e.adp
  else (s.mapSw fun w => { w with pdkOut := w.pdkOut ++ [(e.id, e.adp)] }).raise (Ev.SE_QFULL (s.home e.adp))

/-- PADDOCK_ARRIVE (R188, R189): the oldest packet that goes through the paddock. -/
def State.paddockArrive (s : State) : State :=
  match s.sw.pdkIn with
  | [] => s
  | (id, adp) :: rest =>
    let s := s.mapSw fun w => { w with pdkIn := rest }
    match s.stored id with
    | none => s.forgetLocal id adp
    | some st =>
      let e : PdkEntry := { id := id, adp := adp, release := fullStamp st.pkt.ts s.time + s.skewNs, seq := st.pkt.seq }
      let s := if 8192 ≤ s.sw.pdk.length then
          let s := (s.raise Ev.DM_PDK_FULL).satAdd DM_PDK_CNT.FULL 1
          match earliest s.sw.pdk with
          | some f => s.pdkRelease f
          | none => s
        else s
      let s := s.setPdk (s.sw.pdk ++ [e])
      if e.release < s.time.toNs then ((s.raise Ev.DM_PDK_LATE).satAdd DM_PDK_CNT.LATE 1).pdkRelease e else s

def execPaddockArrive (s : State) : Res := .next s.paddockArrive

/-- PADDOCK_RELEASE (R188): the earliest packet leaves once its release time has come. -/
def State.paddockRelease (s : State) : State :=
  match earliest s.sw.pdk with
  | some e => if e.release ≤ s.time.toNs then s.pdkRelease e else s
  | none => s

def execPaddockRelease (s : State) : Res := .next s.paddockRelease

/-! ### Messages without a further effect here -/

/-- EVENT_NOTIFY (R82): relayed on the USB interrupt endpoint, or discarded. -/
def execEventNotify (src : Fin 16384) (entry : List Byte) (s : State) : Res :=
  .next (if s.cmd.notifyUsb then
    if s.cmd.usbReady then (s.notifyUsb (entry.take 28 ++ le 2 src ++ le 1 1 ++ entry.drop 31)).getD s.notifyLost else s
  else s)

/-- PATH_PROBE (R82): the spec gives its receipt no effect beyond its delivery to A0. -/
def execPathProbe (_path : Fin 256) (_sent : Time) (s : State) : Res := .next s

end Sys2Proof.Machine
end

