-- ==== Sys2Proof/Machine/Net.lean ====
section
/-!
DEFINITION. Ethernet MACs and domain time (R274 to R299). A received gPTP message is the firmware's: what it yields is the sample of SERVO_SAMPLE.
-/

namespace Sys2Proof.Machine

/-! ### Domain time (R283 to R285) -/

/-- An increment of the counter in 2^-32 ns. -/
def State.incNominal (s : State) : Nat := s.rd TM_INC_NOM_NS.NS * 2 ^ 32 + s.rd TM_INC_NOM_FRAC.FRAC
def State.incEffective (s : State) : Nat := s.rd TM_INC_EFF_NS.NS * 2 ^ 32 + s.rd TM_INC_EFF_FRAC.FRAC
def State.setIncEffective (s : State) (v : Nat) : State :=
  (s.wr TM_INC_EFF_NS.NS (v / 2 ^ 32)).wr TM_INC_EFF_FRAC.FRAC (v % 2 ^ 32)

/-- FREQ in 1/256 ppb. -/
def State.freq (s : State) : Int := toSigned 32 (s.rd TM_FREQ.FREQ)

/-- A quotient rounded to the nearest, halves up. -/
def roundDiv (a : Int) (b : Nat) : Int := (2 * a + b) / (2 * b)

/-- The adjustment of the increment for FREQ and a slew of `-th / 2^kp` sixteenths of a ns over `ms` (R285, R287), before the clamp. -/
def incAdjust (nom : Nat) (freq th : Int) (kp ms : Nat) : Int :=
  let d := 16 * 2 ^ kp * ms * 156250
  roundDiv (nom * freq * d - th * 2 ^ 32 * 256000000000) (256000000000 * d)

/-- Set the effective increment (R285); answers whether MAX_PPM limited it. -/
def State.applyIncrement (s : State) (th : Int) (ms : Nat) : Bool × State :=
  let nom := s.incNominal
  let adj := incAdjust nom s.freq th (s.rd TM_SERVO.KP_SH) ms
  let lim : Int := (nom * s.rd TM_SERVO.MAX_PPM / 1000000 : Nat)
  let c := max (-lim) (min lim adj)
  (decide (c ≠ adj), s.setIncEffective ((nom : Int) + c).toNat)

/-- The increment with the slew ended. -/
def State.endSlew (s : State) : State := { (s.applyIncrement 0 1).2 with tm := { s.tm with slewLeft := 0 } }

/-- The whole second at which TPPS_OUT rises (R296). -/
def State.ppsRise (s : State) : State :=
  if s.on TM_PPS.OUT_EN then { s with tm := { s.tm with ppsHigh := true } }.send (.pin 5 0 1) else s

/-- Advance by `n` ticks none of which ends the slew. -/
def State.addTicks (s : State) (n : Nat) : State :=
  let inc := s.incEffective * n
  let t := s.time.add (inc / 2 ^ 32) (inc % 2 ^ 32)
  let up := decide (t.sec ≠ s.time.sec)
  let s := { s with time := t, uptime := s.uptime + 64 * n, tm := { s.tm with slewLeft := s.tm.slewLeft - n } }
  if up then s.ppsRise else s

/-- One tick of TICK (R283). -/
def State.timeTick (s : State) : State :=
  let s' := s.addTicks 1
  if s.tm.slewLeft = 1 then s'.endSlew else s'

/-- Ticks until the nanoseconds count reaches 10^9 at an increment. -/
def State.ticksToSecond (s : State) (inc : Nat) : Nat :=
  let left := 1000000000 * 2 ^ 32 - (s.time.ns * 2 ^ 32 + s.time.frac)
  (left + inc - 1) / inc

/-- SECONDS_ROLLOVER (R283, R296): the ticks up to the one at which the seconds count increments. -/
def State.secondsRollover (s : State) : State :=
  if s.incEffective = 0 then s
  else
    let n := s.ticksToSecond s.incEffective
    if s.tm.slewLeft = 0 ∨ n ≤ s.tm.slewLeft then
      let s' := s.addTicks n
      if s.tm.slewLeft = n then s'.endSlew else s'
    else
      let s := (s.addTicks s.tm.slewLeft).endSlew
      if s.incEffective = 0 then s else s.addTicks (s.ticksToSecond s.incEffective)

/-! ### The servo (R286 to R290) -/

/-- The source that steers the counter (R286): 0 to 5 a cable port, 6 and 7 a MAC, 8 TPPS_IN. -/
def State.timeSource (s : State) : Option Nat :=
  match s.bestAnnounce with
  | some (_, none) => match s.rd TM_SRC.SRC with
    | 1 => some 6
    | 2 => some 7
    | 3 => some 8
    | _ => none
  | b =>
    let slave := (List.range 6).filter fun p => s.linkIsUp p && !s.spanEdge p && !s.timeMaster p
    if slave.isEmpty then none
    else match b with
      | some (_, some p) => some p
      | _ => slave.head?

/-- KIND and INPORT of TM_STAT (R286, R299): without a source, own counter at the grandmaster, else 0 as at reset. -/
def State.timeKind (s : State) : Nat :=
  match s.timeSource with
  | some p => if p < 6 then 0 else if p = 8 then 3 else 2
  | none => match s.bestAnnounce with
    | some (_, none) => 1
    | _ => 0
def State.timeInport (s : State) : Nat :=
  match s.timeSource with
  | some p => if p < 6 then p else 7
  | none => 7

/-- What one source number of TM_SRC.SRC selects. -/
def extSource (src : Nat) : Nat := if src = 3 then 8 else 5 + src

/-- A frame that a MAC is sending at a step of domain time goes on after its gate has closed when the rest of it no longer fits its queue's window (R281,
R297). -/
def State.gateOverrun (s : State) (m : Nat) : State :=
  match (s.mac m).sending with
  | some (q, t) =>
    if s.uptime < t ∧ s.on (EN_GCL_CTRL.EN m) ∧ ¬ windowFits (s.macGates m) s.time.ns q ((t - s.uptime + 9) / 10) then
      s.raise (Ev.EN_GATE_OVERRUN m)
    else s
  | none => s

/-- Domain time steps (R287, R297): the slew ends, FREQ is kept, a frame in progress may overrun its gate. -/
def State.stepTime (s : State) (t : Time) : State :=
  let up := decide (t.sec ≠ s.time.sec) && decide (t.ns = 0)
  let s := { s with time := t }.endSlew.raise Ev.TM_STEP
  let s := (s.gateOverrun 0).gateOverrun 1
  if up then s.ppsRise else s

/-- A time moved by sixteenths of a ns, never below 0. -/
def Time.shift16 (t : Time) (d : Int) : Time :=
  let n := ((t.toNs * 2 ^ 32 + t.frac : Nat) + d * 2 ^ 28).toNat
  let ns := n / 2 ^ 32
  { sec := ns / 1000000000 % 2 ^ 48, ns := ns % 1000000000, frac := n % 2 ^ 32 }

/-- What TM_CMD.STEP does: the TM_SET time with fraction 0. -/
def State.tmCmdStep (s : State) : State :=
  s.stepTime { sec := s.rd TM_SET_SEC_LO.SEC + 2 ^ 32 * s.rd TM_SET_SEC_HI.SEC, ns := s.rd TM_SET_NS.NS % 1000000000, frac := 0 }

/-- The external source is lost (R290): FREQ is held, the slew stops. -/
def State.sourceLost (s : State) : State :=
  let old := s.bestAnnounce
  let s := (((s.wr TM_STAT.SRC_LOCK 0).wr TM_STAT.HOLDOVER 1).endSlew).raise Ev.TM_SRC_LOSS
  { s with tm := { s.tm with good := 0, bad := 0 } }.gmChanged old

/-- Judge a sample of the external source (R290, R288). -/
def State.judgeExternal (s : State) (th : Int) : State :=
  let ok := decide (th.natAbs ≤ s.rd TM_SRC.LOCK_NS * 160)
  let good := if ok then s.tm.good + 1 else 0
  let bad := if ok then 0 else s.tm.bad + 1
  let s := { s with tm := { s.tm with good := good, bad := bad } }
  if 8 ≤ good ∧ ¬ s.on TM_STAT.SRC_LOCK then
    let old := s.bestAnnounce
    (((s.wr TM_STAT.SRC_LOCK 1).wr TM_STAT.HOLDOVER 0).onlyIf (s.on DM_GM.CAPABLE) fun t => t.wr TM_STAT.ACQUIRED 1).gmChanged old
  else if 3 ≤ bad ∧ s.on TM_STAT.SRC_LOCK then s.sourceLost
  else s

/-- A candidate acquires after 8 samples within 8 ns of a link master (R288). -/
def State.judgeLink (s : State) (th : Int) : State :=
  let n := if th.natAbs ≤ 128 then s.tm.close + 1 else 0
  let s := { s with tm := { s.tm with close := n } }
  if 8 ≤ n ∧ s.on DM_GM.CAPABLE ∧ s.rd TM_SRC.SRC = 0 ∧ ¬ s.on TM_STAT.ACQUIRED then
    let old := s.bestAnnounce
    (s.wr TM_STAT.ACQUIRED 1).gmChanged old
  else s

/-- Steer by a sample of offset `th` sixteenths of a ns and interval `ms` (R287). -/
def State.steer (s : State) (src : Nat) (th : Int) (ms : Nat) : State :=
  let s := s.wr TM_OFS.OFS (ofSigned 32 (satSigned 32 th))
  if s.rd TM_SERVO.STEP_THR * 16000 < th.natAbs ∧ (src < 6 ∨ s.on TM_SRC.EXT_STEP) then s.stepTime (s.time.shift16 (-th))
  else
    let f := s.freq - roundDiv (th * 16000) (ms * 2 ^ s.rd TM_SERVO.KI_SH)
    let s := s.wr TM_FREQ.FREQ (ofSigned 32 (satSigned 32 f))
    let r := s.applyIncrement th ms
    let s := { r.2 with tm := { r.2.tm with slewLeft := ms * 156250 } }
    if r.1 then s.raise Ev.TM_SLEW_LIMIT else s

/-- The sample interval of a source in ms (R286). -/
def sampleMs (src ms : Nat) : Nat := if src < 6 then 1 else if src = 8 then 1000 else if ms = 0 then 125 else ms

/-- The servo holds FREQ: in holdover, until the source has locked again (assumption row 158), and in H2 (R369). -/
def State.holdsFreq (s : State) : Bool := s.on TM_STAT.HOLDOVER || decide (s.rd PS_STAT.STATE = 2)

/-- A time sample (R286 to R290): only the source in use steers. -/
def State.servoSample (s : State) (src : Nat) (th : Int) (ms : Nat) : State :=
  let used := decide (s.timeSource = some src)
  if src < 6 then (if used then (s.judgeLink th).steer src th 1 else s)
  else if s.rd TM_SRC.SRC ≠ 0 ∧ extSource (s.rd TM_SRC.SRC) = src then
    let s := s.judgeExternal th
    if used ∧ ¬ s.holdsFreq then s.steer src th (sampleMs src ms)
    else if used then s.wr TM_OFS.OFS (ofSigned 32 (satSigned 32 th)) else s
  else s

/-- SERVO_SAMPLE: `src` 0 to 5 a cable port, 6 and 7 a MAC, 8 TPPS_IN; offset in 1/16 ns; `ms` the Sync interval of a MAC's port, 0 for 125. -/
def execServoSample (src : Fin 9) (theta : Int) (ms : Fin 8192) (s : State) : Res := .next (s.servoSample src theta ms)

/-- SOURCE_NO_SAMPLE (R290): three intervals without a sample. -/
def execSourceNoSample (s : State) : Res :=
  .next (if s.rd TM_SRC.SRC ≠ 0 ∧ s.on TM_STAT.SRC_LOCK then s.sourceLost else s)

/-- ACQUIRE_TIMER (R288): 375 ms with no announcement heard. -/
def execAcquireTimer (s : State) : Res :=
  .next (if s.on DM_GM.CAPABLE ∧ s.rd TM_SRC.SRC = 0 ∧ ¬ s.on TM_STAT.ACQUIRED ∧ s.dom.heard.isEmpty then
    (s.wr TM_STAT.ACQUIRED 1).gmChanged s.bestAnnounce
  else s)

/-- SECONDS_ROLLOVER. -/
def execSecondsRollover (s : State) : Res := .next s.secondsRollover

/-- PPS_IN_EDGE (R296): the stamp of an edge, and the sample it gives. -/
def State.ppsInEdge (s : State) (t : Time) : State :=
  if s.on TM_PPS.IN_EN then
    let s := (s.wr TM_PPS_IN_NS.NS t.ns).wr TM_PPS_IN_SEC.SEC (t.sec % 2 ^ 32)
    let th : Int := t.ns * 16 + t.frac / 2 ^ 28
    s.servoSample 8 (if t.ns < 500000000 then th else th - 16000000000) 1000
  else s

def execPpsInEdge (t : Time) (s : State) : Res := .next (s.ppsInEdge t)

/-- PPS_MISS (R296). -/
def execPpsMiss (s : State) : Res := .next (if s.on TM_PPS.IN_EN then s.raise Ev.TM_PPS_MISS else s)

/-- PPS_PULSE_END (R296). -/
def execPpsPulseEnd (s : State) : Res :=
  .next (if s.tm.ppsHigh then { s with tm := { s.tm with ppsHigh := false } }.send (.pin 5 0 0) else s)

/-- What a read of TM_NS latches (R284). -/
def State.tmLatch (s : State) : State :=
  ((s.wr TM_FRAC.FRAC s.time.frac).wr TM_SEC_LO.SEC (s.time.sec % 2 ^ 32)).wr TM_SEC_HI.SEC (s.time.sec / 2 ^ 32)

/-! ### PTP stamps (R291 to R295) -/

/-- The PTP header of a frame with EtherType 0x88F7, untagged or with one tag. -/
def ptpOverEthernet (f : List Byte) : Option (List Byte) :=
  if beAt f 12 2 = 0x88F7 then some (f.drop 14)
  else if ethTagged f ∧ beAt f 16 2 = 0x88F7 then some (f.drop 18) else none

/-- The PTP header of a frame in UDP to port 319 over IPv4 or IPv6. -/
def ptpOverUdp (f : List Byte) : Option (List Byte) :=
  let o := if ethTagged f then 18 else 14
  let ip := f.drop o
  let ty := beAt f (o - 2) 2
  let udp := if ty = 0x0800 ∧ byteAt ip 9 = 17 then some (ip.drop (byteAt ip 0 % 16 * 4))
    else if ty = 0x86DD ∧ byteAt ip 6 = 17 then some (ip.drop 40) else none
  match udp with
  | some u => if beAt u 2 2 = 319 then some (u.drop 8) else none
  | none => none

/-- messageType and sequenceId of an event message that MAC `m` stamps (R291). -/
def State.ptpEvent (s : State) (m : Nat) (f : List Byte) : Option (Nat × Nat) :=
  let h := match ptpOverEthernet f with
    | some h => if s.rd (EN_CFG.PTP_MODE m) = 2 ∨ s.rd (EN_CFG.PTP_MODE m) = 1 then some h else none
    | none => if s.rd (EN_CFG.PTP_MODE m) = 2 then ptpOverUdp f else none
  match h with
  | some h => if byteAt h 0 % 16 ≤ 3 then some (byteAt h 0 % 16, beAt h 30 2) else none
  | none => none

/-- Enter a transmit stamp (R294). -/
def State.txStamp (s : State) (m msg id : Nat) : State :=
  let t := s.time.shift16 (s.rd (EN_PTP_LAT.TX m))
  if 64 ≤ (s.mac m).stamps.length then (s.satAdd (EN_TXTS_STAT.OVF m) 1).raise (Ev.EN_TXTS_OVF m)
  else s.modMac m fun x => { x with stamps := x.stamps ++ [(msg, id, t.sec, t.ns, t.frac / 2 ^ 28)] }

/-- What a read of EN_TXTS_HEAD answers and does (R294). -/
def State.txHead (s : State) (m : Nat) : Word × State :=
  match (s.mac m).stamps with
  | [] => (0#32, s)
  | (msg, id, sec, ns, fr) :: rest =>
    let s := s.modMac m fun x => { x with stamps := rest }
    (BitVec.ofNat 32 (1 + msg * 16 + fr * 256 + id * 65536), (s.wr (EN_TXTS_NS.NS m) ns).wr (EN_TXTS_SEC.SEC m) (sec % 2 ^ 32))

/-- A message of the firmware's gPTP port (R295): its type, sequenceId, time, grandmaster and clock class are shown, not its bytes. -/
def State.gptpMsg (s : State) (m type id : Nat) (t : Time) : State :=
  let gm := s.bestAnnounce
  s.send (.bus 4 m 0 (be 1 type ++ be 2 id ++ t.be ++ be 8 ((gm.map fun g => g.1.uid).getD s.uid) ++
    be 1 ((gm.map fun g => g.1.cls).getD (s.rd DM_GM.CLASS))))

/-- The firmware's gPTP port sends an event message (R295), reads its stamp back, and, two-step, sends the stamp of a Sync or a Pdelay_Resp after it
(messageType 8 or 10 of IEEE 802.1AS, assumption row 7). -/
def State.gptpSend (s : State) (m type id : Nat) : State :=
  let stamp := s.time.shift16 (s.rd (EN_PTP_LAT.TX m))
  let s := (((s.gptpMsg m type id s.time).txStamp m type id).txHead m).2
  if type = 0 then s.gptpMsg m 8 id stamp else if type = 3 then s.gptpMsg m 10 id stamp else s

/-- A gPTP message the firmware receives (R295): a Pdelay_Req is answered; what a Sync yields is the sample of SERVO_SAMPLE. -/
def State.gptpReceive (s : State) (m : Nat) (h : List Byte) : State := if byteAt h 0 % 16 = 2 then s.gptpSend m 3 (beAt h 30 2) else s

/-- GPTP_SYNC_TIMER (R295): a master port, one TM_SRC.SRC does not name. -/
def execGptpSyncTimer (m : Fin 2) (s : State) : Res :=
  .next (if s.rd (EN_CFG.PTP_MODE m) = 1 ∧ s.rd TM_SRC.SRC ≠ m.val + 1 ∧ s.on (EN_STAT.LINK m) then
    (s.gptpSend m 0 (s.mac m).seqSync).modMac m fun x => { x with seqSync := (x.seqSync + 1) % 65536 }
  else s)

/-- PDELAY_TIMER (R295). -/
def execPdelayTimer (m : Fin 2) (s : State) : Res :=
  .next (if s.rd (EN_CFG.PTP_MODE m) = 1 ∧ s.on (EN_STAT.LINK m) then
    (s.gptpSend m 2 (s.mac m).seqDelay).modMac m fun x => { x with seqDelay := (x.seqDelay + 1) % 65536 }
  else s)

/-! ### Receiving (R276 to R280) -/

/-- The adapter of a received frame (R277); 0 for none. -/
def State.frameAdapter (s : State) (m : Nat) (f : List Byte) : Nat :=
  let e := if ethTagged f then
      (List.range 8).find? fun v => s.on (EN_VLMAP.EN m v) && decide (s.rd (EN_VLMAP.VID m v) = ethVid f)
    else none
  match e with
  | some v => s.rd (EN_VLMAP.ADP m v)
  | none => s.rd (EN_ADPMAP.DEF_ADP m)

/-- FRAME_RECEIVE: a frame without its FCS, whether its FCS was good, and its stamp at the PHY interface (R276 to R278, R291 to R293). -/
def State.frameReceive (s : State) (m : Nat) (f : List Byte) (fcsOk : Bool) (stamp : Time) : State :=
  if s.rd (EN_CFG.IF m) = 0 ∨ ¬ s.on (EN_STAT.LINK m) then s
  else if fcsOk = false ∨ f.length < 60 ∨ s.rd (EN_CFG.MAXLEN m) < f.length then s.raise (Ev.EN_FCS_ERR m)
  else
    let s := s.wrapAdd (EN_RX_FRAMES.COUNT m) 1
    match if s.rd (EN_CFG.PTP_MODE m) = 1 then ptpOverEthernet f else none with
    | some h => s.gptpReceive m h
    | none =>
      let a := s.frameAdapter m f
      let p := s.framePcp m f
      if a = 0 then s.raise (Ev.EN_NO_ADP m)
      else if ¬ s.adpSends a then s
      else if s.rd (EN_RXBUF.SIZE m p) * 256 < s.partitionUse m p + f.length ∧ ¬ bitOf (s.rd (EN_PFC.TX_EN m)) p then
        (s.satAdd (EN_RX_DROP.COUNT m) 1).raise (Ev.EN_RX_DROP m)
      else
        let ts := (stamp.shift16 (-(s.rd (EN_PTP_LAT.RX m) : Int))).stamp
        (s.accept a { bytes := f, ts := ts, part := some p }).flowControl m

def execFrameReceive (m : Fin 2) (frame : List Byte) (fcsOk : Bool) (stamp : Time) (s : State) : Res :=
  .next (s.frameReceive m frame fcsOk stamp)

/-- PFC_REPEAT (R279): of priority `p`, or of PAUSE for 8, while the use stays above XON. -/
def execPfcRepeat (m : Fin 2) (p : Fin 9) (s : State) : Res :=
  .next (if (s.mac m).xoff.contains p.val then s.sendPause m p (s.rd (EN_PAUSE.QUANTA m)) else s)

/-- The pause of one priority is set or ended. -/
def State.setPause (s : State) (m p quanta : Nat) : State :=
  s.modMac m fun x => { x with paused := x.paused.filter (· ≠ p) ++ (if quanta = 0 then [] else [p]) }

/-- PFC_FRAME (R280): a PFC frame's class-enable vector and quanta, or a PAUSE frame with its quanta first. -/
def State.pfcFrame (s : State) (m : Nat) (pfc : Bool) (enable : Nat) (quanta : List Nat) : State :=
  let s := s.wrapAdd (EN_PAUSE_RX.COUNT m) 1
  if pfc then
    s.each 8 fun p t => if bitOf enable p ∧ bitOf (t.rd (EN_PFC.RX_EN m)) p then t.setPause m p (quanta.getD p 0) else t
  else if s.on (EN_PFC.LLFC m) then s.setPause m 8 (quanta.getD 0 0) else s

def execPfcFrame (m : Fin 2) (pfc : Bool) (enable : Fin 256) (quanta : List (Fin 65536)) (s : State) : Res :=
  .next (s.pfcFrame m pfc enable (quanta.map Fin.val))

/-- PAUSE_EXPIRE (R280): the time of priority `p`, or of PAUSE for 8, has run out. -/
def execPauseExpire (m : Fin 2) (p : Fin 9) (s : State) : Res := .next (s.setPause m p 0)

/-- The stopped queues (EN_STAT.TX_PAUSED). -/
def State.queuePaused (s : State) (m q : Nat) : Bool :=
  (s.mac m).paused.any fun p => decide (p = 8) || decide (s.txQueueOf m p = q)
def State.txPaused (s : State) (m : Nat) : Nat := ((List.range 8).map fun q => if s.queuePaused m q then 2 ^ q else 0).sum

/-! ### Transmitting (R281) -/

/-- Line rate in Mbit/s by EN_STAT.SPEED. -/
def ethRate (speed : Nat) : Nat := [1, 1000, 2500, 5000, 10000, 25000].getD speed 1

/-- Time a frame takes on the wire in tenths of a ns: preamble, frame and FCS. -/
def State.frameTime (s : State) (m : Nat) (f : List Byte) : Nat := (f.length + 12) * 80000 / ethRate (s.rd (EN_STAT.SPEED m))

/-- Queue `q` is ready (R281). -/
def State.txReady (s : State) (m q : Nat) : Bool :=
  match (s.mac m).queue q with
  | [] => false
  | (f, _) :: _ =>
    !s.queuePaused m q &&
    (!s.on (EN_GCL_CTRL.EN m) || windowFits (s.macGates m) s.time.ns q ((s.frameTime m f + 9) / 10)) &&
    (!s.on (EN_TXQCFG.SHAPE m q) || decide (0 ≤ Tab.get (0 : Int) (s.mac m).credit q))

/-- FRAME_TRANSMIT (R281, R294): the highest ready queue starts its next frame. -/
def State.frameTransmit (s : State) (m : Nat) : State :=
  if ¬ s.on (EN_STAT.LINK m) then s
  else
    let s := s.macCredits m
    match ((List.range 8).reverse).find? fun q => s.txReady m q with
    | none => s
    | some q => match (s.mac m).queue q with
      | [] => s
      | (f, good) :: rest =>
        let t := s.uptime + s.frameTime m f
        let s := s.modMac m fun x => { x with txq := Tab.put [] x.txq q rest, sending := some (q, t) }
        let s := if s.on (EN_TXQCFG.SHAPE m q) then
            s.modMac m fun x => { x with credit := Tab.put 0 x.credit q (Tab.get 0 x.credit q - (f.length + 24) * 80000) }
          else s
        let s := (s.send (.eth m f good)).wrapAdd (EN_TX_FRAMES.COUNT m) 1
        match s.ptpEvent m f with
        | some (msg, id) => s.txStamp m msg id
        | none => s

def execFrameTransmit (m : Fin 2) (s : State) : Res := .next (s.frameTransmit m)

/-- The link of a MAC is down (R275). -/
def State.ethDown (s : State) (m : Nat) : State :=
  let t := (((s.wr (EN_STAT.LINK m) 0).wr (EN_STAT.SPEED m) 0).wr (EN_STAT.AN_DONE m) 0).wr (EN_STAT.FEC_LOCK m) 0
  if s.on (EN_STAT.LINK m) then t.raise (Ev.EN_LINK_DOWN m) else t

/-- The speed of an interface (R274) as EN_STAT codes it: USXGMII takes what its PHY reports, up to 10 Gbit/s. -/
def ethSpeed (interface speed : Nat) : Nat :=
  match interface with
  | 1 => 5
  | 2 => 4
  | 3 => min speed 4
  | _ => 1

/-- ETH_LINK_CHANGE (R274, R275): the MAC's link comes up at a speed code of EN_STAT, 0 for a speed below 1 Gbit/s from the PHY of SGMII or USXGMII, or goes
down. -/
def State.ethLinkChange (s : State) (m : Nat) (up : Bool) (speed : Nat) : State :=
  let i := s.rd (EN_CFG.IF m)
  if i = 0 then s
  else if up = false then s.ethDown m
  else if speed = 0 ∧ (i = 3 ∨ i = 5) then (s.ethDown m).raise (Ev.EN_SPEED_REFUSED m)
  else
    let an := decide (i = 3 ∨ i = 5) || (decide (i = 4) && s.on (EN_CFG.AN_EN m))
    (((s.wr (EN_STAT.LINK m) 1).wr (EN_STAT.SPEED m) (ethSpeed i speed)).wr (EN_STAT.AN_DONE m) an.toNat).wr (EN_STAT.FEC_LOCK m)
      (decide (s.rd (EN_CFG.FEC m) ≠ 0)).toNat

/-- A MAC whose interface a commit changed loses its link; without an interface it is held in reset, and what waited in it is lost (R274). -/
def State.macApplied (s : State) (old : State) (m : Nat) : State :=
  if s.rd (EN_CFG.IF m) = old.rd (EN_CFG.IF m) then s
  else if s.rd (EN_CFG.IF m) = 0 then (s.ethDown m).setMac m {}
  else s.ethDown m

def execEthLinkChange (m : Fin 2) (up : Bool) (speed : Fin 6) (s : State) : Res :=
  .next (if s.underTest 20 m then s else s.ethLinkChange m up speed)

end Sys2Proof.Machine
end

