-- ==== Sys2Proof/Machine/LinkOps.lean ====
section
/-!
DEFINITION. What the lane, link, scheduler and reset commands share (R27, R46, R58, R101, R353): the lanes of a port, codeword time, taking a link
down, and starting training.
-/

namespace Sys2Proof.Machine

/-! ### Lanes and codewords -/

/-- The lanes of a port declared in the lane plan (R50). -/
def State.declared (s : State) (p : Nat) : List Nat := (portLanes p).filter fun n => s.on (LN_CTRL.EN n)

/-- The declared lanes can form a link (R50). -/
def State.canLink (s : State) (p : Nat) : Bool :=
  (s.declared p).any (fun n => decide (resetDir n = 0)) && (s.declared p).any (fun n => decide (resetDir n = 1))

/-- A codeword of W lanes takes 329,474 g / (12,800 W) ns (R31, R32, R39), with g as here for each gait (R29). -/
def gaitDiv (g : Nat) : Nat := if g = 0 then 4 else if g = 1 then 2 else 1

/-- WIDTH of a direction as the codeword in progress has it (R156, R166). -/
def State.widthNow (s : State) (p d : Nat) : Nat := if d = 0 ∧ (s.link p).slot ≠ 0 then (s.link p).order.length else s.width p d

/-- Codewords of direction `d` of port `p` that start within `ns` from the start of one, that one included. -/
def State.codewordsIn (s : State) (p d ns : Nat) : Nat :=
  (ns * 12800 * s.widthNow p d + 329474 * gaitDiv (s.gait p) - 1) / (329474 * gaitDiv (s.gait p))

/-- The link of a port carries codewords. -/
def State.linkRuns (s : State) (p : Nat) : Bool := s.linkIsUp p && !(s.link p).parked

/-- LOCK_LEN in codeword times as the hub takes it (R55): below 4 as 4, above 20 as 20. -/
def State.lockLen (s : State) (n : Nat) : Nat := max 4 (min 20 (s.rd (LN_CTRL.LOCK_LEN n)))

/-- The lane of port `p` whose partner's index is `k` (messages number lanes as their sender does, R80). -/
def State.laneOfPartner (s : State) (p k : Nat) : Nat :=
  ((portLanes p).find? fun n => decide (s.laneState n ≠ 0 ∧ s.laneState n ≠ 8 ∧ s.rd (LN_STAT.PARTNER_LANE n) = k)).getD (4 * p + k % 4)

/-- The values a receiver can have adapted to, in the ranges of R53. -/
def eqRxOf (w : Word) : Word := setField (w &&& 0x1FFFF#32) 0 6 (getField w 0 6 % 41)

/-- The lane is receiving, in training or in service. -/
def State.receives (s : State) (n : Nat) : Bool := decide (s.rd (LN_STAT.DIR n) = 1 ∧ (s.laneState n = 2 ∨ s.laneState n = 3))

/-- A receiving lane leaves receive: the hub stores its current receive set (R52), whose values are free (assumption row 1). -/
def State.storeRx (s : State) (n : Nat) : State :=
  if s.receives n then
    let r := s.fresh
    r.2.setReg (LN_EQ_RX n) (eqRxOf r.1)
  else s

/-- The stored equaliser sets of a lane are loaded (R52, R54 step 3). -/
def State.loadSets (s : State) (n : Nat) : State := s.laneSend n 9 [(s.reg (LN_EQ_TX n)).toNat, (s.reg (LN_EQ_RX n)).toNat]

/-- The position of every striping lane after `n` leaves its direction, and the new width of them all (R41, R54): lanes of a higher POS move down by one
(assumption row 137). A transmitting lane completes its blocks. -/
def State.unstripe (s : State) (n : Nat) : State :=
  let p := lanePort n
  let d := s.rd (LN_STAT.DIR n)
  let here := (s.striped p d).contains n
  let rest := if here then (s.striped p d).filter (· ≠ n) else []
  let pos := s.rd (LN_STAT.POS n)
  let s := s.eachIn rest fun m t =>
    let q := t.rd (LN_STAT.POS m)
    (t.wr (LN_STAT.POS m) (if pos < q then q - 1 else q)).wr (LN_STAT.WIDTH m) rest.length
  let s := (s.wr (LN_STAT.WIDTH n) 0).wr (LN_STAT.POS n) 0
  if d = 0 then s.finishBlocks n else s.modLane n fun l => { l with rxq := [] }

/-- Lane `n` joins the striping of direction `d` at the next position (R54, R59). -/
def State.stripe (s : State) (n d : Nat) : State :=
  let p := lanePort n
  let w := (s.striped p d).length
  let s := (((s.wr (LN_STAT.STATE n) 3).wr (LN_STAT.DIR n) d).wr (LN_STAT.POS n) w).wr (LN_STAT.WIDTH n) (w + 1)
  s.eachIn (s.striped p d) fun m t => t.wr (LN_STAT.WIDTH m) (w + 1)

/-- Abort the eye scan of a lane (R58, R60); a scan command ends with it (R437). -/
def State.abortScan (s : State) (n : Nat) : State :=
  if s.on (LN_ES_CTRL.BUSY n) then
    ((s.wr (LN_ES_CTRL.BUSY n) 0).raise (Ev.LN_ES_ABORT n)).finish (fun w => match w with
      | .eye l _ _ => decide (l = n)
      | _ => false) stAborted 0 []
  else s

/-! ### Open packets -/

/-- End a packet of port `p` whose rest will not come, with a poisoned tail (R69, R93, R101). -/
def State.cutPacket (s : State) (p id code : Nat) : State :=
  if (s.arrivals p).any fun x => decide (x.id = id) then
    s.setArrivals p ((s.arrivals p).map fun x => if x.id = id then { x with whole := true, pkt := { x.pkt with tail := code } } else x)
  else match s.stored id with
    | some st => s.setStored id (some { st with
        complete := true, cut := true, pkt := { st.pkt with tail := if st.pkt.tail = 0 then code else st.pkt.tail } })
    | none => s

/-- End every open packet of a port with TAIL 3. -/
def State.closeAllRx (s : State) (p : Nat) : State :=
  (s.eachIn (s.link p).rx fun o t => t.cutPacket p o.id 3).modLink p fun l => { l with rx := [] }

/-! ### Link down -/

/-- The scheduler of a port whose link goes down: no open packet, nothing to send (R101, R167); tables, virtual time and credits stay. -/
def SchedSt.linkDown (x : SchedSt) : SchedSt :=
  { x with
    ctl := [], follow := none, slots := 0, slotsRx := 0, busyTx := 0, busyRx := 0, pressTx := 0, pressRx := 0, turnTx := 0, turnRx := 0
    relax := 0, parkTx := 0, parkRx := 0
    queues := (List.range 16).foldl (fun t q =>
      let v := Tab.get ({} : QueueSt) t q
      Tab.put {} t q { v with opened := none, prk := [], pn := 0, kp := 0 }) x.queues }

/-- A lane goes to Off unless it is in Test (R58, R61). -/
def State.laneOff (s : State) (n : Nat) : State :=
  if s.laneState n = 7 then s else
    let s := if s.laneState n = 0 ∨ s.laneState n = 8 then s else (s.storeRx n).laneSend n 0
    (s.setReg (LN_STAT n) 0).setLane n {}

/-- The link of port `p` goes down (R516, R58, R101, R146, R175). Link state begins anew; the stamps of training attempts stay. -/
def State.linkDown (s : State) (p : Nat) : State :=
  let wasUp := s.linkIsUp p
  let noted := !s.portUsable p && (s.link p).failover
  let s := s.eachIn (portLanes p) fun n t => t.abortScan n
  let s := (s.closeAllRx p).flush p
  let s := s.eachIn (portLanes p) fun n t => t.laneOff n
  let s := ((((((s.wr (CL_STAT.VER p) 0).wr (CL_STAT.LSTATE p) 0).wr (CL_STAT.ENC p) 0).wr (CL_STAT.KP p) 0).wr (CL_STAT.TLOCK p) 0).wr
    (CL_STAT.AUTH_OK p) 0).wr (CL_STAT.TWIN p) 0
  let s := s.each 8 fun t u => u.setReg (CL_CRED_AVAIL p t) 0
  let s := s.modSched p SchedSt.linkDown
  let attempts := (s.link p).attempts
  let s := s.setLink p { attempts := attempts, failover := noted }
  if wasUp then s.domainPortLost p else s

/-- Start of training at time zero of R46: declared lanes in the direction after reset at Walk. The lane PLL locks before training frames go. A port
under self-test trains when the test has ended (R460). -/
def State.startTraining (s : State) (p : Nat) : State :=
  if s.rd (PD_STAT.MODE p) = 1 ∧ s.canLink p ∧ ¬ s.underTest 11 p then
    let s := s.wr (CL_STAT.LSTATE p) 1
    let s := s.modLink p fun l => { l with tstep := 0, linkUp := false, exitWait := false }
    let s := s.eachIn (s.declared p) fun n t =>
      if t.laneState n = 7 then t
      else ((t.setReg (LN_STAT n) 0).wr (LN_STAT.STATE n) 1).wr (LN_STAT.DIR n) (resetDir n)
    s.wr ((CK_STAT.LANE_LOCK).bit p) 0
  else s

/-- A port reset (R353): its link goes down with LINK_DOWN reason 4, and trains again in Thrumlink mode. -/
def State.portReset (s : State) (p : Nat) : State :=
  (((s.sendCtl p 0x38 (be 1 4)).linkDown p).modLink p fun l => { l with attempts := 0 }).startTraining p

/-! ### Who owns the lane plan (R162) -/

/-- This end owns the lane plan of port `p`; none while the owner is not known. -/
def State.planOwner (s : State) (p : Nat) : Option Bool :=
  if ¬ s.linkIsUp p then none
  else if s.peerPort p then if s.linkVer p = 0 then none else some (decide (s.uid < (s.link p).peerUid))
  else if s.rd DM_ID.UPPORT = p then some false
  else if s.on (DM_PEER.VALID p) then some true
  else none

/-- A lead change or its like is in progress on the link, or a lane is being trained again (R164). -/
def State.planBusy (s : State) (p : Nat) : Bool :=
  (s.link p).act.isSome || (s.link p).waking || !(s.link p).prePark.isEmpty ||
    (portLanes p).any fun n => s.linkIsUp p && (decide (s.laneState n = 4) || decide (s.laneState n = 2))

/-- A lead change, restripe or low-power transition is under way (R98). -/
def State.transition (s : State) (p : Nat) : Bool :=
  (s.link p).act.elim false LaneAct.begun || (portLanes p).any fun n => decide (s.laneState n = 4)

/-- Lead change is allowed on the link (R44). -/
def State.mayTurn (s : State) (p : Nat) : Bool := decide ((Tab.get ({} : PdSt) s.pds p).cable ≠ 4)

/-- Announce a lane action of this end and take it up, or hold it while another runs (R54, R58, R81). -/
def State.holdAct (s : State) (p : Nat) (a : LaneAct) : State :=
  s.modLink p fun l => if l.act.isSome then { l with held := l.held ++ [a] } else { l with act := some a }

/-- A lane action's codeword has already passed (R81): the codeword in progress has begun. -/
def State.lateAct (s : State) (p : Nat) (a : LaneAct) : Bool :=
  let l := s.link p
  decide (a.cw < (if a.tx then (if l.slot = 0 then l.cwTx else l.cwTx + 1) else l.cwRx))

/-- Refuse an announced lane action: LEAD_RESULT 2 late with LATE_CW (R81), or 3 refused (R80). LANE stands in this end's numbering (assumption row 138). -/
def State.refuseAct (s : State) (p : Nat) (a : LaneAct) (result : Nat) : State :=
  let s := s.sendCtl p 0x07 (be 1 (a.lane % 4) ++ be 1 result ++ be 2 0 ++ be 8 a.cw)
  if result = 2 then s.raise (Ev.CL_LATE_CW p) else s

/-- The lane action of a port has ended: the first one held becomes the next (R58). A lead change's codeword is checked now (R101): one the far end
announced and that is late is answered LEAD_RESULT 2, one of this end is dropped, which its far end reports. -/
def State.nextAct (s : State) (p : Nat) : List LaneAct → State
  | [] => s.modLink p fun l => { l with act := none, held := [] }
  | a :: rest =>
    if a.kind = 0 ∧ ¬ a.noLate ∧ s.lateAct p a then (if a.far then s.refuseAct p a 2 else s).nextAct p rest
    else s.modLink p fun l => { l with act := some a, held := rest }
def State.endAct (s : State) (p : Nat) : State := s.nextAct p (s.link p).held

end Sys2Proof.Machine
end

