-- ==== Sys2Proof/Machine/Efuse.lean ====
section
/-!
DEFINITION. Electronic fuses (R327 to R341): what the PD controller and the channels' own events share.
-/

namespace Sys2Proof.Machine

def State.ef (s : State) (n : Nat) : EfSt := Tab.get {} s.efs n
def State.modEf (s : State) (n : Nat) (f : EfSt → EfSt) : State := { s with efs := Tab.put {} s.efs n (f (s.ef n)) }
def State.efState (s : State) (n : Nat) : Nat := s.rd (EF_STAT.STATE n)

/-- A main input channel (R327). -/
def efMain (n : Nat) : Bool := decide (6 ≤ n)

/-- PG and, on a main channel, the EF_PG pin (R331). -/
def State.setPg (s : State) (n v : Nat) : State :=
  let s := s.wr (EF_STAT.PG n) v
  if efMain n then s.send (.pin 8 n v) else s

/-- INPUT_VALID of a main channel (R334): On or Blocking with the input inside its window. -/
def State.showInput (s : State) (n : Nat) : State :=
  if efMain n then s.wr (EF_STAT.INPUT_VALID n) (decide ((s.efState n = 4 ∨ s.efState n = 5) ∧ s.on (EF_STAT.IN_WIN n))).toNat else s

/-- A channel goes to a state. -/
def State.setEf (s : State) (n st : Nat) : State := (s.wr (EF_STAT.STATE n) st).showInput n

/-- The gate is pulled off: not limiting, no power-good (R331); pre-charge off. -/
def State.gateOff (s : State) (n : Nat) : State :=
  let s := (s.send (.pin 6 n 0)).setPg n 0
  let s := if efMain n then s.send (.pin 7 n 0) else s
  s.wr (EF_STAT.LIMITING n) 0

/-- A closed VBUS channel, or a main channel that is starting or on. -/
def State.efClosed (s : State) (n : Nat) : Bool := decide (s.efState n = 3 ∨ s.efState n = 4)

/-- RETRY_MAX is exceeded: the channel latches (R335); 15 never does. -/
def State.tripsOver (s : State) (n : Nat) : Bool :=
  decide (s.rd (EF_CFG.RETRY_MAX n) ≠ 15 ∧ s.rd (EF_CFG.RETRY_MAX n) < s.rd (EF_STAT.TRIPS n))

/-- A trip, short-circuit trip, pre-charge failure or reverse trip (R335): gate off, the retry timer runs, latched when TRIPS exceeds RETRY_MAX. -/
def State.tripChannel (s : State) (n : Nat) : State :=
  let s := (s.gateOff n).satAdd (EF_STAT.TRIPS n) 1
  let s := s.modEf n fun x => { x with
    faultAcc := 0, retryEnd := some (s.uptime + max 1 (s.rd (EF_CFG.RETRY_T n)) * 1000000000) }
  if s.tripsOver n then (s.setEf n 7).raise (Ev.EF_LATCH n) else s.setEf n 6

/-- ORIENT takes a value; a change masks the detection of reverse current for 1 ms (R332). -/
def State.setOrient (s : State) (n v : Nat) : State :=
  if s.rd (EF_STAT.ORIENT n) = v then s
  else (s.wr (EF_STAT.ORIENT n) v).modEf n fun x => { x with orientAt := some s.uptime }

/-- Reverse current is detected: not within 1 ms of a change of ORIENT (R332). -/
def State.reverseSeen (s : State) (n : Nat) : Bool :=
  match (s.ef n).orientAt with
  | some t => decide (t + 10000000 ≤ s.uptime)
  | none => true

/-- The PD controller closes VBUS channel `n` (R332): current-limited start; an already closed channel takes the new direction. -/
def State.closeChannel (s : State) (n orient : Nat) : State :=
  if ¬ s.on (EF_CFG.EN n) ∨ 6 ≤ s.efState n then s
  else if s.efClosed n then s.setOrient n orient
  else ((s.setOrient n orient).setEf n 3).send (.pin 6 n 1)

/-- The PD controller opens VBUS channel `n`, without fault (R332). -/
def State.openChannel (s : State) (n : Nat) : State :=
  if s.efClosed n then (s.gateOff n).setEf n 0 else s

/-- A trip of channel `n` may be followed by an attach only once its retry rules allow (R319, R336). -/
def State.channelReady (s : State) (n : Nat) : Bool := decide (s.efState n < 6)

/-- How long a limiting channel has limited, in 0.1 ns, the gaps of less than 1 ms left out (R330). -/
def State.limitTime (s : State) (n : Nat) : Nat := (s.ef n).faultAcc + (s.uptime - (s.ef n).limitFrom)

/-- FAULT and RETRY_LEFT of EF_TMR, which run with time (R330, R335). -/
def State.faultTimer (s : State) (n : Nat) : Nat :=
  if s.on (EF_STAT.LIMITING n) then min (s.rd (EF_CFG.FAULT_T n) * 5) (s.limitTime n / 1000000) else 0
def State.retryLeft (s : State) (n : Nat) : Nat :=
  match (s.ef n).retryEnd with
  | some t => min 65535 ((t - s.uptime + 9999999) / 10000000)
  | none => 0

end Sys2Proof.Machine
end

