-- ==== Sys2Proof/Machine/Pd.lean ====
section
/-!
DEFINITION. USB Power Delivery (R300 to R326) of the six controllers and the power budget. PDO, RDO and VDM fields are those of the public USB PD
specification (assumption row 7).
-/

namespace Sys2Proof.Machine

def State.pd (s : State) (p : Nat) : PdSt := Tab.get {} s.pds p
def State.modPd (s : State) (p : Nat) (f : PdSt → PdSt) : State := { s with pds := Tab.put {} s.pds p (f (s.pd p)) }
def State.pdSend (s : State) (p : Nat) (m : PdMsg) (words : List Nat := []) : State := s.send (.pd p m words)
def State.setPstate (s : State) (p v : Nat) : State := s.wr (PD_STAT.PSTATE p) v
def State.pstate (s : State) (p : Nat) : Nat := s.rd (PD_STAT.PSTATE p)
def State.isSource (s : State) (p : Nat) : Bool := s.on (PD_STAT.PWR_ROLE p)
def State.contract (s : State) (p : Nat) : Bool := s.on (PD_STAT.CONTRACT p)
def State.attached (s : State) (p : Nat) : Bool := s.on (PD_STAT.ATTACHED p)

/-- A field of PD_CFG that applies at the next attach (R302: role, swap acceptance, mode fields): while attached, as the attach found it. -/
def State.cfgRd (s : State) (p : Nat) (f : Fld) : Nat :=
  match (s.pd p).cfg with
  | some w => getField w f.lo f.width
  | none => s.rd f
def State.cfgOn (s : State) (p : Nat) (f : Fld) : Bool := decide (s.cfgRd p f ≠ 0)

/-- VBUS discharge of a port on or off. -/
def State.discharge (s : State) (p v : Nat) : State := s.send (.pin 10 p v)

/-- Duty of REG_VSET for a voltage in 20 mV and of REG_ISET for a current in 10 mA (R502): 60 V and 6 A over 4,096 steps, the nearest step (assumption
row 159). -/
def vsetDuty (v : Nat) : Nat := (v * 20 * 4096 + 30000) / 60000
def isetDuty (i : Nat) : Nat := (i * 10 * 4096 + 3000) / 6000

/-- The board regulator of a port sources a voltage (20 mV), limiting at a current (10 mA) (R305, R306, R502). -/
def State.regulate (s : State) (p v i : Nat) : State :=
  (((s.modPd p fun x => { x with reg := some (v, i) }).send (.pin 16 p (vsetDuty v))).send (.pin 17 p (isetDuty i))).send (.pin 15 p 1)

/-- The regulator stops (R315, R318). -/
def State.stopReg (s : State) (p : Nat) : State := (s.modPd p fun x => { x with reg := none }).send (.pin 15 p 0)

/-- VCONN of a port on or off (R314). -/
def State.setVconn (s : State) (p v : Nat) : State := (s.wr (PD_STAT.VCONN p) v).send (.pin 11 p v)

/-- The PD tables are active (R26, R304). -/
def State.tablesActive (s : State) : Bool := decide (s.clk.phase = .active)

/-- What port `p` presents on CC (R26, R303, R304, R311, R319): before the image is active nothing, on C0 with the dead-battery strap Rd; nothing while it is
disabled or in ErrorRecovery; else by its role. The strap is DB_N: tied low it is set (R503). -/
def State.ccPull (s : State) (p : Nat) : CcPull :=
  if ¬ s.tablesActive then (if p = 0 ∧ ¬ bitOf (s.rd GC_STRAP.STRAPS) 0 then .rd else .nothing)
  else if (s.pstate p = 9 ∧ ¬ s.channelReady p) ∨ s.pstate p = 10 then .nothing
  else if s.attached p then (if s.isSource p then .rp else .rd)
  else match s.rd (PD_CFG.ROLE p) with
    | 0 => .rp
    | 1 => .rd
    | _ => .toggle

/-- The answer of a PD_ACTION command of port `p` (R438). -/
def State.pdAnswer (s : State) (p status : Nat) (data : List Byte) : State :=
  s.finish (fun w => match w with
    | .pd q _ => decide (q = p)
    | _ => false) status 0 data

/-- A PD_ACTION command waits on port `p`. -/
def State.pdCommanded (s : State) (p : Nat) : Bool :=
  (s.waiter fun w => match w with
    | .pd q _ => decide (q = p)
    | _ => false).isSome

/-! ### Power data objects (R302, R305, R307) -/

def pdoKind (w : Nat) : Nat := bitsOf w 30 2
def fixedMv50 (w : Nat) : Nat := bitsOf w 10 10
def fixedMa10 (w : Nat) : Nat := bitsOf w 0 10

/-- Power of a PDO in 0.5 W. -/
def pdoPower (w : Nat) : Nat :=
  match pdoKind w with
  | 0 => fixedMv50 w * fixedMa10 w / 1000
  | 1 => bitsOf w 0 10 / 2
  | 2 => bitsOf w 20 10 * bitsOf w 0 10 / 1000
  | _ => bitsOf w 17 8 * bitsOf w 0 7 / 100

/-- Bits [31:20] of the fixed PDOs the hub sends (R302): dual-role power, unconstrained power, USB, dual-role data, unchunked messages, EPR. -/
def State.pdoFlags (s : State) (p : Nat) : Nat :=
  (if s.cfgRd p (PD_CFG.ROLE p) = 2 then 2 ^ 29 else 0) + (if s.rd PDB_STAT.IN_VALID ≠ 0 then 2 ^ 27 else 0) + 2 ^ 26 +
    (if s.cfgOn p (PD_CFG.ACC_DRS p) then 2 ^ 25 else 0) + 2 ^ 24 + (if s.on (PD_CFG.EPR_EN p) ∧ (s.pd p).cableEpr ∧ (s.pd p).amps5 then 2 ^ 23 else 0)

/-- A fixed PDO lowered to the allocation and the cable (R305), or none when 0.5 A does not fit; the first PDO is always offered with 0.5 A, which
the reserve pays for (R309). -/
def State.lowerFixed (s : State) (p w : Nat) (first : Bool) : Option Nat :=
  let v := fixedMv50 w
  let i := min (fixedMa10 w) (min (if (s.pd p).amps5 then 500 else 300) (s.rd (PD_ALLOC.ALLOC p) * 1000 / max 1 v))
  let i := if first then max 50 i else i
  if i < 50 then none else some ((if first then s.pdoFlags p else 0) + v * 2 ^ 10 + i)

/-- A PPS APDO lowered in the same way. -/
def State.lowerPps (s : State) (p w : Nat) : Option Nat :=
  let c := min (bitsOf w 0 7) (min (if (s.pd p).amps5 then 100 else 60) (s.rd (PD_ALLOC.ALLOC p) * 100 / max 1 (bitsOf w 17 8)))
  if c < 10 then none else some (w / 128 * 128 + c)

/-- SPR PDOs that port `p` offers now. -/
def State.sprOffer (s : State) (p : Nat) : List Nat :=
  (List.range 7).filterMap fun i =>
    let w := s.rd (PD_SRC_PDO.PDO p i)
    if i = 0 then s.lowerFixed p w true
    else if w = 0 then none
    else if pdoKind w = 3 then (if s.on (PD_CFG.PPS_EN p) ∧ ¬ (s.pd p).rev2 then s.lowerPps p w else none)
    else if pdoKind w = 0 then s.lowerFixed p w false
    else none

/-- EPR PDOs it can pay (R307). -/
def State.eprOffer (s : State) (p : Nat) : List Nat :=
  (List.range 3).filterMap fun i =>
    let w := s.rd (PD_EPR_PDO.PDO p i)
    if w = 0 then none else s.lowerFixed p w false

/-- The positions of an offer: SPR from 1, EPR from 8. -/
def offerList (spr epr : List Nat) : List (Nat × Nat) := (spr.mapIdx fun i w => (i + 1, w)) ++ epr.mapIdx fun i w => (i + 8, w)

/-- Send Source_Capabilities, in EPR mode EPR_Source_Capabilities (R302, R305, R307). -/
def State.sendCaps (s : State) (p : Nat) : State :=
  let spr := s.sprOffer p
  if s.on (PD_STAT.EPR p) then
    let l := offerList spr (s.eprOffer p)
    (s.modPd p fun x => { x with offered := l }).pdSend p .eprSourceCaps (l.map Prod.snd)
  else (s.modPd p fun x => { x with offered := offerList spr [] }).pdSend p .sourceCaps spr

/-! ### Modes and the link of a port (R319 to R323) -/

/-- The mode of port `p` ends; its link goes down and its lanes to Off (R319, R323). -/
def State.leaveMode (s : State) (p : Nat) : State :=
  let s := if s.rd (PD_STAT.MODE p) = 1 then s.linkDown p else s
  (s.wr (PD_STAT.MODE p) 0).modPd p fun x => { x with dpPin := 0 }

/-- The Thrumlink mode is wanted here and could not be entered (R321, R17, R50): a peer port stays unlinked, and says so once. -/
def State.modeMissing (s : State) (p : Nat) : State :=
  if s.peerPort p then
    if s.lstate p = 5 then s else ((s.raise (Ev.PD_MODE_FAIL p)).wr (CL_STAT.LSTATE p) 5).raise (Ev.CL_PEER_FAIL p)
  else if s.host then s.raise (Ev.PD_MODE_FAIL p) else s

/-- Training has failed for the last time (R51, R323, R17): an ordinary port leaves the mode, with LINK_DOWN first if its link is up (R516). -/
def State.trainGiveUp (s : State) (p : Nat) : State :=
  let s := (if s.peerPort p then s else s.sendCtl p 0x38 (be 1 0)).linkDown p
  if s.peerPort p then (s.wr (CL_STAT.LSTATE p) 5).raise (Ev.CL_PEER_FAIL p)
  else
    let s := (s.pdSend p .vdm [0, 0x2E7D, 5, 0]).raise (Ev.PD_MODE_FAIL p)
    (s.wr (PD_STAT.MODE p) 0).modPd p fun x => { x with noTl := true }

/-- C0 offers its USB upstream no more (R256). -/
def State.c0Check (s : State) (p : Nat) : State := if p = 0 ∧ ¬ s.c0Offers then s.upDisconnect 2 else s

/-! ### Contracts, detaching, disabling -/

/-- The contract of port `p` ends. -/
def State.endContract (s : State) (p : Nat) : State :=
  let s := (((s.wr (PD_STAT.CONTRACT p) 0).wr (PD_STAT.EPR p) 0).wr (PD_STAT.PPS p) 0).setReg (PD_CONTRACT p) 0
  s.modPd p fun x => { x with next := none, step := none, asked := none, swap := none, deferred := none, cut := false, offered := [], capsSent := 0, frs := 0 }

/-- The port as after a detach: no roles, no contract, no mode, F(p) open (R303, R311). -/
def State.portEmpty (s : State) (p : Nat) : State :=
  let s := (((s.endContract p).leaveMode p).openChannel p).stopReg p
  let s := if s.on (PD_STAT.VCONN p) then s.setVconn p 0 else s
  let s := ((s.wr (PD_STAT.ATTACHED p) 0).wr (PD_STAT.PWR_ROLE p) 0).wr (PD_STAT.DATA_ROLE p) 0
  let s := ((s.setReg (PD_CABLE_VDO p) 0).setReg (PD_PARTNER_IDH p) 0).setReg (PD_PARTNER_TL p) 0
  (({ s with pds := Tab.put {} s.pds p {} }.setReg (PD_ALLOC p) 0).pdAnswer p stAborted []).c0Check p

/-- Disable a port (R311). -/
def State.disablePort (s : State) (p : Nat) : State := ((s.portEmpty p).discharge p 1).setPstate p 10

/-! ### The budget (R309, R310) -/

/-- A sourcing port of the budget: one in a Fast Role Swap is none. -/
def State.sourcing (s : State) (p : Nat) : Bool :=
  s.attached p && s.isSource p && decide (s.pstate p ≠ 10 ∧ ((s.pd p).frs = 0 ∨ (s.pd p).frs = 5))

/-- Sourcing ports, highest priority first, then lower number. -/
def State.budgetPorts (s : State) : List Nat :=
  [3, 2, 1, 0].flatMap fun pr => (List.range 6).filter fun p => s.sourcing p && decide (s.rd (PD_CFG.PRIO p) = pr)

/-- Power that port `p` wants (R309). -/
def State.wants (s : State) (p : Nat) : Nat := min 8191 ((s.pd p).want.getD (s.rd (PD_POWER.MAX p)))

/-- Power of the FRS contracts held as sink (R309, R315). -/
def State.frsSupply (s : State) : Nat := ((List.range 6).map fun p => if s.contract p then (s.pd p).frsHeld else 0).sum

/-- Supply: valid inputs, and FRS contracts held as sink. -/
def State.supply (s : State) : Nat :=
  (if bitOf (s.rd PDB_STAT.IN_VALID) 0 then s.rd PDB_IN0.WATTS else 0) + (if bitOf (s.rd PDB_STAT.IN_VALID) 1 then s.rd PDB_IN1.WATTS else 0) +
    s.frsSupply

/-- Pass 1, guarantees: allocation by port and what is left, reporting what cannot be met. -/
def State.budgetPass1 : List Nat → Nat → State → List (Nat × Nat) × Nat × State
  | [], avail, s => ([], avail, s)
  | p :: l, avail, s =>
    let g := min (s.rd (PD_POWER.GUAR p)) (min (s.rd (PD_POWER.MAX p)) (s.wants p))
    if g ≤ avail then
      let r := State.budgetPass1 l (avail - g) s
      ((p, g) :: r.1, r.2)
    else
      let r := State.budgetPass1 l avail (s.raise Ev.PDB_SHORTFALL)
      ((p, 0) :: r.1, r.2)

/-- Pass 2, the rest in the same order. -/
def State.budgetPass2 (s : State) : List (Nat × Nat) → Nat → List (Nat × Nat) × Nat
  | [], avail => ([], avail)
  | (p, a) :: l, avail =>
    let take := min (min (s.rd (PD_POWER.MAX p)) (s.wants p) - a) avail
    let r := s.budgetPass2 l (avail - take)
    ((p, a + take) :: r.1, r.2)

/-- A port's allocation becomes `a` (R310). -/
def State.allocate (s : State) (p a : Nat) : State :=
  let old := s.rd (PD_ALLOC.ALLOC p)
  let s := (s.wr (PD_ALLOC.ALLOC p) a).wr (PD_ALLOC.WANT p) (s.wants p)
  if ¬ s.contract p ∨ old = a then s
  else
    let low := decide (max 5 a * 2500 < s.rd (PD_CONTRACT.VOLT p) * s.rd (PD_CONTRACT.CURR p))
    let s := if low then (s.modPd p fun x => { x with cut := true }).raise (Ev.PD_CAPS_CUT p) else s
    let s := if s.on (PD_STAT.EPR p) ∧ (s.eprOffer p).isEmpty then (s.pdSend p .eprExit).wr (PD_STAT.EPR p) 0 else s
    s.sendCaps p

/-- Recompute the budget (R309). -/
def State.budget (s : State) : State :=
  let supply := s.supply
  let reserve := s.rd PDB_RESERVE.WATTS
  let s := s.wr PDB_STAT.FRS_IN (decide (0 < s.frsSupply)).toNat
  let ports := s.budgetPorts
  if supply < reserve then
    let s := (s.eachIn ports fun p t => t.disablePort p).wr PDB_STAT.AVAIL 0
    s.raise Ev.PDB_SHORTFALL
  else
    let s := s.each 6 fun p t => if t.pstate p = 10 then t.setPstate p 0 else t
    let r1 := State.budgetPass1 ports (supply - reserve) s
    let s := r1.2.2
    let r2 := s.budgetPass2 r1.1 r1.2.1
    let s := s.wr PDB_STAT.AVAIL (min 8191 r2.2)
    s.eachIn r2.1 fun e t => t.allocate e.1 e.2

/-! ### Roles and preferences (R312, R317) -/

def State.prefersSource (s : State) (p : Nat) : Bool :=
  decide (s.cfgRd p (PD_CFG.ROLE p) = 0 ∨ (s.cfgRd p (PD_CFG.ROLE p) = 2 ∧ s.cfgRd p (PD_CFG.TRY p) = 1))

/-- Send a swap request and await its answer. -/
def State.askSwap (s : State) (p : Nat) (m : PdMsg) : State := (s.modPd p fun x => { x with asked := some m }).pdSend p m

/-- The FRS current of a code in 0.5 W at 5 V (R315): default, 1.5 A, 3 A. -/
def frsPower (code : Nat) : Nat := if code = 0 then 0 else if code = 1 then 5 else if code = 2 then 15 else 30
def frsMa10 (code : Nat) : Nat := if code = 0 then 0 else if code = 1 then 50 else if code = 2 then 150 else 300

/-- FRS_ARMED (R316). -/
def State.frsArmed (s : State) (p : Nat) : Bool :=
  s.attached p && !s.isSource p && s.contract p && s.on (PD_CFG.FRS_RX p) && !(s.pd p).rev2 && decide (s.rd PDB_STAT.IN_VALID ≠ 0 ∧ (s.pd p).frsAsk ≠ 0 ∧
    frsPower (s.pd p).frsAsk ≤ s.rd PDB_STAT.AVAIL)

/-! ### Attach and detach (R303, R304, R318) -/

/-- CC_ATTACH_DEBOUNCE: the CC level has held; what the Type-C state machine found. A port left unlinked may try again (R83). -/
def State.pdAttach (s : State) (p : Nat) (source cc2 ra : Bool) : State :=
  let role := s.rd (PD_CFG.ROLE p)
  let dead := decide (p = 0) && !source && !bitOf (s.rd GC_STRAP.STRAPS) 0 && decide (s.rd PDB_STAT.IN_VALID = 0)
  if ¬ s.tablesActive ∨ s.attached p ∨ s.pstate p = 10 ∨ ¬ s.channelReady p ∨ (source ∧ role = 1) ∨ (¬ source ∧ role = 0 ∧ ¬ dead) then s
  else
    let s := ((((s.wr (PD_STAT.ATTACHED p) 1).wr (PD_STAT.PWR_ROLE p) source.toNat).wr (PD_STAT.DATA_ROLE p) source.toNat).wr
      (PD_STAT.ORIENT p) cc2.toNat).setPstate p 2
    let s := if s.lstate p = 5 then s.wr (CL_STAT.LSTATE p) 0 else s
    let s := { s with pds := Tab.put {} s.pds p { ra := ra, leftSink := dead, cable := if source ∧ ¬ ra then 1 else 0, cfg := some (s.reg (PD_CFG p)) } }
    if source then
      let s := if ra ∧ s.on (PD_CFG.VCONN_EN p) then s.setVconn p 1 else s
      ((s.regulate p 250 300).closeChannel p 0).budget
    else
      let s := if dead then s.wr (PD_STAT.DEAD_BATT p) 1 else s
      if dead ∨ role = 1 then s.closeChannel p 1 else s

/-- A voltage step or Fast Role Swap is abandoned (R318, R324): PD_XFER and a log entry. -/
def State.pullMid (s : State) (p : Nat) (fromV toV : Nat) : State :=
  let s := (s.wr (PD_XFER.FROM p) fromV).wr (PD_XFER.TO p) toV
  let s := (s.setReg (PD_XFER_TS_S p) (BitVec.ofNat 32 s.time.sec)).setReg (PD_XFER_TS_NS p) (BitVec.ofNat 32 s.time.ns)
  s.raiseWith (Ev.PD_PULL_MID p) true [s.reg (PD_XFER p), s.reg (PD_XFER_TS_S p), s.reg (PD_XFER_TS_NS p)]

/-- DETACH (R303, R318). -/
def State.pdDetach (s : State) (p : Nat) : State :=
  if ¬ s.attached p then s else
    let source := s.isSource p
    let s := match (s.pd p).step with
      | some (f, t) => s.pullMid p f t
      | none => if (s.pd p).frs ≠ 0 then s.pullMid p (s.rd (PD_CONTRACT.VOLT p)) 250 else s
    let s := (s.portEmpty p).setPstate p 0
    let s := s.wr (PD_STAT.DEAD_BATT p) 0
    let s := if source then s.discharge p 1 else s
    s.budget

/-- SOURCE_CAP_TIMER (R303): the first Source_Capabilities and 50 repeats. A partner that has answered none of them speaks no Thrumlink (R17). -/
def execSourceCapTimer (p : Fin 6) (s : State) : Res :=
  .next (if s.attached p ∧ s.isSource p ∧ ¬ s.contract p ∧ (s.pstate p = 2 ∨ s.pstate p = 3) then
    if (s.pd p).capsSent < 51 then ((s.modPd p fun x => { x with capsSent := x.capsSent + 1 }).sendCaps p).setPstate p 3
    else if s.peerPort p then s.modeMissing p else s
  else s)

/-! ### Hard Reset and faults (R319) -/

/-- Hard Reset sent or received (R319, R332): contract and modes end, the link goes down, VBUS to vSafe0V. -/
def State.hardReset (s : State) (p : Nat) : State :=
  if ¬ s.attached p then s else
    let s := ((s.raise (Ev.PD_HARD_RESET p)).endContract p).leaveMode p
    let s := s.finish (fun w => match w with
      | .pd q a => decide (q = p ∧ a ≠ 0)
      | _ => false) stAborted 0 []
    let s := s.modPd p fun x => { x with partnerTl := false, dropped := none, tries := 0, want := none, frsHeld := 0 }
    if s.isSource p then (((s.openChannel p).stopReg p).discharge p 1).setPstate p 8
    else (s.setPstate p 2).pdAnswer p stOk []

/-- The hub sends Hard Reset. -/
def State.sendHardReset (s : State) (p : Nat) : State := if s.attached p then (s.pdSend p .hardReset).hardReset p else s

/-- HARD_RESET: sent by the partner. -/
def execHardReset (p : Fin 6) (s : State) : Res := .next ((s.hardReset p).c0Check p)

/-- SOURCE_RECOVER (R319): vSafe5V again, and negotiation restarts. -/
def execSourceRecover (p : Fin 6) (s : State) : Res :=
  .next (if s.pstate p = 8 ∧ s.attached p ∧ s.isSource p then
    (((((s.discharge p 0).regulate p 250 300).closeChannel p 0).setPstate p 2).pdAnswer p stOk []).budget
  else s)

/-- F(p) has tripped (R319): ErrorRecovery. -/
def State.pdTrip (s : State) (p : Nat) : State :=
  if s.attached p then
    let s := (s.raise (Ev.PD_VBUS_FAULT p)).portEmpty p
    ((s.discharge p 1).setPstate p 9).budget
  else s

/-- VBUS_RANGE_FAULT (R319): outside a transition. -/
def execVbusRangeFault (p : Fin 6) (s : State) : Res :=
  .next (if s.attached p ∧ s.contract p ∧ (s.pd p).step.isNone then (s.raise (Ev.PD_VBUS_FAULT p)).sendHardReset p else s)

/-- VCONN_OC (R314): off until the next attach; a cable not read by then counts as having no e-marker. -/
def execVconnOc (p : Fin 6) (s : State) : Res :=
  .next (if s.on (PD_STAT.VCONN p) then
    ((s.setVconn p 0).modPd p fun x => { x with vconnLost := true, cable := if x.cable = 0 then 1 else x.cable }).raise (Ev.PD_VCONN_OC p)
  else s)

/-! ### Discovery and modes (R320 to R323) -/

/-- The Thrumlink mode VDO of port `p` (R321). -/
def State.thrumVdo (s : State) (p : Nat) : Nat :=
  s.versBitmap p + ((s.declared p).map fun n => s.rd (LN_CTRL.MAX_GAIT n)).foldl max 0 * 16 + s.offeredRole p * 64 + s.rd DM_CFG.DUAL * 256

/-- The hub would enter the Thrumlink mode on port `p` (R320). -/
def State.wouldEnter (s : State) (p : Nat) : Bool :=
  s.cfgOn p (PD_CFG.TL_EN p) && s.canLink p && !(s.pd p).noTl && (s.pd p).partnerTl &&
    decide (Nat.land (s.rd (PD_PARTNER_TL.VDO p) % 16) (s.versBitmap p) ≠ 0)

/-- A DFP begins discovery: the cable first when the hub sources its VCONN (R320). -/
def State.startDiscovery (s : State) (p : Nat) : State :=
  if s.on (PD_STAT.DATA_ROLE p) ∧ s.rd (PD_STAT.MODE p) = 0 ∧ ¬ (s.pd p).noTl then
    let s := s.modPd p fun x => { x with asked := some .vdm }
    if s.on (PD_STAT.VCONN p) ∧ (s.pd p).ra ∧ (s.pd p).cable = 0 then s.pdSend p .vdm [1, 0xFF00, 1, 0] else s.pdSend p .vdm [0, 0xFF00, 1, 0]
  else s

/-- A VDM exchange of the hub has ended. -/
def State.vdmDone (s : State) (p : Nat) : State := s.modPd p fun x => { x with asked := if x.asked = some .vdm then none else x.asked }

/-- DISCOVER_IDENTITY: the cable's answer (its VDO, what it is, whether it declares 5 A and EPR), the partner's answer (its ID Header VDO), or the
partner's request. -/
def State.discoverIdentity (s : State) (p kind vdo cable : Nat) (amps5 epr : Bool) : State :=
  if ¬ s.attached p then s
  else if kind = 0 then
    let s := (s.setReg (PD_CABLE_VDO p) (BitVec.ofNat 32 vdo)).modPd p fun x => { x with cable := cable, amps5 := amps5, cableEpr := epr }
    s.pdSend p .vdm [0, 0xFF00, 1, 0]
  else if kind = 1 then (s.setReg (PD_PARTNER_IDH p) (BitVec.ofNat 32 vdo)).pdSend p .vdm [0, 0xFF00, 2, 0]
  else s.pdSend p .vdm [0, 0xFF00, 1, 1]

def execDiscoverIdentity (p : Fin 6) (kind : Fin 3) (vdo : BitVec 32) (cable : Fin 5) (amps5 epr : Bool) (s : State) : Res :=
  .next (s.discoverIdentity p kind vdo.toNat cable amps5 epr)

/-- The hub shows its DisplayPort mode on port `p` (R320, R224). -/
def State.offersDp (s : State) (p : Nat) : Bool :=
  s.cfgOn p (PD_CFG.DP_EN p) && !s.host && !s.peerPort p && (List.range 4).any fun d => decide (s.dsMode d = 4 ∧ s.rd (DS_CFG.SRC_PORT d) = p)

/-- The hub shows its Thrumlink mode. -/
def State.offersTl (s : State) (p : Nat) : Bool := s.cfgOn p (PD_CFG.TL_EN p) && s.canLink p

/-- DISCOVER_SVIDS (R320): the partner's answer lists Thrumlink or not; or the partner asks. -/
def State.discoverSvids (s : State) (p : Nat) (request lists : Bool) : State :=
  if ¬ s.attached p then s
  else if request then
    s.pdSend p .vdm ([0, 0xFF00, 2, 1] ++ (if s.offersTl p then [0x2E7D] else []) ++ if s.offersDp p then [0xFF01] else [])
  else if lists then s.pdSend p .vdm [0, 0x2E7D, 3, 0]
  else (s.vdmDone p).modeMissing p

def execDiscoverSvids (p : Fin 6) (request lists : Bool) (s : State) : Res := .next (s.discoverSvids p request lists)

/-- DISCOVER_MODES (R320, R321): the partner's Thrumlink VDO, upon which Enter Mode goes out; or the partner asks for the modes of an SVID. -/
def State.discoverModes (s : State) (p : Nat) (request dp : Bool) (vdo : Nat) : State :=
  if ¬ s.attached p then s
  else if request then
    if dp then (if s.offersDp p then s.pdSend p .vdm [0, 0xFF01, 3, 1, 0x000C0C45] else s.pdSend p .vdm [0, 0xFF01, 3, 2])
    else if s.offersTl p then s.pdSend p .vdm [0, 0x2E7D, 3, 1, s.thrumVdo p] else s.pdSend p .vdm [0, 0x2E7D, 3, 2]
  else
    let s := (s.setReg (PD_PARTNER_TL p) (BitVec.ofNat 32 vdo)).modPd p fun x => { x with partnerTl := true }
    if s.wouldEnter p then s.pdSend p .vdm [0, 0x2E7D, 4, 0, s.thrumVdo p] else (s.vdmDone p).modeMissing p

def execDiscoverModes (p : Fin 6) (request dp : Bool) (vdo : BitVec 32) (s : State) : Res := .next (s.discoverModes p request dp vdo.toNat)

/-- The port is in the Thrumlink mode: time zero of R46. -/
def State.enterThrum (s : State) (p : Nat) : State :=
  let s := ((s.wr (PD_STAT.MODE p) 1).vdmDone p).modLink p fun l => { l with attempts := 0 }
  (s.startTraining p).c0Check p

/-- ENTER_MODE (R321, R322): 0 the partner acknowledged, 1 it refused, 2 it enters the Thrumlink mode with its VDO, 3 it enters DisplayPort. -/
def State.enterMode (s : State) (p kind vdo : Nat) : State :=
  if ¬ s.attached p ∨ s.rd (PD_STAT.MODE p) ≠ 0 then s
  else if kind = 0 then (if (s.pd p).asked = some .vdm ∧ s.wouldEnter p then s.enterThrum p else s)
  else if kind = 1 then (s.vdmDone p).modeMissing p
  else if kind = 2 then
    let s := s.setReg (PD_PARTNER_TL p) (BitVec.ofNat 32 vdo)
    if s.offersTl p ∧ ¬ (s.pd p).noTl then (s.pdSend p .vdm [0, 0x2E7D, 4, 1]).enterThrum p else s.pdSend p .vdm [0, 0x2E7D, 4, 2]
  else if s.offersDp p then (s.pdSend p .vdm [0, 0xFF01, 4, 1]).wr (PD_STAT.MODE p) 2
  else s.pdSend p .vdm [0, 0xFF01, 4, 2]

def execEnterMode (p : Fin 6) (kind : Fin 4) (vdo : BitVec 32) (s : State) : Res := .next (s.enterMode p kind vdo.toNat)

/-- EXIT_MODE (R323, R516): the partner's Exit Mode, or its answer to the hub's; the contract stands. -/
def State.exitMode (s : State) (p : Nat) (answer : Bool) : State :=
  let s := if answer then (s.vdmDone p).pdAnswer p stOk [0] else s.pdSend p .vdm [0, if s.rd (PD_STAT.MODE p) = 2 then 0xFF01 else 0x2E7D, 5, 1]
  (s.leaveMode p).modLink p fun l => { l with exitWait := false }

def execExitMode (p : Fin 6) (answer : Bool) (s : State) : Res :=
  .next (if s.attached p ∧ (s.rd (PD_STAT.MODE p) ≠ 0 ∨ answer) then s.exitMode p answer else s)

/-- MODE_EXIT_WAIT (R516): no Exit Mode came after LINK_DOWN with REASON 0. -/
def execModeExitWait (p : Fin 6) (s : State) : Res :=
  .next (if (s.link p).exitWait then s.startTraining p else s)

/-- A RELAY pipe presents its panel's EDID on port `p` (R224, R322). -/
def State.relayHpd (s : State) (p : Nat) : Bool :=
  (List.range 4).any fun d => decide (s.dsMode d = 4 ∧ s.rd (DS_CFG.SRC_PORT d) = p) && !(s.pipe d).panelEdid.isEmpty

/-- ATTENTION (R322): HPD as the relay pipes have it. -/
def State.attention (s : State) (p : Nat) : State :=
  if s.rd (PD_STAT.MODE p) = 2 then s.pdSend p .vdm [0, 0xFF01, 6, 0, (s.relayHpd p).toNat * 2 ^ 7] else s

def execAttention (p : Fin 6) (s : State) : Res := .next (s.attention p)

/-- CONFIGURE (R322, R224, R257): pin assignment C (3) or D (4). -/
def State.dpConfigure (s : State) (p pin : Nat) : State :=
  if s.rd (PD_STAT.MODE p) = 2 then
    let s := (s.modPd p fun x => { x with dpPin := pin }).pdSend p .vdm [0, 0xFF01, 0x11, 1]
    let s := if p = 0 ∧ s.rd UH_STAT.UPSRC = 2 then s.wr UH_STAT.SS_SPEED (s.c0Speed (s.rd UH_STAT.SS_SPEED)) else s
    s.attention p
  else s

def execConfigure (p : Fin 6) (c : Bool) (s : State) : Res := .next (s.dpConfigure p (if c then 3 else 4))

/-! ### Contracts (R305 to R307, R310) -/

/-- The data role differs from DATA_PREF, and no mode forbids a DR_Swap (R312). -/
def State.wantsDrSwap (s : State) (p : Nat) : Bool :=
  decide (s.rd (PD_STAT.MODE p) = 0 ∧ s.cfgRd p (PD_CFG.DATA_PREF p) = (if s.on (PD_STAT.DATA_ROLE p) then 2 else 1))

/-- A contract stands: its registers, what follows it once (R305, R312, R320); the end of a Fast Role Swap is a budget event (R309). -/
def State.contractMade (s : State) (p volt cur pos : Nat) (pps : Bool) : State :=
  let s := ((s.wr (PD_CONTRACT.VOLT p) volt).wr (PD_CONTRACT.CURR p) cur).wr (PD_CONTRACT.POS p) pos
  let s := ((s.wr (PD_STAT.CONTRACT p) 1).wr (PD_STAT.PPS p) pps.toNat).setPstate p 4
  let s := s.modPd p fun x => { x with next := none, step := none }
  let s := if s.isSource p then s.pdSend p .getSinkCap else if (s.pd p).frsHeld ≠ 0 then s.budget else s
  let s := if s.peerPort p ∧ ¬ s.offersTl p ∧ s.rd (PD_STAT.MODE p) = 0 then s.modeMissing p else s
  if s.wantsDrSwap p then s.askSwap p .drSwap else s.startDiscovery p

/-- The regulator's current limit in 10 mA for a Request granted (R306): that of a PPS Request, else what the PDO offers (assumption row 159). -/
def regLimit (w cur : Nat) (pps : Bool) : Nat := if pps then cur else fixedMa10 w

/-- Voltage (20 mV) and current (10 mA) that a Request of `cur` (10 mA; PPS: 50 mA) at `volt` asks of a PDO; none when it asks too much (R305). -/
def requestFits (w volt cur : Nat) : Option (Nat × Nat × Bool) :=
  if pdoKind w = 3 then
    if bitsOf w 8 8 * 5 ≤ volt ∧ volt ≤ bitsOf w 17 8 * 5 ∧ cur ≤ bitsOf w 0 7 then some (volt, cur * 5, true) else none
  else if cur ≤ fixedMa10 w then some (fixedMv50 w * 5 / 2, cur, false) else none

/-- The PD revision a partner's message shows (R300): with revision 2.0, PPS, EPR and Fast Role Swap are off. -/
def State.partnerRev (s : State) (p : Nat) (rev2 : Bool) : State := if s.attached p then s.modPd p fun x => { x with rev2 := rev2 } else s

/-- REQUEST (R305): position, voltage in 20 mV for a PPS APDO, operating current. -/
def State.pdRequest (s : State) (p pos volt cur : Nat) : State :=
  if ¬ s.attached p ∨ ¬ s.isSource p then s
  else match ((s.pd p).offered.find? fun o => decide (o.1 = pos)).bind fun o => (requestFits o.2 volt cur).map fun r => (o.2, r) with
  | some (w, v, i, pps) =>
    let old := if s.contract p then s.rd (PD_CONTRACT.VOLT p) else 250
    let s := s.modPd p fun x => { x with next := some (v, i, pos, pps), step := some (old, v), cut := false }
    ((s.pdSend p .accept).regulate p v (regLimit w i pps)).setPstate p 5
  | none => s.pdSend p .reject

def execRequest (p : Fin 6) (pos : Fin 16) (volt : Fin 4096) (cur : Fin 1024) (rev2 : Bool) (s : State) : Res :=
  .next ((s.partnerRev p rev2).pdRequest p pos volt cur)

/-- The source PDO the hub requests as sink (R302, R315): after a Fast Role Swap 5 V with FRS_CUR; else the highest voltage its own sink table holds. -/
def State.sinkChoice (s : State) (p : Nat) (caps : List Nat) : Nat × Nat × Nat :=
  let idx := caps.mapIdx fun i w => (i + 1, w)
  if (s.pd p).frsHeld ≠ 0 then (1, 250, min (frsMa10 (s.rd (PD_CFG.FRS_CUR p))) (fixedMa10 (caps.headD 0)))
  else
    let mine := (List.range 4).map fun i => s.rd (PD_SNK_PDO.PDO p i)
    let best := idx.foldl (fun b o =>
      match mine.find? fun w => decide (w ≠ 0 ∧ pdoKind w = 0 ∧ pdoKind o.2 = 0 ∧ fixedMv50 w = fixedMv50 o.2) with
      | some w => (match b with
        | some (_, v, _) => if v < fixedMv50 o.2 then some (o.1, fixedMv50 o.2, min (fixedMa10 w) (fixedMa10 o.2)) else b
        | none => some (o.1, fixedMv50 o.2, min (fixedMa10 w) (fixedMa10 o.2)))
      | none => b) (none : Option (Nat × Nat × Nat))
    match best with
    | some (i, v, c) => (i, v * 5 / 2, c)
    | none => (1, 250, min 50 (fixedMa10 (caps.headD 0)))

/-- Send the Request of a sink. -/
def State.sendRequest (s : State) (p pos volt cur : Nat) (pps : Bool) : State :=
  (s.modPd p fun x => { x with next := some (volt, cur, pos, pps), asked := some .request }).pdSend p .request [pos, volt, cur]

/-- SOURCE_CAPABILITIES (R305, R315). -/
def State.sourceCapsIn (s : State) (p : Nat) (caps : List Nat) (epr : Bool) : State :=
  if ¬ s.attached p ∨ caps.isEmpty then s
  else if s.isSource p then
    if (s.pd p).asked = some .getSourceCap then (s.modPd p fun x => { x with asked := none }).pdAnswer p stOk [1] else s
  else
    let s := s.modPd p fun x => { x with eprPartner := epr, asked := none }
    let c := s.sinkChoice p caps
    let s := (s.sendRequest p c.1 c.2.1 c.2.2 false).setPstate p 3
    s.pdAnswer p stOk [1]

def execSourceCapabilities (p : Fin 6) (caps : List (BitVec 32)) (epr rev2 : Bool) (s : State) : Res :=
  .next ((s.partnerRev p rev2).sourceCapsIn p (caps.map BitVec.toNat) epr)

/-- SINK_CAPABILITIES (R309): what the partner wants; whether it is EPR capable, and the FRS current it asks for. -/
def State.sinkCapsIn (s : State) (p : Nat) (caps : List Nat) (epr : Bool) (frs : Nat) : State :=
  if ¬ s.attached p then s else
    let s := s.modPd p fun x => { x with
      want := some ((caps.map pdoPower).foldl max 0), eprPartner := x.eprPartner || epr, frsAsk := frs }
    if s.isSource p then s.budget else s

def execSinkCapabilities (p : Fin 6) (caps : List (BitVec 32)) (epr rev2 : Bool) (frs : Fin 4) (s : State) : Res :=
  .next ((s.partnerRev p rev2).sinkCapsIn p (caps.map BitVec.toNat) epr frs)

/-- PPS_REQUEST_TIMEOUT (R306): 13 s without a Request. -/
def execPpsRequestTimeout (p : Fin 6) (s : State) : Res :=
  .next (if s.on (PD_STAT.PPS p) ∧ s.isSource p then s.sendHardReset p else s)

/-- PPS_REQUEST_TIMER (R306): the hub as PPS sink repeats its Request. -/
def execPpsRequestTimer (p : Fin 6) (s : State) : Res :=
  .next (if s.on (PD_STAT.PPS p) ∧ ¬ s.isSource p then
    s.sendRequest p (s.rd (PD_CONTRACT.POS p)) (s.rd (PD_CONTRACT.VOLT p)) (s.rd (PD_CONTRACT.CURR p)) true
  else s)

/-- GET_PPS_STATUS (R306): VBUS as measured, and whether the regulator limits; other contracts answer Not_Supported (R301). -/
def execGetPpsStatus (p : Fin 6) (volt : Fin 65536) (limiting : Bool) (s : State) : Res :=
  .next (if ¬ s.attached p then s
    else if s.on (PD_STAT.PPS p) ∧ s.isSource p then s.pdSend p .ppsStatus [volt, limiting.toNat] else s.pdSend p .notSupported)

/-- EPR_MODE (R307): 0 Enter, 1 Enter Succeeded and 2 Enter Failed for the hub as sink, 3 Exit. -/
def State.eprMode (s : State) (p kind : Nat) : State :=
  if ¬ s.attached p then s
  else if kind = 0 then
    if s.isSource p ∧ s.contract p ∧ s.on (PD_CFG.EPR_EN p) ∧ (s.pd p).cableEpr ∧ (s.pd p).amps5 ∧ (s.pd p).eprPartner ∧ ¬ (s.pd p).rev2 ∧
        (s.pd p).frs = 0 ∧ ¬ (s.eprOffer p).isEmpty then
      ((s.pdSend p .eprEntered).wr (PD_STAT.EPR p) 1).sendCaps p
    else s.pdSend p .eprEnterFailed
  else if kind = 1 then
    if (s.pd p).asked = some .eprEnter then ((s.modPd p fun x => { x with asked := none }).wr (PD_STAT.EPR p) 1).pdAnswer p stOk [0x0A] else s
  else if kind = 2 then
    if (s.pd p).asked = some .eprEnter then (s.modPd p fun x => { x with asked := none }).pdAnswer p stDenied [0x0A] else s
  else
    let s := s.wr (PD_STAT.EPR p) 0
    if s.isSource p then s.sendCaps p else s

def execEprMode (p : Fin 6) (kind : Fin 4) (s : State) : Res := .next (s.eprMode p kind)

/-- EPR_KEEPALIVE (R307): answered, and the contract renewed. -/
def execEprKeepalive (p : Fin 6) (s : State) : Res :=
  .next (if s.on (PD_STAT.EPR p) ∧ s.isSource p then s.pdSend p .eprKeepAliveAck else s)

/-- EPR_KEEPALIVE_TIMEOUT (R307): 900 ms without one. -/
def execEprKeepaliveTimeout (p : Fin 6) (s : State) : Res :=
  .next (if s.on (PD_STAT.EPR p) ∧ s.isSource p then s.sendHardReset p else s)

/-- EPR_KEEPALIVE_TIMER (R307): the hub as EPR sink, every 375 ms. -/
def execEprKeepaliveTimer (p : Fin 6) (s : State) : Res :=
  .next (if s.on (PD_STAT.EPR p) ∧ ¬ s.isSource p then s.pdSend p .eprKeepAlive else s)

/-- CAPS_CUT_TIMEOUT (R310): no Request 30 ms after a cut. -/
def execCapsCutTimeout (p : Fin 6) (s : State) : Res := .next (if (s.pd p).cut then s.sendHardReset p else s)

/-! ### Swaps (R312, R313) -/

/-- A swap of the hub has ended; a command waiting for it is answered. -/
def State.swapDone (s : State) (p status type : Nat) : State :=
  (s.modPd p fun x => { x with asked := none, swap := none, tries := 0 }).pdAnswer p status [BitVec.ofNat 8 type]

def isSwap : PdMsg → Bool
  | .prSwap | .drSwap | .vconnSwap => true
  | _ => false

/-- A request of the source arrives while the hub's own waits (R313): the hub's is discarded; a commanded one is answered and not retried. -/
def State.swapCollide (s : State) (p : Nat) : State :=
  match (s.pd p).asked with
  | some m =>
    if isSwap m ∧ ¬ s.isSource p then
      let byCmd := s.pdCommanded p
      let s := s.modPd p fun x => { x with asked := none, dropped := if byCmd then none else some (m, x.tries) }
      (s.raise (Ev.PD_COLLIDE p)).pdAnswer p stConflict [0]
    else s
  | none => s

/-- A PR_Swap is agreed (R312): the old source takes VBUS away and says so; the old sink waits for that. -/
def State.prSwapAgreed (s : State) (p : Nat) : State :=
  let s := (s.modPd p fun x => { x with swap := some .prSwap, asked := none }).setPstate p 6
  if s.isSource p then (((s.openChannel p).stopReg p).discharge p 1).pdSend p .psRdy else s

/-- As source the hub serves the partner's swap request only after its own exchange has ended (R313). -/
def State.mustWait (s : State) (p : Nat) : Bool := s.isSource p && ((s.pd p).asked.any isSwap || (s.pd p).swap.isSome)
def State.deferSwap (s : State) (p : Nat) (m : PdMsg) : State := s.modPd p fun x => { x with deferred := some m }

/-- PR_SWAP (R312, R313): refused when the hub would be source and the budget cannot pay 2.5 W. -/
def State.prSwapIn (s : State) (p : Nat) : State :=
  if ¬ s.attached p ∨ ¬ s.contract p then s
  else if s.mustWait p then s.deferSwap p .prSwap
  else
    let s := s.swapCollide p
    if s.cfgOn p (PD_CFG.ACC_PRS p) ∧ (s.isSource p ∨ 5 ≤ s.rd PDB_STAT.AVAIL) then (s.pdSend p .accept).prSwapAgreed p
    else s.pdSend p .reject

def execPrSwap (p : Fin 6) (s : State) : Res := .next (s.prSwapIn p)

/-- DR_SWAP (R312): Hard Reset while a mode is active. -/
def State.drSwapIn (s : State) (p : Nat) : State :=
  if ¬ s.attached p ∨ ¬ s.contract p then s
  else if s.rd (PD_STAT.MODE p) ≠ 0 then s.sendHardReset p
  else if s.mustWait p then s.deferSwap p .drSwap
  else
    let s := s.swapCollide p
    if s.cfgOn p (PD_CFG.ACC_DRS p) then ((s.pdSend p .accept).wr (PD_STAT.DATA_ROLE p) (1 - s.rd (PD_STAT.DATA_ROLE p))).startDiscovery p
    else s.pdSend p .reject

def execDrSwap (p : Fin 6) (s : State) : Res := .next (s.drSwapIn p)

/-- A VCONN_Swap is agreed: the new source turns VCONN on and says so; the old one waits for that. -/
def State.vconnAgreed (s : State) (p : Nat) : State :=
  if s.on (PD_STAT.VCONN p) then s.modPd p fun x => { x with swap := some .vconnSwap, asked := none }
  else (((s.setVconn p 1).pdSend p .psRdy).modPd p fun x => { x with asked := none })

/-- VCONN_SWAP (R312). -/
def State.vconnSwapIn (s : State) (p : Nat) : State :=
  if ¬ s.attached p ∨ ¬ s.contract p then s
  else if s.mustWait p then s.deferSwap p .vconnSwap
  else
    let s := s.swapCollide p
    if s.cfgOn p (PD_CFG.ACC_VCS p) ∧ (s.on (PD_STAT.VCONN p) ∨ ¬ (s.pd p).vconnLost) then (s.pdSend p .accept).vconnAgreed p else s.pdSend p .reject

def execVconnSwap (p : Fin 6) (s : State) : Res := .next (s.vconnSwapIn p)

/-- The hub's own exchange has ended: the partner's request that waited for it is served (R313). -/
def State.serveDeferred (s : State) (p : Nat) : State :=
  if s.mustWait p then s
  else match (s.pd p).deferred with
  | some m =>
    let s := s.modPd p fun x => { x with deferred := none }
    match m with
    | .prSwap => s.prSwapIn p
    | .drSwap => s.drSwapIn p
    | _ => s.vconnSwapIn p
  | none => s

/-- SWAP_RETRY (R313): the discarded request again, at most 3 times, if its cause still holds. -/
def State.swapRetry (s : State) (p : Nat) : State :=
  match (s.pd p).dropped with
  | some (m, n) =>
    let s := s.modPd p fun x => { x with dropped := none }
    let cause : Bool := match m with
      | .prSwap => s.prefersSource p && !s.isSource p
      | .drSwap => s.wantsDrSwap p
      | _ => true
    if n < 3 ∧ cause ∧ s.contract p then (s.modPd p fun x => { x with tries := n + 1 }).askSwap p m else s
  | none => s

def execSwapRetry (p : Fin 6) (s : State) : Res := .next (s.swapRetry p)

/-! ### Fast Role Swap (R315 to R317) -/

/-- No main input is valid any more (R315): initiator ports signal, every other sourcing port is disabled. -/
def State.inputLoss (s : State) : State :=
  let s := s.raise Ev.PDB_INPUT_LOSS
  s.each 6 fun p t =>
    if ¬ t.sourcing p then t
    else if t.contract p ∧ t.rd (PD_CFG.FRS_CUR p) ≠ 0 ∧ ¬ (t.pd p).rev2 then
      let t := if (t.pd p).asked = some .prSwap then t.pdAnswer p stConflict [0] else t
      let t := (t.stopReg p).modPd p fun x => { x with
        frs := 1, step := none, deferred := none, next := none, asked := if x.asked = some .prSwap then none else x.asked, dropped := none }
      (((((t.send (.pin 9 p 1)).discharge p 1).setOrient p 1).setPstate p 7).raise (Ev.PD_FRS p))
    else t.disablePort p

/-- The port is the sink at vSafe5V after a Fast Role Swap (R315 step 4). -/
def State.frsSinkNow (s : State) (p : Nat) : State :=
  let s := ((s.endContract p).wr (PD_STAT.PWR_ROLE p) 0).setPstate p 2
  let s := s.setReg (PD_ALLOC p) 0
  (s.modPd p fun x => { x with frs := 0, frsHeld := frsPower (s.rd (PD_CFG.FRS_CUR p)), leftSink := true })

/-- FR_SWAP (R315, R316): the initiator sends it within 10 ms of its signal; the responder accepts the partner's and is the new source. -/
def State.frSwap (s : State) (p : Nat) : State :=
  match (s.pd p).frs with
  | 1 => ((s.modPd p fun x => { x with frs := 2, asked := some .frSwap }).pdSend p .frSwap).send (.pin 9 p 0)
  | 5 =>
    let s := (s.pdSend p .accept).endContract p
    let s := (s.wr (PD_STAT.PWR_ROLE p) 1).setPstate p 2
    ((s.modPd p fun x => { x with frs := 0, frsHeld := 0, leftSink := false }).pdSend p .psRdy).budget
  | _ => s

def execFrSwap (p : Fin 6) (s : State) : Res := .next (s.frSwap p)

/-- FRS_SIGNAL_DETECT (R316): ignored unless armed. -/
def State.frsSignal (s : State) (p : Nat) : State :=
  if s.frsArmed p ∧ (s.pd p).frs = 0 then
    let s := if (s.pd p).asked.any isSwap then s.pdAnswer p stConflict [0] else s
    let s := s.modPd p fun x => { x with frs := 5, asked := none, dropped := none, deferred := none }
    (((s.regulate p 250 300).closeChannel p 0).setPstate p 7).raise (Ev.PD_FRS p)
  else s

def execFrsSignalDetect (p : Fin 6) (s : State) : Res := .next (s.frsSignal p)

/-- RETAKE_TIMER (R317): a main input has been valid for RETAKE seconds. -/
def execRetakeTimer (s : State) : Res :=
  .next (if s.rd PDB_STAT.IN_VALID = 0 then s else
    s.each 6 fun p t =>
      let t := if t.pstate p = 10 ∧ s.rd PDB_RESERVE.WATTS ≤ s.supply then t.setPstate p 0 else t
      if t.attached p ∧ ¬ t.isSource p ∧ (t.pd p).leftSink ∧ t.prefersSource p ∧ (t.pd p).asked.isNone then t.askSwap p .prSwap else t)

/-! ### Ends of exchanges (R305, R308, R438) -/

/-- TRANSITION_DONE: VBUS has been in range for 2 ms. A source says PS_RDY: for a contract, as the new source of a swap, or as FRS initiator. -/
def State.transitionDone (s : State) (p : Nat) : State :=
  let x := s.pd p
  if x.frs = 3 then (s.modPd p fun y => { y with frs := 4 }).pdSend p .psRdy
  else if x.swap = some .prSwap ∧ s.isSource p ∧ s.pstate p = 5 then
    ((s.modPd p fun y => { y with swap := none, leftSink := false }).pdSend p .psRdy).setPstate p 2 |>.swapDone p stOk 6
  else match x.next, s.isSource p, s.pstate p with
    | some (v, i, pos, pps), true, 5 => ((s.pdSend p .psRdy).contractMade p v i pos pps).pdAnswer p stOk [2]
    | _, _, _ => s

def execTransitionDone (p : Fin 6) (s : State) : Res := .next (if s.attached p then (s.transitionDone p).serveDeferred p else s)

/-- PS_RDY: at the sink of a contract, in a PR_Swap, a VCONN_Swap or a Fast Role Swap. -/
def State.psRdy (s : State) (p : Nat) : State :=
  let x := s.pd p
  if x.frs = 4 then s.frsSinkNow p
  else if x.swap = some .prSwap then
    if s.isSource p then
      let s := ((s.endContract p).wr (PD_STAT.PWR_ROLE p) 0).setPstate p 2
      ((s.setReg (PD_ALLOC p) 0).swapDone p stOk 6).budget
    else
      let s := ((s.wr (PD_STAT.CONTRACT p) 0).wr (PD_STAT.EPR p) 0).wr (PD_STAT.PPS p) 0
      (((s.wr (PD_STAT.PWR_ROLE p) 1).modPd p fun y => { y with frsHeld := 0, next := none }).regulate p 250 300).closeChannel p 0 |>.setPstate p 5 |>.budget
  else if x.swap = some .vconnSwap then (s.setVconn p 0).swapDone p stOk 6
  else match x.next, s.isSource p with
    | some (v, i, pos, pps), false => s.contractMade p v i pos pps
    | _, _ => s

def execPsRdy (p : Fin 6) (s : State) : Res := .next (if s.attached p then (s.psRdy p).serveDeferred p else s)

/-- Type code of an answer, for PD_ACTION. -/
def PdAnswer.code : PdAnswer → Nat
  | .accept => 3
  | .reject => 4
  | .wait => 0xC
  | .notSupported => 0x10

/-- ACCEPT (R438): the partner's answer to what the hub sent. -/
def State.pdAnswered (s : State) (p : Nat) (a : PdAnswer) : State :=
  let ok := decide (a = .accept)
  match (s.pd p).asked with
  | some .request =>
    let s := s.modPd p fun x => { x with asked := none, next := if ok then x.next else none }
    if ok then
      let v := (s.pd p).next.elim 250 fun n => n.1
      (s.modPd p fun x => { x with step := some (if s.contract p then s.rd (PD_CONTRACT.VOLT p) else 250, v) }).setPstate p 5
    else s.setPstate p (if s.contract p then 4 else 2)
  | some .prSwap =>
    if ok then s.prSwapAgreed p else (s.modPd p fun x => { x with leftSink := false }).swapDone p stDenied a.code
  | some .drSwap =>
    if ok then ((s.wr (PD_STAT.DATA_ROLE p) (1 - s.rd (PD_STAT.DATA_ROLE p))).swapDone p stOk a.code).startDiscovery p
    else
      let own := !s.pdCommanded p
      let s := s.swapDone p stDenied a.code
      if own then s.startDiscovery p else s
  | some .vconnSwap =>
    if ok then
      let s := s.vconnAgreed p
      if (s.pd p).swap.isNone then s.swapDone p stOk a.code else s
    else s.swapDone p stDenied a.code
  | some .frSwap =>
    if ok then (s.modPd p fun x => { x with asked := none, frs := 3 }).discharge p 0
    else ((s.sendHardReset p).disablePort p).budget
  | some .vdm => (s.vdmDone p).modeMissing p
  | some _ => s.swapDone p (if ok then stOk else stDenied) a.code
  | none => s

def execAccept (p : Fin 6) (answer : PdAnswer) (s : State) : Res := .next (if s.attached p then (s.pdAnswered p answer).serveDeferred p else s)

/-- SENDER_RESPONSE_TIMEOUT (R308, R315, R438): an answer or a PS_RDY has not come. -/
def State.pdTimeout (s : State) (p : Nat) : State :=
  let x := s.pd p
  if x.frs = 2 ∨ x.frs = 3 ∨ x.frs = 4 then ((s.sendHardReset p).disablePort p).budget
  else if x.frs = 5 ∨ x.swap.isSome then (s.pdAnswer p stTimeout [0]).sendHardReset p
  else match x.asked with
    | some .request => s.sendHardReset p
    | some .vdm => if s.pdCommanded p then (s.vdmDone p).pdAnswer p stTimeout [0] else (s.vdmDone p).modeMissing p
    | some m =>
      let own := !s.pdCommanded p
      let s := s.swapDone p stTimeout 0
      if m = .drSwap ∧ own then s.startDiscovery p else s
    | none => if x.next.isSome ∧ ¬ s.isSource p then s.sendHardReset p else s

def execSenderResponseTimeout (p : Fin 6) (s : State) : Res := .next (if s.attached p then (s.pdTimeout p).serveDeferred p else s)

/-- PD_FIRMWARE_MESSAGE (R301): answered from image data, whose bytes the spec does not give, or still due; a message of no row is answered
Not_Supported. -/
def State.pdFirmware (s : State) (p : Nat) (listed ready : Bool) : State :=
  if ¬ s.attached p then s
  else if ¬ listed then s.pdSend p .notSupported
  else if ready then
    let r := s.fresh
    r.2.pdSend p .firmware [r.1.toNat]
  else s.modPd p fun x => { x with fwWait := true }

/-- PD_FW_TIMEOUT (R301). -/
def execPdFwTimeout (p : Fin 6) (s : State) : Res :=
  .next (if (s.pd p).fwWait then (s.modPd p fun x => { x with fwWait := false }).pdSend p .notSupported else s)

/-- A main input's validity changed (R309, R315): the budget, and the loss of the last input. -/
def State.inputsChanged (s : State) : State :=
  let v := s.rd (EF_STAT.INPUT_VALID 6) + 2 * s.rd (EF_STAT.INPUT_VALID 7)
  if v = s.rd PDB_STAT.IN_VALID then s
  else
    let s := s.wr PDB_STAT.IN_VALID v
    let s := if v = 0 ∧ s.frsSupply = 0 then s.inputLoss else s
    s.budget

end Sys2Proof.Machine
end

