-- ==== Sys2Proof/Machine/Channel.lean ====
section
/-!
DEFINITION. What happens at the eFuse channels (R327 to R341).
-/

namespace Sys2Proof.Machine

/-- A channel trips (R335); a VBUS channel's PD controller acts on it (R319). -/
def State.breaker (s : State) (n : Nat) : State :=
  let s := s.tripChannel n
  if efMain n then s else s.pdTrip n

/-- SHORT_CIRCUIT (R329, R340): a start is no exception. -/
def execShortCircuit (n : Fin 8) (s : State) : Res :=
  .next (if s.efClosed n ∨ s.efState n = 2 then (s.raise (Ev.EF_SHORT n)).breaker n else s)

/-- LIMIT_START (R329, R330, R331): PG falls as the fault timer starts. A channel that still shows LIMITING had stopped for `b.idle` tenths of a
microsecond, less than the 1 ms that clears the timer: the timer held its value meanwhile (assumption row 160). -/
def execLimitStart (b : LimitBegin) (s : State) : Res :=
  let n := b.channel
  .next (if ¬ s.efClosed n then s
    else
      let acc := if s.on (EF_STAT.LIMITING n) then s.limitTime n - b.idle * 1000 else 0
      ((s.wr (EF_STAT.LIMITING n) 1).setPg n 0).modEf n fun x => { x with faultAcc := acc, limitFrom := s.uptime })

/-- FAULT_TIMER_EXPIRE (R330). -/
def execFaultTimerExpire (n : Fin 8) (s : State) : Res :=
  .next (if s.on (EF_STAT.LIMITING n) then (s.raise (Ev.EF_TRIP n)).breaker n else s)

/-- FAULT_TIMER_CLEAR (R330): 1 ms without limiting. -/
def execFaultTimerClear (n : Fin 8) (s : State) : Res :=
  .next ((s.wr (EF_STAT.LIMITING n) 0).modEf n fun x => { x with faultAcc := 0 })

/-- PG_RISE (R331, R333): fully on and not limiting for 1 ms; a starting channel is On and its pre-charge off. -/
def execPgRise (n : Fin 8) (s : State) : Res :=
  .next (if s.efClosed n then
    let s := (s.wr (EF_STAT.LIMITING n) 0).modEf n fun x => { x with faultAcc := 0 }
    let s := if efMain n then s.send (.pin 7 n 0) else s
    (s.setEf n 4).setPg n 1
  else s)

/-- CHANNEL_CLOSE (R332): the direction is ORIENT. -/
def execChannelClose (n : Fin 6) (orient : Fin 2) (s : State) : Res := .next (s.closeChannel n orient)

/-- CHANNEL_OPEN (R332). -/
def execChannelOpen (n : Fin 6) (s : State) : Res := .next (s.openChannel n)

/-- REVERSE (R332): current against ORIENT for 10 us on a VBUS channel, detection masked for 1 ms after a change of ORIENT. -/
def execReverse (n : Fin 6) (s : State) : Res :=
  .next (if s.efClosed n ∧ s.reverseSeen n then (s.raise (Ev.EF_REVERSE n)).breaker n else s)

/-- Main channel F6 or F7. -/
def mainChannel (i : Fin 2) : Nat := 6 + i

/-- WINDOW_ENTER (R333): EF_VIN is inside the window. -/
def execWindowEnter (i : Fin 2) (s : State) : Res :=
  .next (let n := mainChannel i
    let s := (s.wr (EF_STAT.IN_WIN n) 1).modEf n fun x => { x with debounced := false }
    if s.on (EF_CFG.EN n) ∧ s.efState n < 2 then s.setEf n 1 else s.showInput n)

/-- A main channel starts at pre-charge (R333). -/
def State.precharge (s : State) (n : Nat) : State := ((s.setOrient n 0).setEf n 2).send (.pin 7 n 1)

/-- INSERTION_DEBOUNCE (R333, R336): while the retry timer runs the insertion is held. -/
def execInsertionDebounce (i : Fin 2) (s : State) : Res :=
  .next (let n := mainChannel i
    if ¬ s.on (EF_STAT.IN_WIN n) ∨ ¬ s.on (EF_CFG.EN n) ∨ (s.ef n).debounced then s
    else
      let s := s.modEf n fun x => { x with debounced := true }
      if (s.ef n).retryEnd.isSome then s.raise (Ev.EF_INS_HELD n)
      else if s.efState n = 1 then s.precharge n else s)

/-- PRECHARGE_DONE (R333): the main gate charges. -/
def execPrechargeDone (i : Fin 2) (s : State) : Res :=
  .next (let n := mainChannel i
    if s.efState n = 2 then (s.setEf n 3).send (.pin 6 n 1) else s)

/-- PRECHARGE_TIMEOUT (R333, R335). -/
def execPrechargeTimeout (i : Fin 2) (s : State) : Res :=
  .next (let n := mainChannel i
    if s.efState n = 2 then (s.raise (Ev.EF_PC_FAIL n)).breaker n else s)

/-- WINDOW_FAULT (R333, R340): every transistor opens at once; no trip. -/
def execWindowFault (i : Fin 2) (above : Bool) (s : State) : Res :=
  .next (let n := mainChannel i
    if ¬ s.on (EF_STAT.IN_WIN n) then s
    else
      let s := (s.wr (EF_STAT.IN_WIN n) 0).modEf n fun x => { x with debounced := false, faultAcc := 0 }
      let s := s.gateOff n
      let st := s.efState n
      let s := if st = 2 ∨ st = 3 then s.setEf n 1 else if st = 4 ∨ st = 5 then s.setEf n 0 else s.showInput n
      s.raise (if above then Ev.EF_OV n else Ev.EF_UV n))

/-- REVERSE_BLOCK (R334). -/
def execReverseBlock (i : Fin 2) (s : State) : Res :=
  .next (let n := mainChannel i
    if s.efState n = 4 then (((s.send (.pin 6 n 0)).setPg n 0).wr (EF_STAT.LIMITING n) 0).setEf n 5 else s)

/-- BLOCK_RELEASE (R334): On again without a new pre-charge; PG rises in its time. -/
def execBlockRelease (i : Fin 2) (s : State) : Res :=
  .next (let n := mainChannel i
    if s.efState n = 5 then (s.setEf n 4).send (.pin 6 n 1) else s)

/-- RETRY_TIMER_EXPIRE (R335, R336): a held insertion starts; a VBUS channel waits for its PD controller. -/
def execRetryTimerExpire (n : Fin 8) (s : State) : Res :=
  .next (if (s.ef n).retryEnd.isNone then s
    else
      let s := s.modEf n fun x => { x with retryEnd := none }
      if s.efState n ≠ 6 then s
      else if s.tripsOver n then (s.setEf n 7).raise (Ev.EF_LATCH n)
      else if efMain n ∧ s.on (EF_STAT.IN_WIN n) ∧ s.on (EF_CFG.EN n) then
        if (s.ef n).debounced then s.precharge n else s.setEf n 1
      else
        let s := s.setEf n 0
        if ¬ efMain n ∧ s.pstate n = 9 then s.setPstate n 0 else s)

/-- TRIPS_RESET (R335): 10 s of continuous PG. -/
def execTripsReset (n : Fin 8) (s : State) : Res := .next (if s.on (EF_STAT.PG n) then s.wr (EF_STAT.TRIPS n) 0 else s)

/-- What a write of EF_CMD.CLEAR or EF_CLEAR does (R335, R340): TRIPS and the latch clear; a running retry timer runs to its end. -/
def State.efClear (s : State) (n : Nat) : State :=
  let s := s.wr (EF_STAT.TRIPS n) 0
  if s.efState n = 7 then
    if (s.ef n).retryEnd.isSome then s.setEf n 6
    else if efMain n ∧ s.on (EF_STAT.IN_WIN n) ∧ s.on (EF_CFG.EN n) then (if (s.ef n).debounced then s.precharge n else s.setEf n 1)
    else
      let s := s.setEf n 0
      if ¬ efMain n ∧ s.pstate n = 9 then s.setPstate n 0 else s
  else s

end Sys2Proof.Machine
end

