-- ==== Sys2Proof/Machine/Sched.lean ====
section
/-!
DEFINITION. The allotment scheduler of the cable ports (R149 to R168): slots, shapers, gate lists, epochs, tables and the lane plan.
-/

namespace Sys2Proof.Machine

/-! ### Tables and gate lists (R155, R159) -/

/-- The fields of table `t` of port `p`. -/
def State.tblHdr (s : State) (p t : Nat) : Nat × Nat × Nat :=
  if t = 0 then (s.rd (AL_TBL0_HDR.PLAN p), s.rd (AL_TBL0_HDR.GCL p), s.rd (AL_TBL0_HDR.GCL_EN p))
  else (s.rd (AL_TBL1_HDR.PLAN p), s.rd (AL_TBL1_HDR.GCL p), s.rd (AL_TBL1_HDR.GCL_EN p))

def State.act (s : State) (p : Nat) : Nat := s.rd (AL_STAT.ACT p)

/-- Weight (0 counts as 1), SHAPE and SLOPE of queue `q` in the active table. -/
def State.qWeight (s : State) (p q : Nat) : Nat := max 1 (s.rd (if s.act p = 0 then AL_TBL0_Q.WEIGHT p q else AL_TBL1_Q.WEIGHT p q))
def State.qShape (s : State) (p q : Nat) : Bool := s.on (if s.act p = 0 then AL_TBL0_Q.SHAPE p q else AL_TBL1_Q.SHAPE p q)
def State.qSlope (s : State) (p q : Nat) : Nat := s.rd (if s.act p = 0 then AL_TBL0_Q.SLOPE p q else AL_TBL1_Q.SLOPE p q)

/-- Gate list `x` of port `p` as its registers hold it: entries in use with durations in ns; the bit of Q0 is 1. -/
def State.gateList (s : State) (p x : Nat) : List (Nat × Nat) :=
  (List.range (max 1 (min 32 (s.rd (if x = 0 then AL_GCL0_CTRL.LEN p else AL_GCL1_CTRL.LEN p))))).map fun i =>
    if x = 0 then (Nat.lor 1 (s.rd (AL_GCL0_E.GATES p i)), s.rd (AL_GCL0_E.DUR p i) * 16)
    else (Nat.lor 1 (s.rd (AL_GCL1_E.GATES p i)), s.rd (AL_GCL1_E.DUR p i) * 16)

/-- The list the active table selects; none with gates disabled. -/
def State.gateChoice (s : State) (p : Nat) : Option (List (Nat × Nat)) :=
  let h := s.tblHdr p (s.act p)
  if h.2.2 = 0 then none else some (s.gateList p h.2.1)

/-- A table or list of port `p` changed: the selection waits for its first cycle start from a time on (R160, R167). -/
def State.gatesTouched (s : State) (p start : Nat) : State :=
  s.modSched p fun x => { x with gatePend := decide (s.gateChoice p ≠ x.gates), gateFrom := start }

/-- A cycle of a list has started at or after `start` and not after `now`. -/
def cycleStart (l : List (Nat × Nat)) (start now : Nat) : Bool := decide (start ≤ now / gateCycle l * gateCycle l)

/-- A new selection of gates takes force once its cycle has started (R160, R167): a cycle of the list in force, when gates go off. -/
def State.takeGates (s : State) (p : Nat) : State :=
  let x := s.sched p
  if x.gatePend then
    let take := match s.gateChoice p, x.gates with
      | some l, _ => cycleStart l x.gateFrom s.time.toNs
      | none, some l => cycleStart l x.gateFrom s.time.toNs
      | none, none => true
    if take then s.setSched p { x with gates := s.gateChoice p, gatePend := false } else s
  else s

/-- GATE_ENTRY_END (R155): an entry's duration has ended. The entry in force is read off the time of a slot's codeword (R150), so the slots of a codeword in
progress keep its gates. -/
def State.gateEntryEnd (s : State) (p : Nat) : State := if s.linkRuns p ∧ (s.link p).slot ≠ 0 then s else s.takeGates p

def execGateEntryEnd (p : Fin 6) (s : State) : Res := .next (s.gateEntryEnd p)

/-- The gate of queue `q` in the codeword in progress (R155); Q0 and no list: open. -/
def SchedSt.gateOpen (x : SchedSt) (q : Nat) : Bool :=
  match x.gates with
  | none => true
  | some l => bitOf (gateMask l x.cwAt.ns) q

/-- The packet's cells fit what is left of the window (R156): slots from this one whose codewords start before the window ends. -/
def State.slotsFit (s : State) (p q n : Nat) : Bool :=
  let x := s.sched p
  match x.gates with
  | none => true
  | some l => match windowLeft l x.cwAt.ns q with
    | none => true
    | some w => decide (n ≤ 5 * s.codewordsIn p 0 w - (s.link p).slot)

/-! ### Virtual time and shapers (R151 to R154) -/

/-- Tag `a` is before tag `b`: signed difference modulo 2^40. -/
def tagBefore (a b : Nat) : Bool := decide (0 < (b + 2 ^ 40 - a) % 2 ^ 40 ∧ (b + 2 ^ 40 - a) % 2 ^ 40 < 2 ^ 39)

def SchedSt.startTag (x : SchedSt) (q : Nat) : Nat := if (x.queue q).woke then x.v else (x.queue q).fin

/-- Classes that queue `q` serves, from the one its round robin stands at (R149). -/
def State.queueClasses (s : State) (p q : Nat) : List Nat :=
  ((List.range 8).map fun k => (((s.sched p).queue q).rr + k) % 8).filter fun tc => decide (s.queueOf p tc = q)

/-- Head of a queue: the class whose packet would start next, and that packet's staged first cell. -/
def State.queueHead (s : State) (p q : Nat) : Option (Nat × StageCell) :=
  (s.queueClasses p q).findSome? fun tc =>
    match s.stage (stIdx p tc) with
    | c :: _ => if c.idx = 0 then some (tc, c) else none
    | [] => none

/-- A class has an open packet in some queue of the port (R67). -/
def SchedSt.classOpen (x : SchedSt) (tc : Nat) : Bool := x.queues.any fun e => decide (e.2.opened = some tc)

def State.cellPkt (s : State) (c : StageCell) : Packet := (s.stored c.ref.id).elim {} Stored.pkt

/-- Cells of the head packet on this output (R75), and its length for tags and credits (R153). -/
def State.headCells (s : State) (p : Nat) (c : StageCell) : Nat :=
  (s.stored c.ref.id).elim 1 fun st => st.outCells (s.linkEnc p)
def State.headLen (s : State) (p q : Nat) (c : StageCell) : Nat := 16 + (s.cellPkt c).len + s.rd (AL_QCFG.OVH p q)

/-- Credits count in this fraction of a byte: a slot of W lanes adds SLOPE × 329,474 × g × 6 / W of it (R154). -/
def creditScale : Nat := 64000 * 8000 * 6

/-- `grow_credits` of R151 for one queue (R154). -/
def State.growCredit (s : State) (p q : Nat) : State :=
  if s.qShape p q then
    let x := s.sched p
    let c := (x.queue q).credit
    let gain : Int := (s.qSlope p q * 329474 * gaitDiv (s.gait p) * 6 / max 1 (s.widthNow p 0) : Nat)
    let c' : Int :=
      if ¬ x.gateOpen q then c
      else if ¬ s.queueIdle p q then min (c + gain) ((s.rd (AL_QCFG.HICREDIT p q) * 64 * creditScale : Nat) : Int)
      else if 0 < c then 0 else min (c + gain) 0
    s.setSched p (x.setQueue q { x.queue q with credit := c' })
  else s

/-- `ready` of R151. -/
def State.queueReady (s : State) (p q : Nat) : Bool :=
  let x := s.sched p
  match (x.queue q).opened with
  | some tc => !(s.stage (stIdx p tc)).isEmpty
  | none => match s.queueHead p q with
    | none => false
    | some (tc, c) =>
      !x.classOpen tc && x.gateOpen q && s.slotsFit p q (s.headCells p c) &&
        !(s.qShape p q && decide ((x.queue q).credit < 0)) && decide (s.headCells p c ≤ s.rd (CL_CRED_AVAIL.AVAIL p tc))

/-- `tag` of R151. -/
def State.queueTag (s : State) (p q : Nat) : Nat :=
  let x := s.sched p
  match (x.queue q).opened with
  | some _ => (x.queue q).fin
  | none => match s.queueHead p q with
    | none => x.startTag q
    | some (_, c) => (x.startTag q + s.headLen p q c * 256 / s.qWeight p q) % 2 ^ 40

/-- The queue that takes the slot: strict ones in order, then the lowest tag, ties to the lower queue (R151). -/
def State.pickQueue (s : State) (p : Nat) : Option Nat :=
  match [1, 2, 3].find? fun q => s.queueReady p q with
  | some q => some q
  | none => ((List.range 12).map (4 + ·)).foldl (fun b q =>
      if s.queueReady p q then
        match b with
        | none => some q
        | some r => if tagBefore (s.queueTag p q) (s.queueTag p r) then some q else b
      else b) none

/-! ### Cells on the wire (R66, R91, R93) -/

/-- Credits returned in the next cell header (R66, R78): the next class with any pending, at most 31. -/
def State.takeReturn (s : State) (p : Nat) : Nat × Nat × State :=
  let l := s.link p
  match ((List.range 8).map fun k => (l.credRot + k) % 8).find? fun tc => decide (l.credPend.getD tc 0 ≠ 0) with
  | none => (0, 0, s)
  | some tc =>
    let n := min 31 (l.credPend.getD tc 0)
    (tc, n, s.setLink p { l with credPend := l.credPend.set tc (l.credPend.getD tc 0 - n), credRot := (tc + 1) % 8 })

/-- A 64-byte cell (R66). -/
def cellBytes (kind : Nat) (first last : Bool) (tc tail bytes kp pn crTc crCnt : Nat) (data : List Byte) : List Byte :=
  be 4 (kind * 2 ^ 30 + first.toNat * 2 ^ 29 + last.toNat * 2 ^ 28 + tc * 2 ^ 25 + tail * 2 ^ 23 + bytes * 2 ^ 17 + kp * 2 ^ 16 + pn * 2 ^ 8 +
    crTc * 2 ^ 5 + crCnt) ++ data ++ List.replicate (60 - data.length) 0

/-- Key and IV of a direction of port `p` for a packet number (R88, R91); `tx`: this hub sends. -/
def State.linkCipher (s : State) (p : Nat) (prk : List Byte) (tx : Bool) (pn : Nat) : List Byte × List Byte :=
  let low := decide (s.uid < (s.link p).peerUid)
  let k := linkKey prk (s.linkVer p) (low = tx)
  (k.1, k.2 ++ be 8 pn)

/-- The bytes of a stored packet as port `p` sends it (R70, R75, R91), as far as they are there: header, payload, and on an encrypted link trailer and
tag once the packet is complete. -/
def State.wireBytes (s : State) (p : Nat) (st : Stored) (prk : List Byte) (pn : Nat) : List Byte :=
  let h := st.pkt.header
  if s.linkEnc p then
    let k := s.linkCipher p prk true pn
    let pad := Config.gcmPad k.1 k.2 (st.pkt.len + 1)
    if st.complete ∧ ¬ st.cut then
      let ct := xorBytes (st.pkt.payload ++ [BitVec.ofNat 8 st.pkt.tail]) pad
      h ++ ct ++ Config.gcmTag k.1 k.2 h ct
    else h ++ xorBytes st.pkt.payload pad
  else h ++ st.pkt.payload

/-- A queue with no packet open opens the next one (R151, R152): its tags, its credit, its packet number. -/
def State.openNext (s : State) (p q : Nat) : State :=
  let start := (s.sched p).queue q
  match start.opened, s.queueHead p q with
  | none, some (tc, c) =>
    let x := s.sched p
    let st := x.startTag q
    let v := if 4 ≤ q ∧ tagBefore x.v st then st else x.v
    let l := s.link p
    let enc := s.linkEnc p
    let len := s.headLen p q c
    let credit := if s.qShape p q then (x.queue q).credit - ((len * creditScale : Nat) : Int) else (x.queue q).credit
    let y := { x.queue q with
      opened := some tc, rr := (tc + 1) % 8, inWindow := true, credit := credit
      fin := if 4 ≤ q then (st + len * 256 / s.qWeight p q) % 2 ^ 40 else (x.queue q).fin
      woke := if 4 ≤ q then false else (x.queue q).woke
      prk := if enc then l.prkTx else [], pn := if enc then l.pnTx else 0, kp := if enc then s.rd (CL_STAT.KP p) else 0 }
    let s := s.setSched p ({ x with v := v }.setQueue q y)
    if enc then s.modLink p fun l => { l with pnTx := l.pnTx + 1 } else s
  | _, _ => s

/-- Count a cell sent (R151, R156, R138): its queue's cells, a gate it overran, poison; the packet ends with its last cell, and is lost
where that closes it for a failed descriptor (R132). -/
def State.cellSent (s : State) (p q : Nat) (overrun : Bool) (tail : Nat) (c : StageCell) : State :=
  let s := s.wrapAdd (AL_QCELLS.CELLS p q) 1
  let s := if overrun then
      (s.modSched p fun z => z.setQueue q { z.queue q with inWindow := false }).raise (Ev.AL_GATE_OVERRUN p)
    else s
  let s := if tail ≠ 0 then s.satAdd (CL_POISON.TX p) 1 else s
  if c.last then
    let s := s.modSched p fun z => z.setQueue q { z.queue q with opened := none }
    if c.lost then s.loseStored c.ref.id c.ref.mirror else s.release c.ref.id c.ref.mirror
  else s

/-- `send_cell` of R151: the next cell of the queue's packet, which starts here unless one is open; its bytes are those this reference read (R131). -/
def State.sendCell (s : State) (p q : Nat) : State :=
  let s := s.openNext p q
  let x := s.sched p
  let y := x.queue q
  match y.opened with
  | none => s
  | some tc => match s.stage (stIdx p tc) with
    | [] => s
    | c :: rest =>
      let st := (s.stored c.ref.id).getD { pkt := {}, inp := 0, cells := 0, lossless := false, refs := 0, complete := true }
      let st := { st with pkt := c.ref.view st.pkt }
      let n := st.outCells (s.linkEnc p)
      let tailCell := c.lost || (st.complete && st.cut && decide (c.idx + 1 = n))
      let data := if tailCell then [] else ((s.wireBytes p st y.prk y.pn).drop (60 * c.idx)).take 60
      let first := decide (c.idx = 0)
      let tail := if c.lost then 3 else if c.last then st.pkt.tail else 0
      let r := s.takeReturn p
      let enc := s.linkEnc p
      let cell := cellBytes 1 first c.last tc tail data.length (if first ∧ enc then y.kp else 0) (if first ∧ enc then y.pn % 256 else 0) r.1 r.2.1 data
      let s := (r.2.2.putCell p cell).setStage (stIdx p tc) rest
      let s := s.wr (CL_CRED_AVAIL.AVAIL p tc) (s.rd (CL_CRED_AVAIL.AVAIL p tc) - 1)
      let s := s.cellSent p q (y.inWindow && !x.gateOpen q) tail c
      if c.last ∧ st.pkt.neighbour ∧ byteAt st.pkt.payload 2 = 0x81 then s.replySent p else s

/-- A link control message as an encrypted link carries it (R91): its first four bytes in clear, the body encrypted, the tag. -/
def State.sealCtl (s : State) (p : Nat) (raw : List Byte) (pn : Nat) : List Byte :=
  let k := s.linkCipher p (s.link p).prkTx true pn
  raw.take 4 ++ aesGcmSeal k.1 k.2 (raw.take 4) (raw.drop 4)

/-- The first cell of a message has left (R96): SYNC is followed by its stamp, DELAY_REQ is stamped here. A stamp is the time of the codeword (R97,
assumption row 139); one in a transition of the lanes is not used (R98). -/
def State.ctlStamp (s : State) (p : Nat) (raw : List Byte) : State :=
  let at_ := (s.sched p).cwAt.fine
  if byteAt raw 0 = 0x20 then s.sendCtl p 0x21 (bytesAt raw 4 4 ++ at_.be)
  else if byteAt raw 0 = 0x22 then s.modLink p fun l => { l with t3 := if s.transition p then none else some at_ }
  else s

/-- One cell of Q0 (R66, R79, R151): a message's cells run together. It takes its packet number and its protection with its first cell (R91, R92). -/
def State.sendControl (s : State) (p : Nat) (m : CtlMsg) (rest : List CtlMsg) : State :=
  let first := decide (m.sent = 0)
  let enc := s.linkEnc p && !authType (byteAt m.raw 0)
  let pn := (s.link p).pnTx
  let wire := if first then (if enc then s.sealCtl p m.raw pn else m.raw) else m.wire
  let last := decide (wire.length ≤ 60 * (m.sent + 1))
  let data := (wire.drop (60 * m.sent)).take 60
  let r := s.takeReturn p
  let cell := cellBytes 2 first last 0 0 data.length (if first ∧ enc then s.rd (CL_STAT.KP p) else 0) (if first ∧ enc then pn % 256 else 0) r.1 r.2.1 data
  let s := r.2.2.putCell p cell
  let s := s.modSched p fun x => { x with ctl := if last then rest else { m with sent := m.sent + 1, wire := wire } :: rest }
  let s := if first ∧ enc then s.modLink p fun l => { l with pnTx := l.pnTx + 1 } else s
  let s := if first then s.ctlStamp p m.raw else s
  s.wrapAdd (AL_QCELLS.CELLS p 0) 1

/-- An idle cell (R65, R66). -/
def State.sendIdle (s : State) (p : Nat) : State :=
  let r := s.takeReturn p
  r.2.2.putCell p (cellBytes 0 false false 0 0 0 0 0 r.1 r.2.1 [])

/-- Make table `t` of port `p` the active one (R159, R160), for codewords from `start` on. -/
def State.flipTable (s : State) (p t start : Nat) : State :=
  if s.act p = t then s else ((s.wr (AL_STAT.ACT p) t).wr (AL_STAT.ARMED p) 0).gatesTouched p start

/-- Take the flip that is due (R158, R159). -/
def State.takeFlip (s : State) (p : Nat) : State :=
  match (s.sched p).flipAt with
  | some (t, start) =>
    if start ≤ s.time.toNs then (s.modSched p fun x => { x with flipAt := none }).flipTable p t s.time.toNs else s
  | none => s

/-- A flip falls at this moment (R159, R161): inside a quiet point it is held to its end. -/
def State.flipDue (s : State) (p t : Nat) : State :=
  if s.act p = t then s
  else
    let held := decide (s.time.toNs < s.pol.quietUntil)
    let s := if held then s.raise (Ev.AL_FLIP_HELD p) else s
    s.modSched p fun x => { x with flipAt := some (t, if held then s.pol.quietUntil else s.time.toNs) }

/-- The follower's announced flip falls due at the first codeword after the owner's codeword has come (R161). -/
def State.followFlip (s : State) (p : Nat) : State :=
  match (s.sched p).follow with
  | some (t, cw) => if cw < (s.link p).cwRx then (s.modSched p fun x => { x with follow := none }).flipDue p t else s
  | none => s

/-- A codeword of the transmit direction begins: its time (R150), the flip and the gates in force at it (R158 to R160), its lanes (R41). -/
def State.codewordStart (s : State) (p : Nat) : State :=
  ((((s.modSched p fun x => { x with cwAt := s.time }).followFlip p).takeFlip p).takeGates p).beginStripe p

/-! ### Epochs (R158, R159, R163) -/

/-- Utilisation in 1/256 of `b` busy slots of `n`. -/
def utilisation (b n : Nat) : Nat := if n = 0 then 0 else min 255 (b * 256 / n)

/-- Cells waiting toward a port (R163). -/
def State.backlog (s : State) (p : Nat) : Nat := ((List.range 8).map fun tc => s.queuedCells p tc).sum

/-- Slack, and the park condition, of a direction (R163, R164). -/
def slackAt (u w lim : Nat) : Bool := decide (2 ≤ w ∧ u * w ≤ lim * (w - 1))

/-- Consecutive completed epochs. -/
def runOf (holds : Bool) (n : Nat) : Nat := if holds then n + 1 else 0

/-- The measurements of the epoch just ended, with the backlog at its boundary, and the runs of the rules of R164. -/
def State.measure (s : State) (p back : Nat) : State :=
  let x := s.sched p
  let tu := utilisation x.busyTx x.slots
  let ru := utilisation x.busyRx x.slotsRx
  let b := min (2 ^ 19 - 1) back
  let wt := (s.striped p 0).length
  let wr_ := (s.striped p 1).length
  let hi := s.rd (AL_ASYM.HI p)
  let lo := s.rd (AL_ASYM.LO p)
  let pt := decide (hi ≤ tu ∧ s.rd (AL_ASYM2.BACKLOG_MIN p) ≤ b)
  let pr := decide (hi ≤ ru)
  let asym := decide (wt ≠ wr_)
  let wideSlack := if wr_ < wt then slackAt tu wt lo else slackAt ru wr_ lo
  let s := ((s.wr (AL_STAT.TXU p) tu).wr (AL_STAT.RXU p) ru).wr (AL_BACKLOG.CELLS p) b
  s.setSched p { x with
    slots := 0, slotsRx := 0, busyTx := 0, busyRx := 0
    pressTx := runOf pt x.pressTx, pressRx := runOf pr x.pressRx
    turnTx := runOf (pt && slackAt ru wr_ lo) x.turnTx, turnRx := runOf (pr && slackAt tu wt lo) x.turnRx
    relax := runOf (asym && !pt && !pr && wideSlack) x.relax
    parkTx := runOf (slackAt tu wt (s.rd (AL_ASYM2.PARK p))) x.parkTx, parkRx := runOf (slackAt ru wr_ (s.rd (AL_ASYM2.PARK p))) x.parkRx
    dwell := min 65535 (x.dwell + 1) }

/-- The slot has been filled: count it; with its fifth the codeword leaves (R40), and an epoch that ended within it is measured (R150). -/
def State.slotDone (s : State) (p : Nat) (busy : Bool) : State :=
  let s := s.modSched p fun x => { x with slots := x.slots + 1, busyTx := x.busyTx + busy.toNat }
  if (s.link p).slot = 4 then
    let s := (s.modLink p fun l => { l with slot := 0 }).sendCodeword p
    match (s.sched p).epochEnd with
    | some b => (s.modSched p fun x => { x with epochEnd := none }).measure p b
    | none => s
  else s.modLink p fun l => { l with slot := l.slot + 1 }

/-- CELL_SLOT (R150, R151): one slot of a trained, unparked link. -/
def State.cellSlot (s : State) (p : Nat) : State :=
  if ¬ s.linkIsUp p ∨ (s.link p).parked then s
  else
    let s := if (s.link p).slot = 0 then s.codewordStart p else s
    let s := (List.range 15).foldl (fun t q => t.growCredit p (q + 1)) s
    match (s.sched p).ctl with
    | m :: rest => (s.sendControl p m rest).slotDone p true
    | [] => match s.pickQueue p with
      | some q => (s.sendCell p q).slotDone p true
      | none => (s.sendIdle p).slotDone p false

def execCellSlot (p : Fin 6) (s : State) : Res := .next (s.cellSlot p)

/-! ### Arming (R159) -/

/-- Port `p` flips by the owner's PLAN_FLIP, not by its own ARM (R161). -/
def State.followsOwner (s : State) (p : Nat) : Bool := s.on (AL_CTRL.FOLLOW p) && decide (s.planOwner p ≠ some true)

/-- AL_ARM.ARM = 1 (R159, R161): the shadow is armed; a follower ignores it. -/
def State.arm (s : State) (p : Nat) : State := if s.followsOwner p then s else s.wr (AL_STAT.ARMED p) 1

/-- AL_ARM.DISARM = 1 (R159, R167): after the decision point the flip is taken all the same. -/
def State.disarm (s : State) (p : Nat) : State :=
  if (s.sched p).flipNext ∨ (s.sched p).flipAt.isSome then s else s.wr (AL_STAT.ARMED p) 0

/-- EPOCH_BOUNDARY (R158, R159, R163): on every port the flip latched at the decision point falls due, and the epoch is measured. The slots of a codeword in
progress belong to the epoch of its time (R150). -/
def State.epochBoundary (s : State) : State :=
  let s := s.wr AL_EPOCH_NUM.INDEX (s.time.ns / (max 1 (s.rd AL_EPOCH.EPOCH) * 1000))
  s.each 6 fun p t =>
    let t := if (t.sched p).flipNext then (t.modSched p fun x => { x with flipNext := false }).flipDue p (1 - t.act p) else t
    let t := if t.linkRuns p then t else t.takeFlip p
    if t.linkRuns p ∧ (t.link p).slot ≠ 0 then t.modSched p fun x => { x with epochEnd := some (t.backlog p) } else t.measure p (t.backlog p)

def execEpochBoundary (s : State) : Res := .next s.epochBoundary

/-! ### The lane plan (R164, R165) -/

/-- ns from now to the next epoch boundary. -/
def State.toBoundary (s : State) : Nat :=
  let e := max 1 (s.rd AL_EPOCH.EPOCH) * 1000
  e - s.time.ns % e

/-- The codeword of a direction expected first at or after the boundary (R161, R165): counted from the one that began last at this end, or from the one
received next. Between two codewords of this end the next is due a codeword's time after the last, or now. -/
def State.boundaryCw (s : State) (p d : Nat) : Nat :=
  let l := s.link p
  let gone := s.time.toNs - (s.sched p).cwAt.toNs
  if d ≠ 0 then l.cwRx + s.codewordsIn p 1 s.toBoundary
  else if l.slot ≠ 0 then l.cwTx + s.codewordsIn p 0 (s.toBoundary + gone)
  else if l.cwTx ≠ 0 ∧ s.codewordsIn p 0 gone ≤ 1 then l.cwTx - 1 + s.codewordsIn p 0 (s.toBoundary + gone)
  else l.cwTx + s.codewordsIn p 0 s.toBoundary

/-- The lane of a direction with the highest POS. -/
def State.topLane (s : State) (p d : Nat) : Option Nat :=
  (s.striped p d).foldl (fun b n => match b with
    | none => some n
    | some m => if s.rd (LN_STAT.POS m) < s.rd (LN_STAT.POS n) then some n else b) none

/-- Announce the turn of a lane out of direction `d` (R165, R80). -/
def State.announceTurn (s : State) (p d n : Nat) : State :=
  let cw := s.boundaryCw p d
  let pos := (s.striped p (1 - d)).length
  let s := s.sendCtl p 0x06 (be 1 (n % 4) ++ be 1 d ++ be 1 pos ++ be 1 0 ++ be 8 cw)
  let s := s.holdAct p { kind := 0, lane := n, tx := decide (d = 0), newPos := pos, cw := cw }
  s.raise (Ev.AL_TURN p)

/-- A turn from direction `d` whose rule holds: made, or blocked (R164). -/
def State.turn (s : State) (p d : Nat) : State :=
  let minW := max 1 (s.rd (if d = 0 then AL_ASYM.MINW_TX p else AL_ASYM.MINW_RX p))
  match s.topLane p d with
  | some n =>
    if s.mayTurn p ∧ ¬ s.on (LN_CTRL.NO_TURN n) ∧ minW < (s.striped p d).length then s.announceTurn p d n
    else s.raise (Ev.AL_TURN_BLOCKED p)
  | none => s

/-- Announce that a lane enters (ACTION 0) or leaves (2) Stand at the boundary (R165, R80). -/
def State.announcePark (s : State) (p d n action : Nat) : State :=
  let cw := s.boundaryCw p d
  let s := s.sendCtl p 0x0A (be 1 (n % 4) ++ be 1 action ++ be 2 0 ++ be 8 cw)
  s.holdAct p { kind := if action = 2 then 4 else 2 + action, lane := n, tx := decide (d = 0), cw := cw }

/-- A lane of a direction in Stand. -/
def State.standing (s : State) (p d : Nat) : Option Nat :=
  (portLanes p).find? fun n => decide (s.laneState n = 5 ∧ s.rd (LN_STAT.DIR n) = d)

/-- Lanes standing by are to go on: wakes, by direction (R164). -/
def State.planWake (s : State) (p : Nat) : Option (Nat × Nat) :=
  let x := s.sched p
  match if 1 ≤ x.pressTx then s.standing p 0 else none with
  | some n => some (0, n)
  | none => (if 1 ≤ x.pressRx then s.standing p 1 else none).map fun n => (1, n)

/-- A lane to park, by direction (R164). -/
def State.planPark (s : State) (p : Nat) : Option (Nat × Nat) :=
  let x := s.sched p
  let relax := s.rd (AL_ASYM2.RELAX p)
  match if 2 ≤ (s.striped p 0).length ∧ relax ≤ x.parkTx then s.topLane p 0 else none with
  | some n => some (0, n)
  | none => (if 2 ≤ (s.striped p 1).length ∧ relax ≤ x.parkRx then s.topLane p 1 else none).map fun n => (1, n)

/-- The rules of the automatic plan (R164), in order. -/
def State.planAuto (s : State) (p : Nat) : State :=
  let x := s.sched p
  let wt := (s.striped p 0).length
  let wr_ := (s.striped p 1).length
  let confirm := max 1 (s.rd (AL_ASYM.CONFIRM p))
  let relax := s.rd (AL_ASYM2.RELAX p)
  let dwelt := decide (s.rd (AL_ASYM.DWELL p) ≤ x.dwell)
  if confirm ≤ x.turnTx ∧ max 1 (s.rd (AL_ASYM.MINW_RX p)) < wr_ ∧ wt < 3 ∧ dwelt then s.turn p 1
  else if confirm ≤ x.turnRx ∧ max 1 (s.rd (AL_ASYM.MINW_TX p)) < wt ∧ wr_ < 3 ∧ dwelt then s.turn p 0
  else if relax ≤ x.relax ∧ wr_ + 2 ≤ wt then s.turn p 0
  else if relax ≤ x.relax ∧ wt + 2 ≤ wr_ then s.turn p 1
  else if s.on (AL_CTRL.PARK_EN p) then
    match s.planPark p with
    | some (d, n) => s.announcePark p d n 0
    | none => s
  else s

/-- The owner's one action at a decision point: the first row of R164 whose condition holds. A plan is symmetric when its widths differ by at
most one, wide when one direction has more (three lanes left give two and one, R49). -/
def State.planRules (s : State) (p : Nat) : State :=
  let plan := (s.tblHdr p (s.act p)).1
  let wt := (s.striped p 0).length
  let wr_ := (s.striped p 1).length
  if plan = 1 ∧ wr_ + 2 ≤ wt then s.turn p 0
  else if plan = 1 ∧ wt + 2 ≤ wr_ then s.turn p 1
  else if plan = 2 ∧ wt ≤ wr_ then s.turn p 1
  else if plan = 3 ∧ wr_ ≤ wt then s.turn p 0
  else match s.planWake p with
  | some (d, n) => s.announcePark p d n 2
  | none => if plan ≠ 0 then s else s.planAuto p

/-- One port's decision point (R159, R161, R164): an armed shadow is to flip at the boundary, which the owner tells the far end; then the lane
plan. -/
def State.decide1 (s : State) (p : Nat) : State :=
  let s := if s.on (AL_STAT.ARMED p) ∧ ¬ s.followsOwner p then
      let s := s.modSched p fun x => { x with flipNext := true }
      if s.planOwner p = some true then s.sendCtl p 0x05 (be 1 (1 - s.act p) ++ be 3 0 ++ be 8 (s.boundaryCw p 0)) else s
    else s
  if s.planOwner p = some true ∧ ¬ s.planBusy p ∧ ¬ (s.link p).parked then s.planRules p else s

/-- DECISION_POINT (R164): 1.5 us before a boundary. -/
def execDecisionPoint (s : State) : Res := .next (s.each 6 fun p t => t.decide1 p)

end Sys2Proof.Machine
end

