-- ==== Sys2Proof/Machine/Lanes.lean ====
section
/-!
DEFINITION. Lanes and gaits (R27 to R64): markers, codewords, training, lead change, low power, eye scan, patterns, error injection; the
wake pattern and unparking (R100, R365).
-/

namespace Sys2Proof.Machine

/-- The lane is in service: its link is up and it stripes. -/
def State.inService (s : State) (n : Nat) : Bool := s.linkIsUp (lanePort n) && decide (s.laneState n = 3 ∧ s.rd (LN_STAT.WIDTH n) ≠ 0)

def State.setLaneState (s : State) (n v : Nat) : State := s.wr (LN_STAT.STATE n) v
/-! ### Training (R45 to R51) -/

/-- Presets of the transmit equaliser (R53): PRE2, PRE1, POST. -/
def eqPreset (i : Nat) : Nat × Nat × Nat :=
  match i with
  | 0 => (0, 0, 0)
  | 1 => (0, 4, 0)
  | 2 => (0, 8, 2)
  | 3 => (1, 8, 4)
  | 4 => (2, 12, 4)
  | 5 => (2, 16, 6)
  | 6 => (3, 20, 8)
  | _ => (4, 23, 10)

/-- Write the transmit taps, MAIN derived (R53). -/
def State.setTaps (s : State) (n pre2 pre1 post : Nat) : State :=
  (((s.wr (LN_EQ_TX.PRE2 n) pre2).wr (LN_EQ_TX.PRE1 n) pre1).wr (LN_EQ_TX.POST n) post).wr (LN_EQ_TX.MAIN n) (64 - pre2 - pre1 - post)

/-- Start a lane's transmitter from a preset. -/
def State.presetTaps (s : State) (n i : Nat) : State :=
  let e := eqPreset i
  (s.setTaps n e.1 e.2.1 e.2.2).wr (LN_EQ_TX.PRESET n) i

/-- One tap moved by a request (R45): hold, increase, decrease; whether it stays at its limit. -/
def moveTap (v max req : Nat) : Nat × Bool :=
  if req = 1 then (if v < max then (v + 1, false) else (v, true))
  else if req = 2 then (if 0 < v then (v - 1, false) else (v, true))
  else (v, false)

/-- Highest gait the cable allows (R44), by the flight times of Walk reverse (4.2 ns is a trip of 84 tenths); 0 in `cable`: not read at this end. -/
def State.cableGait (s : State) (p : Nat) : Nat :=
  match (s.pd p).cable with
  | 0 | 3 => 2
  | 2 => if (s.declared p).any fun n => decide (resetDir n = 0 ∧ 84 < (s.lane n).trip) then 1 else 2
  | _ => 0

/-- Highest gait offered on a port, and GAIT_CAP (R44, R45). -/
def State.topGait (s : State) (p : Nat) : Nat :=
  min (s.cableGait p) (((s.declared p).map fun n => s.rd (LN_CTRL.MAX_GAIT n)).foldl min 2)
def State.gaitCap (s : State) (p : Nat) : Nat := 2 ^ (s.topGait p + 1) - 1

/-- The highest gait at most `g` that both ends offer; Walk is always offered. -/
def State.commonGait (s : State) (p g : Nat) : Nat :=
  let c := Nat.land (s.gaitCap p) (s.link p).farCap
  if 2 ≤ g ∧ bitOf c 2 then 2 else if 1 ≤ g ∧ bitOf c 1 then 1 else 0

/-- The lanes that train. -/
def State.trainees (s : State) (p : Nat) : List Nat := (portLanes p).filter fun n => decide (s.laneState n = 2)

/-- The lane whose transmitter the frames of a receiving lane are about, and back (R45): k 0 goes with 1 and 2 with 3 (assumption row 140). -/
def pairLane (n : Nat) : Nat := if n % 2 = 0 then n + 1 else n - 1

/-- A TX_REQ without reserved codes, from a free number. -/
def reqOf (v : Nat) : Nat := v % 3 + 4 * (v / 3 % 3) + 16 * (v / 9 % 3)

/-- The training frame lane `m` sends next (R45), for the receiver of the paired lane. What that receiver asks for until it has adapted, and when it has, is
free (assumption row 1). -/
def State.frameOf (s : State) (m : Nat) : TrainFrame × State :=
  let p := lanePort m
  let rx := s.lane (pairLane m)
  let step := (s.link p).tstep
  let r := s.fresh
  let v := r.1.toNat
  let ready := rx.ready || bitOf v 31
  ({ step := step, gaitCap := s.gaitCap p, gaitSel := if 2 ≤ step then s.gait p else 0
     txReq := if ready then 0 else reqOf v, preset := if ready then 0 else v / 32 % 9
     txAck := (s.lane m).txAck, rxReady := ready, qual := rx.qual
     rtTag := (s.lane m).rtTag, rtEcho := rx.far.elim 0 TrainFrame.rtTag, rtHold := if rx.far.isSome then min 65535 (s.uptime - rx.farAt) else 0 },
   (r.2.modLane (pairLane m) fun l => { l with ready := ready }).modLane m fun l => { l with rtTag := (l.rtTag + 1) % 256 })

/-- The next block of a lane that trains: a marker with TRAIN = 1 in the cadence of R32, else a frame (R33, R45). -/
def State.trainBlock (s : State) (m : Nat) : State :=
  let b := (s.lane m).txBlk
  let s := s.modLane m fun l => { l with txBlk := b + 1 }
  if b % 257 = 0 then s.sendMarker m false true (b / 257) 0
  else
    let r := s.frameOf m
    r.2.sendData m r.1.payload

/-- A lane begins to send training frames. -/
def State.startFrames (s : State) (m : Nat) : State :=
  (((s.laneSend m 1).modLane m fun l => { l with txBlk := 0 }).trainBlock m).trainBlock m

/-- Lanes turn to the direction after reset, or to the reverse of it; the transmitting ones send training frames. -/
def State.direct (s : State) (p : Nat) (reverse : Bool) : State :=
  s.eachIn (s.trainees p) fun n t =>
    let d := if reverse then 1 - resetDir n else resetDir n
    let t := if d = 0 then t.storeRx n else t
    let t := ((t.wr (LN_STAT.DIR n) d).wr (LN_STAT.LOCK n) 0).modLane n fun l => { l with commas := 0, missed := 0, qual := 0, ready := false, far := none }
    if d = 0 then t.startFrames n else t.laneSend n 0

/-- Begin training at a target gait (R46, R47): Walk, whose settings Walk training stored, with those, a gait not trained yet from EQ4 (R53). The lane PLL
relocks at another gait, and the lanes wait for it. -/
def State.trainAt (s : State) (p g : Nat) : State :=
  let same := decide (s.gait p = g)
  let s := s.eachIn (s.trainees p) fun n t =>
    let t := t.wr (LN_STAT.GAIT n) g
    if g = 0 then t.setReg (LN_EQ_TX n) (t.lane n).walkEq else t.presetTaps n 4
  let s := s.modLink p fun l => { l with tstep := 2, relock := !same }
  if same then s.direct p false
  else (s.wr (CK_STAT.LANE_LOCK.bit p) 0).eachIn (s.trainees p) fun n t => t.laneSend n 0

/-- Training has failed (R51). -/
def State.trainFail (s : State) (p : Nat) : State :=
  let a := (s.link p).attempts + 1
  let retries := (s.declared p).head?.elim 0 fun n => s.rd (LN_TRAIN.RETRIES n)
  let s := s.modLink p fun l => { l with attempts := a }
  if retries < a then s.trainGiveUp p
  else
    let s := s.linkDown p
    (s.wr (CL_STAT.LSTATE p) 1).modLink p fun l => { l with tstep := 5 }

/-- A direction is left without a lane (R49). -/
def State.noLaneLeft (s : State) (p : Nat) : Bool :=
  let l := s.trainees p
  !(l.any fun n => decide (resetDir n = 0)) || !(l.any fun n => decide (resetDir n = 1))

/-- Fall to the next lower gait offered, or fail (R47). -/
def State.fallGait (s : State) (p : Nat) : State :=
  let g := s.gait p
  if g = 0 then s.trainFail p else s.trainAt p (s.commonGait p (g - 1))

/-- Send VERSION_OFFER (R80, R83). -/
def State.sendOffer (s : State) (p : Nat) : State :=
  s.sendCtl p 0x01 (be 1 (s.versBitmap p) ++ be 1 (s.rd (CL_CTRL.AUTH_POLICY p)) ++ be 1 (s.offeredRole p) ++ be 1 (s.rd DM_FLOOR.FLOOR) ++ be 8 s.uid)

/-- Training ends: the link is up (R46), its codeword and block counts at 0, so that marker 0 comes first (R32), and version negotiation begins (R83). -/
def State.trainedUp (s : State) (p : Nat) : State :=
  let l := s.trainees p
  let s := s.setLink p { farCap := (s.link p).farCap, linkUp := true, upAt := s.uptime, failover := (s.link p).failover }
  let s := s.eachIn l fun n t => t.setLaneState n 3
  let s := s.eachIn l fun n t => ((t.wr (LN_STAT.WIDTH n) 0).wr (LN_STAT.DIR n) (resetDir n))
  let s := s.eachIn l fun n t => (t.stripe n (resetDir n)).laneSend n (if resetDir n = 0 then 4 else 0)
  let s := s.eachIn l fun n t => (t.wr (LN_STAT.LOCK n) (resetDir n)).modLane n fun l =>
    { l with commas := 2, missed := 0, rxBlk := 256, rxCnt := 2 ^ 48 - 1, rxq := [], txq := [], rxFrom := 0, joined := false, joining := false }
  (s.wr (CL_STAT.LSTATE p) 2).sendOffer p

/-- Lanes that receive and have not locked go to Failed (R49). -/
def State.failUnlocked (s : State) (p locked : Nat) : State :=
  s.eachIn (s.trainees p) fun n t =>
    if t.rd (LN_STAT.DIR n) = 1 ∧ ¬ bitOf locked (n % 4) then (t.setLaneState n 8).laneSend n 0 else t

/-- The receiving lanes that train. -/
def State.rxTrainees (s : State) (p : Nat) : List Nat := (s.trainees p).filter fun n => decide (s.rd (LN_STAT.DIR n) = 1)

/-- A step at the target gait is done (R46, R47): a lane without lock or adaptation fails it, and it is not done while a receiving lane has not qualified. -/
def State.targetDone (s : State) (p locked : Nat) (next : State) : State :=
  if (s.rxTrainees p).any fun n => !bitOf locked (n % 4) then s.fallGait p
  else if (s.rxTrainees p).any fun n => decide ((s.lane n).qual ≠ 1) then s else next

/-- TRAINING_STEP_DONE (R46, R49): step 0 Walk forward, 1 Walk reverse, 2 and 3 target forward and reverse, 4 return. Bit k of `locked`: lane k is
locked and adapted. -/
def State.trainStep (s : State) (p locked : Nat) : State :=
  if s.lstate p ≠ 1 ∨ (s.link p).relock then s
  else match (s.link p).tstep with
  | 0 =>
    let s := s.failUnlocked p locked
    if s.noLaneLeft p then s.trainFail p else (s.modLink p fun l => { l with tstep := 1 }).direct p true
  | 1 =>
    let s := s.failUnlocked p locked
    let s := s.eachIn (s.trainees p) fun n t => t.modLane n fun l => { l with walkEq := t.reg (LN_EQ_TX n) }
    if s.noLaneLeft p then s.trainFail p else s.trainAt p (s.commonGait p 2)
  | 2 => s.targetDone p locked ((s.modLink p fun l => { l with tstep := 3 }).direct p true)
  | 3 => s.targetDone p locked ((s.modLink p fun l => { l with tstep := 4 }).direct p false)
  | 4 => s.trainedUp p
  | _ => s

def execTrainingStepDone (p : Fin 6) (locked : Fin 16) (s : State) : Res := .next (s.trainStep p locked)

/-- The lane PLL has locked (R46, R343): detected lanes train at Walk from EQ2; lanes that wait for the target gait train at it. -/
def State.lanePllLock (s : State) (p : Nat) : State :=
  let s := s.wr (CK_STAT.LANE_LOCK.bit p) 1
  if s.lstate p ≠ 1 then s
  else if (s.link p).tstep = 0 then
    let s := s.eachIn ((portLanes p).filter fun n => decide (s.laneState n = 1)) fun n t => (t.setLaneState n 2).presetTaps n 2
    s.direct p false
  else if (s.link p).relock then (s.modLink p fun l => { l with relock := false }).direct p false
  else s

/-- What a frame asks of the transmitter of lane `m` (R45, R53): a preset, then a step of its taps from it (assumption row 141). A reserved code is refused
(assumption row 142); a tap at its limit stays. -/
def State.takeRequest (s : State) (m : Nat) (f : TrainFrame) : State :=
  let r2 := bitsOf f.txReq 4 2
  let r1 := bitsOf f.txReq 2 2
  let r0 := bitsOf f.txReq 0 2
  if f.txReq = 0 ∧ f.preset = 0 then s
  else if r2 = 3 ∨ r1 = 3 ∨ r0 = 3 ∨ 8 < f.preset then s.modLane m fun l => { l with txAck := 2 }
  else
    let s := if f.preset = 0 then s else s.presetTaps m (f.preset - 1)
    let a := moveTap (s.rd (LN_EQ_TX.PRE2 m)) 7 r2
    let b := moveTap (s.rd (LN_EQ_TX.PRE1 m)) 23 r1
    let c := moveTap (s.rd (LN_EQ_TX.POST m)) 15 r0
    (s.setTaps m a.1 b.1 c.1).modLane m fun l => { l with txAck := (a.2 || b.2 || c.2).toNat }

/-- What a good frame received on lane `n` does (R45 to R47): GAIT_CAP, the tag, the request; in Walk the trip; a partner's failed qualification at the gait
in force lowers it. -/
def State.frameIn (s : State) (n : Nat) (f : TrainFrame) (roundTrip : Nat) : State :=
  let p := lanePort n
  let training := decide (s.lstate p = 1)
  let step := (s.link p).tstep
  let s := s.modLink p fun l => { l with farCap := f.gaitCap }
  let s := s.modLane n fun l => { l with far := some f, farAt := s.uptime, trip := if training ∧ step ≤ 1 then roundTrip - f.rtHold else l.trip }
  let s := s.takeRequest (pairLane n) f
  if training ∧ 2 ≤ step ∧ step ≤ 3 ∧ (s.link p).relock = false ∧ f.qual = 2 ∧ 2 ≤ f.step ∧ f.gaitSel = s.gait p then s.fallGait p else s

/-- TRAINING_FRAME_RECEIVE (R45 to R47): the payload of a data block on a locked lane that trains, as it stands on the wire, and the time from sending the
tag it echoes, in 0.1 ns. The paired lane sends its next block. -/
def State.trainFrame (s : State) (n : Nat) (payload : BitVec 1280) (roundTrip : Nat) : State :=
  if s.laneState n ≠ 2 ∨ s.rd (LN_STAT.DIR n) ≠ 1 ∨ ¬ s.on (LN_STAT.LOCK n) then s
  else
    let r := s.takeData n payload
    match TrainFrame.ofPayload r.1 with
    | none => r.2
    | some f =>
      let m := pairLane n
      let s := r.2.frameIn n f roundTrip
      if s.laneState m = 2 ∧ s.rd (LN_STAT.DIR m) = 0 ∧ (s.link (lanePort n)).relock = false then s.trainBlock m else s

/-- The payload comes as bits [1279:1208], which hold the frame's fields, and the rest. -/
def execTrainingFrameReceive (n : Fin 24) (w : BitVec 72) (r : BitVec 1208) (roundTrip : Fin 65536) (s : State) : Res :=
  .next (s.trainFrame n (w ++ r) roundTrip)

/-- QUAL_WINDOW_END (R47): a window of a receiving lane at a target gait. Each failure is flagged; the link falls once from a gait, so a window that ends while
its clock relocks, one of the gait it has left, changes nothing more. -/
def State.qualEnd (s : State) (n corrected : Nat) (uncorr : Bool) : State :=
  let p := lanePort n
  let step := (s.link p).tstep
  if s.laneState n ≠ 2 ∨ s.lstate p ≠ 1 ∨ s.rd (LN_STAT.DIR n) ≠ 1 ∨ (step ≠ 2 ∧ step ≠ 3) then s
  else
    let now := !(s.link p).relock
    if corrected ≤ s.rd (LN_TRAIN.QUAL_MAX n) ∧ uncorr = false then (if now then s.modLane n fun l => { l with qual := 1 } else s)
    else if now then ((s.modLane n fun l => { l with qual := 2 }).raise (Ev.LN_QUAL_FAIL n)).fallGait p
    else s.raise (Ev.LN_QUAL_FAIL n)

def execQualWindowEnd (n : Fin 24) (corrected : Fin 65536) (uncorr : Bool) (s : State) : Res := .next (s.qualEnd n corrected uncorr)

/-- TRAINING_RETRY (R51). -/
def execTrainingRetry (p : Fin 6) (s : State) : Res :=
  .next (if s.lstate p = 1 ∧ (s.link p).tstep = 5 then s.startTraining p else s)

/-! ### Blocks and codewords (R33 to R37, R43) -/

/-- Bits in which two words differ. -/
def distance64 (a b : BitVec 64) : Nat := ((List.range 64).filter fun i => (a ^^^ b).getLsbD i).length

/-- No lane left to receive on: the link goes down and trains from time zero (R57). -/
def State.retrainIfEmpty (s : State) (p : Nat) : State :=
  if s.linkIsUp p ∧ ¬ (s.link p).parked ∧ ((s.striped p 0).isEmpty ∨ (s.striped p 1).isEmpty) ∧ (s.link p).prePark.isEmpty then
    (s.linkDown p).startTraining p
  else s

/-- Take a lane out of service to train it again (R56, R57), in the direction it then returns to. -/
def State.retrainLane (s : State) (n d : Nat) : State :=
  let s := ((((s.storeRx n).abortScan n).unstripe n).setLaneState n 2).wr (LN_STAT.DIR n) d
  let s := (s.wr (LN_STAT.LOCK n) 0).modLane n fun l => { l with commas := 0, missed := 0, qual := 0, ready := false, far := none, joining := false }
  if d = 0 then s.startFrames n else s.laneSend n 0

/-- Block lock is lost (R35). A lane in service is reported (R57) and leaves striping where the far hub announces it; when no lane of the direction has lock
any more the link goes down and trains from time zero. -/
def State.lockLoss (s : State) (n : Nat) : State :=
  let p := lanePort n
  let served := s.inService n
  let s := ((s.wr (LN_STAT.LOCK n) 0).modLane n fun l => { l with commas := 0, missed := 0 }).raise (Ev.LN_LOCK_LOSS n)
  if served then
    let s := (s.sendCtl p 0x08 (be 1 (n % 4) ++ be 1 0)).abortScan n
    if (s.striped p 1).any fun m => s.on (LN_STAT.LOCK m) then s else (s.linkDown p).startTraining p
  else s

/-- The value nearest `now` whose low 16 bits are `low`. -/
def nearest16 (now low : Nat) : Nat :=
  let base := now / 65536 * 65536 + low
  if base + 32768 < now then base + 65536 else if now + 32768 < base ∧ 65536 ≤ base then base - 65536 else base

/-- A payload as the sender meant it (R34): its comma accepted as it is or inverted; none when it is not accepted. -/
def commaOf (payload : BitVec 1280) : Option (Bool × Nat) :=
  let c := BitVec.ofNat 64 (payload.toNat / 2 ^ 1216)
  if distance64 c comma ≤ 3 then some (false, payload.toNat)
  else if distance64 c (~~~ comma) ≤ 3 then some (true, (~~~ payload).toNat)
  else none

/-- The fields [1215:1136] of a marker, and whether its CRC is good (R33, assumption row 29). -/
def markerField (v : Nat) : Nat := bitsOf v 1136 80
def markerGood (v : Nat) : Bool := decide (crc32 (be 10 (markerField v)) = bitsOf v 1104 32)

/-- BLOCK_CNT of the fields. -/
def markerCnt (f : Nat) : Nat := bitsOf f 16 48

/-- A marker position has passed without an accepted marker (R35); the descrambler goes on with the next count (R38). -/
def State.markerMissed (s : State) (n : Nat) : State :=
  let k := s.rd (LN_STAT.PARTNER_LANE n)
  let s := s.modLane n fun l =>
    { l with missed := l.missed + 1, rxBlk := 0, rxCnt := (l.rxCnt + 1) % 2 ^ 48, rxScr := scramblerSeed ((l.rxCnt + 1) % 2 ^ 48) k }
  if 3 ≤ (s.lane n).missed then s.lockLoss n else s

/-- A marker whose comma is accepted (R33 to R35, R38): the block boundary, and with a good CRC its fields. `v` is its payload; `regular`: it stands 329,474
bits after the last one. -/
def State.markerIn (s : State) (n : Nat) (inverted : Bool) (v : Nat) (regular : Bool) : State :=
  let p := lanePort n
  let good := markerGood v
  let f := markerField v
  let s := s.wr (LN_STAT.INVERTED n) inverted.toNat
  let s := if good then s.wr (LN_STAT.PARTNER_LANE n) (bitsOf f 78 2) else s
  let k := s.rd (LN_STAT.PARTNER_LANE n)
  let cnt := if good then markerCnt f else ((s.lane n).rxCnt + 1) % 2 ^ 48
  let s := s.modLane n fun l =>
    { l with commas := if regular then min 2 (l.commas + 1) else 1, missed := 0, rxBlk := 0, rxCnt := cnt, rxScr := scramblerSeed cnt k }
  let s := if 2 ≤ (s.lane n).commas then s.wr (LN_STAT.LOCK n) 1 else s
  if good ∧ s.inService n ∧ ¬ bitOf f 70 then
    let s := (s.wr (LN_STAT.POS n) (bitsOf f 76 2)).wr (LN_STAT.WIDTH n) (bitsOf f 74 2)
    if (s.lane n).rxq.isEmpty then s.modLink p fun l => { l with cwRx := nearest16 l.cwRx (bitsOf f 0 16) } else s
  else s

/-- The payload of a marker from its parts, the first the most significant (R33). -/
def markerJoined (c : BitVec 64) (f : BitVec 80) (r : BitVec 1136) : BitVec 1280 := c ++ f ++ r

/-- MARKER_BLOCK_RECEIVE (R33 to R37): the payload as received, how many bits after the lane's last accepted comma it stands, and how late this lane is against
the others of its direction, in 0.1 ns. On a locked lane a marker counts at its expected position alone; elsewhere it is data (R36). -/
def State.marker (s : State) (n : Nat) (payload : BitVec 1280) (gap skew : Nat) : State :=
  let locked := s.on (LN_STAT.LOCK n)
  if s.receives n = false then s
  else if locked ∧ (s.lane n).rxBlk ≠ 256 then ((s.raise (Ev.LN_HDR_ERR n)).takeData n payload).2
  else match commaOf payload with
  | some (inverted, v) =>
    let s := s.markerIn n inverted v (locked || decide (gap = 329474))
    if 320 < skew ∧ s.on (LN_STAT.LOCK n) then s.lockLoss n else s
  | none => if locked then s.markerMissed n else s.modLane n fun l => { l with commas := 0 }

/-- The payload comes as COMMA, the fields [1215:1136], and the CRC with the fill. -/
def execMarkerBlockReceive (n : Fin 24) (c : BitVec 64) (f : BitVec 80) (r : BitVec 1136) (gap : Nat) (skew : Fin 65536) (s : State) : Res :=
  .next (s.marker n (markerJoined c f r) gap skew)

/-- DATA_BLOCK_RECEIVE (R36): the block at a data position is data whatever its header; one at a marker position is a marker missed (R35). -/
def State.dataBlock (s : State) (n : Nat) (header : BitVec 2) (payload : BitVec 1280) : State :=
  if ¬ s.on (LN_STAT.LOCK n) then s
  else if (s.lane n).rxBlk = 256 then s.markerMissed n
  else ((if header = 1#2 then s else s.raise (Ev.LN_HDR_ERR n)).takeData n payload).2

/-- The two-bit header of a block, which goes first (R31), and its payload. -/
def blockHeader (block : BitVec 1282) : BitVec 2 := BitVec.ofNat 2 (block.toNat / 2 ^ 1280)
def blockPayload (block : BitVec 1282) : BitVec 1280 := BitVec.ofNat 1280 block.toNat

def execDataBlockReceive (n : Fin 24) (block : BitVec 1282) (s : State) : Res := .next (s.dataBlock n (blockHeader block) (blockPayload block))

/-- Corrected symbols of one lane (R43): counted, and judged against DEGRADE_THR in the 1 ms up to now. -/
def State.laneCorrected (s : State) (n c : Nat) : State :=
  let s := s.satAdd (LN_SYM_CORR.SYMBOLS n) c
  let recent := (s.lane n).recent.filter fun e => decide (s.uptime < e.1 + 10000000)
  let old := (recent.map Prod.snd).sum
  let s := s.modLane n fun x => { x with recent := recent ++ [(s.uptime, c)] }
  let thr := s.rd (LN_TRAIN.DEGRADE_THR n)
  if old ≤ thr ∧ thr < old + c then s.raise (Ev.LN_DEGRADE n) else s

/-- A cell is idle (R66). -/
def cellIdle (c : List Byte) : Bool := decide (byteAt c 0 / 64 = 0)

/-- A codeword that could be corrected (R43): the symbols corrected count against the lanes that carried them, its cells pass to the link layer. -/
def State.codewordGood (s : State) (p : Nat) (w : RxWord) (word : List Sym) (places : List Nat) : State :=
  let cells := symCells (word.take 256)
  let s := s.modSched p fun x => { x with slotsRx := x.slotsRx + 5, busyRx := x.busyRx + (cells.filter fun c => !cellIdle c).length }
  let s := s.eachIn (List.range w.order.length) fun e t =>
    let c := (places.filter fun i => decide ((w.first + i) % w.order.length = e)).length
    if c = 0 then t else t.laneCorrected (w.order.getD e 0) c
  let s := if places.isEmpty then s else s.satAdd (CL_CW_CORR.CODEWORDS p) 1
  s.modLink p fun l => { l with cells := l.cells ++ cells.map fun c => (s.time, c) }

/-- One that could not (R43, R68): its cells are dropped. -/
def State.codewordBad (s : State) (p : Nat) : State :=
  ((s.modSched p fun x => { x with slotsRx := x.slotsRx + 5 }).satAdd (CL_CW_UNCORR.CODEWORDS p) 1).raise (Ev.CL_UNCORR p)

/-- CODEWORD_RECEIVE (R39, R43): the next codeword is taken from the lanes, with what lanes without lock gave, and decoded. -/
def State.codeword (s : State) (p : Nat) (a b c : List Sym) : State :=
  if ¬ s.linkRuns p then s
  else match s.takeWord p a b c with
  | none => s
  | some (w, s) => match rsDecode w.word with
    | some (word, places) => s.codewordGood p w word places
    | none => s.codewordBad p

def execCodewordReceive (p : Fin 6) (a b c : List Sym) (s : State) : Res := .next (s.codeword p a b c)

/-! ### Lead change, restripe, low power (R54 to R59) -/

/-- The action in progress, if its codeword has come and it has not begun. -/
def State.dueAct (s : State) (p : Nat) : Option LaneAct :=
  match (s.link p).act with
  | some a => if ¬ a.begun ∧ a.cw ≤ (if a.tx then (s.link p).cwTx else (s.link p).cwRx) then some a else none
  | none => none

/-- A lane leaves low power (R59): it loads its stored sets. A transmitting lane in Stand sends its join marker, one in Stable the lock pattern first; a
receiving one waits for the join marker. -/
def State.beginExit (s : State) (p : Nat) (a : LaneAct) : State :=
  let s := (s.loadSets a.lane).modLink p fun l => { l with act := some { a with begun := true } }
  if a.tx ∧ s.laneState a.lane ≠ 5 then s.laneSend a.lane 2 [s.lockLen a.lane] else s

/-- A lane undeclared by a commit goes to Off when it would next change (R50). -/
def State.undeclaredOff (s : State) (n : Nat) : State := ((s.unstripe n).setLaneState n 0).laneSend n 0

/-- GIVE_LANE for a lead change (R54 steps 1 to 4, R164): at codeword N the giving direction drops the lane, the plan changes. -/
def State.turnLane (s : State) (p : Nat) (a : LaneAct) : State :=
  let n := a.lane
  let s := ((((s.storeRx n).abortScan n).unstripe n).setLaneState n 4).wr (LN_STAT.LOCK n) 0
  let s := ((if a.tx then s.laneSend n 0 else s).loadSets n).modLane n fun l => { l with commas := 0, missed := 0 }
  let s := if a.tx then s else s.laneSend n 2 [s.lockLen n]
  let s := s.modSched p fun x => { x with dwell := 0 }
  s.modLink p fun l => { l with act := some { a with begun := true } }

/-- Announce that a lane leaves low power, 1 us of link time ahead (R81, R365). -/
def State.announceExit (s : State) (p n d : Nat) : State :=
  let cw := if d = 0 then (s.link p).cwTx + 1 + s.codewordsIn p 0 1000 else (s.link p).cwRx + 1 + s.codewordsIn p 1 1000
  (s.sendCtl p 0x0A (be 1 (n % 4) ++ be 1 2 ++ be 2 0 ++ be 8 cw)).holdAct p { kind := 4, lane := n, tx := decide (d = 0), cw := cw }

/-- The next lane to rejoin after a park (R365): in the order of POS before the park, of those still in Stable. When there is none, the lane plan goes on.
The end that announces the rejoins announces it. -/
def State.nextRejoin (s : State) (p : Nat) : State :=
  let l := s.link p
  if l.act.isSome ∨ l.parked then s
  else match (l.prePark.filter fun e => decide (s.laneState e.1 = 6)).foldl (fun (b : Option (Nat × Nat × Nat)) e => match b with
      | none => some e
      | some f => if e.2.2 < f.2.2 then some e else b) none with
    | none => s.modLink p fun l => { l with prePark := [], waking := false, rejoinOwn := false }
    | some e => if l.rejoinOwn then s.announceExit p e.1 e.2.1 else s

/-- A lane action that may be a rejoin has ended. -/
def State.rejoined (s : State) (p : Nat) : State := (s.endAct p).nextRejoin p

/-- The hub that transmits on the lane joins it (R54 steps 5 and 6, R59): the join marker, then data with the new WIDTH. -/
def State.joinLane (s : State) (p : Nat) (a : LaneAct) : State :=
  let n := a.lane
  if ¬ s.on (LN_CTRL.EN n) then (s.undeclaredOff n).rejoined p
  else
    let s := s.stripe n 0
    let s := if a.kind = 0 then (s.wr (LN_STAT.POS n) a.newPos).modLink p fun l => { l with turned := some n } else s
    ((s.sendJoin n).laneSend n 4).rejoined p

/-- The exit of a lane begins (R59); from Stand its transmitter joins at once. -/
def State.exitLane (s : State) (p : Nat) (a : LaneAct) : State :=
  let s := s.beginExit p a
  if a.tx ∧ s.laneState a.lane = 5 then s.joinLane p a else s

/-- GIVE_LANE (R54, R57, R58). A lane in low power first leaves it: that action runs now and the lead change follows it. -/
def State.giveLane (s : State) (p : Nat) : State :=
  match s.dueAct p with
  | some a =>
    let n := a.lane
    if a.kind = 0 then
      if s.laneState n = 5 ∨ s.laneState n = 6 then
        (s.modLink p fun l => { l with held := { a with noLate := true } :: l.held }).exitLane p { a with kind := 4 }
      else s.turnLane p a
    else if a.kind = 1 then
      let s := if s.on (LN_CTRL.EN n) then s.retrainLane n (s.rd (LN_STAT.DIR n)) else ((s.storeRx n).abortScan n).undeclaredOff n
      (s.endAct p).retrainIfEmpty p
    else s
  | none => s

def execGiveLane (p : Fin 6) (s : State) : Res := .next (s.giveLane p)

/-- LOCK_PATTERN_END (R54 steps 4 to 6, R59). -/
def State.lockPatternEnd (s : State) (p : Nat) : State :=
  match (s.link p).act with
  | some a => if a.begun ∧ ((a.kind = 0 ∧ ¬ a.tx) ∨ (a.kind = 4 ∧ a.tx)) then s.joinLane p a else s
  | none => s

def execLockPatternEnd (p : Fin 6) (s : State) : Res := .next (s.lockPatternEnd p)

/-- The other lanes that receive in the direction of lane `n`. -/
def State.othersRx (s : State) (n : Nat) : List Nat := (s.striped (lanePort n) 1).filter (· ≠ n)

/-- A join marker's BLOCK_CNT agrees with the other lanes (R35, R58): they are locked, and it is the count of their last marker, or of the one due now. -/
def State.joinAgrees (s : State) (n cnt : Nat) : Bool :=
  (s.othersRx n).all fun m => s.on (LN_STAT.LOCK m) &&
    decide (cnt = (s.lane m).rxCnt ∨ ((s.lane m).rxBlk = 256 ∧ cnt = ((s.lane m).rxCnt + 1) % 2 ^ 48))

/-- The fields of an acceptable join marker (R33, R35), with the polarity of the pair. -/
def State.joinFields (s : State) (n : Nat) (payload : BitVec 1280) : Option (Bool × Nat) :=
  match commaOf payload with
  | some (inverted, v) =>
    let f := markerField v
    if markerGood v ∧ bitOf f 71 ∧ s.joinAgrees n (markerCnt f) then some (inverted, f) else none
  | none => none

/-- The lane joins the receiving direction with its marker (R35, R54 step 6): block lock, POS, the direction's cadence, and the codeword it carries first.
The blocks of the other lanes in the marker's period have been taken (assumption row 143). -/
def State.joinIn (s : State) (n : Nat) (inverted : Bool) (f : Nat) : State :=
  let p := lanePort n
  let cnt := markerCnt f
  let blk := (s.othersRx n).head?.elim 0 fun m => if cnt = (s.lane m).rxCnt then (s.lane m).rxBlk else 0
  let s := (((s.stripe n 1).wr (LN_STAT.LOCK n) 1).wr (LN_STAT.INVERTED n) inverted.toNat).wr (LN_STAT.PARTNER_LANE n) (bitsOf f 78 2)
  let s := s.wr (LN_STAT.POS n) (bitsOf f 76 2)
  s.modLane n fun l => { l with
    commas := 2, missed := 0, rxBlk := blk, rxCnt := cnt, rxScr := scramblerSeed cnt (bitsOf f 78 2), rxq := [], joining := false
    rxFrom := nearest16 (s.link p).cwRx (bitsOf f 0 16) }

/-- JOIN_MARKER_RECEIVE (R35, R54 step 6, R56, R59): the giving hub, now receiving, takes the lane in; so does the hub that receives on a lane leaving low
power, and on one trained again. -/
def State.joinMarker (s : State) (n : Nat) (payload : BitVec 1280) : State :=
  let p := lanePort n
  match s.joinFields n payload with
  | none => s
  | some (inverted, f) =>
    if ¬ s.on (LN_CTRL.EN n) then s
    else if (s.lane n).joining then s.joinIn n inverted f
    else match (s.link p).act with
    | some a =>
      if a.begun ∧ a.lane = n ∧ ((a.kind = 0 ∧ a.tx) ∨ (a.kind = 4 ∧ ¬ a.tx)) then
        let s := s.joinIn n inverted f
        let s := if a.kind = 0 then (s.wrapAdd (LN_TURN_CNT.TURNS n) 1).sendCtl p 0x07 (be 1 (n % 4) ++ be 1 0 ++ be 2 0 ++ be 8 a.cw) else s
        s.rejoined p
      else s
    | none => s

def execJoinMarkerReceive (n : Fin 24) (payload : BitVec 1280) (s : State) : Res := .next (s.joinMarker n payload)

/-- The owner's plan has failed (R165). -/
def State.planFail (s : State) (p : Nat) : State := if s.planOwner p = some true then s.raise (Ev.AL_PLAN_FAIL p) else s

/-- LEAD_FAIL (R56, R165): no join marker by 4 us. -/
def State.leadFail (s : State) (n : Nat) : State :=
  let p := lanePort n
  match (s.link p).act with
  | some a =>
    if a.begun ∧ a.lane = n ∧ a.kind = 0 ∧ a.tx then
      let s := s.raise (Ev.LN_LEAD_FAIL n)
      let s := s.sendCtl p 0x07 (be 1 (n % 4) ++ be 1 1 ++ be 2 0 ++ be 8 a.cw)
      let s := s.modSched p fun x => { x with dwell := 0 }
      ((s.retrainLane n 0).planFail p).endAct p
    else if a.begun ∧ a.lane = n ∧ a.kind = 4 ∧ ¬ a.tx then ((s.retrainLane n 1).planFail p).rejoined p
    else s
  | none => s

def execLeadFail (n : Fin 24) (s : State) : Res := .next (s.leadFail n)

/-- LANE_RETRAIN_DONE (R56, R57): back in its direction with a join marker, or Failed until the link next trains. -/
def State.retrainDone (s : State) (n : Nat) (ok : Bool) : State :=
  if s.linkIsUp (lanePort n) ∧ s.laneState n = 2 then
    if ¬ s.on (LN_CTRL.EN n) then (s.setLaneState n 0).laneSend n 0
    else if ok then
      if s.rd (LN_STAT.DIR n) = 0 then ((s.stripe n 0).sendJoin n).laneSend n 4
      else s.modLane n fun l => { l with joining := true }
    else (s.setLaneState n 8).laneSend n 0
  else s

def execLaneRetrainDone (n : Fin 24) (ok : Bool) (s : State) : Res := .next (s.retrainDone n ok)

/-- LOW_POWER_ENTER (R59, R364): at its codeword the lane leaves striping for Stand or Stable. When no lane stripes any more the link is parked, and
its time lock falls. -/
def State.lowPowerEnter (s : State) (p : Nat) : State :=
  match s.dueAct p with
  | some a =>
    if a.kind = 2 ∨ a.kind = 3 then
      let n := a.lane
      let before := ((s.striped p 0).map fun m => (m, 0, s.rd (LN_STAT.POS m))) ++ (s.striped p 1).map fun m => (m, 1, s.rd (LN_STAT.POS m))
      let s := if a.kind = 3 ∧ (s.link p).prePark.isEmpty then s.modLink p fun l => { l with prePark := before } else s
      let d := s.rd (LN_STAT.DIR n)
      let s := (((s.storeRx n).abortScan n).unstripe n).setLaneState n (if a.kind = 2 then 5 else 6)
      let s := s.laneSend n (if a.kind = 2 ∧ d = 0 then 5 else 0)
      let s := s.endAct p
      if (s.striped p 0).isEmpty ∧ (s.striped p 1).isEmpty then
        let s := (s.modLink p fun l => { l with parked := true, waking := false }).wr (CL_STAT.TLOCK p) 0
        if (s.link p).rejoinOwn then s.wakeLink p else s
      else s.nextRejoin p
    else s
  | none => s

def execLowPowerEnter (p : Fin 6) (s : State) : Res := .next (s.lowPowerEnter p)

/-- LOW_POWER_EXIT (R59): at its codeword the lane leaves low power. One no longer in low power has nothing to leave. -/
def State.lowPowerExit (s : State) (p : Nat) : State :=
  match s.dueAct p with
  | some a =>
    if a.kind ≠ 4 then s
    else if s.laneState a.lane = 0 then s.rejoined p
    else s.exitLane p a
  | none => s

def execLowPowerExit (p : Fin 6) (s : State) : Res := .next (s.lowPowerExit p)

/-! ### Wake pattern (R100, R365) -/

/-- The lanes on which a port wakes its link. -/
def State.wakers (s : State) (p : Nat) : List Nat := (s.declared p).filter fun n => decide (s.rd (LN_STAT.DIR n) = 0)

/-- The transmitting lanes of a port send the wake pattern, from 10 us to 1 ms of it. -/
def State.sendWake (s : State) (p : Nat) : State := s.eachIn (s.wakers p) fun n t => t.laneSend n 6 [10, 1000]

/-- WAKE_PATTERN_REPEAT (R100): until the link trains or is Active again. -/
def execWakePatternRepeat (p : Fin 6) (s : State) : Res :=
  .next (if (s.link p).parked ∧ (s.link p).waking then s.sendWake p else s)

/-- Unpark (R365): signal is detected, the wake pattern ends. WIDTH 1 each way on the lanes that held POS 0, which take block lock from two regular markers that
continue the held counts; the owner announces the others one by one. -/
def State.unpark (s : State) (p : Nat) : State :=
  let pre := (s.link p).prePark
  let s := s.eachIn (s.wakers p) fun n t => t.laneSend n 0
  let s := s.modLink p fun l =>
    { l with parked := false, waking := false, act := none, held := [], order := [], rxOrder := [], txBlk := (l.txBlk + 256) / 257 * 257 }
  let s := s.eachIn (pre.filter fun e => decide (e.2.2 = 0)) fun e t =>
    (((((t.loadSets e.1).stripe e.1 e.2.1).wr (LN_STAT.LOCK e.1) 0).modLane e.1 fun l => { l with commas := 0, missed := 0, rxq := [], txq := [], rxFrom := 0 })).laneSend
      e.1 (if e.2.1 = 0 then 4 else 0)
  (s.modLink p fun l => { l with rejoinOwn := s.planOwner p = some true }).nextRejoin p

/-! ### Eye scan (R60), patterns (R61, R62), error injection (R63) -/

/-- A scan may run: receiving in Active. -/
def State.mayScan (s : State) (n : Nat) : Bool := decide (s.laneState n = 3 ∧ s.rd (LN_STAT.DIR n) = 1)

/-- A point completes. -/
def State.scanResult (s : State) (n : Nat) (r : Word) : State :=
  (((s.setReg (LN_ES_RES n) r).wr (LN_ES_CTRL.BUSY n) 0).raise (Ev.LN_ES_DONE n))

/-- Start the point that LN_ES_CTRL sets; on a lane that may not scan it completes at once. A START while a point runs is ignored (assumption row 144). -/
def State.scanStart (s : State) (n : Nat) : State :=
  if s.on (LN_ES_CTRL.BUSY n) then s else if s.mayScan n then s.wr (LN_ES_CTRL.BUSY n) 1 else s.scanResult n 0xFFFFFFFF#32

/-- The points of a scan command (R437) from the next one on; those that complete at once are taken at once. -/
def State.scanPoints (s : State) (e : CmdEntry) (n : Nat) : List (Nat × Nat) → List Word → State
  | [], done => s.answer e stOk 0 (done.flatMap wordLe)
  | (ph, v) :: rest, done =>
    let s := ((s.wr (LN_ES_CTRL.PHASE n) ph).wr (LN_ES_CTRL.VOLT n) v).scanStart n
    if s.on (LN_ES_CTRL.BUSY n) then s.setWait e (.eye n rest done) else s.scanPoints e n rest (done ++ [s.reg (LN_ES_RES n)])

/-- ES_DONE (R60): disagreements counted; a scan command goes on to its next point. -/
def State.scanDone (s : State) (n : Nat) (errors : Word) : State :=
  if s.on (LN_ES_CTRL.BUSY n) then
    let s := s.scanResult n errors
    match s.waiter fun w => (match w with
      | .eye l _ _ => decide (l = n)
      | _ => false) with
    | some e => match e.wait with
      | .eye _ rest done => s.scanPoints e n rest (done ++ [errors])
      | _ => s
    | none => s
  else s

def execEsDone (n : Fin 24) (errors : BitVec 32) (s : State) : Res := .next (s.scanDone n errors)

/-- The generator of a lane in Test drives its pattern (R61): here the first 1,282 bits, from a free state that is not all zeros (assumption row 1); each
bit after them follows from those before. -/
def State.patDrive (s : State) (n : Nat) : State :=
  if s.on (LN_PAT_CTRL.GEN_EN n) then
    let sel := s.rd (LN_PAT_CTRL.SEL n)
    let r := s.fresh
    let seed := (List.range (prbsDegree sel)).map fun i => r.1.getLsbD i || decide (i = 0)
    let bits := (prbsBits sel 1282 seed).map fun b => xor b (s.on (LN_PAT_CTRL.INV n))
    (r.2.laneSend n 7 [sel, s.rd (LN_PAT_CTRL.INV n)]).send (.wave n (lineLevels (s.rd (LN_STAT.GAIT n)) bits))
  else s.laneSend n 0

/-- Bits a locked checker has compared since its last count: the line rate is 85 / 32 bits in 0.1 ns at Walk (R29). -/
def State.patBits (s : State) (n : Nat) : Nat := (s.uptime - (s.lane n).patAt) * (85 * 2 ^ s.rd (LN_STAT.GAIT n)) / 32

/-- The bits compared since the last count, `e` of them wrong, are counted (R62). -/
def State.patAdd (s : State) (n e : Nat) : State :=
  let b := s.patBits n
  let s := s.satAdd (LN_PAT_ERR.ERRORS n) e
  let v := min (2 ^ 48 - 1) (s.rd (LN_PAT_BITS_LO.BITS_LO n) + 2 ^ 32 * s.rd (LN_PAT_BITS_HI.BITS_HI n) + b)
  (s.wr64 (LN_PAT_BITS_LO.BITS_LO n) (LN_PAT_BITS_HI.BITS_HI n) v).modLane n fun l => { l with patAt := s.uptime }

/-- A locked checker's counts are brought up to now. How many of the bits were wrong is free (assumption row 1). -/
def State.patCount (s : State) (n : Nat) : State :=
  if s.on (LN_PAT_CTRL.LOCKED n) then
    let r := s.fresh
    r.2.patAdd n (r.1.toNat % (s.patBits n + 1))
  else s

/-- A write of LN_CTRL.TEST (R61). -/
def State.testWrite (s : State) (n : Nat) (on : Bool) : State :=
  if on then
    if s.laneState n = 0 ∨ s.laneState n = 8 then ((s.wr (LN_CTRL.TEST n) 1).setLaneState n 7).patDrive n
    else s.raise (Ev.LN_TEST_REFUSED n)
  else if s.laneState n = 7 then ((((s.patCount n).wr (LN_CTRL.TEST n) 0).wr (LN_PAT_CTRL.LOCKED n) 0).setLaneState n 0).laneSend n 0
  else s.wr (LN_CTRL.TEST n) 0

/-- LN_PAT_CTRL has been written: generator and checker run in Test only. -/
def State.patWritten (s : State) (n : Nat) : State :=
  let s := if s.on (LN_PAT_CTRL.CHK_EN n) then s else (s.patCount n).wr (LN_PAT_CTRL.LOCKED n) 0
  if s.laneState n = 7 then s.patDrive n else s

/-- What CLEAR does (R62). -/
def State.patClear (s : State) (n : Nat) : State :=
  (((s.setReg (LN_PAT_ERR n) 0).setReg (LN_PAT_BITS_LO n) 0).setReg (LN_PAT_BITS_HI n) 0).modLane n fun l => { l with patAt := s.uptime }

def State.checking (s : State) (n : Nat) : Bool := decide (s.laneState n = 7) && s.on (LN_PAT_CTRL.CHK_EN n)

/-- The received bits lock the checker (R61, R62): as many as seed it, then 64 that its pattern asks for. -/
def State.patLocks (s : State) (n : Nat) (rx : List Bool) : Bool :=
  let sel := s.rd (LN_PAT_CTRL.SEL n)
  decide (rx.length = prbsDegree sel + 64) && prbsHolds sel [] (rx.map fun b => xor b (s.on (LN_PAT_CTRL.INV n)))

/-- PAT_LOCKED (R62). -/
def execPatLocked (seen : PatternSeen) (s : State) : Res :=
  let n := seen.lane
  .next (if s.checking n ∧ ¬ s.on (LN_PAT_CTRL.LOCKED n) ∧ s.patLocks n seen.bits then
    (s.wr (LN_PAT_CTRL.LOCKED n) 1).modLane n fun l => { l with patAt := s.uptime }
  else s)

/-- Bits set in a word of 64. -/
def ones64 (v : BitVec 64) : Nat := ((List.range 64).filter fun i => v.getLsbD i).length

/-- PAT_LOCK_DROP (R62): which of the last 64 bits compared were wrong, 32 of which drop the lock, and how many were since the last count, these among them. -/
def execPatLockDrop (n : Fin 24) (wrong : BitVec 64) (errors : Fin 4294967296) (s : State) : Res :=
  .next (if s.checking n ∧ s.on (LN_PAT_CTRL.LOCKED n) ∧ 32 ≤ ones64 wrong then
    (s.patAdd n (max (ones64 wrong) errors)).wr (LN_PAT_CTRL.LOCKED n) 0
  else s)

/-- One more burst is due: in the lane's next block while it transmits in Active (R63). -/
def State.burst (s : State) (n : Nat) : State := s.modLane n fun l => { l with shots := l.shots + 1 }

/-- What FIRE does (R63, R58): a single shot, kept armed while the lane turns. -/
def State.injFire (s : State) (n : Nat) : State :=
  if s.rd (LN_INJ_CTRL.MODE n) = 1 ∧ (s.transmits n ∨ s.laneState n = 4) then s.burst n else s

/-- INJ_INTERVAL (R63): a burst in periodic mode once LN_INJ_INT blocks have gone since the last (0 is taken as 1); paused while the lane does not transmit. -/
def State.injInterval (s : State) (n : Nat) : State :=
  if s.rd (LN_INJ_CTRL.MODE n) = 2 ∧ s.transmits n ∧ max 1 (s.rd (LN_INJ_INT.INTERVAL n)) ≤ (s.lane n).injBlk then
    (s.burst n).modLane n fun l => { l with injBlk := 0 }
  else s

def execInjInterval (n : Fin 24) (s : State) : Res := .next (s.injInterval n)

end Sys2Proof.Machine
end

