-- ==== Sys2Proof/Machine/Link.lean ====
section
/-!
DEFINITION. The link layer and its control messages (R65 to R101): cells received, credits, version negotiation, authentication, keys, time
synchronisation, the messages of the lane plan, LINK_DOWN.
-/

namespace Sys2Proof.Machine

/-! ### Cells received (R66 to R69, R78, R91 to R95) -/

/-- The fields of a received cell (R66). -/
def Cell.ofBytes (b : List Byte) : Cell :=
  let v := beAt b 0 4
  { kind := bitsOf v 30 2, first := bitOf v 29, last := bitOf v 28, tc := bitsOf v 25 3, tail := bitsOf v 23 2
    data := (b.drop 4).take (bitsOf v 17 6), kp := bitsOf v 16 1, pnLo := bitsOf v 8 8, crTc := bitsOf v 5 3, crCnt := bitsOf v 0 5 }

/-- Credits a cell header returns (R78). -/
def State.creditReturn (s : State) (p tc n : Nat) : State :=
  if n = 0 then s
  else (s.wr (CL_CRED_AVAIL.AVAIL p tc) (s.rd (CL_CRED_AVAIL.AVAIL p tc) + n)).modLink p fun l =>
    { l with credCum := l.credCum.set tc ((l.credCum.getD tc 0 + n) % 2 ^ 24) }

/-- A dropped cell is an orphan (R69). -/
def State.orphan (s : State) (p : Nat) : State := s.raise (Ev.CL_ORPHAN p)

/-- The packet number of a unit (R92): the smallest above the last accepted whose low 8 bits are PN_LO. -/
def nextPn (last : Option Nat) (lo : Nat) : Nat :=
  let start := last.elim 0 (· + 1)
  start + (lo + 256 - start % 256) % 256

/-- The PRK and packet number of a unit that begins (R90, R92); the first one of the new key phase discards the old key. -/
def State.rxKey (s : State) (p : Nat) (c : Cell) : List Byte × Nat × State :=
  let l := s.link p
  match l.rxNext with
  | some prk =>
    if c.kp ≠ l.kpRx then (prk, nextPn none c.pnLo, s.setLink p { l with rxNext := none, prkRx := prk, kpRx := c.kp, pnRx := none })
    else (l.prkRx, nextPn l.pnRx c.pnLo, s)
  | none => (l.prkRx, nextPn l.pnRx c.pnLo, s)

/-- A unit's tag is good (R92). One under the key before counts for that key, which is gone. -/
def State.tagGood (s : State) (p pn : Nat) (prk : List Byte) : State :=
  s.modLink p fun l => { l with pnRx := if prk = l.prkRx then some (l.pnRx.elim pn (max pn)) else l.pnRx, tagFails := 0 }

/-- A unit's tag fails (R92, R93): the eighth in a row sends LINK_DOWN with reason 3 and trains again. -/
def State.tagBad (s : State) (p : Nat) : State :=
  let s := (s.raise (Ev.CL_TAG_FAIL p)).modLink p fun l => { l with tagFails := l.tagFails + 1 }
  if 8 ≤ (s.link p).tagFails then ((s.sendCtl p 0x38 (be 1 3)).linkDown p).startTraining p else s

/-- Take an open packet off the link layer's list. -/
def State.dropRx (s : State) (p id : Nat) : State := s.modLink p fun l => { l with rx := l.rx.filter fun o => decide (o.id ≠ id) }

/-- What has come of a packet's payload, in clear. -/
def State.rxPayload (s : State) (p : Nat) (o : OpenRx) (raw : List Byte) : List Byte :=
  let len := (Packet.ofHeader raw).len
  let body := (raw.drop 16).take len
  if s.linkEnc p then
    let k := s.linkCipher p o.prk false o.pn
    xorBytes body (Config.gcmPad k.1 k.2 (len + 1))
  else body

/-- A packet whose last cell came is all there, with its tail code (R93). -/
def State.rxComplete (s : State) (p id code : Nat) : State :=
  if (s.arrivals p).any fun x => decide (x.id = id) then
    s.setArrivals p ((s.arrivals p).map fun x => if x.id = id then { x with whole := true, pkt := { x.pkt with tail := code } } else x)
  else match s.stored id with
    | some st => s.setStored id (some { st with complete := true, pkt := { st.pkt with tail := if st.pkt.tail = 0 then code else st.pkt.tail } })
    | none => s

/-- References that hold a packet store-and-forward are dropped (R94). -/
def State.dropHeld (s : State) (p tc id : Nat) : State :=
  s.each 20 fun o t =>
    let i := voqIdx p o tc
    let gone := (t.voq i).filter fun r => decide (r.id = id ∧ r.cut = false)
    if gone.isEmpty then t
    else (t.setVoq i ((t.voq i).filter fun r => !decide (r.id = id ∧ r.cut = false))).eachIn gone fun r u => u.release r.id r.mirror

/-- A packet whose tag fails (R93, R94): poisoned where it leaves cut-through, dropped whole where no cell has left. -/
def State.rxTagFail (s : State) (p : Nat) (o : OpenRx) : State :=
  let s := match (s.arrivals p).find? fun x => decide (x.id = o.id) with
    | some x => (s.setArrivals p ((s.arrivals p).filter fun y => decide (y.id ≠ o.id))).dropArrival p x
    | none => (s.rxComplete p o.id 1).dropHeld p o.tc o.id
  s.tagBad p

/-- The last cell of a packet has come: its size, then its tag (R69, R93). -/
def State.rxClose (s : State) (p : Nat) (o : OpenRx) (tail : Nat) : State :=
  let s := s.dropRx p o.id
  let pkt := Packet.ofHeader o.raw
  let enc := s.linkEnc p
  if o.raw.length ≠ pkt.size enc then
    (if tail = 0 then s else s.satAdd (CL_POISON.RX p) 1).cutPacket p o.id 3
  else if enc then
    let k := s.linkCipher p o.prk false o.pn
    let ct := (o.raw.drop 16).take (pkt.len + 1)
    if Config.gcmTag k.1 k.2 (o.raw.take 16) ct = o.raw.drop (17 + pkt.len) then
      let trailer := byteAt (xorBytes ct (Config.gcmPad k.1 k.2 (pkt.len + 1))) pkt.len % 4
      let code := if tail = 0 then trailer else tail
      ((if code = 0 then s else s.satAdd (CL_POISON.RX p) 1).tagGood p o.pn o.prk).rxComplete p o.id code
    else (if tail = 0 then s else s.satAdd (CL_POISON.RX p) 1).rxTagFail p o
  else (if tail = 0 then s else s.satAdd (CL_POISON.RX p) 1).rxComplete p o.id tail

/-- One cell more of an open packet (R69, R78). A cell beyond the size of the header is freed at once. -/
def State.rxExtend (s : State) (p : Nat) (o : OpenRx) (c : Cell) : State :=
  let o' := { o with raw := o.raw ++ c.data }
  let s := s.modLink p fun l => { l with rx := l.rx.map fun x => if x.id = o.id then o' else x }
  let pkt := Packet.ofHeader o.raw
  let pay := s.rxPayload p o' o'.raw
  let s :=
    if o.drop ∨ 60 * pkt.cells (s.linkEnc p) ≤ o.raw.length then s.freeCredit p o.tc 1
    else if (s.arrivals p).any fun x => decide (x.id = o.id) then
      s.setArrivals p ((s.arrivals p).map fun x => if x.id = o.id then { x with got := x.got + 1, pkt := { x.pkt with payload := pay } } else x)
    else match s.stored o.id with
      | some st =>
        let s := s.setStored o.id (some { st with pkt := { st.pkt with payload := pay } })
        if st.lossless then s else s.freeCredit p o.tc 1
      | none => if s.classLossless o.tc then s else s.freeCredit p o.tc 1
  if c.last then s.rxClose p o' c.tail else s

/-- The first cell of a packet (R67, R69, R72, R92). A link kept to link control by a duplicate address takes a message from the neighbour (R182). -/
def State.rxOpen (s : State) (p : Nat) (c : Cell) : State :=
  let pkt := Packet.ofHeader c.data
  if c.data.length < 16 ∨ pkt.tc ≠ c.tc ∨ (s.lstate p ≠ 4 ∧ pkt.neighbour = false) then (s.orphan p).freeCredit p c.tc 1
  else
    let enc := s.linkEnc p
    let k := if enc then s.rxKey p c else ([], 0, s)
    let r := k.2.2.newId
    let o : OpenRx := { tc := c.tc, id := r.1, raw := c.data, pn := k.2.1, prk := k.1, drop := !pkt.tcOk }
    let s := r.2.modLink p fun l => { l with rx := l.rx ++ [o] }
    let s :=
      if pkt.tcOk then
        s.setArrivals p (s.arrivals p ++
          [{ id := o.id, pkt := { pkt with payload := s.rxPayload p o o.raw }, cells := pkt.cells enc, whole := false, got := 1, origin := some p }])
      else (s.orphan p).freeCredit p c.tc 1
    if c.last then s.rxClose p o c.tail else s

/-- A packet cell (R69): on a link that carries no tunnel traffic it is an orphan. -/
def State.rxPacket (s : State) (p : Nat) (c : Cell) : State :=
  if s.lstate p ≠ 4 ∧ ¬ (s.lstate p = 6 ∧ s.dom.dup.contains p) then (s.orphan p).freeCredit p c.tc 1
  else
    let open_ := (s.link p).rx.find? fun o => decide (o.tc = c.tc)
    if c.first then
      (match open_ with
        | some o => (s.dropRx p o.id).cutPacket p o.id 3
        | none => s).rxOpen p c
    else match open_ with
      | none => (s.orphan p).freeCredit p c.tc 1
      | some o => s.rxExtend p o c

/-- The link control message types of R80; KEY_UPDATE and its ACK are of version 3. -/
def ctlTypeKnown (t ver : Nat) : Bool :=
  decide ((1 ≤ t ∧ t ≤ 10) ∨ (0x10 ≤ t ∧ t ≤ 0x14) ∨ ((t = 0x15 ∨ t = 0x16) ∧ ver = 3) ∨ (0x20 ≤ t ∧ t ≤ 0x23) ∨ t = 0x30 ∨ t = 0x31 ∨ t = 0x38 ∨
    t = 0x3E ∨ t = 0x3F)

/-- A link control message has ended (R69, R79, R94). What a whole one does is its own command. -/
def State.rxCtlClose (s : State) (p : Nat) (raw : List Byte) (pn : Nat) (prk : List Byte) : State :=
  let type := byteAt raw 0
  let prot := s.linkEnc p && !authType type
  let len := beAt raw 2 2
  if raw.length ≠ 4 + len + (if prot then 16 else 0) then s.orphan p
  else
    let k := s.linkCipher p prk false pn
    if prot ∧ Config.gcmTag k.1 k.2 (raw.take 4) ((raw.drop 4).take len) ≠ raw.drop (4 + len) then s.tagBad p
    else
      let s := if prot then s.tagGood p pn prk else s
      if ctlTypeKnown type (s.linkVer p) then s else s.orphan p

/-- A link control cell of a codeword that came at `at_` (R69, R97). -/
def State.rxCtl (s : State) (p : Nat) (at_ : Time) (c : Cell) : State :=
  let s := if c.first then s.modLink p fun l => { l with ctlAt := some at_ } else s
  let cur := (s.link p).ctlRx
  let s := if cur.isSome = c.first then s.orphan p else s
  let k := if c.first ∧ s.linkEnc p ∧ ¬ authType (byteAt c.data 0) then s.rxKey p c else ([], 0, s)
  let s := k.2.2
  let cur := if c.first then some ([], k.2.1, k.1) else cur
  match cur with
  | none => s
  | some (raw, pn, prk) =>
    if c.last then (s.modLink p fun l => { l with ctlRx := none }).rxCtlClose p (raw ++ c.data) pn prk
    else s.modLink p fun l => { l with ctlRx := some (raw ++ c.data, pn, prk) }

/-- CELL_RECEIVE (R69): the oldest cell of the good codewords. -/
def State.cellReceive (s : State) (p : Nat) : State :=
  match (s.link p).cells with
  | [] => s
  | (at_, b) :: rest =>
    let c := Cell.ofBytes b
    let s := (s.modLink p fun l => { l with cells := rest }).creditReturn p c.crTc c.crCnt
    match c.kind with
    | 0 => s
    | 1 => s.rxPacket p c
    | 2 => s.rxCtl p at_ c
    | _ => s.orphan p

def execCellReceive (p : Fin 6) (s : State) : Res := .next (s.cellReceive p)

/-- PACKET_CLASS_TIMEOUT (R69): no cell for 20 us in a class with an open packet. -/
def State.classTimeout (s : State) (p tc : Nat) : State :=
  match (s.link p).rx.find? fun o => decide (o.tc = tc) with
  | some o => (s.dropRx p o.id).cutPacket p o.id 3
  | none => s

def execPacketClassTimeout (p : Fin 6) (tc : Fin 8) (s : State) : Res := .next (s.classTimeout p tc)

/-! ### Credits (R77, R78) -/

/-- The body of CREDIT_INIT and CREDIT (R80). -/
def creditBody (l : List Nat) : List Byte := l.flatMap (be 4)

/-- CREDIT_TIMER (R78): the cumulative counts go out; they cover what was still to be returned in headers. -/
def State.creditTimer (s : State) (p : Nat) : State :=
  if s.linkIsUp p ∧ s.linkVer p ≠ 0 ∧ ¬ (s.link p).parked then
    (s.sendCtl p 0x04 (creditBody (s.link p).freed)).modLink p fun l => { l with credPend := List.replicate 8 0 }
  else s

def execCreditTimer (p : Fin 6) (s : State) : Res := .next (s.creditTimer p)

/-- CREDIT_INIT (R77): the far hub's initial credit of each class. -/
def State.creditInit (s : State) (p : Nat) (init : List Nat) : State :=
  if s.linkIsUp p then
    (s.each 8 fun tc t => t.wr (CL_CRED_AVAIL.AVAIL p tc) (init.getD tc 0)).modLink p fun l => { l with credCum := List.replicate 8 0 }
  else s

def execCreditInit (p : Fin 6) (init : List (BitVec 24)) (s : State) : Res := .next (s.creditInit p (init.map BitVec.toNat))

/-- CREDIT (R78): raise each count to the value reported if that is ahead. -/
def State.credit (s : State) (p : Nat) (cum : List Nat) : State :=
  if s.linkIsUp p then
    s.each 8 fun tc t =>
      let ahead := (cum.getD tc 0 + 2 ^ 24 - (t.link p).credCum.getD tc 0) % 2 ^ 24
      if ahead < 2 ^ 23 then t.creditReturn p tc ahead else t
  else s

def execCredit (p : Fin 6) (cum : List (BitVec 24)) (s : State) : Res := .next (s.credit p (cum.map BitVec.toNat))

/-! ### Version negotiation (R83) -/

/-- The port stays unlinked (R83, R516). -/
def State.unlinked (s : State) (p : Nat) : State := (s.linkDown p).wr (CL_STAT.LSTATE p) 5

/-- Version negotiation fails (R83). -/
def State.verFail (s : State) (p : Nat) : State := ((s.sendCtl p 0x38 (be 1 1)).raise (Ev.CL_VER_FAIL p)).unlinked p

/-- VERSION_OFFER (R83): VERS, AUTH_POLICY, ROLE, FLOOR and UID of the partner. -/
def State.versionOffer (s : State) (p vers policy role uid : Nat) : State :=
  if s.linkIsUp p ∧ s.lstate p = 2 then
    let both := Nat.land vers (s.versBitmap p)
    let v := if bitOf both 3 then 3 else if bitOf both 2 then 2 else 0
    let s := s.modLink p fun l => { l with offerGot := true, peerPolicy := policy, peerRole := role, peerUid := uid, chosen := v }
    if v = 0 then s.verFail p else s.sendCtl p 0x02 (be 1 v ++ be 3 0 ++ be 8 s.uid)
  else s

def execVersionOffer (p : Fin 6) (vers : Fin 256) (policy : Fin 256) (role : Fin 256) (_floor : Fin 256) (uid : BitVec 64) (s : State) : Res :=
  .next (s.versionOffer p vers policy role uid.toNat)

/-- VERSION_OFFER_REPEAT (R83): every 100 us until the partner's offer has come. -/
def execVersionOfferRepeat (p : Fin 6) (s : State) : Res :=
  .next (if s.linkIsUp p ∧ s.lstate p = 2 ∧ ¬ (s.link p).offerGot then s.sendOffer p else s)

/-- VERSION_TIMEOUT (R83): no offer within 10 ms. -/
def execVersionTimeout (p : Fin 6) (s : State) : Res :=
  .next (if s.linkIsUp p ∧ s.lstate p = 2 ∧ ¬ (s.link p).offerGot then s.verFail p else s)

/-! ### Authentication (R86 to R89) -/

/-- The private scalar of the device key (R376), in 48 bytes. -/
def State.deviceKey (s : State) : List Byte :=
  let v := ofBe (Config.hkdf (be 8 s.uid) s.fuses.root (ascii "CX860 device id") 48)
  let n := 0xFFFFFFFFFFFFFFFFFFFFFFFFFFFFFFFFFFFFFFFFFFFFFFFFC7634D81F4372DDF581A0DB248B0A77AECEC196ACCC52973
  be 48 (v % (n - 1) + 1)

/-- The info strings begin TL3 or TL2 (R88). -/
def State.tlInfo (s : State) (p : Nat) (t : String) : List Byte := ascii (if s.linkVer p = 3 then "TL3 " else "TL2 ") ++ ascii t

/-- The bodies of one step in the order of the transcript: that of the lower UID first (R87). -/
def State.inOrder (s : State) (p : Nat) (own peer : List Byte) : List Byte := if s.uid < (s.link p).peerUid then own ++ peer else peer ++ own

/-- The signature of a key share (R87): over H with the message's public key. -/
def State.shareSig (s : State) (p : Nat) : List Byte :=
  Config.ecdsaSign s.deviceKey (Config.sha384 ((s.link p).transcript ++ (s.link p).share))

/-- The MAC of AUTH_FINISH (R87). -/
def State.finishMac (s : State) (p : Nat) : List Byte :=
  Config.hmac384 (Config.hkdfExpand (s.link p).prkNew (s.tlInfo p "finish") 48) (Config.sha384 (s.link p).transcript)

/-- The bodies of this end's AUTH messages of a step, from byte 4. -/
def State.authBodies (s : State) (p step : Nat) : List (List Byte) :=
  let l := s.link p
  match step with
  | 1 => [l.nonce ++ be 8 s.uid]
  | 2 => (List.range certs.length).map fun i =>
      be 1 i ++ be 1 certs.length ++ certs.getD i []
  | 3 => [l.share ++ s.shareSig p]
  | 4 => [s.finishMac p]
  | _ => []

/-- Send the messages of a step (R87); one that needs random bytes the key unit cannot give waits for its timeout (R378). -/
def State.authSend (s : State) (p step : Nat) : State :=
  if (step = 1 ∨ step = 3) ∧ s.keys.rngOk = false then s
  else
    let s := if step = 1 then
        let r := s.freshBytes 32
        r.2.modLink p fun l => { l with nonce := r.1 }
      else if step = 3 then
        let r := s.freshBytes 48
        r.2.modLink p fun l => { l with eph := r.1, share := Config.p384Public r.1 }
      else s
    (s.eachIn (s.authBodies p step) fun b t => t.sendCtl p (0x0F + step) b).modLink p fun l => { l with authSent := step }

/-- Authentication begins with AUTH_HELLO (R87). -/
def State.authBegin (s : State) (p : Nat) : State :=
  (s.modLink p fun l => { l with authSent := 0, authGot := 0, certs := [], transcript := [], peerNonce := [], prkNew := [] }).authSend p 1

/-- Authenticate a link that does not run (R86). -/
def State.authStart (s : State) (p : Nat) : State := (s.wr (CL_STAT.LSTATE p) 3).authBegin p

/-- Record an authentication failure (R89): the port carries link control only. -/
def State.authFailed (s : State) (p reason : Nat) : State :=
  let s := ((s.raise (Ev.CL_AUTH_FAIL p)).wr (CL_AUTH.REASON p) reason).wr (CL_STAT.AUTH_OK p) 0
  (s.modLink p fun l => { l with authSent := 0, authGot := 0 }).linkOnly p
def State.authFail (s : State) (p reason : Nat) : State := (s.sendCtl p 0x14 (be 1 reason)).authFailed p reason

/-- Two hubs that offer host have met (R177). -/
def State.rolesMeet (s : State) (p : Nat) : State :=
  if s.offeredRole p = 1 ∧ (s.link p).peerRole = 1 then
    let theirs := bitOf (s.reg (PD_PARTNER_TL p)).toNat 8
    if s.on DM_CFG.DUAL then (if theirs then s.sendRoleSwap p 1 else s.yieldRole)
    else if theirs then s
    else (s.raise Ev.DM_ROLE_CONFLICT).linkOnly p
  else s

/-- Link bring-up completes: tunnels open (R83, R86). -/
def State.bringUp (s : State) (p : Nat) : State := (s.linkOpen p).rolesMeet p

/-- The outcome the two policies give (R86). -/
def State.policies (s : State) (p : Nat) : State :=
  match s.rd (CL_CTRL.AUTH_POLICY p), (s.link p).peerPolicy with
  | 0, 0 | 0, 1 | 1, 0 => s.bringUp p
  | 0, _ => s.linkOnly p
  | _, 0 => s.authFail p 6
  | _, _ => s.authStart p

/-- VERSION_ACK (R83). -/
def State.versionAck (s : State) (p version : Nat) : State :=
  if s.linkIsUp p ∧ s.lstate p = 2 ∧ (s.link p).offerGot then
    if version = (s.link p).chosen then
      let s := (s.wr (CL_STAT.VER p) version).wr (DM_PEER.VER p) version
      let s := s.sendCtl p 0x03 (creditBody ((List.range 8).map fun tc => s.rd (CL_CRED_INIT.INIT p tc)))
      s.ownFloor.policies p
    else s.verFail p
  else s

def execVersionAck (p : Fin 6) (version : Fin 256) (s : State) : Res := .next (s.versionAck p version)

/-- Authentication runs on the port: at bring-up or a retry, or anew on a version-2 link. -/
def State.authRuns (s : State) (p : Nat) : Bool := s.linkIsUp p && (decide (s.lstate p = 3) || decide ((s.link p).authSent ≠ 0))

/-- The reasons after which the link retries (R86). -/
def State.mayRetry (s : State) (p : Nat) : Bool :=
  s.linkIsUp p && decide (s.lstate p = 6) && !s.on (CL_STAT.AUTH_OK p) && decide (s.rd (CL_AUTH.REASON p) ≠ 0 ∧ s.rd (CL_AUTH.REASON p) ≠ 6) &&
    decide (s.rd (CL_CTRL.AUTH_POLICY p) ≠ 0 ∧ (s.link p).peerPolicy ≠ 0)

/-- A step has been both sent and received: its bodies join the transcript, and the next begins (R87). -/
def State.authNext (s : State) (p step : Nat) (peer : List Byte) : State :=
  let own := (s.authBodies p step).flatten
  (s.modLink p fun l => { l with authGot := step, transcript := l.transcript ++ s.inOrder p own peer }).authSend p (step + 1)

/-- The step in progress is this one: sent, not yet received. -/
def State.authAt (s : State) (p step : Nat) : Bool :=
  s.linkIsUp p && decide ((s.link p).authSent = step ∧ (s.link p).authGot + 1 = step)

/-- AUTH_HELLO (R87, R101): discarded before version negotiation completes. A link that waits for its retry, or runs version 2 under old keys, begins
its own with it. -/
def State.authHello (s : State) (p : Nat) (nonce : List Byte) (uid : Nat) : State :=
  if s.linkVer p = 0 then s
  else
    let s := if s.mayRetry p then s.authStart p
      else if s.linkVer p = 2 ∧ s.linkEnc p ∧ s.lstate p = 4 ∧ (s.link p).authSent = 0 then s.authBegin p else s
    if s.authAt p 1 then
      (s.modLink p fun l => { l with peerNonce := nonce, peerUid := uid }).authNext p 1 (nonce ++ be 8 uid)
    else s

def execAuthHello (p : Fin 6) (nonce : BitVec 256) (uid : BitVec 64) (s : State) : Res :=
  .next (s.authHello p (be 32 nonce.toNat) uid.toNat)

/-- AUTH_CERT (R87, R89): certificates in order; the chain is checked when its last has come. -/
def State.authCert (s : State) (p index count : Nat) (cert : List Byte) : State :=
  if s.authAt p 2 then
    let certs := (s.link p).certs
    if index ≠ certs.length ∨ count = 0 ∨ 3 < count ∨ count ≤ index ∨ 1600 < cert.length then s.authFail p 1
    else
      let certs := certs ++ [cert]
      let s := s.modLink p fun l => { l with certs := certs }
      if certs.length < count then s
      else
        let r := Config.certCheck certs s.img.anchors (s.link p).peerUid
        if r = 0 then s.authNext p 2 ((List.range count).flatMap fun i => be 1 i ++ be 1 count ++ certs.getD i [])
        else s.authFail p (if r = 1 ∨ r = 7 then r else 2)
  else s

def execAuthCert (p : Fin 6) (index : Fin 256) (count : Fin 256) (cert : List Byte) (s : State) : Res := .next (s.authCert p index count cert)

/-- AUTH_KEYSHARE (R87, R88): public key in 97 bytes, signature in 96. -/
def State.authKeyshare (s : State) (p : Nat) (pub sig : List Byte) : State :=
  if s.authAt p 3 then
    let l := s.link p
    if Config.ecdsaVerify (Config.certPublicKey (l.certs.getD 0 [])) (Config.sha384 (l.transcript ++ pub)) sig then
      let prk := Config.hmac384 (s.inOrder p l.nonce l.peerNonce) (Config.p384Ecdh l.eph pub)
      (s.modLink p fun l => { l with prkNew := prk }).authNext p 3 (pub ++ sig)
    else s.authFail p 3
  else s

def execAuthKeyshare (p : Fin 6) (pub : BitVec 776) (sig : BitVec 768) (s : State) : Res :=
  .next (s.authKeyshare p (be 97 pub.toNat) (be 96 sig.toNat))

/-- AUTH_FINISH (R87): a good one turns encryption on and opens the tunnels; on a version-2 link under old keys it switches both directions, with KP
toggled (R90). -/
def State.authFinish (s : State) (p : Nat) (mac : List Byte) : State :=
  if s.authAt p 4 then
    if mac = s.finishMac p then
      let prk := (s.link p).prkNew
      let s := (s.wr (CL_STAT.AUTH_OK p) 1).modLink p fun l => { l with authSent := 0, authGot := 0, pnTx := 0, prkTx := prk, tagFails := 0 }
      if s.linkEnc p ∧ s.lstate p = 4 then
        (s.wr (CL_STAT.KP p) (1 - s.rd (CL_STAT.KP p))).modLink p fun l => { l with rxNext := some prk, rekeying := none }
      else
        (((s.wr (CL_STAT.ENC p) 1).wr (CL_STAT.KP p) 0).modLink p fun l => { l with prkRx := prk, pnRx := none, kpRx := 0, rxNext := none }).bringUp p
    else s.authFail p 4
  else s

def execAuthFinish (p : Fin 6) (mac : BitVec 384) (s : State) : Res := .next (s.authFinish p (be 48 mac.toNat))

/-- AUTH_FAIL received (R86, R89). -/
def execAuthFail (p : Fin 6) (reason : Fin 16) (s : State) : Res :=
  .next (if s.linkIsUp p ∧ s.linkVer p ≠ 0 then s.authFailed p reason else s)

/-- AUTH_STEP_TIMEOUT (R87, R89). -/
def execAuthStepTimeout (p : Fin 6) (s : State) : Res := .next (if s.authRuns p then s.authFail p 5 else s)

/-- AUTH_RETRY (R86). -/
def execAuthRetry (p : Fin 6) (s : State) : Res := .next (if s.mayRetry p then s.authStart p else s)

/-! ### Key phases (R90) -/

/-- The PRK of the next key phase. -/
def nextPrk (prk : List Byte) : List Byte := Config.hkdfExpand prk (ascii "TL3 next") 48

/-- Start a key phase change of the transmit direction (R90): a KEY_UPDATE, or on a version-2 link a new authentication. -/
def State.keyChange (s : State) (p : Nat) : State :=
  if ¬ s.linkEnc p ∨ ¬ s.linkIsUp p then s
  else if s.linkVer p = 3 then
    if (s.link p).rekeying.isSome then s
    else
      let kp := 1 - s.rd (CL_STAT.KP p)
      (s.sendCtl p 0x15 (be 1 kp)).modLink p fun l => { l with rekeying := some kp }
  else if (s.link p).authSent = 0 then s.authBegin p else s

/-- REKEY_TRIGGER (R90). -/
def execRekeyTrigger (p : Fin 6) (s : State) : Res :=
  .next (if 2 ^ s.rd (CL_AUTH.REKEY_EXP p) ≤ (s.link p).pnTx then s.keyChange p else s)

/-- KEY_UPDATE (R90): the receiver derives the next key, holds both and acknowledges. -/
def State.keyUpdate (s : State) (p kp : Nat) : State :=
  if s.linkIsUp p ∧ s.linkEnc p ∧ s.linkVer p = 3 then
    let s := if kp ≠ (s.link p).kpRx ∧ (s.link p).rxNext.isNone then s.modLink p fun l => { l with rxNext := some (nextPrk l.prkRx) } else s
    s.sendCtl p 0x16 (be 1 kp)
  else s

def execKeyUpdate (p : Fin 6) (kp : Fin 2) (s : State) : Res := .next (s.keyUpdate p kp)

/-- KEY_UPDATE_ACK (R90): the next packet starts with the new KP and packet number 0. -/
def State.keyUpdateAck (s : State) (p kp : Nat) : State :=
  if (s.link p).rekeying = some kp then
    (s.wr (CL_STAT.KP p) kp).modLink p fun l => { l with rekeying := none, prkTx := nextPrk l.prkTx, pnTx := 0 }
  else s

def execKeyUpdateAck (p : Fin 6) (kp : Fin 2) (s : State) : Res := .next (s.keyUpdateAck p kp)

/-! ### Messages of the lane plan (R54, R57, R59, R81, R161) -/

/-- PLAN_FLIP (R161, R81). -/
def State.planFlip (s : State) (p table cw : Nat) : State :=
  if s.linkIsUp p then
    let s := if cw < (s.link p).cwRx then s.raise (Ev.CL_LATE_CW p) else s
    if s.on (AL_CTRL.FOLLOW p) ∧ s.planOwner p = some false then s.modSched p fun x => { x with follow := some (table, cw) } else s
  else s

def execPlanFlip (p : Fin 6) (table : Fin 2) (cw : BitVec 64) (s : State) : Res := .next (s.planFlip p table cw.toNat)

/-- Take up an announced action, hold it while another runs, or answer that it is late (R58, R81). -/
def State.announced (s : State) (p : Nat) (a : LaneAct) : State :=
  if (s.link p).act.isNone ∧ s.lateAct p a then s.refuseAct p a 2 else s.holdAct p a

/-- LEAD_CHANGE (R54, R81): the lane in the sender's numbering, GIVER, NEW_POS, N. A lane that may not turn, or does not stripe, is refused. -/
def State.leadChange (s : State) (p lane giver newPos cw : Nat) : State :=
  if s.linkIsUp p then
    let n := s.laneOfPartner p lane
    let a : LaneAct := { kind := 0, lane := n, tx := decide (giver = 1), newPos := newPos, cw := cw, far := true }
    if (s.link p).parked ∨ s.on (LN_CTRL.NO_TURN n) ∨ ¬ s.mayTurn p ∨ s.rd (LN_STAT.DIR n) ≠ (if giver = 1 then 0 else 1) ∨
        ¬ (s.laneState n = 3 ∨ s.laneState n = 5 ∨ s.laneState n = 6) then s.refuseAct p a 3
    else s.announced p a
  else s

def execLeadChange (p : Fin 6) (lane : Fin 4) (giver : Fin 2) (newPos : Fin 4) (cw : BitVec 64) (s : State) : Res :=
  .next (s.leadChange p lane giver newPos cw.toNat)

/-- LANE_FAULT (R57): restripe the direction without the lane, at a codeword announced 1 us ahead (R81). -/
def State.laneFault (s : State) (p lane : Nat) : State :=
  let n := s.laneOfPartner p lane
  if s.linkIsUp p ∧ s.rd (LN_STAT.DIR n) = 0 ∧ s.inService n then
    let cw := (s.link p).cwTx + 1 + s.codewordsIn p 0 1000
    (s.sendCtl p 0x09 (be 1 (n % 4) ++ be 3 0 ++ be 8 cw)).holdAct p { kind := 1, lane := n, tx := true, cw := cw }
  else s

def execLaneFault (p : Fin 6) (lane : Fin 4) (_ : Fin 256) (s : State) : Res := .next (s.laneFault p lane)

/-- RESTRIPE (R57, R81): late, it takes effect at the next codeword. -/
def State.restripe (s : State) (p lane cw : Nat) : State :=
  if s.linkIsUp p then
    let late := decide (cw < (s.link p).cwRx)
    let s := if late then s.raise (Ev.CL_LATE_CW p) else s
    s.holdAct p { kind := 1, lane := s.laneOfPartner p lane, tx := false, cw := max cw (s.link p).cwRx, far := true }
  else s

def execRestripe (p : Fin 6) (lane : Fin 4) (cw : BitVec 64) (s : State) : Res := .next (s.restripe p lane cw.toNat)

/-- LOW_POWER (R59, R81, R364): ACTION 0 Stand, 1 Stable, 2 exit. A park during training or a lead change is refused, and so is Stand on the last lane of
a direction. -/
def State.lowPower (s : State) (p lane action cw : Nat) : State :=
  if s.linkIsUp p then
    let n := s.laneOfPartner p lane
    let d := s.rd (LN_STAT.DIR n)
    let a : LaneAct := { kind := 2 + action, lane := n, tx := decide (d = 0), cw := cw, far := true }
    let turning := (s.link p).act.elim false (fun x => decide (x.kind = 0)) || (portLanes p).any fun m => decide (s.laneState m = 2 ∨ s.laneState m = 4)
    if (action = 1 ∧ turning) ∨ (action = 0 ∧ (s.striped p d).length ≤ 1) then s.refuseAct p a 3
    else if s.lateAct p a then s.refuseAct p a 2
    else s.holdAct p a
  else s

def execLowPower (p : Fin 6) (lane : Fin 4) (action : Fin 3) (cw : BitVec 64) (s : State) : Res :=
  .next (s.lowPower p lane action cw.toNat)

/-! ### Time synchronisation (R96 to R99) -/

/-- Time is exchanged on a link that is up and not parked, and not across a span edge (R183). -/
def State.syncRuns (s : State) (p : Nat) : Bool := s.linkRuns p && !s.spanEdge p

/-- The stamp of the control message that came last (R97): the time of its first cell's codeword. -/
def State.rxStamp (s : State) (p : Nat) : Time := ((s.link p).ctlAt.getD s.time).fine

/-- A stamp in 1/16 ns (R97). -/
def Time.sixteenths (t : Time) : Int := (t.toNs * 16 + t.frac / 2 ^ 28 : Nat)

/-- SYNC_EXCHANGE (R96): the master sends SYNC; its departure follows it. A partner that has forced and sends none for three intervals forces no more
(assumption row 153). -/
def State.syncExchange (s : State) (p : Nat) : State :=
  if s.syncRuns p then
    if s.timeMaster p then
      let id := ((s.link p).syncId + 1) % 2 ^ 32
      (s.modLink p fun l => { l with syncId := id }).sendCtl p 0x20 (be 4 id)
    else s.modLink p fun l => { l with syncIdle := l.syncIdle + 1, peerForces := l.peerForces && decide (l.syncIdle < 3) }
  else s

def execSyncExchange (p : Fin 6) (s : State) : Res := .next (s.syncExchange p)

/-- SYNC (R96, R187): the slave stamps its arrival. -/
def State.sync (s : State) (p id : Nat) : State :=
  if s.syncRuns p then
    let s := s.modLink p fun l => { l with syncIdle := 0, peerForces := l.peerForces || s.timeMaster p }
    if s.timeMaster p then s
    else s.modLink p fun l => { l with syncId := id, t2 := if s.transition p then none else some (s.rxStamp p), t1 := none, t3 := none }
  else s

def execSync (p : Fin 6) (id : BitVec 32) (s : State) : Res := .next (s.sync p id.toNat)

/-- SYNC_FOLLOW (R96): t1 has come; DELAY_REQ goes out, stamped as it leaves. -/
def State.syncFollow (s : State) (p id : Nat) (t1 : Time) : State :=
  if s.syncRuns p ∧ (s.link p).t2.isSome ∧ (s.link p).syncId = id then
    (s.sendCtl p 0x22 (be 4 id)).modLink p fun l => { l with t1 := some t1 }
  else s

def execSyncFollow (p : Fin 6) (id : BitVec 32) (t1 : Time) (s : State) : Res := .next (s.syncFollow p id.toNat t1)

/-- DELAY_REQ (R96): the master stamps its arrival and returns it. -/
def execDelayReq (p : Fin 6) (id : BitVec 32) (s : State) : Res :=
  .next (if s.syncRuns p ∧ s.timeMaster p then s.sendCtl p 0x23 (be 4 id.toNat ++ (s.rxStamp p).be) else s)

/-- Twice the flight time of the lane at POS 0 of a direction, in tenths of a ns. -/
def State.tripOf (s : State) (p d : Nat) : Int :=
  (((s.striped p d).find? fun n => decide (s.rd (LN_STAT.POS n) = 0)).elim 0 fun n => (s.lane n).trip : Nat)

/-- offset of R98 in 1/320 ns, from stamps in 1/16 ns and twice δ in 1/10 ns; offset and delay in 1/16 ns to the nearest, halves up (assumption row 145). -/
def syncExact (t1 t2 t3 t4 trip : Int) : Int := 10 * ((t2 - t1) - (t4 - t3)) - 8 * trip
def syncOffset (t1 t2 t3 t4 trip : Int) : Int := roundDiv (syncExact t1 t2 t3 t4 trip) 20
def syncDelay (t1 t2 t3 t4 : Int) : Int := roundDiv ((t2 - t1) + (t4 - t3)) 2

/-- TLOCK, TWIN and TIME_UNLOCK after an exchange (R99), whose offset is `exact` in 1/320 ns. -/
def State.judgeSync (s : State) (p : Nat) (exact : Int) : State :=
  let good := decide (exact.natAbs ≤ 2560)
  let s := s.wr (CL_STAT.TWIN p) good.toNat
  let s := s.modLink p fun l => { l with goodOfs := if good then l.goodOfs + 1 else 0, badOfs := if good then 0 else l.badOfs + 1 }
  if 8 ≤ (s.link p).goodOfs then s.wr (CL_STAT.TLOCK p) 1
  else if 3 ≤ (s.link p).badOfs ∧ s.on (CL_STAT.TLOCK p) then (s.wr (CL_STAT.TLOCK p) 0).raise (Ev.CL_TIME_UNLOCK p)
  else s

/-- DELAY_RESP (R98, R99): offset, delay, and a sample for the time counter. -/
def State.delayResp (s : State) (p id : Nat) (t4 : Time) : State :=
  let l := s.link p
  match l.t1, l.t2, l.t3 with
  | some t1, some t2, some t3 =>
    if s.syncRuns p ∧ l.syncId = id then
      let trip := s.tripOf p 1 - s.tripOf p 0
      let ofs := syncOffset t1.sixteenths t2.sixteenths t3.sixteenths t4.sixteenths trip
      let dly := syncDelay t1.sixteenths t2.sixteenths t3.sixteenths t4.sixteenths
      let s := (s.wr (CL_SYNC_OFS.OFFSET p) (ofSigned 32 (satSigned 32 ofs))).wr (CL_SYNC_DLY.DELAY p) (ofSigned 32 (satSigned 32 dly))
      let s := s.modLink p fun l => { l with t1 := none, t2 := none, t3 := none }
      (s.judgeSync p (syncExact t1.sixteenths t2.sixteenths t3.sixteenths t4.sixteenths trip)).servoSample p ofs 1
    else s
  | _, _, _ => s

def execDelayResp (p : Fin 6) (id : BitVec 32) (t4 : Time) (s : State) : Res := .next (s.delayResp p id.toNat t4)

/-! ### Other messages -/

/-- ROLE_SWAP_ACK (R177): it also ends a ROLE_SWAP command (R437). -/
def State.roleSwapAckMsg (s : State) (p result : Nat) : State :=
  let s := s.roleSwapAck p result
  let s := if result = 2 then s.modLink p fun l => { l with peerRole := 0 } else s
  s.finish (fun w => decide (w = .roleSwap p)) stOk 0 (le 1 result)

def execRoleSwapAck (p : Fin 6) (result : Fin 3) (s : State) : Res := .next (s.roleSwapAckMsg p result)

/-- LINK_DOWN (R516). -/
def State.linkDownMsg (s : State) (p reason : Nat) : State :=
  if s.linkIsUp p then
    match reason with
    | 0 => (s.linkDown p).modLink p fun l => { l with exitWait := true }
    | 1 => (s.raise (Ev.CL_VER_FAIL p)).unlinked p
    | _ => (s.linkDown p).startTraining p
  else s

def execLinkDown (p : Fin 6) (reason : Fin 256) (s : State) : Res := .next (s.linkDownMsg p reason)

/-- ECHO (R80). -/
def execEcho (p : Fin 6) (token : BitVec 32) (s : State) : Res := .next (s.sendCtl p 0x3E (be 4 token.toNat))

/-- ECHO_REPLY (R80, R437): the round trip in ns. -/
def State.echoReply (s : State) (p token : Nat) : State :=
  if (s.link p).echoTok = token then
    match s.waiter fun w => (match w with
      | .echo q _ => decide (q = p)
      | _ => false) with
    | some e => match e.wait with
      | .echo _ sent => s.answer e stOk 0 (le 4 (s.time.toNs - sent.toNs))
      | _ => s
    | none => s
  else s

def execEchoReply (p : Fin 6) (token : BitVec 32) (s : State) : Res := .next (s.echoReply p token.toNat)

end Sys2Proof.Machine
end

