-- ==== Sys2Proof/Machine/Clock.lean ====
section
/-!
DEFINITION. Clocks, reset and start-up (R342 to R359, R510, R511), but for the core reset release, which Image.lean holds.
-/

namespace Sys2Proof.Machine

/-! ### Resets (R351, R352) -/

/-- What every reset of the whole hub leaves: the flash, the fuses, what has been sent, and the model's own counters and queue. -/
def State.wiped (s : State) : State :=
  { State.reset with flash := s.flash, fuses := s.fuses, uptime := s.uptime, out := s.out, free := s.free, pending := s.pending }

/-- Words into consecutive registers. -/
def State.setRegs (s : State) (a : Nat) : List Word → State
  | [] => s
  | w :: l => (s.setReg a w).setRegs (a + 4) l

/-- The fuse shadow is loaded (R374); `rc`: with the trim code of the RC. -/
def State.loadShadow (s : State) (rc : Bool) : State :=
  let f := s.fuses
  let s := s.wr64 DM_UID_LO.UID DM_UID_HI.UID f.uid
  let s := if rc then (s.wr CK_RC.FUSED f.rcTrim).wr CK_RC.TRIM f.rcTrim else s
  let s := (s.setRegs (KS_ROMKH 0) (f.romKeyHash.take 12)).setRegs (KS_DBGKH 0) (f.dbgKeyHash.take 12)
  ((s.wr KS_IMG_MIN.COUNT (2 ^ f.imgMin - 1)).wr KS_PATCH_MIN.COUNT (2 ^ f.patchMin - 1)).wr KS_FUSE_MISC.DBG_DISABLE f.dbgDisable.toNat

/-- Every eFuse gate is held off, the power-good balls low (R338, R504). -/
def State.gatesOff (s : State) : State := s.each 8 fun n t => ((t.send (.pin 6 n 0)).send (.pin 7 n 0)).send (.pin 8 n 0)

/-- The balls of the core domain while core reset is held (R504, R510): the lanes send nothing, the pulls of R505 hold the outputs low, S0 to S31 float. -/
def State.coreBalls (s : State) : State :=
  let s := s.each 24 fun n t => if t.laneState n = 0 ∨ t.laneState n = 8 then t else t.laneSend n 0
  let s := s.each 32 fun n t => t.send (.pin 2 n 2)
  let s := s.each 4 fun i t => (t.send (.pin 1 i 0)).send (.pin 4 (i + 1) 0)
  ((s.send (.pin 3 0 0)).send (.pin 3 1 0)).send (.pin 5 0 0)

/-- The balls of the always-on domain in reset (R504, R505): eFuse gates off, no regulator, VCONN or discharge; OSC_EN pulled high. -/
def State.resetBalls (s : State) : State :=
  (s.gatesOff.coreBalls.each 6 fun p t => ((t.send (.pin 10 p 0)).send (.pin 11 p 0)).send (.pin 15 p 0)).send (.pin 12 0 1)

/-- POWER_ON_RESET_RELEASE (R510, R503): the straps are latched, fuses read, the always-on domain runs on the RC with core reset held. -/
def State.powerOnRelease (s : State) (straps : Nat) : State :=
  if s.clk.phase = .held then
    let s := s.wiped
    ({ s with clk := { s.clk with phase := .aon } }.setReg GC_STRAP (BitVec.ofNat 32 straps)).loadShadow true
  else s

def execPowerOnResetRelease (straps : BitVec 16) (s : State) : Res := .next (s.powerOnRelease straps.toNat)

/-- ALWAYS_ON_SUPPLY_FAIL (R510, R511): power-on reset; nothing is kept. -/
def execAlwaysOnSupplyFail (s : State) : Res := .next (if s.clk.phase = .held then s else s.resetBalls.wiped)

/-- PIN_RESET (R351, R511): everything but the strap values. -/
def State.pinReset (s : State) : State :=
  if s.clk.phase = .held then s
  else
    let straps := s.reg GC_STRAP
    let s := s.resetBalls.wiped
    let s := ({ s with clk := { s.clk with phase := .aon } }.setReg GC_STRAP straps).loadShadow true
    s.wr GC_RST_CAUSE.LAST 2

def execPinReset (s : State) : Res := .next s.pinReset

/-- Request a warm reset (R352, R357): a second request before the first begins adds nothing. -/
def State.requestWarm (s : State) (cause : Nat) : State :=
  if s.clk.warm.isSome then s else { s with clk := { s.clk with warm := some cause } }

/-- CORE_SUPPLY_FAIL (R510, R511). -/
def execCoreSupplyFail (s : State) : Res :=
  .next (if s.clk.phase = .held ∨ s.clk.phase = .aon then s else s.requestWarm 6)

/-- Registers that a warm reset keeps (R352): the reset cause and straps, CK, PS, PD and the eFuse channels. -/
def warmKeeps (a : Nat) : Bool :=
  decide (a = GC_RST_CAUSE ∨ a = GC_STRAP ∨ (0x40010000 ≤ a ∧ a < 0x40030000) ∨ (0x40A00000 ≤ a ∧ a < 0x40B00800))

/-- The local PLLs restart (R352, R343). -/
def State.pllsOff (s : State) : State :=
  ((((s.wr CK_STAT.LANE_LOCK 0).wr CK_STAT.PIX_LOCK 0).wr CK_STAT.ETH_LOCK 0).wr CK_STAT.USB_LOCK 0).wr CK_STAT.PCIE_LOCK 0

/-- WARM_RESET (R352): 1 us after the request. Core reset is held until its release; the hub is back in H0 (R372). -/
def State.warmReset (s : State) : State :=
  match s.clk.warm with
  | none => s
  | some c =>
    let t := { s.coreBalls.wiped with
      regs := s.regs.filter (fun e => warmKeeps e.1)
      clk := { s.clk with warm := none, phase := .aon, ramps := [] }
      pds := s.pds
      efs := s.efs }
    let t := (((t.loadShadow false).pllsOff.wr PS_STAT.STATE 0).wr PS_STAT.ENTERING 0).wr PS_STAT.WAKING 0
    (t.wr GC_RST_CAUSE.LAST c).satAdd GC_RST_CAUSE.WARM_CNT 1

def execWarmReset (s : State) : Res := .next s.warmReset

/-! ### Ramps (R347) -/

/-- The steps of m. -/
def rampSteps : List Nat := [2, 3, 4, 6, 9, 13, 19, 28, 42, 63, 64]

/-- The m a ramp starts at: the largest whose new frequency is at most 1.5 times the old one; 2 from stop. -/
def rampStart (old new_ : Nat) : Nat :=
  if old = 0 then 2 else (rampSteps.filter fun m => decide (2 * new_ * m ≤ 3 * old * 64)).foldl max 2

/-- The clocks of a ramp by the codes of CK_MON_SRC: 1 CORE/ENGINE, 2 MGMT, 3 DRAM, 4 TICK, 5 AON. -/
def State.ramp (s : State) (c old new_ : Nat) : State :=
  let m := rampStart old new_
  { s with clk := { s.clk with ramps := Tab.put 0 s.clk.ramps c (if m = 64 then 0 else m) } }

/-- RAMP_STEP (R347): the next step of a running ramp, which ends at 64. -/
def execRampStep (c : Fin 8) (s : State) : Res :=
  .next (let m := Tab.get 0 s.clk.ramps c
    if m = 0 then s
    else
      let n := (rampSteps.find? fun k => decide (m < k)).getD 64
      { s with clk := { s.clk with ramps := Tab.put 0 s.clk.ramps c (if n = 64 then 0 else n) } })

/-- All clocks move to the root PLL (R342, R355), in kHz. -/
def State.toPll (s : State) : State :=
  let s := (s.wr CK_STAT.ROOT_LOCK 1).wr CK_STAT.ON_PLL 1
  ((((s.ramp 1 0 1875000).ramp 2 32000 750000).ramp 3 0 937500).ramp 4 0 156250).ramp 5 32000 31250

/-! ### The reference (R344, R349, R350, R356) -/

/-- The hub runs on the root PLL. -/
def State.fullSpeed (s : State) : Bool := decide (s.clk.phase = .imaging ∨ s.clk.phase = .active ∨ s.clk.phase = .noImage)

/-- The reference is stopped for H3 (R349). -/
def State.asleep (s : State) : Bool := decide (s.rd PS_STAT.STATE = 3)

/-- The domain time counter runs (R283, R355, R350, R369): on the root PLL, its clock enabled, not in H3. -/
def State.timeRuns (s : State) : Bool := s.fullSpeed && !s.asleep && s.clkOn 21

/-- Boot has no reference (R356): the ROM serves SMBus commands, the search goes on. -/
def State.refFail (s : State) : State :=
  let s := (((s.wr CK_STAT.REF_OK 0).wr CK_STAT.ROOT_LOCK 0).wr CK_STAT.ON_PLL 0).raise Ev.CK_REF_FAIL
  { s with clk := { s.clk with phase := .refFail, agree := 0, bad := 0, retries := 0, ramps := [] } }

/-- Cells in the buffer are lost: every packet, queue and count of the switch core (R350, R15). -/
def State.clearSwitch (s : State) : State :=
  let s := ({ s with sw := { nextId := s.sw.nextId, mark := s.sw.mark } } : State).wr DM_PDK_STAT.DEPTH 0
  let s := (s.setReg SW_FREE (resetValue SW_FREE)).wr SW_SHARED_USED.CELLS 0
  let s := s.each 20 fun p t => t.wr (SW_RSV_USED.CELLS p) 0
  s.each 8 fun tc t => t.wr (SW_SHR_USED.CELLS tc) 0

/-- A DisplayPort link of a scan-out or relay pipe is lost (R217). -/
def State.dpLost (s : State) (d : Nat) : State :=
  if s.dsMode d = 3 ∨ s.dsMode d = 4 then
    ((((s.dpDown d).wr (DS_STAT.HPD d) 0).wr (DS_STAT.LOW d) 0).wr (DS_STAT.HDCP_AUTH d) 0 |>.raise (Ev.DS_DP_LOSS d)).sendSinkStatus d
  else s

/-- Every link goes down (R350 step 2). -/
def State.linksDown (s : State) : State :=
  let s := s.each 6 fun p t => if t.lstate p = 0 then t else t.linkDown p
  let s := s.each 4 fun d t => t.dpLost d
  let s := s.each 2 fun m t => if t.on (EN_STAT.LINK m) then t.ethLinkChange m false 0 else t
  s.each 2 fun b t => if t.on (PB_STAT.LINK_UP b) then t.pcieLinkChange b false 0 0 else t

/-- Reference loss (R350); before the image is active it is REF_FAIL (R357). -/
def State.refLoss (s : State) : State :=
  if s.clk.phase = .pll ∨ s.clk.phase = .imaging then s.refFail
  else if s.clk.phase = .active ∨ s.clk.phase = .noImage then
    let s := s.linksDown
    let s := { s.clearSwitch with frame := [] }
    let s := (((s.wr CK_STAT.REF_OK 0).wr CK_STAT.ROOT_LOCK 0).wr CK_STAT.ON_PLL 0).pllsOff
    { s with clk := { s.clk with phase := .refLost, agree := 0, bad := 0, ramps := [] } }.abortUnserved
  else s

/-- A 100 us window agrees (R344). -/
def windowAgrees (count : Nat) : Bool := decide (15313 ≤ count ∧ count ≤ 15937)

/-- The reference is judged stable (R344): the root PLL step, or a warm reset after a loss (R350). -/
def State.refStable (s : State) : State :=
  let s := { s.wr CK_STAT.REF_OK 1 with clk := { s.clk with agree := 0, bad := 0 } }
  match s.clk.phase with
  | .rom | .refFail => { s with clk := { s.clk with phase := .pll } }
  | .refLost => s.requestWarm 5
  | _ => s

/-- REF_WINDOW (R344, R349): reference cycles counted in a window; while stable, two bad windows in a row lose it. -/
def State.refWindow (s : State) (count : Nat) : State :=
  if s.clk.phase = .held ∨ s.clk.phase = .aon ∨ (s.asleep ∧ ¬ s.on PS_STAT.WAKING) then s
  else
    let s := s.wr CK_REFCNT.COUNT count
    let good := windowAgrees count
    if s.on CK_STAT.REF_OK then
      let n := if good then 0 else s.clk.bad + 1
      let s := { s with clk := { s.clk with bad := n } }
      if 2 ≤ n then (s.raise Ev.CK_REF_LOSS).refLoss else s
    else
      let n := if good then s.clk.agree + 1 else 0
      let s := { s with clk := { s.clk with agree := n } }
      if 4 ≤ n then s.refStable else s

def execRefWindow (count : Fin 65536) (s : State) : Res := .next (s.refWindow count)

/-- REFERENCE_LOSS (R349, R350): no edge for 1 us. -/
def execReferenceLoss (s : State) : Res :=
  .next (if (s.clk.phase = .pll ∨ s.fullSpeed) ∧ ¬ s.asleep then (s.raise Ev.CK_REF_LOSS).refLoss else s)

/-- REF_FAIL_TIMER (R356): 20 ms after core reset release. -/
def execRefFailTimer (s : State) : Res := .next (if s.clk.phase = .rom then s.refFail else s)

/-- ROOT_PLL_LOCK (R355): clocks on the PLL, the core domains on, the time counter's clock enabled; also in a wake from H3. -/
def State.rootLock (s : State) : State :=
  if s.clk.phase = .pll then
    let s := s.toPll
    let s := ((s.wr ⟨PS_DOM, 1, 1⟩ 1).wr ⟨PS_DOM, 19, 1⟩ 1).wr ⟨GC_CLKEN, 21, 1⟩ 1
    { s with clk := { s.clk with phase := .imaging, retries := 0 } }
  else if s.asleep ∧ s.on PS_STAT.WAKING ∧ s.on CK_STAT.REF_OK then s.toPll
  else s

def execRootPllLock (s : State) : Res := .next s.rootLock

/-- PLL_LOCK_TIMEOUT (R356): retried 3 times. -/
def execPllLockTimeout (s : State) : Res :=
  .next (if s.clk.phase = .pll then
    let s := s.raise Ev.CK_PLL_UNLOCK
    if s.clk.retries < 3 then { s with clk := { s.clk with retries := s.clk.retries + 1 } } else s.refFail
  else s)

/-! ### The RC trim (R345, R346) -/

/-- One trim window: RC cycles counted against nominal; above 0.1 % the code moves one step, a higher code being a faster RC; reaching
0 or 255 is reported. -/
def State.trim (s : State) (count nominal : Nat) : State :=
  let t := s.rd CK_RC.TRIM
  let v := if nominal + nominal / 1000 < count then t - 1 else if count + nominal / 1000 < nominal then min 255 (t + 1) else t
  let s := s.wr CK_RC.TRIM v
  if v ≠ t ∧ (v = 0 ∨ v = 255) then s.raise Ev.CK_RC_TRIM else s

/-- A high-speed upstream on C0 (R346). -/
def State.sofAvailable (s : State) : Bool := decide (s.rd UH_STAT.UPSRC = 2 ∧ s.rd UH_STAT.HS_STATE ≠ 0)

/-- The source of the next window (R346, R357). -/
def State.trimSource (s : State) : State := s.wr CK_STAT.TRIM_SOF (s.on CK_CFG.TRIM_SRC && s.sofAvailable).toNat

/-- RC_TRIM_WINDOW (R345). While SOF marks come and trim the RC, no window of the reference runs; one that runs on without them takes over. -/
def execRcTrimWindow (rc : Fin 65536) (s : State) : Res :=
  .next (if s.on CK_STAT.TRIM_SOF ∧ s.sofAvailable then s
  else (if s.on CK_CFG.TRIM_EN ∧ ¬ s.on CK_STAT.TRIM_SOF ∧ s.on CK_STAT.ON_PLL then s.trim rc 32000 else s).trimSource)

/-- SOF_TRIM_WINDOW (R346): a window of the SOF marks runs only while they trim the RC. -/
def execSofTrimWindow (rc : Fin 524288) (s : State) : Res :=
  .next (if s.on CK_STAT.TRIM_SOF then (if s.on CK_CFG.TRIM_EN then s.trim rc 256000 else s).trimSource else s)

/-! ### PLLs and monitors (R343, R349) -/

/-- The CK_STAT bit of a local PLL. -/
def Pll.lockBit : Pll → Fld
  | .lane p => CK_STAT.LANE_LOCK.bit p
  | .pixel d => CK_STAT.PIX_LOCK.bit d
  | .eth m => CK_STAT.ETH_LOCK.bit m
  | .usb => CK_STAT.USB_LOCK
  | .pcie b => CK_STAT.PCIE_LOCK.bit b

/-- LOCAL_PLL_LOCK (R343, R352, R353): a lane PLL's port trains from time zero if it is still in Thrumlink mode; after H3 its parked link wakes. -/
def State.pllLock (s : State) (x : Pll) : State :=
  match x with
  | .lane p =>
    let s := if s.lstate p = 0 ∧ ¬ s.linkIsUp p then s.startTraining p else s
    let s := s.lanePllLock p
    if s.on PS_STAT.WAKING then s.wakeLink p else s
  | _ => s.wr x.lockBit 1

def execLocalPllLock (x : Pll) (s : State) : Res := .next (s.pllLock x)

/-- A lane PLL loses lock, or does not reach it (R349, R356): the port resets, or stays down until the next attach or port reset. -/
def State.lanePllFault (s : State) (p : Nat) : State :=
  let had := s.on (CK_STAT.LANE_LOCK.bit p)
  let s := (s.wr (CK_STAT.LANE_LOCK.bit p) 0).raise Ev.CK_LANE_PLL
  if had then s.portReset p else s.linkDown p

def execLanePllUnlock (p : Fin 6) (s : State) : Res := .next (s.lanePllFault p)

/-- CLOCK_FAULT (R349). -/
def State.clockFault (s : State) (c : ClockSource) : State :=
  match c with
  | .reference => if (s.clk.phase = .pll ∨ s.fullSpeed) ∧ ¬ s.asleep then (s.raise Ev.CK_REF_LOSS).refLoss else s
  | .rootPll => if s.fullSpeed ∧ ¬ s.asleep then (s.raise Ev.CK_PLL_UNLOCK).refLoss else s
  | .derived c => if s.fullSpeed ∧ ¬ s.asleep then ((s.wr CK_MON_SRC.CLOCK c).raise Ev.CK_MON).refLoss else s
  | .local (.lane p) => s.lanePllFault p
  | .local (.pixel d) => ((s.wr (CK_STAT.PIX_LOCK.bit d) 0).raise Ev.CK_PIX_PLL).dpLost d
  | .local (.eth m) => (s.wr (CK_STAT.ETH_LOCK.bit m) 0).ethLinkChange m false 0
  | .local .usb => s.wr CK_STAT.USB_LOCK 0
  | .local (.pcie b) => (s.wr (CK_STAT.PCIE_LOCK.bit b) 0).pcieLinkChange b false 0 0

def execClockFault (c : ClockSource) (s : State) : Res := .next (s.clockFault c)

/-! ### Block clocks (R348) -/

/-- The clock of the block of a GC_CLKEN bit stops: work in it is lost (R348). -/
def State.blockStopped (s : State) (bit : Nat) : State :=
  if bit < 6 then s.linkDown bit
  else match bit with
  | 6 => { s with engs := [], adps := [] }
  | 7 => s.clearSwitch
  | 8 => { s with scheds := [], pol := {} }
  | 9 | 10 | 11 | 12 => s.modPipe (bit - 9) fun _ => {}
  | 13 => (s.wr MC_STAT.READY 0)
  | 14 | 15 => if s.on (PB_STAT.LINK_UP (bit - 14)) then s.pcieLinkChange (bit - 14) false 0 0 else s
  | 16 => { s with brg := { s.brg with rbOut := [], i2c := [], groups := [] } }
  | 17 => { s with usb := {} }
  | 18 | 19 => s.modMac (bit - 18) fun _ => {}
  | 22 => { s with keys := { s.keys with op := none } }
  | 23 => { s.wr BT_STAT.BUSY 0 with test := { s.test with under := none } }
  | _ => s

/-- The blocks a domain clock serves (R342), by the codes of CK_MON_SRC and the bits of GC_CLKEN: CORE/ENGINE, DRAM, TICK. MGMT and AON serve blocks without
an enable. -/
def clockBlocks : List (Nat × List Nat) := [(1, [0, 1, 2, 3, 4, 5, 6, 7, 8]), (3, [13]), (4, [8, 16, 21])]

/-- The ramp of a clock stops when the last block it serves is gated (R357, assumption row 161). -/
def State.stopRamps (s : State) (old : Word) : State :=
  s.eachIn (clockBlocks.filter fun c => c.2.any old.getLsbD && !c.2.any s.clkOn) fun c t =>
    { t with clk := { t.clk with ramps := Tab.put 0 t.clk.ramps c.1 0 } }

/-- What a write of GC_CLKEN does beyond its bits: every block whose enable falls stops. -/
def State.enablesChanged (s : State) (old : Word) : State :=
  (s.each 24 fun i t => if old.getLsbD i ∧ ¬ t.clkOn i then t.blockStopped i else t).stopRamps old

/-! ### The watchdog (R354) -/

/-- Restart the watchdog; the firmware that does so serves. -/
def State.kick (s : State) : State := { s with clk := { s.clk with wdtAt := s.uptime, stopped := false } }

/-- WATCHDOG_EXPIRE (R354, R357): TMO ms after it last restarted, in H0 and H1. With ACT = 0 nothing restarts the cores: they have stopped serving commands
(R24), until the firmware kicks the watchdog or the hub resets (assumption row 148). -/
def execWatchdogExpire (s : State) : Res :=
  .next (if s.on GC_WDT.EN ∧ s.rd PS_STAT.STATE ≤ 1 ∧ s.clk.wdtAt + max 1 (s.rd GC_WDT.TMO) * 10000000 ≤ s.uptime then
    let s := (s.raise Ev.GC_WDT).kick
    if s.on GC_WDT.ACT then s.requestWarm 4 else { s with clk := { s.clk with stopped := true } }
  else s)

end Sys2Proof.Machine
end

