-- ==== Sys2Proof/Machine/Power.lean ====
section
/-!
DEFINITION. Power states and wake (R360 to R373): the entry handshake, parking, wake sources, domains; and LEAD_RESULT, which can refuse a park.
-/

namespace Sys2Proof.Machine

def State.modPwr (s : State) (f : PowerSt → PowerSt) : State := { s with pwr := f s.pwr }

/-! ### Requests (R361) -/

/-- Request a hub state (R361): one made while an entry or a wake is in progress waits. -/
def State.psRequest (s : State) (target : Nat) : State :=
  if s.on PS_STAT.ENTERING ∨ s.on PS_STAT.WAKING then s.modPwr fun w => { w with queued := w.queued ++ [target] }
  else if 2 ≤ s.rd PS_STAT.STATE ∨ target = s.rd PS_STAT.STATE then s.finish (fun w => decide (w = .power)) stOk 0 []
  else if target = 0 then (s.wr PS_STAT.STATE 0).finish (fun w => decide (w = .power)) stOk 0 []
  else (s.wr PS_STAT.ENTERING 1).modPwr fun w => { w with step := .handshake, target := target, accepted := [], delayed := [], lateLevel := [] }

/-- The requests that waited, once no entry or wake is in progress. -/
def State.nextRequest (s : State) : State :=
  if s.on PS_STAT.ENTERING ∨ s.on PS_STAT.WAKING ∨ 2 ≤ s.rd PS_STAT.STATE then s
  else match s.pwr.queued with
  | [] => s
  | t :: rest => (s.modPwr fun w => { w with queued := rest }).psRequest t

/-! ### The handshake (R362, R363) -/

/-- What a block answers. -/
inductive PsAnswer where
  | accept | refuse | delay
deriving DecidableEq, Repr

def psAnswer (refuse delay : Bool) : PsAnswer := if refuse then .refuse else if delay then .delay else .accept

/-- A command executes, other than one that waits for the entry itself. -/
def State.commandRuns (s : State) : Bool := s.cmd.entries.any fun e => e.running && decide (e.wait ≠ .power)

/-- A port trains, or a lead change, restripe or low-power transition is in progress. -/
def State.portBusy (s : State) (p : Nat) : Bool := decide (s.lstate p = 1) || s.planBusy p

/-- The answer of the block of a PS_REFUSE bit to a request for H2 or H3 (R363). -/
def State.blockAnswer (s : State) (b : Nat) : PsAnswer :=
  if b < 6 then psAnswer false (s.portBusy b)
  else match b with
  | 6 => psAnswer (!s.img.txns.isEmpty) (s.commandRuns || decide (s.clk.phase = .imaging))
  | 7 => psAnswer false (s.on SW_FAR_STAT.BUSY)
  | 8 | 9 | 10 | 11 =>
    psAnswer (decide ((s.dsMode (b - 8) = 3 ∨ s.dsMode (b - 8) = 4) ∧ 2 ≤ s.rd (DS_STAT.STATE (b - 8))) || (decide (s.dsMode (b - 8) = 1) && s.on (DS_STAT.HPD (b - 8)))) false
  | 13 | 14 => psAnswer (s.on (PB_STAT.LINK_UP (b - 13))) false
  | 15 => psAnswer (decide (s.rd UH_STAT.UPSRC ≠ 0) && !s.on UH_STAT.SUSPENDED) (!s.usb.driven.isEmpty || s.usb.resuming)
  | 16 | 17 => psAnswer (s.on (EN_STAT.LINK (b - 16))) false
  | 19 => psAnswer false s.keys.op.isSome
  | 20 => psAnswer s.test.under.isSome false
  | _ => .accept

/-- The GC_CLKEN bit of the block of a PS_REFUSE bit; the firmware's block is always on. -/
def refuseClk (b : Nat) : Nat :=
  if b < 6 then b
  else match b with
  | 7 => 7 | 8 | 9 | 10 | 11 => b + 1 | 12 => 13 | 13 | 14 => b + 1 | 15 => 17 | 16 | 17 => b + 2 | 18 => 16 | 19 => 22 | 20 => 23
  | _ => 24

/-- The blocks asked: those whose clock enable is 1. -/
def State.psBlocks (s : State) : List Nat := (List.range 21).filter fun b => s.clkOn (refuseClk b)

/-- Every adapter pauses at a native-unit boundary, or goes on (R364 step 1). -/
def State.pauseAll (s : State) (on : Bool) : State :=
  s.eachIn ((List.range 256).filter fun a => decide (s.adpType a ≠ 0)) fun a t => t.modAdp a fun x => { x with stopped := on }

/-- The entry in progress ends without a change of state. -/
def State.entryOver (s : State) : State :=
  let s := (s.wr PS_STAT.ENTERING 0).modPwr fun w => { w with step := .idle, accepted := [], delayed := [], lateLevel := [] }
  s.pauseAll false

/-- Links that have begun to park go back: lanes in Stable return to Active, a parked link wakes (R364, R366). -/
def State.unparkAll (s : State) : State :=
  s.each 6 fun p t =>
    let l := t.link p
    if l.prePark.isEmpty ∧ ¬ l.parked ∧ ¬ (l.act.toList ++ l.held).any (fun a => decide (a.kind = 3)) then t
    else
      let t := t.modLink p fun l => { l with rejoinOwn := true }
      if l.parked then t.wakeLink p else t.nextRejoin p

/-- Abandon an entry (R362, R366): its command is answered, and requests that waited go on (R361). -/
def State.entryAbandon (s : State) (e : Evt) (refused status : Nat) : State :=
  let parking := decide (s.pwr.step = .parking)
  let s := if e = Ev.PS_ABANDONED then s else s.wr PS_REFUSE.BLOCKS refused
  let s := (s.entryOver.raise e).finish (fun w => decide (w = .power)) status refused []
  (if parking then s.unparkAll else s).nextRequest

/-- Every block has accepted: an entry to H2 or H3 parks the links (R364); the command is answered. -/
def State.parkLink (s : State) (p : Nat) : State :=
  if s.linkIsUp p ∧ ¬ (s.link p).parked then
    let lane := fun (d : Nat) (t : State) (n : Nat) =>
      let cw := if d = 0 then (t.link p).cwTx + 1 + t.codewordsIn p 0 1000 else (t.link p).cwRx + 1 + t.codewordsIn p 1 1000
      (t.sendCtl p 0x0A (be 1 (n % 4) ++ be 1 1 ++ be 2 0 ++ be 8 cw)).holdAct p { kind := 3, lane := n, tx := decide (d = 0), cw := cw }
    let s' := (s.striped p 0).foldl (lane 0) s
    (s.striped p 1).foldl (lane 1) s'
  else s

def State.allAccepted (s : State) : State :=
  let s := (s.modPwr fun w => { w with step := .parking, accepted := [], delayed := [] }).finish (fun w => decide (w = .power)) stOk 0 []
  if 2 ≤ s.pwr.target then (s.pauseAll true).each 6 fun p t => t.parkLink p else s

/-- One round of questions (R362): every block that has not accepted. H1 is refused by none. -/
def State.handshake (s : State) : State :=
  if s.pwr.step = .handshake then
    let ask := s.psBlocks.filter fun b => !s.pwr.accepted.contains b
    let ans := fun b => if s.pwr.target = 1 then PsAnswer.accept else s.blockAnswer b
    let refused := ask.filter fun b => decide (ans b = .refuse)
    let late := ask.filter fun b => decide (ans b = .delay)
    if ¬ refused.isEmpty then s.entryAbandon Ev.PS_REFUSED ((refused.map fun b => 2 ^ b).sum) stDenied
    else if late.isEmpty then s.allAccepted
    else s.modPwr fun w => { w with accepted := w.accepted ++ ask.filter (fun b => !late.contains b), delayed := late }
  else s

/-- HANDSHAKE_ROUND (R362). -/
def execHandshakeRound (s : State) : Res := .next (if s.pwr.delayed.isEmpty then s.handshake else s)

/-- DELAY_EXPIRE (R362): the blocks that delayed are asked again. -/
def execDelayExpire (s : State) : Res := .next (if s.pwr.delayed.isEmpty then s else s.handshake)

/-- MAX_WAIT_EXPIRE (R362). -/
def execMaxWaitExpire (s : State) : Res :=
  .next (if s.pwr.step = .handshake then s.entryAbandon Ev.PS_ENTRY_TMO 0 stTimeout else s)

/-! ### Entry and wake (R366 to R369) -/

/-- A wake from H2 or H3 begins (R367, R368), and PS_WAKE_TMR has counted the ms slept: H2 ramps its clocks and wakes the parked links; H3 starts the oscillator. -/
def State.beginWake (s : State) (srcs : List Nat) : State :=
  let s := ((s.wr PS_STAT.WAKING 1).wr PS_WAKE_SRC.SRC ((srcs.map fun i => 2 ^ i).sum)).raise Ev.PS_WAKE
  let s := s.wr PS_WAKE_TMR.MS (s.rd PS_WAKE_TMR.MS - (s.uptime - s.pwr.sleepAt) / 10000000)
  if s.asleep then { s.send (.pin 12 0 1) with clk := { s.clk with agree := 0, bad := 0 } }
  else (((s.ramp 2 0 750000).ramp 1 0 1875000).each 6 fun p t => t.wakeLink p)

/-- The domains off in H2 and H3 (R371): MC in both; MGMT, CORE, the lanes and TM in H3. -/
def sleepDomains (target : Nat) : List Nat := if target = 3 then [0, 1, 2, 3, 4, 5, 6, 7, 12, 19] else [12]

def State.setDomains (s : State) (l : List Nat) (on : Bool) : State := s.eachIn l fun d t => t.wr ⟨PS_DOM, d, 1⟩ on.toNat

/-- All links that are up in Thrumlink mode have parked. -/
def State.allParked (s : State) : Bool := (List.range 6).all fun p => !s.linkIsUp p || (s.link p).parked

/-- ENTRY_COMPLETE (R366, R360): a level source seen in the last 8 clocks starts a wake at once. -/
def State.entryComplete (s : State) : State :=
  if s.pwr.step = .parking ∧ (s.pwr.target = 1 ∨ s.allParked) then
    let t := s.pwr.target
    let lvl := s.pwr.lateLevel
    let s := ((s.wr PS_STAT.STATE t).wr PS_STAT.ENTERING 0).modPwr fun w => { w with step := .idle, lateLevel := [] }
    if t = 1 then s.nextRequest
    else
      let doms := (sleepDomains t).filter s.domOn
      let s := (s.setDomains doms false).modPwr fun w => { w with sleepAt := s.uptime, sleepDoms := doms }
      let s := if t = 3 then
          let s := (((s.wr CK_STAT.REF_OK 0).wr CK_STAT.ROOT_LOCK 0).wr CK_STAT.ON_PLL 0).pllsOff
          if s.on PS_CFG.OSC_STOP then s.send (.pin 12 0 0) else s
        else s
      if lvl.isEmpty then s else s.beginWake lvl
  else s

def execEntryComplete (s : State) : Res := .next s.entryComplete

/-- An edge source of R367. -/
def edgeSource (i : Nat) : Bool := decide (18 ≤ i)

/-- A wake event (R366, R367): in H2 or H3 it wakes; an entry it abandons, but in the last 8 clocks an edge is lost and a level waits. -/
def State.wakeEvent (s : State) (i : Nat) (last8 : Bool) : State :=
  if ¬ bitOf (s.rd PS_WAKE_EN.SRC) i then s
  else if s.on PS_STAT.ENTERING ∧ 2 ≤ s.pwr.target then
    if last8 ∧ s.pwr.step = .parking then (if edgeSource i then s else s.modPwr fun w => { w with lateLevel := w.lateLevel ++ [i] })
    else s.entryAbandon Ev.PS_ABANDONED 0 stAborted
  else if 2 ≤ s.rd PS_STAT.STATE ∧ ¬ s.on PS_STAT.WAKING then s.beginWake [i]
  else s

def execWakeEvent (src : Fin 22) (last8 : Bool) (s : State) : Res := .next (s.wakeEvent src last8)

/-- Wake source `i` is there when `c` holds (R26, R367): the row that brings the happening about raises it itself. -/
def State.wakesIf (s : State) (i : Nat) (c : Bool) : State := if c then s.wakeEvent i false else s

/-- CC_ATTACH_DEBOUNCE (R303): an attach in H2 or H3, or during an entry, is a wake event (R26, source 6 + p). -/
def execCcAttachDebounce (p : Fin 6) (source cc2 ra : Bool) (s : State) : Res :=
  .next ((s.pdAttach p source cc2 ra).wakesIf (6 + p) (!s.attached p && (s.pdAttach p source cc2 ra).attached p))

/-- DETACH (R303, R318): source 6 + p too. -/
def execDetach (p : Fin 6) (s : State) : Res := .next ((s.pdDetach p).wakesIf (6 + p) (s.attached p))

/-- PD_FIRMWARE_MESSAGE (R301): a message given to the firmware is source 21. -/
def execPdFirmwareMessage (p : Fin 6) (listed ready : Bool) (s : State) : Res :=
  .next ((s.pdFirmware p listed ready).wakesIf 21 (s.attached p && listed))

/-- INPUT_VALID_CHANGE (R334, R309, R315): the PD side takes up the INPUT_VALID of both main channels; a change is source 19. -/
def execInputValidChange (s : State) : Res :=
  .next (s.inputsChanged.wakesIf 19 (decide (s.rd (EF_STAT.INPUT_VALID 6) + 2 * s.rd (EF_STAT.INPUT_VALID 7) ≠ s.rd PDB_STAT.IN_VALID)))

/-- The lanes of port `p` can run: not while the hub sleeps, and in a wake from H3 once their PLL has locked (R368). -/
def State.lanesAwake (s : State) (p : Nat) : Bool :=
  decide (s.rd PS_STAT.STATE < 2) || s.on PS_STAT.WAKING && (!s.asleep || s.on (CK_STAT.LANE_LOCK.bit p))

/-- The partner's wake pattern on port `p` is source p; while this hub is still parking it abandons the entry, whatever is enabled (R372). -/
def State.patternWakes (s : State) (p : Nat) : State :=
  if s.pwr.step = .parking ∧ 2 ≤ s.pwr.target then s.entryAbandon Ev.PS_ABANDONED 0 stAborted else s.wakeEvent p false

/-- WAKE_PATTERN_DETECT (R100, R365): both ends unpark, an end whose lanes cannot run yet when the pattern comes again. -/
def State.wakePattern (s : State) (p : Nat) : State :=
  if (s.link p).parked then
    let s := s.patternWakes p
    if s.lanesAwake p then (if (s.link p).waking then s else s.sendWake p).unpark p else s
  else s

def execWakePatternDetect (p : Fin 6) (s : State) : Res := .next (s.wakePattern p)

/-- WAKE_TIMER_EXPIRE (R367): counted in H2 and H3. -/
def execWakeTimerExpire (s : State) : Res :=
  .next (if 2 ≤ s.rd PS_STAT.STATE ∧ s.rd PS_WAKE_TMR.MS ≠ 0 then (s.wr PS_WAKE_TMR.MS 0).wakeEvent 20 false else s)

/-- WAKE_COMPLETE (R368, R369): the state of WAKE_TO; after H3 the time counter is advanced by the time slept, in ns. The
watchdog has not run meanwhile (R354). -/
def State.wakeComplete (s : State) (slept : Nat) : State :=
  if s.on PS_STAT.WAKING then
    let was := s.rd PS_STAT.STATE
    let s := (s.setDomains s.pwr.sleepDoms true).modPwr fun w => { w with sleepDoms := [] }
    let s := { s with clk := { s.clk with wdtAt := s.clk.wdtAt + (s.uptime - s.pwr.sleepAt) } }
    let s := ((s.wr PS_STAT.STATE (s.rd PS_CFG.WAKE_TO)).wr PS_STAT.WAKING 0).pauseAll false
    let s := if was = 3 then
        let s := { s with time := s.time.add slept 0 }
        (s.wr PS_WAKE_TS_S.VALUE (s.time.sec % 2 ^ 32)).wr PS_WAKE_TS_NS.VALUE s.time.ns
      else s
    s.nextRequest
  else s

def execWakeComplete (slept : BitVec 64) (s : State) : Res := .next (s.wakeComplete slept.toNat)

/-! ### Domains (R370, R371) -/

/-- A domain is idle as R371 lists it, and not kept on by a test of its block (R450). -/
def State.domIdle (s : State) (d : Nat) : Bool :=
  !s.test.under.any (fun b => decide (testDomain b = d)) && match d with
  | 2 | 3 | 4 | 5 | 6 | 7 => (portLanes (d - 2)).all fun n => decide (s.laneState n = 0)
  | 8 | 9 | 10 | 11 => decide (s.dsMode (d - 8) = 0)
  | 12 => (List.range 4).all fun p => decide (s.dsMode p = 0)
  | 13 | 14 => !s.on (PB_STAT.LINK_UP (d - 13))
  | 15 => decide (s.rd UH_STAT.UPSRC = 0) || s.on UH_STAT.SUSPENDED
  | 16 | 17 => !s.on (EN_STAT.LINK (d - 16))
  | 18 => (List.range 8).all fun g => decide (s.rd (SB_GRP.ADP g) = 0)
  | 20 => s.keys.op.isNone
  | 21 => s.test.under.isNone
  | _ => false

/-- What is held in reset while a domain is off (R371). -/
def State.domHeld (s : State) (d : Nat) : State :=
  match d with
  | 2 | 3 | 4 | 5 | 6 | 7 => s.wr (CK_STAT.LANE_LOCK.bit (d - 2)) 0
  | 8 | 9 | 10 | 11 => s.wr (CK_STAT.PIX_LOCK.bit (d - 8)) 0
  | 13 | 14 => s.wr (CK_STAT.PCIE_LOCK.bit (d - 13)) 0
  | 16 | 17 => s.wr (CK_STAT.ETH_LOCK.bit (d - 16)) 0
  | _ => s

/-- DOMAIN_IDLE_OFF (R370): in H1, and in H0 with IDLE_T nonzero. -/
def execDomainIdleOff (d : Fin 22) (s : State) : Res :=
  .next (if (s.rd PS_STAT.STATE = 1 ∨ (s.rd PS_STAT.STATE = 0 ∧ s.rd PS_CFG.IDLE_T ≠ 0)) ∧ s.domIdle d then
    (s.wr ⟨PS_DOM, d, 1⟩ 0).domHeld d
  else s)

/-- The domain is ready after a stall of `us` (R370). -/
def State.domainReady (s : State) (d us : Nat) : State :=
  if s.domOn d then s else (s.wr ⟨PS_DOM, d, 1⟩ 1).wr PS_STALL.US (max (s.rd PS_STALL.US) us)

/-- DOMAIN_WAKE_DONE (R370). -/
def execDomainWakeDone (d : Fin 22) (us : Fin 65536) (s : State) : Res := .next (s.domainReady d us)

/-! ### LEAD_RESULT (R80, R54, R56, R81, R364) -/

/-- LEAD_RESULT: 0 done, and the change is counted at the taking hub (R64); 1 the join failed at the giving hub, and the lane this end took goes back to receive and
trains; 2 late, 3 refused. A failed turn is the last plan change (R165). A park that is refused abandons the entry. -/
def State.leadResult (s : State) (p lane result : Nat) : State :=
  if s.linkIsUp p then
    let n := s.laneOfPartner p lane
    match result with
    | 0 => if (s.link p).turned = some n then (s.modLink p fun l => { l with turned := none }).wrapAdd (LN_TURN_CNT.TURNS n) 1 else s
    | 1 =>
      let s := s.modLink p fun l => { l with turned := none }
      let s := if s.inService n ∨ s.laneState n = 4 then ((s.retrainLane n 1).planFail p).modSched p fun x => { x with dwell := 0 } else s
      if (s.link p).act.elim false fun a => decide (a.lane = n ∧ a.kind = 0) then s.endAct p else s
    | _ =>
      let mine := fun (a : LaneAct) => decide (a.lane = n ∧ a.begun = false ∧ a.far = false)
      let of := fun (k : Nat) => (s.link p).act.toList.any (fun a => mine a && decide (a.kind = k)) || (s.link p).held.any fun a => mine a && decide (a.kind = k)
      let park := of 3
      let turn := of 0
      let s := s.modLink p fun l => { l with held := l.held.filter fun a => !mine a }
      let s := if (s.link p).act.elim false mine then s.endAct p else s
      let s := if turn then s.modSched p fun x => { x with dwell := 0 } else s
      if park then (if s.pwr.step = .parking then s.entryAbandon Ev.PS_REFUSED (2 ^ p) stDenied else s) else s.planFail p
  else s

def execLeadResult (p : Fin 6) (lane : Fin 4) (result : Fin 256) (_cw : BitVec 64) (s : State) : Res := .next (s.leadResult p lane result)

end Sys2Proof.Machine
end

