-- ==== Sys2Proof/Machine/Keys.lean ====
section
/-!
DEFINITION. The key unit and authenticated debug (R374 to R391): operations, loads, the random source, unlocking.
-/

namespace Sys2Proof.Machine

/-! ### Operations (R379, R380) -/

/-- Management RAM holds the range (R379, R467). -/
def inRam (a n : Nat) : Bool := decide (0x100000 ≤ a ∧ a + n ≤ 0x300000)

/-- An operation may run with the working key as it is (R379): loads of outside keys and ERASE always. -/
def State.keyAllows (s : State) (op : Nat) : Bool :=
  decide (op = 1 ∨ op = 2 ∨ op = 4) ||
    (s.on KS_STAT.LOADED && decide (s.rd KS_STAT.ATTR = if op = 5 then 0 else if op = 6 then 1 else if op = 8 then 3 else 2))

/-- The input has a form the operation takes: a key, a wrapped key, an IV and AAD with what follows, whole 64-bit words to wrap. -/
def keyInputOk (op : Nat) (l : List Byte) : Bool :=
  match op with
  | 1 => decide (l.length = 32)
  | 2 | 3 => decide (l.length = 40)
  | 5 => decide (16 ≤ l.length ∧ 16 + leAt l 12 4 ≤ l.length)
  | 6 => decide (32 ≤ l.length ∧ 32 + leAt l 12 4 ≤ l.length)
  | 7 => decide (16 ≤ l.length ∧ l.length % 8 = 0)
  | _ => true

/-- Start an operation (R379, R390): the status of a refusal, or none and the operation running with the key there is now. -/
def State.keyStart (s : State) (op attr : Nat) (input kcv : List Byte) (dst : Nat) (by_ : Option Owner) : Option Nat × State :=
  if s.on KS_STAT.BUSY then (some stBusy, s)
  else if op = 0 ∨ 8 < op then (some stInvalid, s)
  else if ¬ s.keyAllows op then (some stDenied, s.raise Ev.KS_ATTR_DENY)
  else if ¬ keyInputOk op input then (some stInvalid, s)
  else
    let k : KeyOp := ⟨op, attr, s.keys.key, input, kcv, dst, by_⟩
    (none, { s.wr KS_STAT.BUSY 1 with keys := { s.keys with op := some k } })

/-- The key in KS_KEY0 to 7, most significant byte first. -/
def State.keyRegs (s : State) : List Byte := (List.range 8).reverse.flatMap fun i => be 4 (s.rd (KS_KEY.VALUE i))

/-- A write of START to KS_CTRL (R391): buffers from management RAM. -/
def State.ksGo (s : State) (op attr : Nat) : State :=
  let n := if op = 2 ∨ op = 3 then 40 else s.rd KS_LEN.VALUE
  let src := s.rd KS_SRC.VALUE
  let buffers := decide (op = 2 ∨ op = 3 ∨ (5 ≤ op ∧ op ≤ 8))
  let bad := buffers && (!inRam src n || (decide (5 ≤ op) && !inRam (s.rd KS_DST.VALUE) 0))
  if bad ∧ ¬ s.on KS_STAT.BUSY ∧ s.keyAllows op then s.wr KS_STAT.STATUS stInvalid
  else
    let input := if op = 1 then s.keyRegs else if buffers then s.memBytes src n else []
    let r := s.keyStart op attr input (be 4 (s.rd KS_KCV.VALUE)) (s.rd KS_DST.VALUE) none
    match r.1 with
    | some st => r.2.wr KS_STAT.STATUS st
    | none => r.2

/-- The root wrap key (R376). -/
def State.rootWrapKey (s : State) : List Byte := Config.hkdf (be 8 s.uid) s.fuses.root (ascii "CX860 wrap") 32

/-- The key a load brings, none when its unwrapping fails (R380 step 1). -/
def State.shadowKey (s : State) (k : KeyOp) : Option (List Byte) :=
  if k.op = 1 then some k.input
  else if k.op = 2 then Config.keyUnwrap s.rootWrapKey k.input
  else Config.keyUnwrap k.key k.input

/-- The key check value (R380 step 2). -/
def checkValue (key : List Byte) : List Byte := (Config.hmac384 key (ascii "KCV")).take 4

/-- KS_KEY0 to 7 and KS_KCV are cleared at the end of a load. -/
def State.clearKeyRegs (s : State) : State := (s.each 8 fun i t => t.wr (KS_KEY.VALUE i) 0).wr KS_KCV.VALUE 0

/-- The output of a data operation and its status (R379). -/
def keyOutput (k : KeyOp) : Nat × List Byte :=
  let iv := k.input.take 12
  let n := leAt k.input 12 4
  let aad := bytesAt k.input 16 n
  let rest := k.input.drop (16 + n)
  match k.op with
  | 5 => (stOk, aesGcmSeal k.key iv aad rest)
  | 6 => match aesGcmOpen k.key iv aad rest with
    | some pt => (stOk, pt)
    | none => (stIntegrity, [])
  | 7 => (stOk, Config.keyWrap k.key k.input)
  | _ => (stOk, Config.hkdfExpand k.key k.input (min 255 (Config.deriveLength k.input)))

/-- End of an operation: STATUS, BUSY, and the answer of a command. -/
def State.keyEnd (s : State) (status : Nat) (data : List Byte) : State :=
  let s := { (s.wr KS_STAT.BUSY 0).wr KS_STAT.STATUS status with keys := { s.keys with op := none } }
  s.finish (fun w => decide (w = .key)) status 0 data

/-- KEY_UNIT_DONE (R379, R380): a load replaces the working key or is refused by the check value. -/
def State.keyDone (s : State) (k : KeyOp) : State :=
  if k.op = 1 ∨ k.op = 2 ∨ k.op = 3 then
    let s := s.clearKeyRegs
    match s.shadowKey k with
    | some key =>
      if checkValue key = k.kcv then
        let s := { s with keys := { s.keys with key := key } }
        let s := ((s.wr KS_STAT.LOADED 1).wr KS_STAT.ATTR k.attr).wrapAdd KS_STAT.GEN 1
        s.keyEnd stOk (le 2 (s.rd KS_STAT.GEN))
      else (s.raise Ev.KS_KCV_FAIL).keyEnd stIntegrity []
    | none => (s.raise Ev.KS_KCV_FAIL).keyEnd stIntegrity []
  else if k.op = 4 then
    ({ s with keys := { s.keys with key := [] } }.wr KS_STAT.LOADED 0).keyEnd stOk []
  else
    let r := keyOutput k
    match k.by_ with
    | some _ => s.keyEnd r.1 r.2
    | none =>
      if r.1 = stOk ∧ ¬ inRam k.dst r.2.length then s.keyEnd stInvalid []
      else (s.setMemBytes k.dst r.2).keyEnd r.1 []

def execKeyUnitDone (s : State) : Res :=
  .next (match s.keys.op with
  | some k => s.keyDone k
  | none => s)

/-! ### The random source (R378) -/

/-- RNG_HEALTH_FAIL (R378): until the next reset every operation that needs random bytes fails. -/
def execRngHealthFail (s : State) : Res := .next { s.raise Ev.KS_RNG_FAIL with keys := { s.keys with rngOk := false } }

/-! ### Bridle gates (R387) -/

/-- DRAIN_COMPLETE (R387): no access checked under the old rules of a gate is in flight. -/
def execDrainComplete (g : Fin 26) (s : State) : Res := .next (s.wr (BG_STAT.DRAIN g) 1)

/-! ### Debug (R388, R389) -/

/-- DBGAUTH_CHALLENGE (R389): a fresh nonce of 32 bytes, and the UID. -/
def execDbgauthChallenge (s : State) : Res :=
  .next (if s.keys.rngOk then
    let r := s.freshBytes 32
    { r.2 with keys := { r.2.keys with nonce := some r.1 } }.send (.bus 6 0 0 (r.1 ++ be 8 s.uid))
  else { s with keys := { s.keys with nonce := none } })

/-- NONCE_LAPSE (R389). -/
def execNonceLapse (s : State) : Res := .next { s with keys := { s.keys with nonce := none } }

/-- DBG_VERIFY (R389 step 4): RESULT reads 0 until the key unit's verdict; while one is pending another is not taken. -/
def execDbgVerify (scope : BitVec 32) (pub sig : List Byte) (s : State) : Res :=
  .next (if s.keys.dbgPending.isSome then s
  else { s with keys := { s.keys with dbgResult := 0, dbgPending := some (scope.toNat, pub, sig, s.keys.nonce) } })

/-- The debug-unlock key hash in the shadow, byte 0 first. -/
def State.dbgKeyHash (s : State) : List Byte := (List.range 12).flatMap fun i => be 4 (s.rd (KS_DBGKH.HASH i))

/-- The unlock succeeds (R389). -/
def State.dbgGood (s : State) (scope : Nat) (pub sig : List Byte) (nonce : Option (List Byte)) : Bool :=
  match nonce with
  | none => false
  | some n =>
    !s.on KS_FUSE_MISC.DBG_DISABLE && s.dbgKeyHash.any (fun b => decide (b ≠ 0#8)) && decide (Config.sha384 pub = s.dbgKeyHash) &&
      decide (pub.length = 97) && decide (sig.length = 96) && Config.ecdsaVerify pub (Config.sha384 (n ++ be 8 s.uid ++ be 4 scope)) sig &&
      !s.on KS_DBG_STAT.LOCKOUT

/-- Regions with LOCK and UNLOCKABLE of the gates of the scope in force apply their own D permissions (R389). -/
def State.liftLocks (s : State) : State :=
  if s.on KS_DBG_STAT.UNLOCKED then
    s.each 26 fun g t => if bitOf (t.rd KS_DBG_SCOPE.SCOPE) g then
      t.each 64 fun r u => if u.on (BG_R_PERM.LOCK g r) ∧ u.on (BG_R_PERM.UNLOCKABLE g r) then u.wr (BG_R_PERM.UNLOCKED g r) 1 else u
    else t
  else s

/-- DBG_VERIFY_DONE (R389): the unlock, or a failure; three of them lock unlocking out until the next reset. -/
def State.dbgDone (s : State) (scope : Nat) (pub sig : List Byte) (nonce : Option (List Byte)) : State :=
  let s := { s with keys := { s.keys with dbgPending := none } }
  if s.dbgGood scope pub sig nonce then
    let s := { s with keys := { s.keys with dbgResult := 1 } }
    ((s.wr KS_DBG_STAT.UNLOCKED 1).wr KS_DBG_SCOPE.SCOPE (Nat.lor (s.rd KS_DBG_SCOPE.SCOPE) scope)).liftLocks.raise Ev.KS_DBG_UNLOCK
  else
    let s := s.satAdd KS_DBG_STAT.FAILS 1
    let locked := decide (3 ≤ s.rd KS_DBG_STAT.FAILS)
    let s := s.onlyIf locked fun t => t.wr KS_DBG_STAT.LOCKOUT 1
    { s with keys := { s.keys with dbgResult := if locked then 3 else 2 } }.raise Ev.KS_DBG_FAIL

def execDbgVerifyDone (s : State) : Res :=
  .next (match s.keys.dbgPending with
  | some (scope, pub, sig, nonce) => s.dbgDone scope pub sig nonce
  | none => s)

/-- TEST_RESET (R351): the test logic alone; every functional block is kept. -/
def execTestReset (s : State) : Res := .next s

end Sys2Proof.Machine
end

