-- ==== Sys2Proof/Machine/Txn.lean ====
section
/-!
DEFINITION. Configuration transactions (R404 to R415): what a register takes, staged writes, validation, the commit and its quiet point.
-/

namespace Sys2Proof.Machine

def State.modImg (s : State) (f : ImageSt → ImageSt) : State := { s with img := f s.img }

/-! ### What a register takes (R8, R9, R10, R398) -/

/-- A field takes a value (R9). -/
def FieldSpec.takes (f : FieldSpec) (v : Nat) : Bool := f.allowed.isEmpty || f.allowed.any fun r => decide (r.1 ≤ v ∧ v ≤ r.2)

/-- ST, RW and RWS fields. -/
def FieldSpec.stored (f : FieldSpec) : Bool :=
  match f.access with
  | .rw | .st | .rws | .stRws | .cnt => true
  | _ => false
def FieldSpec.isSt (f : FieldSpec) : Bool := decide (f.access = .st ∨ f.access = .stRws)
def FieldSpec.isRws (f : FieldSpec) : Bool := decide (f.access = .rws ∨ f.access = .stRws)

/-- Bits of no field. -/
def RegSpec.reservedBits (r : RegSpec) : Word := r.fields.foldl (fun w f => w &&& ~~~ fieldMask f.lo f.width) 0xFFFFFFFF#32

/-- A value that may be staged or loaded (R398). -/
def RegSpec.takes (r : RegSpec) (v : Word) : Bool :=
  decide (v &&& r.reservedBits = 0#32) && r.fields.all fun f =>
    match f.access with
    | .wo | .w1c | .rc => decide (getField v f.lo f.width = 0)
    | .ro => true
    | _ => f.takes (getField v f.lo f.width)

/-- A register of A0, whose configuration is fixed and cannot be staged (R105, R411). -/
def ofA0 (a : Nat) : Bool := decide (0x40200000 ≤ a ∧ a < 0x40200100)

/-- A register an entry may name (R398, R406 check 3). -/
def stageable (a : Nat) : Bool :=
  match regSpecAt a with
  | some r => !ofA0 a && r.fields.any FieldSpec.stored
  | none => false

/-- The gate and region whose BASE, LIMIT or PERM an address is. -/
def regionOf (a : Nat) : Option (Nat × Nat) :=
  if 0x40030000 ≤ a ∧ a < 0x4003D000 ∧ (a - 0x40030000) % 0x800 < 0x400 then
    some ((a - 0x40030000) / 0x800, (a - 0x40030000) % 0x800 / 0x10)
  else none

/-- The address is a register of a gate region with LOCK = 1 (R385, R406). -/
def State.lockedRegion (s : State) (a : Nat) : Bool :=
  match regionOf a with
  | some (g, r) => s.on (BG_R_PERM.LOCK g r)
  | none => false

/-- The value of a register after a write: fields the write reaches take their bits (a count only its clearing), values R9 excludes are left out,
consumed RWS fields stay. -/
def RegSpec.after (r : RegSpec) (used : Bool) (old v : Word) : Word :=
  r.fields.foldl (fun w f =>
    let n := getField v f.lo f.width
    match f.access with
    | .rw | .st => if f.takes n then setField w f.lo f.width n else w
    | .rws | .stRws => if used ∨ ¬ f.takes n then w else setField w f.lo f.width n
    | .cnt => if n = 0xFF then setField w f.lo f.width 0 else w
    | _ => w) old

/-- A lane's LN_CTRL and LN_PAT_CTRL, a port's allotment tables. -/
def laneCtrlOf (a : Nat) : Option Nat := (List.range 24).find? fun n => decide (LN_CTRL n = a)
def lanePatOf (a : Nat) : Option Nat := (List.range 24).find? fun n => decide (LN_PAT_CTRL n = a)
def alTableOf (a : Nat) : Option (Nat × Nat) :=
  (List.range 6).findSome? fun p =>
    if AL_TBL0_HDR p ≤ a ∧ a < AL_TBL0_HDR p + 0x80 then some (p, 0)
    else if AL_TBL1_HDR p ≤ a ∧ a < AL_TBL1_HDR p + 0x80 then some (p, 1) else none

/-- What a written register starts beyond its bits (R61, R62, R155, R348, R354). -/
def State.written (s : State) (a : Nat) (old v : Word) : State :=
  if a = GC_CLKEN then s.enablesChanged old
  else if a = GC_WDT then (if s.on GC_WDT.EN ∧ ¬ old.getLsbD 0 then s.kick else s)
  else match laneCtrlOf a, lanePatOf a, alTableOf a with
    | some n, _, _ => (s.setReg a (setField (s.reg a) 4 1 (getField old 4 1))).testWrite n (v.getLsbD 4)
    | _, some n, _ => s.patWritten n
    | _, _, some (p, t) => if t = s.act p then s.gatesTouched p (max s.time.toNs s.pol.quietUntil) else s
    | _, _, _ => s

/-- Write the stored fields of a register (R8): the first write after reset consumes its RWS fields. -/
def State.writeReg (s : State) (a : Nat) (v : Word) : State :=
  match regSpecAt a with
  | none => s
  | some r =>
    let old := s.reg a
    let t := s.setReg a (r.after (s.img.rwsUsed.contains a) old v)
    let t := if r.fields.any FieldSpec.isRws ∧ ¬ t.img.rwsUsed.contains a then t.modImg fun i => { i with rwsUsed := i.rwsUsed ++ [a] } else t
    t.written a old v

/-! ### Transactions (R405 to R407) -/

/-- The open transaction of an owner. -/
def State.txnOf (s : State) (o : Owner) : Option Txn := s.img.txns.find? fun t => decide (t.owner = o)

/-- The open transaction of an owner under an identifier. -/
def State.txnBy (s : State) (o : Owner) (id : Nat) : Option Txn := s.img.txns.find? fun t => decide (t.owner = o ∧ t.id = id)

def State.setTxn (s : State) (t : Txn) : State :=
  s.modImg fun i => { i with txns := i.txns.map fun u => if u.id = t.id then t else u }
def State.dropTxn (s : State) (id : Nat) : State := s.modImg fun i => { i with txns := i.txns.filter fun u => decide (u.id ≠ id) }

/-- A command names a transaction (R407). -/
def State.touchTxn (s : State) (id : Nat) : State :=
  s.modImg fun i => { i with txns := i.txns.map fun u => if u.id = id then { u with last := s.uptime } else u }

/-- The next identifier: nonzero, 16 bits, not open. -/
def State.newTxnId (s : State) : Nat :=
  ((List.range 5).map fun k => (s.img.nextTxn + k - 1) % 65535 + 1).find? (fun n => s.img.txns.all fun t => decide (t.id ≠ n)) |>.getD 1

/-- BEGIN (R405): the status, and the identifier. -/
def State.beginTxn (s : State) (o : Owner) : Nat × Nat × State :=
  if (s.txnOf o).isSome then (stConflict, 0, s)
  else if 4 ≤ s.img.txns.length then (stResource, 0, s)
  else if s.on PS_STAT.ENTERING then (stBusy, 0, s)
  else if s.clk.phase ≠ .active then (stNoTxn, 0, s)
  else
    let id := s.newTxnId
    (stOk, id, s.modImg fun i => { i with txns := i.txns ++ [{ id := id, owner := o, last := s.uptime }], nextTxn := id % 65535 + 1 })

/-- A transaction is committing (R415). -/
def State.isCommitting (s : State) (id : Nat) : Bool :=
  match s.img.commit with
  | some (i, _) => decide (i = id)
  | none => false

/-- TXN_IDLE_TIMEOUT (R407): no command named the transaction for 10 s; a commit in progress counts as activity. -/
def execTxnIdleTimeout (id : Fin 65536) (s : State) : Res :=
  .next (if s.img.txns.any (fun t => decide (t.id = id)) ∧ ¬ s.isCommitting id then (s.dropTxn id).raise Ev.GC_IDLE_RB else s)

/-- The checks of a staged write (R406), in order: the status, stOk when it is staged. -/
def State.stageOne (s : State) (t : Txn) (a : Nat) (v : Word) : Nat × State :=
  match regSpecAt a, blockOf a with
  | some r, some b =>
    let p := if a % 4 = 0 then s.gatePass b.gate a t.owner.master t.owner.priv .write 4 else (true, s)
    if a % 4 ≠ 0 then (stInvalid, s)
    else if ¬ p.1 then (stDenied, p.2)
    else if ¬ stageable a ∨ ¬ r.takes v then (stInvalid, s)
    else if s.lockedRegion a then (stDenied, s)
    else if s.img.rwsUsed.contains a ∧ r.fields.any (fun f => f.isRws && decide (getField v f.lo f.width ≠ getField (s.reg a) f.lo f.width)) then
      (stDenied, s)
    else if s.img.txns.any (fun u => decide (u.id ≠ t.id) && u.staged.any fun e => decide (e.1 = a)) then (stConflict, s)
    else if 4096 ≤ t.staged.length ∧ ¬ t.staged.any (fun e => decide (e.1 = a)) then (stResource, s)
    else (stOk, s.setTxn { t with staged := Tab.ins t.staged a v })
  | _, _ => (stInvalid, s)

/-- Stage entries in order, up to the first that fails (R433): status, failing address, entries staged. -/
def State.stageAll (s : State) (o : Owner) (id n : Nat) : List (Nat × Word) → Nat × Nat × Nat × State
  | [] => (stOk, 0, n, s)
  | (a, v) :: l =>
    match s.txnBy o id with
    | none => (stNoTxn, 0, n, s)
    | some t =>
      let r := s.stageOne t a v
      if r.1 = stOk then r.2.stageAll o id (n + 1) l else (r.1, a, n, r.2)

/-! ### Validation (R408) -/

/-- The registers in force with staged values laid over them. -/
def State.overlay (s : State) (staged : Tab Word) : State :=
  s.eachIn staged fun e t =>
    match regSpecAt e.1 with
    | some r => t.setReg e.1 (r.after (t.img.rwsUsed.contains e.1) (t.reg e.1) e.2)
    | none => t

/-- A failed check: the status and the address of the register, or 0. -/
abbrev Bad := Option (Nat × Nat)
def badIf (c : Bool) (st a : Nat) : Bad := if c then some (st, a) else none

/-- Adapter types, classes, directions and peers (R16, R104 to R106, R123, R231). `c`: the configuration, `host` its role. -/
def State.adapterBad (c : State) (host : Bool) (a : Nat) : Bad :=
  let ty := c.adpType a
  let inst := c.rd (TA_CFG0.INST a)
  let dir := c.rd (TA_CFG0.DIR a)
  let cls := c.rd (TA_CFG0.CLASS a)
  if ty = 0 then none
  else
    let role := decide (ty = 1 ∨ 11 ≤ ty ∨ (ty = 2 ∧ ¬ host) ∨ (ty = 5 ∧ host))
    let block := decide ((ty = 4 ∨ ty = 5 ∨ ty = 8) ∧ 2 ≤ inst)
    let clsOk := if ty = 2 ∨ ty = 3 then decide (cls = 0) else if ty = 8 then decide (cls = 1 ∨ cls = 2) else decide (cls = 1)
    let both := decide (ty = 4 ∨ ty = 5 ∨ ty = 6 ∨ ty = 7 ∨ ty = 10)
    let noSpray := decide (ty = 4 ∨ ty = 5 ∨ ty = 10)
    badIf (role || block || !clsOk || decide (c.rd (TA_CFG0.TC a) = 7) || decide (dir = 3) || (both && decide (dir ≠ 0)) ||
        (noSpray && c.on (TA_CFG0.SPRAY a))) stInvalid (TA_CFG0 a) <|>
      badIf (c.on (TA_PEER.MCAST a) && decide (dir ≠ 1)) stInvalid (TA_PEER a) <|>
      badIf (decide (c.rd (TA_CFG1.POLICER a) ≠ 0) && decide (cls = 1 ∨ cls = 3)) stInvalid (TA_CFG1 a)

/-- Directions of adapters that Ethernet maps and sideband groups name (R106). -/
def State.namedDirBad (c : State) : Bad :=
  let rxOnly := fun x => decide (x ≠ 0 ∧ c.adpType x = 8 ∧ c.rd (TA_CFG0.DIR x) = 2)
  (List.range 2).findSome? (fun m =>
    badIf (rxOnly (c.rd (EN_ADPMAP.DEF_ADP m))) stInvalid (EN_ADPMAP m) <|>
      (List.range 8).findSome? fun v => badIf (c.on (EN_VLMAP.EN m v) && rxOnly (c.rd (EN_VLMAP.ADP m v))) stInvalid (EN_VLMAP m v)) <|>
  (List.range 8).findSome? fun g =>
    let x := c.rd (SB_GRP.ADP g)
    let dir := c.rd (TA_CFG0.DIR x)
    badIf (decide (x ≠ 0 ∧ c.adpType x = 9) && ((decide (dir = 2) && (List.range 32).any (c.sbInput g)) ||
      (decide (dir = 1) && (List.range 32).any (c.sbOutput g)))) stInvalid (SB_GRP g)

/-- The buffer partition, the classes of tunnels, credits (R133). -/
def State.partitionBad (c : State) : Bad :=
  badIf (decide (393216 < ((List.range 20).map fun p => c.rd (SW_RSV.CELLS p)).sum)) stInvalid 0 <|>
  (List.range 256).findSome? (fun a =>
    badIf (decide (a ≠ 0 ∧ c.adpType a ≠ 0) &&
      (c.on (SW_TC.LOSSLESS (c.rd (TA_CFG0.TC a))) != decide (c.rd (TA_CFG0.CLASS a) % 2 = 1))) stInvalid (TA_CFG0 a)) <|>
  (List.range 6).findSome? fun p =>
    badIf (decide (c.rd (SW_RSV.CELLS p) < ((List.range 8).map fun t => c.rd (CL_CRED_INIT.INIT p t)).sum)) stInvalid 0

/-- Mirror sessions (R140, R148): SRC_ADP is an adapter that does not exist, lent to one session, and DST_TC a lossy class. Only sessions with EN = 1 are
checked (assumption row 146). -/
def State.mirrorBad (c : State) : Bad :=
  (List.range 8).findSome? fun i =>
    let x := c.rd (SW_MIR_DST.SRC_ADP i)
    badIf (c.on (SW_MIR_CTL.EN i) && (decide (x = 0 ∨ c.adpType x ≠ 0) || (List.range 8).any fun j =>
      decide (j ≠ i ∧ c.rd (SW_MIR_DST.SRC_ADP j) = x) && c.on (SW_MIR_CTL.EN j))) stInvalid (SW_MIR_DST i) <|>
      badIf (c.on (SW_MIR_CTL.EN i) && c.classLossless (c.rd (SW_MIR_CTL.DST_TC i))) stInvalid (SW_MIR_CTL i)

/-- Gate lists of the cable ports (R155). -/
def cycleBad (l : List (Nat × Nat)) : Bool :=
  decide (gateCycle l = 0 ∨ 1000000 < gateCycle l ∨ 1000000000 % gateCycle l ≠ 0)

/-- Queue map, gate lists, epoch (R149, R155, R158). -/
def State.schedBad (c : State) : Bad :=
  (List.range 6).findSome? (fun p =>
    badIf ((List.range 8).any fun t => decide (c.queueOf p t = 0)) stInvalid (AL_QMAP p) <|>
      badIf (cycleBad (c.gateList p 0)) stInvalid (AL_GCL0_CTRL p) <|> badIf (cycleBad (c.gateList p 1)) stInvalid (AL_GCL1_CTRL p)) <|>
  badIf (!([2, 4, 5, 8, 10, 16, 20, 25, 32, 40, 50, 64].contains (c.rd AL_EPOCH.EPOCH))) stInvalid AL_EPOCH

/-- The direction of a display PHY in a mode (R197): 1 receives, 2 transmits, 0 neither. -/
def dpDirOf (m : Nat) : Nat := if m = 1 then 1 else if m = 3 ∨ m = 4 then 2 else 0

/-- The mode of a pipe and its adapter (R16, R196, R216, R224); the direction of its PHY stays as the image fixed it (R197). -/
def State.pipeBad (c : State) (host : Bool) (d : Nat) : Bad :=
  let m := c.dsMode d
  let adps := (List.range 256).filter fun a => decide (a ≠ 0 ∧ (c.adpType a = 2 ∨ c.adpType a = 3) ∧ c.rd (TA_CFG0.INST a) = d)
  let want := if m = 1 ∨ m = 2 then 2 else if m = 3 then 3 else 0
  badIf (decide (4 < m) || (decide (m = 1 ∨ m = 2) && !host) || (decide (m = 4) && host) || (c.on (DS_CFG.PAIR d) && decide (d % 2 = 1)))
      stInvalid (DS_CFG d) <|>
    badIf (decide (dpDirOf m ≠ 0 ∧ Tab.get 0 c.img.dpDir d ≠ 0 ∧ dpDirOf m ≠ Tab.get 0 c.img.dpDir d)) stInvalid (DS_CFG d) <|>
    badIf (!c.oddOfPair d && (decide (1 < adps.length) || adps.any fun a => decide (c.adpType a ≠ want))) stInvalid (DS_CFG d) <|>
    badIf (decide (m = 4) && (List.range d).any fun e => decide (c.dsMode e = 4 ∧ c.rd (DS_CFG.SRC_PORT e) = c.rd (DS_CFG.SRC_PORT d) ∧
      c.rd (DS_CFG.MST_PORT e) = c.rd (DS_CFG.MST_PORT d))) stInvalid (DS_CFG d)

/-- The limits of R199 on a pipe that scans out, or on a pair (R216), whose ACTIVE is the width of the whole panel. A RELAY pipe without a timing of its own
passes the source's through (R219). -/
def State.timingBad (c : State) (d : Nat) : Bad :=
  let w := c.rd (DS_TIMING_H.ACTIVE d)
  let h := c.rd (DS_TIMING_V.ACTIVE d)
  if (c.dsMode d = 3 ∨ (c.dsMode d = 4 ∧ (w ≠ 0 ∨ h ≠ 0))) ∧ ¬ c.oddOfPair d then
    let dots := c.rd (DS_TIMING_H.TOTAL d) * c.rd (DS_TIMING_V.TOTAL d)
    let khz := c.rd (DS_PCLK.KHZ d)
    let pair := c.on (DS_CFG.PAIR d)
    badIf (decide (w < 640 ∨ (if pair then 15360 else 7680) < w) || (pair && decide (w % 16 ≠ 0))) stInvalid (DS_TIMING_H d) <|>
      badIf (decide (h < 480 ∨ 4320 < h ∨ 16320 < (w + 63) / 64 * ((h + 63) / 64))) stInvalid (DS_TIMING_V d) <|>
      badIf (decide (khz < 25000 ∨ 4400000 < khz ∨ khz * 1000 < 24 * dots ∨ 240 * dots < khz * 1000)) stInvalid (DS_PCLK d)
  else none

/-- The limits of DSC on the line a pipe encodes (R218): slices of at most 2,560 pixels, a line of at most 7,680. -/
def State.dscBad (c : State) (d : Nat) : Bad :=
  let e := c.pairBase d
  let w := c.rd (DS_TIMING_H.ACTIVE e) / (if c.on (DS_CFG.PAIR e) then 2 else 1)
  badIf (decide (c.dsMode d = 3 ∨ c.dsMode d = 4) && c.on (DS_DSC.ENC d) && decide (7680 < w ∨ 2560 * 2 ^ c.rd (DS_DSC.SLICES d) < w)) stInvalid (DS_DSC d)

/-- Bits of a stored pixel of a pipe (R200): of the format it holds, 30 where none has come. -/
def State.storedBits (c : State) (d : Nat) : Nat :=
  let x := c.pipe d
  if c.dsMode d = 1 ∨ c.dsMode d = 2 then fmtBits x.src.fmt else fmtBits (x.format.elim 0 DispFormat.fmt)

/-- Bytes a second of one pipe's scan-out (R200). -/
def State.scanRate (c : State) (d : Nat) : Nat :=
  if (c.dsMode d = 3 ∨ c.dsMode d = 4) ∧ ¬ c.oddOfPair d then
    c.rd (DS_TIMING_H.ACTIVE d) * c.rd (DS_TIMING_V.ACTIVE d) * c.storedBits d * (c.rd (DS_PCLK.KHZ d) * 1000) /
      (8 * max 1 (c.rd (DS_TIMING_H.TOTAL d) * c.rd (DS_TIMING_V.TOTAL d)))
  else 0

/-- Bytes a second that a pipe's source writes (R200): by the frame period of its format; a sink that knows none takes its own scan-out rate (assumption row
156). -/
def State.sourceRate (c : State) (d : Nat) : Nat :=
  let x := c.pipe d
  let f := if c.dsMode d = 1 ∨ c.dsMode d = 2 then x.src else x.format.getD {}
  if c.dsMode d = 0 ∨ c.oddOfPair d then 0
  else if f.period = 0 then c.scanRate d
  else f.width * f.height * c.storedBits d * 1000000000 / (8 * f.period)

/-- Display modes, limits, formats, Compatibility sources (R196, R199, R200, R218, R224). -/
def State.displayBad (c : State) (host : Bool) : Bad :=
  (List.range 4).findSome? (fun d => c.pipeBad host d <|> c.timingBad d <|> c.dscBad d) <|>
    badIf (decide (32000000000 < ((List.range 4).map c.scanRate).sum)) stInvalid 0 <|>
    badIf (decide (96000000000 < ((List.range 4).map fun d => c.sourceRate d + c.scanRate d).sum)) stInvalid 0

/-- Bytes of frame memory (R228). -/
def State.frameSize (c : State) : Nat := if c.rd MC_CFG.SIZE = 0 then 0 else 2 ^ (30 + c.rd MC_CFG.SIZE)

/-- The region of frame memory of a pipe: its frame store with 256 KiB of tables (R211), or its push ring (R210). -/
def State.frameRegion (c : State) (d : Nat) : Option (Nat × Nat × Nat) :=
  let m := c.dsMode d
  if c.oddOfPair d then none
  else if m = 1 ∨ m = 3 ∨ m = 4 then
    if c.rd (DS_FS_SIZE.TILES d) = 0 then none
    else some (c.rd (DS_FS_BASE.BASE d) * 32768, c.rd (DS_FS_SIZE.TILES d) * 32768 + 262144, DS_FS_BASE d)
  else if m = 2 ∧ c.rd (DS_PUSH_SIZE.SLOTS d) ≠ 0 then
    some (c.rd (DS_PUSH_BASE.BASE d) * 16384, c.rd (DS_PUSH_SIZE.SLOTS d) * 16384, DS_PUSH_BASE d)
  else none

def State.regionsBad (c : State) : Bad :=
  (List.range 4).findSome? fun d =>
    match c.frameRegion d with
    | none => none
    | some (b, n, a) =>
      badIf (decide (c.frameSize < b + n) || (List.range d).any fun e =>
        match c.frameRegion e with
        | none => false
        | some (b', n', _) => decide (b < b' + n' ∧ b' < b + n)) stInvalid a

/-- A function of the PCIe switch a bridge shows its host (R232): the upstream port (largest payload, fastest link), the virtual downstream port of
device `v` (its adapter, its slot, hot-plug and surprise), the internal endpoint (its class code, the bytes of frame memory BAR0 maps). Every one has
AER; the ports have 10-bit tags, D0 and D3hot (upstream), ACS, a power controller and one MSI vector (downstream). -/
inductive SwitchFn where
  | upstream (vendor device subVendor subDevice payload gen : Nat)
  | vdsp (v adp slot : Nat) (hotPlug : Bool)
  | endpoint (vendor device classCode bar0 : Nat)
deriving DecidableEq, Repr

/-- The functions bridge `b` presents (R232): none unless it faces a host; the endpoint at device 0 in host role with IEP_EN. -/
def State.switchFns (s : State) (b : Nat) : List SwitchFn :=
  if s.pbMode b ≠ 2 ∧ s.pbMode b ≠ 3 ∨ (b = 1 ∧ s.pbMode b = 3) then [] else
    let v := s.rd (PB_ID.VID b)
    let d := s.rd (PB_ID.DID b)
    [.upstream v d (s.rd (PB_SUBSYS.VID b)) (s.rd (PB_SUBSYS.DID b)) 512 (s.rd (PB_CFG.MAXGEN b))] ++
      (if s.hostRole ∧ s.on (PB_CFG.IEP_EN b) then [.endpoint v d 0x0380 s.frameSize] else []) ++
      ((List.range 32).drop 1).filterMap fun i =>
        let a := s.rd (PB_VDSP.ADP b i)
        if a ≠ 0 ∧ s.adpType a = 4 ∧ s.bridgeOf a = b then some (.vdsp i a (s.rd (PB_VDSP.SLOT b i)) (s.on (PB_VDSP.HP b i))) else none

/-- Bridges (R230): modes of the role, BONDED set on P0, adapters the mode has. -/
def State.bridgeBad (c : State) (host : Bool) (b : Nat) : Bad :=
  let m := c.pbMode b
  let up := (List.range 256).filter fun a => decide (a ≠ 0 ∧ c.adpType a = 4 ∧ c.rd (TA_CFG0.INST a) = b)
  let dn := (List.range 256).filter fun a => decide (a ≠ 0 ∧ c.adpType a = 5 ∧ c.rd (TA_CFG0.INST a) = b)
  badIf (decide (m = 1 ∨ m = 2) && host || decide (m = 3) && (!host || decide (c.rd (PB_CFG.MODE 0) ≠ 3))) stInvalid (PB_CFG b) <|>
    badIf (decide (m = 3 ∧ b = 1) && !up.isEmpty) stInvalid (TA_CFG0 (up.headD 0)) <|>
    badIf (decide (31 < up.length ∨ 1 < dn.length) || (!up.isEmpty && decide (m ≠ 2 ∧ m ≠ 3)) || (!dn.isEmpty && decide (m ≠ 1)))
      stInvalid (PB_CFG b)

/-- USB bindings (R16, R258): adapters of the right type, none named twice, no upstream adapter in host role. -/
def State.usbBad (c : State) (host : Bool) : Bad :=
  let three := c.up3 :: (List.range 6).map c.tpAdp3
  let two := c.up2 :: (List.range 6).map c.tpAdp2
  let named := (three ++ two).filter (· ≠ 0)
  badIf (host && decide (c.up3 ≠ 0 ∨ c.up2 ≠ 0)) stInvalid UH_UP <|>
    badIf (three.any fun a => decide (a ≠ 0 ∧ c.adpType a ≠ 6)) stInvalid 0 <|>
    badIf (two.any fun a => decide (a ≠ 0 ∧ c.adpType a ≠ 7)) stInvalid 0 <|>
    badIf (!decide named.Nodup) stInvalid 0

/-- MACs (R275, R277 to R279). -/
def State.macBad (c : State) (m : Nat) : Bad :=
  let fec := c.rd (EN_CFG.FEC m)
  let ifc := c.rd (EN_CFG.IF m)
  let foreign := fun a => decide (c.adpType a ≠ 8 ∨ c.rd (TA_CFG0.INST a) ≠ m)
  badIf (decide (ifc ≠ 0) && decide ((if ifc = 1 then 2 else if ifc = 2 then 1 else 0) < fec)) stInvalid (EN_CFG m) <|>
    badIf (decide (c.rd (EN_ADPMAP.DEF_ADP m) ≠ 0) && foreign (c.rd (EN_ADPMAP.DEF_ADP m))) stInvalid (EN_ADPMAP m) <|>
    (List.range 8).findSome? (fun v => badIf (c.on (EN_VLMAP.EN m v) && foreign (c.rd (EN_VLMAP.ADP m v))) stInvalid (EN_VLMAP m v)) <|>
    badIf (decide (1024 < ((List.range 8).map fun p => c.rd (EN_RXBUF.SIZE m p)).sum)) stInvalid 0 <|>
    (List.range 8).findSome? (fun p => badIf (bitOf (c.rd (EN_PFC.TX_EN m)) p && decide (c.rd (EN_RXBUF.SIZE m p) ≤ c.rd (EN_RXBUF.XOFF m p) ∨
      c.rd (EN_RXBUF.XOFF m p) ≤ c.rd (EN_RXBUF.XON m p))) stInvalid (EN_RXBUF m p)) <|>
    badIf (c.on (EN_PFC.LLFC m) && decide (c.rd (EN_PFC.TX_EN m) ≠ 0)) stInvalid (EN_PFC m) <|>
    badIf (c.on (EN_GCL_CTRL.EN m) && cycleBad (c.macGates m)) stInvalid (EN_GCL_CTRL m)

/-- PD tables (R302): the first PDO is a fixed 5 V supply, an EPR PDO a fixed supply at 28, 36 or 48 V. -/
def State.pdBad (c : State) : Bad :=
  (List.range 6).findSome? fun p =>
    let w := c.rd (PD_SRC_PDO.PDO p 0)
    badIf (decide (pdoKind w ≠ 0 ∨ fixedMv50 w ≠ 100)) stInvalid (PD_SRC_PDO p 0) <|>
      (List.range 3).findSome? fun i =>
        let e := c.rd (PD_EPR_PDO.PDO p i)
        badIf (decide (e ≠ 0) && (decide (pdoKind e ≠ 0) || !([560, 720, 960].contains (fixedMv50 e)))) stInvalid (PD_EPR_PDO p i)

/-- The checks that an image load makes too. -/
def State.configBad (c : State) (host : Bool) : Bad :=
  ((List.range 256).drop 1).findSome? (c.adapterBad host) <|> c.namedDirBad <|> c.partitionBad <|> c.mirrorBad <|> c.schedBad <|>
    c.displayBad host <|> c.regionsBad <|> (List.range 2).findSome? (c.bridgeBad host) <|> c.usbBad host <|>
    (List.range 2).findSome? c.macBad <|> c.pdBad

/-- The clock enables whose block has an open tunnel (R348). -/
def State.tunnelBits (s : State) : List Nat :=
  (List.range 256).flatMap fun a =>
    if a ≠ 0 ∧ s.adpType a ≠ 0 ∧ s.tunnelOpen a then
      [6, 7] ++ (if s.rd (TA_PEER.HUB a) ≠ s.hubAddr then [8, 20] else []) ++
        (match s.adpPort a with
          | some o => if o ≤ 9 then [o + 3] else if o ≤ 11 then [o + 4] else if o = 12 then [17] else if o ≤ 14 then [o + 5] else if o = 15 then [16] else []
          | none => [])
    else []

/-- The link of port `p` has exchanged CREDIT_INIT (R133). -/
def State.creditsOut (s : State) (p : Nat) : Bool :=
  s.linkIsUp p && decide (s.lstate p = 3 ∨ s.lstate p = 4 ∨ s.lstate p = 6 ∨ (s.lstate p = 2 ∧ s.linkVer p ≠ 0))

/-- The CONFLICT rows (R133, R228, R348, R409). -/
def State.conflictBad (s c : State) (staged : Tab Word) : Bad :=
  (List.range 6).findSome? (fun p => if s.creditsOut p then
    badIf (decide (c.rd (SW_RSV.CELLS p) < s.rd (SW_RSV.CELLS p))) stConflict (SW_RSV p) <|>
      (List.range 8).findSome? fun t => badIf (decide (c.rd (CL_CRED_INIT.INIT p t) < s.rd (CL_CRED_INIT.INIT p t))) stConflict (CL_CRED_INIT p t)
    else none) <|>
  (List.range 4).findSome? (fun d => badIf (!s.mcReady && decide (c.dsMode d ≠ 0) &&
    staged.any fun e => decide (DS_CFG d ≤ e.1 ∧ e.1 < DS_CFG d + 0x4000)) stConflict (DS_CFG d)) <|>
  badIf (s.tunnelBits.any fun i => s.clkOn i && !c.clkOn i) stConflict GC_CLKEN <|>
  badIf (decide (c.rd MC_CFG.SIZE ≠ s.rd MC_CFG.SIZE ∨ c.rd MC_CFG.CH_EN ≠ s.rd MC_CFG.CH_EN)) stConflict MC_CFG <|>
  badIf (decide (c.rd UH_CFG.EN ≠ s.rd UH_CFG.EN)) stConflict UH_CFG

/-- Validation of a commit (R408), in table order. -/
def State.validate (s : State) (staged : Tab Word) : Bad :=
  let c := s.overlay staged
  staged.findSome? (fun e => badIf (s.lockedRegion e.1) stDenied e.1) <|> c.configBad s.host <|> s.conflictBad c staged

/-! ### The commit (R411 to R413) -/

/-- The adapters a staged register affects (R411 step 2). -/
def State.affects (s : State) (a : Nat) (adp : Nat) : Bool :=
  let ty := s.adpType adp
  let inst := s.rd (TA_CFG0.INST adp)
  decide (TA_CFG0 adp ≤ a ∧ a < TA_CFG0 adp + 0x100) ||
    (decide (ty = 2 ∨ ty = 3) && decide (DS_CFG inst ≤ a ∧ a < DS_CFG inst + 0x4000)) ||
    (decide (ty = 4 ∨ ty = 5) && decide (PB_CFG (s.bridgeOf adp) ≤ a ∧ a < PB_CFG (s.bridgeOf adp) + 0x4000)) ||
    (decide (ty = 8) && decide (EN_CFG inst ≤ a ∧ a < EN_CFG inst + 0x4000)) ||
    (decide (ty = 6 ∨ ty = 7) && decide (0x40800000 ≤ a ∧ a < 0x40801000)) ||
    (decide (ty = 9 ∨ ty = 10) && decide (0x40780000 ≤ a ∧ a < 0x40781000))

def State.affected (s : State) (staged : Tab Word) : List Nat :=
  ((List.range 256).drop 1).filter fun x => staged.any fun e => s.affects e.1 x

/-- Stop or release adapters (R411 steps 3 and 5). -/
def State.haltAdapters (s : State) (l : List Nat) (on : Bool) : State := s.eachIn l fun a t => t.modAdp a fun x => { x with stopped := on }

/-- The adapter's tunnel ends with a commit: it is removed, or its type or peer changes (R413). -/
def adapterGone (old new_ : State) (a : Nat) : Bool :=
  decide (old.adpType a ≠ 0) && (decide (new_.adpType a ≠ old.adpType a) || decide (new_.reg (TA_PEER a) ≠ old.reg (TA_PEER a)))

/-- The adapter is added or re-pointed. -/
def adapterNew (old new_ : State) (a : Nat) : Bool :=
  decide (new_.adpType a ≠ 0) && (decide (new_.adpType a ≠ old.adpType a) || decide (new_.reg (TA_PEER a) ≠ old.reg (TA_PEER a)))

/-- The policer entry a register belongs to. -/
def policerOf (a : Nat) : Option Nat :=
  if 0x40508010 ≤ a ∧ a < 0x40509000 ∧ (a % 16 = 0 ∨ a % 16 = 4) then some ((a - 0x40508000) / 16) else none

/-- A pipe starts in a new mode (R196, R209): the direction of its PHY is fixed from then on (R197); a capture pipe presents the fallback EDID of the image. -/
def State.pipeStart (s : State) (d was : Nat) : State :=
  let m := s.dsMode d
  let s := if was = 1 ∧ s.on (DS_STAT.HPD d) then s.setHpd d 0 else s
  let s := ((s.setReg (DS_STAT d) 0).setPipe d { edid := if m = 1 then Tab.get [] s.img.edid d else [] }).setReg (DS_PUSH_HEAD d) 0
  let s := if dpDirOf m = 0 then s else s.modImg fun i => { i with dpDir := Tab.put 0 i.dpDir d (dpDirOf m) }
  let s := if m = 1 ∧ s.mcReady ∧ ¬ (s.pipe d).edid.isEmpty then s.setHpd d 1 else s
  s.wr (DS_STAT.STATE d) (if m = 0 then 0 else if m = 2 then (if s.mcReady then 3 else 4) else 1)

/-- A pipe after a commit changed it or its pair (R199, R215, R216): a new mode starts it afresh; a new timing is judged against the trained link. -/
def State.pipeApplied (s : State) (old : State) (d : Nat) : State :=
  if s.dsMode d ≠ old.dsMode d then s.pipeStart d (old.dsMode d)
  else if (s.dsMode d = 3 ∨ s.dsMode d = 4) ∧ s.rd (DS_STAT.RATE d) ≠ 0 then
    if (s.pipe d).trained ∨ (s.dpRate d (s.rd (DS_STAT.RATE d)) (s.rd (DS_STAT.LANES d))).isSome then s.judgeMode d else s
  else s

/-- USB ports whose binding changed report a disconnect and ask the far hub under the new one; an upstream that is allowed no more disconnects (R256,
R258, R272). -/
def State.usbApplied (s : State) (old : State) : State :=
  let s := s.each 6 fun k t =>
    if t.reg (UH_TPORT k) ≠ old.reg (UH_TPORT k) then
      ((t.modTport k fun x => { x with far := false }).portGone (6 + k)).eachIn ([t.tpAdp3 k, t.tpAdp2 k].filter t.tunnelOpen) fun a u => u.usbOpened a
    else t
  let s := if s.reg UH_UP ≠ old.reg UH_UP then s.upDisconnect 1 else s
  if s.rd UH_STAT.UPSRC ≠ 0 ∧ ¬ s.upAllowed (s.rd UH_STAT.UPSRC) then s.upDisconnect (s.rd UH_STAT.UPSRC) else s

/-- The PD tables after a commit (R302, R309): the budget anew, and new Source_Capabilities where the offer of a contract changed. -/
def State.pdApplied (s : State) : State :=
  s.budget.each 6 fun p t =>
    let now := offerList (t.sprOffer p) (if t.on (PD_STAT.EPR p) then t.eprOffer p else [])
    if t.contract p ∧ t.isSource p ∧ (t.pd p).offered ≠ now then t.sendCaps p else t

/-- The eFuse channels after a commit (R340, R332, R333). -/
def State.efApplied (s : State) (old : State) : State :=
  s.each 8 fun n t =>
    if t.on (EF_STAT.LIMITING n) ∧ max 1 (t.rd (EF_CFG.FAULT_T n)) * 5000000 ≤ t.limitTime n then
      (t.raise (Ev.EF_TRIP n)).breaker n
    else if old.on (EF_CFG.EN n) ∧ ¬ t.on (EF_CFG.EN n) ∧ t.efState n < 6 then (t.gateOff n).setEf n 0
    else if ¬ old.on (EF_CFG.EN n) ∧ t.on (EF_CFG.EN n) ∧ efMain n ∧ t.on (EF_STAT.IN_WIN n) ∧ t.efState n = 0 then t.setEf n 1
    else t

/-- A mirror session whose EN goes to 1 copies its first match anew (R139). -/
def State.mirrorsApplied (s : State) (old : State) : State :=
  s.each 8 fun k t => if t.on (SW_MIR_CTL.EN k) ∧ ¬ old.on (SW_MIR_CTL.EN k) then
    t.mapSw fun w => { w with mirMatch := Tab.put 0 w.mirMatch k 0 } else t

/-- Sideband outputs after a commit (R247, R251): each shows its bit of the last update of its group, SAFE where none has come; a signal that is no
output drives nothing. -/
def State.sbApplied (s : State) : State :=
  s.each 32 fun n t =>
    if t.rd (SB_SIG.DIR n) = 2 then
      let g := t.group (t.rd (SB_SIG.GROUP n))
      t.sbDrive n (match g.applied, g.stale with
        | some (_, value, _), false => (bitOf value (t.rd (SB_SIG.SRC_BIT n))).toNat
        | _, _ => t.rd (SB_SIG.SAFE n))
    else t.wr (SB_OUT.VALUE.bit n) 0

/-- Lanes a commit undeclares (R50): those that carry traffic leave their direction by a restripe, those in low power or in training go to Off. -/
def State.lanesApplied (s : State) (old : State) : State :=
  s.each 24 fun n t =>
    let p := lanePort n
    if old.on (LN_CTRL.EN n) ∧ ¬ t.on (LN_CTRL.EN n) ∧ t.inService n ∧ t.rd (LN_STAT.DIR n) = 0 then
      let cw := (t.link p).cwTx + 1 + t.codewordsIn p 0 1000
      (t.sendCtl p 0x09 (be 1 (n % 4) ++ be 3 0 ++ be 8 cw)).holdAct p { kind := 1, lane := n, tx := true, cw := cw }
    else if old.on (LN_CTRL.EN n) ∧ ¬ t.on (LN_CTRL.EN n) ∧ t.inService n then t.sendCtl p 0x08 (be 1 (n % 4) ++ be 1 1)
    else if old.on (LN_CTRL.EN n) ∧ ¬ t.on (LN_CTRL.EN n) ∧ (t.laneState n = 2 ∨ t.laneState n = 5 ∨ t.laneState n = 6) then t.laneOff n
    else t

/-- A staged register lies in a range. -/
def touches (staged : Tab Word) (lo hi : Nat) : Bool := staged.any fun e => decide (lo ≤ e.1 ∧ e.1 < hi)

/-- What the switch core, the scheduler, the pipes and the MACs do with new values beyond reading them (R133, R139, R155, R157, R199). -/
def State.trafficApplied (s : State) (old : State) (staged : Tab Word) : State :=
  let s := s.wr SW_SHARED.CELLS (393216 - ((List.range 20).map fun p => s.rd (SW_RSV.CELLS p)).sum)
  let s := s.eachIn (staged.filterMap fun e => policerOf e.1) fun i t => t.fillPolicer i
  let s := s.each 6 fun p t => if t.gateChoice p = old.gateChoice p then t else t.gatesTouched p t.pol.quietUntil
  let s := s.each 4 fun d t => if touches staged (DS_CFG d) (DS_CFG d + 0x4000) ∨ touches staged (DS_CFG (d - d % 2)) (DS_CFG (d - d % 2) + 0x4000) then t.pipeApplied old d else t
  let s := s.each 2 fun m t => t.macApplied old m
  s.mirrorsApplied old

/-- What the other blocks do with new values beyond reading them (R50, R169, R186, R285, R389). -/
def State.applied (s : State) (old : State) (staged : Tab Word) : State :=
  let touched := touches staged
  let s := s.trafficApplied old staged
  let s := if touched 0x40080000 0x40098000 then s.lanesApplied old else s
  let s := if touched 0x40780000 0x40781000 then s.sbApplied else s
  let s := if touched 0x40800000 0x40801000 then s.usbApplied old else s
  let s := if touched 0x40A00000 0x40A09000 then s.pdApplied else s
  let s := if touched 0x40B00000 0x40B00800 then s.efApplied old else s
  let s := if s.incNominal ≠ old.incNominal then s.endSlew else s
  let s := if s.hostRole ∧ s.rd DM_CFG.STRING ≠ old.rd DM_CFG.STRING then s.takeHost else s
  let s := if s.ownVersion ≠ old.ownVersion then s.ownFloor else s
  (s.gmChanged old.bestAnnounce).liftLocks

/-- Writing the shadow of a register wakes the domain of its block (R23, R370, R411 step 1). -/
def State.shadowWake (s : State) (a : Nat) : State :=
  match blockOf a with
  | some b => s.domainReady (b.domBit a) 220
  | none => s

/-- Load the shadows of staged values (R411 step 1). -/
def State.loadShadows (s : State) (staged : Tab Word) : State := s.eachIn staged fun e t => t.shadowWake e.1

/-- Lay staged values over the registers (R411 step 4). -/
def State.strobe (s : State) (staged : Tab Word) : State :=
  (s.eachIn staged fun e t => t.writeReg e.1 e.2).applied s staged

/-- The quiet point lasts to this time: flips that fall due before it are held to it, and new gate lists wait for a cycle start after it (R26, R159, R167). -/
def State.beginQuiet (s : State) (quietNs : Nat) : State := { s with pol := { s.pol with quietUntil := s.time.toNs + quietNs } }

/-- QUIET_POINT (R411, R412, R413): the last affected adapter has stopped, `drainUs` after they were armed; the quiet point lasts `quietNs`. Gates whose
regions are written and that have accesses in flight (`inflight`) show DRAIN 0 (R387). -/
def State.quietPoint (s : State) (quietNs drainUs inflight : Nat) : State :=
  match s.img.commit with
  | none => s
  | some (id, stopped) =>
    let staged := ((s.img.txns.find? fun t => decide (t.id = id)).map Txn.staged).getD []
    let next := s.overlay staged
    let gone := ((List.range 256).drop 1).filter fun a => adapterGone s next a
    let added := ((List.range 256).drop 1).filter fun a => adapterNew s next a
    let before := s
    let s := s.eachIn gone fun a t => t.tunnelClosed a
    let s := (s.beginQuiet quietNs).strobe staged
    let s := s.each 26 fun g t =>
      if bitOf inflight g ∧ staged.any (fun e => decide ((regionOf e.1).map Prod.fst = some g)) then t.wr (BG_STAT.DRAIN g) 0 else t
    let s := s.haltAdapters stopped false
    let s := ((s.wr GC_QUIET.QUIET_NS quietNs).wr GC_QUIET.DRAIN_US drainUs)
    let s := s.eachIn (gone.filter fun a => !before.on (TA_PEER.MCAST a)) fun a t => t.sendTunnelClose a (before.rd (TA_PEER.HUB a))
    let s := s.eachIn (added.filter fun a => !s.on (TA_PEER.MCAST a)) fun a t => t.sendTunnelOpen a
    let s := ((s.dropTxn id).modImg fun i => { i with commit := none }).wrapAdd GC_COMMITS.COUNT 1
    s.finishRegs (fun w => decide (w = .commit id)) [(3, GC_QUIET)] []

def execQuietPoint (quietNs drainUs : Fin 65536) (inflight : BitVec 26) (s : State) : Res :=
  .next (s.quietPoint quietNs drainUs inflight.toNat)

/-- DRAIN_TIMEOUT (R411): every adapter is released, nothing changes, the transaction stays open. -/
def execDrainTimeout (s : State) : Res :=
  .next (match s.img.commit with
  | none => s
  | some (id, stopped) =>
    let s := ((s.haltAdapters stopped false).modImg fun i => { i with commit := none }).raise Ev.GC_DRAIN_TMO
    (s.touchTxn id).finish (fun w => decide (w = .commit id)) stTimeout 0 [])

end Sys2Proof.Machine
end

