-- ==== Sys2Proof/Machine/Image.lean ====
section
/-!
DEFINITION. The image (R393 to R403) and the start of the ROM (R355, R382): headers, records, loading and installing.
-/

namespace Sys2Proof.Machine

/-! ### Slots and headers (R393 to R395) -/

def slotBase (b : Bool) : Nat := if b then 0x100000 else 0

/-- The 256 header bytes of a slot; false is A. -/
def State.slotHeader (s : State) (b : Bool) : List Byte := s.flashBytes (slotBase b) 256

def headerErased (h : List Byte) : Bool := (h.take 8).all fun x => decide (x = 0xFF#8)
def headerCandidate (h : List Byte) : Bool := decide (h.take 4 = [0x5A#8, 0x45#8, 0x54#8, 0x48#8] ∧ leAt h 4 2 = 3 ∧ leAt h 6 2 = 256)
def hdrLen (h : List Byte) : Nat := leAt h 8 4
def hdrRelease (h : List Byte) : Nat := leAt h 12 4
def hdrSvn (h : List Byte) : Nat := byteAt h 16
def hdrRole (h : List Byte) : Nat := byteAt h 17
def hdrRecords (h : List Byte) : Nat := leAt h 18 2
def hdrMinRom (h : List Byte) : Nat := byteAt h 20
def hdrBind (h : List Byte) : Nat := leAt h 24 8
def hdrKey (h : List Byte) : List Byte := bytesAt h 32 97

/-- Header fields of R394 within the limits of R401. -/
def headerGood (h : List Byte) : Bool :=
  headerCandidate h && decide (hdrSvn h ≤ 32 ∧ hdrRole h ≤ 1 ∧ hdrLen h ≤ 1048576 ∧ hdrLen h % 4 = 0 ∧ 352 ≤ hdrLen h) &&
    (bytesAt h 21 3 ++ bytesAt h 129 127).all fun x => decide (x = 0#8)

/-- Bits set in a counter of fuses. -/
def onesIn (v n : Nat) : Nat := ((List.range n).filter fun i => bitOf v i).length

/-- The ROM key hash of the shadow, byte 0 first. -/
def State.romKeyHash (s : State) : List Byte := (List.range 12).flatMap fun i => be 4 (s.rd (KS_ROMKH.HASH i))

/-- The header checks of a slot after the candidate test, with the signature (R395, R401): stOk, or the status. -/
def State.imageStatus (s : State) (img : List Byte) : Nat :=
  let n := hdrLen img
  if ¬ headerGood (img.take 256) then stInvalid
  else if Config.sha384 (hdrKey img) ≠ s.romKeyHash ∨ ¬ Config.ecdsaVerify (hdrKey img) (Config.sha384 (img.take (n - 96))) (bytesAt img (n - 96) 96) then
    stIntegrity
  else if hdrSvn img < onesIn (s.rd KS_IMG_MIN.COUNT) 32 ∨ s.rd GC_ID.ROM < hdrMinRom img then stVersion
  else if hdrBind img ≠ 0 ∧ hdrBind img ≠ s.uid then stDenied
  else stOk

/-- The bytes of the image in a slot: IMG_LEN of them. -/
def State.slotImage (s : State) (b : Bool) : List Byte := s.flashBytes (slotBase b) (min 1048576 (hdrLen (s.slotHeader b)))

/-! ### Records (R396 to R399) -/

/-- One tack record. -/
structure Rec where
  type : Nat
  flags : Nat
  body : List Byte
deriving DecidableEq, Repr

/-- The records between byte 256 and IMG_LEN - 97, none when they do not end there; `fuel` bounds them. -/
def parseRecords : Nat → List Byte → Option (List Rec)
  | _, [] => some []
  | 0, _ => none
  | fuel + 1, l =>
    let n := leAt l 4 4
    if l.length < 8 + n ∨ n % 4 ≠ 0 then none
    else (parseRecords fuel (l.drop (8 + n))).map fun r => ⟨leAt l 0 2, leAt l 2 2, bytesAt l 8 n⟩ :: r

/-- The address ranges of the register records (R397, R467). -/
def recordRange (type : Nat) : Option (Nat × Nat) :=
  ([(0x10, 0x40000000, 0x1000), (0x11, 0x40010000, 0x1000), (0x12, 0x40020000, 0x1000), (0x13, 0x40030000, 0x10000),
    (0x14, 0x40050000, 0x1000), (0x15, 0x40060000, 0x1000), (0x16, 0x40080000, 0x18000), (0x17, 0x40100000, 0x18000)] ++
   [(0x18, 0x40200000, 0x10000), (0x19, 0x40300000, 0x8000), (0x1A, 0x40400000, 0x10000), (0x1B, 0x40500000, 0x9000),
    (0x1C, 0x40600000, 0x10000), (0x1D, 0x40700000, 0x8000), (0x1E, 0x40780000, 0x1000), (0x1F, 0x40800000, 0x1000)] ++
   [(0x20, 0x40900000, 0x8000), (0x21, 0x40A00000, 0x9000), (0x22, 0x40B00000, 0x800), (0x23, 0x40C00000, 0x20000),
    (0x24, 0x40D00000, 0x1000)]).find? (fun e : Nat × Nat × Nat => decide (e.1 = type)) |>.map Prod.snd

/-- What a load holds until its checks have passed (R400 step 4). -/
structure Held where
  staged : Tab Word := []
  anchors : Option (List (List Byte)) := none
  secrets : List (Nat × List Byte) := []
  edid : Tab (List (List Byte)) := []
  pdInfo : List (Nat × Nat × List Byte) := []
deriving DecidableEq, Repr

/-- One entry of a register record (R397, R398). -/
def entryGood (lo n a : Nat) (v : Word) : Bool :=
  decide (lo ≤ a ∧ a < lo + n ∧ a % 4 = 0) && stageable a && (match regSpecAt a with
    | some r => r.takes v
    | none => false)

/-- Parts of `n` bytes. -/
def chunks (n : Nat) : Nat → List Byte → List (List Byte)
  | 0, _ => []
  | k + 1, l => l.take n :: chunks n k (l.drop n)

/-- Check and hold one record (R396 to R399): what is held, or the status of the failure. -/
def State.takeRecord (s : State) (h : Held) (r : Rec) : Except Nat Held :=
  let b := r.body
  if 2 ≤ r.flags then .error stInvalid
  else match recordRange r.type with
  | some (lo, n) =>
    let es := (chunks 8 (leAt b 0 4) (b.drop 4)).map fun e => (leAt e 0 4, BitVec.ofNat 32 (leAt e 4 4))
    if b.length ≠ 4 + 8 * leAt b 0 4 ∨ ¬ es.all (fun e => entryGood lo n e.1 e.2) then .error stInvalid
    else .ok { h with staged := es.foldl (fun t e => Tab.ins t e.1 e.2) h.staged }
  | none =>
    match r.type with
    | 0 => .ok h
    | 1 =>
      let k := leAt b 0 4
      let keys := chunks 100 k (b.drop 4)
      if k = 0 ∨ 4 < k ∨ b.length ≠ 4 + 100 * k ∨ h.anchors.isSome ∨ keys.any (fun x => decide (x.drop 97 ≠ [0#8, 0#8, 0#8])) then .error stInvalid
      else .ok { h with anchors := some (keys.map fun x => x.take 97) }
    | 2 =>
      let k := leAt b 0 4
      if b.length < 4 ∨ (k ≠ 1 ∧ k ≠ 2) then .error stInvalid
      else match Config.keyUnwrap s.rootWrapKey (b.drop 4) with
        | some x => .ok { h with secrets := h.secrets ++ [(k, x)] }
        | none => .error stIntegrity
    | 3 =>
      let p := byteAt b 0
      let k := byteAt b 1
      if 3 < p ∨ k = 0 ∨ 4 < k ∨ b.length ≠ 4 + 128 * k ∨ h.edid.any (fun e => decide (e.1 = p)) then .error stInvalid
      else .ok { h with edid := Tab.ins h.edid p (chunks 128 k (b.drop 4)) }
    | 4 =>
      let p := byteAt b 0
      let m := byteAt b 1
      let n := leAt b 2 2
      if 5 < p ∨ m = 0 ∨ 6 < m ∨ b.length < 4 + n ∨ 8 + n ≤ b.length then .error stInvalid
      else .ok { h with pdInfo := h.pdInfo ++ [(p, m, bytesAt b 4 n)] }
    | _ => if r.flags = 1 then .ok h else .error stInvalid

def State.takeRecords (s : State) (h : Held) : List Rec → Except Nat Held
  | [] => .ok h
  | r :: l => match s.takeRecord h r with
    | .ok h' => s.takeRecords h' l
    | .error e => .error e

/-- Validation at image load (R408): the rows without CONFLICT, with the role of the header. -/
def State.loadBad (s : State) (host : Bool) (staged : Tab Word) : Bad :=
  staged.findSome? (fun e => badIf (s.lockedRegion e.1) stDenied e.1) <|> (s.overlay staged).configBad host

/-- Steps 3 to 5 of R400 for an image: what it holds, or the status of its failure. -/
def State.checkImage (s : State) (img : List Byte) : Except Nat Held :=
  let st := s.imageStatus img
  if st ≠ stOk then .error st
  else match parseRecords 1048576 (bytesAt img 256 (hdrLen img - 352)) with
  | none => .error stInvalid
  | some rs =>
    if rs.length ≠ hdrRecords img then .error stInvalid
    else match s.takeRecords {} rs with
      | .error e => .error e
      | .ok h => match s.loadBad (decide (hdrRole img = 1)) h.staged with
        | some (st, _) => .error st
        | none => .ok h

/-- What a check of a slot answers: 0xFE erased, else the status of R401; `there`: the flash answers. -/
def State.slotStatus (s : State) (b there : Bool) : Nat :=
  if ¬ there then stTimeout
  else if headerErased (s.slotHeader b) then 0xFE
  else if ¬ headerCandidate (s.slotHeader b) then stInvalid
  else match s.checkImage (s.slotImage b) with
    | .ok _ => stOk
    | .error e => e

/-! ### Loading (R400) -/

def State.setSlotStatus (s : State) (b : Bool) (st : Nat) : State := s.wr (if b then GC_IMG_STAT.STATUS_B else GC_IMG_STAT.STATUS_A) st

/-- The image is active (R400 steps 6 to 8, R455): the strobe, what it installs, the reset-cause entry, host address, ports still in Thrumlink mode. -/
def State.activate (s : State) (b : Bool) (h : Held) : State :=
  let img := s.slotHeader b
  let s := ((s.wr GC_IMG_INFO.SVN (hdrSvn img)).wr GC_IMG_INFO.ROLE (hdrRole img)).wr GC_IMG_INFO.RECORDS (hdrRecords img)
  let s := s.wr GC_IMG_REL.RELEASE (hdrRelease img)
  let s := s.modImg fun i => { i with anchors := h.anchors.getD [], edid := h.edid, pdInfo := h.pdInfo }
  let s := (s.loadShadows h.staged).strobe h.staged
  let s := { s with keys := { s.keys with slots := h.secrets }, clk := { s.clk with phase := .active } }
  let s := ((s.setSlotStatus b stOk).wr GC_IMG_STAT.SLOT b.toNat).wr GC_IMG_STAT.STATE 1
  let w := s.writeLog 0 3 0 0x10 0 (s.rd GC_RST_CAUSE.WARM_CNT) [s.reg GC_RST_CAUSE]
  let s := w.2.notify w.1
  let s := if s.host then s.takeHost else s
  let s := s.ownFloor
  s.each 6 fun p t => if t.lstate p = 0 then t.startTraining p else t

/-- Try candidates in order (R400): the first that passes is activated; a failure with another left falls back. -/
def State.tryImages (s : State) : List Bool → State
  | [] => { (s.wr GC_IMG_STAT.SLOT 3).wr GC_IMG_STAT.STATE 2 with clk := { s.clk with phase := .noImage } }
  | b :: rest =>
    match s.checkImage (s.slotImage b) with
    | .ok h => s.activate b h
    | .error e =>
      let s := s.setSlotStatus b e
      (if rest.isEmpty then s else s.raise Ev.GC_IMG_FALLBACK).tryImages rest

/-- The candidate slots, the higher RELEASE first, A on a tie (R400 step 2). -/
def State.candidates (s : State) : List Bool :=
  let a := headerCandidate (s.slotHeader false)
  let b := headerCandidate (s.slotHeader true)
  if a ∧ b then (if hdrRelease (s.slotHeader false) < hdrRelease (s.slotHeader true) then [true, false] else [false, true])
  else if a then [false] else if b then [true] else []

/-- IMAGE_LOAD (R400 to R402); `there`: the flash answers within 10 ms. -/
def State.imageLoad (s : State) (there : Bool) : State :=
  if s.clk.phase ≠ .imaging then s
  else if there then
    let mark := fun (b : Bool) (t : State) =>
      let h := t.slotHeader b
      if headerCandidate h then t else t.setSlotStatus b (if headerErased h then 0xFE else stInvalid)
    let s := mark true (mark false s)
    s.tryImages s.candidates
  else ((s.setSlotStatus false stTimeout).setSlotStatus true stTimeout).tryImages []

def execImageLoad (there : Bool) (s : State) : Res := .next (s.imageLoad there)

/-! ### The ROM starts (R355, R382) -/

def patchBase : Nat := 0x300000
def patchSize : Nat := 0x40000

/-- The patch area reads as erased where its header would stand. -/
def State.patchErased (s : State) : Bool := (s.memBytes patchBase 16).all fun x => decide (x = 0xFF#8)

/-- The patch is copied and checked (R382, R393): a good one fixes region 0 of gate 2. -/
def State.patchCheck (s : State) : State :=
  let s := s.setMemBytes patchBase (s.flashBytes 0x200000 patchSize)
  if s.patchErased then s
  else match Config.patchCheck (s.memBytes patchBase patchSize) ((List.range 12).map fun i => s.reg (KS_ROMKH i)) with
  | some v =>
    if onesIn (s.rd KS_PATCH_MIN.COUNT) 16 ≤ v then
      let s := ((s.setReg (BG_R_BASE 2 0) 0x300#32).setReg (BG_R_LIMIT 2 0) 0x33F#32).setReg (BG_R_PERM 2 0) 0x00018005#32
      { s with keys := { s.keys with patch := some v } }
    else s.raise Ev.KS_PATCH_FAIL
  | none => s.raise Ev.KS_PATCH_FAIL

/-- CORE_RESET_RELEASE (R355, R344, R352, R376, R382): core 0 runs the ROM. Where the root PLL runs already (after a warm reset) boot goes on at once. -/
def State.coreRelease (s : State) : State :=
  if s.clk.phase = .aon then
    let s := (s.wr ⟨GC_CLKEN, 22, 1⟩ 1).patchCheck
    if s.on CK_STAT.ROOT_LOCK ∧ s.on CK_STAT.ON_PLL then
      { s.wr ⟨GC_CLKEN, 21, 1⟩ 1 with clk := { s.clk with phase := .imaging } }
    else if s.on CK_STAT.REF_OK then { s with clk := { s.clk with phase := .pll } }
    else { s with clk := { s.clk with phase := .rom } }
  else s

def execCoreResetRelease (s : State) : Res := .next s.coreRelease

end Sys2Proof.Machine
end

