-- ==== Sys2Proof/Machine/Bist.lean ====
section
/-!
DEFINITION. Block self-test (R449 to R451).
-/

namespace Sys2Proof.Machine

def State.anyTunnel (s : State) : Bool := ((List.range 256).drop 1).any fun a => decide (s.adpType a ≠ 0) && s.tunnelOpen a

/-- The condition a block must meet before its test may start (R449). -/
def State.bistReady (s : State) (b : Nat) : Bool :=
  match b with
  | 0 => true
  | 1 => ((List.range 6).all fun p => decide (s.lstate p ≠ 4)) && !s.anyTunnel
  | 2 => !s.anyTunnel
  | 3 | 4 | 5 | 6 | 7 | 8 => (portLanes (b - 3)).all fun n => decide (s.laneState n = 0 ∨ s.laneState n = 8)
  | 9 | 10 | 11 | 12 => decide (s.dsMode (b - 9) = 0 ∨ s.rd (DS_STAT.STATE (b - 9)) = 0)
  | 13 => (List.range 4).all fun d => decide (s.dsMode d = 0 ∧ s.rd (DS_PUSH_SIZE.SLOTS d) = 0)
  | 14 | 15 => !s.on (PB_STAT.LINK_UP (b - 14))
  | 16 => decide (s.rd UH_STAT.UPSRC = 0)
  | 17 | 18 => !s.on (EN_STAT.LINK (b - 17))
  | 19 => s.keys.op.isNone
  | 20 => ((List.range 8).all fun g => decide (s.rd (SB_GRP.ADP g) = 0)) && decide (s.rd SB_RB_STAT.OUTSTANDING = 0)
  | _ => false

/-- Start the test of a block (R449): stOk, or the status a command is answered with. Its domain is on for the test (R450). -/
def State.bistStart (s : State) (b : Nat) : Nat × State :=
  if 20 < b then (stInvalid, s)
  else if s.test.under.isSome then (stBusy, s.raise Ev.BT_REFUSED)
  else if ¬ s.bistReady b then (stConflict, s.raise Ev.BT_REFUSED)
  else (stOk, { (s.wr BT_STAT.BUSY 1).wr ⟨PS_DOM, testDomain b, 1⟩ 1 with test := { s.test with under := some b } })

/-- The block's logic is reset (R450): its registers keep their values, the link it owns trains again. -/
def State.bistReset (s : State) (b : Nat) : State :=
  match b with
  | 1 => s.clearSwitch
  | 2 => { s with engs := [], adps := [] }
  | 3 | 4 | 5 | 6 | 7 | 8 =>
    let p := b - 3
    ((s.eachIn (portLanes p) fun n t => t.setLane n {}).setLink p {}).startTraining p
  | 9 | 10 | 11 | 12 => s.modPipe (b - 9) fun _ => {}
  | 13 => { s with frame := [], free := s.free + 1, test := { s.test with frameGen := s.free + 1 } }
  | 14 | 15 => s.eachIn (s.bridgeAdapters (b - 14)) fun a t => t.modAdp a fun x => { x with conf := none, open_ := [], owed := [], acks := [], headers := [], p2p := [] }
  | 16 => { s with usb := {} }
  | 17 | 18 => s.modMac (b - 17) fun _ => {}
  | 20 => s.modBrg fun x => { x with rbOut := [], i2c := [], groups := [] }
  | _ => s

/-- BIST_DONE (R450, R451): the signature is compared with BT_REF of the block, whose isolation ends. -/
def State.bistDone (s : State) (misr : Word) : State :=
  match s.test.under with
  | none => s
  | some b =>
    let s := { s with test := { s.test with under := none } }.bistReset b
    let ok := decide (misr = s.reg (BT_REF b))
    let s := (((s.setReg BT_MISR misr).wr BT_STAT.LAST b).wr BT_STAT.BUSY 0).wr BT_STAT.MATCH ok.toNat
    let s := if ok then s else s.raiseWith Ev.BT_MISMATCH true []
    s.finishRegs (fun w => decide (w = .bist b)) [(8, BT_MISR), (8, BT_REF b)] (be 1 ok.toNat)

def execBistDone (misr : BitVec 32) (s : State) : Res := .next (s.bistDone misr)

end Sys2Proof.Machine
end

