-- ==== Sys2Proof/Machine/Bus.lean ====
section
/-!
DEFINITION. The management bus (R23, R467 to R471): the checks of an access, what a register reads as, what a write does, and the rows that are
a write or a read of one register.
-/

namespace Sys2Proof.Machine

/-! ### Targets and checks -/

/-- What an address reaches (R467). -/
inductive Target where
  | unmapped
  | rom
  | ram
  | patch
  /-- The window, with the offset in frame memory. -/
  | window (off : Nat)
  | reg (b : Block)
deriving DecidableEq, Repr

/-- Frame memory the window shows at an address (R228). -/
def State.windowOffset (s : State) (a : Nat) : Nat := s.rd MC_WIN.SLICE * 2 ^ 31 + (a - 0x80000000)

/-- Decode an address (R467, R468). -/
def State.targetOf (s : State) (a : Nat) : Target :=
  if a < 0x100000 then .rom
  else if a < 0x300000 then .ram
  else if a < 0x340000 then .patch
  else if 0x80000000 ≤ a then (if s.mcReady ∧ s.windowOffset a < s.frameSize then .window (s.windowOffset a) else .unmapped)
  else match blockOf a with
    | some b => .reg b
    | none => .unmapped

/-- Size and alignment that a range takes (R469). -/
def Target.takesSize (t : Target) (a n : Nat) : Bool :=
  match t with
  | .reg _ => decide (n = 4 ∧ a % 4 = 0)
  | _ => [1, 2, 4, 8, 16, 32, 64].contains n && decide (a % n = 0)

/-- The gate of a target, and the address it checks (R383). -/
def Target.gate (t : Target) (a : Nat) : Nat × Nat :=
  match t with
  | .unmapped => (0, a)
  | .rom => (0, a)
  | .ram => (1, a)
  | .patch => (2, a)
  | .window off => (25, frameGate off)
  | .reg b => (b.gate, a)

/-- The clock enable bit and the domain bit of a target (R467). Memories have no enable (24 is always 1). -/
def Target.clkDom (t : Target) (a : Nat) : Nat × Nat :=
  match t with
  | .reg b => (b.clkBit a, b.domBit a)
  | .window _ => (13, 12)
  | _ => (24, 0)

/-- The block of a target is under self-test (R450). -/
def State.targetTested (s : State) (t : Target) (a : Nat) : Bool :=
  match t with
  | .reg b => s.underTest b.gate (b.inst a)
  | .window _ => s.underTest 24 0
  | .rom => s.underTest 0 0
  | _ => false

/-- How an access ends: done, zeros with the write ignored, or a bus error of one kind (R23, R445). -/
inductive BusEnd where
  | done | zeros | unmapped | badSize | denied | gated | stField
deriving DecidableEq, Repr

def BusEnd.ok (e : BusEnd) : Bool := decide (e = .done ∨ e = .zeros)

/-- What GC_CFG.GATED_ACCESS selects (R348). -/
def State.gatedEnd (s : State) : BusEnd := if s.on GC_CFG.GATED_ACCESS then .zeros else .gated

/-- The checks of an access up to the third of R23; `.done` when it may go on. -/
def State.busCheck (s : State) (m : Master) (p : Priv) (k : AccessKind) (a n : Nat) : BusEnd × State :=
  let t := s.targetOf a
  if t = .unmapped then (.unmapped, s)
  else if ¬ t.takesSize a n then (.badSize, s)
  else
    let r := s.gatePass (t.gate a).1 (t.gate a).2 m p k n
    if ¬ r.1 then (.denied, r.2)
    else if s.targetTested t a then (s.gatedEnd, s)
    else if (t.clkDom a).1 ≠ 24 ∧ ¬ s.clkOn (t.clkDom a).1 then
      (s.gatedEnd, (s.setReg GC_GATED_ADDR (BitVec.ofNat 32 a)).raise Ev.GC_GATED)
    else (.done, s.domainReady (t.clkDom a).2 220)

/-! ### What a register reads as -/

/-- WO fields read 0 (R8). -/
def RegSpec.shown (r : RegSpec) (w : Word) : Word :=
  r.fields.foldl (fun v f => if f.access = .wo then setField v f.lo f.width 0 else v) w

/-- Commands of one transport queued or executing (R448). -/
def State.commandsOf (s : State) (kind : Nat) : Nat := min 15 (s.cmd.entries.filter fun e => decide (e.owner.kind = kind)).length

def packFields (l : List (Nat × Nat)) : Word := BitVec.ofNat 32 (l.map fun x => x.2 * 2 ^ x.1).sum

/-- Registers whose value stands elsewhere in the state. -/
def State.viewGlobal (s : State) (a : Nat) : Option Word :=
  if a = 0x4003F000 then some (BitVec.ofNat 32 ((List.range 26).map fun g => s.rd (BG_STAT.VIOL g) * 2 ^ g).sum)
  else if a = GC_CMD_CFG then some (setField (s.reg a) 0 7 (0x60 + bitsOf (s.rd GC_STRAP.STRAPS) 1 3))
  else if a = GC_CMD_STAT then
    some (packFields [(0, s.commandsOf 0), (4, s.commandsOf 1), (8, s.commandsOf 2),
      (12, (s.cmd.entries.filter CmdEntry.running).length), (15, s.alertLow.toNat)])
  else if a = GC_TXN_STAT then
    some (packFields [(0, s.img.txns.length), (3, s.img.commit.isSome.toNat), (16, (s.img.txns.map fun t => t.staged.length).sum)])
  else if a = BT_INT_STAT then some (BitVec.ofNat 32 s.intStat)
  else if a = TM_NS then some (BitVec.ofNat 32 s.time.ns)
  else if a = TM_STAT then some (setField (setField (s.reg a) 3 3 s.timeInport) 6 2 s.timeKind)
  else if a = DM_GM_STAT then some (setField (s.reg a) 16 6 s.masterPorts)
  else if a = DM_FLOOR then some (setField (s.reg a) 4 4 s.ownVersion)
  else if a = DM_FLOOR_AGE then some (BitVec.ofNat 32 s.floorAgeMs)
  else none

def State.viewEngine (s : State) (e : Nat) : Word :=
  packFields [(0, (s.eng e).queue.length), (7, (s.eng e).cur.isSome.toNat), (8, ((s.eng e).queue.filter s.stealable).length), (16, e / 8)]

def State.viewSched (s : State) (p : Nat) : Word :=
  let w := setField (setField (s.reg (AL_STAT p)) 2 1 (decide (s.planOwner p = some true)).toNat) 3 1 (s.planOwner p).isSome.toNat
  setField (setField (setField w 4 2 (s.width p 0)) 6 2 (s.width p 1)) 8 1 (s.planBusy p).toNat

/-- Registers of many instances whose value stands elsewhere in the state. -/
def State.viewInst (s : State) (b : Block) (i a : Nat) : Option Word :=
  match b.gate with
  | 13 => if a = SE_STAT i then some (s.viewEngine i) else none
  | 15 => if i < 6 ∧ a = AL_STAT i then some (s.viewSched i) else none
  | 20 =>
    if a = EN_STAT i then some (setField (s.reg a) 8 8 (s.txPaused i))
    else if a = EN_TXTS_STAT i then some (setField (s.reg a) 0 7 (s.mac i).stamps.length) else none
  | 17 => if a = PB_CFG i then some (setField (s.reg a) 0 2 (s.pbMode i)) else none
  | 21 => if i < 6 ∧ a = PD_STAT i then some (setField (s.reg a) 10 1 (s.frsArmed i).toNat) else none
  | 22 => if a = EF_TMR i then some (packFields [(0, s.faultTimer i), (16, s.retryLeft i)]) else none
  | _ => none

/-- Registers whose value comes from the silicon around them (assumption row 1): eFuse measurements, the current set of a receiver (R52, R53). -/
def State.viewFree (s : State) (b : Block) (i a : Nat) : Option (Word → Word) :=
  if b.gate = 22 ∧ a = EF_MEAS i then some id
  else if b.gate = 10 ∧ a = LN_EQ_RX i ∧ s.receives i then some eqRxOf
  else none

/-- What has been counted up to a read of the pattern counters (R62). -/
def State.patRead (s : State) (b : Block) (i a : Nat) : State :=
  if b.gate = 10 ∧ (a = LN_PAT_ERR i ∨ a = LN_PAT_BITS_LO i ∨ a = LN_PAT_BITS_HI i) then s.patCount i else s

/-- Bits that some field covers. -/
def RegSpec.fieldBits (r : RegSpec) (w : Word) : Word := w &&& ~~~ r.reservedBits

/-- RC fields clear with the read that returns them (R8, R470). -/
def RegSpec.readClear (r : RegSpec) (w : Word) : Word :=
  r.fields.foldl (fun v f => if f.access = .rc then setField v f.lo f.width 0 else v) w

/-- Read a register: its value, and what the read changes (R471). -/
def State.readReg (s : State) (a : Nat) : Word × State :=
  match s.viewGlobal a with
  | some w => (w, if a = TM_NS then s.tmLatch else s)
  | none => match blockOf a, regSpecAt a with
    | some b, some r =>
      let i := b.inst a
      if b.gate = 20 ∧ a = EN_TXTS_HEAD i then s.txHead i
      else match s.viewFree b i a with
      | some f => (r.fieldBits (f s.fresh.1), s.fresh.2)
      | none =>
        let s := s.patRead b i a
        let w := (s.viewInst b i a).getD (s.reg a)
        (r.shown w, if r.fields.any (fun f => decide (f.access = .rc)) then s.setReg a (r.readClear (s.reg a)) else s)
    | _, _ => (0#32, s)

/-- A read of one word (R23). -/
def State.busRead (s : State) (m : Master) (p : Priv) (a : Nat) : BusEnd × Word × State :=
  let c := s.busCheck m p .read a 4
  if c.1 = .done then
    match c.2.targetOf a with
    | .reg _ =>
      let r := c.2.readReg a
      (.done, r.1, r.2)
    | .ram | .patch => (.done, BitVec.ofNat 32 (ofLe (c.2.memBytes a 4)), c.2)
    | .window off => (.done, BitVec.ofNat 32 (ofLe (c.2.frameBytes off 4)), c.2.countRd 4)
    | _ => (.done, BitVec.ofNat 32 (ofLe ((List.range 4).map fun i => Config.romByte (a + i))), c.2)
  else (c.1, 0#32, c.2)

/-! ### Writes -/

/-- The write would change the value in force of an ST field (R8). -/
def RegSpec.changesSt (r : RegSpec) (old v : Word) : Bool :=
  r.fields.any fun f => f.isSt && decide (getField old f.lo f.width ≠ getField v f.lo f.width)

/-- W1C fields written 1 clear (R8). -/
def RegSpec.clear1 (r : RegSpec) (w v : Word) : Word :=
  r.fields.foldl (fun u f => if f.access = .w1c ∧ getField v f.lo f.width ≠ 0 then setField u f.lo f.width 0 else u) w

/-- Registers that ignore every write: the fixed gate regions (R477). -/
def fixedReg (a : Nat) : Bool :=
  match regionOf a with
  | some (g, r) => decide ((g = 0 ∧ r = 0) ∨ (g = 2 ∧ r = 0) ∨ (g = 7 ∧ r ≤ 1))
  | none => false

/-- What the bits of a lane's control registers start (R60, R62, R63). -/
def State.laneTriggers (s : State) (n a : Nat) (v : Word) : State :=
  if a = LN_ES_CTRL n then
    let s := if v.getLsbD 1 then s.abortScan n else s
    if v.getLsbD 0 then s.scanStart n else s
  else if a = LN_PAT_CTRL n then (if v.getLsbD 7 then s.patClear n else s)
  else if a = LN_INJ_CTRL n then (if v.getLsbD 11 then s.injFire n else s)
  else s

/-- BT_CTRL.START (R449): the block that BT_CTRL.BLOCK names after the write, which leaves it where the value is out of range (R9). -/
def State.bistGo (s : State) : State := (s.bistStart (s.rd BT_CTRL.BLOCK)).2

/-- What a write of a register of instance `i` of a block starts (R161, R335). -/
def State.instTriggers (s : State) (b : Block) (i a : Nat) (v : Word) : State :=
  if b.gate = 10 then s.laneTriggers i a v
  else if b.gate = 15 ∧ i < 6 ∧ a = AL_ARM i then
    let s := if v.getLsbD 0 then s.arm i else s
    if v.getLsbD 1 then s.disarm i else s
  else if b.gate = 22 ∧ a = EF_CMD i then (if v.getLsbD 0 then s.efClear i else s)
  else s

/-- GC_RST (R352, R353): port resets, then a warm reset. -/
def State.resetWrite (s : State) (v : Word) : State :=
  let s := s.each 6 fun p t => if v.getLsbD (8 + p) then t.portReset p else t
  if v.getLsbD 0 then s.requestWarm 3 else s

/-- What a direct write starts by its WO bits. -/
def State.triggers (s : State) (a : Nat) (v : Word) : State :=
  if a = GC_RST then s.resetWrite v
  else if a = GC_WDT then (if v.getLsbD 2 then s.kick else s)
  else if a = PS_CTRL then (if v.getLsbD 2 then s.psRequest (bitsOf v.toNat 0 2) else s)
  else if a = KS_CTRL then (if v.getLsbD 6 then s.ksGo (bitsOf v.toNat 0 4) (bitsOf v.toNat 4 2) else s)
  else if a = BT_CTRL then (if v.getLsbD 5 then s.bistGo else s)
  else if a = TM_CMD then (if v.getLsbD 0 then s.tmCmdStep else s)
  else if a = SW_FAR_CTRL then (if v.getLsbD 2 then s.startAudit else s)
  else match blockOf a with
    | some b => s.instTriggers b (b.inst a) a v
    | none => s

/-- The key registers, written and never read back (R391). -/
def keyReg (a : Nat) : Bool := decide (a = KS_KCV ∨ (KS_KEY 0 ≤ a ∧ a ≤ KS_KEY 7 ∧ a % 4 = 0))

/-- A direct write of a register after the first three checks of R23 (R8, R9, R159, R471). -/
def State.directWrite (s : State) (a : Nat) (v : Word) : BusEnd × State :=
  if fixedReg a then (.done, s)
  else match regSpecAt a with
    | none => (.done, s)
    | some r =>
      if r.changesSt (s.reg a) v then (.stField, (s.setReg GC_ST_ADDR (BitVec.ofNat 32 a)).raise Ev.GC_ST_WRITE)
      else if keyReg a then (.done, s.setReg a v)
      else match alTableOf a with
        | some (p, t) => if s.act p = t then (.done, s.raise (Ev.AL_ACT_WRITE p)) else (.done, s.writeReg a v)
        | none =>
          let s := s.writeReg a v
          let s := if r.fields.any (fun f => decide (f.access = .w1c)) then s.setReg a (r.clear1 (s.reg a) v) else s
          (.done, s.triggers a v)

/-- A write of the management bus, least significant byte at the lowest address (R23, R468, R469). -/
def State.busWrite (s : State) (m : Master) (p : Priv) (a : Nat) (data : List Byte) : BusEnd × State :=
  let c := s.busCheck m p .write a data.length
  if c.1 = .done then
    match c.2.targetOf a with
    | .reg _ => c.2.directWrite a (BitVec.ofNat 32 (ofLe data))
    | .ram | .patch => (.done, c.2.setMemBytes a data)
    | .window off => (.done, (c.2.setFrameBytes off data).countWr data.length)
    | _ => (.done, c.2)
  else (c.1, c.2)

/-- A direct write of a register by a master, and its end as the bus answers it. -/
def State.writeBy (s : State) (m : Master) (a : Nat) (v : Word) : State :=
  let r := s.busWrite m m.priv a (wordLe v)
  r.2.send (.busWrite r.1.ok)

/-- A direct read of a register by a master, and its end as the bus answers it. -/
def State.readBy (s : State) (m : Master) (a : Nat) : State :=
  let r := s.busRead m m.priv a
  r.2.2.send (.busRead r.1.ok r.2.1)

/-! ### The rows -/

/-- REGISTER_WRITE (R8): any direct write of the bus. -/
def execRegisterWrite (m : Master) (a : BitVec 32) (data : List Byte) (s : State) : Res :=
  .next (
    let r := s.busWrite m m.priv a.toNat data
    r.2.send (.busWrite r.1.ok))

/-- RC_COUNTER_READ (R470). -/
def execRcCounterRead (m : Master) (a : BitVec 32) (s : State) : Res := .next (s.readBy m a.toNat)

/-- TM_NS_READ (R284). -/
def execTmNsRead (m : Master) (s : State) : Res := .next (s.readBy m TM_NS)

/-- TXTS_HEAD_READ (R294). -/
def execTxtsHeadRead (m : Master) (mac : Fin 2) (s : State) : Res := .next (s.readBy m (EN_TXTS_HEAD mac))

/-- TEST_WRITE (R61): LN_CTRL with TEST replaced. -/
def execTestWrite (m : Master) (n : Fin 24) (on : Bool) (s : State) : Res :=
  .next (s.writeBy m (LN_CTRL n) (setField (s.reg (LN_CTRL n)) 4 1 on.toNat))

/-- ES_START (R60): `v` holds EYE, PHASE, VOLT and DWELL. -/
def execEsStart (m : Master) (n : Fin 24) (v : BitVec 32) (s : State) : Res := .next (s.writeBy m (LN_ES_CTRL n) (setField v 0 2 1))

/-- ES_STOP (R60). -/
def execEsStop (m : Master) (n : Fin 24) (v : BitVec 32) (s : State) : Res := .next (s.writeBy m (LN_ES_CTRL n) (setField v 0 2 2))

/-- PAT_CLEAR (R62): `v` holds the other fields. -/
def execPatClear (m : Master) (n : Fin 24) (v : BitVec 32) (s : State) : Res := .next (s.writeBy m (LN_PAT_CTRL n) (setField v 7 1 1))

/-- INJ_FIRE (R63): `v` holds the other fields. -/
def execInjFire (m : Master) (n : Fin 24) (v : BitVec 32) (s : State) : Res := .next (s.writeBy m (LN_INJ_CTRL n) (setField v 11 1 1))

/-- FARRIER_START (R141): `v` holds EN, RECLAIM and PERIOD. -/
def execFarrierStart (m : Master) (v : BitVec 32) (s : State) : Res := .next (s.writeBy m SW_FAR_CTRL (setField v 2 1 1))

/-- AUDIT_COMPLETE (R142): with the duplicates the scan found. -/
def execAuditComplete (dups : Fin 65536) (s : State) : Res := .next (s.auditEnd dups)

/-- EGRESS_PACKET_ARRIVE (R117): the next packet handed over at adapter `a`. -/
def execEgressPacketArrive (a : Fin 256) (s : State) : Res := .next (s.egressArrive a)

/-- ARM_WRITE and DISARM_WRITE (R159). -/
def execArmWrite (m : Master) (p : Fin 6) (s : State) : Res := .next (s.writeBy m (AL_ARM p) 1#32)
def execDisarmWrite (m : Master) (p : Fin 6) (s : State) : Res := .next (s.writeBy m (AL_ARM p) 2#32)

/-- PUSH_TAIL_WRITE (R210). -/
def execPushTailWrite (m : Master) (d : Fin 4) (tail : Fin 4096) (s : State) : Res := .next (s.writeBy m (DS_PUSH_TAIL d) (BitVec.ofNat 32 tail))

/-- TM_CMD_STEP (R299). -/
def execTmCmdStep (m : Master) (s : State) : Res := .next (s.writeBy m TM_CMD 1#32)

/-- EF_CMD_CLEAR (R335). -/
def execEfCmdClear (m : Master) (n : Fin 8) (s : State) : Res := .next (s.writeBy m (EF_CMD n) 1#32)

/-- CLOCK_ENABLE_WRITE (R348): a direct write, which no open tunnel holds up. -/
def execClockEnableWrite (m : Master) (v : BitVec 32) (s : State) : Res := .next (s.writeBy m GC_CLKEN v)

/-- WARM_RESET_WRITE (R352). -/
def execWarmResetWrite (m : Master) (s : State) : Res := .next (s.writeBy m GC_RST 1#32)

/-- PORT_RESET_WRITE (R353). -/
def execPortResetWrite (m : Master) (ports : BitVec 6) (s : State) : Res := .next (s.writeBy m GC_RST (setField 0#32 8 6 ports.toNat))

/-- WATCHDOG_KICK (R354): `v` holds EN, ACT and TMO. -/
def execWatchdogKick (m : Master) (v : BitVec 32) (s : State) : Res := .next (s.writeBy m GC_WDT (setField v 2 1 1))

/-- PS_GO_WRITE (R361). -/
def execPsGoWrite (m : Master) (target : Fin 4) (s : State) : Res := .next (s.writeBy m PS_CTRL (BitVec.ofNat 32 (4 + target)))

/-- A write of KS_CTRL that starts an operation (R379, R380). -/
def State.ksWrite (s : State) (m : Master) (op attr : Nat) : State := s.writeBy m KS_CTRL (BitVec.ofNat 32 (64 + 16 * attr + op))

/-- The operations of the key unit (R379, R380). -/
def execLoad (m : Master) (attr : Fin 4) (s : State) : Res := .next (s.ksWrite m 1 attr)
def execLoadWrapped (m : Master) (attr : Fin 4) (s : State) : Res := .next (s.ksWrite m 2 attr)
def execUnwrapLoad (m : Master) (attr : Fin 4) (s : State) : Res := .next (s.ksWrite m 3 attr)
def execErase (m : Master) (s : State) : Res := .next (s.ksWrite m 4 0)
def execEncrypt (m : Master) (s : State) : Res := .next (s.ksWrite m 5 0)
def execDecrypt (m : Master) (s : State) : Res := .next (s.ksWrite m 6 0)
def execWrap (m : Master) (s : State) : Res := .next (s.ksWrite m 7 0)
def execDerive (m : Master) (s : State) : Res := .next (s.ksWrite m 8 0)

/-- BIST_START (R449). -/
def execBistStart (m : Master) (block : Fin 32) (s : State) : Res := .next (s.writeBy m BT_CTRL (BitVec.ofNat 32 (32 + block)))

end Sys2Proof.Machine
end

