-- ==== Sys2Proof/Machine/Catalogue.lean ====
section
/-!
DEFINITION. The command catalogue (R432 to R446): which commands exist since which version, which bodies are well formed (R424 order 9), how long
their responses are.
-/

namespace Sys2Proof.Machine

/-- The opcodes of the catalogue. -/
def opcodes : List Nat :=
  [0x0000, 0x0001, 0x0002, 0x0003, 0x0004, 0x0100, 0x0101, 0x0102, 0x0103, 0x0104, 0x0105, 0x0200, 0x0201, 0x0202, 0x0203, 0x0204] ++
  [0x0300, 0x0301, 0x0302, 0x0400, 0x0401, 0x0402, 0x0403, 0x0500, 0x0501, 0x0502, 0x0503, 0x0600, 0x0601, 0x0602, 0x0603, 0x0604] ++
  [0x0700, 0x0701, 0x0702, 0x0703, 0x0704, 0x0705, 0x0800, 0x0801, 0x0802, 0x0900, 0x0901, 0x0902, 0x0A00, 0x0A01, 0x0A02] ++
  [0x0B00, 0x0B01, 0x0B02, 0x0B03, 0x0B04, 0x0C00, 0x0C01, 0x0C02, 0x0C03, 0x0C04]

/-- Commands that version 2 lacks (R427). -/
def since3 (op : Nat) : Bool := decide (op = 0x0102 ∨ op = 0x0105 ∨ op = 0x0503 ∨ op = 0x0902 ∨ op = 0x0A02)

/-- Commands of privilege H only (R430). -/
def hOnly (op : Nat) : Bool := decide (op / 256 = 1 ∨ op = 0x0703 ∨ op = 0x0B04)

/-- Commands that need an open transaction; every other one needs TXN = 0. -/
def needsTxn (op : Nat) : Bool := decide (op = 0x0101 ∨ op = 0x0102 ∨ op = 0x0103 ∨ op = 0x0104)

/-- Commands that write at privilege F while no image is active, which R403 denies. -/
def writesPower (op : Nat) : Bool := decide (op = 0x0603 ∨ op = 0x0C01 ∨ op = 0x0C02 ∨ op = 0x0C04)

/-- Bytes of a flash area (R393). -/
def slotSize (slot : Nat) : Nat := if slot = 2 then 262144 else 1048576

/-- COUNT entries of `n` bytes after a count of 1 to 4,096. -/
def countOk (b : List Byte) (n : Nat) : Bool := decide (1 ≤ leAt b 0 2 ∧ leAt b 0 2 ≤ 4096 ∧ b.length = 4 + n * leAt b 0 2)

/-- Points of a scan (R437). -/
def scanSide (b : List Byte) (i : Nat) : Int := toSigned 8 (byteAt b (i + 1)) - toSigned 8 (byteAt b i) + 1
def scanOk (b : List Byte) : Bool :=
  let lo := fun i => toSigned 8 (byteAt b i)
  decide (byteAt b 0 < 24 ∧ byteAt b 1 ≤ 2 ∧ 10 ≤ byteAt b 2 ∧ byteAt b 2 ≤ 30 ∧ -32 ≤ lo 4 ∧ lo 4 ≤ lo 5 ∧ lo 5 ≤ 31 ∧ -64 ≤ lo 6 ∧ lo 6 ≤ lo 7 ∧
    lo 7 ≤ 63 ∧ scanSide b 4 * scanSide b 6 ≤ 4096)

/-- The entries of an allotment table write. -/
def tableEntries (b : List Byte) : List (Nat × Nat) := (List.range (leAt b 2 2)).map fun i => (leAt b (4 + 8 * i) 4, leAt b (8 + 8 * i) 4)

/-- The body of a command is well formed (R424 order 9). -/
def bodyOk (op : Nat) (b : List Byte) : Bool :=
  let n := b.length
  let x := byteAt b 0
  let y := byteAt b 1
  match op with
  | 0x0001 => decide (n ≤ 256)
  | 0x0002 => decide ((n = 1 ∨ n = 2) ∧ (x = 0 ∨ (x = 1 ∧ n = 2 ∧ 0 < y ∧ y < 64)))
  | 0x0003 => decide (n = 1 ∧ x ≤ 3)
  | 0x0004 => decide (n = 4 ∧ x < 8 ∧ y ≤ 3 ∧ leAt b 2 2 < 16384)
  | 0x0101 | 0x0C01 => countOk b 8
  | 0x0102 | 0x0C00 => countOk b 4
  | 0x0201 | 0x0204 => decide (n = 1 ∧ x ≤ 2)
  | 0x0202 => decide (8 ≤ n ∧ x ≤ 2 ∧ leAt b 4 4 % 4 = 0 ∧ n % 4 = 0 ∧ leAt b 4 4 + (n - 8) ≤ slotSize x)
  | 0x0203 => decide (n = 12 ∧ x ≤ 2 ∧ leAt b 4 4 + leAt b 8 4 ≤ slotSize x)
  | 0x0301 | 0x0302 => decide (n = 1)
  | 0x0400 | 0x0500 | 0x0502 | 0x0600 => decide (n = 1 ∧ x < 6)
  | 0x0401 =>
    decide (4 ≤ n ∧ x < 6 ∧ y < 2 ∧ 1 ≤ leAt b 2 2 ∧ leAt b 2 2 ≤ 32 ∧ n = 4 + 8 * leAt b 2 2) &&
      (tableEntries b).all fun e => decide (e.1 % 4 = 0 ∧ e.1 ≤ 0x7C)
  | 0x0402 => decide (n = 2 ∧ x < 6 ∧ y < 2)
  | 0x0403 => decide (n = 1 ∧ x ≠ 0)
  | 0x0501 => decide (n = 2 ∧ x < 6 ∧ y < 4)
  | 0x0503 => decide (n = 8) && scanOk b
  | 0x0601 => decide (n = 2 ∧ x < 6 ∧ y ≤ 8)
  | 0x0602 | 0x0603 => decide (n = 1 ∧ x < 8)
  | 0x0700 => decide (1 ≤ x ∧ x ≤ 3 ∧ y ≤ 3 ∧ n = (if x = 1 then 40 else 48))
  | 0x0701 => decide (5 ≤ x ∧ x ≤ 8 ∧ 4 ≤ n ∧ n ≤ 65539)
  | 0x0703 => decide (n = 1 ∧ x ≤ 1)
  | 0x0705 => decide (n = 2 ∧ x ≤ 25)
  | 0x0800 => decide (n = 6)
  | 0x0801 => decide (n = 1)
  | 0x0901 => decide ((x = 0 ∧ n = 18 ∧ leAt b 14 4 < 1000000000) ∨ (x = 1 ∧ n = 16))
  | 0x0902 => decide (n = 2 ∧ x < 2 ∧ 1 ≤ y ∧ y ≤ 64)
  | 0x0A00 | 0x0A02 => decide (n = 1 ∧ x < 4)
  | 0x0A01 => decide (n = 2 ∧ x < 4)
  | 0x0B02 => decide (n = 2)
  | 0x0B03 => decide (n = 4 ∧ 1 ≤ leAt b 2 2 ∧ leAt b 2 2 ≤ 4096 ∧ leAt b 0 2 + leAt b 2 2 ≤ 16384)
  | 0x0B04 =>
    decide (20 ≤ n ∧ leAt b 0 2 < 16384 ∧ 1 ≤ leAt b 2 2 ∧ leAt b 2 2 ≤ 10000 ∧ n = 20 + leAt b 12 4 ∧ leAt b 4 2 ≠ 0x0B04)
  | 0x0C02 => decide (n = 12)
  | 0x0C03 => decide (n = 8 ∧ 1 ≤ y ∧ y ≤ 32)
  | 0x0C04 => decide (8 ≤ n ∧ 1 ≤ y ∧ y ≤ 32 ∧ n = 8 + y)
  | _ => decide (n = 0)

/-- Log entries that LOG_READ returns (R440, R452). -/
def State.logFrom (s : State) (b : List Byte) : List LogEntry := (s.test.log.filter fun e => decide (leAt b 0 4 ≤ e.index)).take (leAt b 4 2)

/-- The certificates of the hub, as CERT_READ returns them. -/
def certBytes : List Byte := certs.flatMap fun c => le 2 c.length ++ c

/-- Bytes of response data, where the request decides them (R424 order 9). -/
def State.responseSize (s : State) (op : Nat) (b : List Byte) : Nat :=
  match op with
  | 0x0001 => b.length
  | 0x0102 => 8 * leAt b 0 2
  | 0x0203 => leAt b 8 4
  | 0x0503 => (4 * (scanSide b 4 * scanSide b 6)).toNat
  | 0x0701 => b.length + 12
  | 0x0704 => certBytes.length
  | 0x0800 => 4 + logSize (s.logFrom b)
  | 0x0902 => 4 + 16 * byteAt b 1
  | 0x0B01 => 8 + 9 * 64
  | 0x0B03 => 4 * leAt b 2 2
  | 0x0C00 => 4 * leAt b 0 2
  | _ => 0

end Sys2Proof.Machine
end

