-- ==== Sys2Proof/Machine/Command.lean ====
section
/-!
DEFINITION. What each command of the catalogue does when it executes (R432 to R446). Register accesses go over the management bus at the transport's
privilege (R22, R421), or at privilege F while no image is active (R403). A failed access ends a command as R445 sets.
-/

namespace Sys2Proof.Machine

/-! ### Register accesses of a command -/

/-- The status a failed access gives (R445, R468). -/
def BusEnd.status (e : BusEnd) : Nat :=
  match e with
  | .done | .zeros => stOk
  | .unmapped | .badSize | .gated => stInvalid
  | .denied => stDenied
  | .stField => stNoTxn

/-- An image is active (R403). -/
def State.imageActive (s : State) : Bool := decide (s.rd GC_IMG_STAT.STATE = 1)

/-- The privilege of a command's accesses (R22, R403). -/
def State.cmdPriv (s : State) (e : CmdEntry) : Priv := if s.imageActive then e.owner.priv else .f

/-- DETAIL of a failed access: its address, for the register-access commands (R420). -/
def CmdEntry.detail (e : CmdEntry) (a : Nat) : Nat := if e.op / 256 = 0x0C ∨ e.op = 0x0102 then a else 0

/-- Read registers in order, once each, up to the first access that fails: the end and address of that one, and the bytes. -/
def State.readRegs (s : State) (m : Master) (p : Priv) : List Nat → List Byte → BusEnd × Nat × List Byte × State
  | [], acc => (.done, 0, acc, s)
  | a :: l, acc =>
    let r := s.busRead m p a
    if r.1.ok then r.2.2.readRegs m p l (acc ++ wordLe r.2.1) else (r.1, a, acc, r.2.2)

/-- Write registers in order, up to the first access that fails: its end, its address, the writes made. -/
def State.writeRegs (s : State) (m : Master) (p : Priv) (n : Nat) : List (Nat × Nat) → BusEnd × Nat × Nat × State
  | [] => (.done, 0, n, s)
  | (a, v) :: l =>
    let r := s.busWrite m p a (le 4 v)
    if r.1.ok then r.2.writeRegs m p (n + 1) l else (r.1, a, n, r.2)

/-- Answer with what `f` makes of registers read. -/
def State.withRegs (s : State) (e : CmdEntry) (l : List Nat) (f : List Byte → State → State) : State :=
  let r := s.readRegs e.owner.master (s.cmdPriv e) l []
  if r.1.ok then f r.2.2.1 r.2.2.2 else r.2.2.2.answer e r.1.status (e.detail r.2.1) []

/-- Answer with registers read, in order (R421). -/
def State.answerRegs (s : State) (e : CmdEntry) (l : List Nat) : State := s.withRegs e l fun d t => t.answer e stOk 0 d

/-- Write registers at a privilege, then go on. -/
def State.withWrites (s : State) (e : CmdEntry) (p : Priv) (l : List (Nat × Nat)) (f : State → State) : State :=
  let r := s.writeRegs e.owner.master p 0 l
  if r.1.ok then f r.2.2.2 else r.2.2.2.answer e r.1.status (e.detail r.2.1) []

/-! ### System group (R432) -/

def State.cmdGetInfo (s : State) (e : CmdEntry) : State :=
  s.withRegs e [GC_ID, PS_STAT, GC_IMG_STAT, GC_IMG_REL, GC_RST_CAUSE] fun d t =>
    t.answer e stOk 0 (d.take 4 ++ le 8 t.uid ++ [3#8] ++ le 1 t.host.toNat ++ le 1 (t.rd PS_STAT.STATE) ++ le 1 (t.rd GC_IMG_STAT.SLOT) ++ d.drop 12)

def State.cmdEcho (s : State) (e : CmdEntry) : State := s.answer e stOk 0 e.body

/-- The response leaves before a warm reset (R352). -/
def State.cmdReset (s : State) (e : CmdEntry) : State :=
  let warm := decide (byteAt e.body 0 = 0)
  let c := s.busCheck e.owner.master (s.cmdPriv e) .write GC_RST 4
  if c.1 ≠ .done then c.2.answer e c.1.status 0 []
  else
    let s := c.2.answer e stOk 0 []
    if warm then s.requestWarm 3 else s.each 6 fun p t => if bitOf (byteAt e.body 1) p then t.portReset p else t

def State.cmdPowerState (s : State) (e : CmdEntry) : State :=
  let c := s.busCheck e.owner.master (s.cmdPriv e) .write PS_CTRL 4
  if c.1 ≠ .done then c.2.answer e c.1.status 0 [] else (c.2.setWait e .power).psRequest (byteAt e.body 0)

/-- NOTIFY_CFG (R456): the SMBALERT# condition looks at entries from now on that no SMBus LOG_READ has passed. -/
def State.cmdNotifyCfg (s : State) (e : CmdEntry) : State :=
  let x := byteAt e.body 0
  let c := { s.cmd with
    notifyUsb := bitOf x 0, notifyAlert := bitOf x 1, notifyA0 := bitOf x 2, notifySev := byteAt e.body 1, notifyHub := leAt e.body 2 2 }
  { s with cmd := c }.answer e stOk 0 []

/-! ### Transaction group (R433) -/

def State.cmdBegin (s : State) (e : CmdEntry) : State :=
  let r := s.beginTxn e.owner
  r.2.2.answer e r.1 0 (if r.1 = stOk then le 2 r.2.1 else [])

/-- The entries of address and value after COUNT. -/
def pairEntries (b : List Byte) : List (Nat × Nat) := (List.range (leAt b 0 2)).map fun i => (leAt b (4 + 8 * i) 4, leAt b (8 + 8 * i) 4)
def addrEntries (b : List Byte) : List Nat := (List.range (leAt b 0 2)).map fun i => leAt b (4 + 4 * i) 4

def State.cmdStage (s : State) (e : CmdEntry) : State :=
  let r := (s.touchTxn e.txn).stageAll e.owner e.txn 0 ((pairEntries e.body).map fun x => (x.1, BitVec.ofNat 32 x.2))
  r.2.2.2.answer e r.1 r.2.1 (if r.1 = stOk then le 2 r.2.2.1 else [])

/-- STAGE_READ: staged values, or values in force read over the bus, up to the first access that fails (R445). -/
def State.stageRead (s : State) (m : Master) (p : Priv) (staged : Tab Word) : List Nat → List Byte → Nat × Nat × List Byte × State
  | [], acc => (stOk, 0, acc, s)
  | a :: l, acc =>
    match staged.find? fun x => decide (x.1 = a) with
    | some x => s.stageRead m p staged l (acc ++ wordLe x.2 ++ le 4 1)
    | none =>
      let r := s.busRead m p a
      if r.1.ok then r.2.2.stageRead m p staged l (acc ++ wordLe r.2.1 ++ le 4 0) else (r.1.status, a, acc, r.2.2)

def State.cmdStageRead (s : State) (e : CmdEntry) : State :=
  let staged := ((s.txnBy e.owner e.txn).map Txn.staged).getD []
  let r := (s.touchTxn e.txn).stageRead e.owner.master (s.cmdPriv e) staged (addrEntries e.body) []
  r.2.2.2.answer e r.1 r.2.1 (if r.1 = stOk then r.2.2.1 else [])

/-- COMMIT (R408, R410, R411): validation; then the affected adapters are armed to stop, and the command waits for the quiet point. -/
def State.cmdCommit (s : State) (e : CmdEntry) : State :=
  match s.txnBy e.owner e.txn with
  | none => s.answer e stNoTxn 0 []
  | some t =>
    if s.img.commit.isSome then s.answer e stBusy 0 []
    else
      let s := s.touchTxn e.txn
      match s.validate t.staged with
      | some (st, a) => (s.raise Ev.GC_VAL_FAIL).answer e st a []
      | none =>
        let l := s.affected t.staged
        (((s.loadShadows t.staged).modImg fun i => { i with commit := some (t.id, l) }).haltAdapters l true).setWait e (.commit t.id)

def State.cmdRollback (s : State) (e : CmdEntry) : State := (s.dropTxn e.txn).answer e stOk 0 []

def State.cmdTxnInfo (s : State) (e : CmdEntry) : State :=
  match s.txnOf e.owner with
  | some t => s.answer e stOk 0 (le 2 t.id ++ le 2 t.staged.length ++ le 4 ((s.uptime - t.last) / 10000000))
  | none => s.answer e stOk 0 (le 8 0)

/-! ### Image group (R434) -/

/-- Flash offset of an area (R393). -/
def areaBase (slot : Nat) : Nat := if slot = 2 then 0x200000 else slotBase (decide (slot = 1))

/-- The slot runs. -/
def State.running (s : State) (slot : Nat) : Bool := s.imageActive && decide (s.rd GC_IMG_STAT.SLOT = slot)

/-- The patch area of the flash as R382 judges it: 0xFE erased, else a status; its version. -/
def State.flashPatch (s : State) : Nat × Nat :=
  let b := s.flashBytes 0x200000 patchSize
  if (b.take 16).all fun x => decide (x = 0xFF#8) then (0xFE, 0)
  else match Config.patchCheck b ((List.range 12).map fun i => s.reg (KS_ROMKH i)) with
  | some v => (if onesIn (s.rd KS_PATCH_MIN.COUNT) 16 ≤ v then stOk else stVersion, v)
  | none => (stIntegrity, 0)

/-- One entry of IMG_INFO. The length of a patch is in a header whose layout the spec does not give (assumption row 1). -/
def State.slotInfo (s : State) (b : Bool) : List Byte :=
  let h := s.slotHeader b
  let st := s.slotStatus b true
  if st = 0xFE then le 16 0xFE else le 1 st ++ le 1 (hdrSvn h) ++ le 1 (hdrRole h) ++ le 1 0 ++ le 4 (hdrRelease h) ++ le 4 (hdrLen h) ++ le 4 0

def State.cmdImgInfo (s : State) (e : CmdEntry) : State :=
  let p := s.flashPatch
  let f := s.fresh
  let info := le 1 p.1 ++ le 3 0 ++ le 4 p.2 ++ (if p.1 = 0xFE then le 4 0 else wordLe f.1) ++ le 4 0
  f.2.answer e stOk 0 (s.slotInfo false ++ s.slotInfo true ++ info ++ le 1 (if s.imageActive then s.rd GC_IMG_STAT.SLOT else 3))

/-- Erase an area of the flash: every byte reads 0xFF. -/
def State.eraseFlash (s : State) (base n : Nat) : State := { s with flash := s.flash.filter fun c => !(decide (base ≤ c.1 ∧ c.1 < base + n)) }

def State.cmdImgErase (s : State) (e : CmdEntry) : State :=
  let slot := byteAt e.body 0
  if s.running slot then s.answer e stConflict 0 [] else (s.eraseFlash (areaBase slot) (slotSize slot)).answer e stOk 0 []

/-- Program bytes: bits go from 1 to 0 only. -/
def State.program (s : State) (a : Nat) : List Byte → State
  | [] => s
  | b :: l => (s.setFlashByte a (s.flashByte a &&& b)).program (a + 1) l

def State.cmdImgWrite (s : State) (e : CmdEntry) : State :=
  let slot := byteAt e.body 0
  let a := areaBase slot + leAt e.body 4 4
  let data := e.body.drop 8
  if s.running slot then s.answer e stConflict 0 []
  else
    let s := s.program a data
    s.answer e (if s.flashBytes a data.length = data then stOk else stIntegrity) 0 []

def State.cmdImgRead (s : State) (e : CmdEntry) : State :=
  s.answer e stOk 0 (s.flashBytes (areaBase (byteAt e.body 0) + leAt e.body 4 4) (leAt e.body 8 4))

/-- IMG_CHECK: every check of R395 and R401 but Validation; an erased slot has wrong header fields. -/
def State.checkSlot (s : State) (b : Bool) : Nat :=
  if headerErased (s.slotHeader b) ∨ ¬ headerCandidate (s.slotHeader b) then stInvalid
  else
    let img := s.slotImage b
    let st := s.imageStatus img
    if st ≠ stOk then st
    else match parseRecords 1048576 (bytesAt img 256 (hdrLen img - 352)) with
    | none => stInvalid
    | some rs => if rs.length ≠ hdrRecords img then stInvalid else match s.takeRecords {} rs with
      | .error x => x
      | .ok _ => stOk

def State.cmdImgCheck (s : State) (e : CmdEntry) : State :=
  let slot := byteAt e.body 0
  if slot = 2 then
    let p := s.flashPatch
    if p.1 = stOk then s.answer e stOk 0 (le 4 p.2) else s.answer e (if p.1 = 0xFE then stInvalid else p.1) 0 []
  else
    let b := decide (slot = 1)
    let st := s.checkSlot b
    s.answer e st 0 (if st = stOk then le 4 (hdrRelease (s.slotHeader b)) else [])

/-! ### Tunnel group (R435) -/

def State.cmdTunnelList (s : State) (e : CmdEntry) : State :=
  s.withRegs e ((List.range 256).map TA_STAT) fun d t =>
    t.answer e stOk 0 (le 32 ((List.range 256).map fun a => byteAt d (4 * a) % 2 * 2 ^ a).sum)

def State.cmdTunnelStat (s : State) (e : CmdEntry) : State :=
  let a := byteAt e.body 0
  s.answerRegs e [TA_STAT a, TA_SEQ a, TA_EVT a, TA_EVT_CNT0 a, TA_EVT_CNT1 a, TA_PKT_TX a, TA_PKT_RX a, TA_BYTE_TX_LO a, TA_BYTE_TX_HI a,
    TA_BYTE_RX_LO a, TA_BYTE_RX_HI a, TA_DROP a]

/-- TUNNEL_REOPEN: both ends restart; a multicast end has no peer A0 to send to. -/
def State.cmdTunnelReopen (s : State) (e : CmdEntry) : State :=
  let a := byteAt e.body 0
  if a = 0 ∨ s.adpType a = 0 ∨ s.on (TA_PEER.MCAST a) ∨ s.rd (TA_CFG0.DIR a) = 2 then s.answer e stInvalid 0 []
  else if s.img.commit.isSome then s.answer e stConflict 0 []
  else (((s.tunnelClosed a).sendTunnelClose a (s.rd (TA_PEER.HUB a))).sendTunnelOpen a).answer e stOk 0 []

/-! ### Allotment group (R436): writes at privilege H (R168) -/

def State.cmdAlStatus (s : State) (e : CmdEntry) : State :=
  let p := byteAt e.body 0
  s.answerRegs e [AL_STAT p, AL_BACKLOG p, AL_EVT p, AL_EVT_CNT0 p, AL_EVT_CNT1 p, AL_EPOCH_NUM]

/-- AL_TABLE_WRITE: the first write of the active table is ignored, as R159 sets, and ends the command. -/
def State.cmdAlTableWrite (s : State) (e : CmdEntry) : State :=
  let p := byteAt e.body 0
  let t := byteAt e.body 1
  let l := (tableEntries e.body).map fun x => (AL_TBL0_HDR p + 0x80 * t + x.1, x.2)
  if s.act p = t then s.withWrites e .h (l.take 1) fun u => u.answer e stConflict 0 []
  else s.withWrites e .h l fun u => u.answer e stOk 0 []

def State.cmdAlArm (s : State) (e : CmdEntry) : State :=
  let p := byteAt e.body 0
  s.withWrites e .h [(AL_ARM p, 1 + byteAt e.body 1)] fun t => t.answerRegs e [AL_STAT p]

def State.cmdPolicerRead (s : State) (e : CmdEntry) : State :=
  let i := byteAt e.body 0
  s.answerRegs e [AL_POL_RATE i, AL_POL_BURST i, AL_POL_PASS i, AL_POL_DROP i]

/-! ### Link and port group (R437) -/

def State.cmdLinkStatus (s : State) (e : CmdEntry) : State :=
  let p := byteAt e.body 0
  s.answerRegs e ([CL_STAT p, CL_EVT p, CL_EVT_CNT0 p, CL_EVT_CNT1 p, CL_CW_CORR p, CL_CW_UNCORR p, CL_SYNC_OFS p] ++ (portLanes p).map LN_STAT)

/-- Thrumlink may be entered again (R323): a DFP without a mode looks for it, and a port that stayed unlinked in the mode trains again. Which link command ends
LSTATE 5 the spec does not say (R83): this one and the port reset do (assumption row 149). -/
def State.allowThrum (s : State) (p : Nat) : State :=
  let s := s.modPd p fun x => { x with noTl := false }
  if s.lstate p = 5 ∧ s.rd (PD_STAT.MODE p) = 1 then s.startTraining p
  else if s.attached p ∧ s.contract p ∧ (s.pd p).asked.isNone then s.startDiscovery p else s

def State.cmdLinkAction (s : State) (e : CmdEntry) : State :=
  let p := byteAt e.body 0
  match byteAt e.body 1 with
  | 0 => (s.portReset p).answer e stOk 0 []
  | 1 => (s.allowThrum p).answer e stOk 0 []
  | 2 => if s.lstate p ≠ 4 ∨ ¬ s.linkEnc p then s.answer e stConflict 0 [] else (s.keyChange p).answer e stOk 0 []
  | _ =>
    if s.lstate p ≠ 4 then s.answer e stConflict 0 []
    else
      let f := s.fresh
      let s := ((f.2.modLink p fun l => { l with echoTok := f.1.toNat }).sendCtl p 0x3F (be 4 f.1.toNat))
      s.setWait e (.echo p s.time)

def State.cmdRoleSwap (s : State) (e : CmdEntry) : State :=
  let p := byteAt e.body 0
  if s.linkIsUp p then (s.sendRoleSwap p 0).setWait e (.roleSwap p) else s.answer e stConflict 0 []

/-- The points of a scan: VOLT in the outer loop, PHASE in the inner one, as their fields hold them. -/
def scanGrid (b : List Byte) : List (Nat × Nat) :=
  (List.range (scanSide b 6).toNat).flatMap fun (v : Nat) => (List.range (scanSide b 4).toNat).map fun (ph : Nat) =>
    (ofSigned 6 (toSigned 8 (byteAt b 4) + (ph : Int)), ofSigned 7 (toSigned 8 (byteAt b 6) + (v : Int)))

def State.cmdEyeScan (s : State) (e : CmdEntry) : State :=
  let n := byteAt e.body 0
  let c := s.busCheck e.owner.master (s.cmdPriv e) .write (LN_ES_CTRL n) 4
  if c.1 ≠ .done then c.2.answer e c.1.status 0 []
  else if c.2.on (LN_ES_CTRL.BUSY n) then c.2.answer e stBusy 0 []
  else ((c.2.wr (LN_ES_CTRL.EYE n) (byteAt e.body 1)).wr (LN_ES_CTRL.DWELL n) (byteAt e.body 2)).scanPoints e n (scanGrid e.body) []

/-! ### Power group (R438) -/

def State.cmdPdStatus (s : State) (e : CmdEntry) : State :=
  let p := byteAt e.body 0
  s.answerRegs e [PD_STAT p, PD_CONTRACT p, PD_ALLOC p, PD_CABLE_VDO p, PD_PARTNER_IDH p, PD_PARTNER_TL p]

/-- A PD_ACTION is possible in the port's roles and contract (R312, R438). -/
def State.pdPossible (s : State) (p action : Nat) : Bool :=
  s.attached p && match action with
  | 0 => true
  | 1 => s.contract p
  | 3 => s.contract p && (s.on (PD_STAT.VCONN p) || !(s.pd p).vconnLost)
  | 2 => s.contract p && decide (s.rd (PD_STAT.MODE p) = 0)
  | 4 => s.isSource p && s.contract p
  | 5 => s.contract p
  | 6 => !s.isSource p && s.contract p && s.on (PD_CFG.EPR_EN p) && !s.on (PD_STAT.EPR p) && !(s.pd p).rev2
  | 7 => s.on (PD_STAT.EPR p)
  | _ => decide (s.rd (PD_STAT.MODE p) ≠ 0)

/-- Start the exchange of a PD_ACTION. -/
def State.pdStart (s : State) (p action : Nat) : State :=
  match action with
  | 0 => s.sendHardReset p
  | 1 => s.askSwap p .prSwap
  | 2 => s.askSwap p .drSwap
  | 3 => s.askSwap p .vconnSwap
  | 4 => s.sendCaps p
  | 5 => s.askSwap p .getSourceCap
  | 6 => s.askSwap p .eprEnter
  | 7 =>
    let s := (s.pdSend p .eprExit).wr (PD_STAT.EPR p) 0
    if s.isSource p then s.sendCaps p else s
  | _ =>
    let s := if s.rd (PD_STAT.MODE p) = 1 then s.sendCtl p 0x38 (be 1 0) else s
    (s.modPd p fun x => { x with asked := some .vdm }).pdSend p .vdm [0, if s.rd (PD_STAT.MODE p) = 2 then 0xFF01 else 0x2E7D, 5, 0]

/-- PD_ACTION: answered when the exchange ends. One that finds an exchange of the hub running is answered BUSY. -/
def State.cmdPdAction (s : State) (e : CmdEntry) : State :=
  let p := byteAt e.body 0
  let a := byteAt e.body 1
  if ¬ s.pdPossible p a then s.answer e stInvalid 0 []
  else if s.pdCommanded p ∨ (a ≠ 0 ∧ ((s.pd p).asked.isSome ∨ (s.pd p).swap.isSome)) then s.answer e stBusy 0 []
  else (s.setWait e (.pd p a)).pdStart p a

def State.cmdEfStatus (s : State) (e : CmdEntry) : State :=
  let n := byteAt e.body 0
  s.answerRegs e [EF_STAT n, EF_TMR n, EF_MEAS n, EF_EVT n, EF_EVT_CNT0 n, EF_EVT_CNT1 n]

def State.cmdEfClear (s : State) (e : CmdEntry) : State :=
  s.withWrites e (s.cmdPriv e) [(EF_CMD (byteAt e.body 0), 1)] fun t => t.answer e stOk 0 []

def State.cmdBudgetStatus (s : State) (e : CmdEntry) : State := s.answerRegs e ([PDB_STAT, PDB_EVT, PDB_EVT_CNT] ++ (List.range 6).map PD_ALLOC)

/-! ### Keys and security group (R439) -/

/-- Start a key-unit operation for a command. -/
def State.cmdKey (s : State) (e : CmdEntry) (op attr : Nat) (input kcv : List Byte) : State :=
  let c := s.busCheck e.owner.master (s.cmdPriv e) .write KS_CTRL 4
  if c.1 ≠ .done then c.2.answer e c.1.status 0 []
  else
    let r := c.2.keyStart op attr input kcv 0 (some e.owner)
    match r.1 with
    | some st => r.2.answer e st 0 []
    | none => r.2.setWait e .key

def State.cmdKeyLoad (s : State) (e : CmdEntry) : State :=
  s.cmdKey e (byteAt e.body 0) (byteAt e.body 1) (e.body.drop 8) (be 4 (leAt e.body 4 4))
def State.cmdKeyOp (s : State) (e : CmdEntry) : State := s.cmdKey e (byteAt e.body 0) 0 (e.body.drop 4) []
def State.cmdKeyErase (s : State) (e : CmdEntry) : State := s.cmdKey e 4 0 [] []

/-- ROLLBACK_ADV (R375): the fuses rise to the running version, the shadow at the next reset. -/
def State.cmdRollbackAdv (s : State) (e : CmdEntry) : State :=
  if byteAt e.body 0 = 0 then
    let n := max s.fuses.imgMin (if s.imageActive then min 32 (s.rd GC_IMG_INFO.SVN) else 0)
    { s with fuses := { s.fuses with imgMin := n } }.answer e stOk 0 (le 1 n)
  else
    let n := max s.fuses.patchMin (min 16 (s.keys.patch.getD 0))
    { s with fuses := { s.fuses with patchMin := n } }.answer e stOk 0 (le 1 n)

def State.cmdCertRead (s : State) (e : CmdEntry) : State := s.answer e stOk 0 certBytes

def State.cmdGateViol (s : State) (e : CmdEntry) : State :=
  let g := byteAt e.body 0
  s.withRegs e [BG_VIOL_INFO g, BG_VIOL_ADDR_LO g, BG_VIOL_ADDR_HI g, BG_VIOL_TS_S g, BG_VIOL_TS_NS g, BG_VIOL_MORE g] fun d t =>
    if bitOf (byteAt e.body 1) 0 then t.withWrites e (t.cmdPriv e) [(BG_VIOL_INFO g, 0x80000000)] fun u => u.answer e stOk 0 d
    else t.answer e stOk 0 d

/-! ### Diagnostics group (R440) -/

/-- LOG_READ (R452, R457): from the oldest entry held on; over SMBus, what it passes releases SMBALERT#. -/
def State.cmdLogRead (s : State) (e : CmdEntry) : State :=
  let l := s.logFrom e.body
  let next := match l.getLast? with
    | some x => x.index + 1
    | none => max (leAt e.body 0 4) (s.rd BT_LOG_OLDEST.VALUE)
  let s := if e.owner = .smbus then { s with cmd := { s.cmd with smbNext := max s.cmd.smbNext next } } else s
  s.answer e stOk 0 (le 4 next ++ l.flatMap fun x => x.bytes)

def State.cmdBistRun (s : State) (e : CmdEntry) : State :=
  let b := byteAt e.body 0
  let c := s.busCheck e.owner.master (s.cmdPriv e) .write BT_CTRL 4
  if c.1 ≠ .done then c.2.answer e c.1.status 0 []
  else
    let r := c.2.bistStart b
    if r.1 = stOk then (r.2.wr BT_CTRL.BLOCK b).setWait e (.bist b) else r.2.answer e r.1 0 []

def State.cmdFarrierRun (s : State) (e : CmdEntry) : State :=
  let c := s.busCheck e.owner.master (s.cmdPriv e) .write SW_FAR_CTRL 4
  if c.1 ≠ .done then c.2.answer e c.1.status 0 []
  else if c.2.on SW_FAR_STAT.BUSY then c.2.answer e stBusy 0 []
  else c.2.startAudit.setWait e .farrier

/-! ### Time group (R441) -/

def State.cmdTimeGet (s : State) (e : CmdEntry) : State :=
  s.withRegs e [TM_NS, TM_FRAC, TM_SEC_LO, TM_SEC_HI, TM_STAT, TM_FREQ, TM_OFS] fun d t =>
    t.answer e stOk 0 (bytesAt d 8 4 ++ bytesAt d 12 2 ++ bytesAt d 0 4 ++ bytesAt d 4 4 ++ le 2 0 ++ d.drop 16)

/-- The time a step loads: as given, or moved by a signed offset in ns, not below 0. -/
def State.stepTarget (s : State) (b : List Byte) : Time :=
  if byteAt b 0 = 0 then { sec := leAt b 8 6, ns := leAt b 14 4, frac := 0 }
  else Time.ofNs ((s.time.toNs : Int) + toSigned 64 (leAt b 8 8)).toNat

def State.cmdTimeStep (s : State) (e : CmdEntry) : State :=
  if ¬ s.on DM_GM_STAT.IS_GM then s.answer e stConflict 0 []
  else
    let t := s.stepTarget e.body
    s.withWrites e (s.cmdPriv e) [(TM_SET_NS, t.ns), (TM_SET_SEC_LO, t.sec % 2 ^ 32), (TM_SET_SEC_HI, t.sec / 2 ^ 32), (TM_CMD, 1)] fun u =>
      u.answer e stOk 0 []

/-- TXTS_READ: entries taken from the queue of a MAC, at most `n`. -/
def State.takeStamps (s : State) (m : Nat) : Nat → List Byte → Nat → List Byte × Nat × State
  | 0, acc, k => (acc, k, s)
  | n + 1, acc, k =>
    if (s.mac m).stamps.isEmpty then (acc, k, s)
    else
      let r := s.txHead m
      let w := r.1.toNat
      r.2.takeStamps m n (acc ++ le 2 (bitsOf w 16 16) ++ le 1 (bitsOf w 4 4) ++ le 1 (bitsOf w 8 4) ++ le 4 (r.2.rd (EN_TXTS_NS.NS m)) ++
        le 4 (r.2.rd (EN_TXTS_SEC.SEC m)) ++ le 4 0) (k + 1)

def State.cmdTxtsRead (s : State) (e : CmdEntry) : State :=
  let m := byteAt e.body 0
  if s.rd (EN_CFG.PTP_MODE m) ≠ 2 then s.answer e stConflict 0 []
  else
    let c := s.busCheck e.owner.master (s.cmdPriv e) .read (EN_TXTS_HEAD m) 4
    if c.1 ≠ .done then c.2.answer e c.1.status 0 []
    else
      let r := c.2.takeStamps m (byteAt e.body 1) [] 0
      r.2.2.answer e stOk 0 (le 1 r.2.1 ++ le 3 0 ++ r.1)

/-! ### Display group (R442) -/

def State.cmdDispStatus (s : State) (e : CmdEntry) : State :=
  let d := byteAt e.body 0
  s.answerRegs e [DS_STAT d, DS_EVT d, DS_EVT_CNT0 d, DS_EVT_CNT1 d, DS_EVT_CNT2 d, DS_SIG d, DS_FRAME d, DS_TILES d]

def State.cmdDispEdid (s : State) (e : CmdEntry) : State :=
  let d := byteAt e.body 0
  let l := if s.dsMode d = 1 then (if (s.pipe d).edid.isEmpty then Tab.get [] s.img.edid d else (s.pipe d).edid)
    else if s.dsMode d = 3 ∨ s.dsMode d = 4 then (s.pipe d).panelEdid else []
  match l[byteAt e.body 1]? with
  | some b => s.answer e stOk 0 b
  | none => s.answer e stConflict 0 []

def State.cmdDispTopo (s : State) (e : CmdEntry) : State :=
  let d := byteAt e.body 0
  if s.on (DS_CFG.HDCP_EN d) then s.answer e stOk 0 (s.pipe d).topo else s.answer e stConflict 0 []

/-! ### Domain group (R443) -/

def State.cmdDomainStatus (s : State) (e : CmdEntry) : State :=
  s.answerRegs e [DM_ID, DM_FLOOR, DM_FLOOR_AGE, DM_GM_STAT, DM_GM_UID_LO, DM_GM_UID_HI, DM_PDK_STAT, DM_EVT, DM_EVT_CNT0, DM_EVT_CNT1]

def State.cmdHubList (s : State) (e : CmdEntry) : State :=
  if ¬ s.hostRole then s.answer e stConflict 0 []
  else s.withRegs e [DM_POS_LO, DM_POS_HI] fun d t =>
    t.answer e stOk 0 (d ++ (List.range 64).flatMap fun i =>
      let x := Tab.get ({} : PosEntry) t.dom.positions i
      if x.held then le 1 i ++ le 8 x.uid else [])

/-- HUB_REMOVE (R175): HUB_GONE with reason 1 for the hub and its subtree to every hub of the string, and their positions freed. -/
def State.removeHub (s : State) (h : Nat) : State :=
  let gone := s.subtree 4 [h]
  let hubs := s.dom.hubs.map HubEntry.addr
  s.eachIn gone fun g t => (t.eachIn hubs fun hub u => if hub = g then u else u.domMsg hub 0 0x87 (hubGoneBody g 1)).hubGone g

def State.cmdHubRemove (s : State) (e : CmdEntry) : State :=
  let h := leAt e.body 0 2
  if s.hostRole ∧ h / 64 = s.hubAddr / 64 ∧ (Tab.get ({} : PosEntry) s.dom.positions (h % 64)).held then (s.removeHub h).answer e stOk 0 []
  else s.answer e stConflict 0 []

def State.cmdRouteRead (s : State) (e : CmdEntry) : State :=
  s.answerRegs e ((List.range (leAt e.body 2 2)).map fun i => DM_RT (leAt e.body 0 2 + i))

/-! ### Register-access group (R444, R445) -/

def State.cmdRegRead (s : State) (e : CmdEntry) : State := s.answerRegs e (addrEntries e.body)

/-- The write clears the enable of a block that has an open tunnel, which the firmware refuses (R348). -/
def State.clearsEnable (s : State) (a v : Nat) : Bool := decide (a = GC_CLKEN) && s.tunnelBits.any fun i => s.clkOn i && !bitOf v i

def State.regWrites (s : State) (e : CmdEntry) (n : Nat) : List (Nat × Nat) → State
  | [] => s.answer e stOk 0 (le 2 n)
  | (a, v) :: l =>
    if s.clearsEnable a v then s.answer e stConflict a []
    else
      let r := s.busWrite e.owner.master (s.cmdPriv e) a (le 4 v)
      if r.1.ok then r.2.regWrites e (n + 1) l else r.2.answer e r.1.status a []

def State.cmdRegWrite (s : State) (e : CmdEntry) : State := s.regWrites e 0 (pairEntries e.body)

def State.cmdRegRmw (s : State) (e : CmdEntry) : State :=
  let a := leAt e.body 0 4
  let mask := BitVec.ofNat 32 (leAt e.body 4 4)
  let v := BitVec.ofNat 32 (leAt e.body 8 4)
  s.withRegs e [a] fun d t =>
    let new_ := (BitVec.ofNat 32 (leAt d 0 4) &&& ~~~ mask) ||| (v &&& mask)
    if t.clearsEnable a new_.toNat then t.answer e stConflict a []
    else t.withWrites e (t.cmdPriv e) [(a, new_.toNat)] fun u => u.answer e stOk 0 d

/-- RB_READ and RB_WRITE (R244 to R246). -/
def State.cmdRb (s : State) (e : CmdEntry) (read : Bool) : State :=
  let a := byteAt e.body 0
  if a ≠ 0 ∧ s.adpType a ≠ 10 then s.answer e stInvalid 0 []
  else
    let r := s.rbRequest a read (byteAt e.body 1) (leAt e.body 4 4) (e.body.drop 8)
    match r.1 with
    | .full => r.2.answer e stResource 0 []
    | .done st => r.2.answer e stOk 0 (rbData read st [])
    | .waits tag => r.2.setWait e (.regBus tag)

/-! ### Executing a command -/

/-- Execute a command other than RELAY. -/
def State.runBase (e : CmdEntry) (s : State) : State :=
  match e.op with
  | 0x0000 => s.cmdGetInfo e
  | 0x0001 => s.cmdEcho e
  | 0x0002 => s.cmdReset e
  | 0x0003 => s.cmdPowerState e
  | 0x0004 => s.cmdNotifyCfg e
  | 0x0100 => s.cmdBegin e
  | 0x0101 => s.cmdStage e
  | 0x0102 => s.cmdStageRead e
  | 0x0103 => s.cmdCommit e
  | 0x0104 => s.cmdRollback e
  | 0x0105 => s.cmdTxnInfo e
  | 0x0200 => s.cmdImgInfo e
  | 0x0201 => s.cmdImgErase e
  | 0x0202 => s.cmdImgWrite e
  | 0x0203 => s.cmdImgRead e
  | 0x0204 => s.cmdImgCheck e
  | 0x0300 => s.cmdTunnelList e
  | 0x0301 => s.cmdTunnelStat e
  | 0x0302 => s.cmdTunnelReopen e
  | 0x0400 => s.cmdAlStatus e
  | 0x0401 => s.cmdAlTableWrite e
  | 0x0402 => s.cmdAlArm e
  | 0x0403 => s.cmdPolicerRead e
  | 0x0500 => s.cmdLinkStatus e
  | 0x0501 => s.cmdLinkAction e
  | 0x0502 => s.cmdRoleSwap e
  | 0x0503 => s.cmdEyeScan e
  | 0x0600 => s.cmdPdStatus e
  | 0x0601 => s.cmdPdAction e
  | 0x0602 => s.cmdEfStatus e
  | 0x0603 => s.cmdEfClear e
  | 0x0604 => s.cmdBudgetStatus e
  | 0x0700 => s.cmdKeyLoad e
  | 0x0701 => s.cmdKeyOp e
  | 0x0702 => s.cmdKeyErase e
  | 0x0703 => s.cmdRollbackAdv e
  | 0x0704 => s.cmdCertRead e
  | 0x0705 => s.cmdGateViol e
  | 0x0800 => s.cmdLogRead e
  | 0x0801 => s.cmdBistRun e
  | 0x0802 => s.cmdFarrierRun e
  | 0x0900 => s.cmdTimeGet e
  | 0x0901 => s.cmdTimeStep e
  | 0x0902 => s.cmdTxtsRead e
  | 0x0A00 => s.cmdDispStatus e
  | 0x0A01 => s.cmdDispEdid e
  | 0x0A02 => s.cmdDispTopo e
  | 0x0B00 => s.cmdDomainStatus e
  | 0x0B01 => s.cmdHubList e
  | 0x0B02 => s.cmdHubRemove e
  | 0x0B03 => s.cmdRouteRead e
  | 0x0C00 => s.cmdRegRead e
  | 0x0C01 => s.cmdRegWrite e
  | 0x0C02 => s.cmdRegRmw e
  | 0x0C03 => s.cmdRb e true
  | 0x0C04 => s.cmdRb e false
  | _ => s.answer e stInvalid 0 []

end Sys2Proof.Machine
end

