-- ==== Sys2Proof/Machine/Firmware.lean ====
section
/-!
DEFINITION. The firmware's acceptance of command frames (R417 to R431): checks, response cache, queues; the transports that carry frames (R269, R270,
R422, R423); one command row of the table for each command of the catalogue.
-/

namespace Sys2Proof.Machine

/-! ### Frames and entries -/

/-- A request frame (R418, R419). -/
def requestFrame (op seq txn csv : Nat) (body : List Byte) : List Byte :=
  le 2 op ++ le 2 seq ++ le 2 txn ++ le 2 (csv * 4096) ++ le 4 body.length ++ le 4 0 ++ body

/-- A frame holds 16 + LENGTH bytes with RESP = 0 (R424 order 1). -/
def frameOk (f : List Byte) : Bool := decide (16 ≤ f.length ∧ f.length = 16 + leAt f 8 4 ∧ byteAt f 6 % 2 = 0)

/-- The entry of a frame. -/
def entryOf (o : Owner) (f : List Byte) (limit : Nat) : CmdEntry :=
  { owner := o, op := leAt f 0 2, seq := leAt f 2 2, txn := leAt f 4 2, csv := leAt f 6 2 / 4096, flags := leAt f 6 2 % 4096, rsv := leAt f 12 4
    body := f.drop 16, limit := limit }

/-- The transports served in the hub's state (R402, R429); none by cores that have stopped (R24). -/
def State.served (s : State) (o : Owner) : Bool :=
  !s.clk.stopped && match s.clk.phase with
  | .active => decide (o ≠ .rom)
  | .noImage | .refFail | .refLost => decide (o = .smbus)
  | _ => false

/-- Answer a command that is not executed; the response enters the cache where R425 lets it. -/
def State.refuse (s : State) (e : CmdEntry) (st : Nat) (cache : Bool) : State :=
  let frame := responseFrame e.op e.seq e.txn e.csv st 0 []
  let s := s.lastAnswer e.owner e.op st
  (if cache then s.cacheResponse e frame else s).respond e.owner frame

/-! ### Checks before execution (R424 orders 5 to 9) -/

/-- The hub's state lets no command of this opcode execute (R429, R402, R405). -/
def State.stateCheck (s : State) (e : CmdEntry) : Option Nat :=
  match s.clk.phase with
  | .noImage => if noImageServes e.op then none else some (if e.op / 256 = 1 then stNoTxn else stDenied)
  | .refFail | .refLost => if noRefServes e.op then none else some stBusy
  | _ => if e.op = 0x0100 ∧ s.on PS_STAT.ENTERING then some stBusy else none

/-- Order 8. -/
def State.txnCheck (s : State) (e : CmdEntry) : Option Nat :=
  if needsTxn e.op then (if (s.txnBy e.owner e.txn).isSome then none else some stNoTxn)
  else if e.txn ≠ 0 then some stInvalid else none

/-- Order 9. -/
def State.bodyCheck (s : State) (e : CmdEntry) : Option Nat :=
  if ¬ bodyOk e.op e.body then some stInvalid
  else if e.limit < 24 + s.responseSize e.op e.body then some stResource else none

/-- The first check that fails, or none. -/
def State.precheck (s : State) (e : CmdEntry) : Option Nat :=
  if e.op ∉ opcodes ∨ e.flags / 4 ≠ 0 ∨ e.rsv ≠ 0 then some stInvalid
  else match s.stateCheck e with
  | some st => some st
  | none =>
    if (hOnly e.op ∧ e.owner = .smbus) ∨ (writesPower e.op ∧ ¬ s.imageActive) then some stDenied
    else match s.txnCheck e with
    | some st => some st
    | none => s.bodyCheck e

/-! ### Queues (R426) -/

/-- The next command to start: the first one waiting of an owner with none executing, at most four executing, not in H2 or H3, nor by
cores that have stopped (R24). -/
def State.startable (s : State) (only : CmdEntry → Bool) : Option CmdEntry :=
  if s.clk.stopped ∨ 4 ≤ (s.cmd.entries.filter CmdEntry.running).length ∨ 2 ≤ s.rd PS_STAT.STATE ∨ s.on PS_STAT.WAKING then none
  else s.cmd.entries.find? fun e =>
    only e && !e.running && !s.cmd.entries.any fun x => x.running && decide (x.owner = e.owner)

/-- Start a command: the checks, then its execution by `run`. -/
def State.start (s : State) (run : CmdEntry → State → State) (e : CmdEntry) : State :=
  match s.precheck e with
  | some st => { s with cmd := { s.cmd with entries := s.cmd.entries.erase e } }.refuse e st true
  | none =>
    let e' := { e with running := true }
    run e' { s with cmd := { s.cmd with entries := s.cmd.entries.replace e e' } }

/-- Start commands while one can start. -/
def State.runQueued (run : CmdEntry → State → State) (only : CmdEntry → Bool) : Nat → State → State
  | 0, s => s
  | n + 1, s =>
    match s.startable only with
    | some e => State.runQueued run only n (s.start run e)
    | none => s

/-! ### Acceptance (R424 orders 1 to 4, R425) -/

/-- A command of the owner with this SEQ is queued or executing. -/
def State.inHand (s : State) (o : Owner) (seq : Nat) : Bool :=
  decide (seq ≠ 0) && s.cmd.entries.any fun e => decide (e.owner = o ∧ e.seq = seq)

/-- The cached response for a request. -/
def State.cached (s : State) (o : Owner) (seq : Nat) : Option CacheEntry :=
  if seq = 0 then none else s.cmd.cache.find? fun c => decide (c.owner = o ∧ c.seq = seq)

/-- The request repeats the cached one. -/
def CacheEntry.repeats (c : CacheEntry) (e : CmdEntry) : Bool := decide (c.op = e.op ∧ c.len = e.body.length ∧ c.crc = crc32 e.body)

/-- A response frame with CACHED = 1 (R419). -/
def cachedFrame (f : List Byte) : List Byte := f.set 6 (BitVec.ofNat 8 (byteAt f 6) ||| 2#8)

/-- A request whose SEQ is in the cache (R425). -/
def State.fromCache (s : State) (e : CmdEntry) (c : CacheEntry) : State :=
  if c.repeats e then
    let s := s.raise Ev.GC_REPEAT
    (if e.owner = .usb then s.raise Ev.UH_CACHE_HIT else s).respond e.owner (cachedFrame c.frame)
  else (s.raise Ev.GC_SEQ_CONFLICT).refuse e stConflict false

/-- A new request: VERSION, BUSY, or into its owner's queue. -/
def State.queueCmd (s : State) (run : CmdEntry → State → State) (only : CmdEntry → Bool) (e : CmdEntry) : State :=
  if (e.csv ≠ 2 ∧ e.csv ≠ 3) ∨ (e.csv = 2 ∧ since3 e.op) then s.refuse e stVersion true
  else if 8 ≤ (s.cmd.entries.filter fun x => decide (x.owner = e.owner)).length then (s.raise Ev.GC_QUEUE_FULL).refuse e stBusy false
  else
    let s := { s with cmd := { s.cmd with entries := s.cmd.entries ++ [e] } }
    s.runQueued run only s.cmd.entries.length

/-- The firmware receives a frame of an owner, whose transport carries `limit` bytes at most. -/
def State.acceptFrame (s : State) (run : CmdEntry → State → State) (only : CmdEntry → Bool) (o : Owner) (f : List Byte) (limit : Nat) : State :=
  let e := entryOf o f limit
  if ¬ s.served o then s
  else if limit < f.length then (s.raise Ev.GC_FRAME_ERR).refuse { e with body := [] } stInvalid false
  else if ¬ frameOk f then s.raise Ev.GC_FRAME_ERR
  else if s.inHand o e.seq then s
  else match s.cached o e.seq with
  | some c => s.fromCache e c
  | none => s.queueCmd run only e

/-! ### RELAY (R446) -/

/-- Execute a command of the catalogue. A RELAY to this hub runs its inner frame here, as a command of A0 and this hub's address. -/
def State.runCmd (e : CmdEntry) (s : State) : State :=
  if e.op = 0x0B04 then
    let dst := leAt e.body 0 2
    let inner := e.body.drop 4
    if dst = s.hubAddr then
      (s.setWait e (.relay dst inner)).acceptFrame State.runBase (fun x => decide (x.op ≠ 0x0B04)) (.a0 dst) inner 65552
    else (s.domMsg dst 0 0x8D inner).setWait e (.relay dst inner)
  else s.runBase e

/-- Receive a frame. -/
def State.acceptCmd (s : State) (o : Owner) (f : List Byte) (limit : Nat) : State := s.acceptFrame State.runCmd (fun _ => true) o f limit

/-- Start the queued commands that can start. -/
def State.startQueued (s : State) : State := s.runQueued State.runCmd (fun _ => true) s.cmd.entries.length

/-! ### Transports -/

/-- COMMAND (R422, R448): a request runs as a command of A0 and its source hub; a response ends the RELAY that waits for it. -/
def State.commandMsg (s : State) (src : Nat) (neighbour : Bool) (frame : List Byte) : State :=
  if neighbour then s
  else if 16 ≤ frame.length ∧ byteAt frame 6 % 2 = 1 then s.relayResponse src frame
  else if s.on GC_CMD_CFG.A0_EN then s.acceptCmd (.a0 src) frame 65552
  else s

def execCommand (src : Fin 16384) (neighbour : Bool) (frame : List Byte) (s : State) : Res := .next (s.commandMsg src neighbour frame)

/-- SEND_COMMAND (R269, R270): the bytes of the data stage so far, and whether the status stage follows in the same happening. -/
def State.sendCommand (s : State) (wLength : Nat) (data : List Byte) (status : Bool) : State :=
  if ¬ s.cmd.usbReady then s
  else if data.length < wLength then s.modUsb fun u => { u with control := some (wLength, data) }
  else
    let f := data.take wLength
    let s := if wLength ≠ 16 + leAt f 8 4 then s.usbWire 0 9 [] else s
    (s.modUsb fun u => { u with control := if status then none else some (wLength, f) }).acceptCmd .usb f 4096

def execSendCommand (wLength : Fin 65536) (data : List Byte) (status : Bool) (s : State) : Res := .next (s.sendCommand wLength data status)

/-- The response of a sequence of the USB function (R269). -/
def State.usbResponse (s : State) (seq : Nat) : List Byte :=
  match s.cmd.usbResp.find? fun r => decide (r.1 = seq) with
  | some r => r.2
  | none => ((s.cached .usb seq).map CacheEntry.frame).getD []

/-- GET_RESPONSE (R269). -/
def execGetResponse (seq wLength : Fin 65536) (s : State) : Res :=
  .next (if s.cmd.usbReady then s.usbWire 0 10 ((s.usbResponse seq).take wLength) else s)

/-- A frame of the USB function's bulk endpoint will be answered there. -/
def State.bulkAnswers (s : State) (f : List Byte) : Bool :=
  s.served .usb && decide (16 ≤ f.length) && (decide (65552 < f.length) || frameOk f) && !s.inHand .usb (leAt f 2 2)

/-- BULK_FRAME (R269, R270): a packet of a transfer; the last one ends the frame. -/
def State.bulkFrame (s : State) (data : List Byte) (last : Bool) : State :=
  if ¬ s.cmd.usbReady then s
  else
    let f := s.usb.bulk ++ data
    if ¬ last then s.modUsb fun u => { u with bulk := f }
    else
      let s := s.modUsb fun u => { u with bulk := [] }
      let s := if s.bulkAnswers f then { s with cmd := { s.cmd with bulkSeq := s.cmd.bulkSeq ++ [leAt f 2 2] } } else s
      s.acceptCmd .usb f 65552

def execBulkFrame (data : List Byte) (last : Bool) (s : State) : Res := .next (s.bulkFrame data last)

/-- INTERRUPT_ENDPOINT_READ (R269, R456): the oldest notification, or the oldest bulk response, leaves its queue. -/
def State.endpointRead (s : State) (bulk : Bool) : State :=
  if ¬ s.cmd.usbReady then s
  else if bulk then
    match s.cmd.bulkResp with
    | f :: l => { s with cmd := { s.cmd with bulkResp := l } }.usbWire 0 11 f
    | [] => s
  else
    match s.cmd.usbQueue with
    | b :: l => { s with cmd := { s.cmd with usbQueue := l } }.send (.notify 0 b)
    | [] => s

def execInterruptEndpointRead (bulk : Bool) (s : State) : Res := .next (s.endpointRead bulk)

/-! ### The SMBus target (R423) -/

/-- Address of the SMBus target, from straps (R423, R516). -/
def State.smbAddr (s : State) : Nat := 0x60 + bitsOf (s.rd GC_STRAP.STRAPS) 1 3

/-- An answer of the target. -/
def State.smbSend (s : State) (code : Nat) (b : List Byte) : State := s.send (.bus 7 0 code b)

/-- The target answers at this address; a match wakes the hub from H2 and H3 (R367, R429). -/
def State.smbMatch (s : State) (addr : Nat) : Bool := decide (addr = s.smbAddr) && s.served .smbus

/-- Forget the frame being assembled. -/
def State.dropPartial (s : State) : State := { s with cmd := { s.cmd with partial_ := [] } }

/-- The frame assembled so far becomes `f`; it is complete at 16 + LENGTH bytes. -/
def State.smbAssemble (s : State) (f : List Byte) : State :=
  if f.length < 16 ∨ f.length < 16 + leAt f 8 4 then { s with cmd := { s.cmd with partial_ := f } }
  else s.dropPartial.acceptCmd .smbus f 4096

/-- A Block Write of code 0x01 (`first`) or 0x02. -/
def State.smbWrite (s : State) (first : Bool) (addr : Nat) (data : List Byte) (pecOk : Bool) : State :=
  if ¬ s.smbMatch addr then s
  else
    let s := s.wakeEvent 12 false
    if s.on GC_CMD_CFG.SMB_PEC ∧ ¬ pecOk then s.dropPartial.raise Ev.GC_FRAME_ERR
    else if first then s.smbAssemble data
    else if s.cmd.partial_.isEmpty then s
    else s.smbAssemble (s.cmd.partial_ ++ data)

def execSmbFrameStart (addr : Fin 128) (data : List Byte) (pecOk : Bool) (s : State) : Res := .next (s.smbWrite true addr data pecOk)
def execSmbFrameContinue (addr : Fin 128) (data : List Byte) (pecOk : Bool) (s : State) : Res := .next (s.smbWrite false addr data pecOk)

/-- SMB_RESPONSE_READ: the next bytes of the response selected, or of the oldest unread one. -/
def State.smbRead (s : State) (addr : Nat) : State :=
  if ¬ s.smbMatch addr then s
  else
    let s := s.wakeEvent 12 false
    match s.cmd.reading.or s.cmd.unread.head? with
    | none => s.smbSend 3 []
    | some (seq, rest) =>
      let left := rest.drop 255
      let s := if left.isEmpty then
          { s with cmd := { s.cmd with reading := none, unread := s.cmd.unread.eraseP fun r => decide (r.1 = seq) } }
        else { s with cmd := { s.cmd with reading := some (seq, left) } }
      s.smbSend 3 (rest.take 255)

def execSmbResponseRead (addr : Fin 128) (s : State) : Res := .next (s.smbRead addr)

/-- SMB_SELECT: the cached response of a SEQ. -/
def execSmbSelect (addr : Fin 128) (seq : Fin 65536) (s : State) : Res :=
  .next (if s.smbMatch addr then
    let s := s.wakeEvent 12 false
    { s with cmd := { s.cmd with reading := some (seq, ((s.cached .smbus seq).map CacheEntry.frame).getD []) } }
  else s)

/-- SMB_SCL_TIMEOUT: the target interface resets. -/
def execSmbSclTimeout (s : State) : Res := .next { s with cmd := { s.cmd with partial_ := [], reading := none } }

/-- ALERT_RESPONSE: the hub's own address while SMBALERT# is low. -/
def execAlertResponse (s : State) : Res := .next (if s.alertLow then s.smbSend 0x0C [BitVec.ofNat 8 (2 * s.smbAddr)] else s)

/-! ### Time limits (R431, R446) -/

/-- A command past its limit is answered TIMEOUT; a COMMIT has its own limit (R411). -/
def State.commandTimeout (s : State) (o : Owner) : State :=
  match s.cmd.entries.find? fun e => e.running && decide (e.owner = o) && !(match e.wait with
    | .commit _ => true
    | _ => false) with
  | some e => s.answer e stTimeout 0 []
  | none => s

def execCommandTimeout (o : Owner) (s : State) : Res := .next (s.commandTimeout o)

/-- No inner response within TMO. -/
def State.relayTimeout (s : State) (o : Owner) : State :=
  match s.cmd.entries.find? fun e => e.running && decide (e.owner = o) && (match e.wait with
    | .relay _ _ => true
    | _ => false) with
  | some e => s.answer e stTimeout 0 []
  | none => s

def execRelayTimeout (o : Owner) (s : State) : Res := .next (s.relayTimeout o)

/-! ### One row for each command (R432 to R446) -/

/-- Largest frame of a command that a row names by its fields. -/
def rowLimit (o : Owner) : Nat := if o = .smbus then 4096 else 65552

/-- Receive the command of an opcode with its header fields and body. -/
def State.command (s : State) (o : Owner) (op seq txn csv : Nat) (body : List Byte) : Res :=
  .next (s.acceptCmd o (requestFrame op seq txn csv body) (rowLimit o))

/-- COUNT, two reserved bytes, then the entries. -/
def pairBody (l : List (Word × Word)) : List Byte := le 2 l.length ++ be 2 0 ++ l.flatMap fun x => wordLe x.1 ++ wordLe x.2
def addrBody (l : List Word) : List Byte := le 2 l.length ++ be 2 0 ++ l.flatMap wordLe

def execGetInfo (o : Owner) (seq txn : Fin 65536) (csv : Fin 16) (s : State) : Res :=
  s.command o 0x0000 seq txn csv []
def execEchoCmd (o : Owner) (seq txn : Fin 65536) (csv : Fin 16) (data : List Byte) (s : State) : Res :=
  s.command o 0x0001 seq txn csv data
def execReset (o : Owner) (seq txn : Fin 65536) (csv : Fin 16) (kind ports : Fin 256) (s : State) : Res :=
  s.command o 0x0002 seq txn csv (be 1 kind ++ be 1 ports)
def execPowerState (o : Owner) (seq txn : Fin 65536) (csv : Fin 16) (target : Fin 256) (s : State) : Res :=
  s.command o 0x0003 seq txn csv (be 1 target)
def execNotifyCfg (o : Owner) (seq txn : Fin 65536) (csv : Fin 16) (paths severity : Fin 256) (hub : Fin 65536) (s : State) : Res :=
  s.command o 0x0004 seq txn csv (be 1 paths ++ be 1 severity ++ le 2 hub)
def execBegin (o : Owner) (seq txn : Fin 65536) (csv : Fin 16) (s : State) : Res :=
  s.command o 0x0100 seq txn csv []
def execStage (o : Owner) (seq txn : Fin 65536) (csv : Fin 16) (l : List (Word × Word)) (s : State) : Res :=
  s.command o 0x0101 seq txn csv (pairBody l)
def execStageRead (o : Owner) (seq txn : Fin 65536) (csv : Fin 16) (l : List Word) (s : State) : Res :=
  s.command o 0x0102 seq txn csv (addrBody l)
def execCommit (o : Owner) (seq txn : Fin 65536) (csv : Fin 16) (s : State) : Res :=
  s.command o 0x0103 seq txn csv []
def execRollback (o : Owner) (seq txn : Fin 65536) (csv : Fin 16) (s : State) : Res :=
  s.command o 0x0104 seq txn csv []
def execTxnInfo (o : Owner) (seq txn : Fin 65536) (csv : Fin 16) (s : State) : Res :=
  s.command o 0x0105 seq txn csv []
def execImgInfo (o : Owner) (seq txn : Fin 65536) (csv : Fin 16) (s : State) : Res :=
  s.command o 0x0200 seq txn csv []
def execImgErase (o : Owner) (seq txn : Fin 65536) (csv : Fin 16) (slot : Fin 256) (s : State) : Res :=
  s.command o 0x0201 seq txn csv (be 1 slot)
def execImgWrite (o : Owner) (seq txn : Fin 65536) (csv : Fin 16) (slot : Fin 256) (ofs : BitVec 32) (data : List Byte) (s : State) : Res :=
  s.command o 0x0202 seq txn csv (be 1 slot ++ be 3 0 ++ wordLe ofs ++ data)
def execImgRead (o : Owner) (seq txn : Fin 65536) (csv : Fin 16) (slot : Fin 256) (ofs len : BitVec 32) (s : State) : Res :=
  s.command o 0x0203 seq txn csv (be 1 slot ++ be 3 0 ++ wordLe ofs ++ wordLe len)
def execImgCheck (o : Owner) (seq txn : Fin 65536) (csv : Fin 16) (slot : Fin 256) (s : State) : Res :=
  s.command o 0x0204 seq txn csv (be 1 slot)
def execTunnelList (o : Owner) (seq txn : Fin 65536) (csv : Fin 16) (s : State) : Res :=
  s.command o 0x0300 seq txn csv []
def execTunnelStat (o : Owner) (seq txn : Fin 65536) (csv : Fin 16) (adp : Fin 256) (s : State) : Res :=
  s.command o 0x0301 seq txn csv (be 1 adp)
def execTunnelReopen (o : Owner) (seq txn : Fin 65536) (csv : Fin 16) (adp : Fin 256) (s : State) : Res :=
  s.command o 0x0302 seq txn csv (be 1 adp)
def execAlStatus (o : Owner) (seq txn : Fin 65536) (csv : Fin 16) (port : Fin 256) (s : State) : Res :=
  s.command o 0x0400 seq txn csv (be 1 port)
def execAlTableWrite (o : Owner) (seq txn : Fin 65536) (csv : Fin 16) (port table : Fin 256) (l : List (Word × Word)) (s : State) : Res :=
  s.command o 0x0401 seq txn csv (be 1 port ++ be 1 table ++ le 2 l.length ++ l.flatMap fun x => wordLe x.1 ++ wordLe x.2)
def execAlArm (o : Owner) (seq txn : Fin 65536) (csv : Fin 16) (port arm : Fin 256) (s : State) : Res :=
  s.command o 0x0402 seq txn csv (be 1 port ++ be 1 arm)
def execPolicerRead (o : Owner) (seq txn : Fin 65536) (csv : Fin 16) (i : Fin 256) (s : State) : Res :=
  s.command o 0x0403 seq txn csv (be 1 i)
def execLinkStatus (o : Owner) (seq txn : Fin 65536) (csv : Fin 16) (port : Fin 256) (s : State) : Res :=
  s.command o 0x0500 seq txn csv (be 1 port)
def execLinkAction (o : Owner) (seq txn : Fin 65536) (csv : Fin 16) (port action : Fin 256) (s : State) : Res :=
  s.command o 0x0501 seq txn csv (be 1 port ++ be 1 action)
def execRoleSwap (o : Owner) (seq txn : Fin 65536) (csv : Fin 16) (port : Fin 256) (s : State) : Res :=
  s.command o 0x0502 seq txn csv (be 1 port)
def execEyeScan (o : Owner) (seq txn : Fin 65536) (csv : Fin 16) (lane eye dwell phLo phHi vLo vHi : Fin 256) (s : State) : Res :=
  s.command o 0x0503 seq txn csv (be 1 lane ++ be 1 eye ++ be 1 dwell ++ be 1 0 ++ be 1 phLo ++ be 1 phHi ++ be 1 vLo ++ be 1 vHi)
def execPdStatus (o : Owner) (seq txn : Fin 65536) (csv : Fin 16) (port : Fin 256) (s : State) : Res :=
  s.command o 0x0600 seq txn csv (be 1 port)
def execPdAction (o : Owner) (seq txn : Fin 65536) (csv : Fin 16) (port action : Fin 256) (s : State) : Res :=
  s.command o 0x0601 seq txn csv (be 1 port ++ be 1 action)
def execEfStatus (o : Owner) (seq txn : Fin 65536) (csv : Fin 16) (channel : Fin 256) (s : State) : Res :=
  s.command o 0x0602 seq txn csv (be 1 channel)
def execEfClear (o : Owner) (seq txn : Fin 65536) (csv : Fin 16) (channel : Fin 256) (s : State) : Res :=
  s.command o 0x0603 seq txn csv (be 1 channel)
def execBudgetStatus (o : Owner) (seq txn : Fin 65536) (csv : Fin 16) (s : State) : Res :=
  s.command o 0x0604 seq txn csv []
def execKeyLoad (o : Owner) (seq txn : Fin 65536) (csv : Fin 16) (op attr : Fin 256) (kcv : BitVec 32) (data : List Byte) (s : State) : Res :=
  s.command o 0x0700 seq txn csv (be 1 op ++ be 1 attr ++ be 2 0 ++ wordLe kcv ++ data)
def execKeyOp (o : Owner) (seq txn : Fin 65536) (csv : Fin 16) (op : Fin 256) (data : List Byte) (s : State) : Res :=
  s.command o 0x0701 seq txn csv (be 1 op ++ be 3 0 ++ data)
def execKeyErase (o : Owner) (seq txn : Fin 65536) (csv : Fin 16) (s : State) : Res :=
  s.command o 0x0702 seq txn csv []
def execRollbackAdv (o : Owner) (seq txn : Fin 65536) (csv : Fin 16) (which : Fin 256) (s : State) : Res :=
  s.command o 0x0703 seq txn csv (be 1 which)
def execCertRead (o : Owner) (seq txn : Fin 65536) (csv : Fin 16) (s : State) : Res :=
  s.command o 0x0704 seq txn csv []
def execGateViol (o : Owner) (seq txn : Fin 65536) (csv : Fin 16) (gate flags : Fin 256) (s : State) : Res :=
  s.command o 0x0705 seq txn csv (be 1 gate ++ be 1 flags)
def execLogRead (o : Owner) (seq txn : Fin 65536) (csv : Fin 16) (index : BitVec 32) (count : Fin 65536) (s : State) : Res :=
  s.command o 0x0800 seq txn csv (wordLe index ++ le 2 count)
def execBistRun (o : Owner) (seq txn : Fin 65536) (csv : Fin 16) (block : Fin 256) (s : State) : Res :=
  s.command o 0x0801 seq txn csv (be 1 block)
def execFarrierRun (o : Owner) (seq txn : Fin 65536) (csv : Fin 16) (s : State) : Res :=
  s.command o 0x0802 seq txn csv []
def execTimeGet (o : Owner) (seq txn : Fin 65536) (csv : Fin 16) (s : State) : Res :=
  s.command o 0x0900 seq txn csv []
def execTimeStep (o : Owner) (seq txn : Fin 65536) (csv : Fin 16) (relative : Bool) (data : List Byte) (s : State) : Res :=
  s.command o 0x0901 seq txn csv (be 1 relative.toNat ++ be 7 0 ++ data)
def execTxtsRead (o : Owner) (seq txn : Fin 65536) (csv : Fin 16) (mac max_ : Fin 256) (s : State) : Res :=
  s.command o 0x0902 seq txn csv (be 1 mac ++ be 1 max_)
def execDispStatus (o : Owner) (seq txn : Fin 65536) (csv : Fin 16) (pipe : Fin 256) (s : State) : Res :=
  s.command o 0x0A00 seq txn csv (be 1 pipe)
def execDispEdid (o : Owner) (seq txn : Fin 65536) (csv : Fin 16) (pipe block : Fin 256) (s : State) : Res :=
  s.command o 0x0A01 seq txn csv (be 1 pipe ++ be 1 block)
def execDispTopo (o : Owner) (seq txn : Fin 65536) (csv : Fin 16) (pipe : Fin 256) (s : State) : Res :=
  s.command o 0x0A02 seq txn csv (be 1 pipe)
def execDomainStatus (o : Owner) (seq txn : Fin 65536) (csv : Fin 16) (s : State) : Res :=
  s.command o 0x0B00 seq txn csv []
def execHubList (o : Owner) (seq txn : Fin 65536) (csv : Fin 16) (s : State) : Res :=
  s.command o 0x0B01 seq txn csv []
def execHubRemove (o : Owner) (seq txn : Fin 65536) (csv : Fin 16) (hub : Fin 65536) (s : State) : Res :=
  s.command o 0x0B02 seq txn csv (le 2 hub)
def execRouteRead (o : Owner) (seq txn : Fin 65536) (csv : Fin 16) (first count : Fin 65536) (s : State) : Res :=
  s.command o 0x0B03 seq txn csv (le 2 first ++ le 2 count)
def execRelay (o : Owner) (seq txn : Fin 65536) (csv : Fin 16) (dst tmo : Fin 65536) (inner : List Byte) (s : State) : Res :=
  s.command o 0x0B04 seq txn csv (le 2 dst ++ le 2 tmo ++ inner)
def execRegRead (o : Owner) (seq txn : Fin 65536) (csv : Fin 16) (l : List Word) (s : State) : Res :=
  s.command o 0x0C00 seq txn csv (addrBody l)
def execRegWrite (o : Owner) (seq txn : Fin 65536) (csv : Fin 16) (l : List (Word × Word)) (s : State) : Res :=
  s.command o 0x0C01 seq txn csv (pairBody l)
def execRegRmw (o : Owner) (seq txn : Fin 65536) (csv : Fin 16) (a mask v : BitVec 32) (s : State) : Res :=
  s.command o 0x0C02 seq txn csv (wordLe a ++ wordLe mask ++ wordLe v)
def execRbRead (o : Owner) (seq txn : Fin 65536) (csv : Fin 16) (adp size : Fin 256) (a : BitVec 32) (s : State) : Res :=
  s.command o 0x0C03 seq txn csv (be 1 adp ++ be 1 size ++ be 2 0 ++ wordLe a)
def execRbWrite (o : Owner) (seq txn : Fin 65536) (csv : Fin 16) (adp size : Fin 256) (a : BitVec 32) (data : List Byte) (s : State) : Res :=
  s.command o 0x0C04 seq txn csv (be 1 adp ++ be 1 size ++ be 2 0 ++ wordLe a ++ data)

end Sys2Proof.Machine
end

