-- ==== Sys2Proof/Machine/Waits.lean ====
section
/-!
DEFINITION. Happenings that end something another command or a block waits for (R175, R413, R241, R244 to R246), and the passing of time when no command
waits.
-/

namespace Sys2Proof.Machine

/-- HUB_GONE (R175, R446): what it does is the same for every reason. -/
def execHubGone (hub : Fin 16384) (s : State) : Res := .next (s.hubGoneMsg hub)

/-- TUNNEL_CLOSE (R413, R122). -/
def execTunnelClose (adp : Fin 256) (hub : Fin 16384) (s : State) : Res := .next (s.tunnelCloseMsg adp hub)

/-- CONFIRM (R241, R246). -/
def execConfirm (a : Fin 256) (seq : Fin 65536) (status : Fin 256) (s : State) : Res := .next (s.confirm a seq status)

/-- CONFIRM_TIMEOUT (R241). -/
def execConfirmTimeout (a : Fin 256) (s : State) : Res := .next (s.confirmTimeout a)

/-- READ_RESP (R245). -/
def execReadResp (a tag status : Fin 256) (data : List Byte) (s : State) : Res := .next (s.readResp a tag status data)

/-- I2C_DONE (R244, R245). -/
def execI2cDone (status : Fin 256) (data : List Byte) (s : State) : Res := .next (s.i2cDone status data)

/-- RB_READ_TIMEOUT (R246). -/
def execRbReadTimeout (tag : Fin 256) (s : State) : Res := .next (s.rbReadTimeout tag)

/-! ### A tick (R112, R114, R283) -/

/-- Idle clocks of the engines in one tick: 12 clocks of 0.533 ns (R112, R114). -/
def State.idleClocks (s : State) : State :=
  if ¬ s.fullSpeed ∨ s.asleep then s
  else s.each 32 fun e t => if (t.eng e).idle then t.satAdd (SE_IDLE.CLOCKS e) 12 else t

/-- A flip held past a quiet point falls due on a port that sends no codeword (R159, R161). -/
def State.idleFlips (s : State) : State := s.each 6 fun p t => if t.linkRuns p then t else t.takeFlip p

/-- What happens on an empty queue: one TICK of 6.4 ns passes, and commands accepted before start if they now can. -/
def State.tick (s : State) : State :=
  let s := if s.timeRuns then s.timeTick else { s with uptime := s.uptime + 64 }
  s.idleFlips.idleClocks.startQueued

end Sys2Proof.Machine
end

