-- ==== Sys2Proof/Machine/Dispatch.lean ====
section
/-!
DEFINITION. The one dispatch: each command to its meaning.
-/

namespace Sys2Proof.Machine

def exec (i : Instr) (s : State) : Host.Outcome State Fault Refusal :=
  match i with
  | .markerBlockReceive n c f r gap skew => Sys2Proof.Machine.execMarkerBlockReceive n c f r gap skew s
  | .dataBlockReceive n block => Sys2Proof.Machine.execDataBlockReceive n block s
  | .codewordReceive p a b c => Sys2Proof.Machine.execCodewordReceive p a b c s
  | .trainingFrameReceive n w r roundTrip => Sys2Proof.Machine.execTrainingFrameReceive n w r roundTrip s
  | .trainingStepDone p locked => Sys2Proof.Machine.execTrainingStepDone p locked s
  | .qualWindowEnd n corrected uncorr => Sys2Proof.Machine.execQualWindowEnd n corrected uncorr s
  | .trainingRetry p => Sys2Proof.Machine.execTrainingRetry p s
  | .testWrite m n on => Sys2Proof.Machine.execTestWrite m n on s
  | .giveLane p => Sys2Proof.Machine.execGiveLane p s
  | .lockPatternEnd p => Sys2Proof.Machine.execLockPatternEnd p s
  | .joinMarkerReceive n payload => Sys2Proof.Machine.execJoinMarkerReceive n payload s
  | .leadFail n => Sys2Proof.Machine.execLeadFail n s
  | .laneRetrainDone n ok => Sys2Proof.Machine.execLaneRetrainDone n ok s
  | .lowPowerEnter p => Sys2Proof.Machine.execLowPowerEnter p s
  | .esStart m n v => Sys2Proof.Machine.execEsStart m n v s
  | .esStop m n v => Sys2Proof.Machine.execEsStop m n v s
  | .esDone n errors => Sys2Proof.Machine.execEsDone n errors s
  | .patClear m n v => Sys2Proof.Machine.execPatClear m n v s
  | .patLocked seen => Sys2Proof.Machine.execPatLocked seen s
  | .patLockDrop n wrong errors => Sys2Proof.Machine.execPatLockDrop n wrong errors s
  | .injFire m n v => Sys2Proof.Machine.execInjFire m n v s
  | .injInterval n => Sys2Proof.Machine.execInjInterval n s
  | .cellReceive p => Sys2Proof.Machine.execCellReceive p s
  | .packetClassTimeout p tc => Sys2Proof.Machine.execPacketClassTimeout p tc s
  | .creditTimer p => Sys2Proof.Machine.execCreditTimer p s
  | .versionOffer p vers policy role floor uid => Sys2Proof.Machine.execVersionOffer p vers policy role floor uid s
  | .versionOfferRepeat p => Sys2Proof.Machine.execVersionOfferRepeat p s
  | .versionAck p version => Sys2Proof.Machine.execVersionAck p version s
  | .versionTimeout p => Sys2Proof.Machine.execVersionTimeout p s
  | .creditInit p init => Sys2Proof.Machine.execCreditInit p init s
  | .credit p cum => Sys2Proof.Machine.execCredit p cum s
  | .planFlip p table cw => Sys2Proof.Machine.execPlanFlip p table cw s
  | .leadChange p lane giver newPos cw => Sys2Proof.Machine.execLeadChange p lane giver newPos cw s
  | .leadResult p lane result cw => Sys2Proof.Machine.execLeadResult p lane result cw s
  | .laneFault p lane reason => Sys2Proof.Machine.execLaneFault p lane reason s
  | .restripe p lane cw => Sys2Proof.Machine.execRestripe p lane cw s
  | .lowPower p lane action cw => Sys2Proof.Machine.execLowPower p lane action cw s
  | .authHello p nonce uid => Sys2Proof.Machine.execAuthHello p nonce uid s
  | .authCert p index count cert => Sys2Proof.Machine.execAuthCert p index count cert s
  | .authKeyshare p pub sig => Sys2Proof.Machine.execAuthKeyshare p pub sig s
  | .authFinish p mac => Sys2Proof.Machine.execAuthFinish p mac s
  | .authFail p reason => Sys2Proof.Machine.execAuthFail p reason s
  | .authStepTimeout p => Sys2Proof.Machine.execAuthStepTimeout p s
  | .authRetry p => Sys2Proof.Machine.execAuthRetry p s
  | .rekeyTrigger p => Sys2Proof.Machine.execRekeyTrigger p s
  | .keyUpdate p kp => Sys2Proof.Machine.execKeyUpdate p kp s
  | .keyUpdateAck p kp => Sys2Proof.Machine.execKeyUpdateAck p kp s
  | .syncExchange p => Sys2Proof.Machine.execSyncExchange p s
  | .sync p id => Sys2Proof.Machine.execSync p id s
  | .syncFollow p id t1 => Sys2Proof.Machine.execSyncFollow p id t1 s
  | .delayReq p id => Sys2Proof.Machine.execDelayReq p id s
  | .delayResp p id t4 => Sys2Proof.Machine.execDelayResp p id t4 s
  | .roleSwapReq p role uid => Sys2Proof.Machine.execRoleSwapReq p role uid s
  | .roleSwapAck p result => Sys2Proof.Machine.execRoleSwapAck p result s
  | .linkDown p reason => Sys2Proof.Machine.execLinkDown p reason s
  | .echo p token => Sys2Proof.Machine.execEcho p token s
  | .echoReply p token => Sys2Proof.Machine.execEchoReply p token s
  | .wakePatternRepeat p => Sys2Proof.Machine.execWakePatternRepeat p s
  | .wakePatternDetect p => Sys2Proof.Machine.execWakePatternDetect p s
  | .enumProbe p hop => Sys2Proof.Machine.execEnumProbe p hop s
  | .enumReply via src port vers role linked uid declared => Sys2Proof.Machine.execEnumReply via src port vers role linked uid declared s
  | .addrAssign p addr str uid => Sys2Proof.Machine.execAddrAssign p addr str uid s
  | .routeSet src count entries => Sys2Proof.Machine.execRouteSet src count entries s
  | .routeAck src applied status => Sys2Proof.Machine.execRouteAck src applied status s
  | .floorGossip lowest origin age => Sys2Proof.Machine.execFloorGossip lowest origin age s
  | .gmAnnounce p prio cls steps uid => Sys2Proof.Machine.execGmAnnounce p prio cls steps uid s
  | .hubGone hub => Sys2Proof.Machine.execHubGone hub s
  | .eventNotify src entry => Sys2Proof.Machine.execEventNotify src entry s
  | .pathProbe path sent => Sys2Proof.Machine.execPathProbe path sent s
  | .tunnelOpen srcHub srcAdp dstAdp dstHub cls tc => Sys2Proof.Machine.execTunnelOpen srcHub srcAdp dstAdp dstHub cls tc s
  | .tunnelClose adp hub => Sys2Proof.Machine.execTunnelClose adp hub s
  | .confirm a seq status => Sys2Proof.Machine.execConfirm a seq status s
  | .command src neighbour frame => Sys2Proof.Machine.execCommand src neighbour frame s
  | .translatePacket => Sys2Proof.Machine.execTranslatePacket s
  | .nativeUnitDispatch a unit secondary => Sys2Proof.Machine.execNativeUnitDispatch a unit secondary s
  | .workItemComplete e => Sys2Proof.Machine.execWorkItemComplete e s
  | .steal e => Sys2Proof.Machine.execSteal e s
  | .xsteal e => Sys2Proof.Machine.execXsteal e s
  | .stealMoveDone e => Sys2Proof.Machine.execStealMoveDone e s
  | .egressQueueRoom e => Sys2Proof.Machine.execEgressQueueRoom e s
  | .egressPacketArrive a => Sys2Proof.Machine.execEgressPacketArrive a s
  | .rsqTmo a => Sys2Proof.Machine.execRsqTmo a s
  | .packetAdmit p => Sys2Proof.Machine.execPacketAdmit p s
  | .reserveWaitAdmit p => Sys2Proof.Machine.execReserveWaitAdmit p s
  | .crossbarGrant o tc read => Sys2Proof.Machine.execCrossbarGrant o tc read s
  | .mirrorSend => Sys2Proof.Machine.execMirrorSend s
  | .auditPeriod => Sys2Proof.Machine.execAuditPeriod s
  | .farrierStart m v => Sys2Proof.Machine.execFarrierStart m v s
  | .auditComplete dups => Sys2Proof.Machine.execAuditComplete dups s
  | .cellSlot p => Sys2Proof.Machine.execCellSlot p s
  | .gateEntryEnd p => Sys2Proof.Machine.execGateEntryEnd p s
  | .epochBoundary => Sys2Proof.Machine.execEpochBoundary s
  | .decisionPoint => Sys2Proof.Machine.execDecisionPoint s
  | .armWrite m p => Sys2Proof.Machine.execArmWrite m p s
  | .disarmWrite m p => Sys2Proof.Machine.execDisarmWrite m p s
  | .probeStart p => Sys2Proof.Machine.execProbeStart p s
  | .peerAnnounce p => Sys2Proof.Machine.execPeerAnnounce p s
  | .gmAnnounceTimer => Sys2Proof.Machine.execGmAnnounceTimer s
  | .gmAnnounceExpire p => Sys2Proof.Machine.execGmAnnounceExpire p s
  | .paddockArrive => Sys2Proof.Machine.execPaddockArrive s
  | .paddockRelease => Sys2Proof.Machine.execPaddockRelease s
  | .floorGossipTimer => Sys2Proof.Machine.execFloorGossipTimer s
  | .floorRecordLapse => Sys2Proof.Machine.execFloorRecordLapse s
  | .captureFrameStart d f tiles => Sys2Proof.Machine.execCaptureFrameStart d f tiles s
  | .tileExtract d => Sys2Proof.Machine.execTileExtract d s
  | .refreshPeriod d => Sys2Proof.Machine.execRefreshPeriod d s
  | .captureNoFrame d => Sys2Proof.Machine.execCaptureNoFrame d s
  | .hpdLowEnd d => Sys2Proof.Machine.execHpdLowEnd d s
  | .hpdHoldExpire d => Sys2Proof.Machine.execHpdHoldExpire d s
  | .pushTailWrite m d tail => Sys2Proof.Machine.execPushTailWrite m d tail s
  | .pushRecordSend d => Sys2Proof.Machine.execPushRecordSend d s
  | .tileRecord d record enc => Sys2Proof.Machine.execTileRecord d record enc s
  | .frameEnd d full frame tiles => Sys2Proof.Machine.execFrameEnd d full frame tiles s
  | .format d f => Sys2Proof.Machine.execFormat d f s
  | .refreshReq d reason frame => Sys2Proof.Machine.execRefreshReq d reason frame s
  | .sinkEdid d idx total block => Sys2Proof.Machine.execSinkEdid d idx total block s
  | .sinkStatus d flags frame refresh => Sys2Proof.Machine.execSinkStatus d flags frame refresh s
  | .hdcpTopo d depth count devs casc ids => Sys2Proof.Machine.execHdcpTopo d depth count devs casc ids s
  | .vblankStart d lines => Sys2Proof.Machine.execVblankStart d lines s
  | .stretchEnd d => Sys2Proof.Machine.execStretchEnd d s
  | .scanoutFrameStart d => Sys2Proof.Machine.execScanoutFrameStart d s
  | .commitTmo d => Sys2Proof.Machine.execCommitTmo d s
  | .refreshReqRepeat d => Sys2Proof.Machine.execRefreshReqRepeat d s
  | .sinkStatusTimer d => Sys2Proof.Machine.execSinkStatusTimer d s
  | .underrun u => Sys2Proof.Machine.execUnderrun u s
  | .dpLoss d => Sys2Proof.Machine.execDpLoss d s
  | .hpdReturn d edid => Sys2Proof.Machine.execHpdReturn d edid s
  | .relayInputStop d => Sys2Proof.Machine.execRelayInputStop d s
  | .mcReady failed => Sys2Proof.Machine.execMcReady failed s
  | .tlpRecord a record seq ackreq peer => Sys2Proof.Machine.execTlpRecord a record seq ackreq peer s
  | .linkState a up speed width => Sys2Proof.Machine.execLinkState a up speed width s
  | .linkStateTimer b => Sys2Proof.Machine.execLinkStateTimer b s
  | .pcieLinkChange b up speed width => Sys2Proof.Machine.execPcieLinkChange b up speed width s
  | .resetRecord a kind => Sys2Proof.Machine.execResetRecord a kind s
  | .pbErrorRecord a cause status seq addr => Sys2Proof.Machine.execPbErrorRecord a cause status seq addr s
  | .powerControllerControl a off => Sys2Proof.Machine.execPowerControllerControl a off s
  | .secondaryBusReset a => Sys2Proof.Machine.execSecondaryBusReset a s
  | .pcieAck a seq => Sys2Proof.Machine.execPcieAck a seq s
  | .confirmTimeout a => Sys2Proof.Machine.execConfirmTimeout a s
  | .cplTimeout a => Sys2Proof.Machine.execCplTimeout a s
  | .perstRelease b => Sys2Proof.Machine.execPerstRelease b s
  | .readRecord a tag size addr => Sys2Proof.Machine.execReadRecord a tag size addr s
  | .writeRecord a tag addr data seq ackreq => Sys2Proof.Machine.execWriteRecord a tag addr data seq ackreq s
  | .readResp a tag status data => Sys2Proof.Machine.execReadResp a tag status data s
  | .rbErrorRecord a tag status addr => Sys2Proof.Machine.execRbErrorRecord a tag status addr s
  | .i2cDone status data => Sys2Proof.Machine.execI2cDone status data s
  | .rbReadTimeout tag => Sys2Proof.Machine.execRbReadTimeout tag s
  | .signalAccept n level => Sys2Proof.Machine.execSignalAccept n level s
  | .groupUpdate g => Sys2Proof.Machine.execGroupUpdate g s
  | .updateReceive g ts value edges interval => Sys2Proof.Machine.execUpdateReceive g ts value edges interval s
  | .timedApply g => Sys2Proof.Machine.execTimedApply g s
  | .stale g => Sys2Proof.Machine.execStale g s
  | .upstreamConnect src ss => Sys2Proof.Machine.execUpstreamConnect src ss s
  | .headerRecord a header => Sys2Proof.Machine.execHeaderRecord a header s
  | .dataRecord a header data => Sys2Proof.Machine.execDataRecord a header data s
  | .itpRecord a ts itp => Sys2Proof.Machine.execItpRecord a ts itp s
  | .itpRelease delta => Sys2Proof.Machine.execItpRelease delta s
  | .usb3PortRecord a event => Sys2Proof.Machine.execUsb3PortRecord a event s
  | .hostToken k t => Sys2Proof.Machine.execHostToken k t s
  | .xfer kind addr ep toggle iso data pid rtoggle rdata => Sys2Proof.Machine.execXfer kind addr ep toggle iso data pid rtoggle rdata s
  | .result k pid addr ep isIn toggle data => Sys2Proof.Machine.execResult k pid addr ep isIn toggle data s
  | .sofRecord ts frame micro => Sys2Proof.Machine.execSofRecord ts frame micro s
  | .sofRelease => Sys2Proof.Machine.execSofRelease s
  | .sofLate => Sys2Proof.Machine.execSofLate s
  | .usb2PortRecord a event => Sys2Proof.Machine.execUsb2PortRecord a event s
  | .usbAttachDebounce n hs ss => Sys2Proof.Machine.execUsbAttachDebounce n hs ss s
  | .overcurrent n => Sys2Proof.Machine.execOvercurrent n s
  | .suspendEntry => Sys2Proof.Machine.execSuspendEntry s
  | .remoteWake n => Sys2Proof.Machine.execRemoteWake n s
  | .sendCommand wLength data status => Sys2Proof.Machine.execSendCommand wLength data status s
  | .getResponse seq wLength => Sys2Proof.Machine.execGetResponse seq wLength s
  | .bulkFrame data last => Sys2Proof.Machine.execBulkFrame data last s
  | .busReset => Sys2Proof.Machine.execBusReset s
  | .frameReceive m frame fcsOk stamp => Sys2Proof.Machine.execFrameReceive m frame fcsOk stamp s
  | .pfcRepeat m p => Sys2Proof.Machine.execPfcRepeat m p s
  | .pfcFrame m pfc enable quanta => Sys2Proof.Machine.execPfcFrame m pfc enable quanta s
  | .pauseExpire m p => Sys2Proof.Machine.execPauseExpire m p s
  | .frameTransmit m => Sys2Proof.Machine.execFrameTransmit m s
  | .ethLinkChange m up speed => Sys2Proof.Machine.execEthLinkChange m up speed s
  | .txtsHeadRead m mac => Sys2Proof.Machine.execTxtsHeadRead m mac s
  | .secondsRollover => Sys2Proof.Machine.execSecondsRollover s
  | .tmNsRead m => Sys2Proof.Machine.execTmNsRead m s
  | .servoSample src theta ms => Sys2Proof.Machine.execServoSample src theta ms s
  | .sourceNoSample => Sys2Proof.Machine.execSourceNoSample s
  | .acquireTimer => Sys2Proof.Machine.execAcquireTimer s
  | .tmCmdStep m => Sys2Proof.Machine.execTmCmdStep m s
  | .ppsInEdge t => Sys2Proof.Machine.execPpsInEdge t s
  | .ppsMiss => Sys2Proof.Machine.execPpsMiss s
  | .gptpSyncTimer m => Sys2Proof.Machine.execGptpSyncTimer m s
  | .pdelayTimer m => Sys2Proof.Machine.execPdelayTimer m s
  | .ccAttachDebounce p source cc2 ra => Sys2Proof.Machine.execCcAttachDebounce p source cc2 ra s
  | .detach p => Sys2Proof.Machine.execDetach p s
  | .sourceCapTimer p => Sys2Proof.Machine.execSourceCapTimer p s
  | .sourceCapabilities p caps epr rev2 => Sys2Proof.Machine.execSourceCapabilities p caps epr rev2 s
  | .request p pos volt cur rev2 => Sys2Proof.Machine.execRequest p pos volt cur rev2 s
  | .transitionDone p => Sys2Proof.Machine.execTransitionDone p s
  | .psRdy p => Sys2Proof.Machine.execPsRdy p s
  | .sinkCapabilities p caps epr rev2 frs => Sys2Proof.Machine.execSinkCapabilities p caps epr rev2 frs s
  | .ppsRequestTimeout p => Sys2Proof.Machine.execPpsRequestTimeout p s
  | .ppsRequestTimer p => Sys2Proof.Machine.execPpsRequestTimer p s
  | .eprMode p kind => Sys2Proof.Machine.execEprMode p kind s
  | .eprKeepalive p => Sys2Proof.Machine.execEprKeepalive p s
  | .eprKeepaliveTimeout p => Sys2Proof.Machine.execEprKeepaliveTimeout p s
  | .eprKeepaliveTimer p => Sys2Proof.Machine.execEprKeepaliveTimer p s
  | .capsCutTimeout p => Sys2Proof.Machine.execCapsCutTimeout p s
  | .prSwap p => Sys2Proof.Machine.execPrSwap p s
  | .drSwap p => Sys2Proof.Machine.execDrSwap p s
  | .vconnSwap p => Sys2Proof.Machine.execVconnSwap p s
  | .swapRetry p => Sys2Proof.Machine.execSwapRetry p s
  | .vconnOc p => Sys2Proof.Machine.execVconnOc p s
  | .frSwap p => Sys2Proof.Machine.execFrSwap p s
  | .frsSignalDetect p => Sys2Proof.Machine.execFrsSignalDetect p s
  | .retakeTimer => Sys2Proof.Machine.execRetakeTimer s
  | .vbusRangeFault p => Sys2Proof.Machine.execVbusRangeFault p s
  | .hardReset p => Sys2Proof.Machine.execHardReset p s
  | .discoverIdentity p kind vdo cable amps5 epr => Sys2Proof.Machine.execDiscoverIdentity p kind vdo cable amps5 epr s
  | .discoverSvids p request lists => Sys2Proof.Machine.execDiscoverSvids p request lists s
  | .discoverModes p request dp vdo => Sys2Proof.Machine.execDiscoverModes p request dp vdo s
  | .enterMode p kind vdo => Sys2Proof.Machine.execEnterMode p kind vdo s
  | .exitMode p answer => Sys2Proof.Machine.execExitMode p answer s
  | .configure p c => Sys2Proof.Machine.execConfigure p c s
  | .attention p => Sys2Proof.Machine.execAttention p s
  | .pdFirmwareMessage p listed ready => Sys2Proof.Machine.execPdFirmwareMessage p listed ready s
  | .pdFwTimeout p => Sys2Proof.Machine.execPdFwTimeout p s
  | .shortCircuit n => Sys2Proof.Machine.execShortCircuit n s
  | .limitStart b => Sys2Proof.Machine.execLimitStart b s
  | .faultTimerExpire n => Sys2Proof.Machine.execFaultTimerExpire n s
  | .faultTimerClear n => Sys2Proof.Machine.execFaultTimerClear n s
  | .pgRise n => Sys2Proof.Machine.execPgRise n s
  | .channelClose n orient => Sys2Proof.Machine.execChannelClose n orient s
  | .channelOpen n => Sys2Proof.Machine.execChannelOpen n s
  | .reverse n => Sys2Proof.Machine.execReverse n s
  | .windowEnter k => Sys2Proof.Machine.execWindowEnter k s
  | .insertionDebounce k => Sys2Proof.Machine.execInsertionDebounce k s
  | .prechargeDone k => Sys2Proof.Machine.execPrechargeDone k s
  | .prechargeTimeout k => Sys2Proof.Machine.execPrechargeTimeout k s
  | .windowFault k above => Sys2Proof.Machine.execWindowFault k above s
  | .reverseBlock k => Sys2Proof.Machine.execReverseBlock k s
  | .blockRelease k => Sys2Proof.Machine.execBlockRelease k s
  | .inputValidChange => Sys2Proof.Machine.execInputValidChange s
  | .retryTimerExpire n => Sys2Proof.Machine.execRetryTimerExpire n s
  | .tripsReset n => Sys2Proof.Machine.execTripsReset n s
  | .efCmdClear m n => Sys2Proof.Machine.execEfCmdClear m n s
  | .powerOnResetRelease straps => Sys2Proof.Machine.execPowerOnResetRelease straps s
  | .pinReset => Sys2Proof.Machine.execPinReset s
  | .testReset => Sys2Proof.Machine.execTestReset s
  | .coreResetRelease => Sys2Proof.Machine.execCoreResetRelease s
  | .coreSupplyFail => Sys2Proof.Machine.execCoreSupplyFail s
  | .refWindow count => Sys2Proof.Machine.execRefWindow count s
  | .rootPllLock => Sys2Proof.Machine.execRootPllLock s
  | .rampStep c => Sys2Proof.Machine.execRampStep c s
  | .rcTrimWindow rc => Sys2Proof.Machine.execRcTrimWindow rc s
  | .sofTrimWindow rc => Sys2Proof.Machine.execSofTrimWindow rc s
  | .clockEnableWrite m v => Sys2Proof.Machine.execClockEnableWrite m v s
  | .clockFault c => Sys2Proof.Machine.execClockFault c s
  | .referenceLoss => Sys2Proof.Machine.execReferenceLoss s
  | .lanePllUnlock p => Sys2Proof.Machine.execLanePllUnlock p s
  | .refFailTimer => Sys2Proof.Machine.execRefFailTimer s
  | .pllLockTimeout => Sys2Proof.Machine.execPllLockTimeout s
  | .warmResetWrite m => Sys2Proof.Machine.execWarmResetWrite m s
  | .warmReset => Sys2Proof.Machine.execWarmReset s
  | .portResetWrite m ports => Sys2Proof.Machine.execPortResetWrite m ports s
  | .watchdogKick m v => Sys2Proof.Machine.execWatchdogKick m v s
  | .watchdogExpire => Sys2Proof.Machine.execWatchdogExpire s
  | .psGoWrite m target => Sys2Proof.Machine.execPsGoWrite m target s
  | .handshakeRound => Sys2Proof.Machine.execHandshakeRound s
  | .delayExpire => Sys2Proof.Machine.execDelayExpire s
  | .maxWaitExpire => Sys2Proof.Machine.execMaxWaitExpire s
  | .entryComplete => Sys2Proof.Machine.execEntryComplete s
  | .wakeEvent src last8 => Sys2Proof.Machine.execWakeEvent src last8 s
  | .wakeComplete slept => Sys2Proof.Machine.execWakeComplete slept s
  | .wakeTimerExpire => Sys2Proof.Machine.execWakeTimerExpire s
  | .domainIdleOff d => Sys2Proof.Machine.execDomainIdleOff d s
  | .domainWakeDone d us => Sys2Proof.Machine.execDomainWakeDone d us s
  | .load m attr => Sys2Proof.Machine.execLoad m attr s
  | .loadWrapped m attr => Sys2Proof.Machine.execLoadWrapped m attr s
  | .unwrapLoad m attr => Sys2Proof.Machine.execUnwrapLoad m attr s
  | .erase m => Sys2Proof.Machine.execErase m s
  | .encrypt m => Sys2Proof.Machine.execEncrypt m s
  | .decrypt m => Sys2Proof.Machine.execDecrypt m s
  | .wrap m => Sys2Proof.Machine.execWrap m s
  | .derive m => Sys2Proof.Machine.execDerive m s
  | .keyUnitDone => Sys2Proof.Machine.execKeyUnitDone s
  | .rngHealthFail => Sys2Proof.Machine.execRngHealthFail s
  | .drainComplete g => Sys2Proof.Machine.execDrainComplete g s
  | .dbgauthChallenge => Sys2Proof.Machine.execDbgauthChallenge s
  | .dbgVerify scope pub sig => Sys2Proof.Machine.execDbgVerify scope pub sig s
  | .dbgVerifyDone => Sys2Proof.Machine.execDbgVerifyDone s
  | .nonceLapse => Sys2Proof.Machine.execNonceLapse s
  | .imageLoad there => Sys2Proof.Machine.execImageLoad there s
  | .txnIdleTimeout id => Sys2Proof.Machine.execTxnIdleTimeout id s
  | .quietPoint quietNs drainUs inflight => Sys2Proof.Machine.execQuietPoint quietNs drainUs inflight s
  | .drainTimeout => Sys2Proof.Machine.execDrainTimeout s
  | .getInfo o seq txn csv => Sys2Proof.Machine.execGetInfo o seq txn csv s
  | .echoCmd o seq txn csv data => Sys2Proof.Machine.execEchoCmd o seq txn csv data s
  | .reset o seq txn csv kind ports => Sys2Proof.Machine.execReset o seq txn csv kind ports s
  | .powerState o seq txn csv target => Sys2Proof.Machine.execPowerState o seq txn csv target s
  | .notifyCfg o seq txn csv paths severity hub => Sys2Proof.Machine.execNotifyCfg o seq txn csv paths severity hub s
  | .begin o seq txn csv => Sys2Proof.Machine.execBegin o seq txn csv s
  | .stage o seq txn csv l => Sys2Proof.Machine.execStage o seq txn csv l s
  | .stageRead o seq txn csv l => Sys2Proof.Machine.execStageRead o seq txn csv l s
  | .commit o seq txn csv => Sys2Proof.Machine.execCommit o seq txn csv s
  | .rollback o seq txn csv => Sys2Proof.Machine.execRollback o seq txn csv s
  | .txnInfo o seq txn csv => Sys2Proof.Machine.execTxnInfo o seq txn csv s
  | .imgInfo o seq txn csv => Sys2Proof.Machine.execImgInfo o seq txn csv s
  | .imgErase o seq txn csv slot => Sys2Proof.Machine.execImgErase o seq txn csv slot s
  | .imgWrite o seq txn csv slot ofs data => Sys2Proof.Machine.execImgWrite o seq txn csv slot ofs data s
  | .imgRead o seq txn csv slot ofs len => Sys2Proof.Machine.execImgRead o seq txn csv slot ofs len s
  | .imgCheck o seq txn csv slot => Sys2Proof.Machine.execImgCheck o seq txn csv slot s
  | .tunnelList o seq txn csv => Sys2Proof.Machine.execTunnelList o seq txn csv s
  | .tunnelStat o seq txn csv adp => Sys2Proof.Machine.execTunnelStat o seq txn csv adp s
  | .tunnelReopen o seq txn csv adp => Sys2Proof.Machine.execTunnelReopen o seq txn csv adp s
  | .alStatus o seq txn csv port => Sys2Proof.Machine.execAlStatus o seq txn csv port s
  | .alTableWrite o seq txn csv port table l => Sys2Proof.Machine.execAlTableWrite o seq txn csv port table l s
  | .alArm o seq txn csv port arm => Sys2Proof.Machine.execAlArm o seq txn csv port arm s
  | .policerRead o seq txn csv k => Sys2Proof.Machine.execPolicerRead o seq txn csv k s
  | .linkStatus o seq txn csv port => Sys2Proof.Machine.execLinkStatus o seq txn csv port s
  | .linkAction o seq txn csv port action => Sys2Proof.Machine.execLinkAction o seq txn csv port action s
  | .roleSwap o seq txn csv port => Sys2Proof.Machine.execRoleSwap o seq txn csv port s
  | .eyeScan o seq txn csv lane eye dwell phLo phHi vLo vHi => Sys2Proof.Machine.execEyeScan o seq txn csv lane eye dwell phLo phHi vLo vHi s
  | .pdStatus o seq txn csv port => Sys2Proof.Machine.execPdStatus o seq txn csv port s
  | .pdAction o seq txn csv port action => Sys2Proof.Machine.execPdAction o seq txn csv port action s
  | .efStatus o seq txn csv channel => Sys2Proof.Machine.execEfStatus o seq txn csv channel s
  | .efClear o seq txn csv channel => Sys2Proof.Machine.execEfClear o seq txn csv channel s
  | .budgetStatus o seq txn csv => Sys2Proof.Machine.execBudgetStatus o seq txn csv s
  | .keyLoad o seq txn csv op attr kcv data => Sys2Proof.Machine.execKeyLoad o seq txn csv op attr kcv data s
  | .keyOp o seq txn csv op data => Sys2Proof.Machine.execKeyOp o seq txn csv op data s
  | .keyErase o seq txn csv => Sys2Proof.Machine.execKeyErase o seq txn csv s
  | .rollbackAdv o seq txn csv which => Sys2Proof.Machine.execRollbackAdv o seq txn csv which s
  | .certRead o seq txn csv => Sys2Proof.Machine.execCertRead o seq txn csv s
  | .gateViol o seq txn csv gate flags => Sys2Proof.Machine.execGateViol o seq txn csv gate flags s
  | .logRead o seq txn csv index count => Sys2Proof.Machine.execLogRead o seq txn csv index count s
  | .bistRun o seq txn csv block => Sys2Proof.Machine.execBistRun o seq txn csv block s
  | .farrierRun o seq txn csv => Sys2Proof.Machine.execFarrierRun o seq txn csv s
  | .timeGet o seq txn csv => Sys2Proof.Machine.execTimeGet o seq txn csv s
  | .timeStep o seq txn csv relative data => Sys2Proof.Machine.execTimeStep o seq txn csv relative data s
  | .txtsRead o seq txn csv mac max_ => Sys2Proof.Machine.execTxtsRead o seq txn csv mac max_ s
  | .dispStatus o seq txn csv pipe => Sys2Proof.Machine.execDispStatus o seq txn csv pipe s
  | .dispEdid o seq txn csv pipe block => Sys2Proof.Machine.execDispEdid o seq txn csv pipe block s
  | .dispTopo o seq txn csv pipe => Sys2Proof.Machine.execDispTopo o seq txn csv pipe s
  | .domainStatus o seq txn csv => Sys2Proof.Machine.execDomainStatus o seq txn csv s
  | .hubList o seq txn csv => Sys2Proof.Machine.execHubList o seq txn csv s
  | .hubRemove o seq txn csv hub => Sys2Proof.Machine.execHubRemove o seq txn csv hub s
  | .routeRead o seq txn csv first count => Sys2Proof.Machine.execRouteRead o seq txn csv first count s
  | .relay o seq txn csv dst tmo inner => Sys2Proof.Machine.execRelay o seq txn csv dst tmo inner s
  | .relayTimeout o => Sys2Proof.Machine.execRelayTimeout o s
  | .regRead o seq txn csv l => Sys2Proof.Machine.execRegRead o seq txn csv l s
  | .regWrite o seq txn csv l => Sys2Proof.Machine.execRegWrite o seq txn csv l s
  | .regRmw o seq txn csv a mask v => Sys2Proof.Machine.execRegRmw o seq txn csv a mask v s
  | .rbRead o seq txn csv adp size a => Sys2Proof.Machine.execRbRead o seq txn csv adp size a s
  | .rbWrite o seq txn csv adp size a data => Sys2Proof.Machine.execRbWrite o seq txn csv adp size a data s
  | .commandTimeout o => Sys2Proof.Machine.execCommandTimeout o s
  | .smbFrameStart addr data pecOk => Sys2Proof.Machine.execSmbFrameStart addr data pecOk s
  | .smbFrameContinue addr data pecOk => Sys2Proof.Machine.execSmbFrameContinue addr data pecOk s
  | .smbResponseRead addr => Sys2Proof.Machine.execSmbResponseRead addr s
  | .smbSelect addr seq => Sys2Proof.Machine.execSmbSelect addr seq s
  | .smbSclTimeout => Sys2Proof.Machine.execSmbSclTimeout s
  | .bistStart m block => Sys2Proof.Machine.execBistStart m block s
  | .bistDone misr => Sys2Proof.Machine.execBistDone misr s
  | .rcCounterRead m a => Sys2Proof.Machine.execRcCounterRead m a s
  | .registerWrite m a data => Sys2Proof.Machine.execRegisterWrite m a data s
  | .lowPowerExit p => Sys2Proof.Machine.execLowPowerExit p s
  | .localPllLock x => Sys2Proof.Machine.execLocalPllLock x s
  | .dpLinkTrained d rate lanes dscMax adaptive minRate => Sys2Proof.Machine.execDpLinkTrained d rate lanes dscMax adaptive minRate s
  | .hdcpSessionAuth d src legacy type1 depth count above ids => Sys2Proof.Machine.execHdcpSessionAuth d src legacy type1 depth count above ids s
  | .hubClassRequest n r => Sys2Proof.Machine.execHubClassRequest n r s
  | .portResetComplete n => Sys2Proof.Machine.execPortResetComplete n s
  | .upstreamResume => Sys2Proof.Machine.execUpstreamResume s
  | .ppsPulseEnd => Sys2Proof.Machine.execPpsPulseEnd s
  | .accept p answer => Sys2Proof.Machine.execAccept p answer s
  | .senderResponseTimeout p => Sys2Proof.Machine.execSenderResponseTimeout p s
  | .sourceRecover p => Sys2Proof.Machine.execSourceRecover p s
  | .modeExitWait p => Sys2Proof.Machine.execModeExitWait p s
  | .interruptEndpointRead bulk => Sys2Proof.Machine.execInterruptEndpointRead bulk s
  | .alertResponse => Sys2Proof.Machine.execAlertResponse s
  | .relayInputFrame d f tiles => Sys2Proof.Machine.execRelayInputFrame d f tiles s
  | .alwaysOnSupplyFail => Sys2Proof.Machine.execAlwaysOnSupplyFail s
  | .getPpsStatus p volt limiting => Sys2Proof.Machine.execGetPpsStatus p volt limiting s

end Sys2Proof.Machine
end

