-- ==== Sys2Proof/Safety.lean ====
section
/-!
DEFINITION. What a safe run is, and the words the statements use: a granted access of the management bus, a command frame that is admitted.
-/

namespace Sys2Proof.Machine

/-- A step stopped the machine. -/
def Stops (r : Host.Outcome State Fault Refusal) : Prop := ∀ t, r ≠ .next t

/-- A state is safe: its memories and its register table are in canonical form, so a read gives what was last written. -/
abbrev Safe (s : State) : Prop := Memory.wf s = true

/-- The bus grants a master an access of `n` bytes at an address and nothing changes by its checks (R23). -/
abbrev State.grants (s : State) (m : Master) (k : AccessKind) (a n : Nat) : Prop := s.busCheck m m.priv k a n = (.done, s)

/-- The command that a row of the table spells by its fields, as it enters the queue of its owner (R418, R419, R432). -/
def cmdEntry (o : Owner) (op seq txn csv : Nat) (body : List Byte) : CmdEntry :=
  { owner := o, op := op, seq := seq, txn := txn, csv := csv, flags := 0, rsv := 0, body := body, limit := rowLimit o }

/-- A command is admitted and starts at once (R424 to R427): its transport is served and idle, its frame fits, its SEQ is in no cache, its version has
the command, no power state stops execution, and every check before execution passes. -/
abbrev State.admits (s : State) (e : CmdEntry) : Prop :=
  s.served e.owner = true ∧ s.cmd.entries = [] ∧ s.cached e.owner e.seq = none ∧ 16 + e.body.length ≤ e.limit ∧
    (e.csv = 3 ∨ (e.csv = 2 ∧ since3 e.op = false)) ∧ s.rd PS_STAT.STATE < 2 ∧ s.rd PS_STAT.WAKING = 0 ∧ s.precheck e = none

/-- The entry of a command while it executes, and the state with that one command executing. -/
def CmdEntry.started (e : CmdEntry) : CmdEntry := { e with running := true }
def State.withCommand (s : State) (e : CmdEntry) : State := { s with cmd := { s.cmd with entries := [e.started] } }

end Sys2Proof.Machine
end

