-- ==== Sys2Proof/Certificates/Slice0/Obligations.lean ====
section
/-!
DEFINITION. The statements. Each docstring says what its statement says of the hub, and cites the rules of spec/.
-/

open Sys2Proof Sys2Proof.Machine

/-- For every state and every command c at the front of its queue, step answers what exec of c answers on the state with the queue's rest. On an empty queue
step answers the state after one tick of the domain clock; that a step without a command is a tick is the model's choice (assumption row 10). (R12, R283,
INDEX.md) -/
def Obligations.StepRunsTheFrontCommand : Prop :=
  (∀ (c : Instr) (rest : List Instr) (s : State), step { s with pending := c :: rest } = exec c { s with pending := rest }) ∧
  (∀ (s : State) (c : Instr) (rest : List Instr), s.pending = c :: rest → step s = exec c { s with pending := rest }) ∧
  (∀ (s : State), s.pending = [] → step s = .next s.tick)

/-- State.reset lists no byte of any memory and no command, has sent nothing, runs no clock and serves no transport, and its time counter stands at 0 s + 0 ns.
Registers of twelve blocks read the resets the register map gives: MC_CFG 0x0000_00F0, GC_WDT 0x03E8_0000, TM_INC_NOM_NS 6, TM_INC_NOM_FRAC 0x6666_6666,
CL_CRED_INIT 0, BT_LOG_HEAD 0, and the others named here. That reset is the state before power-on reset is released is the model's choice (assumption row
11). (R283, R473, R488) -/
def Obligations.ResetLeavesTheHubHeld : Prop :=
  Memory.wf State.reset = true ∧ State.reset.mem = [] ∧ State.reset.flash = [] ∧ State.reset.frame = [] ∧ State.reset.pending = [] ∧
    State.reset.out = [] ∧ State.reset.clk.phase = .held ∧ State.reset.timeRuns = false ∧ State.reset.time = { sec := 0, ns := 0, frac := 0 } ∧
    (∀ o : Owner, o ≠ .rom → State.reset.served o = false) ∧ State.reset.reg MC_CFG = 0xF0 ∧ State.reset.reg GC_WDT = 0x03E80000 ∧
    State.reset.rd TM_INC_NOM_NS.NS = 6 ∧ State.reset.rd TM_INC_NOM_FRAC.FRAC = 0x66666666 ∧ (∀ p k, State.reset.rd (CL_CRED_INIT.INIT p k) = 0)

/-- From every state whose memories and register table are in canonical form (keys rising, no entry equal to what an unlisted key reads as), a step gives a
state in canonical form, whatever command is at the front of the queue, and also on an empty queue. So equal memories are equal data throughout every run.
(R22, R23) -/
def Obligations.StepKeepsCanonicalForm : Prop :=
  ∀ (s t : State), Safe s → step s = .next t → Safe t

/-- For every command and every state, exec answers a next state (no command stops the machine). In it the queue of waiting commands is the same, what the hub
has sent begins with what it had sent before, the uptime has not gone back, and neither rollback counter of the fuses has gone down (R375). (R374, R375) -/
def Obligations.CommandsCompleteAndKeepHistory : Prop :=
  ∀ (c : Instr) (s : State), ∃ t, exec c s = .next t ∧ t.pending = s.pending ∧ s.out <+: t.out ∧ s.uptime ≤ t.uptime ∧
    s.fuses.imgMin ≤ t.fuses.imgMin ∧ s.fuses.patchMin ≤ t.fuses.patchMin

/-- Reporting an event of a block that is not under self-test leaves its flag at 1 and its 8-bit count one higher, at most 255, also when the flag already read
1. Every register but the flag's and count's own, those of the log and those of a lost notification keeps its value, every other field of the flag's
register that holds neither keeps its value, and memory, links, queues, time and what has been sent stay. Under self-test nothing changes. The hypotheses
say that the event is declared as the register map declares its events: one flag bit, eight count bits, apart, outside the log's registers. (R10, R450,
R452, R454) -/
def Obligations.EventSetsFlagAndCounts : Prop :=
  (∀ (s : State) (e : Evt), s.underTest e.source e.inst = true → s.raise e = s) ∧
  (∀ (s : State) (e : Evt), s.underTest e.source e.inst = false → e.flag.width = 1 → e.flag.lo < 32 → e.count.width = 8 → e.count.lo ≤ 24 →
    (e.flag.addr ≠ e.count.addr ∨ e.flag.lo < e.count.lo ∨ e.count.lo + 8 ≤ e.flag.lo) →
    (∀ a ∈ [e.flag.addr, e.count.addr], a ∉ [BT_LOG_HEAD, BT_LOG_OLDEST, BT_LOG_LOST, Ev.BT_NOTIFY_LOST.flag.addr, Ev.BT_NOTIFY_LOST.count.addr]) →
    let t := s.raise e
    t.rd e.flag = 1 ∧ t.rd e.count = min 255 (s.rd e.count + 1) ∧
      (∀ a, a ∉ [e.flag.addr, e.count.addr, BT_LOG_HEAD, BT_LOG_OLDEST, BT_LOG_LOST, Ev.BT_NOTIFY_LOST.flag.addr, Ev.BT_NOTIFY_LOST.count.addr] →
        t.reg a = s.reg a) ∧
      (∀ g : Fld, g.addr ∈ [e.flag.addr, e.count.addr] → (g.addr ≠ e.flag.addr ∨ g.lo + g.width ≤ e.flag.lo ∨ e.flag.lo < g.lo) →
        (g.addr ≠ e.count.addr ∨ g.lo + g.width ≤ e.count.lo ∨ e.count.lo + 8 ≤ g.lo) → t.rd g = s.rd g) ∧
      t.mem = s.mem ∧ t.flash = s.flash ∧ t.frame = s.frame ∧ t.links = s.links ∧ t.lanes = s.lanes ∧ t.sw = s.sw ∧ t.time = s.time ∧
      t.out = s.out ∧ t.pending = s.pending ∧ t.img = s.img ∧ t.fuses = s.fuses)

/-- For every state: a field of a register reads the value written to it, truncated to its width, and every register at another address and every field of the
register that shares no bit with it keeps its value. Bytes written to management RAM, or to frame memory, from an address on read back as written; every
byte outside them, every register and every byte of the other memories keeps its value. (R5, R22, R23) -/
def Obligations.FieldsAndMemoriesReadBack : Prop :=
  (∀ (s : State) (f : Fld) (v : Nat), f.lo + f.width ≤ 32 → (s.wr f v).rd f = v % 2 ^ f.width) ∧
  (∀ (s : State) (f g : Fld) (v : Nat), (g.addr ≠ f.addr ∨ g.lo + g.width ≤ f.lo ∨ f.lo + f.width ≤ g.lo) → (s.wr f v).rd g = s.rd g) ∧
  (∀ (s : State) (a : Nat) (l : List Byte),
    let t := s.setMemBytes a l
    t.memBytes a l.length = l ∧ (∀ b, (b < a ∨ a + l.length ≤ b) → t.memByte b = s.memByte b) ∧ (∀ b, t.frameByte b = s.frameByte b) ∧
      (∀ b, t.flashByte b = s.flashByte b) ∧ (∀ r, t.reg r = s.reg r)) ∧
  (∀ (s : State) (a : Nat) (l : List Byte),
    let t := s.setFrameBytes a l
    t.frameBytes a l.length = l ∧ (∀ b, (b < a ∨ a + l.length ≤ b) → t.frameByte b = s.frameByte b) ∧ (∀ b, t.memByte b = s.memByte b) ∧
      (∀ b, t.flashByte b = s.flashByte b) ∧ (∀ r, t.reg r = s.reg r))

/-- For every packet whose fields fit, its header is 16 bytes whose bits, first byte most significant, are VER at 127:124, CLASS at 123:122, FLAGS at 121:116
(TC, MCAST, SPRAY, ACKREQ), DST_HUB at 115:102, DST_ADP at 101:94, SRC_HUB at 93:80, SRC_ADP at 79:72, LENGTH at 71:61, SEQ at 60:45, TS at 44:11 and zeros
below, and the receiver reads the same fields from them. A packet on a link without encryption is this header and its payload; on an encrypted link header,
encrypted payload and trailer byte, and the tag over them. (R70) -/
def Obligations.PacketHeaderCarriesItsFields : Prop :=
  (∀ (p : Packet) (l : List Byte), p.ver < 2 ^ 4 → p.cls < 2 ^ 2 → p.tc < 2 ^ 3 → p.dstHub < 2 ^ 14 → p.dstAdp < 2 ^ 8 → p.srcHub < 2 ^ 14 →
    p.srcAdp < 2 ^ 8 → p.len < 2 ^ 11 → p.seq < 2 ^ 16 → p.ts < 2 ^ 34 →
    let v := ofBe p.header
    p.header.length = 16 ∧ bitsOf v 124 4 = p.ver ∧ bitsOf v 122 2 = p.cls ∧
      bitsOf v 116 6 = p.tc * 8 + p.mcast.toNat * 4 + p.spray.toNat * 2 + p.ackreq.toNat ∧ bitsOf v 102 14 = p.dstHub ∧ bitsOf v 94 8 = p.dstAdp ∧
      bitsOf v 80 14 = p.srcHub ∧ bitsOf v 72 8 = p.srcAdp ∧ bitsOf v 61 11 = p.len ∧ bitsOf v 45 16 = p.seq ∧ bitsOf v 11 34 = p.ts ∧
      bitsOf v 0 11 = 0 ∧ Packet.ofHeader (p.header ++ l) = { p with payload := [], tail := 0 }) ∧
  (∀ (s : State) (p : Nat) (st : Stored) (prk : List Byte) (pn : Nat), s.linkEnc p = false → st.pkt.payload.length = st.pkt.len →
    s.wireBytes p st prk pn = st.pkt.header ++ st.pkt.payload ∧ (s.wireBytes p st prk pn).length = 16 + st.pkt.len) ∧
  (∀ (s : State) (p : Nat) (st : Stored) (prk : List Byte) (pn : Nat), s.linkEnc p = true → st.complete = true → st.cut = false →
    let k := s.linkCipher p prk true pn
    let ct := xorBytes (st.pkt.payload ++ [BitVec.ofNat 8 st.pkt.tail]) (Config.gcmPad k.1 k.2 (st.pkt.len + 1))
    s.wireBytes p st prk pn = st.pkt.header ++ ct ++ Config.gcmTag k.1 k.2 st.pkt.header ct)

/-- The time counter stands at 0 s + 0 ns + 0 at reset. For every state whose counter is in range and does not reach 2^48 s, a tick adds TM_INC_EFF_NS
nanoseconds and TM_INC_EFF_FRAC / 2^32 ns: the fraction carries into the nanoseconds, and when these reach 1,000,000,000 or more the counter subtracts
1,000,000,000 and adds one to the seconds on the same tick. The counter stays in range: 48-bit seconds, nanoseconds below 1,000,000,000, hence 30 bits, and
a 32-bit fraction. (R283) -/
def Obligations.TimeCounterAddsItsIncrement : Prop :=
  State.reset.time = { sec := 0, ns := 0, frac := 0 } ∧
  (∀ (s : State), s.time.ns < 1000000000 → s.time.frac < 2 ^ 32 → s.time.sec + 1 < 2 ^ 48 →
    let f := s.time.frac + s.rd TM_INC_EFF_FRAC.FRAC
    let n := s.time.ns + s.rd TM_INC_EFF_NS.NS + f / 2 ^ 32
    s.timeTick.time.frac = f % 2 ^ 32 ∧ s.timeTick.time.frac < 2 ^ 32 ∧ s.timeTick.time.ns < 1000000000 ∧ s.timeTick.time.sec < 2 ^ 48 ∧
      (n < 1000000000 → s.timeTick.time.ns = n ∧ s.timeTick.time.sec = s.time.sec) ∧
      (1000000000 ≤ n → s.timeTick.time.ns = n - 1000000000 ∧ s.timeTick.time.sec = s.time.sec + 1))

/-- For every state and every eFuse channel, the trip of R335 leaves the gate off, PG and LIMITING at 0, TRIPS one higher (saturating), the retry timer running
for RETRY_T units (0 as 1) of 100 ms, and STATE at 7 if RETRY_MAX is not 15 and the new TRIPS exceeds it, else at 6. That TRIPS saturates is the model's
choice (assumption row 30). (R335, R331) -/
def Obligations.ChannelTripOpensAndCounts : Prop :=
  ∀ (s : State) (n : Fin 8),
    let trips := min (2 ^ (EF_STAT.TRIPS n).width - 1) (s.rd (EF_STAT.TRIPS n) + 1)
    let t := s.tripChannel n
    t.rd (EF_STAT.PG n) = 0 ∧ t.rd (EF_STAT.LIMITING n) = 0 ∧ t.rd (EF_STAT.TRIPS n) = trips ∧
      t.rd (EF_STAT.STATE n) = (if s.rd (EF_CFG.RETRY_MAX n) ≠ 15 ∧ s.rd (EF_CFG.RETRY_MAX n) < trips then 7 else 6) ∧
      (t.ef n).retryEnd = some (s.uptime + max 1 (s.rd (EF_CFG.RETRY_T n)) * 1000000000)

/-- SHORT_CIRCUIT of a closed or starting channel, FAULT_TIMER_EXPIRE of a limiting one, REVERSE of a closed VBUS channel more than 1 ms after its last change of
ORIENT and PRECHARGE_TIMEOUT of a pre-charging main channel report their event and trip the channel; a VBUS channel's PD port acts on the trip. LIMIT_START
of a closed channel sets LIMITING, drops PG and starts the fault timer, which goes on from its value where the channel still shows LIMITING: that this
operand tells a pause below 1 ms is the model's choice (assumption row 160). In any other state each changes nothing. (R329, R330, R331, R332, R333, R335,
R319) -/
def Obligations.ChannelFaultsTrip : Prop :=
  (∀ (s : State) (n : Fin 8), (s.rd (EF_STAT.STATE n) = 2 ∨ s.rd (EF_STAT.STATE n) = 3 ∨ s.rd (EF_STAT.STATE n) = 4) →
    exec (.shortCircuit n) s =
      .next (if 6 ≤ n.val then (s.raise (Ev.EF_SHORT n)).tripChannel n else ((s.raise (Ev.EF_SHORT n)).tripChannel n).pdTrip n)) ∧
  (∀ (s : State) (n : Fin 8), s.rd (EF_STAT.STATE n) ≠ 2 → s.rd (EF_STAT.STATE n) ≠ 3 → s.rd (EF_STAT.STATE n) ≠ 4 →
    exec (.shortCircuit n) s = .next s) ∧
  (∀ (s : State) (n : Fin 8), s.rd (EF_STAT.LIMITING n) ≠ 0 →
    exec (.faultTimerExpire n) s =
      .next (if 6 ≤ n.val then (s.raise (Ev.EF_TRIP n)).tripChannel n else ((s.raise (Ev.EF_TRIP n)).tripChannel n).pdTrip n)) ∧
  (∀ (s : State) (n : Fin 8), s.rd (EF_STAT.LIMITING n) = 0 → exec (.faultTimerExpire n) s = .next s) ∧
  (∀ (s : State) (n : Fin 6), (s.rd (EF_STAT.STATE n) = 3 ∨ s.rd (EF_STAT.STATE n) = 4) → (∀ t, (s.ef n).orientAt = some t → t + 10000000 ≤ s.uptime) →
    exec (.reverse n) s = .next (((s.raise (Ev.EF_REVERSE n)).tripChannel n).pdTrip n)) ∧
  (∀ (s : State) (n : Fin 6), s.rd (EF_STAT.STATE n) ≠ 3 → s.rd (EF_STAT.STATE n) ≠ 4 → exec (.reverse n) s = .next s) ∧
  (∀ (s : State) (n : Fin 6) (t : Nat), (s.ef n).orientAt = some t → s.uptime < t + 10000000 → exec (.reverse n) s = .next s) ∧
  (∀ (s : State) (k : Fin 2), s.rd (EF_STAT.STATE (6 + k)) = 2 →
    exec (.prechargeTimeout k) s = .next ((s.raise (Ev.EF_PC_FAIL (6 + k))).tripChannel (6 + k))) ∧
  (∀ (s : State) (k : Fin 2), s.rd (EF_STAT.STATE (6 + k)) ≠ 2 → exec (.prechargeTimeout k) s = .next s) ∧
  (∀ (s : State) (n : Fin 8), s.rd (EF_STAT.STATE n) ≠ 3 → s.rd (EF_STAT.STATE n) ≠ 4 → ∀ g, exec (.limitStart ⟨n, g⟩) s = .next s) ∧
  (∀ (s : State) (n : Fin 8) (g : Fin 10000), (s.rd (EF_STAT.STATE n) = 3 ∨ s.rd (EF_STAT.STATE n) = 4) →
    exec (.limitStart ⟨n, g⟩) s = .next (((s.wr (EF_STAT.LIMITING n) 1).setPg n 0).modEf n fun x => { x with
      faultAcc := if s.rd (EF_STAT.LIMITING n) = 0 then 0 else (s.ef n).faultAcc + (s.uptime - (s.ef n).limitFrom) - g * 1000, limitFrom := s.uptime }))

/-- For main channel F6 or F7: WINDOW_ENTER sets IN_WIN; INSERTION_DEBOUNCE in Detect starts the pre-charge (STATE 2, EF_PCG high), or is held with INS_HELD
while the retry timer runs; PRECHARGE_DONE closes the main gate (STATE 3, EF_GATE high); REVERSE_BLOCK opens an On channel into Blocking with PG and
LIMITING low; BLOCK_RELEASE closes it again without a pre-charge; WINDOW_FAULT opens every transistor, reports EF_OV or EF_UV and goes to Detect from a
start and to Off from On or Blocking. (R333, R334, R336, R340) -/
def Obligations.MainInputSequence : Prop :=
  (∀ (s : State) (k : Fin 2), s.rd (EF_CFG.EN (6 + k)) ≠ 0 → s.rd (EF_STAT.STATE (6 + k)) < 2 → exec (.windowEnter k) s =
    .next (((s.wr (EF_STAT.IN_WIN (6 + k)) 1).modEf (6 + k) fun x => { x with debounced := false }).setEf (6 + k) 1)) ∧
  (∀ (s : State) (k : Fin 2), s.rd (EF_STAT.IN_WIN (6 + k)) ≠ 0 → s.rd (EF_CFG.EN (6 + k)) ≠ 0 → (s.ef (6 + k)).debounced = false →
    (s.ef (6 + k)).retryEnd ≠ none → exec (.insertionDebounce k) s =
      .next ((s.modEf (6 + k) fun x => { x with debounced := true }).raise (Ev.EF_INS_HELD (6 + k)))) ∧
  (∀ (s : State) (k : Fin 2), s.rd (EF_STAT.IN_WIN (6 + k)) ≠ 0 → s.rd (EF_CFG.EN (6 + k)) ≠ 0 → (s.ef (6 + k)).debounced = false →
    (s.ef (6 + k)).retryEnd = none → s.rd (EF_STAT.STATE (6 + k)) = 1 → exec (.insertionDebounce k) s =
      .next ((((s.modEf (6 + k) fun x => { x with debounced := true }).setOrient (6 + k) 0).setEf (6 + k) 2).send (.pin 7 (6 + k) 1))) ∧
  (∀ (s : State) (k : Fin 2), s.rd (EF_STAT.STATE (6 + k)) = 2 →
    exec (.prechargeDone k) s = .next ((s.setEf (6 + k) 3).send (.pin 6 (6 + k) 1))) ∧
  (∀ (s : State) (k : Fin 2), s.rd (EF_STAT.STATE (6 + k)) = 4 →
    exec (.reverseBlock k) s =
      .next ((((s.send (.pin 6 (6 + k) 0)).setPg (6 + k) 0).wr (EF_STAT.LIMITING (6 + k)) 0).setEf (6 + k) 5)) ∧
  (∀ (s : State) (k : Fin 2), s.rd (EF_STAT.STATE (6 + k)) = 5 →
    exec (.blockRelease k) s = .next ((s.setEf (6 + k) 4).send (.pin 6 (6 + k) 1))) ∧
  (∀ (s : State) (k : Fin 2) (above : Bool), s.rd (EF_STAT.IN_WIN (6 + k)) ≠ 0 →
    let u := ((s.wr (EF_STAT.IN_WIN (6 + k)) 0).modEf (6 + k) fun x => { x with debounced := false, faultAcc := 0 }).gateOff (6 + k)
    ((s.rd (EF_STAT.STATE (6 + k)) = 2 ∨ s.rd (EF_STAT.STATE (6 + k)) = 3) →
      exec (.windowFault k above) s = .next ((u.setEf (6 + k) 1).raise (if above then Ev.EF_OV (6 + k) else Ev.EF_UV (6 + k)))) ∧
    ((s.rd (EF_STAT.STATE (6 + k)) = 4 ∨ s.rd (EF_STAT.STATE (6 + k)) = 5) →
      exec (.windowFault k above) s = .next ((u.setEf (6 + k) 0).raise (if above then Ev.EF_OV (6 + k) else Ev.EF_UV (6 + k)))))

/-- CHANNEL_CLOSE of an enabled VBUS channel that is neither closed nor tripped starts it in the direction asked, and a change of ORIENT is noted with its time;
CHANNEL_OPEN opens a closed one without fault. PG_RISE makes a starting channel On with PG; FAULT_TIMER_CLEAR empties the fault timer; RETRY_TIMER_EXPIRE of a tripped channel latches when TRIPS
exceeds RETRY_MAX; TRIPS_RESET clears TRIPS while PG stands; INPUT_VALID_CHANGE with nothing changed changes nothing, else PDB_STAT.IN_VALID takes both
inputs, the budget is made anew and wake source 19 is there. (R330, R331, R332, R333, R334, R335, R336, R309) -/
def Obligations.ChannelClosesOpensAndRecovers : Prop :=
  (∀ (s : State) (n : Fin 6) (o : Fin 2), s.rd (EF_CFG.EN n) ≠ 0 → s.rd (EF_STAT.STATE n) < 3 →
    exec (.channelClose n o) s = .next (((s.setOrient n o).setEf n 3).send (.pin 6 n 1))) ∧
  (∀ (s : State) (n o : Nat), s.setOrient n o =
    if s.rd (EF_STAT.ORIENT n) = o then s else (s.wr (EF_STAT.ORIENT n) o).modEf n fun x => { x with orientAt := some s.uptime }) ∧
  (∀ (s : State) (n : Fin 6), (s.rd (EF_STAT.STATE n) = 3 ∨ s.rd (EF_STAT.STATE n) = 4) → exec (.channelOpen n) s = .next ((s.gateOff n).setEf n 0)) ∧
  (∀ (s : State) (n : Fin 8), (s.rd (EF_STAT.STATE n) = 3 ∨ s.rd (EF_STAT.STATE n) = 4) →
    let u := (s.wr (EF_STAT.LIMITING n) 0).modEf n fun x => { x with faultAcc := 0 }
    exec (.pgRise n) s = .next ((if 6 ≤ n.val then u.send (.pin 7 n 0) else u).setEf n 4 |>.setPg n 1)) ∧
  (∀ (s : State) (n : Fin 8), exec (.faultTimerClear n) s = .next ((s.wr (EF_STAT.LIMITING n) 0).modEf n fun x => { x with faultAcc := 0 })) ∧
  (∀ (s : State) (n : Fin 8), (s.ef n).retryEnd.isSome → s.rd (EF_STAT.STATE n) = 6 → s.rd (EF_CFG.RETRY_MAX n) ≠ 15 →
    s.rd (EF_CFG.RETRY_MAX n) < s.rd (EF_STAT.TRIPS n) →
    exec (.retryTimerExpire n) s = .next (((s.modEf n fun x => { x with retryEnd := none }).setEf n 7).raise (Ev.EF_LATCH n))) ∧
  (∀ (s : State) (n : Fin 8), s.rd (EF_STAT.PG n) ≠ 0 → exec (.tripsReset n) s = .next (s.wr (EF_STAT.TRIPS n) 0)) ∧
  (∀ (s : State), s.rd (EF_STAT.INPUT_VALID 6) + 2 * s.rd (EF_STAT.INPUT_VALID 7) = s.rd PDB_STAT.IN_VALID →
    exec .inputValidChange s = .next s) ∧
  (∀ (s : State), s.rd (EF_STAT.INPUT_VALID 6) + 2 * s.rd (EF_STAT.INPUT_VALID 7) ≠ s.rd PDB_STAT.IN_VALID →
    s.rd (EF_STAT.INPUT_VALID 6) + 2 * s.rd (EF_STAT.INPUT_VALID 7) ≠ 0 →
    exec .inputValidChange s =
      .next (((s.wr PDB_STAT.IN_VALID (s.rd (EF_STAT.INPUT_VALID 6) + 2 * s.rd (EF_STAT.INPUT_VALID 7))).budget).wakeEvent 19 false))

/-- On a port in training whose lane PLL is locked: a target step with every receiving lane locked and qualified turns the lanes, at step 2 to the reverse of
their direction and at step 3 back; a receiving lane without lock makes the link fall to the next gait, one not yet qualified keeps the step going. At step
4 training ends with the link up and a VERSION_OFFER; while a PLL relocks no step ends. A training frame in Walk that carries a good CRC and asks nothing of
the transmitter stores the far GAIT_CAP, the frame and the trip without the far hold, and the paired lane sends its next block; a payload that is no frame
stores nothing more. A window with the clock locked within QUAL_MAX and without an uncorrectable codeword qualifies the lane; a failed one reports QUAL_FAIL
and falls a gait, one that ends while the PLL relocks reports only. TRAINING_RETRY of a port that waits for it starts training. That lanes pair as 0 with 1 and 2
with 3 is the model's choice (assumption row 140). (R45, R46, R47, R49, R51) -/
def Obligations.TrainingSequence : Prop :=
  (∀ (s : State) (p : Fin 6) (locked : Fin 16), s.rd (CL_STAT.LSTATE p) = 1 → (s.link p).relock = false → (s.link p).tstep = 2 →
    (∀ n ∈ s.rxTrainees p, bitOf locked (n % 4) = true ∧ (s.lane n).qual = 1) →
    exec (.trainingStepDone p locked) s = .next ((s.modLink p fun l => { l with tstep := 3 }).direct p true)) ∧
  (∀ (s : State) (p : Fin 6) (locked : Fin 16), s.rd (CL_STAT.LSTATE p) = 1 → (s.link p).relock = false → (s.link p).tstep = 3 →
    (∀ n ∈ s.rxTrainees p, bitOf locked (n % 4) = true ∧ (s.lane n).qual = 1) →
    exec (.trainingStepDone p locked) s = .next ((s.modLink p fun l => { l with tstep := 4 }).direct p false)) ∧
  (∀ (s : State) (p : Fin 6) (locked : Fin 16), s.rd (CL_STAT.LSTATE p) = 1 → (s.link p).relock = false → ((s.link p).tstep = 2 ∨ (s.link p).tstep = 3) →
    ((∃ n ∈ s.rxTrainees p, bitOf locked (n % 4) = false) → exec (.trainingStepDone p locked) s = .next (s.fallGait p)) ∧
    ((∀ n ∈ s.rxTrainees p, bitOf locked (n % 4) = true) → (∃ n ∈ s.rxTrainees p, (s.lane n).qual ≠ 1) →
      exec (.trainingStepDone p locked) s = .next s)) ∧
  (∀ (s : State) (p : Fin 6) (locked : Fin 16), s.rd (CL_STAT.LSTATE p) = 1 → (s.link p).relock = false → (s.link p).tstep = 4 →
    exec (.trainingStepDone p locked) s = .next (s.trainedUp p)) ∧
  (∀ (s : State) (p : Fin 6) (locked : Fin 16), (s.rd (CL_STAT.LSTATE p) ≠ 1 ∨ (s.link p).relock = true) →
    exec (.trainingStepDone p locked) s = .next s) ∧
  (∀ (s : State) (n : Fin 24) (w : BitVec 72) (r : BitVec 1208) (rt : Fin 65536), s.rd (LN_STAT.STATE n) = 2 → s.rd (LN_STAT.DIR n) = 1 → s.rd (LN_STAT.LOCK n) ≠ 0 →
    TrainFrame.ofPayload (s.takeData n (w ++ r)).1 = none → exec (.trainingFrameReceive n w r rt) s = .next (s.takeData n (w ++ r)).2) ∧
  (∀ (s : State) (n : Fin 24) (w : BitVec 72) (r : BitVec 1208) (rt : Fin 65536) (f : TrainFrame), s.rd (LN_STAT.STATE n) = 2 → s.rd (LN_STAT.DIR n) = 1 →
    s.rd (LN_STAT.LOCK n) ≠ 0 → TrainFrame.ofPayload (s.takeData n (w ++ r)).1 = some f → f.txReq = 0 → f.preset = 0 →
    s.rd (CL_STAT.LSTATE (lanePort n)) = 1 → (s.link (lanePort n)).tstep ≤ 1 →
    let u := ((s.takeData n (w ++ r)).2.modLink (lanePort n) fun l => { l with farCap := f.gaitCap }).modLane n fun l =>
      { l with far := some f, farAt := s.uptime, trip := rt - f.rtHold }
    exec (.trainingFrameReceive n w r rt) s =
      .next (if u.rd (LN_STAT.STATE (pairLane n)) = 2 ∧ u.rd (LN_STAT.DIR (pairLane n)) = 0 ∧ (u.link (lanePort n)).relock = false
        then u.trainBlock (pairLane n) else u)) ∧
  (∀ (s : State) (m : Nat) (f : TrainFrame), f.txReq ≠ 0 → (bitsOf f.txReq 4 2 = 3 ∨ bitsOf f.txReq 2 2 = 3 ∨ bitsOf f.txReq 0 2 = 3) →
    s.takeRequest m f = s.modLane m fun l => { l with txAck := 2 }) ∧
  (∀ (s : State) (n : Fin 24) (c : Fin 65536), s.rd (LN_STAT.STATE n) = 2 → s.rd (LN_STAT.DIR n) = 1 → s.rd (CL_STAT.LSTATE (lanePort n)) = 1 →
    ((s.link (lanePort n)).tstep = 2 ∨ (s.link (lanePort n)).tstep = 3) → (s.link (lanePort n)).relock = false →
    c ≤ s.rd (LN_TRAIN.QUAL_MAX n) →
    exec (.qualWindowEnd n c false) s = .next (s.modLane n fun l => { l with qual := 1 })) ∧
  (∀ (s : State) (n : Fin 24) (c : Fin 65536) (u : Bool), s.rd (LN_STAT.STATE n) = 2 → s.rd (LN_STAT.DIR n) = 1 →
    s.rd (CL_STAT.LSTATE (lanePort n)) = 1 → ((s.link (lanePort n)).tstep = 2 ∨ (s.link (lanePort n)).tstep = 3) →
    (s.rd (LN_TRAIN.QUAL_MAX n) < c ∨ u = true) →
    ((s.link (lanePort n)).relock = false → exec (.qualWindowEnd n c u) s =
      .next (((s.modLane n fun l => { l with qual := 2 }).raise (Ev.LN_QUAL_FAIL n)).fallGait (lanePort n))) ∧
    ((s.link (lanePort n)).relock = true → exec (.qualWindowEnd n c u) s = .next (s.raise (Ev.LN_QUAL_FAIL n)))) ∧
  (∀ (s : State) (p : Fin 6), s.rd (CL_STAT.LSTATE p) = 1 → (s.link p).tstep = 5 → exec (.trainingRetry p) s = .next (s.startTraining p))

/-- On a locked lane a block at a data position is data whatever its header, and a header that is not 01 reports HDR_ERR; a block without a comma at a marker
position is a marker missed, which below the third only moves the count on, and the third in a row loses the lock. An accepted marker at its position is taken as a
regular one, and loses the lock again when the lane lags by more than 32 ns. A data block on a lane without lock, and a marker on one that does not
receive, change nothing. The scrambler's output, scrambled from the same contents, is the payload again, and a coded word is a codeword. A codeword that
cannot be decoded counts in CL_CW_UNCORR with its event and passes no cell on; one without an error appends its five cells, in order. On a link that does
not run, or while a locked lane has not given its share, nothing is taken. (R33, R34, R35, R36, R37, R38, R39, R41, R43, R68) -/
def Obligations.BlocksAndCodewords : Prop :=
  (∀ (s : State) (n : Fin 24) (b : BitVec 1282), s.rd (LN_STAT.LOCK n) ≠ 0 → (s.lane n).rxBlk ≠ 256 →
    (blockHeader b ≠ 1#2 → exec (.dataBlockReceive n b) s = .next ((s.raise (Ev.LN_HDR_ERR n)).takeData n (blockPayload b)).2) ∧
    (blockHeader b = 1#2 → exec (.dataBlockReceive n b) s = .next (s.takeData n (blockPayload b)).2)) ∧
  (∀ (s : State) (n : Fin 24) (b : BitVec 1282), s.rd (LN_STAT.LOCK n) = 0 → exec (.dataBlockReceive n b) s = .next s) ∧
  (∀ (s : State) (n : Fin 24) (b : BitVec 1282), s.rd (LN_STAT.LOCK n) ≠ 0 → (s.lane n).rxBlk = 256 →
    let u := s.modLane n fun l => { l with
      missed := l.missed + 1, rxBlk := 0, rxCnt := (l.rxCnt + 1) % 2 ^ 48, rxScr := scramblerSeed ((l.rxCnt + 1) % 2 ^ 48) (s.rd (LN_STAT.PARTNER_LANE n)) }
    ((s.lane n).missed < 2 → exec (.dataBlockReceive n b) s = .next u) ∧
    (2 ≤ (s.lane n).missed → exec (.dataBlockReceive n b) s = .next (u.lockLoss n))) ∧
  (∀ (s : State) (n : Fin 24) (c : BitVec 64) (f : BitVec 80) (r : BitVec 1136) (gap : Nat) (skew : Fin 65536), s.rd (LN_STAT.DIR n) = 1 →
    s.rd (LN_STAT.STATE n) = 3 → s.rd (LN_STAT.LOCK n) ≠ 0 → let w := markerJoined c f r
    ((s.lane n).rxBlk ≠ 256 → exec (.markerBlockReceive n c f r gap skew) s = .next ((s.raise (Ev.LN_HDR_ERR n)).takeData n w).2) ∧
    (∀ i v, (s.lane n).rxBlk = 256 → commaOf w = some (i, v) →
      (skew.val ≤ 320 → exec (.markerBlockReceive n c f r gap skew) s = .next (s.markerIn n i v true)) ∧
      (320 < skew.val → (s.markerIn n i v true).rd (LN_STAT.LOCK n) ≠ 0 →
        exec (.markerBlockReceive n c f r gap skew) s = .next ((s.markerIn n i v true).lockLoss n))) ∧
    ((s.lane n).rxBlk = 256 → commaOf w = none → (s.lane n).missed < 2 → exec (.markerBlockReceive n c f r gap skew) s =
      .next (s.modLane n fun l => { l with
        missed := l.missed + 1, rxBlk := 0, rxCnt := (l.rxCnt + 1) % 2 ^ 48, rxScr := scramblerSeed ((l.rxCnt + 1) % 2 ^ 48) (s.rd (LN_STAT.PARTNER_LANE n)) }))) ∧
  (∀ (s : State) (n : Fin 24) (c : BitVec 64) (f : BitVec 80) (r : BitVec 1136) (gap : Nat) (skew : Fin 65536), s.receives n = false →
    exec (.markerBlockReceive n c f r gap skew) s = .next s) ∧
  (∀ (g : BitVec 58) (w : BitVec 1280), (scramble g (scramble g w).1).1 = w ∧ (scramble g (scramble g w).1).2 = (scramble g w).2) ∧
  (∀ (m : List Sym), m.length = 256 → rsGood (rsEncode m) = true) ∧
  (∀ (s u : State) (p : Fin 6) (a b c : List Sym) (w : RxWord), s.linkRuns p = true → s.takeWord p a b c = some (w, u) →
    (rsDecode w.word = none → exec (.codewordReceive p a b c) s =
      .next (((u.modSched p fun x => { x with slotsRx := x.slotsRx + 5 }).satAdd (CL_CW_UNCORR.CODEWORDS p) 1).raise (Ev.CL_UNCORR p))) ∧
    (∀ word, rsDecode w.word = some (word, []) → ∃ t, exec (.codewordReceive p a b c) s = .next t ∧
      (t.link p).cells = (u.link p).cells ++ (symCells (word.take 256)).map (fun c => (u.time, c)) ∧ (t.link p).cwRx = (u.link p).cwRx ∧
      (t.sched p).slotsRx = (u.sched p).slotsRx + 5 ∧ t.regs = u.regs ∧ t.out = u.out)) ∧
  (∀ (s : State) (p : Fin 6) (a b c : List Sym), (s.linkRuns p = false ∨ s.takeWord p a b c = none) → exec (.codewordReceive p a b c) s = .next s)

/-- At the codeword announced, GIVE_LANE of a lead change takes a lane that is in Active out of striping in state 4 with LOCK 0 and its stored sets loaded,
silences it at the giving hub or sends the lock pattern at the other, and restarts the dwell; a lane in Stand or Stable first leaves low power, the lead
change following. A restripe trains the lane again. LOCK_PATTERN_END at the hub that now transmits stripes the lane, sets POS and sends the join marker.
JOIN_MARKER_RECEIVE at the giving hub joins the lane with the marker's fields, counts the turn and answers LEAD_RESULT 0; one without acceptable fields
changes nothing. LEAD_FAIL at the giving hub reports it, answers LEAD_RESULT 1, trains the lane alone and ends the action. A lane trained again joins with
its marker, or fails. (R35, R54, R55, R56, R57, R58, R59, R165) -/
def Obligations.LeadChangeTurnsALane : Prop :=
  (∀ (s : State) (p : Fin 6) (a : LaneAct), (s.link p).act = some a → a.begun = false →
    a.cw ≤ (if a.tx then (s.link p).cwTx else (s.link p).cwRx) →
    let u := ((((s.storeRx a.lane).abortScan a.lane).unstripe a.lane).setLaneState a.lane 4).wr (LN_STAT.LOCK a.lane) 0
    let v := ((if a.tx then u.laneSend a.lane 0 else u).loadSets a.lane).modLane a.lane fun l => { l with commas := 0, missed := 0 }
    let w := if a.tx then v else v.laneSend a.lane 2 [v.lockLen a.lane]
    (a.kind = 0 → s.rd (LN_STAT.STATE a.lane) ≠ 5 → s.rd (LN_STAT.STATE a.lane) ≠ 6 → exec (.giveLane p) s =
      .next ((w.modSched p fun x => { x with dwell := 0 }).modLink p fun l => { l with act := some { a with begun := true } })) ∧
    (a.kind = 0 → (s.rd (LN_STAT.STATE a.lane) = 5 ∨ s.rd (LN_STAT.STATE a.lane) = 6) → exec (.giveLane p) s =
      .next ((s.modLink p fun l => { l with held := { a with noLate := true } :: l.held }).exitLane p { a with kind := 4 })) ∧
    (a.kind = 1 → s.rd (LN_CTRL.EN a.lane) ≠ 0 → exec (.giveLane p) s =
      .next (((s.retrainLane a.lane (s.rd (LN_STAT.DIR a.lane))).endAct p).retrainIfEmpty p))) ∧
  (∀ (s : State) (p : Fin 6) (a : LaneAct), (s.link p).act = some a → a.kind = 0 → a.begun = true → a.tx = false → s.rd (LN_CTRL.EN a.lane) ≠ 0 →
    exec (.lockPatternEnd p) s =
      .next ((((((s.stripe a.lane 0).wr (LN_STAT.POS a.lane) a.newPos).modLink p fun l => { l with turned := some a.lane }).sendJoin a.lane).laneSend
        a.lane 4).rejoined p)) ∧
  (∀ (s : State) (p : Fin 6), (s.link p).act = none → exec (.lockPatternEnd p) s = .next s ∧ exec (.giveLane p) s = .next s) ∧
  (∀ (s : State) (n : Fin 24) (a : LaneAct), (s.link (lanePort n)).act = some a → a.begun = true → a.lane = n → a.kind = 0 → a.tx = true →
    let p := lanePort n
    let u := (s.raise (Ev.LN_LEAD_FAIL n)).sendCtl p 0x07 (be 1 (n % 4) ++ be 1 1 ++ be 2 0 ++ be 8 a.cw)
    exec (.leadFail n) s =
      .next ((((u.modSched p fun x => { x with dwell := 0 }).retrainLane n 0).planFail p).endAct p)) ∧
  (∀ (s : State) (n : Fin 24) (w : BitVec 1280), s.joinFields n w = none → exec (.joinMarkerReceive n w) s = .next s) ∧
  (∀ (s : State) (n : Fin 24) (w : BitVec 1280) (i : Bool) (f : Nat) (a : LaneAct), s.joinFields n w = some (i, f) → s.rd (LN_CTRL.EN n) ≠ 0 →
    (s.lane n).joining = false → (s.link (lanePort n)).act = some a → a.begun = true → a.lane = n → a.kind = 0 → a.tx = true →
    let p := lanePort n
    exec (.joinMarkerReceive n w) s =
      .next ((((s.joinIn n i f).wrapAdd (LN_TURN_CNT.TURNS n) 1).sendCtl p 0x07 (be 1 (n % 4) ++ be 1 0 ++ be 2 0 ++ be 8 a.cw)).rejoined p)) ∧
  (∀ (s : State) (n : Fin 24) (w : BitVec 1280) (i : Bool) (f : Nat), s.joinFields n w = some (i, f) → s.rd (LN_CTRL.EN n) ≠ 0 →
    (s.lane n).joining = true → exec (.joinMarkerReceive n w) s = .next (s.joinIn n i f)) ∧
  (∀ (s : State) (n : Fin 24), (s.link (lanePort n)).linkUp = true → s.rd (LN_STAT.STATE n) = 2 →
    (s.rd (LN_CTRL.EN n) ≠ 0 → exec (.laneRetrainDone n false) s = .next ((s.setLaneState n 8).laneSend n 0)) ∧
    (s.rd (LN_CTRL.EN n) = 0 → ∀ k, exec (.laneRetrainDone n k) s = .next ((s.setLaneState n 0).laneSend n 0)) ∧
    (s.rd (LN_CTRL.EN n) ≠ 0 → s.rd (LN_STAT.DIR n) = 0 → exec (.laneRetrainDone n true) s = .next (((s.stripe n 0).sendJoin n).laneSend n 4)) ∧
    (s.rd (LN_CTRL.EN n) ≠ 0 → s.rd (LN_STAT.DIR n) ≠ 0 → exec (.laneRetrainDone n true) s = .next (s.modLane n fun l => { l with joining := true })))

/-- LOW_POWER_ENTER before the codeword announced, or with no action, changes nothing; at it the lane stores its set and leaves striping for Stand or Stable, and
when no lane stripes any more the link is parked without time lock. LOW_POWER_EXIT at its codeword loads the stored sets: a transmitting lane in Stable
sends the lock pattern, one in Stand joins at once, a receiving one waits. WAKE_PATTERN_REPEAT sends the wake pattern on the transmitting lanes of a parked
link that is waking. WAKE_PATTERN_DETECT of a parked link is a wake event, or abandons an entry that is parking, and unparks the link when its lanes can
run, an end that was not waking sending the wake pattern first. On a link that is not parked both wake happenings change nothing. (R59, R100, R364, R365,
R367, R372) -/
def Obligations.LowPowerAndWake : Prop :=
  (∀ (s : State) (p : Fin 6), (s.link p).act = none → exec (.lowPowerEnter p) s = .next s ∧ exec (.lowPowerExit p) s = .next s) ∧
  (∀ (s : State) (p : Fin 6) (a : LaneAct), (s.link p).act = some a → (if a.tx then (s.link p).cwTx else (s.link p).cwRx) < a.cw →
    exec (.lowPowerEnter p) s = .next s ∧ exec (.lowPowerExit p) s = .next s) ∧
  (∀ (s : State) (p : Fin 6) (a : LaneAct), (s.link p).act = some a → a.begun = false →
    a.cw ≤ (if a.tx then (s.link p).cwTx else (s.link p).cwRx) → (a.kind = 2 ∨ (a.kind = 3 ∧ (s.link p).prePark ≠ [])) →
    let u := (((((s.storeRx a.lane).abortScan a.lane).unstripe a.lane).setLaneState a.lane (if a.kind = 2 then 5 else 6)).laneSend a.lane
      (if a.kind = 2 ∧ s.rd (LN_STAT.DIR a.lane) = 0 then 5 else 0)).endAct p
    let v := (u.modLink p fun l => { l with parked := true, waking := false }).wr (CL_STAT.TLOCK p) 0
    ((u.striped p 0 ≠ [] ∨ u.striped p 1 ≠ []) → exec (.lowPowerEnter p) s = .next (u.nextRejoin p)) ∧
    (u.striped p 0 = [] → u.striped p 1 = [] → (v.link p).rejoinOwn = false → exec (.lowPowerEnter p) s = .next v)) ∧
  (∀ (s : State) (p : Fin 6) (a : LaneAct), (s.link p).act = some a → a.kind = 4 → a.begun = false →
    a.cw ≤ (if a.tx then (s.link p).cwTx else (s.link p).cwRx) →
    let u := (s.loadSets a.lane).modLink p fun l => { l with act := some { a with begun := true } }
    (s.rd (LN_STAT.STATE a.lane) = 6 → a.tx = true → exec (.lowPowerExit p) s = .next (u.laneSend a.lane 2 [u.lockLen a.lane])) ∧
    (s.rd (LN_STAT.STATE a.lane) = 5 → a.tx = true → exec (.lowPowerExit p) s = .next (u.joinLane p a)) ∧
    (s.rd (LN_STAT.STATE a.lane) ≠ 0 → a.tx = false → exec (.lowPowerExit p) s = .next u)) ∧
  (∀ (s : State) (p : Fin 6), (s.link p).parked = true → (s.link p).waking = true → exec (.wakePatternRepeat p) s = .next (s.sendWake p)) ∧
  (∀ (s : State) (p : Fin 6), (s.link p).parked = true →
    let u := if s.pwr.step = .parking ∧ 2 ≤ s.pwr.target then s.entryAbandon Ev.PS_ABANDONED 0 stAborted else s.wakeEvent p false
    (u.lanesAwake p = true → exec (.wakePatternDetect p) s = .next ((if (u.link p).waking then u else u.sendWake p).unpark p)) ∧
    (u.lanesAwake p = false → exec (.wakePatternDetect p) s = .next u)) ∧
  (∀ (s : State) (p : Fin 6), (s.link p).parked = false → exec (.wakePatternRepeat p) s = .next s ∧ exec (.wakePatternDetect p) s = .next s)

/-- ES_DONE on a lane whose scan runs stores the errors in LN_ES_RES, clears BUSY and reports ES_DONE (here with no scan command waiting). PAT_LOCKED with a seed and
64 bits that the selected pattern asks for sets LOCKED of a checking lane and begins its counts. PAT_LOCK_DROP with 32 wrong bits of the last 64 clears
LOCKED; the errors it brings, never fewer than those wrong bits, are added to the error count, which saturates, and no register but the counts' changes. INJ_INTERVAL in periodic mode on a lane
that transmits makes a burst due once INTERVAL blocks have gone since the last, and no sooner. A lane in Test with the checker on is a checking lane; every
other lane stays as it is. (R60, R61, R62, R63) -/
def Obligations.LaneTestsReport : Prop :=
  (∀ (s : State) (n : Fin 24) (e : BitVec 32), s.rd (LN_ES_CTRL.BUSY n) ≠ 0 → s.cmd.entries = [] →
    exec (.esDone n e) s = .next (((s.setReg (LN_ES_RES n) e).wr (LN_ES_CTRL.BUSY n) 0).raise (Ev.LN_ES_DONE n))) ∧
  (∀ (s : State) (n : Fin 24) (e : BitVec 32), s.rd (LN_ES_CTRL.BUSY n) = 0 → exec (.esDone n e) s = .next s) ∧
  (∀ (s : State) (n : Fin 24) (l : List Bool), s.rd (LN_STAT.STATE n) = 7 → s.rd (LN_PAT_CTRL.CHK_EN n) ≠ 0 → s.rd (LN_PAT_CTRL.LOCKED n) = 0 →
    l.length = prbsDegree (s.rd (LN_PAT_CTRL.SEL n)) + 64 →
    prbsHolds (s.rd (LN_PAT_CTRL.SEL n)) [] (l.map fun b => xor b (decide (s.rd (LN_PAT_CTRL.INV n) ≠ 0))) = true →
    exec (.patLocked ⟨n, l⟩) s = .next ((s.wr (LN_PAT_CTRL.LOCKED n) 1).modLane n fun x => { x with patAt := s.uptime })) ∧
  (∀ (s : State) (n : Fin 24) (l : List Bool), s.patLocks n l = false → exec (.patLocked ⟨n, l⟩) s = .next s) ∧
  (∀ (s : State) (n : Fin 24), (s.rd (LN_STAT.STATE n) ≠ 7 ∨ s.rd (LN_PAT_CTRL.CHK_EN n) = 0) →
    (∀ l, exec (.patLocked ⟨n, l⟩) s = .next s) ∧ ∀ w e, exec (.patLockDrop n w e) s = .next s) ∧
  (∀ (s : State) (n : Fin 24) (w : BitVec 64) (e : Fin 4294967296), ones64 w < 32 → exec (.patLockDrop n w e) s = .next s) ∧
  (∀ (s : State) (n : Fin 24) (w : BitVec 64) (e : Fin 4294967296), s.rd (LN_STAT.STATE n) = 7 → s.rd (LN_PAT_CTRL.CHK_EN n) ≠ 0 →
    s.rd (LN_PAT_CTRL.LOCKED n) ≠ 0 → 32 ≤ ones64 w → ∃ t, exec (.patLockDrop n w e) s = .next t ∧ t.rd (LN_PAT_CTRL.LOCKED n) = 0 ∧
      t.rd (LN_PAT_ERR.ERRORS n) = min (2 ^ 32 - 1) (s.rd (LN_PAT_ERR.ERRORS n) + max (ones64 w) e) ∧ t.out = s.out ∧
      ∀ a, a ≠ LN_PAT_CTRL n → a ≠ LN_PAT_ERR n → a ≠ LN_PAT_BITS_LO n → a ≠ LN_PAT_BITS_HI n → t.reg a = s.reg a) ∧
  (∀ (s : State) (n : Fin 24), s.rd (LN_INJ_CTRL.MODE n) = 2 → s.rd (LN_STAT.STATE n) = 3 → s.rd (LN_STAT.DIR n) = 0 →
    (max 1 (s.rd (LN_INJ_INT.INTERVAL n)) ≤ (s.lane n).injBlk → exec (.injInterval n) s = .next ((s.burst n).modLane n fun l => { l with injBlk := 0 })) ∧
    ((s.lane n).injBlk < max 1 (s.rd (LN_INJ_INT.INTERVAL n)) → exec (.injInterval n) s = .next s))

/-- CELL_RECEIVE takes the oldest cell: one of kind 3 is an orphan with its header credit still returned, an idle one only returns credit; with none waiting
nothing changes. A packet cell of a link that carries tunnel traffic opens its class's packet when it is marked FIRST and none is open, goes on with the open
one otherwise, and is an orphan that frees its place when it is neither. A link control message of one cell on an open link is taken whole. A class timeout ends the open packet of its class with TAIL 3. CREDIT_TIMER on a link that is up, not parked, with a version, sends the
cumulative counts and clears what was still to return. CREDIT_INIT sets the eight credit counts. (R66, R69, R77, R78) -/
def Obligations.CellsAndCredits : Prop :=
  (∀ (s : State) (p : Fin 6), (s.link p).cells = [] → exec (.cellReceive p) s = .next s) ∧
  (∀ (s : State) (p : Fin 6) (at_ : Time) (b : List Byte) (rest : List (Time × List Byte)), (s.link p).cells = (at_, b) :: rest →
    (Cell.ofBytes b).kind = 3 → exec (.cellReceive p) s = .next ((((s.modLink p fun l => { l with cells := rest }).creditReturn p (Cell.ofBytes b).crTc
      (Cell.ofBytes b).crCnt).raise (Ev.CL_ORPHAN p)))) ∧
  (∀ (s : State) (p : Fin 6) (at_ : Time) (b : List Byte) (rest : List (Time × List Byte)), (s.link p).cells = (at_, b) :: rest →
    (Cell.ofBytes b).kind = 0 → exec (.cellReceive p) s = .next ((s.modLink p fun l => { l with cells := rest }).creditReturn p (Cell.ofBytes b).crTc (Cell.ofBytes b).crCnt)) ∧
  (∀ (s : State) (p : Fin 6) (at_ : Time) (b : List Byte) (rest : List (Time × List Byte)), (s.link p).cells = (at_, b) :: rest → (Cell.ofBytes b).kind = 1 →
    let c := Cell.ofBytes b
    let u := (s.modLink p fun l => { l with cells := rest }).creditReturn p c.crTc c.crCnt
    let o := (u.link p).rx.find? fun o => decide (o.tc = c.tc)
    u.lstate p = 4 →
    (c.first = true → o = none → exec (.cellReceive p) s = .next (u.rxOpen p c)) ∧
    (c.first = false → (∀ x, o = some x → exec (.cellReceive p) s = .next (u.rxExtend p x c)) ∧
      (o = none → exec (.cellReceive p) s = .next ((u.raise (Ev.CL_ORPHAN p)).freeCredit p c.tc 1)))) ∧
  (∀ (s : State) (p : Fin 6) (at_ : Time) (b : List Byte) (rest : List (Time × List Byte)), (s.link p).cells = (at_, b) :: rest → (Cell.ofBytes b).kind = 2 →
    let c := Cell.ofBytes b
    let u := ((s.modLink p fun l => { l with cells := rest }).creditReturn p c.crTc c.crCnt).modLink p fun l => { l with ctlAt := some at_ }
    c.first = true → c.last = true → (u.link p).ctlRx = none → u.linkEnc p = false →
    exec (.cellReceive p) s = .next ((u.modLink p fun l => { l with ctlRx := none }).rxCtlClose p c.data 0 [])) ∧
  (∀ (s : State) (p : Fin 6) (tc : Fin 8) (o : OpenRx), ((s.link p).rx.find? fun o => decide (o.tc = tc.val)) = some o →
    exec (.packetClassTimeout p tc) s = .next ((s.modLink p fun l => { l with rx := l.rx.filter fun x => decide (x.id ≠ o.id) }).cutPacket p o.id 3)) ∧
  (∀ (s : State) (p : Fin 6), (s.link p).linkUp = true → s.rd (CL_STAT.VER p) ≠ 0 → (s.link p).parked = false →
    exec (.creditTimer p) s =
      .next ((s.sendCtl p 0x04 ((s.link p).freed.flatMap (be 4))).modLink p fun l => { l with credPend := List.replicate 8 0 })) ∧
  (∀ (s : State) (p : Fin 6) (init : List (BitVec 24)), (s.link p).linkUp = true →
    exec (.creditInit p init) s =
      .next ((s.each 8 fun tc t => t.wr (CL_CRED_AVAIL.AVAIL p tc) ((init.map BitVec.toNat).getD tc 0)).modLink p fun l =>
        { l with credCum := List.replicate 8 0 }))

/-- For every state with the link up and every list of cumulative counts: for each of the eight classes, with ahead the reported count minus the last known one
modulo 2^24, CL_CRED_AVAIL rises by ahead modulo 2^24 where ahead is below 2^23 and stays otherwise; no register other than those eight changes and nothing
is sent. (R78) -/
def Obligations.CreditReportRaisesCounts : Prop :=
  ∀ (s : State) (p : Fin 6) (cum : List (BitVec 24)), (s.link p).linkUp = true → ∃ t, exec (.credit p cum) s = .next t ∧
    (∀ tc, tc < 8 →
      let ahead := ((cum.map BitVec.toNat).getD tc 0 + 2 ^ 24 - (s.link p).credCum.getD tc 0) % 2 ^ 24
      t.rd (CL_CRED_AVAIL.AVAIL p tc) =
        (if ahead < 2 ^ 23 then (s.rd (CL_CRED_AVAIL.AVAIL p tc) + ahead) % 2 ^ 24 else s.rd (CL_CRED_AVAIL.AVAIL p tc))) ∧
    (∀ a, (∀ tc, tc < 8 → a ≠ CL_CRED_AVAIL p tc) → t.reg a = s.reg a) ∧ t.out = s.out

/-- In LSTATE 2 on a link that is up: an offer that shares version 3 with this end's VERS bitmap is answered VERSION_ACK 3, with the partner's policy, role and
UID stored; one that shares none fails the negotiation with LINK_DOWN reason 1, VER_FAIL and the port unlinked. Until an offer has come the own offer is
repeated and the 10 ms timeout fails the negotiation; after one neither does anything. An ACK of another version than the chosen one fails it. (R80, R83) -/
def Obligations.VersionNegotiation : Prop :=
  (∀ (s : State) (p : Fin 6) (vers policy role floor : Fin 256) (uid : BitVec 64), (s.link p).linkUp = true → s.rd (CL_STAT.LSTATE p) = 2 →
    bitOf (Nat.land vers (s.rd (CL_CTRL.VER_ALLOW p) * 4)) 3 = true → exec (.versionOffer p vers policy role floor uid) s =
      .next ((s.modLink p fun l => { l with offerGot := true, peerPolicy := policy, peerRole := role, peerUid := uid.toNat, chosen := 3 }).sendCtl p 0x02
        (be 1 3 ++ be 3 0 ++ be 8 s.uid))) ∧
  (∀ (s : State) (p : Fin 6) (vers policy role floor : Fin 256) (uid : BitVec 64), (s.link p).linkUp = true → s.rd (CL_STAT.LSTATE p) = 2 →
    bitOf (Nat.land vers (s.rd (CL_CTRL.VER_ALLOW p) * 4)) 3 = false → bitOf (Nat.land vers (s.rd (CL_CTRL.VER_ALLOW p) * 4)) 2 = false →
    exec (.versionOffer p vers policy role floor uid) s =
      .next (((((s.modLink p fun l => { l with offerGot := true, peerPolicy := policy, peerRole := role, peerUid := uid.toNat, chosen := 0 }).sendCtl p
        0x38 (be 1 1)).raise (Ev.CL_VER_FAIL p)).linkDown p).wr (CL_STAT.LSTATE p) 5)) ∧
  (∀ (s : State) (p : Fin 6), (s.link p).linkUp = true → s.rd (CL_STAT.LSTATE p) = 2 → (s.link p).offerGot = false →
    exec (.versionOfferRepeat p) s = .next (s.sendOffer p) ∧
    exec (.versionTimeout p) s = .next ((((s.sendCtl p 0x38 (be 1 1)).raise (Ev.CL_VER_FAIL p)).linkDown p).wr (CL_STAT.LSTATE p) 5)) ∧
  (∀ (s : State) (p : Fin 6), (s.link p).offerGot = true →
    exec (.versionOfferRepeat p) s = .next s ∧ exec (.versionTimeout p) s = .next s) ∧
  (∀ (s : State) (p : Fin 6) (v : Fin 256), (s.link p).linkUp = true → s.rd (CL_STAT.LSTATE p) = 2 → (s.link p).offerGot = true →
    v.val ≠ (s.link p).chosen →
    exec (.versionAck p v) s = .next ((((s.sendCtl p 0x38 (be 1 1)).raise (Ev.CL_VER_FAIL p)).linkDown p).wr (CL_STAT.LSTATE p) 5)) ∧
  (∀ (s : State) (p : Fin 6) (v : Fin 256), (s.link p).linkUp = true → s.rd (CL_STAT.LSTATE p) = 2 → (s.link p).offerGot = true →
    v.val = (s.link p).chosen →
    let u := (s.wr (CL_STAT.VER p) v).wr (DM_PEER.VER p) v
    exec (.versionAck p v) s =
      .next (((u.sendCtl p 0x03 (((List.range 8).map fun tc => u.rd (CL_CRED_INIT.INIT p tc)).flatMap (be 4))).ownFloor).policies p))

/-- An AUTH_HELLO awaited joins the transcript with its nonce and the next step begins. A certificate out of order fails with reason 1; one in
order is kept, and with the last one a chain that verifies joins the transcript and the next step begins. A key share whose
signature does not verify fails with reason 3, one that verifies gives the new PRK. An AUTH_FINISH with a wrong MAC fails with reason 4; a right one on a
link that is not yet encrypted sets AUTH_OK and ENC with KP 0 and brings the link up. AUTH_FAIL of the partner is recorded; a step timeout of a running
authentication fails with reason 5; AUTH_RETRY starts anew where R86 allows. A failure sends AUTH_FAIL, reports AUTH_FAIL, stores the reason, clears
AUTH_OK and leaves link control only. (R86, R87, R88, R89) -/
def Obligations.AuthenticationSteps : Prop :=
  (∀ (s : State) (p : Fin 6) (reason : Nat), s.authFail p reason =
    (((((s.sendCtl p 0x14 (be 1 reason)).raise (Ev.CL_AUTH_FAIL p)).wr (CL_AUTH.REASON p) reason).wr (CL_STAT.AUTH_OK p) 0).modLink p fun l =>
      { l with authSent := 0, authGot := 0 }).linkOnly p) ∧
  (∀ (s : State) (p : Fin 6) (nonce : BitVec 256) (uid : BitVec 64), s.rd (CL_STAT.VER p) = 3 → s.rd (CL_STAT.LSTATE p) = 3 → s.authAt p 1 = true →
    exec (.authHello p nonce uid) s =
      .next ((s.modLink p fun l => { l with peerNonce := be 32 nonce.toNat, peerUid := uid.toNat }).authNext p 1 (be 32 nonce.toNat ++ be 8 uid.toNat))) ∧
  (∀ (s : State) (p : Fin 6) (i n : Fin 256) (c : List Byte), s.authAt p 2 = true → i.val ≠ (s.link p).certs.length →
    exec (.authCert p i n c) s = .next (s.authFail p 1)) ∧
  (∀ (s : State) (p : Fin 6) (i n : Fin 256) (c : List Byte), s.authAt p 2 = true → i.val = (s.link p).certs.length → i < n → n.val ≤ 3 →
    c.length ≤ 1600 →
    let all := (s.link p).certs ++ [c]
    let u := s.modLink p fun l => { l with certs := all }
    (i.val + 1 < n → exec (.authCert p i n c) s = .next u) ∧
    (n.val = i.val + 1 →
      let r := Config.certCheck all s.img.anchors (s.link p).peerUid
      exec (.authCert p i n c) s = .next (if r = 0 then u.authNext p 2 ((List.range n).flatMap fun k => be 1 k ++ be 1 n ++ all.getD k [])
        else u.authFail p (if r = 1 ∨ r = 7 then r else 2)))) ∧
  (∀ (s : State) (p : Fin 6) (pub : BitVec 776) (sig : BitVec 768), s.authAt p 3 = true →
    let ok := Config.ecdsaVerify (Config.certPublicKey ((s.link p).certs.getD 0 [])) (Config.sha384 ((s.link p).transcript ++ be 97 pub.toNat)) (be 96 sig.toNat)
    exec (.authKeyshare p pub sig) s = .next (if ok then (s.modLink p fun l =>
      { l with prkNew := Config.hmac384 (s.inOrder p (s.link p).nonce (s.link p).peerNonce) (Config.p384Ecdh (s.link p).eph (be 97 pub.toNat)) }).authNext p 3
        (be 97 pub.toNat ++ be 96 sig.toNat) else s.authFail p 3)) ∧
  (∀ (s : State) (p : Fin 6) (mac : BitVec 384), s.authAt p 4 = true →
    let u := (s.wr (CL_STAT.AUTH_OK p) 1).modLink p fun l =>
      { l with authSent := 0, authGot := 0, pnTx := 0, prkTx := (s.link p).prkNew, tagFails := 0 }
    u.rd (CL_STAT.ENC p) = 0 → exec (.authFinish p mac) s =
      .next (if be 48 mac.toNat = s.finishMac p then (((((u.wr (CL_STAT.ENC p) 1).wr (CL_STAT.KP p) 0).modLink p fun l =>
        { l with prkRx := (s.link p).prkNew, pnRx := none, kpRx := 0, rxNext := none }).linkOpen p).rolesMeet p) else s.authFail p 4)) ∧
  (∀ (s : State) (p : Fin 6) (r : Fin 16), (s.link p).linkUp = true → s.rd (CL_STAT.VER p) ≠ 0 →
    exec (.authFail p r) s = .next (s.authFailed p r)) ∧
  (∀ (s : State) (p : Fin 6), s.authRuns p = true → exec (.authStepTimeout p) s = .next (s.authFail p 5)) ∧
  (∀ (s : State) (p : Fin 6), s.mayRetry p = true → exec (.authRetry p) s = .next ((s.wr (CL_STAT.LSTATE p) 3).authBegin p))

/-- On an encrypted version-3 link REKEY_TRIGGER with 2^REKEY_EXP packets sent and no change running sends KEY_UPDATE with the other KP. KEY_UPDATE of a new
phase derives and holds the next key and is acknowledged; a repeated one is only acknowledged. KEY_UPDATE_ACK of the phase asked for sets KP, takes the
next PRK and starts packet numbers at 0; any other changes nothing. (R88, R90) -/
def Obligations.KeyPhaseChange : Prop :=
  (∀ (s : State) (p : Fin 6), 2 ^ s.rd (CL_AUTH.REKEY_EXP p) ≤ (s.link p).pnTx → s.rd (CL_STAT.ENC p) ≠ 0 → (s.link p).linkUp = true →
    s.rd (CL_STAT.VER p) = 3 → (s.link p).rekeying = none → exec (.rekeyTrigger p) s =
      .next ((s.sendCtl p 0x15 (be 1 (1 - s.rd (CL_STAT.KP p)))).modLink p fun l => { l with rekeying := some (1 - s.rd (CL_STAT.KP p)) })) ∧
  (∀ (s : State) (p : Fin 6), (s.link p).pnTx < 2 ^ s.rd (CL_AUTH.REKEY_EXP p) → exec (.rekeyTrigger p) s = .next s) ∧
  (∀ (s : State) (p : Fin 6) (kp : Fin 2), (s.link p).linkUp = true → s.rd (CL_STAT.ENC p) ≠ 0 → s.rd (CL_STAT.VER p) = 3 →
    kp.val ≠ (s.link p).kpRx → (s.link p).rxNext = none → exec (.keyUpdate p kp) s =
      .next ((s.modLink p fun l => { l with rxNext := some (Config.hkdfExpand l.prkRx (ascii "TL3 next") 48) }).sendCtl p 0x16 (be 1 kp))) ∧
  (∀ (s : State) (p : Fin 6) (kp : Fin 2), (s.link p).linkUp = true → s.rd (CL_STAT.ENC p) ≠ 0 → s.rd (CL_STAT.VER p) = 3 →
    kp.val = (s.link p).kpRx → exec (.keyUpdate p kp) s = .next (s.sendCtl p 0x16 (be 1 kp))) ∧
  (∀ (s : State) (p : Fin 6) (kp : Fin 2), (s.link p).rekeying = some kp.val → exec (.keyUpdateAck p kp) s =
    .next ((s.wr (CL_STAT.KP p) kp).modLink p fun l =>
      { l with rekeying := none, prkTx := Config.hkdfExpand l.prkTx (ascii "TL3 next") 48, pnTx := 0 })) ∧
  (∀ (s : State) (p : Fin 6) (kp : Fin 2), (s.link p).rekeying ≠ some kp.val → exec (.keyUpdateAck p kp) s = .next s)

/-- On a link that is up: PLAN_FLIP not late at a follower stores the table and its codeword; LEAD_CHANGE of a lane that may turn, that
stands in the giver's direction in Active and whose codeword is not late is taken up as the link's action; while parked it is refused with LEAD_RESULT 3;
LANE_FAULT of a transmitting lane in service announces RESTRIPE 1 us ahead; RESTRIPE not late is taken or held; Stable during training or a lead change is
refused. LINK_DOWN reason 0 takes the link down to wait, reason 1 leaves the port unlinked with VER_FAIL, any other trains again. On a link that is down
none of them does anything. ECHO is answered with its token; a reply whose token nobody awaits changes nothing; ROLE_SWAP_ACK 0 or 1 ends the waiting
command. (R57, R59, R80, R81, R161, R177, R364, R516) -/
def Obligations.LanePlanMessages : Prop :=
  (∀ (s : State) (p : Fin 6) (tb : Fin 2) (cw : BitVec 64), (s.link p).linkUp = true → (s.link p).cwRx ≤ cw.toNat → s.rd (AL_CTRL.FOLLOW p) ≠ 0 →
    s.planOwner p = some false → exec (.planFlip p tb cw) s = .next (s.modSched p fun x => { x with follow := some (tb.val, cw.toNat) })) ∧
  (∀ (s : State) (p : Fin 6) (lane : Fin 4) (g : Fin 2) (np : Fin 4) (cw : BitVec 64), (s.link p).linkUp = true → (s.link p).parked = true →
    exec (.leadChange p lane g np cw) s =
      .next (s.sendCtl p 0x07 (be 1 (s.laneOfPartner p lane % 4) ++ be 1 3 ++ be 2 0 ++ be 8 cw.toNat))) ∧
  (∀ (s : State) (p : Fin 6) (lane : Fin 4) (g : Fin 2) (np : Fin 4) (cw : BitVec 64), (s.link p).linkUp = true → (s.link p).parked = false →
    (s.link p).act = none → s.mayTurn p = true → (s.link p).cwTx < cw.toNat → (s.link p).cwRx ≤ cw.toNat →
    let n := s.laneOfPartner p lane
    s.rd (LN_CTRL.NO_TURN n) = 0 → s.rd (LN_STAT.DIR n) = (if g.val = 1 then 0 else 1) → s.laneState n = 3 →
    exec (.leadChange p lane g np cw) s = .next (s.modLink p fun l =>
      { l with act := some { kind := 0, lane := n, tx := decide (g.val = 1), newPos := np, cw := cw.toNat, far := true } })) ∧
  (∀ (s : State) (p : Fin 6) (lane : Fin 4) (r : Fin 256), (s.link p).linkUp = true → s.rd (LN_STAT.DIR (s.laneOfPartner p lane)) = 0 →
    s.inService (s.laneOfPartner p lane) = true →
    let n := s.laneOfPartner p lane
    let cw := (s.link p).cwTx + 1 + s.codewordsIn p 0 1000
    exec (.laneFault p lane r) s =
      .next ((s.sendCtl p 0x09 (be 1 (n % 4) ++ be 3 0 ++ be 8 cw)).holdAct p { kind := 1, lane := n, tx := true, cw := cw })) ∧
  (∀ (s : State) (p : Fin 6) (lane : Fin 4) (cw : BitVec 64), (s.link p).linkUp = true → (s.link p).cwRx ≤ cw.toNat →
    exec (.restripe p lane cw) s =
      .next (s.holdAct p { kind := 1, lane := s.laneOfPartner p lane, tx := false, cw := cw.toNat, far := true })) ∧
  (∀ (s : State) (p : Fin 6) (lane : Fin 4) (cw : BitVec 64) (a : LaneAct), (s.link p).linkUp = true → (s.link p).act = some a → a.kind = 0 →
    exec (.lowPower p lane 1 cw) s =
      .next (s.sendCtl p 0x07 (be 1 (s.laneOfPartner p lane % 4) ++ be 1 3 ++ be 2 0 ++ be 8 cw.toNat))) ∧
  (∀ (s : State) (p : Fin 6) (lane : Fin 4) (cw : BitVec 64), (s.link p).linkUp = true → (s.link p).act = none →
    (s.link p).cwTx < cw.toNat → (s.link p).cwRx ≤ cw.toNat →
    let n := s.laneOfPartner p lane
    let a : LaneAct := { kind := 4, lane := n, tx := decide (s.rd (LN_STAT.DIR n) = 0), cw := cw.toNat, far := true }
    exec (.lowPower p lane 2 cw) s = .next (s.modLink p fun l => { l with act := some a })) ∧
  (∀ (s : State) (p : Fin 6) (r : Fin 256), (s.link p).linkUp = true →
    (r = 0 → exec (.linkDown p r) s = .next ((s.linkDown p).modLink p fun l => { l with exitWait := true })) ∧
    (r = 1 → exec (.linkDown p r) s = .next (((s.raise (Ev.CL_VER_FAIL p)).linkDown p).wr (CL_STAT.LSTATE p) 5)) ∧
    (2 ≤ r.val → exec (.linkDown p r) s = .next ((s.linkDown p).startTraining p))) ∧
  (∀ (s : State) (p : Fin 6) (r : Fin 256), (s.link p).linkUp = false → exec (.linkDown p r) s = .next s) ∧
  (∀ (s : State) (p : Fin 6) (k : BitVec 32), exec (.echo p k) s = .next (s.sendCtl p 0x3E (be 4 k.toNat))) ∧
  (∀ (s : State) (p : Fin 6) (k : BitVec 32), (s.link p).echoTok ≠ k.toNat → exec (.echoReply p k) s = .next s) ∧
  (∀ (s : State) (p : Fin 6) (k : BitVec 32) (e : CmdEntry) (t0 : Time), (s.link p).echoTok = k.toNat →
    s.cmd.entries = [e] → e.running = true → e.wait = .echo p t0 →
    exec (.echoReply p k) s = .next (s.answer e stOk 0 (le 4 (s.time.toNs - t0.toNs)))) ∧
  (∀ (s : State) (p : Fin 6) (r : Fin 3), r.val < 2 → exec (.roleSwapAck p r) s =
    .next ((s.roleSwapAck p r).finish (fun w => decide (w = .roleSwap p)) stOk 0 (le 1 r)))

/-- On a link that is up, not parked and no span edge: SYNC_EXCHANGE at the master sends SYNC with the next identifier; at a slave it counts the interval
without SYNC. SYNC at a slave that is in no lane transition stores the time of its codeword; SYNC_FOLLOW of that identifier stores t1 and sends DELAY_REQ;
DELAY_REQ at the master is answered with its stamp; DELAY_RESP of that identifier stores offset and delay of R98, rounded as log 145 says, and judges the
lock with the offset as it was before rounding: within 8 ns counts as good. On a link that is down, parked or a span edge none does anything. (R96, R97, R98,
R99, R183, R187) -/
def Obligations.TimeExchange : Prop :=
  (∀ (s : State) (p : Fin 6), s.syncRuns p = (((s.link p).linkUp && !(s.link p).parked) && !s.spanEdge p)) ∧
  (∀ (s : State) (p : Fin 6), s.syncRuns p = true → s.timeMaster p = true →
    let id := ((s.link p).syncId + 1) % 2 ^ 32
    exec (.syncExchange p) s = .next ((s.modLink p fun l => { l with syncId := id }).sendCtl p 0x20 (be 4 id))) ∧
  (∀ (s : State) (p : Fin 6), s.syncRuns p = true → s.timeMaster p = false →
    exec (.syncExchange p) s = .next (s.modLink p fun l =>
      { l with
        syncIdle := l.syncIdle + 1, peerForces := l.peerForces && decide (l.syncIdle < 3) })) ∧
  (∀ (s : State) (p : Fin 6) (id : BitVec 32), s.syncRuns p = true → s.timeMaster p = false → s.transition p = false → ∃ t,
    exec (.sync p id) s = .next t ∧ (t.link p).syncId = id.toNat ∧ (t.link p).t2 = some (s.rxStamp p) ∧ (t.link p).t1 = none ∧ (t.link p).t3 = none ∧
    (t.link p).syncIdle = 0 ∧ t.regs = s.regs ∧ t.out = s.out ∧ t.mem = s.mem) ∧
  (∀ (s : State) (p : Fin 6) (id : BitVec 32) (t1 t2 : Time), s.syncRuns p = true → (s.link p).t2 = some t2 → (s.link p).syncId = id.toNat →
    exec (.syncFollow p id t1) s = .next ((s.sendCtl p 0x22 (be 4 id.toNat)).modLink p fun l => { l with t1 := some t1 })) ∧
  (∀ (s : State) (p : Fin 6) (id : BitVec 32), s.syncRuns p = true → s.timeMaster p = true →
    exec (.delayReq p id) s = .next (s.sendCtl p 0x23 (be 4 id.toNat ++ (s.rxStamp p).be))) ∧
  (∀ (s : State) (p : Fin 6) (id : BitVec 32) (t1 t2 t3 t4 : Time), s.syncRuns p = true →
    (s.link p).t1 = some t1 → (s.link p).t2 = some t2 → (s.link p).t3 = some t3 → (s.link p).syncId = id.toNat →
    let trip := s.tripOf p 1 - s.tripOf p 0
    let exact := 10 * ((t2.sixteenths - t1.sixteenths) - (t4.sixteenths - t3.sixteenths)) - 8 * trip
    let ofs := roundDiv exact 20
    let dly := roundDiv ((t2.sixteenths - t1.sixteenths) + (t4.sixteenths - t3.sixteenths)) 2
    let u := ((s.wr (CL_SYNC_OFS.OFFSET p) (ofSigned 32 (satSigned 32 ofs))).wr (CL_SYNC_DLY.DELAY p) (ofSigned 32 (satSigned 32 dly))).modLink p
      fun l => { l with t1 := none, t2 := none, t3 := none }
    exec (.delayResp p id t4) s = .next ((u.judgeSync p exact).servoSample p ofs 1)) ∧
  (∀ (s : State) (p : Fin 6) (exact : Int), let good := decide (exact.natAbs ≤ 2560)
    let u := (s.wr (CL_STAT.TWIN p) good.toNat).modLink p fun l =>
      { l with goodOfs := if good then l.goodOfs + 1 else 0, badOfs := if good then 0 else l.badOfs + 1 }
    s.judgeSync p exact = (if 8 ≤ (u.link p).goodOfs then u.wr (CL_STAT.TLOCK p) 1
      else if 3 ≤ (u.link p).badOfs ∧ u.on (CL_STAT.TLOCK p) = true then (u.wr (CL_STAT.TLOCK p) 0).raise (Ev.CL_TIME_UNLOCK p) else u)) ∧
  (∀ (s : State) (p : Fin 6) (id : BitVec 32) (t : Time), s.syncRuns p = false →
    exec (.syncExchange p) s = .next s ∧ exec (.sync p id) s = .next s ∧ exec (.syncFollow p id t) s = .next s ∧ exec (.delayReq p id) s = .next s ∧
    exec (.delayResp p id t) s = .next s)

/-- WORK_ITEM_COMPLETE of an engine with nothing in progress changes nothing; an egress item whose last cell has come is handed to the re-sequencer of its
adapter unless its descriptor was lost on the way, counted, and the next item starts; an ingress item whose first cell has been admitted is written to its
end and counted at its adapter. STEAL of an idle engine with STEAL_EN takes the last n/2 of the n stealable items of its victim and counts them
at both ends; XSTEAL does so across clusters when its own cluster gives none, and counts them in SE_XSTEAL too. STEAL_MOVE_DONE puts the stolen items
before its own and starts the oldest. EGRESS_QUEUE_ROOM lets the released packets of the paddock that wait for this engine go on, then every local output and class whose oldest staged packet
waits for it. (R112, R113, R114, R115, R116) -/
def Obligations.EnginesWorkAndSteal : Prop :=
  (∀ (s : State) (e : Fin 32), (s.eng e).cur = none → exec (.workItemComplete e) s = .next s) ∧
  (∀ (s : State) (e : Fin 32) (it : Item) (st : Stored), (s.eng e).cur = some it → it.ingress = false →
    s.sw.ready.contains (it.id, it.adp) = true → s.stored it.id = some st →
    (s.sw.misread.find? fun r => decide (r.id = it.id ∧ r.adp = it.adp)) = none →
    (s.sw.gone.contains (it.id, it.adp) = false → exec (.workItemComplete e) s =
      .next (((s.forgetLocal it.id it.adp).modAdp it.adp fun x => { x with rx := x.rx ++ [(st.pkt, it.id, it.pdk)] }).endItem e)) ∧
    (s.sw.gone.contains (it.id, it.adp) = true → exec (.workItemComplete e) s = .next ((s.forgetLocal it.id it.adp).endItem e))) ∧
  (∀ (s : State) (e : Fin 32) (it : Item) (st : Stored), (s.eng e).cur = some it → it.ingress = true → (s.eng e).admitted = true →
    s.stored it.id = some st → typeFragments (s.adpType it.adp) = false →
    exec (.workItemComplete e) s = .next ((((s.setStored it.id (some { st with complete := true })).wrapAdd (TA_PKT_TX.PACKETS it.adp) 1).wrapAdd64
      (TA_BYTE_TX_LO.BYTES_LO it.adp) (TA_BYTE_TX_HI.BYTES_HI it.adp) it.pkt.payload.length).endItem e)) ∧
  (∀ (s : State) (e : Fin 32) (v n : Nat), (s.eng e).idle = true → s.rd (SE_CTRL.STEAL_EN e) ≠ 0 →
    s.victim ((cluster e).filter (· ≠ e.val)) = some (v, n) →
    let r := s.takeLast (s.eng v).queue (n / 2)
    exec (.steal e) s = .next ((((s.modEng v fun x => { x with queue := r.1 }).modEng e fun x => { x with moving := some r.2 }).wrapAdd
      (SE_STOLEN_IN.ITEMS e) (n / 2)).wrapAdd (SE_STOLEN_OUT.ITEMS v) (n / 2))) ∧
  (∀ (s : State) (e : Fin 32), ((s.eng e).idle = false ∨ s.rd (SE_CTRL.STEAL_EN e) = 0) → exec (.steal e) s = .next s) ∧
  (∀ (s : State) (e : Fin 32) (v n : Nat), (s.eng e).idle = true → s.rd (SE_CTRL.XSTEAL_EN e) ≠ 0 →
    s.victim ((cluster e).filter (· ≠ e.val)) = none → s.victim (otherClusters e) = some (v, n) →
    let r := s.takeLast (s.eng v).queue (n / 2)
    exec (.xsteal e) s = .next (((((s.modEng v fun x => { x with queue := r.1 }).modEng e fun x => { x with moving := some r.2 }).wrapAdd
      (SE_STOLEN_IN.ITEMS e) (n / 2)).wrapAdd (SE_STOLEN_OUT.ITEMS v) (n / 2)).wrapAdd (SE_XSTEAL.ITEMS e) (n / 2))) ∧
  (∀ (s : State) (e : Fin 32) (l : List Item), (s.eng e).moving = some l →
    exec (.stealMoveDone e) s = .next ((s.modEng e fun x => { x with moving := none, queue := l ++ x.queue }).startNext e)) ∧
  (∀ (s : State) (e : Fin 32), (s.eng e).moving = none → exec (.stealMoveDone e) s = .next s) ∧
  (∀ (s : State) (e : Fin 32), exec (.egressQueueRoom e) s =
    .next ((s.drainPdk e).eachIn ((List.range 20).filter fun o => decide (6 ≤ o ∧ o < 17)) fun o t => t.each 8 fun tc u =>
      match u.stage (stIdx o tc) with
      | c :: _ => if u.home c.ref.adp = e then u.drainLocal o tc 64 else u
      | [] => u))

/-- For a packet that an engine hands to an adapter other than A0, of a class other than 3, that the adapter accepts and the paddock did not release: with SEQ
equal to EXP_SEQ it is delivered, EXP_SEQ counts, and the held run follows; ahead of EXP_SEQ and not held it is held while fewer than 255 are; behind
EXP_SEQ, or the double of a held one, it is dropped with LATE. A packet the adapter does not accept, or one for A0 of any other class than CONTROL, is
released with MISROUTE. RSQ_TMO with nothing held changes nothing; with packets
held it reports GAP, moves EXP_SEQ to the lowest held and delivers the run. (R107, R117, R118, R120) -/
def Obligations.ResequencerOrders : Prop :=
  (∀ (s : State) (a : Fin 256) (pkt : Packet) (id : Nat) (rest : List (Packet × Nat × Bool)), a ≠ 0 → (s.adp a).rx = (pkt, id, false) :: rest →
    pkt.cls ≠ 3 → s.accepts a pkt = true →
    let u := s.modAdp a fun x => { x with rx := rest }
    (pkt.seq = u.expSeq a → pkt.seq < 65536 → exec (.egressPacketArrive a) s =
      .next (((u.deliver a pkt id).wrapAdd (TA_STAT.EXP_SEQ a) 1).deliverRun a 256)) ∧
    (0 < seqAhead pkt.seq (u.expSeq a) → seqAhead pkt.seq (u.expSeq a) < 32768 →
      ((u.adp a).held.any fun h => decide (h.1.seq = pkt.seq)) = false → (u.adp a).held.length < 255 → exec (.egressPacketArrive a) s =
      .next (u.setHeld a ((u.adp a).held ++ [(pkt, id, u.uptime)]))) ∧
    (32768 ≤ seqAhead pkt.seq (u.expSeq a) → exec (.egressPacketArrive a) s =
      .next (((u.farGap a 1 pkt.seq).raise (Ev.TA_LATE a)).letGo a id)) ∧
    (0 < seqAhead pkt.seq (u.expSeq a) → seqAhead pkt.seq (u.expSeq a) < 32768 →
      ((u.adp a).held.any fun h => decide (h.1.seq = pkt.seq)) = true → exec (.egressPacketArrive a) s =
      .next (((u.farGap a 1 pkt.seq).raise (Ev.TA_LATE a)).letGo a id))) ∧
  (∀ (s : State) (a : Fin 256) (pkt : Packet) (id : Nat) (k : Bool) (rest : List (Packet × Nat × Bool)), a ≠ 0 → (s.adp a).rx = (pkt, id, k) :: rest →
    pkt.cls ≠ 3 → (s.modAdp a fun x => { x with rx := rest }).accepts a pkt = false → exec (.egressPacketArrive a) s =
      .next (((s.modAdp a fun x => { x with rx := rest }).raise (Ev.TA_MISROUTE a)).letGo a id)) ∧
  (∀ (s : State) (pkt : Packet) (id : Nat) (k : Bool) (rest : List (Packet × Nat × Bool)), (s.adp 0).rx = (pkt, id, k) :: rest →
    pkt.cls ≠ 3 → exec (.egressPacketArrive 0) s =
      .next (((s.modAdp 0 fun x => { x with rx := rest }).raise (Ev.TA_MISROUTE 0)).letGo 0 id)) ∧
  (∀ (s : State) (a : Fin 256), (s.adp a).held = [] → exec (.rsqTmo a) s = .next s) ∧
  (∀ (s : State) (a : Fin 256) (q : Nat), s.lowestHeld a = some q → exec (.rsqTmo a) s =
    .next ((((s.farGap a 0 (s.expSeq a)).raise (Ev.TA_GAP a)).wr (TA_STAT.EXP_SEQ a) q).deliverRun a 256))

/-- PACKET_ADMIT takes the oldest unjudged packet of its input: one without a route counts UNROUTED and is dropped, one of an unknown group reports MC_MISS and
is dropped; a lossy one that the shared pool or its class cap cannot take counts ADMIT with its event and is dropped; a lossless one from a cable is
admitted. RESERVE_WAIT_ADMIT admits the oldest waiting packet for which the reserve has room. CROSSBAR_GRANT does nothing with 32 cells staged or nothing
ready; a clean grant of a cell that is not the last stages it and leaves the reference running, one of the last ends the packet and moves the round robin
on. A double-bit error of the descriptor drops a packet that has not begun and closes one that has, with DESC_ERR; what becomes of its other copies is the
model's choice (log 146). A corrected read counts; an uncorrectable one counts, is reported, and marks what this reference read. (R128, R130, R131, R132,
R134) -/
def Obligations.AdmissionAndCrossbar : Prop :=
  (∀ (s : State) (p : Fin 20), takeArrival (fun x => !x.waiting) (s.arrivals p) = none → exec (.packetAdmit p) s = .next s) ∧
  (∀ (s u : State) (p : Fin 20) (x : Arrival) (rest : List Arrival), takeArrival (fun x => !x.waiting) (s.arrivals p) = some (x, rest) →
    ((s.setArrivals p rest).route p x = (.unrouted, u) →
      exec (.packetAdmit p) s = .next ((u.satAdd (SW_PDROP.UNROUTED p) 1).dropArrival p x)) ∧
    ((s.setArrivals p rest).route p x = (.mcMiss, u) →
      exec (.packetAdmit p) s = .next ((u.raise Ev.SW_MC_MISS).dropArrival p x))) ∧
  (∀ (s u : State) (p : Fin 20) (x : Arrival) (rest : List Arrival) (outs : List (Nat × Nat)), takeArrival (fun x => !x.waiting) (s.arrivals p) = some (x, rest) →
    (s.setArrivals p rest).route p x = (.to outs, u) → outs ≠ [] →
    (u.rd (SW_TC.LOSSLESS x.pkt.tc) = 0 →
      (u.rd SW_SHARED.CELLS < u.rd SW_SHARED_USED.CELLS + x.cells ∨ u.rd (SW_TC.SHR_CAP x.pkt.tc) < u.rd (SW_SHR_USED.CELLS x.pkt.tc) + x.cells) →
      exec (.packetAdmit p) s = .next (((u.satAdd (SW_PDROP.ADMIT p) 1).raise Ev.SW_ADMIT_DROP).dropArrival p x)) ∧
    (u.rd (SW_TC.LOSSLESS x.pkt.tc) ≠ 0 → p.val < 6 → exec (.packetAdmit p) s = .next (u.takeIn p x true outs))) ∧
  (∀ (s : State) (p : Fin 20), takeArrival (fun x => x.waiting && s.reserveFits p x) (s.arrivals p) = none → exec (.reserveWaitAdmit p) s = .next s) ∧
  (∀ (s : State) (p : Fin 20) (x : Arrival) (rest : List Arrival), takeArrival (fun x => x.waiting && s.reserveFits p x) (s.arrivals p) = some (x, rest) →
    exec (.reserveWaitAdmit p) s = .next ((s.setArrivals p rest).admitArrival p { x with waiting := false }) ∧
    s.rd (SW_RSV_USED.CELLS p) + x.cells ≤ s.rd (SW_RSV.CELLS p)) ∧
  (∀ (s : State) (o : Fin 20) (tc : Fin 8) (r : Fin 4), (32 ≤ (s.stage (stIdx o tc)).length ∨ s.nextInput o tc = none) →
    exec (.crossbarGrant o tc r) s = .next s) ∧
  (∀ (s : State) (o : Fin 20) (tc : Fin 8) (i : Nat) (r : Ref) (rest : List Ref) (st : Stored), (s.stage (stIdx o tc)).length < 32 →
    s.nextInput o tc = some i → s.voq (voqIdx i o tc) = r :: rest → s.stored r.id = some st → r.granted + 1 < st.outCells (s.outEnc o) →
    exec (.crossbarGrant o tc 0) s =
      .next (((s.setVoq (voqIdx i o tc) ({ r with granted := r.granted + 1 } :: rest)).mapSw fun w =>
        { w with running := Tab.put none w.running (stIdx o tc) (some i) }).stageCell o tc
          { ref := { r with granted := r.granted + 1 }, idx := r.granted, last := false })) ∧
  (∀ (s : State) (o : Fin 20) (tc : Fin 8) (i : Nat) (r : Ref) (rest : List Ref) (st : Stored), (s.stage (stIdx o tc)).length < 32 →
    s.nextInput o tc = some i → s.voq (voqIdx i o tc) = r :: rest → s.stored r.id = some st →
    (st.outCells (s.outEnc o) ≤ r.granted + 1 → exec (.crossbarGrant o tc 0) s =
      .next ((s.packetEnds (voqIdx i o tc) o tc i rest).stageCell o tc { ref := { r with granted := r.granted + 1 }, idx := r.granted, last := true })) ∧
    (r.granted = 0 → exec (.crossbarGrant o tc 3) s =
      .next (((s.setVoq (voqIdx i o tc) rest).loseStored r.id r.mirror).raise Ev.SW_DESC_ERR)) ∧
    (0 < r.granted → exec (.crossbarGrant o tc 3) s =
      .next (((s.packetEnds (voqIdx i o tc) o tc i rest).stageCell o tc { ref := r, idx := r.granted, last := true, lost := true }).raise Ev.SW_DESC_ERR))) ∧
  (∀ (s : State) (r : Ref), s.readCell r 1 = (r, s.satAdd SW_ECC.CORR 1) ∧
    s.readCell r 2 = ({ r with bad := r.bad ++ [(r.granted, (s.freshBytes 60).1)] }, ((s.freshBytes 60).2.satAdd SW_ECC.UNCORR 1).raise Ev.SW_ECC_UNCORR))

/-- TRANSLATE_PACKET with no packet begun waiting at the translator changes nothing; the oldest packet from a version-2 link goes back to be routed as version
3; one for a version-2 link goes on as version 2, or is dropped with XLATE_DROP where no such link may carry it. A packet that is all there is admitted anew
and released, one of which cells are still to come is admitted and grows. MIRROR_SEND with no copy waiting changes nothing; a copy of a packet that is still
stored leaves as a packet of the session as it was when the copy was made, counts in COPIES and leaves the hold. AUDIT_PERIOD starts an audit, with a new
mark, when EN is 1 and PERIOD is not 0 and none runs. AUDIT_COMPLETE with no audit running changes nothing; without RECLAIM the cells lost before it that
an audit found already are counted as leaked and stay. (R84, R139, R140, R141, R142, R143) -/
def Obligations.TranslatorMirrorFarrier : Prop :=
  (∀ (s : State), (s.sw.xlate.find? fun x => x.newId.isNone) = none → exec .translatePacket s = .next s) ∧
  (∀ (s : State) (x : XlatePkt) (st : Stored), (s.sw.xlate.find? fun x => x.newId.isNone) = some x → s.stored x.ref.id = some st →
    (x.ref.adp = 8 → exec .translatePacket s = .next (s.xlateStart x st (some (st.pkt.toV3 s.time, none)))) ∧
    (x.ref.adp < 6 → st.pkt.consumedByV2 = true → exec .translatePacket s = .next (s.xlateStart x st none)) ∧
    (x.ref.adp < 6 → st.pkt.consumedByV2 = false → x.ref.v2ok = false →
      exec .translatePacket s = .next ((s.xlateStart x st none).raise (Ev.CL_XLATE_DROP x.ref.adp))) ∧
    (x.ref.adp < 6 → st.pkt.consumedByV2 = false → x.ref.v2ok = true →
      exec .translatePacket s = .next (s.xlateStart x st (some (st.pkt.toV2, some x.ref.adp))))) ∧
  (∀ (s : State) (x : XlatePkt) (st : Stored) (pkt : Packet) (out : Option Nat), x.whole = true → s.xlateStart x st (some (pkt, out)) =
    (((s.readmit 18 { id := 0, pkt := { pkt with payload := x.payload st, tail := (x.ref.view st.pkt).tail }, cells := 0, whole := true
                      origin := st.origin, out := out, analysed := st.analysed }).mapSw fun w =>
      { w with
        xlate := w.xlate.filter fun y => !decide (y.ref.id = x.ref.id ∧ y.ref.adp = x.ref.adp) }).release x.ref.id none).drainXlate x.tc 64) ∧
  (∀ (s : State) (x : XlatePkt) (st : Stored) (pkt : Packet) (out : Option Nat), x.whole = false → ∃ u,
    s.xlateStart x st (some (pkt, out)) = u ∧ u.sw.xlate = s.sw.xlate.map (fun y =>
      if y.ref.id = x.ref.id ∧ y.ref.adp = x.ref.adp then { y with newId := some s.sw.nextId } else y) ∧ u.sw.store = s.sw.store ∧ u.regs = s.regs) ∧
  (∀ (s : State), s.sw.mirq = [] → exec .mirrorSend s = .next s) ∧
  (∀ (s : State) (r : Ref) (m : MirRef) (rest : List Ref) (st : Stored), s.sw.mirq = r :: rest → s.stored r.id = some st → r.mirror = some m →
    ∃ pkt : Packet, pkt.ver = 3 ∧ pkt.cls = 2 ∧ pkt.tc = m.tc ∧ pkt.dstHub = m.hub ∧ pkt.dstAdp = m.adp ∧ pkt.srcHub = s.hubAddr ∧ pkt.srcAdp = m.src ∧
      pkt.len = pkt.payload.length ∧
      exec .mirrorSend s = .next ((((((s.mapSw fun w => { w with mirq := rest }).mapSw fun w =>
        { w with
          mirSkip := Tab.put 0 w.mirSkip m.k 0, mirSeq := Tab.put 0 w.mirSeq m.k ((Tab.get 0 w.mirSeq m.k + 1) % 65536) }).satAdd
          (SW_MIR_CNT.COPIES m.k) 1).release r.id (some m)).readmit 17 { id := 0, pkt := pkt, cells := 0 }).drainMirror st.pkt.tc 64)) ∧
  (∀ (s : State), s.rd SW_FAR_CTRL.EN ≠ 0 → s.rd SW_FAR_CTRL.PERIOD ≠ 0 → s.rd SW_FAR_STAT.BUSY = 0 →
    exec .auditPeriod s = .next ((s.mapSw fun w => { w with mark := w.mark + 1 }).wr SW_FAR_STAT.BUSY 1)) ∧
  (∀ (s : State), (s.rd SW_FAR_CTRL.EN = 0 ∨ s.rd SW_FAR_CTRL.PERIOD = 0 ∨ s.rd SW_FAR_STAT.BUSY ≠ 0) → exec .auditPeriod s = .next s) ∧
  (∀ (s : State) (d : Fin 65536), s.rd SW_FAR_STAT.BUSY = 0 → exec (.auditComplete d) s = .next s) ∧
  (∀ (s : State) (d : Fin 65536), s.rd SW_FAR_STAT.BUSY ≠ 0 → s.sw.lost = [] → s.cmd.entries = [] →
    let u := (((((s.wr SW_FAR_RES.LEAKED 0).wr SW_FAR_RES.DUP d).mapSw fun w => { w with lost := [] }).subCells SW_FREE.FREE d).wr
      SW_FAR_STAT.BUSY 0).wrapAdd SW_FAR_STAT.AUDITS 1
    exec (.auditComplete d) s = .next (if d = 0 then u else u.raise Ev.SW_DUP)) ∧
  (∀ (s : State) (d : Fin 65536), s.rd SW_FAR_STAT.BUSY ≠ 0 → s.rd SW_FAR_CTRL.RECLAIM = 0 → s.cmd.entries = [] →
    let leaked := s.sw.lost.filter fun l => decide (l.mark ≠ s.sw.mark) && l.suspect
    ∃ t, exec (.auditComplete d) s = .next t ∧ t.rd SW_FAR_RES.LEAKED = min 65535 (leaked.map Lost.cells).sum ∧ t.rd SW_FAR_RES.DUP = d ∧
      t.rd SW_FAR_STAT.BUSY = 0 ∧ t.sw.lost = leaked ++ (s.sw.lost.filter fun l => !(decide (l.mark ≠ s.sw.mark) && l.suspect)).map fun l =>
        { l with suspect := decide (l.mark ≠ s.sw.mark) })

/-- CELL_SLOT of a link that is down or parked changes nothing; in any other slot the head of Q0 is sent, else the cell of the queue picked, else an idle cell
with the credits that wait, after the first slot of a codeword has taken its time and whatever is due. GATE_ENTRY_END, with no codeword in progress, puts a
selection waiting for its cycle start in force when that cycle has started and otherwise leaves it. EPOCH_BOUNDARY stores the index of the epoch, makes the
flips latched at the decision point fall due and measures, where no codeword is in progress. A flip that falls due inside a quiet point is held to its end
with FLIP_HELD; one that is due makes its table the active one, no more armed. At its decision point an armed port that follows no one latches its flip.
(R150, R151, R155, R158, R159, R160, R161, R163) -/
def Obligations.SchedulerSlotsAndEpochs : Prop :=
  (∀ (s : State) (p : Fin 6), ((s.link p).linkUp = false ∨ (s.link p).parked = true) → exec (.cellSlot p) s = .next s) ∧
  (∀ (s : State) (p : Fin 6), (s.link p).linkUp = true → (s.link p).parked = false →
    let v := if (s.link p).slot = 0 then s.codewordStart p else s
    let u := (List.range 15).foldl (fun t q => t.growCredit p (q + 1)) v
    (∀ m rest, (u.sched p).ctl = m :: rest → exec (.cellSlot p) s = .next ((u.sendControl p m rest).slotDone p true)) ∧
    (∀ q, (u.sched p).ctl = [] → u.pickQueue p = some q → exec (.cellSlot p) s = .next ((u.sendCell p q).slotDone p true)) ∧
    ((u.sched p).ctl = [] → u.pickQueue p = none → exec (.cellSlot p) s = .next ((u.sendIdle p).slotDone p false))) ∧
  (∀ (s : State) (p : Fin 6) (l : List (Nat × Nat)), ((s.link p).linkUp = false ∨ (s.link p).parked = true ∨ (s.link p).slot = 0) →
    (s.sched p).gatePend = true → s.gateChoice p = some l →
    (cycleStart l (s.sched p).gateFrom s.time.toNs = true →
      exec (.gateEntryEnd p) s = .next (s.setSched p { s.sched p with gates := some l, gatePend := false })) ∧
    (cycleStart l (s.sched p).gateFrom s.time.toNs = false → exec (.gateEntryEnd p) s = .next s)) ∧
  (∀ (s : State) (p : Fin 6), ((s.sched p).gatePend = false ∨ (s.linkRuns p = true ∧ (s.link p).slot ≠ 0)) → exec (.gateEntryEnd p) s = .next s) ∧
  (∀ (s : State), (∀ p, p < 6 → (s.sched p).flipNext = false ∧ (s.sched p).flipAt = none ∧ (s.link p).slot = 0) → exec .epochBoundary s =
    .next ((s.wr AL_EPOCH_NUM.INDEX (s.time.ns / (max 1 (s.rd AL_EPOCH.EPOCH) * 1000))).each 6 fun p t => t.measure p (t.backlog p))) ∧
  (∀ (s : State) (p tb : Nat), s.act p ≠ tb →
    (s.pol.quietUntil ≤ s.time.toNs → s.flipDue p tb = s.modSched p fun x => { x with flipAt := some (tb, s.time.toNs) }) ∧
    (s.time.toNs < s.pol.quietUntil →
      s.flipDue p tb = (s.raise (Ev.AL_FLIP_HELD p)).modSched p fun x => { x with flipAt := some (tb, s.pol.quietUntil) })) ∧
  (∀ (s : State) (p tb at_ : Nat), (s.sched p).flipAt = some (tb, at_) → s.act p ≠ tb →
    (at_ ≤ s.time.toNs → s.takeFlip p =
      (((s.modSched p fun x => { x with flipAt := none }).wr (AL_STAT.ACT p) tb).wr (AL_STAT.ARMED p) 0).gatesTouched p s.time.toNs) ∧
    (s.time.toNs < at_ → s.takeFlip p = s)) ∧
  (∀ (s : State), exec .decisionPoint s = .next (s.each 6 fun p t => t.decide1 p)) ∧
  (∀ (s : State) (p : Fin 6), s.rd (AL_STAT.ARMED p) ≠ 0 → s.planOwner p = none →
    s.decide1 p = if s.rd (AL_CTRL.FOLLOW p) = 0 then s.modSched p fun x => { x with flipNext := true } else s)

/-- POWER_ON_RESET_RELEASE while power-on reset is held latches the straps, loads the fuse shadow and runs the always-on domain; released already, it changes
nothing. ALWAYS_ON_SUPPLY_FAIL drives every eFuse gate, regulator, power-good ball and VCONN off, lets S0 to S31 float, and holds power-on reset: flash,
fuses, the model's counters and the queue stay. PIN_RESET does
the same, keeps the straps, loads the shadow and gives cause 2. CORE_SUPPLY_FAIL requests a warm reset of cause 6. WARM_RESET with no request changes
nothing. TEST_RESET changes no functional state. (R351, R352, R374, R510, R511) -/
def Obligations.ResetsOfTheHub : Prop :=
  (∀ (s : State) (w : BitVec 16), s.clk.phase = .held → exec (.powerOnResetRelease w) s =
    .next (({ s.wiped with clk := { s.wiped.clk with phase := .aon } }.setReg GC_STRAP (BitVec.ofNat 32 w.toNat)).loadShadow true)) ∧
  (∀ (s : State) (w : BitVec 16), s.clk.phase ≠ .held → exec (.powerOnResetRelease w) s = .next s) ∧
  (∀ (s : State), s.clk.phase ≠ .held → ∃ t, exec .alwaysOnSupplyFail s = .next t ∧ t.clk.phase = .held ∧ t.regs = [] ∧ t.mem = [] ∧ t.flash = s.flash ∧
    t.fuses = s.fuses ∧ t.pending = s.pending ∧ t.uptime = s.uptime ∧ t.out = s.resetBalls.out) ∧
  (∀ (s : State) (n : Nat), (n < 8 → Out.pin 6 n 0 ∈ s.resetBalls.out ∧ Out.pin 7 n 0 ∈ s.resetBalls.out ∧ Out.pin 8 n 0 ∈ s.resetBalls.out) ∧
    (n < 6 → Out.pin 10 n 0 ∈ s.resetBalls.out ∧ Out.pin 11 n 0 ∈ s.resetBalls.out) ∧ (n < 32 → Out.pin 2 n 2 ∈ s.resetBalls.out)) ∧
  (∀ (s : State), s.clk.phase ≠ .held → exec .pinReset s =
    (let u := s.resetBalls.wiped
     .next ((({ u with clk := { u.clk with phase := .aon } }.setReg GC_STRAP (s.reg GC_STRAP)).loadShadow true).wr GC_RST_CAUSE.LAST 2))) ∧
  (∀ (s : State), s.clk.phase ≠ .held → s.clk.phase ≠ .aon → s.clk.warm = none →
    exec .coreSupplyFail s = .next { s with clk := { s.clk with warm := some 6 } }) ∧
  (∀ (s : State), s.clk.warm = none → exec .warmReset s = .next s) ∧
  (∀ (s : State), exec .testReset s = .next s)

/-- For every state with a warm reset requested: the next state has the flash, the fuses, the PD and eFuse blocks and what was sent, with the balls of the core domain at rest after it; management RAM, frame
memory, lanes, links, adapters, the switch and the queues of commands of the transports are as after power-on; the hub is in the always-on phase with no
request left, PS_STAT.STATE 0; GC_RST_CAUSE.LAST holds the cause; and every register that neither a warm reset keeps nor the fuse shadow loads reads its
reset value. (R352, R357, R372, R374) -/
def Obligations.WarmResetKeepsAndClears : Prop :=
  ∀ (s : State) (c : Nat), s.clk.warm = some c → ∃ t, exec .warmReset s = .next t ∧
    t.flash = s.flash ∧ t.fuses = s.fuses ∧ t.pds = s.pds ∧ t.efs = s.efs ∧ t.out = s.coreBalls.out ∧ t.pending = s.pending ∧
    t.mem = [] ∧ t.frame = [] ∧ t.lanes = [] ∧ t.links = [] ∧ t.adps = [] ∧ t.sw = {} ∧ t.cmd = {} ∧
    t.clk.phase = .aon ∧ t.clk.warm = none ∧ t.rd PS_STAT.STATE = 0 ∧ t.rd GC_RST_CAUSE.LAST = c % 2 ^ GC_RST_CAUSE.LAST.width ∧
    ∀ a, warmKeeps a = false → a ≠ DM_UID_LO → a ≠ DM_UID_HI → a ≠ KS_IMG_MIN → a ≠ KS_PATCH_MIN → a ≠ KS_FUSE_MISC →
      (∀ i, i < 12 → a ≠ KS_ROMKH 0 + 4 * i ∧ a ≠ KS_DBGKH 0 + 4 * i) → t.reg a = resetValue a

/-- A window of the reference counts in CK_REFCNT; while it is judged stable one bad window is only remembered and a second in a row loses it, reporting
REF_LOSS; while it is not, a good window below the fourth only counts. REFERENCE_LOSS at full speed and not asleep loses it at once. REF_FAIL_TIMER in the
ROM phase is a failed boot. ROOT_PLL_LOCK in the PLL phase moves the clocks, powers the core domains and enables the time clock. PLL_LOCK_TIMEOUT reports
PLL_UNLOCK and is retried three times. A trim window more than 0.1 % fast lowers the code by one. RAMP_STEP with no ramp changes nothing. (R344, R345,
R346, R347, R349, R350, R355, R356) -/
def Obligations.ReferenceAndRootPll : Prop :=
  (∀ (s : State) (n : Fin 65536), s.clk.phase = .active → s.rd PS_STAT.STATE = 0 → s.rd CK_STAT.REF_OK ≠ 0 → windowAgrees n = false → s.clk.bad = 0 →
    exec (.refWindow n) s = .next { s.wr CK_REFCNT.COUNT n with clk := { s.clk with bad := 1 } }) ∧
  (∀ (s : State) (n : Fin 65536), s.clk.phase = .active → s.rd PS_STAT.STATE = 0 → s.rd CK_STAT.REF_OK ≠ 0 → windowAgrees n = false → s.clk.bad = 1 →
    exec (.refWindow n) s = .next (({ s.wr CK_REFCNT.COUNT n with clk := { s.clk with bad := 2 } }.raise Ev.CK_REF_LOSS).refLoss)) ∧
  (∀ (s : State) (n : Fin 65536), s.clk.phase = .rom → s.rd PS_STAT.STATE = 0 → s.rd CK_STAT.REF_OK = 0 → windowAgrees n = true → s.clk.agree < 3 →
    exec (.refWindow n) s = .next { s.wr CK_REFCNT.COUNT n with clk := { s.clk with agree := s.clk.agree + 1 } }) ∧
  (∀ (s : State), s.fullSpeed = true → s.rd PS_STAT.STATE ≠ 3 → exec .referenceLoss s = .next ((s.raise Ev.CK_REF_LOSS).refLoss)) ∧
  (∀ (s : State), s.clk.phase = .rom → exec .refFailTimer s = .next s.refFail) ∧
  (∀ (s : State), s.clk.phase ≠ .rom → exec .refFailTimer s = .next s) ∧
  (∀ (s : State), s.clk.phase = .pll →
    let u := ((s.toPll.wr ⟨PS_DOM, 1, 1⟩ 1).wr ⟨PS_DOM, 19, 1⟩ 1).wr ⟨GC_CLKEN, 21, 1⟩ 1
    exec .rootPllLock s = .next { u with clk := { u.clk with phase := .imaging, retries := 0 } }) ∧
  (∀ (s : State), s.clk.phase = .pll → s.clk.retries < 3 →
    let u := s.raise Ev.CK_PLL_UNLOCK
    exec .pllLockTimeout s = .next { u with clk := { u.clk with retries := s.clk.retries + 1 } }) ∧
  (∀ (s : State) (n : Fin 65536), s.rd CK_CFG.TRIM_EN ≠ 0 → s.rd CK_STAT.TRIM_SOF = 0 → s.rd CK_STAT.ON_PLL ≠ 0 → 32032 < n.val → 1 < s.rd CK_RC.TRIM →
    exec (.rcTrimWindow n) s = .next (s.wr CK_RC.TRIM (s.rd CK_RC.TRIM - 1)).trimSource) ∧
  (∀ (s : State) (n : Fin 524288), s.rd CK_CFG.TRIM_EN ≠ 0 → s.rd CK_STAT.TRIM_SOF ≠ 0 → n.val < 255744 → s.rd CK_RC.TRIM < 254 →
    exec (.sofTrimWindow n) s = .next (s.wr CK_RC.TRIM (s.rd CK_RC.TRIM + 1)).trimSource) ∧
  (∀ (s : State) (c : Fin 8), Tab.get 0 s.clk.ramps c = 0 → exec (.rampStep c) s = .next s) ∧
  (∀ (s : State) (c : Fin 8), Tab.get 0 s.clk.ramps c = 42 → exec (.rampStep c) s = .next { s with clk := { s.clk with ramps := Tab.put 0 s.clk.ramps c 63 } })

/-- LOCAL_PLL_LOCK of a pixel, Ethernet, USB or PCIe PLL sets its lock bit; of a lane PLL it lets the port train or wake. A lane PLL that loses lock is
reported and its port resets; one that never locked leaves the port down. CLOCK_FAULT of a derived clock at full speed names it in CK_MON_SRC, reports MON
and loses the reference; of the USB PLL it clears its bit. WATCHDOG_EXPIRE before TMO ms, or with EN 0, changes nothing; after it GC_WDT is reported, the
watchdog restarts, and with ACT a warm reset of cause 4 is requested; without it the cores have stopped serving (log 148). (R24, R343, R349, R354, R357) -/
def Obligations.LocalPllsAndWatchdog : Prop :=
  (∀ (s : State) (d : Fin 4), exec (.localPllLock (.pixel d)) s = .next (s.wr (CK_STAT.PIX_LOCK.bit d) 1)) ∧
  (∀ (s : State) (m : Fin 2), exec (.localPllLock (.eth m)) s = .next (s.wr (CK_STAT.ETH_LOCK.bit m) 1)) ∧
  (∀ (s : State) (b : Fin 2), exec (.localPllLock (.pcie b)) s = .next (s.wr (CK_STAT.PCIE_LOCK.bit b) 1)) ∧
  (∀ (s : State), exec (.localPllLock .usb) s = .next (s.wr CK_STAT.USB_LOCK 1)) ∧
  (∀ (s : State) (p : Fin 6), (s.link p).linkUp = true →
    exec (.localPllLock (.lane p)) s =
      .next (if (s.lanePllLock p).rd PS_STAT.WAKING ≠ 0 then (s.lanePllLock p).wakeLink p else s.lanePllLock p)) ∧
  (∀ (s : State) (p : Fin 6),
    let u := (s.wr (CK_STAT.LANE_LOCK.bit p) 0).raise Ev.CK_LANE_PLL
    exec (.lanePllUnlock p) s = .next (if s.rd (CK_STAT.LANE_LOCK.bit p) ≠ 0 then u.portReset p else u.linkDown p)) ∧
  (∀ (s : State) (c : Nat), s.fullSpeed = true → s.rd PS_STAT.STATE ≠ 3 →
    exec (.clockFault (.derived c)) s = .next (((s.wr CK_MON_SRC.CLOCK c).raise Ev.CK_MON).refLoss)) ∧
  (∀ (s : State), exec (.clockFault (.local .usb)) s = .next (s.wr CK_STAT.USB_LOCK 0)) ∧
  (∀ (s : State), s.rd GC_WDT.EN ≠ 0 → s.rd PS_STAT.STATE ≤ 1 → s.clk.wdtAt + max 1 (s.rd GC_WDT.TMO) * 10000000 ≤ s.uptime →
    let u := s.raise Ev.GC_WDT
    (u.rd GC_WDT.ACT ≠ 0 → exec .watchdogExpire s =
      .next (({ u with clk := { u.clk with wdtAt := u.uptime, stopped := false } } : State).requestWarm 4)) ∧
    (u.rd GC_WDT.ACT = 0 → exec .watchdogExpire s = .next { u with clk := { u.clk with wdtAt := u.uptime, stopped := true } })) ∧
  (∀ (s : State), (s.rd GC_WDT.EN = 0 ∨ s.uptime < s.clk.wdtAt + max 1 (s.rd GC_WDT.TMO) * 10000000) → exec .watchdogExpire s = .next s)

/-- HANDSHAKE_ROUND while blocks delay waits for DELAY_EXPIRE; each runs the round of R362 otherwise. MAX_WAIT_EXPIRE in the handshake abandons the entry with
ENTRY_TMO. ENTRY_COMPLETE to H1 enters it and takes the next request. A wake source not enabled changes nothing; an enabled one in H2 or H3 begins the
wake. WAKE_TIMER_EXPIRE in H0 or H1 changes nothing; WAKE_COMPLETE with no wake under way changes nothing. WAKE_COMPLETE after H3 advances the time counter by the time slept
and records it. LEAD_RESULT 0 counts the turn this end has completed and waits to hear of; a refusal of a turn of this end that has not begun ends it, counts
as the last plan change and fails the plan. A domain that is
not idle stays on; a domain that is off comes back with its stall. (R64, R80, R165, R362, R364, R366, R367, R368, R369, R370, R371) -/
def Obligations.PowerStateEntryAndWake : Prop :=
  (∀ (s : State), s.pwr.delayed ≠ [] → exec .handshakeRound s = .next s ∧ exec .delayExpire s = .next s.handshake) ∧
  (∀ (s : State), s.pwr.delayed = [] → exec .handshakeRound s = .next s.handshake ∧ exec .delayExpire s = .next s) ∧
  (∀ (s : State), s.pwr.step = .handshake →
    ((s.psBlocks.filter fun b => !s.pwr.accepted.contains b).filter fun b =>
      decide ((if s.pwr.target = 1 then PsAnswer.accept else s.blockAnswer b) = .refuse)) = [] →
    ((s.psBlocks.filter fun b => !s.pwr.accepted.contains b).filter fun b =>
      decide ((if s.pwr.target = 1 then PsAnswer.accept else s.blockAnswer b) = .delay)) = [] →
    s.handshake = s.allAccepted) ∧
  (∀ (s : State), s.pwr.step = .handshake → exec .maxWaitExpire s = .next (s.entryAbandon Ev.PS_ENTRY_TMO 0 stTimeout)) ∧
  (∀ (s : State), s.pwr.step ≠ .handshake → exec .maxWaitExpire s = .next s) ∧
  (∀ (s : State), s.pwr.step = .parking → s.pwr.target = 1 → exec .entryComplete s =
    .next ((((s.wr PS_STAT.STATE 1).wr PS_STAT.ENTERING 0).modPwr fun w => { w with step := .idle, lateLevel := [] }).nextRequest)) ∧
  (∀ (s : State) (i : Fin 22) (l : Bool), bitOf (s.rd PS_WAKE_EN.SRC) i = false → exec (.wakeEvent i l) s = .next s) ∧
  (∀ (s : State) (i : Fin 22) (l : Bool), bitOf (s.rd PS_WAKE_EN.SRC) i = true → s.rd PS_STAT.ENTERING = 0 → 2 ≤ s.rd PS_STAT.STATE →
    s.rd PS_STAT.WAKING = 0 → exec (.wakeEvent i l) s = .next (s.beginWake [i.val])) ∧
  (∀ (s : State), (s.rd PS_STAT.STATE < 2 ∨ s.rd PS_WAKE_TMR.MS = 0) → exec .wakeTimerExpire s = .next s) ∧
  (∀ (s : State), 2 ≤ s.rd PS_STAT.STATE → s.rd PS_WAKE_TMR.MS ≠ 0 →
    exec .wakeTimerExpire s = .next ((s.wr PS_WAKE_TMR.MS 0).wakeEvent 20 false)) ∧
  (∀ (s : State) (n : BitVec 64), s.rd PS_STAT.WAKING = 0 → exec (.wakeComplete n) s = .next s) ∧
  (∀ (s : State) (n : BitVec 64), s.rd PS_STAT.WAKING ≠ 0 → s.rd PS_STAT.STATE = 2 →
    let t := (s.setDomains s.pwr.sleepDoms true).modPwr fun w => { w with sleepDoms := [] }
    let u : State := { t with clk := { t.clk with wdtAt := t.clk.wdtAt + (t.uptime - t.pwr.sleepAt) } }
    exec (.wakeComplete n) s = .next ((((u.wr PS_STAT.STATE (u.rd PS_CFG.WAKE_TO)).wr PS_STAT.WAKING 0).pauseAll false).nextRequest)) ∧
  (∀ (s : State) (n : BitVec 64), s.rd PS_STAT.WAKING ≠ 0 → s.rd PS_STAT.STATE = 3 → ∃ t : State, exec (.wakeComplete n) s = .next t.nextRequest ∧
    t.time = s.time.add n.toNat 0 ∧ t.rd PS_STAT.WAKING = 0 ∧ t.rd PS_STAT.STATE = s.rd PS_CFG.WAKE_TO ∧ t.pwr.sleepDoms = [] ∧
    t.rd PS_WAKE_TS_S.VALUE = t.time.sec % 2 ^ 32 ∧ t.rd PS_WAKE_TS_NS.VALUE = t.time.ns % 2 ^ 30) ∧
  (∀ (s : State) (d : Fin 22), s.domIdle d = false → exec (.domainIdleOff d) s = .next s) ∧
  (∀ (s : State) (d : Fin 22), s.rd PS_STAT.STATE = 1 → s.domIdle d = true → exec (.domainIdleOff d) s = .next ((s.wr ⟨PS_DOM, d, 1⟩ 0).domHeld d)) ∧
  (∀ (s : State) (d : Fin 22) (us : Fin 65536), s.rd ⟨PS_DOM, d, 1⟩ = 0 →
    exec (.domainWakeDone d us) s = .next ((s.wr ⟨PS_DOM, d, 1⟩ 1).wr PS_STALL.US (max (s.rd PS_STALL.US) us))) ∧
  (∀ (s : State) (p : Fin 6) (l : Fin 4) (cw : BitVec 64), (s.link p).linkUp = true →
    ((s.link p).turned = some (s.laneOfPartner p l) → exec (.leadResult p l 0 cw) s =
      .next ((s.modLink p fun k => { k with turned := none }).wrapAdd (LN_TURN_CNT.TURNS (s.laneOfPartner p l)) 1)) ∧
    ((s.link p).turned ≠ some (s.laneOfPartner p l) → exec (.leadResult p l 0 cw) s = .next s)) ∧
  (∀ (s : State) (p : Fin 6) (l : Fin 4) (cw : BitVec 64), (s.link p).linkUp = true → (s.link p).act = none → (s.link p).held = [] →
    exec (.leadResult p l 3 cw) s = .next ((s.modLink p fun k => { k with held := [] }).planFail p)) ∧
  (∀ (s : State) (p : Fin 6) (l : Fin 4) (cw : BitVec 64) (a : LaneAct), (s.link p).linkUp = true → (s.link p).act = some a → (s.link p).held = [] →
    a.lane = s.laneOfPartner p l → a.kind = 0 → a.begun = false → a.far = false → exec (.leadResult p l 3 cw) s =
      .next ((((s.modLink p fun k => { k with held := [] }).endAct p).modSched p fun x => { x with dwell := 0 }).planFail p))

/-- KEY_UNIT_DONE with no operation changes nothing. A load whose check value agrees replaces the key, sets LOADED and ATTR and counts GEN; one whose check
value differs reports KCV_FAIL, ends with INTEGRITY and leaves the key. ERASE empties the key and clears LOADED. RNG_HEALTH_FAIL is reported and no random
bytes are given from then on. DRAIN_COMPLETE sets DRAIN of its gate. DBGAUTH_CHALLENGE with a good source gives a fresh nonce and the UID; NONCE_LAPSE
forgets it. DBG_VERIFY waits for the key unit; its verdict is a failure without a nonce, counted, and the third locks out;
a good one widens the scope in force and lifts the locks in it. (R378, R379, R380, R387, R389) -/
def Obligations.KeyUnitAndDebugUnlock : Prop :=
  (∀ (s : State), s.keys.op = none → exec .keyUnitDone s = .next s) ∧
  (∀ (s : State) (k : KeyOp), s.keys.op = some k → k.op = 1 → checkValue k.input = k.kcv →
    let u : State := { s.clearKeyRegs with keys := { s.clearKeyRegs.keys with key := k.input } }
    let v := ((u.wr KS_STAT.LOADED 1).wr KS_STAT.ATTR k.attr).wrapAdd KS_STAT.GEN 1
    exec .keyUnitDone s = .next (v.keyEnd stOk (le 2 (v.rd KS_STAT.GEN)))) ∧
  (∀ (s : State) (k : KeyOp), s.keys.op = some k → k.op = 1 → checkValue k.input ≠ k.kcv →
    exec .keyUnitDone s = .next ((s.clearKeyRegs.raise Ev.KS_KCV_FAIL).keyEnd stIntegrity [])) ∧
  (∀ (s : State) (k : KeyOp), s.keys.op = some k → k.op = 4 →
    exec .keyUnitDone s = .next (({ s with keys := { s.keys with key := [] } }.wr KS_STAT.LOADED 0).keyEnd stOk [])) ∧
  (∀ (s : State) (k : KeyOp) (o : Owner), s.keys.op = some k → 5 ≤ k.op → k.by_ = some o →
    exec .keyUnitDone s = .next (s.keyEnd (keyOutput k).1 (keyOutput k).2)) ∧
  (∀ (s : State), exec .rngHealthFail s = .next { s.raise Ev.KS_RNG_FAIL with keys := { s.keys with rngOk := false } }) ∧
  (∀ (s : State) (g : Fin 26), exec (.drainComplete g) s = .next (s.wr (BG_STAT.DRAIN g) 1)) ∧
  (∀ (s : State), s.keys.rngOk = true → exec .dbgauthChallenge s =
    .next ({ s with free := s.free + 1, keys := { s.keys with nonce := some (Config.freeBytes s.free 32) } }.send
      (.bus 6 0 0 (Config.freeBytes s.free 32 ++ be 8 s.fuses.uid)))) ∧
  (∀ (s : State) (sc : Nat) (pub sig : List Byte) (n : Option (List Byte)), s.keys.dbgPending = some (sc, pub, sig, n) →
    let u : State := { s with keys := { s.keys with dbgPending := none } }
    let v : State := { u with keys := { u.keys with dbgResult := 1 } }
    let f := u.satAdd KS_DBG_STAT.FAILS 1
    let g := if 3 ≤ f.rd KS_DBG_STAT.FAILS then f.wr KS_DBG_STAT.LOCKOUT 1 else f
    exec .dbgVerifyDone s = .next (if u.dbgGood sc pub sig n = true then
        ((v.wr KS_DBG_STAT.UNLOCKED 1).wr KS_DBG_SCOPE.SCOPE (Nat.lor (v.rd KS_DBG_SCOPE.SCOPE) sc)).liftLocks.raise Ev.KS_DBG_UNLOCK
      else ({ g with keys := { g.keys with dbgResult := if 3 ≤ f.rd KS_DBG_STAT.FAILS then 3 else 2 } } : State).raise Ev.KS_DBG_FAIL)) ∧
  (∀ (s : State), exec .nonceLapse s = .next { s with keys := { s.keys with nonce := none } }) ∧
  (∀ (s : State) (sc : BitVec 32) (pub sig : List Byte), s.keys.dbgPending = none → exec (.dbgVerify sc pub sig) s =
    .next { s with keys := { s.keys with dbgResult := 0, dbgPending := some (sc.toNat, pub, sig, s.keys.nonce) } }) ∧
  (∀ (s : State) (sc : Nat) (pub sig : List Byte), s.keys.dbgPending = some (sc, pub, sig, none) → s.rd KS_DBG_STAT.FAILS = 0 →
    let u : State := ({ s with keys := { s.keys with dbgPending := none } }).satAdd KS_DBG_STAT.FAILS 1
    u.rd KS_DBG_STAT.FAILS < 3 →
    exec .dbgVerifyDone s = .next ({ u with keys := { u.keys with dbgResult := 2 } }.raise Ev.KS_DBG_FAIL))

/-- IMAGE_LOAD outside the imaging phase changes nothing; with no answer of the flash both slots read TIMEOUT and no image is tried;
with two candidates the one of the higher RELEASE (A on a tie) is checked and activated, or shows its failure and the other is tried with IMG_FALLBACK; with A
alone a candidate B shows why it is none and A is activated or shows its failure, after which no image is left. CORE_RESET_RELEASE checks
the patch and goes to the ROM phase without a reference. An open transaction that idles is rolled back with IDLE_RB; an unknown one, or no commit, changes
nothing. QUIET_POINT of a commit that opens and closes no tunnel applies the staged values at once, releases the adapters, records the quiet time, ends the
transaction, counts the commit and answers OK with GC_QUIET, read at the privilege of the command's transport, or DENIED where its gate forbids that. DRAIN_TIMEOUT of a commit releases the adapters, reports DRAIN_TMO and leaves the transaction open.
BIST_DONE compares the signature with BT_REF, ends the isolation and clears BUSY. (R355, R382, R400, R401, R407, R411, R450, R451) -/
def Obligations.ImageTransactionSelfTest : Prop :=
  (∀ (s : State) (b : Bool), s.clk.phase ≠ .imaging → exec (.imageLoad b) s = .next s) ∧
  (∀ (s : State), s.clk.phase = .imaging → exec (.imageLoad false) s =
    .next (((s.setSlotStatus false stTimeout).setSlotStatus true stTimeout).tryImages [])) ∧
  (∀ (s : State), s.clk.phase = .imaging → headerCandidate (s.slotHeader false) = true → headerCandidate (s.slotHeader true) = true →
    let b := decide (hdrRelease (s.slotHeader false) < hdrRelease (s.slotHeader true))
    exec (.imageLoad true) s = .next (match s.checkImage (s.slotImage b) with
      | .ok h => s.activate b h
      | .error e => ((s.setSlotStatus b e).raise Ev.GC_IMG_FALLBACK).tryImages [!b])) ∧
  (∀ (s : State), s.clk.phase = .imaging → headerCandidate (s.slotHeader false) = true → headerCandidate (s.slotHeader true) = false →
    let u := s.setSlotStatus true (if headerErased (s.slotHeader true) then 0xFE else stInvalid)
    exec (.imageLoad true) s = .next (match u.checkImage (u.slotImage false) with
      | .ok h => u.activate false h
      | .error e => (u.setSlotStatus false e).tryImages [])) ∧
  (∀ (s : State), s.clk.phase = .aon →
    let u := (s.wr ⟨GC_CLKEN, 22, 1⟩ 1).patchCheck
    s.rd CK_STAT.ROOT_LOCK = 0 → s.rd CK_STAT.REF_OK = 0 → exec .coreResetRelease s = .next { u with clk := { u.clk with phase := .rom } }) ∧
  (∀ (s : State), s.clk.phase ≠ .aon → exec .coreResetRelease s = .next s) ∧
  (∀ (s : State) (id : Fin 65536) (x : Txn), s.img.txns = [x] → x.id = id → s.img.commit = none →
    exec (.txnIdleTimeout id) s = .next ((s.dropTxn id).raise Ev.GC_IDLE_RB)) ∧
  (∀ (s : State) (id : Fin 65536), s.img.txns = [] → exec (.txnIdleTimeout id) s = .next s) ∧
  (∀ (s : State) (q d : Fin 65536) (f : BitVec 26), s.img.commit = none → exec (.quietPoint q d f) s = .next s ∧ exec .drainTimeout s = .next s) ∧
  (∀ (s : State) (id : Nat) (l : List Nat), s.img.commit = some (id, l) → exec .drainTimeout s =
    .next ((((((s.haltAdapters l false).modImg fun i => { i with commit := none }).raise Ev.GC_DRAIN_TMO).touchTxn id).finish
      (fun w => decide (w = .commit id)) stTimeout 0 []))) ∧
  (∀ (s : State) (q d : Fin 65536) (id : Nat) (l : List Nat) (x : Txn), s.img.commit = some (id, l) → s.img.txns = [x] → x.id = id →
    (∀ a, a < 256 → 1 ≤ a → adapterGone s (s.overlay x.staged) a = false ∧ adapterNew s (s.overlay x.staged) a = false) →
    let u := ((((((s.beginQuiet q).strobe x.staged).haltAdapters l false).wr GC_QUIET.QUIET_NS q).wr GC_QUIET.DRAIN_US d)).dropTxn id
    let v := (u.modImg fun i => { i with commit := none }).wrapAdd GC_COMMITS.COUNT 1
    exec (.quietPoint q d 0#26) s = .next (v.finishRegs (fun w => decide (w = .commit id)) [(3, GC_QUIET)] [])) ∧
  (∀ (s : State) (e : CmdEntry) (w : Wait → Bool), s.cmd.entries = [e] → e.running = true → w e.wait = true →
    let r := s.gatePass 3 GC_QUIET e.owner.master e.owner.priv .read 4
    s.finishRegs w [(3, GC_QUIET)] [] =
      (if r.1 then r.2.answer e stOk 0 (wordLe (r.2.reg GC_QUIET)) else r.2.answer e stDenied 0 [])) ∧
  (∀ (s : State) (m : BitVec 32), s.test.under = none → exec (.bistDone m) s = .next s) ∧
  (∀ (s : State) (m : BitVec 32) (b : Nat), s.test.under = some b → s.cmd.entries = [] →
    let u := ({ s with test := { s.test with under := none } } : State).bistReset b
    m = u.reg (BT_REF b) → u.cmd.entries = [] →
    exec (.bistDone m) s = .next ((((u.setReg BT_MISR m).wr BT_STAT.LAST b).wr BT_STAT.BUSY 0).wr BT_STAT.MATCH 1))

/-- NATIVE_UNIT_DISPATCH without a unit dispatches the oldest accepted unit of the adapter. With one, an adapter that is no PCIe adapter takes it, and a PCIe
adapter takes the TLP as a TLP record: WIN 15 and no confirmation for anything but a memory write, the window and its CONF for a write inside one, as long as its queue
has room; with the tunnel closed a non-posted request is answered UR and a posted one dropped. A TLP record of a tunnel whose native link is up goes out on it, is noted when
it needs an Ack or a completion, and ends the request it completes; with the link down a confirmed one is answered ABORTED, a non-posted one UR, a
completion is dropped and a posted one is reported with cause 3. A record of unknown KIND raises FAR_ERR. PB_ERROR_RECORD is reported with the header sent
under its SEQ. (R233, R234, R235, R238, R239, R240, R242, R243, R517) -/
def Obligations.PcieUnitsCrossTheTunnel : Prop :=
  (∀ (s : State) (a : Fin 256) (k : Bool), exec (.nativeUnitDispatch a none k) s = .next (s.dispatch a)) ∧
  (∀ (s : State) (a : Fin 256) (u : List Byte) (k : Bool), s.isPcie a = false → exec (.nativeUnitDispatch a (some u) k) s = .next ((s.present a u).dispatch a)) ∧
  (∀ (s : State) (a : Fin 256) (u : List Byte), s.isPcie a = true → s.tunnelOpen a = false →
    (tlpNonPosted u = true → exec (.nativeUnitDispatch a (some u) false) s =
      .next ((s.send (.bus 0 (s.bridgeOf a) 0 (tlpCpl 1 (tlpTag u)))).dispatch a)) ∧
    (tlpNonPosted u = false → exec (.nativeUnitDispatch a (some u) false) s = .next (s.dispatch a))) ∧
  (∀ (s : State) (a : Fin 256) (u : List Byte), s.adpType a = 5 → s.tunnelOpen a = true → s.pcieCredit a = 0 →
    exec (.nativeUnitDispatch a (some u) false) s = .next (s.dispatch a)) ∧
  (∀ (s : State) (a : Fin 256) (u : List Byte), s.adpType a = 5 → s.tunnelOpen a = true → 0 < s.pcieCredit a →
    (tlpIsMemWrite u = false → exec (.nativeUnitDispatch a (some u) false) s = .next ((s.present a (pbRecord 0 15 u)).dispatch a)) ∧
    (∀ w, tlpIsMemWrite u = true → s.pbWindow (s.bridgeOf a) (tlpAddr u) = some w → exec (.nativeUnitDispatch a (some u) false) s =
      .next ((s.present a (pbRecord 0 w u) (s.on (PB_WIN_CTL.CONF (s.bridgeOf a) w))).dispatch a))) ∧
  (∀ (s : State) (a : Fin 256) (t : List Byte) (q : Fin 65536) (k : Bool), s.isPcie a = true → s.rd (PB_STAT.LINK_UP (s.bridgeOf a)) ≠ 0 →
    ∃ u : State, exec (.tlpRecord a (pbRecord 0 15 t) q k none) s = .next u ∧ u.out = s.out ++ [.bus 0 (s.bridgeOf a) 0 t] ∧ u.regs = s.regs ∧
      (u.adp a).acks = (if k then (s.adp a).acks ++ [q.val] else (s.adp a).acks) ∧
      (u.adp a).owed = (if tlpNonPosted t then (s.adp a).owed ++ [t] else (s.adp a).owed)) ∧
  (∀ (s : State) (a : Fin 256) (t : List Byte) (q : Fin 65536), s.isPcie a = true → s.rd (PB_STAT.LINK_UP (s.bridgeOf a)) = 0 →
    exec (.tlpRecord a (pbRecord 0 15 t) q true none) s = .next (s.sendConfirm a q 0xA) ∧
    (tlpNonPosted t = true → exec (.tlpRecord a (pbRecord 0 15 t) q false none) s = .next (s.present a (pbRecord 0 15 (tlpCpl 1 (tlpTag t))))) ∧
    (tlpIsCpl t = true → exec (.tlpRecord a (pbRecord 0 15 t) q false none) s = .next s) ∧
    (tlpIsMemWrite t = true → exec (.tlpRecord a (pbRecord 0 15 t) q false none) s = .next (s.sendPbError a 3 0 q (tlpAddr t)))) ∧
  (∀ (s : State) (a c : Fin 256) (t : List Byte) (q : Fin 65536), s.adpType a = 4 → s.adpType c = 4 → c ≠ a → tlpNonPosted t = true → tlpIsCpl t = false →
    ((s.vdsp c).up = true → s.tunnelOpen c = true → exec (.tlpRecord a (pbRecord 0 15 t) q false (some c)) s =
      .next ((s.modAdp c fun x => { x with p2p := x.p2p ++ [(tlpTag t, a.val)] }).present c (pbRecord 0 15 t))) ∧
    ((s.vdsp c).up = false → exec (.tlpRecord a (pbRecord 0 15 t) q false (some c)) s = .next (s.present a (pbRecord 0 15 (tlpCpl 1 (tlpTag t)))))) ∧
  (∀ (s : State) (a : Fin 256) (k : Nat) (t : List Byte) (q : Fin 65536) (c : Bool), s.isPcie a = true → 4 ≤ k → k < 16 →
    exec (.tlpRecord a (pbRecord k 0 t) q c none) s = .next (s.raiseWith (Ev.PB_FAR_ERR (s.bridgeOf a)) true [])) ∧
  (∀ (s : State) (a : Fin 256) (c : Fin 16) (st : Fin 256) (q : Fin 65536) (x : BitVec 64), s.isPcie a = true →
    exec (.pbErrorRecord a c st q x) s = .next (s.pbReport a c st x.toNat (Tab.get [] (s.adp a).headers q)))

/-- LINK_STATE at an adapter that is no PCIE_UP changes nothing; a record that keeps UP only refreshes speed and width; UP falling marks presence, link change
and Surprise Down and raises the event. LINK_STATE_TIMER sends LINK_STATE only for a ROOT bridge. PCIE_LINK_CHANGE of a bridge in mode OFF changes nothing;
a link that comes up shows in PB_STAT and is told to the tunnels. RESET records, PERST_RELEASE, power controller and secondary bus reset drive or send what
the rules say. PCIE_ACK sends CONFIRM OK for a confirmed TLP that waits for its Ack. CPL_TIMEOUT answers the oldest open request with CA where it came from, the
native link or the tunnel of another vDSP, raises CPL_TMO and reports cause 5 with status 4. (R234, R235, R236, R240, R242) -/
def Obligations.PcieLinkStateAndResets : Prop :=
  (∀ (s : State) (a : Fin 256) (up : Bool) (sp : Fin 8) (w : Fin 16), s.adpType a ≠ 4 → exec (.linkState a up sp w) s = .next s) ∧
  (∀ (s : State) (a : Fin 256) (sp : Fin 8) (w : Fin 16), s.adpType a = 4 → exec (.linkState a (s.vdsp a).up sp w) s =
    .next (s.modVdsp a fun x => { x with up := (s.vdsp a).up, speed := sp, width := w })) ∧
  (∀ (s : State) (a : Fin 256) (sp : Fin 8) (w : Fin 16), s.adpType a = 4 → (s.vdsp a).up = true → exec (.linkState a false sp w) s =
    (let u := (s.modVdsp a fun x => { x with up := false, speed := sp, width := w }).modVdsp a fun x =>
      { x with presence := true, linkChange := true, surprise := x.surprise || true }
     .next ((u.raise (Ev.PB_SURPRISE_DOWN (u.bridgeOf a))).vdspMsi a))) ∧
  (∀ (s : State) (b : Fin 2), s.pbMode b ≠ 1 → exec (.linkStateTimer b) s = .next s) ∧
  (∀ (s : State) (b : Fin 2), s.pbMode b = 1 → exec (.linkStateTimer b) s = .next (s.eachIn (s.bridgeAdapters b) fun a t => t.present a
    (pbRecord 1 15 (be 1 (t.rd (PB_STAT.LINK_UP b)) ++ be 1 (t.rd (PB_STAT.SPEED b)) ++ be 1 (t.rd (PB_STAT.WIDTH b)) ++ be 1 0)))) ∧
  (∀ (s : State) (b : Fin 2) (up : Bool) (sp : Fin 8) (w : Fin 16), s.rd (PB_CFG.MODE b) = 0 → exec (.pcieLinkChange b up sp w) s = .next s) ∧
  (∀ (s : State) (sp : Fin 8) (w : Fin 16), s.rd (PB_CFG.MODE 0) ≠ 0 → s.underTest 17 0 = false → exec (.pcieLinkChange 0 true sp w) s =
    .next ((((s.wr (PB_STAT.LINK_UP 0) 1).wr (PB_STAT.SPEED 0) sp).wr (PB_STAT.WIDTH 0) w).sendLinkState 0)) ∧
  (∀ (s : State) (a : Fin 256), s.adpType a = 5 →
    exec (.resetRecord a 0) s = .next (s.send (.bus 0 (s.bridgeOf a) 3 [])) ∧
    exec (.resetRecord a 1) s = .next ((s.modBrg fun x => { x with perst := x.perst.filter (· ≠ s.bridgeOf a) }).send (.pin 3 (s.bridgeOf a) 0)) ∧
    exec (.resetRecord a 2) s = .next ((s.modBrg fun x => { x with perst := x.perst.filter (· ≠ s.bridgeOf a) ++ [s.bridgeOf a] }).send
      (.pin 3 (s.bridgeOf a) 1))) ∧
  (∀ (s : State) (a : Fin 256) (k : Fin 4), s.adpType a ≠ 5 → exec (.resetRecord a k) s = .next s) ∧
  (∀ (s : State) (b : Fin 2), s.pbMode b = 1 → exec (.perstRelease b) s =
    .next ((s.modBrg fun x => { x with perst := x.perst.filter (· ≠ b.val) ++ [b.val] }).send (.pin 3 b 1))) ∧
  (∀ (s : State) (a : Fin 256), s.adpType a = 4 →
    exec (.powerControllerControl a true) s = .next ((s.modVdsp a fun v => { v with powerOff := true }).present a (pbRecord 2 15 (be 1 1 ++ be 3 0))) ∧
    exec (.powerControllerControl a false) s = .next ((s.modVdsp a fun v => { v with powerOff := false }).present a (pbRecord 2 15 (be 1 2 ++ be 3 0))) ∧
    exec (.secondaryBusReset a) s = .next (s.present a (pbRecord 2 15 (be 4 0)))) ∧
  (∀ (s : State) (a : Fin 256) (q : Fin 65536), (s.adp a).acks.contains q.val = true → exec (.pcieAck a q) s =
    .next ((s.modAdp a fun x => { x with acks := x.acks.erase q.val }).sendConfirm a q 0)) ∧
  (∀ (s : State) (a : Fin 256) (q : Fin 65536), (s.adp a).acks.contains q.val = false → exec (.pcieAck a q) s = .next s) ∧
  (∀ (s : State) (a : Fin 256), (s.adp a).open_ = [] → exec (.cplTimeout a) s = .next s) ∧
  (∀ (s : State) (a : Fin 256) (r : List Byte) (rest : List (List Byte)), (s.adp a).open_ = r :: rest → exec (.cplTimeout a) s =
    (let u := s.modAdp a fun x => { x with open_ := rest }
     let w := match (s.adp a).p2p.find? fun x => decide (x.1 = tlpTag r) with
       | some x => u.present x.2 (pbRecord 0 15 (tlpCpl 4 (tlpTag r)))
       | none => u.send (.bus 0 (u.bridgeOf a) 0 (tlpCpl 4 (tlpTag r)))
     let v := (w.raise (Ev.PB_CPL_TMO (w.bridgeOf a))).modAdp a fun x => { x with p2p := x.p2p.filter fun y => decide (y.1 ≠ tlpTag r) }
     .next (v.pbOwnError a 5 4 0 (if tlpIsMem r then tlpAddr r else 0) (r.take (tlpHdr r)) true)))

/-- READ_RECORD and WRITE_RECORD at a REGBUS adapter queue a request in range for the controller, starting it when none runs, and answer status 3 when SIZE or
ADDR is out of range. I2C_DONE with nothing running changes nothing; with a read of a peer running it answers READ_RESP and starts the next request.
READ_RESP and RB_READ_TIMEOUT for a tag of no request change nothing; a time-out of a read raises RB_TMO and answers TIMEOUT. RB_ERROR_RECORD is recorded
with its event. A CONFIRM for the held write with OK counts CONFIRMED and ends the hold; for another SEQ, or with nothing held, it changes nothing;
CONFIRM_TIMEOUT ends the hold with TIMEOUT, counting FAILED and raising CONF_FAIL. (R241, R244, R245, R246) -/
def Obligations.RegisterBusAndConfirms : Prop :=
  (∀ (s : State) (a tag sz : Fin 256) (x : BitVec 32), s.adpType a = 10 →
    let r : RbReq := { adp := a, tag := tag, read := true, size := sz, addr := x.toNat, data := [], mine := false }
    (rbValid sz x.toNat = true → exec (.readRecord a tag sz x) s = .next (s.i2cQueue r)) ∧
    (rbValid sz x.toNat = false → exec (.readRecord a tag sz x) s =
      .next (s.present a (be 1 0x81 ++ be 1 tag ++ be 1 sz ++ be 1 3 ++ be 4 0 ++ [])))) ∧
  (∀ (s : State) (a tag : Fin 256) (x : BitVec 32) (d : List Byte) (q : Fin 65536) (k : Bool), s.adpType a = 10 → rbValid d.length x.toNat = true →
    ∃ r : RbReq, r.adp = a ∧ r.tag = tag ∧ r.read = false ∧ r.addr = x.toNat ∧ r.data = d ∧ r.seq = q ∧ r.conf.isSome = k ∧
      exec (.writeRecord a tag x d q k) s = .next (s.i2cQueue r)) ∧
  (∀ (s : State) (a tag : Fin 256) (x : BitVec 32) (d : List Byte) (q : Fin 65536), s.adpType a = 10 → rbValid d.length x.toNat = false →
    exec (.writeRecord a tag x d q true) s = .next (s.sendConfirm a q 3) ∧
    exec (.writeRecord a tag x d q false) s = .next (s.present a (be 1 0x83 ++ be 1 tag ++ be 1 0 ++ be 1 3 ++ be 4 x.toNat))) ∧
  (∀ (s : State) (r : RbReq), s.brg.i2c = [] → s.i2cQueue r = (s.modBrg fun b => { b with i2c := b.i2c ++ [r] }).i2cStart r) ∧
  (∀ (s : State) (st : Fin 256) (d : List Byte), s.brg.i2c = [] → exec (.i2cDone st d) s = .next s) ∧
  (∀ (s : State) (r : RbReq) (d : List Byte), s.brg.i2c = [r] → r.mine = false → r.read = true → exec (.i2cDone 0 d) s =
    .next (((s.modBrg fun b => { b with i2c := [] }).wr SB_RB_STAT.BUSY 0).present r.adp
      (be 1 0x81 ++ be 1 r.tag ++ be 1 r.size ++ be 1 0 ++ be 4 0 ++ d.take r.size))) ∧
  (∀ (s : State) (a tag st : Fin 256) (d : List Byte), s.rbFind a tag = none → exec (.readResp a tag st d) s = .next s) ∧
  (∀ (s : State) (a tag st : Fin 256) (d : List Byte) (r : RbReq), s.rbFind a tag = some r → r.read = true → exec (.readResp a tag st d) s =
    .next ((s.setRbOut (s.brg.rbOut.erase r)).rbFinish r stOk st (d.take r.size))) ∧
  (∀ (s : State) (tag : Fin 256) (r : RbReq), (s.brg.rbOut.find? fun r => decide (r.tag = tag.val)) = some r → r.read = true → exec (.rbReadTimeout tag) s =
    .next (((s.setRbOut (s.brg.rbOut.erase r)).raise Ev.SB_RB_TMO).rbFinish r stTimeout stTimeout [])) ∧
  (∀ (s : State) (tag : Fin 256), (s.brg.rbOut.find? fun r => decide (r.tag = tag.val)) = none → exec (.rbReadTimeout tag) s = .next s) ∧
  (∀ (s : State) (a tag st : Fin 256) (x : BitVec 32), s.adpType a = 10 → exec (.rbErrorRecord a tag st x) s = .next (s.rbError a tag st x.toNat)) ∧
  (∀ (s : State) (a : Fin 256) (q : Fin 65536) (st : Fin 256), (s.adp a).conf = none → exec (.confirm a q st) s = .next s ∧ exec (.confirmTimeout a) s = .next s) ∧
  (∀ (s : State) (a : Fin 256) (w n : Nat) (rec_ : List Byte) (q : Fin 65536) (st : Fin 256), (s.adp a).conf = some (w, n, rec_) → n ≠ q →
    exec (.confirm a q st) s = .next s) ∧
  (∀ (s : State) (a : Fin 256) (w : Nat) (rec_ : List Byte) (q : Fin 65536), (s.adp a).conf = some (w, q.val, rec_) → s.adpType a ≠ 10 →
    let u := s.modAdp a fun x => { x with conf := none }
    exec (.confirm a q 0) s = .next (u.satAdd (PB_WIN_CNT.CONFIRMED (u.bridgeOf a) w) 1) ∧
    exec (.confirmTimeout a) s = .next (((u.satAdd (PB_WIN_CNT.FAILED (u.bridgeOf a) w) 1).raise (Ev.PB_CONF_FAIL (u.bridgeOf a))).pbOwnError a 4 6 q
      (tlpAddr (rec_.drop 4)) ((rec_.drop 4).take (tlpHdr (rec_.drop 4)))))

/-- SIGNAL_ACCEPT of an input at a new level writes its bit, counts its edge and keeps the stamp of the first change of the group; at its old level it changes
nothing. GROUP_UPDATE of a group without adapter, or not due, changes nothing; when a change is due it sends the value, the edges and the interval with the
stamp of the first change. UPDATE_RECEIVE of an untimed group applies the update at once; one older than the last applied only refreshes the interval.
TIMED_APPLY applies the first waiting update. STALE drives the outputs of the group to SAFE and raises the event. (R247, R248, R249, R250, R251) -/
def Obligations.SidebandGroups : Prop :=
  (∀ (s : State) (n : Fin 32) (v : Bool), s.rd (SB_SIG.DIR n) = 1 → s.on (SB_IN.VALUE.bit n) ≠ v →
    ∃ u : State, u = (s.wr (SB_IN.VALUE.bit n) v.toNat).modBrg (fun b => { b with edges := Tab.put 0 b.edges n ((Tab.get 0 b.edges n + 1) % 16) }) ∧
      exec (.signalAccept n v) s = .next (u.modGroup (u.rd (SB_SIG.GROUP n)) fun x => { x with firstChange := some (x.firstChange.getD u.time.stamp) })) ∧
  (∀ (s : State) (n : Fin 32) (v : Bool), (s.rd (SB_SIG.DIR n) ≠ 1 ∨ s.on (SB_IN.VALUE.bit n) = v) → exec (.signalAccept n v) s = .next s) ∧
  (∀ (s : State) (g : Fin 8), s.rd (SB_GRP.ADP g) = 0 → exec (.groupUpdate g) s = .next s) ∧
  (∀ (s : State) (g : Fin 8) (t c : Nat), s.rd (SB_GRP.ADP g) ≠ 0 → s.tunnelOpen (s.rd (SB_GRP.ADP g)) = true → s.adpSends (s.rd (SB_GRP.ADP g)) = true →
    s.groupValue g ≠ (s.group g).sentValue → (s.group g).firstChange = some c → (s.group g).farInterval = none → (s.group g).lastSend = some t →
    (t + s.rd (SB_GRP.INTERVAL g) * 10000 ≤ s.uptime → exec (.groupUpdate g) s =
      .next ((s.accept (s.rd (SB_GRP.ADP g)) { bytes := updateRecord (s.groupValue g) (s.groupEdges g) (s.rd (SB_GRP.INTERVAL g)), ts := c }).modGroup g fun y =>
        { y with sentValue := s.groupValue g, sentEdges := s.groupEdges g, lastSend := some s.uptime, firstChange := none })) ∧
    (s.uptime < t + s.rd (SB_GRP.INTERVAL g) * 10000 → exec (.groupUpdate g) s = .next s)) ∧
  (∀ (s : State) (g : Fin 8) (ts : BitVec 34) (v : BitVec 32) (e : List (Fin 16)) (i : Fin 65536), s.rd (SB_GRP.TIMED g) = 0 →
    exec (.updateReceive g ts v e i) s =
      .next ((s.modGroup g fun y => { y with farInterval := some i.val }).applyUpdate g (fullStamp ts.toNat s.time) v.toNat (e.map Fin.val))) ∧
  (∀ (s : State) (g t v : Nat) (e : List Nat) (t' v' : Nat) (e' : List Nat), (s.group g).applied = some (t', v', e') → t < t' → s.applyUpdate g t v e = s) ∧
  (∀ (s : State) (g : Fin 8), (s.group g).waiting = [] → exec (.timedApply g) s = .next s) ∧
  (∀ (s : State) (g : Fin 8) (x t v : Nat) (e : List Nat) (rest : List (Nat × Nat × Nat × List Nat)), (s.group g).waiting = (x, t, v, e) :: rest →
    exec (.timedApply g) s = .next ((s.modGroup g fun y => { y with waiting := rest }).applyUpdate g t v e)) ∧
  (∀ (s : State) (g : Fin 8), s.rd (SB_GRP.ADP g) ≠ 0 → s.tunnelOpen (s.rd (SB_GRP.ADP g)) = true →
    exec (.stale g) s = .next (((s.modGroup g fun y => { y with stale := true }).driveSafe g).raise Ev.SB_STALE)) ∧
  (∀ (s : State) (g : Fin 8), s.rd (SB_GRP.ADP g) = 0 → exec (.stale g) s = .next s)

/-- PROBE_START of a port without link, of a peer port or a redundant one changes nothing; on an open port of the host-role hub whose time is locked, or that has
been up for 20 ms, it sends ENUM_PROBE with hop 1, and where the hop would be the fifth, or the hub behind the port got no address since the probe before
(log 150), the hub is refused. The first ENUM_PROBE at a hub that is not host-role makes the port its upstream port and is answered, one on another port is
noted and answered. ENUM_REPLY of a host-role hub is refused; another is assigned a position or, at a hub-role prober, sent on to the host-role hub; a hub
known behind another port is marked redundant. ADDR_ASSIGN of this hub is taken, acknowledged, and asks for its tunnels (log 151); a prober hands it on, or
answers HUB_GONE where the hub is lost. PEER_ANNOUNCE on an open peer port tells its address. ROUTE_SET is applied whole or not at all; ROUTE_ACK at the
host-role hub sends the next route or opens the tunnels. TUNNEL_OPEN of an adapter that matches opens it and answers; any other changes nothing.
TUNNEL_CLOSE and HUB_GONE close what names the adapter or the hub. (R82, R172, R173, R174, R175, R177, R178, R182, R194, R413) -/
def Obligations.EnumerationRoutesAndTunnels : Prop :=
  (∀ (s : State) (p : Fin 6), (s.linkIsUp p = false ∨ s.peerPort p = true ∨ s.redundant p = true) → exec (.probeStart p) s = .next s) ∧
  (∀ (s : State) (p : Fin 6), s.linkIsUp p = true → s.peerPort p = false → s.redundant p = false → s.lstate p = 4 → s.dom.refused.contains p.val = false →
    (s.rd (CL_STAT.TLOCK p) ≠ 0 ∨ (s.link p).upAt + 200000000 ≤ s.uptime) →
    (s.hostRole = true → s.rd DM_CFG.DUAL = 0 → s.unassigned p = false →
      exec (.probeStart p) s = .next (s.neighMsg p 0x80 (be 1 1 ++ be 1 p ++ be 2 0 ++ be 8 s.uid))) ∧
    (s.hostRole = false → s.rd DM_ID.VALID ≠ 0 → s.rd DM_ID.UPPORT ≠ p → 4 ≤ s.rd DM_ID.HOP → exec (.probeStart p) s = .next (s.refuseHub p)) ∧
    (s.hostRole = false → s.rd DM_ID.VALID ≠ 0 → s.rd DM_ID.UPPORT ≠ p → s.rd DM_ID.HOP < 4 → s.unassigned p = true →
      exec (.probeStart p) s = .next (s.shutOut p))) ∧
  (∀ (s : State) (p : Fin 6) (h : Fin 8), s.peerPort p = true → exec (.enumProbe p h) s = .next s) ∧
  (∀ (s : State) (p : Fin 6) (h : Fin 8), s.peerPort p = false → s.hostRole = false → s.rd DM_ID.UPPORT = 7 → exec (.enumProbe p h) s =
    (let u := (s.wr DM_ID.UPPORT p).modDom fun d => { d with probeHop := h }
     .next (u.neighMsg p 0x81 (u.enumReplyBody p)))) ∧
  (∀ (s : State) (p : Fin 6) (h : Fin 8), s.peerPort p = false → s.hostRole = false → s.rd DM_ID.UPPORT ≠ 7 → s.rd DM_ID.UPPORT ≠ p →
    exec (.enumProbe p h) s =
    (let u := s.modDom fun d => { d with twice := d.twice.filter (fun e => decide (e.1 ≠ p.val)) ++ [(p.val, h.val, false)] }
     .next (u.neighMsg p 0x81 (u.enumReplyBody p)))) ∧
  (∀ (s : State) (p port : Fin 6) (src : Fin 16384) (v : Fin 16) (l : Fin 64) (uid : BitVec 64) (n : Fin 256), s.peerPort p = false →
    (s.hostRole = true → s.dom.refused.contains p.val = false →
      exec (.enumReply (some p) src port v 1 l uid n) s = .next ((s.raise Ev.DM_ROLE_CONFLICT).refuseHub p)) ∧
    (s.hostRole = false → s.dom.refused.contains p.val = false → exec (.enumReply (some p) src port v 1 l uid n) s = .next (s.refuseHub p)) ∧
    (s.hostRole = true → exec (.enumReply (some p) src port v 0 l uid n) s = .next (s.assignPosition s.hubAddr p uid.toNat)) ∧
    (s.hostRole = false → exec (.enumReply (some p) src port v 0 l uid n) s =
      .next (((s.modDom fun d => { d with replyPort := d.replyPort.filter (fun r => decide (r.1 ≠ uid.toNat)) ++ [(uid.toNat, p.val)] }).domMsg
        s.hostAddr 0 0x81 (be 1 v ++ be 1 0 ++ be 1 l ++ be 1 0 ++ be 8 uid.toNat ++ be 2 n)).checkTwice p))) ∧
  (∀ (s : State) (p port : Fin 6) (src : Fin 16384) (v : Fin 16) (l : Fin 64) (uid : BitVec 64) (n : Fin 256) (h : HubEntry), s.peerPort p = false →
    s.hostRole = true → (s.dom.hubs.find? fun g => decide (g.uid = uid.toNat)) = some h → (h.parent ≠ s.hubAddr ∨ h.port ≠ p) →
    exec (.enumReply (some p) src port v 0 l uid n) s = .next (((s.raise Ev.DM_LOOP).linkOnly p).wr (DM_PEER.REDUNDANT p) 1)) ∧
  (∀ (s : State) (p : Fin 6) (x : Fin 16384) (g : Fin 65536) (uid : BitVec 64), uid.toNat = s.uid → s.hostRole = false →
    let u := (((s.wr DM_ID.ADDR x).wr DM_ID.VALID 1).wr DM_ID.HOP s.dom.probeHop).domMsg (x / 64 * 64) 0 0x84 (be 2 0 ++ be 1 0)
    exec (.addrAssign (some p) x g uid) s = .next ((u.eachIn ((List.range 256).filter fun a => u.pairedWith a (u.rd (TA_PEER.HUB a)) &&
      decide (u.rd (TA_PEER.HUB a) ≠ x ∧ u.rd (TA_PEER.HUB a) ≠ x / 64 * 64)) fun a t => t.sendTunnelOpen a).each 6 fun q t => t.checkTwice q)) ∧
  (∀ (s : State) (p : Fin 6) (x : Fin 16384) (g : Fin 65536) (uid : BitVec 64), uid.toNat ≠ s.uid →
    exec (.addrAssign (some p) x g uid) s = .next (s.peerAddress p x)) ∧
  (∀ (s : State) (x : Fin 16384) (g : Fin 65536) (uid : BitVec 64),
    (∀ r, (s.dom.replyPort.find? fun r => decide (r.1 = uid.toNat)) = some r → exec (.addrAssign none x g uid) s =
      .next (((s.neighMsg r.2 0x82 (be 2 x ++ be 2 g ++ be 8 uid.toNat)).wr (DM_PEER.ADDR r.2) x).wr (DM_PEER.VALID r.2) 1)) ∧
    ((s.dom.replyPort.find? fun r => decide (r.1 = uid.toNat)) = none →
      exec (.addrAssign none x g uid) s = .next (s.domMsg s.hostAddr 0 0x87 (be 2 x ++ be 1 0)))) ∧
  (∀ (s : State) (p : Fin 6), s.rd DM_ID.VALID = 0 → exec (.peerAnnounce p) s = .next s) ∧
  (∀ (s : State) (p : Fin 6), s.peerPort p = true → s.linkIsUp p = true → s.lstate p = 4 → s.rd DM_ID.VALID ≠ 0 → exec (.peerAnnounce p) s =
    .next (s.neighMsg p 0x82 (be 2 s.hubAddr ++ be 2 (s.hubAddr / 64) ++ be 8 s.uid))) ∧
  (∀ (s : State) (src : Fin 16384) (n : Fin 65536) (l : List (BitVec 32)), (12 < n.val ∨ l.length < n.val) →
    exec (.routeSet src n l) s = .next (s.domMsg src 0 0x84 (be 2 0 ++ be 1 3))) ∧
  (∀ (s : State) (src : Fin 16384) (e : BitVec 32), exec (.routeSet src 1 [e]) s =
    .next (((s.wr (DM_RT.PORT (bitsOf e.toNat 18 14)) (bitsOf e.toNat 15 3)).wr (DM_RT.ALT (bitsOf e.toNat 18 14)) (bitsOf e.toNat 12 3)).domMsg
      src 0 0x84 (be 2 1 ++ be 1 0))) ∧
  (∀ (s : State) (src : Fin 16384) (n : Fin 65536) (st : Fin 256), s.hostRole = false → exec (.routeAck src n st) s = .next s) ∧
  (∀ (s : State) (src : Fin 16384) (n : Fin 65536) (st : Fin 256) (h : HubEntry), s.hostRole = true → s.dom.routes = [] →
    (s.dom.hubs.find? fun g => decide (g.addr = src.val) && !g.acked) = some h → exec (.routeAck src n st) s = .next (s.routeNew h)) ∧
  (∀ (s : State) (src : Fin 16384) (n : Fin 65536) (st : Fin 256) (new port : Nat) (rest : List (Nat × Nat × Nat)), s.hostRole = true →
    s.dom.routes = (src.val, new, port) :: rest →
    let u := (s.modDom fun d => { d with routes := rest }).sendRoute
    exec (.routeAck src n st) s = .next (if (rest.any fun r => decide (r.2.1 = new)) = true then u else u.openTunnelsTo new)) ∧
  (∀ (s : State) (h : Fin 16384) (x y : Fin 256) (g : Fin 16384) (c : Fin 4) (tc : Fin 8),
    (y = 0 ∨ s.rd (TA_CFG0.CLASS y) ≠ c ∨ s.rd (TA_CFG0.TC y) ≠ tc) → exec (.tunnelOpen h x y g c tc) s = .next s) ∧
  (∀ (s : State) (h : Fin 16384) (x y : Fin 256) (g : Fin 16384) (c : Fin 4) (tc : Fin 8), y ≠ 0 → s.adpType y ≠ 0 → g.val = s.hubAddr →
    s.rd (TA_PEER.MCAST y) = 0 → s.rd (TA_PEER.HUB y) = h → s.rd (TA_PEER.ADP y) = x → s.rd (TA_CFG0.CLASS y) = c → s.rd (TA_CFG0.TC y) = tc →
    s.recentlyGone h = false → s.recentlyGone g = false →
    let u := s.tunnelOpened y
    exec (.tunnelOpen h x y g c tc) s = .next (if u.dom.openSent.contains y.val = true then u.modDom fun d => { d with openSent := d.openSent.filter (· ≠ y.val) }
      else u.domMsg h 0 0x8A (u.tunnelOpenBody y))) ∧
  (∀ (s : State) (x : Fin 256) (h : Fin 16384), exec (.tunnelClose x h) s =
    .next (s.eachIn ((List.range 256).filter fun a => s.pairedWith a h && decide (s.rd (TA_PEER.ADP a) = x)) fun a t => t.tunnelClosed a)) ∧
  (∀ (s : State) (h : Fin 16384), s.hostRole = false →
    let u := (s.cmd.entries.filter fun e => e.running && relayTo h e.wait).foldl (fun t e => t.answer e stAborted 0 []) (s.closeToward h)
    u.hostRole = false → exec (.hubGone h) s = .next (if h / 64 = u.hubAddr / 64 ∧ h.val ≠ u.hostAddr then u.dropRoute h else u)) ∧
  (∀ (s : State) (h : Fin 16384), s.hostRole = true → (s.dom.hubs.any fun g => decide (g.addr = h.val)) = true →
    let v := s.eachIn ((s.dom.hubs.map HubEntry.addr).filter fun g => !(s.subtree 4 [h.val]).contains g) fun g t => t.domMsg g 0 0x87 (be 2 h ++ be 1 0)
    let u := (v.cmd.entries.filter fun e => e.running && relayTo h e.wait).foldl (fun t e => t.answer e stAborted 0 []) (v.closeToward h)
    u.hostRole = true → (u.dom.hubs.any fun g => decide (g.addr = h.val)) = true → exec (.hubGone h) s = .next (u.freePosition h))

/-- A hub without a floor record enters its own advertisement and shows it, with FLOOR_DROP and gossip where the floor falls from 3. FLOOR_GOSSIP with a
lower version, or the same version and a smaller age, replaces the record and shows it; any other changes nothing more. FLOOR_RECORD_LAPSE
before 60 s changes nothing; at 60 s the record is this hub's own advertisement again, which is shown. The gossip timer renews this hub's own advertisement and sends to every port. GM_ANNOUNCE on a span edge changes nothing; on
another port it is kept as the announcement of the port, and its expiry forgets it. The announce timer announces on every port. ROLE_SWAP_REQ for host at a
hub that is not host-role is granted, at one that is but is not dual-role is refused with result 1, and at a dual-role hub with the lower UID makes it
yield and answer 2: it keeps no hub of its string and has no address. (R177, R183, R186, R191, R192) -/
def Obligations.FloorGrandmasterAndRoles : Prop :=
  (∀ (s : State), s.dom.floor = none →
    s.holdFloor = (s.modDom fun d => { d with floor := some (s.ownVersion, s.hubAddr, 0, s.uptime) }).showFloor (s.rd DM_FLOOR.FLOOR)) ∧
  (∀ (s : State), s.dom.floor.isSome = true → s.holdFloor = s) ∧
  (∀ (s : State) (v : Fin 256) (o : Fin 16384) (age : BitVec 32), let u := s.holdFloor
    (v.val < u.floorRecord.1 ∨ (v.val = u.floorRecord.1 ∧ age.toNat * 10000000 < u.floorRecord.2.2)) → exec (.floorGossip v o age) s =
    .next ((u.modDom fun d => { d with floor := some (v.val, o.val, age.toNat * 10000000, u.uptime) }).showFloor (u.rd DM_FLOOR.FLOOR))) ∧
  (∀ (s : State) (v : Fin 256) (o : Fin 16384) (age : BitVec 32), let u := s.holdFloor
    (u.floorRecord.1 < v.val ∨ (v.val = u.floorRecord.1 ∧ u.floorRecord.2.2 ≤ age.toNat * 10000000)) → exec (.floorGossip v o age) s = .next u) ∧
  (∀ (s : State) (old : Nat), let r := s.floorRecord
    let u := (s.wr DM_FLOOR.FLOOR r.1).wr DM_FLOOR.ORIGIN r.2.1
    (old ≤ r.1 → s.showFloor old = u) ∧
    (r.1 < 3 → old = 3 → s.showFloor old = (u.raise Ev.DM_FLOOR_DROP).each 6 fun p t => t.sendGossip p)) ∧
  (∀ (s : State), s.floorRecord.2.2 < 600000000000 → exec .floorRecordLapse s = .next s) ∧
  (∀ (s : State), 600000000000 ≤ s.floorRecord.2.2 → exec .floorRecordLapse s =
    .next (((s.modDom fun d => { d with floor := some (s.ownVersion, s.hubAddr, 0, s.uptime) }).showFloor (s.rd DM_FLOOR.FLOOR)).ownFloor)) ∧
  (∀ (s : State), exec .floorGossipTimer s = .next (s.ownFloor.each 6 fun p t => t.sendGossip p)) ∧
  (∀ (s : State) (p : Fin 6) (a b c : Fin 256) (uid : BitVec 64), s.spanEdge p = true → exec (.gmAnnounce p a b c uid) s = .next s) ∧
  (∀ (s : State) (p : Fin 6) (a b c : Fin 256) (uid : BitVec 64), s.spanEdge p = false → exec (.gmAnnounce p a b c uid) s =
    .next ((s.modDom fun d => { d with heard := Tab.put none d.heard p (some ⟨a, b, c, uid.toNat⟩) }).gmChanged s.bestAnnounce)) ∧
  (∀ (s : State) (p : Fin 6), exec (.gmAnnounceExpire p) s = .next ((s.modDom fun d => { d with heard := Tab.put none d.heard p none }).gmChanged s.bestAnnounce)) ∧
  (∀ (s : State), exec .gmAnnounceTimer s = .next (s.each 6 fun p t => t.sendAnnounce p)) ∧
  (∀ (s : State) (p : Fin 6) (uid : BitVec 64),
    (s.hostRole = false → exec (.roleSwapReq p 1 uid) s = .next (s.sendCtl p 0x31 (be 1 0))) ∧
    (s.hostRole = true → s.rd DM_CFG.DUAL = 0 → exec (.roleSwapReq p 1 uid) s = .next (s.sendCtl p 0x31 (be 1 1))) ∧
    (s.hostRole = true → s.rd DM_CFG.DUAL ≠ 0 → s.uid < uid.toNat → exec (.roleSwapReq p 1 uid) s = .next (s.yieldRole.sendCtl p 0x31 (be 1 2))) ∧
    (s.hostRole = true → s.rd DM_CFG.DUAL ≠ 0 → uid.toNat ≤ s.uid → exec (.roleSwapReq p 1 uid) s = .next s) ∧
    (s.rd DM_CFG.DUAL = 0 → exec (.roleSwapReq p 0 uid) s = .next (s.sendCtl p 0x31 (be 1 1)))) ∧
  (∀ (s : State), s.yieldRole.dom.yielded = true ∧ s.yieldRole.dom.hubs = [] ∧ s.yieldRole.rd DM_ID.VALID = 0 ∧ s.yieldRole.rd DM_ID.UPPORT = 7)

/-- PADDOCK_ARRIVE with nothing coming changes nothing. With fewer than 8192 held, a packet whose release time (full stamp plus SKEW) has not passed is
entered; one whose time has passed is entered, counted and reported LATE, and released. A full paddock counts FULL and releases its earliest entry first.
PADDOCK_RELEASE releases the earliest entry once its time has come and otherwise changes nothing; released, it goes to the home engine of its adapter as an
egress item when that has room and no packet waits for it, else it waits with QFULL. EVENT_NOTIFY goes on over the USB path, marked as relayed, where a host
has asked for it; without that, and PATH_PROBE, changes nothing. (R82, R113, R188, R189, R456) -/
def Obligations.PaddockHoldsUntilReleaseTime : Prop :=
  (∀ (s : State), s.sw.pdkIn = [] → exec .paddockArrive s = .next s) ∧
  (∀ (s : State) (id adp : Nat) (rest : List (Nat × Nat)) (st : Stored), s.sw.pdkIn = (id, adp) :: rest → s.stored id = some st → s.sw.pdk.length < 8192 →
    let u := s.mapSw fun w => { w with pdkIn := rest }
    let e : PdkEntry := { id := id, adp := adp, release := fullStamp st.pkt.ts u.time + u.skewNs, seq := st.pkt.seq }
    (u.time.toNs ≤ e.release → exec .paddockArrive s = .next (u.setPdk (u.sw.pdk ++ [e]))) ∧
    (e.release < s.time.toNs → exec .paddockArrive s =
      .next ((((u.setPdk (u.sw.pdk ++ [e])).raise Ev.DM_PDK_LATE).satAdd DM_PDK_CNT.LATE 1).pdkRelease e))) ∧
  (∀ (s : State), s.sw.pdk = [] → exec .paddockRelease s = .next s) ∧
  (∀ (s : State) (e : PdkEntry), earliest s.sw.pdk = some e →
    (s.time.toNs < e.release → exec .paddockRelease s = .next s) ∧
    (e.release ≤ s.time.toNs → s.queueRoom (s.home e.adp) 1 = true → (∀ k ∈ s.sw.pdkOut, s.home k.2 ≠ s.home e.adp) →
      exec .paddockRelease s = .next ((s.setPdk (s.sw.pdk.erase e)).enqueue (s.home e.adp)
        { ingress := false, adp := e.adp, pkt := (s.stored e.id).elim {} Stored.pkt, id := e.id, pdk := true })) ∧
    (e.release ≤ s.time.toNs → s.queueRoom (s.home e.adp) 1 = false → exec .paddockRelease s =
      .next (((s.setPdk (s.sw.pdk.erase e)).mapSw fun w => { w with pdkOut := w.pdkOut ++ [(e.id, e.adp)] }).raise (Ev.SE_QFULL (s.home e.adp))))) ∧
  (∀ (s : State) (id adp : Nat) (rest : List (Nat × Nat)) (st : Stored) (f : PdkEntry), s.sw.pdkIn = (id, adp) :: rest → s.stored id = some st →
    8192 ≤ s.sw.pdk.length → earliest s.sw.pdk = some f →
    let u := s.mapSw fun w => { w with pdkIn := rest }
    let e : PdkEntry := { id := id, adp := adp, release := fullStamp st.pkt.ts u.time + u.skewNs, seq := st.pkt.seq }
    let v := ((u.raise Ev.DM_PDK_FULL).satAdd DM_PDK_CNT.FULL 1).pdkRelease f
    u.time.toNs ≤ e.release → exec .paddockArrive s = .next (v.setPdk (v.sw.pdk ++ [e]))) ∧
  (∀ (s : State) (h : Fin 16384) (l : List Byte), (s.cmd.notifyUsb = false ∨ s.cmd.usbReady = false) → exec (.eventNotify h l) s = .next s) ∧
  (∀ (s : State) (h : Fin 16384) (l : List Byte), s.cmd.notifyUsb = true → s.cmd.usbReady = true → exec (.eventNotify h l) s =
    .next ((s.notifyUsb (l.take 28 ++ le 2 h ++ le 1 1 ++ l.drop 31)).getD s.notifyLost)) ∧
  (∀ (s : State) (p : Fin 256) (t : Time), exec (.pathProbe p t) s = .next s)

/-- FRAME_RECEIVE with the link down changes nothing; a frame with a bad FCS, shorter than 60 bytes or longer than MAXLEN raises FCS_ERR and goes no further; a
good frame counts, is the firmware's when it is a gPTP message in gPTP mode, raises NO_ADP when no adapter is mapped, goes nowhere when the adapter takes
nothing in, is dropped with its count and event when its partition is full and its priority not paused, and
is otherwise handed to its adapter with the corrected stamp. PAUSE of a priority is set by PFC_FRAME where RX_EN allows it and ended by PAUSE_EXPIRE.
PFC_REPEAT repeats only a priority that is paused. FRAME_TRANSMIT with the link down changes nothing, and without a ready queue only updates the credits;
else the head frame of the highest ready queue goes out and is counted, a shaped queue pays its credit, and an event message is stamped.
ETH_LINK_CHANGE of an interface that is OFF or under self-test changes nothing; else it shows a link that comes up at its interface's speed, and refuses a
speed below 1 Gbit/s of SGMII or USXGMII. (R274, R275, R276, R277, R278,
R279, R280, R281) -/
def Obligations.MacFramesAndPauses : Prop :=
  (∀ (s : State) (m : Fin 2) (f : List Byte) (g : Bool) (t : Time), (s.rd (EN_CFG.IF m) = 0 ∨ s.rd (EN_STAT.LINK m) = 0) → exec (.frameReceive m f g t) s = .next s) ∧
  (∀ (s : State) (m : Fin 2) (f : List Byte) (g : Bool) (t : Time), s.rd (EN_CFG.IF m) ≠ 0 → s.rd (EN_STAT.LINK m) ≠ 0 →
    (g = false ∨ f.length < 60 ∨ s.rd (EN_CFG.MAXLEN m) < f.length) → exec (.frameReceive m f g t) s = .next (s.raise (Ev.EN_FCS_ERR m))) ∧
  (∀ (s : State) (m : Fin 2) (f : List Byte) (t : Time), s.rd (EN_CFG.IF m) ≠ 0 → s.rd (EN_STAT.LINK m) ≠ 0 → 60 ≤ f.length → f.length ≤ s.rd (EN_CFG.MAXLEN m) →
    let u := s.wrapAdd (EN_RX_FRAMES.COUNT m) 1
    let a := u.frameAdapter m f
    let p := u.framePcp m f
    (u.rd (EN_CFG.PTP_MODE m) = 1 → ∀ h, ptpOverEthernet f = some h →
      exec (.frameReceive m f true t) s = .next (if byteAt h 0 % 16 = 2 then u.gptpSend m 3 (beAt h 30 2) else u)) ∧
    (u.rd (EN_CFG.PTP_MODE m) ≠ 1 → a = 0 → exec (.frameReceive m f true t) s = .next (u.raise (Ev.EN_NO_ADP m))) ∧
    (u.rd (EN_CFG.PTP_MODE m) ≠ 1 → a ≠ 0 → u.rd (TA_CFG0.DIR a) = 2 → exec (.frameReceive m f true t) s = .next u) ∧
    (u.rd (EN_CFG.PTP_MODE m) ≠ 1 → a ≠ 0 → u.rd (TA_CFG0.DIR a) ≠ 2 → u.rd (EN_RXBUF.SIZE m p) * 256 < u.partitionUse m p + f.length → bitOf (u.rd (EN_PFC.TX_EN m)) p = false →
      exec (.frameReceive m f true t) s = .next ((u.satAdd (EN_RX_DROP.COUNT m) 1).raise (Ev.EN_RX_DROP m))) ∧
    (u.rd (EN_CFG.PTP_MODE m) ≠ 1 → a ≠ 0 → u.rd (TA_CFG0.DIR a) ≠ 2 → u.partitionUse m p + f.length ≤ u.rd (EN_RXBUF.SIZE m p) * 256 →
      exec (.frameReceive m f true t) s =
        .next ((u.accept a { bytes := f, ts := (t.shift16 (-(u.rd (EN_PTP_LAT.RX m) : Int))).stamp, part := some p }).flowControl m))) ∧
  (∀ (s : State) (m : Fin 2) (p : Fin 9), (s.mac m).xoff.contains p.val = false → exec (.pfcRepeat m p) s = .next s) ∧
  (∀ (s : State) (m : Fin 2) (p : Fin 9), (s.mac m).xoff.contains p.val = true → exec (.pfcRepeat m p) s = .next (s.sendPause m p (s.rd (EN_PAUSE.QUANTA m)))) ∧
  (∀ (s : State) (m : Fin 2) (q : Fin 65536), let u := s.wrapAdd (EN_PAUSE_RX.COUNT m) 1
    (u.rd (EN_PFC.LLFC m) ≠ 0 → exec (.pfcFrame m false 0 [q]) s = .next (u.setPause m 8 q)) ∧
    (u.rd (EN_PFC.LLFC m) = 0 → exec (.pfcFrame m false 0 [q]) s = .next u) ∧
    exec (.pfcFrame m true 0 []) s = .next u ∧
    exec (.pfcFrame m true 1 [q]) s = .next (if bitOf (u.rd (EN_PFC.RX_EN m)) 0 then u.setPause m 0 q else u)) ∧
  (∀ (s : State) (m : Fin 2) (p : Fin 9), exec (.pauseExpire m p) s = .next (s.setPause m p 0) ∧ ((s.setPause m p 0).mac m).paused.contains p.val = false) ∧
  (∀ (s : State) (m : Fin 2), s.rd (EN_STAT.LINK m) = 0 → exec (.frameTransmit m) s = .next s) ∧
  (∀ (s : State) (m : Fin 2), s.rd (EN_STAT.LINK m) ≠ 0 → (∀ q < 8, (s.macCredits m).txReady m q = false) → exec (.frameTransmit m) s = .next (s.macCredits m)) ∧
  (∀ (s : State) (m : Fin 2) (q : Nat) (f : List Byte) (g : Bool) (rest : List (List Byte × Bool)), s.rd (EN_STAT.LINK m) ≠ 0 →
    let u := s.macCredits m
    q < 8 → u.txReady m q = true → (∀ k < 8, q < k → u.txReady m k = false) → (u.mac m).queue q = (f, g) :: rest →
    let v := u.modMac m fun x => { x with txq := Tab.put [] x.txq q rest, sending := some (q, u.uptime + u.frameTime m f) }
    let w := if v.rd (EN_TXQCFG.SHAPE m q) = 0 then v
      else v.modMac m fun x => { x with credit := Tab.put 0 x.credit q (Tab.get 0 x.credit q - (f.length + 24) * 80000) }
    let x := (w.send (.eth m f g)).wrapAdd (EN_TX_FRAMES.COUNT m) 1
    (x.ptpEvent m f = none → exec (.frameTransmit m) s = .next x) ∧
    (∀ k i, x.ptpEvent m f = some (k, i) → exec (.frameTransmit m) s = .next (x.txStamp m k i))) ∧
  (∀ (s : State) (m : Fin 2) (up : Bool) (v : Fin 6), s.rd (EN_CFG.IF m) = 0 → exec (.ethLinkChange m up v) s = .next s) ∧
  (∀ (s : State) (m : Fin 2) (up : Bool) (v : Fin 6), s.underTest 20 m = true → exec (.ethLinkChange m up v) s = .next s) ∧
  (∀ (s : State) (m : Fin 2), s.underTest 20 m = false → s.rd (EN_CFG.IF m) ≠ 0 → s.rd (EN_STAT.LINK m) ≠ 0 →
    let u := (((s.wr (EN_STAT.LINK m) 0).wr (EN_STAT.SPEED m) 0).wr (EN_STAT.AN_DONE m) 0).wr (EN_STAT.FEC_LOCK m) 0
    (∀ v, exec (.ethLinkChange m false v) s = .next (u.raise (Ev.EN_LINK_DOWN m))) ∧
    ((s.rd (EN_CFG.IF m) = 3 ∨ s.rd (EN_CFG.IF m) = 5) →
      exec (.ethLinkChange m true 0) s = .next ((u.raise (Ev.EN_LINK_DOWN m)).raise (Ev.EN_SPEED_REFUSED m)))) ∧
  (∀ (s : State) (m : Fin 2) (v : Fin 6), s.underTest 20 m = false → s.rd (EN_CFG.FEC m) = 0 →
    let u : Nat → Nat → State := fun speed an => (((s.wr (EN_STAT.LINK m) 1).wr (EN_STAT.SPEED m) speed).wr (EN_STAT.AN_DONE m) an).wr (EN_STAT.FEC_LOCK m) 0
    (s.rd (EN_CFG.IF m) = 1 → exec (.ethLinkChange m true v) s = .next (u 5 0)) ∧
    (s.rd (EN_CFG.IF m) = 2 → exec (.ethLinkChange m true v) s = .next (u 4 0)) ∧
    (s.rd (EN_CFG.IF m) = 3 → v ≠ 0 → exec (.ethLinkChange m true v) s = .next (u (min v 4) 1)) ∧
    (s.rd (EN_CFG.IF m) = 5 → v ≠ 0 → exec (.ethLinkChange m true v) s = .next (u 1 1)))

/-- SERVO_SAMPLE of a source that neither steers nor is the external one changes nothing; one of a cable port in use writes the offset and, above STEP_THR,
steps the time by it, else moves the frequency by its integral part and slews at the increment, limited with SLEW_LIMIT, for the sample interval. SOURCE_NO_SAMPLE of a locked external source drops the lock, holds the frequency and raises SRC_LOSS; without a lock it changes
nothing. ACQUIRE_TIMER at a candidate that heard no announcement sets ACQUIRED. SECONDS_ROLLOVER with no slew runs the ticks up to the one that counts a
second. PPS_IN_EDGE with IN_EN 0 changes nothing; PPS_MISS raises its event only with IN_EN 1; PPS_PULSE_END ends a pulse that is high. The gPTP and path
delay timers send only in gPTP mode on a MAC whose link is up, with the next sequence number. (R283, R286, R287, R288, R290, R295, R296) -/
def Obligations.TimeServoAndPulses : Prop :=
  (∀ (s : State) (src : Fin 9) (th : Int) (ms : Fin 8192), s.timeSource ≠ some src.val → (src.val < 6 ∨ s.rd TM_SRC.SRC = 0) →
    exec (.servoSample src th ms) s = .next s) ∧
  (∀ (s : State) (src : Fin 9) (th : Int) (ms : Fin 8192), s.timeSource = some src.val → src.val < 6 → s.rd DM_GM.CAPABLE = 0 → 128 < th.natAbs →
    let u := ({ s with tm := { s.tm with close := 0 } } : State).wr TM_OFS.OFS (ofSigned 32 (satSigned 32 th))
    u.rd TM_SERVO.STEP_THR * 16000 < th.natAbs → exec (.servoSample src th ms) s = .next (u.stepTime (u.time.shift16 (-th)))) ∧
  (∀ (s : State) (src : Fin 9) (th : Int) (ms : Fin 8192), s.timeSource = some src.val → src.val < 6 → s.rd DM_GM.CAPABLE = 0 → 128 < th.natAbs →
    let u := ({ s with tm := { s.tm with close := 0 } } : State).wr TM_OFS.OFS (ofSigned 32 (satSigned 32 th))
    th.natAbs ≤ u.rd TM_SERVO.STEP_THR * 16000 →
    let v := u.wr TM_FREQ.FREQ (ofSigned 32 (satSigned 32 (u.freq - roundDiv (th * 16000) (2 ^ u.rd TM_SERVO.KI_SH))))
    let r := v.applyIncrement th 1
    let w : State := { r.2 with tm := { r.2.tm with slewLeft := 156250 } }
    exec (.servoSample src th ms) s = .next (if r.1 then w.raise Ev.TM_SLEW_LIMIT else w)) ∧
  (∀ (s : State), s.rd TM_SRC.SRC ≠ 0 → s.rd TM_STAT.SRC_LOCK ≠ 0 → exec .sourceNoSample s =
    (let u := (((s.wr TM_STAT.SRC_LOCK 0).wr TM_STAT.HOLDOVER 1).endSlew).raise Ev.TM_SRC_LOSS
     .next (({ u with tm := { u.tm with good := 0, bad := 0 } } : State).gmChanged s.bestAnnounce))) ∧
  (∀ (s : State), (s.rd TM_SRC.SRC = 0 ∨ s.rd TM_STAT.SRC_LOCK = 0) → exec .sourceNoSample s = .next s) ∧
  (∀ (s : State), s.rd DM_GM.CAPABLE ≠ 0 → s.rd TM_SRC.SRC = 0 → s.rd TM_STAT.ACQUIRED = 0 → s.dom.heard = [] →
    exec .acquireTimer s = .next ((s.wr TM_STAT.ACQUIRED 1).gmChanged s.bestAnnounce)) ∧
  (∀ (s : State), (s.rd DM_GM.CAPABLE = 0 ∨ s.rd TM_SRC.SRC ≠ 0 ∨ s.rd TM_STAT.ACQUIRED ≠ 0) → exec .acquireTimer s = .next s) ∧
  (∀ (s : State), s.incEffective = 0 → exec .secondsRollover s = .next s) ∧
  (∀ (s : State), s.incEffective ≠ 0 → s.tm.slewLeft = 0 → s.ticksToSecond s.incEffective ≠ 0 →
    exec .secondsRollover s = .next (s.addTicks (s.ticksToSecond s.incEffective))) ∧
  (∀ (s : State) (t : Time), s.rd TM_PPS.IN_EN = 0 → exec (.ppsInEdge t) s = .next s) ∧
  (∀ (s : State) (t : Time), s.rd TM_PPS.IN_EN ≠ 0 → t.ns < 500000000 → exec (.ppsInEdge t) s =
    .next (((s.wr TM_PPS_IN_NS.NS t.ns).wr TM_PPS_IN_SEC.SEC (t.sec % 2 ^ 32)).servoSample 8 ((t.ns * 16 + t.frac / 2 ^ 28 : Nat) : Int) 1000)) ∧
  (∀ (s : State), (s.rd TM_PPS.IN_EN ≠ 0 → exec .ppsMiss s = .next (s.raise Ev.TM_PPS_MISS)) ∧ (s.rd TM_PPS.IN_EN = 0 → exec .ppsMiss s = .next s)) ∧
  (∀ (s : State), (s.tm.ppsHigh = true → exec .ppsPulseEnd s = .next (({ s with tm := { s.tm with ppsHigh := false } } : State).send (.pin 5 0 0))) ∧
    (s.tm.ppsHigh = false → exec .ppsPulseEnd s = .next s)) ∧
  (∀ (s : State) (m : Fin 2), (s.rd (EN_CFG.PTP_MODE m) ≠ 1 ∨ s.rd (EN_STAT.LINK m) = 0) →
    exec (.gptpSyncTimer m) s = .next s ∧ exec (.pdelayTimer m) s = .next s) ∧
  (∀ (s : State) (m : Fin 2), s.rd (EN_CFG.PTP_MODE m) = 1 → s.rd (EN_STAT.LINK m) ≠ 0 →
    (s.rd TM_SRC.SRC ≠ m.val + 1 → exec (.gptpSyncTimer m) s =
      .next ((s.gptpSend m 0 (s.mac m).seqSync).modMac m fun x => { x with seqSync := (x.seqSync + 1) % 65536 })) ∧
    exec (.pdelayTimer m) s =
      .next ((s.gptpSend m 2 (s.mac m).seqDelay).modMac m fun x => { x with seqDelay := (x.seqDelay + 1) % 65536 }))

/-- CAPTURE_FRAME_START turns the frames (the one before is complete, a due refresh is armed and, with no extraction running, begins with FORMAT), stores the
frame with its signatures into the copy that is not being extracted and counts SKIP when it overwrites one that waits; a pipe in another mode, or a format the
hub does not take, is ignored. TILE_EXTRACT with nothing to extract changes nothing; a protected frame on a link that is not encrypted sends FORMAT with
MUTE, raises HDCP_FAIL and stops; else a row of tiles of the copy goes out, after the last one FRAME_END. REFRESH_PERIOD with FULL_PERIOD not 0, and
REFRESH_REQ, make a refresh of a capture pipe due; in PUSH mode REFRESH_REQ is an event. CAPTURE_NO_FRAME sends FORMAT with MUTE. HPD_LOW_END with no EDID
waiting changes nothing, and raises HPD with the one that waits. HPD_HOLD_EXPIRE changes nothing unless HPD is held. SINK_STATUS is kept; SINK_EDID is
ignored by a sink pipe, and its last missing block presents the EDID. HDCP_TOPO goes out with DEPTH one greater. PUSH_RECORD_SEND with HEAD at TAIL or a
closed tunnel changes nothing, else it reads the slot: a bad record is skipped with PUSH_ERR, a good one is dispatched and HEAD advances once it is queued.
(R203, R206, R207, R208, R209, R210, R221, R222; a format the hub does not take: assumption row 154) -/
def Obligations.CaptureAndPushSources : Prop :=
  (∀ (s : State) (d : Fin 4) (f : DispFormat) (l : List (List Byte)), (s.dsMode d ≠ 1 ∨ s.mcReady = false ∨ formatOk f = false) →
    exec (.captureFrameStart d f l) s = .next s) ∧
  (∀ (s : State) (d : Fin 4) (f : DispFormat) (l : List (List Byte)), s.dsMode d = 1 → s.mcReady = true → formatOk f = true →
    let u := s.captureTurn d
    let x := u.pipe d
    let c := x.target
    exec (.captureFrameStart d f l) s = .next (((((if x.fresh = some c then u.satAdd (DS_FRAME.SKIP d) 1 else u).storeFrame d c l).wr (DS_STAT.DSC d) f.comp.toNat)).modPipe d
      fun y => { y with
        src := { f with mute := false }, frameNo := (x.frameNo + 1) % 65536, fresh := some c, cur := some c
        copies := Tab.put {} y.copies c { frame := (x.frameNo + 1) % 65536, fmt := { f with mute := false }, sigs := l.map crc32c }
        last := if y.last = some c then (if (Tab.get {} y.copies (1 - c)).frame = 0 then none else some (1 - c)) else y.last
        due := y.due || !sameShape { f with mute := false } x.src })) ∧
  (∀ (s : State) (d : Fin 4),
    let x := s.pipe d
    let last := if x.cur.isSome then x.cur else x.last
    let u := s.setPipe d { x with
      last := last, cur := none, armed := x.armed || (x.due && last.isSome), due := x.due && last.isNone }
    (∀ e, x.extract = some e → s.captureTurn d = u ∧ ((s.captureTurn d).pipe d).target = 1 - e.copy) ∧
    (∀ c, x.extract = none → last = some c → (x.armed = true ∨ x.due = true) →
      s.captureTurn d = (u.extractCopy d c true).dispSend d (formatRec (Tab.get {} x.copies c).fmt))) ∧
  (∀ (s : State) (d : Fin 4), (s.dsMode d ≠ 1 ∨ s.mcReady = false ∨
      ((s.pipe d).extract = none ∧ ((s.pipe d).armed = false ∨ (s.pipe d).last = none) ∧ (s.pipe d).fresh = none)) →
    exec (.tileExtract d) s = .next s) ∧
  (∀ (s : State) (d : Fin 4) (e : Extract), s.dsMode d = 1 → s.mcReady = true → (s.pipe d).extract = some e →
    let f := (Tab.get {} (s.pipe d).copies e.copy).fmt
    let t := (List.range (tilesX f)).foldl (fun t i => t.extractTile d e i) s
    (f.prot = true → s.srcEncrypted d = false → exec (.tileExtract d) s =
      .next (((s.sendMute d).raise (Ev.DS_HDCP_FAIL d)).modPipe d fun y => { y with extract := none, armed := y.armed || e.refresh })) ∧
    ((f.prot = false ∨ s.srcEncrypted d = true) → e.row + 1 < tilesY f →
      exec (.tileExtract d) s = .next (t.modPipe d fun y => { y with extract := y.extract.map fun z => { z with row := z.row + 1 } })) ∧
    ((f.prot = false ∨ s.srcEncrypted d = true) → tilesY f ≤ e.row + 1 →
      exec (.tileExtract d) s = .next (((t.dispSend d (frameEndRec e.refresh f.prot e.frame (((t.pipe d).extract.map Extract.sent).getD 0))).modPipe d fun y =>
        { y with extract := none }).wr (DS_FRAME.FRAME d) e.frame))) ∧
  (∀ (s : State) (d : Fin 4), s.dsMode d = 1 →
    (s.rd (DS_TILE_CFG.FULL_PERIOD d) ≠ 0 → exec (.refreshPeriod d) s = .next (s.modPipe d fun x => { x with due := true })) ∧
    (s.rd (DS_TILE_CFG.FULL_PERIOD d) = 0 → exec (.refreshPeriod d) s = .next s) ∧
    (∀ r n, exec (.refreshReq d r n) s = .next (s.modPipe d fun x => { x with due := true })) ∧
    exec (.captureNoFrame d) s = .next (s.dispSend d (formatRec { (s.pipe d).src with mute := true }))) ∧
  (∀ (s : State) (d : Fin 4), s.dsMode d = 2 → ∀ r n, exec (.refreshReq d r n) s = .next (s.raise (Ev.DS_REFRESH_REQ d))) ∧
  (∀ (s : State) (d : Fin 4), (s.pipe d).edidNext = none → exec (.hpdLowEnd d) s = .next s) ∧
  (∀ (s : State) (d : Fin 4) (b : List Byte) (e : List (List Byte)), (s.pipe d).edidNext = some (b :: e) →
    exec (.hpdLowEnd d) s = .next (((s.modPipe d fun x => { x with edid := b :: e, edidNext := none }).wr (DS_STAT.HPD d) 1).send (.pin 1 d 1))) ∧
  (∀ (s : State) (d : Fin 4), (s.pipe d).hold = false → exec (.hpdHoldExpire d) s = .next s) ∧
  (∀ (s : State) (d : Fin 4), (s.pipe d).hold = true → exec (.hpdHoldExpire d) s =
    .next (((s.modPipe d fun x => { x with hold := false, edidIn := [], edidNext := some (Tab.get [] s.img.edid d) }).wr (DS_STAT.HPD d) 0).send (.pin 1 d 0))) ∧
  (∀ (s : State) (d : Fin 4) (k : Fin 16) (n : Fin 65536) (r : BitVec 32),
    exec (.sinkStatus d k n r) s = .next (s.modPipe d fun x => { x with sinkStatus := be 1 k ++ be 2 n ++ be 4 r.toNat })) ∧
  (∀ (s : State) (d : Fin 4) (i n : Fin 256) (b : List Byte), s.dsMode d ≠ 1 → s.dsMode d ≠ 2 → exec (.sinkEdid d i n b) s = .next s) ∧
  (∀ (s : State) (d : Fin 4) (b : List Byte), s.dsMode d = 1 →
    exec (.sinkEdid d 0 1 b) s = .next ((s.modPipe d fun x => { x with edidIn := [] }).presentEdid d [b.take 128])) ∧
  (∀ (s : State) (d : Fin 4) (n : Fin 256) (l : List Byte), s.rd (DS_CFG.HDCP_EN d) ≠ 0 → n.val ≤ 31 → l.length ≤ 155 →
    ∃ t : State, exec (.hdcpTopo d 1 n false false l) s = .next t ∧ t.out = s.out ++ [.bus 3 d 1 (be 1 2 ++ be 1 n ++ be 1 0 ++ l)] ∧ t.regs = s.regs) ∧
  (∀ (s : State) (d : Fin 4), s.rd (DS_PUSH_HEAD.HEAD d) = s.rd (DS_PUSH_TAIL.TAIL d) → exec (.pushRecordSend d) s = .next s) ∧
  (∀ (s : State) (d : Fin 4) (a : Nat), s.pipeAdapter d = some a → s.tunnelOpen a = false → exec (.pushRecordSend d) s = .next s) ∧
  (∀ (s : State) (d : Fin 4) (a : Nat), s.dsMode d = 2 → s.mcReady = true → s.rd (DS_PUSH_SIZE.SLOTS d) ≠ 0 →
    s.rd (DS_PUSH_HEAD.HEAD d) ≠ s.rd (DS_PUSH_TAIL.TAIL d) → s.pipeAdapter d = some a → (s.adp a).stopped = false → (s.adp a).accepted = [] →
    s.tunnelOpen a = true →
    let head := s.rd (DS_PUSH_HEAD.HEAD d)
    let next := (head + 1) % s.rd (DS_PUSH_SIZE.SLOTS d)
    let m := s.dmaRead d (s.rd (DS_PUSH_BASE.BASE d) * 16384 + head * 16384) 16384
    (pushLen (s.pipe d).src m.1 = none → exec (.pushRecordSend d) s = .next ((m.2.raise (Ev.DS_PUSH_ERR d)).wr (DS_PUSH_HEAD.HEAD d) next)) ∧
    (∀ n, pushLen (s.pipe d).src m.1 = some n →
      let r := m.1.take n
      let t := ((m.2.countRd r.length).dispSend d (pushBytes r)).dispatch a
      (t.rd (TA_SEQ.TX_SEQ a) ≠ m.2.rd (TA_SEQ.TX_SEQ a) → exec (.pushRecordSend d) s = .next ((t.pushTrace d r).wr (DS_PUSH_HEAD.HEAD d) next)) ∧
      (t.rd (TA_SEQ.TX_SEQ a) = m.2.rd (TA_SEQ.TX_SEQ a) → exec (.pushRecordSend d) s = .next (t.modAdp a fun x => { x with accepted := [] }))))

/-- TILE_RECORD at a pipe that is no ready sink, or the odd pipe of a pair, changes nothing; before any FORMAT, before the current one, or a tile that does not
fit its frame or the region, is not written and only its FRAME is noted; a protected tile that the link or session does not allow mutes the frame and raises
HDCP_FAIL; else it is stored. FRAME_END before the current FORMAT changes nothing; else the pending tiles are gathered for the next blank, or commit at once
in one; a missing record raises MISSING and asks for a refresh with REASON 0 and the tiles commit nevertheless. A FORMAT that differs in FMT, WIDTH, HEIGHT
or MUTE discards pending tiles, marks all invalid and asks with REASON 1; one too big for the region is muted with FMT_MISMATCH. A request is repeated while it
stands; COMMIT_TMO gathers pending tiles for the next blank, a commit after which REASON 3 is asked. SINK_STATUS_TIMER reports only for a sink. (R211, R212,
R213, R214, R223; a format the hub does not take: assumption row 154; the odd pipe of a pair: row 32) -/
def Obligations.SinkRecordsAndCommits : Prop :=
  (∀ (s : State) (d : Fin 4) (r : List Byte) (e : Bool), (s.dsMode d ≠ 3 ∨ s.mcReady = false ∨ s.oddOfPair d = true) → exec (.tileRecord d r e) s = .next s) ∧
  (∀ (s : State) (d : Fin 4) (r : List Byte) (e : Bool), s.dsMode d = 3 → s.mcReady = true → s.oddOfPair d = false →
    let u := s.modPipe d fun y => { y with seen := some (y.latest (beAt r 2 2)) }
    ((s.pipe d).format = none → exec (.tileRecord d r e) s = .next u) ∧
    (∀ f, (s.pipe d).format = some f →
      ((s.pipe d).stale (beAt r 2 2) = true ∨ tileFits f r = false ∨ u.rd (DS_FS_SIZE.TILES d) ≤ byteAt r 5 * tilesX f + byteAt r 4) →
      exec (.tileRecord d r e) s = .next u) ∧
    (∀ f, (s.pipe d).format = some f → (s.pipe d).stale (beAt r 2 2) = false → tileFits f r = true →
      byteAt r 5 * tilesX f + byteAt r 4 < u.rd (DS_FS_SIZE.TILES d) →
      (bitOf (byteAt r 1) 1 = true → u.protOk d e (bitOf (byteAt r 1) 2) = false →
        exec (.tileRecord d r e) s = .next ((u.modPipe d fun y => { y with muteFrame := true }).raise (Ev.DS_HDCP_FAIL d))) ∧
      ((bitOf (byteAt r 1) 1 = false ∨ u.protOk d e (bitOf (byteAt r 1) 2) = true) → exec (.tileRecord d r e) s = .next (u.storeTile d f r)))) ∧
  (∀ (s : State) (d : Fin 4) (k : Bool) (n m : Fin 65536), (s.dsMode d ≠ 3 ∨ s.mcReady = false ∨ s.oddOfPair d = true ∨ (s.pipe d).stale n = true) →
    exec (.frameEnd d k n m) s = .next s) ∧
  (∀ (s : State) (d : Fin 4) (k : Bool) (n m : Fin 65536), s.dsMode d = 3 → s.mcReady = true → s.oddOfPair d = false → (s.pipe d).stale n = false →
    let u := s.modPipe d fun y => { y with recv := Tab.put 0 y.recv n 0, seen := some (y.latest n) }
    let v := (u.raise (Ev.DS_MISSING d)).askRefresh d 0
    (m.val ≤ Tab.get 0 (s.pipe d).recv n → u.on (DS_CFG.TEAR d) = false →
      exec (.frameEnd d k n m) s = .next ((u.gather d { frame := n, full := k, clean := k }).tryCommit d)) ∧
    (Tab.get 0 (s.pipe d).recv n < m.val → v.on (DS_CFG.TEAR d) = false →
      exec (.frameEnd d k n m) s = .next ((v.gather d { frame := n, full := k }).tryCommit d)) ∧
    (Tab.get 0 (s.pipe d).recv n < m.val → v.on (DS_CFG.TEAR d) = true → exec (.frameEnd d k n m) s = .next v) ∧
    (m.val ≤ Tab.get 0 (s.pipe d).recv n → u.on (DS_CFG.TEAR d) = true →
      exec (.frameEnd d true n m) s = .next (u.modPipe d fun y => { y with refreshReq := none }) ∧ exec (.frameEnd d false n m) s = .next u)) ∧
  (∀ (s : State) (d : Fin 4) (c : TileCommit),
    ((s.pipe d).commit = none → s.gather d c = s.setPipe d { s.pipe d with
      pending := [], pendDamage := [], commit := some { c with
        damage := (s.pipe d).pendDamage, tiles := (s.pipe d).pending } }) ∧
    ((s.pipe d).commit = some c → s.commitNow d = true → s.tryCommit d = s.commitTiles d c) ∧
    (((s.pipe d).commit = none ∨ s.commitNow d = false) → s.tryCommit d = s)) ∧
  (∀ (s : State) (d : Fin 4) (f : DispFormat), (s.dsMode d ≠ 3 ∨ s.mcReady = false ∨ s.oddOfPair d = true ∨ formatOk f = false) →
    exec (.format d f) s = .next s) ∧
  (∀ (s : State) (d : Fin 4) (f : DispFormat), s.dsMode d = 3 → s.mcReady = true → s.oddOfPair d = false → formatOk f = true →
    tilesX f * tilesY f ≤ s.rd (DS_FS_SIZE.TILES d) → f.width = s.rd (DS_TIMING_H.ACTIVE d) → f.height = s.rd (DS_TIMING_V.ACTIVE d) →
    (∀ g, (s.pipe d).format = some g → g.fmt = f.fmt → g.width = f.width → g.height = f.height → g.mute = f.mute →
      exec (.format d f) s = .next (s.modPipe d fun y => { y with format := some f })) ∧
    ((s.pipe d).format = none → exec (.format d f) s = .next ((s.modPipe d fun y => { y with format := some f }).startFormat d)) ∧
    ((s.pipe d).format = none → s.rd (DS_CFG.PAIR d) = 0 → (s.pipe d).trained = false →
      exec (.format d f) s = .next (((s.modPipe d fun y => { y with format := some f }).modPipe d fun y =>
        { y with pending := [], pendDamage := [], valid := [], recv := [], commit := none, fmtFrame := y.seen }).askRefresh d 1))) ∧
  (∀ (s : State) (d : Fin 4) (f : DispFormat), s.dsMode d = 3 → s.mcReady = true → s.oddOfPair d = false → formatOk f = true →
    s.rd (DS_FS_SIZE.TILES d) < tilesX f * tilesY f → (s.pipe d).format = none →
    exec (.format d f) s = .next (((s.raise (Ev.DS_FMT_MISMATCH d)).modPipe d fun y => { y with format := some { f with mute := true } }).startFormat d)) ∧
  (∀ (s : State) (d : Fin 4), (s.pipe d).refreshReq = none → exec (.refreshReqRepeat d) s = .next s) ∧
  (∀ (s : State) (d : Fin 4) (r : Nat), (s.pipe d).refreshReq = some r → exec (.refreshReqRepeat d) s = .next (s.askRefresh d r)) ∧
  (∀ (s : State) (d : Fin 4), (s.dsMode d = 3 → s.oddOfPair d = false → exec (.sinkStatusTimer d) s = .next (s.sendSinkStatus d)) ∧
    ((s.dsMode d ≠ 3 ∨ s.oddOfPair d = true) → exec (.sinkStatusTimer d) s = .next s)) ∧
  (∀ (s : State) (d : Fin 4), (s.pipe d).pending = [] → exec (.commitTmo d) s = .next s) ∧
  (∀ (s : State) (d : Fin 4), (s.pipe d).pending ≠ [] →
    exec (.commitTmo d) s = .next (s.gather d { frame := (s.pipe d).seen.getD 0, tmo := true }))

/-- SCANOUT_FRAME_START of the odd pipe of a pair changes nothing, and before the link has trained it only begins a frame that is not muted; a frame without
damage writes its signature, clears the marks of the frame and counts as quiet when nothing was committed; K damaged frames of one signature raise FREEZE.
VBLANK_START takes a waiting commit; with low refresh off it only notes the blank, else after N quiet frames the blank stretches. STRETCH_END outside a
stretched blank changes nothing. UNDERRUN is an event only while scanning out, and its frame has the signature of what was sent. DP_LOSS takes the link
down, reports and raises its event; HPD_RETURN stores the EDID, sends another one on and trains again. DP_LINK_TRAINED of a mode that does not fit raises
MODE_FAIL with STATE 1, of one that fits it shows the pipe and reports; under self-test it is ignored. Relay input stopping mutes a relay pipe and raises DP_LOSS.
HDCP_SESSION_AUTH with HDCP off changes nothing. MC_READY with a failed enabled channel shows it and leaves READY; with none failed READY rises. (R199,
R212, R215, R217, R219, R220, R221, R225, R229) -/
def Obligations.ScanOutLinksAndFrameMemory : Prop :=
  (∀ (s : State) (d : Fin 4), s.oddOfPair d = true → exec (.scanoutFrameStart d) s = .next s) ∧
  (∀ (s : State) (d : Fin 4), s.oddOfPair d = false → s.panelPipes d = [d.val] → s.rd (DS_STAT.STATE d) < 2 →
    exec (.scanoutFrameStart d) s = .next (s.modPipe d fun y => { y with muteFrame := false })) ∧
  (∀ (s : State) (d : Fin 4), s.oddOfPair d = false → s.panelPipes d = [d.val] → 2 ≤ s.rd (DS_STAT.STATE d) → (s.dsMode d = 3 ∨ s.dsMode d = 4) →
    let u := s.modPipe d fun y => { y with late := [] }
    let v : Nat → Nat → State := fun suspects quiet => ((u.scanRead d).wr (DS_SIG.SIG d) (u.frameSig d)).modPipe d fun y =>
      { y with suspects := suspects, quietFrames := quiet, committed := false, damage := false, blank := none }
    ((s.pipe d).damage = false → (s.pipe d).committed = false →
      exec (.scanoutFrameStart d) s = .next ((v (s.pipe d).suspects ((s.pipe d).quietFrames + 1)).modPipe d fun y => { y with muteFrame := false })) ∧
    ((s.pipe d).damage = true → (s.pipe d).committed = true → u.frameSig d ≠ u.rd (DS_SIG.SIG d) →
      exec (.scanoutFrameStart d) s = .next ((v 0 0).modPipe d fun y => { y with muteFrame := false })) ∧
    ((s.pipe d).damage = true → (s.pipe d).committed = true → u.frameSig d = u.rd (DS_SIG.SIG d) →
      ((u.scanRead d).wr (DS_SIG.SIG d) (u.frameSig d)).rd (DS_LOWREF.K d) ≤ (s.pipe d).suspects + 1 →
      exec (.scanoutFrameStart d) s =
        .next ((((v 0 0).raise (Ev.DS_FREEZE d)).sendSinkStatus (((v 0 0).raise (Ev.DS_FREEZE d)).pairBase d)).modPipe d fun y => { y with muteFrame := false }))) ∧
  (∀ (s : State) (d : Fin 4) (n : Fin 65536), (s.dsMode d = 3 ∨ s.dsMode d = 4) → s.oddOfPair d = false →
    let u := s.setBlank d n false
    (∀ c, (u.pipe d).commit = some c → exec (.vblankStart d n) s = .next ((u.commitTiles d c).stretch d n)) ∧
    ((u.pipe d).commit = none → u.rd (DS_CFG.LOWREF_EN d) = 0 → exec (.vblankStart d n) s = .next u) ∧
    ((u.pipe d).commit = none → u.dsMode d = 3 → u.rd (DS_CFG.LOWREF_EN d) ≠ 0 → (u.pipe d).adaptive = true → u.rd (DS_LOWREF.N d) ≤ (u.pipe d).quietFrames →
      u.rd (DS_STAT.LOW d) = 0 →
      exec (.vblankStart d n) s = .next (((u.setBlank d n true).eachIn (u.panelPipes d) fun k t => t.wr (DS_STAT.LOW k) 1).sendSinkStatus d))) ∧
  (∀ (s : State) (d : Fin 4), (s.pipe d).blank = none → exec (.stretchEnd d) s = .next s) ∧
  (∀ (s : State) (d : Fin 4) (n : Nat), (s.pipe d).blank = some (n, true) → exec (.stretchEnd d) s = .next (s.scanFrame d)) ∧
  (∀ (s : State) (d : Fin 4) (y x : Fin 65536), let u := s.modPipe d fun p => { p with late := p.late ++ [(y.val, x.val)] }
    (s.rd (DS_STAT.STATE d) = 3 → exec (.underrun ⟨d, y, x⟩) s = .next ((u.wr (DS_SIG.SIG d) (u.frameSig d)).raise (Ev.DS_UNDERRUN d))) ∧
    (s.rd (DS_STAT.STATE d) ≠ 3 → exec (.underrun ⟨d, y, x⟩) s = .next s)) ∧
  (∀ (s : State) (d : Fin 4), (s.dsMode d = 3 ∨ s.dsMode d = 4) →
    exec (.dpLoss d) s = .next (((((s.dpDown d).wr (DS_STAT.HPD d) 0).wr (DS_STAT.LOW d) 0).wr (DS_STAT.HDCP_AUTH d) 0 |>.raise
      (Ev.DS_DP_LOSS d)).sendSinkStatus d) ∧
    ∀ e, let u := ((s.wr (DS_STAT.HPD d) 1).wr (DS_STAT.STATE d) 1).modPipe d fun x => { x with panelEdid := e, quietFrames := 0 }
      ((s.pipe d).panelEdid = e → exec (.hpdReturn d e) s = .next (u.send (.bus 3 d 2 []))) ∧
      ((s.pipe d).panelEdid ≠ e → exec (.hpdReturn d e) s = .next ((u.sendEdid d).send (.bus 3 d 2 [])))) ∧
  (∀ (s : State) (d : Fin 4) (r : Fin 8) (l : Fin 5) (m : Fin 385) (k : Bool) (n : Fin 65536), s.underTest 16 d = true →
    exec (.dpLinkTrained d r l m k n) s = .next s) ∧
  (∀ (s : State) (d : Fin 4) (r : Fin 8) (l : Fin 5) (m : Fin 385) (k : Bool) (n : Fin 65536), s.underTest 16 d = false → (s.dsMode d = 3 ∨ s.dsMode d = 4) →
    let w := ((s.wr (DS_STAT.RATE d) r).wr (DS_STAT.LANES d) l).modPipe d fun x =>
      { x with adaptive := k, panelMin := n, dscMax := m, trained := false }
    let u := (w.wr (DS_STAT.DSC d) (decide (m.val ≠ 0) && w.on (DS_DSC.ENC d)).toNat).wr (DS_STAT.HPD d) 1
    (u.dpRate d (u.rd (DS_STAT.RATE d)) (u.rd (DS_STAT.LANES d)) = none → exec (.dpLinkTrained d r l m k n) s =
      .next (((u.modPipe d fun x => { x with trained := false, outRate := 0 }).wr (DS_STAT.STATE d) 1).raise (Ev.DS_MODE_FAIL d))) ∧
    (∀ b, u.dpRate d (u.rd (DS_STAT.RATE d)) (u.rd (DS_STAT.LANES d)) = some b →
      let v := (u.modPipe d fun x => { x with trained := true, outRate := b }).wr (DS_STAT.STATE d) (u.shownState d)
      exec (.dpLinkTrained d r l m k n) s = .next (v.sendSinkStatus (v.pairBase d)))) ∧
  (∀ (s : State) (d : Fin 4) (f : DispFormat) (l : List (List Byte)), (s.dsMode d ≠ 4 ∨ s.mcReady = false ∨ formatOk f = false) →
    exec (.relayInputFrame d f l) s = .next s) ∧
  (∀ (s : State) (d : Fin 4) (f : DispFormat) (l : List (List Byte)), s.dsMode d = 4 → s.mcReady = true → formatOk f = true →
    let w := (s.storeFrame d 0 l).modPipe d fun x => { x with format := some f, live := [], valid := List.range l.length }
    let u := if f.comp then w.wr (DS_STAT.DSC d) 1 else w
    let v := (u.send (.bus 3 d 3 (be 1 (u.rd (DS_TILE_CFG.RELAY_LINES d))))).wrapAdd (DS_FRAME.FRAME d) 1
    ((v.pipe d).trained = false → exec (.relayInputFrame d f l) s = .next v) ∧
    ((v.pipe d).trained = true → exec (.relayInputFrame d f l) s = .next (v.wr (DS_STAT.STATE d) 3))) ∧
  (∀ (s : State) (d : Fin 4), s.dsMode d = 4 → s.rd (DS_STAT.STATE d) = 3 → exec (.relayInputStop d) s =
    .next (((s.modPipe d fun x => { x with format := x.format.map fun f => { f with mute := true } }).wr (DS_STAT.STATE d) 4).raise (Ev.DS_DP_LOSS d))) ∧
  (∀ (s : State) (d : Fin 4) (a b c : Bool) (x y : Fin 256) (z : Fin 4) (l : List Byte), s.rd (DS_CFG.HDCP_EN d) = 0 →
    exec (.hdcpSessionAuth d a b c x y z l) s = .next s) ∧
  (∀ (s : State) (d : Fin 4) (b : Bool) (x y : Fin 256) (z : Fin 4) (l : List Byte), s.rd (DS_CFG.HDCP_EN d) ≠ 0 →
    exec (.hdcpSessionAuth d true b false x y z l) s = .next (((s.wr (DS_STAT.HDCP_AUTH d) 1).modPipe d fun x =>
      { x with src := { x.src with type1 := false } }).send (.bus 3 d 1 (s.pipe d).topo))) ∧
  (∀ (s : State) (n : Fin 16), Nat.land n.val (s.rd MC_CFG.CH_EN) ≠ 0 →
    exec (.mcReady n) s = .next (s.wr MC_STAT.CH_FAIL (Nat.land n.val (s.rd MC_CFG.CH_EN)))) ∧
  (∀ (s : State) (n : Fin 16), Nat.land n.val (s.rd MC_CFG.CH_EN) = 0 → s.mcReady = false → (∀ d < 4, s.dsMode d = 0 ∧ s.rd (DS_STAT.STATE d) ≠ 4) →
    exec (.mcReady n) s = .next ((s.wr MC_STAT.CH_FAIL 0).wr MC_STAT.READY 1))

/-- UPSTREAM_CONNECT of a source that is not allowed, or of a hub under self-test, changes nothing; the first allowed one takes the upstream, a second is refused with UP_BUSY.
USB3_PORT_RECORD and USB2_PORT_RECORD at an adapter that carries no USB change nothing; connect and disconnect of a tunnel port show the far end.
USB_ATTACH_DEBOUNCE of a powered, unconnected port shows its connection and speeds. OVERCURRENT of a powered port 1 to 4 switches it off, shows and raises
it. SUSPEND_ENTRY needs an upstream. REMOTE_WAKE during a reset is ignored, during a resume it collides. UPSTREAM_RESUME when not suspended changes
nothing. Requests of the host to the hub write addresses, MTT, wake enable and port power, start a reset (at port 5 of the function too) or clear changes, and read descriptors. PORT_RESET_COMPLETE of a
port 1 to 5 that drives a reset enables it with its change bit. BUS_RESET returns the function to Default, reporting what it cut short. (R255, R256, R257,
R258, R259, R260, R265, R266, R268, R270, R271, R272) -/
def Obligations.UsbUpstreamPortsAndHub : Prop :=
  (∀ (s : State) (src : Fin 4) (ss : Fin 5), (s.upAllowed src = false ∨ s.underTest 19 0 = true) → exec (.upstreamConnect src ss) s = .next s) ∧
  (∀ (s : State) (src : Fin 4) (ss : Fin 5), s.upAllowed src = true → s.underTest 19 0 = false →
    let u := s.modUsb fun u => { u with offers := u.offers.filter (fun o => o.1 ≠ src.val) ++ [(src.val, ss.val)] }
    (s.rd UH_STAT.UPSRC = 0 → exec (.upstreamConnect src ss) s = .next (u.upTake src ss)) ∧
    (s.rd UH_STAT.UPSRC = src → src ≠ 0 → exec (.upstreamConnect src ss) s = .next u) ∧
    (s.rd UH_STAT.UPSRC ≠ 0 → s.rd UH_STAT.UPSRC ≠ src → src ≠ 1 → exec (.upstreamConnect src ss) s = .next (u.raise Ev.UH_UP_BUSY)) ∧
    (s.rd UH_STAT.UPSRC ≠ 0 → s.rd UH_STAT.UPSRC ≠ 1 → src = 1 → exec (.upstreamConnect src ss) s =
      .next (((u.raise Ev.UH_UP_BUSY).sendPort3 (u.raise Ev.UH_UP_BUSY).up3 1).sendPort2 ((u.raise Ev.UH_UP_BUSY).sendPort3 (u.raise Ev.UH_UP_BUSY).up3 1).up2 1))) ∧
  (∀ (s : State) (a : Fin 256), s.tportOf a = none → a.val ≠ s.up3 → ∀ e, exec (.usb3PortRecord a e) s = .next s) ∧
  (∀ (s : State) (a : Fin 256), s.tportOf a = none → a.val ≠ s.up2 → ∀ e, exec (.usb2PortRecord a e) s = .next s) ∧
  (∀ (s : State) (a : Fin 256) (k : Nat), s.tportOf a = some k →
    exec (.usb3PortRecord a 0) s = .next (s.modTport k fun t => { t with far := true }) ∧
    exec (.usb2PortRecord a 0) s = .next (s.modTport k fun t => { t with far := true }) ∧
    exec (.usb3PortRecord a 1) s = .next ((s.modTport k fun t => { t with far := false }).portGone (6 + k)) ∧
    exec (.usb2PortRecord a 1) s = .next ((s.modTport k fun t => { t with far := false }).portGone (6 + k)) ∧
    exec (.usb3PortRecord a 4) s = .next (s.wr (UH_PORT.U_STATE (6 + k)) 3) ∧
    exec (.usb2PortRecord a 8) s = .next (s.wr (UH_PORT.L1 (6 + k)) 0)) ∧
  (∀ (s : State) (a : Fin 256), s.tportOf a = none → a.val ≠ 0 → (s.rd UH_STAT.UPSRC = 0 ∨ s.rd UH_STAT.UPSRC = 1) →
    (a.val = s.up3 → exec (.usb3PortRecord a 4) s = .next (s.wr UH_STAT.SUSPENDED 1)) ∧
    (a.val = s.up2 → exec (.usb2PortRecord a 0) s = .next (s.upConnect 1 0) ∧ exec (.usb2PortRecord a 1) s = .next (s.upDisconnect 1))) ∧
  (∀ (s : State) (n : Fin 12) (hs : Fin 4) (ss : Fin 5), s.rd (UH_PORT.POWER n) ≠ 0 → s.rd (UH_PORT.CONNECT n) = 0 → 1 ≤ n.val → n.val ≤ 4 →
    exec (.usbAttachDebounce n hs ss) s = .next (((((s.wr (UH_PORT.CONNECT n) 1).wr (UH_PORT.HS_SPEED n) hs).wr (UH_PORT.SS_SPEED n) ss).wr
      (UH_PORT.U_STATE n) (if (ss : Nat) = 0 then 5 else 0)).setChange n 1)) ∧
  (∀ (s : State) (n : Fin 12) (hs : Fin 4) (ss : Fin 5), (s.rd (UH_PORT.POWER n) = 0 ∨ s.rd (UH_PORT.CONNECT n) ≠ 0) →
    exec (.usbAttachDebounce n hs ss) s = .next s) ∧
  (∀ (s : State) (n : Fin 5), 1 ≤ n.val → s.rd (UH_PORT.POWER n) ≠ 0 →
    exec (.overcurrent n) s = .next ((((s.portOff n).wr (UH_PORT.OVERCURRENT n) 1).setChange n 8).raise Ev.UH_OVERCURRENT)) ∧
  (∀ (s : State), (s.rd UH_STAT.UPSRC ≠ 0 → exec .suspendEntry s = .next (s.wr UH_STAT.SUSPENDED 1)) ∧ (s.rd UH_STAT.UPSRC = 0 → exec .suspendEntry s = .next s)) ∧
  (∀ (s : State) (n : Fin 12), ((s.driven n = 1 ∨ s.driven n = 2) → exec (.remoteWake n) s = .next s) ∧
    ((s.driven n = 3 ∨ s.driven n = 4) → exec (.remoteWake n) s = .next s.collide)) ∧
  (∀ (s : State) (n : Fin 12), s.driven n = 0 → s.usb.resuming = false → s.rd UH_STAT.SUSPENDED = 0 → s.rd (UH_PORT.SUSPEND n) ≠ 0 →
    exec (.remoteWake n) s = .next (s.resumePort n)) ∧
  (∀ (s : State), s.rd UH_STAT.SUSPENDED = 0 → exec .upstreamResume s = .next s) ∧
  (∀ (s : State), s.rd UH_STAT.SUSPENDED ≠ 0 → exec .upstreamResume s =
    (let u := if s.usb.waking then s.collide else s
     let v := (u.modUsb fun w => { w with waking := false, resuming := true }).wr UH_STAT.SUSPENDED 0
     .next ((v.setDriven 0 3).each 11 fun i t =>
       if t.on (UH_PORT.CONNECT (i + 1)) ∧ ¬ t.on (UH_PORT.SUSPEND (i + 1)) ∧ i ≠ 4 then t.resumePort (i + 1) else t))) ∧
  (∀ (s : State) (n : Fin 12),
    (∀ x, exec (.hubClassRequest n (.setAddress x)) s = .next ((s.modUsb fun u => { u with hubAddr := x }).wr UH_STAT.HS_STATE 2)) ∧
    (∀ b : Bool, exec (.hubClassRequest n (.multiTt b)) s = .next (s.wr UH_STAT.MTT b.toNat)) ∧
    (∀ b : Bool, exec (.hubClassRequest n (.remoteWake b)) s = .next (s.modUsb fun u => { u with wakeEn := b })) ∧
    (n.val ≠ 0 → s.rd UH_STAT.HS_STATE = 3 → exec (.hubClassRequest n (.portPower true)) s =
      .next (((s.wr (UH_PORT.POWER n) 1).wr (UH_PORT.OVERCURRENT n) 0).upwren n 1)) ∧
    (n.val ≠ 0 → s.rd UH_STAT.HS_STATE = 3 → exec (.hubClassRequest n (.portPower false)) s = .next (s.portOff n)) ∧
    (1 ≤ n.val → n.val < 5 → s.rd (UH_PORT.CONNECT n) ≠ 0 → exec (.hubClassRequest n .portReset) s =
      .next (((s.setDriven n 1).wr (UH_PORT.ENABLE n) 0).usbWire n 1 [])) ∧
    (n.val = 5 → s.rd (UH_PORT.CONNECT n) ≠ 0 → exec (.hubClassRequest n .portReset) s =
      .next (((s.setDriven n 1).wr (UH_PORT.ENABLE n) 0).functionReset.usbWire n 1 [])) ∧
    (s.rd UH_STAT.UPSRC ≠ 0 → ∀ (d : Fin 3) (ty ix : Fin 256) (len : Fin 65536), d.val ≠ 2 →
      (∀ l, s.usbDescriptor (usbDevice d) ty ix = some l → exec (.hubClassRequest n (.getDescriptor d ty ix len)) s = .next (s.usbWire 0 13 (l.take len))) ∧
      (s.usbDescriptor (usbDevice d) ty ix = none → exec (.hubClassRequest n (.getDescriptor d ty ix len)) s = .next (s.usbWire 0 9 []))) ∧
    (s.rd (UH_PORT.CONNECT n) = 0 → exec (.hubClassRequest n .portReset) s = .next s)) ∧
  (∀ (s : State) (n : Fin 12), n.val < 6 → s.driven n = 1 → exec (.portResetComplete n) s =
    .next ((((s.setDriven n 0).wr (UH_PORT.ENABLE n) 1).wr (UH_PORT.SUSPEND n) 0).setChange n 16)) ∧
  (∀ (s : State) (n : Fin 12), 6 ≤ n.val → (s.driven n = 1 ∨ s.driven n = 2) → exec (.portResetComplete n) s = .next s) ∧
  (∀ (s : State),
    let u := fun (t : State) => (({ (t.modUsb fun u => { u with control := none, bulk := [] }) with
      cmd := { t.cmd with usbReady := false } } : State).wr UH_STAT.MGMT_ADDR 0).wr UH_STAT.MGMT_CFG 0
    (s.usb.control = none → s.usb.bulk = [] → exec .busReset s = .next (u s).hubDefault) ∧
    (∀ n l, s.usb.control = some (n, l) → l.length < n →
      exec .busReset s = .next (u ((s.raise Ev.UH_RESET_MID).raise Ev.UH_CMD_DISCARD)).hubDefault))

/-- HEADER_RECORD and DATA_RECORD leave on the port of the adapter, or change nothing when it carries none. ITP_RECORD and SOF_RECORD are scheduled for stamp
plus SOF_DELAY; their releases send the oldest, and a SOF already started is skipped. SOF_LATE with no SOF before changes nothing, else it starts the next
micro-frame 125 us later and raises the event. HOST_TOKEN at a port that is not enabled changes nothing; SETUP is forwarded and acknowledged at once; a
first token of an endpoint is answered NAK, forwarded and remembered; a repeat while its result is missing is answered NAK only; a cached result answers
it. XFER without a tunnelled upstream changes nothing; an isochronous OUT waits for the micro-frame. RESULT fills the entry that waits. (R259, R260, R261,
R262, R263, R264) -/
def Obligations.UsbPacketsAndTheProxy : Prop :=
  (∀ (s : State) (a : Fin 256), s.usbPortOf a = none → (∀ h, exec (.headerRecord a h) s = .next s) ∧ (∀ h d, exec (.dataRecord a h d) s = .next s)) ∧
  (∀ (s : State) (a : Fin 256) (n : Nat), s.usbPortOf a = some n →
    (∀ h, exec (.headerRecord a h) s = .next (s.send (.bus 1 n 0x21 (h.take 12)))) ∧
    (∀ h d, exec (.dataRecord a h d) s = .next (s.send (.bus 1 n 0x22 (h.take 12 ++ d.take 1024))))) ∧
  (∀ (s : State) (a : Fin 256) (x : BitVec 34) (l : List Byte), a.val ≠ 0 → a.val = s.up3 → exec (.itpRecord a x l) s =
    .next (s.modUsb fun u => { u with itps := u.itps ++ [(fullStamp x.toNat s.time + s.rd UH_CFG.SOF_DELAY * 1000, l.take 12)] })) ∧
  (∀ (s : State) (x : Fin 8192), s.usb.itps = [] → exec (.itpRelease x) s = .next s) ∧
  (∀ (s : State) (x : Fin 8192) (t : Nat) (l : List Byte) (rest : List (Nat × List Byte)), s.usb.itps = (t, l) :: rest → exec (.itpRelease x) s =
    .next ((s.modUsb fun u => { u with itps := rest }).send (.bus 1 0 0x23 (be 4 (x.val * 2 ^ 19 + beAt l 0 4 % 2 ^ 19) ++ l.drop 4)))) ∧
  (∀ (s : State) (x : BitVec 34) (f : Fin 2048) (m : Fin 8), (s.up2 = 0 → exec (.sofRecord x f m) s = .next s) ∧
    (s.up2 ≠ 0 → exec (.sofRecord x f m) s =
      .next (s.modUsb fun u => { u with sofs := u.sofs ++ [(f.val, m.val, fullStamp x.toNat s.time + s.rd UH_CFG.SOF_DELAY * 1000)] }))) ∧
  (∀ (s : State), s.usb.sofs = [] → exec .sofRelease s = .next s) ∧
  (∀ (s : State) (f m t t' : Nat) (rest : List (Nat × Nat × Nat)), s.usb.sofs = (f, m, t) :: rest → s.usb.sofLast = some (f, m, t') →
    exec .sofRelease s = .next (s.modUsb fun u => { u with sofs := rest })) ∧
  (∀ (s : State) (f m t : Nat) (rest : List (Nat × Nat × Nat)), s.usb.sofs = (f, m, t) :: rest → s.usb.sofLast = none →
    exec .sofRelease s = .next ((s.modUsb fun u => { u with sofs := rest }).startMicro f m t)) ∧
  (∀ (s : State), s.usb.sofLast = none → exec .sofLate s = .next s) ∧
  (∀ (s : State) (f m t : Nat), s.usb.sofLast = some (f, m, t) →
    exec .sofLate s = .next ((s.startMicro (nextMicro f m).1 (nextMicro f m).2 (t + 125000)).raise Ev.UH_SOF_LATE)) ∧
  (∀ (s : State) (k : Fin 6) (t : HostToken), s.rd (UH_PORT.ENABLE (6 + k)) = 0 → exec (.hostToken k t) s = .next s) ∧
  (∀ (s : State) (k : Fin 6), s.rd (UH_PORT.ENABLE (6 + k)) ≠ 0 →
    (∀ (f : Fin 2048) (m : Fin 8), exec (.hostToken k (.sof f m)) s = .next (s.present (s.tpAdp2 k) (be 1 0x13 ++ be 3 0 ++ be 2 f ++ be 1 m))) ∧
    (∀ (a : Fin 128) (e : Fin 16) (g i c : Bool) (d : List Byte), exec (.hostToken k (.xfer .setup a e g i c d)) s =
      .next (((s.modTport k fun t => t.seeSetup a d).send (.bus 1 (6 + k) 0x10 (be 1 pidAck ++ []))).present (s.tpAdp2 k) (xferRecord .setup a e g i d))) ∧
    (∀ (a : Fin 128) (e : Fin 16) (g c : Bool) (d : List Byte), (s.tport k).find a e false = none → exec (.hostToken k (.xfer .out a e g false c d)) s =
      .next (((s.modTport k fun t => { t with cache := t.cache ++ [{ addr := a.val, ep := e.val, isIn := false, toggle := g, pending := true }] }).present
        (s.tpAdp2 k) (xferRecord .out a e g false d)).send (.bus 1 (6 + k) 0x10 (be 1 pidNak ++ [])))) ∧
    (∀ (a : Fin 128) (e : Fin 16) (g c : Bool) (x : ProxyEntry), (s.tport k).find a e true = some x → x.result = none → x.pending = true → x.toggle = g →
      exec (.hostToken k (.xfer .in_ a e g false c [])) s = .next (s.send (.bus 1 (6 + k) 0x10 (be 1 pidNak ++ [])))) ∧
    (∀ (a : Fin 128) (e : Fin 16) (g tg : Bool) (x : ProxyEntry) (d : List Byte), (s.tport k).find a e true = some x →
      x.result = some (pidAck, tg, d) → x.toggle = g → exec (.hostToken k (.xfer .in_ a e g false true [])) s =
        .next ((s.send (.bus 1 (6 + k) 0x10 (be 1 pidAck ++ (be 1 tg.toNat ++ d)))).modTport k fun t => t.drop a e true))) ∧
  (∀ (s : State) (y : TokenKind) (a : Fin 128) (e : Fin 16) (g i r : Bool) (d z : List Byte) (p : Fin 256), s.up2 = 0 →
    exec (.xfer y a e g i d p r z) s = .next s) ∧
  (∀ (s : State) (a : Fin 128) (e : Fin 16) (g r : Bool) (d z : List Byte) (p : Fin 256), s.up2 ≠ 0 → exec (.xfer .out a e g true d p r z) s =
    .next (s.modUsb fun u => { u with isoOut := u.isoOut ++ [(a.val, xferRecord .out a e g true d)] })) ∧
  (∀ (s : State) (a : Fin 128) (e : Fin 16) (g r : Bool) (d : List Byte) (p : Fin 256), s.up2 ≠ 0 → ∃ u : State, u.regs = s.regs ∧
    u.out = s.out ++ [.bus 1 0 0x12 (xferRecord .out a e g false d)] ∧
    exec (.xfer .out a e g false d p r []) s = .next (u.present u.up2 (resultRecord p a e false r []))) ∧
  (∀ (s : State) (k : Fin 6) (p : Fin 256) (a : Fin 128) (e : Fin 16) (g : Bool) (d : List Byte),
    exec (.result k p a e false g d) s = .next (s.modTport k fun t => ({ t with cache := t.cache.map fun y =>
      if y.addr = a.val ∧ y.ep = e.val ∧ y.isIn = false ∧ y.pending then { y with pending := false, result := some (p.val, g, d) } else y } :
        TunnelPortSt).seeResult a e false p d))

/-- CC_ATTACH_DEBOUNCE of an attached port changes nothing; a source that finds a sink shows roles and orientation, ends LSTATE 5, takes the PD_CFG fields of this attachment,
regulates 5 V, closes F(p), recomputes the budget and is wake source 6 + p. SOURCE_CAP_TIMER sends the capabilities of a new source at most 51 times; then a
peer port has no partner for its mode. A REQUEST that an offered object can meet is accepted and its transition starts;
one that asks too much is rejected. At its end TRANSITION_DONE says PS_RDY and shows the contract; at a sink PS_RDY does. SINK_CAPABILITIES keeps what the
partner wants and recomputes the budget of a source. A PPS time-out, an EPR keep-alive time-out and a cut not answered send Hard Reset; the sink's timers
repeat its Request or keep-alive. EPR_MODE Enter that is not possible is refused. HARD_RESET of an attached source opens F(p), stops its regulator and discharges; a sink waits anew. VCONN_OC and
VBUS_RANGE_FAULT report. SOURCE_RECOVER closes F(p) again. DETACH of an empty port changes nothing, of an attached one empties it and is wake source 6 + p. (R83, R302, R303, R304, R305, R306, R307, R309, R310, R314, R318,
R319) -/
def Obligations.PdAttachContractsAndFaults : Prop :=
  (∀ (s : State) (p : Fin 6) (x y z : Bool), s.attached p = true → exec (.ccAttachDebounce p x y z) s = .next s) ∧
  (∀ (s : State) (p : Fin 6) (c : Bool), s.tablesActive = true → s.attached p = false → s.pstate p ≠ 10 → s.channelReady p = true →
    s.rd (PD_CFG.ROLE p) ≠ 1 → exec (.ccAttachDebounce p true c false) s =
    (let v := ((((s.wr (PD_STAT.ATTACHED p) 1).wr (PD_STAT.PWR_ROLE p) 1).wr (PD_STAT.DATA_ROLE p) 1).wr (PD_STAT.ORIENT p) c.toNat).setPstate p 2
     let u := if v.lstate p = 5 then v.wr (CL_STAT.LSTATE p) 0 else v
     let w := ((({ u with pds := Tab.put {} u.pds p { ra := false, leftSink := false, cable := 1, cfg := some (u.reg (PD_CFG p)) } } : State).regulate p 250
       300).closeChannel p 0).budget
     .next (w.wakesIf (6 + p) (w.attached p)))) ∧
  (∀ (s : State) (p : Fin 6), s.attached p = true → s.isSource p = true → s.contract p = false → s.pstate p = 3 →
    ((s.pd p).capsSent < 51 → exec (.sourceCapTimer p) s =
      .next (((s.modPd p fun x => { x with capsSent := x.capsSent + 1 }).sendCaps p).setPstate p 3)) ∧
    (51 ≤ (s.pd p).capsSent → exec (.sourceCapTimer p) s = .next (if s.peerPort p then s.modeMissing p else s))) ∧
  (∀ (s : State) (p : Fin 6) (caps : List (BitVec 32)) (e r : Bool), s.attached p = false → exec (.sourceCapabilities p caps e r) s = .next s) ∧
  (∀ (s : State) (p : Fin 6) (w : BitVec 32) (e r : Bool), s.attached p = true → s.isSource p = false → exec (.sourceCapabilities p [w] e r) s =
    (let u := (s.modPd p fun x => { x with rev2 := r }).modPd p fun x => { x with eprPartner := e, asked := none }
     let c := u.sinkChoice p [w.toNat]
     .next (((u.sendRequest p c.1 c.2.1 c.2.2 false).setPstate p 3).pdAnswer p stOk [1]))) ∧
  (∀ (s : State) (p : Fin 6) (pos : Fin 16) (v : Fin 4096) (c : Fin 1024) (r : Bool), s.attached p = true → s.isSource p = true → s.contract p = false →
    let u := s.modPd p fun x => { x with rev2 := r }
    (∀ w v' i pps, ((s.pd p).offered.find? fun o => decide (o.1 = pos.val)) = some (pos.val, w) → requestFits w v c = some (v', i, pps) →
      exec (.request p pos v c r) s = .next ((((u.modPd p fun x => { x with next := some (v', i, pos.val, pps), step := some (250, v'), cut := false }).pdSend p
        .accept).regulate p v' (regLimit w i pps)).setPstate p 5)) ∧
    (∀ w, ((s.pd p).offered.find? fun o => decide (o.1 = pos.val)) = some (pos.val, w) → requestFits w v c = none →
      exec (.request p pos v c r) s = .next (u.pdSend p .reject))) ∧
  (∀ (s : State) (p : Fin 6) (v i pos : Nat) (k : Bool), s.attached p = true → (s.pd p).frs = 0 → (s.pd p).swap = none → (s.pd p).next = some (v, i, pos, k) →
    (s.isSource p = true → s.pstate p = 5 →
      exec (.transitionDone p) s = .next ((((s.pdSend p .psRdy).contractMade p v i pos k).pdAnswer p stOk [2]).serveDeferred p)) ∧
    (s.isSource p = false → exec (.psRdy p) s = .next ((s.contractMade p v i pos k).serveDeferred p))) ∧
  (∀ (s : State) (p : Fin 6), s.attached p = false → exec (.transitionDone p) s = .next s ∧ exec (.psRdy p) s = .next s) ∧
  (∀ (s : State) (p : Fin 6) (caps : List (BitVec 32)) (e r : Bool) (f : Fin 4), s.attached p = true → s.isSource p = true →
    ∃ g : PdSt → PdSt, (∀ x, (g x).want = some (((caps.map BitVec.toNat).map pdoPower).foldl max 0) ∧ (g x).frsAsk = f ∧ (g x).rev2 = x.rev2 ∧
        (g x).offered = x.offered) ∧
      exec (.sinkCapabilities p caps e r f) s = .next (((s.modPd p fun x => { x with rev2 := r }).modPd p g).budget)) ∧
  (∀ (s : State) (p : Fin 6), s.rd (PD_STAT.PPS p) ≠ 0 →
    (s.isSource p = true → exec (.ppsRequestTimeout p) s = .next (s.sendHardReset p) ∧ exec (.ppsRequestTimer p) s = .next s) ∧
    (s.isSource p = false → exec (.ppsRequestTimer p) s =
      .next (s.sendRequest p (s.rd (PD_CONTRACT.POS p)) (s.rd (PD_CONTRACT.VOLT p)) (s.rd (PD_CONTRACT.CURR p)) true))) ∧
  (∀ (s : State) (p : Fin 6) (v : Fin 65536) (k : Bool), s.attached p = true → s.isSource p = true →
    (s.rd (PD_STAT.PPS p) ≠ 0 → exec (.getPpsStatus p v k) s = .next (s.pdSend p .ppsStatus [v.val, k.toNat])) ∧
    (s.rd (PD_STAT.PPS p) = 0 → exec (.getPpsStatus p v k) s = .next (s.pdSend p .notSupported))) ∧
  (∀ (s : State) (p : Fin 6), s.attached p = true → s.rd (PD_CFG.EPR_EN p) = 0 → exec (.eprMode p 0) s = .next (s.pdSend p .eprEnterFailed)) ∧
  (∀ (s : State) (p : Fin 6), s.attached p = true → s.isSource p = true → s.contract p = true → s.rd (PD_CFG.EPR_EN p) ≠ 0 → (s.pd p).cableEpr = true →
    (s.pd p).amps5 = true → (s.pd p).eprPartner = true → (s.pd p).rev2 = false → (s.pd p).frs = 0 → s.eprOffer p ≠ [] →
    exec (.eprMode p 0) s = .next (((s.pdSend p .eprEntered).wr (PD_STAT.EPR p) 1).sendCaps p)) ∧
  (∀ (s : State) (p : Fin 6), s.attached p = true → (s.pd p).asked = some .eprEnter →
    let u := s.modPd p fun x => { x with asked := none }
    exec (.eprMode p 1) s = .next ((u.wr (PD_STAT.EPR p) 1).pdAnswer p stOk [0x0A]) ∧ exec (.eprMode p 2) s = .next (u.pdAnswer p stDenied [0x0A])) ∧
  (∀ (s : State) (p : Fin 6), s.attached p = true → s.isSource p = false → exec (.eprMode p 3) s = .next (s.wr (PD_STAT.EPR p) 0)) ∧
  (∀ (s : State) (p : Fin 6), s.rd (PD_STAT.EPR p) ≠ 0 →
    (s.isSource p = true → exec (.eprKeepalive p) s = .next (s.pdSend p .eprKeepAliveAck) ∧ exec (.eprKeepaliveTimeout p) s = .next (s.sendHardReset p)) ∧
    (s.isSource p = false → exec (.eprKeepaliveTimer p) s = .next (s.pdSend p .eprKeepAlive))) ∧
  (∀ (s : State) (p : Fin 6), ((s.pd p).cut = true → exec (.capsCutTimeout p) s = .next (s.sendHardReset p)) ∧
    ((s.pd p).cut = false → exec (.capsCutTimeout p) s = .next s)) ∧
  (∀ (s : State) (p : Fin 6), s.attached p = true →
    let u := ((((s.raise (Ev.PD_HARD_RESET p)).endContract p).leaveMode p).finish (fun w => match w with
      | .pd q a => decide (q = p.val ∧ a ≠ 0)
      | _ => false) stAborted 0 []).modPd p fun x => { x with partnerTl := false, dropped := none, tries := 0, want := none, frsHeld := 0 }
    (u.isSource p = true → exec (.hardReset p) s = .next (((((u.openChannel p).stopReg p).discharge p 1).setPstate p 8).c0Check p)) ∧
    (u.isSource p = false → exec (.hardReset p) s = .next (((u.setPstate p 2).pdAnswer p stOk []).c0Check p))) ∧
  (∀ (s : State) (p : Fin 6), s.pstate p = 8 → s.attached p = true → s.isSource p = true → exec (.sourceRecover p) s =
    .next ((((((s.discharge p 0).regulate p 250 300).closeChannel p 0).setPstate p 2).pdAnswer p stOk []).budget)) ∧
  (∀ (s : State) (p : Fin 6), s.rd (PD_STAT.VCONN p) ≠ 0 → exec (.vconnOc p) s = .next (((s.setVconn p 0).modPd p fun x =>
    { x with vconnLost := true, cable := if x.cable = 0 then 1 else x.cable }).raise (Ev.PD_VCONN_OC p))) ∧
  (∀ (s : State) (p : Fin 6), s.attached p = true → s.contract p = true → (s.pd p).step = none →
    exec (.vbusRangeFault p) s = .next ((s.raise (Ev.PD_VBUS_FAULT p)).sendHardReset p)) ∧
  (∀ (s : State) (p : Fin 6), s.attached p = false → exec (.detach p) s = .next s) ∧
  (∀ (s : State) (p : Fin 6), s.attached p = true → s.isSource p = false → (s.pd p).step = none → (s.pd p).frs = 0 → exec (.detach p) s =
    .next (((((s.portEmpty p).setPstate p 0).wr (PD_STAT.DEAD_BATT p) 0).budget).wakesIf (6 + p) true))

/-- A PR_SWAP, DR_SWAP or VCONN_SWAP without a contract changes nothing; one that the image does not accept is rejected; an accepted DR_SWAP exchanges the data
role, and one while a mode is active sends Hard Reset. A source with a swap of its own in progress keeps the partner's request and serves it when that has
ended. A request of the source discards the hub's own with COLLIDE; SWAP_RETRY sends the discarded one
again at most 3 times, if its cause still holds. FR_SWAP after the hub's signal sends the message and ends the signal; after the partner's it makes the hub
source. FRS_SIGNAL_DETECT is ignored unless armed, and then regulates 5 V, closes F(p) and raises FRS. RETAKE_TIMER with no valid input changes nothing. ACCEPT with
nothing asked changes nothing; an accepted Request starts the transition; a refused swap is answered DENIED. SENDER_RESPONSE_TIMEOUT of a Request sends
Hard Reset. (R308, R312, R313, R315, R316, R317) -/
def Obligations.PdSwapsAndAnswers : Prop :=
  (∀ (s : State) (p : Fin 6), s.contract p = false → exec (.prSwap p) s = .next s ∧ exec (.drSwap p) s = .next s ∧ exec (.vconnSwap p) s = .next s) ∧
  (∀ (s : State) (p : Fin 6), s.attached p = true → s.contract p = true → s.mustWait p = true →
    exec (.prSwap p) s = .next (s.modPd p fun x => { x with deferred := some .prSwap }) ∧
    exec (.vconnSwap p) s = .next (s.modPd p fun x => { x with deferred := some .vconnSwap }) ∧
    (s.rd (PD_STAT.MODE p) = 0 → exec (.drSwap p) s = .next (s.modPd p fun x => { x with deferred := some .drSwap }))) ∧
  (∀ (s : State) (p : Fin 6),
    (s.mustWait p = true → s.serveDeferred p = s) ∧ ((s.pd p).deferred = none → s.serveDeferred p = s) ∧
    (s.mustWait p = false → (s.pd p).deferred = some .prSwap →
      exec (.prSwap p) (s.modPd p fun x => { x with deferred := none }) = .next (s.serveDeferred p))) ∧
  (∀ (s : State) (p : Fin 6), s.attached p = true → s.contract p = true → (s.pd p).asked = none → (s.pd p).swap = none →
    (s.cfgOn p (PD_CFG.ACC_PRS p) = false → exec (.prSwap p) s = .next (s.pdSend p .reject)) ∧
    (s.cfgOn p (PD_CFG.ACC_PRS p) = true → s.isSource p = true → exec (.prSwap p) s = .next ((s.pdSend p .accept).prSwapAgreed p)) ∧
    (s.isSource p = false → s.rd PDB_STAT.AVAIL < 5 → exec (.prSwap p) s = .next (s.pdSend p .reject)) ∧
    (s.rd (PD_STAT.MODE p) ≠ 0 → exec (.drSwap p) s = .next (s.sendHardReset p)) ∧
    (s.rd (PD_STAT.MODE p) = 0 → s.cfgOn p (PD_CFG.ACC_DRS p) = true → exec (.drSwap p) s =
      .next (((s.pdSend p .accept).wr (PD_STAT.DATA_ROLE p) (1 - s.rd (PD_STAT.DATA_ROLE p))).startDiscovery p)) ∧
    (s.rd (PD_STAT.MODE p) = 0 → s.cfgOn p (PD_CFG.ACC_DRS p) = false → exec (.drSwap p) s = .next (s.pdSend p .reject)) ∧
    (s.cfgOn p (PD_CFG.ACC_VCS p) = false → exec (.vconnSwap p) s = .next (s.pdSend p .reject)) ∧
    (s.cfgOn p (PD_CFG.ACC_VCS p) = true → s.rd (PD_STAT.VCONN p) ≠ 0 → exec (.vconnSwap p) s = .next ((s.pdSend p .accept).modPd p fun x =>
      { x with swap := some .vconnSwap, asked := none })) ∧
    (s.cfgOn p (PD_CFG.ACC_VCS p) = true → s.rd (PD_STAT.VCONN p) = 0 → (s.pd p).vconnLost = false → exec (.vconnSwap p) s =
      .next ((((s.pdSend p .accept).setVconn p 1).pdSend p .psRdy).modPd p fun x => { x with asked := none }))) ∧
  (∀ (s : State) (p : Fin 6) (m : PdMsg), (s.pd p).asked = some m → isSwap m = true → s.isSource p = false → s.pdCommanded p = false →
    s.swapCollide p = (((s.modPd p fun x => { x with asked := none, dropped := some (m, x.tries) }).raise (Ev.PD_COLLIDE p)).pdAnswer p stConflict [0])) ∧
  (∀ (s : State) (p : Fin 6), (s.pd p).dropped = none → exec (.swapRetry p) s = .next s) ∧
  (∀ (s : State) (p : Fin 6) (n : Nat), (s.pd p).dropped = some (.vconnSwap, n) → s.contract p = true →
    let u := s.modPd p fun x => { x with dropped := none }
    (n < 3 → exec (.swapRetry p) s = .next (((u.modPd p fun x => { x with tries := n + 1 }).modPd p fun x => { x with asked := some .vconnSwap }).pdSend p
      .vconnSwap)) ∧
    (3 ≤ n → exec (.swapRetry p) s = .next u)) ∧
  (∀ (s : State) (p : Fin 6), (s.pd p).frs = 0 → exec (.frSwap p) s = .next s) ∧
  (∀ (s : State) (p : Fin 6), (s.pd p).frs = 1 → exec (.frSwap p) s =
    .next (((s.modPd p fun x => { x with frs := 2, asked := some .frSwap }).pdSend p .frSwap).send (.pin 9 p 0))) ∧
  (∀ (s : State) (p : Fin 6), (s.pd p).frs = 5 → exec (.frSwap p) s =
    .next ((((((((s.pdSend p .accept).endContract p).wr (PD_STAT.PWR_ROLE p) 1).setPstate p 2).modPd p fun x =>
      { x with frs := 0, frsHeld := 0, leftSink := false }).pdSend p .psRdy)).budget)) ∧
  (∀ (s : State) (p : Fin 6), (s.frsArmed p = false ∨ (s.pd p).frs ≠ 0) → exec (.frsSignalDetect p) s = .next s) ∧
  (∀ (s : State) (p : Fin 6), s.frsArmed p = true → (s.pd p).frs = 0 →
    let u := if (s.pd p).asked.any isSwap then s.pdAnswer p stConflict [0] else s
    exec (.frsSignalDetect p) s = .next (((((u.modPd p fun x => { x with frs := 5, asked := none, dropped := none, deferred := none }).regulate p 250
      300).closeChannel p 0).setPstate p 7).raise (Ev.PD_FRS p))) ∧
  (∀ (s : State), s.rd PDB_STAT.IN_VALID = 0 → exec .retakeTimer s = .next s) ∧
  (∀ (s : State), s.rd PDB_STAT.IN_VALID ≠ 0 → (∀ p < 6, s.attached p = false) → (∀ p < 6, s.pstate p ≠ 10) → exec .retakeTimer s = .next s) ∧
  (∀ (s : State), s.rd PDB_STAT.IN_VALID ≠ 0 → exec .retakeTimer s = .next (s.each 6 fun p t =>
    let u := if t.pstate p = 10 ∧ s.rd PDB_RESERVE.WATTS ≤ s.supply then t.setPstate p 0 else t
    if u.attached p = true ∧ u.isSource p = false ∧ (u.pd p).leftSink = true ∧ u.prefersSource p = true ∧ (u.pd p).asked = none then u.askSwap p .prSwap else u)) ∧
  (∀ (s : State) (p : Fin 6) (a : PdAnswer), s.attached p = false → exec (.accept p a) s = .next s) ∧
  (∀ (s : State) (p : Fin 6) (a : PdAnswer), s.attached p = true → (s.pd p).asked = none → exec (.accept p a) s = .next (s.serveDeferred p)) ∧
  (∀ (s : State) (p : Fin 6) (v i pos : Nat) (k : Bool), s.attached p = true → (s.pd p).asked = some .request → (s.pd p).next = some (v, i, pos, k) →
    s.contract p = false → ∃ g : PdSt → PdSt, (∀ x, (g x).asked = none ∧ (g x).next = x.next ∧ (g x).step = some (250, v)) ∧
      exec (.accept p .accept) s = .next (((s.modPd p g).setPstate p 5).serveDeferred p)) ∧
  (∀ (s : State) (p : Fin 6), s.attached p = true → (s.pd p).asked = some .vconnSwap →
    exec (.accept p .reject) s = .next ((s.swapDone p stDenied 4).serveDeferred p) ∧
    exec (.accept p .wait) s = .next ((s.swapDone p stDenied 0xC).serveDeferred p)) ∧
  (∀ (s : State) (p : Fin 6), s.attached p = true → (s.pd p).frs = 0 → (s.pd p).swap = none → (s.pd p).asked = some .request →
    exec (.senderResponseTimeout p) s = .next ((s.sendHardReset p).serveDeferred p)) ∧
  (∀ (s : State) (p : Fin 6), s.attached p = false → exec (.senderResponseTimeout p) s = .next s)

/-- Without an attachment the discovery messages, ENTER_MODE and EXIT_MODE change nothing. The cable's identity is shown and the partner's is asked for; the
partner's is shown and its SVIDs are asked for; a list with Thrumlink asks for its modes; a VDO that fits is answered by Enter Mode. The partner's requests
are answered by what the port offers. ENTER_MODE acknowledged enters the mode; the partner's entry is refused where Thrumlink is not offered. EXIT_MODE
leaves the mode. CONFIGURE and ATTENTION act only in DisplayPort mode. MODE_EXIT_WAIT trains only when the wait stands. A firmware message of no row is
answered Not_Supported; one of the firmware's is wake source 21, and waits while its answer is due, and its time-out answers Not_Supported. (R301, R320, R321, R322, R323, R516) -/
def Obligations.PdDiscoveryAndModes : Prop :=
  (∀ (s : State) (p : Fin 6), s.attached p = false → (∀ k v c a e, exec (.discoverIdentity p k v c a e) s = .next s) ∧ (∀ q l, exec (.discoverSvids p q l) s = .next s) ∧
    (∀ q d v, exec (.discoverModes p q d v) s = .next s) ∧ (∀ k v, exec (.enterMode p k v) s = .next s) ∧ (∀ a, exec (.exitMode p a) s = .next s)) ∧
  (∀ (s : State) (p : Fin 6) (v : BitVec 32) (c : Fin 5) (a e : Bool), s.attached p = true →
    exec (.discoverIdentity p 0 v c a e) s = .next (((s.setReg (PD_CABLE_VDO p) v).modPd p fun x =>
      { x with cable := c, amps5 := a, cableEpr := e }).pdSend p .vdm [0, 0xFF00, 1, 0]) ∧
    exec (.discoverIdentity p 1 v c a e) s = .next ((s.setReg (PD_PARTNER_IDH p) v).pdSend p .vdm [0, 0xFF00, 2, 0]) ∧
    exec (.discoverIdentity p 2 v c a e) s = .next (s.pdSend p .vdm [0, 0xFF00, 1, 1])) ∧
  (∀ (s : State) (p : Fin 6), s.attached p = true →
    exec (.discoverSvids p false true) s = .next (s.pdSend p .vdm [0, 0x2E7D, 3, 0]) ∧
    exec (.discoverSvids p false false) s = .next ((s.vdmDone p).modeMissing p) ∧
    exec (.discoverSvids p true false) s =
      .next (s.pdSend p .vdm ([0, 0xFF00, 2, 1] ++ (if s.offersTl p then [0x2E7D] else []) ++ if s.offersDp p then [0xFF01] else []))) ∧
  (∀ (s : State) (p : Fin 6) (v : BitVec 32), s.attached p = true →
    let u := (s.setReg (PD_PARTNER_TL p) v).modPd p fun x => { x with partnerTl := true }
    (u.wouldEnter p = true → exec (.discoverModes p false false v) s = .next (u.pdSend p .vdm [0, 0x2E7D, 4, 0, u.thrumVdo p])) ∧
    (u.wouldEnter p = false → exec (.discoverModes p false false v) s = .next ((u.vdmDone p).modeMissing p)) ∧
    (s.offersTl p = true → exec (.discoverModes p true false v) s = .next (s.pdSend p .vdm [0, 0x2E7D, 3, 1, s.thrumVdo p])) ∧
    (s.offersTl p = false → exec (.discoverModes p true false v) s = .next (s.pdSend p .vdm [0, 0x2E7D, 3, 2]))) ∧
  (∀ (s : State) (p : Fin 6) (v : BitVec 32), s.attached p = true → s.rd (PD_STAT.MODE p) = 0 →
    ((s.pd p).asked = some .vdm → s.wouldEnter p = true → exec (.enterMode p 0 v) s =
      .next (((((s.wr (PD_STAT.MODE p) 1).vdmDone p).modLink p fun l => { l with attempts := 0 }).startTraining p).c0Check p)) ∧
    ((s.pd p).asked ≠ some .vdm → exec (.enterMode p 0 v) s = .next s) ∧
    exec (.enterMode p 1 v) s = .next ((s.vdmDone p).modeMissing p) ∧
    (s.cfgOn p (PD_CFG.TL_EN p) = false → exec (.enterMode p 2 v) s = .next ((s.setReg (PD_PARTNER_TL p) v).pdSend p .vdm [0, 0x2E7D, 4, 2])) ∧
    ((s.setReg (PD_PARTNER_TL p) v).offersTl p = true → (s.pd p).noTl = false → exec (.enterMode p 2 v) s =
      .next (((s.setReg (PD_PARTNER_TL p) v).pdSend p .vdm [0, 0x2E7D, 4, 1]).enterThrum p)) ∧
    (s.offersDp p = true → exec (.enterMode p 3 v) s = .next ((s.pdSend p .vdm [0, 0xFF01, 4, 1]).wr (PD_STAT.MODE p) 2)) ∧
    (s.offersDp p = false → exec (.enterMode p 3 v) s = .next (s.pdSend p .vdm [0, 0xFF01, 4, 2]))) ∧
  (∀ (s : State) (p : Fin 6), s.attached p = true → s.rd (PD_STAT.MODE p) = 1 → exec (.exitMode p false) s =
    .next (((s.pdSend p .vdm [0, 0x2E7D, 5, 1]).leaveMode p).modLink p fun l => { l with exitWait := false })) ∧
  (∀ (s : State) (p : Fin 6), s.attached p = true → s.rd (PD_STAT.MODE p) = 2 → exec (.exitMode p false) s =
    .next (((s.pdSend p .vdm [0, 0xFF01, 5, 1]).leaveMode p).modLink p fun l => { l with exitWait := false })) ∧
  (∀ (s : State) (p : Fin 6) (c : Bool), s.rd (PD_STAT.MODE p) ≠ 2 → exec (.configure p c) s = .next s ∧ exec (.attention p) s = .next s) ∧
  (∀ (s : State) (p : Fin 6), s.rd (PD_STAT.MODE p) = 2 →
    exec (.attention p) s = .next (s.pdSend p .vdm [0, 0xFF01, 6, 0, (s.relayHpd p).toNat * 2 ^ 7]) ∧
    (p ≠ 0 → exec (.configure p true) s = .next (((s.modPd p fun x => { x with dpPin := 3 }).pdSend p .vdm [0, 0xFF01, 0x11, 1]).attention p))) ∧
  (∀ (s : State) (p : Fin 6), ((s.link p).exitWait = true → exec (.modeExitWait p) s = .next (s.startTraining p)) ∧
    ((s.link p).exitWait = false → exec (.modeExitWait p) s = .next s)) ∧
  (∀ (s : State) (p : Fin 6) (r : Bool), s.attached p = true →
    exec (.pdFirmwareMessage p false r) s = .next (s.pdSend p .notSupported) ∧
    exec (.pdFirmwareMessage p true false) s = .next ((s.modPd p fun x => { x with fwWait := true }).wakesIf 21 true) ∧
    (∃ w : BitVec 32, exec (.pdFirmwareMessage p true true) s =
      .next ((({ s with free := s.free + 1 } : State).pdSend p .firmware [w.toNat]).wakesIf 21 true))) ∧
  (∀ (s : State) (p : Fin 6), ((s.pd p).fwWait = true → exec (.pdFwTimeout p) s =
      .next ((s.modPd p fun x => { x with fwWait := false }).pdSend p .notSupported)) ∧
    ((s.pd p).fwWait = false → exec (.pdFwTimeout p) s = .next s))

/-- REGISTER_WRITE that the bus grants stores its bytes in management RAM or the patch area; at a register it takes the direct write, which a write of an ST
field answers by the address, the event and no change (R8); one that the checks do not let go on has only their effect and their answer. A granted
RC_COUNTER_READ answers the value with its WO fields zero and clears the RC fields, and of a register that shows the silicon around the hub a free value.
TM_NS_READ answers the nanoseconds and latches the rest of the time.
TXTS_HEAD_READ of an empty queue answers 0, and of one that holds a stamp takes it. (R8, R23, R284, R294, R469, R470, R471) -/
def Obligations.BusAccessesOfTheMasters : Prop :=
  (∀ (s : State) (m : Master) (a : BitVec 32) (d : List Byte), s.grants m .write a.toNat d.length → 0x100000 ≤ a.toNat → a.toNat < 0x340000 →
    exec (.registerWrite m a d) s = .next ((s.setMemBytes a.toNat d).send (.busWrite true))) ∧
  (∀ (s : State) (m : Master) (a : BitVec 32) (d : List Byte) (b : Block) (r : RegSpec), s.grants m .write a.toNat d.length → s.targetOf a.toNat = .reg b →
    regSpecAt a.toNat = some r → fixedReg a.toNat = false → r.changesSt (s.reg a.toNat) (BitVec.ofNat 32 (ofLe d)) = true →
    exec (.registerWrite m a d) s = .next (((s.setReg GC_ST_ADDR (BitVec.ofNat 32 a.toNat)).raise Ev.GC_ST_WRITE).send (.busWrite false))) ∧
  (∀ (s u : State) (m : Master) (a : BitVec 32) (d : List Byte) (x : BusEnd), s.busCheck m m.priv .write a.toNat d.length = (x, u) → x ≠ .done →
    exec (.registerWrite m a d) s = .next (u.send (.busWrite x.ok))) ∧
  (∀ (s : State) (m : Master) (a : BitVec 32) (b : Block) (r : RegSpec), s.grants m .read a.toNat 4 → s.targetOf a.toNat = .reg b → blockOf a.toNat = some b →
    regSpecAt a.toNat = some r → s.viewGlobal a.toNat = none → ¬ (b.gate = 20 ∧ a.toNat = EN_TXTS_HEAD (b.inst a.toNat)) →
    s.viewFree b (b.inst a.toNat) a.toNat = none → (r.fields.any fun f => decide (f.access = .rc)) = true →
    let u := s.patRead b (b.inst a.toNat) a.toNat
    u.viewInst b (b.inst a.toNat) a.toNat = none → exec (.rcCounterRead m a) s =
      .next ((u.setReg a.toNat (r.readClear (u.reg a.toNat))).send (.busRead true (r.shown (u.reg a.toNat))))) ∧
  (∀ (s : State) (m : Master) (a : BitVec 32) (b : Block) (r : RegSpec) (f : Word → Word), s.grants m .read a.toNat 4 → s.targetOf a.toNat = .reg b →
    blockOf a.toNat = some b → regSpecAt a.toNat = some r → s.viewGlobal a.toNat = none → ¬ (b.gate = 20 ∧ a.toNat = EN_TXTS_HEAD (b.inst a.toNat)) →
    s.viewFree b (b.inst a.toNat) a.toNat = some f →
    exec (.rcCounterRead m a) s = .next (s.fresh.2.send (.busRead true (r.fieldBits (f s.fresh.1))))) ∧
  (∀ (s : State) (m : Master), s.grants m .read TM_NS 4 →
    exec (.tmNsRead m) s = .next (s.tmLatch.send (.busRead true (BitVec.ofNat 32 s.time.ns)))) ∧
  (∀ (s : State) (m : Master) (i : Fin 2), s.grants m .read (EN_TXTS_HEAD i) 4 →
    ((s.mac i).stamps = [] → exec (.txtsHeadRead m i) s = .next (s.send (.busRead true 0#32))) ∧
    (∀ msg id sec ns fr rest, (s.mac i).stamps = (msg, id, sec, ns, fr) :: rest → exec (.txtsHeadRead m i) s =
      .next ((((s.modMac i fun x => { x with stamps := rest }).wr (EN_TXTS_NS.NS i) ns).wr (EN_TXTS_SEC.SEC i) (sec % 2 ^ 32)).send
        (.busRead true (BitVec.ofNat 32 (1 + msg * 16 + fr * 256 + id * 65536))))))

/-- For every master to which the bus grants the write: TEST_WRITE, ES_START, ES_STOP, PAT_CLEAR, INJ_FIRE, FARRIER_START, ARM_WRITE, DISARM_WRITE,
PUSH_TAIL_WRITE, TM_CMD_STEP, EF_CMD_CLEAR, CLOCK_ENABLE_WRITE, WARM_RESET_WRITE, PORT_RESET_WRITE, WATCHDOG_KICK, PS_GO_WRITE, the operations of the key
unit (LOAD, LOAD_WRAPPED, UNWRAP_LOAD, ERASE, ENCRYPT, DECRYPT, WRAP, DERIVE) and BIST_START write the fields of their register and then start the scan,
stop it, clear the counts, fire the error, start the audit, arm, disarm, step the time, clear the channel, request the warm reset, reset the ports, restart
the watchdog, request the power state, run the key operation or test the block; the write is answered as done. (R8, R60, R62, R63, R141, R159, R210, R335,
R352, R361, R379, R449) -/
def Obligations.RowsThatWriteOneRegister : Prop :=
  (∀ (s : State) (m : Master) (n : Fin 24) (k : Bool), s.grants m .write (LN_CTRL n) 4 → exec (.testWrite m n k) s = .next ((s.writeReg (LN_CTRL n) (setField (s.reg (LN_CTRL n)) 4 1 k.toNat)).send (.busWrite true))) ∧
  (∀ (s : State) (m : Master) (n : Fin 24) (v : BitVec 32), s.grants m .write (LN_ES_CTRL n) 4 → exec (.esStart m n v) s = .next (((s.writeReg (LN_ES_CTRL n) (setField v 0 2 1)).scanStart n).send (.busWrite true))) ∧
  (∀ (s : State) (m : Master) (n : Fin 24) (v : BitVec 32), s.grants m .write (LN_ES_CTRL n) 4 → exec (.esStop m n v) s = .next (((s.writeReg (LN_ES_CTRL n) (setField v 0 2 2)).abortScan n).send (.busWrite true))) ∧
  (∀ (s : State) (m : Master) (n : Fin 24) (v : BitVec 32), s.grants m .write (LN_PAT_CTRL n) 4 → exec (.patClear m n v) s = .next (((s.writeReg (LN_PAT_CTRL n) (setField v 7 1 1)).patClear n).send (.busWrite true))) ∧
  (∀ (s : State) (m : Master) (n : Fin 24) (v : BitVec 32), s.grants m .write (LN_INJ_CTRL n) 4 → exec (.injFire m n v) s = .next (((s.writeReg (LN_INJ_CTRL n) (setField v 11 1 1)).injFire n).send (.busWrite true))) ∧
  (∀ (s : State) (m : Master) (v : BitVec 32), s.grants m .write SW_FAR_CTRL 4 → exec (.farrierStart m v) s = .next (((s.writeReg SW_FAR_CTRL (setField v 2 1 1)).startAudit).send (.busWrite true))) ∧
  (∀ (s : State) (m : Master) (p : Fin 6), s.grants m .write (AL_ARM p) 4 → exec (.armWrite m p) s = .next (((s.writeReg (AL_ARM p) 1#32).arm p).send (.busWrite true))) ∧
  (∀ (s : State) (m : Master) (p : Fin 6), s.grants m .write (AL_ARM p) 4 → exec (.disarmWrite m p) s = .next (((s.writeReg (AL_ARM p) 2#32).disarm p).send (.busWrite true))) ∧
  (∀ (s : State) (m : Master) (d : Fin 4) (x : Fin 4096), s.grants m .write (DS_PUSH_TAIL d) 4 → exec (.pushTailWrite m d x) s = .next ((s.writeReg (DS_PUSH_TAIL d) (BitVec.ofNat 32 x)).send (.busWrite true))) ∧
  (∀ (s : State) (m : Master), s.grants m .write TM_CMD 4 → exec (.tmCmdStep m) s = .next (((s.writeReg TM_CMD 1#32).tmCmdStep).send (.busWrite true))) ∧
  (∀ (s : State) (m : Master) (n : Fin 8), s.grants m .write (EF_CMD n) 4 → exec (.efCmdClear m n) s = .next (((s.writeReg (EF_CMD n) 1#32).efClear n).send (.busWrite true))) ∧
  (∀ (s : State) (m : Master) (v : BitVec 32), s.grants m .write GC_CLKEN 4 → exec (.clockEnableWrite m v) s = .next ((s.writeReg GC_CLKEN v).send (.busWrite true))) ∧
  (∀ (s : State) (m : Master), s.grants m .write GC_RST 4 → exec (.warmResetWrite m) s = .next (((s.writeReg GC_RST 1#32).requestWarm 3).send (.busWrite true))) ∧
  (∀ (s : State) (m : Master) (v : BitVec 32), s.grants m .write GC_WDT 4 → exec (.watchdogKick m v) s = .next (((s.writeReg GC_WDT (setField v 2 1 1)).kick).send (.busWrite true))) ∧
  (∀ (s : State) (m : Master) (x : Fin 4), s.grants m .write PS_CTRL 4 → exec (.psGoWrite m x) s = .next (((s.writeReg PS_CTRL (BitVec.ofNat 32 (4 + x))).psRequest x).send (.busWrite true))) ∧
  (∀ (s : State) (m : Master) (x : Fin 4), s.grants m .write KS_CTRL 4 → exec (.load m x) s = .next (((s.writeReg KS_CTRL (BitVec.ofNat 32 (64 + 16 * x + 1))).ksGo 1 x).send (.busWrite true))) ∧
  (∀ (s : State) (m : Master) (x : Fin 4), s.grants m .write KS_CTRL 4 → exec (.loadWrapped m x) s = .next (((s.writeReg KS_CTRL (BitVec.ofNat 32 (64 + 16 * x + 2))).ksGo 2 x).send (.busWrite true))) ∧
  (∀ (s : State) (m : Master) (x : Fin 4), s.grants m .write KS_CTRL 4 → exec (.unwrapLoad m x) s = .next (((s.writeReg KS_CTRL (BitVec.ofNat 32 (64 + 16 * x + 3))).ksGo 3 x).send (.busWrite true))) ∧
  (∀ (s : State) (m : Master), s.grants m .write KS_CTRL 4 → exec (.erase m) s = .next (((s.writeReg KS_CTRL (BitVec.ofNat 32 (64 + 4))).ksGo 4 0).send (.busWrite true))) ∧
  (∀ (s : State) (m : Master), s.grants m .write KS_CTRL 4 → exec (.encrypt m) s = .next (((s.writeReg KS_CTRL (BitVec.ofNat 32 (64 + 5))).ksGo 5 0).send (.busWrite true))) ∧
  (∀ (s : State) (m : Master), s.grants m .write KS_CTRL 4 → exec (.decrypt m) s = .next (((s.writeReg KS_CTRL (BitVec.ofNat 32 (64 + 6))).ksGo 6 0).send (.busWrite true))) ∧
  (∀ (s : State) (m : Master), s.grants m .write KS_CTRL 4 → exec (.wrap m) s = .next (((s.writeReg KS_CTRL (BitVec.ofNat 32 (64 + 7))).ksGo 7 0).send (.busWrite true))) ∧
  (∀ (s : State) (m : Master), s.grants m .write KS_CTRL 4 → exec (.derive m) s = .next (((s.writeReg KS_CTRL (BitVec.ofNat 32 (64 + 8))).ksGo 8 0).send (.busWrite true))) ∧
  (∀ (s : State) (m : Master) (b : Fin 32), s.grants m .write BT_CTRL 4 → exec (.bistStart m b) s = .next (((s.writeReg BT_CTRL (BitVec.ofNat 32 (32 + b))).bistGo).send (.busWrite true))) ∧
  (∀ (s : State) (m : Master) (v : BitVec 6), s.grants m .write GC_RST 4 → exec (.portResetWrite m v) s =
    .next (((s.writeReg GC_RST (setField 0#32 8 6 v.toNat)).each 6 fun p t => if v.getLsbD p then t.portReset p else t).send (.busWrite true)))

/-- COMMAND in neighbour form changes nothing; a response ends the RELAY that waits for it; a request runs as a command of A0 while A0_EN is 1 and changes
nothing else. The USB rows change nothing while the function is not configured; SEND_COMMAND short of wLength keeps its data stage, complete it hands the
frame over, with a stall when LENGTH disagrees; GET_RESPONSE sends the response; BULK_FRAME gathers packets until the last. INTERRUPT_ENDPOINT_READ takes
the oldest notification or bulk response. The SMBus rows at another address change nothing; a Block Write with a bad PEC where PEC is on is discarded with
FRAME_ERR; SMB_SELECT chooses a cached response; a time-out of SCL forgets the frame and the read. ALERT_RESPONSE answers only while SMBALERT# is low.
COMMAND_TIMEOUT and RELAY_TIMEOUT answer TIMEOUT to the command of the owner that waits, and otherwise change nothing. (R269, R270, R422, R423, R431, R446,
R448) -/
def Obligations.TransportsCarryFrames : Prop :=
  (∀ (s : State) (h : Fin 16384) (f : List Byte), exec (.command h true f) s = .next s) ∧
  (∀ (s : State) (h : Fin 16384) (f : List Byte), 16 ≤ f.length → byteAt f 6 % 2 = 1 → exec (.command h false f) s = .next (s.relayResponse h f)) ∧
  (∀ (s : State) (h : Fin 16384) (f : List Byte), byteAt f 6 % 2 = 0 →
    (s.rd GC_CMD_CFG.A0_EN ≠ 0 → exec (.command h false f) s = .next (s.acceptCmd (.a0 h) f 65552)) ∧
    (s.rd GC_CMD_CFG.A0_EN = 0 → exec (.command h false f) s = .next s)) ∧
  (∀ (s : State), s.cmd.usbReady = false → (∀ n d k, exec (.sendCommand n d k) s = .next s) ∧ (∀ q n, exec (.getResponse q n) s = .next s) ∧
    (∀ d k, exec (.bulkFrame d k) s = .next s) ∧ (∀ k, exec (.interruptEndpointRead k) s = .next s)) ∧
  (∀ (s : State) (n : Fin 65536) (d : List Byte) (k : Bool), s.cmd.usbReady = true →
    (d.length < n.val → exec (.sendCommand n d k) s = .next (s.modUsb fun u => { u with control := some (n.val, d) })) ∧
    (d.length = n.val → n.val = 16 + leAt d 8 4 → exec (.sendCommand n d k) s =
      .next ((s.modUsb fun u => { u with control := if k then none else some (n.val, d) }).acceptCmd .usb d 4096)) ∧
    (d.length = n.val → n.val ≠ 16 + leAt d 8 4 → exec (.sendCommand n d k) s =
      .next (((s.send (.bus 1 0 9 [])).modUsb fun u => { u with control := if k then none else some (n.val, d) }).acceptCmd .usb d 4096))) ∧
  (∀ (s : State) (q n : Fin 65536), s.cmd.usbReady = true → exec (.getResponse q n) s = .next (s.send (.bus 1 0 10 ((s.usbResponse q).take n)))) ∧
  (∀ (s : State) (d : List Byte), s.cmd.usbReady = true → let f := s.usb.bulk ++ d
    let u := s.modUsb fun u => { u with bulk := [] }
    exec (.bulkFrame d false) s = .next (s.modUsb fun u => { u with bulk := f }) ∧
    (u.bulkAnswers f = false → exec (.bulkFrame d true) s = .next (u.acceptCmd .usb f 65552)) ∧
    (u.bulkAnswers f = true → exec (.bulkFrame d true) s =
      .next (({ u with cmd := { u.cmd with bulkSeq := u.cmd.bulkSeq ++ [leAt f 2 2] } } : State).acceptCmd .usb f 65552))) ∧
  (∀ (s : State) (b : List Byte) (l : List (List Byte)), s.cmd.usbReady = true →
    (s.cmd.usbQueue = b :: l → exec (.interruptEndpointRead false) s = .next (({ s with cmd := { s.cmd with usbQueue := l } } : State).send (.notify 0 b))) ∧
    (s.cmd.bulkResp = b :: l → exec (.interruptEndpointRead true) s =
      .next (({ s with cmd := { s.cmd with bulkResp := l } } : State).send (.bus 1 0 11 b)))) ∧
  (∀ (s : State) (x : Fin 128), s.smbMatch x = false → (∀ d k, exec (.smbFrameStart x d k) s = .next s) ∧ (∀ d k, exec (.smbFrameContinue x d k) s = .next s) ∧
    exec (.smbResponseRead x) s = .next s ∧ (∀ q, exec (.smbSelect x q) s = .next s)) ∧
  (∀ (s : State) (x : Fin 128) (d : List Byte), s.smbMatch x = true → let u := s.wakeEvent 12 false
    (u.on GC_CMD_CFG.SMB_PEC = true → exec (.smbFrameStart x d false) s = .next (u.dropPartial.raise Ev.GC_FRAME_ERR) ∧
      exec (.smbFrameContinue x d false) s = .next (u.dropPartial.raise Ev.GC_FRAME_ERR)) ∧
    exec (.smbFrameStart x d true) s = .next (u.smbAssemble d) ∧
    (u.cmd.partial_ = [] → exec (.smbFrameContinue x d true) s = .next u) ∧
    (u.cmd.partial_ ≠ [] → exec (.smbFrameContinue x d true) s = .next (u.smbAssemble (u.cmd.partial_ ++ d))) ∧
    (u.cmd.reading = none → u.cmd.unread = [] → exec (.smbResponseRead x) s = .next (u.send (.bus 7 0 3 []))) ∧
    (∀ q r l, u.cmd.reading = none → u.cmd.unread = (q, r) :: l →
      (r.length ≤ 255 → exec (.smbResponseRead x) s = .next (({ u with cmd := { u.cmd with reading := none, unread := l } } : State).send (.bus 7 0 3 r))) ∧
      (255 < r.length → exec (.smbResponseRead x) s =
        .next (({ u with cmd := { u.cmd with reading := some (q, r.drop 255) } } : State).send (.bus 7 0 3 (r.take 255))))) ∧
    (∀ q : Fin 65536, exec (.smbSelect x q) s =
      .next { u with cmd := { u.cmd with reading := some (q.val, ((u.cached .smbus q).map CacheEntry.frame).getD []) } })) ∧
  (∀ (s : State), exec .smbSclTimeout s = .next { s with cmd := { s.cmd with partial_ := [], reading := none } }) ∧
  (∀ (s : State), (s.alertLow = true → exec .alertResponse s = .next (s.send (.bus 7 0 0x0C [BitVec.ofNat 8 (2 * s.smbAddr)]))) ∧
    (s.alertLow = false → exec .alertResponse s = .next s)) ∧
  (∀ (s : State) (o : Owner), (∀ e ∈ s.cmd.entries, e.owner ≠ o) → exec (.commandTimeout o) s = .next s ∧ exec (.relayTimeout o) s = .next s) ∧
  (∀ (s : State) (o : Owner) (e : CmdEntry) (h : Nat) (f : List Byte), s.cmd.entries = [e] → e.running = true → e.owner = o → e.wait = .relay h f →
    exec (.commandTimeout o) s = .next (s.answer e stTimeout 0 []) ∧ exec (.relayTimeout o) s = .next (s.answer e stTimeout 0 []))

/-- A frame of a transport that is not served changes nothing; one that is too short, whose LENGTH disagrees or that is marked a response sets FRAME_ERR only.
For every owner and every opcode, SEQ, TXN and body within their fields: a version other than 2 and 3, or version 2 for a command it lacks, is answered
VERSION; a ninth command of an owner is answered BUSY with QUEUE_FULL; a command that starts and fails a check is answered with that status and cached; and
a command that is admitted leaves exactly the state in which its execution, RELAY apart, acts on the hub with this one command executing. (R418, R419,
R424, R425, R426, R427) -/
def Obligations.FramesAreCheckedInOrder : Prop :=
  (∀ (s : State) (o : Owner) (f : List Byte) (n : Nat), s.served o = false → s.acceptCmd o f n = s) ∧
  (∀ (s : State) (o : Owner) (f : List Byte) (n : Nat), s.served o = true → f.length ≤ n →
    (f.length < 16 ∨ f.length ≠ 16 + leAt f 8 4 ∨ byteAt f 6 % 2 = 1) → s.acceptCmd o f n = s.raise Ev.GC_FRAME_ERR) ∧
  (∀ (s : State) (o : Owner) (op seq txn csv : Nat) (body : List Byte), op < 65536 → seq < 65536 → txn < 65536 → csv < 16 → body.length < 2 ^ 32 →
    s.served o = true → 16 + body.length ≤ rowLimit o → s.inHand o seq = false → s.cached o seq = none →
    let e := cmdEntry o op seq txn csv body
    let frame := requestFrame op seq txn csv body
    ((csv ≠ 2 ∧ csv ≠ 3 ∨ csv = 2 ∧ since3 op = true) → s.acceptCmd o frame (rowLimit o) = s.refuse e stVersion true) ∧
    (csv = 3 → 8 ≤ (s.cmd.entries.filter fun x => decide (x.owner = o)).length →
      s.acceptCmd o frame (rowLimit o) = (s.raise Ev.GC_QUEUE_FULL).refuse e stBusy false) ∧
    (∀ st, csv = 3 → s.cmd.entries = [] → s.rd PS_STAT.STATE < 2 → s.rd PS_STAT.WAKING = 0 → s.precheck e = some st →
      s.acceptCmd o frame (rowLimit o) = s.refuse e st true) ∧
    (s.admits e → s.acceptCmd o frame (rowLimit o) = State.runCmd e.started (s.withCommand e)))

/-- For every owner, SEQ, TXN and version with which the hub admits the command: GET_INFO, ECHO_CMD, RESET, POWER_STATE, NOTIFY_CFG, BEGIN, STAGE, STAGE_READ,
COMMIT, ROLLBACK, TXN_INFO, IMG_INFO, IMG_ERASE, IMG_WRITE, IMG_READ, IMG_CHECK, TUNNEL_LIST, TUNNEL_STAT and TUNNEL_REOPEN leave the state that their
group describes, their fields read from the places of the body: what they read, write, erase, program, open or close, and the status and data of the
answer, or that the command goes on waiting. (R352, R361, R405, R406, R408, R418, R432, R433, R434, R435, R445) -/
def Obligations.CommandsOfSystemTransactionImage : Prop :=
  (∀ (s : State) (o : Owner) (q t : Fin 65536) (c : Fin 16), let e := cmdEntry o 0x0000 q t c ([])
    let u := s.withCommand e
    s.admits e →
    exec (.getInfo o q t c) s = .next (u.withRegs e.started [GC_ID, PS_STAT, GC_IMG_STAT, GC_IMG_REL, GC_RST_CAUSE] fun d v => v.answer e.started stOk 0
      (d.take 4 ++ le 8 v.uid ++ [3#8] ++ le 1 v.host.toNat ++ le 1 (v.rd PS_STAT.STATE) ++ le 1 (v.rd GC_IMG_STAT.SLOT) ++ d.drop 12))) ∧
  (∀ (s : State) (o : Owner) (q t : Fin 65536) (c : Fin 16) (d : List Byte), let e := cmdEntry o 0x0001 q t c (d)
    let u := s.withCommand e
    s.admits e →
    exec (.echoCmd o q t c d) s = .next (u.answer e.started stOk 0 d)) ∧
  (∀ (s : State) (o : Owner) (q t : Fin 65536) (c : Fin 16) (x y : Fin 256), let e := cmdEntry o 0x0002 q t c (be 1 x ++ be 1 y)
    let u := s.withCommand e
    s.admits e →
    (∀ z v, z ≠ .done → u.busCheck o.master (u.cmdPriv e.started) .write GC_RST 4 = (z, v) → exec (.reset o q t c x y) s = .next (v.answer e.started z.status 0 [])) ∧
    ((x : Nat) = 0 → u.busCheck o.master (u.cmdPriv e.started) .write GC_RST 4 = (.done, u) → exec (.reset o q t c x y) s = .next ((u.answer e.started stOk 0 []).requestWarm 3)) ∧
    ((x : Nat) = 1 → u.busCheck o.master (u.cmdPriv e.started) .write GC_RST 4 = (.done, u) → exec (.reset o q t c x y) s = .next ((u.answer e.started stOk 0 []).each 6 fun p v => if bitOf y p then v.portReset p else v))) ∧
  (∀ (s : State) (o : Owner) (q t : Fin 65536) (c : Fin 16) (x : Fin 256), let e := cmdEntry o 0x0003 q t c (be 1 x)
    let u := s.withCommand e
    s.admits e →
    (u.busCheck o.master (u.cmdPriv e.started) .write PS_CTRL 4 = (.done, u) → exec (.powerState o q t c x) s = .next ((u.setWait e.started .power).psRequest x)) ∧
    (∀ z v, z ≠ .done → u.busCheck o.master (u.cmdPriv e.started) .write PS_CTRL 4 = (z, v) → exec (.powerState o q t c x) s = .next (v.answer e.started z.status 0 []))) ∧
  (∀ (s : State) (o : Owner) (q t : Fin 65536) (c : Fin 16) (x y : Fin 256) (h : Fin 65536), let e := cmdEntry o 0x0004 q t c (be 1 x ++ be 1 y ++ le 2 h)
    let u := s.withCommand e
    s.admits e →
    exec (.notifyCfg o q t c x y h) s = .next (({ u with cmd := { u.cmd with
      notifyUsb := bitOf x 0, notifyAlert := bitOf x 1, notifyA0 := bitOf x 2, notifySev := y, notifyHub := h } } : State).answer e.started stOk 0 [])) ∧
  (∀ (s : State) (o : Owner) (q t : Fin 65536) (c : Fin 16), let e := cmdEntry o 0x0100 q t c ([])
    let u := s.withCommand e
    s.admits e →
    exec (.begin o q t c) s = .next ((u.beginTxn o).2.2.answer e.started (u.beginTxn o).1 0 (if (u.beginTxn o).1 = stOk then le 2 (u.beginTxn o).2.1 else []))) ∧
  (∀ (s : State) (o : Owner) (q t : Fin 65536) (c : Fin 16) (l : List (Word × Word)), let e := cmdEntry o 0x0101 q t c (pairBody l)
    let u := s.withCommand e
    s.admits e →
    exec (.stage o q t c l) s = .next (let r := (u.touchTxn t).stageAll o t 0 (l.map fun x => (x.1.toNat, x.2))
      r.2.2.2.answer e.started r.1 r.2.1 (if r.1 = stOk then le 2 r.2.2.1 else []))) ∧
  (∀ (s : State) (o : Owner) (q t : Fin 65536) (c : Fin 16) (l : List Word), let e := cmdEntry o 0x0102 q t c (addrBody l)
    let u := s.withCommand e
    s.admits e →
    exec (.stageRead o q t c l) s = .next (let r := (u.touchTxn t).stageRead o.master (u.cmdPriv e.started) (((u.txnBy o t).map Txn.staged).getD []) (l.map BitVec.toNat) []
      r.2.2.2.answer e.started r.1 r.2.1 (if r.1 = stOk then r.2.2.1 else []))) ∧
  (∀ (s : State) (o : Owner) (q t : Fin 65536) (c : Fin 16), let e := cmdEntry o 0x0103 q t c ([])
    let u := s.withCommand e
    s.admits e →
    (u.img.commit.isSome = true → exec (.commit o q t c) s = .next (u.answer e.started stBusy 0 [])) ∧
    (u.img.commit = none → ∀ x st a, u.txnBy o t = some x → (u.touchTxn t).validate x.staged = some (st, a) → exec (.commit o q t c) s = .next (((u.touchTxn t).raise Ev.GC_VAL_FAIL).answer e.started st a [])) ∧
    (u.img.commit = none → ∀ x, u.txnBy o t = some x → (u.touchTxn t).validate x.staged = none → exec (.commit o q t c) s = .next (let l := (u.touchTxn t).affected x.staged
      ((((u.touchTxn t).loadShadows x.staged).modImg fun i => { i with commit := some (x.id, l) }).haltAdapters l true).setWait e.started (.commit x.id)))) ∧
  (∀ (s : State) (o : Owner) (q t : Fin 65536) (c : Fin 16), let e := cmdEntry o 0x0104 q t c ([])
    let u := s.withCommand e
    s.admits e →
    exec (.rollback o q t c) s = .next ((u.dropTxn t).answer e.started stOk 0 [])) ∧
  (∀ (s : State) (o : Owner) (q t : Fin 65536) (c : Fin 16), let e := cmdEntry o 0x0105 q t c ([])
    let u := s.withCommand e
    s.admits e →
    (u.txnOf o = none → exec (.txnInfo o q t c) s = .next (u.answer e.started stOk 0 (le 8 0))) ∧
    (∀ x, u.txnOf o = some x → exec (.txnInfo o q t c) s = .next (u.answer e.started stOk 0 (le 2 x.id ++ le 2 x.staged.length ++ le 4 ((u.uptime - x.last) / 10000000))))) ∧
  (∀ (s : State) (o : Owner) (q t : Fin 65536) (c : Fin 16), let e := cmdEntry o 0x0200 q t c ([])
    let u := s.withCommand e
    s.admits e →
    exec (.imgInfo o q t c) s = .next (u.fresh.2.answer e.started stOk 0 (u.slotInfo false ++ u.slotInfo true ++
      (le 1 u.flashPatch.1 ++ le 3 0 ++ le 4 u.flashPatch.2 ++ (if u.flashPatch.1 = 0xFE then le 4 0 else wordLe u.fresh.1) ++ le 4 0) ++
      le 1 (if u.imageActive then u.rd GC_IMG_STAT.SLOT else 3)))) ∧
  (∀ (s : State) (o : Owner) (q t : Fin 65536) (c : Fin 16) (x : Fin 256), let e := cmdEntry o 0x0201 q t c (be 1 x)
    let u := s.withCommand e
    s.admits e →
    exec (.imgErase o q t c x) s = .next (if u.running x then u.answer e.started stConflict 0 [] else (u.eraseFlash (areaBase x) (slotSize x)).answer e.started stOk 0 [])) ∧
  (∀ (s : State) (o : Owner) (q t : Fin 65536) (c : Fin 16) (x : Fin 256) (a : BitVec 32) (d : List Byte), let e := cmdEntry o 0x0202 q t c (be 1 x ++ be 3 0 ++ wordLe a ++ d)
    let u := s.withCommand e
    s.admits e →
    exec (.imgWrite o q t c x a d) s = .next (if u.running x then u.answer e.started stConflict 0 [] else
      let v := u.program (areaBase x + a.toNat) d
      v.answer e.started (if v.flashBytes (areaBase x + a.toNat) d.length = d then stOk else stIntegrity) 0 [])) ∧
  (∀ (s : State) (o : Owner) (q t : Fin 65536) (c : Fin 16) (x : Fin 256) (a n : BitVec 32), let e := cmdEntry o 0x0203 q t c (be 1 x ++ be 3 0 ++ wordLe a ++ wordLe n)
    let u := s.withCommand e
    s.admits e →
    exec (.imgRead o q t c x a n) s = .next (u.answer e.started stOk 0 (u.flashBytes (areaBase x + a.toNat) n.toNat))) ∧
  (∀ (s : State) (o : Owner) (q t : Fin 65536) (c : Fin 16) (x : Fin 256), let e := cmdEntry o 0x0204 q t c (be 1 x)
    let u := s.withCommand e
    s.admits e →
    ((x : Nat) < 2 → exec (.imgCheck o q t c x) s = .next (u.answer e.started (u.checkSlot (decide ((x : Nat) = 1))) 0 (if u.checkSlot (decide ((x : Nat) = 1)) = stOk then
      le 4 (hdrRelease (u.slotHeader (decide ((x : Nat) = 1)))) else []))) ∧
    ((x : Nat) = 2 → exec (.imgCheck o q t c x) s = .next (u.answer e.started (if u.flashPatch.1 = 0xFE then stInvalid else u.flashPatch.1) 0
      (if u.flashPatch.1 = stOk then le 4 u.flashPatch.2 else [])))) ∧
  (∀ (s : State) (o : Owner) (q t : Fin 65536) (c : Fin 16), let e := cmdEntry o 0x0300 q t c ([])
    let u := s.withCommand e
    s.admits e →
    exec (.tunnelList o q t c) s = .next (u.withRegs e.started ((List.range 256).map TA_STAT) fun d v =>
      v.answer e.started stOk 0 (le 32 ((List.range 256).map fun a => byteAt d (4 * a) % 2 * 2 ^ a).sum))) ∧
  (∀ (s : State) (o : Owner) (q t : Fin 65536) (c : Fin 16) (x : Fin 256), let e := cmdEntry o 0x0301 q t c (be 1 x)
    let u := s.withCommand e
    s.admits e →
    exec (.tunnelStat o q t c x) s = .next (u.answerRegs e.started [TA_STAT x, TA_SEQ x, TA_EVT x, TA_EVT_CNT0 x, TA_EVT_CNT1 x,
      TA_PKT_TX x, TA_PKT_RX x, TA_BYTE_TX_LO x, TA_BYTE_TX_HI x, TA_BYTE_RX_LO x, TA_BYTE_RX_HI x, TA_DROP x])) ∧
  (∀ (s : State) (o : Owner) (q t : Fin 65536) (c : Fin 16) (x : Fin 256), let e := cmdEntry o 0x0302 q t c (be 1 x)
    let u := s.withCommand e
    s.admits e →
    (((x : Nat) = 0 ∨ u.adpType x = 0 ∨ u.rd (TA_PEER.MCAST x) ≠ 0 ∨ u.rd (TA_CFG0.DIR x) = 2) → exec (.tunnelReopen o q t c x) s = .next (u.answer e.started stInvalid 0 [])) ∧
    ((x : Nat) ≠ 0 → u.adpType x ≠ 0 → u.rd (TA_PEER.MCAST x) = 0 → u.rd (TA_CFG0.DIR x) ≠ 2 → u.img.commit.isSome = true → exec (.tunnelReopen o q t c x) s = .next (u.answer e.started stConflict 0 [])) ∧
    ((x : Nat) ≠ 0 → u.adpType x ≠ 0 → u.rd (TA_PEER.MCAST x) = 0 → u.rd (TA_CFG0.DIR x) ≠ 2 → u.img.commit = none → exec (.tunnelReopen o q t c x) s = .next ((((u.tunnelClosed x).sendTunnelClose x (u.rd (TA_PEER.HUB x))).sendTunnelOpen x).answer e.started stOk 0 [])))

/-- For every owner, SEQ, TXN and version with which the hub admits the command: AL_STATUS, AL_TABLE_WRITE, AL_ARM, POLICER_READ, LINK_STATUS, LINK_ACTION,
ROLE_SWAP, EYE_SCAN, PD_STATUS, PD_ACTION, EF_STATUS, EF_CLEAR, BUDGET_STATUS, KEY_LOAD, KEY_OP, KEY_ERASE, ROLLBACK_ADV, CERT_READ and GATE_VIOL leave the
state that their group describes, their fields read from the places of the body: registers read in order, registers written, exchanges and operations
started, and the status and data of the answer, or that the command goes on waiting. (R168, R375, R436, R437, R438, R439, R445) -/
def Obligations.CommandsOfLinkPowerKeys : Prop :=
  (∀ (s : State) (o : Owner) (q t : Fin 65536) (c : Fin 16) (x : Fin 256), let e := cmdEntry o 0x0400 q t c (be 1 x)
    let u := s.withCommand e
    s.admits e →
    exec (.alStatus o q t c x) s = .next (u.answerRegs e.started [AL_STAT x, AL_BACKLOG x, AL_EVT x, AL_EVT_CNT0 x, AL_EVT_CNT1 x, AL_EPOCH_NUM])) ∧
  (∀ (s : State) (o : Owner) (q t : Fin 65536) (c : Fin 16) (x y : Fin 256) (l : List (Word × Word)), let e := cmdEntry o 0x0401 q t c (be 1 x ++ be 1 y ++ le 2 l.length ++ l.flatMap fun x => wordLe x.1 ++ wordLe x.2)
    let u := s.withCommand e
    s.admits e →
    (u.act x = y → l.length ≤ 32 → exec (.alTableWrite o q t c x y l) s = .next (u.withWrites e.started .h
      ((l.map fun z => (AL_TBL0_HDR x + 0x80 * y + z.1.toNat, z.2.toNat)).take 1) fun v => v.answer e.started stConflict 0 [])) ∧
    (u.act x ≠ y → l.length ≤ 32 → exec (.alTableWrite o q t c x y l) s = .next (u.withWrites e.started .h (l.map fun z => (AL_TBL0_HDR x + 0x80 * y + z.1.toNat, z.2.toNat)) fun v => v.answer e.started stOk 0 []))) ∧
  (∀ (s : State) (o : Owner) (q t : Fin 65536) (c : Fin 16) (x y : Fin 256), let e := cmdEntry o 0x0402 q t c (be 1 x ++ be 1 y)
    let u := s.withCommand e
    s.admits e →
    exec (.alArm o q t c x y) s = .next (u.withWrites e.started .h [(AL_ARM x, 1 + y)] fun v => v.answerRegs e.started [AL_STAT x])) ∧
  (∀ (s : State) (o : Owner) (q t : Fin 65536) (c : Fin 16) (x : Fin 256), let e := cmdEntry o 0x0403 q t c (be 1 x)
    let u := s.withCommand e
    s.admits e →
    exec (.policerRead o q t c x) s = .next (u.answerRegs e.started [AL_POL_RATE x, AL_POL_BURST x, AL_POL_PASS x, AL_POL_DROP x])) ∧
  (∀ (s : State) (o : Owner) (q t : Fin 65536) (c : Fin 16) (x : Fin 256), let e := cmdEntry o 0x0500 q t c (be 1 x)
    let u := s.withCommand e
    s.admits e →
    exec (.linkStatus o q t c x) s = .next (u.answerRegs e.started ([CL_STAT x, CL_EVT x, CL_EVT_CNT0 x, CL_EVT_CNT1 x, CL_CW_CORR x,
      CL_CW_UNCORR x, CL_SYNC_OFS x] ++ (portLanes x).map LN_STAT))) ∧
  (∀ (s : State) (o : Owner) (q t : Fin 65536) (c : Fin 16) (x y : Fin 256), let e := cmdEntry o 0x0501 q t c (be 1 x ++ be 1 y)
    let u := s.withCommand e
    s.admits e →
    ((y : Nat) = 0 → exec (.linkAction o q t c x y) s = .next ((u.portReset x).answer e.started stOk 0 [])) ∧
    ((y : Nat) = 1 → exec (.linkAction o q t c x y) s = .next ((u.allowThrum x).answer e.started stOk 0 [])) ∧
    ((y : Nat) = 2 → (u.lstate x ≠ 4 ∨ u.linkEnc x = false) → exec (.linkAction o q t c x y) s = .next (u.answer e.started stConflict 0 [])) ∧
    ((y : Nat) = 2 → u.lstate x = 4 → u.linkEnc x = true → exec (.linkAction o q t c x y) s = .next ((u.keyChange x).answer e.started stOk 0 [])) ∧
    ((y : Nat) = 3 → u.lstate x = 4 → exec (.linkAction o q t c x y) s = .next (((u.fresh.2.modLink x fun l => { l with echoTok := u.fresh.1.toNat }).sendCtl x 0x3F (be 4 u.fresh.1.toNat)).setWait e.started
      (.echo x ((u.fresh.2.modLink x fun l => { l with echoTok := u.fresh.1.toNat }).sendCtl x 0x3F (be 4 u.fresh.1.toNat)).time)))) ∧
  (∀ (s : State) (o : Owner) (q t : Fin 65536) (c : Fin 16) (x : Fin 256), let e := cmdEntry o 0x0502 q t c (be 1 x)
    let u := s.withCommand e
    s.admits e →
    exec (.roleSwap o q t c x) s = .next (if u.linkIsUp x then (u.sendRoleSwap x 0).setWait e.started (.roleSwap x) else u.answer e.started stConflict 0 [])) ∧
  (∀ (s : State) (o : Owner) (q t : Fin 65536) (c : Fin 16) (n y w a1 a2 b1 b2 : Fin 256), let e := cmdEntry o 0x0503 q t c (be 1 n ++ be 1 y ++ be 1 w ++ be 1 0 ++ be 1 a1 ++ be 1 a2 ++ be 1 b1 ++ be 1 b2)
    let u := s.withCommand e
    s.admits e →
    (∀ z v, z ≠ .done → u.busCheck o.master (u.cmdPriv e.started) .write (LN_ES_CTRL n) 4 = (z, v) → exec (.eyeScan o q t c n y w a1 a2 b1 b2) s = .next (v.answer e.started z.status 0 [])) ∧
    (u.busCheck o.master (u.cmdPriv e.started) .write (LN_ES_CTRL n) 4 = (.done, u) → u.rd (LN_ES_CTRL.BUSY n) ≠ 0 → exec (.eyeScan o q t c n y w a1 a2 b1 b2) s = .next (u.answer e.started stBusy 0 [])) ∧
    (u.busCheck o.master (u.cmdPriv e.started) .write (LN_ES_CTRL n) 4 = (.done, u) → u.rd (LN_ES_CTRL.BUSY n) = 0 → exec (.eyeScan o q t c n y w a1 a2 b1 b2) s = .next (((u.wr (LN_ES_CTRL.EYE n) y).wr (LN_ES_CTRL.DWELL n) w).scanPoints e.started n (scanGrid e.body) []))) ∧
  (∀ (s : State) (o : Owner) (q t : Fin 65536) (c : Fin 16) (x : Fin 256), let e := cmdEntry o 0x0600 q t c (be 1 x)
    let u := s.withCommand e
    s.admits e →
    exec (.pdStatus o q t c x) s = .next (u.answerRegs e.started [PD_STAT x, PD_CONTRACT x, PD_ALLOC x, PD_CABLE_VDO x, PD_PARTNER_IDH x, PD_PARTNER_TL x])) ∧
  (∀ (s : State) (o : Owner) (q t : Fin 65536) (c : Fin 16) (x y : Fin 256), let e := cmdEntry o 0x0601 q t c (be 1 x ++ be 1 y)
    let u := s.withCommand e
    s.admits e →
    exec (.pdAction o q t c x y) s = .next (if u.pdPossible x y = false then u.answer e.started stInvalid 0 []
      else if u.pdCommanded x = true ∨ ((y : Nat) ≠ 0 ∧ ((u.pd x).asked.isSome = true ∨ (u.pd x).swap.isSome = true)) then u.answer e.started stBusy 0 []
      else (u.setWait e.started (.pd x y)).pdStart x y)) ∧
  (∀ (s : State) (o : Owner) (q t : Fin 65536) (c : Fin 16) (x : Fin 256), let e := cmdEntry o 0x0602 q t c (be 1 x)
    let u := s.withCommand e
    s.admits e →
    exec (.efStatus o q t c x) s = .next (u.answerRegs e.started [EF_STAT x, EF_TMR x, EF_MEAS x, EF_EVT x, EF_EVT_CNT0 x, EF_EVT_CNT1 x])) ∧
  (∀ (s : State) (o : Owner) (q t : Fin 65536) (c : Fin 16) (x : Fin 256), let e := cmdEntry o 0x0603 q t c (be 1 x)
    let u := s.withCommand e
    s.admits e →
    exec (.efClear o q t c x) s = .next (u.withWrites e.started (u.cmdPriv e.started) [(EF_CMD x, 1)] fun v => v.answer e.started stOk 0 [])) ∧
  (∀ (s : State) (o : Owner) (q t : Fin 65536) (c : Fin 16), let e := cmdEntry o 0x0604 q t c ([])
    let u := s.withCommand e
    s.admits e →
    exec (.budgetStatus o q t c) s = .next (u.answerRegs e.started ([PDB_STAT, PDB_EVT, PDB_EVT_CNT] ++ (List.range 6).map PD_ALLOC))) ∧
  (∀ (s : State) (o : Owner) (q t : Fin 65536) (c : Fin 16) (x y : Fin 256) (k : BitVec 32) (d : List Byte), let e := cmdEntry o 0x0700 q t c (be 1 x ++ be 1 y ++ be 2 0 ++ wordLe k ++ d)
    let u := s.withCommand e
    s.admits e →
    exec (.keyLoad o q t c x y k d) s = .next (u.cmdKey e.started x y d (be 4 k.toNat))) ∧
  (∀ (s : State) (o : Owner) (q t : Fin 65536) (c : Fin 16) (x : Fin 256) (d : List Byte), let e := cmdEntry o 0x0701 q t c (be 1 x ++ be 3 0 ++ d)
    let u := s.withCommand e
    s.admits e →
    exec (.keyOp o q t c x d) s = .next (u.cmdKey e.started x 0 d [])) ∧
  (∀ (s : State) (o : Owner) (q t : Fin 65536) (c : Fin 16), let e := cmdEntry o 0x0702 q t c ([])
    let u := s.withCommand e
    s.admits e →
    exec (.keyErase o q t c) s = .next (u.cmdKey e.started 4 0 [] [])) ∧
  (∀ (s : State) (o : Owner) (q t : Fin 65536) (c : Fin 16) (x : Fin 256), let e := cmdEntry o 0x0703 q t c (be 1 x)
    let u := s.withCommand e
    s.admits e →
    ((x : Nat) = 0 → exec (.rollbackAdv o q t c x) s = .next (let k := max u.fuses.imgMin (if u.imageActive then min 32 (u.rd GC_IMG_INFO.SVN) else 0)
      ({ u with fuses := { u.fuses with imgMin := k } } : State).answer e.started stOk 0 (le 1 k))) ∧
    ((x : Nat) = 1 → exec (.rollbackAdv o q t c x) s = .next (({ u with fuses := { u.fuses with patchMin := max u.fuses.patchMin (min 16 (u.keys.patch.getD 0)) } } : State).answer e.started stOk 0
      (le 1 (max u.fuses.patchMin (min 16 (u.keys.patch.getD 0))))))) ∧
  (∀ (s : State) (o : Owner) (q t : Fin 65536) (c : Fin 16), let e := cmdEntry o 0x0704 q t c ([])
    let u := s.withCommand e
    s.admits e →
    exec (.certRead o q t c) s = .next (u.answer e.started stOk 0 certBytes)) ∧
  (∀ (s : State) (o : Owner) (q t : Fin 65536) (c : Fin 16) (x y : Fin 256), let e := cmdEntry o 0x0705 q t c (be 1 x ++ be 1 y)
    let u := s.withCommand e
    s.admits e →
    exec (.gateViol o q t c x y) s = .next (u.withRegs e.started [BG_VIOL_INFO x, BG_VIOL_ADDR_LO x, BG_VIOL_ADDR_HI x, BG_VIOL_TS_S x, BG_VIOL_TS_NS x, BG_VIOL_MORE x] fun d v =>
      if bitOf y 0 then v.withWrites e.started (v.cmdPriv e.started) [(BG_VIOL_INFO x, 0x80000000)] fun w => w.answer e.started stOk 0 d else v.answer e.started stOk 0 d))

/-- For every owner, SEQ, TXN and version with which the hub admits the command: LOG_READ, BIST_RUN, FARRIER_RUN, TIME_GET, TIME_STEP, TXTS_READ, DISP_STATUS,
DISP_EDID, DISP_TOPO, DOMAIN_STATUS, HUB_LIST, HUB_REMOVE, ROUTE_READ, RELAY, REG_READ, REG_WRITE, REG_RMW, RB_READ and RB_WRITE leave the state that their
group describes, their fields read from the places of the body: what they read, start, step, remove, relay or write, and the status and data of the answer,
or that the command goes on waiting. (R244, R246, R440, R441, R442, R443, R444, R445, R446) -/
def Obligations.CommandsOfDiagnosticsToRegisters : Prop :=
  (∀ (s : State) (o : Owner) (q t : Fin 65536) (c : Fin 16) (i : BitVec 32) (n : Fin 65536), let e := cmdEntry o 0x0800 q t c (wordLe i ++ le 2 n)
    let u := s.withCommand e
    s.admits e →
    exec (.logRead o q t c i n) s = .next (let next := match (u.logFrom e.body).getLast? with
      | some x => x.index + 1
      | none => max i.toNat (u.rd BT_LOG_OLDEST.VALUE)
      (if o = .smbus then { u with cmd := { u.cmd with smbNext := max u.cmd.smbNext next } } else u).answer e.started stOk 0
        (le 4 next ++ (u.logFrom e.body).flatMap fun y => y.bytes))) ∧
  (∀ (s : State) (o : Owner) (q t : Fin 65536) (c : Fin 16) (x : Fin 256), let e := cmdEntry o 0x0801 q t c (be 1 x)
    let u := s.withCommand e
    s.admits e →
    (∀ z v, z ≠ .done → u.busCheck o.master (u.cmdPriv e.started) .write BT_CTRL 4 = (z, v) → exec (.bistRun o q t c x) s = .next (v.answer e.started z.status 0 [])) ∧
    (u.busCheck o.master (u.cmdPriv e.started) .write BT_CTRL 4 = (.done, u) → (u.bistStart x).1 = stOk → exec (.bistRun o q t c x) s = .next (((u.bistStart x).2.wr BT_CTRL.BLOCK x).setWait e.started (.bist x))) ∧
    (u.busCheck o.master (u.cmdPriv e.started) .write BT_CTRL 4 = (.done, u) → (u.bistStart x).1 ≠ stOk → exec (.bistRun o q t c x) s = .next ((u.bistStart x).2.answer e.started (u.bistStart x).1 0 []))) ∧
  (∀ (s : State) (o : Owner) (q t : Fin 65536) (c : Fin 16), let e := cmdEntry o 0x0802 q t c ([])
    let u := s.withCommand e
    s.admits e →
    (∀ z v, z ≠ .done → u.busCheck o.master (u.cmdPriv e.started) .write SW_FAR_CTRL 4 = (z, v) → exec (.farrierRun o q t c) s = .next (v.answer e.started z.status 0 [])) ∧
    (u.busCheck o.master (u.cmdPriv e.started) .write SW_FAR_CTRL 4 = (.done, u) → u.rd SW_FAR_STAT.BUSY ≠ 0 → exec (.farrierRun o q t c) s = .next (u.answer e.started stBusy 0 [])) ∧
    (u.busCheck o.master (u.cmdPriv e.started) .write SW_FAR_CTRL 4 = (.done, u) → u.rd SW_FAR_STAT.BUSY = 0 → exec (.farrierRun o q t c) s = .next (u.startAudit.setWait e.started .farrier))) ∧
  (∀ (s : State) (o : Owner) (q t : Fin 65536) (c : Fin 16), let e := cmdEntry o 0x0900 q t c ([])
    let u := s.withCommand e
    s.admits e →
    exec (.timeGet o q t c) s = .next (u.withRegs e.started [TM_NS, TM_FRAC, TM_SEC_LO, TM_SEC_HI, TM_STAT, TM_FREQ, TM_OFS] fun d v => v.answer e.started stOk 0
      (bytesAt d 8 4 ++ bytesAt d 12 2 ++ bytesAt d 0 4 ++ bytesAt d 4 4 ++ le 2 0 ++ d.drop 16))) ∧
  (∀ (s : State) (o : Owner) (q t : Fin 65536) (c : Fin 16) (k : Bool) (d : List Byte), let e := cmdEntry o 0x0901 q t c (be 1 k.toNat ++ be 7 0 ++ d)
    let u := s.withCommand e
    s.admits e →
    (u.rd DM_GM_STAT.IS_GM = 0 → exec (.timeStep o q t c k d) s = .next (u.answer e.started stConflict 0 [])) ∧
    (u.rd DM_GM_STAT.IS_GM ≠ 0 → exec (.timeStep o q t c k d) s = .next (let x := u.stepTarget e.body
      u.withWrites e.started (u.cmdPriv e.started) [(TM_SET_NS, x.ns), (TM_SET_SEC_LO, x.sec % 2 ^ 32), (TM_SET_SEC_HI, x.sec / 2 ^ 32), (TM_CMD, 1)] fun v =>
        v.answer e.started stOk 0 []))) ∧
  (∀ (s : State) (o : Owner) (q t : Fin 65536) (c : Fin 16) (x y : Fin 256), let e := cmdEntry o 0x0902 q t c (be 1 x ++ be 1 y)
    let u := s.withCommand e
    s.admits e →
    (u.rd (EN_CFG.PTP_MODE x) ≠ 2 → exec (.txtsRead o q t c x y) s = .next (u.answer e.started stConflict 0 [])) ∧
    (u.rd (EN_CFG.PTP_MODE x) = 2 → u.busCheck o.master (u.cmdPriv e.started) .read (EN_TXTS_HEAD x) 4 = (.done, u) → exec (.txtsRead o q t c x y) s = .next ((u.takeStamps x y [] 0).2.2.answer e.started stOk 0 (le 1 (u.takeStamps x y [] 0).2.1 ++ le 3 0 ++ (u.takeStamps x y [] 0).1)))) ∧
  (∀ (s : State) (o : Owner) (q t : Fin 65536) (c : Fin 16) (x : Fin 256), let e := cmdEntry o 0x0A00 q t c (be 1 x)
    let u := s.withCommand e
    s.admits e →
    exec (.dispStatus o q t c x) s = .next (u.answerRegs e.started [DS_STAT x, DS_EVT x, DS_EVT_CNT0 x, DS_EVT_CNT1 x, DS_EVT_CNT2 x,
      DS_SIG x, DS_FRAME x, DS_TILES x])) ∧
  (∀ (s : State) (o : Owner) (q t : Fin 65536) (c : Fin 16) (x y : Fin 256), let e := cmdEntry o 0x0A01 q t c (be 1 x ++ be 1 y)
    let u := s.withCommand e
    s.admits e →
    ((u.dsMode x = 0 ∨ u.dsMode x = 2) → exec (.dispEdid o q t c x y) s = .next (u.answer e.started stConflict 0 [])) ∧
    (∀ b, (u.dsMode x = 3 ∨ u.dsMode x = 4) → (u.pipe x).panelEdid[(y : Nat)]? = some b → exec (.dispEdid o q t c x y) s = .next (u.answer e.started stOk 0 b)) ∧
    (∀ b, u.dsMode x = 1 → (u.pipe x).edid ≠ [] → (u.pipe x).edid[(y : Nat)]? = some b → exec (.dispEdid o q t c x y) s = .next (u.answer e.started stOk 0 b)) ∧
    (∀ b, u.dsMode x = 1 → (u.pipe x).edid = [] → (Tab.get [] u.img.edid x)[(y : Nat)]? = some b → exec (.dispEdid o q t c x y) s = .next (u.answer e.started stOk 0 b))) ∧
  (∀ (s : State) (o : Owner) (q t : Fin 65536) (c : Fin 16) (x : Fin 256), let e := cmdEntry o 0x0A02 q t c (be 1 x)
    let u := s.withCommand e
    s.admits e →
    exec (.dispTopo o q t c x) s = .next (if u.on (DS_CFG.HDCP_EN x) then u.answer e.started stOk 0 (u.pipe x).topo else u.answer e.started stConflict 0 [])) ∧
  (∀ (s : State) (o : Owner) (q t : Fin 65536) (c : Fin 16), let e := cmdEntry o 0x0B00 q t c ([])
    let u := s.withCommand e
    s.admits e →
    exec (.domainStatus o q t c) s = .next (u.answerRegs e.started [DM_ID, DM_FLOOR, DM_FLOOR_AGE, DM_GM_STAT, DM_GM_UID_LO, DM_GM_UID_HI,
      DM_PDK_STAT, DM_EVT, DM_EVT_CNT0, DM_EVT_CNT1])) ∧
  (∀ (s : State) (o : Owner) (q t : Fin 65536) (c : Fin 16), let e := cmdEntry o 0x0B01 q t c ([])
    let u := s.withCommand e
    s.admits e →
    (u.hostRole = false → exec (.hubList o q t c) s = .next (u.answer e.started stConflict 0 [])) ∧
    (u.hostRole = true → exec (.hubList o q t c) s = .next (u.withRegs e.started [DM_POS_LO, DM_POS_HI] fun d v => v.answer e.started stOk 0 (d ++ (List.range 64).flatMap fun i =>
      if (Tab.get ({} : PosEntry) v.dom.positions i).held then le 1 i ++ le 8 (Tab.get ({} : PosEntry) v.dom.positions i).uid else [])))) ∧
  (∀ (s : State) (o : Owner) (q t : Fin 65536) (c : Fin 16) (x : Fin 65536), let e := cmdEntry o 0x0B02 q t c (le 2 x)
    let u := s.withCommand e
    s.admits e →
    ((u.hostRole = false ∨ (x : Nat) / 64 ≠ u.hubAddr / 64 ∨ (Tab.get ({} : PosEntry) u.dom.positions (x % 64)).held = false) → exec (.hubRemove o q t c x) s = .next (u.answer e.started stConflict 0 [])) ∧
    (u.hostRole = true → (x : Nat) / 64 = u.hubAddr / 64 → (Tab.get ({} : PosEntry) u.dom.positions (x % 64)).held = true → exec (.hubRemove o q t c x) s = .next ((u.removeHub x).answer e.started stOk 0 []))) ∧
  (∀ (s : State) (o : Owner) (q t : Fin 65536) (c : Fin 16) (x y : Fin 65536), let e := cmdEntry o 0x0B03 q t c (le 2 x ++ le 2 y)
    let u := s.withCommand e
    s.admits e →
    exec (.routeRead o q t c x y) s = .next (u.answerRegs e.started ((List.range y).map fun i => DM_RT (x + i)))) ∧
  (∀ (s : State) (o : Owner) (q t : Fin 65536) (c : Fin 16) (x y : Fin 65536) (f : List Byte), let e := cmdEntry o 0x0B04 q t c (le 2 x ++ le 2 y ++ f)
    let u := s.withCommand e
    s.admits e →
    exec (.relay o q t c x y f) s = .next (if (x : Nat) = u.hubAddr then (u.setWait e.started (.relay x f)).acceptFrame State.runBase (fun z => decide (z.op ≠ 0x0B04)) (.a0 x) f 65552
      else (u.domMsg x 0 0x8D f).setWait e.started (.relay x f))) ∧
  (∀ (s : State) (o : Owner) (q t : Fin 65536) (c : Fin 16) (l : List Word), let e := cmdEntry o 0x0C00 q t c (addrBody l)
    let u := s.withCommand e
    s.admits e →
    exec (.regRead o q t c l) s = .next (u.answerRegs e.started (l.map BitVec.toNat))) ∧
  (∀ (s : State) (o : Owner) (q t : Fin 65536) (c : Fin 16) (l : List (Word × Word)), let e := cmdEntry o 0x0C01 q t c (pairBody l)
    let u := s.withCommand e
    s.admits e →
    exec (.regWrite o q t c l) s = .next (u.regWrites e.started 0 (l.map fun x => (x.1.toNat, x.2.toNat)))) ∧
  (∀ (s : State) (o : Owner) (q t : Fin 65536) (c : Fin 16) (a m v : BitVec 32), let e := cmdEntry o 0x0C02 q t c (wordLe a ++ wordLe m ++ wordLe v)
    let u := s.withCommand e
    s.admits e →
    exec (.regRmw o q t c a m v) s = .next (u.withRegs e.started [a.toNat] fun d w =>
      let z := (BitVec.ofNat 32 (leAt d 0 4) &&& ~~~ m) ||| (v &&& m)
      if w.clearsEnable a.toNat z.toNat then w.answer e.started stConflict a.toNat []
      else w.withWrites e.started (w.cmdPriv e.started) [(a.toNat, z.toNat)] fun y => y.answer e.started stOk 0 d)) ∧
  (∀ (s : State) (o : Owner) (q t : Fin 65536) (c : Fin 16) (x y : Fin 256) (a : BitVec 32), let e := cmdEntry o 0x0C03 q t c (be 1 x ++ be 1 y ++ be 2 0 ++ wordLe a)
    let u := s.withCommand e
    s.admits e →
    ((x : Nat) ≠ 0 → u.adpType x ≠ 10 → exec (.rbRead o q t c x y a) s = .next (u.answer e.started stInvalid 0 [])) ∧
    (((x : Nat) = 0 ∨ u.adpType x = 10) → ∀ v, u.rbRequest x true y a.toNat [] = (.full, v) → exec (.rbRead o q t c x y a) s = .next (v.answer e.started stResource 0 [])) ∧
    (((x : Nat) = 0 ∨ u.adpType x = 10) → ∀ v st, u.rbRequest x true y a.toNat [] = (.done st, v) → exec (.rbRead o q t c x y a) s = .next (v.answer e.started stOk 0 (rbData true st []))) ∧
    (((x : Nat) = 0 ∨ u.adpType x = 10) → ∀ v k, u.rbRequest x true y a.toNat [] = (.waits k, v) → exec (.rbRead o q t c x y a) s = .next (v.setWait e.started (.regBus k)))) ∧
  (∀ (s : State) (o : Owner) (q t : Fin 65536) (c : Fin 16) (x y : Fin 256) (a : BitVec 32) (d : List Byte), let e := cmdEntry o 0x0C04 q t c (be 1 x ++ be 1 y ++ be 2 0 ++ wordLe a ++ d)
    let u := s.withCommand e
    s.admits e →
    ((x : Nat) ≠ 0 → u.adpType x ≠ 10 → exec (.rbWrite o q t c x y a d) s = .next (u.answer e.started stInvalid 0 [])) ∧
    (((x : Nat) = 0 ∨ u.adpType x = 10) → ∀ v, u.rbRequest x false y a.toNat d = (.full, v) → exec (.rbWrite o q t c x y a d) s = .next (v.answer e.started stResource 0 [])) ∧
    (((x : Nat) = 0 ∨ u.adpType x = 10) → ∀ v st, u.rbRequest x false y a.toNat d = (.done st, v) → exec (.rbWrite o q t c x y a d) s = .next (v.answer e.started stOk 0 (rbData false st []))) ∧
    (((x : Nat) = 0 ∨ u.adpType x = 10) → ∀ v k, u.rbRequest x false y a.toNat d = (.waits k, v) → exec (.rbWrite o q t c x y a d) s = .next (v.setWait e.started (.regBus k))))
end

