-- ==== Sys2Proof/Laws/Bytes.lean ====
section
/-!
SUPPORT. Byte strings: numbers written in bytes and read back.
-/

namespace Sys2Proof.Machine

@[simp] theorem le_length (n v : Nat) : (le n v).length = n := by simp [le]
@[simp] theorem be_length (n v : Nat) : (be n v).length = n := by simp [be]

theorem le_succ (n v : Nat) : le (n + 1) v = BitVec.ofNat 8 v :: le n (v / 256) := by
  simp [le, List.range_succ_eq_map, Function.comp_def, Nat.div_div_eq_div_mul, Nat.pow_succ, Nat.mul_comm]

/-- A number written little-endian in `n` bytes reads back modulo `256 ^ n`. -/
theorem ofLe_le (n v : Nat) : ofLe (le n v) = v % 256 ^ n := by
  induction n generalizing v with
  | zero => simp [le, ofLe, Nat.mod_one]
  | succ n ih =>
    rw [le_succ, ofLe, List.foldr_cons, ← ofLe, ih, Nat.pow_succ, Nat.mul_comm (256 ^ n) 256, Nat.mod_mul]
    rfl

theorem ofBe_be (n v : Nat) : ofBe (be n v) = v % 256 ^ n := by simp [ofBe, be, ofLe_le]

@[simp] theorem ofLe_wordLe (v : Word) : BitVec.ofNat 32 (ofLe (wordLe v)) = v := by
  rw [wordLe, ofLe_le, Nat.mod_eq_of_lt (by have := v.isLt; omega), BitVec.ofNat_toNat, BitVec.setWidth_eq]

@[simp] theorem wordLe_length (v : Word) : (wordLe v).length = 4 := le_length _ _

/-- A number of `n` bytes read at its place in a longer string. -/
theorem leAt_append (p q : List Byte) (n v i : Nat) (h : p.length = i) (hv : v < 256 ^ n) : leAt (p ++ le n v ++ q) i n = v := by
  unfold leAt bytesAt; subst h
  rw [List.append_assoc, List.drop_left, List.take_append_of_le_length (by simp), List.take_of_length_le (by simp), ofLe_le, Nat.mod_eq_of_lt hv]

end Sys2Proof.Machine
end

