-- ==== Sys2Proof/Laws/Bus.lean ====
section
/-!
SUPPORT. Granted accesses: of the management bus, and of a display pipe to frame memory.
-/

namespace Sys2Proof.Machine

/-- A granted write of a word to a plain register: it changes the register and starts what the register starts (R8, R23). -/
theorem State.writeBy_reg {s : State} {m : Master} {a : Nat} {v : Word} {b : Block} {r : RegSpec} (hg : s.grants m .write a 4) (hlo : 0x340000 ≤ a) (hhi : a < 0x80000000)
   (hb : blockOf a = some b) (hr : regSpecAt a = some r) (hf : fixedReg a = false) (hst : r.changesSt (s.reg a) v = false) (hk : keyReg a = false)
   (hal : alTableOf a = none) (hw : (r.fields.any (fun f => decide (f.access = .w1c))) = false) :
   s.writeBy m a v = ((s.writeReg a v).triggers a v).send (.busWrite true) := by
  have ht : s.targetOf a = .reg b := by
    have h1 : ¬ a < 0x100000 := by omega
    have h2 : ¬ a < 0x300000 := by omega
    have h3 : ¬ a < 0x340000 := by omega
    have h4 : ¬ 0x80000000 ≤ a := by omega
    simp [State.targetOf, h1, h2, h3, h4, hb]
  unfold State.writeBy State.busWrite
  simp only [wordLe_length]; rw [show s.busCheck m m.priv .write a 4 = (.done, s) from hg]
  simp only [ht, ofLe_wordLe, if_true, State.directWrite, hf, hr, hst, hk, hal, hw]
  simp [BusEnd.ok]

/-- A granted access of a gate changes nothing (R384). -/
theorem State.gatePass_granted {s : State} {g a : Nat} {m : Master} {p : Priv} {k : AccessKind} {n : Nat} (h : (s.judge g a p k).ok = true) :
    s.gatePass g a m p k n = (true, s) := by
  simp only [State.gatePass, h, if_true]

/-- A DMA read whose every access gate 25 grants gives what frame memory holds and changes nothing (R385). -/
theorem State.dmaRead_granted (s : State) (d a n : Nat) (h : ∀ u ∈ dmaUnits a n, (s.judge 25 (frameGate u.1) .e .read).ok = true) :
    s.dmaRead d a n = ((dmaUnits a n).flatMap fun u => s.frameBytes u.1 u.2, s) := by
  unfold State.dmaRead
  suffices H : ∀ (l : List (Nat × Nat)) (p : List Byte), (∀ u ∈ l, (s.judge 25 (frameGate u.1) .e .read).ok = true) →
      l.foldl (fun (p : List Byte × State) u =>
        let r := p.2.gatePass 25 (frameGate u.1) (.displayDma (Fin.ofNat 4 d)) .e .read u.2
        if r.1 then (p.1 ++ r.2.frameBytes u.1 u.2, r.2)
        else let f := r.2.freshBytes u.2; (p.1 ++ f.1, f.2)) (p, s)
      = (p ++ l.flatMap fun u => s.frameBytes u.1 u.2, s) by
    simpa using H (dmaUnits a n) [] h
  intro l
  induction l with
  | nil => intro p _; simp
  | cons u l ih =>
    intro p hl
    have hu := hl u (by simp)
    simp only [List.foldl_cons, List.flatMap_cons, State.gatePass_granted hu, if_true]
    rw [ih _ fun v hv => hl v (by simp [hv]), List.append_assoc]

end Sys2Proof.Machine
end

