-- ==== Sys2Proof/Laws/Commands.lean ====
section
/-!
SUPPORT. Request frames, and the command that an admitted frame starts.
-/

namespace Sys2Proof.Machine

/-- A request frame read back is the entry of its fields. -/
theorem entryOf_request {o : Owner} {op seq txn csv lim : Nat} {body : List Byte} (h1 : op < 65536) (h2 : seq < 65536) (h3 : txn < 65536) (h4 : csv < 16) :
   entryOf o (requestFrame op seq txn csv body) lim = { owner := o, op := op, seq := seq, txn := txn, csv := csv, flags := 0, rsv := 0, body := body, limit := lim } := by
  have e0 : leAt (requestFrame op seq txn csv body) 0 2 = op := by
    have := leAt_append [] (le 2 seq ++ le 2 txn ++ le 2 (csv * 4096) ++ le 4 body.length ++ le 4 0 ++ body) 2 op 0 rfl (by omega)
    simpa [requestFrame] using this
  have e1 : leAt (requestFrame op seq txn csv body) 2 2 = seq := by
    have := leAt_append (le 2 op) (le 2 txn ++ le 2 (csv * 4096) ++ le 4 body.length ++ le 4 0 ++ body) 2 seq 2 (by simp) (by omega)
    simpa [requestFrame] using this
  have e2 : leAt (requestFrame op seq txn csv body) 4 2 = txn := by
    have := leAt_append (le 2 op ++ le 2 seq) (le 2 (csv * 4096) ++ le 4 body.length ++ le 4 0 ++ body) 2 txn 4 (by simp) (by omega)
    simpa [requestFrame] using this
  have e3 : leAt (requestFrame op seq txn csv body) 6 2 = csv * 4096 := by
    have := leAt_append (le 2 op ++ le 2 seq ++ le 2 txn) (le 4 body.length ++ le 4 0 ++ body) 2 (csv * 4096) 6 (by simp) (by omega)
    simpa [requestFrame] using this
  have e4 : leAt (requestFrame op seq txn csv body) 12 4 = 0 := by
    have := leAt_append (le 2 op ++ le 2 seq ++ le 2 txn ++ le 2 (csv * 4096) ++ le 4 body.length) body 4 0 12 (by simp) (by omega)
    simpa [requestFrame] using this
  have e5 : (requestFrame op seq txn csv body).drop 16 = body := by
    have : requestFrame op seq txn csv body = (le 2 op ++ le 2 seq ++ le 2 txn ++ le 2 (csv * 4096) ++ le 4 body.length ++ le 4 0) ++ body := by simp [requestFrame]
    rw [this, List.drop_left' (by simp)]
  simp only [entryOf, e0, e1, e2, e3, e4, e5]
  simp
/-- The frame of a command that is admitted executes that command at once. -/
theorem State.admits_runs {s : State} {o : Owner} {op seq txn csv : Nat} {body : List Byte} (h1 : op < 65536) (h2 : seq < 65536) (h3 : txn < 65536) (h4 : csv < 16) (hb : body.length < 2^32)
   (h : s.admits (cmdEntry o op seq txn csv body)) : s.acceptCmd o (requestFrame op seq txn csv body) (rowLimit o) = State.runCmd (cmdEntry o op seq txn csv body).started (s.withCommand (cmdEntry o op seq txn csv body)) := by
  obtain ⟨a1, a2, a3, a4, a5, a6, a7, a8⟩ := h
  have len : (requestFrame op seq txn csv body).length = 16 + body.length := by simp [requestFrame, le_length]; omega
  have ok : frameOk (requestFrame op seq txn csv body) = true := by
    have e4 : leAt (requestFrame op seq txn csv body) 8 4 = body.length := by
      have := leAt_append (le 2 op ++ le 2 seq ++ le 2 txn ++ le 2 (csv * 4096)) (le 4 0 ++ body) 4 body.length 8 (by simp) (by omega)
      simpa [requestFrame] using this
    have e6 : byteAt (requestFrame op seq txn csv body) 6 = 0 := by
      simp [byteAt, requestFrame, le, List.range_succ]
      omega
    simp [frameOk, len, e4, e6]
  unfold State.acceptCmd State.acceptFrame
  rw [entryOf_request h1 h2 h3 h4]
  have hs : s.served o = true := a1
  have hnot : ¬ rowLimit o < (requestFrame op seq txn csv body).length := by rw [len]; simp [cmdEntry] at a4; omega
  have hin : s.inHand o seq = false := by simp [State.inHand, a2]
  have hc : s.cached o seq = none := a3
  simp only [hs, hnot, ok, hin, hc]
  simp only [not_true_eq_false, if_false, Bool.false_eq_true]
  unfold State.queueCmd
  have hver : ¬ ((csv ≠ 2 ∧ csv ≠ 3) ∨ (csv = 2 ∧ since3 op = true)) := by
    simp only [cmdEntry] at a5; rcases a5 with h | ⟨h, h'⟩ <;> simp [h]; simpa using h'
  simp only [hver, if_false, a2]
  simp only [List.filter_nil, List.length_nil, List.nil_append, List.length_singleton, State.runQueued]
  have hrun : s.clk.stopped = false := by
    simp only [State.served, Bool.and_eq_true, Bool.not_eq_true'] at hs
    exact hs.1
  have e : ∀ (c : CmdEntry), c.running = false → State.startable { s with cmd := { s.cmd with entries := [c] } } (fun _ => true) = some c := by
    intro c hc
    have b6 : ¬ (2 ≤ State.rd { s with cmd := { s.cmd with entries := [c] } } PS_STAT.STATE) := by
      have : State.rd { s with cmd := { s.cmd with entries := [c] } } PS_STAT.STATE = s.rd PS_STAT.STATE := rfl
      omega
    have b7 : State.on { s with cmd := { s.cmd with entries := [c] } } PS_STAT.WAKING = false := by
      have : State.rd { s with cmd := { s.cmd with entries := [c] } } PS_STAT.WAKING = 0 := a7
      simp [State.on, this]
    simp [State.startable, hc, b6, b7, hrun]
  have e' := e { owner := o, op := op, seq := seq, txn := txn, csv := csv, flags := 0, rsv := 0, body := body, limit := rowLimit o } rfl
  simp only [e', State.start]
  have pc : State.precheck { s with cmd := { s.cmd with entries := [cmdEntry o op seq txn csv body] } } (cmdEntry o op seq txn csv body) =
    s.precheck (cmdEntry o op seq txn csv body) := rfl
  simp only [cmdEntry] at pc a8
  simp only [pc, a8]
  simp [State.withCommand, CmdEntry.started, cmdEntry]
end Sys2Proof.Machine
end

