-- ==== Sys2Proof/Laws/Tab.lean ====
section
/-!
SUPPORT. Tables: a write keeps the canonical form; a read gives what was last written at its key.
-/

namespace Sys2Proof.Machine

variable {α : Type}

theorem Tab.risesFrom_mono {b c : Nat} (h : b ≤ c) : ∀ t : Tab α, Tab.risesFrom c t = true → Tab.risesFrom b t = true
  | [], _ => rfl
  | (j, v) :: t, ht => by
    simp only [Tab.risesFrom, Bool.and_eq_true, decide_eq_true_eq] at ht ⊢
    exact ⟨by omega, ht.2⟩

/-- Leaving entries out keeps the keys rising. -/
theorem Tab.filter_rises (p : Nat × α → Bool) {b : Nat} : ∀ t : Tab α, Tab.risesFrom b t = true → Tab.risesFrom b (t.filter p) = true
  | [], _ => rfl
  | (j, v) :: t, ht => by
    simp only [Tab.risesFrom, Bool.and_eq_true, decide_eq_true_eq] at ht
    simp only [List.filter_cons]
    split
    · simp only [Tab.risesFrom, Bool.and_eq_true, decide_eq_true_eq]
      exact ⟨ht.1, Tab.filter_rises p t ht.2⟩
    · exact Tab.risesFrom_mono (by omega) _ (Tab.filter_rises p t ht.2)

theorem Tab.ins_rises {b k : Nat} {v : α} (hk : b ≤ k) : ∀ t : Tab α, Tab.risesFrom b t = true → Tab.risesFrom b (Tab.ins t k v) = true
  | [], _ => by simp [Tab.ins, Tab.risesFrom, hk]
  | (j, w) :: t, ht => by
    simp only [Tab.risesFrom, Bool.and_eq_true, decide_eq_true_eq] at ht
    unfold Tab.ins
    split
    · next h => subst h; simp [Tab.risesFrom, hk, ht.2]
    · split
      · simp only [Tab.risesFrom, Bool.and_eq_true, decide_eq_true_eq]
        exact ⟨hk, by omega, ht.2⟩
      · simp only [Tab.risesFrom, Bool.and_eq_true, decide_eq_true_eq]
        exact ⟨ht.1, Tab.ins_rises (by omega) t ht.2⟩

theorem Tab.del_rises {k : Nat} : ∀ {b : Nat} (t : Tab α), Tab.risesFrom b t = true → Tab.risesFrom b (Tab.del t k) = true
  | _, [], _ => rfl
  | _, (j, v) :: t, ht => by
    simp only [Tab.risesFrom, Bool.and_eq_true, decide_eq_true_eq] at ht
    unfold Tab.del
    split
    · exact Tab.risesFrom_mono (by omega) _ (Tab.del_rises t ht.2)
    · simp only [Tab.risesFrom, Bool.and_eq_true, decide_eq_true_eq]
      exact ⟨ht.1, Tab.del_rises t ht.2⟩

theorem Tab.mem_del {k : Nat} {e : Nat × α} : ∀ t : Tab α, e ∈ Tab.del t k → e ∈ t
  | [], h => h
  | (j, v) :: t, h => by
    unfold Tab.del at h
    split at h
    · exact List.mem_cons_of_mem _ (Tab.mem_del t h)
    · rcases List.mem_cons.mp h with rfl | h
      · exact List.mem_cons_self
      · exact List.mem_cons_of_mem _ (Tab.mem_del t h)

theorem Tab.mem_ins {k : Nat} {v : α} {e : Nat × α} : ∀ t : Tab α, e ∈ Tab.ins t k v → e ∈ t ∨ e = (k, v)
  | [], h => by simp [Tab.ins] at h; exact .inr h
  | (j, w) :: t, h => by
    unfold Tab.ins at h
    split at h
    · rcases List.mem_cons.mp h with rfl | h
      · exact .inr rfl
      · exact .inl (List.mem_cons_of_mem _ h)
    · split at h
      · rcases List.mem_cons.mp h with rfl | h
        · exact .inr rfl
        · exact .inl h
      · rcases List.mem_cons.mp h with rfl | h
        · exact .inl List.mem_cons_self
        · exact (Tab.mem_ins t h).imp (List.mem_cons_of_mem _) id

/-- Leaving entries out keeps the canonical form. -/
theorem Tab.filter_wf [DecidableEq α] (d : Nat → α) (p : Nat × α → Bool) (t : Tab α) (h : Tab.wf d t = true) :
    Tab.wf d (t.filter p) = true := by
  simp only [Tab.wf, Bool.and_eq_true, List.all_eq_true, decide_eq_true_eq] at h ⊢
  exact ⟨Tab.filter_rises p t h.1, fun e he => h.2 e (List.mem_filter.mp he).1⟩

/-- A write keeps the canonical form; `d` is what each key reads as when it is not listed. -/
theorem Tab.put_wf [DecidableEq α] (d : Nat → α) (t : Tab α) (k : Nat) (v : α) (h : Tab.wf d t = true) :
    Tab.wf d (Tab.put (d k) t k v) = true := by
  simp only [Tab.wf, Bool.and_eq_true, List.all_eq_true, decide_eq_true_eq] at h ⊢
  unfold Tab.put
  split
  · exact ⟨Tab.del_rises t h.1, fun e he => h.2 e (Tab.mem_del t he)⟩
  · next hv =>
    refine ⟨Tab.ins_rises (Nat.zero_le k) t h.1, fun e he => ?_⟩
    rcases Tab.mem_ins t he with he | rfl
    · exact h.2 e he
    · exact hv

theorem Tab.get_del_self (d : α) (k : Nat) : ∀ t : Tab α, Tab.get d (Tab.del t k) k = d
  | [] => rfl
  | (j, v) :: t => by
    unfold Tab.del
    split
    · exact Tab.get_del_self d k t
    · next h => simp only [Tab.get, if_neg h, Tab.get_del_self d k t]

theorem Tab.get_ins_self (d : α) (k : Nat) (v : α) : ∀ t : Tab α, Tab.get d (Tab.ins t k v) k = v
  | [] => by simp [Tab.ins, Tab.get]
  | (j, w) :: t => by
    unfold Tab.ins
    split
    · simp [Tab.get]
    · split
      · simp [Tab.get]
      · next h _ => simp [Tab.get, h, Tab.get_ins_self d k v t]

theorem Tab.get_del_ne (d : α) {j k : Nat} (hjk : j ≠ k) : ∀ t : Tab α, Tab.get d (Tab.del t k) j = Tab.get d t j
  | [] => rfl
  | (i, v) :: t => by
    unfold Tab.del
    split
    · next h => simp only [Tab.get, if_neg (h ▸ hjk.symm : i ≠ j), Tab.get_del_ne d hjk t]
    · simp only [Tab.get, Tab.get_del_ne d hjk t]

theorem Tab.get_ins_ne (d : α) {j k : Nat} (hjk : j ≠ k) (v : α) : ∀ t : Tab α, Tab.get d (Tab.ins t k v) j = Tab.get d t j
  | [] => by simp [Tab.ins, Tab.get, hjk.symm]
  | (i, w) :: t => by
    unfold Tab.ins
    split
    · next h => subst h; simp [Tab.get, hjk.symm]
    · split
      · simp [Tab.get, hjk.symm]
      · simp only [Tab.get, Tab.get_ins_ne d hjk v t]

/-- A read of the key written gives the value. -/
@[simp] theorem Tab.get_put_self [DecidableEq α] (d : α) (t : Tab α) (k : Nat) (v : α) : Tab.get d (Tab.put d t k v) k = v := by
  unfold Tab.put
  split
  · next hv => rw [hv]; exact Tab.get_del_self d k t
  · exact Tab.get_ins_self d k v t

/-- A read of another key gives what it gave before. -/
theorem Tab.get_put_ne [DecidableEq α] (d e : α) (t : Tab α) {j k : Nat} (v : α) (hjk : j ≠ k) :
    Tab.get d (Tab.put e t k v) j = Tab.get d t j := by
  unfold Tab.put
  split
  · exact Tab.get_del_ne d hjk t
  · exact Tab.get_ins_ne d hjk v t

end Sys2Proof.Machine
end

