-- ==== Sys2Proof/Laws/Regs.lean ====
section
/-!
SUPPORT. Fields and registers: what a field reads after a write of it, of another field of its register, of another register; what reporting an event does
to the registers.
-/

namespace Sys2Proof

theorem testBit_getField (w : Word) (lo width i : Nat) :
    (getField w lo width).testBit i = (decide (i < width) && w.getLsbD (lo + i)) := by
  simp only [getField, ← BitVec.getLsbD.eq_1, BitVec.getLsbD_and, BitVec.getLsbD_ushiftRight, BitVec.getLsbD_ofNat, Nat.testBit_two_pow_sub_one]
  by_cases h : lo + i < 32
  · have : i < 32 := by omega
    simp [this, Bool.and_comm]
  · have : w.getLsbD (lo + i) = false := BitVec.getLsbD_of_ge w _ (by omega)
    simp [this]

theorem getLsbD_setField (w : Word) (lo width v i : Nat) (hi : i < 32) :
    (setField w lo width v).getLsbD i = if lo ≤ i ∧ i < lo + width then v.testBit (i - lo) else w.getLsbD i := by
  simp only [setField, fieldMask, BitVec.getLsbD_or, BitVec.getLsbD_and, BitVec.getLsbD_not, BitVec.getLsbD_shiftLeft, BitVec.getLsbD_ofNat,
    Nat.testBit_two_pow_sub_one, hi, decide_true, Bool.true_and]
  by_cases h1 : i < lo
  · have h2 : ¬ lo ≤ i := by omega
    simp [h1, h2]
  · by_cases h2 : i < lo + width
    · have : i - lo < width := by omega
      have h4 : i - lo < 32 := by omega
      simp [h2, this, h4, Nat.not_lt.mp h1, h1]
    · have : ¬ i - lo < width := by omega
      simp [this, h2]

/-- A field reads what was written to it, truncated to its width. -/
theorem getField_setField (w : Word) (lo width v : Nat) (h : lo + width ≤ 32) :
    getField (setField w lo width v) lo width = v % 2 ^ width := by
  apply Nat.eq_of_testBit_eq
  intro i
  rw [testBit_getField, Nat.testBit_mod_two_pow]
  by_cases hi : i < width
  · rw [getLsbD_setField _ _ _ _ _ (by omega)]
    have : lo ≤ lo + i ∧ lo + i < lo + width := by omega
    simp [hi]
  · simp [hi]

/-- A write of one field leaves a field that shares no bit with it. -/
theorem getField_setField_apart (w : Word) (lo width lo' width' v : Nat) (h : lo' + width' ≤ lo ∨ lo + width ≤ lo') :
    getField (setField w lo width v) lo' width' = getField w lo' width' := by
  apply Nat.eq_of_testBit_eq
  intro i
  rw [testBit_getField, testBit_getField]
  by_cases hi : i < width'
  · by_cases h32 : lo' + i < 32
    · rw [getLsbD_setField _ _ _ _ _ h32]
      have : ¬ (lo ≤ lo' + i ∧ lo' + i < lo + width) := by omega
      rw [if_neg this]
    · rw [BitVec.getLsbD_of_ge _ _ (by omega), BitVec.getLsbD_of_ge _ _ (by omega)]
  · simp [hi]

namespace Machine

@[simp] theorem State.reg_setReg_self (s : State) (a : Nat) (w : Word) : (s.setReg a w).reg a = w := by
  simp [State.reg, State.setReg]

theorem State.reg_setReg_ne (s : State) {a b : Nat} (w : Word) (h : b ≠ a) : (s.setReg a w).reg b = s.reg b := by
  simp [State.reg, State.setReg, Tab.get_put_ne _ _ _ _ h]

/-- A read of the field written gives the value, truncated to the field. -/
theorem State.rd_wr_self (s : State) (f : Fld) (v : Nat) (h : f.lo + f.width ≤ 32) : (s.wr f v).rd f = v % 2 ^ f.width := by
  simp only [State.rd, State.wr, State.reg_setReg_self]
  exact getField_setField _ _ _ _ h

/-- A write leaves the fields of other registers and the fields of the same register that share no bit with it. -/
theorem State.rd_wr_ne (s : State) (f g : Fld) (v : Nat) (h : g.addr ≠ f.addr ∨ g.lo + g.width ≤ f.lo ∨ f.lo + f.width ≤ g.lo) :
    (s.wr f v).rd g = s.rd g := by
  by_cases ha : g.addr = f.addr
  · simp only [State.rd, State.wr, ha, State.reg_setReg_self]
    exact getField_setField_apart _ _ _ _ _ _ (h.resolve_left (fun c => c ha))
  · simp only [State.rd, State.wr, State.reg_setReg_ne _ _ ha]

theorem State.reg_wr_ne (s : State) (f : Fld) (v : Nat) {a : Nat} (h : a ≠ f.addr) : (s.wr f v).reg a = s.reg a := State.reg_setReg_ne _ _ h

theorem State.reg_wr_self (s : State) (f : Fld) (v : Nat) : (s.wr f v).reg f.addr = setField (s.reg f.addr) f.lo f.width v := State.reg_setReg_self _ _ _

/-! ### Fields that hold nothing else of the state -/

@[simp] theorem State.setReg_out (s : State) (a : Nat) (w : Word) : (s.setReg a w).out = s.out := rfl
@[simp] theorem State.setReg_pending (s : State) (a : Nat) (w : Word) : (s.setReg a w).pending = s.pending := rfl
@[simp] theorem State.setReg_mem (s : State) (a : Nat) (w : Word) : (s.setReg a w).mem = s.mem := rfl
@[simp] theorem State.setReg_flash (s : State) (a : Nat) (w : Word) : (s.setReg a w).flash = s.flash := rfl
@[simp] theorem State.setReg_frame (s : State) (a : Nat) (w : Word) : (s.setReg a w).frame = s.frame := rfl
@[simp] theorem State.setReg_time (s : State) (a : Nat) (w : Word) : (s.setReg a w).time = s.time := rfl
@[simp] theorem State.setReg_uptime (s : State) (a : Nat) (w : Word) : (s.setReg a w).uptime = s.uptime := rfl
@[simp] theorem State.setReg_fuses (s : State) (a : Nat) (w : Word) : (s.setReg a w).fuses = s.fuses := rfl
@[simp] theorem State.setReg_test (s : State) (a : Nat) (w : Word) : (s.setReg a w).test = s.test := rfl
@[simp] theorem State.setReg_cmd (s : State) (a : Nat) (w : Word) : (s.setReg a w).cmd = s.cmd := rfl
@[simp] theorem State.setReg_links (s : State) (a : Nat) (w : Word) : (s.setReg a w).links = s.links := rfl
@[simp] theorem State.setReg_lanes (s : State) (a : Nat) (w : Word) : (s.setReg a w).lanes = s.lanes := rfl
@[simp] theorem State.setReg_adps (s : State) (a : Nat) (w : Word) : (s.setReg a w).adps = s.adps := rfl
@[simp] theorem State.setReg_keys (s : State) (a : Nat) (w : Word) : (s.setReg a w).keys = s.keys := rfl
@[simp] theorem State.setReg_img (s : State) (a : Nat) (w : Word) : (s.setReg a w).img = s.img := rfl
@[simp] theorem State.setReg_efs (s : State) (a : Nat) (w : Word) : (s.setReg a w).efs = s.efs := rfl
@[simp] theorem State.setReg_pds (s : State) (a : Nat) (w : Word) : (s.setReg a w).pds = s.pds := rfl
@[simp] theorem State.send_regs (s : State) (o : Out) : (s.send o).regs = s.regs := rfl
@[simp] theorem State.send_out (s : State) (o : Out) : (s.send o).out = s.out ++ [o] := rfl
@[simp] theorem State.send_reg (s : State) (o : Out) (a : Nat) : (s.send o).reg a = s.reg a := rfl
@[simp] theorem State.send_rd (s : State) (o : Out) (f : Fld) : (s.send o).rd f = s.rd f := rfl
@[simp] theorem State.send_on (s : State) (o : Out) (f : Fld) : (s.send o).on f = s.on f := rfl
@[simp] theorem State.setLink_reg (s : State) (p : Nat) (l : LinkSt) (a : Nat) : (s.setLink p l).reg a = s.reg a := rfl
@[simp] theorem State.setLane_reg (s : State) (n : Nat) (l : LaneSt) (a : Nat) : (s.setLane n l).reg a = s.reg a := rfl
@[simp] theorem State.setAdp_reg (s : State) (n : Nat) (l : AdapterSt) (a : Nat) : (s.setAdp n l).reg a = s.reg a := rfl
@[simp] theorem State.setEng_reg (s : State) (n : Nat) (l : EngineSt) (a : Nat) : (s.setEng n l).reg a = s.reg a := rfl
@[simp] theorem State.setSched_reg (s : State) (n : Nat) (l : SchedSt) (a : Nat) : (s.setSched n l).reg a = s.reg a := rfl

/-! ### Reading a table back -/

@[simp] theorem State.lane_setLane (s : State) (n : Nat) (v : LaneSt) : (s.setLane n v).lane n = v := Tab.get_put_self _ _ _ _
@[simp] theorem State.link_setLink (s : State) (n : Nat) (v : LinkSt) : (s.setLink n v).link n = v := Tab.get_put_self _ _ _ _
@[simp] theorem State.link_modLink (s : State) (n : Nat) (f : LinkSt → LinkSt) : (s.modLink n f).link n = f (s.link n) := Tab.get_put_self _ _ _ _
@[simp] theorem State.adp_modAdp (s : State) (n : Nat) (f : AdapterSt → AdapterSt) : (s.modAdp n f).adp n = f (s.adp n) := Tab.get_put_self _ _ _ _
@[simp] theorem State.eng_modEng (s : State) (n : Nat) (f : EngineSt → EngineSt) : (s.modEng n f).eng n = f (s.eng n) := Tab.get_put_self _ _ _ _
@[simp] theorem State.sched_modSched (s : State) (n : Nat) (f : SchedSt → SchedSt) : (s.modSched n f).sched n = f (s.sched n) := Tab.get_put_self _ _ _ _

end Machine

end Sys2Proof
end

