-- ==== Sys2Proof/Laws/Events.lean ====
section
/-!
SUPPORT. What reporting an event does (R10, R453, R456): its flag, its count, the log and the notifications, and nothing else.
-/

namespace Sys2Proof.Machine

/-- The registers that reporting an event may write: its flag, its count, those of the log, and the flag and count of a lost notification. -/
def eventRegs (e : Evt) : List Nat :=
  [e.flag.addr, e.count.addr, BT_LOG_HEAD, BT_LOG_OLDEST, BT_LOG_LOST, Ev.BT_NOTIFY_LOST.flag.addr, Ev.BT_NOTIFY_LOST.count.addr]

@[simp] theorem State.reg_accept (s : State) (a : Nat) (u : NativeUnit) (r : Nat) : (s.accept a u).reg r = s.reg r := rfl
@[simp] theorem State.reg_domMsg (s : State) (h a t : Nat) (b : List Byte) (r : Nat) : (s.domMsg h a t b).reg r = s.reg r := rfl

theorem State.reg_setFlag (s : State) (e : Evt) {a : Nat} (h1 : a ≠ e.flag.addr) (h2 : a ≠ e.count.addr) : (s.setFlag e).2.reg a = s.reg a := by
  simp only [State.setFlag, State.satAdd]
  rw [State.reg_wr_ne _ _ _ h1, State.reg_wr_ne _ _ _ h2]

theorem State.reg_writeLog (s : State) (sv so i o b c : Nat) (d : List Word) {a : Nat} (h1 : a ≠ BT_LOG_HEAD) (h2 : a ≠ BT_LOG_OLDEST)
    (h3 : a ≠ BT_LOG_LOST) : (s.writeLog sv so i o b c d).2.reg a = s.reg a := by
  simp only [State.writeLog, State.satAdd, State.wrapAdd]
  rw [State.reg_wr_ne _ _ _ h3, State.reg_wr_ne _ _ _ h2, State.reg_wr_ne _ _ _ h1]
  rfl

theorem State.reg_notifyLost (s : State) {a : Nat} (h1 : a ≠ BT_LOG_HEAD) (h2 : a ≠ BT_LOG_OLDEST) (h3 : a ≠ BT_LOG_LOST)
    (h4 : a ≠ Ev.BT_NOTIFY_LOST.flag.addr) (h5 : a ≠ Ev.BT_NOTIFY_LOST.count.addr) : s.notifyLost.reg a = s.reg a := by
  simp only [State.notifyLost]
  split
  · rw [State.reg_writeLog _ _ _ _ _ _ _ _ h1 h2 h3, State.reg_setFlag _ _ h4 h5]
  · rw [State.reg_setFlag _ _ h4 h5]

theorem State.reg_notify (s : State) (e : LogEntry) {a : Nat} (h1 : a ≠ BT_LOG_HEAD) (h2 : a ≠ BT_LOG_OLDEST) (h3 : a ≠ BT_LOG_LOST)
    (h4 : a ≠ Ev.BT_NOTIFY_LOST.flag.addr) (h5 : a ≠ Ev.BT_NOTIFY_LOST.count.addr) : (s.notify e).reg a = s.reg a := by
  have hu : ∀ (t : State) b, ((t.notifyUsb b).getD t.notifyLost).reg a = t.reg a := by
    intro t b
    simp only [State.notifyUsb]
    split
    · rfl
    · exact State.reg_notifyLost t h1 h2 h3 h4 h5
  have hh : ∀ (t : State) b, ((t.notifyHub b).getD t.notifyLost).reg a = t.reg a := by
    intro t b
    simp only [State.notifyHub]
    split
    · split
      · exact State.reg_notifyLost t h1 h2 h3 h4 h5
      · rfl
    · rfl
  simp only [State.notify]
  split
  · rfl
  · split <;> split <;> simp only [hu, hh]

/-- A register that is none of an event's is left by reporting it. -/
theorem State.reg_raiseWith (s : State) (e : Evt) (al : Bool) (d : List Word) {a : Nat} (h : a ∉ eventRegs e) :
    (s.raiseWith e al d).reg a = s.reg a := by
  simp only [eventRegs, List.mem_cons, List.not_mem_nil, or_false, not_or] at h
  obtain ⟨h1, h2, h3, h4, h5, h6, h7⟩ := h
  simp only [State.raiseWith]
  split
  · rfl
  · split
    · rw [State.reg_notify _ _ h3 h4 h5 h6 h7, State.reg_writeLog _ _ _ _ _ _ _ _ h3 h4 h5, State.reg_setFlag _ _ h1 h2]
    · rw [State.reg_setFlag _ _ h1 h2]

theorem State.reg_raise (s : State) (e : Evt) {a : Nat} (h : a ∉ eventRegs e) : (s.raise e).reg a = s.reg a := State.reg_raiseWith s e false [] h

theorem State.rd_raise (s : State) (e : Evt) (f : Fld) (h : f.addr ∉ eventRegs e) : (s.raise e).rd f = s.rd f := by
  simp only [State.rd, State.reg_raise s e h]

/-! ### What reporting an event leaves of the rest of the state -/

/-- A state that differs from `s` in registers, log, command state and accepted units at most. -/
def Reported (s t : State) : Prop := ∃ r te c a, t = { s with regs := r, test := te, cmd := c, adps := a }

theorem Reported.refl (s : State) : Reported s s := ⟨s.regs, s.test, s.cmd, s.adps, rfl⟩
theorem Reported.trans {s t u : State} (h : Reported s t) (k : Reported t u) : Reported s u := by
  obtain ⟨r, te, c, a, rfl⟩ := h; obtain ⟨r', te', c', a', rfl⟩ := k; exact ⟨r', te', c', a', rfl⟩

theorem Reported.wr (s : State) (f : Fld) (v : Nat) : Reported s (s.wr f v) := ⟨_, s.test, s.cmd, s.adps, rfl⟩

theorem State.setFlag_reported (s : State) (e : Evt) : Reported s (s.setFlag e).2 := (Reported.wr _ _ _).trans (Reported.wr _ _ _)

theorem State.writeLog_reported (s : State) (sv so i o b c : Nat) (d : List Word) : Reported s (s.writeLog sv so i o b c d).2 :=
  Reported.trans (t := { s with test := { s.test with log := (trimLog (s.test.log ++ [⟨s.rd BT_LOG_HEAD.VALUE, sv, so, i, o, b, c, s.time, d⟩])).1 } })
    ⟨s.regs, _, s.cmd, s.adps, rfl⟩ ((Reported.wr _ _ _).trans ((Reported.wr _ _ _).trans (Reported.wr _ _ _)))

theorem State.notifyLost_reported (s : State) : Reported s s.notifyLost := by
  simp only [State.notifyLost]
  split
  · exact (State.setFlag_reported _ _).trans (State.writeLog_reported _ _ _ _ _ _ _ _)
  · exact State.setFlag_reported _ _

theorem State.notify_reported (s : State) (e : LogEntry) : Reported s (s.notify e) := by
  have hu : ∀ (t : State) b, Reported t ((t.notifyUsb b).getD t.notifyLost) := by
    intro t b
    simp only [State.notifyUsb]
    split
    · exact ⟨t.regs, t.test, _, t.adps, rfl⟩
    · exact State.notifyLost_reported t
  have hh : ∀ (t : State) b, Reported t ((t.notifyHub b).getD t.notifyLost) := by
    intro t b
    simp only [State.notifyHub]
    split
    · split
      · exact State.notifyLost_reported t
      · exact ⟨t.regs, t.test, _, _, rfl⟩
    · exact ⟨t.regs, t.test, _, _, rfl⟩
  simp only [State.notify]
  split
  · exact Reported.refl s
  · split <;> split
    · exact (hu _ _).trans (hh _ _)
    · exact hu _ _
    · exact hh _ _
    · exact Reported.refl s

theorem State.raiseWith_reported (s : State) (e : Evt) (al : Bool) (d : List Word) : Reported s (s.raiseWith e al d) := by
  simp only [State.raiseWith]
  split
  · exact Reported.refl s
  · split
    · exact ((State.setFlag_reported _ _).trans (State.writeLog_reported _ _ _ _ _ _ _ _)).trans (State.notify_reported _ _)
    · exact State.setFlag_reported _ _

theorem State.raise_reported (s : State) (e : Evt) : Reported s (s.raise e) := State.raiseWith_reported s e false []

@[simp] theorem State.raise_mem (s : State) (e : Evt) : (s.raise e).mem = s.mem := by
  obtain ⟨_, _, _, _, h⟩ := s.raise_reported e; rw [h]
@[simp] theorem State.raise_flash (s : State) (e : Evt) : (s.raise e).flash = s.flash := by
  obtain ⟨_, _, _, _, h⟩ := s.raise_reported e; rw [h]
@[simp] theorem State.raise_frame (s : State) (e : Evt) : (s.raise e).frame = s.frame := by
  obtain ⟨_, _, _, _, h⟩ := s.raise_reported e; rw [h]
@[simp] theorem State.raise_time (s : State) (e : Evt) : (s.raise e).time = s.time := by
  obtain ⟨_, _, _, _, h⟩ := s.raise_reported e; rw [h]
@[simp] theorem State.raise_lanes (s : State) (e : Evt) : (s.raise e).lanes = s.lanes := by
  obtain ⟨_, _, _, _, h⟩ := s.raise_reported e; rw [h]
@[simp] theorem State.raise_links (s : State) (e : Evt) : (s.raise e).links = s.links := by
  obtain ⟨_, _, _, _, h⟩ := s.raise_reported e; rw [h]
@[simp] theorem State.raise_engs (s : State) (e : Evt) : (s.raise e).engs = s.engs := by
  obtain ⟨_, _, _, _, h⟩ := s.raise_reported e; rw [h]
@[simp] theorem State.raise_sw (s : State) (e : Evt) : (s.raise e).sw = s.sw := by
  obtain ⟨_, _, _, _, h⟩ := s.raise_reported e; rw [h]
@[simp] theorem State.raise_scheds (s : State) (e : Evt) : (s.raise e).scheds = s.scheds := by
  obtain ⟨_, _, _, _, h⟩ := s.raise_reported e; rw [h]
@[simp] theorem State.raise_pol (s : State) (e : Evt) : (s.raise e).pol = s.pol := by
  obtain ⟨_, _, _, _, h⟩ := s.raise_reported e; rw [h]
@[simp] theorem State.raise_clk (s : State) (e : Evt) : (s.raise e).clk = s.clk := by
  obtain ⟨_, _, _, _, h⟩ := s.raise_reported e; rw [h]
@[simp] theorem State.raise_pwr (s : State) (e : Evt) : (s.raise e).pwr = s.pwr := by
  obtain ⟨_, _, _, _, h⟩ := s.raise_reported e; rw [h]
@[simp] theorem State.raise_fuses (s : State) (e : Evt) : (s.raise e).fuses = s.fuses := by
  obtain ⟨_, _, _, _, h⟩ := s.raise_reported e; rw [h]
@[simp] theorem State.raise_keys (s : State) (e : Evt) : (s.raise e).keys = s.keys := by
  obtain ⟨_, _, _, _, h⟩ := s.raise_reported e; rw [h]
@[simp] theorem State.raise_img (s : State) (e : Evt) : (s.raise e).img = s.img := by
  obtain ⟨_, _, _, _, h⟩ := s.raise_reported e; rw [h]
@[simp] theorem State.raise_uptime (s : State) (e : Evt) : (s.raise e).uptime = s.uptime := by
  obtain ⟨_, _, _, _, h⟩ := s.raise_reported e; rw [h]
@[simp] theorem State.raise_pipes (s : State) (e : Evt) : (s.raise e).pipes = s.pipes := by
  obtain ⟨_, _, _, _, h⟩ := s.raise_reported e; rw [h]
@[simp] theorem State.raise_brg (s : State) (e : Evt) : (s.raise e).brg = s.brg := by
  obtain ⟨_, _, _, _, h⟩ := s.raise_reported e; rw [h]
@[simp] theorem State.raise_usb (s : State) (e : Evt) : (s.raise e).usb = s.usb := by
  obtain ⟨_, _, _, _, h⟩ := s.raise_reported e; rw [h]
@[simp] theorem State.raise_macs (s : State) (e : Evt) : (s.raise e).macs = s.macs := by
  obtain ⟨_, _, _, _, h⟩ := s.raise_reported e; rw [h]
@[simp] theorem State.raise_tm (s : State) (e : Evt) : (s.raise e).tm = s.tm := by
  obtain ⟨_, _, _, _, h⟩ := s.raise_reported e; rw [h]
@[simp] theorem State.raise_pds (s : State) (e : Evt) : (s.raise e).pds = s.pds := by
  obtain ⟨_, _, _, _, h⟩ := s.raise_reported e; rw [h]
@[simp] theorem State.raise_efs (s : State) (e : Evt) : (s.raise e).efs = s.efs := by
  obtain ⟨_, _, _, _, h⟩ := s.raise_reported e; rw [h]
@[simp] theorem State.raise_dom (s : State) (e : Evt) : (s.raise e).dom = s.dom := by
  obtain ⟨_, _, _, _, h⟩ := s.raise_reported e; rw [h]
@[simp] theorem State.raise_out (s : State) (e : Evt) : (s.raise e).out = s.out := by
  obtain ⟨_, _, _, _, h⟩ := s.raise_reported e; rw [h]
@[simp] theorem State.raise_free (s : State) (e : Evt) : (s.raise e).free = s.free := by
  obtain ⟨_, _, _, _, h⟩ := s.raise_reported e; rw [h]
@[simp] theorem State.raise_pending (s : State) (e : Evt) : (s.raise e).pending = s.pending := by
  obtain ⟨_, _, _, _, h⟩ := s.raise_reported e; rw [h]

end Sys2Proof.Machine
end

