-- ==== Sys2Proof/Laws/Keeps.lean ====
section
/-!
SUPPORT. What every command and every operation keeps: the queue, the canonical form of the memories and of the register table, what has been sent, the fuse
counters, the uptime, the free values taken. One lemma per operation, in the order of the files; each says that a state reached from `s0` through the
operation still stands in this relation to `s0`.
-/

namespace Sys2Proof.Machine

/-- What stays, or only grows, from one state to a later one. -/
structure Keeps (s t : State) : Prop where
  pending : t.pending = s.pending
  wf : Memory.wf s = true → Memory.wf t = true
  out : s.out <+: t.out
  uptime : s.uptime ≤ t.uptime
  free : s.free ≤ t.free
  imgMin : s.fuses.imgMin ≤ t.fuses.imgMin
  patchMin : s.fuses.patchMin ≤ t.fuses.patchMin

theorem Keeps.rfl' (s : State) : Keeps s s := ⟨rfl, id, List.prefix_rfl, Nat.le_refl _, Nat.le_refl _, Nat.le_refl _, Nat.le_refl _⟩

theorem Keeps.trans {s t u : State} (h : Keeps s t) (k : Keeps t u) : Keeps s u :=
  ⟨k.pending.trans h.pending, k.wf ∘ h.wf, h.out.trans k.out, Nat.le_trans h.uptime k.uptime, Nat.le_trans h.free k.free,
    Nat.le_trans h.imgMin k.imgMin, Nat.le_trans h.patchMin k.patchMin⟩

/-- A change of any other part of the state. -/
theorem Keeps.same {s0 s : State} (h : Keeps s0 s) {time lanes links adps engs sw scheds pol clk pwr keys img cmd test pipes brg usb macs tm pds efs dom}
    (ht : TestSt.frameGen test = s.test.frameGen) :
    Keeps s0 ⟨s.regs, s.mem, s.flash, s.frame, time, lanes, links, adps, engs, sw, scheds, pol, clk, pwr, s.fuses, keys, img, cmd, test, s.uptime, pipes, brg,
      usb, macs, tm, pds, efs, dom, s.out, s.free, s.pending⟩ := by
  refine h.trans ⟨rfl, fun hw => ?_, List.prefix_rfl, Nat.le_refl _, Nat.le_refl _, Nat.le_refl _, Nat.le_refl _⟩
  have hf : (State.frameFill ⟨s.regs, s.mem, s.flash, s.frame, time, lanes, links, adps, engs, sw, scheds, pol, clk, pwr, s.fuses, keys, img, cmd, test,
      s.uptime, pipes, brg, usb, macs, tm, pds, efs, dom, s.out, s.free, s.pending⟩) = s.frameFill := by
    funext a; simp only [State.frameFill, ht]
  simp only [Memory.wf] at hw ⊢
  rw [hf]; exact hw

theorem Keeps.ofEq {s0 s t : State} (h : Keeps s0 s) (e : t = s) : Keeps s0 t := e ▸ h

/-- The form of a table stays in a record whose other parts stay. -/
theorem wf_split (s : State) : Memory.wf s = true ↔ Tab.wf (fun _ => 0#8) s.mem = true ∧ Tab.wf (fun _ => 0xFF#8) s.flash = true ∧
    Tab.wf s.frameFill s.frame = true ∧ Tab.wf resetValue s.regs = true := by
  simp only [Memory.wf, Bool.and_eq_true, and_assoc]

theorem State.setReg_keeps {s0 s : State} (h : Keeps s0 s) (a : Nat) (w : Word) : Keeps s0 (s.setReg a w) := by
  refine h.trans ⟨rfl, fun hw => ?_, List.prefix_rfl, Nat.le_refl _, Nat.le_refl _, Nat.le_refl _, Nat.le_refl _⟩
  rw [wf_split] at hw ⊢
  exact ⟨hw.1, hw.2.1, hw.2.2.1, Tab.put_wf resetValue s.regs a w hw.2.2.2⟩

theorem State.setMemByte_keeps {s0 s : State} (h : Keeps s0 s) (a : Nat) (b : Byte) : Keeps s0 (s.setMemByte a b) := by
  refine h.trans ⟨rfl, fun hw => ?_, List.prefix_rfl, Nat.le_refl _, Nat.le_refl _, Nat.le_refl _, Nat.le_refl _⟩
  rw [wf_split] at hw ⊢
  exact ⟨Tab.put_wf (fun _ => 0#8) s.mem a b hw.1, hw.2.1, hw.2.2.1, hw.2.2.2⟩

theorem State.setFlashByte_keeps {s0 s : State} (h : Keeps s0 s) (a : Nat) (b : Byte) : Keeps s0 (s.setFlashByte a b) := by
  refine h.trans ⟨rfl, fun hw => ?_, List.prefix_rfl, Nat.le_refl _, Nat.le_refl _, Nat.le_refl _, Nat.le_refl _⟩
  rw [wf_split] at hw ⊢
  exact ⟨hw.1, Tab.put_wf (fun _ => 0xFF#8) s.flash a b hw.2.1, hw.2.2.1, hw.2.2.2⟩

theorem State.setFrameByte_keeps {s0 s : State} (h : Keeps s0 s) (a : Nat) (b : Byte) : Keeps s0 (s.setFrameByte a b) := by
  refine h.trans ⟨rfl, fun hw => ?_, List.prefix_rfl, Nat.le_refl _, Nat.le_refl _, Nat.le_refl _, Nat.le_refl _⟩
  rw [wf_split] at hw ⊢
  exact ⟨hw.1, hw.2.1, Tab.put_wf s.frameFill s.frame a b hw.2.2.1, hw.2.2.2⟩

theorem State.send_keeps {s0 s : State} (h : Keeps s0 s) (o : Out) : Keeps s0 (s.send o) :=
  h.trans ⟨rfl, id, List.prefix_append _ _, Nat.le_refl _, Nat.le_refl _, Nat.le_refl _, Nat.le_refl _⟩

theorem State.fresh_keeps {s0 s : State} (h : Keeps s0 s) : Keeps s0 s.fresh.2 :=
  h.trans ⟨rfl, id, List.prefix_rfl, Nat.le_refl _, Nat.le_succ _, Nat.le_refl _, Nat.le_refl _⟩

theorem State.freshBytes_keeps {s0 s : State} (h : Keeps s0 s) (n : Nat) : Keeps s0 (s.freshBytes n).2 :=
  h.trans ⟨rfl, id, List.prefix_rfl, Nat.le_refl _, Nat.le_succ _, Nat.le_refl _, Nat.le_refl _⟩

theorem foldl_keeps {α : Type} {s0 : State} (f : State → α → State) (hf : ∀ t x, Keeps s0 t → Keeps s0 (f t x)) :
    ∀ (l : List α) (s : State), Keeps s0 s → Keeps s0 (l.foldl f s)
  | [], _, h => h
  | x :: l, s, h => foldl_keeps f hf l (f s x) (hf s x h)

theorem State.each_keeps {s0 s : State} (h : Keeps s0 s) (n : Nat) (f : Nat → State → State) (hf : ∀ i t, Keeps s0 t → Keeps s0 (f i t)) :
    Keeps s0 (s.each n f) := foldl_keeps _ (fun t i => hf i t) _ _ h

theorem State.eachIn_keeps {α : Type} {s0 s : State} (h : Keeps s0 s) (l : List α) (f : α → State → State) (hf : ∀ x t, Keeps s0 t → Keeps s0 (f x t)) :
    Keeps s0 (s.eachIn l f) := foldl_keeps _ (fun t x => hf x t) _ _ h

theorem State.onlyIf_keeps {s0 s : State} (h : Keeps s0 s) (c : Bool) (f : State → State) (hf : ∀ t, Keeps s0 t → Keeps s0 (f t)) :
    Keeps s0 (s.onlyIf c f) := by
  unfold State.onlyIf; split
  · exact hf _ h
  · exact h

theorem getD_keeps {s0 d : State} {o : Option State} (hd : Keeps s0 d) (ho : ∀ t, o = some t → Keeps s0 t) : Keeps s0 (o.getD d) := by
  cases o with
  | none => exact hd
  | some t => exact ho t rfl

theorem elim_keeps {α : Type} {s0 d : State} {o : Option α} {f : α → State} (hd : Keeps s0 d) (ho : ∀ x, Keeps s0 (f x)) :
    Keeps s0 (o.elim d f) := by
  cases o with
  | none => exact hd
  | some t => exact ho t

end Sys2Proof.Machine
end

