-- ==== Sys2Proof/Laws/KeptBase.lean ====
section
/-!
SUPPORT. What every operation of Machine/Ops.lean, Machine/Flags.lean, Machine/Gate.lean, Machine/Operands.lean, Machine/Mac.lean, Machine/Bridle.lean, Machine/Respond.lean, Machine/Buffer.lean, Machine/Tlp.lean keeps (see Laws/Keeps.lean), one lemma each, in the order in which they call each other.
-/

set_option linter.unreachableTactic false
set_option linter.unusedTactic false
set_option linter.all false

namespace Sys2Proof.Machine

theorem State.wr_keeps {s0 s : State} (h : Keeps s0 s) (a1) (a2) : Keeps s0 (State.wr s a1 a2) := by
  unfold State.wr
  with_reducible repeat' first | exact h | assumption | apply State.setReg_keeps | split | apply foldl_keeps | intro _ | fail_if_no_progress refine Keeps.same ?_ rfl | fail_if_no_progress extract_lets | apply getD_keeps | apply elim_keeps | dsimp +zetaDelta only

theorem State.satAdd_keeps {s0 s : State} (h : Keeps s0 s) (a1) (a2) : Keeps s0 (State.satAdd s a1 a2) := by
  unfold State.satAdd
  with_reducible repeat' first | exact h | assumption | apply State.wr_keeps | split | apply foldl_keeps | intro _ | fail_if_no_progress refine Keeps.same ?_ rfl | fail_if_no_progress extract_lets | apply getD_keeps | apply elim_keeps | dsimp +zetaDelta only

theorem State.wrapAdd_keeps {s0 s : State} (h : Keeps s0 s) (a1) (a2) : Keeps s0 (State.wrapAdd s a1 a2) := by
  unfold State.wrapAdd
  with_reducible repeat' first | exact h | assumption | apply State.wr_keeps | split | apply foldl_keeps | intro _ | fail_if_no_progress refine Keeps.same ?_ rfl | fail_if_no_progress extract_lets | apply getD_keeps | apply elim_keeps | dsimp +zetaDelta only

theorem State.wrapAdd64_keeps {s0 s : State} (h : Keeps s0 s) (a1) (a2) (a3) : Keeps s0 (State.wrapAdd64 s a1 a2 a3) := by
  unfold State.wrapAdd64
  with_reducible repeat' first | exact h | assumption | apply State.wr_keeps | split | apply foldl_keeps | intro _ | fail_if_no_progress refine Keeps.same ?_ rfl | fail_if_no_progress extract_lets | apply getD_keeps | apply elim_keeps | dsimp +zetaDelta only

theorem State.wr64_keeps {s0 s : State} (h : Keeps s0 s) (a1) (a2) (a3) : Keeps s0 (State.wr64 s a1 a2 a3) := by
  unfold State.wr64
  with_reducible repeat' first | exact h | assumption | apply State.wr_keeps | split | apply foldl_keeps | intro _ | fail_if_no_progress refine Keeps.same ?_ rfl | fail_if_no_progress extract_lets | apply getD_keeps | apply elim_keeps | dsimp +zetaDelta only

theorem State.setLane_keeps {s0 s : State} (h : Keeps s0 s) (a1) (a2) : Keeps s0 (State.setLane s a1 a2) := by
  unfold State.setLane
  with_reducible repeat' first | exact h | assumption | split | apply foldl_keeps | intro _ | fail_if_no_progress refine Keeps.same ?_ rfl | fail_if_no_progress extract_lets | apply getD_keeps | apply elim_keeps | dsimp +zetaDelta only

theorem State.setLink_keeps {s0 s : State} (h : Keeps s0 s) (a1) (a2) : Keeps s0 (State.setLink s a1 a2) := by
  unfold State.setLink
  with_reducible repeat' first | exact h | assumption | split | apply foldl_keeps | intro _ | fail_if_no_progress refine Keeps.same ?_ rfl | fail_if_no_progress extract_lets | apply getD_keeps | apply elim_keeps | dsimp +zetaDelta only

theorem State.modLink_keeps {s0 s : State} (h : Keeps s0 s) (a1) (a2) : Keeps s0 (State.modLink s a1 a2) := by
  unfold State.modLink
  with_reducible repeat' first | exact h | assumption | apply State.setLink_keeps | split | apply foldl_keeps | intro _ | fail_if_no_progress refine Keeps.same ?_ rfl | fail_if_no_progress extract_lets | apply getD_keeps | apply elim_keeps | dsimp +zetaDelta only

theorem State.setAdp_keeps {s0 s : State} (h : Keeps s0 s) (a1) (a2) : Keeps s0 (State.setAdp s a1 a2) := by
  unfold State.setAdp
  with_reducible repeat' first | exact h | assumption | split | apply foldl_keeps | intro _ | fail_if_no_progress refine Keeps.same ?_ rfl | fail_if_no_progress extract_lets | apply getD_keeps | apply elim_keeps | dsimp +zetaDelta only

theorem State.modAdp_keeps {s0 s : State} (h : Keeps s0 s) (a1) (a2) : Keeps s0 (State.modAdp s a1 a2) := by
  unfold State.modAdp
  with_reducible repeat' first | exact h | assumption | apply State.setAdp_keeps | split | apply foldl_keeps | intro _ | fail_if_no_progress refine Keeps.same ?_ rfl | fail_if_no_progress extract_lets | apply getD_keeps | apply elim_keeps | dsimp +zetaDelta only

theorem State.setEng_keeps {s0 s : State} (h : Keeps s0 s) (a1) (a2) : Keeps s0 (State.setEng s a1 a2) := by
  unfold State.setEng
  with_reducible repeat' first | exact h | assumption | split | apply foldl_keeps | intro _ | fail_if_no_progress refine Keeps.same ?_ rfl | fail_if_no_progress extract_lets | apply getD_keeps | apply elim_keeps | dsimp +zetaDelta only

theorem State.modEng_keeps {s0 s : State} (h : Keeps s0 s) (a1) (a2) : Keeps s0 (State.modEng s a1 a2) := by
  unfold State.modEng
  with_reducible repeat' first | exact h | assumption | apply State.setEng_keeps | split | apply foldl_keeps | intro _ | fail_if_no_progress refine Keeps.same ?_ rfl | fail_if_no_progress extract_lets | apply getD_keeps | apply elim_keeps | dsimp +zetaDelta only

theorem State.setSched_keeps {s0 s : State} (h : Keeps s0 s) (a1) (a2) : Keeps s0 (State.setSched s a1 a2) := by
  unfold State.setSched
  with_reducible repeat' first | exact h | assumption | split | apply foldl_keeps | intro _ | fail_if_no_progress refine Keeps.same ?_ rfl | fail_if_no_progress extract_lets | apply getD_keeps | apply elim_keeps | dsimp +zetaDelta only

theorem State.modSched_keeps {s0 s : State} (h : Keeps s0 s) (a1) (a2) : Keeps s0 (State.modSched s a1 a2) := by
  unfold State.modSched
  with_reducible repeat' first | exact h | assumption | apply State.setSched_keeps | split | apply foldl_keeps | intro _ | fail_if_no_progress refine Keeps.same ?_ rfl | fail_if_no_progress extract_lets | apply getD_keeps | apply elim_keeps | dsimp +zetaDelta only

theorem State.setMemBytes_keeps {s0 s : State} (h : Keeps s0 s) (a1) (a2) : Keeps s0 (State.setMemBytes s a1 a2) := by
  induction a2 generalizing s a1 with
  | nil =>
    unfold State.setMemBytes
    with_reducible repeat' first | exact h | assumption | apply State.setMemByte_keeps | split | apply foldl_keeps | intro _ | fail_if_no_progress refine Keeps.same ?_ rfl | fail_if_no_progress extract_lets | apply getD_keeps | apply elim_keeps | dsimp +zetaDelta only
  | cons x l ih =>
    unfold State.setMemBytes
    with_reducible repeat' first | apply ih | exact h | assumption | apply State.setMemByte_keeps | split | apply foldl_keeps | intro _ | fail_if_no_progress refine Keeps.same ?_ rfl | fail_if_no_progress extract_lets | apply getD_keeps | apply elim_keeps | dsimp +zetaDelta only

theorem State.setFrameBytes_keeps {s0 s : State} (h : Keeps s0 s) (a1) (a2) : Keeps s0 (State.setFrameBytes s a1 a2) := by
  induction a2 generalizing s a1 with
  | nil =>
    unfold State.setFrameBytes
    with_reducible repeat' first | exact h | assumption | apply State.setFrameByte_keeps | split | apply foldl_keeps | intro _ | fail_if_no_progress refine Keeps.same ?_ rfl | fail_if_no_progress extract_lets | apply getD_keeps | apply elim_keeps | dsimp +zetaDelta only
  | cons x l ih =>
    unfold State.setFrameBytes
    with_reducible repeat' first | apply ih | exact h | assumption | apply State.setFrameByte_keeps | split | apply foldl_keeps | intro _ | fail_if_no_progress refine Keeps.same ?_ rfl | fail_if_no_progress extract_lets | apply getD_keeps | apply elim_keeps | dsimp +zetaDelta only

theorem State.writeLog_keeps {s0 s : State} (h : Keeps s0 s) (a1) (a2) (a3) (a4) (a5) (a6) (a7) : Keeps s0 (State.writeLog s a1 a2 a3 a4 a5 a6 a7).2 := by
  unfold State.writeLog
  with_reducible repeat' first | exact h | assumption | apply State.wrapAdd_keeps | apply State.wr_keeps | apply State.satAdd_keeps | split | apply foldl_keeps | intro _ | fail_if_no_progress refine Keeps.same ?_ rfl | fail_if_no_progress extract_lets | apply getD_keeps | apply elim_keeps | dsimp +zetaDelta only

theorem State.setFlag_keeps {s0 s : State} (h : Keeps s0 s) (a1) : Keeps s0 (State.setFlag s a1).2 := by
  unfold State.setFlag
  with_reducible repeat' first | exact h | assumption | apply State.satAdd_keeps | apply State.wr_keeps | split | apply foldl_keeps | intro _ | fail_if_no_progress refine Keeps.same ?_ rfl | fail_if_no_progress extract_lets | apply getD_keeps | apply elim_keeps | dsimp +zetaDelta only

theorem State.notifyUsb_keeps {s0 s : State} (h : Keeps s0 s) (b) : ∀ t, s.notifyUsb b = some t → Keeps s0 t := by
  intro t ht
  unfold State.notifyUsb at ht
  split at ht
  · cases ht; exact Keeps.same h rfl
  · cases ht

theorem State.accept_keeps {s0 s : State} (h : Keeps s0 s) (a1) (a2) : Keeps s0 (State.accept s a1 a2) := by
  unfold State.accept
  with_reducible repeat' first | exact h | assumption | apply State.modAdp_keeps | split | apply foldl_keeps | intro _ | fail_if_no_progress refine Keeps.same ?_ rfl | fail_if_no_progress extract_lets | apply getD_keeps | apply elim_keeps | dsimp +zetaDelta only

theorem State.domMsg_keeps {s0 s : State} (h : Keeps s0 s) (a1) (a2) (a3) (a4) : Keeps s0 (State.domMsg s a1 a2 a3 a4) := by
  unfold State.domMsg
  with_reducible repeat' first | exact h | assumption | apply State.accept_keeps | split | apply foldl_keeps | intro _ | fail_if_no_progress refine Keeps.same ?_ rfl | fail_if_no_progress extract_lets | apply getD_keeps | apply elim_keeps | dsimp +zetaDelta only

theorem State.neighMsg_keeps {s0 s : State} (h : Keeps s0 s) (a1) (a2) (a3) : Keeps s0 (State.neighMsg s a1 a2 a3) := by
  unfold State.neighMsg
  with_reducible repeat' first | exact h | assumption | apply State.accept_keeps | split | apply foldl_keeps | intro _ | fail_if_no_progress refine Keeps.same ?_ rfl | fail_if_no_progress extract_lets | apply getD_keeps | apply elim_keeps | dsimp +zetaDelta only

theorem State.notifyHub_keeps {s0 s : State} (h : Keeps s0 s) (b) : ∀ t, s.notifyHub b = some t → Keeps s0 t := by
  intro t ht
  unfold State.notifyHub at ht
  repeat' split at ht
  · cases ht
  · cases ht; exact State.domMsg_keeps (Keeps.same h rfl) _ _ _ _
  · cases ht; exact State.domMsg_keeps (Keeps.same h rfl) _ _ _ _

theorem State.notifyLost_keeps {s0 s : State} (h : Keeps s0 s) : Keeps s0 (State.notifyLost s) := by
  unfold State.notifyLost
  with_reducible repeat' first | exact h | assumption | apply State.setFlag_keeps | apply State.writeLog_keeps | split | apply foldl_keeps | intro _ | fail_if_no_progress refine Keeps.same ?_ rfl | fail_if_no_progress extract_lets | apply getD_keeps | apply elim_keeps | dsimp +zetaDelta only

theorem State.notify_keeps {s0 s : State} (h : Keeps s0 s) (a1) : Keeps s0 (State.notify s a1) := by
  have hu : ∀ {t : State}, Keeps s0 t → Keeps s0 ((t.notifyUsb a1.bytes).getD t.notifyLost) := fun k =>
    getD_keeps (State.notifyLost_keeps k) (State.notifyUsb_keeps k _)
  have hh : ∀ {t : State}, Keeps s0 t → Keeps s0 ((t.notifyHub a1.bytes).getD t.notifyLost) := fun k =>
    getD_keeps (State.notifyLost_keeps k) (State.notifyHub_keeps k _)
  unfold State.notify
  split
  · exact h
  · dsimp only
    split <;> split
    · exact hh (hu h)
    · exact hu h
    · exact hh h
    · exact h

theorem State.raiseWith_keeps {s0 s : State} (h : Keeps s0 s) (a1) (a2) (a3) : Keeps s0 (State.raiseWith s a1 a2 a3) := by
  unfold State.raiseWith
  with_reducible repeat' first | exact h | assumption | apply State.setFlag_keeps | apply State.writeLog_keeps | apply State.notify_keeps | split | apply foldl_keeps | intro _ | fail_if_no_progress refine Keeps.same ?_ rfl | fail_if_no_progress extract_lets | apply getD_keeps | apply elim_keeps | dsimp +zetaDelta only

theorem State.raise_keeps {s0 s : State} (h : Keeps s0 s) (a1) : Keeps s0 (State.raise s a1) := by
  unfold State.raise
  with_reducible repeat' first | exact h | assumption | apply State.raiseWith_keeps | split | apply foldl_keeps | intro _ | fail_if_no_progress refine Keeps.same ?_ rfl | fail_if_no_progress extract_lets | apply getD_keeps | apply elim_keeps | dsimp +zetaDelta only

theorem State.setMac_keeps {s0 s : State} (h : Keeps s0 s) (a1) (a2) : Keeps s0 (State.setMac s a1 a2) := by
  unfold State.setMac
  with_reducible repeat' first | exact h | assumption | split | apply foldl_keeps | intro _ | fail_if_no_progress refine Keeps.same ?_ rfl | fail_if_no_progress extract_lets | apply getD_keeps | apply elim_keeps | dsimp +zetaDelta only

theorem State.modMac_keeps {s0 s : State} (h : Keeps s0 s) (a1) (a2) : Keeps s0 (State.modMac s a1 a2) := by
  unfold State.modMac
  with_reducible repeat' first | exact h | assumption | apply State.setMac_keeps | split | apply foldl_keeps | intro _ | fail_if_no_progress refine Keeps.same ?_ rfl | fail_if_no_progress extract_lets | apply getD_keeps | apply elim_keeps | dsimp +zetaDelta only

theorem State.macCredits_keeps {s0 s : State} (h : Keeps s0 s) (a1) : Keeps s0 (State.macCredits s a1) := by
  unfold State.macCredits
  with_reducible repeat' first | exact h | assumption | apply State.setMac_keeps | apply State.credit_keeps | split | apply foldl_keeps | intro _ | fail_if_no_progress refine Keeps.same ?_ rfl | fail_if_no_progress extract_lets | apply getD_keeps | apply elim_keeps | dsimp +zetaDelta only

theorem State.macEnqueue_keeps {s0 s : State} (h : Keeps s0 s) (a1) (a2) (a3) : Keeps s0 (State.macEnqueue s a1 a2 a3) := by
  unfold State.macEnqueue
  with_reducible repeat' first | exact h | assumption | apply State.macCredits_keeps | apply State.modMac_keeps | split | apply foldl_keeps | intro _ | fail_if_no_progress refine Keeps.same ?_ rfl | fail_if_no_progress extract_lets | apply getD_keeps | apply elim_keeps | dsimp +zetaDelta only

theorem State.sendPause_keeps {s0 s : State} (h : Keeps s0 s) (a1) (a2) (a3) : Keeps s0 (State.sendPause s a1 a2 a3) := by
  unfold State.sendPause
  with_reducible repeat' first | exact h | assumption | apply State.send_keeps | split | apply foldl_keeps | intro _ | fail_if_no_progress refine Keeps.same ?_ rfl | fail_if_no_progress extract_lets | apply getD_keeps | apply elim_keeps | dsimp +zetaDelta only

theorem State.flowOne_keeps {s0 s : State} (h : Keeps s0 s) (a1) (a2) (a3) (a4) : Keeps s0 (State.flowOne s a1 a2 a3 a4) := by
  unfold State.flowOne
  with_reducible repeat' first | exact h | assumption | apply State.modMac_keeps | apply State.sendPause_keeps | split | apply foldl_keeps | intro _ | fail_if_no_progress refine Keeps.same ?_ rfl | fail_if_no_progress extract_lets | apply getD_keeps | apply elim_keeps | dsimp +zetaDelta only

theorem State.flowControl_keeps {s0 s : State} (h : Keeps s0 s) (a1) : Keeps s0 (State.flowControl s a1) := by
  unfold State.flowControl
  with_reducible repeat' first | exact h | assumption | apply State.each_keeps | apply State.flowOne_keeps | split | apply foldl_keeps | intro _ | fail_if_no_progress refine Keeps.same ?_ rfl | fail_if_no_progress extract_lets | apply getD_keeps | apply elim_keeps | dsimp +zetaDelta only

theorem State.violate_keeps {s0 s : State} (h : Keeps s0 s) (a1) (a2) (a3) (a4) (a5) (a6) (a7) : Keeps s0 (State.violate s a1 a2 a3 a4 a5 a6 a7) := by
  unfold State.violate
  with_reducible repeat' first | exact h | assumption | apply State.satAdd_keeps | apply State.wr_keeps | apply State.raiseWith_keeps | split | apply foldl_keeps | intro _ | fail_if_no_progress refine Keeps.same ?_ rfl | fail_if_no_progress extract_lets | apply getD_keeps | apply elim_keeps | dsimp +zetaDelta only

theorem State.gatePass_keeps {s0 s : State} (h : Keeps s0 s) (a1) (a2) (a3) (a4) (a5) (a6) : Keeps s0 (State.gatePass s a1 a2 a3 a4 a5 a6).2 := by
  unfold State.gatePass
  with_reducible repeat' first | exact h | assumption | apply State.violate_keeps | split | apply foldl_keeps | intro _ | fail_if_no_progress refine Keeps.same ?_ rfl | fail_if_no_progress extract_lets | apply getD_keeps | apply elim_keeps | dsimp +zetaDelta only

theorem State.dmaWrite_keeps {s0 s : State} (h : Keeps s0 s) (a1) (a2) (a3) : Keeps s0 (State.dmaWrite s a1 a2 a3) := by
  unfold State.dmaWrite
  with_reducible repeat' first | exact h | assumption | apply State.eachIn_keeps | apply State.gatePass_keeps | apply State.setFrameBytes_keeps | split | apply foldl_keeps | intro _ | fail_if_no_progress refine Keeps.same ?_ rfl | fail_if_no_progress extract_lets | apply getD_keeps | apply elim_keeps | dsimp +zetaDelta only

theorem State.dmaRead_keeps {s0 s : State} (h : Keeps s0 s) (d a n) : Keeps s0 (State.dmaRead s d a n).2 := by
  have k : ∀ (l : List (Nat × Nat)) (p : List Byte × State), Keeps s0 p.2 → Keeps s0 (l.foldl (fun (p : List Byte × State) u =>
      let r := p.2.gatePass 25 (frameGate u.1) (.displayDma (Fin.ofNat 4 d)) .e .read u.2
      if r.1 then (p.1 ++ r.2.frameBytes u.1 u.2, r.2)
      else
        let f := r.2.freshBytes u.2
        (p.1 ++ f.1, f.2)) p).2 := by
    intro l
    induction l with
    | nil => intro p hp; exact hp
    | cons u l ih =>
      intro p hp
      refine ih _ ?_
      dsimp only
      split
      · exact State.gatePass_keeps hp _ _ _ _ _ _
      · exact State.freshBytes_keeps (State.gatePass_keeps hp _ _ _ _ _ _) u.2
  exact k _ _ h

theorem State.respondOut_keeps {s0 s : State} (h : Keeps s0 s) (a1) (a2) : Keeps s0 (State.respondOut s a1 a2) := by
  unfold State.respondOut
  with_reducible repeat' first | exact h | assumption | apply State.send_keeps | apply State.domMsg_keeps | split | apply foldl_keeps | intro _ | fail_if_no_progress refine Keeps.same ?_ rfl | fail_if_no_progress extract_lets | apply getD_keeps | apply elim_keeps | dsimp +zetaDelta only

theorem State.cacheResponse_keeps {s0 s : State} (h : Keeps s0 s) (a1) (a2) : Keeps s0 (State.cacheResponse s a1 a2) := by
  unfold State.cacheResponse
  with_reducible repeat' first | exact h | assumption | split | apply foldl_keeps | intro _ | fail_if_no_progress refine Keeps.same ?_ rfl | fail_if_no_progress extract_lets | apply getD_keeps | apply elim_keeps | dsimp +zetaDelta only

theorem State.lastAnswer_keeps {s0 s : State} (h : Keeps s0 s) (a1) (a2) (a3) : Keeps s0 (State.lastAnswer s a1 a2 a3) := by
  unfold State.lastAnswer
  with_reducible repeat' first | exact h | assumption | apply State.wr_keeps | split | apply foldl_keeps | intro _ | fail_if_no_progress refine Keeps.same ?_ rfl | fail_if_no_progress extract_lets | apply getD_keeps | apply elim_keeps | dsimp +zetaDelta only

theorem State.countExecuted_keeps {s0 s : State} (h : Keeps s0 s) (a1) : Keeps s0 (State.countExecuted s a1) := by
  unfold State.countExecuted
  with_reducible repeat' first | exact h | assumption | apply State.wrapAdd_keeps | split | apply foldl_keeps | intro _ | fail_if_no_progress refine Keeps.same ?_ rfl | fail_if_no_progress extract_lets | apply getD_keeps | apply elim_keeps | dsimp +zetaDelta only

theorem State.answerBy_keeps {s0 s : State} (h : Keeps s0 s) (out : State → Owner → List Byte → State) (ho : ∀ t o f, Keeps s0 t → Keeps s0 (out t o f))
    (e st d data) : Keeps s0 (State.answerBy out s e st d data) := by
  unfold State.answerBy
  exact ho _ _ _ (State.cacheResponse_keeps (State.countExecuted_keeps (State.lastAnswer_keeps (Keeps.same h rfl) _ _ _) _) _ _)

theorem State.relayResponse_keeps {s0 s : State} (h : Keeps s0 s) (a1) (a2) : Keeps s0 (State.relayResponse s a1 a2) := by
  unfold State.relayResponse
  with_reducible repeat' first | exact h | assumption | apply State.answerBy_keeps | apply State.respondOut_keeps | apply State.raise_keeps | split | apply foldl_keeps | intro _ | fail_if_no_progress refine Keeps.same ?_ rfl | fail_if_no_progress extract_lets | apply getD_keeps | apply elim_keeps | dsimp +zetaDelta only

theorem State.respond_keeps {s0 s : State} (h : Keeps s0 s) (a1) (a2) : Keeps s0 (State.respond s a1 a2) := by
  unfold State.respond
  with_reducible repeat' first | exact h | assumption | apply State.send_keeps | apply State.relayResponse_keeps | apply State.respondOut_keeps | split | apply foldl_keeps | intro _ | fail_if_no_progress refine Keeps.same ?_ rfl | fail_if_no_progress extract_lets | apply getD_keeps | apply elim_keeps | dsimp +zetaDelta only

theorem State.answer_keeps {s0 s : State} (h : Keeps s0 s) (a1) (a2) (a3) (a4) : Keeps s0 (State.answer s a1 a2 a3 a4) := by
  unfold State.answer
  with_reducible repeat' first | exact h | assumption | apply State.answerBy_keeps | apply State.respond_keeps | split | apply foldl_keeps | intro _ | fail_if_no_progress refine Keeps.same ?_ rfl | fail_if_no_progress extract_lets | apply getD_keeps | apply elim_keeps | dsimp +zetaDelta only

theorem State.finish_keeps {s0 s : State} (h : Keeps s0 s) (a1) (a2) (a3) (a4) : Keeps s0 (State.finish s a1 a2 a3 a4) := by
  unfold State.finish
  with_reducible repeat' first | exact h | assumption | apply State.answer_keeps | split | apply foldl_keeps | intro _ | fail_if_no_progress refine Keeps.same ?_ rfl | fail_if_no_progress extract_lets | apply getD_keeps | apply elim_keeps | dsimp +zetaDelta only

theorem State.readsPass_keeps {s0 s : State} (h : Keeps s0 s) (a1) (a2) : Keeps s0 (State.readsPass s a1 a2).2 := by
  induction a2 generalizing s a1 with
  | nil =>
    unfold State.readsPass
    with_reducible repeat' first | exact h | assumption | apply State.gatePass_keeps | split | apply foldl_keeps | intro _ | fail_if_no_progress refine Keeps.same ?_ rfl | fail_if_no_progress extract_lets | apply getD_keeps | apply elim_keeps | dsimp +zetaDelta only
  | cons x l ih =>
    unfold State.readsPass
    with_reducible repeat' first | apply ih | exact h | assumption | apply State.gatePass_keeps | split | apply foldl_keeps | intro _ | fail_if_no_progress refine Keeps.same ?_ rfl | fail_if_no_progress extract_lets | apply getD_keeps | apply elim_keeps | dsimp +zetaDelta only

theorem State.finishRegs_keeps {s0 s : State} (h : Keeps s0 s) (a1) (a2) (a3) : Keeps s0 (State.finishRegs s a1 a2 a3) := by
  unfold State.finishRegs
  with_reducible repeat' first | exact h | assumption | apply State.readsPass_keeps | apply State.answer_keeps | split | apply foldl_keeps | intro _ | fail_if_no_progress refine Keeps.same ?_ rfl | fail_if_no_progress extract_lets | apply getD_keeps | apply elim_keeps | dsimp +zetaDelta only

theorem State.setWait_keeps {s0 s : State} (h : Keeps s0 s) (a1) (a2) : Keeps s0 (State.setWait s a1 a2) := by
  unfold State.setWait
  with_reducible repeat' first | exact h | assumption | split | apply foldl_keeps | intro _ | fail_if_no_progress refine Keeps.same ?_ rfl | fail_if_no_progress extract_lets | apply getD_keeps | apply elim_keeps | dsimp +zetaDelta only

theorem State.abortUnserved_keeps {s0 s : State} (h : Keeps s0 s) : Keeps s0 (State.abortUnserved s) := by
  unfold State.abortUnserved
  with_reducible repeat' first | exact h | assumption | apply State.answer_keeps | split | apply foldl_keeps | intro _ | fail_if_no_progress refine Keeps.same ?_ rfl | fail_if_no_progress extract_lets | apply getD_keeps | apply elim_keeps | dsimp +zetaDelta only

theorem State.mapSw_keeps {s0 s : State} (h : Keeps s0 s) (a1) : Keeps s0 (State.mapSw s a1) := by
  unfold State.mapSw
  with_reducible repeat' first | exact h | assumption | split | apply foldl_keeps | intro _ | fail_if_no_progress refine Keeps.same ?_ rfl | fail_if_no_progress extract_lets | apply getD_keeps | apply elim_keeps | dsimp +zetaDelta only

theorem State.setStored_keeps {s0 s : State} (h : Keeps s0 s) (a1) (a2) : Keeps s0 (State.setStored s a1 a2) := by
  unfold State.setStored
  with_reducible repeat' first | exact h | assumption | apply State.mapSw_keeps | split | apply foldl_keeps | intro _ | fail_if_no_progress refine Keeps.same ?_ rfl | fail_if_no_progress extract_lets | apply getD_keeps | apply elim_keeps | dsimp +zetaDelta only

theorem State.setVoq_keeps {s0 s : State} (h : Keeps s0 s) (a1) (a2) : Keeps s0 (State.setVoq s a1 a2) := by
  unfold State.setVoq
  with_reducible repeat' first | exact h | assumption | apply State.mapSw_keeps | split | apply foldl_keeps | intro _ | fail_if_no_progress refine Keeps.same ?_ rfl | fail_if_no_progress extract_lets | apply getD_keeps | apply elim_keeps | dsimp +zetaDelta only

theorem State.setStage_keeps {s0 s : State} (h : Keeps s0 s) (a1) (a2) : Keeps s0 (State.setStage s a1 a2) := by
  unfold State.setStage
  with_reducible repeat' first | exact h | assumption | apply State.mapSw_keeps | split | apply foldl_keeps | intro _ | fail_if_no_progress refine Keeps.same ?_ rfl | fail_if_no_progress extract_lets | apply getD_keeps | apply elim_keeps | dsimp +zetaDelta only

theorem State.setArrivals_keeps {s0 s : State} (h : Keeps s0 s) (a1) (a2) : Keeps s0 (State.setArrivals s a1 a2) := by
  unfold State.setArrivals
  with_reducible repeat' first | exact h | assumption | apply State.mapSw_keeps | split | apply foldl_keeps | intro _ | fail_if_no_progress refine Keeps.same ?_ rfl | fail_if_no_progress extract_lets | apply getD_keeps | apply elim_keeps | dsimp +zetaDelta only

theorem State.newId_keeps {s0 s : State} (h : Keeps s0 s) : Keeps s0 (State.newId s).2 := by
  unfold State.newId
  with_reducible repeat' first | exact h | assumption | apply State.mapSw_keeps | split | apply foldl_keeps | intro _ | fail_if_no_progress refine Keeps.same ?_ rfl | fail_if_no_progress extract_lets | apply getD_keeps | apply elim_keeps | dsimp +zetaDelta only

theorem State.addCells_keeps {s0 s : State} (h : Keeps s0 s) (a1) (a2) : Keeps s0 (State.addCells s a1 a2) := by
  unfold State.addCells
  with_reducible repeat' first | exact h | assumption | apply State.wr_keeps | split | apply foldl_keeps | intro _ | fail_if_no_progress refine Keeps.same ?_ rfl | fail_if_no_progress extract_lets | apply getD_keeps | apply elim_keeps | dsimp +zetaDelta only

theorem State.subCells_keeps {s0 s : State} (h : Keeps s0 s) (a1) (a2) : Keeps s0 (State.subCells s a1 a2) := by
  unfold State.subCells
  with_reducible repeat' first | exact h | assumption | apply State.wr_keeps | split | apply foldl_keeps | intro _ | fail_if_no_progress refine Keeps.same ?_ rfl | fail_if_no_progress extract_lets | apply getD_keeps | apply elim_keeps | dsimp +zetaDelta only

theorem State.freeCredit_keeps {s0 s : State} (h : Keeps s0 s) (a1) (a2) (a3) : Keeps s0 (State.freeCredit s a1 a2 a3) := by
  unfold State.freeCredit
  with_reducible repeat' first | exact h | assumption | apply State.modLink_keeps | split | apply foldl_keeps | intro _ | fail_if_no_progress refine Keeps.same ?_ rfl | fail_if_no_progress extract_lets | apply getD_keeps | apply elim_keeps | dsimp +zetaDelta only

theorem State.uncharge_keeps {s0 s : State} (h : Keeps s0 s) (a1) (a2) (a3) (a4) : Keeps s0 (State.uncharge s a1 a2 a3 a4) := by
  unfold State.uncharge
  with_reducible repeat' first | exact h | assumption | apply State.subCells_keeps | apply State.freeCredit_keeps | split | apply foldl_keeps | intro _ | fail_if_no_progress refine Keeps.same ?_ rfl | fail_if_no_progress extract_lets | apply getD_keeps | apply elim_keeps | dsimp +zetaDelta only

theorem State.freeStored_keeps {s0 s : State} (h : Keeps s0 s) (a1) (a2) : Keeps s0 (State.freeStored s a1 a2) := by
  unfold State.freeStored
  with_reducible repeat' first | exact h | assumption | apply State.setStored_keeps | apply State.addCells_keeps | apply State.uncharge_keeps | split | apply foldl_keeps | intro _ | fail_if_no_progress refine Keeps.same ?_ rfl | fail_if_no_progress extract_lets | apply getD_keeps | apply elim_keeps | dsimp +zetaDelta only

theorem State.release_keeps {s0 s : State} (h : Keeps s0 s) (a1) (a2) : Keeps s0 (State.release s a1 a2) := by
  unfold State.release
  with_reducible repeat' first | exact h | assumption | apply State.mapSw_keeps | apply State.freeStored_keeps | apply State.setStored_keeps | split | apply foldl_keeps | intro _ | fail_if_no_progress refine Keeps.same ?_ rfl | fail_if_no_progress extract_lets | apply getD_keeps | apply elim_keeps | dsimp +zetaDelta only

theorem State.loseStored_keeps {s0 s : State} (h : Keeps s0 s) (a1) (a2) : Keeps s0 (State.loseStored s a1 a2) := by
  unfold State.loseStored
  with_reducible repeat' first | exact h | assumption | apply State.mapSw_keeps | apply State.setStored_keeps | split | apply foldl_keeps | intro _ | fail_if_no_progress refine Keeps.same ?_ rfl | fail_if_no_progress extract_lets | apply getD_keeps | apply elim_keeps | dsimp +zetaDelta only

theorem State.releaseQueued_keeps {s0 s : State} (h : Keeps s0 s) (a1) : Keeps s0 (State.releaseQueued s a1).2 := by
  unfold State.releaseQueued
  with_reducible repeat' first | exact h | assumption | apply State.setVoq_keeps | apply State.setStage_keeps | apply State.mapSw_keeps | apply State.eachIn_keeps | apply State.release_keeps | apply State.mirror_keeps | split | apply foldl_keeps | intro _ | fail_if_no_progress refine Keeps.same ?_ rfl | fail_if_no_progress extract_lets | apply getD_keeps | apply elim_keeps | dsimp +zetaDelta only

theorem State.flush_keeps {s0 s : State} (h : Keeps s0 s) (a1) : Keeps s0 (State.flush s a1) := by
  unfold State.flush
  with_reducible repeat' first | exact h | assumption | apply State.releaseQueued_keeps | apply State.satAdd_keeps | apply State.raise_keeps | split | apply foldl_keeps | intro _ | fail_if_no_progress refine Keeps.same ?_ rfl | fail_if_no_progress extract_lets | apply getD_keeps | apply elim_keeps | dsimp +zetaDelta only

theorem State.sendPbError_keeps {s0 s : State} (h : Keeps s0 s) (a1) (a2) (a3) (a4) (a5) : Keeps s0 (State.sendPbError s a1 a2 a3 a4 a5) := by
  unfold State.sendPbError
  with_reducible repeat' first | exact h | assumption | apply State.accept_keeps | split | apply foldl_keeps | intro _ | fail_if_no_progress refine Keeps.same ?_ rfl | fail_if_no_progress extract_lets | apply getD_keeps | apply elim_keeps | dsimp +zetaDelta only

theorem State.farGap_keeps {s0 s : State} (h : Keeps s0 s) (a1) (a2) (a3) : Keeps s0 (State.farGap s a1 a2 a3) := by
  unfold State.farGap
  with_reducible repeat' first | exact h | assumption | apply State.sendPbError_keeps | split | apply foldl_keeps | intro _ | fail_if_no_progress refine Keeps.same ?_ rfl | fail_if_no_progress extract_lets | apply getD_keeps | apply elim_keeps | dsimp +zetaDelta only

theorem State.sendConfirm_keeps {s0 s : State} (h : Keeps s0 s) (a1) (a2) (a3) : Keeps s0 (State.sendConfirm s a1 a2 a3) := by
  unfold State.sendConfirm
  with_reducible repeat' first | exact h | assumption | apply State.domMsg_keeps | split | apply foldl_keeps | intro _ | fail_if_no_progress refine Keeps.same ?_ rfl | fail_if_no_progress extract_lets | apply getD_keeps | apply elim_keeps | dsimp +zetaDelta only

theorem State.present_keeps {s0 s : State} (h : Keeps s0 s) (a1) (a2) (a3) : Keeps s0 (State.present s a1 a2 a3) := by
  unfold State.present
  with_reducible repeat' first | exact h | assumption | apply State.accept_keeps | split | apply foldl_keeps | intro _ | fail_if_no_progress refine Keeps.same ?_ rfl | fail_if_no_progress extract_lets | apply getD_keeps | apply elim_keeps | dsimp +zetaDelta only

theorem State.nativeTlp_keeps {s0 s : State} (h : Keeps s0 s) (a1) (a2) : Keeps s0 (State.nativeTlp s a1 a2) := by
  unfold State.nativeTlp
  with_reducible repeat' first | exact h | assumption | apply State.send_keeps | split | apply foldl_keeps | intro _ | fail_if_no_progress refine Keeps.same ?_ rfl | fail_if_no_progress extract_lets | apply getD_keeps | apply elim_keeps | dsimp +zetaDelta only

theorem State.answerRequest_keeps {s0 s : State} (h : Keeps s0 s) (a1) (a2) (a3) : Keeps s0 (State.answerRequest s a1 a2 a3) := by
  unfold State.answerRequest
  with_reducible repeat' first | exact h | assumption | apply State.present_keeps | apply State.nativeTlp_keeps | split | apply foldl_keeps | intro _ | fail_if_no_progress refine Keeps.same ?_ rfl | fail_if_no_progress extract_lets | apply getD_keeps | apply elim_keeps | dsimp +zetaDelta only

theorem State.requestDone_keeps {s0 s : State} (h : Keeps s0 s) (a1) (a2) : Keeps s0 (State.requestDone s a1 a2) := by
  unfold State.requestDone
  with_reducible repeat' first | exact h | assumption | apply State.modAdp_keeps | split | apply foldl_keeps | intro _ | fail_if_no_progress refine Keeps.same ?_ rfl | fail_if_no_progress extract_lets | apply getD_keeps | apply elim_keeps | dsimp +zetaDelta only

theorem State.caNoted_keeps {s0 s : State} (h : Keeps s0 s) (a1) : Keeps s0 (State.caNoted s a1) := by
  unfold State.caNoted
  with_reducible repeat' first | exact h | assumption | split | apply foldl_keeps | intro _ | fail_if_no_progress refine Keeps.same ?_ rfl | fail_if_no_progress extract_lets | apply getD_keeps | apply elim_keeps | dsimp +zetaDelta only

theorem State.farPoison_keeps {s0 s : State} (h : Keeps s0 s) (a1) (a2) : Keeps s0 (State.farPoison s a1 a2) := by
  unfold State.farPoison
  with_reducible repeat' first | exact h | assumption | apply State.raise_keeps | apply State.caNoted_keeps | apply State.answerRequest_keeps | apply State.requestDone_keeps | apply State.accept_keeps | apply State.sendPbError_keeps | split | apply foldl_keeps | intro _ | fail_if_no_progress refine Keeps.same ?_ rfl | fail_if_no_progress extract_lets | apply getD_keeps | apply elim_keeps | dsimp +zetaDelta only

end Sys2Proof.Machine
end

