-- ==== Sys2Proof/Laws/KeptSwitch.lean ====
section
/-!
SUPPORT. What every operation of Machine/Adapter.lean, Machine/LaneBlocks.lean, Machine/Switch.lean keeps (see Laws/Keeps.lean), one lemma each, in the order in which they call each other.
-/

set_option linter.unreachableTactic false
set_option linter.unusedTactic false
set_option linter.all false

namespace Sys2Proof.Machine

theorem State.startItem_keeps {s0 s : State} (h : Keeps s0 s) (a1) (a2) : Keeps s0 (State.startItem s a1 a2) := by
  unfold State.startItem
  with_reducible repeat' first | exact h | assumption | apply State.newId_keeps | apply State.modEng_keeps | apply State.setArrivals_keeps | split | apply foldl_keeps | intro _ | fail_if_no_progress refine Keeps.same ?_ rfl | fail_if_no_progress extract_lets | apply getD_keeps | apply elim_keeps | dsimp +zetaDelta only

theorem State.startNext_keeps {s0 s : State} (h : Keeps s0 s) (a1) : Keeps s0 (State.startNext s a1) := by
  unfold State.startNext
  with_reducible repeat' first | exact h | assumption | apply State.modEng_keeps | apply State.startItem_keeps | split | apply foldl_keeps | intro _ | fail_if_no_progress refine Keeps.same ?_ rfl | fail_if_no_progress extract_lets | apply getD_keeps | apply elim_keeps | dsimp +zetaDelta only

theorem State.enqueue_keeps {s0 s : State} (h : Keeps s0 s) (a1) (a2) : Keeps s0 (State.enqueue s a1 a2) := by
  unfold State.enqueue
  with_reducible repeat' first | exact h | assumption | apply State.modEng_keeps | apply State.startNext_keeps | split | apply foldl_keeps | intro _ | fail_if_no_progress refine Keeps.same ?_ rfl | fail_if_no_progress extract_lets | apply getD_keeps | apply elim_keeps | dsimp +zetaDelta only

theorem State.endItem_keeps {s0 s : State} (h : Keeps s0 s) (a1) : Keeps s0 (State.endItem s a1) := by
  unfold State.endItem
  with_reducible repeat' first | exact h | assumption | apply State.modEng_keeps | apply State.wrapAdd_keeps | apply State.startNext_keeps | split | apply foldl_keeps | intro _ | fail_if_no_progress refine Keeps.same ?_ rfl | fail_if_no_progress extract_lets | apply getD_keeps | apply elim_keeps | dsimp +zetaDelta only

theorem State.forgetLocal_keeps {s0 s : State} (h : Keeps s0 s) (a1) (a2) : Keeps s0 (State.forgetLocal s a1 a2) := by
  unfold State.forgetLocal
  with_reducible repeat' first | exact h | assumption | apply State.mapSw_keeps | split | apply foldl_keeps | intro _ | fail_if_no_progress refine Keeps.same ?_ rfl | fail_if_no_progress extract_lets | apply getD_keeps | apply elim_keeps | dsimp +zetaDelta only

theorem State.completeItem_keeps {s0 s : State} (h : Keeps s0 s) (a1) : Keeps s0 (State.completeItem s a1) := by
  unfold State.completeItem
  with_reducible repeat' first | exact h | assumption | apply State.setStored_keeps | apply State.wrapAdd_keeps | apply State.wrapAdd64_keeps | apply State.endItem_keeps | apply State.forgetLocal_keeps | apply State.modAdp_keeps | split | apply foldl_keeps | intro _ | fail_if_no_progress refine Keeps.same ?_ rfl | fail_if_no_progress extract_lets | apply getD_keeps | apply elim_keeps | dsimp +zetaDelta only

theorem State.steal_keeps {s0 s : State} (h : Keeps s0 s) (a1) (a2) (a3) (a4) : Keeps s0 (State.steal s a1 a2 a3 a4) := by
  unfold State.steal
  with_reducible repeat' first | exact h | assumption | apply State.modEng_keeps | apply State.wrapAdd_keeps | split | apply foldl_keeps | intro _ | fail_if_no_progress refine Keeps.same ?_ rfl | fail_if_no_progress extract_lets | apply getD_keeps | apply elim_keeps | dsimp +zetaDelta only

theorem execSteal_keeps {s0 s : State} (h : Keeps s0 s) (a0) : ∀ t, execSteal a0 s = .next t → Keeps s0 t := by
  intro t ht
  refine Keeps.ofEq ?_ (Host.Outcome.next.inj ht).symm
  with_reducible repeat' first | exact h | assumption | apply State.steal_keeps | split | apply foldl_keeps | intro _ | fail_if_no_progress refine Keeps.same ?_ rfl | fail_if_no_progress extract_lets | apply getD_keeps | apply elim_keeps | dsimp +zetaDelta only

theorem execXsteal_keeps {s0 s : State} (h : Keeps s0 s) (a0) : ∀ t, execXsteal a0 s = .next t → Keeps s0 t := by
  intro t ht
  refine Keeps.ofEq ?_ (Host.Outcome.next.inj ht).symm
  with_reducible repeat' first | exact h | assumption | apply State.steal_keeps | split | apply foldl_keeps | intro _ | fail_if_no_progress refine Keeps.same ?_ rfl | fail_if_no_progress extract_lets | apply getD_keeps | apply elim_keeps | dsimp +zetaDelta only

theorem execStealMoveDone_keeps {s0 s : State} (h : Keeps s0 s) (a0) : ∀ t, execStealMoveDone a0 s = .next t → Keeps s0 t := by
  intro t ht
  refine Keeps.ofEq ?_ (Host.Outcome.next.inj ht).symm
  with_reducible repeat' first | exact h | assumption | apply State.modEng_keeps | apply State.startNext_keeps | split | apply foldl_keeps | intro _ | fail_if_no_progress refine Keeps.same ?_ rfl | fail_if_no_progress extract_lets | apply getD_keeps | apply elim_keeps | dsimp +zetaDelta only

theorem execWorkItemComplete_keeps {s0 s : State} (h : Keeps s0 s) (a0) : ∀ t, execWorkItemComplete a0 s = .next t → Keeps s0 t := by
  intro t ht
  refine Keeps.ofEq ?_ (Host.Outcome.next.inj ht).symm
  with_reducible repeat' first | exact h | assumption | apply State.completeItem_keeps | split | apply foldl_keeps | intro _ | fail_if_no_progress refine Keeps.same ?_ rfl | fail_if_no_progress extract_lets | apply getD_keeps | apply elim_keeps | dsimp +zetaDelta only

theorem State.police_keeps {s0 s : State} (h : Keeps s0 s) (a1) (a2) : Keeps s0 (State.police s a1 a2).2 := by
  unfold State.police
  with_reducible repeat' first | exact h | assumption | apply State.satAdd_keeps | split | apply foldl_keeps | intro _ | fail_if_no_progress refine Keeps.same ?_ rfl | fail_if_no_progress extract_lets | apply getD_keeps | apply elim_keeps | dsimp +zetaDelta only

theorem State.fillPolicer_keeps {s0 s : State} (h : Keeps s0 s) (a1) : Keeps s0 (State.fillPolicer s a1) := by
  unfold State.fillPolicer
  with_reducible repeat' first | exact h | assumption | split | apply foldl_keeps | intro _ | fail_if_no_progress refine Keeps.same ?_ rfl | fail_if_no_progress extract_lets | apply getD_keeps | apply elim_keeps | dsimp +zetaDelta only

theorem State.dispatchPackets_keeps {s0 s : State} (h : Keeps s0 s) (a1) (a2) (a3) : Keeps s0 (State.dispatchPackets s a1 a2 a3) := by
  induction a3 generalizing s a1 a2 with
  | nil =>
    unfold State.dispatchPackets
    with_reducible repeat' first | exact h | assumption | apply State.wrapAdd_keeps | apply State.enqueue_keeps | split | apply foldl_keeps | intro _ | fail_if_no_progress refine Keeps.same ?_ rfl | fail_if_no_progress extract_lets | apply getD_keeps | apply elim_keeps | dsimp +zetaDelta only
  | cons x l ih =>
    unfold State.dispatchPackets
    with_reducible repeat' first | apply ih | exact h | assumption | apply State.wrapAdd_keeps | apply State.enqueue_keeps | split | apply foldl_keeps | intro _ | fail_if_no_progress refine Keeps.same ?_ rfl | fail_if_no_progress extract_lets | apply getD_keeps | apply elim_keeps | dsimp +zetaDelta only

theorem State.dispatchUnit_keeps {s0 s : State} (h : Keeps s0 s) (a1) (a2) (a3) (a4) : Keeps s0 (State.dispatchUnit s a1 a2 a3 a4) := by
  unfold State.dispatchUnit
  with_reducible repeat' first | exact h | assumption | apply State.modAdp_keeps | apply State.dispatchPackets_keeps | apply State.raise_keeps | apply State.satAdd_keeps | split | apply foldl_keeps | intro _ | fail_if_no_progress refine Keeps.same ?_ rfl | fail_if_no_progress extract_lets | apply getD_keeps | apply elim_keeps | dsimp +zetaDelta only

theorem State.noteSent_keeps {s0 s : State} (h : Keeps s0 s) (a1) (a2) (a3) : Keeps s0 (State.noteSent s a1 a2 a3) := by
  unfold State.noteSent
  with_reducible repeat' first | exact h | assumption | apply State.modAdp_keeps | split | apply foldl_keeps | intro _ | fail_if_no_progress refine Keeps.same ?_ rfl | fail_if_no_progress extract_lets | apply getD_keeps | apply elim_keeps | dsimp +zetaDelta only

theorem State.unitGone_keeps {s0 s : State} (h : Keeps s0 s) (a1) : Keeps s0 (State.unitGone s a1) := by
  unfold State.unitGone
  with_reducible repeat' first | exact h | assumption | apply State.flowControl_keeps | split | apply foldl_keeps | intro _ | fail_if_no_progress refine Keeps.same ?_ rfl | fail_if_no_progress extract_lets | apply getD_keeps | apply elim_keeps | dsimp +zetaDelta only

theorem State.dispatch_keeps {s0 s : State} (h : Keeps s0 s) (a1) : Keeps s0 (State.dispatch s a1) := by
  unfold State.dispatch
  with_reducible repeat' first | exact h | assumption | apply State.modAdp_keeps | apply State.unitGone_keeps | apply State.police_keeps | apply State.dispatchUnit_keeps | apply State.raise_keeps | apply State.satAdd_keeps | apply State.noteSent_keeps | split | apply foldl_keeps | intro _ | fail_if_no_progress refine Keeps.same ?_ rfl | fail_if_no_progress extract_lets | apply getD_keeps | apply elim_keeps | dsimp +zetaDelta only

theorem State.egressEnter_keeps {s0 s : State} (h : Keeps s0 s) (a1) (a2) (a3) (a4) : Keeps s0 (State.egressEnter s a1 a2 a3 a4) := by
  unfold State.egressEnter
  with_reducible repeat' first | exact h | assumption | apply State.mapSw_keeps | apply State.enqueue_keeps | apply State.raise_keeps | split | apply foldl_keeps | intro _ | fail_if_no_progress refine Keeps.same ?_ rfl | fail_if_no_progress extract_lets | apply getD_keeps | apply elim_keeps | dsimp +zetaDelta only

theorem State.deliverNative_keeps {s0 s : State} (h : Keeps s0 s) (a1) (a2) (a3) : Keeps s0 (State.deliverNative s a1 a2 a3) := by
  unfold State.deliverNative
  with_reducible repeat' first | exact h | assumption | apply State.send_keeps | apply State.macEnqueue_keeps | split | apply foldl_keeps | intro _ | fail_if_no_progress refine Keeps.same ?_ rfl | fail_if_no_progress extract_lets | apply getD_keeps | apply elim_keeps | dsimp +zetaDelta only

theorem State.rbPoison_keeps {s0 s : State} (h : Keeps s0 s) (a1) (a2) : Keeps s0 (State.rbPoison s a1 a2) := by
  unfold State.rbPoison
  with_reducible repeat' first | exact h | assumption | apply State.accept_keeps | apply State.wr_keeps | apply State.finish_keeps | split | apply foldl_keeps | intro _ | fail_if_no_progress refine Keeps.same ?_ rfl | fail_if_no_progress extract_lets | apply getD_keeps | apply elim_keeps | dsimp +zetaDelta only

theorem State.setFrag_keeps {s0 s : State} (h : Keeps s0 s) (a1) (a2) (a3) : Keeps s0 (State.setFrag s a1 a2 a3) := by
  unfold State.setFrag
  with_reducible repeat' first | exact h | assumption | apply State.modAdp_keeps | split | apply foldl_keeps | intro _ | fail_if_no_progress refine Keeps.same ?_ rfl | fail_if_no_progress extract_lets | apply getD_keeps | apply elim_keeps | dsimp +zetaDelta only

theorem State.fragErr_keeps {s0 s : State} (h : Keeps s0 s) (a1) (a2) : Keeps s0 (State.fragErr s a1 a2) := by
  unfold State.fragErr
  with_reducible repeat' first | exact h | assumption | apply State.setFrag_keeps | apply State.raise_keeps | split | apply foldl_keeps | intro _ | fail_if_no_progress refine Keeps.same ?_ rfl | fail_if_no_progress extract_lets | apply getD_keeps | apply elim_keeps | dsimp +zetaDelta only

theorem State.countRx_keeps {s0 s : State} (h : Keeps s0 s) (a1) (a2) (a3) : Keeps s0 (State.countRx s a1 a2 a3) := by
  unfold State.countRx
  with_reducible repeat' first | exact h | assumption | apply State.wrapAdd_keeps | apply State.wrapAdd64_keeps | split | apply foldl_keeps | intro _ | fail_if_no_progress refine Keeps.same ?_ rfl | fail_if_no_progress extract_lets | apply getD_keeps | apply elim_keeps | dsimp +zetaDelta only

theorem State.endUnit_keeps {s0 s : State} (h : Keeps s0 s) (a1) (a2) : Keeps s0 (State.endUnit s a1 a2) := by
  unfold State.endUnit
  with_reducible repeat' first | exact h | assumption | apply State.setFrag_keeps | apply State.fragErr_keeps | apply State.deliverNative_keeps | apply State.countRx_keeps | split | apply foldl_keeps | intro _ | fail_if_no_progress refine Keeps.same ?_ rfl | fail_if_no_progress extract_lets | apply getD_keeps | apply elim_keeps | dsimp +zetaDelta only

theorem State.takeFragment_keeps {s0 s : State} (h : Keeps s0 s) (a1) (a2) (a3) (a4) : Keeps s0 (State.takeFragment s a1 a2 a3 a4) := by
  unfold State.takeFragment
  with_reducible repeat' first | exact h | assumption | apply State.fragErr_keeps | apply State.setFrag_keeps | apply State.endUnit_keeps | split | apply foldl_keeps | intro _ | fail_if_no_progress refine Keeps.same ?_ rfl | fail_if_no_progress extract_lets | apply getD_keeps | apply elim_keeps | dsimp +zetaDelta only

theorem State.letGo_keeps {s0 s : State} (h : Keeps s0 s) (a1) (a2) : Keeps s0 (State.letGo s a1 a2) := by
  unfold State.letGo
  with_reducible repeat' first | exact h | assumption | apply State.mapSw_keeps | apply State.release_keeps | split | apply foldl_keeps | intro _ | fail_if_no_progress refine Keeps.same ?_ rfl | fail_if_no_progress extract_lets | apply getD_keeps | apply elim_keeps | dsimp +zetaDelta only

theorem State.poisonedUnit_keeps {s0 s : State} (h : Keeps s0 s) (a1) (a2) : Keeps s0 (State.poisonedUnit s a1 a2) := by
  unfold State.poisonedUnit
  with_reducible repeat' first | exact h | assumption | apply State.farPoison_keeps | apply State.sendConfirm_keeps | apply State.rbPoison_keeps | split | apply foldl_keeps | intro _ | fail_if_no_progress refine Keeps.same ?_ rfl | fail_if_no_progress extract_lets | apply getD_keeps | apply elim_keeps | dsimp +zetaDelta only

theorem State.deliver_keeps {s0 s : State} (h : Keeps s0 s) (a1) (a2) (a3) : Keeps s0 (State.deliver s a1 a2 a3) := by
  unfold State.deliver
  with_reducible repeat' first | exact h | assumption | apply State.raise_keeps | apply State.takeFragment_keeps | apply State.poisonedUnit_keeps | apply State.countRx_keeps | apply State.deliverNative_keeps | apply State.letGo_keeps | split | apply foldl_keeps | intro _ | fail_if_no_progress refine Keeps.same ?_ rfl | fail_if_no_progress extract_lets | apply getD_keeps | apply elim_keeps | dsimp +zetaDelta only

theorem State.deliverA0_keeps {s0 s : State} (h : Keeps s0 s) (a1) (a2) : Keeps s0 (State.deliverA0 s a1 a2) := by
  unfold State.deliverA0
  with_reducible repeat' first | exact h | assumption | apply State.raise_keeps | apply State.takeFragment_keeps | apply State.letGo_keeps | split | apply foldl_keeps | intro _ | fail_if_no_progress refine Keeps.same ?_ rfl | fail_if_no_progress extract_lets | apply getD_keeps | apply elim_keeps | dsimp +zetaDelta only

theorem State.deliverConfirm_keeps {s0 s : State} (h : Keeps s0 s) (a1) (a2) (a3) : Keeps s0 (State.deliverConfirm s a1 a2 a3) := by
  unfold State.deliverConfirm
  with_reducible repeat' first | exact h | assumption | apply State.raise_keeps | apply State.deliverNative_keeps | apply State.letGo_keeps | split | apply foldl_keeps | intro _ | fail_if_no_progress refine Keeps.same ?_ rfl | fail_if_no_progress extract_lets | apply getD_keeps | apply elim_keeps | dsimp +zetaDelta only

theorem State.setHeld_keeps {s0 s : State} (h : Keeps s0 s) (a1) (a2) : Keeps s0 (State.setHeld s a1 a2) := by
  unfold State.setHeld
  with_reducible repeat' first | exact h | assumption | apply State.modAdp_keeps | apply State.wr_keeps | split | apply foldl_keeps | intro _ | fail_if_no_progress refine Keeps.same ?_ rfl | fail_if_no_progress extract_lets | apply getD_keeps | apply elim_keeps | dsimp +zetaDelta only

theorem State.deliverRun_keeps {s0 s : State} (h : Keeps s0 s) (a1) (a2) : Keeps s0 (State.deliverRun s a1 a2) := by
  induction a2 generalizing s a1 with
  | zero =>
    unfold State.deliverRun
    with_reducible repeat' first | exact h | assumption | apply State.setHeld_keeps | apply State.deliver_keeps | apply State.wrapAdd_keeps | split | apply foldl_keeps | intro _ | fail_if_no_progress refine Keeps.same ?_ rfl | fail_if_no_progress extract_lets | apply getD_keeps | apply elim_keeps | dsimp +zetaDelta only
  | succ n ih =>
    unfold State.deliverRun
    with_reducible repeat' first | apply ih | exact h | assumption | apply State.setHeld_keeps | apply State.deliver_keeps | apply State.wrapAdd_keeps | split | apply foldl_keeps | intro _ | fail_if_no_progress refine Keeps.same ?_ rfl | fail_if_no_progress extract_lets | apply getD_keeps | apply elim_keeps | dsimp +zetaDelta only

theorem State.skipToLowest_keeps {s0 s : State} (h : Keeps s0 s) (a1) : Keeps s0 (State.skipToLowest s a1) := by
  unfold State.skipToLowest
  with_reducible repeat' first | exact h | assumption | apply State.farGap_keeps | apply State.raise_keeps | apply State.wr_keeps | apply State.deliverRun_keeps | split | apply foldl_keeps | intro _ | fail_if_no_progress refine Keeps.same ?_ rfl | fail_if_no_progress extract_lets | apply getD_keeps | apply elim_keeps | dsimp +zetaDelta only

theorem State.dropLate_keeps {s0 s : State} (h : Keeps s0 s) (a1) (a2) (a3) : Keeps s0 (State.dropLate s a1 a2 a3) := by
  unfold State.dropLate
  with_reducible repeat' first | exact h | assumption | apply State.farGap_keeps | apply State.raise_keeps | apply State.letGo_keeps | split | apply foldl_keeps | intro _ | fail_if_no_progress refine Keeps.same ?_ rfl | fail_if_no_progress extract_lets | apply getD_keeps | apply elim_keeps | dsimp +zetaDelta only

theorem State.resequence_keeps {s0 s : State} (h : Keeps s0 s) (a1) (a2) (a3) (a4) : Keeps s0 (State.resequence s a1 a2 a3 a4) := by
  induction a4 generalizing s a1 a2 a3 with
  | zero =>
    unfold State.resequence
    with_reducible repeat' first | exact h | assumption | apply State.deliver_keeps | apply State.wrapAdd_keeps | apply State.deliverRun_keeps | apply State.dropLate_keeps | apply State.skipToLowest_keeps | apply State.setHeld_keeps | split | apply foldl_keeps | intro _ | fail_if_no_progress refine Keeps.same ?_ rfl | fail_if_no_progress extract_lets | apply getD_keeps | apply elim_keeps | dsimp +zetaDelta only
  | succ n ih =>
    unfold State.resequence
    with_reducible repeat' first | apply ih | exact h | assumption | apply State.deliver_keeps | apply State.wrapAdd_keeps | apply State.deliverRun_keeps | apply State.dropLate_keeps | apply State.skipToLowest_keeps | apply State.setHeld_keeps | split | apply foldl_keeps | intro _ | fail_if_no_progress refine Keeps.same ?_ rfl | fail_if_no_progress extract_lets | apply getD_keeps | apply elim_keeps | dsimp +zetaDelta only

theorem State.passOne_keeps {s0 s : State} (h : Keeps s0 s) (a1) (a2) (a3) : Keeps s0 (State.passOne s a1 a2 a3) := by
  unfold State.passOne
  with_reducible repeat' first | exact h | assumption | apply State.deliver_keeps | apply State.wr_keeps | apply State.raise_keeps | split | apply foldl_keeps | intro _ | fail_if_no_progress refine Keeps.same ?_ rfl | fail_if_no_progress extract_lets | apply getD_keeps | apply elim_keeps | dsimp +zetaDelta only

theorem State.passThrough_keeps {s0 s : State} (h : Keeps s0 s) (a1) (a2) (a3) : Keeps s0 (State.passThrough s a1 a2 a3) := by
  unfold State.passThrough
  with_reducible repeat' first | exact h | assumption | apply State.setHeld_keeps | apply State.eachIn_keeps | apply State.passOne_keeps | split | apply foldl_keeps | intro _ | fail_if_no_progress refine Keeps.same ?_ rfl | fail_if_no_progress extract_lets | apply getD_keeps | apply elim_keeps | dsimp +zetaDelta only

theorem State.egressArrive_keeps {s0 s : State} (h : Keeps s0 s) (a1) : Keeps s0 (State.egressArrive s a1) := by
  unfold State.egressArrive
  with_reducible repeat' first | exact h | assumption | apply State.modAdp_keeps | apply State.deliverA0_keeps | apply State.deliverConfirm_keeps | apply State.raise_keeps | apply State.letGo_keeps | apply State.passThrough_keeps | apply State.resequence_keeps | split | apply foldl_keeps | intro _ | fail_if_no_progress refine Keeps.same ?_ rfl | fail_if_no_progress extract_lets | apply getD_keeps | apply elim_keeps | dsimp +zetaDelta only

theorem execRsqTmo_keeps {s0 s : State} (h : Keeps s0 s) (a0) : ∀ t, execRsqTmo a0 s = .next t → Keeps s0 t := by
  intro t ht
  refine Keeps.ofEq ?_ (Host.Outcome.next.inj ht).symm
  with_reducible repeat' first | exact h | assumption | apply State.skipToLowest_keeps | split | apply foldl_keeps | intro _ | fail_if_no_progress refine Keeps.same ?_ rfl | fail_if_no_progress extract_lets | apply getD_keeps | apply elim_keeps | dsimp +zetaDelta only

theorem State.closeAdapter_keeps {s0 s : State} (h : Keeps s0 s) (a1) : Keeps s0 (State.closeAdapter s a1) := by
  unfold State.closeAdapter
  with_reducible repeat' first | exact h | assumption | apply State.deliverRun_keeps | apply State.setHeld_keeps | apply State.eachIn_keeps | apply State.letGo_keeps | apply State.farGap_keeps | apply State.raise_keeps | apply State.modAdp_keeps | apply State.wr_keeps | split | apply foldl_keeps | intro _ | fail_if_no_progress refine Keeps.same ?_ rfl | fail_if_no_progress extract_lets | apply getD_keeps | apply elim_keeps | dsimp +zetaDelta only

theorem State.openAdapter_keeps {s0 s : State} (h : Keeps s0 s) (a1) : Keeps s0 (State.openAdapter s a1) := by
  unfold State.openAdapter
  with_reducible repeat' first | exact h | assumption | apply State.wr_keeps | split | apply foldl_keeps | intro _ | fail_if_no_progress refine Keeps.same ?_ rfl | fail_if_no_progress extract_lets | apply getD_keeps | apply elim_keeps | dsimp +zetaDelta only

theorem State.modLane_keeps {s0 s : State} (h : Keeps s0 s) (a1) (a2) : Keeps s0 (State.modLane s a1 a2) := by
  unfold State.modLane
  with_reducible repeat' first | exact h | assumption | apply State.setLane_keeps | split | apply foldl_keeps | intro _ | fail_if_no_progress refine Keeps.same ?_ rfl | fail_if_no_progress extract_lets | apply getD_keeps | apply elim_keeps | dsimp +zetaDelta only

theorem State.laneSend_keeps {s0 s : State} (h : Keeps s0 s) (a1) (a2) (a3) : Keeps s0 (State.laneSend s a1 a2 a3) := by
  unfold State.laneSend
  with_reducible repeat' first | exact h | assumption | apply State.send_keeps | split | apply foldl_keeps | intro _ | fail_if_no_progress refine Keeps.same ?_ rfl | fail_if_no_progress extract_lets | apply getD_keeps | apply elim_keeps | dsimp +zetaDelta only

theorem State.burstAt_keeps {s0 s : State} (h : Keeps s0 s) (a1) (a2) : Keeps s0 (State.burstAt s a1 a2).2 := by
  unfold State.burstAt
  with_reducible repeat' first | exact h | assumption | apply State.fresh_keeps | split | apply foldl_keeps | intro _ | fail_if_no_progress refine Keeps.same ?_ rfl | fail_if_no_progress extract_lets | apply getD_keeps | apply elim_keeps | dsimp +zetaDelta only

theorem State.drive_keeps {s0 s : State} (h : Keeps s0 s) (a1) (a2) : Keeps s0 (State.drive s a1 a2) := by
  unfold State.drive
  with_reducible repeat' first | exact h | assumption | apply State.send_keeps | split | apply foldl_keeps | intro _ | fail_if_no_progress refine Keeps.same ?_ rfl | fail_if_no_progress extract_lets | apply getD_keeps | apply elim_keeps | dsimp +zetaDelta only

theorem State.sendBlock_keeps {s0 s : State} (h : Keeps s0 s) (a1) (a2) (a3) : Keeps s0 (State.sendBlock s a1 a2 a3) := by
  unfold State.sendBlock
  with_reducible repeat' first | exact h | assumption | apply State.burst_keeps | apply State.modLane_keeps | apply State.drive_keeps | apply State.burstAt_keeps | apply State.laneSend_keeps | apply State.wrapAdd_keeps | split | apply foldl_keeps | intro _ | fail_if_no_progress refine Keeps.same ?_ rfl | fail_if_no_progress extract_lets | apply getD_keeps | apply elim_keeps | dsimp +zetaDelta only

theorem State.sendMarker_keeps {s0 s : State} (h : Keeps s0 s) (a1) (a2) (a3) (a4) (a5) : Keeps s0 (State.sendMarker s a1 a2 a3 a4 a5) := by
  unfold State.sendMarker
  with_reducible repeat' first | exact h | assumption | apply State.modLane_keeps | apply State.sendBlock_keeps | split | apply foldl_keeps | intro _ | fail_if_no_progress refine Keeps.same ?_ rfl | fail_if_no_progress extract_lets | apply getD_keeps | apply elim_keeps | dsimp +zetaDelta only

theorem State.sendData_keeps {s0 s : State} (h : Keeps s0 s) (a1) (a2) : Keeps s0 (State.sendData s a1 a2) := by
  unfold State.sendData
  with_reducible repeat' first | exact h | assumption | apply State.modLane_keeps | apply State.sendBlock_keeps | split | apply foldl_keeps | intro _ | fail_if_no_progress refine Keeps.same ?_ rfl | fail_if_no_progress extract_lets | apply getD_keeps | apply elim_keeps | dsimp +zetaDelta only

theorem State.sendSymbols_keeps {s0 s : State} (h : Keeps s0 s) (a1) : Keeps s0 (State.sendSymbols s a1) := by
  unfold State.sendSymbols
  with_reducible repeat' first | exact h | assumption | apply State.modLane_keeps | apply State.sendData_keeps | split | apply foldl_keeps | intro _ | fail_if_no_progress refine Keeps.same ?_ rfl | fail_if_no_progress extract_lets | apply getD_keeps | apply elim_keeps | dsimp +zetaDelta only

theorem State.finishBlocks_keeps {s0 s : State} (h : Keeps s0 s) (a1) : Keeps s0 (State.finishBlocks s a1) := by
  unfold State.finishBlocks
  with_reducible repeat' first | exact h | assumption | apply State.each_keeps | apply State.sendSymbols_keeps | split | apply foldl_keeps | intro _ | fail_if_no_progress refine Keeps.same ?_ rfl | fail_if_no_progress extract_lets | apply getD_keeps | apply elim_keeps | dsimp +zetaDelta only

theorem State.blockPeriod_keeps {s0 s : State} (h : Keeps s0 s) (a1) : Keeps s0 (State.blockPeriod s a1) := by
  unfold State.blockPeriod
  with_reducible repeat' first | exact h | assumption | apply State.eachIn_keeps | apply State.sendMarker_keeps | apply State.sendSymbols_keeps | apply State.modLane_keeps | apply State.modLink_keeps | split | apply foldl_keeps | intro _ | fail_if_no_progress refine Keeps.same ?_ rfl | fail_if_no_progress extract_lets | apply getD_keeps | apply elim_keeps | dsimp +zetaDelta only

theorem State.sendCodeword_keeps {s0 s : State} (h : Keeps s0 s) (a1) : Keeps s0 (State.sendCodeword s a1) := by
  unfold State.sendCodeword
  with_reducible repeat' first | exact h | assumption | apply State.eachIn_keeps | apply State.modLane_keeps | apply State.modLink_keeps | apply State.each_keeps | apply State.blockPeriod_keeps | split | apply foldl_keeps | intro _ | fail_if_no_progress refine Keeps.same ?_ rfl | fail_if_no_progress extract_lets | apply getD_keeps | apply elim_keeps | dsimp +zetaDelta only

theorem State.putCell_keeps {s0 s : State} (h : Keeps s0 s) (a1) (a2) : Keeps s0 (State.putCell s a1 a2) := by
  unfold State.putCell
  with_reducible repeat' first | exact h | assumption | apply State.send_keeps | apply State.modLink_keeps | split | apply foldl_keeps | intro _ | fail_if_no_progress refine Keeps.same ?_ rfl | fail_if_no_progress extract_lets | apply getD_keeps | apply elim_keeps | dsimp +zetaDelta only

theorem State.beginStripe_keeps {s0 s : State} (h : Keeps s0 s) (a1) : Keeps s0 (State.beginStripe s a1) := by
  unfold State.beginStripe
  with_reducible repeat' first | exact h | assumption | apply State.modLink_keeps | split | apply foldl_keeps | intro _ | fail_if_no_progress refine Keeps.same ?_ rfl | fail_if_no_progress extract_lets | apply getD_keeps | apply elim_keeps | dsimp +zetaDelta only

theorem State.sendJoin_keeps {s0 s : State} (h : Keeps s0 s) (a1) : Keeps s0 (State.sendJoin s a1) := by
  unfold State.sendJoin
  with_reducible repeat' first | exact h | assumption | apply State.laneSend_keeps | apply State.sendMarker_keeps | apply State.modLane_keeps | split | apply foldl_keeps | intro _ | fail_if_no_progress refine Keeps.same ?_ rfl | fail_if_no_progress extract_lets | apply getD_keeps | apply elim_keeps | dsimp +zetaDelta only

theorem State.takeData_keeps {s0 s : State} (h : Keeps s0 s) (a1) (a2) : Keeps s0 (State.takeData s a1 a2).2 := by
  unfold State.takeData
  with_reducible repeat' first | exact h | assumption | apply State.modLane_keeps | split | apply foldl_keeps | intro _ | fail_if_no_progress refine Keeps.same ?_ rfl | fail_if_no_progress extract_lets | apply getD_keeps | apply elim_keeps | dsimp +zetaDelta only

theorem State.mirrorMatch_keeps {s0 s : State} (h : Keeps s0 s) (a1) (a2) (a3) (a4) (a5) : Keeps s0 (State.mirrorMatch s a1 a2 a3 a4 a5) := by
  unfold State.mirrorMatch
  with_reducible repeat' first | exact h | assumption | apply State.mapSw_keeps | apply State.setVoq_keeps | apply State.setStored_keeps | apply State.satAdd_keeps | apply State.raise_keeps | split | apply foldl_keeps | intro _ | fail_if_no_progress refine Keeps.same ?_ rfl | fail_if_no_progress extract_lets | apply getD_keeps | apply elim_keeps | dsimp +zetaDelta only

theorem State.mirror_keeps {s0 s : State} (h : Keeps s0 s) (a1) (a2) (a3) (a4) : Keeps s0 (State.mirror s a1 a2 a3 a4) := by
  unfold State.mirror
  with_reducible repeat' first | exact h | assumption | apply State.each_keeps | apply State.mirrorMatch_keeps | apply State.eachIn_keeps | split | apply foldl_keeps | intro _ | fail_if_no_progress refine Keeps.same ?_ rfl | fail_if_no_progress extract_lets | apply getD_keeps | apply elim_keeps | dsimp +zetaDelta only

theorem State.noteFailover_keeps {s0 s : State} (h : Keeps s0 s) (a1) : Keeps s0 (State.noteFailover s a1) := by
  unfold State.noteFailover
  with_reducible repeat' first | exact h | assumption | apply State.modLink_keeps | apply State.raise_keeps | split | apply foldl_keeps | intro _ | fail_if_no_progress refine Keeps.same ?_ rfl | fail_if_no_progress extract_lets | apply getD_keeps | apply elim_keeps | dsimp +zetaDelta only

theorem State.cableOut_keeps {s0 s : State} (h : Keeps s0 s) (a1) : Keeps s0 (State.cableOut s a1).2 := by
  unfold State.cableOut
  with_reducible repeat' first | exact h | assumption | apply State.noteFailover_keeps | split | apply foldl_keeps | intro _ | fail_if_no_progress refine Keeps.same ?_ rfl | fail_if_no_progress extract_lets | apply getD_keeps | apply elim_keeps | dsimp +zetaDelta only

theorem State.route_keeps {s0 s : State} (h : Keeps s0 s) (p x) : Keeps s0 (State.route s p x).2 := by
  have k : Keeps s0 (s.cableOut x.pkt).2 := State.cableOut_keeps h _
  have u : ∀ f g m n, Keeps s0 ((s.satAdd f m).satAdd g n) := fun _ _ _ _ => State.satAdd_keeps (State.satAdd_keeps h _ _) _ _
  unfold State.route
  dsimp only
  split
  · exact h
  · split
    · split <;> exact h
    · split
      · exact h
      · split
        · split
          · split <;> exact u _ _ _ _
          · exact h
        · split
          · split <;> exact h
          · split
            · next heq => rw [heq] at k; split <;> exact k
            · next heq => rw [heq] at k; exact k

theorem State.engineAdmitted_keeps {s0 s : State} (h : Keeps s0 s) (a1) : Keeps s0 (State.engineAdmitted s a1) := by
  unfold State.engineAdmitted
  with_reducible repeat' first | exact h | assumption | apply State.modEng_keeps | split | apply foldl_keeps | intro _ | fail_if_no_progress refine Keeps.same ?_ rfl | fail_if_no_progress extract_lets | apply getD_keeps | apply elim_keeps | dsimp +zetaDelta only

theorem State.dropArrival_keeps {s0 s : State} (h : Keeps s0 s) (a1) (a2) : Keeps s0 (State.dropArrival s a1 a2) := by
  unfold State.dropArrival
  with_reducible repeat' first | exact h | assumption | apply State.freeCredit_keeps | apply State.engineAdmitted_keeps | apply State.modLink_keeps | split | apply foldl_keeps | intro _ | fail_if_no_progress refine Keeps.same ?_ rfl | fail_if_no_progress extract_lets | apply getD_keeps | apply elim_keeps | dsimp +zetaDelta only

theorem State.placeRefs_keeps {s0 s : State} (h : Keeps s0 s) (a1) (a2) (a3) : Keeps s0 (State.placeRefs s a1 a2 a3) := by
  unfold State.placeRefs
  with_reducible repeat' first | exact h | assumption | apply State.eachIn_keeps | apply State.setVoq_keeps | split | apply foldl_keeps | intro _ | fail_if_no_progress refine Keeps.same ?_ rfl | fail_if_no_progress extract_lets | apply getD_keeps | apply elim_keeps | dsimp +zetaDelta only

theorem State.dropDownCopies_keeps {s0 s : State} (h : Keeps s0 s) (a1) (a2) : Keeps s0 (State.dropDownCopies s a1 a2).2 := by
  unfold State.dropDownCopies
  with_reducible repeat' first | exact h | assumption | apply State.satAdd_keeps | apply State.raise_keeps | split | apply foldl_keeps | intro _ | fail_if_no_progress refine Keeps.same ?_ rfl | fail_if_no_progress extract_lets | apply getD_keeps | apply elim_keeps | dsimp +zetaDelta only

theorem State.wakeLink_keeps {s0 s : State} (h : Keeps s0 s) (a1) : Keeps s0 (State.wakeLink s a1) := by
  unfold State.wakeLink
  with_reducible repeat' first | exact h | assumption | apply State.modLink_keeps | apply State.eachIn_keeps | apply State.send_keeps | split | apply foldl_keeps | intro _ | fail_if_no_progress refine Keeps.same ?_ rfl | fail_if_no_progress extract_lets | apply getD_keeps | apply elim_keeps | dsimp +zetaDelta only

theorem State.takeIn_keeps {s0 s : State} (h : Keeps s0 s) (a1) (a2) (a3) (a4) : Keeps s0 (State.takeIn s a1 a2 a3 a4) := by
  unfold State.takeIn
  with_reducible repeat' first | exact h | assumption | apply State.addCells_keeps | apply State.freeCredit_keeps | apply State.subCells_keeps | apply State.dropDownCopies_keeps | apply State.setStored_keeps | apply State.placeRefs_keeps | apply State.mirror_keeps | apply State.engineAdmitted_keeps | apply State.eachIn_keeps | apply State.wakeLink_keeps | apply State.freeStored_keeps | split | apply foldl_keeps | intro _ | fail_if_no_progress refine Keeps.same ?_ rfl | fail_if_no_progress extract_lets | apply getD_keeps | apply elim_keeps | dsimp +zetaDelta only

theorem State.admitLossy_keeps {s0 s : State} (h : Keeps s0 s) (a1) (a2) (a3) : Keeps s0 (State.admitLossy s a1 a2 a3) := by
  unfold State.admitLossy
  with_reducible repeat' first | exact h | assumption | apply State.satAdd_keeps | apply State.raise_keeps | apply State.dropArrival_keeps | apply State.takeIn_keeps | split | apply foldl_keeps | intro _ | fail_if_no_progress refine Keeps.same ?_ rfl | fail_if_no_progress extract_lets | apply getD_keeps | apply elim_keeps | dsimp +zetaDelta only

theorem State.admitTo_keeps {s0 s : State} (h : Keeps s0 s) (a1) (a2) (a3) : Keeps s0 (State.admitTo s a1 a2 a3) := by
  unfold State.admitTo
  with_reducible repeat' first | exact h | assumption | apply State.takeIn_keeps | apply State.setArrivals_keeps | apply State.admitLossy_keeps | split | apply foldl_keeps | intro _ | fail_if_no_progress refine Keeps.same ?_ rfl | fail_if_no_progress extract_lets | apply getD_keeps | apply elim_keeps | dsimp +zetaDelta only

theorem State.admitArrival_keeps {s0 s : State} (h : Keeps s0 s) (p x) : Keeps s0 (State.admitArrival s p x) := by
  have k : Keeps s0 (s.route p x).2 := State.route_keeps h _ _
  unfold State.admitArrival
  split
  · next heq =>
    rw [heq] at k
    split
    · exact State.dropArrival_keeps k _ _
    · exact State.admitTo_keeps k _ _ _
  · next heq => rw [heq] at k; exact State.dropArrival_keeps (State.satAdd_keeps k _ _) _ _
  · next heq => rw [heq] at k; exact State.dropArrival_keeps (State.raise_keeps k _) _ _

theorem State.packetAdmit_keeps {s0 s : State} (h : Keeps s0 s) (a1) : Keeps s0 (State.packetAdmit s a1) := by
  unfold State.packetAdmit
  with_reducible repeat' first | exact h | assumption | apply State.setArrivals_keeps | apply State.admitArrival_keeps | split | apply foldl_keeps | intro _ | fail_if_no_progress refine Keeps.same ?_ rfl | fail_if_no_progress extract_lets | apply getD_keeps | apply elim_keeps | dsimp +zetaDelta only

theorem execPacketAdmit_keeps {s0 s : State} (h : Keeps s0 s) (a0) : ∀ t, execPacketAdmit a0 s = .next t → Keeps s0 t := by
  intro t ht
  refine Keeps.ofEq ?_ (Host.Outcome.next.inj ht).symm
  with_reducible repeat' first | exact h | assumption | apply State.packetAdmit_keeps | split | apply foldl_keeps | intro _ | fail_if_no_progress refine Keeps.same ?_ rfl | fail_if_no_progress extract_lets | apply getD_keeps | apply elim_keeps | dsimp +zetaDelta only

theorem State.reserveWaitAdmit_keeps {s0 s : State} (h : Keeps s0 s) (a1) : Keeps s0 (State.reserveWaitAdmit s a1) := by
  unfold State.reserveWaitAdmit
  with_reducible repeat' first | exact h | assumption | apply State.setArrivals_keeps | apply State.admitArrival_keeps | split | apply foldl_keeps | intro _ | fail_if_no_progress refine Keeps.same ?_ rfl | fail_if_no_progress extract_lets | apply getD_keeps | apply elim_keeps | dsimp +zetaDelta only

theorem execReserveWaitAdmit_keeps {s0 s : State} (h : Keeps s0 s) (a0) : ∀ t, execReserveWaitAdmit a0 s = .next t → Keeps s0 t := by
  intro t ht
  refine Keeps.ofEq ?_ (Host.Outcome.next.inj ht).symm
  with_reducible repeat' first | exact h | assumption | apply State.reserveWaitAdmit_keeps | split | apply foldl_keeps | intro _ | fail_if_no_progress refine Keeps.same ?_ rfl | fail_if_no_progress extract_lets | apply getD_keeps | apply elim_keeps | dsimp +zetaDelta only

theorem State.localWhole_keeps {s0 s : State} (h : Keeps s0 s) (a1) : Keeps s0 (State.localWhole s a1) := by
  unfold State.localWhole
  with_reducible repeat' first | exact h | assumption | apply State.mapSw_keeps | apply State.loseStored_keeps | split | apply foldl_keeps | intro _ | fail_if_no_progress refine Keeps.same ?_ rfl | fail_if_no_progress extract_lets | apply getD_keeps | apply elim_keeps | dsimp +zetaDelta only

theorem State.drainLocal_keeps {s0 s : State} (h : Keeps s0 s) (a1) (a2) (a3) : Keeps s0 (State.drainLocal s a1 a2 a3) := by
  induction a3 generalizing s a1 a2 with
  | zero =>
    unfold State.drainLocal
    with_reducible repeat' first | exact h | assumption | apply State.setStage_keeps | apply State.localWhole_keeps | apply State.mapSw_keeps | apply State.egressEnter_keeps | split | apply foldl_keeps | intro _ | fail_if_no_progress refine Keeps.same ?_ rfl | fail_if_no_progress extract_lets | apply getD_keeps | apply elim_keeps | dsimp +zetaDelta only
  | succ n ih =>
    unfold State.drainLocal
    with_reducible repeat' first | apply ih | exact h | assumption | apply State.setStage_keeps | apply State.localWhole_keeps | apply State.mapSw_keeps | apply State.egressEnter_keeps | split | apply foldl_keeps | intro _ | fail_if_no_progress refine Keeps.same ?_ rfl | fail_if_no_progress extract_lets | apply getD_keeps | apply elim_keeps | dsimp +zetaDelta only

theorem State.drainMirror_keeps {s0 s : State} (h : Keeps s0 s) (a1) (a2) : Keeps s0 (State.drainMirror s a1 a2) := by
  induction a2 generalizing s a1 with
  | zero =>
    unfold State.drainMirror
    with_reducible repeat' first | exact h | assumption | apply State.setStage_keeps | apply State.loseStored_keeps | apply State.mirror_keeps | apply State.mapSw_keeps | split | apply foldl_keeps | intro _ | fail_if_no_progress refine Keeps.same ?_ rfl | fail_if_no_progress extract_lets | apply getD_keeps | apply elim_keeps | dsimp +zetaDelta only
  | succ n ih =>
    unfold State.drainMirror
    with_reducible repeat' first | apply ih | exact h | assumption | apply State.setStage_keeps | apply State.loseStored_keeps | apply State.mirror_keeps | apply State.mapSw_keeps | split | apply foldl_keeps | intro _ | fail_if_no_progress refine Keeps.same ?_ rfl | fail_if_no_progress extract_lets | apply getD_keeps | apply elim_keeps | dsimp +zetaDelta only

theorem State.growPacket_keeps {s0 s : State} (h : Keeps s0 s) (a1) (a2) (a3) (a4) : Keeps s0 (State.growPacket s a1 a2 a3 a4) := by
  unfold State.growPacket
  with_reducible repeat' first | exact h | assumption | apply State.setArrivals_keeps | apply State.setStored_keeps | split | apply foldl_keeps | intro _ | fail_if_no_progress refine Keeps.same ?_ rfl | fail_if_no_progress extract_lets | apply getD_keeps | apply elim_keeps | dsimp +zetaDelta only

theorem State.xlateGrow_keeps {s0 s : State} (h : Keeps s0 s) (a1) (a2) : Keeps s0 (State.xlateGrow s a1 a2) := by
  unfold State.xlateGrow
  with_reducible repeat' first | exact h | assumption | apply State.mapSw_keeps | apply State.newId_keeps | apply State.growPacket_keeps | apply State.loseStored_keeps | apply State.release_keeps | split | apply foldl_keeps | intro _ | fail_if_no_progress refine Keeps.same ?_ rfl | fail_if_no_progress extract_lets | apply getD_keeps | apply elim_keeps | dsimp +zetaDelta only

theorem State.drainXlate_keeps {s0 s : State} (h : Keeps s0 s) (a1) (a2) : Keeps s0 (State.drainXlate s a1 a2) := by
  induction a2 generalizing s a1 with
  | zero =>
    unfold State.drainXlate
    with_reducible repeat' first | exact h | assumption | apply State.setStage_keeps | apply State.mapSw_keeps | apply State.xlateGrow_keeps | split | apply foldl_keeps | intro _ | fail_if_no_progress refine Keeps.same ?_ rfl | fail_if_no_progress extract_lets | apply getD_keeps | apply elim_keeps | dsimp +zetaDelta only
  | succ n ih =>
    unfold State.drainXlate
    with_reducible repeat' first | apply ih | exact h | assumption | apply State.setStage_keeps | apply State.mapSw_keeps | apply State.xlateGrow_keeps | split | apply foldl_keeps | intro _ | fail_if_no_progress refine Keeps.same ?_ rfl | fail_if_no_progress extract_lets | apply getD_keeps | apply elim_keeps | dsimp +zetaDelta only

theorem State.stageCell_keeps {s0 s : State} (h : Keeps s0 s) (a1) (a2) (a3) : Keeps s0 (State.stageCell s a1 a2 a3) := by
  unfold State.stageCell
  with_reducible repeat' first | exact h | assumption | apply State.modSched_keeps | apply State.setStage_keeps | apply State.drainMirror_keeps | apply State.drainXlate_keeps | apply State.drainLocal_keeps | split | apply foldl_keeps | intro _ | fail_if_no_progress refine Keeps.same ?_ rfl | fail_if_no_progress extract_lets | apply getD_keeps | apply elim_keeps | dsimp +zetaDelta only

theorem State.packetEnds_keeps {s0 s : State} (h : Keeps s0 s) (a1) (a2) (a3) (a4) (a5) : Keeps s0 (State.packetEnds s a1 a2 a3 a4 a5) := by
  unfold State.packetEnds
  with_reducible repeat' first | exact h | assumption | apply State.setVoq_keeps | apply State.mapSw_keeps | split | apply foldl_keeps | intro _ | fail_if_no_progress refine Keeps.same ?_ rfl | fail_if_no_progress extract_lets | apply getD_keeps | apply elim_keeps | dsimp +zetaDelta only

theorem State.grantLost_keeps {s0 s : State} (h : Keeps s0 s) (a1) (a2) (a3) (a4) (a5) : Keeps s0 (State.grantLost s a1 a2 a3 a4 a5) := by
  unfold State.grantLost
  with_reducible repeat' first | exact h | assumption | apply State.setVoq_keeps | apply State.loseStored_keeps | apply State.mirror_keeps | apply State.packetEnds_keeps | apply State.stageCell_keeps | apply State.raise_keeps | split | apply foldl_keeps | intro _ | fail_if_no_progress refine Keeps.same ?_ rfl | fail_if_no_progress extract_lets | apply getD_keeps | apply elim_keeps | dsimp +zetaDelta only

theorem State.readCell_keeps {s0 s : State} (h : Keeps s0 s) (a1) (a2) : Keeps s0 (State.readCell s a1 a2).2 := by
  unfold State.readCell
  with_reducible repeat' first | exact h | assumption | apply State.satAdd_keeps | apply State.freshBytes_keeps | apply State.raise_keeps | split | apply foldl_keeps | intro _ | fail_if_no_progress refine Keeps.same ?_ rfl | fail_if_no_progress extract_lets | apply getD_keeps | apply elim_keeps | dsimp +zetaDelta only

theorem State.grant_keeps {s0 s : State} (h : Keeps s0 s) (a1) (a2) (a3) (a4) : Keeps s0 (State.grant s a1 a2 a3 a4) := by
  unfold State.grant
  with_reducible repeat' first | exact h | assumption | apply State.setVoq_keeps | apply State.grantLost_keeps | apply State.readCell_keeps | apply State.packetEnds_keeps | apply State.mapSw_keeps | apply State.stageCell_keeps | split | apply foldl_keeps | intro _ | fail_if_no_progress refine Keeps.same ?_ rfl | fail_if_no_progress extract_lets | apply getD_keeps | apply elim_keeps | dsimp +zetaDelta only

theorem State.crossbarGrant_keeps {s0 s : State} (h : Keeps s0 s) (a1) (a2) (a3) : Keeps s0 (State.crossbarGrant s a1 a2 a3) := by
  unfold State.crossbarGrant
  with_reducible repeat' first | exact h | assumption | apply State.grant_keeps | split | apply foldl_keeps | intro _ | fail_if_no_progress refine Keeps.same ?_ rfl | fail_if_no_progress extract_lets | apply getD_keeps | apply elim_keeps | dsimp +zetaDelta only

theorem execCrossbarGrant_keeps {s0 s : State} (h : Keeps s0 s) (a0) (a1) (a2) : ∀ t, execCrossbarGrant a0 a1 a2 s = .next t → Keeps s0 t := by
  intro t ht
  refine Keeps.ofEq ?_ (Host.Outcome.next.inj ht).symm
  with_reducible repeat' first | exact h | assumption | apply State.crossbarGrant_keeps | split | apply foldl_keeps | intro _ | fail_if_no_progress refine Keeps.same ?_ rfl | fail_if_no_progress extract_lets | apply getD_keeps | apply elim_keeps | dsimp +zetaDelta only

theorem State.pdkEnter_keeps {s0 s : State} (h : Keeps s0 s) (a1) (a2) : Keeps s0 (State.pdkEnter s a1 a2) := by
  unfold State.pdkEnter
  with_reducible repeat' first | exact h | assumption | apply State.enqueue_keeps | split | apply foldl_keeps | intro _ | fail_if_no_progress refine Keeps.same ?_ rfl | fail_if_no_progress extract_lets | apply getD_keeps | apply elim_keeps | dsimp +zetaDelta only

theorem State.drainPdk_keeps {s0 s : State} (h : Keeps s0 s) (a1) : Keeps s0 (State.drainPdk s a1) := by
  unfold State.drainPdk
  with_reducible repeat' first | exact h | assumption | apply State.mapSw_keeps | apply State.pdkEnter_keeps | split | apply foldl_keeps | intro _ | fail_if_no_progress refine Keeps.same ?_ rfl | fail_if_no_progress extract_lets | apply getD_keeps | apply elim_keeps | dsimp +zetaDelta only

theorem State.queueFreed_keeps {s0 s : State} (h : Keeps s0 s) (a1) : Keeps s0 (State.queueFreed s a1) := by
  unfold State.queueFreed
  with_reducible repeat' first | exact h | assumption | apply State.drainPdk_keeps | apply State.eachIn_keeps | apply State.each_keeps | apply State.drainLocal_keeps | split | apply foldl_keeps | intro _ | fail_if_no_progress refine Keeps.same ?_ rfl | fail_if_no_progress extract_lets | apply getD_keeps | apply elim_keeps | dsimp +zetaDelta only

theorem execEgressQueueRoom_keeps {s0 s : State} (h : Keeps s0 s) (a0) : ∀ t, (execEgressQueueRoom a0 s) = .next t → Keeps s0 t :=
  fun _ ht => Keeps.ofEq (State.queueFreed_keeps h _) (Host.Outcome.next.inj ht).symm

theorem State.readmit_keeps {s0 s : State} (h : Keeps s0 s) (a1) (a2) : Keeps s0 (State.readmit s a1 a2) := by
  unfold State.readmit
  with_reducible repeat' first | exact h | assumption | apply State.newId_keeps | apply State.setArrivals_keeps | split | apply foldl_keeps | intro _ | fail_if_no_progress refine Keeps.same ?_ rfl | fail_if_no_progress extract_lets | apply getD_keeps | apply elim_keeps | dsimp +zetaDelta only

theorem State.xlateStart_keeps {s0 s : State} (h : Keeps s0 s) (a1) (a2) (a3) : Keeps s0 (State.xlateStart s a1 a2 a3) := by
  unfold State.xlateStart
  with_reducible repeat' first | exact h | assumption | apply State.readmit_keeps | apply State.mapSw_keeps | apply State.release_keeps | apply State.drainXlate_keeps | split | apply foldl_keeps | intro _ | fail_if_no_progress refine Keeps.same ?_ rfl | fail_if_no_progress extract_lets | apply getD_keeps | apply elim_keeps | dsimp +zetaDelta only

theorem State.translatePacket_keeps {s0 s : State} (h : Keeps s0 s) : Keeps s0 (State.translatePacket s) := by
  unfold State.translatePacket
  with_reducible repeat' first | exact h | assumption | apply State.newId_keeps | apply State.mapSw_keeps | apply State.xlateStart_keeps | apply State.raise_keeps | split | apply foldl_keeps | intro _ | fail_if_no_progress refine Keeps.same ?_ rfl | fail_if_no_progress extract_lets | apply getD_keeps | apply elim_keeps | dsimp +zetaDelta only

theorem execTranslatePacket_keeps {s0 s : State} (h : Keeps s0 s) : ∀ t, execTranslatePacket s = .next t → Keeps s0 t := by
  intro t ht
  refine Keeps.ofEq ?_ (Host.Outcome.next.inj ht).symm
  with_reducible repeat' first | exact h | assumption | apply State.translatePacket_keeps | split | apply foldl_keeps | intro _ | fail_if_no_progress refine Keeps.same ?_ rfl | fail_if_no_progress extract_lets | apply getD_keeps | apply elim_keeps | dsimp +zetaDelta only

theorem State.mirrorSend_keeps {s0 s : State} (h : Keeps s0 s) : Keeps s0 (State.mirrorSend s) := by
  unfold State.mirrorSend
  with_reducible repeat' first | exact h | assumption | apply State.mapSw_keeps | apply State.mirror_keeps | apply State.satAdd_keeps | apply State.release_keeps | apply State.readmit_keeps | apply State.drainMirror_keeps | split | apply foldl_keeps | intro _ | fail_if_no_progress refine Keeps.same ?_ rfl | fail_if_no_progress extract_lets | apply getD_keeps | apply elim_keeps | dsimp +zetaDelta only

theorem execMirrorSend_keeps {s0 s : State} (h : Keeps s0 s) : ∀ t, execMirrorSend s = .next t → Keeps s0 t := by
  intro t ht
  refine Keeps.ofEq ?_ (Host.Outcome.next.inj ht).symm
  with_reducible repeat' first | exact h | assumption | apply State.mirrorSend_keeps | split | apply foldl_keeps | intro _ | fail_if_no_progress refine Keeps.same ?_ rfl | fail_if_no_progress extract_lets | apply getD_keeps | apply elim_keeps | dsimp +zetaDelta only

theorem State.startAudit_keeps {s0 s : State} (h : Keeps s0 s) : Keeps s0 (State.startAudit s) := by
  unfold State.startAudit
  with_reducible repeat' first | exact h | assumption | apply State.mapSw_keeps | apply State.wr_keeps | split | apply foldl_keeps | intro _ | fail_if_no_progress refine Keeps.same ?_ rfl | fail_if_no_progress extract_lets | apply getD_keeps | apply elim_keeps | dsimp +zetaDelta only

theorem execAuditPeriod_keeps {s0 s : State} (h : Keeps s0 s) : ∀ t, execAuditPeriod s = .next t → Keeps s0 t := by
  intro t ht
  refine Keeps.ofEq ?_ (Host.Outcome.next.inj ht).symm
  with_reducible repeat' first | exact h | assumption | apply State.startAudit_keeps | split | apply foldl_keeps | intro _ | fail_if_no_progress refine Keeps.same ?_ rfl | fail_if_no_progress extract_lets | apply getD_keeps | apply elim_keeps | dsimp +zetaDelta only

theorem State.reclaim_keeps {s0 s : State} (h : Keeps s0 s) (a1) : Keeps s0 (State.reclaim s a1) := by
  unfold State.reclaim
  with_reducible repeat' first | exact h | assumption | apply State.addCells_keeps | apply State.subCells_keeps | apply State.modLink_keeps | apply State.uncharge_keeps | apply State.wrapAdd_keeps | split | apply foldl_keeps | intro _ | fail_if_no_progress refine Keeps.same ?_ rfl | fail_if_no_progress extract_lets | apply getD_keeps | apply elim_keeps | dsimp +zetaDelta only

theorem State.auditEnd_keeps {s0 s : State} (h : Keeps s0 s) (a1) : Keeps s0 (State.auditEnd s a1) := by
  unfold State.auditEnd
  with_reducible repeat' first | exact h | assumption | apply State.wr_keeps | apply State.mapSw_keeps | apply State.eachIn_keeps | apply State.reclaim_keeps | apply State.subCells_keeps | apply State.wrapAdd_keeps | apply State.raise_keeps | apply State.finishRegs_keeps | split | apply foldl_keeps | intro _ | fail_if_no_progress refine Keeps.same ?_ rfl | fail_if_no_progress extract_lets | apply getD_keeps | apply elim_keeps | dsimp +zetaDelta only

end Sys2Proof.Machine
end

