-- ==== Sys2Proof/Laws/KeptNative.lean ====
section
/-!
SUPPORT. What every operation of Machine/Display.lean, Machine/LinkCtl.lean, Machine/Bridge.lean, Machine/UsbDesc.lean, Machine/Usb.lean keeps (see Laws/Keeps.lean), one lemma each, in the order in which they call each other.
-/

set_option linter.unreachableTactic false
set_option linter.unusedTactic false
set_option linter.all false

namespace Sys2Proof.Machine

theorem State.setPipe_keeps {s0 s : State} (h : Keeps s0 s) (a1) (a2) : Keeps s0 (State.setPipe s a1 a2) := by
  unfold State.setPipe
  with_reducible repeat' first | exact h | assumption | split | apply foldl_keeps | intro _ | fail_if_no_progress refine Keeps.same ?_ rfl | fail_if_no_progress extract_lets | apply getD_keeps | apply elim_keeps | dsimp +zetaDelta only

theorem State.modPipe_keeps {s0 s : State} (h : Keeps s0 s) (a1) (a2) : Keeps s0 (State.modPipe s a1 a2) := by
  unfold State.modPipe
  with_reducible repeat' first | exact h | assumption | apply State.setPipe_keeps | split | apply foldl_keeps | intro _ | fail_if_no_progress refine Keeps.same ?_ rfl | fail_if_no_progress extract_lets | apply getD_keeps | apply elim_keeps | dsimp +zetaDelta only

theorem State.dispSend_keeps {s0 s : State} (h : Keeps s0 s) (a1) (a2) : Keeps s0 (State.dispSend s a1 a2) := by
  unfold State.dispSend
  with_reducible repeat' first | exact h | assumption | apply State.accept_keeps | split | apply foldl_keeps | intro _ | fail_if_no_progress refine Keeps.same ?_ rfl | fail_if_no_progress extract_lets | apply getD_keeps | apply elim_keeps | dsimp +zetaDelta only

theorem State.countRd_keeps {s0 s : State} (h : Keeps s0 s) (a1) : Keeps s0 (State.countRd s a1) := by
  unfold State.countRd
  with_reducible repeat' first | exact h | assumption | apply State.wrapAdd_keeps | split | apply foldl_keeps | intro _ | fail_if_no_progress refine Keeps.same ?_ rfl | fail_if_no_progress extract_lets | apply getD_keeps | apply elim_keeps | dsimp +zetaDelta only

theorem State.countWr_keeps {s0 s : State} (h : Keeps s0 s) (a1) : Keeps s0 (State.countWr s a1) := by
  unfold State.countWr
  with_reducible repeat' first | exact h | assumption | apply State.wrapAdd_keeps | split | apply foldl_keeps | intro _ | fail_if_no_progress refine Keeps.same ?_ rfl | fail_if_no_progress extract_lets | apply getD_keeps | apply elim_keeps | dsimp +zetaDelta only

theorem State.writeTile_keeps {s0 s : State} (h : Keeps s0 s) (a1) (a2) (a3) (a4) : Keeps s0 (State.writeTile s a1 a2 a3 a4) := by
  unfold State.writeTile
  with_reducible repeat' first | exact h | assumption | apply State.dmaWrite_keeps | apply State.countWr_keeps | split | apply foldl_keeps | intro _ | fail_if_no_progress refine Keeps.same ?_ rfl | fail_if_no_progress extract_lets | apply getD_keeps | apply elim_keeps | dsimp +zetaDelta only

theorem State.sendMute_keeps {s0 s : State} (h : Keeps s0 s) (a1) : Keeps s0 (State.sendMute s a1) := by
  unfold State.sendMute
  with_reducible repeat' first | exact h | assumption | apply State.dispSend_keeps | split | apply foldl_keeps | intro _ | fail_if_no_progress refine Keeps.same ?_ rfl | fail_if_no_progress extract_lets | apply getD_keeps | apply elim_keeps | dsimp +zetaDelta only

theorem State.triggerRefresh_keeps {s0 s : State} (h : Keeps s0 s) (a1) : Keeps s0 (State.triggerRefresh s a1) := by
  unfold State.triggerRefresh
  with_reducible repeat' first | exact h | assumption | apply State.modPipe_keeps | split | apply foldl_keeps | intro _ | fail_if_no_progress refine Keeps.same ?_ rfl | fail_if_no_progress extract_lets | apply getD_keeps | apply elim_keeps | dsimp +zetaDelta only

theorem State.storeFrame_keeps {s0 s : State} (h : Keeps s0 s) (a1) (a2) (a3) : Keeps s0 (State.storeFrame s a1 a2 a3) := by
  unfold State.storeFrame
  with_reducible repeat' first | exact h | assumption | apply State.writeTile_keeps | split | apply foldl_keeps | intro _ | fail_if_no_progress refine Keeps.same ?_ rfl | fail_if_no_progress extract_lets | apply getD_keeps | apply elim_keeps | dsimp +zetaDelta only

theorem State.extractCopy_keeps {s0 s : State} (h : Keeps s0 s) (a1) (a2) (a3) : Keeps s0 (State.extractCopy s a1 a2 a3) := by
  unfold State.extractCopy
  with_reducible repeat' first | exact h | assumption | apply State.modPipe_keeps | apply State.fresh_keeps | split | apply foldl_keeps | intro _ | fail_if_no_progress refine Keeps.same ?_ rfl | fail_if_no_progress extract_lets | apply getD_keeps | apply elim_keeps | dsimp +zetaDelta only

theorem State.beginExtract_keeps {s0 s : State} (h : Keeps s0 s) (a1) : Keeps s0 (State.beginExtract s a1) := by
  unfold State.beginExtract
  with_reducible repeat' first | exact h | assumption | apply State.fresh_keeps | apply State.extractCopy_keeps | apply State.dispSend_keeps | split | apply foldl_keeps | intro _ | fail_if_no_progress refine Keeps.same ?_ rfl | fail_if_no_progress extract_lets | apply getD_keeps | apply elim_keeps | dsimp +zetaDelta only

theorem State.captureTurn_keeps {s0 s : State} (h : Keeps s0 s) (a1) : Keeps s0 (State.captureTurn s a1) := by
  unfold State.captureTurn
  with_reducible repeat' first | exact h | assumption | apply State.modPipe_keeps | apply State.beginExtract_keeps | split | apply foldl_keeps | intro _ | fail_if_no_progress refine Keeps.same ?_ rfl | fail_if_no_progress extract_lets | apply getD_keeps | apply elim_keeps | dsimp +zetaDelta only

theorem State.captureFrame_keeps {s0 s : State} (h : Keeps s0 s) (a1) (a2) (a3) : Keeps s0 (State.captureFrame s a1 a2 a3) := by
  unfold State.captureFrame
  with_reducible repeat' first | exact h | assumption | apply State.captureTurn_keeps | apply State.fresh_keeps | apply State.satAdd_keeps | apply State.storeFrame_keeps | apply State.wr_keeps | apply State.modPipe_keeps | split | apply foldl_keeps | intro _ | fail_if_no_progress refine Keeps.same ?_ rfl | fail_if_no_progress extract_lets | apply getD_keeps | apply elim_keeps | dsimp +zetaDelta only

theorem execCaptureFrameStart_keeps {s0 s : State} (h : Keeps s0 s) (a0) (a1) (a2) : ∀ t, execCaptureFrameStart a0 a1 a2 s = .next t → Keeps s0 t := by
  intro t ht
  refine Keeps.ofEq ?_ (Host.Outcome.next.inj ht).symm
  with_reducible repeat' first | exact h | assumption | apply State.captureFrame_keeps | split | apply foldl_keeps | intro _ | fail_if_no_progress refine Keeps.same ?_ rfl | fail_if_no_progress extract_lets | apply getD_keeps | apply elim_keeps | dsimp +zetaDelta only

theorem State.extractTile_keeps {s0 s : State} (h : Keeps s0 s) (a1) (a2) (a3) : Keeps s0 (State.extractTile s a1 a2 a3) := by
  unfold State.extractTile
  with_reducible repeat' first | exact h | assumption | apply State.dmaRead_keeps | apply State.countRd_keeps | apply State.dispSend_keeps | apply State.modPipe_keeps | apply State.wrapAdd_keeps | split | apply foldl_keeps | intro _ | fail_if_no_progress refine Keeps.same ?_ rfl | fail_if_no_progress extract_lets | apply getD_keeps | apply elim_keeps | dsimp +zetaDelta only

theorem State.tileExtract_keeps {s0 s : State} (h : Keeps s0 s) (a1) : Keeps s0 (State.tileExtract s a1) := by
  unfold State.tileExtract
  with_reducible repeat' first | exact h | assumption | apply State.beginExtract_keeps | apply State.sendMute_keeps | apply State.raise_keeps | apply State.modPipe_keeps | apply State.extractTile_keeps | apply State.dispSend_keeps | apply State.wr_keeps | split | apply foldl_keeps | intro _ | fail_if_no_progress refine Keeps.same ?_ rfl | fail_if_no_progress extract_lets | apply getD_keeps | apply elim_keeps | dsimp +zetaDelta only

theorem execTileExtract_keeps {s0 s : State} (h : Keeps s0 s) (a0) : ∀ t, execTileExtract a0 s = .next t → Keeps s0 t := by
  intro t ht
  refine Keeps.ofEq ?_ (Host.Outcome.next.inj ht).symm
  with_reducible repeat' first | exact h | assumption | apply State.tileExtract_keeps | split | apply foldl_keeps | intro _ | fail_if_no_progress refine Keeps.same ?_ rfl | fail_if_no_progress extract_lets | apply getD_keeps | apply elim_keeps | dsimp +zetaDelta only

theorem execRefreshPeriod_keeps {s0 s : State} (h : Keeps s0 s) (a0) : ∀ t, execRefreshPeriod a0 s = .next t → Keeps s0 t := by
  intro t ht
  refine Keeps.ofEq ?_ (Host.Outcome.next.inj ht).symm
  with_reducible repeat' first | exact h | assumption | apply State.triggerRefresh_keeps | split | apply foldl_keeps | intro _ | fail_if_no_progress refine Keeps.same ?_ rfl | fail_if_no_progress extract_lets | apply getD_keeps | apply elim_keeps | dsimp +zetaDelta only

theorem execCaptureNoFrame_keeps {s0 s : State} (h : Keeps s0 s) (a0) : ∀ t, execCaptureNoFrame a0 s = .next t → Keeps s0 t := by
  intro t ht
  refine Keeps.ofEq ?_ (Host.Outcome.next.inj ht).symm
  with_reducible repeat' first | exact h | assumption | apply State.sendMute_keeps | split | apply foldl_keeps | intro _ | fail_if_no_progress refine Keeps.same ?_ rfl | fail_if_no_progress extract_lets | apply getD_keeps | apply elim_keeps | dsimp +zetaDelta only

theorem State.setHpd_keeps {s0 s : State} (h : Keeps s0 s) (a1) (a2) : Keeps s0 (State.setHpd s a1 a2) := by
  unfold State.setHpd
  with_reducible repeat' first | exact h | assumption | apply State.wr_keeps | apply State.send_keeps | split | apply foldl_keeps | intro _ | fail_if_no_progress refine Keeps.same ?_ rfl | fail_if_no_progress extract_lets | apply getD_keeps | apply elim_keeps | dsimp +zetaDelta only

theorem State.presentEdid_keeps {s0 s : State} (h : Keeps s0 s) (a1) (a2) : Keeps s0 (State.presentEdid s a1 a2) := by
  unfold State.presentEdid
  with_reducible repeat' first | exact h | assumption | apply State.modPipe_keeps | apply State.setHpd_keeps | split | apply foldl_keeps | intro _ | fail_if_no_progress refine Keeps.same ?_ rfl | fail_if_no_progress extract_lets | apply getD_keeps | apply elim_keeps | dsimp +zetaDelta only

theorem execSinkEdid_keeps {s0 s : State} (h : Keeps s0 s) (a0) (a1) (a2) (a3) : ∀ t, execSinkEdid a0 a1 a2 a3 s = .next t → Keeps s0 t := by
  intro t ht
  refine Keeps.ofEq ?_ (Host.Outcome.next.inj ht).symm
  with_reducible repeat' first | exact h | assumption | apply State.modPipe_keeps | apply State.presentEdid_keeps | split | apply foldl_keeps | intro _ | fail_if_no_progress refine Keeps.same ?_ rfl | fail_if_no_progress extract_lets | apply getD_keeps | apply elim_keeps | dsimp +zetaDelta only

theorem execHpdLowEnd_keeps {s0 s : State} (h : Keeps s0 s) (a0) : ∀ t, execHpdLowEnd a0 s = .next t → Keeps s0 t := by
  intro t ht
  refine Keeps.ofEq ?_ (Host.Outcome.next.inj ht).symm
  with_reducible repeat' first | exact h | assumption | apply State.modPipe_keeps | apply State.setHpd_keeps | split | apply foldl_keeps | intro _ | fail_if_no_progress refine Keeps.same ?_ rfl | fail_if_no_progress extract_lets | apply getD_keeps | apply elim_keeps | dsimp +zetaDelta only

theorem execHpdHoldExpire_keeps {s0 s : State} (h : Keeps s0 s) (a0) : ∀ t, execHpdHoldExpire a0 s = .next t → Keeps s0 t := by
  intro t ht
  refine Keeps.ofEq ?_ (Host.Outcome.next.inj ht).symm
  with_reducible repeat' first | exact h | assumption | apply State.modPipe_keeps | apply State.setHpd_keeps | split | apply foldl_keeps | intro _ | fail_if_no_progress refine Keeps.same ?_ rfl | fail_if_no_progress extract_lets | apply getD_keeps | apply elim_keeps | dsimp +zetaDelta only

theorem execSinkStatus_keeps {s0 s : State} (h : Keeps s0 s) (a0) (a1) (a2) (a3) : ∀ t, execSinkStatus a0 a1 a2 a3 s = .next t → Keeps s0 t := by
  intro t ht
  refine Keeps.ofEq ?_ (Host.Outcome.next.inj ht).symm
  with_reducible repeat' first | exact h | assumption | apply State.modPipe_keeps | split | apply foldl_keeps | intro _ | fail_if_no_progress refine Keeps.same ?_ rfl | fail_if_no_progress extract_lets | apply getD_keeps | apply elim_keeps | dsimp +zetaDelta only

theorem execHdcpTopo_keeps {s0 s : State} (h : Keeps s0 s) (a0) (a1) (a2) (a3) (a4) (a5) : ∀ t, execHdcpTopo a0 a1 a2 a3 a4 a5 s = .next t → Keeps s0 t := by
  intro t ht
  refine Keeps.ofEq ?_ (Host.Outcome.next.inj ht).symm
  with_reducible repeat' first | exact h | assumption | apply State.modPipe_keeps | apply State.send_keeps | split | apply foldl_keeps | intro _ | fail_if_no_progress refine Keeps.same ?_ rfl | fail_if_no_progress extract_lets | apply getD_keeps | apply elim_keeps | dsimp +zetaDelta only

theorem State.pushTrace_keeps {s0 s : State} (h : Keeps s0 s) (a1) (a2) : Keeps s0 (State.pushTrace s a1 a2) := by
  unfold State.pushTrace
  with_reducible repeat' first | exact h | assumption | apply State.wrapAdd_keeps | apply State.wr_keeps | apply State.modPipe_keeps | split | apply foldl_keeps | intro _ | fail_if_no_progress refine Keeps.same ?_ rfl | fail_if_no_progress extract_lets | apply getD_keeps | apply elim_keeps | dsimp +zetaDelta only

theorem State.pushRecord_keeps {s0 s : State} (h : Keeps s0 s) (a1) (a2) (a3) (a4) : Keeps s0 (State.pushRecord s a1 a2 a3 a4) := by
  unfold State.pushRecord
  with_reducible repeat' first | exact h | assumption | apply State.countRd_keeps | apply State.dispSend_keeps | apply State.dispatch_keeps | apply State.pushTrace_keeps | apply State.wr_keeps | apply State.modAdp_keeps | split | apply foldl_keeps | intro _ | fail_if_no_progress refine Keeps.same ?_ rfl | fail_if_no_progress extract_lets | apply getD_keeps | apply elim_keeps | dsimp +zetaDelta only

theorem State.pushRead_keeps {s0 s : State} (a1 a2 a3) (r : List Byte × State) (h : Keeps s0 r.2) : Keeps s0 (State.pushRead s a1 a2 a3 r) := by
  unfold State.pushRead
  split
  · exact State.wr_keeps (State.raise_keeps h _) _ _
  · exact State.pushRecord_keeps h _ _ _ _

theorem State.pushSlot_keeps {s0 s : State} (h : Keeps s0 s) (a1) (a2) (a3) (a4) : Keeps s0 (State.pushSlot s a1 a2 a3 a4) :=
  State.pushRead_keeps _ _ _ _ (State.dmaRead_keeps h _ _ _)

theorem State.pushSend_keeps {s0 s : State} (h : Keeps s0 s) (a1) : Keeps s0 (State.pushSend s a1) := by
  unfold State.pushSend
  with_reducible repeat' first | exact h | assumption | apply State.pushSlot_keeps | split | apply foldl_keeps | intro _ | fail_if_no_progress refine Keeps.same ?_ rfl | fail_if_no_progress extract_lets | apply getD_keeps | apply elim_keeps | dsimp +zetaDelta only

theorem execPushRecordSend_keeps {s0 s : State} (h : Keeps s0 s) (a0) : ∀ t, execPushRecordSend a0 s = .next t → Keeps s0 t := by
  intro t ht
  refine Keeps.ofEq ?_ (Host.Outcome.next.inj ht).symm
  with_reducible repeat' first | exact h | assumption | apply State.pushSend_keeps | split | apply foldl_keeps | intro _ | fail_if_no_progress refine Keeps.same ?_ rfl | fail_if_no_progress extract_lets | apply getD_keeps | apply elim_keeps | dsimp +zetaDelta only

theorem execRefreshReq_keeps {s0 s : State} (h : Keeps s0 s) (a0) (a1) (a2) : ∀ t, execRefreshReq a0 a1 a2 s = .next t → Keeps s0 t := by
  intro t ht
  refine Keeps.ofEq ?_ (Host.Outcome.next.inj ht).symm
  with_reducible repeat' first | exact h | assumption | apply State.triggerRefresh_keeps | apply State.raise_keeps | split | apply foldl_keeps | intro _ | fail_if_no_progress refine Keeps.same ?_ rfl | fail_if_no_progress extract_lets | apply getD_keeps | apply elim_keeps | dsimp +zetaDelta only

theorem State.sendSinkStatus_keeps {s0 s : State} (h : Keeps s0 s) (a1) : Keeps s0 (State.sendSinkStatus s a1) := by
  unfold State.sendSinkStatus
  with_reducible repeat' first | exact h | assumption | apply State.dispSend_keeps | split | apply foldl_keeps | intro _ | fail_if_no_progress refine Keeps.same ?_ rfl | fail_if_no_progress extract_lets | apply getD_keeps | apply elim_keeps | dsimp +zetaDelta only

theorem State.askRefresh_keeps {s0 s : State} (h : Keeps s0 s) (a1) (a2) : Keeps s0 (State.askRefresh s a1 a2) := by
  unfold State.askRefresh
  with_reducible repeat' first | exact h | assumption | apply State.modPipe_keeps | apply State.dispSend_keeps | split | apply foldl_keeps | intro _ | fail_if_no_progress refine Keeps.same ?_ rfl | fail_if_no_progress extract_lets | apply getD_keeps | apply elim_keeps | dsimp +zetaDelta only

theorem State.noteCommit_keeps {s0 s : State} (h : Keeps s0 s) (a1) (a2) (a3) : Keeps s0 (State.noteCommit s a1 a2 a3) := by
  unfold State.noteCommit
  with_reducible repeat' first | exact h | assumption | apply State.eachIn_keeps | apply State.modPipe_keeps | apply State.wr_keeps | split | apply foldl_keeps | intro _ | fail_if_no_progress refine Keeps.same ?_ rfl | fail_if_no_progress extract_lets | apply getD_keeps | apply elim_keeps | dsimp +zetaDelta only

theorem State.storeTile_keeps {s0 s : State} (h : Keeps s0 s) (a1) (a2) (a3) : Keeps s0 (State.storeTile s a1 a2 a3) := by
  unfold State.storeTile
  with_reducible repeat' first | exact h | assumption | apply State.writeTile_keeps | apply State.modPipe_keeps | apply State.wrapAdd_keeps | apply State.noteCommit_keeps | split | apply foldl_keeps | intro _ | fail_if_no_progress refine Keeps.same ?_ rfl | fail_if_no_progress extract_lets | apply getD_keeps | apply elim_keeps | dsimp +zetaDelta only

theorem State.tileRecord_keeps {s0 s : State} (h : Keeps s0 s) (a1) (a2) (a3) : Keeps s0 (State.tileRecord s a1 a2 a3) := by
  unfold State.tileRecord
  with_reducible repeat' first | exact h | assumption | apply State.modPipe_keeps | apply State.raise_keeps | apply State.storeTile_keeps | split | apply foldl_keeps | intro _ | fail_if_no_progress refine Keeps.same ?_ rfl | fail_if_no_progress extract_lets | apply getD_keeps | apply elim_keeps | dsimp +zetaDelta only

theorem execTileRecord_keeps {s0 s : State} (h : Keeps s0 s) (a0) (a1) (a2) : ∀ t, execTileRecord a0 a1 a2 s = .next t → Keeps s0 t := by
  intro t ht
  refine Keeps.ofEq ?_ (Host.Outcome.next.inj ht).symm
  with_reducible repeat' first | exact h | assumption | apply State.tileRecord_keeps | split | apply foldl_keeps | intro _ | fail_if_no_progress refine Keeps.same ?_ rfl | fail_if_no_progress extract_lets | apply getD_keeps | apply elim_keeps | dsimp +zetaDelta only

theorem State.commitTiles_keeps {s0 s : State} (h : Keeps s0 s) (a1) (a2) : Keeps s0 (State.commitTiles s a1 a2) := by
  unfold State.commitTiles
  with_reducible repeat' first | exact h | assumption | apply State.modPipe_keeps | apply State.noteCommit_keeps | apply State.eachIn_keeps | apply State.wr_keeps | apply State.sendSinkStatus_keeps | apply State.askRefresh_keeps | split | apply foldl_keeps | intro _ | fail_if_no_progress refine Keeps.same ?_ rfl | fail_if_no_progress extract_lets | apply getD_keeps | apply elim_keeps | dsimp +zetaDelta only

theorem State.gather_keeps {s0 s : State} (h : Keeps s0 s) (a1) (a2) : Keeps s0 (State.gather s a1 a2) := by
  unfold State.gather
  with_reducible repeat' first | exact h | assumption | apply State.modPipe_keeps | split | apply foldl_keeps | intro _ | fail_if_no_progress refine Keeps.same ?_ rfl | fail_if_no_progress extract_lets | apply getD_keeps | apply elim_keeps | dsimp +zetaDelta only

theorem State.tryCommit_keeps {s0 s : State} (h : Keeps s0 s) (a1) : Keeps s0 (State.tryCommit s a1) := by
  unfold State.tryCommit
  with_reducible repeat' first | exact h | assumption | apply State.commitTiles_keeps | split | apply foldl_keeps | intro _ | fail_if_no_progress refine Keeps.same ?_ rfl | fail_if_no_progress extract_lets | apply getD_keeps | apply elim_keeps | dsimp +zetaDelta only

theorem State.frameEnd_keeps {s0 s : State} (h : Keeps s0 s) (a1) (a2) (a3) (a4) : Keeps s0 (State.frameEnd s a1 a2 a3 a4) := by
  unfold State.frameEnd
  with_reducible repeat' first | exact h | assumption | apply State.modPipe_keeps | apply State.raise_keeps | apply State.askRefresh_keeps | apply State.gather_keeps | apply State.tryCommit_keeps | split | apply foldl_keeps | intro _ | fail_if_no_progress refine Keeps.same ?_ rfl | fail_if_no_progress extract_lets | apply getD_keeps | apply elim_keeps | dsimp +zetaDelta only

theorem execFrameEnd_keeps {s0 s : State} (h : Keeps s0 s) (a0) (a1) (a2) (a3) : ∀ t, execFrameEnd a0 a1 a2 a3 s = .next t → Keeps s0 t := by
  intro t ht
  refine Keeps.ofEq ?_ (Host.Outcome.next.inj ht).symm
  with_reducible repeat' first | exact h | assumption | apply State.frameEnd_keeps | split | apply foldl_keeps | intro _ | fail_if_no_progress refine Keeps.same ?_ rfl | fail_if_no_progress extract_lets | apply getD_keeps | apply elim_keeps | dsimp +zetaDelta only

theorem State.startFormat_keeps {s0 s : State} (h : Keeps s0 s) (a1) : Keeps s0 (State.startFormat s a1) := by
  unfold State.startFormat
  with_reducible repeat' first | exact h | assumption | apply State.modPipe_keeps | apply State.eachIn_keeps | apply State.wr_keeps | apply State.askRefresh_keeps | split | apply foldl_keeps | intro _ | fail_if_no_progress refine Keeps.same ?_ rfl | fail_if_no_progress extract_lets | apply getD_keeps | apply elim_keeps | dsimp +zetaDelta only

theorem State.newFormat_keeps {s0 s : State} (h : Keeps s0 s) (a1) (a2) : Keeps s0 (State.newFormat s a1 a2) := by
  unfold State.newFormat
  with_reducible repeat' first | exact h | assumption | apply State.raise_keeps | apply State.modPipe_keeps | apply State.startFormat_keeps | split | apply foldl_keeps | intro _ | fail_if_no_progress refine Keeps.same ?_ rfl | fail_if_no_progress extract_lets | apply getD_keeps | apply elim_keeps | dsimp +zetaDelta only

theorem execFormat_keeps {s0 s : State} (h : Keeps s0 s) (a0) (a1) : ∀ t, execFormat a0 a1 s = .next t → Keeps s0 t := by
  intro t ht
  refine Keeps.ofEq ?_ (Host.Outcome.next.inj ht).symm
  with_reducible repeat' first | exact h | assumption | apply State.newFormat_keeps | split | apply foldl_keeps | intro _ | fail_if_no_progress refine Keeps.same ?_ rfl | fail_if_no_progress extract_lets | apply getD_keeps | apply elim_keeps | dsimp +zetaDelta only

theorem execRefreshReqRepeat_keeps {s0 s : State} (h : Keeps s0 s) (a0) : ∀ t, execRefreshReqRepeat a0 s = .next t → Keeps s0 t := by
  intro t ht
  refine Keeps.ofEq ?_ (Host.Outcome.next.inj ht).symm
  with_reducible repeat' first | exact h | assumption | apply State.askRefresh_keeps | split | apply foldl_keeps | intro _ | fail_if_no_progress refine Keeps.same ?_ rfl | fail_if_no_progress extract_lets | apply getD_keeps | apply elim_keeps | dsimp +zetaDelta only

theorem execSinkStatusTimer_keeps {s0 s : State} (h : Keeps s0 s) (a0) : ∀ t, execSinkStatusTimer a0 s = .next t → Keeps s0 t := by
  intro t ht
  refine Keeps.ofEq ?_ (Host.Outcome.next.inj ht).symm
  with_reducible repeat' first | exact h | assumption | apply State.sendSinkStatus_keeps | split | apply foldl_keeps | intro _ | fail_if_no_progress refine Keeps.same ?_ rfl | fail_if_no_progress extract_lets | apply getD_keeps | apply elim_keeps | dsimp +zetaDelta only

theorem execCommitTmo_keeps {s0 s : State} (h : Keeps s0 s) (a0) : ∀ t, execCommitTmo a0 s = .next t → Keeps s0 t := by
  intro t ht
  refine Keeps.ofEq ?_ (Host.Outcome.next.inj ht).symm
  with_reducible repeat' first | exact h | assumption | apply State.gather_keeps | split | apply foldl_keeps | intro _ | fail_if_no_progress refine Keeps.same ?_ rfl | fail_if_no_progress extract_lets | apply getD_keeps | apply elim_keeps | dsimp +zetaDelta only

theorem State.scanRead_keeps {s0 s : State} (h : Keeps s0 s) (a1) : Keeps s0 (State.scanRead s a1) := by
  unfold State.scanRead
  with_reducible repeat' first | exact h | assumption | apply State.eachIn_keeps | apply State.dmaRead_keeps | apply State.countRd_keeps | split | apply foldl_keeps | intro _ | fail_if_no_progress refine Keeps.same ?_ rfl | fail_if_no_progress extract_lets | apply getD_keeps | apply elim_keeps | dsimp +zetaDelta only

theorem State.scanPipe_keeps {s0 s : State} (h : Keeps s0 s) (a1) : Keeps s0 (State.scanPipe s a1) := by
  unfold State.scanPipe
  with_reducible repeat' first | exact h | assumption | apply State.modPipe_keeps | apply State.scanRead_keeps | apply State.wr_keeps | apply State.raise_keeps | apply State.sendSinkStatus_keeps | split | apply foldl_keeps | intro _ | fail_if_no_progress refine Keeps.same ?_ rfl | fail_if_no_progress extract_lets | apply getD_keeps | apply elim_keeps | dsimp +zetaDelta only

theorem State.scanFrame_keeps {s0 s : State} (h : Keeps s0 s) (a1) : Keeps s0 (State.scanFrame s a1) := by
  unfold State.scanFrame
  with_reducible repeat' first | exact h | assumption | apply State.eachIn_keeps | apply State.scanPipe_keeps | apply State.modPipe_keeps | split | apply foldl_keeps | intro _ | fail_if_no_progress refine Keeps.same ?_ rfl | fail_if_no_progress extract_lets | apply getD_keeps | apply elim_keeps | dsimp +zetaDelta only

theorem execScanoutFrameStart_keeps {s0 s : State} (h : Keeps s0 s) (a0) : ∀ t, execScanoutFrameStart a0 s = .next t → Keeps s0 t := by
  intro t ht
  refine Keeps.ofEq ?_ (Host.Outcome.next.inj ht).symm
  with_reducible repeat' first | exact h | assumption | apply State.scanFrame_keeps | split | apply foldl_keeps | intro _ | fail_if_no_progress refine Keeps.same ?_ rfl | fail_if_no_progress extract_lets | apply getD_keeps | apply elim_keeps | dsimp +zetaDelta only

theorem State.setBlank_keeps {s0 s : State} (h : Keeps s0 s) (a1) (a2) (a3) : Keeps s0 (State.setBlank s a1 a2 a3) := by
  unfold State.setBlank
  with_reducible repeat' first | exact h | assumption | apply State.eachIn_keeps | apply State.modPipe_keeps | split | apply foldl_keeps | intro _ | fail_if_no_progress refine Keeps.same ?_ rfl | fail_if_no_progress extract_lets | apply getD_keeps | apply elim_keeps | dsimp +zetaDelta only

theorem State.stretch_keeps {s0 s : State} (h : Keeps s0 s) (a1) (a2) : Keeps s0 (State.stretch s a1 a2) := by
  unfold State.stretch
  with_reducible repeat' first | exact h | assumption | apply State.setBlank_keeps | apply State.eachIn_keeps | apply State.wr_keeps | apply State.sendSinkStatus_keeps | split | apply foldl_keeps | intro _ | fail_if_no_progress refine Keeps.same ?_ rfl | fail_if_no_progress extract_lets | apply getD_keeps | apply elim_keeps | dsimp +zetaDelta only

theorem State.vblank_keeps {s0 s : State} (h : Keeps s0 s) (a1) (a2) : Keeps s0 (State.vblank s a1 a2) := by
  unfold State.vblank
  with_reducible repeat' first | exact h | assumption | apply State.setBlank_keeps | apply State.commitTiles_keeps | apply State.stretch_keeps | split | apply foldl_keeps | intro _ | fail_if_no_progress refine Keeps.same ?_ rfl | fail_if_no_progress extract_lets | apply getD_keeps | apply elim_keeps | dsimp +zetaDelta only

theorem execVblankStart_keeps {s0 s : State} (h : Keeps s0 s) (a0) (a1) : ∀ t, execVblankStart a0 a1 s = .next t → Keeps s0 t := by
  intro t ht
  refine Keeps.ofEq ?_ (Host.Outcome.next.inj ht).symm
  with_reducible repeat' first | exact h | assumption | apply State.vblank_keeps | split | apply foldl_keeps | intro _ | fail_if_no_progress refine Keeps.same ?_ rfl | fail_if_no_progress extract_lets | apply getD_keeps | apply elim_keeps | dsimp +zetaDelta only

theorem execStretchEnd_keeps {s0 s : State} (h : Keeps s0 s) (a0) : ∀ t, execStretchEnd a0 s = .next t → Keeps s0 t := by
  intro t ht
  refine Keeps.ofEq ?_ (Host.Outcome.next.inj ht).symm
  with_reducible repeat' first | exact h | assumption | apply State.scanFrame_keeps | split | apply foldl_keeps | intro _ | fail_if_no_progress refine Keeps.same ?_ rfl | fail_if_no_progress extract_lets | apply getD_keeps | apply elim_keeps | dsimp +zetaDelta only

theorem State.underrun_keeps {s0 s : State} (h : Keeps s0 s) (a1) (a2) (a3) : Keeps s0 (State.underrun s a1 a2 a3) := by
  unfold State.underrun
  with_reducible repeat' first | exact h | assumption | apply State.modPipe_keeps | apply State.wr_keeps | apply State.raise_keeps | split | apply foldl_keeps | intro _ | fail_if_no_progress refine Keeps.same ?_ rfl | fail_if_no_progress extract_lets | apply getD_keeps | apply elim_keeps | dsimp +zetaDelta only

theorem execUnderrun_keeps {s0 s : State} (h : Keeps s0 s) (a0) : ∀ t, execUnderrun a0 s = .next t → Keeps s0 t := by
  intro t ht
  refine Keeps.ofEq ?_ (Host.Outcome.next.inj ht).symm
  with_reducible repeat' first | exact h | assumption | apply State.underrun_keeps | split | apply foldl_keeps | intro _ | fail_if_no_progress refine Keeps.same ?_ rfl | fail_if_no_progress extract_lets | apply getD_keeps | apply elim_keeps | dsimp +zetaDelta only

theorem State.dpDown_keeps {s0 s : State} (h : Keeps s0 s) (a1) : Keeps s0 (State.dpDown s a1) := by
  unfold State.dpDown
  with_reducible repeat' first | exact h | assumption | apply State.wr_keeps | apply State.modPipe_keeps | split | apply foldl_keeps | intro _ | fail_if_no_progress refine Keeps.same ?_ rfl | fail_if_no_progress extract_lets | apply getD_keeps | apply elim_keeps | dsimp +zetaDelta only

theorem execDpLoss_keeps {s0 s : State} (h : Keeps s0 s) (a0) : ∀ t, execDpLoss a0 s = .next t → Keeps s0 t := by
  intro t ht
  refine Keeps.ofEq ?_ (Host.Outcome.next.inj ht).symm
  with_reducible repeat' first | exact h | assumption | apply State.dpDown_keeps | apply State.wr_keeps | apply State.raise_keeps | apply State.sendSinkStatus_keeps | split | apply foldl_keeps | intro _ | fail_if_no_progress refine Keeps.same ?_ rfl | fail_if_no_progress extract_lets | apply getD_keeps | apply elim_keeps | dsimp +zetaDelta only

theorem State.sendEdid_keeps {s0 s : State} (h : Keeps s0 s) (a1) : Keeps s0 (State.sendEdid s a1) := by
  unfold State.sendEdid
  with_reducible repeat' first | exact h | assumption | apply State.dispSend_keeps | split | apply foldl_keeps | intro _ | fail_if_no_progress refine Keeps.same ?_ rfl | fail_if_no_progress extract_lets | apply getD_keeps | apply elim_keeps | dsimp +zetaDelta only

theorem execHpdReturn_keeps {s0 s : State} (h : Keeps s0 s) (a0) (a1) : ∀ t, execHpdReturn a0 a1 s = .next t → Keeps s0 t := by
  intro t ht
  refine Keeps.ofEq ?_ (Host.Outcome.next.inj ht).symm
  with_reducible repeat' first | exact h | assumption | apply State.wr_keeps | apply State.modPipe_keeps | apply State.sendEdid_keeps | apply State.send_keeps | split | apply foldl_keeps | intro _ | fail_if_no_progress refine Keeps.same ?_ rfl | fail_if_no_progress extract_lets | apply getD_keeps | apply elim_keeps | dsimp +zetaDelta only

theorem State.judgeMode_keeps {s0 s : State} (h : Keeps s0 s) (a1) : Keeps s0 (State.judgeMode s a1) := by
  unfold State.judgeMode
  with_reducible repeat' first | exact h | assumption | apply State.modPipe_keeps | apply State.wr_keeps | apply State.raise_keeps | split | apply foldl_keeps | intro _ | fail_if_no_progress refine Keeps.same ?_ rfl | fail_if_no_progress extract_lets | apply getD_keeps | apply elim_keeps | dsimp +zetaDelta only

theorem State.dpTrained_keeps {s0 s : State} (h : Keeps s0 s) (a1) (a2) (a3) (a4) (a5) (a6) : Keeps s0 (State.dpTrained s a1 a2 a3 a4 a5 a6) := by
  unfold State.dpTrained
  with_reducible repeat' first | exact h | assumption | apply State.wr_keeps | apply State.modPipe_keeps | apply State.judgeMode_keeps | apply State.sendSinkStatus_keeps | split | apply foldl_keeps | intro _ | fail_if_no_progress refine Keeps.same ?_ rfl | fail_if_no_progress extract_lets | apply getD_keeps | apply elim_keeps | dsimp +zetaDelta only

theorem execDpLinkTrained_keeps {s0 s : State} (h : Keeps s0 s) (a0) (a1) (a2) (a3) (a4) (a5) : ∀ t, execDpLinkTrained a0 a1 a2 a3 a4 a5 s = .next t → Keeps s0 t := by
  intro t ht
  refine Keeps.ofEq ?_ (Host.Outcome.next.inj ht).symm
  with_reducible repeat' first | exact h | assumption | apply State.dpTrained_keeps | split | apply foldl_keeps | intro _ | fail_if_no_progress refine Keeps.same ?_ rfl | fail_if_no_progress extract_lets | apply getD_keeps | apply elim_keeps | dsimp +zetaDelta only

theorem execRelayInputFrame_keeps {s0 s : State} (h : Keeps s0 s) (a0) (a1) (a2) : ∀ t, execRelayInputFrame a0 a1 a2 s = .next t → Keeps s0 t := by
  intro t ht
  refine Keeps.ofEq ?_ (Host.Outcome.next.inj ht).symm
  with_reducible repeat' first | exact h | assumption | apply State.storeFrame_keeps | apply State.modPipe_keeps | apply State.wr_keeps | apply State.send_keeps | apply State.wrapAdd_keeps | split | apply foldl_keeps | intro _ | fail_if_no_progress refine Keeps.same ?_ rfl | fail_if_no_progress extract_lets | apply getD_keeps | apply elim_keeps | dsimp +zetaDelta only

theorem execRelayInputStop_keeps {s0 s : State} (h : Keeps s0 s) (a0) : ∀ t, execRelayInputStop a0 s = .next t → Keeps s0 t := by
  intro t ht
  refine Keeps.ofEq ?_ (Host.Outcome.next.inj ht).symm
  with_reducible repeat' first | exact h | assumption | apply State.modPipe_keeps | apply State.wr_keeps | apply State.raise_keeps | split | apply foldl_keeps | intro _ | fail_if_no_progress refine Keeps.same ?_ rfl | fail_if_no_progress extract_lets | apply getD_keeps | apply elim_keeps | dsimp +zetaDelta only

theorem State.hdcpAuth_keeps {s0 s : State} (h : Keeps s0 s) (a1) (a2) (a3) (a4) (a5) : Keeps s0 (State.hdcpAuth s a1 a2 a3 a4 a5) := by
  unfold State.hdcpAuth
  with_reducible repeat' first | exact h | assumption | apply State.wr_keeps | apply State.modPipe_keeps | apply State.send_keeps | apply State.dispSend_keeps | apply State.sendSinkStatus_keeps | split | apply foldl_keeps | intro _ | fail_if_no_progress refine Keeps.same ?_ rfl | fail_if_no_progress extract_lets | apply getD_keeps | apply elim_keeps | dsimp +zetaDelta only

theorem execHdcpSessionAuth_keeps {s0 s : State} (h : Keeps s0 s) (a0) (a1) (a2) (a3) (a4) (a5) (a6) (a7) : ∀ t, execHdcpSessionAuth a0 a1 a2 a3 a4 a5 a6 a7 s = .next t → Keeps s0 t := by
  intro t ht
  refine Keeps.ofEq ?_ (Host.Outcome.next.inj ht).symm
  with_reducible repeat' first | exact h | assumption | apply State.hdcpAuth_keeps | split | apply foldl_keeps | intro _ | fail_if_no_progress refine Keeps.same ?_ rfl | fail_if_no_progress extract_lets | apply getD_keeps | apply elim_keeps | dsimp +zetaDelta only

theorem State.sinkOpen_keeps {s0 s : State} (h : Keeps s0 s) (a1) : Keeps s0 (State.sinkOpen s a1) := by
  unfold State.sinkOpen
  with_reducible repeat' first | exact h | assumption | apply State.askRefresh_keeps | apply State.sendEdid_keeps | apply State.sendSinkStatus_keeps | split | apply foldl_keeps | intro _ | fail_if_no_progress refine Keeps.same ?_ rfl | fail_if_no_progress extract_lets | apply getD_keeps | apply elim_keeps | dsimp +zetaDelta only

theorem State.displayOpened_keeps {s0 s : State} (h : Keeps s0 s) (a1) : Keeps s0 (State.displayOpened s a1) := by
  unfold State.displayOpened
  with_reducible repeat' first | exact h | assumption | apply State.modPipe_keeps | apply State.triggerRefresh_keeps | apply State.sendMute_keeps | apply State.sinkOpen_keeps | split | apply foldl_keeps | intro _ | fail_if_no_progress refine Keeps.same ?_ rfl | fail_if_no_progress extract_lets | apply getD_keeps | apply elim_keeps | dsimp +zetaDelta only

theorem State.displayClosed_keeps {s0 s : State} (h : Keeps s0 s) (a1) : Keeps s0 (State.displayClosed s a1) := by
  unfold State.displayClosed
  with_reducible repeat' first | exact h | assumption | apply State.modPipe_keeps | split | apply foldl_keeps | intro _ | fail_if_no_progress refine Keeps.same ?_ rfl | fail_if_no_progress extract_lets | apply getD_keeps | apply elim_keeps | dsimp +zetaDelta only

theorem execMcReady_keeps {s0 s : State} (h : Keeps s0 s) (a0) : ∀ t, execMcReady a0 s = .next t → Keeps s0 t := by
  intro t ht
  refine Keeps.ofEq ?_ (Host.Outcome.next.inj ht).symm
  with_reducible repeat' first | exact h | assumption | apply State.wr_keeps | apply State.each_keeps | apply State.setHpd_keeps | apply State.askRefresh_keeps | split | apply foldl_keeps | intro _ | fail_if_no_progress refine Keeps.same ?_ rfl | fail_if_no_progress extract_lets | apply getD_keeps | apply elim_keeps | dsimp +zetaDelta only

theorem State.sendCtl_keeps {s0 s : State} (h : Keeps s0 s) (a1) (a2) (a3) : Keeps s0 (State.sendCtl s a1 a2 a3) := by
  unfold State.sendCtl
  with_reducible repeat' first | exact h | assumption | apply State.send_keeps | apply State.modLink_keeps | apply State.modSched_keeps | split | apply foldl_keeps | intro _ | fail_if_no_progress refine Keeps.same ?_ rfl | fail_if_no_progress extract_lets | apply getD_keeps | apply elim_keeps | dsimp +zetaDelta only

theorem State.linkOnly_keeps {s0 s : State} (h : Keeps s0 s) (a1) : Keeps s0 (State.linkOnly s a1) := by
  unfold State.linkOnly
  with_reducible repeat' first | exact h | assumption | apply State.wr_keeps | apply State.modLink_keeps | apply State.flush_keeps | split | apply foldl_keeps | intro _ | fail_if_no_progress refine Keeps.same ?_ rfl | fail_if_no_progress extract_lets | apply getD_keeps | apply elim_keeps | dsimp +zetaDelta only

theorem State.linkOpen_keeps {s0 s : State} (h : Keeps s0 s) (a1) : Keeps s0 (State.linkOpen s a1) := by
  unfold State.linkOpen
  with_reducible repeat' first | exact h | assumption | apply State.wr_keeps | split | apply foldl_keeps | intro _ | fail_if_no_progress refine Keeps.same ?_ rfl | fail_if_no_progress extract_lets | apply getD_keeps | apply elim_keeps | dsimp +zetaDelta only

theorem State.modBrg_keeps {s0 s : State} (h : Keeps s0 s) (a1) : Keeps s0 (State.modBrg s a1) := by
  unfold State.modBrg
  with_reducible repeat' first | exact h | assumption | split | apply foldl_keeps | intro _ | fail_if_no_progress refine Keeps.same ?_ rfl | fail_if_no_progress extract_lets | apply getD_keeps | apply elim_keeps | dsimp +zetaDelta only

theorem State.modVdsp_keeps {s0 s : State} (h : Keeps s0 s) (a1) (a2) : Keeps s0 (State.modVdsp s a1 a2) := by
  unfold State.modVdsp
  with_reducible repeat' first | exact h | assumption | apply State.modBrg_keeps | split | apply foldl_keeps | intro _ | fail_if_no_progress refine Keeps.same ?_ rfl | fail_if_no_progress extract_lets | apply getD_keeps | apply elim_keeps | dsimp +zetaDelta only

theorem State.pbReport_keeps {s0 s : State} (h : Keeps s0 s) (a1) (a2) (a3) (a4) (a5) (a6) : Keeps s0 (State.pbReport s a1 a2 a3 a4 a5 a6) := by
  unfold State.pbReport
  with_reducible repeat' first | exact h | assumption | apply State.wr_keeps | apply State.wr64_keeps | apply State.modVdsp_keeps | apply State.raiseWith_keeps | split | apply foldl_keeps | intro _ | fail_if_no_progress refine Keeps.same ?_ rfl | fail_if_no_progress extract_lets | apply getD_keeps | apply elim_keeps | dsimp +zetaDelta only

theorem State.pbOwnError_keeps {s0 s : State} (h : Keeps s0 s) (a1) (a2) (a3) (a4) (a5) (a6) (a7) : Keeps s0 (State.pbOwnError s a1 a2 a3 a4 a5 a6 a7) := by
  unfold State.pbOwnError
  with_reducible repeat' first | exact h | assumption | apply State.pbReport_keeps | apply State.sendPbError_keeps | split | apply foldl_keeps | intro _ | fail_if_no_progress refine Keeps.same ?_ rfl | fail_if_no_progress extract_lets | apply getD_keeps | apply elim_keeps | dsimp +zetaDelta only

theorem State.pbErrorRecord_keeps {s0 s : State} (h : Keeps s0 s) (a1) (a2) (a3) (a4) (a5) : Keeps s0 (State.pbErrorRecord s a1 a2 a3 a4 a5) := by
  unfold State.pbErrorRecord
  with_reducible repeat' first | exact h | assumption | apply State.pbReport_keeps | split | apply foldl_keeps | intro _ | fail_if_no_progress refine Keeps.same ?_ rfl | fail_if_no_progress extract_lets | apply getD_keeps | apply elim_keeps | dsimp +zetaDelta only

theorem execPbErrorRecord_keeps {s0 s : State} (h : Keeps s0 s) (a0) (a1) (a2) (a3) (a4) : ∀ t, execPbErrorRecord a0 a1 a2 a3 a4 s = .next t → Keeps s0 t := by
  intro t ht
  refine Keeps.ofEq ?_ (Host.Outcome.next.inj ht).symm
  with_reducible repeat' first | exact h | assumption | apply State.pbErrorRecord_keeps | split | apply foldl_keeps | intro _ | fail_if_no_progress refine Keeps.same ?_ rfl | fail_if_no_progress extract_lets | apply getD_keeps | apply elim_keeps | dsimp +zetaDelta only

theorem State.refuseTlp_keeps {s0 s : State} (h : Keeps s0 s) (a1) (a2) : Keeps s0 (State.refuseTlp s a1 a2) := by
  unfold State.refuseTlp
  with_reducible repeat' first | exact h | assumption | apply State.nativeTlp_keeps | split | apply foldl_keeps | intro _ | fail_if_no_progress refine Keeps.same ?_ rfl | fail_if_no_progress extract_lets | apply getD_keeps | apply elim_keeps | dsimp +zetaDelta only

theorem State.fromNative_keeps {s0 s : State} (h : Keeps s0 s) (a1) (a2) (a3) : Keeps s0 (State.fromNative s a1 a2 a3) := by
  unfold State.fromNative
  with_reducible repeat' first | exact h | assumption | apply State.refuseTlp_keeps | apply State.present_keeps | split | apply foldl_keeps | intro _ | fail_if_no_progress refine Keeps.same ?_ rfl | fail_if_no_progress extract_lets | apply getD_keeps | apply elim_keeps | dsimp +zetaDelta only

theorem execNativeUnitDispatch_keeps {s0 s : State} (h : Keeps s0 s) (a0) (a1) (a2) : ∀ t, execNativeUnitDispatch a0 a1 a2 s = .next t → Keeps s0 t := by
  intro t ht
  refine Keeps.ofEq ?_ (Host.Outcome.next.inj ht).symm
  with_reducible repeat' first | exact h | assumption | apply State.dispatch_keeps | apply State.fromNative_keeps | apply State.present_keeps | split | apply foldl_keeps | intro _ | fail_if_no_progress refine Keeps.same ?_ rfl | fail_if_no_progress extract_lets | apply getD_keeps | apply elim_keeps | dsimp +zetaDelta only

theorem State.sendLinkState_keeps {s0 s : State} (h : Keeps s0 s) (a1) : Keeps s0 (State.sendLinkState s a1) := by
  unfold State.sendLinkState
  with_reducible repeat' first | exact h | assumption | apply State.eachIn_keeps | apply State.present_keeps | split | apply foldl_keeps | intro _ | fail_if_no_progress refine Keeps.same ?_ rfl | fail_if_no_progress extract_lets | apply getD_keeps | apply elim_keeps | dsimp +zetaDelta only

theorem State.vdspMsi_keeps {s0 s : State} (h : Keeps s0 s) (a1) : Keeps s0 (State.vdspMsi s a1) := by
  unfold State.vdspMsi
  with_reducible repeat' first | exact h | assumption | apply State.send_keeps | split | apply foldl_keeps | intro _ | fail_if_no_progress refine Keeps.same ?_ rfl | fail_if_no_progress extract_lets | apply getD_keeps | apply elim_keeps | dsimp +zetaDelta only

theorem State.linkState_keeps {s0 s : State} (h : Keeps s0 s) (a1) (a2) (a3) (a4) : Keeps s0 (State.linkState s a1 a2 a3 a4) := by
  unfold State.linkState
  with_reducible repeat' first | exact h | assumption | apply State.modVdsp_keeps | apply State.raise_keeps | apply State.vdspMsi_keeps | split | apply foldl_keeps | intro _ | fail_if_no_progress refine Keeps.same ?_ rfl | fail_if_no_progress extract_lets | apply getD_keeps | apply elim_keeps | dsimp +zetaDelta only

theorem execLinkState_keeps {s0 s : State} (h : Keeps s0 s) (a0) (a1) (a2) (a3) : ∀ t, execLinkState a0 a1 a2 a3 s = .next t → Keeps s0 t := by
  intro t ht
  refine Keeps.ofEq ?_ (Host.Outcome.next.inj ht).symm
  with_reducible repeat' first | exact h | assumption | apply State.linkState_keeps | split | apply foldl_keeps | intro _ | fail_if_no_progress refine Keeps.same ?_ rfl | fail_if_no_progress extract_lets | apply getD_keeps | apply elim_keeps | dsimp +zetaDelta only

theorem execLinkStateTimer_keeps {s0 s : State} (h : Keeps s0 s) (a0) : ∀ t, execLinkStateTimer a0 s = .next t → Keeps s0 t := by
  intro t ht
  refine Keeps.ofEq ?_ (Host.Outcome.next.inj ht).symm
  with_reducible repeat' first | exact h | assumption | apply State.sendLinkState_keeps | split | apply foldl_keeps | intro _ | fail_if_no_progress refine Keeps.same ?_ rfl | fail_if_no_progress extract_lets | apply getD_keeps | apply elim_keeps | dsimp +zetaDelta only

theorem State.resetRecord_keeps {s0 s : State} (h : Keeps s0 s) (a1) (a2) : Keeps s0 (State.resetRecord s a1 a2) := by
  unfold State.resetRecord
  with_reducible repeat' first | exact h | assumption | apply State.send_keeps | apply State.modBrg_keeps | split | apply foldl_keeps | intro _ | fail_if_no_progress refine Keeps.same ?_ rfl | fail_if_no_progress extract_lets | apply getD_keeps | apply elim_keeps | dsimp +zetaDelta only

theorem execResetRecord_keeps {s0 s : State} (h : Keeps s0 s) (a0) (a1) : ∀ t, execResetRecord a0 a1 s = .next t → Keeps s0 t := by
  intro t ht
  refine Keeps.ofEq ?_ (Host.Outcome.next.inj ht).symm
  with_reducible repeat' first | exact h | assumption | apply State.resetRecord_keeps | split | apply foldl_keeps | intro _ | fail_if_no_progress refine Keeps.same ?_ rfl | fail_if_no_progress extract_lets | apply getD_keeps | apply elim_keeps | dsimp +zetaDelta only

theorem State.toNative_keeps {s0 s : State} (h : Keeps s0 s) (a1) (a2) (a3) (a4) : Keeps s0 (State.toNative s a1 a2 a3 a4) := by
  unfold State.toNative
  with_reducible repeat' first | exact h | assumption | apply State.nativeTlp_keeps | apply State.modAdp_keeps | apply State.requestDone_keeps | apply State.sendConfirm_keeps | apply State.present_keeps | apply State.sendPbError_keeps | split | apply foldl_keeps | intro _ | fail_if_no_progress refine Keeps.same ?_ rfl | fail_if_no_progress extract_lets | apply getD_keeps | apply elim_keeps | dsimp +zetaDelta only

theorem State.toPeer_keeps {s0 s : State} (h : Keeps s0 s) (a1) (a2) (a3) (a4) (a5) : Keeps s0 (State.toPeer s a1 a2 a3 a4 a5) := by
  unfold State.toPeer
  with_reducible repeat' first | exact h | assumption | apply State.sendConfirm_keeps | apply State.requestDone_keeps | apply State.modAdp_keeps | apply State.present_keeps | split | apply foldl_keeps | intro _ | fail_if_no_progress refine Keeps.same ?_ rfl | fail_if_no_progress extract_lets | apply getD_keeps | apply elim_keeps | dsimp +zetaDelta only

theorem State.tlpRecord_keeps {s0 s : State} (h : Keeps s0 s) (a1) (a2) (a3) (a4) (a5) : Keeps s0 (State.tlpRecord s a1 a2 a3 a4 a5) := by
  unfold State.tlpRecord
  with_reducible repeat' first | exact h | assumption | apply State.toPeer_keeps | apply State.toNative_keeps | apply State.linkState_keeps | apply State.resetRecord_keeps | apply State.pbErrorRecord_keeps | apply State.raiseWith_keeps | split | apply foldl_keeps | intro _ | fail_if_no_progress refine Keeps.same ?_ rfl | fail_if_no_progress extract_lets | apply getD_keeps | apply elim_keeps | dsimp +zetaDelta only

theorem execTlpRecord_keeps {s0 s : State} (h : Keeps s0 s) (a0) (a1) (a2) (a3) (a4) : ∀ t, execTlpRecord a0 a1 a2 a3 a4 s = .next t → Keeps s0 t := by
  intro t ht
  refine Keeps.ofEq ?_ (Host.Outcome.next.inj ht).symm
  with_reducible repeat' first | exact h | assumption | apply State.tlpRecord_keeps | split | apply foldl_keeps | intro _ | fail_if_no_progress refine Keeps.same ?_ rfl | fail_if_no_progress extract_lets | apply getD_keeps | apply elim_keeps | dsimp +zetaDelta only

theorem execPcieAck_keeps {s0 s : State} (h : Keeps s0 s) (a0) (a1) : ∀ t, execPcieAck a0 a1 s = .next t → Keeps s0 t := by
  intro t ht
  refine Keeps.ofEq ?_ (Host.Outcome.next.inj ht).symm
  with_reducible repeat' first | exact h | assumption | apply State.modAdp_keeps | apply State.sendConfirm_keeps | split | apply foldl_keeps | intro _ | fail_if_no_progress refine Keeps.same ?_ rfl | fail_if_no_progress extract_lets | apply getD_keeps | apply elim_keeps | dsimp +zetaDelta only

theorem State.pcieLinkChange_keeps {s0 s : State} (h : Keeps s0 s) (a1) (a2) (a3) (a4) : Keeps s0 (State.pcieLinkChange s a1 a2 a3 a4) := by
  unfold State.pcieLinkChange
  with_reducible repeat' first | exact h | assumption | apply State.wr_keeps | apply State.eachIn_keeps | apply State.modAdp_keeps | apply State.present_keeps | apply State.sendConfirm_keeps | apply State.sendLinkState_keeps | split | apply foldl_keeps | intro _ | fail_if_no_progress refine Keeps.same ?_ rfl | fail_if_no_progress extract_lets | apply getD_keeps | apply elim_keeps | dsimp +zetaDelta only

theorem execPcieLinkChange_keeps {s0 s : State} (h : Keeps s0 s) (a0) (a1) (a2) (a3) : ∀ t, execPcieLinkChange a0 a1 a2 a3 s = .next t → Keeps s0 t := by
  intro t ht
  refine Keeps.ofEq ?_ (Host.Outcome.next.inj ht).symm
  with_reducible repeat' first | exact h | assumption | apply State.pcieLinkChange_keeps | split | apply foldl_keeps | intro _ | fail_if_no_progress refine Keeps.same ?_ rfl | fail_if_no_progress extract_lets | apply getD_keeps | apply elim_keeps | dsimp +zetaDelta only

theorem execPowerControllerControl_keeps {s0 s : State} (h : Keeps s0 s) (a0) (a1) : ∀ t, execPowerControllerControl a0 a1 s = .next t → Keeps s0 t := by
  intro t ht
  refine Keeps.ofEq ?_ (Host.Outcome.next.inj ht).symm
  with_reducible repeat' first | exact h | assumption | apply State.modVdsp_keeps | apply State.present_keeps | split | apply foldl_keeps | intro _ | fail_if_no_progress refine Keeps.same ?_ rfl | fail_if_no_progress extract_lets | apply getD_keeps | apply elim_keeps | dsimp +zetaDelta only

theorem execSecondaryBusReset_keeps {s0 s : State} (h : Keeps s0 s) (a0) : ∀ t, execSecondaryBusReset a0 s = .next t → Keeps s0 t := by
  intro t ht
  refine Keeps.ofEq ?_ (Host.Outcome.next.inj ht).symm
  with_reducible repeat' first | exact h | assumption | apply State.present_keeps | split | apply foldl_keeps | intro _ | fail_if_no_progress refine Keeps.same ?_ rfl | fail_if_no_progress extract_lets | apply getD_keeps | apply elim_keeps | dsimp +zetaDelta only

theorem execPerstRelease_keeps {s0 s : State} (h : Keeps s0 s) (a0) : ∀ t, execPerstRelease a0 s = .next t → Keeps s0 t := by
  intro t ht
  refine Keeps.ofEq ?_ (Host.Outcome.next.inj ht).symm
  with_reducible repeat' first | exact h | assumption | apply State.modBrg_keeps | apply State.send_keeps | split | apply foldl_keeps | intro _ | fail_if_no_progress refine Keeps.same ?_ rfl | fail_if_no_progress extract_lets | apply getD_keeps | apply elim_keeps | dsimp +zetaDelta only

theorem State.cplTimeout_keeps {s0 s : State} (h : Keeps s0 s) (a1) : Keeps s0 (State.cplTimeout s a1) := by
  unfold State.cplTimeout
  with_reducible repeat' first | exact h | assumption | apply State.modAdp_keeps | apply State.answerRequest_keeps | apply State.raise_keeps | apply State.pbOwnError_keeps | split | apply foldl_keeps | intro _ | fail_if_no_progress refine Keeps.same ?_ rfl | fail_if_no_progress extract_lets | apply getD_keeps | apply elim_keeps | dsimp +zetaDelta only

theorem execCplTimeout_keeps {s0 s : State} (h : Keeps s0 s) (a0) : ∀ t, execCplTimeout a0 s = .next t → Keeps s0 t := by
  intro t ht
  refine Keeps.ofEq ?_ (Host.Outcome.next.inj ht).symm
  with_reducible repeat' first | exact h | assumption | apply State.cplTimeout_keeps | split | apply foldl_keeps | intro _ | fail_if_no_progress refine Keeps.same ?_ rfl | fail_if_no_progress extract_lets | apply getD_keeps | apply elim_keeps | dsimp +zetaDelta only

theorem State.setRbOut_keeps {s0 s : State} (h : Keeps s0 s) (a1) : Keeps s0 (State.setRbOut s a1) := by
  unfold State.setRbOut
  with_reducible repeat' first | exact h | assumption | apply State.modBrg_keeps | apply State.wr_keeps | split | apply foldl_keeps | intro _ | fail_if_no_progress refine Keeps.same ?_ rfl | fail_if_no_progress extract_lets | apply getD_keeps | apply elim_keeps | dsimp +zetaDelta only

theorem State.i2cStart_keeps {s0 s : State} (h : Keeps s0 s) (a1) : Keeps s0 (State.i2cStart s a1) := by
  unfold State.i2cStart
  with_reducible repeat' first | exact h | assumption | apply State.wr_keeps | apply State.send_keeps | split | apply foldl_keeps | intro _ | fail_if_no_progress refine Keeps.same ?_ rfl | fail_if_no_progress extract_lets | apply getD_keeps | apply elim_keeps | dsimp +zetaDelta only

theorem State.i2cQueue_keeps {s0 s : State} (h : Keeps s0 s) (a1) : Keeps s0 (State.i2cQueue s a1) := by
  unfold State.i2cQueue
  with_reducible repeat' first | exact h | assumption | apply State.modBrg_keeps | apply State.i2cStart_keeps | split | apply foldl_keeps | intro _ | fail_if_no_progress refine Keeps.same ?_ rfl | fail_if_no_progress extract_lets | apply getD_keeps | apply elim_keeps | dsimp +zetaDelta only

theorem State.rbAnswer_keeps {s0 s : State} (h : Keeps s0 s) (a1) (a2) (a3) : Keeps s0 (State.rbAnswer s a1 a2 a3) := by
  unfold State.rbAnswer
  with_reducible repeat' first | exact h | assumption | apply State.present_keeps | apply State.sendConfirm_keeps | split | apply foldl_keeps | intro _ | fail_if_no_progress refine Keeps.same ?_ rfl | fail_if_no_progress extract_lets | apply getD_keeps | apply elim_keeps | dsimp +zetaDelta only

theorem execReadRecord_keeps {s0 s : State} (h : Keeps s0 s) (a0) (a1) (a2) (a3) : ∀ t, execReadRecord a0 a1 a2 a3 s = .next t → Keeps s0 t := by
  rintro t ⟨⟩
  with_reducible repeat' first | exact h | assumption | apply State.i2cQueue_keeps | apply State.rbAnswer_keeps | split | apply foldl_keeps | intro _ | fail_if_no_progress refine Keeps.same ?_ rfl | fail_if_no_progress extract_lets | apply getD_keeps | apply elim_keeps | dsimp +zetaDelta only

theorem execWriteRecord_keeps {s0 s : State} (h : Keeps s0 s) (a0) (a1) (a2) (a3) (a4) (a5) : ∀ t, execWriteRecord a0 a1 a2 a3 a4 a5 s = .next t → Keeps s0 t := by
  rintro t ⟨⟩
  with_reducible repeat' first | exact h | assumption | apply State.i2cQueue_keeps | apply State.rbAnswer_keeps | split | apply foldl_keeps | intro _ | fail_if_no_progress refine Keeps.same ?_ rfl | fail_if_no_progress extract_lets | apply getD_keeps | apply elim_keeps | dsimp +zetaDelta only

theorem State.rbFinish_keeps {s0 s : State} (h : Keeps s0 s) (a1) (a2) (a3) (a4) : Keeps s0 (State.rbFinish s a1 a2 a3 a4) := by
  unfold State.rbFinish
  with_reducible repeat' first | exact h | assumption | apply State.finish_keeps | split | apply foldl_keeps | intro _ | fail_if_no_progress refine Keeps.same ?_ rfl | fail_if_no_progress extract_lets | apply getD_keeps | apply elim_keeps | dsimp +zetaDelta only

theorem State.i2cDone_keeps {s0 s : State} (h : Keeps s0 s) (a1) (a2) : Keeps s0 (State.i2cDone s a1 a2) := by
  unfold State.i2cDone
  with_reducible repeat' first | exact h | assumption | apply State.modBrg_keeps | apply State.wr_keeps | apply State.setRbOut_keeps | apply State.rbFinish_keeps | apply State.rbAnswer_keeps | apply State.i2cStart_keeps | split | apply foldl_keeps | intro _ | fail_if_no_progress refine Keeps.same ?_ rfl | fail_if_no_progress extract_lets | apply getD_keeps | apply elim_keeps | dsimp +zetaDelta only

theorem State.rbError_keeps {s0 s : State} (h : Keeps s0 s) (a1) (a2) (a3) (a4) : Keeps s0 (State.rbError s a1 a2 a3 a4) := by
  unfold State.rbError
  with_reducible repeat' first | exact h | assumption | apply State.wr_keeps | apply State.raiseWith_keeps | split | apply foldl_keeps | intro _ | fail_if_no_progress refine Keeps.same ?_ rfl | fail_if_no_progress extract_lets | apply getD_keeps | apply elim_keeps | dsimp +zetaDelta only

theorem execRbErrorRecord_keeps {s0 s : State} (h : Keeps s0 s) (a0) (a1) (a2) (a3) : ∀ t, execRbErrorRecord a0 a1 a2 a3 s = .next t → Keeps s0 t := by
  intro t ht
  refine Keeps.ofEq ?_ (Host.Outcome.next.inj ht).symm
  with_reducible repeat' first | exact h | assumption | apply State.rbError_keeps | split | apply foldl_keeps | intro _ | fail_if_no_progress refine Keeps.same ?_ rfl | fail_if_no_progress extract_lets | apply getD_keeps | apply elim_keeps | dsimp +zetaDelta only

theorem State.readResp_keeps {s0 s : State} (h : Keeps s0 s) (a1) (a2) (a3) (a4) : Keeps s0 (State.readResp s a1 a2 a3 a4) := by
  unfold State.readResp
  with_reducible repeat' first | exact h | assumption | apply State.setRbOut_keeps | apply State.rbFinish_keeps | split | apply foldl_keeps | intro _ | fail_if_no_progress refine Keeps.same ?_ rfl | fail_if_no_progress extract_lets | apply getD_keeps | apply elim_keeps | dsimp +zetaDelta only

theorem State.rbReadTimeout_keeps {s0 s : State} (h : Keeps s0 s) (a1) : Keeps s0 (State.rbReadTimeout s a1) := by
  unfold State.rbReadTimeout
  with_reducible repeat' first | exact h | assumption | apply State.setRbOut_keeps | apply State.raise_keeps | apply State.rbFinish_keeps | split | apply foldl_keeps | intro _ | fail_if_no_progress refine Keeps.same ?_ rfl | fail_if_no_progress extract_lets | apply getD_keeps | apply elim_keeps | dsimp +zetaDelta only

theorem State.rbRequest_keeps {s0 s : State} (h : Keeps s0 s) (a1) (a2) (a3) (a4) (a5) : Keeps s0 (State.rbRequest s a1 a2 a3 a4 a5).2 := by
  unfold State.rbRequest
  with_reducible repeat' first | exact h | assumption | apply State.modBrg_keeps | apply State.setRbOut_keeps | apply State.i2cQueue_keeps | apply State.present_keeps | apply State.dispatch_keeps | split | apply foldl_keeps | intro _ | fail_if_no_progress refine Keeps.same ?_ rfl | fail_if_no_progress extract_lets | apply getD_keeps | apply elim_keeps | dsimp +zetaDelta only

theorem State.confirmed_keeps {s0 s : State} (h : Keeps s0 s) (a1) (a2) (a3) (a4) (a5) (a6) : Keeps s0 (State.confirmed s a1 a2 a3 a4 a5 a6) := by
  unfold State.confirmed
  with_reducible repeat' first | exact h | assumption | apply State.modAdp_keeps | apply State.satAdd_keeps | apply State.rbError_keeps | apply State.setRbOut_keeps | apply State.rbFinish_keeps | apply State.raise_keeps | apply State.pbOwnError_keeps | split | apply foldl_keeps | intro _ | fail_if_no_progress refine Keeps.same ?_ rfl | fail_if_no_progress extract_lets | apply getD_keeps | apply elim_keeps | dsimp +zetaDelta only

theorem State.confirm_keeps {s0 s : State} (h : Keeps s0 s) (a1) (a2) (a3) : Keeps s0 (State.confirm s a1 a2 a3) := by
  unfold State.confirm
  with_reducible repeat' first | exact h | assumption | apply State.confirmed_keeps | split | apply foldl_keeps | intro _ | fail_if_no_progress refine Keeps.same ?_ rfl | fail_if_no_progress extract_lets | apply getD_keeps | apply elim_keeps | dsimp +zetaDelta only

theorem State.confirmTimeout_keeps {s0 s : State} (h : Keeps s0 s) (a1) : Keeps s0 (State.confirmTimeout s a1) := by
  unfold State.confirmTimeout
  with_reducible repeat' first | exact h | assumption | apply State.confirmed_keeps | split | apply foldl_keeps | intro _ | fail_if_no_progress refine Keeps.same ?_ rfl | fail_if_no_progress extract_lets | apply getD_keeps | apply elim_keeps | dsimp +zetaDelta only

theorem State.modGroup_keeps {s0 s : State} (h : Keeps s0 s) (a1) (a2) : Keeps s0 (State.modGroup s a1 a2) := by
  unfold State.modGroup
  with_reducible repeat' first | exact h | assumption | apply State.modBrg_keeps | split | apply foldl_keeps | intro _ | fail_if_no_progress refine Keeps.same ?_ rfl | fail_if_no_progress extract_lets | apply getD_keeps | apply elim_keeps | dsimp +zetaDelta only

theorem execSignalAccept_keeps {s0 s : State} (h : Keeps s0 s) (a0) (a1) : ∀ t, execSignalAccept a0 a1 s = .next t → Keeps s0 t := by
  intro t ht
  refine Keeps.ofEq ?_ (Host.Outcome.next.inj ht).symm
  with_reducible repeat' first | exact h | assumption | apply State.wr_keeps | apply State.modBrg_keeps | apply State.modGroup_keeps | split | apply foldl_keeps | intro _ | fail_if_no_progress refine Keeps.same ?_ rfl | fail_if_no_progress extract_lets | apply getD_keeps | apply elim_keeps | dsimp +zetaDelta only

theorem State.groupUpdate_keeps {s0 s : State} (h : Keeps s0 s) (a1) : Keeps s0 (State.groupUpdate s a1) := by
  unfold State.groupUpdate
  with_reducible repeat' first | exact h | assumption | apply State.accept_keeps | apply State.modGroup_keeps | split | apply foldl_keeps | intro _ | fail_if_no_progress refine Keeps.same ?_ rfl | fail_if_no_progress extract_lets | apply getD_keeps | apply elim_keeps | dsimp +zetaDelta only

theorem execGroupUpdate_keeps {s0 s : State} (h : Keeps s0 s) (a0) : ∀ t, execGroupUpdate a0 s = .next t → Keeps s0 t := by
  intro t ht
  refine Keeps.ofEq ?_ (Host.Outcome.next.inj ht).symm
  with_reducible repeat' first | exact h | assumption | apply State.groupUpdate_keeps | split | apply foldl_keeps | intro _ | fail_if_no_progress refine Keeps.same ?_ rfl | fail_if_no_progress extract_lets | apply getD_keeps | apply elim_keeps | dsimp +zetaDelta only

theorem State.sbDrive_keeps {s0 s : State} (h : Keeps s0 s) (a1) (a2) : Keeps s0 (State.sbDrive s a1 a2) := by
  unfold State.sbDrive
  with_reducible repeat' first | exact h | assumption | apply State.wr_keeps | apply State.send_keeps | split | apply foldl_keeps | intro _ | fail_if_no_progress refine Keeps.same ?_ rfl | fail_if_no_progress extract_lets | apply getD_keeps | apply elim_keeps | dsimp +zetaDelta only

theorem State.driveSafe_keeps {s0 s : State} (h : Keeps s0 s) (a1) : Keeps s0 (State.driveSafe s a1) := by
  unfold State.driveSafe
  with_reducible repeat' first | exact h | assumption | apply State.each_keeps | apply State.sbDrive_keeps | split | apply foldl_keeps | intro _ | fail_if_no_progress refine Keeps.same ?_ rfl | fail_if_no_progress extract_lets | apply getD_keeps | apply elim_keeps | dsimp +zetaDelta only

theorem State.pcieClosed_keeps {s0 s : State} (h : Keeps s0 s) (a1) : Keeps s0 (State.pcieClosed s a1) := by
  unfold State.pcieClosed
  with_reducible repeat' first | exact h | assumption | apply State.confirmed_keeps | apply State.eachIn_keeps | apply State.answerRequest_keeps | apply State.modAdp_keeps | apply State.linkState_keeps | split | apply foldl_keeps | intro _ | fail_if_no_progress refine Keeps.same ?_ rfl | fail_if_no_progress extract_lets | apply getD_keeps | apply elim_keeps | dsimp +zetaDelta only

theorem State.sbClosed_keeps {s0 s : State} (h : Keeps s0 s) (a1) : Keeps s0 (State.sbClosed s a1) := by
  unfold State.sbClosed
  with_reducible repeat' first | exact h | assumption | apply State.eachIn_keeps | apply State.modGroup_keeps | apply State.driveSafe_keeps | split | apply foldl_keeps | intro _ | fail_if_no_progress refine Keeps.same ?_ rfl | fail_if_no_progress extract_lets | apply getD_keeps | apply elim_keeps | dsimp +zetaDelta only

theorem State.rbClosed_keeps {s0 s : State} (h : Keeps s0 s) (a1) : Keeps s0 (State.rbClosed s a1) := by
  unfold State.rbClosed
  with_reducible repeat' first | exact h | assumption | apply State.confirmed_keeps | apply State.setRbOut_keeps | apply State.eachIn_keeps | apply State.rbFinish_keeps | split | apply foldl_keeps | intro _ | fail_if_no_progress refine Keeps.same ?_ rfl | fail_if_no_progress extract_lets | apply getD_keeps | apply elim_keeps | dsimp +zetaDelta only

theorem State.bridgeClosed_keeps {s0 s : State} (h : Keeps s0 s) (a1) : Keeps s0 (State.bridgeClosed s a1) := by
  unfold State.bridgeClosed
  with_reducible repeat' first | exact h | assumption | apply State.pcieClosed_keeps | apply State.sbClosed_keeps | apply State.rbClosed_keeps | split | apply foldl_keeps | intro _ | fail_if_no_progress refine Keeps.same ?_ rfl | fail_if_no_progress extract_lets | apply getD_keeps | apply elim_keeps | dsimp +zetaDelta only

theorem State.applyUpdate_keeps {s0 s : State} (h : Keeps s0 s) (a1) (a2) (a3) (a4) : Keeps s0 (State.applyUpdate s a1 a2 a3 a4) := by
  unfold State.applyUpdate
  with_reducible repeat' first | exact h | assumption | apply State.applied_keeps | apply State.modGroup_keeps | apply State.each_keeps | apply State.sbDrive_keeps | apply State.satAdd_keeps | apply State.raise_keeps | split | apply foldl_keeps | intro _ | fail_if_no_progress refine Keeps.same ?_ rfl | fail_if_no_progress extract_lets | apply getD_keeps | apply elim_keeps | dsimp +zetaDelta only

theorem State.updateReceive_keeps {s0 s : State} (h : Keeps s0 s) (a1) (a2) (a3) (a4) (a5) : Keeps s0 (State.updateReceive s a1 a2 a3 a4 a5) := by
  unfold State.updateReceive
  with_reducible repeat' first | exact h | assumption | apply State.modGroup_keeps | apply State.raise_keeps | apply State.applyUpdate_keeps | split | apply foldl_keeps | intro _ | fail_if_no_progress refine Keeps.same ?_ rfl | fail_if_no_progress extract_lets | apply getD_keeps | apply elim_keeps | dsimp +zetaDelta only

theorem execUpdateReceive_keeps {s0 s : State} (h : Keeps s0 s) (a0) (a1) (a2) (a3) (a4) : ∀ t, execUpdateReceive a0 a1 a2 a3 a4 s = .next t → Keeps s0 t := by
  intro t ht
  refine Keeps.ofEq ?_ (Host.Outcome.next.inj ht).symm
  with_reducible repeat' first | exact h | assumption | apply State.updateReceive_keeps | split | apply foldl_keeps | intro _ | fail_if_no_progress refine Keeps.same ?_ rfl | fail_if_no_progress extract_lets | apply getD_keeps | apply elim_keeps | dsimp +zetaDelta only

theorem execTimedApply_keeps {s0 s : State} (h : Keeps s0 s) (a0) : ∀ t, execTimedApply a0 s = .next t → Keeps s0 t := by
  intro t ht
  refine Keeps.ofEq ?_ (Host.Outcome.next.inj ht).symm
  with_reducible repeat' first | exact h | assumption | apply State.modGroup_keeps | apply State.applyUpdate_keeps | split | apply foldl_keeps | intro _ | fail_if_no_progress refine Keeps.same ?_ rfl | fail_if_no_progress extract_lets | apply getD_keeps | apply elim_keeps | dsimp +zetaDelta only

theorem execStale_keeps {s0 s : State} (h : Keeps s0 s) (a0) : ∀ t, execStale a0 s = .next t → Keeps s0 t := by
  intro t ht
  refine Keeps.ofEq ?_ (Host.Outcome.next.inj ht).symm
  with_reducible repeat' first | exact h | assumption | apply State.modGroup_keeps | apply State.driveSafe_keeps | apply State.raise_keeps | split | apply foldl_keeps | intro _ | fail_if_no_progress refine Keeps.same ?_ rfl | fail_if_no_progress extract_lets | apply getD_keeps | apply elim_keeps | dsimp +zetaDelta only

theorem State.bridgeOpened_keeps {s0 s : State} (h : Keeps s0 s) (a1) : Keeps s0 (State.bridgeOpened s a1) := by
  unfold State.bridgeOpened
  with_reducible repeat' first | exact h | assumption | apply State.sendLinkState_keeps | split | apply foldl_keeps | intro _ | fail_if_no_progress refine Keeps.same ?_ rfl | fail_if_no_progress extract_lets | apply getD_keeps | apply elim_keeps | dsimp +zetaDelta only

theorem State.modUsb_keeps {s0 s : State} (h : Keeps s0 s) (a1) : Keeps s0 (State.modUsb s a1) := by
  unfold State.modUsb
  with_reducible repeat' first | exact h | assumption | split | apply foldl_keeps | intro _ | fail_if_no_progress refine Keeps.same ?_ rfl | fail_if_no_progress extract_lets | apply getD_keeps | apply elim_keeps | dsimp +zetaDelta only

theorem State.modTport_keeps {s0 s : State} (h : Keeps s0 s) (a1) (a2) : Keeps s0 (State.modTport s a1 a2) := by
  unfold State.modTport
  with_reducible repeat' first | exact h | assumption | apply State.modUsb_keeps | split | apply foldl_keeps | intro _ | fail_if_no_progress refine Keeps.same ?_ rfl | fail_if_no_progress extract_lets | apply getD_keeps | apply elim_keeps | dsimp +zetaDelta only

theorem State.setDriven_keeps {s0 s : State} (h : Keeps s0 s) (a1) (a2) : Keeps s0 (State.setDriven s a1 a2) := by
  unfold State.setDriven
  with_reducible repeat' first | exact h | assumption | apply State.modUsb_keeps | split | apply foldl_keeps | intro _ | fail_if_no_progress refine Keeps.same ?_ rfl | fail_if_no_progress extract_lets | apply getD_keeps | apply elim_keeps | dsimp +zetaDelta only

theorem State.functionDefault_keeps {s0 s : State} (h : Keeps s0 s) : Keeps s0 (State.functionDefault s) := by
  unfold State.functionDefault
  with_reducible repeat' first | exact h | assumption | apply State.modUsb_keeps | apply State.wr_keeps | split | apply foldl_keeps | intro _ | fail_if_no_progress refine Keeps.same ?_ rfl | fail_if_no_progress extract_lets | apply getD_keeps | apply elim_keeps | dsimp +zetaDelta only

theorem State.setChange_keeps {s0 s : State} (h : Keeps s0 s) (a1) (a2) : Keeps s0 (State.setChange s a1 a2) := by
  unfold State.setChange
  with_reducible repeat' first | exact h | assumption | apply State.modUsb_keeps | split | apply foldl_keeps | intro _ | fail_if_no_progress refine Keeps.same ?_ rfl | fail_if_no_progress extract_lets | apply getD_keeps | apply elim_keeps | dsimp +zetaDelta only

theorem State.portGone_keeps {s0 s : State} (h : Keeps s0 s) (a1) : Keeps s0 (State.portGone s a1) := by
  unfold State.portGone
  with_reducible repeat' first | exact h | assumption | apply State.wr_keeps | apply State.setDriven_keeps | apply State.modTport_keeps | apply State.functionDefault_keeps | apply State.setChange_keeps | split | apply foldl_keeps | intro _ | fail_if_no_progress refine Keeps.same ?_ rfl | fail_if_no_progress extract_lets | apply getD_keeps | apply elim_keeps | dsimp +zetaDelta only

theorem State.sendPort3_keeps {s0 s : State} (h : Keeps s0 s) (a1) (a2) : Keeps s0 (State.sendPort3 s a1 a2) := by
  unfold State.sendPort3
  with_reducible repeat' first | exact h | assumption | apply State.present_keeps | split | apply foldl_keeps | intro _ | fail_if_no_progress refine Keeps.same ?_ rfl | fail_if_no_progress extract_lets | apply getD_keeps | apply elim_keeps | dsimp +zetaDelta only

theorem State.sendPort2_keeps {s0 s : State} (h : Keeps s0 s) (a1) (a2) : Keeps s0 (State.sendPort2 s a1 a2) := by
  unfold State.sendPort2
  with_reducible repeat' first | exact h | assumption | apply State.present_keeps | split | apply foldl_keeps | intro _ | fail_if_no_progress refine Keeps.same ?_ rfl | fail_if_no_progress extract_lets | apply getD_keeps | apply elim_keeps | dsimp +zetaDelta only

theorem State.usbOpened_keeps {s0 s : State} (h : Keeps s0 s) (a1) : Keeps s0 (State.usbOpened s a1) := by
  unfold State.usbOpened
  with_reducible repeat' first | exact h | assumption | apply State.sendPort3_keeps | apply State.sendPort2_keeps | split | apply foldl_keeps | intro _ | fail_if_no_progress refine Keeps.same ?_ rfl | fail_if_no_progress extract_lets | apply getD_keeps | apply elim_keeps | dsimp +zetaDelta only

theorem State.upwren_keeps {s0 s : State} (h : Keeps s0 s) (a1) (a2) : Keeps s0 (State.upwren s a1 a2) := by
  unfold State.upwren
  with_reducible repeat' first | exact h | assumption | apply State.send_keeps | split | apply foldl_keeps | intro _ | fail_if_no_progress refine Keeps.same ?_ rfl | fail_if_no_progress extract_lets | apply getD_keeps | apply elim_keeps | dsimp +zetaDelta only

theorem State.portOff_keeps {s0 s : State} (h : Keeps s0 s) (a1) : Keeps s0 (State.portOff s a1) := by
  unfold State.portOff
  with_reducible repeat' first | exact h | assumption | apply State.portGone_keeps | apply State.wr_keeps | apply State.upwren_keeps | split | apply foldl_keeps | intro _ | fail_if_no_progress refine Keeps.same ?_ rfl | fail_if_no_progress extract_lets | apply getD_keeps | apply elim_keeps | dsimp +zetaDelta only

theorem State.usbUnattached_keeps {s0 s : State} (h : Keeps s0 s) : Keeps s0 (State.usbUnattached s) := by
  unfold State.usbUnattached
  with_reducible repeat' first | exact h | assumption | apply State.wr_keeps | apply State.each_keeps | apply State.portOff_keeps | apply State.modTport_keeps | apply State.modUsb_keeps | split | apply foldl_keeps | intro _ | fail_if_no_progress refine Keeps.same ?_ rfl | fail_if_no_progress extract_lets | apply getD_keeps | apply elim_keeps | dsimp +zetaDelta only

theorem State.usbWire_keeps {s0 s : State} (h : Keeps s0 s) (a1) (a2) (a3) : Keeps s0 (State.usbWire s a1 a2 a3) := by
  unfold State.usbWire
  with_reducible repeat' first | exact h | assumption | apply State.send_keeps | split | apply foldl_keeps | intro _ | fail_if_no_progress refine Keeps.same ?_ rfl | fail_if_no_progress extract_lets | apply getD_keeps | apply elim_keeps | dsimp +zetaDelta only

theorem State.upTake_keeps {s0 s : State} (h : Keeps s0 s) (a1) (a2) : Keeps s0 (State.upTake s a1 a2) := by
  unfold State.upTake
  with_reducible repeat' first | exact h | assumption | apply State.wr_keeps | apply State.sendPort3_keeps | apply State.sendPort2_keeps | apply State.usbWire_keeps | split | apply foldl_keeps | intro _ | fail_if_no_progress refine Keeps.same ?_ rfl | fail_if_no_progress extract_lets | apply getD_keeps | apply elim_keeps | dsimp +zetaDelta only

theorem State.upDisconnect_keeps {s0 s : State} (h : Keeps s0 s) (a1) : Keeps s0 (State.upDisconnect s a1) := by
  unfold State.upDisconnect
  with_reducible repeat' first | exact h | assumption | apply State.modUsb_keeps | apply State.usbUnattached_keeps | apply State.upTake_keeps | split | apply foldl_keeps | intro _ | fail_if_no_progress refine Keeps.same ?_ rfl | fail_if_no_progress extract_lets | apply getD_keeps | apply elim_keeps | dsimp +zetaDelta only

theorem State.usbClosed_keeps {s0 s : State} (h : Keeps s0 s) (a1) : Keeps s0 (State.usbClosed s a1) := by
  unfold State.usbClosed
  with_reducible repeat' first | exact h | assumption | apply State.modTport_keeps | apply State.portGone_keeps | apply State.upDisconnect_keeps | split | apply foldl_keeps | intro _ | fail_if_no_progress refine Keeps.same ?_ rfl | fail_if_no_progress extract_lets | apply getD_keeps | apply elim_keeps | dsimp +zetaDelta only

theorem State.functionReset_keeps {s0 s : State} (h : Keeps s0 s) : Keeps s0 (State.functionReset s) := by
  unfold State.functionReset
  with_reducible repeat' first | exact h | assumption | apply State.raise_keeps | apply State.functionDefault_keeps | split | apply foldl_keeps | intro _ | fail_if_no_progress refine Keeps.same ?_ rfl | fail_if_no_progress extract_lets | apply getD_keeps | apply elim_keeps | dsimp +zetaDelta only

theorem State.upRefuse_keeps {s0 s : State} (h : Keeps s0 s) (a1) : Keeps s0 (State.upRefuse s a1) := by
  unfold State.upRefuse
  with_reducible repeat' first | exact h | assumption | apply State.raise_keeps | apply State.sendPort3_keeps | apply State.sendPort2_keeps | split | apply foldl_keeps | intro _ | fail_if_no_progress refine Keeps.same ?_ rfl | fail_if_no_progress extract_lets | apply getD_keeps | apply elim_keeps | dsimp +zetaDelta only

theorem State.upTunnelRefuse_keeps {s0 s : State} (h : Keeps s0 s) (a1) (a2) : Keeps s0 (State.upTunnelRefuse s a1 a2) := by
  unfold State.upTunnelRefuse
  with_reducible repeat' first | exact h | assumption | apply State.modUsb_keeps | apply State.upRefuse_keeps | split | apply foldl_keeps | intro _ | fail_if_no_progress refine Keeps.same ?_ rfl | fail_if_no_progress extract_lets | apply getD_keeps | apply elim_keeps | dsimp +zetaDelta only

theorem State.upConnect_keeps {s0 s : State} (h : Keeps s0 s) (a1) (a2) : Keeps s0 (State.upConnect s a1 a2) := by
  unfold State.upConnect
  with_reducible repeat' first | exact h | assumption | apply State.modUsb_keeps | apply State.upTake_keeps | apply State.upRefuse_keeps | split | apply foldl_keeps | intro _ | fail_if_no_progress refine Keeps.same ?_ rfl | fail_if_no_progress extract_lets | apply getD_keeps | apply elim_keeps | dsimp +zetaDelta only

theorem execUpstreamConnect_keeps {s0 s : State} (h : Keeps s0 s) (a0) (a1) : ∀ t, execUpstreamConnect a0 a1 s = .next t → Keeps s0 t := by
  intro t ht
  refine Keeps.ofEq ?_ (Host.Outcome.next.inj ht).symm
  with_reducible repeat' first | exact h | assumption | apply State.upConnect_keeps | split | apply foldl_keeps | intro _ | fail_if_no_progress refine Keeps.same ?_ rfl | fail_if_no_progress extract_lets | apply getD_keeps | apply elim_keeps | dsimp +zetaDelta only

theorem State.collide_keeps {s0 s : State} (h : Keeps s0 s) : Keeps s0 (State.collide s) := by
  unfold State.collide
  with_reducible repeat' first | exact h | assumption | apply State.raise_keeps | apply State.wrapAdd_keeps | split | apply foldl_keeps | intro _ | fail_if_no_progress refine Keeps.same ?_ rfl | fail_if_no_progress extract_lets | apply getD_keeps | apply elim_keeps | dsimp +zetaDelta only

theorem execSuspendEntry_keeps {s0 s : State} (h : Keeps s0 s) : ∀ t, execSuspendEntry s = .next t → Keeps s0 t := by
  intro t ht
  refine Keeps.ofEq ?_ (Host.Outcome.next.inj ht).symm
  with_reducible repeat' first | exact h | assumption | apply State.wr_keeps | split | apply foldl_keeps | intro _ | fail_if_no_progress refine Keeps.same ?_ rfl | fail_if_no_progress extract_lets | apply getD_keeps | apply elim_keeps | dsimp +zetaDelta only

theorem State.resumePort_keeps {s0 s : State} (h : Keeps s0 s) (a1) : Keeps s0 (State.resumePort s a1) := by
  unfold State.resumePort
  with_reducible repeat' first | exact h | assumption | apply State.setDriven_keeps | apply State.sendPort2_keeps | apply State.usbWire_keeps | split | apply foldl_keeps | intro _ | fail_if_no_progress refine Keeps.same ?_ rfl | fail_if_no_progress extract_lets | apply getD_keeps | apply elim_keeps | dsimp +zetaDelta only

theorem State.upstreamResume_keeps {s0 s : State} (h : Keeps s0 s) : Keeps s0 (State.upstreamResume s) := by
  unfold State.upstreamResume
  with_reducible repeat' first | exact h | assumption | apply State.collide_keeps | apply State.modUsb_keeps | apply State.wr_keeps | apply State.setDriven_keeps | apply State.each_keeps | apply State.resumePort_keeps | split | apply foldl_keeps | intro _ | fail_if_no_progress refine Keeps.same ?_ rfl | fail_if_no_progress extract_lets | apply getD_keeps | apply elim_keeps | dsimp +zetaDelta only

theorem execUpstreamResume_keeps {s0 s : State} (h : Keeps s0 s) : ∀ t, execUpstreamResume s = .next t → Keeps s0 t := by
  intro t ht
  refine Keeps.ofEq ?_ (Host.Outcome.next.inj ht).symm
  with_reducible repeat' first | exact h | assumption | apply State.upstreamResume_keeps | split | apply foldl_keeps | intro _ | fail_if_no_progress refine Keeps.same ?_ rfl | fail_if_no_progress extract_lets | apply getD_keeps | apply elim_keeps | dsimp +zetaDelta only

theorem State.remoteWake_keeps {s0 s : State} (h : Keeps s0 s) (a1) : Keeps s0 (State.remoteWake s a1) := by
  unfold State.remoteWake
  with_reducible repeat' first | exact h | assumption | apply State.collide_keeps | apply State.modUsb_keeps | apply State.sendPort2_keeps | apply State.usbWire_keeps | apply State.resumePort_keeps | apply State.wr_keeps | split | apply foldl_keeps | intro _ | fail_if_no_progress refine Keeps.same ?_ rfl | fail_if_no_progress extract_lets | apply getD_keeps | apply elim_keeps | dsimp +zetaDelta only

theorem execRemoteWake_keeps {s0 s : State} (h : Keeps s0 s) (a0) : ∀ t, execRemoteWake a0 s = .next t → Keeps s0 t := by
  intro t ht
  refine Keeps.ofEq ?_ (Host.Outcome.next.inj ht).symm
  with_reducible repeat' first | exact h | assumption | apply State.remoteWake_keeps | split | apply foldl_keeps | intro _ | fail_if_no_progress refine Keeps.same ?_ rfl | fail_if_no_progress extract_lets | apply getD_keeps | apply elim_keeps | dsimp +zetaDelta only

theorem State.attachDebounce_keeps {s0 s : State} (h : Keeps s0 s) (a1) (a2) (a3) : Keeps s0 (State.attachDebounce s a1 a2 a3) := by
  unfold State.attachDebounce
  with_reducible repeat' first | exact h | assumption | apply State.wr_keeps | apply State.setChange_keeps | split | apply foldl_keeps | intro _ | fail_if_no_progress refine Keeps.same ?_ rfl | fail_if_no_progress extract_lets | apply getD_keeps | apply elim_keeps | dsimp +zetaDelta only

theorem execUsbAttachDebounce_keeps {s0 s : State} (h : Keeps s0 s) (a0) (a1) (a2) : ∀ t, execUsbAttachDebounce a0 a1 a2 s = .next t → Keeps s0 t := by
  intro t ht
  refine Keeps.ofEq ?_ (Host.Outcome.next.inj ht).symm
  with_reducible repeat' first | exact h | assumption | apply State.attachDebounce_keeps | split | apply foldl_keeps | intro _ | fail_if_no_progress refine Keeps.same ?_ rfl | fail_if_no_progress extract_lets | apply getD_keeps | apply elim_keeps | dsimp +zetaDelta only

theorem execOvercurrent_keeps {s0 s : State} (h : Keeps s0 s) (a0) : ∀ t, execOvercurrent a0 s = .next t → Keeps s0 t := by
  intro t ht
  refine Keeps.ofEq ?_ (Host.Outcome.next.inj ht).symm
  with_reducible repeat' first | exact h | assumption | apply State.portOff_keeps | apply State.wr_keeps | apply State.setChange_keeps | apply State.raise_keeps | split | apply foldl_keeps | intro _ | fail_if_no_progress refine Keeps.same ?_ rfl | fail_if_no_progress extract_lets | apply getD_keeps | apply elim_keeps | dsimp +zetaDelta only

theorem State.driveEnd_keeps {s0 s : State} (h : Keeps s0 s) (a1) : Keeps s0 (State.driveEnd s a1) := by
  unfold State.driveEnd
  with_reducible repeat' first | exact h | assumption | apply State.setDriven_keeps | apply State.wr_keeps | apply State.setChange_keeps | apply State.modUsb_keeps | split | apply foldl_keeps | intro _ | fail_if_no_progress refine Keeps.same ?_ rfl | fail_if_no_progress extract_lets | apply getD_keeps | apply elim_keeps | dsimp +zetaDelta only

theorem execPortResetComplete_keeps {s0 s : State} (h : Keeps s0 s) (a0) : ∀ t, execPortResetComplete a0 s = .next t → Keeps s0 t := by
  intro t ht
  refine Keeps.ofEq ?_ (Host.Outcome.next.inj ht).symm
  with_reducible repeat' first | exact h | assumption | apply State.driveEnd_keeps | split | apply foldl_keeps | intro _ | fail_if_no_progress refine Keeps.same ?_ rfl | fail_if_no_progress extract_lets | apply getD_keeps | apply elim_keeps | dsimp +zetaDelta only

theorem State.dropCache_keeps {s0 s : State} (h : Keeps s0 s) (a1) : Keeps s0 (State.dropCache s a1) := by
  unfold State.dropCache
  with_reducible repeat' first | exact h | assumption | apply State.modTport_keeps | split | apply foldl_keeps | intro _ | fail_if_no_progress refine Keeps.same ?_ rfl | fail_if_no_progress extract_lets | apply getD_keeps | apply elim_keeps | dsimp +zetaDelta only

theorem State.linkWire_keeps {s0 s : State} (h : Keeps s0 s) (a1) (a2) : Keeps s0 (State.linkWire s a1 a2) := by
  unfold State.linkWire
  with_reducible repeat' first | exact h | assumption | apply State.usbWire_keeps | split | apply foldl_keeps | intro _ | fail_if_no_progress refine Keeps.same ?_ rfl | fail_if_no_progress extract_lets | apply getD_keeps | apply elim_keeps | dsimp +zetaDelta only

theorem State.hubRequest_keeps {s0 s : State} (h : Keeps s0 s) (a1) (a2) : Keeps s0 (State.hubRequest s a1 a2) := by
  unfold State.hubRequest
  with_reducible repeat' first | exact h | assumption | apply State.modUsb_keeps | apply State.wr_keeps | apply State.each_keeps | apply State.portOff_keeps | apply State.upwren_keeps | apply State.setDriven_keeps | apply State.dropCache_keeps | apply State.functionReset_keeps | apply State.sendPort2_keeps | apply State.usbWire_keeps | apply State.sendPort3_keeps | apply State.resumePort_keeps | apply State.linkWire_keeps | split | apply foldl_keeps | intro _ | fail_if_no_progress refine Keeps.same ?_ rfl | fail_if_no_progress extract_lets | apply getD_keeps | apply elim_keeps | dsimp +zetaDelta only

theorem execHubClassRequest_keeps {s0 s : State} (h : Keeps s0 s) (a0) (a1) : ∀ t, execHubClassRequest a0 a1 s = .next t → Keeps s0 t := by
  intro t ht
  refine Keeps.ofEq ?_ (Host.Outcome.next.inj ht).symm
  with_reducible repeat' first | exact h | assumption | apply State.hubRequest_keeps | split | apply foldl_keeps | intro _ | fail_if_no_progress refine Keeps.same ?_ rfl | fail_if_no_progress extract_lets | apply getD_keeps | apply elim_keeps | dsimp +zetaDelta only

theorem execHeaderRecord_keeps {s0 s : State} (h : Keeps s0 s) (a0) (a1) : ∀ t, execHeaderRecord a0 a1 s = .next t → Keeps s0 t := by
  intro t ht
  refine Keeps.ofEq ?_ (Host.Outcome.next.inj ht).symm
  with_reducible repeat' first | exact h | assumption | apply State.usbWire_keeps | split | apply foldl_keeps | intro _ | fail_if_no_progress refine Keeps.same ?_ rfl | fail_if_no_progress extract_lets | apply getD_keeps | apply elim_keeps | dsimp +zetaDelta only

theorem execDataRecord_keeps {s0 s : State} (h : Keeps s0 s) (a0) (a1) (a2) : ∀ t, execDataRecord a0 a1 a2 s = .next t → Keeps s0 t := by
  intro t ht
  refine Keeps.ofEq ?_ (Host.Outcome.next.inj ht).symm
  with_reducible repeat' first | exact h | assumption | apply State.usbWire_keeps | split | apply foldl_keeps | intro _ | fail_if_no_progress refine Keeps.same ?_ rfl | fail_if_no_progress extract_lets | apply getD_keeps | apply elim_keeps | dsimp +zetaDelta only

theorem execItpRecord_keeps {s0 s : State} (h : Keeps s0 s) (a0) (a1) (a2) : ∀ t, execItpRecord a0 a1 a2 s = .next t → Keeps s0 t := by
  intro t ht
  refine Keeps.ofEq ?_ (Host.Outcome.next.inj ht).symm
  with_reducible repeat' first | exact h | assumption | apply State.modUsb_keeps | split | apply foldl_keeps | intro _ | fail_if_no_progress refine Keeps.same ?_ rfl | fail_if_no_progress extract_lets | apply getD_keeps | apply elim_keeps | dsimp +zetaDelta only

theorem execItpRelease_keeps {s0 s : State} (h : Keeps s0 s) (a0) : ∀ t, execItpRelease a0 s = .next t → Keeps s0 t := by
  intro t ht
  refine Keeps.ofEq ?_ (Host.Outcome.next.inj ht).symm
  with_reducible repeat' first | exact h | assumption | apply State.modUsb_keeps | apply State.usbWire_keeps | split | apply foldl_keeps | intro _ | fail_if_no_progress refine Keeps.same ?_ rfl | fail_if_no_progress extract_lets | apply getD_keeps | apply elim_keeps | dsimp +zetaDelta only

theorem State.hubDefault_keeps {s0 s : State} (h : Keeps s0 s) : Keeps s0 (State.hubDefault s) := by
  unfold State.hubDefault
  with_reducible repeat' first | exact h | assumption | apply State.wr_keeps | apply State.each_keeps | apply State.portOff_keeps | apply State.modUsb_keeps | split | apply foldl_keeps | intro _ | fail_if_no_progress refine Keeps.same ?_ rfl | fail_if_no_progress extract_lets | apply getD_keeps | apply elim_keeps | dsimp +zetaDelta only

theorem State.usb3Port_keeps {s0 s : State} (h : Keeps s0 s) (a1) (a2) : Keeps s0 (State.usb3Port s a1 a2) := by
  unfold State.usb3Port
  with_reducible repeat' first | exact h | assumption | apply State.modTport_keeps | apply State.portGone_keeps | apply State.wr_keeps | apply State.remoteWake_keeps | apply State.driveEnd_keeps | apply State.upTunnelRefuse_keeps | apply State.upConnect_keeps | apply State.upDisconnect_keeps | apply State.each_keeps | apply State.sendPort3_keeps | apply State.upstreamResume_keeps | split | apply foldl_keeps | intro _ | fail_if_no_progress refine Keeps.same ?_ rfl | fail_if_no_progress extract_lets | apply getD_keeps | apply elim_keeps | dsimp +zetaDelta only

theorem execUsb3PortRecord_keeps {s0 s : State} (h : Keeps s0 s) (a0) (a1) : ∀ t, execUsb3PortRecord a0 a1 s = .next t → Keeps s0 t := by
  intro t ht
  refine Keeps.ofEq ?_ (Host.Outcome.next.inj ht).symm
  with_reducible repeat' first | exact h | assumption | apply State.usb3Port_keeps | split | apply foldl_keeps | intro _ | fail_if_no_progress refine Keeps.same ?_ rfl | fail_if_no_progress extract_lets | apply getD_keeps | apply elim_keeps | dsimp +zetaDelta only

theorem State.usb2Port_keeps {s0 s : State} (h : Keeps s0 s) (a1) (a2) : Keeps s0 (State.usb2Port s a1 a2) := by
  unfold State.usb2Port
  with_reducible repeat' first | exact h | assumption | apply State.modTport_keeps | apply State.portGone_keeps | apply State.driveEnd_keeps | apply State.remoteWake_keeps | apply State.wr_keeps | apply State.upTunnelRefuse_keeps | apply State.upConnect_keeps | apply State.upDisconnect_keeps | apply State.functionReset_keeps | apply State.hubDefault_keeps | apply State.sendPort2_keeps | apply State.upstreamResume_keeps | apply State.usbWire_keeps | split | apply foldl_keeps | intro _ | fail_if_no_progress refine Keeps.same ?_ rfl | fail_if_no_progress extract_lets | apply getD_keeps | apply elim_keeps | dsimp +zetaDelta only

theorem execUsb2PortRecord_keeps {s0 s : State} (h : Keeps s0 s) (a0) (a1) : ∀ t, execUsb2PortRecord a0 a1 s = .next t → Keeps s0 t := by
  intro t ht
  refine Keeps.ofEq ?_ (Host.Outcome.next.inj ht).symm
  with_reducible repeat' first | exact h | assumption | apply State.usb2Port_keeps | split | apply foldl_keeps | intro _ | fail_if_no_progress refine Keeps.same ?_ rfl | fail_if_no_progress extract_lets | apply getD_keeps | apply elim_keeps | dsimp +zetaDelta only

theorem State.proxyAnswer_keeps {s0 s : State} (h : Keeps s0 s) (a1) (a2) (a3) : Keeps s0 (State.proxyAnswer s a1 a2 a3) := by
  unfold State.proxyAnswer
  with_reducible repeat' first | exact h | assumption | apply State.raise_keeps | apply State.usbWire_keeps | split | apply foldl_keeps | intro _ | fail_if_no_progress refine Keeps.same ?_ rfl | fail_if_no_progress extract_lets | apply getD_keeps | apply elim_keeps | dsimp +zetaDelta only

theorem State.hostXfer_keeps {s0 s : State} (h : Keeps s0 s) (a1) (a2) (a3) (a4) (a5) (a6) (a7) (a8) : Keeps s0 (State.hostXfer s a1 a2 a3 a4 a5 a6 a7 a8) := by
  unfold State.hostXfer
  with_reducible repeat' first | exact h | assumption | apply State.present_keeps | apply State.modTport_keeps | apply State.proxyAnswer_keeps | apply State.usbWire_keeps | split | apply foldl_keeps | intro _ | fail_if_no_progress refine Keeps.same ?_ rfl | fail_if_no_progress extract_lets | apply getD_keeps | apply elim_keeps | dsimp +zetaDelta only

theorem execHostToken_keeps {s0 s : State} (h : Keeps s0 s) (a0) (a1) : ∀ t, execHostToken a0 a1 s = .next t → Keeps s0 t := by
  intro t ht
  refine Keeps.ofEq ?_ (Host.Outcome.next.inj ht).symm
  with_reducible repeat' first | exact h | assumption | apply State.hostXfer_keeps | apply State.present_keeps | split | apply foldl_keeps | intro _ | fail_if_no_progress refine Keeps.same ?_ rfl | fail_if_no_progress extract_lets | apply getD_keeps | apply elim_keeps | dsimp +zetaDelta only

theorem execResult_keeps {s0 s : State} (h : Keeps s0 s) (a0) (a1) (a2) (a3) (a4) (a5) (a6) : ∀ t, execResult a0 a1 a2 a3 a4 a5 a6 s = .next t → Keeps s0 t := by
  intro t ht
  refine Keeps.ofEq ?_ (Host.Outcome.next.inj ht).symm
  with_reducible repeat' first | exact h | assumption | apply State.modTport_keeps | split | apply foldl_keeps | intro _ | fail_if_no_progress refine Keeps.same ?_ rfl | fail_if_no_progress extract_lets | apply getD_keeps | apply elim_keeps | dsimp +zetaDelta only

theorem execXfer_keeps {s0 s : State} (h : Keeps s0 s) (a0) (a1) (a2) (a3) (a4) (a5) (a6) (a7) (a8) : ∀ t, execXfer a0 a1 a2 a3 a4 a5 a6 a7 a8 s = .next t → Keeps s0 t := by
  intro t ht
  refine Keeps.ofEq ?_ (Host.Outcome.next.inj ht).symm
  with_reducible repeat' first | exact h | assumption | apply State.modUsb_keeps | apply State.usbWire_keeps | apply State.modTport_keeps | apply State.present_keeps | split | apply foldl_keeps | intro _ | fail_if_no_progress refine Keeps.same ?_ rfl | fail_if_no_progress extract_lets | apply getD_keeps | apply elim_keeps | dsimp +zetaDelta only

theorem State.startMicro_keeps {s0 s : State} (h : Keeps s0 s) (a1) (a2) (a3) : Keeps s0 (State.startMicro s a1 a2 a3) := by
  unfold State.startMicro
  with_reducible repeat' first | exact h | assumption | apply State.usbWire_keeps | apply State.modUsb_keeps | apply State.eachIn_keeps | apply State.each_keeps | apply State.present_keeps | split | apply foldl_keeps | intro _ | fail_if_no_progress refine Keeps.same ?_ rfl | fail_if_no_progress extract_lets | apply getD_keeps | apply elim_keeps | dsimp +zetaDelta only

theorem execSofRecord_keeps {s0 s : State} (h : Keeps s0 s) (a0) (a1) (a2) : ∀ t, execSofRecord a0 a1 a2 s = .next t → Keeps s0 t := by
  intro t ht
  refine Keeps.ofEq ?_ (Host.Outcome.next.inj ht).symm
  with_reducible repeat' first | exact h | assumption | apply State.modUsb_keeps | split | apply foldl_keeps | intro _ | fail_if_no_progress refine Keeps.same ?_ rfl | fail_if_no_progress extract_lets | apply getD_keeps | apply elim_keeps | dsimp +zetaDelta only

theorem execSofRelease_keeps {s0 s : State} (h : Keeps s0 s) : ∀ t, execSofRelease s = .next t → Keeps s0 t := by
  intro t ht
  refine Keeps.ofEq ?_ (Host.Outcome.next.inj ht).symm
  with_reducible repeat' first | exact h | assumption | apply State.modUsb_keeps | apply State.startMicro_keeps | split | apply foldl_keeps | intro _ | fail_if_no_progress refine Keeps.same ?_ rfl | fail_if_no_progress extract_lets | apply getD_keeps | apply elim_keeps | dsimp +zetaDelta only

theorem execSofLate_keeps {s0 s : State} (h : Keeps s0 s) : ∀ t, execSofLate s = .next t → Keeps s0 t := by
  intro t ht
  refine Keeps.ofEq ?_ (Host.Outcome.next.inj ht).symm
  with_reducible repeat' first | exact h | assumption | apply State.startMicro_keeps | apply State.raise_keeps | split | apply foldl_keeps | intro _ | fail_if_no_progress refine Keeps.same ?_ rfl | fail_if_no_progress extract_lets | apply getD_keeps | apply elim_keeps | dsimp +zetaDelta only

theorem execBusReset_keeps {s0 s : State} (h : Keeps s0 s) : ∀ t, execBusReset s = .next t → Keeps s0 t := by
  intro t ht
  refine Keeps.ofEq ?_ (Host.Outcome.next.inj ht).symm
  with_reducible repeat' first | exact h | assumption | apply State.functionReset_keeps | apply State.hubDefault_keeps | split | apply foldl_keeps | intro _ | fail_if_no_progress refine Keeps.same ?_ rfl | fail_if_no_progress extract_lets | apply getD_keeps | apply elim_keeps | dsimp +zetaDelta only

end Sys2Proof.Machine
end

