-- ==== Sys2Proof/Laws/KeptDomain.lean ====
section
/-!
SUPPORT. What every operation of Machine/Domain.lean, Machine/Net.lean, Machine/LinkOps.lean keeps (see Laws/Keeps.lean), one lemma each, in the order in which they call each other.
-/

set_option linter.unreachableTactic false
set_option linter.unusedTactic false
set_option linter.all false

namespace Sys2Proof.Machine

theorem State.modDom_keeps {s0 s : State} (h : Keeps s0 s) (a1) : Keeps s0 (State.modDom s a1) := by
  unfold State.modDom
  with_reducible repeat' first | exact h | assumption | split | apply foldl_keeps | intro _ | fail_if_no_progress refine Keeps.same ?_ rfl | fail_if_no_progress extract_lets | apply getD_keeps | apply elim_keeps | dsimp +zetaDelta only

theorem State.tunnelClosed_keeps {s0 s : State} (h : Keeps s0 s) (a1) : Keeps s0 (State.tunnelClosed s a1) := by
  unfold State.tunnelClosed
  with_reducible repeat' first | exact h | assumption | apply State.bridgeClosed_keeps | apply State.displayClosed_keeps | apply State.usbClosed_keeps | apply State.closeAdapter_keeps | split | apply foldl_keeps | intro _ | fail_if_no_progress refine Keeps.same ?_ rfl | fail_if_no_progress extract_lets | apply getD_keeps | apply elim_keeps | dsimp +zetaDelta only

theorem State.closeToward_keeps {s0 s : State} (h : Keeps s0 s) (a1) : Keeps s0 (State.closeToward s a1) := by
  unfold State.closeToward
  with_reducible repeat' first | exact h | assumption | apply State.eachIn_keeps | apply State.tunnelClosed_keeps | apply State.modDom_keeps | split | apply foldl_keeps | intro _ | fail_if_no_progress refine Keeps.same ?_ rfl | fail_if_no_progress extract_lets | apply getD_keeps | apply elim_keeps | dsimp +zetaDelta only

theorem State.dropRoute_keeps {s0 s : State} (h : Keeps s0 s) (a1) : Keeps s0 (State.dropRoute s a1) := by
  unfold State.dropRoute
  with_reducible repeat' first | exact h | assumption | apply State.wr_keeps | split | apply foldl_keeps | intro _ | fail_if_no_progress refine Keeps.same ?_ rfl | fail_if_no_progress extract_lets | apply getD_keeps | apply elim_keeps | dsimp +zetaDelta only

theorem State.showPositions_keeps {s0 s : State} (h : Keeps s0 s) : Keeps s0 (State.showPositions s) := by
  unfold State.showPositions
  with_reducible repeat' first | exact h | assumption | apply State.wr64_keeps | split | apply foldl_keeps | intro _ | fail_if_no_progress refine Keeps.same ?_ rfl | fail_if_no_progress extract_lets | apply getD_keeps | apply elim_keeps | dsimp +zetaDelta only

theorem State.freePosition_keeps {s0 s : State} (h : Keeps s0 s) (a1) : Keeps s0 (State.freePosition s a1) := by
  unfold State.freePosition
  with_reducible repeat' first | exact h | assumption | apply State.modDom_keeps | apply State.dropRoute_keeps | apply State.showPositions_keeps | split | apply foldl_keeps | intro _ | fail_if_no_progress refine Keeps.same ?_ rfl | fail_if_no_progress extract_lets | apply getD_keeps | apply elim_keeps | dsimp +zetaDelta only

theorem State.hubGone_keeps {s0 s : State} (h : Keeps s0 s) (a1) : Keeps s0 (State.hubGone s a1) := by
  unfold State.hubGone
  with_reducible repeat' first | exact h | assumption | apply State.answer_keeps | apply State.closeToward_keeps | apply State.freePosition_keeps | apply State.dropRoute_keeps | split | apply foldl_keeps | intro _ | fail_if_no_progress refine Keeps.same ?_ rfl | fail_if_no_progress extract_lets | apply getD_keeps | apply elim_keeps | dsimp +zetaDelta only

theorem State.showGm_keeps {s0 s : State} (h : Keeps s0 s) : Keeps s0 (State.showGm s) := by
  unfold State.showGm
  with_reducible repeat' first | exact h | assumption | apply State.wr_keeps | apply State.wr64_keeps | split | apply foldl_keeps | intro _ | fail_if_no_progress refine Keeps.same ?_ rfl | fail_if_no_progress extract_lets | apply getD_keeps | apply elim_keeps | dsimp +zetaDelta only

theorem State.sendAnnounce_keeps {s0 s : State} (h : Keeps s0 s) (a1) : Keeps s0 (State.sendAnnounce s a1) := by
  unfold State.sendAnnounce
  with_reducible repeat' first | exact h | assumption | apply State.neighMsg_keeps | split | apply foldl_keeps | intro _ | fail_if_no_progress refine Keeps.same ?_ rfl | fail_if_no_progress extract_lets | apply getD_keeps | apply elim_keeps | dsimp +zetaDelta only

theorem State.gmChanged_keeps {s0 s : State} (h : Keeps s0 s) (a1) : Keeps s0 (State.gmChanged s a1) := by
  unfold State.gmChanged
  with_reducible repeat' first | exact h | assumption | apply State.showGm_keeps | apply State.each_keeps | apply State.sendAnnounce_keeps | split | apply foldl_keeps | intro _ | fail_if_no_progress refine Keeps.same ?_ rfl | fail_if_no_progress extract_lets | apply getD_keeps | apply elim_keeps | dsimp +zetaDelta only

theorem State.setHeard_keeps {s0 s : State} (h : Keeps s0 s) (a1) (a2) : Keeps s0 (State.setHeard s a1 a2) := by
  unfold State.setHeard
  with_reducible repeat' first | exact h | assumption | apply State.modDom_keeps | apply State.gmChanged_keeps | split | apply foldl_keeps | intro _ | fail_if_no_progress refine Keeps.same ?_ rfl | fail_if_no_progress extract_lets | apply getD_keeps | apply elim_keeps | dsimp +zetaDelta only

theorem State.domainPortLost_keeps {s0 s : State} (h : Keeps s0 s) (a1) : Keeps s0 (State.domainPortLost s a1) := by
  unfold State.domainPortLost
  with_reducible repeat' first | exact h | assumption | apply State.setReg_keeps | apply State.wr_keeps | apply State.modDom_keeps | apply State.eachIn_keeps | apply State.domMsg_keeps | apply State.hubGone_keeps | apply State.setHeard_keeps | split | apply foldl_keeps | intro _ | fail_if_no_progress refine Keeps.same ?_ rfl | fail_if_no_progress extract_lets | apply getD_keeps | apply elim_keeps | dsimp +zetaDelta only

theorem State.takeHost_keeps {s0 s : State} (h : Keeps s0 s) : Keeps s0 (State.takeHost s) := by
  unfold State.takeHost
  with_reducible repeat' first | exact h | assumption | apply State.modDom_keeps | apply State.wr_keeps | split | apply foldl_keeps | intro _ | fail_if_no_progress refine Keeps.same ?_ rfl | fail_if_no_progress extract_lets | apply getD_keeps | apply elim_keeps | dsimp +zetaDelta only

theorem State.sendGossip_keeps {s0 s : State} (h : Keeps s0 s) (a1) : Keeps s0 (State.sendGossip s a1) := by
  unfold State.sendGossip
  with_reducible repeat' first | exact h | assumption | apply State.neighMsg_keeps | split | apply foldl_keeps | intro _ | fail_if_no_progress refine Keeps.same ?_ rfl | fail_if_no_progress extract_lets | apply getD_keeps | apply elim_keeps | dsimp +zetaDelta only

theorem State.showFloor_keeps {s0 s : State} (h : Keeps s0 s) (a1) : Keeps s0 (State.showFloor s a1) := by
  unfold State.showFloor
  with_reducible repeat' first | exact h | assumption | apply State.wr_keeps | apply State.raise_keeps | apply State.each_keeps | apply State.sendGossip_keeps | split | apply foldl_keeps | intro _ | fail_if_no_progress refine Keeps.same ?_ rfl | fail_if_no_progress extract_lets | apply getD_keeps | apply elim_keeps | dsimp +zetaDelta only

theorem State.holdFloor_keeps {s0 s : State} (h : Keeps s0 s) : Keeps s0 (State.holdFloor s) := by
  unfold State.holdFloor
  with_reducible repeat' first | exact h | assumption | apply State.modDom_keeps | apply State.showFloor_keeps | split | apply foldl_keeps | intro _ | fail_if_no_progress refine Keeps.same ?_ rfl | fail_if_no_progress extract_lets | apply getD_keeps | apply elim_keeps | dsimp +zetaDelta only

theorem State.offerFloor_keeps {s0 s : State} (h : Keeps s0 s) (a1) (a2) (a3) : Keeps s0 (State.offerFloor s a1 a2 a3) := by
  unfold State.offerFloor
  with_reducible repeat' first | exact h | assumption | apply State.holdFloor_keeps | apply State.modDom_keeps | apply State.showFloor_keeps | split | apply foldl_keeps | intro _ | fail_if_no_progress refine Keeps.same ?_ rfl | fail_if_no_progress extract_lets | apply getD_keeps | apply elim_keeps | dsimp +zetaDelta only

theorem State.ownFloor_keeps {s0 s : State} (h : Keeps s0 s) : Keeps s0 (State.ownFloor s) := by
  unfold State.ownFloor
  with_reducible repeat' first | exact h | assumption | apply State.offerFloor_keeps | split | apply foldl_keeps | intro _ | fail_if_no_progress refine Keeps.same ?_ rfl | fail_if_no_progress extract_lets | apply getD_keeps | apply elim_keeps | dsimp +zetaDelta only

theorem State.tunnelOpened_keeps {s0 s : State} (h : Keeps s0 s) (a1) : Keeps s0 (State.tunnelOpened s a1) := by
  unfold State.tunnelOpened
  with_reducible repeat' first | exact h | assumption | apply State.openAdapter_keeps | apply State.bridgeOpened_keeps | apply State.displayOpened_keeps | apply State.usbOpened_keeps | split | apply foldl_keeps | intro _ | fail_if_no_progress refine Keeps.same ?_ rfl | fail_if_no_progress extract_lets | apply getD_keeps | apply elim_keeps | dsimp +zetaDelta only

theorem State.sendTunnelOpen_keeps {s0 s : State} (h : Keeps s0 s) (a1) : Keeps s0 (State.sendTunnelOpen s a1) := by
  unfold State.sendTunnelOpen
  with_reducible repeat' first | exact h | assumption | apply State.domMsg_keeps | apply State.modDom_keeps | split | apply foldl_keeps | intro _ | fail_if_no_progress refine Keeps.same ?_ rfl | fail_if_no_progress extract_lets | apply getD_keeps | apply elim_keeps | dsimp +zetaDelta only

theorem State.sendTunnelClose_keeps {s0 s : State} (h : Keeps s0 s) (a1) (a2) : Keeps s0 (State.sendTunnelClose s a1 a2) := by
  unfold State.sendTunnelClose
  with_reducible repeat' first | exact h | assumption | apply State.domMsg_keeps | split | apply foldl_keeps | intro _ | fail_if_no_progress refine Keeps.same ?_ rfl | fail_if_no_progress extract_lets | apply getD_keeps | apply elim_keeps | dsimp +zetaDelta only

theorem State.tunnelOpenMsg_keeps {s0 s : State} (h : Keeps s0 s) (a1) (a2) (a3) (a4) (a5) (a6) : Keeps s0 (State.tunnelOpenMsg s a1 a2 a3 a4 a5 a6) := by
  unfold State.tunnelOpenMsg
  with_reducible repeat' first | exact h | assumption | apply State.tunnelOpened_keeps | apply State.modDom_keeps | apply State.domMsg_keeps | split | apply foldl_keeps | intro _ | fail_if_no_progress refine Keeps.same ?_ rfl | fail_if_no_progress extract_lets | apply getD_keeps | apply elim_keeps | dsimp +zetaDelta only

theorem execTunnelOpen_keeps {s0 s : State} (h : Keeps s0 s) (a0) (a1) (a2) (a3) (a4) (a5) : ∀ t, execTunnelOpen a0 a1 a2 a3 a4 a5 s = .next t → Keeps s0 t := by
  intro t ht
  refine Keeps.ofEq ?_ (Host.Outcome.next.inj ht).symm
  with_reducible repeat' first | exact h | assumption | apply State.tunnelOpenMsg_keeps | split | apply foldl_keeps | intro _ | fail_if_no_progress refine Keeps.same ?_ rfl | fail_if_no_progress extract_lets | apply getD_keeps | apply elim_keeps | dsimp +zetaDelta only

theorem State.tunnelCloseMsg_keeps {s0 s : State} (h : Keeps s0 s) (a1) (a2) : Keeps s0 (State.tunnelCloseMsg s a1 a2) := by
  unfold State.tunnelCloseMsg
  with_reducible repeat' first | exact h | assumption | apply State.eachIn_keeps | apply State.tunnelClosed_keeps | split | apply foldl_keeps | intro _ | fail_if_no_progress refine Keeps.same ?_ rfl | fail_if_no_progress extract_lets | apply getD_keeps | apply elim_keeps | dsimp +zetaDelta only

theorem State.openTunnelsTo_keeps {s0 s : State} (h : Keeps s0 s) (a1) : Keeps s0 (State.openTunnelsTo s a1) := by
  unfold State.openTunnelsTo
  with_reducible repeat' first | exact h | assumption | apply State.eachIn_keeps | apply State.sendTunnelOpen_keeps | split | apply foldl_keeps | intro _ | fail_if_no_progress refine Keeps.same ?_ rfl | fail_if_no_progress extract_lets | apply getD_keeps | apply elim_keeps | dsimp +zetaDelta only

theorem execGmAnnounce_keeps {s0 s : State} (h : Keeps s0 s) (a0) (a1) (a2) (a3) (a4) : ∀ t, execGmAnnounce a0 a1 a2 a3 a4 s = .next t → Keeps s0 t := by
  intro t ht
  refine Keeps.ofEq ?_ (Host.Outcome.next.inj ht).symm
  with_reducible repeat' first | exact h | assumption | apply State.setHeard_keeps | split | apply foldl_keeps | intro _ | fail_if_no_progress refine Keeps.same ?_ rfl | fail_if_no_progress extract_lets | apply getD_keeps | apply elim_keeps | dsimp +zetaDelta only

theorem execGmAnnounceTimer_keeps {s0 s : State} (h : Keeps s0 s) : ∀ t, execGmAnnounceTimer s = .next t → Keeps s0 t := by
  intro t ht
  refine Keeps.ofEq ?_ (Host.Outcome.next.inj ht).symm
  with_reducible repeat' first | exact h | assumption | apply State.each_keeps | apply State.sendAnnounce_keeps | split | apply foldl_keeps | intro _ | fail_if_no_progress refine Keeps.same ?_ rfl | fail_if_no_progress extract_lets | apply getD_keeps | apply elim_keeps | dsimp +zetaDelta only

theorem execGmAnnounceExpire_keeps {s0 s : State} (h : Keeps s0 s) (a0) : ∀ t, execGmAnnounceExpire a0 s = .next t → Keeps s0 t := by
  intro t ht
  refine Keeps.ofEq ?_ (Host.Outcome.next.inj ht).symm
  with_reducible repeat' first | exact h | assumption | apply State.setHeard_keeps | split | apply foldl_keeps | intro _ | fail_if_no_progress refine Keeps.same ?_ rfl | fail_if_no_progress extract_lets | apply getD_keeps | apply elim_keeps | dsimp +zetaDelta only

theorem execFloorGossipTimer_keeps {s0 s : State} (h : Keeps s0 s) : ∀ t, execFloorGossipTimer s = .next t → Keeps s0 t :=
  fun _ ht => Keeps.ofEq (State.each_keeps (State.ownFloor_keeps h) _ _ fun _ _ k => State.sendGossip_keeps k _) (Host.Outcome.next.inj ht).symm

theorem execFloorGossip_keeps {s0 s : State} (h : Keeps s0 s) (a0) (a1) (a2) : ∀ t, execFloorGossip a0 a1 a2 s = .next t → Keeps s0 t := by
  intro t ht
  refine Keeps.ofEq ?_ (Host.Outcome.next.inj ht).symm
  with_reducible repeat' first | exact h | assumption | apply State.offerFloor_keeps | split | apply foldl_keeps | intro _ | fail_if_no_progress refine Keeps.same ?_ rfl | fail_if_no_progress extract_lets | apply getD_keeps | apply elim_keeps | dsimp +zetaDelta only

theorem execFloorRecordLapse_keeps {s0 s : State} (h : Keeps s0 s) : ∀ t, execFloorRecordLapse s = .next t → Keeps s0 t := by
  intro t ht
  refine Keeps.ofEq ?_ (Host.Outcome.next.inj ht).symm
  with_reducible repeat' first | exact h | assumption | apply State.modDom_keeps | apply State.showFloor_keeps | apply State.ownFloor_keeps | split | apply foldl_keeps | intro _ | fail_if_no_progress refine Keeps.same ?_ rfl | fail_if_no_progress extract_lets | apply getD_keeps | apply elim_keeps | dsimp +zetaDelta only

theorem State.yieldRole_keeps {s0 s : State} (h : Keeps s0 s) : Keeps s0 (State.yieldRole s) := by
  unfold State.yieldRole
  with_reducible repeat' first | exact h | assumption | apply State.eachIn_keeps | apply State.domMsg_keeps | apply State.closeToward_keeps | apply State.modDom_keeps | apply State.wr_keeps | apply State.showPositions_keeps | split | apply foldl_keeps | intro _ | fail_if_no_progress refine Keeps.same ?_ rfl | fail_if_no_progress extract_lets | apply getD_keeps | apply elim_keeps | dsimp +zetaDelta only

theorem State.roleSwapReq_keeps {s0 s : State} (h : Keeps s0 s) (a1) (a2) (a3) : Keeps s0 (State.roleSwapReq s a1 a2 a3) := by
  unfold State.roleSwapReq
  with_reducible repeat' first | exact h | assumption | apply State.sendCtl_keeps | apply State.yieldRole_keeps | apply State.takeHost_keeps | split | apply foldl_keeps | intro _ | fail_if_no_progress refine Keeps.same ?_ rfl | fail_if_no_progress extract_lets | apply getD_keeps | apply elim_keeps | dsimp +zetaDelta only

theorem execRoleSwapReq_keeps {s0 s : State} (h : Keeps s0 s) (a0) (a1) (a2) : ∀ t, execRoleSwapReq a0 a1 a2 s = .next t → Keeps s0 t := by
  intro t ht
  refine Keeps.ofEq ?_ (Host.Outcome.next.inj ht).symm
  with_reducible repeat' first | exact h | assumption | apply State.roleSwapReq_keeps | split | apply foldl_keeps | intro _ | fail_if_no_progress refine Keeps.same ?_ rfl | fail_if_no_progress extract_lets | apply getD_keeps | apply elim_keeps | dsimp +zetaDelta only

theorem State.sendRoleSwap_keeps {s0 s : State} (h : Keeps s0 s) (a1) (a2) : Keeps s0 (State.sendRoleSwap s a1 a2) := by
  unfold State.sendRoleSwap
  with_reducible repeat' first | exact h | assumption | apply State.sendCtl_keeps | apply State.modDom_keeps | split | apply foldl_keeps | intro _ | fail_if_no_progress refine Keeps.same ?_ rfl | fail_if_no_progress extract_lets | apply getD_keeps | apply elim_keeps | dsimp +zetaDelta only

theorem State.roleSwapAck_keeps {s0 s : State} (h : Keeps s0 s) (a1) (a2) : Keeps s0 (State.roleSwapAck s a1 a2) := by
  unfold State.roleSwapAck
  with_reducible repeat' first | exact h | assumption | apply State.modDom_keeps | apply State.yieldRole_keeps | split | apply foldl_keeps | intro _ | fail_if_no_progress refine Keeps.same ?_ rfl | fail_if_no_progress extract_lets | apply getD_keeps | apply elim_keeps | dsimp +zetaDelta only

theorem State.shutOut_keeps {s0 s : State} (h : Keeps s0 s) (a1) : Keeps s0 (State.shutOut s a1) := by
  unfold State.shutOut
  with_reducible repeat' first | exact h | assumption | apply State.linkOnly_keeps | apply State.modDom_keeps | split | apply foldl_keeps | intro _ | fail_if_no_progress refine Keeps.same ?_ rfl | fail_if_no_progress extract_lets | apply getD_keeps | apply elim_keeps | dsimp +zetaDelta only

theorem State.refuseHub_keeps {s0 s : State} (h : Keeps s0 s) (a1) : Keeps s0 (State.refuseHub s a1) := by
  unfold State.refuseHub
  with_reducible repeat' first | exact h | assumption | apply State.raise_keeps | apply State.shutOut_keeps | split | apply foldl_keeps | intro _ | fail_if_no_progress refine Keeps.same ?_ rfl | fail_if_no_progress extract_lets | apply getD_keeps | apply elim_keeps | dsimp +zetaDelta only

theorem State.markRedundant_keeps {s0 s : State} (h : Keeps s0 s) (a1) : Keeps s0 (State.markRedundant s a1) := by
  unfold State.markRedundant
  with_reducible repeat' first | exact h | assumption | apply State.raise_keeps | apply State.linkOnly_keeps | apply State.wr_keeps | split | apply foldl_keeps | intro _ | fail_if_no_progress refine Keeps.same ?_ rfl | fail_if_no_progress extract_lets | apply getD_keeps | apply elim_keeps | dsimp +zetaDelta only

theorem State.probeStart_keeps {s0 s : State} (h : Keeps s0 s) (a1) : Keeps s0 (State.probeStart s a1) := by
  unfold State.probeStart
  with_reducible repeat' first | exact h | assumption | apply State.sendRoleSwap_keeps | apply State.refuseHub_keeps | apply State.shutOut_keeps | apply State.linkOpen_keeps | apply State.modDom_keeps | apply State.neighMsg_keeps | split | apply foldl_keeps | intro _ | fail_if_no_progress refine Keeps.same ?_ rfl | fail_if_no_progress extract_lets | apply getD_keeps | apply elim_keeps | dsimp +zetaDelta only

theorem execProbeStart_keeps {s0 s : State} (h : Keeps s0 s) (a0) : ∀ t, execProbeStart a0 s = .next t → Keeps s0 t := by
  intro t ht
  refine Keeps.ofEq ?_ (Host.Outcome.next.inj ht).symm
  with_reducible repeat' first | exact h | assumption | apply State.probeStart_keeps | split | apply foldl_keeps | intro _ | fail_if_no_progress refine Keeps.same ?_ rfl | fail_if_no_progress extract_lets | apply getD_keeps | apply elim_keeps | dsimp +zetaDelta only

theorem State.enumProbe_keeps {s0 s : State} (h : Keeps s0 s) (a1) (a2) : Keeps s0 (State.enumProbe s a1 a2) := by
  unfold State.enumProbe
  with_reducible repeat' first | exact h | assumption | apply State.yieldRole_keeps | apply State.wr_keeps | apply State.modDom_keeps | apply State.neighMsg_keeps | split | apply foldl_keeps | intro _ | fail_if_no_progress refine Keeps.same ?_ rfl | fail_if_no_progress extract_lets | apply getD_keeps | apply elim_keeps | dsimp +zetaDelta only

theorem State.checkTwice_keeps {s0 s : State} (h : Keeps s0 s) (a1) : Keeps s0 (State.checkTwice s a1) := by
  unfold State.checkTwice
  with_reducible repeat' first | exact h | assumption | apply State.raise_keeps | apply State.refuseHub_keeps | apply State.markRedundant_keeps | split | apply foldl_keeps | intro _ | fail_if_no_progress refine Keeps.same ?_ rfl | fail_if_no_progress extract_lets | apply getD_keeps | apply elim_keeps | dsimp +zetaDelta only

theorem State.replySent_keeps {s0 s : State} (h : Keeps s0 s) (a1) : Keeps s0 (State.replySent s a1) := by
  unfold State.replySent
  with_reducible repeat' first | exact h | assumption | apply State.modDom_keeps | apply State.checkTwice_keeps | split | apply foldl_keeps | intro _ | fail_if_no_progress refine Keeps.same ?_ rfl | fail_if_no_progress extract_lets | apply getD_keeps | apply elim_keeps | dsimp +zetaDelta only

theorem execEnumProbe_keeps {s0 s : State} (h : Keeps s0 s) (a0) (a1) : ∀ t, execEnumProbe a0 a1 s = .next t → Keeps s0 t := by
  intro t ht
  refine Keeps.ofEq ?_ (Host.Outcome.next.inj ht).symm
  with_reducible repeat' first | exact h | assumption | apply State.enumProbe_keeps | split | apply foldl_keeps | intro _ | fail_if_no_progress refine Keeps.same ?_ rfl | fail_if_no_progress extract_lets | apply getD_keeps | apply elim_keeps | dsimp +zetaDelta only

theorem State.sendAssign_keeps {s0 s : State} (h : Keeps s0 s) (a1) (a2) (a3) (a4) : Keeps s0 (State.sendAssign s a1 a2 a3 a4) := by
  unfold State.sendAssign
  with_reducible repeat' first | exact h | assumption | apply State.neighMsg_keeps | apply State.wr_keeps | apply State.domMsg_keeps | split | apply foldl_keeps | intro _ | fail_if_no_progress refine Keeps.same ?_ rfl | fail_if_no_progress extract_lets | apply getD_keeps | apply elim_keeps | dsimp +zetaDelta only

theorem State.assignPosition_keeps {s0 s : State} (h : Keeps s0 s) (a1) (a2) (a3) : Keeps s0 (State.assignPosition s a1 a2 a3) := by
  unfold State.assignPosition
  with_reducible repeat' first | exact h | assumption | apply State.sendAssign_keeps | apply State.markRedundant_keeps | apply State.raise_keeps | apply State.modDom_keeps | apply State.showPositions_keeps | apply State.refuseHub_keeps | split | apply foldl_keeps | intro _ | fail_if_no_progress refine Keeps.same ?_ rfl | fail_if_no_progress extract_lets | apply getD_keeps | apply elim_keeps | dsimp +zetaDelta only

theorem State.enumReply_keeps {s0 s : State} (h : Keeps s0 s) (a1) (a2) (a3) (a4) (a5) (a6) (a7) (a8) : Keeps s0 (State.enumReply s a1 a2 a3 a4 a5 a6 a7 a8) := by
  unfold State.enumReply
  with_reducible repeat' first | exact h | assumption | apply State.assignPosition_keeps | apply State.raise_keeps | apply State.refuseHub_keeps | apply State.modDom_keeps | apply State.domMsg_keeps | apply State.checkTwice_keeps | split | apply foldl_keeps | intro _ | fail_if_no_progress refine Keeps.same ?_ rfl | fail_if_no_progress extract_lets | apply getD_keeps | apply elim_keeps | dsimp +zetaDelta only

theorem execEnumReply_keeps {s0 s : State} (h : Keeps s0 s) (a0) (a1) (a2) (a3) (a4) (a5) (a6) (a7) : ∀ t, execEnumReply a0 a1 a2 a3 a4 a5 a6 a7 s = .next t → Keeps s0 t := by
  intro t ht
  refine Keeps.ofEq ?_ (Host.Outcome.next.inj ht).symm
  with_reducible repeat' first | exact h | assumption | apply State.enumReply_keeps | split | apply foldl_keeps | intro _ | fail_if_no_progress refine Keeps.same ?_ rfl | fail_if_no_progress extract_lets | apply getD_keeps | apply elim_keeps | dsimp +zetaDelta only

theorem State.takeAddress_keeps {s0 s : State} (h : Keeps s0 s) (a1) : Keeps s0 (State.takeAddress s a1) := by
  unfold State.takeAddress
  with_reducible repeat' first | exact h | assumption | apply State.wr_keeps | apply State.domMsg_keeps | apply State.eachIn_keeps | apply State.sendTunnelOpen_keeps | apply State.each_keeps | apply State.checkTwice_keeps | split | apply foldl_keeps | intro _ | fail_if_no_progress refine Keeps.same ?_ rfl | fail_if_no_progress extract_lets | apply getD_keeps | apply elim_keeps | dsimp +zetaDelta only

theorem State.peerAddress_keeps {s0 s : State} (h : Keeps s0 s) (a1) (a2) : Keeps s0 (State.peerAddress s a1 a2) := by
  unfold State.peerAddress
  with_reducible repeat' first | exact h | assumption | apply State.wr_keeps | apply State.modDom_keeps | apply State.raise_keeps | apply State.linkOnly_keeps | apply State.linkOpen_keeps | split | apply foldl_keeps | intro _ | fail_if_no_progress refine Keeps.same ?_ rfl | fail_if_no_progress extract_lets | apply getD_keeps | apply elim_keeps | dsimp +zetaDelta only

theorem State.addrAssign_keeps {s0 s : State} (h : Keeps s0 s) (a1) (a2) (a3) (a4) : Keeps s0 (State.addrAssign s a1 a2 a3 a4) := by
  unfold State.addrAssign
  with_reducible repeat' first | exact h | assumption | apply State.takeAddress_keeps | apply State.peerAddress_keeps | apply State.neighMsg_keeps | apply State.wr_keeps | apply State.domMsg_keeps | split | apply foldl_keeps | intro _ | fail_if_no_progress refine Keeps.same ?_ rfl | fail_if_no_progress extract_lets | apply getD_keeps | apply elim_keeps | dsimp +zetaDelta only

theorem execAddrAssign_keeps {s0 s : State} (h : Keeps s0 s) (a0) (a1) (a2) (a3) : ∀ t, execAddrAssign a0 a1 a2 a3 s = .next t → Keeps s0 t := by
  intro t ht
  refine Keeps.ofEq ?_ (Host.Outcome.next.inj ht).symm
  with_reducible repeat' first | exact h | assumption | apply State.addrAssign_keeps | split | apply foldl_keeps | intro _ | fail_if_no_progress refine Keeps.same ?_ rfl | fail_if_no_progress extract_lets | apply getD_keeps | apply elim_keeps | dsimp +zetaDelta only

theorem execPeerAnnounce_keeps {s0 s : State} (h : Keeps s0 s) (a0) : ∀ t, execPeerAnnounce a0 s = .next t → Keeps s0 t := by
  intro t ht
  refine Keeps.ofEq ?_ (Host.Outcome.next.inj ht).symm
  with_reducible repeat' first | exact h | assumption | apply State.neighMsg_keeps | split | apply foldl_keeps | intro _ | fail_if_no_progress refine Keeps.same ?_ rfl | fail_if_no_progress extract_lets | apply getD_keeps | apply elim_keeps | dsimp +zetaDelta only

theorem State.routeSet_keeps {s0 s : State} (h : Keeps s0 s) (a1) (a2) (a3) : Keeps s0 (State.routeSet s a1 a2 a3) := by
  unfold State.routeSet
  with_reducible repeat' first | exact h | assumption | apply State.domMsg_keeps | apply State.eachIn_keeps | apply State.wr_keeps | split | apply foldl_keeps | intro _ | fail_if_no_progress refine Keeps.same ?_ rfl | fail_if_no_progress extract_lets | apply getD_keeps | apply elim_keeps | dsimp +zetaDelta only

theorem execRouteSet_keeps {s0 s : State} (h : Keeps s0 s) (a0) (a1) (a2) : ∀ t, execRouteSet a0 a1 a2 s = .next t → Keeps s0 t := by
  intro t ht
  refine Keeps.ofEq ?_ (Host.Outcome.next.inj ht).symm
  with_reducible repeat' first | exact h | assumption | apply State.routeSet_keeps | split | apply foldl_keeps | intro _ | fail_if_no_progress refine Keeps.same ?_ rfl | fail_if_no_progress extract_lets | apply getD_keeps | apply elim_keeps | dsimp +zetaDelta only

theorem State.sendRoute_keeps {s0 s : State} (h : Keeps s0 s) : Keeps s0 (State.sendRoute s) := by
  unfold State.sendRoute
  with_reducible repeat' first | exact h | assumption | apply State.domMsg_keeps | split | apply foldl_keeps | intro _ | fail_if_no_progress refine Keeps.same ?_ rfl | fail_if_no_progress extract_lets | apply getD_keeps | apply elim_keeps | dsimp +zetaDelta only

theorem State.routeNew_keeps {s0 s : State} (h : Keeps s0 s) (a1) : Keeps s0 (State.routeNew s a1) := by
  unfold State.routeNew
  with_reducible repeat' first | exact h | assumption | apply State.modDom_keeps | apply State.wr_keeps | apply State.openTunnelsTo_keeps | apply State.sendRoute_keeps | split | apply foldl_keeps | intro _ | fail_if_no_progress refine Keeps.same ?_ rfl | fail_if_no_progress extract_lets | apply getD_keeps | apply elim_keeps | dsimp +zetaDelta only

theorem State.routeAck_keeps {s0 s : State} (h : Keeps s0 s) (a1) : Keeps s0 (State.routeAck s a1) := by
  unfold State.routeAck
  with_reducible repeat' first | exact h | assumption | apply State.modDom_keeps | apply State.sendRoute_keeps | apply State.openTunnelsTo_keeps | apply State.routeNew_keeps | split | apply foldl_keeps | intro _ | fail_if_no_progress refine Keeps.same ?_ rfl | fail_if_no_progress extract_lets | apply getD_keeps | apply elim_keeps | dsimp +zetaDelta only

theorem execRouteAck_keeps {s0 s : State} (h : Keeps s0 s) (a0) (a1) (a2) : ∀ t, execRouteAck a0 a1 a2 s = .next t → Keeps s0 t := by
  intro t ht
  refine Keeps.ofEq ?_ (Host.Outcome.next.inj ht).symm
  with_reducible repeat' first | exact h | assumption | apply State.routeAck_keeps | split | apply foldl_keeps | intro _ | fail_if_no_progress refine Keeps.same ?_ rfl | fail_if_no_progress extract_lets | apply getD_keeps | apply elim_keeps | dsimp +zetaDelta only

theorem State.hubGoneMsg_keeps {s0 s : State} (h : Keeps s0 s) (a1) : Keeps s0 (State.hubGoneMsg s a1) := by
  unfold State.hubGoneMsg
  with_reducible repeat' first | exact h | assumption | apply State.eachIn_keeps | apply State.domMsg_keeps | apply State.hubGone_keeps | split | apply foldl_keeps | intro _ | fail_if_no_progress refine Keeps.same ?_ rfl | fail_if_no_progress extract_lets | apply getD_keeps | apply elim_keeps | dsimp +zetaDelta only

theorem State.setPdk_keeps {s0 s : State} (h : Keeps s0 s) (a1) : Keeps s0 (State.setPdk s a1) := by
  unfold State.setPdk
  with_reducible repeat' first | exact h | assumption | apply State.mapSw_keeps | apply State.wr_keeps | split | apply foldl_keeps | intro _ | fail_if_no_progress refine Keeps.same ?_ rfl | fail_if_no_progress extract_lets | apply getD_keeps | apply elim_keeps | dsimp +zetaDelta only

theorem State.pdkRelease_keeps {s0 s : State} (h : Keeps s0 s) (a1) : Keeps s0 (State.pdkRelease s a1) := by
  unfold State.pdkRelease
  with_reducible repeat' first | exact h | assumption | apply State.setPdk_keeps | apply State.pdkEnter_keeps | apply State.mapSw_keeps | apply State.raise_keeps | split | apply foldl_keeps | intro _ | fail_if_no_progress refine Keeps.same ?_ rfl | fail_if_no_progress extract_lets | apply getD_keeps | apply elim_keeps | dsimp +zetaDelta only

theorem State.paddockArrive_keeps {s0 s : State} (h : Keeps s0 s) : Keeps s0 (State.paddockArrive s) := by
  unfold State.paddockArrive
  with_reducible repeat' first | exact h | assumption | apply State.mapSw_keeps | apply State.forgetLocal_keeps | apply State.raise_keeps | apply State.satAdd_keeps | apply State.pdkRelease_keeps | apply State.setPdk_keeps | apply State.release_keeps | split | apply foldl_keeps | intro _ | fail_if_no_progress refine Keeps.same ?_ rfl | fail_if_no_progress extract_lets | apply getD_keeps | apply elim_keeps | dsimp +zetaDelta only

theorem execPaddockArrive_keeps {s0 s : State} (h : Keeps s0 s) : ∀ t, execPaddockArrive s = .next t → Keeps s0 t := by
  intro t ht
  refine Keeps.ofEq ?_ (Host.Outcome.next.inj ht).symm
  with_reducible repeat' first | exact h | assumption | apply State.paddockArrive_keeps | split | apply foldl_keeps | intro _ | fail_if_no_progress refine Keeps.same ?_ rfl | fail_if_no_progress extract_lets | apply getD_keeps | apply elim_keeps | dsimp +zetaDelta only

theorem State.paddockRelease_keeps {s0 s : State} (h : Keeps s0 s) : Keeps s0 (State.paddockRelease s) := by
  unfold State.paddockRelease
  with_reducible repeat' first | exact h | assumption | apply State.release_keeps | apply State.pdkRelease_keeps | split | apply foldl_keeps | intro _ | fail_if_no_progress refine Keeps.same ?_ rfl | fail_if_no_progress extract_lets | apply getD_keeps | apply elim_keeps | dsimp +zetaDelta only

theorem execPaddockRelease_keeps {s0 s : State} (h : Keeps s0 s) : ∀ t, execPaddockRelease s = .next t → Keeps s0 t := by
  intro t ht
  refine Keeps.ofEq ?_ (Host.Outcome.next.inj ht).symm
  with_reducible repeat' first | exact h | assumption | apply State.paddockRelease_keeps | split | apply foldl_keeps | intro _ | fail_if_no_progress refine Keeps.same ?_ rfl | fail_if_no_progress extract_lets | apply getD_keeps | apply elim_keeps | dsimp +zetaDelta only

theorem execEventNotify_keeps {s0 s : State} (h : Keeps s0 s) (a0) (a1) : ∀ t, (execEventNotify a0 a1 s) = .next t → Keeps s0 t := by
  intro t ht
  unfold execEventNotify at ht
  cases ht
  split
  · split
    · exact getD_keeps (State.notifyLost_keeps h) (State.notifyUsb_keeps h _)
    · exact h
  · exact h

theorem execPathProbe_keeps {s0 s : State} (h : Keeps s0 s) (a0) (a1) : ∀ t, execPathProbe a0 a1 s = .next t → Keeps s0 t := by
  intro t ht
  refine Keeps.ofEq ?_ (Host.Outcome.next.inj ht).symm
  with_reducible repeat' first | exact h | assumption | split | apply foldl_keeps | intro _ | fail_if_no_progress refine Keeps.same ?_ rfl | fail_if_no_progress extract_lets | apply getD_keeps | apply elim_keeps | dsimp +zetaDelta only

theorem State.ethDown_keeps {s0 s : State} (h : Keeps s0 s) (a1) : Keeps s0 (State.ethDown s a1) := by
  unfold State.ethDown
  with_reducible repeat' first | exact h | assumption | apply State.wr_keeps | apply State.raise_keeps | split | apply foldl_keeps | intro _ | fail_if_no_progress refine Keeps.same ?_ rfl | fail_if_no_progress extract_lets | apply getD_keeps | apply elim_keeps | dsimp +zetaDelta only

theorem State.macApplied_keeps {s0 s : State} (h : Keeps s0 s) (a1) (a2) : Keeps s0 (State.macApplied s a1 a2) := by
  unfold State.macApplied
  with_reducible repeat' first | exact h | assumption | apply State.ethDown_keeps | apply State.setMac_keeps | split | apply foldl_keeps | intro _ | fail_if_no_progress refine Keeps.same ?_ rfl | fail_if_no_progress extract_lets | apply getD_keeps | apply elim_keeps | dsimp +zetaDelta only

theorem State.setIncEffective_keeps {s0 s : State} (h : Keeps s0 s) (a1) : Keeps s0 (State.setIncEffective s a1) := by
  unfold State.setIncEffective
  with_reducible repeat' first | exact h | assumption | apply State.wr_keeps | split | apply foldl_keeps | intro _ | fail_if_no_progress refine Keeps.same ?_ rfl | fail_if_no_progress extract_lets | apply getD_keeps | apply elim_keeps | dsimp +zetaDelta only

theorem State.applyIncrement_keeps {s0 s : State} (h : Keeps s0 s) (a1) (a2) : Keeps s0 (State.applyIncrement s a1 a2).2 := by
  unfold State.applyIncrement
  with_reducible repeat' first | exact h | assumption | apply State.setIncEffective_keeps | split | apply foldl_keeps | intro _ | fail_if_no_progress refine Keeps.same ?_ rfl | fail_if_no_progress extract_lets | apply getD_keeps | apply elim_keeps | dsimp +zetaDelta only

theorem State.endSlew_keeps {s0 s : State} (h : Keeps s0 s) : Keeps s0 (State.endSlew s) := by
  unfold State.endSlew
  with_reducible repeat' first | exact h | assumption | apply State.applyIncrement_keeps | split | apply foldl_keeps | intro _ | fail_if_no_progress refine Keeps.same ?_ rfl | fail_if_no_progress extract_lets | apply getD_keeps | apply elim_keeps | dsimp +zetaDelta only

theorem State.ppsRise_keeps {s0 s : State} (h : Keeps s0 s) : Keeps s0 (State.ppsRise s) := by
  unfold State.ppsRise
  with_reducible repeat' first | exact h | assumption | apply State.send_keeps | split | apply foldl_keeps | intro _ | fail_if_no_progress refine Keeps.same ?_ rfl | fail_if_no_progress extract_lets | apply getD_keeps | apply elim_keeps | dsimp +zetaDelta only

theorem State.addTicks_keeps {s0 s : State} (h : Keeps s0 s) (n) : Keeps s0 (State.addTicks s n) := by
  unfold State.addTicks
  dsimp only
  have k : ∀ t tm, Keeps s0 { s with time := t, uptime := s.uptime + 64 * n, tm := tm } := fun t tm =>
    h.trans ⟨rfl, id, List.prefix_rfl, Nat.le_add_right _ _, Nat.le_refl _, Nat.le_refl _, Nat.le_refl _⟩
  split
  · exact State.ppsRise_keeps (k _ _)
  · exact k _ _

theorem State.timeTick_keeps {s0 s : State} (h : Keeps s0 s) : Keeps s0 (State.timeTick s) := by
  unfold State.timeTick
  with_reducible repeat' first | exact h | assumption | apply State.addTicks_keeps | apply State.endSlew_keeps | split | apply foldl_keeps | intro _ | fail_if_no_progress refine Keeps.same ?_ rfl | fail_if_no_progress extract_lets | apply getD_keeps | apply elim_keeps | dsimp +zetaDelta only

theorem State.secondsRollover_keeps {s0 s : State} (h : Keeps s0 s) : Keeps s0 (State.secondsRollover s) := by
  unfold State.secondsRollover
  with_reducible repeat' first | exact h | assumption | apply State.addTicks_keeps | apply State.endSlew_keeps | split | apply foldl_keeps | intro _ | fail_if_no_progress refine Keeps.same ?_ rfl | fail_if_no_progress extract_lets | apply getD_keeps | apply elim_keeps | dsimp +zetaDelta only

theorem State.gateOverrun_keeps {s0 s : State} (h : Keeps s0 s) (a1) : Keeps s0 (State.gateOverrun s a1) := by
  unfold State.gateOverrun
  with_reducible repeat' first | exact h | assumption | apply State.raise_keeps | split | apply foldl_keeps | intro _ | fail_if_no_progress refine Keeps.same ?_ rfl | fail_if_no_progress extract_lets | apply getD_keeps | apply elim_keeps | dsimp +zetaDelta only

theorem State.stepTime_keeps {s0 s : State} (h : Keeps s0 s) (a1) : Keeps s0 (State.stepTime s a1) := by
  unfold State.stepTime
  with_reducible repeat' first | exact h | assumption | apply State.endSlew_keeps | apply State.raise_keeps | apply State.gateOverrun_keeps | apply State.ppsRise_keeps | split | apply foldl_keeps | intro _ | fail_if_no_progress refine Keeps.same ?_ rfl | fail_if_no_progress extract_lets | apply getD_keeps | apply elim_keeps | dsimp +zetaDelta only

theorem State.tmCmdStep_keeps {s0 s : State} (h : Keeps s0 s) : Keeps s0 (State.tmCmdStep s) := by
  unfold State.tmCmdStep
  with_reducible repeat' first | exact h | assumption | apply State.stepTime_keeps | split | apply foldl_keeps | intro _ | fail_if_no_progress refine Keeps.same ?_ rfl | fail_if_no_progress extract_lets | apply getD_keeps | apply elim_keeps | dsimp +zetaDelta only

theorem State.sourceLost_keeps {s0 s : State} (h : Keeps s0 s) : Keeps s0 (State.sourceLost s) := by
  unfold State.sourceLost
  with_reducible repeat' first | exact h | assumption | apply State.wr_keeps | apply State.endSlew_keeps | apply State.raise_keeps | apply State.gmChanged_keeps | split | apply foldl_keeps | intro _ | fail_if_no_progress refine Keeps.same ?_ rfl | fail_if_no_progress extract_lets | apply getD_keeps | apply elim_keeps | dsimp +zetaDelta only

theorem State.judgeExternal_keeps {s0 s : State} (h : Keeps s0 s) (a1) : Keeps s0 (State.judgeExternal s a1) := by
  unfold State.judgeExternal
  with_reducible repeat' first | exact h | assumption | apply State.wr_keeps | apply State.onlyIf_keeps | apply State.gmChanged_keeps | apply State.sourceLost_keeps | split | apply foldl_keeps | intro _ | fail_if_no_progress refine Keeps.same ?_ rfl | fail_if_no_progress extract_lets | apply getD_keeps | apply elim_keeps | dsimp +zetaDelta only

theorem State.judgeLink_keeps {s0 s : State} (h : Keeps s0 s) (a1) : Keeps s0 (State.judgeLink s a1) := by
  unfold State.judgeLink
  with_reducible repeat' first | exact h | assumption | apply State.wr_keeps | apply State.gmChanged_keeps | split | apply foldl_keeps | intro _ | fail_if_no_progress refine Keeps.same ?_ rfl | fail_if_no_progress extract_lets | apply getD_keeps | apply elim_keeps | dsimp +zetaDelta only

theorem State.steer_keeps {s0 s : State} (h : Keeps s0 s) (a1) (a2) (a3) : Keeps s0 (State.steer s a1 a2 a3) := by
  unfold State.steer
  with_reducible repeat' first | exact h | assumption | apply State.wr_keeps | apply State.stepTime_keeps | apply State.applyIncrement_keeps | apply State.raise_keeps | split | apply foldl_keeps | intro _ | fail_if_no_progress refine Keeps.same ?_ rfl | fail_if_no_progress extract_lets | apply getD_keeps | apply elim_keeps | dsimp +zetaDelta only

theorem State.servoSample_keeps {s0 s : State} (h : Keeps s0 s) (a1) (a2) (a3) : Keeps s0 (State.servoSample s a1 a2 a3) := by
  unfold State.servoSample
  with_reducible repeat' first | exact h | assumption | apply State.judgeLink_keeps | apply State.steer_keeps | apply State.judgeExternal_keeps | apply State.wr_keeps | split | apply foldl_keeps | intro _ | fail_if_no_progress refine Keeps.same ?_ rfl | fail_if_no_progress extract_lets | apply getD_keeps | apply elim_keeps | dsimp +zetaDelta only

theorem execServoSample_keeps {s0 s : State} (h : Keeps s0 s) (a0) (a1) (a2) : ∀ t, execServoSample a0 a1 a2 s = .next t → Keeps s0 t := by
  intro t ht
  refine Keeps.ofEq ?_ (Host.Outcome.next.inj ht).symm
  with_reducible repeat' first | exact h | assumption | apply State.servoSample_keeps | split | apply foldl_keeps | intro _ | fail_if_no_progress refine Keeps.same ?_ rfl | fail_if_no_progress extract_lets | apply getD_keeps | apply elim_keeps | dsimp +zetaDelta only

theorem execSourceNoSample_keeps {s0 s : State} (h : Keeps s0 s) : ∀ t, execSourceNoSample s = .next t → Keeps s0 t := by
  intro t ht
  refine Keeps.ofEq ?_ (Host.Outcome.next.inj ht).symm
  with_reducible repeat' first | exact h | assumption | apply State.sourceLost_keeps | split | apply foldl_keeps | intro _ | fail_if_no_progress refine Keeps.same ?_ rfl | fail_if_no_progress extract_lets | apply getD_keeps | apply elim_keeps | dsimp +zetaDelta only

theorem execAcquireTimer_keeps {s0 s : State} (h : Keeps s0 s) : ∀ t, execAcquireTimer s = .next t → Keeps s0 t := by
  intro t ht
  refine Keeps.ofEq ?_ (Host.Outcome.next.inj ht).symm
  with_reducible repeat' first | exact h | assumption | apply State.wr_keeps | apply State.gmChanged_keeps | split | apply foldl_keeps | intro _ | fail_if_no_progress refine Keeps.same ?_ rfl | fail_if_no_progress extract_lets | apply getD_keeps | apply elim_keeps | dsimp +zetaDelta only

theorem execSecondsRollover_keeps {s0 s : State} (h : Keeps s0 s) : ∀ t, execSecondsRollover s = .next t → Keeps s0 t := by
  intro t ht
  refine Keeps.ofEq ?_ (Host.Outcome.next.inj ht).symm
  with_reducible repeat' first | exact h | assumption | apply State.secondsRollover_keeps | split | apply foldl_keeps | intro _ | fail_if_no_progress refine Keeps.same ?_ rfl | fail_if_no_progress extract_lets | apply getD_keeps | apply elim_keeps | dsimp +zetaDelta only

theorem State.ppsInEdge_keeps {s0 s : State} (h : Keeps s0 s) (a1) : Keeps s0 (State.ppsInEdge s a1) := by
  unfold State.ppsInEdge
  with_reducible repeat' first | exact h | assumption | apply State.wr_keeps | apply State.servoSample_keeps | split | apply foldl_keeps | intro _ | fail_if_no_progress refine Keeps.same ?_ rfl | fail_if_no_progress extract_lets | apply getD_keeps | apply elim_keeps | dsimp +zetaDelta only

theorem execPpsInEdge_keeps {s0 s : State} (h : Keeps s0 s) (a0) : ∀ t, execPpsInEdge a0 s = .next t → Keeps s0 t := by
  intro t ht
  refine Keeps.ofEq ?_ (Host.Outcome.next.inj ht).symm
  with_reducible repeat' first | exact h | assumption | apply State.ppsInEdge_keeps | split | apply foldl_keeps | intro _ | fail_if_no_progress refine Keeps.same ?_ rfl | fail_if_no_progress extract_lets | apply getD_keeps | apply elim_keeps | dsimp +zetaDelta only

theorem execPpsMiss_keeps {s0 s : State} (h : Keeps s0 s) : ∀ t, execPpsMiss s = .next t → Keeps s0 t := by
  intro t ht
  refine Keeps.ofEq ?_ (Host.Outcome.next.inj ht).symm
  with_reducible repeat' first | exact h | assumption | apply State.raise_keeps | split | apply foldl_keeps | intro _ | fail_if_no_progress refine Keeps.same ?_ rfl | fail_if_no_progress extract_lets | apply getD_keeps | apply elim_keeps | dsimp +zetaDelta only

theorem execPpsPulseEnd_keeps {s0 s : State} (h : Keeps s0 s) : ∀ t, execPpsPulseEnd s = .next t → Keeps s0 t := by
  intro t ht
  refine Keeps.ofEq ?_ (Host.Outcome.next.inj ht).symm
  with_reducible repeat' first | exact h | assumption | apply State.send_keeps | split | apply foldl_keeps | intro _ | fail_if_no_progress refine Keeps.same ?_ rfl | fail_if_no_progress extract_lets | apply getD_keeps | apply elim_keeps | dsimp +zetaDelta only

theorem State.tmLatch_keeps {s0 s : State} (h : Keeps s0 s) : Keeps s0 (State.tmLatch s) := by
  unfold State.tmLatch
  with_reducible repeat' first | exact h | assumption | apply State.wr_keeps | split | apply foldl_keeps | intro _ | fail_if_no_progress refine Keeps.same ?_ rfl | fail_if_no_progress extract_lets | apply getD_keeps | apply elim_keeps | dsimp +zetaDelta only

theorem State.txStamp_keeps {s0 s : State} (h : Keeps s0 s) (a1) (a2) (a3) : Keeps s0 (State.txStamp s a1 a2 a3) := by
  unfold State.txStamp
  with_reducible repeat' first | exact h | assumption | apply State.satAdd_keeps | apply State.raise_keeps | apply State.modMac_keeps | split | apply foldl_keeps | intro _ | fail_if_no_progress refine Keeps.same ?_ rfl | fail_if_no_progress extract_lets | apply getD_keeps | apply elim_keeps | dsimp +zetaDelta only

theorem State.txHead_keeps {s0 s : State} (h : Keeps s0 s) (a1) : Keeps s0 (State.txHead s a1).2 := by
  unfold State.txHead
  with_reducible repeat' first | exact h | assumption | apply State.modMac_keeps | apply State.wr_keeps | split | apply foldl_keeps | intro _ | fail_if_no_progress refine Keeps.same ?_ rfl | fail_if_no_progress extract_lets | apply getD_keeps | apply elim_keeps | dsimp +zetaDelta only

theorem State.gptpMsg_keeps {s0 s : State} (h : Keeps s0 s) (a1) (a2) (a3) (a4) : Keeps s0 (State.gptpMsg s a1 a2 a3 a4) := by
  unfold State.gptpMsg
  with_reducible repeat' first | exact h | assumption | apply State.send_keeps | split | apply foldl_keeps | intro _ | fail_if_no_progress refine Keeps.same ?_ rfl | fail_if_no_progress extract_lets | apply getD_keeps | apply elim_keeps | dsimp +zetaDelta only

theorem State.gptpSend_keeps {s0 s : State} (h : Keeps s0 s) (a1) (a2) (a3) : Keeps s0 (State.gptpSend s a1 a2 a3) := by
  unfold State.gptpSend
  with_reducible repeat' first | exact h | assumption | apply State.gptpMsg_keeps | apply State.txStamp_keeps | apply State.txHead_keeps | split | apply foldl_keeps | intro _ | fail_if_no_progress refine Keeps.same ?_ rfl | fail_if_no_progress extract_lets | apply getD_keeps | apply elim_keeps | dsimp +zetaDelta only

theorem State.gptpReceive_keeps {s0 s : State} (h : Keeps s0 s) (a1) (a2) : Keeps s0 (State.gptpReceive s a1 a2) := by
  unfold State.gptpReceive
  with_reducible repeat' first | exact h | assumption | apply State.gptpSend_keeps | split | apply foldl_keeps | intro _ | fail_if_no_progress refine Keeps.same ?_ rfl | fail_if_no_progress extract_lets | apply getD_keeps | apply elim_keeps | dsimp +zetaDelta only

theorem execGptpSyncTimer_keeps {s0 s : State} (h : Keeps s0 s) (a0) : ∀ t, execGptpSyncTimer a0 s = .next t → Keeps s0 t := by
  intro t ht
  refine Keeps.ofEq ?_ (Host.Outcome.next.inj ht).symm
  with_reducible repeat' first | exact h | assumption | apply State.gptpSend_keeps | apply State.modMac_keeps | split | apply foldl_keeps | intro _ | fail_if_no_progress refine Keeps.same ?_ rfl | fail_if_no_progress extract_lets | apply getD_keeps | apply elim_keeps | dsimp +zetaDelta only

theorem execPdelayTimer_keeps {s0 s : State} (h : Keeps s0 s) (a0) : ∀ t, execPdelayTimer a0 s = .next t → Keeps s0 t := by
  intro t ht
  refine Keeps.ofEq ?_ (Host.Outcome.next.inj ht).symm
  with_reducible repeat' first | exact h | assumption | apply State.gptpSend_keeps | apply State.modMac_keeps | split | apply foldl_keeps | intro _ | fail_if_no_progress refine Keeps.same ?_ rfl | fail_if_no_progress extract_lets | apply getD_keeps | apply elim_keeps | dsimp +zetaDelta only

theorem State.frameReceive_keeps {s0 s : State} (h : Keeps s0 s) (a1) (a2) (a3) (a4) : Keeps s0 (State.frameReceive s a1 a2 a3 a4) := by
  unfold State.frameReceive
  with_reducible repeat' first | exact h | assumption | apply State.raise_keeps | apply State.wrapAdd_keeps | apply State.gptpReceive_keeps | apply State.satAdd_keeps | apply State.accept_keeps | apply State.flowControl_keeps | split | apply foldl_keeps | intro _ | fail_if_no_progress refine Keeps.same ?_ rfl | fail_if_no_progress extract_lets | apply getD_keeps | apply elim_keeps | dsimp +zetaDelta only

theorem execFrameReceive_keeps {s0 s : State} (h : Keeps s0 s) (a0) (a1) (a2) (a3) : ∀ t, execFrameReceive a0 a1 a2 a3 s = .next t → Keeps s0 t := by
  intro t ht
  refine Keeps.ofEq ?_ (Host.Outcome.next.inj ht).symm
  with_reducible repeat' first | exact h | assumption | apply State.frameReceive_keeps | split | apply foldl_keeps | intro _ | fail_if_no_progress refine Keeps.same ?_ rfl | fail_if_no_progress extract_lets | apply getD_keeps | apply elim_keeps | dsimp +zetaDelta only

theorem execPfcRepeat_keeps {s0 s : State} (h : Keeps s0 s) (a0) (a1) : ∀ t, execPfcRepeat a0 a1 s = .next t → Keeps s0 t := by
  intro t ht
  refine Keeps.ofEq ?_ (Host.Outcome.next.inj ht).symm
  with_reducible repeat' first | exact h | assumption | apply State.sendPause_keeps | split | apply foldl_keeps | intro _ | fail_if_no_progress refine Keeps.same ?_ rfl | fail_if_no_progress extract_lets | apply getD_keeps | apply elim_keeps | dsimp +zetaDelta only

theorem State.setPause_keeps {s0 s : State} (h : Keeps s0 s) (a1) (a2) (a3) : Keeps s0 (State.setPause s a1 a2 a3) := by
  unfold State.setPause
  with_reducible repeat' first | exact h | assumption | apply State.modMac_keeps | split | apply foldl_keeps | intro _ | fail_if_no_progress refine Keeps.same ?_ rfl | fail_if_no_progress extract_lets | apply getD_keeps | apply elim_keeps | dsimp +zetaDelta only

theorem State.pfcFrame_keeps {s0 s : State} (h : Keeps s0 s) (a1) (a2) (a3) (a4) : Keeps s0 (State.pfcFrame s a1 a2 a3 a4) := by
  unfold State.pfcFrame
  with_reducible repeat' first | exact h | assumption | apply State.wrapAdd_keeps | apply State.each_keeps | apply State.setPause_keeps | split | apply foldl_keeps | intro _ | fail_if_no_progress refine Keeps.same ?_ rfl | fail_if_no_progress extract_lets | apply getD_keeps | apply elim_keeps | dsimp +zetaDelta only

theorem execPfcFrame_keeps {s0 s : State} (h : Keeps s0 s) (a0) (a1) (a2) (a3) : ∀ t, execPfcFrame a0 a1 a2 a3 s = .next t → Keeps s0 t := by
  intro t ht
  refine Keeps.ofEq ?_ (Host.Outcome.next.inj ht).symm
  with_reducible repeat' first | exact h | assumption | apply State.pfcFrame_keeps | split | apply foldl_keeps | intro _ | fail_if_no_progress refine Keeps.same ?_ rfl | fail_if_no_progress extract_lets | apply getD_keeps | apply elim_keeps | dsimp +zetaDelta only

theorem execPauseExpire_keeps {s0 s : State} (h : Keeps s0 s) (a0) (a1) : ∀ t, execPauseExpire a0 a1 s = .next t → Keeps s0 t := by
  intro t ht
  refine Keeps.ofEq ?_ (Host.Outcome.next.inj ht).symm
  with_reducible repeat' first | exact h | assumption | apply State.setPause_keeps | split | apply foldl_keeps | intro _ | fail_if_no_progress refine Keeps.same ?_ rfl | fail_if_no_progress extract_lets | apply getD_keeps | apply elim_keeps | dsimp +zetaDelta only

theorem State.frameTransmit_keeps {s0 s : State} (h : Keeps s0 s) (a1) : Keeps s0 (State.frameTransmit s a1) := by
  unfold State.frameTransmit
  with_reducible repeat' first | exact h | assumption | apply State.macCredits_keeps | apply State.modMac_keeps | apply State.credit_keeps | apply State.send_keeps | apply State.wrapAdd_keeps | apply State.txStamp_keeps | split | apply foldl_keeps | intro _ | fail_if_no_progress refine Keeps.same ?_ rfl | fail_if_no_progress extract_lets | apply getD_keeps | apply elim_keeps | dsimp +zetaDelta only

theorem execFrameTransmit_keeps {s0 s : State} (h : Keeps s0 s) (a0) : ∀ t, execFrameTransmit a0 s = .next t → Keeps s0 t := by
  intro t ht
  refine Keeps.ofEq ?_ (Host.Outcome.next.inj ht).symm
  with_reducible repeat' first | exact h | assumption | apply State.frameTransmit_keeps | split | apply foldl_keeps | intro _ | fail_if_no_progress refine Keeps.same ?_ rfl | fail_if_no_progress extract_lets | apply getD_keeps | apply elim_keeps | dsimp +zetaDelta only

theorem State.ethLinkChange_keeps {s0 s : State} (h : Keeps s0 s) (a1) (a2) (a3) : Keeps s0 (State.ethLinkChange s a1 a2 a3) := by
  unfold State.ethLinkChange
  with_reducible repeat' first | exact h | assumption | apply State.ethDown_keeps | apply State.raise_keeps | apply State.wr_keeps | split | apply foldl_keeps | intro _ | fail_if_no_progress refine Keeps.same ?_ rfl | fail_if_no_progress extract_lets | apply getD_keeps | apply elim_keeps | dsimp +zetaDelta only

theorem execEthLinkChange_keeps {s0 s : State} (h : Keeps s0 s) (a0) (a1) (a2) : ∀ t, execEthLinkChange a0 a1 a2 s = .next t → Keeps s0 t := by
  intro t ht
  refine Keeps.ofEq ?_ (Host.Outcome.next.inj ht).symm
  with_reducible repeat' first | exact h | assumption | apply State.ethLinkChange_keeps | split | apply foldl_keeps | intro _ | fail_if_no_progress refine Keeps.same ?_ rfl | fail_if_no_progress extract_lets | apply getD_keeps | apply elim_keeps | dsimp +zetaDelta only

theorem State.holdAct_keeps {s0 s : State} (h : Keeps s0 s) (a1) (a2) : Keeps s0 (State.holdAct s a1 a2) := by
  unfold State.holdAct
  with_reducible repeat' first | exact h | assumption | apply State.modLink_keeps | split | apply foldl_keeps | intro _ | fail_if_no_progress refine Keeps.same ?_ rfl | fail_if_no_progress extract_lets | apply getD_keeps | apply elim_keeps | dsimp +zetaDelta only

theorem State.storeRx_keeps {s0 s : State} (h : Keeps s0 s) (a1) : Keeps s0 (State.storeRx s a1) := by
  unfold State.storeRx
  with_reducible repeat' first | exact h | assumption | apply State.fresh_keeps | apply State.setReg_keeps | split | apply foldl_keeps | intro _ | fail_if_no_progress refine Keeps.same ?_ rfl | fail_if_no_progress extract_lets | apply getD_keeps | apply elim_keeps | dsimp +zetaDelta only

theorem State.laneOff_keeps {s0 s : State} (h : Keeps s0 s) (a1) : Keeps s0 (State.laneOff s a1) := by
  unfold State.laneOff
  with_reducible repeat' first | exact h | assumption | apply State.storeRx_keeps | apply State.laneSend_keeps | apply State.setReg_keeps | apply State.setLane_keeps | split | apply foldl_keeps | intro _ | fail_if_no_progress refine Keeps.same ?_ rfl | fail_if_no_progress extract_lets | apply getD_keeps | apply elim_keeps | dsimp +zetaDelta only

theorem State.abortScan_keeps {s0 s : State} (h : Keeps s0 s) (a1) : Keeps s0 (State.abortScan s a1) := by
  unfold State.abortScan
  with_reducible repeat' first | exact h | assumption | apply State.wr_keeps | apply State.raise_keeps | apply State.finish_keeps | split | apply foldl_keeps | intro _ | fail_if_no_progress refine Keeps.same ?_ rfl | fail_if_no_progress extract_lets | apply getD_keeps | apply elim_keeps | dsimp +zetaDelta only

theorem State.cutPacket_keeps {s0 s : State} (h : Keeps s0 s) (a1) (a2) (a3) : Keeps s0 (State.cutPacket s a1 a2 a3) := by
  unfold State.cutPacket
  with_reducible repeat' first | exact h | assumption | apply State.setArrivals_keeps | apply State.setStored_keeps | split | apply foldl_keeps | intro _ | fail_if_no_progress refine Keeps.same ?_ rfl | fail_if_no_progress extract_lets | apply getD_keeps | apply elim_keeps | dsimp +zetaDelta only

theorem State.closeAllRx_keeps {s0 s : State} (h : Keeps s0 s) (a1) : Keeps s0 (State.closeAllRx s a1) := by
  unfold State.closeAllRx
  with_reducible repeat' first | exact h | assumption | apply State.eachIn_keeps | apply State.cutPacket_keeps | apply State.modLink_keeps | split | apply foldl_keeps | intro _ | fail_if_no_progress refine Keeps.same ?_ rfl | fail_if_no_progress extract_lets | apply getD_keeps | apply elim_keeps | dsimp +zetaDelta only

theorem State.linkDown_keeps {s0 s : State} (h : Keeps s0 s) (a1) : Keeps s0 (State.linkDown s a1) := by
  unfold State.linkDown
  with_reducible repeat' first | exact h | assumption | apply State.eachIn_keeps | apply State.abortScan_keeps | apply State.closeAllRx_keeps | apply State.flush_keeps | apply State.laneOff_keeps | apply State.wr_keeps | apply State.each_keeps | apply State.setReg_keeps | apply State.modSched_keeps | apply State.setLink_keeps | apply State.domainPortLost_keeps | split | apply foldl_keeps | intro _ | fail_if_no_progress refine Keeps.same ?_ rfl | fail_if_no_progress extract_lets | apply getD_keeps | apply elim_keeps | dsimp +zetaDelta only

theorem State.loadSets_keeps {s0 s : State} (h : Keeps s0 s) (a1) : Keeps s0 (State.loadSets s a1) := by
  unfold State.loadSets
  with_reducible repeat' first | exact h | assumption | apply State.laneSend_keeps | split | apply foldl_keeps | intro _ | fail_if_no_progress refine Keeps.same ?_ rfl | fail_if_no_progress extract_lets | apply getD_keeps | apply elim_keeps | dsimp +zetaDelta only

theorem State.unstripe_keeps {s0 s : State} (h : Keeps s0 s) (a1) : Keeps s0 (State.unstripe s a1) := by
  unfold State.unstripe
  with_reducible repeat' first | exact h | assumption | apply State.eachIn_keeps | apply State.wr_keeps | apply State.finishBlocks_keeps | apply State.modLane_keeps | split | apply foldl_keeps | intro _ | fail_if_no_progress refine Keeps.same ?_ rfl | fail_if_no_progress extract_lets | apply getD_keeps | apply elim_keeps | dsimp +zetaDelta only

theorem State.stripe_keeps {s0 s : State} (h : Keeps s0 s) (a1) (a2) : Keeps s0 (State.stripe s a1 a2) := by
  unfold State.stripe
  with_reducible repeat' first | exact h | assumption | apply State.wr_keeps | apply State.eachIn_keeps | split | apply foldl_keeps | intro _ | fail_if_no_progress refine Keeps.same ?_ rfl | fail_if_no_progress extract_lets | apply getD_keeps | apply elim_keeps | dsimp +zetaDelta only

theorem State.startTraining_keeps {s0 s : State} (h : Keeps s0 s) (a1) : Keeps s0 (State.startTraining s a1) := by
  unfold State.startTraining
  with_reducible repeat' first | exact h | assumption | apply State.wr_keeps | apply State.modLink_keeps | apply State.eachIn_keeps | apply State.setReg_keeps | split | apply foldl_keeps | intro _ | fail_if_no_progress refine Keeps.same ?_ rfl | fail_if_no_progress extract_lets | apply getD_keeps | apply elim_keeps | dsimp +zetaDelta only

theorem State.portReset_keeps {s0 s : State} (h : Keeps s0 s) (a1) : Keeps s0 (State.portReset s a1) := by
  unfold State.portReset
  with_reducible repeat' first | exact h | assumption | apply State.sendCtl_keeps | apply State.linkDown_keeps | apply State.modLink_keeps | apply State.startTraining_keeps | split | apply foldl_keeps | intro _ | fail_if_no_progress refine Keeps.same ?_ rfl | fail_if_no_progress extract_lets | apply getD_keeps | apply elim_keeps | dsimp +zetaDelta only

theorem State.refuseAct_keeps {s0 s : State} (h : Keeps s0 s) (a1) (a2) (a3) : Keeps s0 (State.refuseAct s a1 a2 a3) := by
  unfold State.refuseAct
  with_reducible repeat' first | exact h | assumption | apply State.sendCtl_keeps | apply State.raise_keeps | split | apply foldl_keeps | intro _ | fail_if_no_progress refine Keeps.same ?_ rfl | fail_if_no_progress extract_lets | apply getD_keeps | apply elim_keeps | dsimp +zetaDelta only

theorem State.nextAct_keeps {s0 s : State} (h : Keeps s0 s) (a1) (a2) : Keeps s0 (State.nextAct s a1 a2) := by
  induction a2 generalizing s a1 with
  | nil =>
    unfold State.nextAct
    with_reducible repeat' first | exact h | assumption | apply State.modLink_keeps | apply State.refuseAct_keeps | split | apply foldl_keeps | intro _ | fail_if_no_progress refine Keeps.same ?_ rfl | fail_if_no_progress extract_lets | apply getD_keeps | apply elim_keeps | dsimp +zetaDelta only
  | cons x l ih =>
    unfold State.nextAct
    with_reducible repeat' first | apply ih | exact h | assumption | apply State.modLink_keeps | apply State.refuseAct_keeps | split | apply foldl_keeps | intro _ | fail_if_no_progress refine Keeps.same ?_ rfl | fail_if_no_progress extract_lets | apply getD_keeps | apply elim_keeps | dsimp +zetaDelta only

theorem State.endAct_keeps {s0 s : State} (h : Keeps s0 s) (a1) : Keeps s0 (State.endAct s a1) := by
  unfold State.endAct
  with_reducible repeat' first | exact h | assumption | apply State.nextAct_keeps | split | apply foldl_keeps | intro _ | fail_if_no_progress refine Keeps.same ?_ rfl | fail_if_no_progress extract_lets | apply getD_keeps | apply elim_keeps | dsimp +zetaDelta only

end Sys2Proof.Machine
end

