-- ==== Sys2Proof/Laws/KeptPower.lean ====
section
/-!
SUPPORT. What every operation of Machine/Efuse.lean, Machine/Pd.lean, Machine/Channel.lean keeps (see Laws/Keeps.lean), one lemma each, in the order in which they call each other.
-/

set_option linter.unreachableTactic false
set_option linter.unusedTactic false
set_option linter.all false

namespace Sys2Proof.Machine

theorem State.setPg_keeps {s0 s : State} (h : Keeps s0 s) (a1) (a2) : Keeps s0 (State.setPg s a1 a2) := by
  unfold State.setPg
  with_reducible repeat' first | exact h | assumption | apply State.wr_keeps | apply State.send_keeps | split | apply foldl_keeps | intro _ | fail_if_no_progress refine Keeps.same ?_ rfl | fail_if_no_progress extract_lets | apply getD_keeps | apply elim_keeps | dsimp +zetaDelta only

theorem State.gateOff_keeps {s0 s : State} (h : Keeps s0 s) (a1) : Keeps s0 (State.gateOff s a1) := by
  unfold State.gateOff
  with_reducible repeat' first | exact h | assumption | apply State.send_keeps | apply State.setPg_keeps | apply State.wr_keeps | split | apply foldl_keeps | intro _ | fail_if_no_progress refine Keeps.same ?_ rfl | fail_if_no_progress extract_lets | apply getD_keeps | apply elim_keeps | dsimp +zetaDelta only

theorem State.showInput_keeps {s0 s : State} (h : Keeps s0 s) (a1) : Keeps s0 (State.showInput s a1) := by
  unfold State.showInput
  with_reducible repeat' first | exact h | assumption | apply State.wr_keeps | split | apply foldl_keeps | intro _ | fail_if_no_progress refine Keeps.same ?_ rfl | fail_if_no_progress extract_lets | apply getD_keeps | apply elim_keeps | dsimp +zetaDelta only

theorem State.setEf_keeps {s0 s : State} (h : Keeps s0 s) (a1) (a2) : Keeps s0 (State.setEf s a1 a2) := by
  unfold State.setEf
  with_reducible repeat' first | exact h | assumption | apply State.wr_keeps | apply State.showInput_keeps | split | apply foldl_keeps | intro _ | fail_if_no_progress refine Keeps.same ?_ rfl | fail_if_no_progress extract_lets | apply getD_keeps | apply elim_keeps | dsimp +zetaDelta only

theorem State.openChannel_keeps {s0 s : State} (h : Keeps s0 s) (a1) : Keeps s0 (State.openChannel s a1) := by
  unfold State.openChannel
  with_reducible repeat' first | exact h | assumption | apply State.gateOff_keeps | apply State.setEf_keeps | split | apply foldl_keeps | intro _ | fail_if_no_progress refine Keeps.same ?_ rfl | fail_if_no_progress extract_lets | apply getD_keeps | apply elim_keeps | dsimp +zetaDelta only

theorem State.modEf_keeps {s0 s : State} (h : Keeps s0 s) (a1) (a2) : Keeps s0 (State.modEf s a1 a2) := by
  unfold State.modEf
  with_reducible repeat' first | exact h | assumption | split | apply foldl_keeps | intro _ | fail_if_no_progress refine Keeps.same ?_ rfl | fail_if_no_progress extract_lets | apply getD_keeps | apply elim_keeps | dsimp +zetaDelta only

theorem State.tripChannel_keeps {s0 s : State} (h : Keeps s0 s) (a1) : Keeps s0 (State.tripChannel s a1) := by
  unfold State.tripChannel
  with_reducible repeat' first | exact h | assumption | apply State.gateOff_keeps | apply State.satAdd_keeps | apply State.modEf_keeps | apply State.setEf_keeps | apply State.raise_keeps | split | apply foldl_keeps | intro _ | fail_if_no_progress refine Keeps.same ?_ rfl | fail_if_no_progress extract_lets | apply getD_keeps | apply elim_keeps | dsimp +zetaDelta only

theorem State.setOrient_keeps {s0 s : State} (h : Keeps s0 s) (a1) (a2) : Keeps s0 (State.setOrient s a1 a2) := by
  unfold State.setOrient
  with_reducible repeat' first | exact h | assumption | apply State.wr_keeps | apply State.modEf_keeps | split | apply foldl_keeps | intro _ | fail_if_no_progress refine Keeps.same ?_ rfl | fail_if_no_progress extract_lets | apply getD_keeps | apply elim_keeps | dsimp +zetaDelta only

theorem State.closeChannel_keeps {s0 s : State} (h : Keeps s0 s) (a1) (a2) : Keeps s0 (State.closeChannel s a1 a2) := by
  unfold State.closeChannel
  with_reducible repeat' first | exact h | assumption | apply State.setOrient_keeps | apply State.setEf_keeps | apply State.send_keeps | split | apply foldl_keeps | intro _ | fail_if_no_progress refine Keeps.same ?_ rfl | fail_if_no_progress extract_lets | apply getD_keeps | apply elim_keeps | dsimp +zetaDelta only

theorem State.modPd_keeps {s0 s : State} (h : Keeps s0 s) (a1) (a2) : Keeps s0 (State.modPd s a1 a2) := by
  unfold State.modPd
  with_reducible repeat' first | exact h | assumption | split | apply foldl_keeps | intro _ | fail_if_no_progress refine Keeps.same ?_ rfl | fail_if_no_progress extract_lets | apply getD_keeps | apply elim_keeps | dsimp +zetaDelta only

theorem State.endContract_keeps {s0 s : State} (h : Keeps s0 s) (a1) : Keeps s0 (State.endContract s a1) := by
  unfold State.endContract
  with_reducible repeat' first | exact h | assumption | apply State.wr_keeps | apply State.setReg_keeps | apply State.modPd_keeps | split | apply foldl_keeps | intro _ | fail_if_no_progress refine Keeps.same ?_ rfl | fail_if_no_progress extract_lets | apply getD_keeps | apply elim_keeps | dsimp +zetaDelta only

theorem State.leaveMode_keeps {s0 s : State} (h : Keeps s0 s) (a1) : Keeps s0 (State.leaveMode s a1) := by
  unfold State.leaveMode
  with_reducible repeat' first | exact h | assumption | apply State.linkDown_keeps | apply State.wr_keeps | apply State.modPd_keeps | split | apply foldl_keeps | intro _ | fail_if_no_progress refine Keeps.same ?_ rfl | fail_if_no_progress extract_lets | apply getD_keeps | apply elim_keeps | dsimp +zetaDelta only

theorem State.stopReg_keeps {s0 s : State} (h : Keeps s0 s) (a1) : Keeps s0 (State.stopReg s a1) := by
  unfold State.stopReg
  with_reducible repeat' first | exact h | assumption | apply State.modPd_keeps | apply State.send_keeps | split | apply foldl_keeps | intro _ | fail_if_no_progress refine Keeps.same ?_ rfl | fail_if_no_progress extract_lets | apply getD_keeps | apply elim_keeps | dsimp +zetaDelta only

theorem State.setVconn_keeps {s0 s : State} (h : Keeps s0 s) (a1) (a2) : Keeps s0 (State.setVconn s a1 a2) := by
  unfold State.setVconn
  with_reducible repeat' first | exact h | assumption | apply State.wr_keeps | apply State.send_keeps | split | apply foldl_keeps | intro _ | fail_if_no_progress refine Keeps.same ?_ rfl | fail_if_no_progress extract_lets | apply getD_keeps | apply elim_keeps | dsimp +zetaDelta only

theorem State.pdAnswer_keeps {s0 s : State} (h : Keeps s0 s) (a1) (a2) (a3) : Keeps s0 (State.pdAnswer s a1 a2 a3) := by
  unfold State.pdAnswer
  with_reducible repeat' first | exact h | assumption | apply State.finish_keeps | split | apply foldl_keeps | intro _ | fail_if_no_progress refine Keeps.same ?_ rfl | fail_if_no_progress extract_lets | apply getD_keeps | apply elim_keeps | dsimp +zetaDelta only

theorem State.c0Check_keeps {s0 s : State} (h : Keeps s0 s) (a1) : Keeps s0 (State.c0Check s a1) := by
  unfold State.c0Check
  with_reducible repeat' first | exact h | assumption | apply State.upDisconnect_keeps | split | apply foldl_keeps | intro _ | fail_if_no_progress refine Keeps.same ?_ rfl | fail_if_no_progress extract_lets | apply getD_keeps | apply elim_keeps | dsimp +zetaDelta only

theorem State.portEmpty_keeps {s0 s : State} (h : Keeps s0 s) (a1) : Keeps s0 (State.portEmpty s a1) := by
  unfold State.portEmpty
  with_reducible repeat' first | exact h | assumption | apply State.endContract_keeps | apply State.leaveMode_keeps | apply State.openChannel_keeps | apply State.stopReg_keeps | apply State.setVconn_keeps | apply State.wr_keeps | apply State.setReg_keeps | apply State.pdAnswer_keeps | apply State.c0Check_keeps | split | apply foldl_keeps | intro _ | fail_if_no_progress refine Keeps.same ?_ rfl | fail_if_no_progress extract_lets | apply getD_keeps | apply elim_keeps | dsimp +zetaDelta only

theorem State.discharge_keeps {s0 s : State} (h : Keeps s0 s) (a1) (a2) : Keeps s0 (State.discharge s a1 a2) := by
  unfold State.discharge
  with_reducible repeat' first | exact h | assumption | apply State.send_keeps | split | apply foldl_keeps | intro _ | fail_if_no_progress refine Keeps.same ?_ rfl | fail_if_no_progress extract_lets | apply getD_keeps | apply elim_keeps | dsimp +zetaDelta only

theorem State.setPstate_keeps {s0 s : State} (h : Keeps s0 s) (a1) (a2) : Keeps s0 (State.setPstate s a1 a2) := by
  unfold State.setPstate
  with_reducible repeat' first | exact h | assumption | apply State.wr_keeps | split | apply foldl_keeps | intro _ | fail_if_no_progress refine Keeps.same ?_ rfl | fail_if_no_progress extract_lets | apply getD_keeps | apply elim_keeps | dsimp +zetaDelta only

theorem State.disablePort_keeps {s0 s : State} (h : Keeps s0 s) (a1) : Keeps s0 (State.disablePort s a1) := by
  unfold State.disablePort
  with_reducible repeat' first | exact h | assumption | apply State.portEmpty_keeps | apply State.discharge_keeps | apply State.setPstate_keeps | split | apply foldl_keeps | intro _ | fail_if_no_progress refine Keeps.same ?_ rfl | fail_if_no_progress extract_lets | apply getD_keeps | apply elim_keeps | dsimp +zetaDelta only

theorem State.budgetPass1_keeps {s0 s : State} (h : Keeps s0 s) (a0) (a1) : Keeps s0 (State.budgetPass1 a0 a1 s).2.2 := by
  induction a0 generalizing s a1 with
  | nil =>
    unfold State.budgetPass1
    with_reducible repeat' first | exact h | assumption | apply State.raise_keeps | split | apply foldl_keeps | intro _ | fail_if_no_progress refine Keeps.same ?_ rfl | fail_if_no_progress extract_lets | apply getD_keeps | apply elim_keeps | dsimp +zetaDelta only
  | cons x l ih =>
    unfold State.budgetPass1
    with_reducible repeat' first | apply ih | exact h | assumption | apply State.raise_keeps | split | apply foldl_keeps | intro _ | fail_if_no_progress refine Keeps.same ?_ rfl | fail_if_no_progress extract_lets | apply getD_keeps | apply elim_keeps | dsimp +zetaDelta only

theorem State.pdSend_keeps {s0 s : State} (h : Keeps s0 s) (a1) (a2) (a3) : Keeps s0 (State.pdSend s a1 a2 a3) := by
  unfold State.pdSend
  with_reducible repeat' first | exact h | assumption | apply State.send_keeps | split | apply foldl_keeps | intro _ | fail_if_no_progress refine Keeps.same ?_ rfl | fail_if_no_progress extract_lets | apply getD_keeps | apply elim_keeps | dsimp +zetaDelta only

theorem State.sendCaps_keeps {s0 s : State} (h : Keeps s0 s) (a1) : Keeps s0 (State.sendCaps s a1) := by
  unfold State.sendCaps
  with_reducible repeat' first | exact h | assumption | apply State.modPd_keeps | apply State.pdSend_keeps | split | apply foldl_keeps | intro _ | fail_if_no_progress refine Keeps.same ?_ rfl | fail_if_no_progress extract_lets | apply getD_keeps | apply elim_keeps | dsimp +zetaDelta only

theorem State.allocate_keeps {s0 s : State} (h : Keeps s0 s) (a1) (a2) : Keeps s0 (State.allocate s a1 a2) := by
  unfold State.allocate
  with_reducible repeat' first | exact h | assumption | apply State.wr_keeps | apply State.modPd_keeps | apply State.raise_keeps | apply State.pdSend_keeps | apply State.sendCaps_keeps | split | apply foldl_keeps | intro _ | fail_if_no_progress refine Keeps.same ?_ rfl | fail_if_no_progress extract_lets | apply getD_keeps | apply elim_keeps | dsimp +zetaDelta only

theorem State.budget_keeps {s0 s : State} (h : Keeps s0 s) : Keeps s0 (State.budget s) := by
  unfold State.budget
  with_reducible repeat' first | exact h | assumption | apply State.wr_keeps | apply State.eachIn_keeps | apply State.disablePort_keeps | apply State.raise_keeps | apply State.each_keeps | apply State.setPstate_keeps | apply State.budgetPass1_keeps | apply State.allocate_keeps | split | apply foldl_keeps | intro _ | fail_if_no_progress refine Keeps.same ?_ rfl | fail_if_no_progress extract_lets | apply getD_keeps | apply elim_keeps | dsimp +zetaDelta only

theorem State.pdTrip_keeps {s0 s : State} (h : Keeps s0 s) (a1) : Keeps s0 (State.pdTrip s a1) := by
  unfold State.pdTrip
  with_reducible repeat' first | exact h | assumption | apply State.raise_keeps | apply State.portEmpty_keeps | apply State.discharge_keeps | apply State.setPstate_keeps | apply State.budget_keeps | split | apply foldl_keeps | intro _ | fail_if_no_progress refine Keeps.same ?_ rfl | fail_if_no_progress extract_lets | apply getD_keeps | apply elim_keeps | dsimp +zetaDelta only

theorem State.regulate_keeps {s0 s : State} (h : Keeps s0 s) (a1) (a2) (a3) : Keeps s0 (State.regulate s a1 a2 a3) := by
  unfold State.regulate
  with_reducible repeat' first | exact h | assumption | apply State.modPd_keeps | apply State.send_keeps | split | apply foldl_keeps | intro _ | fail_if_no_progress refine Keeps.same ?_ rfl | fail_if_no_progress extract_lets | apply getD_keeps | apply elim_keeps | dsimp +zetaDelta only

theorem State.modeMissing_keeps {s0 s : State} (h : Keeps s0 s) (a1) : Keeps s0 (State.modeMissing s a1) := by
  unfold State.modeMissing
  with_reducible repeat' first | exact h | assumption | apply State.raise_keeps | apply State.wr_keeps | split | apply foldl_keeps | intro _ | fail_if_no_progress refine Keeps.same ?_ rfl | fail_if_no_progress extract_lets | apply getD_keeps | apply elim_keeps | dsimp +zetaDelta only

theorem State.trainGiveUp_keeps {s0 s : State} (h : Keeps s0 s) (a1) : Keeps s0 (State.trainGiveUp s a1) := by
  unfold State.trainGiveUp
  with_reducible repeat' first | exact h | assumption | apply State.sendCtl_keeps | apply State.linkDown_keeps | apply State.wr_keeps | apply State.raise_keeps | apply State.pdSend_keeps | apply State.modPd_keeps | split | apply foldl_keeps | intro _ | fail_if_no_progress refine Keeps.same ?_ rfl | fail_if_no_progress extract_lets | apply getD_keeps | apply elim_keeps | dsimp +zetaDelta only

theorem State.askSwap_keeps {s0 s : State} (h : Keeps s0 s) (a1) (a2) : Keeps s0 (State.askSwap s a1 a2) := by
  unfold State.askSwap
  with_reducible repeat' first | exact h | assumption | apply State.modPd_keeps | apply State.pdSend_keeps | split | apply foldl_keeps | intro _ | fail_if_no_progress refine Keeps.same ?_ rfl | fail_if_no_progress extract_lets | apply getD_keeps | apply elim_keeps | dsimp +zetaDelta only

theorem State.pdAttach_keeps {s0 s : State} (h : Keeps s0 s) (a1) (a2) (a3) (a4) : Keeps s0 (State.pdAttach s a1 a2 a3 a4) := by
  unfold State.pdAttach
  with_reducible repeat' first | exact h | assumption | apply State.wr_keeps | apply State.setPstate_keeps | apply State.setVconn_keeps | apply State.regulate_keeps | apply State.closeChannel_keeps | apply State.budget_keeps | split | apply foldl_keeps | intro _ | fail_if_no_progress refine Keeps.same ?_ rfl | fail_if_no_progress extract_lets | apply getD_keeps | apply elim_keeps | dsimp +zetaDelta only

theorem State.pullMid_keeps {s0 s : State} (h : Keeps s0 s) (a1) (a2) (a3) : Keeps s0 (State.pullMid s a1 a2 a3) := by
  unfold State.pullMid
  with_reducible repeat' first | exact h | assumption | apply State.wr_keeps | apply State.setReg_keeps | apply State.raiseWith_keeps | split | apply foldl_keeps | intro _ | fail_if_no_progress refine Keeps.same ?_ rfl | fail_if_no_progress extract_lets | apply getD_keeps | apply elim_keeps | dsimp +zetaDelta only

theorem State.pdDetach_keeps {s0 s : State} (h : Keeps s0 s) (a1) : Keeps s0 (State.pdDetach s a1) := by
  unfold State.pdDetach
  with_reducible repeat' first | exact h | assumption | apply State.pullMid_keeps | apply State.portEmpty_keeps | apply State.setPstate_keeps | apply State.wr_keeps | apply State.discharge_keeps | apply State.budget_keeps | split | apply foldl_keeps | intro _ | fail_if_no_progress refine Keeps.same ?_ rfl | fail_if_no_progress extract_lets | apply getD_keeps | apply elim_keeps | dsimp +zetaDelta only

theorem execSourceCapTimer_keeps {s0 s : State} (h : Keeps s0 s) (a0) : ∀ t, execSourceCapTimer a0 s = .next t → Keeps s0 t := by
  intro t ht
  refine Keeps.ofEq ?_ (Host.Outcome.next.inj ht).symm
  with_reducible repeat' first | exact h | assumption | apply State.modPd_keeps | apply State.sendCaps_keeps | apply State.setPstate_keeps | apply State.modeMissing_keeps | split | apply foldl_keeps | intro _ | fail_if_no_progress refine Keeps.same ?_ rfl | fail_if_no_progress extract_lets | apply getD_keeps | apply elim_keeps | dsimp +zetaDelta only

theorem State.hardReset_keeps {s0 s : State} (h : Keeps s0 s) (a1) : Keeps s0 (State.hardReset s a1) := by
  unfold State.hardReset
  with_reducible repeat' first | exact h | assumption | apply State.raise_keeps | apply State.endContract_keeps | apply State.leaveMode_keeps | apply State.finish_keeps | apply State.modPd_keeps | apply State.openChannel_keeps | apply State.stopReg_keeps | apply State.discharge_keeps | apply State.setPstate_keeps | apply State.pdAnswer_keeps | split | apply foldl_keeps | intro _ | fail_if_no_progress refine Keeps.same ?_ rfl | fail_if_no_progress extract_lets | apply getD_keeps | apply elim_keeps | dsimp +zetaDelta only

theorem State.sendHardReset_keeps {s0 s : State} (h : Keeps s0 s) (a1) : Keeps s0 (State.sendHardReset s a1) := by
  unfold State.sendHardReset
  with_reducible repeat' first | exact h | assumption | apply State.pdSend_keeps | apply State.hardReset_keeps | split | apply foldl_keeps | intro _ | fail_if_no_progress refine Keeps.same ?_ rfl | fail_if_no_progress extract_lets | apply getD_keeps | apply elim_keeps | dsimp +zetaDelta only

theorem execHardReset_keeps {s0 s : State} (h : Keeps s0 s) (a0) : ∀ t, execHardReset a0 s = .next t → Keeps s0 t := by
  intro t ht
  refine Keeps.ofEq ?_ (Host.Outcome.next.inj ht).symm
  with_reducible repeat' first | exact h | assumption | apply State.hardReset_keeps | apply State.c0Check_keeps | split | apply foldl_keeps | intro _ | fail_if_no_progress refine Keeps.same ?_ rfl | fail_if_no_progress extract_lets | apply getD_keeps | apply elim_keeps | dsimp +zetaDelta only

theorem execSourceRecover_keeps {s0 s : State} (h : Keeps s0 s) (a0) : ∀ t, execSourceRecover a0 s = .next t → Keeps s0 t := by
  intro t ht
  refine Keeps.ofEq ?_ (Host.Outcome.next.inj ht).symm
  with_reducible repeat' first | exact h | assumption | apply State.discharge_keeps | apply State.regulate_keeps | apply State.closeChannel_keeps | apply State.setPstate_keeps | apply State.pdAnswer_keeps | apply State.budget_keeps | split | apply foldl_keeps | intro _ | fail_if_no_progress refine Keeps.same ?_ rfl | fail_if_no_progress extract_lets | apply getD_keeps | apply elim_keeps | dsimp +zetaDelta only

theorem execVbusRangeFault_keeps {s0 s : State} (h : Keeps s0 s) (a0) : ∀ t, execVbusRangeFault a0 s = .next t → Keeps s0 t := by
  intro t ht
  refine Keeps.ofEq ?_ (Host.Outcome.next.inj ht).symm
  with_reducible repeat' first | exact h | assumption | apply State.raise_keeps | apply State.sendHardReset_keeps | split | apply foldl_keeps | intro _ | fail_if_no_progress refine Keeps.same ?_ rfl | fail_if_no_progress extract_lets | apply getD_keeps | apply elim_keeps | dsimp +zetaDelta only

theorem execVconnOc_keeps {s0 s : State} (h : Keeps s0 s) (a0) : ∀ t, execVconnOc a0 s = .next t → Keeps s0 t := by
  intro t ht
  refine Keeps.ofEq ?_ (Host.Outcome.next.inj ht).symm
  with_reducible repeat' first | exact h | assumption | apply State.setVconn_keeps | apply State.modPd_keeps | apply State.raise_keeps | split | apply foldl_keeps | intro _ | fail_if_no_progress refine Keeps.same ?_ rfl | fail_if_no_progress extract_lets | apply getD_keeps | apply elim_keeps | dsimp +zetaDelta only

theorem State.startDiscovery_keeps {s0 s : State} (h : Keeps s0 s) (a1) : Keeps s0 (State.startDiscovery s a1) := by
  unfold State.startDiscovery
  with_reducible repeat' first | exact h | assumption | apply State.modPd_keeps | apply State.pdSend_keeps | split | apply foldl_keeps | intro _ | fail_if_no_progress refine Keeps.same ?_ rfl | fail_if_no_progress extract_lets | apply getD_keeps | apply elim_keeps | dsimp +zetaDelta only

theorem State.vdmDone_keeps {s0 s : State} (h : Keeps s0 s) (a1) : Keeps s0 (State.vdmDone s a1) := by
  unfold State.vdmDone
  with_reducible repeat' first | exact h | assumption | apply State.modPd_keeps | split | apply foldl_keeps | intro _ | fail_if_no_progress refine Keeps.same ?_ rfl | fail_if_no_progress extract_lets | apply getD_keeps | apply elim_keeps | dsimp +zetaDelta only

theorem State.discoverIdentity_keeps {s0 s : State} (h : Keeps s0 s) (a1) (a2) (a3) (a4) (a5) (a6) : Keeps s0 (State.discoverIdentity s a1 a2 a3 a4 a5 a6) := by
  unfold State.discoverIdentity
  with_reducible repeat' first | exact h | assumption | apply State.setReg_keeps | apply State.modPd_keeps | apply State.pdSend_keeps | split | apply foldl_keeps | intro _ | fail_if_no_progress refine Keeps.same ?_ rfl | fail_if_no_progress extract_lets | apply getD_keeps | apply elim_keeps | dsimp +zetaDelta only

theorem execDiscoverIdentity_keeps {s0 s : State} (h : Keeps s0 s) (a0) (a1) (a2) (a3) (a4) (a5) : ∀ t, execDiscoverIdentity a0 a1 a2 a3 a4 a5 s = .next t → Keeps s0 t := by
  intro t ht
  refine Keeps.ofEq ?_ (Host.Outcome.next.inj ht).symm
  with_reducible repeat' first | exact h | assumption | apply State.discoverIdentity_keeps | split | apply foldl_keeps | intro _ | fail_if_no_progress refine Keeps.same ?_ rfl | fail_if_no_progress extract_lets | apply getD_keeps | apply elim_keeps | dsimp +zetaDelta only

theorem State.discoverSvids_keeps {s0 s : State} (h : Keeps s0 s) (a1) (a2) (a3) : Keeps s0 (State.discoverSvids s a1 a2 a3) := by
  unfold State.discoverSvids
  with_reducible repeat' first | exact h | assumption | apply State.pdSend_keeps | apply State.vdmDone_keeps | apply State.modeMissing_keeps | split | apply foldl_keeps | intro _ | fail_if_no_progress refine Keeps.same ?_ rfl | fail_if_no_progress extract_lets | apply getD_keeps | apply elim_keeps | dsimp +zetaDelta only

theorem execDiscoverSvids_keeps {s0 s : State} (h : Keeps s0 s) (a0) (a1) (a2) : ∀ t, execDiscoverSvids a0 a1 a2 s = .next t → Keeps s0 t := by
  intro t ht
  refine Keeps.ofEq ?_ (Host.Outcome.next.inj ht).symm
  with_reducible repeat' first | exact h | assumption | apply State.discoverSvids_keeps | split | apply foldl_keeps | intro _ | fail_if_no_progress refine Keeps.same ?_ rfl | fail_if_no_progress extract_lets | apply getD_keeps | apply elim_keeps | dsimp +zetaDelta only

theorem State.discoverModes_keeps {s0 s : State} (h : Keeps s0 s) (a1) (a2) (a3) (a4) : Keeps s0 (State.discoverModes s a1 a2 a3 a4) := by
  unfold State.discoverModes
  with_reducible repeat' first | exact h | assumption | apply State.pdSend_keeps | apply State.setReg_keeps | apply State.modPd_keeps | apply State.vdmDone_keeps | apply State.modeMissing_keeps | split | apply foldl_keeps | intro _ | fail_if_no_progress refine Keeps.same ?_ rfl | fail_if_no_progress extract_lets | apply getD_keeps | apply elim_keeps | dsimp +zetaDelta only

theorem execDiscoverModes_keeps {s0 s : State} (h : Keeps s0 s) (a0) (a1) (a2) (a3) : ∀ t, execDiscoverModes a0 a1 a2 a3 s = .next t → Keeps s0 t := by
  intro t ht
  refine Keeps.ofEq ?_ (Host.Outcome.next.inj ht).symm
  with_reducible repeat' first | exact h | assumption | apply State.discoverModes_keeps | split | apply foldl_keeps | intro _ | fail_if_no_progress refine Keeps.same ?_ rfl | fail_if_no_progress extract_lets | apply getD_keeps | apply elim_keeps | dsimp +zetaDelta only

theorem State.enterThrum_keeps {s0 s : State} (h : Keeps s0 s) (a1) : Keeps s0 (State.enterThrum s a1) := by
  unfold State.enterThrum
  with_reducible repeat' first | exact h | assumption | apply State.wr_keeps | apply State.vdmDone_keeps | apply State.modLink_keeps | apply State.startTraining_keeps | apply State.c0Check_keeps | split | apply foldl_keeps | intro _ | fail_if_no_progress refine Keeps.same ?_ rfl | fail_if_no_progress extract_lets | apply getD_keeps | apply elim_keeps | dsimp +zetaDelta only

theorem State.enterMode_keeps {s0 s : State} (h : Keeps s0 s) (a1) (a2) (a3) : Keeps s0 (State.enterMode s a1 a2 a3) := by
  unfold State.enterMode
  with_reducible repeat' first | exact h | assumption | apply State.enterThrum_keeps | apply State.vdmDone_keeps | apply State.modeMissing_keeps | apply State.setReg_keeps | apply State.pdSend_keeps | apply State.wr_keeps | split | apply foldl_keeps | intro _ | fail_if_no_progress refine Keeps.same ?_ rfl | fail_if_no_progress extract_lets | apply getD_keeps | apply elim_keeps | dsimp +zetaDelta only

theorem execEnterMode_keeps {s0 s : State} (h : Keeps s0 s) (a0) (a1) (a2) : ∀ t, execEnterMode a0 a1 a2 s = .next t → Keeps s0 t := by
  intro t ht
  refine Keeps.ofEq ?_ (Host.Outcome.next.inj ht).symm
  with_reducible repeat' first | exact h | assumption | apply State.enterMode_keeps | split | apply foldl_keeps | intro _ | fail_if_no_progress refine Keeps.same ?_ rfl | fail_if_no_progress extract_lets | apply getD_keeps | apply elim_keeps | dsimp +zetaDelta only

theorem State.exitMode_keeps {s0 s : State} (h : Keeps s0 s) (a1) (a2) : Keeps s0 (State.exitMode s a1 a2) := by
  unfold State.exitMode
  with_reducible repeat' first | exact h | assumption | apply State.vdmDone_keeps | apply State.pdAnswer_keeps | apply State.pdSend_keeps | apply State.leaveMode_keeps | apply State.modLink_keeps | split | apply foldl_keeps | intro _ | fail_if_no_progress refine Keeps.same ?_ rfl | fail_if_no_progress extract_lets | apply getD_keeps | apply elim_keeps | dsimp +zetaDelta only

theorem execExitMode_keeps {s0 s : State} (h : Keeps s0 s) (a0) (a1) : ∀ t, execExitMode a0 a1 s = .next t → Keeps s0 t := by
  intro t ht
  refine Keeps.ofEq ?_ (Host.Outcome.next.inj ht).symm
  with_reducible repeat' first | exact h | assumption | apply State.exitMode_keeps | split | apply foldl_keeps | intro _ | fail_if_no_progress refine Keeps.same ?_ rfl | fail_if_no_progress extract_lets | apply getD_keeps | apply elim_keeps | dsimp +zetaDelta only

theorem execModeExitWait_keeps {s0 s : State} (h : Keeps s0 s) (a0) : ∀ t, execModeExitWait a0 s = .next t → Keeps s0 t := by
  intro t ht
  refine Keeps.ofEq ?_ (Host.Outcome.next.inj ht).symm
  with_reducible repeat' first | exact h | assumption | apply State.startTraining_keeps | split | apply foldl_keeps | intro _ | fail_if_no_progress refine Keeps.same ?_ rfl | fail_if_no_progress extract_lets | apply getD_keeps | apply elim_keeps | dsimp +zetaDelta only

theorem State.attention_keeps {s0 s : State} (h : Keeps s0 s) (a1) : Keeps s0 (State.attention s a1) := by
  unfold State.attention
  with_reducible repeat' first | exact h | assumption | apply State.pdSend_keeps | split | apply foldl_keeps | intro _ | fail_if_no_progress refine Keeps.same ?_ rfl | fail_if_no_progress extract_lets | apply getD_keeps | apply elim_keeps | dsimp +zetaDelta only

theorem execAttention_keeps {s0 s : State} (h : Keeps s0 s) (a0) : ∀ t, execAttention a0 s = .next t → Keeps s0 t := by
  intro t ht
  refine Keeps.ofEq ?_ (Host.Outcome.next.inj ht).symm
  with_reducible repeat' first | exact h | assumption | apply State.attention_keeps | split | apply foldl_keeps | intro _ | fail_if_no_progress refine Keeps.same ?_ rfl | fail_if_no_progress extract_lets | apply getD_keeps | apply elim_keeps | dsimp +zetaDelta only

theorem State.dpConfigure_keeps {s0 s : State} (h : Keeps s0 s) (a1) (a2) : Keeps s0 (State.dpConfigure s a1 a2) := by
  unfold State.dpConfigure
  with_reducible repeat' first | exact h | assumption | apply State.modPd_keeps | apply State.pdSend_keeps | apply State.wr_keeps | apply State.attention_keeps | split | apply foldl_keeps | intro _ | fail_if_no_progress refine Keeps.same ?_ rfl | fail_if_no_progress extract_lets | apply getD_keeps | apply elim_keeps | dsimp +zetaDelta only

theorem execConfigure_keeps {s0 s : State} (h : Keeps s0 s) (a0) (a1) : ∀ t, execConfigure a0 a1 s = .next t → Keeps s0 t := by
  intro t ht
  refine Keeps.ofEq ?_ (Host.Outcome.next.inj ht).symm
  with_reducible repeat' first | exact h | assumption | apply State.dpConfigure_keeps | split | apply foldl_keeps | intro _ | fail_if_no_progress refine Keeps.same ?_ rfl | fail_if_no_progress extract_lets | apply getD_keeps | apply elim_keeps | dsimp +zetaDelta only

theorem State.contractMade_keeps {s0 s : State} (h : Keeps s0 s) (a1) (a2) (a3) (a4) (a5) : Keeps s0 (State.contractMade s a1 a2 a3 a4 a5) := by
  unfold State.contractMade
  with_reducible repeat' first | exact h | assumption | apply State.wr_keeps | apply State.setPstate_keeps | apply State.modPd_keeps | apply State.pdSend_keeps | apply State.budget_keeps | apply State.modeMissing_keeps | apply State.askSwap_keeps | apply State.startDiscovery_keeps | split | apply foldl_keeps | intro _ | fail_if_no_progress refine Keeps.same ?_ rfl | fail_if_no_progress extract_lets | apply getD_keeps | apply elim_keeps | dsimp +zetaDelta only

theorem State.partnerRev_keeps {s0 s : State} (h : Keeps s0 s) (a1) (a2) : Keeps s0 (State.partnerRev s a1 a2) := by
  unfold State.partnerRev
  with_reducible repeat' first | exact h | assumption | apply State.modPd_keeps | split | apply foldl_keeps | intro _ | fail_if_no_progress refine Keeps.same ?_ rfl | fail_if_no_progress extract_lets | apply getD_keeps | apply elim_keeps | dsimp +zetaDelta only

theorem State.pdRequest_keeps {s0 s : State} (h : Keeps s0 s) (a1) (a2) (a3) (a4) : Keeps s0 (State.pdRequest s a1 a2 a3 a4) := by
  unfold State.pdRequest
  with_reducible repeat' first | exact h | assumption | apply State.modPd_keeps | apply State.pdSend_keeps | apply State.regulate_keeps | apply State.setPstate_keeps | split | apply foldl_keeps | intro _ | fail_if_no_progress refine Keeps.same ?_ rfl | fail_if_no_progress extract_lets | apply getD_keeps | apply elim_keeps | dsimp +zetaDelta only

theorem execRequest_keeps {s0 s : State} (h : Keeps s0 s) (a0) (a1) (a2) (a3) (a4) : ∀ t, execRequest a0 a1 a2 a3 a4 s = .next t → Keeps s0 t := by
  intro t ht
  refine Keeps.ofEq ?_ (Host.Outcome.next.inj ht).symm
  with_reducible repeat' first | exact h | assumption | apply State.partnerRev_keeps | apply State.pdRequest_keeps | split | apply foldl_keeps | intro _ | fail_if_no_progress refine Keeps.same ?_ rfl | fail_if_no_progress extract_lets | apply getD_keeps | apply elim_keeps | dsimp +zetaDelta only

theorem State.sendRequest_keeps {s0 s : State} (h : Keeps s0 s) (a1) (a2) (a3) (a4) (a5) : Keeps s0 (State.sendRequest s a1 a2 a3 a4 a5) := by
  unfold State.sendRequest
  with_reducible repeat' first | exact h | assumption | apply State.modPd_keeps | apply State.pdSend_keeps | split | apply foldl_keeps | intro _ | fail_if_no_progress refine Keeps.same ?_ rfl | fail_if_no_progress extract_lets | apply getD_keeps | apply elim_keeps | dsimp +zetaDelta only

theorem State.sourceCapsIn_keeps {s0 s : State} (h : Keeps s0 s) (a1) (a2) (a3) : Keeps s0 (State.sourceCapsIn s a1 a2 a3) := by
  unfold State.sourceCapsIn
  with_reducible repeat' first | exact h | assumption | apply State.modPd_keeps | apply State.pdAnswer_keeps | apply State.sendRequest_keeps | apply State.setPstate_keeps | split | apply foldl_keeps | intro _ | fail_if_no_progress refine Keeps.same ?_ rfl | fail_if_no_progress extract_lets | apply getD_keeps | apply elim_keeps | dsimp +zetaDelta only

theorem execSourceCapabilities_keeps {s0 s : State} (h : Keeps s0 s) (a0) (a1) (a2) (a3) : ∀ t, execSourceCapabilities a0 a1 a2 a3 s = .next t → Keeps s0 t := by
  intro t ht
  refine Keeps.ofEq ?_ (Host.Outcome.next.inj ht).symm
  with_reducible repeat' first | exact h | assumption | apply State.partnerRev_keeps | apply State.sourceCapsIn_keeps | split | apply foldl_keeps | intro _ | fail_if_no_progress refine Keeps.same ?_ rfl | fail_if_no_progress extract_lets | apply getD_keeps | apply elim_keeps | dsimp +zetaDelta only

theorem State.sinkCapsIn_keeps {s0 s : State} (h : Keeps s0 s) (a1) (a2) (a3) (a4) : Keeps s0 (State.sinkCapsIn s a1 a2 a3 a4) := by
  unfold State.sinkCapsIn
  with_reducible repeat' first | exact h | assumption | apply State.modPd_keeps | apply State.budget_keeps | split | apply foldl_keeps | intro _ | fail_if_no_progress refine Keeps.same ?_ rfl | fail_if_no_progress extract_lets | apply getD_keeps | apply elim_keeps | dsimp +zetaDelta only

theorem execSinkCapabilities_keeps {s0 s : State} (h : Keeps s0 s) (a0) (a1) (a2) (a3) (a4) : ∀ t, execSinkCapabilities a0 a1 a2 a3 a4 s = .next t → Keeps s0 t := by
  intro t ht
  refine Keeps.ofEq ?_ (Host.Outcome.next.inj ht).symm
  with_reducible repeat' first | exact h | assumption | apply State.partnerRev_keeps | apply State.sinkCapsIn_keeps | split | apply foldl_keeps | intro _ | fail_if_no_progress refine Keeps.same ?_ rfl | fail_if_no_progress extract_lets | apply getD_keeps | apply elim_keeps | dsimp +zetaDelta only

theorem execPpsRequestTimeout_keeps {s0 s : State} (h : Keeps s0 s) (a0) : ∀ t, execPpsRequestTimeout a0 s = .next t → Keeps s0 t := by
  intro t ht
  refine Keeps.ofEq ?_ (Host.Outcome.next.inj ht).symm
  with_reducible repeat' first | exact h | assumption | apply State.sendHardReset_keeps | split | apply foldl_keeps | intro _ | fail_if_no_progress refine Keeps.same ?_ rfl | fail_if_no_progress extract_lets | apply getD_keeps | apply elim_keeps | dsimp +zetaDelta only

theorem execPpsRequestTimer_keeps {s0 s : State} (h : Keeps s0 s) (a0) : ∀ t, execPpsRequestTimer a0 s = .next t → Keeps s0 t := by
  intro t ht
  refine Keeps.ofEq ?_ (Host.Outcome.next.inj ht).symm
  with_reducible repeat' first | exact h | assumption | apply State.sendRequest_keeps | split | apply foldl_keeps | intro _ | fail_if_no_progress refine Keeps.same ?_ rfl | fail_if_no_progress extract_lets | apply getD_keeps | apply elim_keeps | dsimp +zetaDelta only

theorem execGetPpsStatus_keeps {s0 s : State} (h : Keeps s0 s) (a0) (a1) (a2) : ∀ t, execGetPpsStatus a0 a1 a2 s = .next t → Keeps s0 t := by
  intro t ht
  refine Keeps.ofEq ?_ (Host.Outcome.next.inj ht).symm
  with_reducible repeat' first | exact h | assumption | apply State.pdSend_keeps | split | apply foldl_keeps | intro _ | fail_if_no_progress refine Keeps.same ?_ rfl | fail_if_no_progress extract_lets | apply getD_keeps | apply elim_keeps | dsimp +zetaDelta only

theorem State.eprMode_keeps {s0 s : State} (h : Keeps s0 s) (a1) (a2) : Keeps s0 (State.eprMode s a1 a2) := by
  unfold State.eprMode
  with_reducible repeat' first | exact h | assumption | apply State.pdSend_keeps | apply State.wr_keeps | apply State.sendCaps_keeps | apply State.modPd_keeps | apply State.pdAnswer_keeps | split | apply foldl_keeps | intro _ | fail_if_no_progress refine Keeps.same ?_ rfl | fail_if_no_progress extract_lets | apply getD_keeps | apply elim_keeps | dsimp +zetaDelta only

theorem execEprMode_keeps {s0 s : State} (h : Keeps s0 s) (a0) (a1) : ∀ t, execEprMode a0 a1 s = .next t → Keeps s0 t := by
  intro t ht
  refine Keeps.ofEq ?_ (Host.Outcome.next.inj ht).symm
  with_reducible repeat' first | exact h | assumption | apply State.eprMode_keeps | split | apply foldl_keeps | intro _ | fail_if_no_progress refine Keeps.same ?_ rfl | fail_if_no_progress extract_lets | apply getD_keeps | apply elim_keeps | dsimp +zetaDelta only

theorem execEprKeepalive_keeps {s0 s : State} (h : Keeps s0 s) (a0) : ∀ t, execEprKeepalive a0 s = .next t → Keeps s0 t := by
  intro t ht
  refine Keeps.ofEq ?_ (Host.Outcome.next.inj ht).symm
  with_reducible repeat' first | exact h | assumption | apply State.pdSend_keeps | split | apply foldl_keeps | intro _ | fail_if_no_progress refine Keeps.same ?_ rfl | fail_if_no_progress extract_lets | apply getD_keeps | apply elim_keeps | dsimp +zetaDelta only

theorem execEprKeepaliveTimeout_keeps {s0 s : State} (h : Keeps s0 s) (a0) : ∀ t, execEprKeepaliveTimeout a0 s = .next t → Keeps s0 t := by
  intro t ht
  refine Keeps.ofEq ?_ (Host.Outcome.next.inj ht).symm
  with_reducible repeat' first | exact h | assumption | apply State.sendHardReset_keeps | split | apply foldl_keeps | intro _ | fail_if_no_progress refine Keeps.same ?_ rfl | fail_if_no_progress extract_lets | apply getD_keeps | apply elim_keeps | dsimp +zetaDelta only

theorem execEprKeepaliveTimer_keeps {s0 s : State} (h : Keeps s0 s) (a0) : ∀ t, execEprKeepaliveTimer a0 s = .next t → Keeps s0 t := by
  intro t ht
  refine Keeps.ofEq ?_ (Host.Outcome.next.inj ht).symm
  with_reducible repeat' first | exact h | assumption | apply State.pdSend_keeps | split | apply foldl_keeps | intro _ | fail_if_no_progress refine Keeps.same ?_ rfl | fail_if_no_progress extract_lets | apply getD_keeps | apply elim_keeps | dsimp +zetaDelta only

theorem execCapsCutTimeout_keeps {s0 s : State} (h : Keeps s0 s) (a0) : ∀ t, execCapsCutTimeout a0 s = .next t → Keeps s0 t := by
  intro t ht
  refine Keeps.ofEq ?_ (Host.Outcome.next.inj ht).symm
  with_reducible repeat' first | exact h | assumption | apply State.sendHardReset_keeps | split | apply foldl_keeps | intro _ | fail_if_no_progress refine Keeps.same ?_ rfl | fail_if_no_progress extract_lets | apply getD_keeps | apply elim_keeps | dsimp +zetaDelta only

theorem State.swapDone_keeps {s0 s : State} (h : Keeps s0 s) (a1) (a2) (a3) : Keeps s0 (State.swapDone s a1 a2 a3) := by
  unfold State.swapDone
  with_reducible repeat' first | exact h | assumption | apply State.modPd_keeps | apply State.pdAnswer_keeps | split | apply foldl_keeps | intro _ | fail_if_no_progress refine Keeps.same ?_ rfl | fail_if_no_progress extract_lets | apply getD_keeps | apply elim_keeps | dsimp +zetaDelta only

theorem State.swapCollide_keeps {s0 s : State} (h : Keeps s0 s) (a1) : Keeps s0 (State.swapCollide s a1) := by
  unfold State.swapCollide
  with_reducible repeat' first | exact h | assumption | apply State.modPd_keeps | apply State.raise_keeps | apply State.pdAnswer_keeps | split | apply foldl_keeps | intro _ | fail_if_no_progress refine Keeps.same ?_ rfl | fail_if_no_progress extract_lets | apply getD_keeps | apply elim_keeps | dsimp +zetaDelta only

theorem State.prSwapAgreed_keeps {s0 s : State} (h : Keeps s0 s) (a1) : Keeps s0 (State.prSwapAgreed s a1) := by
  unfold State.prSwapAgreed
  with_reducible repeat' first | exact h | assumption | apply State.modPd_keeps | apply State.setPstate_keeps | apply State.openChannel_keeps | apply State.stopReg_keeps | apply State.discharge_keeps | apply State.pdSend_keeps | split | apply foldl_keeps | intro _ | fail_if_no_progress refine Keeps.same ?_ rfl | fail_if_no_progress extract_lets | apply getD_keeps | apply elim_keeps | dsimp +zetaDelta only

theorem State.deferSwap_keeps {s0 s : State} (h : Keeps s0 s) (a1) (a2) : Keeps s0 (State.deferSwap s a1 a2) := by
  unfold State.deferSwap
  with_reducible repeat' first | exact h | assumption | apply State.modPd_keeps | split | apply foldl_keeps | intro _ | fail_if_no_progress refine Keeps.same ?_ rfl | fail_if_no_progress extract_lets | apply getD_keeps | apply elim_keeps | dsimp +zetaDelta only

theorem State.prSwapIn_keeps {s0 s : State} (h : Keeps s0 s) (a1) : Keeps s0 (State.prSwapIn s a1) := by
  unfold State.prSwapIn
  with_reducible repeat' first | exact h | assumption | apply State.deferSwap_keeps | apply State.swapCollide_keeps | apply State.pdSend_keeps | apply State.prSwapAgreed_keeps | split | apply foldl_keeps | intro _ | fail_if_no_progress refine Keeps.same ?_ rfl | fail_if_no_progress extract_lets | apply getD_keeps | apply elim_keeps | dsimp +zetaDelta only

theorem execPrSwap_keeps {s0 s : State} (h : Keeps s0 s) (a0) : ∀ t, execPrSwap a0 s = .next t → Keeps s0 t := by
  intro t ht
  refine Keeps.ofEq ?_ (Host.Outcome.next.inj ht).symm
  with_reducible repeat' first | exact h | assumption | apply State.prSwapIn_keeps | split | apply foldl_keeps | intro _ | fail_if_no_progress refine Keeps.same ?_ rfl | fail_if_no_progress extract_lets | apply getD_keeps | apply elim_keeps | dsimp +zetaDelta only

theorem State.drSwapIn_keeps {s0 s : State} (h : Keeps s0 s) (a1) : Keeps s0 (State.drSwapIn s a1) := by
  unfold State.drSwapIn
  with_reducible repeat' first | exact h | assumption | apply State.sendHardReset_keeps | apply State.deferSwap_keeps | apply State.swapCollide_keeps | apply State.pdSend_keeps | apply State.wr_keeps | apply State.startDiscovery_keeps | split | apply foldl_keeps | intro _ | fail_if_no_progress refine Keeps.same ?_ rfl | fail_if_no_progress extract_lets | apply getD_keeps | apply elim_keeps | dsimp +zetaDelta only

theorem execDrSwap_keeps {s0 s : State} (h : Keeps s0 s) (a0) : ∀ t, execDrSwap a0 s = .next t → Keeps s0 t := by
  intro t ht
  refine Keeps.ofEq ?_ (Host.Outcome.next.inj ht).symm
  with_reducible repeat' first | exact h | assumption | apply State.drSwapIn_keeps | split | apply foldl_keeps | intro _ | fail_if_no_progress refine Keeps.same ?_ rfl | fail_if_no_progress extract_lets | apply getD_keeps | apply elim_keeps | dsimp +zetaDelta only

theorem State.vconnAgreed_keeps {s0 s : State} (h : Keeps s0 s) (a1) : Keeps s0 (State.vconnAgreed s a1) := by
  unfold State.vconnAgreed
  with_reducible repeat' first | exact h | assumption | apply State.modPd_keeps | apply State.setVconn_keeps | apply State.pdSend_keeps | split | apply foldl_keeps | intro _ | fail_if_no_progress refine Keeps.same ?_ rfl | fail_if_no_progress extract_lets | apply getD_keeps | apply elim_keeps | dsimp +zetaDelta only

theorem State.vconnSwapIn_keeps {s0 s : State} (h : Keeps s0 s) (a1) : Keeps s0 (State.vconnSwapIn s a1) := by
  unfold State.vconnSwapIn
  with_reducible repeat' first | exact h | assumption | apply State.deferSwap_keeps | apply State.swapCollide_keeps | apply State.pdSend_keeps | apply State.vconnAgreed_keeps | split | apply foldl_keeps | intro _ | fail_if_no_progress refine Keeps.same ?_ rfl | fail_if_no_progress extract_lets | apply getD_keeps | apply elim_keeps | dsimp +zetaDelta only

theorem execVconnSwap_keeps {s0 s : State} (h : Keeps s0 s) (a0) : ∀ t, execVconnSwap a0 s = .next t → Keeps s0 t := by
  intro t ht
  refine Keeps.ofEq ?_ (Host.Outcome.next.inj ht).symm
  with_reducible repeat' first | exact h | assumption | apply State.vconnSwapIn_keeps | split | apply foldl_keeps | intro _ | fail_if_no_progress refine Keeps.same ?_ rfl | fail_if_no_progress extract_lets | apply getD_keeps | apply elim_keeps | dsimp +zetaDelta only

theorem State.serveDeferred_keeps {s0 s : State} (h : Keeps s0 s) (a1) : Keeps s0 (State.serveDeferred s a1) := by
  unfold State.serveDeferred
  with_reducible repeat' first | exact h | assumption | apply State.modPd_keeps | apply State.prSwapIn_keeps | apply State.drSwapIn_keeps | apply State.vconnSwapIn_keeps | split | apply foldl_keeps | intro _ | fail_if_no_progress refine Keeps.same ?_ rfl | fail_if_no_progress extract_lets | apply getD_keeps | apply elim_keeps | dsimp +zetaDelta only

theorem State.swapRetry_keeps {s0 s : State} (h : Keeps s0 s) (a1) : Keeps s0 (State.swapRetry s a1) := by
  unfold State.swapRetry
  with_reducible repeat' first | exact h | assumption | apply State.modPd_keeps | apply State.askSwap_keeps | split | apply foldl_keeps | intro _ | fail_if_no_progress refine Keeps.same ?_ rfl | fail_if_no_progress extract_lets | apply getD_keeps | apply elim_keeps | dsimp +zetaDelta only

theorem execSwapRetry_keeps {s0 s : State} (h : Keeps s0 s) (a0) : ∀ t, execSwapRetry a0 s = .next t → Keeps s0 t := by
  intro t ht
  refine Keeps.ofEq ?_ (Host.Outcome.next.inj ht).symm
  with_reducible repeat' first | exact h | assumption | apply State.swapRetry_keeps | split | apply foldl_keeps | intro _ | fail_if_no_progress refine Keeps.same ?_ rfl | fail_if_no_progress extract_lets | apply getD_keeps | apply elim_keeps | dsimp +zetaDelta only

theorem State.inputLoss_keeps {s0 s : State} (h : Keeps s0 s) : Keeps s0 (State.inputLoss s) := by
  unfold State.inputLoss
  with_reducible repeat' first | exact h | assumption | apply State.raise_keeps | apply State.each_keeps | apply State.pdAnswer_keeps | apply State.stopReg_keeps | apply State.modPd_keeps | apply State.send_keeps | apply State.discharge_keeps | apply State.setOrient_keeps | apply State.setPstate_keeps | apply State.disablePort_keeps | split | apply foldl_keeps | intro _ | fail_if_no_progress refine Keeps.same ?_ rfl | fail_if_no_progress extract_lets | apply getD_keeps | apply elim_keeps | dsimp +zetaDelta only

theorem State.frsSinkNow_keeps {s0 s : State} (h : Keeps s0 s) (a1) : Keeps s0 (State.frsSinkNow s a1) := by
  unfold State.frsSinkNow
  with_reducible repeat' first | exact h | assumption | apply State.endContract_keeps | apply State.wr_keeps | apply State.setPstate_keeps | apply State.setReg_keeps | apply State.modPd_keeps | split | apply foldl_keeps | intro _ | fail_if_no_progress refine Keeps.same ?_ rfl | fail_if_no_progress extract_lets | apply getD_keeps | apply elim_keeps | dsimp +zetaDelta only

theorem State.frSwap_keeps {s0 s : State} (h : Keeps s0 s) (a1) : Keeps s0 (State.frSwap s a1) := by
  unfold State.frSwap
  with_reducible repeat' first | exact h | assumption | apply State.modPd_keeps | apply State.pdSend_keeps | apply State.send_keeps | apply State.endContract_keeps | apply State.wr_keeps | apply State.setPstate_keeps | apply State.budget_keeps | split | apply foldl_keeps | intro _ | fail_if_no_progress refine Keeps.same ?_ rfl | fail_if_no_progress extract_lets | apply getD_keeps | apply elim_keeps | dsimp +zetaDelta only

theorem execFrSwap_keeps {s0 s : State} (h : Keeps s0 s) (a0) : ∀ t, execFrSwap a0 s = .next t → Keeps s0 t := by
  intro t ht
  refine Keeps.ofEq ?_ (Host.Outcome.next.inj ht).symm
  with_reducible repeat' first | exact h | assumption | apply State.frSwap_keeps | split | apply foldl_keeps | intro _ | fail_if_no_progress refine Keeps.same ?_ rfl | fail_if_no_progress extract_lets | apply getD_keeps | apply elim_keeps | dsimp +zetaDelta only

theorem State.frsSignal_keeps {s0 s : State} (h : Keeps s0 s) (a1) : Keeps s0 (State.frsSignal s a1) := by
  unfold State.frsSignal
  with_reducible repeat' first | exact h | assumption | apply State.pdAnswer_keeps | apply State.modPd_keeps | apply State.regulate_keeps | apply State.closeChannel_keeps | apply State.setPstate_keeps | apply State.raise_keeps | split | apply foldl_keeps | intro _ | fail_if_no_progress refine Keeps.same ?_ rfl | fail_if_no_progress extract_lets | apply getD_keeps | apply elim_keeps | dsimp +zetaDelta only

theorem execFrsSignalDetect_keeps {s0 s : State} (h : Keeps s0 s) (a0) : ∀ t, execFrsSignalDetect a0 s = .next t → Keeps s0 t := by
  intro t ht
  refine Keeps.ofEq ?_ (Host.Outcome.next.inj ht).symm
  with_reducible repeat' first | exact h | assumption | apply State.frsSignal_keeps | split | apply foldl_keeps | intro _ | fail_if_no_progress refine Keeps.same ?_ rfl | fail_if_no_progress extract_lets | apply getD_keeps | apply elim_keeps | dsimp +zetaDelta only

theorem execRetakeTimer_keeps {s0 s : State} (h : Keeps s0 s) : ∀ t, execRetakeTimer s = .next t → Keeps s0 t := by
  intro t ht
  refine Keeps.ofEq ?_ (Host.Outcome.next.inj ht).symm
  with_reducible repeat' first | exact h | assumption | apply State.each_keeps | apply State.setPstate_keeps | apply State.askSwap_keeps | split | apply foldl_keeps | intro _ | fail_if_no_progress refine Keeps.same ?_ rfl | fail_if_no_progress extract_lets | apply getD_keeps | apply elim_keeps | dsimp +zetaDelta only

theorem State.transitionDone_keeps {s0 s : State} (h : Keeps s0 s) (a1) : Keeps s0 (State.transitionDone s a1) := by
  unfold State.transitionDone
  with_reducible repeat' first | exact h | assumption | apply State.modPd_keeps | apply State.pdSend_keeps | apply State.setPstate_keeps | apply State.swapDone_keeps | apply State.contractMade_keeps | apply State.pdAnswer_keeps | split | apply foldl_keeps | intro _ | fail_if_no_progress refine Keeps.same ?_ rfl | fail_if_no_progress extract_lets | apply getD_keeps | apply elim_keeps | dsimp +zetaDelta only

theorem execTransitionDone_keeps {s0 s : State} (h : Keeps s0 s) (a0) : ∀ t, execTransitionDone a0 s = .next t → Keeps s0 t := by
  intro t ht
  refine Keeps.ofEq ?_ (Host.Outcome.next.inj ht).symm
  with_reducible repeat' first | exact h | assumption | apply State.transitionDone_keeps | apply State.serveDeferred_keeps | split | apply foldl_keeps | intro _ | fail_if_no_progress refine Keeps.same ?_ rfl | fail_if_no_progress extract_lets | apply getD_keeps | apply elim_keeps | dsimp +zetaDelta only

theorem State.psRdy_keeps {s0 s : State} (h : Keeps s0 s) (a1) : Keeps s0 (State.psRdy s a1) := by
  unfold State.psRdy
  with_reducible repeat' first | exact h | assumption | apply State.frsSinkNow_keeps | apply State.endContract_keeps | apply State.wr_keeps | apply State.setPstate_keeps | apply State.setReg_keeps | apply State.swapDone_keeps | apply State.budget_keeps | apply State.modPd_keeps | apply State.regulate_keeps | apply State.closeChannel_keeps | apply State.setVconn_keeps | apply State.contractMade_keeps | split | apply foldl_keeps | intro _ | fail_if_no_progress refine Keeps.same ?_ rfl | fail_if_no_progress extract_lets | apply getD_keeps | apply elim_keeps | dsimp +zetaDelta only

theorem execPsRdy_keeps {s0 s : State} (h : Keeps s0 s) (a0) : ∀ t, execPsRdy a0 s = .next t → Keeps s0 t := by
  intro t ht
  refine Keeps.ofEq ?_ (Host.Outcome.next.inj ht).symm
  with_reducible repeat' first | exact h | assumption | apply State.psRdy_keeps | apply State.serveDeferred_keeps | split | apply foldl_keeps | intro _ | fail_if_no_progress refine Keeps.same ?_ rfl | fail_if_no_progress extract_lets | apply getD_keeps | apply elim_keeps | dsimp +zetaDelta only

theorem State.pdAnswered_keeps {s0 s : State} (h : Keeps s0 s) (a1) (a2) : Keeps s0 (State.pdAnswered s a1 a2) := by
  unfold State.pdAnswered
  with_reducible repeat' first | exact h | assumption | apply State.modPd_keeps | apply State.setPstate_keeps | apply State.prSwapAgreed_keeps | apply State.swapDone_keeps | apply State.wr_keeps | apply State.startDiscovery_keeps | apply State.vconnAgreed_keeps | apply State.discharge_keeps | apply State.sendHardReset_keeps | apply State.disablePort_keeps | apply State.budget_keeps | apply State.vdmDone_keeps | apply State.modeMissing_keeps | split | apply foldl_keeps | intro _ | fail_if_no_progress refine Keeps.same ?_ rfl | fail_if_no_progress extract_lets | apply getD_keeps | apply elim_keeps | dsimp +zetaDelta only

theorem execAccept_keeps {s0 s : State} (h : Keeps s0 s) (a0) (a1) : ∀ t, execAccept a0 a1 s = .next t → Keeps s0 t := by
  intro t ht
  refine Keeps.ofEq ?_ (Host.Outcome.next.inj ht).symm
  with_reducible repeat' first | exact h | assumption | apply State.pdAnswered_keeps | apply State.serveDeferred_keeps | split | apply foldl_keeps | intro _ | fail_if_no_progress refine Keeps.same ?_ rfl | fail_if_no_progress extract_lets | apply getD_keeps | apply elim_keeps | dsimp +zetaDelta only

theorem State.pdTimeout_keeps {s0 s : State} (h : Keeps s0 s) (a1) : Keeps s0 (State.pdTimeout s a1) := by
  unfold State.pdTimeout
  with_reducible repeat' first | exact h | assumption | apply State.sendHardReset_keeps | apply State.disablePort_keeps | apply State.budget_keeps | apply State.pdAnswer_keeps | apply State.vdmDone_keeps | apply State.modeMissing_keeps | apply State.swapDone_keeps | apply State.startDiscovery_keeps | split | apply foldl_keeps | intro _ | fail_if_no_progress refine Keeps.same ?_ rfl | fail_if_no_progress extract_lets | apply getD_keeps | apply elim_keeps | dsimp +zetaDelta only

theorem execSenderResponseTimeout_keeps {s0 s : State} (h : Keeps s0 s) (a0) : ∀ t, execSenderResponseTimeout a0 s = .next t → Keeps s0 t := by
  intro t ht
  refine Keeps.ofEq ?_ (Host.Outcome.next.inj ht).symm
  with_reducible repeat' first | exact h | assumption | apply State.pdTimeout_keeps | apply State.serveDeferred_keeps | split | apply foldl_keeps | intro _ | fail_if_no_progress refine Keeps.same ?_ rfl | fail_if_no_progress extract_lets | apply getD_keeps | apply elim_keeps | dsimp +zetaDelta only

theorem State.pdFirmware_keeps {s0 s : State} (h : Keeps s0 s) (a1) (a2) (a3) : Keeps s0 (State.pdFirmware s a1 a2 a3) := by
  unfold State.pdFirmware
  with_reducible repeat' first | exact h | assumption | apply State.pdSend_keeps | apply State.fresh_keeps | apply State.modPd_keeps | split | apply foldl_keeps | intro _ | fail_if_no_progress refine Keeps.same ?_ rfl | fail_if_no_progress extract_lets | apply getD_keeps | apply elim_keeps | dsimp +zetaDelta only

theorem execPdFwTimeout_keeps {s0 s : State} (h : Keeps s0 s) (a0) : ∀ t, execPdFwTimeout a0 s = .next t → Keeps s0 t := by
  intro t ht
  refine Keeps.ofEq ?_ (Host.Outcome.next.inj ht).symm
  with_reducible repeat' first | exact h | assumption | apply State.modPd_keeps | apply State.pdSend_keeps | split | apply foldl_keeps | intro _ | fail_if_no_progress refine Keeps.same ?_ rfl | fail_if_no_progress extract_lets | apply getD_keeps | apply elim_keeps | dsimp +zetaDelta only

theorem State.inputsChanged_keeps {s0 s : State} (h : Keeps s0 s) : Keeps s0 (State.inputsChanged s) := by
  unfold State.inputsChanged
  with_reducible repeat' first | exact h | assumption | apply State.wr_keeps | apply State.inputLoss_keeps | apply State.budget_keeps | split | apply foldl_keeps | intro _ | fail_if_no_progress refine Keeps.same ?_ rfl | fail_if_no_progress extract_lets | apply getD_keeps | apply elim_keeps | dsimp +zetaDelta only

theorem State.breaker_keeps {s0 s : State} (h : Keeps s0 s) (a1) : Keeps s0 (State.breaker s a1) := by
  unfold State.breaker
  with_reducible repeat' first | exact h | assumption | apply State.tripChannel_keeps | apply State.pdTrip_keeps | split | apply foldl_keeps | intro _ | fail_if_no_progress refine Keeps.same ?_ rfl | fail_if_no_progress extract_lets | apply getD_keeps | apply elim_keeps | dsimp +zetaDelta only

theorem execShortCircuit_keeps {s0 s : State} (h : Keeps s0 s) (a0) : ∀ t, execShortCircuit a0 s = .next t → Keeps s0 t := by
  intro t ht
  refine Keeps.ofEq ?_ (Host.Outcome.next.inj ht).symm
  with_reducible repeat' first | exact h | assumption | apply State.raise_keeps | apply State.breaker_keeps | split | apply foldl_keeps | intro _ | fail_if_no_progress refine Keeps.same ?_ rfl | fail_if_no_progress extract_lets | apply getD_keeps | apply elim_keeps | dsimp +zetaDelta only

theorem execLimitStart_keeps {s0 s : State} (h : Keeps s0 s) (a0) : ∀ t, execLimitStart a0 s = .next t → Keeps s0 t := by
  rintro t ⟨⟩
  with_reducible repeat' first | exact h | assumption | apply State.wr_keeps | apply State.setPg_keeps | apply State.modEf_keeps | split | apply foldl_keeps | intro _ | fail_if_no_progress refine Keeps.same ?_ rfl | fail_if_no_progress extract_lets | apply getD_keeps | apply elim_keeps | dsimp +zetaDelta only

theorem execFaultTimerExpire_keeps {s0 s : State} (h : Keeps s0 s) (a0) : ∀ t, execFaultTimerExpire a0 s = .next t → Keeps s0 t := by
  intro t ht
  refine Keeps.ofEq ?_ (Host.Outcome.next.inj ht).symm
  with_reducible repeat' first | exact h | assumption | apply State.raise_keeps | apply State.breaker_keeps | split | apply foldl_keeps | intro _ | fail_if_no_progress refine Keeps.same ?_ rfl | fail_if_no_progress extract_lets | apply getD_keeps | apply elim_keeps | dsimp +zetaDelta only

theorem execFaultTimerClear_keeps {s0 s : State} (h : Keeps s0 s) (a0) : ∀ t, execFaultTimerClear a0 s = .next t → Keeps s0 t := by
  intro t ht
  refine Keeps.ofEq ?_ (Host.Outcome.next.inj ht).symm
  with_reducible repeat' first | exact h | assumption | apply State.wr_keeps | apply State.modEf_keeps | split | apply foldl_keeps | intro _ | fail_if_no_progress refine Keeps.same ?_ rfl | fail_if_no_progress extract_lets | apply getD_keeps | apply elim_keeps | dsimp +zetaDelta only

theorem execPgRise_keeps {s0 s : State} (h : Keeps s0 s) (a0) : ∀ t, execPgRise a0 s = .next t → Keeps s0 t := by
  intro t ht
  refine Keeps.ofEq ?_ (Host.Outcome.next.inj ht).symm
  with_reducible repeat' first | exact h | assumption | apply State.wr_keeps | apply State.modEf_keeps | apply State.send_keeps | apply State.setEf_keeps | apply State.setPg_keeps | split | apply foldl_keeps | intro _ | fail_if_no_progress refine Keeps.same ?_ rfl | fail_if_no_progress extract_lets | apply getD_keeps | apply elim_keeps | dsimp +zetaDelta only

theorem execChannelClose_keeps {s0 s : State} (h : Keeps s0 s) (a0) (a1) : ∀ t, execChannelClose a0 a1 s = .next t → Keeps s0 t := by
  intro t ht
  refine Keeps.ofEq ?_ (Host.Outcome.next.inj ht).symm
  with_reducible repeat' first | exact h | assumption | apply State.closeChannel_keeps | split | apply foldl_keeps | intro _ | fail_if_no_progress refine Keeps.same ?_ rfl | fail_if_no_progress extract_lets | apply getD_keeps | apply elim_keeps | dsimp +zetaDelta only

theorem execChannelOpen_keeps {s0 s : State} (h : Keeps s0 s) (a0) : ∀ t, execChannelOpen a0 s = .next t → Keeps s0 t := by
  intro t ht
  refine Keeps.ofEq ?_ (Host.Outcome.next.inj ht).symm
  with_reducible repeat' first | exact h | assumption | apply State.openChannel_keeps | split | apply foldl_keeps | intro _ | fail_if_no_progress refine Keeps.same ?_ rfl | fail_if_no_progress extract_lets | apply getD_keeps | apply elim_keeps | dsimp +zetaDelta only

theorem execReverse_keeps {s0 s : State} (h : Keeps s0 s) (a0) : ∀ t, execReverse a0 s = .next t → Keeps s0 t := by
  intro t ht
  refine Keeps.ofEq ?_ (Host.Outcome.next.inj ht).symm
  with_reducible repeat' first | exact h | assumption | apply State.raise_keeps | apply State.breaker_keeps | split | apply foldl_keeps | intro _ | fail_if_no_progress refine Keeps.same ?_ rfl | fail_if_no_progress extract_lets | apply getD_keeps | apply elim_keeps | dsimp +zetaDelta only

theorem execWindowEnter_keeps {s0 s : State} (h : Keeps s0 s) (a0) : ∀ t, execWindowEnter a0 s = .next t → Keeps s0 t := by
  intro t ht
  refine Keeps.ofEq ?_ (Host.Outcome.next.inj ht).symm
  with_reducible repeat' first | exact h | assumption | apply State.wr_keeps | apply State.modEf_keeps | apply State.setEf_keeps | apply State.showInput_keeps | split | apply foldl_keeps | intro _ | fail_if_no_progress refine Keeps.same ?_ rfl | fail_if_no_progress extract_lets | apply getD_keeps | apply elim_keeps | dsimp +zetaDelta only

theorem State.precharge_keeps {s0 s : State} (h : Keeps s0 s) (a1) : Keeps s0 (State.precharge s a1) := by
  unfold State.precharge
  with_reducible repeat' first | exact h | assumption | apply State.setOrient_keeps | apply State.setEf_keeps | apply State.send_keeps | split | apply foldl_keeps | intro _ | fail_if_no_progress refine Keeps.same ?_ rfl | fail_if_no_progress extract_lets | apply getD_keeps | apply elim_keeps | dsimp +zetaDelta only

theorem execInsertionDebounce_keeps {s0 s : State} (h : Keeps s0 s) (a0) : ∀ t, execInsertionDebounce a0 s = .next t → Keeps s0 t := by
  intro t ht
  refine Keeps.ofEq ?_ (Host.Outcome.next.inj ht).symm
  with_reducible repeat' first | exact h | assumption | apply State.modEf_keeps | apply State.raise_keeps | apply State.precharge_keeps | split | apply foldl_keeps | intro _ | fail_if_no_progress refine Keeps.same ?_ rfl | fail_if_no_progress extract_lets | apply getD_keeps | apply elim_keeps | dsimp +zetaDelta only

theorem execPrechargeDone_keeps {s0 s : State} (h : Keeps s0 s) (a0) : ∀ t, execPrechargeDone a0 s = .next t → Keeps s0 t := by
  intro t ht
  refine Keeps.ofEq ?_ (Host.Outcome.next.inj ht).symm
  with_reducible repeat' first | exact h | assumption | apply State.setEf_keeps | apply State.send_keeps | split | apply foldl_keeps | intro _ | fail_if_no_progress refine Keeps.same ?_ rfl | fail_if_no_progress extract_lets | apply getD_keeps | apply elim_keeps | dsimp +zetaDelta only

theorem execPrechargeTimeout_keeps {s0 s : State} (h : Keeps s0 s) (a0) : ∀ t, execPrechargeTimeout a0 s = .next t → Keeps s0 t := by
  intro t ht
  refine Keeps.ofEq ?_ (Host.Outcome.next.inj ht).symm
  with_reducible repeat' first | exact h | assumption | apply State.raise_keeps | apply State.breaker_keeps | split | apply foldl_keeps | intro _ | fail_if_no_progress refine Keeps.same ?_ rfl | fail_if_no_progress extract_lets | apply getD_keeps | apply elim_keeps | dsimp +zetaDelta only

theorem execWindowFault_keeps {s0 s : State} (h : Keeps s0 s) (a0) (a1) : ∀ t, execWindowFault a0 a1 s = .next t → Keeps s0 t := by
  intro t ht
  refine Keeps.ofEq ?_ (Host.Outcome.next.inj ht).symm
  with_reducible repeat' first | exact h | assumption | apply State.wr_keeps | apply State.modEf_keeps | apply State.gateOff_keeps | apply State.setEf_keeps | apply State.showInput_keeps | apply State.raise_keeps | split | apply foldl_keeps | intro _ | fail_if_no_progress refine Keeps.same ?_ rfl | fail_if_no_progress extract_lets | apply getD_keeps | apply elim_keeps | dsimp +zetaDelta only

theorem execReverseBlock_keeps {s0 s : State} (h : Keeps s0 s) (a0) : ∀ t, execReverseBlock a0 s = .next t → Keeps s0 t := by
  intro t ht
  refine Keeps.ofEq ?_ (Host.Outcome.next.inj ht).symm
  with_reducible repeat' first | exact h | assumption | apply State.send_keeps | apply State.setPg_keeps | apply State.wr_keeps | apply State.setEf_keeps | split | apply foldl_keeps | intro _ | fail_if_no_progress refine Keeps.same ?_ rfl | fail_if_no_progress extract_lets | apply getD_keeps | apply elim_keeps | dsimp +zetaDelta only

theorem execBlockRelease_keeps {s0 s : State} (h : Keeps s0 s) (a0) : ∀ t, execBlockRelease a0 s = .next t → Keeps s0 t := by
  intro t ht
  refine Keeps.ofEq ?_ (Host.Outcome.next.inj ht).symm
  with_reducible repeat' first | exact h | assumption | apply State.setEf_keeps | apply State.send_keeps | split | apply foldl_keeps | intro _ | fail_if_no_progress refine Keeps.same ?_ rfl | fail_if_no_progress extract_lets | apply getD_keeps | apply elim_keeps | dsimp +zetaDelta only

theorem execRetryTimerExpire_keeps {s0 s : State} (h : Keeps s0 s) (a0) : ∀ t, execRetryTimerExpire a0 s = .next t → Keeps s0 t := by
  intro t ht
  refine Keeps.ofEq ?_ (Host.Outcome.next.inj ht).symm
  with_reducible repeat' first | exact h | assumption | apply State.modEf_keeps | apply State.setEf_keeps | apply State.raise_keeps | apply State.precharge_keeps | apply State.setPstate_keeps | split | apply foldl_keeps | intro _ | fail_if_no_progress refine Keeps.same ?_ rfl | fail_if_no_progress extract_lets | apply getD_keeps | apply elim_keeps | dsimp +zetaDelta only

theorem execTripsReset_keeps {s0 s : State} (h : Keeps s0 s) (a0) : ∀ t, execTripsReset a0 s = .next t → Keeps s0 t := by
  intro t ht
  refine Keeps.ofEq ?_ (Host.Outcome.next.inj ht).symm
  with_reducible repeat' first | exact h | assumption | apply State.wr_keeps | split | apply foldl_keeps | intro _ | fail_if_no_progress refine Keeps.same ?_ rfl | fail_if_no_progress extract_lets | apply getD_keeps | apply elim_keeps | dsimp +zetaDelta only

theorem State.efClear_keeps {s0 s : State} (h : Keeps s0 s) (a1) : Keeps s0 (State.efClear s a1) := by
  unfold State.efClear
  with_reducible repeat' first | exact h | assumption | apply State.wr_keeps | apply State.setEf_keeps | apply State.precharge_keeps | apply State.setPstate_keeps | split | apply foldl_keeps | intro _ | fail_if_no_progress refine Keeps.same ?_ rfl | fail_if_no_progress extract_lets | apply getD_keeps | apply elim_keeps | dsimp +zetaDelta only

end Sys2Proof.Machine
end

