-- ==== Sys2Proof/Laws/KeptLink.lean ====
section
/-!
SUPPORT. What every operation of Machine/Sched.lean, Machine/Lanes.lean, Machine/Link.lean keeps (see Laws/Keeps.lean), one lemma each, in the order in which they call each other.
-/

set_option linter.unreachableTactic false
set_option linter.unusedTactic false
set_option linter.all false

namespace Sys2Proof.Machine

theorem State.gatesTouched_keeps {s0 s : State} (h : Keeps s0 s) (a1) (a2) : Keeps s0 (State.gatesTouched s a1 a2) := by
  unfold State.gatesTouched
  with_reducible repeat' first | exact h | assumption | apply State.modSched_keeps | split | apply foldl_keeps | intro _ | fail_if_no_progress refine Keeps.same ?_ rfl | fail_if_no_progress extract_lets | apply getD_keeps | apply elim_keeps | dsimp +zetaDelta only

theorem State.takeGates_keeps {s0 s : State} (h : Keeps s0 s) (a1) : Keeps s0 (State.takeGates s a1) := by
  unfold State.takeGates
  with_reducible repeat' first | exact h | assumption | apply State.setSched_keeps | split | apply foldl_keeps | intro _ | fail_if_no_progress refine Keeps.same ?_ rfl | fail_if_no_progress extract_lets | apply getD_keeps | apply elim_keeps | dsimp +zetaDelta only

theorem State.gateEntryEnd_keeps {s0 s : State} (h : Keeps s0 s) (a1) : Keeps s0 (State.gateEntryEnd s a1) := by
  unfold State.gateEntryEnd
  with_reducible repeat' first | exact h | assumption | apply State.takeGates_keeps | split | apply foldl_keeps | intro _ | fail_if_no_progress refine Keeps.same ?_ rfl | fail_if_no_progress extract_lets | apply getD_keeps | apply elim_keeps | dsimp +zetaDelta only

theorem execGateEntryEnd_keeps {s0 s : State} (h : Keeps s0 s) (a0) : ∀ t, execGateEntryEnd a0 s = .next t → Keeps s0 t := by
  intro t ht
  refine Keeps.ofEq ?_ (Host.Outcome.next.inj ht).symm
  with_reducible repeat' first | exact h | assumption | apply State.gateEntryEnd_keeps | split | apply foldl_keeps | intro _ | fail_if_no_progress refine Keeps.same ?_ rfl | fail_if_no_progress extract_lets | apply getD_keeps | apply elim_keeps | dsimp +zetaDelta only

theorem State.growCredit_keeps {s0 s : State} (h : Keeps s0 s) (a1) (a2) : Keeps s0 (State.growCredit s a1 a2) := by
  unfold State.growCredit
  with_reducible repeat' first | exact h | assumption | apply State.credit_keeps | apply State.setSched_keeps | split | apply foldl_keeps | intro _ | fail_if_no_progress refine Keeps.same ?_ rfl | fail_if_no_progress extract_lets | apply getD_keeps | apply elim_keeps | dsimp +zetaDelta only

theorem State.takeReturn_keeps {s0 s : State} (h : Keeps s0 s) (a1) : Keeps s0 (State.takeReturn s a1).2.2 := by
  unfold State.takeReturn
  with_reducible repeat' first | exact h | assumption | apply State.setLink_keeps | split | apply foldl_keeps | intro _ | fail_if_no_progress refine Keeps.same ?_ rfl | fail_if_no_progress extract_lets | apply getD_keeps | apply elim_keeps | dsimp +zetaDelta only

theorem State.openNext_keeps {s0 s : State} (h : Keeps s0 s) (a1) (a2) : Keeps s0 (State.openNext s a1 a2) := by
  unfold State.openNext
  with_reducible repeat' first | exact h | assumption | apply State.credit_keeps | apply State.setSched_keeps | apply State.modLink_keeps | split | apply foldl_keeps | intro _ | fail_if_no_progress refine Keeps.same ?_ rfl | fail_if_no_progress extract_lets | apply getD_keeps | apply elim_keeps | dsimp +zetaDelta only

theorem State.cellSent_keeps {s0 s : State} (h : Keeps s0 s) (a1) (a2) (a3) (a4) (a5) : Keeps s0 (State.cellSent s a1 a2 a3 a4 a5) := by
  unfold State.cellSent
  with_reducible repeat' first | exact h | assumption | apply State.wrapAdd_keeps | apply State.modSched_keeps | apply State.raise_keeps | apply State.satAdd_keeps | apply State.loseStored_keeps | apply State.mirror_keeps | apply State.release_keeps | split | apply foldl_keeps | intro _ | fail_if_no_progress refine Keeps.same ?_ rfl | fail_if_no_progress extract_lets | apply getD_keeps | apply elim_keeps | dsimp +zetaDelta only

theorem State.sendCell_keeps {s0 s : State} (h : Keeps s0 s) (a1) (a2) : Keeps s0 (State.sendCell s a1 a2) := by
  unfold State.sendCell
  with_reducible repeat' first | exact h | assumption | apply State.openNext_keeps | apply State.takeReturn_keeps | apply State.putCell_keeps | apply State.setStage_keeps | apply State.wr_keeps | apply State.cellSent_keeps | apply State.replySent_keeps | split | apply foldl_keeps | intro _ | fail_if_no_progress refine Keeps.same ?_ rfl | fail_if_no_progress extract_lets | apply getD_keeps | apply elim_keeps | dsimp +zetaDelta only

theorem State.ctlStamp_keeps {s0 s : State} (h : Keeps s0 s) (a1) (a2) : Keeps s0 (State.ctlStamp s a1 a2) := by
  unfold State.ctlStamp
  with_reducible repeat' first | exact h | assumption | apply State.sendCtl_keeps | apply State.modLink_keeps | split | apply foldl_keeps | intro _ | fail_if_no_progress refine Keeps.same ?_ rfl | fail_if_no_progress extract_lets | apply getD_keeps | apply elim_keeps | dsimp +zetaDelta only

theorem State.sendControl_keeps {s0 s : State} (h : Keeps s0 s) (a1) (a2) (a3) : Keeps s0 (State.sendControl s a1 a2 a3) := by
  unfold State.sendControl
  with_reducible repeat' first | exact h | assumption | apply State.takeReturn_keeps | apply State.putCell_keeps | apply State.modSched_keeps | apply State.modLink_keeps | apply State.ctlStamp_keeps | apply State.wrapAdd_keeps | split | apply foldl_keeps | intro _ | fail_if_no_progress refine Keeps.same ?_ rfl | fail_if_no_progress extract_lets | apply getD_keeps | apply elim_keeps | dsimp +zetaDelta only

theorem State.sendIdle_keeps {s0 s : State} (h : Keeps s0 s) (a1) : Keeps s0 (State.sendIdle s a1) := by
  unfold State.sendIdle
  with_reducible repeat' first | exact h | assumption | apply State.takeReturn_keeps | apply State.putCell_keeps | split | apply foldl_keeps | intro _ | fail_if_no_progress refine Keeps.same ?_ rfl | fail_if_no_progress extract_lets | apply getD_keeps | apply elim_keeps | dsimp +zetaDelta only

theorem State.flipTable_keeps {s0 s : State} (h : Keeps s0 s) (a1) (a2) (a3) : Keeps s0 (State.flipTable s a1 a2 a3) := by
  unfold State.flipTable
  with_reducible repeat' first | exact h | assumption | apply State.wr_keeps | apply State.gatesTouched_keeps | split | apply foldl_keeps | intro _ | fail_if_no_progress refine Keeps.same ?_ rfl | fail_if_no_progress extract_lets | apply getD_keeps | apply elim_keeps | dsimp +zetaDelta only

theorem State.takeFlip_keeps {s0 s : State} (h : Keeps s0 s) (a1) : Keeps s0 (State.takeFlip s a1) := by
  unfold State.takeFlip
  with_reducible repeat' first | exact h | assumption | apply State.modSched_keeps | apply State.flipTable_keeps | split | apply foldl_keeps | intro _ | fail_if_no_progress refine Keeps.same ?_ rfl | fail_if_no_progress extract_lets | apply getD_keeps | apply elim_keeps | dsimp +zetaDelta only

theorem State.flipDue_keeps {s0 s : State} (h : Keeps s0 s) (a1) (a2) : Keeps s0 (State.flipDue s a1 a2) := by
  unfold State.flipDue
  with_reducible repeat' first | exact h | assumption | apply State.raise_keeps | apply State.modSched_keeps | split | apply foldl_keeps | intro _ | fail_if_no_progress refine Keeps.same ?_ rfl | fail_if_no_progress extract_lets | apply getD_keeps | apply elim_keeps | dsimp +zetaDelta only

theorem State.followFlip_keeps {s0 s : State} (h : Keeps s0 s) (a1) : Keeps s0 (State.followFlip s a1) := by
  unfold State.followFlip
  with_reducible repeat' first | exact h | assumption | apply State.modSched_keeps | apply State.flipDue_keeps | split | apply foldl_keeps | intro _ | fail_if_no_progress refine Keeps.same ?_ rfl | fail_if_no_progress extract_lets | apply getD_keeps | apply elim_keeps | dsimp +zetaDelta only

theorem State.codewordStart_keeps {s0 s : State} (h : Keeps s0 s) (a1) : Keeps s0 (State.codewordStart s a1) := by
  unfold State.codewordStart
  with_reducible repeat' first | exact h | assumption | apply State.modSched_keeps | apply State.followFlip_keeps | apply State.takeFlip_keeps | apply State.takeGates_keeps | apply State.beginStripe_keeps | split | apply foldl_keeps | intro _ | fail_if_no_progress refine Keeps.same ?_ rfl | fail_if_no_progress extract_lets | apply getD_keeps | apply elim_keeps | dsimp +zetaDelta only

theorem State.measure_keeps {s0 s : State} (h : Keeps s0 s) (a1) (a2) : Keeps s0 (State.measure s a1 a2) := by
  unfold State.measure
  with_reducible repeat' first | exact h | assumption | apply State.wr_keeps | apply State.setSched_keeps | split | apply foldl_keeps | intro _ | fail_if_no_progress refine Keeps.same ?_ rfl | fail_if_no_progress extract_lets | apply getD_keeps | apply elim_keeps | dsimp +zetaDelta only

theorem State.slotDone_keeps {s0 s : State} (h : Keeps s0 s) (a1) (a2) : Keeps s0 (State.slotDone s a1 a2) := by
  unfold State.slotDone
  with_reducible repeat' first | exact h | assumption | apply State.modSched_keeps | apply State.modLink_keeps | apply State.sendCodeword_keeps | apply State.measure_keeps | split | apply foldl_keeps | intro _ | fail_if_no_progress refine Keeps.same ?_ rfl | fail_if_no_progress extract_lets | apply getD_keeps | apply elim_keeps | dsimp +zetaDelta only

theorem State.cellSlot_keeps {s0 s : State} (h : Keeps s0 s) (a1) : Keeps s0 (State.cellSlot s a1) := by
  unfold State.cellSlot
  with_reducible repeat' first | exact h | assumption | apply State.codewordStart_keeps | apply State.growCredit_keeps | apply State.sendControl_keeps | apply State.slotDone_keeps | apply State.sendCell_keeps | apply State.sendIdle_keeps | split | apply foldl_keeps | intro _ | fail_if_no_progress refine Keeps.same ?_ rfl | fail_if_no_progress extract_lets | apply getD_keeps | apply elim_keeps | dsimp +zetaDelta only

theorem execCellSlot_keeps {s0 s : State} (h : Keeps s0 s) (a0) : ∀ t, execCellSlot a0 s = .next t → Keeps s0 t := by
  intro t ht
  refine Keeps.ofEq ?_ (Host.Outcome.next.inj ht).symm
  with_reducible repeat' first | exact h | assumption | apply State.cellSlot_keeps | split | apply foldl_keeps | intro _ | fail_if_no_progress refine Keeps.same ?_ rfl | fail_if_no_progress extract_lets | apply getD_keeps | apply elim_keeps | dsimp +zetaDelta only

theorem State.arm_keeps {s0 s : State} (h : Keeps s0 s) (a1) : Keeps s0 (State.arm s a1) := by
  unfold State.arm
  with_reducible repeat' first | exact h | assumption | apply State.wr_keeps | split | apply foldl_keeps | intro _ | fail_if_no_progress refine Keeps.same ?_ rfl | fail_if_no_progress extract_lets | apply getD_keeps | apply elim_keeps | dsimp +zetaDelta only

theorem State.disarm_keeps {s0 s : State} (h : Keeps s0 s) (a1) : Keeps s0 (State.disarm s a1) := by
  unfold State.disarm
  with_reducible repeat' first | exact h | assumption | apply State.wr_keeps | split | apply foldl_keeps | intro _ | fail_if_no_progress refine Keeps.same ?_ rfl | fail_if_no_progress extract_lets | apply getD_keeps | apply elim_keeps | dsimp +zetaDelta only

theorem State.epochBoundary_keeps {s0 s : State} (h : Keeps s0 s) : Keeps s0 (State.epochBoundary s) := by
  unfold State.epochBoundary
  with_reducible repeat' first | exact h | assumption | apply State.wr_keeps | apply State.each_keeps | apply State.modSched_keeps | apply State.flipDue_keeps | apply State.takeFlip_keeps | apply State.measure_keeps | split | apply foldl_keeps | intro _ | fail_if_no_progress refine Keeps.same ?_ rfl | fail_if_no_progress extract_lets | apply getD_keeps | apply elim_keeps | dsimp +zetaDelta only

theorem execEpochBoundary_keeps {s0 s : State} (h : Keeps s0 s) : ∀ t, execEpochBoundary s = .next t → Keeps s0 t := by
  intro t ht
  refine Keeps.ofEq ?_ (Host.Outcome.next.inj ht).symm
  with_reducible repeat' first | exact h | assumption | apply State.epochBoundary_keeps | split | apply foldl_keeps | intro _ | fail_if_no_progress refine Keeps.same ?_ rfl | fail_if_no_progress extract_lets | apply getD_keeps | apply elim_keeps | dsimp +zetaDelta only

theorem State.announceTurn_keeps {s0 s : State} (h : Keeps s0 s) (a1) (a2) (a3) : Keeps s0 (State.announceTurn s a1 a2 a3) := by
  unfold State.announceTurn
  with_reducible repeat' first | exact h | assumption | apply State.sendCtl_keeps | apply State.holdAct_keeps | apply State.raise_keeps | split | apply foldl_keeps | intro _ | fail_if_no_progress refine Keeps.same ?_ rfl | fail_if_no_progress extract_lets | apply getD_keeps | apply elim_keeps | dsimp +zetaDelta only

theorem State.turn_keeps {s0 s : State} (h : Keeps s0 s) (a1) (a2) : Keeps s0 (State.turn s a1 a2) := by
  unfold State.turn
  with_reducible repeat' first | exact h | assumption | apply State.announceTurn_keeps | apply State.raise_keeps | split | apply foldl_keeps | intro _ | fail_if_no_progress refine Keeps.same ?_ rfl | fail_if_no_progress extract_lets | apply getD_keeps | apply elim_keeps | dsimp +zetaDelta only

theorem State.announcePark_keeps {s0 s : State} (h : Keeps s0 s) (a1) (a2) (a3) (a4) : Keeps s0 (State.announcePark s a1 a2 a3 a4) := by
  unfold State.announcePark
  with_reducible repeat' first | exact h | assumption | apply State.sendCtl_keeps | apply State.holdAct_keeps | split | apply foldl_keeps | intro _ | fail_if_no_progress refine Keeps.same ?_ rfl | fail_if_no_progress extract_lets | apply getD_keeps | apply elim_keeps | dsimp +zetaDelta only

theorem State.planAuto_keeps {s0 s : State} (h : Keeps s0 s) (a1) : Keeps s0 (State.planAuto s a1) := by
  unfold State.planAuto
  with_reducible repeat' first | exact h | assumption | apply State.turn_keeps | apply State.announcePark_keeps | split | apply foldl_keeps | intro _ | fail_if_no_progress refine Keeps.same ?_ rfl | fail_if_no_progress extract_lets | apply getD_keeps | apply elim_keeps | dsimp +zetaDelta only

theorem State.planRules_keeps {s0 s : State} (h : Keeps s0 s) (a1) : Keeps s0 (State.planRules s a1) := by
  unfold State.planRules
  with_reducible repeat' first | exact h | assumption | apply State.turn_keeps | apply State.announcePark_keeps | apply State.planAuto_keeps | split | apply foldl_keeps | intro _ | fail_if_no_progress refine Keeps.same ?_ rfl | fail_if_no_progress extract_lets | apply getD_keeps | apply elim_keeps | dsimp +zetaDelta only

theorem State.decide1_keeps {s0 s : State} (h : Keeps s0 s) (a1) : Keeps s0 (State.decide1 s a1) := by
  unfold State.decide1
  with_reducible repeat' first | exact h | assumption | apply State.modSched_keeps | apply State.sendCtl_keeps | apply State.planRules_keeps | split | apply foldl_keeps | intro _ | fail_if_no_progress refine Keeps.same ?_ rfl | fail_if_no_progress extract_lets | apply getD_keeps | apply elim_keeps | dsimp +zetaDelta only

theorem execDecisionPoint_keeps {s0 s : State} (h : Keeps s0 s) : ∀ t, execDecisionPoint s = .next t → Keeps s0 t := by
  intro t ht
  refine Keeps.ofEq ?_ (Host.Outcome.next.inj ht).symm
  with_reducible repeat' first | exact h | assumption | apply State.each_keeps | apply State.decide1_keeps | split | apply foldl_keeps | intro _ | fail_if_no_progress refine Keeps.same ?_ rfl | fail_if_no_progress extract_lets | apply getD_keeps | apply elim_keeps | dsimp +zetaDelta only

theorem State.burst_keeps {s0 s : State} (h : Keeps s0 s) (a1) : Keeps s0 (State.burst s a1) := by
  unfold State.burst
  with_reducible repeat' first | exact h | assumption | apply State.modLane_keeps | split | apply foldl_keeps | intro _ | fail_if_no_progress refine Keeps.same ?_ rfl | fail_if_no_progress extract_lets | apply getD_keeps | apply elim_keeps | dsimp +zetaDelta only

theorem State.setLaneState_keeps {s0 s : State} (h : Keeps s0 s) (a1) (a2) : Keeps s0 (State.setLaneState s a1 a2) := by
  unfold State.setLaneState
  with_reducible repeat' first | exact h | assumption | apply State.wr_keeps | split | apply foldl_keeps | intro _ | fail_if_no_progress refine Keeps.same ?_ rfl | fail_if_no_progress extract_lets | apply getD_keeps | apply elim_keeps | dsimp +zetaDelta only

theorem State.setTaps_keeps {s0 s : State} (h : Keeps s0 s) (a1) (a2) (a3) (a4) : Keeps s0 (State.setTaps s a1 a2 a3 a4) := by
  unfold State.setTaps
  with_reducible repeat' first | exact h | assumption | apply State.wr_keeps | split | apply foldl_keeps | intro _ | fail_if_no_progress refine Keeps.same ?_ rfl | fail_if_no_progress extract_lets | apply getD_keeps | apply elim_keeps | dsimp +zetaDelta only

theorem State.presetTaps_keeps {s0 s : State} (h : Keeps s0 s) (a1) (a2) : Keeps s0 (State.presetTaps s a1 a2) := by
  unfold State.presetTaps
  with_reducible repeat' first | exact h | assumption | apply State.setTaps_keeps | apply State.wr_keeps | split | apply foldl_keeps | intro _ | fail_if_no_progress refine Keeps.same ?_ rfl | fail_if_no_progress extract_lets | apply getD_keeps | apply elim_keeps | dsimp +zetaDelta only

theorem State.frameOf_keeps {s0 s : State} (h : Keeps s0 s) (a1) : Keeps s0 (State.frameOf s a1).2 := by
  unfold State.frameOf
  with_reducible repeat' first | exact h | assumption | apply State.fresh_keeps | apply State.modLane_keeps | split | apply foldl_keeps | intro _ | fail_if_no_progress refine Keeps.same ?_ rfl | fail_if_no_progress extract_lets | apply getD_keeps | apply elim_keeps | dsimp +zetaDelta only

theorem State.trainBlock_keeps {s0 s : State} (h : Keeps s0 s) (a1) : Keeps s0 (State.trainBlock s a1) := by
  unfold State.trainBlock
  with_reducible repeat' first | exact h | assumption | apply State.modLane_keeps | apply State.sendMarker_keeps | apply State.frameOf_keeps | apply State.sendData_keeps | split | apply foldl_keeps | intro _ | fail_if_no_progress refine Keeps.same ?_ rfl | fail_if_no_progress extract_lets | apply getD_keeps | apply elim_keeps | dsimp +zetaDelta only

theorem State.startFrames_keeps {s0 s : State} (h : Keeps s0 s) (a1) : Keeps s0 (State.startFrames s a1) := by
  unfold State.startFrames
  with_reducible repeat' first | exact h | assumption | apply State.laneSend_keeps | apply State.modLane_keeps | apply State.trainBlock_keeps | split | apply foldl_keeps | intro _ | fail_if_no_progress refine Keeps.same ?_ rfl | fail_if_no_progress extract_lets | apply getD_keeps | apply elim_keeps | dsimp +zetaDelta only

theorem State.direct_keeps {s0 s : State} (h : Keeps s0 s) (a1) (a2) : Keeps s0 (State.direct s a1 a2) := by
  unfold State.direct
  with_reducible repeat' first | exact h | assumption | apply State.eachIn_keeps | apply State.storeRx_keeps | apply State.wr_keeps | apply State.modLane_keeps | apply State.startFrames_keeps | apply State.laneSend_keeps | split | apply foldl_keeps | intro _ | fail_if_no_progress refine Keeps.same ?_ rfl | fail_if_no_progress extract_lets | apply getD_keeps | apply elim_keeps | dsimp +zetaDelta only

theorem State.trainAt_keeps {s0 s : State} (h : Keeps s0 s) (a1) (a2) : Keeps s0 (State.trainAt s a1 a2) := by
  unfold State.trainAt
  with_reducible repeat' first | exact h | assumption | apply State.eachIn_keeps | apply State.wr_keeps | apply State.setReg_keeps | apply State.presetTaps_keeps | apply State.modLink_keeps | apply State.direct_keeps | apply State.laneSend_keeps | split | apply foldl_keeps | intro _ | fail_if_no_progress refine Keeps.same ?_ rfl | fail_if_no_progress extract_lets | apply getD_keeps | apply elim_keeps | dsimp +zetaDelta only

theorem State.trainFail_keeps {s0 s : State} (h : Keeps s0 s) (a1) : Keeps s0 (State.trainFail s a1) := by
  unfold State.trainFail
  with_reducible repeat' first | exact h | assumption | apply State.modLink_keeps | apply State.trainGiveUp_keeps | apply State.linkDown_keeps | apply State.wr_keeps | split | apply foldl_keeps | intro _ | fail_if_no_progress refine Keeps.same ?_ rfl | fail_if_no_progress extract_lets | apply getD_keeps | apply elim_keeps | dsimp +zetaDelta only

theorem State.fallGait_keeps {s0 s : State} (h : Keeps s0 s) (a1) : Keeps s0 (State.fallGait s a1) := by
  unfold State.fallGait
  with_reducible repeat' first | exact h | assumption | apply State.trainFail_keeps | apply State.trainAt_keeps | split | apply foldl_keeps | intro _ | fail_if_no_progress refine Keeps.same ?_ rfl | fail_if_no_progress extract_lets | apply getD_keeps | apply elim_keeps | dsimp +zetaDelta only

theorem State.sendOffer_keeps {s0 s : State} (h : Keeps s0 s) (a1) : Keeps s0 (State.sendOffer s a1) := by
  unfold State.sendOffer
  with_reducible repeat' first | exact h | assumption | apply State.sendCtl_keeps | split | apply foldl_keeps | intro _ | fail_if_no_progress refine Keeps.same ?_ rfl | fail_if_no_progress extract_lets | apply getD_keeps | apply elim_keeps | dsimp +zetaDelta only

theorem State.trainedUp_keeps {s0 s : State} (h : Keeps s0 s) (a1) : Keeps s0 (State.trainedUp s a1) := by
  unfold State.trainedUp
  with_reducible repeat' first | exact h | assumption | apply State.setLink_keeps | apply State.eachIn_keeps | apply State.setLaneState_keeps | apply State.wr_keeps | apply State.stripe_keeps | apply State.laneSend_keeps | apply State.modLane_keeps | apply State.sendOffer_keeps | split | apply foldl_keeps | intro _ | fail_if_no_progress refine Keeps.same ?_ rfl | fail_if_no_progress extract_lets | apply getD_keeps | apply elim_keeps | dsimp +zetaDelta only

theorem State.failUnlocked_keeps {s0 s : State} (h : Keeps s0 s) (a1) (a2) : Keeps s0 (State.failUnlocked s a1 a2) := by
  unfold State.failUnlocked
  with_reducible repeat' first | exact h | assumption | apply State.eachIn_keeps | apply State.setLaneState_keeps | apply State.laneSend_keeps | split | apply foldl_keeps | intro _ | fail_if_no_progress refine Keeps.same ?_ rfl | fail_if_no_progress extract_lets | apply getD_keeps | apply elim_keeps | dsimp +zetaDelta only

theorem State.targetDone_keeps {s0 s : State} (h : Keeps s0 s) (a1) (a2) (a3) (k : Keeps s0 a3) : Keeps s0 (State.targetDone s a1 a2 a3) := by
  unfold State.targetDone
  split
  · exact State.fallGait_keeps h _
  · split
    · exact h
    · exact k

lemma State.takeWord_keeps {s0 s : State} (h : Keeps s0 s) (a1) (a2) (a3) (a4) : ∀ w t, State.takeWord s a1 a2 a3 a4 = some (w, t) → Keeps s0 t := by
  intro w t ht
  unfold State.takeWord at ht
  extract_lets l o w' first short locked noise word u at ht
  split at ht
  · cases ht
  · cases ht
    exact State.modLink_keeps (State.eachIn_keeps h _ _ fun _ _ k => State.modLane_keeps k _ _) _ _

theorem State.trainStep_keeps {s0 s : State} (h : Keeps s0 s) (a1) (a2) : Keeps s0 (State.trainStep s a1 a2) := by
  unfold State.trainStep
  with_reducible repeat' first | exact h | assumption | apply State.failUnlocked_keeps | apply State.trainFail_keeps | apply State.modLink_keeps | apply State.direct_keeps | apply State.eachIn_keeps | apply State.modLane_keeps | apply State.trainAt_keeps | apply State.targetDone_keeps | apply State.trainedUp_keeps | split | apply foldl_keeps | intro _ | fail_if_no_progress refine Keeps.same ?_ rfl | fail_if_no_progress extract_lets | apply getD_keeps | apply elim_keeps | dsimp +zetaDelta only

theorem execTrainingStepDone_keeps {s0 s : State} (h : Keeps s0 s) (a0) (a1) : ∀ t, execTrainingStepDone a0 a1 s = .next t → Keeps s0 t := by
  intro t ht
  refine Keeps.ofEq ?_ (Host.Outcome.next.inj ht).symm
  with_reducible repeat' first | exact h | assumption | apply State.trainStep_keeps | split | apply foldl_keeps | intro _ | fail_if_no_progress refine Keeps.same ?_ rfl | fail_if_no_progress extract_lets | apply getD_keeps | apply elim_keeps | dsimp +zetaDelta only

theorem State.lanePllLock_keeps {s0 s : State} (h : Keeps s0 s) (a1) : Keeps s0 (State.lanePllLock s a1) := by
  unfold State.lanePllLock
  with_reducible repeat' first | exact h | assumption | apply State.wr_keeps | apply State.eachIn_keeps | apply State.setLaneState_keeps | apply State.presetTaps_keeps | apply State.direct_keeps | apply State.modLink_keeps | split | apply foldl_keeps | intro _ | fail_if_no_progress refine Keeps.same ?_ rfl | fail_if_no_progress extract_lets | apply getD_keeps | apply elim_keeps | dsimp +zetaDelta only

theorem State.takeRequest_keeps {s0 s : State} (h : Keeps s0 s) (a1) (a2) : Keeps s0 (State.takeRequest s a1 a2) := by
  unfold State.takeRequest
  with_reducible repeat' first | exact h | assumption | apply State.modLane_keeps | apply State.presetTaps_keeps | apply State.setTaps_keeps | split | apply foldl_keeps | intro _ | fail_if_no_progress refine Keeps.same ?_ rfl | fail_if_no_progress extract_lets | apply getD_keeps | apply elim_keeps | dsimp +zetaDelta only

theorem State.frameIn_keeps {s0 s : State} (h : Keeps s0 s) (a1) (a2) (a3) : Keeps s0 (State.frameIn s a1 a2 a3) := by
  unfold State.frameIn
  with_reducible repeat' first | exact h | assumption | apply State.modLink_keeps | apply State.modLane_keeps | apply State.takeRequest_keeps | apply State.fallGait_keeps | split | apply foldl_keeps | intro _ | fail_if_no_progress refine Keeps.same ?_ rfl | fail_if_no_progress extract_lets | apply getD_keeps | apply elim_keeps | dsimp +zetaDelta only

theorem State.trainFrame_keeps {s0 s : State} (h : Keeps s0 s) (a1) (a2) (a3) : Keeps s0 (State.trainFrame s a1 a2 a3) := by
  unfold State.trainFrame
  with_reducible repeat' first | exact h | assumption | apply State.takeData_keeps | apply State.frameIn_keeps | apply State.trainBlock_keeps | split | apply foldl_keeps | intro _ | fail_if_no_progress refine Keeps.same ?_ rfl | fail_if_no_progress extract_lets | apply getD_keeps | apply elim_keeps | dsimp +zetaDelta only

theorem execTrainingFrameReceive_keeps {s0 s : State} (h : Keeps s0 s) (a0) (a1) (a2) (a3) : ∀ t, execTrainingFrameReceive a0 a1 a2 a3 s = .next t → Keeps s0 t := by
  intro t ht
  refine Keeps.ofEq ?_ (Host.Outcome.next.inj ht).symm
  with_reducible repeat' first | exact h | assumption | apply State.trainFrame_keeps | split | apply foldl_keeps | intro _ | fail_if_no_progress refine Keeps.same ?_ rfl | fail_if_no_progress extract_lets | apply getD_keeps | apply elim_keeps | dsimp +zetaDelta only

theorem State.qualEnd_keeps {s0 s : State} (h : Keeps s0 s) (a1) (a2) (a3) : Keeps s0 (State.qualEnd s a1 a2 a3) := by
  unfold State.qualEnd
  with_reducible repeat' first | exact h | assumption | apply State.modLane_keeps | apply State.raise_keeps | apply State.fallGait_keeps | split | apply foldl_keeps | intro _ | fail_if_no_progress refine Keeps.same ?_ rfl | fail_if_no_progress extract_lets | apply getD_keeps | apply elim_keeps | dsimp +zetaDelta only

theorem execQualWindowEnd_keeps {s0 s : State} (h : Keeps s0 s) (a0) (a1) (a2) : ∀ t, execQualWindowEnd a0 a1 a2 s = .next t → Keeps s0 t := by
  intro t ht
  refine Keeps.ofEq ?_ (Host.Outcome.next.inj ht).symm
  with_reducible repeat' first | exact h | assumption | apply State.qualEnd_keeps | split | apply foldl_keeps | intro _ | fail_if_no_progress refine Keeps.same ?_ rfl | fail_if_no_progress extract_lets | apply getD_keeps | apply elim_keeps | dsimp +zetaDelta only

theorem execTrainingRetry_keeps {s0 s : State} (h : Keeps s0 s) (a0) : ∀ t, execTrainingRetry a0 s = .next t → Keeps s0 t := by
  intro t ht
  refine Keeps.ofEq ?_ (Host.Outcome.next.inj ht).symm
  with_reducible repeat' first | exact h | assumption | apply State.startTraining_keeps | split | apply foldl_keeps | intro _ | fail_if_no_progress refine Keeps.same ?_ rfl | fail_if_no_progress extract_lets | apply getD_keeps | apply elim_keeps | dsimp +zetaDelta only

theorem State.retrainIfEmpty_keeps {s0 s : State} (h : Keeps s0 s) (a1) : Keeps s0 (State.retrainIfEmpty s a1) := by
  unfold State.retrainIfEmpty
  with_reducible repeat' first | exact h | assumption | apply State.linkDown_keeps | apply State.startTraining_keeps | split | apply foldl_keeps | intro _ | fail_if_no_progress refine Keeps.same ?_ rfl | fail_if_no_progress extract_lets | apply getD_keeps | apply elim_keeps | dsimp +zetaDelta only

theorem State.retrainLane_keeps {s0 s : State} (h : Keeps s0 s) (a1) (a2) : Keeps s0 (State.retrainLane s a1 a2) := by
  unfold State.retrainLane
  with_reducible repeat' first | exact h | assumption | apply State.storeRx_keeps | apply State.abortScan_keeps | apply State.unstripe_keeps | apply State.setLaneState_keeps | apply State.wr_keeps | apply State.modLane_keeps | apply State.startFrames_keeps | apply State.laneSend_keeps | split | apply foldl_keeps | intro _ | fail_if_no_progress refine Keeps.same ?_ rfl | fail_if_no_progress extract_lets | apply getD_keeps | apply elim_keeps | dsimp +zetaDelta only

theorem State.lockLoss_keeps {s0 s : State} (h : Keeps s0 s) (a1) : Keeps s0 (State.lockLoss s a1) := by
  unfold State.lockLoss
  with_reducible repeat' first | exact h | assumption | apply State.wr_keeps | apply State.modLane_keeps | apply State.raise_keeps | apply State.sendCtl_keeps | apply State.abortScan_keeps | apply State.linkDown_keeps | apply State.startTraining_keeps | split | apply foldl_keeps | intro _ | fail_if_no_progress refine Keeps.same ?_ rfl | fail_if_no_progress extract_lets | apply getD_keeps | apply elim_keeps | dsimp +zetaDelta only

theorem State.markerMissed_keeps {s0 s : State} (h : Keeps s0 s) (a1) : Keeps s0 (State.markerMissed s a1) := by
  unfold State.markerMissed
  with_reducible repeat' first | exact h | assumption | apply State.modLane_keeps | apply State.lockLoss_keeps | split | apply foldl_keeps | intro _ | fail_if_no_progress refine Keeps.same ?_ rfl | fail_if_no_progress extract_lets | apply getD_keeps | apply elim_keeps | dsimp +zetaDelta only

theorem State.markerIn_keeps {s0 s : State} (h : Keeps s0 s) (a1) (a2) (a3) (a4) : Keeps s0 (State.markerIn s a1 a2 a3 a4) := by
  unfold State.markerIn
  with_reducible repeat' first | exact h | assumption | apply State.wr_keeps | apply State.modLane_keeps | apply State.modLink_keeps | split | apply foldl_keeps | intro _ | fail_if_no_progress refine Keeps.same ?_ rfl | fail_if_no_progress extract_lets | apply getD_keeps | apply elim_keeps | dsimp +zetaDelta only

theorem State.marker_keeps {s0 s : State} (h : Keeps s0 s) (a1) (a2) (a3) (a4) : Keeps s0 (State.marker s a1 a2 a3 a4) := by
  unfold State.marker
  with_reducible repeat' first | exact h | assumption | apply State.raise_keeps | apply State.takeData_keeps | apply State.markerIn_keeps | apply State.lockLoss_keeps | apply State.markerMissed_keeps | apply State.modLane_keeps | split | apply foldl_keeps | intro _ | fail_if_no_progress refine Keeps.same ?_ rfl | fail_if_no_progress extract_lets | apply getD_keeps | apply elim_keeps | dsimp +zetaDelta only

theorem execMarkerBlockReceive_keeps {s0 s : State} (h : Keeps s0 s) (a0) (a1) (a2) (a3) (a4) (a5) : ∀ t, execMarkerBlockReceive a0 a1 a2 a3 a4 a5 s = .next t → Keeps s0 t := by
  intro t ht
  refine Keeps.ofEq ?_ (Host.Outcome.next.inj ht).symm
  with_reducible repeat' first | exact h | assumption | apply State.marker_keeps | split | apply foldl_keeps | intro _ | fail_if_no_progress refine Keeps.same ?_ rfl | fail_if_no_progress extract_lets | apply getD_keeps | apply elim_keeps | dsimp +zetaDelta only

theorem State.dataBlock_keeps {s0 s : State} (h : Keeps s0 s) (a1) (a2) (a3) : Keeps s0 (State.dataBlock s a1 a2 a3) := by
  unfold State.dataBlock
  with_reducible repeat' first | exact h | assumption | apply State.markerMissed_keeps | apply State.raise_keeps | apply State.takeData_keeps | split | apply foldl_keeps | intro _ | fail_if_no_progress refine Keeps.same ?_ rfl | fail_if_no_progress extract_lets | apply getD_keeps | apply elim_keeps | dsimp +zetaDelta only

theorem execDataBlockReceive_keeps {s0 s : State} (h : Keeps s0 s) (a0) (a1) : ∀ t, execDataBlockReceive a0 a1 s = .next t → Keeps s0 t := by
  intro t ht
  refine Keeps.ofEq ?_ (Host.Outcome.next.inj ht).symm
  with_reducible repeat' first | exact h | assumption | apply State.dataBlock_keeps | split | apply foldl_keeps | intro _ | fail_if_no_progress refine Keeps.same ?_ rfl | fail_if_no_progress extract_lets | apply getD_keeps | apply elim_keeps | dsimp +zetaDelta only

theorem State.laneCorrected_keeps {s0 s : State} (h : Keeps s0 s) (a1) (a2) : Keeps s0 (State.laneCorrected s a1 a2) := by
  unfold State.laneCorrected
  with_reducible repeat' first | exact h | assumption | apply State.satAdd_keeps | apply State.modLane_keeps | apply State.raise_keeps | split | apply foldl_keeps | intro _ | fail_if_no_progress refine Keeps.same ?_ rfl | fail_if_no_progress extract_lets | apply getD_keeps | apply elim_keeps | dsimp +zetaDelta only

theorem State.codewordGood_keeps {s0 s : State} (h : Keeps s0 s) (a1) (a2) (a3) (a4) : Keeps s0 (State.codewordGood s a1 a2 a3 a4) := by
  unfold State.codewordGood
  with_reducible repeat' first | exact h | assumption | apply State.modSched_keeps | apply State.eachIn_keeps | apply State.laneCorrected_keeps | apply State.satAdd_keeps | apply State.modLink_keeps | split | apply foldl_keeps | intro _ | fail_if_no_progress refine Keeps.same ?_ rfl | fail_if_no_progress extract_lets | apply getD_keeps | apply elim_keeps | dsimp +zetaDelta only

theorem State.codewordBad_keeps {s0 s : State} (h : Keeps s0 s) (a1) : Keeps s0 (State.codewordBad s a1) := by
  unfold State.codewordBad
  with_reducible repeat' first | exact h | assumption | apply State.modSched_keeps | apply State.satAdd_keeps | apply State.raise_keeps | split | apply foldl_keeps | intro _ | fail_if_no_progress refine Keeps.same ?_ rfl | fail_if_no_progress extract_lets | apply getD_keeps | apply elim_keeps | dsimp +zetaDelta only

theorem State.codeword_keeps {s0 s : State} (h : Keeps s0 s) (a1) (a2) (a3) (a4) : Keeps s0 (State.codeword s a1 a2 a3 a4) := by
  unfold State.codeword
  split
  · exact h
  · split
    · exact h
    · next heq =>
      have k := State.takeWord_keeps h _ _ _ _ _ _ heq
      split
      · exact State.codewordGood_keeps k _ _ _ _
      · exact State.codewordBad_keeps k _

theorem execCodewordReceive_keeps {s0 s : State} (h : Keeps s0 s) (a0) (a1) (a2) (a3) : ∀ t, execCodewordReceive a0 a1 a2 a3 s = .next t → Keeps s0 t := by
  intro t ht
  refine Keeps.ofEq ?_ (Host.Outcome.next.inj ht).symm
  with_reducible repeat' first | exact h | assumption | apply State.codeword_keeps | split | apply foldl_keeps | intro _ | fail_if_no_progress refine Keeps.same ?_ rfl | fail_if_no_progress extract_lets | apply getD_keeps | apply elim_keeps | dsimp +zetaDelta only

theorem State.beginExit_keeps {s0 s : State} (h : Keeps s0 s) (a1) (a2) : Keeps s0 (State.beginExit s a1 a2) := by
  unfold State.beginExit
  with_reducible repeat' first | exact h | assumption | apply State.loadSets_keeps | apply State.modLink_keeps | apply State.laneSend_keeps | split | apply foldl_keeps | intro _ | fail_if_no_progress refine Keeps.same ?_ rfl | fail_if_no_progress extract_lets | apply getD_keeps | apply elim_keeps | dsimp +zetaDelta only

theorem State.undeclaredOff_keeps {s0 s : State} (h : Keeps s0 s) (a1) : Keeps s0 (State.undeclaredOff s a1) := by
  unfold State.undeclaredOff
  with_reducible repeat' first | exact h | assumption | apply State.unstripe_keeps | apply State.setLaneState_keeps | apply State.laneSend_keeps | split | apply foldl_keeps | intro _ | fail_if_no_progress refine Keeps.same ?_ rfl | fail_if_no_progress extract_lets | apply getD_keeps | apply elim_keeps | dsimp +zetaDelta only

theorem State.turnLane_keeps {s0 s : State} (h : Keeps s0 s) (a1) (a2) : Keeps s0 (State.turnLane s a1 a2) := by
  unfold State.turnLane
  with_reducible repeat' first | exact h | assumption | apply State.storeRx_keeps | apply State.abortScan_keeps | apply State.unstripe_keeps | apply State.setLaneState_keeps | apply State.wr_keeps | apply State.laneSend_keeps | apply State.loadSets_keeps | apply State.modLane_keeps | apply State.modSched_keeps | apply State.modLink_keeps | split | apply foldl_keeps | intro _ | fail_if_no_progress refine Keeps.same ?_ rfl | fail_if_no_progress extract_lets | apply getD_keeps | apply elim_keeps | dsimp +zetaDelta only

theorem State.announceExit_keeps {s0 s : State} (h : Keeps s0 s) (a1) (a2) (a3) : Keeps s0 (State.announceExit s a1 a2 a3) := by
  unfold State.announceExit
  with_reducible repeat' first | exact h | assumption | apply State.sendCtl_keeps | apply State.holdAct_keeps | split | apply foldl_keeps | intro _ | fail_if_no_progress refine Keeps.same ?_ rfl | fail_if_no_progress extract_lets | apply getD_keeps | apply elim_keeps | dsimp +zetaDelta only

theorem State.nextRejoin_keeps {s0 s : State} (h : Keeps s0 s) (a1) : Keeps s0 (State.nextRejoin s a1) := by
  unfold State.nextRejoin
  with_reducible repeat' first | exact h | assumption | apply State.modLink_keeps | apply State.announceExit_keeps | split | apply foldl_keeps | intro _ | fail_if_no_progress refine Keeps.same ?_ rfl | fail_if_no_progress extract_lets | apply getD_keeps | apply elim_keeps | dsimp +zetaDelta only

theorem State.rejoined_keeps {s0 s : State} (h : Keeps s0 s) (a1) : Keeps s0 (State.rejoined s a1) := by
  unfold State.rejoined
  with_reducible repeat' first | exact h | assumption | apply State.endAct_keeps | apply State.nextRejoin_keeps | split | apply foldl_keeps | intro _ | fail_if_no_progress refine Keeps.same ?_ rfl | fail_if_no_progress extract_lets | apply getD_keeps | apply elim_keeps | dsimp +zetaDelta only

theorem State.joinLane_keeps {s0 s : State} (h : Keeps s0 s) (a1) (a2) : Keeps s0 (State.joinLane s a1 a2) := by
  unfold State.joinLane
  with_reducible repeat' first | exact h | assumption | apply State.undeclaredOff_keeps | apply State.rejoined_keeps | apply State.stripe_keeps | apply State.wr_keeps | apply State.modLink_keeps | apply State.sendJoin_keeps | apply State.laneSend_keeps | split | apply foldl_keeps | intro _ | fail_if_no_progress refine Keeps.same ?_ rfl | fail_if_no_progress extract_lets | apply getD_keeps | apply elim_keeps | dsimp +zetaDelta only

theorem State.exitLane_keeps {s0 s : State} (h : Keeps s0 s) (a1) (a2) : Keeps s0 (State.exitLane s a1 a2) := by
  unfold State.exitLane
  with_reducible repeat' first | exact h | assumption | apply State.beginExit_keeps | apply State.joinLane_keeps | split | apply foldl_keeps | intro _ | fail_if_no_progress refine Keeps.same ?_ rfl | fail_if_no_progress extract_lets | apply getD_keeps | apply elim_keeps | dsimp +zetaDelta only

theorem State.giveLane_keeps {s0 s : State} (h : Keeps s0 s) (a1) : Keeps s0 (State.giveLane s a1) := by
  unfold State.giveLane
  with_reducible repeat' first | exact h | assumption | apply State.modLink_keeps | apply State.exitLane_keeps | apply State.turnLane_keeps | apply State.retrainLane_keeps | apply State.storeRx_keeps | apply State.abortScan_keeps | apply State.undeclaredOff_keeps | apply State.endAct_keeps | apply State.retrainIfEmpty_keeps | split | apply foldl_keeps | intro _ | fail_if_no_progress refine Keeps.same ?_ rfl | fail_if_no_progress extract_lets | apply getD_keeps | apply elim_keeps | dsimp +zetaDelta only

theorem execGiveLane_keeps {s0 s : State} (h : Keeps s0 s) (a0) : ∀ t, execGiveLane a0 s = .next t → Keeps s0 t := by
  intro t ht
  refine Keeps.ofEq ?_ (Host.Outcome.next.inj ht).symm
  with_reducible repeat' first | exact h | assumption | apply State.giveLane_keeps | split | apply foldl_keeps | intro _ | fail_if_no_progress refine Keeps.same ?_ rfl | fail_if_no_progress extract_lets | apply getD_keeps | apply elim_keeps | dsimp +zetaDelta only

theorem State.lockPatternEnd_keeps {s0 s : State} (h : Keeps s0 s) (a1) : Keeps s0 (State.lockPatternEnd s a1) := by
  unfold State.lockPatternEnd
  with_reducible repeat' first | exact h | assumption | apply State.joinLane_keeps | split | apply foldl_keeps | intro _ | fail_if_no_progress refine Keeps.same ?_ rfl | fail_if_no_progress extract_lets | apply getD_keeps | apply elim_keeps | dsimp +zetaDelta only

theorem execLockPatternEnd_keeps {s0 s : State} (h : Keeps s0 s) (a0) : ∀ t, execLockPatternEnd a0 s = .next t → Keeps s0 t := by
  intro t ht
  refine Keeps.ofEq ?_ (Host.Outcome.next.inj ht).symm
  with_reducible repeat' first | exact h | assumption | apply State.lockPatternEnd_keeps | split | apply foldl_keeps | intro _ | fail_if_no_progress refine Keeps.same ?_ rfl | fail_if_no_progress extract_lets | apply getD_keeps | apply elim_keeps | dsimp +zetaDelta only

theorem State.joinIn_keeps {s0 s : State} (h : Keeps s0 s) (a1) (a2) (a3) : Keeps s0 (State.joinIn s a1 a2 a3) := by
  unfold State.joinIn
  with_reducible repeat' first | exact h | assumption | apply State.stripe_keeps | apply State.wr_keeps | apply State.modLane_keeps | split | apply foldl_keeps | intro _ | fail_if_no_progress refine Keeps.same ?_ rfl | fail_if_no_progress extract_lets | apply getD_keeps | apply elim_keeps | dsimp +zetaDelta only

theorem State.joinMarker_keeps {s0 s : State} (h : Keeps s0 s) (a1) (a2) : Keeps s0 (State.joinMarker s a1 a2) := by
  unfold State.joinMarker
  with_reducible repeat' first | exact h | assumption | apply State.joinIn_keeps | apply State.wrapAdd_keeps | apply State.sendCtl_keeps | apply State.rejoined_keeps | split | apply foldl_keeps | intro _ | fail_if_no_progress refine Keeps.same ?_ rfl | fail_if_no_progress extract_lets | apply getD_keeps | apply elim_keeps | dsimp +zetaDelta only

theorem execJoinMarkerReceive_keeps {s0 s : State} (h : Keeps s0 s) (a0) (a1) : ∀ t, execJoinMarkerReceive a0 a1 s = .next t → Keeps s0 t := by
  intro t ht
  refine Keeps.ofEq ?_ (Host.Outcome.next.inj ht).symm
  with_reducible repeat' first | exact h | assumption | apply State.joinMarker_keeps | split | apply foldl_keeps | intro _ | fail_if_no_progress refine Keeps.same ?_ rfl | fail_if_no_progress extract_lets | apply getD_keeps | apply elim_keeps | dsimp +zetaDelta only

theorem State.planFail_keeps {s0 s : State} (h : Keeps s0 s) (a1) : Keeps s0 (State.planFail s a1) := by
  unfold State.planFail
  with_reducible repeat' first | exact h | assumption | apply State.raise_keeps | split | apply foldl_keeps | intro _ | fail_if_no_progress refine Keeps.same ?_ rfl | fail_if_no_progress extract_lets | apply getD_keeps | apply elim_keeps | dsimp +zetaDelta only

theorem State.leadFail_keeps {s0 s : State} (h : Keeps s0 s) (a1) : Keeps s0 (State.leadFail s a1) := by
  unfold State.leadFail
  with_reducible repeat' first | exact h | assumption | apply State.raise_keeps | apply State.sendCtl_keeps | apply State.modSched_keeps | apply State.retrainLane_keeps | apply State.planFail_keeps | apply State.endAct_keeps | apply State.rejoined_keeps | split | apply foldl_keeps | intro _ | fail_if_no_progress refine Keeps.same ?_ rfl | fail_if_no_progress extract_lets | apply getD_keeps | apply elim_keeps | dsimp +zetaDelta only

theorem execLeadFail_keeps {s0 s : State} (h : Keeps s0 s) (a0) : ∀ t, execLeadFail a0 s = .next t → Keeps s0 t := by
  intro t ht
  refine Keeps.ofEq ?_ (Host.Outcome.next.inj ht).symm
  with_reducible repeat' first | exact h | assumption | apply State.leadFail_keeps | split | apply foldl_keeps | intro _ | fail_if_no_progress refine Keeps.same ?_ rfl | fail_if_no_progress extract_lets | apply getD_keeps | apply elim_keeps | dsimp +zetaDelta only

theorem State.retrainDone_keeps {s0 s : State} (h : Keeps s0 s) (a1) (a2) : Keeps s0 (State.retrainDone s a1 a2) := by
  unfold State.retrainDone
  with_reducible repeat' first | exact h | assumption | apply State.setLaneState_keeps | apply State.laneSend_keeps | apply State.stripe_keeps | apply State.sendJoin_keeps | apply State.modLane_keeps | split | apply foldl_keeps | intro _ | fail_if_no_progress refine Keeps.same ?_ rfl | fail_if_no_progress extract_lets | apply getD_keeps | apply elim_keeps | dsimp +zetaDelta only

theorem execLaneRetrainDone_keeps {s0 s : State} (h : Keeps s0 s) (a0) (a1) : ∀ t, execLaneRetrainDone a0 a1 s = .next t → Keeps s0 t := by
  intro t ht
  refine Keeps.ofEq ?_ (Host.Outcome.next.inj ht).symm
  with_reducible repeat' first | exact h | assumption | apply State.retrainDone_keeps | split | apply foldl_keeps | intro _ | fail_if_no_progress refine Keeps.same ?_ rfl | fail_if_no_progress extract_lets | apply getD_keeps | apply elim_keeps | dsimp +zetaDelta only

theorem State.lowPowerEnter_keeps {s0 s : State} (h : Keeps s0 s) (a1) : Keeps s0 (State.lowPowerEnter s a1) := by
  unfold State.lowPowerEnter
  with_reducible repeat' first | exact h | assumption | apply State.modLink_keeps | apply State.storeRx_keeps | apply State.abortScan_keeps | apply State.unstripe_keeps | apply State.setLaneState_keeps | apply State.laneSend_keeps | apply State.endAct_keeps | apply State.wr_keeps | apply State.wakeLink_keeps | apply State.nextRejoin_keeps | split | apply foldl_keeps | intro _ | fail_if_no_progress refine Keeps.same ?_ rfl | fail_if_no_progress extract_lets | apply getD_keeps | apply elim_keeps | dsimp +zetaDelta only

theorem execLowPowerEnter_keeps {s0 s : State} (h : Keeps s0 s) (a0) : ∀ t, execLowPowerEnter a0 s = .next t → Keeps s0 t := by
  intro t ht
  refine Keeps.ofEq ?_ (Host.Outcome.next.inj ht).symm
  with_reducible repeat' first | exact h | assumption | apply State.lowPowerEnter_keeps | split | apply foldl_keeps | intro _ | fail_if_no_progress refine Keeps.same ?_ rfl | fail_if_no_progress extract_lets | apply getD_keeps | apply elim_keeps | dsimp +zetaDelta only

theorem State.lowPowerExit_keeps {s0 s : State} (h : Keeps s0 s) (a1) : Keeps s0 (State.lowPowerExit s a1) := by
  unfold State.lowPowerExit
  with_reducible repeat' first | exact h | assumption | apply State.rejoined_keeps | apply State.exitLane_keeps | split | apply foldl_keeps | intro _ | fail_if_no_progress refine Keeps.same ?_ rfl | fail_if_no_progress extract_lets | apply getD_keeps | apply elim_keeps | dsimp +zetaDelta only

theorem execLowPowerExit_keeps {s0 s : State} (h : Keeps s0 s) (a0) : ∀ t, execLowPowerExit a0 s = .next t → Keeps s0 t := by
  intro t ht
  refine Keeps.ofEq ?_ (Host.Outcome.next.inj ht).symm
  with_reducible repeat' first | exact h | assumption | apply State.lowPowerExit_keeps | split | apply foldl_keeps | intro _ | fail_if_no_progress refine Keeps.same ?_ rfl | fail_if_no_progress extract_lets | apply getD_keeps | apply elim_keeps | dsimp +zetaDelta only

theorem State.sendWake_keeps {s0 s : State} (h : Keeps s0 s) (a1) : Keeps s0 (State.sendWake s a1) := by
  unfold State.sendWake
  with_reducible repeat' first | exact h | assumption | apply State.eachIn_keeps | apply State.laneSend_keeps | split | apply foldl_keeps | intro _ | fail_if_no_progress refine Keeps.same ?_ rfl | fail_if_no_progress extract_lets | apply getD_keeps | apply elim_keeps | dsimp +zetaDelta only

theorem execWakePatternRepeat_keeps {s0 s : State} (h : Keeps s0 s) (a0) : ∀ t, execWakePatternRepeat a0 s = .next t → Keeps s0 t := by
  intro t ht
  refine Keeps.ofEq ?_ (Host.Outcome.next.inj ht).symm
  with_reducible repeat' first | exact h | assumption | apply State.sendWake_keeps | split | apply foldl_keeps | intro _ | fail_if_no_progress refine Keeps.same ?_ rfl | fail_if_no_progress extract_lets | apply getD_keeps | apply elim_keeps | dsimp +zetaDelta only

theorem State.unpark_keeps {s0 s : State} (h : Keeps s0 s) (a1) : Keeps s0 (State.unpark s a1) := by
  unfold State.unpark
  with_reducible repeat' first | exact h | assumption | apply State.eachIn_keeps | apply State.laneSend_keeps | apply State.modLink_keeps | apply State.loadSets_keeps | apply State.stripe_keeps | apply State.wr_keeps | apply State.modLane_keeps | apply State.nextRejoin_keeps | split | apply foldl_keeps | intro _ | fail_if_no_progress refine Keeps.same ?_ rfl | fail_if_no_progress extract_lets | apply getD_keeps | apply elim_keeps | dsimp +zetaDelta only

theorem State.scanResult_keeps {s0 s : State} (h : Keeps s0 s) (a1) (a2) : Keeps s0 (State.scanResult s a1 a2) := by
  unfold State.scanResult
  with_reducible repeat' first | exact h | assumption | apply State.setReg_keeps | apply State.wr_keeps | apply State.raise_keeps | split | apply foldl_keeps | intro _ | fail_if_no_progress refine Keeps.same ?_ rfl | fail_if_no_progress extract_lets | apply getD_keeps | apply elim_keeps | dsimp +zetaDelta only

theorem State.scanStart_keeps {s0 s : State} (h : Keeps s0 s) (a1) : Keeps s0 (State.scanStart s a1) := by
  unfold State.scanStart
  with_reducible repeat' first | exact h | assumption | apply State.wr_keeps | apply State.scanResult_keeps | split | apply foldl_keeps | intro _ | fail_if_no_progress refine Keeps.same ?_ rfl | fail_if_no_progress extract_lets | apply getD_keeps | apply elim_keeps | dsimp +zetaDelta only

theorem State.scanPoints_keeps {s0 s : State} (h : Keeps s0 s) (a1) (a2) (a3) (a4) : Keeps s0 (State.scanPoints s a1 a2 a3 a4) := by
  induction a3 generalizing s a1 a2 a4 with
  | nil =>
    unfold State.scanPoints
    with_reducible repeat' first | exact h | assumption | apply State.answer_keeps | apply State.wr_keeps | apply State.scanStart_keeps | apply State.setWait_keeps | split | apply foldl_keeps | intro _ | fail_if_no_progress refine Keeps.same ?_ rfl | fail_if_no_progress extract_lets | apply getD_keeps | apply elim_keeps | dsimp +zetaDelta only
  | cons x l ih =>
    unfold State.scanPoints
    with_reducible repeat' first | apply ih | exact h | assumption | apply State.answer_keeps | apply State.wr_keeps | apply State.scanStart_keeps | apply State.setWait_keeps | split | apply foldl_keeps | intro _ | fail_if_no_progress refine Keeps.same ?_ rfl | fail_if_no_progress extract_lets | apply getD_keeps | apply elim_keeps | dsimp +zetaDelta only

theorem State.scanDone_keeps {s0 s : State} (h : Keeps s0 s) (a1) (a2) : Keeps s0 (State.scanDone s a1 a2) := by
  unfold State.scanDone
  with_reducible repeat' first | exact h | assumption | apply State.scanResult_keeps | apply State.scanPoints_keeps | split | apply foldl_keeps | intro _ | fail_if_no_progress refine Keeps.same ?_ rfl | fail_if_no_progress extract_lets | apply getD_keeps | apply elim_keeps | dsimp +zetaDelta only

theorem execEsDone_keeps {s0 s : State} (h : Keeps s0 s) (a0) (a1) : ∀ t, execEsDone a0 a1 s = .next t → Keeps s0 t := by
  intro t ht
  refine Keeps.ofEq ?_ (Host.Outcome.next.inj ht).symm
  with_reducible repeat' first | exact h | assumption | apply State.scanDone_keeps | split | apply foldl_keeps | intro _ | fail_if_no_progress refine Keeps.same ?_ rfl | fail_if_no_progress extract_lets | apply getD_keeps | apply elim_keeps | dsimp +zetaDelta only

theorem State.patDrive_keeps {s0 s : State} (h : Keeps s0 s) (a1) : Keeps s0 (State.patDrive s a1) := by
  unfold State.patDrive
  with_reducible repeat' first | exact h | assumption | apply State.fresh_keeps | apply State.laneSend_keeps | apply State.send_keeps | split | apply foldl_keeps | intro _ | fail_if_no_progress refine Keeps.same ?_ rfl | fail_if_no_progress extract_lets | apply getD_keeps | apply elim_keeps | dsimp +zetaDelta only

theorem State.patAdd_keeps {s0 s : State} (h : Keeps s0 s) (a1) (a2) : Keeps s0 (State.patAdd s a1 a2) := by
  unfold State.patAdd
  with_reducible repeat' first | exact h | assumption | apply State.satAdd_keeps | apply State.wr64_keeps | apply State.modLane_keeps | split | apply foldl_keeps | intro _ | fail_if_no_progress refine Keeps.same ?_ rfl | fail_if_no_progress extract_lets | apply getD_keeps | apply elim_keeps | dsimp +zetaDelta only

theorem State.patCount_keeps {s0 s : State} (h : Keeps s0 s) (a1) : Keeps s0 (State.patCount s a1) := by
  unfold State.patCount
  with_reducible repeat' first | exact h | assumption | apply State.fresh_keeps | apply State.patAdd_keeps | split | apply foldl_keeps | intro _ | fail_if_no_progress refine Keeps.same ?_ rfl | fail_if_no_progress extract_lets | apply getD_keeps | apply elim_keeps | dsimp +zetaDelta only

theorem State.testWrite_keeps {s0 s : State} (h : Keeps s0 s) (a1) (a2) : Keeps s0 (State.testWrite s a1 a2) := by
  unfold State.testWrite
  with_reducible repeat' first | exact h | assumption | apply State.wr_keeps | apply State.setLaneState_keeps | apply State.patDrive_keeps | apply State.raise_keeps | apply State.patCount_keeps | apply State.laneSend_keeps | split | apply foldl_keeps | intro _ | fail_if_no_progress refine Keeps.same ?_ rfl | fail_if_no_progress extract_lets | apply getD_keeps | apply elim_keeps | dsimp +zetaDelta only

theorem State.patWritten_keeps {s0 s : State} (h : Keeps s0 s) (a1) : Keeps s0 (State.patWritten s a1) := by
  unfold State.patWritten
  with_reducible repeat' first | exact h | assumption | apply State.patCount_keeps | apply State.wr_keeps | apply State.patDrive_keeps | split | apply foldl_keeps | intro _ | fail_if_no_progress refine Keeps.same ?_ rfl | fail_if_no_progress extract_lets | apply getD_keeps | apply elim_keeps | dsimp +zetaDelta only

theorem State.patClear_keeps {s0 s : State} (h : Keeps s0 s) (a1) : Keeps s0 (State.patClear s a1) := by
  unfold State.patClear
  with_reducible repeat' first | exact h | assumption | apply State.setReg_keeps | apply State.modLane_keeps | split | apply foldl_keeps | intro _ | fail_if_no_progress refine Keeps.same ?_ rfl | fail_if_no_progress extract_lets | apply getD_keeps | apply elim_keeps | dsimp +zetaDelta only

theorem execPatLocked_keeps {s0 s : State} (h : Keeps s0 s) (a0) : ∀ t, execPatLocked a0 s = .next t → Keeps s0 t := by
  rintro t ⟨⟩
  with_reducible repeat' first | exact h | assumption | apply State.wr_keeps | apply State.modLane_keeps | split | apply foldl_keeps | intro _ | fail_if_no_progress refine Keeps.same ?_ rfl | fail_if_no_progress extract_lets | apply getD_keeps | apply elim_keeps | dsimp +zetaDelta only

theorem execPatLockDrop_keeps {s0 s : State} (h : Keeps s0 s) (a0) (a1) (a2) : ∀ t, execPatLockDrop a0 a1 a2 s = .next t → Keeps s0 t := by
  intro t ht
  refine Keeps.ofEq ?_ (Host.Outcome.next.inj ht).symm
  with_reducible repeat' first | exact h | assumption | apply State.patAdd_keeps | apply State.wr_keeps | split | apply foldl_keeps | intro _ | fail_if_no_progress refine Keeps.same ?_ rfl | fail_if_no_progress extract_lets | apply getD_keeps | apply elim_keeps | dsimp +zetaDelta only

theorem State.injFire_keeps {s0 s : State} (h : Keeps s0 s) (a1) : Keeps s0 (State.injFire s a1) := by
  unfold State.injFire
  with_reducible repeat' first | exact h | assumption | apply State.burst_keeps | split | apply foldl_keeps | intro _ | fail_if_no_progress refine Keeps.same ?_ rfl | fail_if_no_progress extract_lets | apply getD_keeps | apply elim_keeps | dsimp +zetaDelta only

theorem State.injInterval_keeps {s0 s : State} (h : Keeps s0 s) (a1) : Keeps s0 (State.injInterval s a1) := by
  unfold State.injInterval
  with_reducible repeat' first | exact h | assumption | apply State.burst_keeps | apply State.modLane_keeps | split | apply foldl_keeps | intro _ | fail_if_no_progress refine Keeps.same ?_ rfl | fail_if_no_progress extract_lets | apply getD_keeps | apply elim_keeps | dsimp +zetaDelta only

theorem execInjInterval_keeps {s0 s : State} (h : Keeps s0 s) (a0) : ∀ t, execInjInterval a0 s = .next t → Keeps s0 t := by
  intro t ht
  refine Keeps.ofEq ?_ (Host.Outcome.next.inj ht).symm
  with_reducible repeat' first | exact h | assumption | apply State.injInterval_keeps | split | apply foldl_keeps | intro _ | fail_if_no_progress refine Keeps.same ?_ rfl | fail_if_no_progress extract_lets | apply getD_keeps | apply elim_keeps | dsimp +zetaDelta only

theorem State.creditReturn_keeps {s0 s : State} (h : Keeps s0 s) (a1) (a2) (a3) : Keeps s0 (State.creditReturn s a1 a2 a3) := by
  unfold State.creditReturn
  with_reducible repeat' first | exact h | assumption | apply State.wr_keeps | apply State.modLink_keeps | split | apply foldl_keeps | intro _ | fail_if_no_progress refine Keeps.same ?_ rfl | fail_if_no_progress extract_lets | apply getD_keeps | apply elim_keeps | dsimp +zetaDelta only

theorem State.credit_keeps {s0 s : State} (h : Keeps s0 s) (a1) (a2) : Keeps s0 (State.credit s a1 a2) := by
  unfold State.credit
  with_reducible repeat' first | exact h | assumption | apply State.each_keeps | apply State.creditReturn_keeps | split | apply foldl_keeps | intro _ | fail_if_no_progress refine Keeps.same ?_ rfl | fail_if_no_progress extract_lets | apply getD_keeps | apply elim_keeps | dsimp +zetaDelta only

theorem State.orphan_keeps {s0 s : State} (h : Keeps s0 s) (a1) : Keeps s0 (State.orphan s a1) := by
  unfold State.orphan
  with_reducible repeat' first | exact h | assumption | apply State.raise_keeps | split | apply foldl_keeps | intro _ | fail_if_no_progress refine Keeps.same ?_ rfl | fail_if_no_progress extract_lets | apply getD_keeps | apply elim_keeps | dsimp +zetaDelta only

theorem State.rxKey_keeps {s0 s : State} (h : Keeps s0 s) (a1) (a2) : Keeps s0 (State.rxKey s a1 a2).2.2 := by
  unfold State.rxKey
  with_reducible repeat' first | exact h | assumption | apply State.setLink_keeps | split | apply foldl_keeps | intro _ | fail_if_no_progress refine Keeps.same ?_ rfl | fail_if_no_progress extract_lets | apply getD_keeps | apply elim_keeps | dsimp +zetaDelta only

theorem State.tagGood_keeps {s0 s : State} (h : Keeps s0 s) (a1) (a2) (a3) : Keeps s0 (State.tagGood s a1 a2 a3) := by
  unfold State.tagGood
  with_reducible repeat' first | exact h | assumption | apply State.modLink_keeps | split | apply foldl_keeps | intro _ | fail_if_no_progress refine Keeps.same ?_ rfl | fail_if_no_progress extract_lets | apply getD_keeps | apply elim_keeps | dsimp +zetaDelta only

theorem State.tagBad_keeps {s0 s : State} (h : Keeps s0 s) (a1) : Keeps s0 (State.tagBad s a1) := by
  unfold State.tagBad
  with_reducible repeat' first | exact h | assumption | apply State.raise_keeps | apply State.modLink_keeps | apply State.sendCtl_keeps | apply State.linkDown_keeps | apply State.startTraining_keeps | split | apply foldl_keeps | intro _ | fail_if_no_progress refine Keeps.same ?_ rfl | fail_if_no_progress extract_lets | apply getD_keeps | apply elim_keeps | dsimp +zetaDelta only

theorem State.dropRx_keeps {s0 s : State} (h : Keeps s0 s) (a1) (a2) : Keeps s0 (State.dropRx s a1 a2) := by
  unfold State.dropRx
  with_reducible repeat' first | exact h | assumption | apply State.modLink_keeps | split | apply foldl_keeps | intro _ | fail_if_no_progress refine Keeps.same ?_ rfl | fail_if_no_progress extract_lets | apply getD_keeps | apply elim_keeps | dsimp +zetaDelta only

theorem State.rxComplete_keeps {s0 s : State} (h : Keeps s0 s) (a1) (a2) (a3) : Keeps s0 (State.rxComplete s a1 a2 a3) := by
  unfold State.rxComplete
  with_reducible repeat' first | exact h | assumption | apply State.setArrivals_keeps | apply State.setStored_keeps | split | apply foldl_keeps | intro _ | fail_if_no_progress refine Keeps.same ?_ rfl | fail_if_no_progress extract_lets | apply getD_keeps | apply elim_keeps | dsimp +zetaDelta only

theorem State.dropHeld_keeps {s0 s : State} (h : Keeps s0 s) (a1) (a2) (a3) : Keeps s0 (State.dropHeld s a1 a2 a3) := by
  unfold State.dropHeld
  with_reducible repeat' first | exact h | assumption | apply State.each_keeps | apply State.setVoq_keeps | apply State.eachIn_keeps | apply State.release_keeps | apply State.mirror_keeps | split | apply foldl_keeps | intro _ | fail_if_no_progress refine Keeps.same ?_ rfl | fail_if_no_progress extract_lets | apply getD_keeps | apply elim_keeps | dsimp +zetaDelta only

theorem State.rxTagFail_keeps {s0 s : State} (h : Keeps s0 s) (a1) (a2) : Keeps s0 (State.rxTagFail s a1 a2) := by
  unfold State.rxTagFail
  with_reducible repeat' first | exact h | assumption | apply State.setArrivals_keeps | apply State.dropArrival_keeps | apply State.rxComplete_keeps | apply State.dropHeld_keeps | apply State.tagBad_keeps | split | apply foldl_keeps | intro _ | fail_if_no_progress refine Keeps.same ?_ rfl | fail_if_no_progress extract_lets | apply getD_keeps | apply elim_keeps | dsimp +zetaDelta only

theorem State.rxClose_keeps {s0 s : State} (h : Keeps s0 s) (a1) (a2) (a3) : Keeps s0 (State.rxClose s a1 a2 a3) := by
  unfold State.rxClose
  with_reducible repeat' first | exact h | assumption | apply State.dropRx_keeps | apply State.satAdd_keeps | apply State.cutPacket_keeps | apply State.tagGood_keeps | apply State.rxComplete_keeps | apply State.rxTagFail_keeps | split | apply foldl_keeps | intro _ | fail_if_no_progress refine Keeps.same ?_ rfl | fail_if_no_progress extract_lets | apply getD_keeps | apply elim_keeps | dsimp +zetaDelta only

theorem State.rxExtend_keeps {s0 s : State} (h : Keeps s0 s) (a1) (a2) (a3) : Keeps s0 (State.rxExtend s a1 a2 a3) := by
  unfold State.rxExtend
  with_reducible repeat' first | exact h | assumption | apply State.modLink_keeps | apply State.freeCredit_keeps | apply State.setArrivals_keeps | apply State.setStored_keeps | apply State.rxClose_keeps | split | apply foldl_keeps | intro _ | fail_if_no_progress refine Keeps.same ?_ rfl | fail_if_no_progress extract_lets | apply getD_keeps | apply elim_keeps | dsimp +zetaDelta only

theorem State.rxOpen_keeps {s0 s : State} (h : Keeps s0 s) (a1) (a2) : Keeps s0 (State.rxOpen s a1 a2) := by
  unfold State.rxOpen
  with_reducible repeat' first | exact h | assumption | apply State.orphan_keeps | apply State.freeCredit_keeps | apply State.rxKey_keeps | apply State.newId_keeps | apply State.modLink_keeps | apply State.setArrivals_keeps | apply State.rxClose_keeps | split | apply foldl_keeps | intro _ | fail_if_no_progress refine Keeps.same ?_ rfl | fail_if_no_progress extract_lets | apply getD_keeps | apply elim_keeps | dsimp +zetaDelta only

theorem State.rxPacket_keeps {s0 s : State} (h : Keeps s0 s) (a1) (a2) : Keeps s0 (State.rxPacket s a1 a2) := by
  unfold State.rxPacket
  with_reducible repeat' first | exact h | assumption | apply State.orphan_keeps | apply State.freeCredit_keeps | apply State.dropRx_keeps | apply State.cutPacket_keeps | apply State.rxOpen_keeps | apply State.rxExtend_keeps | split | apply foldl_keeps | intro _ | fail_if_no_progress refine Keeps.same ?_ rfl | fail_if_no_progress extract_lets | apply getD_keeps | apply elim_keeps | dsimp +zetaDelta only

theorem State.rxCtlClose_keeps {s0 s : State} (h : Keeps s0 s) (a1) (a2) (a3) (a4) : Keeps s0 (State.rxCtlClose s a1 a2 a3 a4) := by
  unfold State.rxCtlClose
  with_reducible repeat' first | exact h | assumption | apply State.orphan_keeps | apply State.tagBad_keeps | apply State.tagGood_keeps | split | apply foldl_keeps | intro _ | fail_if_no_progress refine Keeps.same ?_ rfl | fail_if_no_progress extract_lets | apply getD_keeps | apply elim_keeps | dsimp +zetaDelta only

theorem State.rxCtl_keeps {s0 s : State} (h : Keeps s0 s) (a1) (a2) (a3) : Keeps s0 (State.rxCtl s a1 a2 a3) := by
  unfold State.rxCtl
  with_reducible repeat' first | exact h | assumption | apply State.modLink_keeps | apply State.orphan_keeps | apply State.rxKey_keeps | apply State.rxCtlClose_keeps | split | apply foldl_keeps | intro _ | fail_if_no_progress refine Keeps.same ?_ rfl | fail_if_no_progress extract_lets | apply getD_keeps | apply elim_keeps | dsimp +zetaDelta only

theorem State.cellReceive_keeps {s0 s : State} (h : Keeps s0 s) (a1) : Keeps s0 (State.cellReceive s a1) := by
  unfold State.cellReceive
  with_reducible repeat' first | exact h | assumption | apply State.modLink_keeps | apply State.creditReturn_keeps | apply State.rxPacket_keeps | apply State.rxCtl_keeps | apply State.orphan_keeps | split | apply foldl_keeps | intro _ | fail_if_no_progress refine Keeps.same ?_ rfl | fail_if_no_progress extract_lets | apply getD_keeps | apply elim_keeps | dsimp +zetaDelta only

theorem execCellReceive_keeps {s0 s : State} (h : Keeps s0 s) (a0) : ∀ t, execCellReceive a0 s = .next t → Keeps s0 t := by
  intro t ht
  refine Keeps.ofEq ?_ (Host.Outcome.next.inj ht).symm
  with_reducible repeat' first | exact h | assumption | apply State.cellReceive_keeps | split | apply foldl_keeps | intro _ | fail_if_no_progress refine Keeps.same ?_ rfl | fail_if_no_progress extract_lets | apply getD_keeps | apply elim_keeps | dsimp +zetaDelta only

theorem State.classTimeout_keeps {s0 s : State} (h : Keeps s0 s) (a1) (a2) : Keeps s0 (State.classTimeout s a1 a2) := by
  unfold State.classTimeout
  with_reducible repeat' first | exact h | assumption | apply State.dropRx_keeps | apply State.cutPacket_keeps | split | apply foldl_keeps | intro _ | fail_if_no_progress refine Keeps.same ?_ rfl | fail_if_no_progress extract_lets | apply getD_keeps | apply elim_keeps | dsimp +zetaDelta only

theorem execPacketClassTimeout_keeps {s0 s : State} (h : Keeps s0 s) (a0) (a1) : ∀ t, execPacketClassTimeout a0 a1 s = .next t → Keeps s0 t := by
  intro t ht
  refine Keeps.ofEq ?_ (Host.Outcome.next.inj ht).symm
  with_reducible repeat' first | exact h | assumption | apply State.classTimeout_keeps | split | apply foldl_keeps | intro _ | fail_if_no_progress refine Keeps.same ?_ rfl | fail_if_no_progress extract_lets | apply getD_keeps | apply elim_keeps | dsimp +zetaDelta only

theorem State.creditTimer_keeps {s0 s : State} (h : Keeps s0 s) (a1) : Keeps s0 (State.creditTimer s a1) := by
  unfold State.creditTimer
  with_reducible repeat' first | exact h | assumption | apply State.sendCtl_keeps | apply State.modLink_keeps | split | apply foldl_keeps | intro _ | fail_if_no_progress refine Keeps.same ?_ rfl | fail_if_no_progress extract_lets | apply getD_keeps | apply elim_keeps | dsimp +zetaDelta only

theorem execCreditTimer_keeps {s0 s : State} (h : Keeps s0 s) (a0) : ∀ t, execCreditTimer a0 s = .next t → Keeps s0 t := by
  intro t ht
  refine Keeps.ofEq ?_ (Host.Outcome.next.inj ht).symm
  with_reducible repeat' first | exact h | assumption | apply State.creditTimer_keeps | split | apply foldl_keeps | intro _ | fail_if_no_progress refine Keeps.same ?_ rfl | fail_if_no_progress extract_lets | apply getD_keeps | apply elim_keeps | dsimp +zetaDelta only

theorem State.creditInit_keeps {s0 s : State} (h : Keeps s0 s) (a1) (a2) : Keeps s0 (State.creditInit s a1 a2) := by
  unfold State.creditInit
  with_reducible repeat' first | exact h | assumption | apply State.each_keeps | apply State.wr_keeps | apply State.modLink_keeps | split | apply foldl_keeps | intro _ | fail_if_no_progress refine Keeps.same ?_ rfl | fail_if_no_progress extract_lets | apply getD_keeps | apply elim_keeps | dsimp +zetaDelta only

theorem execCreditInit_keeps {s0 s : State} (h : Keeps s0 s) (a0) (a1) : ∀ t, execCreditInit a0 a1 s = .next t → Keeps s0 t := by
  intro t ht
  refine Keeps.ofEq ?_ (Host.Outcome.next.inj ht).symm
  with_reducible repeat' first | exact h | assumption | apply State.creditInit_keeps | split | apply foldl_keeps | intro _ | fail_if_no_progress refine Keeps.same ?_ rfl | fail_if_no_progress extract_lets | apply getD_keeps | apply elim_keeps | dsimp +zetaDelta only

theorem execCredit_keeps {s0 s : State} (h : Keeps s0 s) (a0) (a1) : ∀ t, execCredit a0 a1 s = .next t → Keeps s0 t := by
  intro t ht
  refine Keeps.ofEq ?_ (Host.Outcome.next.inj ht).symm
  with_reducible repeat' first | exact h | assumption | apply State.credit_keeps | split | apply foldl_keeps | intro _ | fail_if_no_progress refine Keeps.same ?_ rfl | fail_if_no_progress extract_lets | apply getD_keeps | apply elim_keeps | dsimp +zetaDelta only

theorem State.unlinked_keeps {s0 s : State} (h : Keeps s0 s) (a1) : Keeps s0 (State.unlinked s a1) := by
  unfold State.unlinked
  with_reducible repeat' first | exact h | assumption | apply State.linkDown_keeps | apply State.wr_keeps | split | apply foldl_keeps | intro _ | fail_if_no_progress refine Keeps.same ?_ rfl | fail_if_no_progress extract_lets | apply getD_keeps | apply elim_keeps | dsimp +zetaDelta only

theorem State.verFail_keeps {s0 s : State} (h : Keeps s0 s) (a1) : Keeps s0 (State.verFail s a1) := by
  unfold State.verFail
  with_reducible repeat' first | exact h | assumption | apply State.sendCtl_keeps | apply State.raise_keeps | apply State.unlinked_keeps | split | apply foldl_keeps | intro _ | fail_if_no_progress refine Keeps.same ?_ rfl | fail_if_no_progress extract_lets | apply getD_keeps | apply elim_keeps | dsimp +zetaDelta only

theorem State.versionOffer_keeps {s0 s : State} (h : Keeps s0 s) (a1) (a2) (a3) (a4) (a5) : Keeps s0 (State.versionOffer s a1 a2 a3 a4 a5) := by
  unfold State.versionOffer
  with_reducible repeat' first | exact h | assumption | apply State.modLink_keeps | apply State.verFail_keeps | apply State.sendCtl_keeps | split | apply foldl_keeps | intro _ | fail_if_no_progress refine Keeps.same ?_ rfl | fail_if_no_progress extract_lets | apply getD_keeps | apply elim_keeps | dsimp +zetaDelta only

theorem execVersionOffer_keeps {s0 s : State} (h : Keeps s0 s) (a0) (a1) (a2) (a3) (a4) (a5) : ∀ t, execVersionOffer a0 a1 a2 a3 a4 a5 s = .next t → Keeps s0 t := by
  intro t ht
  refine Keeps.ofEq ?_ (Host.Outcome.next.inj ht).symm
  with_reducible repeat' first | exact h | assumption | apply State.versionOffer_keeps | split | apply foldl_keeps | intro _ | fail_if_no_progress refine Keeps.same ?_ rfl | fail_if_no_progress extract_lets | apply getD_keeps | apply elim_keeps | dsimp +zetaDelta only

theorem execVersionOfferRepeat_keeps {s0 s : State} (h : Keeps s0 s) (a0) : ∀ t, execVersionOfferRepeat a0 s = .next t → Keeps s0 t := by
  intro t ht
  refine Keeps.ofEq ?_ (Host.Outcome.next.inj ht).symm
  with_reducible repeat' first | exact h | assumption | apply State.sendOffer_keeps | split | apply foldl_keeps | intro _ | fail_if_no_progress refine Keeps.same ?_ rfl | fail_if_no_progress extract_lets | apply getD_keeps | apply elim_keeps | dsimp +zetaDelta only

theorem execVersionTimeout_keeps {s0 s : State} (h : Keeps s0 s) (a0) : ∀ t, execVersionTimeout a0 s = .next t → Keeps s0 t := by
  intro t ht
  refine Keeps.ofEq ?_ (Host.Outcome.next.inj ht).symm
  with_reducible repeat' first | exact h | assumption | apply State.verFail_keeps | split | apply foldl_keeps | intro _ | fail_if_no_progress refine Keeps.same ?_ rfl | fail_if_no_progress extract_lets | apply getD_keeps | apply elim_keeps | dsimp +zetaDelta only

theorem State.authSend_keeps {s0 s : State} (h : Keeps s0 s) (a1) (a2) : Keeps s0 (State.authSend s a1 a2) := by
  unfold State.authSend
  with_reducible repeat' first | exact h | assumption | apply State.freshBytes_keeps | apply State.modLink_keeps | apply State.eachIn_keeps | apply State.sendCtl_keeps | split | apply foldl_keeps | intro _ | fail_if_no_progress refine Keeps.same ?_ rfl | fail_if_no_progress extract_lets | apply getD_keeps | apply elim_keeps | dsimp +zetaDelta only

theorem State.authBegin_keeps {s0 s : State} (h : Keeps s0 s) (a1) : Keeps s0 (State.authBegin s a1) := by
  unfold State.authBegin
  with_reducible repeat' first | exact h | assumption | apply State.modLink_keeps | apply State.authSend_keeps | split | apply foldl_keeps | intro _ | fail_if_no_progress refine Keeps.same ?_ rfl | fail_if_no_progress extract_lets | apply getD_keeps | apply elim_keeps | dsimp +zetaDelta only

theorem State.authStart_keeps {s0 s : State} (h : Keeps s0 s) (a1) : Keeps s0 (State.authStart s a1) := by
  unfold State.authStart
  with_reducible repeat' first | exact h | assumption | apply State.wr_keeps | apply State.authBegin_keeps | split | apply foldl_keeps | intro _ | fail_if_no_progress refine Keeps.same ?_ rfl | fail_if_no_progress extract_lets | apply getD_keeps | apply elim_keeps | dsimp +zetaDelta only

theorem State.authFailed_keeps {s0 s : State} (h : Keeps s0 s) (a1) (a2) : Keeps s0 (State.authFailed s a1 a2) := by
  unfold State.authFailed
  with_reducible repeat' first | exact h | assumption | apply State.raise_keeps | apply State.wr_keeps | apply State.modLink_keeps | apply State.linkOnly_keeps | split | apply foldl_keeps | intro _ | fail_if_no_progress refine Keeps.same ?_ rfl | fail_if_no_progress extract_lets | apply getD_keeps | apply elim_keeps | dsimp +zetaDelta only

theorem State.authFail_keeps {s0 s : State} (h : Keeps s0 s) (a1) (a2) : Keeps s0 (State.authFail s a1 a2) := by
  unfold State.authFail
  with_reducible repeat' first | exact h | assumption | apply State.sendCtl_keeps | apply State.authFailed_keeps | split | apply foldl_keeps | intro _ | fail_if_no_progress refine Keeps.same ?_ rfl | fail_if_no_progress extract_lets | apply getD_keeps | apply elim_keeps | dsimp +zetaDelta only

theorem State.rolesMeet_keeps {s0 s : State} (h : Keeps s0 s) (a1) : Keeps s0 (State.rolesMeet s a1) := by
  unfold State.rolesMeet
  with_reducible repeat' first | exact h | assumption | apply State.sendRoleSwap_keeps | apply State.yieldRole_keeps | apply State.raise_keeps | apply State.linkOnly_keeps | split | apply foldl_keeps | intro _ | fail_if_no_progress refine Keeps.same ?_ rfl | fail_if_no_progress extract_lets | apply getD_keeps | apply elim_keeps | dsimp +zetaDelta only

theorem State.bringUp_keeps {s0 s : State} (h : Keeps s0 s) (a1) : Keeps s0 (State.bringUp s a1) := by
  unfold State.bringUp
  with_reducible repeat' first | exact h | assumption | apply State.linkOpen_keeps | apply State.rolesMeet_keeps | split | apply foldl_keeps | intro _ | fail_if_no_progress refine Keeps.same ?_ rfl | fail_if_no_progress extract_lets | apply getD_keeps | apply elim_keeps | dsimp +zetaDelta only

theorem State.policies_keeps {s0 s : State} (h : Keeps s0 s) (a1) : Keeps s0 (State.policies s a1) := by
  unfold State.policies
  with_reducible repeat' first | exact h | assumption | apply State.bringUp_keeps | apply State.linkOnly_keeps | apply State.authFail_keeps | apply State.authStart_keeps | split | apply foldl_keeps | intro _ | fail_if_no_progress refine Keeps.same ?_ rfl | fail_if_no_progress extract_lets | apply getD_keeps | apply elim_keeps | dsimp +zetaDelta only

theorem State.versionAck_keeps {s0 s : State} (h : Keeps s0 s) (a1) (a2) : Keeps s0 (State.versionAck s a1 a2) := by
  unfold State.versionAck
  with_reducible repeat' first | exact h | assumption | apply State.wr_keeps | apply State.sendCtl_keeps | apply State.ownFloor_keeps | apply State.policies_keeps | apply State.verFail_keeps | split | apply foldl_keeps | intro _ | fail_if_no_progress refine Keeps.same ?_ rfl | fail_if_no_progress extract_lets | apply getD_keeps | apply elim_keeps | dsimp +zetaDelta only

theorem execVersionAck_keeps {s0 s : State} (h : Keeps s0 s) (a0) (a1) : ∀ t, execVersionAck a0 a1 s = .next t → Keeps s0 t := by
  intro t ht
  refine Keeps.ofEq ?_ (Host.Outcome.next.inj ht).symm
  with_reducible repeat' first | exact h | assumption | apply State.versionAck_keeps | split | apply foldl_keeps | intro _ | fail_if_no_progress refine Keeps.same ?_ rfl | fail_if_no_progress extract_lets | apply getD_keeps | apply elim_keeps | dsimp +zetaDelta only

theorem State.authNext_keeps {s0 s : State} (h : Keeps s0 s) (a1) (a2) (a3) : Keeps s0 (State.authNext s a1 a2 a3) := by
  unfold State.authNext
  with_reducible repeat' first | exact h | assumption | apply State.modLink_keeps | apply State.authSend_keeps | split | apply foldl_keeps | intro _ | fail_if_no_progress refine Keeps.same ?_ rfl | fail_if_no_progress extract_lets | apply getD_keeps | apply elim_keeps | dsimp +zetaDelta only

theorem State.authHello_keeps {s0 s : State} (h : Keeps s0 s) (a1) (a2) (a3) : Keeps s0 (State.authHello s a1 a2 a3) := by
  unfold State.authHello
  with_reducible repeat' first | exact h | assumption | apply State.authStart_keeps | apply State.authBegin_keeps | apply State.modLink_keeps | apply State.authNext_keeps | split | apply foldl_keeps | intro _ | fail_if_no_progress refine Keeps.same ?_ rfl | fail_if_no_progress extract_lets | apply getD_keeps | apply elim_keeps | dsimp +zetaDelta only

theorem execAuthHello_keeps {s0 s : State} (h : Keeps s0 s) (a0) (a1) (a2) : ∀ t, execAuthHello a0 a1 a2 s = .next t → Keeps s0 t := by
  intro t ht
  refine Keeps.ofEq ?_ (Host.Outcome.next.inj ht).symm
  with_reducible repeat' first | exact h | assumption | apply State.authHello_keeps | split | apply foldl_keeps | intro _ | fail_if_no_progress refine Keeps.same ?_ rfl | fail_if_no_progress extract_lets | apply getD_keeps | apply elim_keeps | dsimp +zetaDelta only

theorem State.authCert_keeps {s0 s : State} (h : Keeps s0 s) (a1) (a2) (a3) (a4) : Keeps s0 (State.authCert s a1 a2 a3 a4) := by
  unfold State.authCert
  with_reducible repeat' first | exact h | assumption | apply State.authFail_keeps | apply State.modLink_keeps | apply State.authNext_keeps | split | apply foldl_keeps | intro _ | fail_if_no_progress refine Keeps.same ?_ rfl | fail_if_no_progress extract_lets | apply getD_keeps | apply elim_keeps | dsimp +zetaDelta only

theorem execAuthCert_keeps {s0 s : State} (h : Keeps s0 s) (a0) (a1) (a2) (a3) : ∀ t, execAuthCert a0 a1 a2 a3 s = .next t → Keeps s0 t := by
  intro t ht
  refine Keeps.ofEq ?_ (Host.Outcome.next.inj ht).symm
  with_reducible repeat' first | exact h | assumption | apply State.authCert_keeps | split | apply foldl_keeps | intro _ | fail_if_no_progress refine Keeps.same ?_ rfl | fail_if_no_progress extract_lets | apply getD_keeps | apply elim_keeps | dsimp +zetaDelta only

theorem State.authKeyshare_keeps {s0 s : State} (h : Keeps s0 s) (a1) (a2) (a3) : Keeps s0 (State.authKeyshare s a1 a2 a3) := by
  unfold State.authKeyshare
  with_reducible repeat' first | exact h | assumption | apply State.modLink_keeps | apply State.authNext_keeps | apply State.authFail_keeps | split | apply foldl_keeps | intro _ | fail_if_no_progress refine Keeps.same ?_ rfl | fail_if_no_progress extract_lets | apply getD_keeps | apply elim_keeps | dsimp +zetaDelta only

theorem execAuthKeyshare_keeps {s0 s : State} (h : Keeps s0 s) (a0) (a1) (a2) : ∀ t, execAuthKeyshare a0 a1 a2 s = .next t → Keeps s0 t := by
  intro t ht
  refine Keeps.ofEq ?_ (Host.Outcome.next.inj ht).symm
  with_reducible repeat' first | exact h | assumption | apply State.authKeyshare_keeps | split | apply foldl_keeps | intro _ | fail_if_no_progress refine Keeps.same ?_ rfl | fail_if_no_progress extract_lets | apply getD_keeps | apply elim_keeps | dsimp +zetaDelta only

theorem State.authFinish_keeps {s0 s : State} (h : Keeps s0 s) (a1) (a2) : Keeps s0 (State.authFinish s a1 a2) := by
  unfold State.authFinish
  with_reducible repeat' first | exact h | assumption | apply State.wr_keeps | apply State.modLink_keeps | apply State.bringUp_keeps | apply State.authFail_keeps | split | apply foldl_keeps | intro _ | fail_if_no_progress refine Keeps.same ?_ rfl | fail_if_no_progress extract_lets | apply getD_keeps | apply elim_keeps | dsimp +zetaDelta only

theorem execAuthFinish_keeps {s0 s : State} (h : Keeps s0 s) (a0) (a1) : ∀ t, execAuthFinish a0 a1 s = .next t → Keeps s0 t := by
  intro t ht
  refine Keeps.ofEq ?_ (Host.Outcome.next.inj ht).symm
  with_reducible repeat' first | exact h | assumption | apply State.authFinish_keeps | split | apply foldl_keeps | intro _ | fail_if_no_progress refine Keeps.same ?_ rfl | fail_if_no_progress extract_lets | apply getD_keeps | apply elim_keeps | dsimp +zetaDelta only

theorem execAuthFail_keeps {s0 s : State} (h : Keeps s0 s) (a0) (a1) : ∀ t, execAuthFail a0 a1 s = .next t → Keeps s0 t := by
  intro t ht
  refine Keeps.ofEq ?_ (Host.Outcome.next.inj ht).symm
  with_reducible repeat' first | exact h | assumption | apply State.authFailed_keeps | split | apply foldl_keeps | intro _ | fail_if_no_progress refine Keeps.same ?_ rfl | fail_if_no_progress extract_lets | apply getD_keeps | apply elim_keeps | dsimp +zetaDelta only

theorem execAuthStepTimeout_keeps {s0 s : State} (h : Keeps s0 s) (a0) : ∀ t, execAuthStepTimeout a0 s = .next t → Keeps s0 t := by
  intro t ht
  refine Keeps.ofEq ?_ (Host.Outcome.next.inj ht).symm
  with_reducible repeat' first | exact h | assumption | apply State.authFail_keeps | split | apply foldl_keeps | intro _ | fail_if_no_progress refine Keeps.same ?_ rfl | fail_if_no_progress extract_lets | apply getD_keeps | apply elim_keeps | dsimp +zetaDelta only

theorem execAuthRetry_keeps {s0 s : State} (h : Keeps s0 s) (a0) : ∀ t, execAuthRetry a0 s = .next t → Keeps s0 t := by
  intro t ht
  refine Keeps.ofEq ?_ (Host.Outcome.next.inj ht).symm
  with_reducible repeat' first | exact h | assumption | apply State.authStart_keeps | split | apply foldl_keeps | intro _ | fail_if_no_progress refine Keeps.same ?_ rfl | fail_if_no_progress extract_lets | apply getD_keeps | apply elim_keeps | dsimp +zetaDelta only

theorem State.keyChange_keeps {s0 s : State} (h : Keeps s0 s) (a1) : Keeps s0 (State.keyChange s a1) := by
  unfold State.keyChange
  with_reducible repeat' first | exact h | assumption | apply State.sendCtl_keeps | apply State.modLink_keeps | apply State.authBegin_keeps | split | apply foldl_keeps | intro _ | fail_if_no_progress refine Keeps.same ?_ rfl | fail_if_no_progress extract_lets | apply getD_keeps | apply elim_keeps | dsimp +zetaDelta only

theorem execRekeyTrigger_keeps {s0 s : State} (h : Keeps s0 s) (a0) : ∀ t, execRekeyTrigger a0 s = .next t → Keeps s0 t := by
  intro t ht
  refine Keeps.ofEq ?_ (Host.Outcome.next.inj ht).symm
  with_reducible repeat' first | exact h | assumption | apply State.keyChange_keeps | split | apply foldl_keeps | intro _ | fail_if_no_progress refine Keeps.same ?_ rfl | fail_if_no_progress extract_lets | apply getD_keeps | apply elim_keeps | dsimp +zetaDelta only

theorem State.keyUpdate_keeps {s0 s : State} (h : Keeps s0 s) (a1) (a2) : Keeps s0 (State.keyUpdate s a1 a2) := by
  unfold State.keyUpdate
  with_reducible repeat' first | exact h | assumption | apply State.modLink_keeps | apply State.sendCtl_keeps | split | apply foldl_keeps | intro _ | fail_if_no_progress refine Keeps.same ?_ rfl | fail_if_no_progress extract_lets | apply getD_keeps | apply elim_keeps | dsimp +zetaDelta only

theorem execKeyUpdate_keeps {s0 s : State} (h : Keeps s0 s) (a0) (a1) : ∀ t, execKeyUpdate a0 a1 s = .next t → Keeps s0 t := by
  intro t ht
  refine Keeps.ofEq ?_ (Host.Outcome.next.inj ht).symm
  with_reducible repeat' first | exact h | assumption | apply State.keyUpdate_keeps | split | apply foldl_keeps | intro _ | fail_if_no_progress refine Keeps.same ?_ rfl | fail_if_no_progress extract_lets | apply getD_keeps | apply elim_keeps | dsimp +zetaDelta only

theorem State.keyUpdateAck_keeps {s0 s : State} (h : Keeps s0 s) (a1) (a2) : Keeps s0 (State.keyUpdateAck s a1 a2) := by
  unfold State.keyUpdateAck
  with_reducible repeat' first | exact h | assumption | apply State.wr_keeps | apply State.modLink_keeps | split | apply foldl_keeps | intro _ | fail_if_no_progress refine Keeps.same ?_ rfl | fail_if_no_progress extract_lets | apply getD_keeps | apply elim_keeps | dsimp +zetaDelta only

theorem execKeyUpdateAck_keeps {s0 s : State} (h : Keeps s0 s) (a0) (a1) : ∀ t, execKeyUpdateAck a0 a1 s = .next t → Keeps s0 t := by
  intro t ht
  refine Keeps.ofEq ?_ (Host.Outcome.next.inj ht).symm
  with_reducible repeat' first | exact h | assumption | apply State.keyUpdateAck_keeps | split | apply foldl_keeps | intro _ | fail_if_no_progress refine Keeps.same ?_ rfl | fail_if_no_progress extract_lets | apply getD_keeps | apply elim_keeps | dsimp +zetaDelta only

theorem State.planFlip_keeps {s0 s : State} (h : Keeps s0 s) (a1) (a2) (a3) : Keeps s0 (State.planFlip s a1 a2 a3) := by
  unfold State.planFlip
  with_reducible repeat' first | exact h | assumption | apply State.raise_keeps | apply State.modSched_keeps | split | apply foldl_keeps | intro _ | fail_if_no_progress refine Keeps.same ?_ rfl | fail_if_no_progress extract_lets | apply getD_keeps | apply elim_keeps | dsimp +zetaDelta only

theorem execPlanFlip_keeps {s0 s : State} (h : Keeps s0 s) (a0) (a1) (a2) : ∀ t, execPlanFlip a0 a1 a2 s = .next t → Keeps s0 t := by
  intro t ht
  refine Keeps.ofEq ?_ (Host.Outcome.next.inj ht).symm
  with_reducible repeat' first | exact h | assumption | apply State.planFlip_keeps | split | apply foldl_keeps | intro _ | fail_if_no_progress refine Keeps.same ?_ rfl | fail_if_no_progress extract_lets | apply getD_keeps | apply elim_keeps | dsimp +zetaDelta only

theorem State.announced_keeps {s0 s : State} (h : Keeps s0 s) (a1) (a2) : Keeps s0 (State.announced s a1 a2) := by
  unfold State.announced
  with_reducible repeat' first | exact h | assumption | apply State.refuseAct_keeps | apply State.holdAct_keeps | split | apply foldl_keeps | intro _ | fail_if_no_progress refine Keeps.same ?_ rfl | fail_if_no_progress extract_lets | apply getD_keeps | apply elim_keeps | dsimp +zetaDelta only

theorem State.leadChange_keeps {s0 s : State} (h : Keeps s0 s) (a1) (a2) (a3) (a4) (a5) : Keeps s0 (State.leadChange s a1 a2 a3 a4 a5) := by
  unfold State.leadChange
  with_reducible repeat' first | exact h | assumption | apply State.refuseAct_keeps | apply State.announced_keeps | split | apply foldl_keeps | intro _ | fail_if_no_progress refine Keeps.same ?_ rfl | fail_if_no_progress extract_lets | apply getD_keeps | apply elim_keeps | dsimp +zetaDelta only

theorem execLeadChange_keeps {s0 s : State} (h : Keeps s0 s) (a0) (a1) (a2) (a3) (a4) : ∀ t, execLeadChange a0 a1 a2 a3 a4 s = .next t → Keeps s0 t := by
  intro t ht
  refine Keeps.ofEq ?_ (Host.Outcome.next.inj ht).symm
  with_reducible repeat' first | exact h | assumption | apply State.leadChange_keeps | split | apply foldl_keeps | intro _ | fail_if_no_progress refine Keeps.same ?_ rfl | fail_if_no_progress extract_lets | apply getD_keeps | apply elim_keeps | dsimp +zetaDelta only

theorem State.laneFault_keeps {s0 s : State} (h : Keeps s0 s) (a1) (a2) : Keeps s0 (State.laneFault s a1 a2) := by
  unfold State.laneFault
  with_reducible repeat' first | exact h | assumption | apply State.sendCtl_keeps | apply State.holdAct_keeps | split | apply foldl_keeps | intro _ | fail_if_no_progress refine Keeps.same ?_ rfl | fail_if_no_progress extract_lets | apply getD_keeps | apply elim_keeps | dsimp +zetaDelta only

theorem execLaneFault_keeps {s0 s : State} (h : Keeps s0 s) (a0) (a1) (a2) : ∀ t, execLaneFault a0 a1 a2 s = .next t → Keeps s0 t := by
  intro t ht
  refine Keeps.ofEq ?_ (Host.Outcome.next.inj ht).symm
  with_reducible repeat' first | exact h | assumption | apply State.laneFault_keeps | split | apply foldl_keeps | intro _ | fail_if_no_progress refine Keeps.same ?_ rfl | fail_if_no_progress extract_lets | apply getD_keeps | apply elim_keeps | dsimp +zetaDelta only

theorem State.restripe_keeps {s0 s : State} (h : Keeps s0 s) (a1) (a2) (a3) : Keeps s0 (State.restripe s a1 a2 a3) := by
  unfold State.restripe
  with_reducible repeat' first | exact h | assumption | apply State.raise_keeps | apply State.holdAct_keeps | split | apply foldl_keeps | intro _ | fail_if_no_progress refine Keeps.same ?_ rfl | fail_if_no_progress extract_lets | apply getD_keeps | apply elim_keeps | dsimp +zetaDelta only

theorem execRestripe_keeps {s0 s : State} (h : Keeps s0 s) (a0) (a1) (a2) : ∀ t, execRestripe a0 a1 a2 s = .next t → Keeps s0 t := by
  intro t ht
  refine Keeps.ofEq ?_ (Host.Outcome.next.inj ht).symm
  with_reducible repeat' first | exact h | assumption | apply State.restripe_keeps | split | apply foldl_keeps | intro _ | fail_if_no_progress refine Keeps.same ?_ rfl | fail_if_no_progress extract_lets | apply getD_keeps | apply elim_keeps | dsimp +zetaDelta only

theorem State.lowPower_keeps {s0 s : State} (h : Keeps s0 s) (a1) (a2) (a3) (a4) : Keeps s0 (State.lowPower s a1 a2 a3 a4) := by
  unfold State.lowPower
  with_reducible repeat' first | exact h | assumption | apply State.refuseAct_keeps | apply State.holdAct_keeps | split | apply foldl_keeps | intro _ | fail_if_no_progress refine Keeps.same ?_ rfl | fail_if_no_progress extract_lets | apply getD_keeps | apply elim_keeps | dsimp +zetaDelta only

theorem execLowPower_keeps {s0 s : State} (h : Keeps s0 s) (a0) (a1) (a2) (a3) : ∀ t, execLowPower a0 a1 a2 a3 s = .next t → Keeps s0 t := by
  intro t ht
  refine Keeps.ofEq ?_ (Host.Outcome.next.inj ht).symm
  with_reducible repeat' first | exact h | assumption | apply State.lowPower_keeps | split | apply foldl_keeps | intro _ | fail_if_no_progress refine Keeps.same ?_ rfl | fail_if_no_progress extract_lets | apply getD_keeps | apply elim_keeps | dsimp +zetaDelta only

theorem State.syncExchange_keeps {s0 s : State} (h : Keeps s0 s) (a1) : Keeps s0 (State.syncExchange s a1) := by
  unfold State.syncExchange
  with_reducible repeat' first | exact h | assumption | apply State.modLink_keeps | apply State.sendCtl_keeps | split | apply foldl_keeps | intro _ | fail_if_no_progress refine Keeps.same ?_ rfl | fail_if_no_progress extract_lets | apply getD_keeps | apply elim_keeps | dsimp +zetaDelta only

theorem execSyncExchange_keeps {s0 s : State} (h : Keeps s0 s) (a0) : ∀ t, execSyncExchange a0 s = .next t → Keeps s0 t := by
  intro t ht
  refine Keeps.ofEq ?_ (Host.Outcome.next.inj ht).symm
  with_reducible repeat' first | exact h | assumption | apply State.syncExchange_keeps | split | apply foldl_keeps | intro _ | fail_if_no_progress refine Keeps.same ?_ rfl | fail_if_no_progress extract_lets | apply getD_keeps | apply elim_keeps | dsimp +zetaDelta only

theorem State.sync_keeps {s0 s : State} (h : Keeps s0 s) (a1) (a2) : Keeps s0 (State.sync s a1 a2) := by
  unfold State.sync
  with_reducible repeat' first | exact h | assumption | apply State.modLink_keeps | split | apply foldl_keeps | intro _ | fail_if_no_progress refine Keeps.same ?_ rfl | fail_if_no_progress extract_lets | apply getD_keeps | apply elim_keeps | dsimp +zetaDelta only

theorem execSync_keeps {s0 s : State} (h : Keeps s0 s) (a0) (a1) : ∀ t, execSync a0 a1 s = .next t → Keeps s0 t := by
  intro t ht
  refine Keeps.ofEq ?_ (Host.Outcome.next.inj ht).symm
  with_reducible repeat' first | exact h | assumption | apply State.sync_keeps | split | apply foldl_keeps | intro _ | fail_if_no_progress refine Keeps.same ?_ rfl | fail_if_no_progress extract_lets | apply getD_keeps | apply elim_keeps | dsimp +zetaDelta only

theorem State.syncFollow_keeps {s0 s : State} (h : Keeps s0 s) (a1) (a2) (a3) : Keeps s0 (State.syncFollow s a1 a2 a3) := by
  unfold State.syncFollow
  with_reducible repeat' first | exact h | assumption | apply State.sendCtl_keeps | apply State.modLink_keeps | split | apply foldl_keeps | intro _ | fail_if_no_progress refine Keeps.same ?_ rfl | fail_if_no_progress extract_lets | apply getD_keeps | apply elim_keeps | dsimp +zetaDelta only

theorem execSyncFollow_keeps {s0 s : State} (h : Keeps s0 s) (a0) (a1) (a2) : ∀ t, execSyncFollow a0 a1 a2 s = .next t → Keeps s0 t := by
  intro t ht
  refine Keeps.ofEq ?_ (Host.Outcome.next.inj ht).symm
  with_reducible repeat' first | exact h | assumption | apply State.syncFollow_keeps | split | apply foldl_keeps | intro _ | fail_if_no_progress refine Keeps.same ?_ rfl | fail_if_no_progress extract_lets | apply getD_keeps | apply elim_keeps | dsimp +zetaDelta only

theorem execDelayReq_keeps {s0 s : State} (h : Keeps s0 s) (a0) (a1) : ∀ t, execDelayReq a0 a1 s = .next t → Keeps s0 t := by
  intro t ht
  refine Keeps.ofEq ?_ (Host.Outcome.next.inj ht).symm
  with_reducible repeat' first | exact h | assumption | apply State.sendCtl_keeps | split | apply foldl_keeps | intro _ | fail_if_no_progress refine Keeps.same ?_ rfl | fail_if_no_progress extract_lets | apply getD_keeps | apply elim_keeps | dsimp +zetaDelta only

theorem State.judgeSync_keeps {s0 s : State} (h : Keeps s0 s) (a1) (a2) : Keeps s0 (State.judgeSync s a1 a2) := by
  unfold State.judgeSync
  with_reducible repeat' first | exact h | assumption | apply State.wr_keeps | apply State.modLink_keeps | apply State.raise_keeps | split | apply foldl_keeps | intro _ | fail_if_no_progress refine Keeps.same ?_ rfl | fail_if_no_progress extract_lets | apply getD_keeps | apply elim_keeps | dsimp +zetaDelta only

theorem State.delayResp_keeps {s0 s : State} (h : Keeps s0 s) (a1) (a2) (a3) : Keeps s0 (State.delayResp s a1 a2 a3) := by
  unfold State.delayResp
  with_reducible repeat' first | exact h | assumption | apply State.wr_keeps | apply State.modLink_keeps | apply State.judgeSync_keeps | apply State.servoSample_keeps | split | apply foldl_keeps | intro _ | fail_if_no_progress refine Keeps.same ?_ rfl | fail_if_no_progress extract_lets | apply getD_keeps | apply elim_keeps | dsimp +zetaDelta only

theorem execDelayResp_keeps {s0 s : State} (h : Keeps s0 s) (a0) (a1) (a2) : ∀ t, execDelayResp a0 a1 a2 s = .next t → Keeps s0 t := by
  intro t ht
  refine Keeps.ofEq ?_ (Host.Outcome.next.inj ht).symm
  with_reducible repeat' first | exact h | assumption | apply State.delayResp_keeps | split | apply foldl_keeps | intro _ | fail_if_no_progress refine Keeps.same ?_ rfl | fail_if_no_progress extract_lets | apply getD_keeps | apply elim_keeps | dsimp +zetaDelta only

theorem State.roleSwapAckMsg_keeps {s0 s : State} (h : Keeps s0 s) (a1) (a2) : Keeps s0 (State.roleSwapAckMsg s a1 a2) := by
  unfold State.roleSwapAckMsg
  with_reducible repeat' first | exact h | assumption | apply State.roleSwapAck_keeps | apply State.modLink_keeps | apply State.finish_keeps | split | apply foldl_keeps | intro _ | fail_if_no_progress refine Keeps.same ?_ rfl | fail_if_no_progress extract_lets | apply getD_keeps | apply elim_keeps | dsimp +zetaDelta only

theorem execRoleSwapAck_keeps {s0 s : State} (h : Keeps s0 s) (a0) (a1) : ∀ t, execRoleSwapAck a0 a1 s = .next t → Keeps s0 t := by
  intro t ht
  refine Keeps.ofEq ?_ (Host.Outcome.next.inj ht).symm
  with_reducible repeat' first | exact h | assumption | apply State.roleSwapAckMsg_keeps | split | apply foldl_keeps | intro _ | fail_if_no_progress refine Keeps.same ?_ rfl | fail_if_no_progress extract_lets | apply getD_keeps | apply elim_keeps | dsimp +zetaDelta only

theorem State.linkDownMsg_keeps {s0 s : State} (h : Keeps s0 s) (a1) (a2) : Keeps s0 (State.linkDownMsg s a1 a2) := by
  unfold State.linkDownMsg
  with_reducible repeat' first | exact h | assumption | apply State.linkDown_keeps | apply State.modLink_keeps | apply State.raise_keeps | apply State.unlinked_keeps | apply State.startTraining_keeps | split | apply foldl_keeps | intro _ | fail_if_no_progress refine Keeps.same ?_ rfl | fail_if_no_progress extract_lets | apply getD_keeps | apply elim_keeps | dsimp +zetaDelta only

theorem execLinkDown_keeps {s0 s : State} (h : Keeps s0 s) (a0) (a1) : ∀ t, execLinkDown a0 a1 s = .next t → Keeps s0 t := by
  intro t ht
  refine Keeps.ofEq ?_ (Host.Outcome.next.inj ht).symm
  with_reducible repeat' first | exact h | assumption | apply State.linkDownMsg_keeps | split | apply foldl_keeps | intro _ | fail_if_no_progress refine Keeps.same ?_ rfl | fail_if_no_progress extract_lets | apply getD_keeps | apply elim_keeps | dsimp +zetaDelta only

theorem execEcho_keeps {s0 s : State} (h : Keeps s0 s) (a0) (a1) : ∀ t, execEcho a0 a1 s = .next t → Keeps s0 t := by
  intro t ht
  refine Keeps.ofEq ?_ (Host.Outcome.next.inj ht).symm
  with_reducible repeat' first | exact h | assumption | apply State.sendCtl_keeps | split | apply foldl_keeps | intro _ | fail_if_no_progress refine Keeps.same ?_ rfl | fail_if_no_progress extract_lets | apply getD_keeps | apply elim_keeps | dsimp +zetaDelta only

theorem State.echoReply_keeps {s0 s : State} (h : Keeps s0 s) (a1) (a2) : Keeps s0 (State.echoReply s a1 a2) := by
  unfold State.echoReply
  with_reducible repeat' first | exact h | assumption | apply State.answer_keeps | split | apply foldl_keeps | intro _ | fail_if_no_progress refine Keeps.same ?_ rfl | fail_if_no_progress extract_lets | apply getD_keeps | apply elim_keeps | dsimp +zetaDelta only

theorem execEchoReply_keeps {s0 s : State} (h : Keeps s0 s) (a0) (a1) : ∀ t, execEchoReply a0 a1 s = .next t → Keeps s0 t := by
  intro t ht
  refine Keeps.ofEq ?_ (Host.Outcome.next.inj ht).symm
  with_reducible repeat' first | exact h | assumption | apply State.echoReply_keeps | split | apply foldl_keeps | intro _ | fail_if_no_progress refine Keeps.same ?_ rfl | fail_if_no_progress extract_lets | apply getD_keeps | apply elim_keeps | dsimp +zetaDelta only

end Sys2Proof.Machine
end

