-- ==== Sys2Proof/Laws/KeptPlatform.lean ====
section
/-!
SUPPORT. What every operation of Machine/Clock.lean, Machine/Power.lean, Machine/Keys.lean, Machine/Txn.lean, Machine/Image.lean, Machine/Bist.lean, Machine/Bus.lean, Machine/Catalogue.lean keeps (see Laws/Keeps.lean), one lemma each, in the order in which they call each other.
-/

set_option linter.unreachableTactic false
set_option linter.unusedTactic false
set_option linter.all false

namespace Sys2Proof.Machine

theorem State.wiped_keeps {s0 s : State} (h : Keeps s0 s) : Keeps s0 (State.wiped s) := by
  refine h.trans ⟨rfl, fun hw => ?_, List.prefix_rfl, Nat.le_refl _, Nat.le_refl _, Nat.le_refl _, Nat.le_refl _⟩
  rw [wf_split] at hw ⊢
  exact ⟨rfl, hw.2.1, rfl, rfl⟩

theorem State.setRegs_keeps {s0 s : State} (h : Keeps s0 s) (a1) (a2) : Keeps s0 (State.setRegs s a1 a2) := by
  induction a2 generalizing s a1 with
  | nil =>
    unfold State.setRegs
    with_reducible repeat' first | exact h | assumption | apply State.setReg_keeps | split | apply foldl_keeps | intro _ | fail_if_no_progress refine Keeps.same ?_ rfl | fail_if_no_progress extract_lets | apply getD_keeps | apply elim_keeps | dsimp +zetaDelta only
  | cons x l ih =>
    unfold State.setRegs
    with_reducible repeat' first | apply ih | exact h | assumption | apply State.setReg_keeps | split | apply foldl_keeps | intro _ | fail_if_no_progress refine Keeps.same ?_ rfl | fail_if_no_progress extract_lets | apply getD_keeps | apply elim_keeps | dsimp +zetaDelta only

theorem State.loadShadow_keeps {s0 s : State} (h : Keeps s0 s) (a1) : Keeps s0 (State.loadShadow s a1) := by
  unfold State.loadShadow
  with_reducible repeat' first | exact h | assumption | apply State.wr64_keeps | apply State.wr_keeps | apply State.setRegs_keeps | split | apply foldl_keeps | intro _ | fail_if_no_progress refine Keeps.same ?_ rfl | fail_if_no_progress extract_lets | apply getD_keeps | apply elim_keeps | dsimp +zetaDelta only

theorem State.gatesOff_keeps {s0 s : State} (h : Keeps s0 s) : Keeps s0 (State.gatesOff s) := by
  unfold State.gatesOff
  with_reducible repeat' first | exact h | assumption | apply State.each_keeps | apply State.send_keeps | split | apply foldl_keeps | intro _ | fail_if_no_progress refine Keeps.same ?_ rfl | fail_if_no_progress extract_lets | apply getD_keeps | apply elim_keeps | dsimp +zetaDelta only

theorem State.coreBalls_keeps {s0 s : State} (h : Keeps s0 s) : Keeps s0 (State.coreBalls s) := by
  unfold State.coreBalls
  with_reducible repeat' first | exact h | assumption | apply State.each_keeps | apply State.laneSend_keeps | apply State.send_keeps | split | apply foldl_keeps | intro _ | fail_if_no_progress refine Keeps.same ?_ rfl | fail_if_no_progress extract_lets | apply getD_keeps | apply elim_keeps | dsimp +zetaDelta only

theorem State.resetBalls_keeps {s0 s : State} (h : Keeps s0 s) : Keeps s0 (State.resetBalls s) := by
  unfold State.resetBalls
  with_reducible repeat' first | exact h | assumption | apply State.gatesOff_keeps | apply State.coreBalls_keeps | apply State.each_keeps | apply State.send_keeps | split | apply foldl_keeps | intro _ | fail_if_no_progress refine Keeps.same ?_ rfl | fail_if_no_progress extract_lets | apply getD_keeps | apply elim_keeps | dsimp +zetaDelta only

theorem State.powerOnRelease_keeps {s0 s : State} (h : Keeps s0 s) (a1) : Keeps s0 (State.powerOnRelease s a1) := by
  unfold State.powerOnRelease
  with_reducible repeat' first | exact h | assumption | apply State.wiped_keeps | apply State.setReg_keeps | apply State.loadShadow_keeps | split | apply foldl_keeps | intro _ | fail_if_no_progress refine Keeps.same ?_ rfl | fail_if_no_progress extract_lets | apply getD_keeps | apply elim_keeps | dsimp +zetaDelta only

theorem execPowerOnResetRelease_keeps {s0 s : State} (h : Keeps s0 s) (a0) : ∀ t, execPowerOnResetRelease a0 s = .next t → Keeps s0 t := by
  intro t ht
  refine Keeps.ofEq ?_ (Host.Outcome.next.inj ht).symm
  with_reducible repeat' first | exact h | assumption | apply State.powerOnRelease_keeps | split | apply foldl_keeps | intro _ | fail_if_no_progress refine Keeps.same ?_ rfl | fail_if_no_progress extract_lets | apply getD_keeps | apply elim_keeps | dsimp +zetaDelta only

theorem execAlwaysOnSupplyFail_keeps {s0 s : State} (h : Keeps s0 s) : ∀ t, execAlwaysOnSupplyFail s = .next t → Keeps s0 t := by
  intro t ht
  refine Keeps.ofEq ?_ (Host.Outcome.next.inj ht).symm
  with_reducible repeat' first | exact h | assumption | apply State.resetBalls_keeps | apply State.wiped_keeps | split | apply foldl_keeps | intro _ | fail_if_no_progress refine Keeps.same ?_ rfl | fail_if_no_progress extract_lets | apply getD_keeps | apply elim_keeps | dsimp +zetaDelta only

theorem State.pinReset_keeps {s0 s : State} (h : Keeps s0 s) : Keeps s0 (State.pinReset s) := by
  unfold State.pinReset
  with_reducible repeat' first | exact h | assumption | apply State.resetBalls_keeps | apply State.wiped_keeps | apply State.setReg_keeps | apply State.loadShadow_keeps | apply State.wr_keeps | split | apply foldl_keeps | intro _ | fail_if_no_progress refine Keeps.same ?_ rfl | fail_if_no_progress extract_lets | apply getD_keeps | apply elim_keeps | dsimp +zetaDelta only

theorem execPinReset_keeps {s0 s : State} (h : Keeps s0 s) : ∀ t, execPinReset s = .next t → Keeps s0 t := by
  intro t ht
  refine Keeps.ofEq ?_ (Host.Outcome.next.inj ht).symm
  with_reducible repeat' first | exact h | assumption | apply State.pinReset_keeps | split | apply foldl_keeps | intro _ | fail_if_no_progress refine Keeps.same ?_ rfl | fail_if_no_progress extract_lets | apply getD_keeps | apply elim_keeps | dsimp +zetaDelta only

theorem State.requestWarm_keeps {s0 s : State} (h : Keeps s0 s) (a1) : Keeps s0 (State.requestWarm s a1) := by
  unfold State.requestWarm
  with_reducible repeat' first | exact h | assumption | split | apply foldl_keeps | intro _ | fail_if_no_progress refine Keeps.same ?_ rfl | fail_if_no_progress extract_lets | apply getD_keeps | apply elim_keeps | dsimp +zetaDelta only

theorem execCoreSupplyFail_keeps {s0 s : State} (h : Keeps s0 s) : ∀ t, execCoreSupplyFail s = .next t → Keeps s0 t := by
  intro t ht
  refine Keeps.ofEq ?_ (Host.Outcome.next.inj ht).symm
  with_reducible repeat' first | exact h | assumption | apply State.requestWarm_keeps | split | apply foldl_keeps | intro _ | fail_if_no_progress refine Keeps.same ?_ rfl | fail_if_no_progress extract_lets | apply getD_keeps | apply elim_keeps | dsimp +zetaDelta only

theorem State.pllsOff_keeps {s0 s : State} (h : Keeps s0 s) : Keeps s0 (State.pllsOff s) := by
  unfold State.pllsOff
  with_reducible repeat' first | exact h | assumption | apply State.wr_keeps | split | apply foldl_keeps | intro _ | fail_if_no_progress refine Keeps.same ?_ rfl | fail_if_no_progress extract_lets | apply getD_keeps | apply elim_keeps | dsimp +zetaDelta only

theorem State.warmReset_keeps {s0 s : State} (h : Keeps s0 s) : Keeps s0 (State.warmReset s) := by
  have hu := State.coreBalls_keeps h
  unfold State.warmReset
  generalize s.coreBalls = u at hu ⊢
  have k : ∀ clk pds efs, Keeps s0 { u.wiped with regs := s.regs.filter (fun e => warmKeeps e.1), clk := clk, pds := pds, efs := efs } := by
    intro clk pds efs
    refine ⟨hu.pending, fun hw => ?_, hu.out, hu.uptime, hu.free, hu.imgMin, hu.patchMin⟩
    have a := h.wf hw
    have b := hu.wf hw
    rw [wf_split] at a b ⊢
    exact ⟨rfl, b.2.1, rfl, Tab.filter_wf _ _ _ a.2.2.2⟩
  with_reducible split
  · exact h
  · refine State.satAdd_keeps (State.wr_keeps (State.wr_keeps (State.wr_keeps (State.wr_keeps (State.pllsOff_keeps (State.loadShadow_keeps ?_ _)) _ _) _ _) _ _) _ _) _ _
    exact k _ _ _

theorem execWarmReset_keeps {s0 s : State} (h : Keeps s0 s) : ∀ t, execWarmReset s = .next t → Keeps s0 t := by
  intro t ht
  refine Keeps.ofEq ?_ (Host.Outcome.next.inj ht).symm
  with_reducible repeat' first | exact h | assumption | apply State.warmReset_keeps | split | apply foldl_keeps | intro _ | fail_if_no_progress refine Keeps.same ?_ rfl | fail_if_no_progress extract_lets | apply getD_keeps | apply elim_keeps | dsimp +zetaDelta only

theorem State.ramp_keeps {s0 s : State} (h : Keeps s0 s) (a1) (a2) (a3) : Keeps s0 (State.ramp s a1 a2 a3) := by
  unfold State.ramp
  with_reducible repeat' first | exact h | assumption | split | apply foldl_keeps | intro _ | fail_if_no_progress refine Keeps.same ?_ rfl | fail_if_no_progress extract_lets | apply getD_keeps | apply elim_keeps | dsimp +zetaDelta only

theorem execRampStep_keeps {s0 s : State} (h : Keeps s0 s) (a0) : ∀ t, execRampStep a0 s = .next t → Keeps s0 t := by
  intro t ht
  refine Keeps.ofEq ?_ (Host.Outcome.next.inj ht).symm
  with_reducible repeat' first | exact h | assumption | split | apply foldl_keeps | intro _ | fail_if_no_progress refine Keeps.same ?_ rfl | fail_if_no_progress extract_lets | apply getD_keeps | apply elim_keeps | dsimp +zetaDelta only

theorem State.toPll_keeps {s0 s : State} (h : Keeps s0 s) : Keeps s0 (State.toPll s) := by
  unfold State.toPll
  with_reducible repeat' first | exact h | assumption | apply State.wr_keeps | apply State.ramp_keeps | split | apply foldl_keeps | intro _ | fail_if_no_progress refine Keeps.same ?_ rfl | fail_if_no_progress extract_lets | apply getD_keeps | apply elim_keeps | dsimp +zetaDelta only

theorem State.refFail_keeps {s0 s : State} (h : Keeps s0 s) : Keeps s0 (State.refFail s) := by
  unfold State.refFail
  with_reducible repeat' first | exact h | assumption | apply State.wr_keeps | apply State.raise_keeps | split | apply foldl_keeps | intro _ | fail_if_no_progress refine Keeps.same ?_ rfl | fail_if_no_progress extract_lets | apply getD_keeps | apply elim_keeps | dsimp +zetaDelta only

theorem State.clearSwitch_keeps {s0 s : State} (h : Keeps s0 s) : Keeps s0 (State.clearSwitch s) := by
  unfold State.clearSwitch
  with_reducible repeat' first | exact h | assumption | apply State.wr_keeps | apply State.setReg_keeps | apply State.each_keeps | split | apply foldl_keeps | intro _ | fail_if_no_progress refine Keeps.same ?_ rfl | fail_if_no_progress extract_lets | apply getD_keeps | apply elim_keeps | dsimp +zetaDelta only

theorem State.dpLost_keeps {s0 s : State} (h : Keeps s0 s) (a1) : Keeps s0 (State.dpLost s a1) := by
  unfold State.dpLost
  with_reducible repeat' first | exact h | assumption | apply State.dpDown_keeps | apply State.wr_keeps | apply State.raise_keeps | apply State.sendSinkStatus_keeps | split | apply foldl_keeps | intro _ | fail_if_no_progress refine Keeps.same ?_ rfl | fail_if_no_progress extract_lets | apply getD_keeps | apply elim_keeps | dsimp +zetaDelta only

theorem State.linksDown_keeps {s0 s : State} (h : Keeps s0 s) : Keeps s0 (State.linksDown s) := by
  unfold State.linksDown
  with_reducible repeat' first | exact h | assumption | apply State.each_keeps | apply State.linkDown_keeps | apply State.dpLost_keeps | apply State.ethLinkChange_keeps | apply State.pcieLinkChange_keeps | split | apply foldl_keeps | intro _ | fail_if_no_progress refine Keeps.same ?_ rfl | fail_if_no_progress extract_lets | apply getD_keeps | apply elim_keeps | dsimp +zetaDelta only

theorem State.refLoss_keeps {s0 s : State} (h : Keeps s0 s) : Keeps s0 (State.refLoss s) := by
  have k : ∀ {t : State}, Keeps s0 t → Keeps s0 { t with frame := [] } := fun {t} ht => by
    refine ht.trans ⟨rfl, fun hw => ?_, List.prefix_rfl, Nat.le_refl _, Nat.le_refl _, Nat.le_refl _, Nat.le_refl _⟩
    rw [wf_split] at hw ⊢
    exact ⟨hw.1, hw.2.1, rfl, hw.2.2.2⟩
  unfold State.refLoss
  with_reducible split
  · exact State.refFail_keeps h
  · with_reducible split
    · refine State.abortUnserved_keeps (Keeps.same (State.pllsOff_keeps (State.wr_keeps (State.wr_keeps (State.wr_keeps ?_ _ _) _ _) _ _)) rfl)
      exact k (State.clearSwitch_keeps (State.linksDown_keeps h))
    · exact h

theorem State.refStable_keeps {s0 s : State} (h : Keeps s0 s) : Keeps s0 (State.refStable s) := by
  unfold State.refStable
  with_reducible repeat' first | exact h | assumption | apply State.wr_keeps | apply State.requestWarm_keeps | split | apply foldl_keeps | intro _ | fail_if_no_progress refine Keeps.same ?_ rfl | fail_if_no_progress extract_lets | apply getD_keeps | apply elim_keeps | dsimp +zetaDelta only

theorem State.refWindow_keeps {s0 s : State} (h : Keeps s0 s) (a1) : Keeps s0 (State.refWindow s a1) := by
  unfold State.refWindow
  with_reducible repeat' first | exact h | assumption | apply State.wr_keeps | apply State.raise_keeps | apply State.refLoss_keeps | apply State.refStable_keeps | split | apply foldl_keeps | intro _ | fail_if_no_progress refine Keeps.same ?_ rfl | fail_if_no_progress extract_lets | apply getD_keeps | apply elim_keeps | dsimp +zetaDelta only

theorem execRefWindow_keeps {s0 s : State} (h : Keeps s0 s) (a0) : ∀ t, execRefWindow a0 s = .next t → Keeps s0 t := by
  intro t ht
  refine Keeps.ofEq ?_ (Host.Outcome.next.inj ht).symm
  with_reducible repeat' first | exact h | assumption | apply State.refWindow_keeps | split | apply foldl_keeps | intro _ | fail_if_no_progress refine Keeps.same ?_ rfl | fail_if_no_progress extract_lets | apply getD_keeps | apply elim_keeps | dsimp +zetaDelta only

theorem execReferenceLoss_keeps {s0 s : State} (h : Keeps s0 s) : ∀ t, execReferenceLoss s = .next t → Keeps s0 t := by
  intro t ht
  refine Keeps.ofEq ?_ (Host.Outcome.next.inj ht).symm
  with_reducible repeat' first | exact h | assumption | apply State.raise_keeps | apply State.refLoss_keeps | split | apply foldl_keeps | intro _ | fail_if_no_progress refine Keeps.same ?_ rfl | fail_if_no_progress extract_lets | apply getD_keeps | apply elim_keeps | dsimp +zetaDelta only

theorem execRefFailTimer_keeps {s0 s : State} (h : Keeps s0 s) : ∀ t, execRefFailTimer s = .next t → Keeps s0 t := by
  intro t ht
  refine Keeps.ofEq ?_ (Host.Outcome.next.inj ht).symm
  with_reducible repeat' first | exact h | assumption | apply State.refFail_keeps | split | apply foldl_keeps | intro _ | fail_if_no_progress refine Keeps.same ?_ rfl | fail_if_no_progress extract_lets | apply getD_keeps | apply elim_keeps | dsimp +zetaDelta only

theorem State.rootLock_keeps {s0 s : State} (h : Keeps s0 s) : Keeps s0 (State.rootLock s) := by
  unfold State.rootLock
  with_reducible repeat' first | exact h | assumption | apply State.toPll_keeps | apply State.wr_keeps | split | apply foldl_keeps | intro _ | fail_if_no_progress refine Keeps.same ?_ rfl | fail_if_no_progress extract_lets | apply getD_keeps | apply elim_keeps | dsimp +zetaDelta only

theorem execRootPllLock_keeps {s0 s : State} (h : Keeps s0 s) : ∀ t, execRootPllLock s = .next t → Keeps s0 t := by
  intro t ht
  refine Keeps.ofEq ?_ (Host.Outcome.next.inj ht).symm
  with_reducible repeat' first | exact h | assumption | apply State.rootLock_keeps | split | apply foldl_keeps | intro _ | fail_if_no_progress refine Keeps.same ?_ rfl | fail_if_no_progress extract_lets | apply getD_keeps | apply elim_keeps | dsimp +zetaDelta only

theorem execPllLockTimeout_keeps {s0 s : State} (h : Keeps s0 s) : ∀ t, execPllLockTimeout s = .next t → Keeps s0 t := by
  intro t ht
  refine Keeps.ofEq ?_ (Host.Outcome.next.inj ht).symm
  with_reducible repeat' first | exact h | assumption | apply State.raise_keeps | apply State.refFail_keeps | split | apply foldl_keeps | intro _ | fail_if_no_progress refine Keeps.same ?_ rfl | fail_if_no_progress extract_lets | apply getD_keeps | apply elim_keeps | dsimp +zetaDelta only

theorem State.trim_keeps {s0 s : State} (h : Keeps s0 s) (a1) (a2) : Keeps s0 (State.trim s a1 a2) := by
  unfold State.trim
  with_reducible repeat' first | exact h | assumption | apply State.wr_keeps | apply State.raise_keeps | split | apply foldl_keeps | intro _ | fail_if_no_progress refine Keeps.same ?_ rfl | fail_if_no_progress extract_lets | apply getD_keeps | apply elim_keeps | dsimp +zetaDelta only

theorem State.trimSource_keeps {s0 s : State} (h : Keeps s0 s) : Keeps s0 (State.trimSource s) := by
  unfold State.trimSource
  with_reducible repeat' first | exact h | assumption | apply State.wr_keeps | split | apply foldl_keeps | intro _ | fail_if_no_progress refine Keeps.same ?_ rfl | fail_if_no_progress extract_lets | apply getD_keeps | apply elim_keeps | dsimp +zetaDelta only

theorem execRcTrimWindow_keeps {s0 s : State} (h : Keeps s0 s) (a0) : ∀ t, execRcTrimWindow a0 s = .next t → Keeps s0 t := by
  intro t ht
  refine Keeps.ofEq ?_ (Host.Outcome.next.inj ht).symm
  with_reducible repeat' first | exact h | assumption | apply State.trim_keeps | apply State.trimSource_keeps | split | apply foldl_keeps | intro _ | fail_if_no_progress refine Keeps.same ?_ rfl | fail_if_no_progress extract_lets | apply getD_keeps | apply elim_keeps | dsimp +zetaDelta only

theorem execSofTrimWindow_keeps {s0 s : State} (h : Keeps s0 s) (a0) : ∀ t, execSofTrimWindow a0 s = .next t → Keeps s0 t := by
  intro t ht
  refine Keeps.ofEq ?_ (Host.Outcome.next.inj ht).symm
  with_reducible repeat' first | exact h | assumption | apply State.trim_keeps | apply State.trimSource_keeps | split | apply foldl_keeps | intro _ | fail_if_no_progress refine Keeps.same ?_ rfl | fail_if_no_progress extract_lets | apply getD_keeps | apply elim_keeps | dsimp +zetaDelta only

theorem State.pllLock_keeps {s0 s : State} (h : Keeps s0 s) (a1) : Keeps s0 (State.pllLock s a1) := by
  unfold State.pllLock
  with_reducible repeat' first | exact h | assumption | apply State.startTraining_keeps | apply State.lanePllLock_keeps | apply State.wakeLink_keeps | apply State.wr_keeps | split | apply foldl_keeps | intro _ | fail_if_no_progress refine Keeps.same ?_ rfl | fail_if_no_progress extract_lets | apply getD_keeps | apply elim_keeps | dsimp +zetaDelta only

theorem execLocalPllLock_keeps {s0 s : State} (h : Keeps s0 s) (a0) : ∀ t, execLocalPllLock a0 s = .next t → Keeps s0 t := by
  intro t ht
  refine Keeps.ofEq ?_ (Host.Outcome.next.inj ht).symm
  with_reducible repeat' first | exact h | assumption | apply State.pllLock_keeps | split | apply foldl_keeps | intro _ | fail_if_no_progress refine Keeps.same ?_ rfl | fail_if_no_progress extract_lets | apply getD_keeps | apply elim_keeps | dsimp +zetaDelta only

theorem State.lanePllFault_keeps {s0 s : State} (h : Keeps s0 s) (a1) : Keeps s0 (State.lanePllFault s a1) := by
  unfold State.lanePllFault
  with_reducible repeat' first | exact h | assumption | apply State.wr_keeps | apply State.raise_keeps | apply State.portReset_keeps | apply State.linkDown_keeps | split | apply foldl_keeps | intro _ | fail_if_no_progress refine Keeps.same ?_ rfl | fail_if_no_progress extract_lets | apply getD_keeps | apply elim_keeps | dsimp +zetaDelta only

theorem execLanePllUnlock_keeps {s0 s : State} (h : Keeps s0 s) (a0) : ∀ t, execLanePllUnlock a0 s = .next t → Keeps s0 t := by
  intro t ht
  refine Keeps.ofEq ?_ (Host.Outcome.next.inj ht).symm
  with_reducible repeat' first | exact h | assumption | apply State.lanePllFault_keeps | split | apply foldl_keeps | intro _ | fail_if_no_progress refine Keeps.same ?_ rfl | fail_if_no_progress extract_lets | apply getD_keeps | apply elim_keeps | dsimp +zetaDelta only

theorem State.clockFault_keeps {s0 s : State} (h : Keeps s0 s) (a1) : Keeps s0 (State.clockFault s a1) := by
  unfold State.clockFault
  with_reducible repeat' first | exact h | assumption | apply State.raise_keeps | apply State.refLoss_keeps | apply State.wr_keeps | apply State.lanePllFault_keeps | apply State.dpLost_keeps | apply State.ethLinkChange_keeps | apply State.pcieLinkChange_keeps | split | apply foldl_keeps | intro _ | fail_if_no_progress refine Keeps.same ?_ rfl | fail_if_no_progress extract_lets | apply getD_keeps | apply elim_keeps | dsimp +zetaDelta only

theorem execClockFault_keeps {s0 s : State} (h : Keeps s0 s) (a0) : ∀ t, execClockFault a0 s = .next t → Keeps s0 t := by
  intro t ht
  refine Keeps.ofEq ?_ (Host.Outcome.next.inj ht).symm
  with_reducible repeat' first | exact h | assumption | apply State.clockFault_keeps | split | apply foldl_keeps | intro _ | fail_if_no_progress refine Keeps.same ?_ rfl | fail_if_no_progress extract_lets | apply getD_keeps | apply elim_keeps | dsimp +zetaDelta only

theorem State.blockStopped_keeps {s0 s : State} (h : Keeps s0 s) (a1) : Keeps s0 (State.blockStopped s a1) := by
  unfold State.blockStopped
  with_reducible repeat' first | exact h | assumption | apply State.linkDown_keeps | apply State.clearSwitch_keeps | apply State.modPipe_keeps | apply State.wr_keeps | apply State.pcieLinkChange_keeps | apply State.modMac_keeps | split | apply foldl_keeps | intro _ | fail_if_no_progress refine Keeps.same ?_ rfl | fail_if_no_progress extract_lets | apply getD_keeps | apply elim_keeps | dsimp +zetaDelta only

theorem State.stopRamps_keeps {s0 s : State} (h : Keeps s0 s) (a1) : Keeps s0 (State.stopRamps s a1) := by
  unfold State.stopRamps
  with_reducible repeat' first | exact h | assumption | apply State.eachIn_keeps | split | apply foldl_keeps | intro _ | fail_if_no_progress refine Keeps.same ?_ rfl | fail_if_no_progress extract_lets | apply getD_keeps | apply elim_keeps | dsimp +zetaDelta only

theorem State.enablesChanged_keeps {s0 s : State} (h : Keeps s0 s) (a1) : Keeps s0 (State.enablesChanged s a1) := by
  unfold State.enablesChanged
  with_reducible repeat' first | exact h | assumption | apply State.each_keeps | apply State.blockStopped_keeps | apply State.stopRamps_keeps | split | apply foldl_keeps | intro _ | fail_if_no_progress refine Keeps.same ?_ rfl | fail_if_no_progress extract_lets | apply getD_keeps | apply elim_keeps | dsimp +zetaDelta only

theorem State.kick_keeps {s0 s : State} (h : Keeps s0 s) : Keeps s0 (State.kick s) := by
  unfold State.kick
  with_reducible repeat' first | exact h | assumption | split | apply foldl_keeps | intro _ | fail_if_no_progress refine Keeps.same ?_ rfl | fail_if_no_progress extract_lets | apply getD_keeps | apply elim_keeps | dsimp +zetaDelta only

theorem execWatchdogExpire_keeps {s0 s : State} (h : Keeps s0 s) : ∀ t, execWatchdogExpire s = .next t → Keeps s0 t := by
  intro t ht
  refine Keeps.ofEq ?_ (Host.Outcome.next.inj ht).symm
  with_reducible repeat' first | exact h | assumption | apply State.raise_keeps | apply State.kick_keeps | apply State.requestWarm_keeps | split | apply foldl_keeps | intro _ | fail_if_no_progress refine Keeps.same ?_ rfl | fail_if_no_progress extract_lets | apply getD_keeps | apply elim_keeps | dsimp +zetaDelta only

theorem State.modPwr_keeps {s0 s : State} (h : Keeps s0 s) (a1) : Keeps s0 (State.modPwr s a1) := by
  unfold State.modPwr
  with_reducible repeat' first | exact h | assumption | split | apply foldl_keeps | intro _ | fail_if_no_progress refine Keeps.same ?_ rfl | fail_if_no_progress extract_lets | apply getD_keeps | apply elim_keeps | dsimp +zetaDelta only

theorem State.psRequest_keeps {s0 s : State} (h : Keeps s0 s) (a1) : Keeps s0 (State.psRequest s a1) := by
  unfold State.psRequest
  with_reducible repeat' first | exact h | assumption | apply State.modPwr_keeps | apply State.finish_keeps | apply State.wr_keeps | split | apply foldl_keeps | intro _ | fail_if_no_progress refine Keeps.same ?_ rfl | fail_if_no_progress extract_lets | apply getD_keeps | apply elim_keeps | dsimp +zetaDelta only

theorem State.nextRequest_keeps {s0 s : State} (h : Keeps s0 s) : Keeps s0 (State.nextRequest s) := by
  unfold State.nextRequest
  with_reducible repeat' first | exact h | assumption | apply State.modPwr_keeps | apply State.psRequest_keeps | split | apply foldl_keeps | intro _ | fail_if_no_progress refine Keeps.same ?_ rfl | fail_if_no_progress extract_lets | apply getD_keeps | apply elim_keeps | dsimp +zetaDelta only

theorem State.pauseAll_keeps {s0 s : State} (h : Keeps s0 s) (a1) : Keeps s0 (State.pauseAll s a1) := by
  unfold State.pauseAll
  with_reducible repeat' first | exact h | assumption | apply State.eachIn_keeps | apply State.modAdp_keeps | split | apply foldl_keeps | intro _ | fail_if_no_progress refine Keeps.same ?_ rfl | fail_if_no_progress extract_lets | apply getD_keeps | apply elim_keeps | dsimp +zetaDelta only

theorem State.entryOver_keeps {s0 s : State} (h : Keeps s0 s) : Keeps s0 (State.entryOver s) := by
  unfold State.entryOver
  with_reducible repeat' first | exact h | assumption | apply State.wr_keeps | apply State.modPwr_keeps | apply State.pauseAll_keeps | split | apply foldl_keeps | intro _ | fail_if_no_progress refine Keeps.same ?_ rfl | fail_if_no_progress extract_lets | apply getD_keeps | apply elim_keeps | dsimp +zetaDelta only

theorem State.unparkAll_keeps {s0 s : State} (h : Keeps s0 s) : Keeps s0 (State.unparkAll s) := by
  unfold State.unparkAll
  with_reducible repeat' first | exact h | assumption | apply State.each_keeps | apply State.modLink_keeps | apply State.wakeLink_keeps | apply State.nextRejoin_keeps | split | apply foldl_keeps | intro _ | fail_if_no_progress refine Keeps.same ?_ rfl | fail_if_no_progress extract_lets | apply getD_keeps | apply elim_keeps | dsimp +zetaDelta only

theorem State.entryAbandon_keeps {s0 s : State} (h : Keeps s0 s) (a1) (a2) (a3) : Keeps s0 (State.entryAbandon s a1 a2 a3) := by
  unfold State.entryAbandon
  with_reducible repeat' first | exact h | assumption | apply State.wr_keeps | apply State.entryOver_keeps | apply State.raise_keeps | apply State.finish_keeps | apply State.unparkAll_keeps | apply State.nextRequest_keeps | split | apply foldl_keeps | intro _ | fail_if_no_progress refine Keeps.same ?_ rfl | fail_if_no_progress extract_lets | apply getD_keeps | apply elim_keeps | dsimp +zetaDelta only

theorem State.parkLink_keeps {s0 s : State} (h : Keeps s0 s) (a1) : Keeps s0 (State.parkLink s a1) := by
  unfold State.parkLink
  with_reducible repeat' first | exact h | assumption | apply State.sendCtl_keeps | apply State.holdAct_keeps | split | apply foldl_keeps | intro _ | fail_if_no_progress refine Keeps.same ?_ rfl | fail_if_no_progress extract_lets | apply getD_keeps | apply elim_keeps | dsimp +zetaDelta only

theorem State.allAccepted_keeps {s0 s : State} (h : Keeps s0 s) : Keeps s0 (State.allAccepted s) := by
  unfold State.allAccepted
  with_reducible repeat' first | exact h | assumption | apply State.modPwr_keeps | apply State.finish_keeps | apply State.pauseAll_keeps | apply State.each_keeps | apply State.parkLink_keeps | split | apply foldl_keeps | intro _ | fail_if_no_progress refine Keeps.same ?_ rfl | fail_if_no_progress extract_lets | apply getD_keeps | apply elim_keeps | dsimp +zetaDelta only

theorem State.handshake_keeps {s0 s : State} (h : Keeps s0 s) : Keeps s0 (State.handshake s) := by
  unfold State.handshake
  with_reducible repeat' first | exact h | assumption | apply State.accept_keeps | apply State.entryAbandon_keeps | apply State.allAccepted_keeps | apply State.modPwr_keeps | split | apply foldl_keeps | intro _ | fail_if_no_progress refine Keeps.same ?_ rfl | fail_if_no_progress extract_lets | apply getD_keeps | apply elim_keeps | dsimp +zetaDelta only

theorem execHandshakeRound_keeps {s0 s : State} (h : Keeps s0 s) : ∀ t, execHandshakeRound s = .next t → Keeps s0 t := by
  intro t ht
  refine Keeps.ofEq ?_ (Host.Outcome.next.inj ht).symm
  with_reducible repeat' first | exact h | assumption | apply State.handshake_keeps | split | apply foldl_keeps | intro _ | fail_if_no_progress refine Keeps.same ?_ rfl | fail_if_no_progress extract_lets | apply getD_keeps | apply elim_keeps | dsimp +zetaDelta only

theorem execDelayExpire_keeps {s0 s : State} (h : Keeps s0 s) : ∀ t, execDelayExpire s = .next t → Keeps s0 t := by
  intro t ht
  refine Keeps.ofEq ?_ (Host.Outcome.next.inj ht).symm
  with_reducible repeat' first | exact h | assumption | apply State.handshake_keeps | split | apply foldl_keeps | intro _ | fail_if_no_progress refine Keeps.same ?_ rfl | fail_if_no_progress extract_lets | apply getD_keeps | apply elim_keeps | dsimp +zetaDelta only

theorem execMaxWaitExpire_keeps {s0 s : State} (h : Keeps s0 s) : ∀ t, execMaxWaitExpire s = .next t → Keeps s0 t := by
  intro t ht
  refine Keeps.ofEq ?_ (Host.Outcome.next.inj ht).symm
  with_reducible repeat' first | exact h | assumption | apply State.entryAbandon_keeps | split | apply foldl_keeps | intro _ | fail_if_no_progress refine Keeps.same ?_ rfl | fail_if_no_progress extract_lets | apply getD_keeps | apply elim_keeps | dsimp +zetaDelta only

theorem State.beginWake_keeps {s0 s : State} (h : Keeps s0 s) (a1) : Keeps s0 (State.beginWake s a1) := by
  unfold State.beginWake
  with_reducible repeat' first | exact h | assumption | apply State.wr_keeps | apply State.raise_keeps | apply State.send_keeps | apply State.ramp_keeps | apply State.each_keeps | apply State.wakeLink_keeps | split | apply foldl_keeps | intro _ | fail_if_no_progress refine Keeps.same ?_ rfl | fail_if_no_progress extract_lets | apply getD_keeps | apply elim_keeps | dsimp +zetaDelta only

theorem State.setDomains_keeps {s0 s : State} (h : Keeps s0 s) (a1) (a2) : Keeps s0 (State.setDomains s a1 a2) := by
  unfold State.setDomains
  with_reducible repeat' first | exact h | assumption | apply State.eachIn_keeps | apply State.wr_keeps | split | apply foldl_keeps | intro _ | fail_if_no_progress refine Keeps.same ?_ rfl | fail_if_no_progress extract_lets | apply getD_keeps | apply elim_keeps | dsimp +zetaDelta only

theorem State.entryComplete_keeps {s0 s : State} (h : Keeps s0 s) : Keeps s0 (State.entryComplete s) := by
  unfold State.entryComplete
  with_reducible repeat' first | exact h | assumption | apply State.wr_keeps | apply State.modPwr_keeps | apply State.nextRequest_keeps | apply State.setDomains_keeps | apply State.pllsOff_keeps | apply State.send_keeps | apply State.beginWake_keeps | split | apply foldl_keeps | intro _ | fail_if_no_progress refine Keeps.same ?_ rfl | fail_if_no_progress extract_lets | apply getD_keeps | apply elim_keeps | dsimp +zetaDelta only

theorem execEntryComplete_keeps {s0 s : State} (h : Keeps s0 s) : ∀ t, execEntryComplete s = .next t → Keeps s0 t := by
  intro t ht
  refine Keeps.ofEq ?_ (Host.Outcome.next.inj ht).symm
  with_reducible repeat' first | exact h | assumption | apply State.entryComplete_keeps | split | apply foldl_keeps | intro _ | fail_if_no_progress refine Keeps.same ?_ rfl | fail_if_no_progress extract_lets | apply getD_keeps | apply elim_keeps | dsimp +zetaDelta only

theorem State.wakeEvent_keeps {s0 s : State} (h : Keeps s0 s) (a1) (a2) : Keeps s0 (State.wakeEvent s a1 a2) := by
  unfold State.wakeEvent
  with_reducible repeat' first | exact h | assumption | apply State.modPwr_keeps | apply State.entryAbandon_keeps | apply State.beginWake_keeps | split | apply foldl_keeps | intro _ | fail_if_no_progress refine Keeps.same ?_ rfl | fail_if_no_progress extract_lets | apply getD_keeps | apply elim_keeps | dsimp +zetaDelta only

theorem execWakeEvent_keeps {s0 s : State} (h : Keeps s0 s) (a0) (a1) : ∀ t, execWakeEvent a0 a1 s = .next t → Keeps s0 t := by
  intro t ht
  refine Keeps.ofEq ?_ (Host.Outcome.next.inj ht).symm
  with_reducible repeat' first | exact h | assumption | apply State.wakeEvent_keeps | split | apply foldl_keeps | intro _ | fail_if_no_progress refine Keeps.same ?_ rfl | fail_if_no_progress extract_lets | apply getD_keeps | apply elim_keeps | dsimp +zetaDelta only

theorem State.wakesIf_keeps {s0 s : State} (h : Keeps s0 s) (a1) (a2) : Keeps s0 (State.wakesIf s a1 a2) := by
  unfold State.wakesIf
  with_reducible repeat' first | exact h | assumption | apply State.wakeEvent_keeps | split | apply foldl_keeps | intro _ | fail_if_no_progress refine Keeps.same ?_ rfl | fail_if_no_progress extract_lets | apply getD_keeps | apply elim_keeps | dsimp +zetaDelta only

theorem execCcAttachDebounce_keeps {s0 s : State} (h : Keeps s0 s) (a0) (a1) (a2) (a3) : ∀ t, execCcAttachDebounce a0 a1 a2 a3 s = .next t → Keeps s0 t := by
  intro t ht
  refine Keeps.ofEq ?_ (Host.Outcome.next.inj ht).symm
  with_reducible repeat' first | exact h | assumption | apply State.pdAttach_keeps | apply State.wakesIf_keeps | split | apply foldl_keeps | intro _ | fail_if_no_progress refine Keeps.same ?_ rfl | fail_if_no_progress extract_lets | apply getD_keeps | apply elim_keeps | dsimp +zetaDelta only

theorem execDetach_keeps {s0 s : State} (h : Keeps s0 s) (a0) : ∀ t, execDetach a0 s = .next t → Keeps s0 t := by
  intro t ht
  refine Keeps.ofEq ?_ (Host.Outcome.next.inj ht).symm
  with_reducible repeat' first | exact h | assumption | apply State.pdDetach_keeps | apply State.wakesIf_keeps | split | apply foldl_keeps | intro _ | fail_if_no_progress refine Keeps.same ?_ rfl | fail_if_no_progress extract_lets | apply getD_keeps | apply elim_keeps | dsimp +zetaDelta only

theorem execPdFirmwareMessage_keeps {s0 s : State} (h : Keeps s0 s) (a0) (a1) (a2) : ∀ t, execPdFirmwareMessage a0 a1 a2 s = .next t → Keeps s0 t := by
  intro t ht
  refine Keeps.ofEq ?_ (Host.Outcome.next.inj ht).symm
  with_reducible repeat' first | exact h | assumption | apply State.pdFirmware_keeps | apply State.wakesIf_keeps | split | apply foldl_keeps | intro _ | fail_if_no_progress refine Keeps.same ?_ rfl | fail_if_no_progress extract_lets | apply getD_keeps | apply elim_keeps | dsimp +zetaDelta only

theorem execInputValidChange_keeps {s0 s : State} (h : Keeps s0 s) : ∀ t, execInputValidChange s = .next t → Keeps s0 t := by
  intro t ht
  refine Keeps.ofEq ?_ (Host.Outcome.next.inj ht).symm
  with_reducible repeat' first | exact h | assumption | apply State.inputsChanged_keeps | apply State.wakesIf_keeps | split | apply foldl_keeps | intro _ | fail_if_no_progress refine Keeps.same ?_ rfl | fail_if_no_progress extract_lets | apply getD_keeps | apply elim_keeps | dsimp +zetaDelta only

theorem State.patternWakes_keeps {s0 s : State} (h : Keeps s0 s) (a1) : Keeps s0 (State.patternWakes s a1) := by
  unfold State.patternWakes
  with_reducible repeat' first | exact h | assumption | apply State.entryAbandon_keeps | apply State.wakeEvent_keeps | split | apply foldl_keeps | intro _ | fail_if_no_progress refine Keeps.same ?_ rfl | fail_if_no_progress extract_lets | apply getD_keeps | apply elim_keeps | dsimp +zetaDelta only

theorem State.wakePattern_keeps {s0 s : State} (h : Keeps s0 s) (a1) : Keeps s0 (State.wakePattern s a1) := by
  unfold State.wakePattern
  with_reducible repeat' first | exact h | assumption | apply State.patternWakes_keeps | apply State.sendWake_keeps | apply State.unpark_keeps | split | apply foldl_keeps | intro _ | fail_if_no_progress refine Keeps.same ?_ rfl | fail_if_no_progress extract_lets | apply getD_keeps | apply elim_keeps | dsimp +zetaDelta only

theorem execWakePatternDetect_keeps {s0 s : State} (h : Keeps s0 s) (a0) : ∀ t, execWakePatternDetect a0 s = .next t → Keeps s0 t := by
  intro t ht
  refine Keeps.ofEq ?_ (Host.Outcome.next.inj ht).symm
  with_reducible repeat' first | exact h | assumption | apply State.wakePattern_keeps | split | apply foldl_keeps | intro _ | fail_if_no_progress refine Keeps.same ?_ rfl | fail_if_no_progress extract_lets | apply getD_keeps | apply elim_keeps | dsimp +zetaDelta only

theorem execWakeTimerExpire_keeps {s0 s : State} (h : Keeps s0 s) : ∀ t, execWakeTimerExpire s = .next t → Keeps s0 t := by
  intro t ht
  refine Keeps.ofEq ?_ (Host.Outcome.next.inj ht).symm
  with_reducible repeat' first | exact h | assumption | apply State.wr_keeps | apply State.wakeEvent_keeps | split | apply foldl_keeps | intro _ | fail_if_no_progress refine Keeps.same ?_ rfl | fail_if_no_progress extract_lets | apply getD_keeps | apply elim_keeps | dsimp +zetaDelta only

theorem State.wakeComplete_keeps {s0 s : State} (h : Keeps s0 s) (a1) : Keeps s0 (State.wakeComplete s a1) := by
  unfold State.wakeComplete
  with_reducible repeat' first | exact h | assumption | apply State.setDomains_keeps | apply State.modPwr_keeps | apply State.wr_keeps | apply State.pauseAll_keeps | apply State.nextRequest_keeps | split | apply foldl_keeps | intro _ | fail_if_no_progress refine Keeps.same ?_ rfl | fail_if_no_progress extract_lets | apply getD_keeps | apply elim_keeps | dsimp +zetaDelta only

theorem execWakeComplete_keeps {s0 s : State} (h : Keeps s0 s) (a0) : ∀ t, execWakeComplete a0 s = .next t → Keeps s0 t := by
  intro t ht
  refine Keeps.ofEq ?_ (Host.Outcome.next.inj ht).symm
  with_reducible repeat' first | exact h | assumption | apply State.wakeComplete_keeps | split | apply foldl_keeps | intro _ | fail_if_no_progress refine Keeps.same ?_ rfl | fail_if_no_progress extract_lets | apply getD_keeps | apply elim_keeps | dsimp +zetaDelta only

theorem State.domHeld_keeps {s0 s : State} (h : Keeps s0 s) (a1) : Keeps s0 (State.domHeld s a1) := by
  unfold State.domHeld
  with_reducible repeat' first | exact h | assumption | apply State.wr_keeps | split | apply foldl_keeps | intro _ | fail_if_no_progress refine Keeps.same ?_ rfl | fail_if_no_progress extract_lets | apply getD_keeps | apply elim_keeps | dsimp +zetaDelta only

theorem execDomainIdleOff_keeps {s0 s : State} (h : Keeps s0 s) (a0) : ∀ t, execDomainIdleOff a0 s = .next t → Keeps s0 t := by
  intro t ht
  refine Keeps.ofEq ?_ (Host.Outcome.next.inj ht).symm
  with_reducible repeat' first | exact h | assumption | apply State.wr_keeps | apply State.domHeld_keeps | split | apply foldl_keeps | intro _ | fail_if_no_progress refine Keeps.same ?_ rfl | fail_if_no_progress extract_lets | apply getD_keeps | apply elim_keeps | dsimp +zetaDelta only

theorem State.domainReady_keeps {s0 s : State} (h : Keeps s0 s) (a1) (a2) : Keeps s0 (State.domainReady s a1 a2) := by
  unfold State.domainReady
  with_reducible repeat' first | exact h | assumption | apply State.wr_keeps | split | apply foldl_keeps | intro _ | fail_if_no_progress refine Keeps.same ?_ rfl | fail_if_no_progress extract_lets | apply getD_keeps | apply elim_keeps | dsimp +zetaDelta only

theorem execDomainWakeDone_keeps {s0 s : State} (h : Keeps s0 s) (a0) (a1) : ∀ t, execDomainWakeDone a0 a1 s = .next t → Keeps s0 t := by
  intro t ht
  refine Keeps.ofEq ?_ (Host.Outcome.next.inj ht).symm
  with_reducible repeat' first | exact h | assumption | apply State.domainReady_keeps | split | apply foldl_keeps | intro _ | fail_if_no_progress refine Keeps.same ?_ rfl | fail_if_no_progress extract_lets | apply getD_keeps | apply elim_keeps | dsimp +zetaDelta only

theorem State.leadResult_keeps {s0 s : State} (h : Keeps s0 s) (a1) (a2) (a3) : Keeps s0 (State.leadResult s a1 a2 a3) := by
  unfold State.leadResult
  with_reducible repeat' first | exact h | assumption | apply State.modLink_keeps | apply State.wrapAdd_keeps | apply State.retrainLane_keeps | apply State.planFail_keeps | apply State.modSched_keeps | apply State.endAct_keeps | apply State.entryAbandon_keeps | split | apply foldl_keeps | intro _ | fail_if_no_progress refine Keeps.same ?_ rfl | fail_if_no_progress extract_lets | apply getD_keeps | apply elim_keeps | dsimp +zetaDelta only

theorem execLeadResult_keeps {s0 s : State} (h : Keeps s0 s) (a0) (a1) (a2) (a3) : ∀ t, execLeadResult a0 a1 a2 a3 s = .next t → Keeps s0 t := by
  intro t ht
  refine Keeps.ofEq ?_ (Host.Outcome.next.inj ht).symm
  with_reducible repeat' first | exact h | assumption | apply State.leadResult_keeps | split | apply foldl_keeps | intro _ | fail_if_no_progress refine Keeps.same ?_ rfl | fail_if_no_progress extract_lets | apply getD_keeps | apply elim_keeps | dsimp +zetaDelta only

theorem State.liftLocks_keeps {s0 s : State} (h : Keeps s0 s) : Keeps s0 (State.liftLocks s) := by
  unfold State.liftLocks
  with_reducible repeat' first | exact h | assumption | apply State.each_keeps | apply State.wr_keeps | split | apply foldl_keeps | intro _ | fail_if_no_progress refine Keeps.same ?_ rfl | fail_if_no_progress extract_lets | apply getD_keeps | apply elim_keeps | dsimp +zetaDelta only

theorem State.keyStart_keeps {s0 s : State} (h : Keeps s0 s) (a1) (a2) (a3) (a4) (a5) (a6) : Keeps s0 (State.keyStart s a1 a2 a3 a4 a5 a6).2 := by
  unfold State.keyStart
  with_reducible repeat' first | exact h | assumption | apply State.raise_keeps | apply State.wr_keeps | split | apply foldl_keeps | intro _ | fail_if_no_progress refine Keeps.same ?_ rfl | fail_if_no_progress extract_lets | apply getD_keeps | apply elim_keeps | dsimp +zetaDelta only

theorem State.ksGo_keeps {s0 s : State} (h : Keeps s0 s) (a1) (a2) : Keeps s0 (State.ksGo s a1 a2) := by
  unfold State.ksGo
  with_reducible repeat' first | exact h | assumption | apply State.wr_keeps | apply State.keyStart_keeps | split | apply foldl_keeps | intro _ | fail_if_no_progress refine Keeps.same ?_ rfl | fail_if_no_progress extract_lets | apply getD_keeps | apply elim_keeps | dsimp +zetaDelta only

theorem State.clearKeyRegs_keeps {s0 s : State} (h : Keeps s0 s) : Keeps s0 (State.clearKeyRegs s) := by
  unfold State.clearKeyRegs
  with_reducible repeat' first | exact h | assumption | apply State.each_keeps | apply State.wr_keeps | split | apply foldl_keeps | intro _ | fail_if_no_progress refine Keeps.same ?_ rfl | fail_if_no_progress extract_lets | apply getD_keeps | apply elim_keeps | dsimp +zetaDelta only

theorem State.keyEnd_keeps {s0 s : State} (h : Keeps s0 s) (a1) (a2) : Keeps s0 (State.keyEnd s a1 a2) := by
  unfold State.keyEnd
  with_reducible repeat' first | exact h | assumption | apply State.wr_keeps | apply State.finish_keeps | split | apply foldl_keeps | intro _ | fail_if_no_progress refine Keeps.same ?_ rfl | fail_if_no_progress extract_lets | apply getD_keeps | apply elim_keeps | dsimp +zetaDelta only

theorem State.keyDone_keeps {s0 s : State} (h : Keeps s0 s) (a1) : Keeps s0 (State.keyDone s a1) := by
  unfold State.keyDone
  with_reducible repeat' first | exact h | assumption | apply State.clearKeyRegs_keeps | apply State.wr_keeps | apply State.wrapAdd_keeps | apply State.keyEnd_keeps | apply State.raise_keeps | apply State.setMemBytes_keeps | split | apply foldl_keeps | intro _ | fail_if_no_progress refine Keeps.same ?_ rfl | fail_if_no_progress extract_lets | apply getD_keeps | apply elim_keeps | dsimp +zetaDelta only

theorem execKeyUnitDone_keeps {s0 s : State} (h : Keeps s0 s) : ∀ t, execKeyUnitDone s = .next t → Keeps s0 t := by
  intro t ht
  refine Keeps.ofEq ?_ (Host.Outcome.next.inj ht).symm
  with_reducible repeat' first | exact h | assumption | apply State.keyDone_keeps | split | apply foldl_keeps | intro _ | fail_if_no_progress refine Keeps.same ?_ rfl | fail_if_no_progress extract_lets | apply getD_keeps | apply elim_keeps | dsimp +zetaDelta only

theorem execRngHealthFail_keeps {s0 s : State} (h : Keeps s0 s) : ∀ t, execRngHealthFail s = .next t → Keeps s0 t := by
  intro t ht
  refine Keeps.ofEq ?_ (Host.Outcome.next.inj ht).symm
  with_reducible repeat' first | exact h | assumption | apply State.raise_keeps | split | apply foldl_keeps | intro _ | fail_if_no_progress refine Keeps.same ?_ rfl | fail_if_no_progress extract_lets | apply getD_keeps | apply elim_keeps | dsimp +zetaDelta only

theorem execDrainComplete_keeps {s0 s : State} (h : Keeps s0 s) (a0) : ∀ t, execDrainComplete a0 s = .next t → Keeps s0 t := by
  intro t ht
  refine Keeps.ofEq ?_ (Host.Outcome.next.inj ht).symm
  with_reducible repeat' first | exact h | assumption | apply State.wr_keeps | split | apply foldl_keeps | intro _ | fail_if_no_progress refine Keeps.same ?_ rfl | fail_if_no_progress extract_lets | apply getD_keeps | apply elim_keeps | dsimp +zetaDelta only

theorem execDbgauthChallenge_keeps {s0 s : State} (h : Keeps s0 s) : ∀ t, execDbgauthChallenge s = .next t → Keeps s0 t := by
  intro t ht
  refine Keeps.ofEq ?_ (Host.Outcome.next.inj ht).symm
  with_reducible repeat' first | exact h | assumption | apply State.freshBytes_keeps | apply State.send_keeps | split | apply foldl_keeps | intro _ | fail_if_no_progress refine Keeps.same ?_ rfl | fail_if_no_progress extract_lets | apply getD_keeps | apply elim_keeps | dsimp +zetaDelta only

theorem execNonceLapse_keeps {s0 s : State} (h : Keeps s0 s) : ∀ t, execNonceLapse s = .next t → Keeps s0 t := by
  intro t ht
  refine Keeps.ofEq ?_ (Host.Outcome.next.inj ht).symm
  with_reducible repeat' first | exact h | assumption | split | apply foldl_keeps | intro _ | fail_if_no_progress refine Keeps.same ?_ rfl | fail_if_no_progress extract_lets | apply getD_keeps | apply elim_keeps | dsimp +zetaDelta only

theorem execDbgVerify_keeps {s0 s : State} (h : Keeps s0 s) (a0) (a1) (a2) : ∀ t, execDbgVerify a0 a1 a2 s = .next t → Keeps s0 t := by
  intro t ht
  refine Keeps.ofEq ?_ (Host.Outcome.next.inj ht).symm
  with_reducible repeat' first | exact h | assumption | split | apply foldl_keeps | intro _ | fail_if_no_progress refine Keeps.same ?_ rfl | fail_if_no_progress extract_lets | apply getD_keeps | apply elim_keeps | dsimp +zetaDelta only

theorem State.dbgDone_keeps {s0 s : State} (h : Keeps s0 s) (a1) (a2) (a3) (a4) : Keeps s0 (State.dbgDone s a1 a2 a3 a4) := by
  unfold State.dbgDone
  with_reducible repeat' first | exact h | assumption | apply State.wr_keeps | apply State.liftLocks_keeps | apply State.raise_keeps | apply State.satAdd_keeps | apply State.onlyIf_keeps | split | apply foldl_keeps | intro _ | fail_if_no_progress refine Keeps.same ?_ rfl | fail_if_no_progress extract_lets | apply getD_keeps | apply elim_keeps | dsimp +zetaDelta only

theorem execDbgVerifyDone_keeps {s0 s : State} (h : Keeps s0 s) : ∀ t, execDbgVerifyDone s = .next t → Keeps s0 t := by
  intro t ht
  refine Keeps.ofEq ?_ (Host.Outcome.next.inj ht).symm
  with_reducible repeat' first | exact h | assumption | apply State.dbgDone_keeps | split | apply foldl_keeps | intro _ | fail_if_no_progress refine Keeps.same ?_ rfl | fail_if_no_progress extract_lets | apply getD_keeps | apply elim_keeps | dsimp +zetaDelta only

theorem execTestReset_keeps {s0 s : State} (h : Keeps s0 s) : ∀ t, execTestReset s = .next t → Keeps s0 t := by
  intro t ht
  refine Keeps.ofEq ?_ (Host.Outcome.next.inj ht).symm
  with_reducible repeat' first | exact h | assumption | split | apply foldl_keeps | intro _ | fail_if_no_progress refine Keeps.same ?_ rfl | fail_if_no_progress extract_lets | apply getD_keeps | apply elim_keeps | dsimp +zetaDelta only

theorem State.modImg_keeps {s0 s : State} (h : Keeps s0 s) (a1) : Keeps s0 (State.modImg s a1) := by
  unfold State.modImg
  with_reducible repeat' first | exact h | assumption | split | apply foldl_keeps | intro _ | fail_if_no_progress refine Keeps.same ?_ rfl | fail_if_no_progress extract_lets | apply getD_keeps | apply elim_keeps | dsimp +zetaDelta only

theorem State.pipeStart_keeps {s0 s : State} (h : Keeps s0 s) (a1) (a2) : Keeps s0 (State.pipeStart s a1 a2) := by
  unfold State.pipeStart
  with_reducible repeat' first | exact h | assumption | apply State.setHpd_keeps | apply State.setReg_keeps | apply State.setPipe_keeps | apply State.modImg_keeps | apply State.wr_keeps | split | apply foldl_keeps | intro _ | fail_if_no_progress refine Keeps.same ?_ rfl | fail_if_no_progress extract_lets | apply getD_keeps | apply elim_keeps | dsimp +zetaDelta only

theorem State.pipeApplied_keeps {s0 s : State} (h : Keeps s0 s) (a1) (a2) : Keeps s0 (State.pipeApplied s a1 a2) := by
  unfold State.pipeApplied
  with_reducible repeat' first | exact h | assumption | apply State.pipeStart_keeps | apply State.judgeMode_keeps | split | apply foldl_keeps | intro _ | fail_if_no_progress refine Keeps.same ?_ rfl | fail_if_no_progress extract_lets | apply getD_keeps | apply elim_keeps | dsimp +zetaDelta only

theorem State.mirrorsApplied_keeps {s0 s : State} (h : Keeps s0 s) (a1) : Keeps s0 (State.mirrorsApplied s a1) := by
  unfold State.mirrorsApplied
  with_reducible repeat' first | exact h | assumption | apply State.each_keeps | apply State.mapSw_keeps | split | apply foldl_keeps | intro _ | fail_if_no_progress refine Keeps.same ?_ rfl | fail_if_no_progress extract_lets | apply getD_keeps | apply elim_keeps | dsimp +zetaDelta only

theorem State.trafficApplied_keeps {s0 s : State} (h : Keeps s0 s) (a1) (a2) : Keeps s0 (State.trafficApplied s a1 a2) := by
  unfold State.trafficApplied
  with_reducible repeat' first | exact h | assumption | apply State.wr_keeps | apply State.eachIn_keeps | apply State.fillPolicer_keeps | apply State.each_keeps | apply State.gatesTouched_keeps | apply State.pipeApplied_keeps | apply State.macApplied_keeps | apply State.mirrorsApplied_keeps | split | apply foldl_keeps | intro _ | fail_if_no_progress refine Keeps.same ?_ rfl | fail_if_no_progress extract_lets | apply getD_keeps | apply elim_keeps | dsimp +zetaDelta only

theorem State.lanesApplied_keeps {s0 s : State} (h : Keeps s0 s) (a1) : Keeps s0 (State.lanesApplied s a1) := by
  unfold State.lanesApplied
  with_reducible repeat' first | exact h | assumption | apply State.each_keeps | apply State.sendCtl_keeps | apply State.holdAct_keeps | apply State.laneOff_keeps | split | apply foldl_keeps | intro _ | fail_if_no_progress refine Keeps.same ?_ rfl | fail_if_no_progress extract_lets | apply getD_keeps | apply elim_keeps | dsimp +zetaDelta only

theorem State.sbApplied_keeps {s0 s : State} (h : Keeps s0 s) : Keeps s0 (State.sbApplied s) := by
  unfold State.sbApplied
  with_reducible repeat' first | exact h | assumption | apply State.each_keeps | apply State.sbDrive_keeps | apply State.applied_keeps | apply State.wr_keeps | split | apply foldl_keeps | intro _ | fail_if_no_progress refine Keeps.same ?_ rfl | fail_if_no_progress extract_lets | apply getD_keeps | apply elim_keeps | dsimp +zetaDelta only

theorem State.usbApplied_keeps {s0 s : State} (h : Keeps s0 s) (a1) : Keeps s0 (State.usbApplied s a1) := by
  unfold State.usbApplied
  with_reducible repeat' first | exact h | assumption | apply State.each_keeps | apply State.modTport_keeps | apply State.portGone_keeps | apply State.eachIn_keeps | apply State.usbOpened_keeps | apply State.upDisconnect_keeps | split | apply foldl_keeps | intro _ | fail_if_no_progress refine Keeps.same ?_ rfl | fail_if_no_progress extract_lets | apply getD_keeps | apply elim_keeps | dsimp +zetaDelta only

theorem State.pdApplied_keeps {s0 s : State} (h : Keeps s0 s) : Keeps s0 (State.pdApplied s) := by
  unfold State.pdApplied
  with_reducible repeat' first | exact h | assumption | apply State.budget_keeps | apply State.each_keeps | apply State.sendCaps_keeps | split | apply foldl_keeps | intro _ | fail_if_no_progress refine Keeps.same ?_ rfl | fail_if_no_progress extract_lets | apply getD_keeps | apply elim_keeps | dsimp +zetaDelta only

theorem State.efApplied_keeps {s0 s : State} (h : Keeps s0 s) (a1) : Keeps s0 (State.efApplied s a1) := by
  unfold State.efApplied
  with_reducible repeat' first | exact h | assumption | apply State.each_keeps | apply State.raise_keeps | apply State.breaker_keeps | apply State.gateOff_keeps | apply State.setEf_keeps | split | apply foldl_keeps | intro _ | fail_if_no_progress refine Keeps.same ?_ rfl | fail_if_no_progress extract_lets | apply getD_keeps | apply elim_keeps | dsimp +zetaDelta only

theorem State.applied_keeps {s0 s : State} (h : Keeps s0 s) (old staged) : Keeps s0 (State.applied s old staged) := by
  have ite_ : ∀ {c : Prop} [Decidable c] {a b : State}, Keeps s0 a → Keeps s0 b → Keeps s0 (if c then a else b) := by
    intro c _ a b ha hb; split <;> assumption
  unfold State.applied
  extract_lets touched s1 s2 s3 s4 s5 s6 s7 s8 s9
  have k1 : Keeps s0 s1 := State.trafficApplied_keeps h _ _
  have k2 : Keeps s0 s2 := ite_ (State.lanesApplied_keeps k1 _) k1
  have k3 : Keeps s0 s3 := ite_ (State.sbApplied_keeps k2) k2
  have k4 : Keeps s0 s4 := ite_ (State.usbApplied_keeps k3 _) k3
  have k5 : Keeps s0 s5 := ite_ (State.pdApplied_keeps k4) k4
  have k6 : Keeps s0 s6 := ite_ (State.efApplied_keeps k5 _) k5
  have k7 : Keeps s0 s7 := ite_ (State.endSlew_keeps k6) k6
  have k8 : Keeps s0 s8 := ite_ (State.takeHost_keeps k7) k7
  have k9 : Keeps s0 s9 := ite_ (State.ownFloor_keeps k8) k8
  exact State.liftLocks_keeps (State.gmChanged_keeps k9 _)

theorem State.written_keeps {s0 s : State} (h : Keeps s0 s) (a1) (a2) (a3) : Keeps s0 (State.written s a1 a2 a3) := by
  unfold State.written
  with_reducible repeat' first | exact h | assumption | apply State.enablesChanged_keeps | apply State.kick_keeps | apply State.setReg_keeps | apply State.testWrite_keeps | apply State.patWritten_keeps | apply State.gatesTouched_keeps | split | apply foldl_keeps | intro _ | fail_if_no_progress refine Keeps.same ?_ rfl | fail_if_no_progress extract_lets | apply getD_keeps | apply elim_keeps | dsimp +zetaDelta only

theorem State.writeReg_keeps {s0 s : State} (h : Keeps s0 s) (a1) (a2) : Keeps s0 (State.writeReg s a1 a2) := by
  unfold State.writeReg
  with_reducible repeat' first | exact h | assumption | apply State.setReg_keeps | apply State.modImg_keeps | apply State.written_keeps | split | apply foldl_keeps | intro _ | fail_if_no_progress refine Keeps.same ?_ rfl | fail_if_no_progress extract_lets | apply getD_keeps | apply elim_keeps | dsimp +zetaDelta only

theorem State.setTxn_keeps {s0 s : State} (h : Keeps s0 s) (a1) : Keeps s0 (State.setTxn s a1) := by
  unfold State.setTxn
  with_reducible repeat' first | exact h | assumption | apply State.modImg_keeps | split | apply foldl_keeps | intro _ | fail_if_no_progress refine Keeps.same ?_ rfl | fail_if_no_progress extract_lets | apply getD_keeps | apply elim_keeps | dsimp +zetaDelta only

theorem State.dropTxn_keeps {s0 s : State} (h : Keeps s0 s) (a1) : Keeps s0 (State.dropTxn s a1) := by
  unfold State.dropTxn
  with_reducible repeat' first | exact h | assumption | apply State.modImg_keeps | split | apply foldl_keeps | intro _ | fail_if_no_progress refine Keeps.same ?_ rfl | fail_if_no_progress extract_lets | apply getD_keeps | apply elim_keeps | dsimp +zetaDelta only

theorem State.touchTxn_keeps {s0 s : State} (h : Keeps s0 s) (a1) : Keeps s0 (State.touchTxn s a1) := by
  unfold State.touchTxn
  with_reducible repeat' first | exact h | assumption | apply State.modImg_keeps | split | apply foldl_keeps | intro _ | fail_if_no_progress refine Keeps.same ?_ rfl | fail_if_no_progress extract_lets | apply getD_keeps | apply elim_keeps | dsimp +zetaDelta only

theorem State.beginTxn_keeps {s0 s : State} (h : Keeps s0 s) (a1) : Keeps s0 (State.beginTxn s a1).2.2 := by
  unfold State.beginTxn
  with_reducible repeat' first | exact h | assumption | apply State.modImg_keeps | split | apply foldl_keeps | intro _ | fail_if_no_progress refine Keeps.same ?_ rfl | fail_if_no_progress extract_lets | apply getD_keeps | apply elim_keeps | dsimp +zetaDelta only

theorem execTxnIdleTimeout_keeps {s0 s : State} (h : Keeps s0 s) (a0) : ∀ t, execTxnIdleTimeout a0 s = .next t → Keeps s0 t := by
  intro t ht
  refine Keeps.ofEq ?_ (Host.Outcome.next.inj ht).symm
  with_reducible repeat' first | exact h | assumption | apply State.dropTxn_keeps | apply State.raise_keeps | split | apply foldl_keeps | intro _ | fail_if_no_progress refine Keeps.same ?_ rfl | fail_if_no_progress extract_lets | apply getD_keeps | apply elim_keeps | dsimp +zetaDelta only

theorem State.stageOne_keeps {s0 s : State} (h : Keeps s0 s) (a1) (a2) (a3) : Keeps s0 (State.stageOne s a1 a2 a3).2 := by
  unfold State.stageOne
  with_reducible repeat' first | exact h | assumption | apply State.gatePass_keeps | apply State.setTxn_keeps | split | apply foldl_keeps | intro _ | fail_if_no_progress refine Keeps.same ?_ rfl | fail_if_no_progress extract_lets | apply getD_keeps | apply elim_keeps | dsimp +zetaDelta only

theorem State.stageAll_keeps {s0 s : State} (h : Keeps s0 s) (a1) (a2) (a3) (a4) : Keeps s0 (State.stageAll s a1 a2 a3 a4).2.2.2 := by
  induction a4 generalizing s a1 a2 a3 with
  | nil =>
    unfold State.stageAll
    with_reducible repeat' first | exact h | assumption | apply State.stageOne_keeps | split | apply foldl_keeps | intro _ | fail_if_no_progress refine Keeps.same ?_ rfl | fail_if_no_progress extract_lets | apply getD_keeps | apply elim_keeps | dsimp +zetaDelta only
  | cons x l ih =>
    unfold State.stageAll
    with_reducible repeat' first | apply ih | exact h | assumption | apply State.stageOne_keeps | split | apply foldl_keeps | intro _ | fail_if_no_progress refine Keeps.same ?_ rfl | fail_if_no_progress extract_lets | apply getD_keeps | apply elim_keeps | dsimp +zetaDelta only

theorem State.overlay_keeps {s0 s : State} (h : Keeps s0 s) (a1) : Keeps s0 (State.overlay s a1) := by
  unfold State.overlay
  with_reducible repeat' first | exact h | assumption | apply State.eachIn_keeps | apply State.setReg_keeps | split | apply foldl_keeps | intro _ | fail_if_no_progress refine Keeps.same ?_ rfl | fail_if_no_progress extract_lets | apply getD_keeps | apply elim_keeps | dsimp +zetaDelta only

theorem State.haltAdapters_keeps {s0 s : State} (h : Keeps s0 s) (a1) (a2) : Keeps s0 (State.haltAdapters s a1 a2) := by
  unfold State.haltAdapters
  with_reducible repeat' first | exact h | assumption | apply State.eachIn_keeps | apply State.modAdp_keeps | split | apply foldl_keeps | intro _ | fail_if_no_progress refine Keeps.same ?_ rfl | fail_if_no_progress extract_lets | apply getD_keeps | apply elim_keeps | dsimp +zetaDelta only

theorem State.shadowWake_keeps {s0 s : State} (h : Keeps s0 s) (a1) : Keeps s0 (State.shadowWake s a1) := by
  unfold State.shadowWake
  with_reducible repeat' first | exact h | assumption | apply State.domainReady_keeps | split | apply foldl_keeps | intro _ | fail_if_no_progress refine Keeps.same ?_ rfl | fail_if_no_progress extract_lets | apply getD_keeps | apply elim_keeps | dsimp +zetaDelta only

theorem State.loadShadows_keeps {s0 s : State} (h : Keeps s0 s) (a1) : Keeps s0 (State.loadShadows s a1) := by
  unfold State.loadShadows
  with_reducible repeat' first | exact h | assumption | apply State.eachIn_keeps | apply State.shadowWake_keeps | split | apply foldl_keeps | intro _ | fail_if_no_progress refine Keeps.same ?_ rfl | fail_if_no_progress extract_lets | apply getD_keeps | apply elim_keeps | dsimp +zetaDelta only

theorem State.strobe_keeps {s0 s : State} (h : Keeps s0 s) (a1) : Keeps s0 (State.strobe s a1) := by
  unfold State.strobe
  with_reducible repeat' first | exact h | assumption | apply State.eachIn_keeps | apply State.writeReg_keeps | apply State.applied_keeps | split | apply foldl_keeps | intro _ | fail_if_no_progress refine Keeps.same ?_ rfl | fail_if_no_progress extract_lets | apply getD_keeps | apply elim_keeps | dsimp +zetaDelta only

theorem State.beginQuiet_keeps {s0 s : State} (h : Keeps s0 s) (a1) : Keeps s0 (State.beginQuiet s a1) := by
  unfold State.beginQuiet
  with_reducible repeat' first | exact h | assumption | split | apply foldl_keeps | intro _ | fail_if_no_progress refine Keeps.same ?_ rfl | fail_if_no_progress extract_lets | apply getD_keeps | apply elim_keeps | dsimp +zetaDelta only

theorem State.quietPoint_keeps {s0 s : State} (h : Keeps s0 s) (a1) (a2) (a3) : Keeps s0 (State.quietPoint s a1 a2 a3) := by
  unfold State.quietPoint
  with_reducible repeat' first | exact h | assumption | apply State.overlay_keeps | apply State.eachIn_keeps | apply State.tunnelClosed_keeps | apply State.beginQuiet_keeps | apply State.strobe_keeps | apply State.each_keeps | apply State.wr_keeps | apply State.haltAdapters_keeps | apply State.sendTunnelClose_keeps | apply State.sendTunnelOpen_keeps | apply State.dropTxn_keeps | apply State.modImg_keeps | apply State.wrapAdd_keeps | apply State.finishRegs_keeps | split | apply foldl_keeps | intro _ | fail_if_no_progress refine Keeps.same ?_ rfl | fail_if_no_progress extract_lets | apply getD_keeps | apply elim_keeps | dsimp +zetaDelta only

theorem execQuietPoint_keeps {s0 s : State} (h : Keeps s0 s) (a0) (a1) (a2) : ∀ t, execQuietPoint a0 a1 a2 s = .next t → Keeps s0 t := by
  intro t ht
  refine Keeps.ofEq ?_ (Host.Outcome.next.inj ht).symm
  with_reducible repeat' first | exact h | assumption | apply State.quietPoint_keeps | split | apply foldl_keeps | intro _ | fail_if_no_progress refine Keeps.same ?_ rfl | fail_if_no_progress extract_lets | apply getD_keeps | apply elim_keeps | dsimp +zetaDelta only

theorem execDrainTimeout_keeps {s0 s : State} (h : Keeps s0 s) : ∀ t, execDrainTimeout s = .next t → Keeps s0 t := by
  intro t ht
  refine Keeps.ofEq ?_ (Host.Outcome.next.inj ht).symm
  with_reducible repeat' first | exact h | assumption | apply State.haltAdapters_keeps | apply State.modImg_keeps | apply State.raise_keeps | apply State.touchTxn_keeps | apply State.finish_keeps | split | apply foldl_keeps | intro _ | fail_if_no_progress refine Keeps.same ?_ rfl | fail_if_no_progress extract_lets | apply getD_keeps | apply elim_keeps | dsimp +zetaDelta only

theorem State.setSlotStatus_keeps {s0 s : State} (h : Keeps s0 s) (a1) (a2) : Keeps s0 (State.setSlotStatus s a1 a2) := by
  unfold State.setSlotStatus
  with_reducible repeat' first | exact h | assumption | apply State.wr_keeps | split | apply foldl_keeps | intro _ | fail_if_no_progress refine Keeps.same ?_ rfl | fail_if_no_progress extract_lets | apply getD_keeps | apply elim_keeps | dsimp +zetaDelta only

theorem State.activate_keeps {s0 s : State} (h : Keeps s0 s) (a1) (a2) : Keeps s0 (State.activate s a1 a2) := by
  unfold State.activate
  with_reducible repeat' first | exact h | assumption | apply State.wr_keeps | apply State.modImg_keeps | apply State.loadShadows_keeps | apply State.strobe_keeps | apply State.setSlotStatus_keeps | apply State.writeLog_keeps | apply State.notify_keeps | apply State.takeHost_keeps | apply State.ownFloor_keeps | apply State.each_keeps | apply State.startTraining_keeps | split | apply foldl_keeps | intro _ | fail_if_no_progress refine Keeps.same ?_ rfl | fail_if_no_progress extract_lets | apply getD_keeps | apply elim_keeps | dsimp +zetaDelta only

theorem State.tryImages_keeps {s0 s : State} (h : Keeps s0 s) (a1) : Keeps s0 (State.tryImages s a1) := by
  induction a1 generalizing s with
  | nil =>
    unfold State.tryImages
    with_reducible repeat' first | exact h | assumption | apply State.wr_keeps | apply State.activate_keeps | apply State.setSlotStatus_keeps | apply State.raise_keeps | split | apply foldl_keeps | intro _ | fail_if_no_progress refine Keeps.same ?_ rfl | fail_if_no_progress extract_lets | apply getD_keeps | apply elim_keeps | dsimp +zetaDelta only
  | cons x l ih =>
    unfold State.tryImages
    with_reducible repeat' first | apply ih | exact h | assumption | apply State.wr_keeps | apply State.activate_keeps | apply State.setSlotStatus_keeps | apply State.raise_keeps | split | apply foldl_keeps | intro _ | fail_if_no_progress refine Keeps.same ?_ rfl | fail_if_no_progress extract_lets | apply getD_keeps | apply elim_keeps | dsimp +zetaDelta only

theorem State.imageLoad_keeps {s0 s : State} (h : Keeps s0 s) (a1) : Keeps s0 (State.imageLoad s a1) := by
  unfold State.imageLoad
  with_reducible repeat' first | exact h | assumption | apply State.setSlotStatus_keeps | apply State.tryImages_keeps | split | apply foldl_keeps | intro _ | fail_if_no_progress refine Keeps.same ?_ rfl | fail_if_no_progress extract_lets | apply getD_keeps | apply elim_keeps | dsimp +zetaDelta only

theorem execImageLoad_keeps {s0 s : State} (h : Keeps s0 s) (a0) : ∀ t, execImageLoad a0 s = .next t → Keeps s0 t := by
  intro t ht
  refine Keeps.ofEq ?_ (Host.Outcome.next.inj ht).symm
  with_reducible repeat' first | exact h | assumption | apply State.imageLoad_keeps | split | apply foldl_keeps | intro _ | fail_if_no_progress refine Keeps.same ?_ rfl | fail_if_no_progress extract_lets | apply getD_keeps | apply elim_keeps | dsimp +zetaDelta only

theorem State.patchCheck_keeps {s0 s : State} (h : Keeps s0 s) : Keeps s0 (State.patchCheck s) := by
  unfold State.patchCheck
  with_reducible repeat' first | exact h | assumption | apply State.setMemBytes_keeps | apply State.setReg_keeps | apply State.raise_keeps | split | apply foldl_keeps | intro _ | fail_if_no_progress refine Keeps.same ?_ rfl | fail_if_no_progress extract_lets | apply getD_keeps | apply elim_keeps | dsimp +zetaDelta only

theorem State.coreRelease_keeps {s0 s : State} (h : Keeps s0 s) : Keeps s0 (State.coreRelease s) := by
  unfold State.coreRelease
  with_reducible repeat' first | exact h | assumption | apply State.wr_keeps | apply State.patchCheck_keeps | split | apply foldl_keeps | intro _ | fail_if_no_progress refine Keeps.same ?_ rfl | fail_if_no_progress extract_lets | apply getD_keeps | apply elim_keeps | dsimp +zetaDelta only

theorem execCoreResetRelease_keeps {s0 s : State} (h : Keeps s0 s) : ∀ t, execCoreResetRelease s = .next t → Keeps s0 t := by
  intro t ht
  refine Keeps.ofEq ?_ (Host.Outcome.next.inj ht).symm
  with_reducible repeat' first | exact h | assumption | apply State.coreRelease_keeps | split | apply foldl_keeps | intro _ | fail_if_no_progress refine Keeps.same ?_ rfl | fail_if_no_progress extract_lets | apply getD_keeps | apply elim_keeps | dsimp +zetaDelta only

theorem State.bistStart_keeps {s0 s : State} (h : Keeps s0 s) (a1) : Keeps s0 (State.bistStart s a1).2 := by
  unfold State.bistStart
  with_reducible repeat' first | exact h | assumption | apply State.raise_keeps | apply State.wr_keeps | split | apply foldl_keeps | intro _ | fail_if_no_progress refine Keeps.same ?_ rfl | fail_if_no_progress extract_lets | apply getD_keeps | apply elim_keeps | dsimp +zetaDelta only

theorem State.bistReset_keeps {s0 s : State} (h : Keeps s0 s) (b) : Keeps s0 (State.bistReset s b) := by
  have k : Keeps s0 { s with frame := [], free := s.free + 1, test := { s.test with frameGen := s.free + 1 } } := by
    refine h.trans ⟨rfl, fun hw => ?_, List.prefix_rfl, Nat.le_refl _, Nat.le_succ _, Nat.le_refl _, Nat.le_refl _⟩
    rw [wf_split] at hw ⊢
    exact ⟨hw.1, hw.2.1, rfl, hw.2.2.2⟩
  unfold State.bistReset
  repeat' first | exact k | with_reducible exact h | with_reducible assumption | with_reducible apply State.clearSwitch_keeps | with_reducible apply State.startTraining_keeps | with_reducible apply State.setLink_keeps | with_reducible apply State.eachIn_keeps | with_reducible apply State.setLane_keeps | with_reducible apply State.modPipe_keeps | with_reducible apply State.modAdp_keeps | with_reducible apply State.modMac_keeps | with_reducible apply State.modBrg_keeps | with_reducible apply foldl_keeps | fail_if_no_progress (with_reducible refine Keeps.same ?_ rfl) | with_reducible split | intro _

theorem State.bistDone_keeps {s0 s : State} (h : Keeps s0 s) (a1) : Keeps s0 (State.bistDone s a1) := by
  unfold State.bistDone
  with_reducible repeat' first | exact h | assumption | apply State.bistReset_keeps | apply State.setReg_keeps | apply State.wr_keeps | apply State.raiseWith_keeps | apply State.finishRegs_keeps | split | apply foldl_keeps | intro _ | fail_if_no_progress refine Keeps.same ?_ rfl | fail_if_no_progress extract_lets | apply getD_keeps | apply elim_keeps | dsimp +zetaDelta only

theorem execBistDone_keeps {s0 s : State} (h : Keeps s0 s) (a0) : ∀ t, execBistDone a0 s = .next t → Keeps s0 t := by
  intro t ht
  refine Keeps.ofEq ?_ (Host.Outcome.next.inj ht).symm
  with_reducible repeat' first | exact h | assumption | apply State.bistDone_keeps | split | apply foldl_keeps | intro _ | fail_if_no_progress refine Keeps.same ?_ rfl | fail_if_no_progress extract_lets | apply getD_keeps | apply elim_keeps | dsimp +zetaDelta only

theorem State.busCheck_keeps {s0 s : State} (h : Keeps s0 s) (a1) (a2) (a3) (a4) (a5) : Keeps s0 (State.busCheck s a1 a2 a3 a4 a5).2 := by
  unfold State.busCheck
  with_reducible repeat' first | exact h | assumption | apply State.gatePass_keeps | apply State.setReg_keeps | apply State.raise_keeps | apply State.domainReady_keeps | split | apply foldl_keeps | intro _ | fail_if_no_progress refine Keeps.same ?_ rfl | fail_if_no_progress extract_lets | apply getD_keeps | apply elim_keeps | dsimp +zetaDelta only

theorem State.patRead_keeps {s0 s : State} (h : Keeps s0 s) (a1) (a2) (a3) : Keeps s0 (State.patRead s a1 a2 a3) := by
  unfold State.patRead
  with_reducible repeat' first | exact h | assumption | apply State.patCount_keeps | split | apply foldl_keeps | intro _ | fail_if_no_progress refine Keeps.same ?_ rfl | fail_if_no_progress extract_lets | apply getD_keeps | apply elim_keeps | dsimp +zetaDelta only

theorem State.readReg_keeps {s0 s : State} (h : Keeps s0 s) (a1) : Keeps s0 (State.readReg s a1).2 := by
  unfold State.readReg
  with_reducible repeat' first | exact h | assumption | apply State.tmLatch_keeps | apply State.txHead_keeps | apply State.fresh_keeps | apply State.patRead_keeps | apply State.setReg_keeps | split | apply foldl_keeps | intro _ | fail_if_no_progress refine Keeps.same ?_ rfl | fail_if_no_progress extract_lets | apply getD_keeps | apply elim_keeps | dsimp +zetaDelta only

theorem State.busRead_keeps {s0 s : State} (h : Keeps s0 s) (a1) (a2) (a3) : Keeps s0 (State.busRead s a1 a2 a3).2.2 := by
  unfold State.busRead
  with_reducible repeat' first | exact h | assumption | apply State.busCheck_keeps | apply State.readReg_keeps | apply State.countRd_keeps | split | apply foldl_keeps | intro _ | fail_if_no_progress refine Keeps.same ?_ rfl | fail_if_no_progress extract_lets | apply getD_keeps | apply elim_keeps | dsimp +zetaDelta only

theorem State.laneTriggers_keeps {s0 s : State} (h : Keeps s0 s) (a1) (a2) (a3) : Keeps s0 (State.laneTriggers s a1 a2 a3) := by
  unfold State.laneTriggers
  with_reducible repeat' first | exact h | assumption | apply State.abortScan_keeps | apply State.scanStart_keeps | apply State.patClear_keeps | apply State.injFire_keeps | split | apply foldl_keeps | intro _ | fail_if_no_progress refine Keeps.same ?_ rfl | fail_if_no_progress extract_lets | apply getD_keeps | apply elim_keeps | dsimp +zetaDelta only

theorem State.bistGo_keeps {s0 s : State} (h : Keeps s0 s) : Keeps s0 (State.bistGo s) := by
  unfold State.bistGo
  with_reducible repeat' first | exact h | assumption | apply State.bistStart_keeps | split | apply foldl_keeps | intro _ | fail_if_no_progress refine Keeps.same ?_ rfl | fail_if_no_progress extract_lets | apply getD_keeps | apply elim_keeps | dsimp +zetaDelta only

theorem State.instTriggers_keeps {s0 s : State} (h : Keeps s0 s) (a1) (a2) (a3) (a4) : Keeps s0 (State.instTriggers s a1 a2 a3 a4) := by
  unfold State.instTriggers
  with_reducible repeat' first | exact h | assumption | apply State.laneTriggers_keeps | apply State.arm_keeps | apply State.disarm_keeps | apply State.efClear_keeps | split | apply foldl_keeps | intro _ | fail_if_no_progress refine Keeps.same ?_ rfl | fail_if_no_progress extract_lets | apply getD_keeps | apply elim_keeps | dsimp +zetaDelta only

theorem State.resetWrite_keeps {s0 s : State} (h : Keeps s0 s) (a1) : Keeps s0 (State.resetWrite s a1) := by
  unfold State.resetWrite
  with_reducible repeat' first | exact h | assumption | apply State.each_keeps | apply State.portReset_keeps | apply State.requestWarm_keeps | split | apply foldl_keeps | intro _ | fail_if_no_progress refine Keeps.same ?_ rfl | fail_if_no_progress extract_lets | apply getD_keeps | apply elim_keeps | dsimp +zetaDelta only

theorem State.triggers_keeps {s0 s : State} (h : Keeps s0 s) (a1) (a2) : Keeps s0 (State.triggers s a1 a2) := by
  unfold State.triggers
  with_reducible repeat' first | exact h | assumption | apply State.resetWrite_keeps | apply State.kick_keeps | apply State.psRequest_keeps | apply State.ksGo_keeps | apply State.bistGo_keeps | apply State.tmCmdStep_keeps | apply State.startAudit_keeps | apply State.instTriggers_keeps | split | apply foldl_keeps | intro _ | fail_if_no_progress refine Keeps.same ?_ rfl | fail_if_no_progress extract_lets | apply getD_keeps | apply elim_keeps | dsimp +zetaDelta only

theorem State.directWrite_keeps {s0 s : State} (h : Keeps s0 s) (a1) (a2) : Keeps s0 (State.directWrite s a1 a2).2 := by
  unfold State.directWrite
  with_reducible repeat' first | exact h | assumption | apply State.setReg_keeps | apply State.raise_keeps | apply State.writeReg_keeps | apply State.triggers_keeps | split | apply foldl_keeps | intro _ | fail_if_no_progress refine Keeps.same ?_ rfl | fail_if_no_progress extract_lets | apply getD_keeps | apply elim_keeps | dsimp +zetaDelta only

theorem State.busWrite_keeps {s0 s : State} (h : Keeps s0 s) (a1) (a2) (a3) (a4) : Keeps s0 (State.busWrite s a1 a2 a3 a4).2 := by
  unfold State.busWrite
  with_reducible repeat' first | exact h | assumption | apply State.busCheck_keeps | apply State.directWrite_keeps | apply State.setMemBytes_keeps | apply State.setFrameBytes_keeps | apply State.countWr_keeps | split | apply foldl_keeps | intro _ | fail_if_no_progress refine Keeps.same ?_ rfl | fail_if_no_progress extract_lets | apply getD_keeps | apply elim_keeps | dsimp +zetaDelta only

theorem State.writeBy_keeps {s0 s : State} (h : Keeps s0 s) (a1) (a2) (a3) : Keeps s0 (State.writeBy s a1 a2 a3) := by
  unfold State.writeBy
  with_reducible repeat' first | exact h | assumption | apply State.busWrite_keeps | apply State.send_keeps | split | apply foldl_keeps | intro _ | fail_if_no_progress refine Keeps.same ?_ rfl | fail_if_no_progress extract_lets | apply getD_keeps | apply elim_keeps | dsimp +zetaDelta only

theorem State.readBy_keeps {s0 s : State} (h : Keeps s0 s) (a1) (a2) : Keeps s0 (State.readBy s a1 a2) := by
  unfold State.readBy
  with_reducible repeat' first | exact h | assumption | apply State.busRead_keeps | apply State.send_keeps | split | apply foldl_keeps | intro _ | fail_if_no_progress refine Keeps.same ?_ rfl | fail_if_no_progress extract_lets | apply getD_keeps | apply elim_keeps | dsimp +zetaDelta only

theorem execRegisterWrite_keeps {s0 s : State} (h : Keeps s0 s) (a0) (a1) (a2) : ∀ t, execRegisterWrite a0 a1 a2 s = .next t → Keeps s0 t := by
  intro t ht
  refine Keeps.ofEq ?_ (Host.Outcome.next.inj ht).symm
  with_reducible repeat' first | exact h | assumption | apply State.busWrite_keeps | apply State.send_keeps | split | apply foldl_keeps | intro _ | fail_if_no_progress refine Keeps.same ?_ rfl | fail_if_no_progress extract_lets | apply getD_keeps | apply elim_keeps | dsimp +zetaDelta only

theorem execRcCounterRead_keeps {s0 s : State} (h : Keeps s0 s) (a0) (a1) : ∀ t, execRcCounterRead a0 a1 s = .next t → Keeps s0 t := by
  intro t ht
  refine Keeps.ofEq ?_ (Host.Outcome.next.inj ht).symm
  with_reducible repeat' first | exact h | assumption | apply State.readBy_keeps | split | apply foldl_keeps | intro _ | fail_if_no_progress refine Keeps.same ?_ rfl | fail_if_no_progress extract_lets | apply getD_keeps | apply elim_keeps | dsimp +zetaDelta only

theorem execTmNsRead_keeps {s0 s : State} (h : Keeps s0 s) (a0) : ∀ t, execTmNsRead a0 s = .next t → Keeps s0 t := by
  intro t ht
  refine Keeps.ofEq ?_ (Host.Outcome.next.inj ht).symm
  with_reducible repeat' first | exact h | assumption | apply State.readBy_keeps | split | apply foldl_keeps | intro _ | fail_if_no_progress refine Keeps.same ?_ rfl | fail_if_no_progress extract_lets | apply getD_keeps | apply elim_keeps | dsimp +zetaDelta only

theorem execTxtsHeadRead_keeps {s0 s : State} (h : Keeps s0 s) (a0) (a1) : ∀ t, execTxtsHeadRead a0 a1 s = .next t → Keeps s0 t := by
  intro t ht
  refine Keeps.ofEq ?_ (Host.Outcome.next.inj ht).symm
  with_reducible repeat' first | exact h | assumption | apply State.readBy_keeps | split | apply foldl_keeps | intro _ | fail_if_no_progress refine Keeps.same ?_ rfl | fail_if_no_progress extract_lets | apply getD_keeps | apply elim_keeps | dsimp +zetaDelta only

theorem execTestWrite_keeps {s0 s : State} (h : Keeps s0 s) (a0) (a1) (a2) : ∀ t, execTestWrite a0 a1 a2 s = .next t → Keeps s0 t := by
  intro t ht
  refine Keeps.ofEq ?_ (Host.Outcome.next.inj ht).symm
  with_reducible repeat' first | exact h | assumption | apply State.writeBy_keeps | split | apply foldl_keeps | intro _ | fail_if_no_progress refine Keeps.same ?_ rfl | fail_if_no_progress extract_lets | apply getD_keeps | apply elim_keeps | dsimp +zetaDelta only

theorem execEsStart_keeps {s0 s : State} (h : Keeps s0 s) (a0) (a1) (a2) : ∀ t, execEsStart a0 a1 a2 s = .next t → Keeps s0 t := by
  intro t ht
  refine Keeps.ofEq ?_ (Host.Outcome.next.inj ht).symm
  with_reducible repeat' first | exact h | assumption | apply State.writeBy_keeps | split | apply foldl_keeps | intro _ | fail_if_no_progress refine Keeps.same ?_ rfl | fail_if_no_progress extract_lets | apply getD_keeps | apply elim_keeps | dsimp +zetaDelta only

theorem execEsStop_keeps {s0 s : State} (h : Keeps s0 s) (a0) (a1) (a2) : ∀ t, execEsStop a0 a1 a2 s = .next t → Keeps s0 t := by
  intro t ht
  refine Keeps.ofEq ?_ (Host.Outcome.next.inj ht).symm
  with_reducible repeat' first | exact h | assumption | apply State.writeBy_keeps | split | apply foldl_keeps | intro _ | fail_if_no_progress refine Keeps.same ?_ rfl | fail_if_no_progress extract_lets | apply getD_keeps | apply elim_keeps | dsimp +zetaDelta only

theorem execPatClear_keeps {s0 s : State} (h : Keeps s0 s) (a0) (a1) (a2) : ∀ t, execPatClear a0 a1 a2 s = .next t → Keeps s0 t := by
  intro t ht
  refine Keeps.ofEq ?_ (Host.Outcome.next.inj ht).symm
  with_reducible repeat' first | exact h | assumption | apply State.writeBy_keeps | split | apply foldl_keeps | intro _ | fail_if_no_progress refine Keeps.same ?_ rfl | fail_if_no_progress extract_lets | apply getD_keeps | apply elim_keeps | dsimp +zetaDelta only

theorem execInjFire_keeps {s0 s : State} (h : Keeps s0 s) (a0) (a1) (a2) : ∀ t, execInjFire a0 a1 a2 s = .next t → Keeps s0 t := by
  intro t ht
  refine Keeps.ofEq ?_ (Host.Outcome.next.inj ht).symm
  with_reducible repeat' first | exact h | assumption | apply State.writeBy_keeps | split | apply foldl_keeps | intro _ | fail_if_no_progress refine Keeps.same ?_ rfl | fail_if_no_progress extract_lets | apply getD_keeps | apply elim_keeps | dsimp +zetaDelta only

theorem execFarrierStart_keeps {s0 s : State} (h : Keeps s0 s) (a0) (a1) : ∀ t, execFarrierStart a0 a1 s = .next t → Keeps s0 t := by
  intro t ht
  refine Keeps.ofEq ?_ (Host.Outcome.next.inj ht).symm
  with_reducible repeat' first | exact h | assumption | apply State.writeBy_keeps | split | apply foldl_keeps | intro _ | fail_if_no_progress refine Keeps.same ?_ rfl | fail_if_no_progress extract_lets | apply getD_keeps | apply elim_keeps | dsimp +zetaDelta only

theorem execAuditComplete_keeps {s0 s : State} (h : Keeps s0 s) (a0) : ∀ t, execAuditComplete a0 s = .next t → Keeps s0 t := by
  intro t ht
  refine Keeps.ofEq ?_ (Host.Outcome.next.inj ht).symm
  with_reducible repeat' first | exact h | assumption | apply State.auditEnd_keeps | split | apply foldl_keeps | intro _ | fail_if_no_progress refine Keeps.same ?_ rfl | fail_if_no_progress extract_lets | apply getD_keeps | apply elim_keeps | dsimp +zetaDelta only

theorem execEgressPacketArrive_keeps {s0 s : State} (h : Keeps s0 s) (a0) : ∀ t, execEgressPacketArrive a0 s = .next t → Keeps s0 t := by
  intro t ht
  refine Keeps.ofEq ?_ (Host.Outcome.next.inj ht).symm
  with_reducible repeat' first | exact h | assumption | apply State.egressArrive_keeps | split | apply foldl_keeps | intro _ | fail_if_no_progress refine Keeps.same ?_ rfl | fail_if_no_progress extract_lets | apply getD_keeps | apply elim_keeps | dsimp +zetaDelta only

theorem execArmWrite_keeps {s0 s : State} (h : Keeps s0 s) (a0) (a1) : ∀ t, execArmWrite a0 a1 s = .next t → Keeps s0 t := by
  intro t ht
  refine Keeps.ofEq ?_ (Host.Outcome.next.inj ht).symm
  with_reducible repeat' first | exact h | assumption | apply State.writeBy_keeps | split | apply foldl_keeps | intro _ | fail_if_no_progress refine Keeps.same ?_ rfl | fail_if_no_progress extract_lets | apply getD_keeps | apply elim_keeps | dsimp +zetaDelta only

theorem execDisarmWrite_keeps {s0 s : State} (h : Keeps s0 s) (a0) (a1) : ∀ t, execDisarmWrite a0 a1 s = .next t → Keeps s0 t := by
  intro t ht
  refine Keeps.ofEq ?_ (Host.Outcome.next.inj ht).symm
  with_reducible repeat' first | exact h | assumption | apply State.writeBy_keeps | split | apply foldl_keeps | intro _ | fail_if_no_progress refine Keeps.same ?_ rfl | fail_if_no_progress extract_lets | apply getD_keeps | apply elim_keeps | dsimp +zetaDelta only

theorem execPushTailWrite_keeps {s0 s : State} (h : Keeps s0 s) (a0) (a1) (a2) : ∀ t, execPushTailWrite a0 a1 a2 s = .next t → Keeps s0 t := by
  intro t ht
  refine Keeps.ofEq ?_ (Host.Outcome.next.inj ht).symm
  with_reducible repeat' first | exact h | assumption | apply State.writeBy_keeps | split | apply foldl_keeps | intro _ | fail_if_no_progress refine Keeps.same ?_ rfl | fail_if_no_progress extract_lets | apply getD_keeps | apply elim_keeps | dsimp +zetaDelta only

theorem execTmCmdStep_keeps {s0 s : State} (h : Keeps s0 s) (a0) : ∀ t, execTmCmdStep a0 s = .next t → Keeps s0 t := by
  intro t ht
  refine Keeps.ofEq ?_ (Host.Outcome.next.inj ht).symm
  with_reducible repeat' first | exact h | assumption | apply State.writeBy_keeps | split | apply foldl_keeps | intro _ | fail_if_no_progress refine Keeps.same ?_ rfl | fail_if_no_progress extract_lets | apply getD_keeps | apply elim_keeps | dsimp +zetaDelta only

theorem execEfCmdClear_keeps {s0 s : State} (h : Keeps s0 s) (a0) (a1) : ∀ t, execEfCmdClear a0 a1 s = .next t → Keeps s0 t := by
  intro t ht
  refine Keeps.ofEq ?_ (Host.Outcome.next.inj ht).symm
  with_reducible repeat' first | exact h | assumption | apply State.writeBy_keeps | split | apply foldl_keeps | intro _ | fail_if_no_progress refine Keeps.same ?_ rfl | fail_if_no_progress extract_lets | apply getD_keeps | apply elim_keeps | dsimp +zetaDelta only

theorem execClockEnableWrite_keeps {s0 s : State} (h : Keeps s0 s) (a0) (a1) : ∀ t, execClockEnableWrite a0 a1 s = .next t → Keeps s0 t := by
  intro t ht
  refine Keeps.ofEq ?_ (Host.Outcome.next.inj ht).symm
  with_reducible repeat' first | exact h | assumption | apply State.writeBy_keeps | split | apply foldl_keeps | intro _ | fail_if_no_progress refine Keeps.same ?_ rfl | fail_if_no_progress extract_lets | apply getD_keeps | apply elim_keeps | dsimp +zetaDelta only

theorem execWarmResetWrite_keeps {s0 s : State} (h : Keeps s0 s) (a0) : ∀ t, execWarmResetWrite a0 s = .next t → Keeps s0 t := by
  intro t ht
  refine Keeps.ofEq ?_ (Host.Outcome.next.inj ht).symm
  with_reducible repeat' first | exact h | assumption | apply State.writeBy_keeps | split | apply foldl_keeps | intro _ | fail_if_no_progress refine Keeps.same ?_ rfl | fail_if_no_progress extract_lets | apply getD_keeps | apply elim_keeps | dsimp +zetaDelta only

theorem execPortResetWrite_keeps {s0 s : State} (h : Keeps s0 s) (a0) (a1) : ∀ t, execPortResetWrite a0 a1 s = .next t → Keeps s0 t := by
  intro t ht
  refine Keeps.ofEq ?_ (Host.Outcome.next.inj ht).symm
  with_reducible repeat' first | exact h | assumption | apply State.writeBy_keeps | split | apply foldl_keeps | intro _ | fail_if_no_progress refine Keeps.same ?_ rfl | fail_if_no_progress extract_lets | apply getD_keeps | apply elim_keeps | dsimp +zetaDelta only

theorem execWatchdogKick_keeps {s0 s : State} (h : Keeps s0 s) (a0) (a1) : ∀ t, execWatchdogKick a0 a1 s = .next t → Keeps s0 t := by
  intro t ht
  refine Keeps.ofEq ?_ (Host.Outcome.next.inj ht).symm
  with_reducible repeat' first | exact h | assumption | apply State.writeBy_keeps | split | apply foldl_keeps | intro _ | fail_if_no_progress refine Keeps.same ?_ rfl | fail_if_no_progress extract_lets | apply getD_keeps | apply elim_keeps | dsimp +zetaDelta only

theorem execPsGoWrite_keeps {s0 s : State} (h : Keeps s0 s) (a0) (a1) : ∀ t, execPsGoWrite a0 a1 s = .next t → Keeps s0 t := by
  intro t ht
  refine Keeps.ofEq ?_ (Host.Outcome.next.inj ht).symm
  with_reducible repeat' first | exact h | assumption | apply State.writeBy_keeps | split | apply foldl_keeps | intro _ | fail_if_no_progress refine Keeps.same ?_ rfl | fail_if_no_progress extract_lets | apply getD_keeps | apply elim_keeps | dsimp +zetaDelta only

theorem State.ksWrite_keeps {s0 s : State} (h : Keeps s0 s) (a1) (a2) (a3) : Keeps s0 (State.ksWrite s a1 a2 a3) := by
  unfold State.ksWrite
  with_reducible repeat' first | exact h | assumption | apply State.writeBy_keeps | split | apply foldl_keeps | intro _ | fail_if_no_progress refine Keeps.same ?_ rfl | fail_if_no_progress extract_lets | apply getD_keeps | apply elim_keeps | dsimp +zetaDelta only

theorem execLoad_keeps {s0 s : State} (h : Keeps s0 s) (a0) (a1) : ∀ t, execLoad a0 a1 s = .next t → Keeps s0 t := by
  intro t ht
  refine Keeps.ofEq ?_ (Host.Outcome.next.inj ht).symm
  with_reducible repeat' first | exact h | assumption | apply State.ksWrite_keeps | split | apply foldl_keeps | intro _ | fail_if_no_progress refine Keeps.same ?_ rfl | fail_if_no_progress extract_lets | apply getD_keeps | apply elim_keeps | dsimp +zetaDelta only

theorem execLoadWrapped_keeps {s0 s : State} (h : Keeps s0 s) (a0) (a1) : ∀ t, execLoadWrapped a0 a1 s = .next t → Keeps s0 t := by
  intro t ht
  refine Keeps.ofEq ?_ (Host.Outcome.next.inj ht).symm
  with_reducible repeat' first | exact h | assumption | apply State.ksWrite_keeps | split | apply foldl_keeps | intro _ | fail_if_no_progress refine Keeps.same ?_ rfl | fail_if_no_progress extract_lets | apply getD_keeps | apply elim_keeps | dsimp +zetaDelta only

theorem execUnwrapLoad_keeps {s0 s : State} (h : Keeps s0 s) (a0) (a1) : ∀ t, execUnwrapLoad a0 a1 s = .next t → Keeps s0 t := by
  intro t ht
  refine Keeps.ofEq ?_ (Host.Outcome.next.inj ht).symm
  with_reducible repeat' first | exact h | assumption | apply State.ksWrite_keeps | split | apply foldl_keeps | intro _ | fail_if_no_progress refine Keeps.same ?_ rfl | fail_if_no_progress extract_lets | apply getD_keeps | apply elim_keeps | dsimp +zetaDelta only

theorem execErase_keeps {s0 s : State} (h : Keeps s0 s) (a0) : ∀ t, execErase a0 s = .next t → Keeps s0 t := by
  intro t ht
  refine Keeps.ofEq ?_ (Host.Outcome.next.inj ht).symm
  with_reducible repeat' first | exact h | assumption | apply State.ksWrite_keeps | split | apply foldl_keeps | intro _ | fail_if_no_progress refine Keeps.same ?_ rfl | fail_if_no_progress extract_lets | apply getD_keeps | apply elim_keeps | dsimp +zetaDelta only

theorem execEncrypt_keeps {s0 s : State} (h : Keeps s0 s) (a0) : ∀ t, execEncrypt a0 s = .next t → Keeps s0 t := by
  intro t ht
  refine Keeps.ofEq ?_ (Host.Outcome.next.inj ht).symm
  with_reducible repeat' first | exact h | assumption | apply State.ksWrite_keeps | split | apply foldl_keeps | intro _ | fail_if_no_progress refine Keeps.same ?_ rfl | fail_if_no_progress extract_lets | apply getD_keeps | apply elim_keeps | dsimp +zetaDelta only

theorem execDecrypt_keeps {s0 s : State} (h : Keeps s0 s) (a0) : ∀ t, execDecrypt a0 s = .next t → Keeps s0 t := by
  intro t ht
  refine Keeps.ofEq ?_ (Host.Outcome.next.inj ht).symm
  with_reducible repeat' first | exact h | assumption | apply State.ksWrite_keeps | split | apply foldl_keeps | intro _ | fail_if_no_progress refine Keeps.same ?_ rfl | fail_if_no_progress extract_lets | apply getD_keeps | apply elim_keeps | dsimp +zetaDelta only

theorem execWrap_keeps {s0 s : State} (h : Keeps s0 s) (a0) : ∀ t, execWrap a0 s = .next t → Keeps s0 t := by
  intro t ht
  refine Keeps.ofEq ?_ (Host.Outcome.next.inj ht).symm
  with_reducible repeat' first | exact h | assumption | apply State.ksWrite_keeps | split | apply foldl_keeps | intro _ | fail_if_no_progress refine Keeps.same ?_ rfl | fail_if_no_progress extract_lets | apply getD_keeps | apply elim_keeps | dsimp +zetaDelta only

theorem execDerive_keeps {s0 s : State} (h : Keeps s0 s) (a0) : ∀ t, execDerive a0 s = .next t → Keeps s0 t := by
  intro t ht
  refine Keeps.ofEq ?_ (Host.Outcome.next.inj ht).symm
  with_reducible repeat' first | exact h | assumption | apply State.ksWrite_keeps | split | apply foldl_keeps | intro _ | fail_if_no_progress refine Keeps.same ?_ rfl | fail_if_no_progress extract_lets | apply getD_keeps | apply elim_keeps | dsimp +zetaDelta only

theorem execBistStart_keeps {s0 s : State} (h : Keeps s0 s) (a0) (a1) : ∀ t, execBistStart a0 a1 s = .next t → Keeps s0 t := by
  intro t ht
  refine Keeps.ofEq ?_ (Host.Outcome.next.inj ht).symm
  with_reducible repeat' first | exact h | assumption | apply State.writeBy_keeps | split | apply foldl_keeps | intro _ | fail_if_no_progress refine Keeps.same ?_ rfl | fail_if_no_progress extract_lets | apply getD_keeps | apply elim_keeps | dsimp +zetaDelta only

end Sys2Proof.Machine
end

