-- ==== Sys2Proof/Laws/KeptCommands.lean ====
section
/-!
SUPPORT. What every operation of Machine/Command.lean, Machine/Firmware.lean, Machine/Waits.lean keeps (see Laws/Keeps.lean), one lemma each, in the order in which they call each other.
-/

set_option linter.unreachableTactic false
set_option linter.unusedTactic false
set_option linter.all false

namespace Sys2Proof.Machine

theorem State.readRegs_keeps {s0 s : State} (h : Keeps s0 s) (a1) (a2) (a3) (a4) : Keeps s0 (State.readRegs s a1 a2 a3 a4).2.2.2 := by
  induction a3 generalizing s a1 a2 a4 with
  | nil =>
    unfold State.readRegs
    with_reducible repeat' first | exact h | assumption | apply State.busRead_keeps | split | apply foldl_keeps | intro _ | fail_if_no_progress refine Keeps.same ?_ rfl | fail_if_no_progress extract_lets | apply getD_keeps | apply elim_keeps | dsimp +zetaDelta only
  | cons x l ih =>
    unfold State.readRegs
    with_reducible repeat' first | apply ih | exact h | assumption | apply State.busRead_keeps | split | apply foldl_keeps | intro _ | fail_if_no_progress refine Keeps.same ?_ rfl | fail_if_no_progress extract_lets | apply getD_keeps | apply elim_keeps | dsimp +zetaDelta only

theorem State.writeRegs_keeps {s0 s : State} (h : Keeps s0 s) (a1) (a2) (a3) (a4) : Keeps s0 (State.writeRegs s a1 a2 a3 a4).2.2.2 := by
  induction a4 generalizing s a1 a2 a3 with
  | nil =>
    unfold State.writeRegs
    with_reducible repeat' first | exact h | assumption | apply State.busWrite_keeps | split | apply foldl_keeps | intro _ | fail_if_no_progress refine Keeps.same ?_ rfl | fail_if_no_progress extract_lets | apply getD_keeps | apply elim_keeps | dsimp +zetaDelta only
  | cons x l ih =>
    unfold State.writeRegs
    with_reducible repeat' first | apply ih | exact h | assumption | apply State.busWrite_keeps | split | apply foldl_keeps | intro _ | fail_if_no_progress refine Keeps.same ?_ rfl | fail_if_no_progress extract_lets | apply getD_keeps | apply elim_keeps | dsimp +zetaDelta only

theorem State.withRegs_keeps {s0 s : State} (h : Keeps s0 s) (e l f) (hf : ∀ d t, Keeps s0 t → Keeps s0 (f d t)) : Keeps s0 (State.withRegs s e l f) := by
  unfold State.withRegs
  dsimp only
  split
  · exact hf _ _ (State.readRegs_keeps h _ _ _ _)
  · exact State.answer_keeps (State.readRegs_keeps h _ _ _ _) _ _ _ _

theorem State.answerRegs_keeps {s0 s : State} (h : Keeps s0 s) (a1) (a2) : Keeps s0 (State.answerRegs s a1 a2) := by
  unfold State.answerRegs
  with_reducible repeat' first | exact h | assumption | apply State.withRegs_keeps | apply State.answer_keeps | split | apply foldl_keeps | intro _ | fail_if_no_progress refine Keeps.same ?_ rfl | fail_if_no_progress extract_lets | apply getD_keeps | apply elim_keeps | dsimp +zetaDelta only

theorem State.withWrites_keeps {s0 s : State} (h : Keeps s0 s) (e p l f) (hf : ∀ t, Keeps s0 t → Keeps s0 (f t)) : Keeps s0 (State.withWrites s e p l f) := by
  unfold State.withWrites
  dsimp only
  split
  · exact hf _ (State.writeRegs_keeps h _ _ _ _)
  · exact State.answer_keeps (State.writeRegs_keeps h _ _ _ _) _ _ _ _

theorem State.cmdGetInfo_keeps {s0 s : State} (h : Keeps s0 s) (a1) : Keeps s0 (State.cmdGetInfo s a1) := by
  unfold State.cmdGetInfo
  with_reducible repeat' first | exact h | assumption | apply State.withRegs_keeps | apply State.answer_keeps | split | apply foldl_keeps | intro _ | fail_if_no_progress refine Keeps.same ?_ rfl | fail_if_no_progress extract_lets | apply getD_keeps | apply elim_keeps | dsimp +zetaDelta only

theorem State.cmdEcho_keeps {s0 s : State} (h : Keeps s0 s) (a1) : Keeps s0 (State.cmdEcho s a1) := by
  unfold State.cmdEcho
  with_reducible repeat' first | exact h | assumption | apply State.answer_keeps | split | apply foldl_keeps | intro _ | fail_if_no_progress refine Keeps.same ?_ rfl | fail_if_no_progress extract_lets | apply getD_keeps | apply elim_keeps | dsimp +zetaDelta only

theorem State.cmdReset_keeps {s0 s : State} (h : Keeps s0 s) (a1) : Keeps s0 (State.cmdReset s a1) := by
  unfold State.cmdReset
  with_reducible repeat' first | exact h | assumption | apply State.busCheck_keeps | apply State.answer_keeps | apply State.requestWarm_keeps | apply State.each_keeps | apply State.portReset_keeps | split | apply foldl_keeps | intro _ | fail_if_no_progress refine Keeps.same ?_ rfl | fail_if_no_progress extract_lets | apply getD_keeps | apply elim_keeps | dsimp +zetaDelta only

theorem State.cmdPowerState_keeps {s0 s : State} (h : Keeps s0 s) (a1) : Keeps s0 (State.cmdPowerState s a1) := by
  unfold State.cmdPowerState
  with_reducible repeat' first | exact h | assumption | apply State.busCheck_keeps | apply State.answer_keeps | apply State.setWait_keeps | apply State.psRequest_keeps | split | apply foldl_keeps | intro _ | fail_if_no_progress refine Keeps.same ?_ rfl | fail_if_no_progress extract_lets | apply getD_keeps | apply elim_keeps | dsimp +zetaDelta only

theorem State.cmdNotifyCfg_keeps {s0 s : State} (h : Keeps s0 s) (a1) : Keeps s0 (State.cmdNotifyCfg s a1) := by
  unfold State.cmdNotifyCfg
  with_reducible repeat' first | exact h | assumption | apply State.answer_keeps | split | apply foldl_keeps | intro _ | fail_if_no_progress refine Keeps.same ?_ rfl | fail_if_no_progress extract_lets | apply getD_keeps | apply elim_keeps | dsimp +zetaDelta only

theorem State.cmdBegin_keeps {s0 s : State} (h : Keeps s0 s) (a1) : Keeps s0 (State.cmdBegin s a1) := by
  unfold State.cmdBegin
  with_reducible repeat' first | exact h | assumption | apply State.beginTxn_keeps | apply State.answer_keeps | split | apply foldl_keeps | intro _ | fail_if_no_progress refine Keeps.same ?_ rfl | fail_if_no_progress extract_lets | apply getD_keeps | apply elim_keeps | dsimp +zetaDelta only

theorem State.cmdStage_keeps {s0 s : State} (h : Keeps s0 s) (a1) : Keeps s0 (State.cmdStage s a1) := by
  unfold State.cmdStage
  with_reducible repeat' first | exact h | assumption | apply State.touchTxn_keeps | apply State.stageAll_keeps | apply State.answer_keeps | split | apply foldl_keeps | intro _ | fail_if_no_progress refine Keeps.same ?_ rfl | fail_if_no_progress extract_lets | apply getD_keeps | apply elim_keeps | dsimp +zetaDelta only

theorem State.stageRead_keeps {s0 s : State} (h : Keeps s0 s) (a1) (a2) (a3) (a4) (a5) : Keeps s0 (State.stageRead s a1 a2 a3 a4 a5).2.2.2 := by
  induction a4 generalizing s a1 a2 a3 a5 with
  | nil =>
    unfold State.stageRead
    with_reducible repeat' first | exact h | assumption | apply State.busRead_keeps | split | apply foldl_keeps | intro _ | fail_if_no_progress refine Keeps.same ?_ rfl | fail_if_no_progress extract_lets | apply getD_keeps | apply elim_keeps | dsimp +zetaDelta only
  | cons x l ih =>
    unfold State.stageRead
    with_reducible repeat' first | apply ih | exact h | assumption | apply State.busRead_keeps | split | apply foldl_keeps | intro _ | fail_if_no_progress refine Keeps.same ?_ rfl | fail_if_no_progress extract_lets | apply getD_keeps | apply elim_keeps | dsimp +zetaDelta only

theorem State.cmdStageRead_keeps {s0 s : State} (h : Keeps s0 s) (a1) : Keeps s0 (State.cmdStageRead s a1) := by
  unfold State.cmdStageRead
  with_reducible repeat' first | exact h | assumption | apply State.touchTxn_keeps | apply State.stageRead_keeps | apply State.answer_keeps | split | apply foldl_keeps | intro _ | fail_if_no_progress refine Keeps.same ?_ rfl | fail_if_no_progress extract_lets | apply getD_keeps | apply elim_keeps | dsimp +zetaDelta only

theorem State.cmdCommit_keeps {s0 s : State} (h : Keeps s0 s) (a1) : Keeps s0 (State.cmdCommit s a1) := by
  unfold State.cmdCommit
  with_reducible repeat' first | exact h | assumption | apply State.answer_keeps | apply State.touchTxn_keeps | apply State.raise_keeps | apply State.loadShadows_keeps | apply State.modImg_keeps | apply State.haltAdapters_keeps | apply State.setWait_keeps | split | apply foldl_keeps | intro _ | fail_if_no_progress refine Keeps.same ?_ rfl | fail_if_no_progress extract_lets | apply getD_keeps | apply elim_keeps | dsimp +zetaDelta only

theorem State.cmdRollback_keeps {s0 s : State} (h : Keeps s0 s) (a1) : Keeps s0 (State.cmdRollback s a1) := by
  unfold State.cmdRollback
  with_reducible repeat' first | exact h | assumption | apply State.dropTxn_keeps | apply State.answer_keeps | split | apply foldl_keeps | intro _ | fail_if_no_progress refine Keeps.same ?_ rfl | fail_if_no_progress extract_lets | apply getD_keeps | apply elim_keeps | dsimp +zetaDelta only

theorem State.cmdTxnInfo_keeps {s0 s : State} (h : Keeps s0 s) (a1) : Keeps s0 (State.cmdTxnInfo s a1) := by
  unfold State.cmdTxnInfo
  with_reducible repeat' first | exact h | assumption | apply State.answer_keeps | split | apply foldl_keeps | intro _ | fail_if_no_progress refine Keeps.same ?_ rfl | fail_if_no_progress extract_lets | apply getD_keeps | apply elim_keeps | dsimp +zetaDelta only

theorem State.cmdImgInfo_keeps {s0 s : State} (h : Keeps s0 s) (a1) : Keeps s0 (State.cmdImgInfo s a1) := by
  unfold State.cmdImgInfo
  with_reducible repeat' first | exact h | assumption | apply State.fresh_keeps | apply State.answer_keeps | split | apply foldl_keeps | intro _ | fail_if_no_progress refine Keeps.same ?_ rfl | fail_if_no_progress extract_lets | apply getD_keeps | apply elim_keeps | dsimp +zetaDelta only

theorem State.eraseFlash_keeps {s0 s : State} (h : Keeps s0 s) (b n) : Keeps s0 (State.eraseFlash s b n) := by
  refine h.trans ⟨rfl, fun hw => ?_, List.prefix_rfl, Nat.le_refl _, Nat.le_refl _, Nat.le_refl _, Nat.le_refl _⟩
  rw [wf_split] at hw ⊢
  exact ⟨hw.1, Tab.filter_wf _ _ _ hw.2.1, hw.2.2.1, hw.2.2.2⟩

theorem State.cmdImgErase_keeps {s0 s : State} (h : Keeps s0 s) (a1) : Keeps s0 (State.cmdImgErase s a1) := by
  unfold State.cmdImgErase
  with_reducible repeat' first | exact h | assumption | apply State.answer_keeps | apply State.eraseFlash_keeps | split | apply foldl_keeps | intro _ | fail_if_no_progress refine Keeps.same ?_ rfl | fail_if_no_progress extract_lets | apply getD_keeps | apply elim_keeps | dsimp +zetaDelta only

theorem State.program_keeps {s0 s : State} (h : Keeps s0 s) (a1) (a2) : Keeps s0 (State.program s a1 a2) := by
  induction a2 generalizing s a1 with
  | nil =>
    unfold State.program
    with_reducible repeat' first | exact h | assumption | apply State.setFlashByte_keeps | split | apply foldl_keeps | intro _ | fail_if_no_progress refine Keeps.same ?_ rfl | fail_if_no_progress extract_lets | apply getD_keeps | apply elim_keeps | dsimp +zetaDelta only
  | cons x l ih =>
    unfold State.program
    with_reducible repeat' first | apply ih | exact h | assumption | apply State.setFlashByte_keeps | split | apply foldl_keeps | intro _ | fail_if_no_progress refine Keeps.same ?_ rfl | fail_if_no_progress extract_lets | apply getD_keeps | apply elim_keeps | dsimp +zetaDelta only

theorem State.cmdImgWrite_keeps {s0 s : State} (h : Keeps s0 s) (a1) : Keeps s0 (State.cmdImgWrite s a1) := by
  unfold State.cmdImgWrite
  with_reducible repeat' first | exact h | assumption | apply State.answer_keeps | apply State.program_keeps | split | apply foldl_keeps | intro _ | fail_if_no_progress refine Keeps.same ?_ rfl | fail_if_no_progress extract_lets | apply getD_keeps | apply elim_keeps | dsimp +zetaDelta only

theorem State.cmdImgRead_keeps {s0 s : State} (h : Keeps s0 s) (a1) : Keeps s0 (State.cmdImgRead s a1) := by
  unfold State.cmdImgRead
  with_reducible repeat' first | exact h | assumption | apply State.answer_keeps | split | apply foldl_keeps | intro _ | fail_if_no_progress refine Keeps.same ?_ rfl | fail_if_no_progress extract_lets | apply getD_keeps | apply elim_keeps | dsimp +zetaDelta only

theorem State.cmdImgCheck_keeps {s0 s : State} (h : Keeps s0 s) (a1) : Keeps s0 (State.cmdImgCheck s a1) := by
  unfold State.cmdImgCheck
  with_reducible repeat' first | exact h | assumption | apply State.answer_keeps | split | apply foldl_keeps | intro _ | fail_if_no_progress refine Keeps.same ?_ rfl | fail_if_no_progress extract_lets | apply getD_keeps | apply elim_keeps | dsimp +zetaDelta only

theorem State.cmdTunnelList_keeps {s0 s : State} (h : Keeps s0 s) (a1) : Keeps s0 (State.cmdTunnelList s a1) := by
  unfold State.cmdTunnelList
  with_reducible repeat' first | exact h | assumption | apply State.withRegs_keeps | apply State.answer_keeps | split | apply foldl_keeps | intro _ | fail_if_no_progress refine Keeps.same ?_ rfl | fail_if_no_progress extract_lets | apply getD_keeps | apply elim_keeps | dsimp +zetaDelta only

theorem State.cmdTunnelStat_keeps {s0 s : State} (h : Keeps s0 s) (a1) : Keeps s0 (State.cmdTunnelStat s a1) := by
  unfold State.cmdTunnelStat
  with_reducible repeat' first | exact h | assumption | apply State.answerRegs_keeps | split | apply foldl_keeps | intro _ | fail_if_no_progress refine Keeps.same ?_ rfl | fail_if_no_progress extract_lets | apply getD_keeps | apply elim_keeps | dsimp +zetaDelta only

theorem State.cmdTunnelReopen_keeps {s0 s : State} (h : Keeps s0 s) (a1) : Keeps s0 (State.cmdTunnelReopen s a1) := by
  unfold State.cmdTunnelReopen
  with_reducible repeat' first | exact h | assumption | apply State.answer_keeps | apply State.tunnelClosed_keeps | apply State.sendTunnelClose_keeps | apply State.sendTunnelOpen_keeps | split | apply foldl_keeps | intro _ | fail_if_no_progress refine Keeps.same ?_ rfl | fail_if_no_progress extract_lets | apply getD_keeps | apply elim_keeps | dsimp +zetaDelta only

theorem State.cmdAlStatus_keeps {s0 s : State} (h : Keeps s0 s) (a1) : Keeps s0 (State.cmdAlStatus s a1) := by
  unfold State.cmdAlStatus
  with_reducible repeat' first | exact h | assumption | apply State.answerRegs_keeps | split | apply foldl_keeps | intro _ | fail_if_no_progress refine Keeps.same ?_ rfl | fail_if_no_progress extract_lets | apply getD_keeps | apply elim_keeps | dsimp +zetaDelta only

theorem State.cmdAlTableWrite_keeps {s0 s : State} (h : Keeps s0 s) (a1) : Keeps s0 (State.cmdAlTableWrite s a1) := by
  unfold State.cmdAlTableWrite
  with_reducible repeat' first | exact h | assumption | apply State.withWrites_keeps | apply State.answer_keeps | split | apply foldl_keeps | intro _ | fail_if_no_progress refine Keeps.same ?_ rfl | fail_if_no_progress extract_lets | apply getD_keeps | apply elim_keeps | dsimp +zetaDelta only

theorem State.cmdAlArm_keeps {s0 s : State} (h : Keeps s0 s) (a1) : Keeps s0 (State.cmdAlArm s a1) := by
  unfold State.cmdAlArm
  with_reducible repeat' first | exact h | assumption | apply State.withWrites_keeps | apply State.answerRegs_keeps | split | apply foldl_keeps | intro _ | fail_if_no_progress refine Keeps.same ?_ rfl | fail_if_no_progress extract_lets | apply getD_keeps | apply elim_keeps | dsimp +zetaDelta only

theorem State.cmdPolicerRead_keeps {s0 s : State} (h : Keeps s0 s) (a1) : Keeps s0 (State.cmdPolicerRead s a1) := by
  unfold State.cmdPolicerRead
  with_reducible repeat' first | exact h | assumption | apply State.answerRegs_keeps | split | apply foldl_keeps | intro _ | fail_if_no_progress refine Keeps.same ?_ rfl | fail_if_no_progress extract_lets | apply getD_keeps | apply elim_keeps | dsimp +zetaDelta only

theorem State.cmdLinkStatus_keeps {s0 s : State} (h : Keeps s0 s) (a1) : Keeps s0 (State.cmdLinkStatus s a1) := by
  unfold State.cmdLinkStatus
  with_reducible repeat' first | exact h | assumption | apply State.answerRegs_keeps | split | apply foldl_keeps | intro _ | fail_if_no_progress refine Keeps.same ?_ rfl | fail_if_no_progress extract_lets | apply getD_keeps | apply elim_keeps | dsimp +zetaDelta only

theorem State.allowThrum_keeps {s0 s : State} (h : Keeps s0 s) (a1) : Keeps s0 (State.allowThrum s a1) := by
  unfold State.allowThrum
  with_reducible repeat' first | exact h | assumption | apply State.modPd_keeps | apply State.startTraining_keeps | apply State.startDiscovery_keeps | split | apply foldl_keeps | intro _ | fail_if_no_progress refine Keeps.same ?_ rfl | fail_if_no_progress extract_lets | apply getD_keeps | apply elim_keeps | dsimp +zetaDelta only

theorem State.cmdLinkAction_keeps {s0 s : State} (h : Keeps s0 s) (a1) : Keeps s0 (State.cmdLinkAction s a1) := by
  unfold State.cmdLinkAction
  with_reducible repeat' first | exact h | assumption | apply State.portReset_keeps | apply State.answer_keeps | apply State.allowThrum_keeps | apply State.keyChange_keeps | apply State.fresh_keeps | apply State.modLink_keeps | apply State.sendCtl_keeps | apply State.setWait_keeps | split | apply foldl_keeps | intro _ | fail_if_no_progress refine Keeps.same ?_ rfl | fail_if_no_progress extract_lets | apply getD_keeps | apply elim_keeps | dsimp +zetaDelta only

theorem State.cmdRoleSwap_keeps {s0 s : State} (h : Keeps s0 s) (a1) : Keeps s0 (State.cmdRoleSwap s a1) := by
  unfold State.cmdRoleSwap
  with_reducible repeat' first | exact h | assumption | apply State.sendRoleSwap_keeps | apply State.setWait_keeps | apply State.answer_keeps | split | apply foldl_keeps | intro _ | fail_if_no_progress refine Keeps.same ?_ rfl | fail_if_no_progress extract_lets | apply getD_keeps | apply elim_keeps | dsimp +zetaDelta only

theorem State.cmdEyeScan_keeps {s0 s : State} (h : Keeps s0 s) (a1) : Keeps s0 (State.cmdEyeScan s a1) := by
  unfold State.cmdEyeScan
  with_reducible repeat' first | exact h | assumption | apply State.busCheck_keeps | apply State.answer_keeps | apply State.wr_keeps | apply State.scanPoints_keeps | split | apply foldl_keeps | intro _ | fail_if_no_progress refine Keeps.same ?_ rfl | fail_if_no_progress extract_lets | apply getD_keeps | apply elim_keeps | dsimp +zetaDelta only

theorem State.cmdPdStatus_keeps {s0 s : State} (h : Keeps s0 s) (a1) : Keeps s0 (State.cmdPdStatus s a1) := by
  unfold State.cmdPdStatus
  with_reducible repeat' first | exact h | assumption | apply State.answerRegs_keeps | split | apply foldl_keeps | intro _ | fail_if_no_progress refine Keeps.same ?_ rfl | fail_if_no_progress extract_lets | apply getD_keeps | apply elim_keeps | dsimp +zetaDelta only

theorem State.pdStart_keeps {s0 s : State} (h : Keeps s0 s) (a1) (a2) : Keeps s0 (State.pdStart s a1 a2) := by
  unfold State.pdStart
  with_reducible repeat' first | exact h | assumption | apply State.sendHardReset_keeps | apply State.askSwap_keeps | apply State.sendCaps_keeps | apply State.pdSend_keeps | apply State.wr_keeps | apply State.sendCtl_keeps | apply State.modPd_keeps | split | apply foldl_keeps | intro _ | fail_if_no_progress refine Keeps.same ?_ rfl | fail_if_no_progress extract_lets | apply getD_keeps | apply elim_keeps | dsimp +zetaDelta only

theorem State.cmdPdAction_keeps {s0 s : State} (h : Keeps s0 s) (a1) : Keeps s0 (State.cmdPdAction s a1) := by
  unfold State.cmdPdAction
  with_reducible repeat' first | exact h | assumption | apply State.answer_keeps | apply State.setWait_keeps | apply State.pdStart_keeps | split | apply foldl_keeps | intro _ | fail_if_no_progress refine Keeps.same ?_ rfl | fail_if_no_progress extract_lets | apply getD_keeps | apply elim_keeps | dsimp +zetaDelta only

theorem State.cmdEfStatus_keeps {s0 s : State} (h : Keeps s0 s) (a1) : Keeps s0 (State.cmdEfStatus s a1) := by
  unfold State.cmdEfStatus
  with_reducible repeat' first | exact h | assumption | apply State.answerRegs_keeps | split | apply foldl_keeps | intro _ | fail_if_no_progress refine Keeps.same ?_ rfl | fail_if_no_progress extract_lets | apply getD_keeps | apply elim_keeps | dsimp +zetaDelta only

theorem State.cmdEfClear_keeps {s0 s : State} (h : Keeps s0 s) (a1) : Keeps s0 (State.cmdEfClear s a1) := by
  unfold State.cmdEfClear
  with_reducible repeat' first | exact h | assumption | apply State.withWrites_keeps | apply State.answer_keeps | split | apply foldl_keeps | intro _ | fail_if_no_progress refine Keeps.same ?_ rfl | fail_if_no_progress extract_lets | apply getD_keeps | apply elim_keeps | dsimp +zetaDelta only

theorem State.cmdBudgetStatus_keeps {s0 s : State} (h : Keeps s0 s) (a1) : Keeps s0 (State.cmdBudgetStatus s a1) := by
  unfold State.cmdBudgetStatus
  with_reducible repeat' first | exact h | assumption | apply State.answerRegs_keeps | split | apply foldl_keeps | intro _ | fail_if_no_progress refine Keeps.same ?_ rfl | fail_if_no_progress extract_lets | apply getD_keeps | apply elim_keeps | dsimp +zetaDelta only

theorem State.cmdKey_keeps {s0 s : State} (h : Keeps s0 s) (a1) (a2) (a3) (a4) (a5) : Keeps s0 (State.cmdKey s a1 a2 a3 a4 a5) := by
  unfold State.cmdKey
  with_reducible repeat' first | exact h | assumption | apply State.busCheck_keeps | apply State.answer_keeps | apply State.keyStart_keeps | apply State.setWait_keeps | split | apply foldl_keeps | intro _ | fail_if_no_progress refine Keeps.same ?_ rfl | fail_if_no_progress extract_lets | apply getD_keeps | apply elim_keeps | dsimp +zetaDelta only

theorem State.cmdKeyLoad_keeps {s0 s : State} (h : Keeps s0 s) (a1) : Keeps s0 (State.cmdKeyLoad s a1) := by
  unfold State.cmdKeyLoad
  with_reducible repeat' first | exact h | assumption | apply State.cmdKey_keeps | split | apply foldl_keeps | intro _ | fail_if_no_progress refine Keeps.same ?_ rfl | fail_if_no_progress extract_lets | apply getD_keeps | apply elim_keeps | dsimp +zetaDelta only

theorem State.cmdKeyOp_keeps {s0 s : State} (h : Keeps s0 s) (a1) : Keeps s0 (State.cmdKeyOp s a1) := by
  unfold State.cmdKeyOp
  with_reducible repeat' first | exact h | assumption | apply State.cmdKey_keeps | split | apply foldl_keeps | intro _ | fail_if_no_progress refine Keeps.same ?_ rfl | fail_if_no_progress extract_lets | apply getD_keeps | apply elim_keeps | dsimp +zetaDelta only

theorem State.cmdKeyErase_keeps {s0 s : State} (h : Keeps s0 s) (a1) : Keeps s0 (State.cmdKeyErase s a1) := by
  unfold State.cmdKeyErase
  with_reducible repeat' first | exact h | assumption | apply State.cmdKey_keeps | split | apply foldl_keeps | intro _ | fail_if_no_progress refine Keeps.same ?_ rfl | fail_if_no_progress extract_lets | apply getD_keeps | apply elim_keeps | dsimp +zetaDelta only

theorem State.cmdRollbackAdv_keeps {s0 s : State} (h : Keeps s0 s) (e) : Keeps s0 (State.cmdRollbackAdv s e) := by
  have k1 : ∀ n, Keeps s0 { s with fuses := { s.fuses with imgMin := max s.fuses.imgMin n } } := fun n =>
    h.trans ⟨rfl, id, List.prefix_rfl, Nat.le_refl _, Nat.le_refl _, Nat.le_max_left _ _, Nat.le_refl _⟩
  have k2 : ∀ n, Keeps s0 { s with fuses := { s.fuses with patchMin := max s.fuses.patchMin n } } := fun n =>
    h.trans ⟨rfl, id, List.prefix_rfl, Nat.le_refl _, Nat.le_refl _, Nat.le_refl _, Nat.le_max_left _ _⟩
  unfold State.cmdRollbackAdv
  with_reducible split
  · with_reducible exact State.answer_keeps (k1 _) _ _ _ _
  · with_reducible exact State.answer_keeps (k2 _) _ _ _ _

theorem State.cmdCertRead_keeps {s0 s : State} (h : Keeps s0 s) (a1) : Keeps s0 (State.cmdCertRead s a1) := by
  unfold State.cmdCertRead
  with_reducible repeat' first | exact h | assumption | apply State.answer_keeps | split | apply foldl_keeps | intro _ | fail_if_no_progress refine Keeps.same ?_ rfl | fail_if_no_progress extract_lets | apply getD_keeps | apply elim_keeps | dsimp +zetaDelta only

theorem State.cmdGateViol_keeps {s0 s : State} (h : Keeps s0 s) (a1) : Keeps s0 (State.cmdGateViol s a1) := by
  unfold State.cmdGateViol
  with_reducible repeat' first | exact h | assumption | apply State.withRegs_keeps | apply State.withWrites_keeps | apply State.answer_keeps | split | apply foldl_keeps | intro _ | fail_if_no_progress refine Keeps.same ?_ rfl | fail_if_no_progress extract_lets | apply getD_keeps | apply elim_keeps | dsimp +zetaDelta only

theorem State.cmdLogRead_keeps {s0 s : State} (h : Keeps s0 s) (a1) : Keeps s0 (State.cmdLogRead s a1) := by
  unfold State.cmdLogRead
  with_reducible repeat' first | exact h | assumption | apply State.answer_keeps | split | apply foldl_keeps | intro _ | fail_if_no_progress refine Keeps.same ?_ rfl | fail_if_no_progress extract_lets | apply getD_keeps | apply elim_keeps | dsimp +zetaDelta only

theorem State.cmdBistRun_keeps {s0 s : State} (h : Keeps s0 s) (a1) : Keeps s0 (State.cmdBistRun s a1) := by
  unfold State.cmdBistRun
  with_reducible repeat' first | exact h | assumption | apply State.busCheck_keeps | apply State.answer_keeps | apply State.bistStart_keeps | apply State.wr_keeps | apply State.setWait_keeps | split | apply foldl_keeps | intro _ | fail_if_no_progress refine Keeps.same ?_ rfl | fail_if_no_progress extract_lets | apply getD_keeps | apply elim_keeps | dsimp +zetaDelta only

theorem State.cmdFarrierRun_keeps {s0 s : State} (h : Keeps s0 s) (a1) : Keeps s0 (State.cmdFarrierRun s a1) := by
  unfold State.cmdFarrierRun
  with_reducible repeat' first | exact h | assumption | apply State.busCheck_keeps | apply State.answer_keeps | apply State.startAudit_keeps | apply State.setWait_keeps | split | apply foldl_keeps | intro _ | fail_if_no_progress refine Keeps.same ?_ rfl | fail_if_no_progress extract_lets | apply getD_keeps | apply elim_keeps | dsimp +zetaDelta only

theorem State.cmdTimeGet_keeps {s0 s : State} (h : Keeps s0 s) (a1) : Keeps s0 (State.cmdTimeGet s a1) := by
  unfold State.cmdTimeGet
  with_reducible repeat' first | exact h | assumption | apply State.withRegs_keeps | apply State.answer_keeps | split | apply foldl_keeps | intro _ | fail_if_no_progress refine Keeps.same ?_ rfl | fail_if_no_progress extract_lets | apply getD_keeps | apply elim_keeps | dsimp +zetaDelta only

theorem State.cmdTimeStep_keeps {s0 s : State} (h : Keeps s0 s) (a1) : Keeps s0 (State.cmdTimeStep s a1) := by
  unfold State.cmdTimeStep
  with_reducible repeat' first | exact h | assumption | apply State.answer_keeps | apply State.withWrites_keeps | split | apply foldl_keeps | intro _ | fail_if_no_progress refine Keeps.same ?_ rfl | fail_if_no_progress extract_lets | apply getD_keeps | apply elim_keeps | dsimp +zetaDelta only

theorem State.takeStamps_keeps {s0 s : State} (h : Keeps s0 s) (a1) (a2) (a3) (a4) : Keeps s0 (State.takeStamps s a1 a2 a3 a4).2.2 := by
  induction a2 generalizing s a1 a3 a4 with
  | zero =>
    unfold State.takeStamps
    with_reducible repeat' first | exact h | assumption | apply State.txHead_keeps | split | apply foldl_keeps | intro _ | fail_if_no_progress refine Keeps.same ?_ rfl | fail_if_no_progress extract_lets | apply getD_keeps | apply elim_keeps | dsimp +zetaDelta only
  | succ n ih =>
    unfold State.takeStamps
    with_reducible repeat' first | apply ih | exact h | assumption | apply State.txHead_keeps | split | apply foldl_keeps | intro _ | fail_if_no_progress refine Keeps.same ?_ rfl | fail_if_no_progress extract_lets | apply getD_keeps | apply elim_keeps | dsimp +zetaDelta only

theorem State.cmdTxtsRead_keeps {s0 s : State} (h : Keeps s0 s) (a1) : Keeps s0 (State.cmdTxtsRead s a1) := by
  unfold State.cmdTxtsRead
  with_reducible repeat' first | exact h | assumption | apply State.answer_keeps | apply State.busCheck_keeps | apply State.takeStamps_keeps | split | apply foldl_keeps | intro _ | fail_if_no_progress refine Keeps.same ?_ rfl | fail_if_no_progress extract_lets | apply getD_keeps | apply elim_keeps | dsimp +zetaDelta only

theorem State.cmdDispStatus_keeps {s0 s : State} (h : Keeps s0 s) (a1) : Keeps s0 (State.cmdDispStatus s a1) := by
  unfold State.cmdDispStatus
  with_reducible repeat' first | exact h | assumption | apply State.answerRegs_keeps | split | apply foldl_keeps | intro _ | fail_if_no_progress refine Keeps.same ?_ rfl | fail_if_no_progress extract_lets | apply getD_keeps | apply elim_keeps | dsimp +zetaDelta only

theorem State.cmdDispEdid_keeps {s0 s : State} (h : Keeps s0 s) (a1) : Keeps s0 (State.cmdDispEdid s a1) := by
  unfold State.cmdDispEdid
  with_reducible repeat' first | exact h | assumption | apply State.answer_keeps | split | apply foldl_keeps | intro _ | fail_if_no_progress refine Keeps.same ?_ rfl | fail_if_no_progress extract_lets | apply getD_keeps | apply elim_keeps | dsimp +zetaDelta only

theorem State.cmdDispTopo_keeps {s0 s : State} (h : Keeps s0 s) (a1) : Keeps s0 (State.cmdDispTopo s a1) := by
  unfold State.cmdDispTopo
  with_reducible repeat' first | exact h | assumption | apply State.answer_keeps | split | apply foldl_keeps | intro _ | fail_if_no_progress refine Keeps.same ?_ rfl | fail_if_no_progress extract_lets | apply getD_keeps | apply elim_keeps | dsimp +zetaDelta only

theorem State.cmdDomainStatus_keeps {s0 s : State} (h : Keeps s0 s) (a1) : Keeps s0 (State.cmdDomainStatus s a1) := by
  unfold State.cmdDomainStatus
  with_reducible repeat' first | exact h | assumption | apply State.answerRegs_keeps | split | apply foldl_keeps | intro _ | fail_if_no_progress refine Keeps.same ?_ rfl | fail_if_no_progress extract_lets | apply getD_keeps | apply elim_keeps | dsimp +zetaDelta only

theorem State.cmdHubList_keeps {s0 s : State} (h : Keeps s0 s) (a1) : Keeps s0 (State.cmdHubList s a1) := by
  unfold State.cmdHubList
  with_reducible repeat' first | exact h | assumption | apply State.answer_keeps | apply State.withRegs_keeps | split | apply foldl_keeps | intro _ | fail_if_no_progress refine Keeps.same ?_ rfl | fail_if_no_progress extract_lets | apply getD_keeps | apply elim_keeps | dsimp +zetaDelta only

theorem State.removeHub_keeps {s0 s : State} (h : Keeps s0 s) (a1) : Keeps s0 (State.removeHub s a1) := by
  unfold State.removeHub
  with_reducible repeat' first | exact h | assumption | apply State.eachIn_keeps | apply State.domMsg_keeps | apply State.hubGone_keeps | split | apply foldl_keeps | intro _ | fail_if_no_progress refine Keeps.same ?_ rfl | fail_if_no_progress extract_lets | apply getD_keeps | apply elim_keeps | dsimp +zetaDelta only

theorem State.cmdHubRemove_keeps {s0 s : State} (h : Keeps s0 s) (a1) : Keeps s0 (State.cmdHubRemove s a1) := by
  unfold State.cmdHubRemove
  with_reducible repeat' first | exact h | assumption | apply State.removeHub_keeps | apply State.answer_keeps | split | apply foldl_keeps | intro _ | fail_if_no_progress refine Keeps.same ?_ rfl | fail_if_no_progress extract_lets | apply getD_keeps | apply elim_keeps | dsimp +zetaDelta only

theorem State.cmdRouteRead_keeps {s0 s : State} (h : Keeps s0 s) (a1) : Keeps s0 (State.cmdRouteRead s a1) := by
  unfold State.cmdRouteRead
  with_reducible repeat' first | exact h | assumption | apply State.answerRegs_keeps | split | apply foldl_keeps | intro _ | fail_if_no_progress refine Keeps.same ?_ rfl | fail_if_no_progress extract_lets | apply getD_keeps | apply elim_keeps | dsimp +zetaDelta only

theorem State.cmdRegRead_keeps {s0 s : State} (h : Keeps s0 s) (a1) : Keeps s0 (State.cmdRegRead s a1) := by
  unfold State.cmdRegRead
  with_reducible repeat' first | exact h | assumption | apply State.answerRegs_keeps | split | apply foldl_keeps | intro _ | fail_if_no_progress refine Keeps.same ?_ rfl | fail_if_no_progress extract_lets | apply getD_keeps | apply elim_keeps | dsimp +zetaDelta only

theorem State.regWrites_keeps {s0 s : State} (h : Keeps s0 s) (a1) (a2) (a3) : Keeps s0 (State.regWrites s a1 a2 a3) := by
  induction a3 generalizing s a1 a2 with
  | nil =>
    unfold State.regWrites
    with_reducible repeat' first | exact h | assumption | apply State.answer_keeps | apply State.busWrite_keeps | split | apply foldl_keeps | intro _ | fail_if_no_progress refine Keeps.same ?_ rfl | fail_if_no_progress extract_lets | apply getD_keeps | apply elim_keeps | dsimp +zetaDelta only
  | cons x l ih =>
    unfold State.regWrites
    with_reducible repeat' first | apply ih | exact h | assumption | apply State.answer_keeps | apply State.busWrite_keeps | split | apply foldl_keeps | intro _ | fail_if_no_progress refine Keeps.same ?_ rfl | fail_if_no_progress extract_lets | apply getD_keeps | apply elim_keeps | dsimp +zetaDelta only

theorem State.cmdRegWrite_keeps {s0 s : State} (h : Keeps s0 s) (a1) : Keeps s0 (State.cmdRegWrite s a1) := by
  unfold State.cmdRegWrite
  with_reducible repeat' first | exact h | assumption | apply State.regWrites_keeps | split | apply foldl_keeps | intro _ | fail_if_no_progress refine Keeps.same ?_ rfl | fail_if_no_progress extract_lets | apply getD_keeps | apply elim_keeps | dsimp +zetaDelta only

theorem State.cmdRegRmw_keeps {s0 s : State} (h : Keeps s0 s) (a1) : Keeps s0 (State.cmdRegRmw s a1) := by
  unfold State.cmdRegRmw
  with_reducible repeat' first | exact h | assumption | apply State.withRegs_keeps | apply State.answer_keeps | apply State.withWrites_keeps | split | apply foldl_keeps | intro _ | fail_if_no_progress refine Keeps.same ?_ rfl | fail_if_no_progress extract_lets | apply getD_keeps | apply elim_keeps | dsimp +zetaDelta only

theorem State.cmdRb_keeps {s0 s : State} (h : Keeps s0 s) (a1) (a2) : Keeps s0 (State.cmdRb s a1 a2) := by
  unfold State.cmdRb
  with_reducible repeat' first | exact h | assumption | apply State.answer_keeps | apply State.rbRequest_keeps | apply State.setWait_keeps | split | apply foldl_keeps | intro _ | fail_if_no_progress refine Keeps.same ?_ rfl | fail_if_no_progress extract_lets | apply getD_keeps | apply elim_keeps | dsimp +zetaDelta only

theorem State.runBase_keeps {s0 s : State} (h : Keeps s0 s) (a0) : Keeps s0 (State.runBase a0 s) := by
  unfold State.runBase
  with_reducible repeat' first | exact h | assumption | apply State.cmdGetInfo_keeps | apply State.cmdEcho_keeps | apply State.cmdReset_keeps | apply State.cmdPowerState_keeps | apply State.cmdNotifyCfg_keeps | apply State.cmdBegin_keeps | apply State.cmdStage_keeps | apply State.cmdStageRead_keeps | apply State.cmdCommit_keeps | apply State.cmdRollback_keeps | apply State.cmdTxnInfo_keeps | apply State.cmdImgInfo_keeps | apply State.cmdImgErase_keeps | apply State.cmdImgWrite_keeps | apply State.cmdImgRead_keeps | apply State.cmdImgCheck_keeps | apply State.cmdTunnelList_keeps | apply State.cmdTunnelStat_keeps | apply State.cmdTunnelReopen_keeps | apply State.cmdAlStatus_keeps | apply State.cmdAlTableWrite_keeps | apply State.cmdAlArm_keeps | apply State.cmdPolicerRead_keeps | apply State.cmdLinkStatus_keeps | apply State.cmdLinkAction_keeps | apply State.cmdRoleSwap_keeps | apply State.cmdEyeScan_keeps | apply State.cmdPdStatus_keeps | apply State.cmdPdAction_keeps | apply State.cmdEfStatus_keeps | apply State.cmdEfClear_keeps | apply State.cmdBudgetStatus_keeps | apply State.cmdKeyLoad_keeps | apply State.cmdKeyOp_keeps | apply State.cmdKeyErase_keeps | apply State.cmdRollbackAdv_keeps | apply State.cmdCertRead_keeps | apply State.cmdGateViol_keeps | apply State.cmdLogRead_keeps | apply State.cmdBistRun_keeps | apply State.cmdFarrierRun_keeps | apply State.cmdTimeGet_keeps | apply State.cmdTimeStep_keeps | apply State.cmdTxtsRead_keeps | apply State.cmdDispStatus_keeps | apply State.cmdDispEdid_keeps | apply State.cmdDispTopo_keeps | apply State.cmdDomainStatus_keeps | apply State.cmdHubList_keeps | apply State.cmdHubRemove_keeps | apply State.cmdRouteRead_keeps | apply State.cmdRegRead_keeps | apply State.cmdRegWrite_keeps | apply State.cmdRegRmw_keeps | apply State.cmdRb_keeps | apply State.answer_keeps | split | apply foldl_keeps | intro _ | fail_if_no_progress refine Keeps.same ?_ rfl | fail_if_no_progress extract_lets | apply getD_keeps | apply elim_keeps | dsimp +zetaDelta only

theorem State.refuse_keeps {s0 s : State} (h : Keeps s0 s) (a1) (a2) (a3) : Keeps s0 (State.refuse s a1 a2 a3) := by
  unfold State.refuse
  with_reducible repeat' first | exact h | assumption | apply State.lastAnswer_keeps | apply State.cacheResponse_keeps | apply State.respond_keeps | split | apply foldl_keeps | intro _ | fail_if_no_progress refine Keeps.same ?_ rfl | fail_if_no_progress extract_lets | apply getD_keeps | apply elim_keeps | dsimp +zetaDelta only

theorem State.start_keeps {s0 s : State} (h : Keeps s0 s) (run : CmdEntry → State → State) (hr : ∀ e t, Keeps s0 t → Keeps s0 (run e t)) (e) :
    Keeps s0 (State.start s run e) := by
  unfold State.start
  split
  · exact State.refuse_keeps (Keeps.same h rfl) _ _ _
  · exact hr _ _ (Keeps.same h rfl)

theorem State.runQueued_keeps {s0 : State} (run : CmdEntry → State → State) (hr : ∀ e t, Keeps s0 t → Keeps s0 (run e t)) (only) (n) {s : State}
    (h : Keeps s0 s) : Keeps s0 (State.runQueued run only n s) := by
  induction n generalizing s with
  | zero => exact h
  | succ n ih =>
    unfold State.runQueued
    split
    · exact ih (State.start_keeps h run hr _)
    · exact h

theorem State.fromCache_keeps {s0 s : State} (h : Keeps s0 s) (a1) (a2) : Keeps s0 (State.fromCache s a1 a2) := by
  unfold State.fromCache
  with_reducible repeat' first | exact h | assumption | apply State.raise_keeps | apply State.respond_keeps | apply State.refuse_keeps | split | apply foldl_keeps | intro _ | fail_if_no_progress refine Keeps.same ?_ rfl | fail_if_no_progress extract_lets | apply getD_keeps | apply elim_keeps | dsimp +zetaDelta only

theorem State.queueCmd_keeps {s0 s : State} (h : Keeps s0 s) (run : CmdEntry → State → State) (hr : ∀ e t, Keeps s0 t → Keeps s0 (run e t)) (only e) :
    Keeps s0 (State.queueCmd s run only e) := by
  unfold State.queueCmd
  split
  · exact State.refuse_keeps h _ _ _
  · split
    · exact State.refuse_keeps (State.raise_keeps h _) _ _ _
    · exact State.runQueued_keeps run hr _ _ (Keeps.same h rfl)

theorem State.acceptFrame_keeps {s0 s : State} (h : Keeps s0 s) (run : CmdEntry → State → State) (hr : ∀ e t, Keeps s0 t → Keeps s0 (run e t)) (only o f limit) :
    Keeps s0 (State.acceptFrame s run only o f limit) := by
  unfold State.acceptFrame
  dsimp only
  split
  · exact h
  · split
    · exact State.refuse_keeps (State.raise_keeps h _) _ _ _
    · split
      · exact State.raise_keeps h _
      · split
        · exact h
        · split
          · exact State.fromCache_keeps h _ _
          · exact State.queueCmd_keeps h run hr _ _

theorem State.runCmd_keeps {s0 s : State} (e) (h : Keeps s0 s) : Keeps s0 (State.runCmd e s) := by
  unfold State.runCmd
  split
  · dsimp only
    split
    · exact State.acceptFrame_keeps (State.setWait_keeps h _ _) _ (fun e _ k => State.runBase_keeps k e) _ _ _ _
    · exact State.setWait_keeps (State.domMsg_keeps h _ _ _ _) _ _
  · exact State.runBase_keeps h _

theorem State.acceptCmd_keeps {s0 s : State} (h : Keeps s0 s) (o f limit) : Keeps s0 (State.acceptCmd s o f limit) :=
  State.acceptFrame_keeps h _ (fun e _ k => State.runCmd_keeps e k) _ _ _ _

theorem State.startQueued_keeps {s0 s : State} (h : Keeps s0 s) : Keeps s0 (State.startQueued s) :=
  State.runQueued_keeps _ (fun e _ k => State.runCmd_keeps e k) _ _ h

theorem State.commandMsg_keeps {s0 s : State} (h : Keeps s0 s) (a1) (a2) (a3) : Keeps s0 (State.commandMsg s a1 a2 a3) := by
  unfold State.commandMsg
  with_reducible repeat' first | exact h | assumption | apply State.relayResponse_keeps | apply State.acceptCmd_keeps | split | apply foldl_keeps | intro _ | fail_if_no_progress refine Keeps.same ?_ rfl | fail_if_no_progress extract_lets | apply getD_keeps | apply elim_keeps | dsimp +zetaDelta only

theorem execCommand_keeps {s0 s : State} (h : Keeps s0 s) (a0) (a1) (a2) : ∀ t, execCommand a0 a1 a2 s = .next t → Keeps s0 t := by
  intro t ht
  refine Keeps.ofEq ?_ (Host.Outcome.next.inj ht).symm
  with_reducible repeat' first | exact h | assumption | apply State.commandMsg_keeps | split | apply foldl_keeps | intro _ | fail_if_no_progress refine Keeps.same ?_ rfl | fail_if_no_progress extract_lets | apply getD_keeps | apply elim_keeps | dsimp +zetaDelta only

theorem State.sendCommand_keeps {s0 s : State} (h : Keeps s0 s) (a1) (a2) (a3) : Keeps s0 (State.sendCommand s a1 a2 a3) := by
  unfold State.sendCommand
  with_reducible repeat' first | exact h | assumption | apply State.modUsb_keeps | apply State.usbWire_keeps | apply State.acceptCmd_keeps | split | apply foldl_keeps | intro _ | fail_if_no_progress refine Keeps.same ?_ rfl | fail_if_no_progress extract_lets | apply getD_keeps | apply elim_keeps | dsimp +zetaDelta only

theorem execSendCommand_keeps {s0 s : State} (h : Keeps s0 s) (a0) (a1) (a2) : ∀ t, execSendCommand a0 a1 a2 s = .next t → Keeps s0 t := by
  intro t ht
  refine Keeps.ofEq ?_ (Host.Outcome.next.inj ht).symm
  with_reducible repeat' first | exact h | assumption | apply State.sendCommand_keeps | split | apply foldl_keeps | intro _ | fail_if_no_progress refine Keeps.same ?_ rfl | fail_if_no_progress extract_lets | apply getD_keeps | apply elim_keeps | dsimp +zetaDelta only

theorem execGetResponse_keeps {s0 s : State} (h : Keeps s0 s) (a0) (a1) : ∀ t, execGetResponse a0 a1 s = .next t → Keeps s0 t := by
  intro t ht
  refine Keeps.ofEq ?_ (Host.Outcome.next.inj ht).symm
  with_reducible repeat' first | exact h | assumption | apply State.usbWire_keeps | split | apply foldl_keeps | intro _ | fail_if_no_progress refine Keeps.same ?_ rfl | fail_if_no_progress extract_lets | apply getD_keeps | apply elim_keeps | dsimp +zetaDelta only

theorem State.bulkFrame_keeps {s0 s : State} (h : Keeps s0 s) (a1) (a2) : Keeps s0 (State.bulkFrame s a1 a2) := by
  unfold State.bulkFrame
  with_reducible repeat' first | exact h | assumption | apply State.modUsb_keeps | apply State.acceptCmd_keeps | split | apply foldl_keeps | intro _ | fail_if_no_progress refine Keeps.same ?_ rfl | fail_if_no_progress extract_lets | apply getD_keeps | apply elim_keeps | dsimp +zetaDelta only

theorem execBulkFrame_keeps {s0 s : State} (h : Keeps s0 s) (a0) (a1) : ∀ t, execBulkFrame a0 a1 s = .next t → Keeps s0 t := by
  intro t ht
  refine Keeps.ofEq ?_ (Host.Outcome.next.inj ht).symm
  with_reducible repeat' first | exact h | assumption | apply State.bulkFrame_keeps | split | apply foldl_keeps | intro _ | fail_if_no_progress refine Keeps.same ?_ rfl | fail_if_no_progress extract_lets | apply getD_keeps | apply elim_keeps | dsimp +zetaDelta only

theorem State.endpointRead_keeps {s0 s : State} (h : Keeps s0 s) (a1) : Keeps s0 (State.endpointRead s a1) := by
  unfold State.endpointRead
  with_reducible repeat' first | exact h | assumption | apply State.usbWire_keeps | apply State.send_keeps | split | apply foldl_keeps | intro _ | fail_if_no_progress refine Keeps.same ?_ rfl | fail_if_no_progress extract_lets | apply getD_keeps | apply elim_keeps | dsimp +zetaDelta only

theorem execInterruptEndpointRead_keeps {s0 s : State} (h : Keeps s0 s) (a0) : ∀ t, execInterruptEndpointRead a0 s = .next t → Keeps s0 t := by
  intro t ht
  refine Keeps.ofEq ?_ (Host.Outcome.next.inj ht).symm
  with_reducible repeat' first | exact h | assumption | apply State.endpointRead_keeps | split | apply foldl_keeps | intro _ | fail_if_no_progress refine Keeps.same ?_ rfl | fail_if_no_progress extract_lets | apply getD_keeps | apply elim_keeps | dsimp +zetaDelta only

theorem State.smbSend_keeps {s0 s : State} (h : Keeps s0 s) (a1) (a2) : Keeps s0 (State.smbSend s a1 a2) := by
  unfold State.smbSend
  with_reducible repeat' first | exact h | assumption | apply State.send_keeps | split | apply foldl_keeps | intro _ | fail_if_no_progress refine Keeps.same ?_ rfl | fail_if_no_progress extract_lets | apply getD_keeps | apply elim_keeps | dsimp +zetaDelta only

theorem State.dropPartial_keeps {s0 s : State} (h : Keeps s0 s) : Keeps s0 (State.dropPartial s) := by
  unfold State.dropPartial
  with_reducible repeat' first | exact h | assumption | split | apply foldl_keeps | intro _ | fail_if_no_progress refine Keeps.same ?_ rfl | fail_if_no_progress extract_lets | apply getD_keeps | apply elim_keeps | dsimp +zetaDelta only

theorem State.smbAssemble_keeps {s0 s : State} (h : Keeps s0 s) (a1) : Keeps s0 (State.smbAssemble s a1) := by
  unfold State.smbAssemble
  with_reducible repeat' first | exact h | assumption | apply State.dropPartial_keeps | apply State.acceptCmd_keeps | split | apply foldl_keeps | intro _ | fail_if_no_progress refine Keeps.same ?_ rfl | fail_if_no_progress extract_lets | apply getD_keeps | apply elim_keeps | dsimp +zetaDelta only

theorem State.smbWrite_keeps {s0 s : State} (h : Keeps s0 s) (a1) (a2) (a3) (a4) : Keeps s0 (State.smbWrite s a1 a2 a3 a4) := by
  unfold State.smbWrite
  with_reducible repeat' first | exact h | assumption | apply State.wakeEvent_keeps | apply State.dropPartial_keeps | apply State.raise_keeps | apply State.smbAssemble_keeps | split | apply foldl_keeps | intro _ | fail_if_no_progress refine Keeps.same ?_ rfl | fail_if_no_progress extract_lets | apply getD_keeps | apply elim_keeps | dsimp +zetaDelta only

theorem execSmbFrameStart_keeps {s0 s : State} (h : Keeps s0 s) (a0) (a1) (a2) : ∀ t, execSmbFrameStart a0 a1 a2 s = .next t → Keeps s0 t := by
  intro t ht
  refine Keeps.ofEq ?_ (Host.Outcome.next.inj ht).symm
  with_reducible repeat' first | exact h | assumption | apply State.smbWrite_keeps | split | apply foldl_keeps | intro _ | fail_if_no_progress refine Keeps.same ?_ rfl | fail_if_no_progress extract_lets | apply getD_keeps | apply elim_keeps | dsimp +zetaDelta only

theorem execSmbFrameContinue_keeps {s0 s : State} (h : Keeps s0 s) (a0) (a1) (a2) : ∀ t, execSmbFrameContinue a0 a1 a2 s = .next t → Keeps s0 t := by
  intro t ht
  refine Keeps.ofEq ?_ (Host.Outcome.next.inj ht).symm
  with_reducible repeat' first | exact h | assumption | apply State.smbWrite_keeps | split | apply foldl_keeps | intro _ | fail_if_no_progress refine Keeps.same ?_ rfl | fail_if_no_progress extract_lets | apply getD_keeps | apply elim_keeps | dsimp +zetaDelta only

theorem State.smbRead_keeps {s0 s : State} (h : Keeps s0 s) (a1) : Keeps s0 (State.smbRead s a1) := by
  unfold State.smbRead
  with_reducible repeat' first | exact h | assumption | apply State.wakeEvent_keeps | apply State.smbSend_keeps | split | apply foldl_keeps | intro _ | fail_if_no_progress refine Keeps.same ?_ rfl | fail_if_no_progress extract_lets | apply getD_keeps | apply elim_keeps | dsimp +zetaDelta only

theorem execSmbResponseRead_keeps {s0 s : State} (h : Keeps s0 s) (a0) : ∀ t, execSmbResponseRead a0 s = .next t → Keeps s0 t := by
  intro t ht
  refine Keeps.ofEq ?_ (Host.Outcome.next.inj ht).symm
  with_reducible repeat' first | exact h | assumption | apply State.smbRead_keeps | split | apply foldl_keeps | intro _ | fail_if_no_progress refine Keeps.same ?_ rfl | fail_if_no_progress extract_lets | apply getD_keeps | apply elim_keeps | dsimp +zetaDelta only

theorem execSmbSelect_keeps {s0 s : State} (h : Keeps s0 s) (a0) (a1) : ∀ t, execSmbSelect a0 a1 s = .next t → Keeps s0 t := by
  intro t ht
  refine Keeps.ofEq ?_ (Host.Outcome.next.inj ht).symm
  with_reducible repeat' first | exact h | assumption | apply State.wakeEvent_keeps | split | apply foldl_keeps | intro _ | fail_if_no_progress refine Keeps.same ?_ rfl | fail_if_no_progress extract_lets | apply getD_keeps | apply elim_keeps | dsimp +zetaDelta only

theorem execSmbSclTimeout_keeps {s0 s : State} (h : Keeps s0 s) : ∀ t, execSmbSclTimeout s = .next t → Keeps s0 t := by
  intro t ht
  refine Keeps.ofEq ?_ (Host.Outcome.next.inj ht).symm
  with_reducible repeat' first | exact h | assumption | split | apply foldl_keeps | intro _ | fail_if_no_progress refine Keeps.same ?_ rfl | fail_if_no_progress extract_lets | apply getD_keeps | apply elim_keeps | dsimp +zetaDelta only

theorem execAlertResponse_keeps {s0 s : State} (h : Keeps s0 s) : ∀ t, execAlertResponse s = .next t → Keeps s0 t := by
  intro t ht
  refine Keeps.ofEq ?_ (Host.Outcome.next.inj ht).symm
  with_reducible repeat' first | exact h | assumption | apply State.smbSend_keeps | split | apply foldl_keeps | intro _ | fail_if_no_progress refine Keeps.same ?_ rfl | fail_if_no_progress extract_lets | apply getD_keeps | apply elim_keeps | dsimp +zetaDelta only

theorem State.commandTimeout_keeps {s0 s : State} (h : Keeps s0 s) (a1) : Keeps s0 (State.commandTimeout s a1) := by
  unfold State.commandTimeout
  with_reducible repeat' first | exact h | assumption | apply State.answer_keeps | split | apply foldl_keeps | intro _ | fail_if_no_progress refine Keeps.same ?_ rfl | fail_if_no_progress extract_lets | apply getD_keeps | apply elim_keeps | dsimp +zetaDelta only

theorem execCommandTimeout_keeps {s0 s : State} (h : Keeps s0 s) (a0) : ∀ t, execCommandTimeout a0 s = .next t → Keeps s0 t := by
  intro t ht
  refine Keeps.ofEq ?_ (Host.Outcome.next.inj ht).symm
  with_reducible repeat' first | exact h | assumption | apply State.commandTimeout_keeps | split | apply foldl_keeps | intro _ | fail_if_no_progress refine Keeps.same ?_ rfl | fail_if_no_progress extract_lets | apply getD_keeps | apply elim_keeps | dsimp +zetaDelta only

theorem State.relayTimeout_keeps {s0 s : State} (h : Keeps s0 s) (a1) : Keeps s0 (State.relayTimeout s a1) := by
  unfold State.relayTimeout
  with_reducible repeat' first | exact h | assumption | apply State.answer_keeps | split | apply foldl_keeps | intro _ | fail_if_no_progress refine Keeps.same ?_ rfl | fail_if_no_progress extract_lets | apply getD_keeps | apply elim_keeps | dsimp +zetaDelta only

theorem execRelayTimeout_keeps {s0 s : State} (h : Keeps s0 s) (a0) : ∀ t, execRelayTimeout a0 s = .next t → Keeps s0 t := by
  intro t ht
  refine Keeps.ofEq ?_ (Host.Outcome.next.inj ht).symm
  with_reducible repeat' first | exact h | assumption | apply State.relayTimeout_keeps | split | apply foldl_keeps | intro _ | fail_if_no_progress refine Keeps.same ?_ rfl | fail_if_no_progress extract_lets | apply getD_keeps | apply elim_keeps | dsimp +zetaDelta only

theorem State.command_keeps {s0 s : State} (h : Keeps s0 s) (o op seq txn csv body) : ∀ t, State.command s o op seq txn csv body = .next t → Keeps s0 t := by
  intro t ht
  cases ht
  exact State.acceptCmd_keeps h _ _ _

theorem execGetInfo_keeps {s0 s : State} (h : Keeps s0 s) (a0) (a1) (a2) (a3) : ∀ t, execGetInfo a0 a1 a2 a3 s = .next t → Keeps s0 t := State.command_keeps h _ _ _ _ _ _

theorem execEchoCmd_keeps {s0 s : State} (h : Keeps s0 s) (a0) (a1) (a2) (a3) (a4) : ∀ t, execEchoCmd a0 a1 a2 a3 a4 s = .next t → Keeps s0 t := State.command_keeps h _ _ _ _ _ _

theorem execReset_keeps {s0 s : State} (h : Keeps s0 s) (a0) (a1) (a2) (a3) (a4) (a5) : ∀ t, execReset a0 a1 a2 a3 a4 a5 s = .next t → Keeps s0 t := State.command_keeps h _ _ _ _ _ _

theorem execPowerState_keeps {s0 s : State} (h : Keeps s0 s) (a0) (a1) (a2) (a3) (a4) : ∀ t, execPowerState a0 a1 a2 a3 a4 s = .next t → Keeps s0 t := State.command_keeps h _ _ _ _ _ _

theorem execNotifyCfg_keeps {s0 s : State} (h : Keeps s0 s) (a0) (a1) (a2) (a3) (a4) (a5) (a6) : ∀ t, execNotifyCfg a0 a1 a2 a3 a4 a5 a6 s = .next t → Keeps s0 t := State.command_keeps h _ _ _ _ _ _

theorem execBegin_keeps {s0 s : State} (h : Keeps s0 s) (a0) (a1) (a2) (a3) : ∀ t, execBegin a0 a1 a2 a3 s = .next t → Keeps s0 t := State.command_keeps h _ _ _ _ _ _

theorem execStage_keeps {s0 s : State} (h : Keeps s0 s) (a0) (a1) (a2) (a3) (a4) : ∀ t, execStage a0 a1 a2 a3 a4 s = .next t → Keeps s0 t := State.command_keeps h _ _ _ _ _ _

theorem execStageRead_keeps {s0 s : State} (h : Keeps s0 s) (a0) (a1) (a2) (a3) (a4) : ∀ t, execStageRead a0 a1 a2 a3 a4 s = .next t → Keeps s0 t := State.command_keeps h _ _ _ _ _ _

theorem execCommit_keeps {s0 s : State} (h : Keeps s0 s) (a0) (a1) (a2) (a3) : ∀ t, execCommit a0 a1 a2 a3 s = .next t → Keeps s0 t := State.command_keeps h _ _ _ _ _ _

theorem execRollback_keeps {s0 s : State} (h : Keeps s0 s) (a0) (a1) (a2) (a3) : ∀ t, execRollback a0 a1 a2 a3 s = .next t → Keeps s0 t := State.command_keeps h _ _ _ _ _ _

theorem execTxnInfo_keeps {s0 s : State} (h : Keeps s0 s) (a0) (a1) (a2) (a3) : ∀ t, execTxnInfo a0 a1 a2 a3 s = .next t → Keeps s0 t := State.command_keeps h _ _ _ _ _ _

theorem execImgInfo_keeps {s0 s : State} (h : Keeps s0 s) (a0) (a1) (a2) (a3) : ∀ t, execImgInfo a0 a1 a2 a3 s = .next t → Keeps s0 t := State.command_keeps h _ _ _ _ _ _

theorem execImgErase_keeps {s0 s : State} (h : Keeps s0 s) (a0) (a1) (a2) (a3) (a4) : ∀ t, execImgErase a0 a1 a2 a3 a4 s = .next t → Keeps s0 t := State.command_keeps h _ _ _ _ _ _

theorem execImgWrite_keeps {s0 s : State} (h : Keeps s0 s) (a0) (a1) (a2) (a3) (a4) (a5) (a6) : ∀ t, execImgWrite a0 a1 a2 a3 a4 a5 a6 s = .next t → Keeps s0 t := State.command_keeps h _ _ _ _ _ _

theorem execImgRead_keeps {s0 s : State} (h : Keeps s0 s) (a0) (a1) (a2) (a3) (a4) (a5) (a6) : ∀ t, execImgRead a0 a1 a2 a3 a4 a5 a6 s = .next t → Keeps s0 t := State.command_keeps h _ _ _ _ _ _

theorem execImgCheck_keeps {s0 s : State} (h : Keeps s0 s) (a0) (a1) (a2) (a3) (a4) : ∀ t, execImgCheck a0 a1 a2 a3 a4 s = .next t → Keeps s0 t := State.command_keeps h _ _ _ _ _ _

theorem execTunnelList_keeps {s0 s : State} (h : Keeps s0 s) (a0) (a1) (a2) (a3) : ∀ t, execTunnelList a0 a1 a2 a3 s = .next t → Keeps s0 t := State.command_keeps h _ _ _ _ _ _

theorem execTunnelStat_keeps {s0 s : State} (h : Keeps s0 s) (a0) (a1) (a2) (a3) (a4) : ∀ t, execTunnelStat a0 a1 a2 a3 a4 s = .next t → Keeps s0 t := State.command_keeps h _ _ _ _ _ _

theorem execTunnelReopen_keeps {s0 s : State} (h : Keeps s0 s) (a0) (a1) (a2) (a3) (a4) : ∀ t, execTunnelReopen a0 a1 a2 a3 a4 s = .next t → Keeps s0 t := State.command_keeps h _ _ _ _ _ _

theorem execAlStatus_keeps {s0 s : State} (h : Keeps s0 s) (a0) (a1) (a2) (a3) (a4) : ∀ t, execAlStatus a0 a1 a2 a3 a4 s = .next t → Keeps s0 t := State.command_keeps h _ _ _ _ _ _

theorem execAlTableWrite_keeps {s0 s : State} (h : Keeps s0 s) (a0) (a1) (a2) (a3) (a4) (a5) (a6) : ∀ t, execAlTableWrite a0 a1 a2 a3 a4 a5 a6 s = .next t → Keeps s0 t := State.command_keeps h _ _ _ _ _ _

theorem execAlArm_keeps {s0 s : State} (h : Keeps s0 s) (a0) (a1) (a2) (a3) (a4) (a5) : ∀ t, execAlArm a0 a1 a2 a3 a4 a5 s = .next t → Keeps s0 t := State.command_keeps h _ _ _ _ _ _

theorem execPolicerRead_keeps {s0 s : State} (h : Keeps s0 s) (a0) (a1) (a2) (a3) (a4) : ∀ t, execPolicerRead a0 a1 a2 a3 a4 s = .next t → Keeps s0 t := State.command_keeps h _ _ _ _ _ _

theorem execLinkStatus_keeps {s0 s : State} (h : Keeps s0 s) (a0) (a1) (a2) (a3) (a4) : ∀ t, execLinkStatus a0 a1 a2 a3 a4 s = .next t → Keeps s0 t := State.command_keeps h _ _ _ _ _ _

theorem execLinkAction_keeps {s0 s : State} (h : Keeps s0 s) (a0) (a1) (a2) (a3) (a4) (a5) : ∀ t, execLinkAction a0 a1 a2 a3 a4 a5 s = .next t → Keeps s0 t := State.command_keeps h _ _ _ _ _ _

theorem execRoleSwap_keeps {s0 s : State} (h : Keeps s0 s) (a0) (a1) (a2) (a3) (a4) : ∀ t, execRoleSwap a0 a1 a2 a3 a4 s = .next t → Keeps s0 t := State.command_keeps h _ _ _ _ _ _

theorem execEyeScan_keeps {s0 s : State} (h : Keeps s0 s) (a0) (a1) (a2) (a3) (a4) (a5) (a6) (a7) (a8) (a9) (a10) : ∀ t, execEyeScan a0 a1 a2 a3 a4 a5 a6 a7 a8 a9 a10 s = .next t → Keeps s0 t := State.command_keeps h _ _ _ _ _ _

theorem execPdStatus_keeps {s0 s : State} (h : Keeps s0 s) (a0) (a1) (a2) (a3) (a4) : ∀ t, execPdStatus a0 a1 a2 a3 a4 s = .next t → Keeps s0 t := State.command_keeps h _ _ _ _ _ _

theorem execPdAction_keeps {s0 s : State} (h : Keeps s0 s) (a0) (a1) (a2) (a3) (a4) (a5) : ∀ t, execPdAction a0 a1 a2 a3 a4 a5 s = .next t → Keeps s0 t := State.command_keeps h _ _ _ _ _ _

theorem execEfStatus_keeps {s0 s : State} (h : Keeps s0 s) (a0) (a1) (a2) (a3) (a4) : ∀ t, execEfStatus a0 a1 a2 a3 a4 s = .next t → Keeps s0 t := State.command_keeps h _ _ _ _ _ _

theorem execEfClear_keeps {s0 s : State} (h : Keeps s0 s) (a0) (a1) (a2) (a3) (a4) : ∀ t, execEfClear a0 a1 a2 a3 a4 s = .next t → Keeps s0 t := State.command_keeps h _ _ _ _ _ _

theorem execBudgetStatus_keeps {s0 s : State} (h : Keeps s0 s) (a0) (a1) (a2) (a3) : ∀ t, execBudgetStatus a0 a1 a2 a3 s = .next t → Keeps s0 t := State.command_keeps h _ _ _ _ _ _

theorem execKeyLoad_keeps {s0 s : State} (h : Keeps s0 s) (a0) (a1) (a2) (a3) (a4) (a5) (a6) (a7) : ∀ t, execKeyLoad a0 a1 a2 a3 a4 a5 a6 a7 s = .next t → Keeps s0 t := State.command_keeps h _ _ _ _ _ _

theorem execKeyOp_keeps {s0 s : State} (h : Keeps s0 s) (a0) (a1) (a2) (a3) (a4) (a5) : ∀ t, execKeyOp a0 a1 a2 a3 a4 a5 s = .next t → Keeps s0 t := State.command_keeps h _ _ _ _ _ _

theorem execKeyErase_keeps {s0 s : State} (h : Keeps s0 s) (a0) (a1) (a2) (a3) : ∀ t, execKeyErase a0 a1 a2 a3 s = .next t → Keeps s0 t := State.command_keeps h _ _ _ _ _ _

theorem execRollbackAdv_keeps {s0 s : State} (h : Keeps s0 s) (a0) (a1) (a2) (a3) (a4) : ∀ t, execRollbackAdv a0 a1 a2 a3 a4 s = .next t → Keeps s0 t := State.command_keeps h _ _ _ _ _ _

theorem execCertRead_keeps {s0 s : State} (h : Keeps s0 s) (a0) (a1) (a2) (a3) : ∀ t, execCertRead a0 a1 a2 a3 s = .next t → Keeps s0 t := State.command_keeps h _ _ _ _ _ _

theorem execGateViol_keeps {s0 s : State} (h : Keeps s0 s) (a0) (a1) (a2) (a3) (a4) (a5) : ∀ t, execGateViol a0 a1 a2 a3 a4 a5 s = .next t → Keeps s0 t := State.command_keeps h _ _ _ _ _ _

theorem execLogRead_keeps {s0 s : State} (h : Keeps s0 s) (a0) (a1) (a2) (a3) (a4) (a5) : ∀ t, execLogRead a0 a1 a2 a3 a4 a5 s = .next t → Keeps s0 t := State.command_keeps h _ _ _ _ _ _

theorem execBistRun_keeps {s0 s : State} (h : Keeps s0 s) (a0) (a1) (a2) (a3) (a4) : ∀ t, execBistRun a0 a1 a2 a3 a4 s = .next t → Keeps s0 t := State.command_keeps h _ _ _ _ _ _

theorem execFarrierRun_keeps {s0 s : State} (h : Keeps s0 s) (a0) (a1) (a2) (a3) : ∀ t, execFarrierRun a0 a1 a2 a3 s = .next t → Keeps s0 t := State.command_keeps h _ _ _ _ _ _

theorem execTimeGet_keeps {s0 s : State} (h : Keeps s0 s) (a0) (a1) (a2) (a3) : ∀ t, execTimeGet a0 a1 a2 a3 s = .next t → Keeps s0 t := State.command_keeps h _ _ _ _ _ _

theorem execTimeStep_keeps {s0 s : State} (h : Keeps s0 s) (a0) (a1) (a2) (a3) (a4) (a5) : ∀ t, execTimeStep a0 a1 a2 a3 a4 a5 s = .next t → Keeps s0 t := State.command_keeps h _ _ _ _ _ _

theorem execTxtsRead_keeps {s0 s : State} (h : Keeps s0 s) (a0) (a1) (a2) (a3) (a4) (a5) : ∀ t, execTxtsRead a0 a1 a2 a3 a4 a5 s = .next t → Keeps s0 t := State.command_keeps h _ _ _ _ _ _

theorem execDispStatus_keeps {s0 s : State} (h : Keeps s0 s) (a0) (a1) (a2) (a3) (a4) : ∀ t, execDispStatus a0 a1 a2 a3 a4 s = .next t → Keeps s0 t := State.command_keeps h _ _ _ _ _ _

theorem execDispEdid_keeps {s0 s : State} (h : Keeps s0 s) (a0) (a1) (a2) (a3) (a4) (a5) : ∀ t, execDispEdid a0 a1 a2 a3 a4 a5 s = .next t → Keeps s0 t := State.command_keeps h _ _ _ _ _ _

theorem execDispTopo_keeps {s0 s : State} (h : Keeps s0 s) (a0) (a1) (a2) (a3) (a4) : ∀ t, execDispTopo a0 a1 a2 a3 a4 s = .next t → Keeps s0 t := State.command_keeps h _ _ _ _ _ _

theorem execDomainStatus_keeps {s0 s : State} (h : Keeps s0 s) (a0) (a1) (a2) (a3) : ∀ t, execDomainStatus a0 a1 a2 a3 s = .next t → Keeps s0 t := State.command_keeps h _ _ _ _ _ _

theorem execHubList_keeps {s0 s : State} (h : Keeps s0 s) (a0) (a1) (a2) (a3) : ∀ t, execHubList a0 a1 a2 a3 s = .next t → Keeps s0 t := State.command_keeps h _ _ _ _ _ _

theorem execHubRemove_keeps {s0 s : State} (h : Keeps s0 s) (a0) (a1) (a2) (a3) (a4) : ∀ t, execHubRemove a0 a1 a2 a3 a4 s = .next t → Keeps s0 t := State.command_keeps h _ _ _ _ _ _

theorem execRouteRead_keeps {s0 s : State} (h : Keeps s0 s) (a0) (a1) (a2) (a3) (a4) (a5) : ∀ t, execRouteRead a0 a1 a2 a3 a4 a5 s = .next t → Keeps s0 t := State.command_keeps h _ _ _ _ _ _

theorem execRelay_keeps {s0 s : State} (h : Keeps s0 s) (a0) (a1) (a2) (a3) (a4) (a5) (a6) : ∀ t, execRelay a0 a1 a2 a3 a4 a5 a6 s = .next t → Keeps s0 t := State.command_keeps h _ _ _ _ _ _

theorem execRegRead_keeps {s0 s : State} (h : Keeps s0 s) (a0) (a1) (a2) (a3) (a4) : ∀ t, execRegRead a0 a1 a2 a3 a4 s = .next t → Keeps s0 t := State.command_keeps h _ _ _ _ _ _

theorem execRegWrite_keeps {s0 s : State} (h : Keeps s0 s) (a0) (a1) (a2) (a3) (a4) : ∀ t, execRegWrite a0 a1 a2 a3 a4 s = .next t → Keeps s0 t := State.command_keeps h _ _ _ _ _ _

theorem execRegRmw_keeps {s0 s : State} (h : Keeps s0 s) (a0) (a1) (a2) (a3) (a4) (a5) (a6) : ∀ t, execRegRmw a0 a1 a2 a3 a4 a5 a6 s = .next t → Keeps s0 t := State.command_keeps h _ _ _ _ _ _

theorem execRbRead_keeps {s0 s : State} (h : Keeps s0 s) (a0) (a1) (a2) (a3) (a4) (a5) (a6) : ∀ t, execRbRead a0 a1 a2 a3 a4 a5 a6 s = .next t → Keeps s0 t := State.command_keeps h _ _ _ _ _ _

theorem execRbWrite_keeps {s0 s : State} (h : Keeps s0 s) (a0) (a1) (a2) (a3) (a4) (a5) (a6) (a7) : ∀ t, execRbWrite a0 a1 a2 a3 a4 a5 a6 a7 s = .next t → Keeps s0 t := State.command_keeps h _ _ _ _ _ _

theorem execHubGone_keeps {s0 s : State} (h : Keeps s0 s) (a0) : ∀ t, execHubGone a0 s = .next t → Keeps s0 t := by
  intro t ht
  refine Keeps.ofEq ?_ (Host.Outcome.next.inj ht).symm
  with_reducible repeat' first | exact h | assumption | apply State.hubGoneMsg_keeps | split | apply foldl_keeps | intro _ | fail_if_no_progress refine Keeps.same ?_ rfl | fail_if_no_progress extract_lets | apply getD_keeps | apply elim_keeps | dsimp +zetaDelta only

theorem execTunnelClose_keeps {s0 s : State} (h : Keeps s0 s) (a0) (a1) : ∀ t, execTunnelClose a0 a1 s = .next t → Keeps s0 t := by
  intro t ht
  refine Keeps.ofEq ?_ (Host.Outcome.next.inj ht).symm
  with_reducible repeat' first | exact h | assumption | apply State.tunnelCloseMsg_keeps | split | apply foldl_keeps | intro _ | fail_if_no_progress refine Keeps.same ?_ rfl | fail_if_no_progress extract_lets | apply getD_keeps | apply elim_keeps | dsimp +zetaDelta only

theorem execConfirm_keeps {s0 s : State} (h : Keeps s0 s) (a0) (a1) (a2) : ∀ t, execConfirm a0 a1 a2 s = .next t → Keeps s0 t := by
  intro t ht
  refine Keeps.ofEq ?_ (Host.Outcome.next.inj ht).symm
  with_reducible repeat' first | exact h | assumption | apply State.confirm_keeps | split | apply foldl_keeps | intro _ | fail_if_no_progress refine Keeps.same ?_ rfl | fail_if_no_progress extract_lets | apply getD_keeps | apply elim_keeps | dsimp +zetaDelta only

theorem execConfirmTimeout_keeps {s0 s : State} (h : Keeps s0 s) (a0) : ∀ t, execConfirmTimeout a0 s = .next t → Keeps s0 t := by
  intro t ht
  refine Keeps.ofEq ?_ (Host.Outcome.next.inj ht).symm
  with_reducible repeat' first | exact h | assumption | apply State.confirmTimeout_keeps | split | apply foldl_keeps | intro _ | fail_if_no_progress refine Keeps.same ?_ rfl | fail_if_no_progress extract_lets | apply getD_keeps | apply elim_keeps | dsimp +zetaDelta only

theorem execReadResp_keeps {s0 s : State} (h : Keeps s0 s) (a0) (a1) (a2) (a3) : ∀ t, execReadResp a0 a1 a2 a3 s = .next t → Keeps s0 t := by
  intro t ht
  refine Keeps.ofEq ?_ (Host.Outcome.next.inj ht).symm
  with_reducible repeat' first | exact h | assumption | apply State.readResp_keeps | split | apply foldl_keeps | intro _ | fail_if_no_progress refine Keeps.same ?_ rfl | fail_if_no_progress extract_lets | apply getD_keeps | apply elim_keeps | dsimp +zetaDelta only

theorem execI2cDone_keeps {s0 s : State} (h : Keeps s0 s) (a0) (a1) : ∀ t, execI2cDone a0 a1 s = .next t → Keeps s0 t := by
  intro t ht
  refine Keeps.ofEq ?_ (Host.Outcome.next.inj ht).symm
  with_reducible repeat' first | exact h | assumption | apply State.i2cDone_keeps | split | apply foldl_keeps | intro _ | fail_if_no_progress refine Keeps.same ?_ rfl | fail_if_no_progress extract_lets | apply getD_keeps | apply elim_keeps | dsimp +zetaDelta only

theorem execRbReadTimeout_keeps {s0 s : State} (h : Keeps s0 s) (a0) : ∀ t, execRbReadTimeout a0 s = .next t → Keeps s0 t := by
  intro t ht
  refine Keeps.ofEq ?_ (Host.Outcome.next.inj ht).symm
  with_reducible repeat' first | exact h | assumption | apply State.rbReadTimeout_keeps | split | apply foldl_keeps | intro _ | fail_if_no_progress refine Keeps.same ?_ rfl | fail_if_no_progress extract_lets | apply getD_keeps | apply elim_keeps | dsimp +zetaDelta only

theorem State.idleClocks_keeps {s0 s : State} (h : Keeps s0 s) : Keeps s0 (State.idleClocks s) := by
  unfold State.idleClocks
  with_reducible repeat' first | exact h | assumption | apply State.each_keeps | apply State.satAdd_keeps | split | apply foldl_keeps | intro _ | fail_if_no_progress refine Keeps.same ?_ rfl | fail_if_no_progress extract_lets | apply getD_keeps | apply elim_keeps | dsimp +zetaDelta only

theorem State.idleFlips_keeps {s0 s : State} (h : Keeps s0 s) : Keeps s0 (State.idleFlips s) := by
  unfold State.idleFlips
  with_reducible repeat' first | exact h | assumption | apply State.each_keeps | apply State.takeFlip_keeps | split | apply foldl_keeps | intro _ | fail_if_no_progress refine Keeps.same ?_ rfl | fail_if_no_progress extract_lets | apply getD_keeps | apply elim_keeps | dsimp +zetaDelta only

theorem State.tick_keeps {s0 s : State} (h : Keeps s0 s) : Keeps s0 (State.tick s) := by
  have k : Keeps s0 { s with uptime := s.uptime + 64 } :=
    h.trans ⟨rfl, id, List.prefix_rfl, Nat.le_add_right _ _, Nat.le_refl _, Nat.le_refl _, Nat.le_refl _⟩
  unfold State.tick
  dsimp only
  split
  · exact State.startQueued_keeps (State.idleClocks_keeps (State.idleFlips_keeps (State.timeTick_keeps h)))
  · exact State.startQueued_keeps (State.idleClocks_keeps (State.idleFlips_keeps k))

end Sys2Proof.Machine
end

