-- ==== Sys2Proof/Laws/State.lean ====
section
/-!
SUPPORT. The small lemmas of the state: what each basic update leaves of each field, so that no proof unfolds a record update, and what registers read
after an update of anything else.
-/

namespace Sys2Proof.Machine

/-! ### `setReg` -/

@[simp] theorem State.setReg_engs (s : State) (a : Nat) (w : Word) : (s.setReg a w).engs = s.engs := rfl
@[simp] theorem State.setReg_sw (s : State) (a : Nat) (w : Word) : (s.setReg a w).sw = s.sw := rfl
@[simp] theorem State.setReg_scheds (s : State) (a : Nat) (w : Word) : (s.setReg a w).scheds = s.scheds := rfl
@[simp] theorem State.setReg_pol (s : State) (a : Nat) (w : Word) : (s.setReg a w).pol = s.pol := rfl
@[simp] theorem State.setReg_clk (s : State) (a : Nat) (w : Word) : (s.setReg a w).clk = s.clk := rfl
@[simp] theorem State.setReg_pwr (s : State) (a : Nat) (w : Word) : (s.setReg a w).pwr = s.pwr := rfl
@[simp] theorem State.setReg_pipes (s : State) (a : Nat) (w : Word) : (s.setReg a w).pipes = s.pipes := rfl
@[simp] theorem State.setReg_brg (s : State) (a : Nat) (w : Word) : (s.setReg a w).brg = s.brg := rfl
@[simp] theorem State.setReg_usb (s : State) (a : Nat) (w : Word) : (s.setReg a w).usb = s.usb := rfl
@[simp] theorem State.setReg_macs (s : State) (a : Nat) (w : Word) : (s.setReg a w).macs = s.macs := rfl
@[simp] theorem State.setReg_tm (s : State) (a : Nat) (w : Word) : (s.setReg a w).tm = s.tm := rfl
@[simp] theorem State.setReg_dom (s : State) (a : Nat) (w : Word) : (s.setReg a w).dom = s.dom := rfl
@[simp] theorem State.setReg_free (s : State) (a : Nat) (w : Word) : (s.setReg a w).free = s.free := rfl

/-! ### `wr` -/

@[simp] theorem State.wr_mem (s : State) (f : Fld) (v : Nat) : (s.wr f v).mem = s.mem := rfl
@[simp] theorem State.wr_flash (s : State) (f : Fld) (v : Nat) : (s.wr f v).flash = s.flash := rfl
@[simp] theorem State.wr_frame (s : State) (f : Fld) (v : Nat) : (s.wr f v).frame = s.frame := rfl
@[simp] theorem State.wr_time (s : State) (f : Fld) (v : Nat) : (s.wr f v).time = s.time := rfl
@[simp] theorem State.wr_lanes (s : State) (f : Fld) (v : Nat) : (s.wr f v).lanes = s.lanes := rfl
@[simp] theorem State.wr_links (s : State) (f : Fld) (v : Nat) : (s.wr f v).links = s.links := rfl
@[simp] theorem State.wr_adps (s : State) (f : Fld) (v : Nat) : (s.wr f v).adps = s.adps := rfl
@[simp] theorem State.wr_engs (s : State) (f : Fld) (v : Nat) : (s.wr f v).engs = s.engs := rfl
@[simp] theorem State.wr_sw (s : State) (f : Fld) (v : Nat) : (s.wr f v).sw = s.sw := rfl
@[simp] theorem State.wr_scheds (s : State) (f : Fld) (v : Nat) : (s.wr f v).scheds = s.scheds := rfl
@[simp] theorem State.wr_pol (s : State) (f : Fld) (v : Nat) : (s.wr f v).pol = s.pol := rfl
@[simp] theorem State.wr_clk (s : State) (f : Fld) (v : Nat) : (s.wr f v).clk = s.clk := rfl
@[simp] theorem State.wr_pwr (s : State) (f : Fld) (v : Nat) : (s.wr f v).pwr = s.pwr := rfl
@[simp] theorem State.wr_fuses (s : State) (f : Fld) (v : Nat) : (s.wr f v).fuses = s.fuses := rfl
@[simp] theorem State.wr_keys (s : State) (f : Fld) (v : Nat) : (s.wr f v).keys = s.keys := rfl
@[simp] theorem State.wr_img (s : State) (f : Fld) (v : Nat) : (s.wr f v).img = s.img := rfl
@[simp] theorem State.wr_cmd (s : State) (f : Fld) (v : Nat) : (s.wr f v).cmd = s.cmd := rfl
@[simp] theorem State.wr_test (s : State) (f : Fld) (v : Nat) : (s.wr f v).test = s.test := rfl
@[simp] theorem State.wr_uptime (s : State) (f : Fld) (v : Nat) : (s.wr f v).uptime = s.uptime := rfl
@[simp] theorem State.wr_pipes (s : State) (f : Fld) (v : Nat) : (s.wr f v).pipes = s.pipes := rfl
@[simp] theorem State.wr_brg (s : State) (f : Fld) (v : Nat) : (s.wr f v).brg = s.brg := rfl
@[simp] theorem State.wr_usb (s : State) (f : Fld) (v : Nat) : (s.wr f v).usb = s.usb := rfl
@[simp] theorem State.wr_macs (s : State) (f : Fld) (v : Nat) : (s.wr f v).macs = s.macs := rfl
@[simp] theorem State.wr_tm (s : State) (f : Fld) (v : Nat) : (s.wr f v).tm = s.tm := rfl
@[simp] theorem State.wr_pds (s : State) (f : Fld) (v : Nat) : (s.wr f v).pds = s.pds := rfl
@[simp] theorem State.wr_efs (s : State) (f : Fld) (v : Nat) : (s.wr f v).efs = s.efs := rfl
@[simp] theorem State.wr_dom (s : State) (f : Fld) (v : Nat) : (s.wr f v).dom = s.dom := rfl
@[simp] theorem State.wr_out (s : State) (f : Fld) (v : Nat) : (s.wr f v).out = s.out := rfl
@[simp] theorem State.wr_free (s : State) (f : Fld) (v : Nat) : (s.wr f v).free = s.free := rfl
@[simp] theorem State.wr_pending (s : State) (f : Fld) (v : Nat) : (s.wr f v).pending = s.pending := rfl

/-! ### `setMemByte` -/

@[simp] theorem State.setMemByte_regs (s : State) (a : Nat) (b : Byte) : (s.setMemByte a b).regs = s.regs := rfl
@[simp] theorem State.setMemByte_flash (s : State) (a : Nat) (b : Byte) : (s.setMemByte a b).flash = s.flash := rfl
@[simp] theorem State.setMemByte_frame (s : State) (a : Nat) (b : Byte) : (s.setMemByte a b).frame = s.frame := rfl
@[simp] theorem State.setMemByte_time (s : State) (a : Nat) (b : Byte) : (s.setMemByte a b).time = s.time := rfl
@[simp] theorem State.setMemByte_lanes (s : State) (a : Nat) (b : Byte) : (s.setMemByte a b).lanes = s.lanes := rfl
@[simp] theorem State.setMemByte_links (s : State) (a : Nat) (b : Byte) : (s.setMemByte a b).links = s.links := rfl
@[simp] theorem State.setMemByte_adps (s : State) (a : Nat) (b : Byte) : (s.setMemByte a b).adps = s.adps := rfl
@[simp] theorem State.setMemByte_engs (s : State) (a : Nat) (b : Byte) : (s.setMemByte a b).engs = s.engs := rfl
@[simp] theorem State.setMemByte_sw (s : State) (a : Nat) (b : Byte) : (s.setMemByte a b).sw = s.sw := rfl
@[simp] theorem State.setMemByte_scheds (s : State) (a : Nat) (b : Byte) : (s.setMemByte a b).scheds = s.scheds := rfl
@[simp] theorem State.setMemByte_pol (s : State) (a : Nat) (b : Byte) : (s.setMemByte a b).pol = s.pol := rfl
@[simp] theorem State.setMemByte_clk (s : State) (a : Nat) (b : Byte) : (s.setMemByte a b).clk = s.clk := rfl
@[simp] theorem State.setMemByte_pwr (s : State) (a : Nat) (b : Byte) : (s.setMemByte a b).pwr = s.pwr := rfl
@[simp] theorem State.setMemByte_fuses (s : State) (a : Nat) (b : Byte) : (s.setMemByte a b).fuses = s.fuses := rfl
@[simp] theorem State.setMemByte_keys (s : State) (a : Nat) (b : Byte) : (s.setMemByte a b).keys = s.keys := rfl
@[simp] theorem State.setMemByte_img (s : State) (a : Nat) (b : Byte) : (s.setMemByte a b).img = s.img := rfl
@[simp] theorem State.setMemByte_cmd (s : State) (a : Nat) (b : Byte) : (s.setMemByte a b).cmd = s.cmd := rfl
@[simp] theorem State.setMemByte_test (s : State) (a : Nat) (b : Byte) : (s.setMemByte a b).test = s.test := rfl
@[simp] theorem State.setMemByte_uptime (s : State) (a : Nat) (b : Byte) : (s.setMemByte a b).uptime = s.uptime := rfl
@[simp] theorem State.setMemByte_pipes (s : State) (a : Nat) (b : Byte) : (s.setMemByte a b).pipes = s.pipes := rfl
@[simp] theorem State.setMemByte_brg (s : State) (a : Nat) (b : Byte) : (s.setMemByte a b).brg = s.brg := rfl
@[simp] theorem State.setMemByte_usb (s : State) (a : Nat) (b : Byte) : (s.setMemByte a b).usb = s.usb := rfl
@[simp] theorem State.setMemByte_macs (s : State) (a : Nat) (b : Byte) : (s.setMemByte a b).macs = s.macs := rfl
@[simp] theorem State.setMemByte_tm (s : State) (a : Nat) (b : Byte) : (s.setMemByte a b).tm = s.tm := rfl
@[simp] theorem State.setMemByte_pds (s : State) (a : Nat) (b : Byte) : (s.setMemByte a b).pds = s.pds := rfl
@[simp] theorem State.setMemByte_efs (s : State) (a : Nat) (b : Byte) : (s.setMemByte a b).efs = s.efs := rfl
@[simp] theorem State.setMemByte_dom (s : State) (a : Nat) (b : Byte) : (s.setMemByte a b).dom = s.dom := rfl
@[simp] theorem State.setMemByte_out (s : State) (a : Nat) (b : Byte) : (s.setMemByte a b).out = s.out := rfl
@[simp] theorem State.setMemByte_free (s : State) (a : Nat) (b : Byte) : (s.setMemByte a b).free = s.free := rfl
@[simp] theorem State.setMemByte_pending (s : State) (a : Nat) (b : Byte) : (s.setMemByte a b).pending = s.pending := rfl
@[simp] theorem State.setMemByte_reg (s : State) (a : Nat) (b : Byte) (r : Nat) : (s.setMemByte a b).reg r = s.reg r := rfl
@[simp] theorem State.setMemByte_rd (s : State) (a : Nat) (b : Byte) (g : Fld) : (s.setMemByte a b).rd g = s.rd g := rfl
@[simp] theorem State.setMemByte_on (s : State) (a : Nat) (b : Byte) (g : Fld) : (s.setMemByte a b).on g = s.on g := rfl

/-! ### `setFlashByte` -/

@[simp] theorem State.setFlashByte_regs (s : State) (a : Nat) (b : Byte) : (s.setFlashByte a b).regs = s.regs := rfl
@[simp] theorem State.setFlashByte_mem (s : State) (a : Nat) (b : Byte) : (s.setFlashByte a b).mem = s.mem := rfl
@[simp] theorem State.setFlashByte_frame (s : State) (a : Nat) (b : Byte) : (s.setFlashByte a b).frame = s.frame := rfl
@[simp] theorem State.setFlashByte_time (s : State) (a : Nat) (b : Byte) : (s.setFlashByte a b).time = s.time := rfl
@[simp] theorem State.setFlashByte_lanes (s : State) (a : Nat) (b : Byte) : (s.setFlashByte a b).lanes = s.lanes := rfl
@[simp] theorem State.setFlashByte_links (s : State) (a : Nat) (b : Byte) : (s.setFlashByte a b).links = s.links := rfl
@[simp] theorem State.setFlashByte_adps (s : State) (a : Nat) (b : Byte) : (s.setFlashByte a b).adps = s.adps := rfl
@[simp] theorem State.setFlashByte_engs (s : State) (a : Nat) (b : Byte) : (s.setFlashByte a b).engs = s.engs := rfl
@[simp] theorem State.setFlashByte_sw (s : State) (a : Nat) (b : Byte) : (s.setFlashByte a b).sw = s.sw := rfl
@[simp] theorem State.setFlashByte_scheds (s : State) (a : Nat) (b : Byte) : (s.setFlashByte a b).scheds = s.scheds := rfl
@[simp] theorem State.setFlashByte_pol (s : State) (a : Nat) (b : Byte) : (s.setFlashByte a b).pol = s.pol := rfl
@[simp] theorem State.setFlashByte_clk (s : State) (a : Nat) (b : Byte) : (s.setFlashByte a b).clk = s.clk := rfl
@[simp] theorem State.setFlashByte_pwr (s : State) (a : Nat) (b : Byte) : (s.setFlashByte a b).pwr = s.pwr := rfl
@[simp] theorem State.setFlashByte_fuses (s : State) (a : Nat) (b : Byte) : (s.setFlashByte a b).fuses = s.fuses := rfl
@[simp] theorem State.setFlashByte_keys (s : State) (a : Nat) (b : Byte) : (s.setFlashByte a b).keys = s.keys := rfl
@[simp] theorem State.setFlashByte_img (s : State) (a : Nat) (b : Byte) : (s.setFlashByte a b).img = s.img := rfl
@[simp] theorem State.setFlashByte_cmd (s : State) (a : Nat) (b : Byte) : (s.setFlashByte a b).cmd = s.cmd := rfl
@[simp] theorem State.setFlashByte_test (s : State) (a : Nat) (b : Byte) : (s.setFlashByte a b).test = s.test := rfl
@[simp] theorem State.setFlashByte_uptime (s : State) (a : Nat) (b : Byte) : (s.setFlashByte a b).uptime = s.uptime := rfl
@[simp] theorem State.setFlashByte_pipes (s : State) (a : Nat) (b : Byte) : (s.setFlashByte a b).pipes = s.pipes := rfl
@[simp] theorem State.setFlashByte_brg (s : State) (a : Nat) (b : Byte) : (s.setFlashByte a b).brg = s.brg := rfl
@[simp] theorem State.setFlashByte_usb (s : State) (a : Nat) (b : Byte) : (s.setFlashByte a b).usb = s.usb := rfl
@[simp] theorem State.setFlashByte_macs (s : State) (a : Nat) (b : Byte) : (s.setFlashByte a b).macs = s.macs := rfl
@[simp] theorem State.setFlashByte_tm (s : State) (a : Nat) (b : Byte) : (s.setFlashByte a b).tm = s.tm := rfl
@[simp] theorem State.setFlashByte_pds (s : State) (a : Nat) (b : Byte) : (s.setFlashByte a b).pds = s.pds := rfl
@[simp] theorem State.setFlashByte_efs (s : State) (a : Nat) (b : Byte) : (s.setFlashByte a b).efs = s.efs := rfl
@[simp] theorem State.setFlashByte_dom (s : State) (a : Nat) (b : Byte) : (s.setFlashByte a b).dom = s.dom := rfl
@[simp] theorem State.setFlashByte_out (s : State) (a : Nat) (b : Byte) : (s.setFlashByte a b).out = s.out := rfl
@[simp] theorem State.setFlashByte_free (s : State) (a : Nat) (b : Byte) : (s.setFlashByte a b).free = s.free := rfl
@[simp] theorem State.setFlashByte_pending (s : State) (a : Nat) (b : Byte) : (s.setFlashByte a b).pending = s.pending := rfl
@[simp] theorem State.setFlashByte_reg (s : State) (a : Nat) (b : Byte) (r : Nat) : (s.setFlashByte a b).reg r = s.reg r := rfl
@[simp] theorem State.setFlashByte_rd (s : State) (a : Nat) (b : Byte) (g : Fld) : (s.setFlashByte a b).rd g = s.rd g := rfl
@[simp] theorem State.setFlashByte_on (s : State) (a : Nat) (b : Byte) (g : Fld) : (s.setFlashByte a b).on g = s.on g := rfl

/-! ### `setFrameByte` -/

@[simp] theorem State.setFrameByte_regs (s : State) (a : Nat) (b : Byte) : (s.setFrameByte a b).regs = s.regs := rfl
@[simp] theorem State.setFrameByte_mem (s : State) (a : Nat) (b : Byte) : (s.setFrameByte a b).mem = s.mem := rfl
@[simp] theorem State.setFrameByte_flash (s : State) (a : Nat) (b : Byte) : (s.setFrameByte a b).flash = s.flash := rfl
@[simp] theorem State.setFrameByte_time (s : State) (a : Nat) (b : Byte) : (s.setFrameByte a b).time = s.time := rfl
@[simp] theorem State.setFrameByte_lanes (s : State) (a : Nat) (b : Byte) : (s.setFrameByte a b).lanes = s.lanes := rfl
@[simp] theorem State.setFrameByte_links (s : State) (a : Nat) (b : Byte) : (s.setFrameByte a b).links = s.links := rfl
@[simp] theorem State.setFrameByte_adps (s : State) (a : Nat) (b : Byte) : (s.setFrameByte a b).adps = s.adps := rfl
@[simp] theorem State.setFrameByte_engs (s : State) (a : Nat) (b : Byte) : (s.setFrameByte a b).engs = s.engs := rfl
@[simp] theorem State.setFrameByte_sw (s : State) (a : Nat) (b : Byte) : (s.setFrameByte a b).sw = s.sw := rfl
@[simp] theorem State.setFrameByte_scheds (s : State) (a : Nat) (b : Byte) : (s.setFrameByte a b).scheds = s.scheds := rfl
@[simp] theorem State.setFrameByte_pol (s : State) (a : Nat) (b : Byte) : (s.setFrameByte a b).pol = s.pol := rfl
@[simp] theorem State.setFrameByte_clk (s : State) (a : Nat) (b : Byte) : (s.setFrameByte a b).clk = s.clk := rfl
@[simp] theorem State.setFrameByte_pwr (s : State) (a : Nat) (b : Byte) : (s.setFrameByte a b).pwr = s.pwr := rfl
@[simp] theorem State.setFrameByte_fuses (s : State) (a : Nat) (b : Byte) : (s.setFrameByte a b).fuses = s.fuses := rfl
@[simp] theorem State.setFrameByte_keys (s : State) (a : Nat) (b : Byte) : (s.setFrameByte a b).keys = s.keys := rfl
@[simp] theorem State.setFrameByte_img (s : State) (a : Nat) (b : Byte) : (s.setFrameByte a b).img = s.img := rfl
@[simp] theorem State.setFrameByte_cmd (s : State) (a : Nat) (b : Byte) : (s.setFrameByte a b).cmd = s.cmd := rfl
@[simp] theorem State.setFrameByte_test (s : State) (a : Nat) (b : Byte) : (s.setFrameByte a b).test = s.test := rfl
@[simp] theorem State.setFrameByte_uptime (s : State) (a : Nat) (b : Byte) : (s.setFrameByte a b).uptime = s.uptime := rfl
@[simp] theorem State.setFrameByte_pipes (s : State) (a : Nat) (b : Byte) : (s.setFrameByte a b).pipes = s.pipes := rfl
@[simp] theorem State.setFrameByte_brg (s : State) (a : Nat) (b : Byte) : (s.setFrameByte a b).brg = s.brg := rfl
@[simp] theorem State.setFrameByte_usb (s : State) (a : Nat) (b : Byte) : (s.setFrameByte a b).usb = s.usb := rfl
@[simp] theorem State.setFrameByte_macs (s : State) (a : Nat) (b : Byte) : (s.setFrameByte a b).macs = s.macs := rfl
@[simp] theorem State.setFrameByte_tm (s : State) (a : Nat) (b : Byte) : (s.setFrameByte a b).tm = s.tm := rfl
@[simp] theorem State.setFrameByte_pds (s : State) (a : Nat) (b : Byte) : (s.setFrameByte a b).pds = s.pds := rfl
@[simp] theorem State.setFrameByte_efs (s : State) (a : Nat) (b : Byte) : (s.setFrameByte a b).efs = s.efs := rfl
@[simp] theorem State.setFrameByte_dom (s : State) (a : Nat) (b : Byte) : (s.setFrameByte a b).dom = s.dom := rfl
@[simp] theorem State.setFrameByte_out (s : State) (a : Nat) (b : Byte) : (s.setFrameByte a b).out = s.out := rfl
@[simp] theorem State.setFrameByte_free (s : State) (a : Nat) (b : Byte) : (s.setFrameByte a b).free = s.free := rfl
@[simp] theorem State.setFrameByte_pending (s : State) (a : Nat) (b : Byte) : (s.setFrameByte a b).pending = s.pending := rfl
@[simp] theorem State.setFrameByte_reg (s : State) (a : Nat) (b : Byte) (r : Nat) : (s.setFrameByte a b).reg r = s.reg r := rfl
@[simp] theorem State.setFrameByte_rd (s : State) (a : Nat) (b : Byte) (g : Fld) : (s.setFrameByte a b).rd g = s.rd g := rfl
@[simp] theorem State.setFrameByte_on (s : State) (a : Nat) (b : Byte) (g : Fld) : (s.setFrameByte a b).on g = s.on g := rfl

/-! ### `setLane` -/

@[simp] theorem State.setLane_regs (s : State) (n : Nat) (v : LaneSt) : (s.setLane n v).regs = s.regs := rfl
@[simp] theorem State.setLane_mem (s : State) (n : Nat) (v : LaneSt) : (s.setLane n v).mem = s.mem := rfl
@[simp] theorem State.setLane_flash (s : State) (n : Nat) (v : LaneSt) : (s.setLane n v).flash = s.flash := rfl
@[simp] theorem State.setLane_frame (s : State) (n : Nat) (v : LaneSt) : (s.setLane n v).frame = s.frame := rfl
@[simp] theorem State.setLane_time (s : State) (n : Nat) (v : LaneSt) : (s.setLane n v).time = s.time := rfl
@[simp] theorem State.setLane_links (s : State) (n : Nat) (v : LaneSt) : (s.setLane n v).links = s.links := rfl
@[simp] theorem State.setLane_adps (s : State) (n : Nat) (v : LaneSt) : (s.setLane n v).adps = s.adps := rfl
@[simp] theorem State.setLane_engs (s : State) (n : Nat) (v : LaneSt) : (s.setLane n v).engs = s.engs := rfl
@[simp] theorem State.setLane_sw (s : State) (n : Nat) (v : LaneSt) : (s.setLane n v).sw = s.sw := rfl
@[simp] theorem State.setLane_scheds (s : State) (n : Nat) (v : LaneSt) : (s.setLane n v).scheds = s.scheds := rfl
@[simp] theorem State.setLane_pol (s : State) (n : Nat) (v : LaneSt) : (s.setLane n v).pol = s.pol := rfl
@[simp] theorem State.setLane_clk (s : State) (n : Nat) (v : LaneSt) : (s.setLane n v).clk = s.clk := rfl
@[simp] theorem State.setLane_pwr (s : State) (n : Nat) (v : LaneSt) : (s.setLane n v).pwr = s.pwr := rfl
@[simp] theorem State.setLane_fuses (s : State) (n : Nat) (v : LaneSt) : (s.setLane n v).fuses = s.fuses := rfl
@[simp] theorem State.setLane_keys (s : State) (n : Nat) (v : LaneSt) : (s.setLane n v).keys = s.keys := rfl
@[simp] theorem State.setLane_img (s : State) (n : Nat) (v : LaneSt) : (s.setLane n v).img = s.img := rfl
@[simp] theorem State.setLane_cmd (s : State) (n : Nat) (v : LaneSt) : (s.setLane n v).cmd = s.cmd := rfl
@[simp] theorem State.setLane_test (s : State) (n : Nat) (v : LaneSt) : (s.setLane n v).test = s.test := rfl
@[simp] theorem State.setLane_uptime (s : State) (n : Nat) (v : LaneSt) : (s.setLane n v).uptime = s.uptime := rfl
@[simp] theorem State.setLane_pipes (s : State) (n : Nat) (v : LaneSt) : (s.setLane n v).pipes = s.pipes := rfl
@[simp] theorem State.setLane_brg (s : State) (n : Nat) (v : LaneSt) : (s.setLane n v).brg = s.brg := rfl
@[simp] theorem State.setLane_usb (s : State) (n : Nat) (v : LaneSt) : (s.setLane n v).usb = s.usb := rfl
@[simp] theorem State.setLane_macs (s : State) (n : Nat) (v : LaneSt) : (s.setLane n v).macs = s.macs := rfl
@[simp] theorem State.setLane_tm (s : State) (n : Nat) (v : LaneSt) : (s.setLane n v).tm = s.tm := rfl
@[simp] theorem State.setLane_pds (s : State) (n : Nat) (v : LaneSt) : (s.setLane n v).pds = s.pds := rfl
@[simp] theorem State.setLane_efs (s : State) (n : Nat) (v : LaneSt) : (s.setLane n v).efs = s.efs := rfl
@[simp] theorem State.setLane_dom (s : State) (n : Nat) (v : LaneSt) : (s.setLane n v).dom = s.dom := rfl
@[simp] theorem State.setLane_out (s : State) (n : Nat) (v : LaneSt) : (s.setLane n v).out = s.out := rfl
@[simp] theorem State.setLane_free (s : State) (n : Nat) (v : LaneSt) : (s.setLane n v).free = s.free := rfl
@[simp] theorem State.setLane_pending (s : State) (n : Nat) (v : LaneSt) : (s.setLane n v).pending = s.pending := rfl
@[simp] theorem State.setLane_rd (s : State) (n : Nat) (v : LaneSt) (g : Fld) : (s.setLane n v).rd g = s.rd g := rfl
@[simp] theorem State.setLane_on (s : State) (n : Nat) (v : LaneSt) (g : Fld) : (s.setLane n v).on g = s.on g := rfl

/-! ### `modLane` -/

@[simp] theorem State.modLane_regs (s : State) (n : Nat) (f : LaneSt → LaneSt) : (s.modLane n f).regs = s.regs := rfl
@[simp] theorem State.modLane_mem (s : State) (n : Nat) (f : LaneSt → LaneSt) : (s.modLane n f).mem = s.mem := rfl
@[simp] theorem State.modLane_flash (s : State) (n : Nat) (f : LaneSt → LaneSt) : (s.modLane n f).flash = s.flash := rfl
@[simp] theorem State.modLane_frame (s : State) (n : Nat) (f : LaneSt → LaneSt) : (s.modLane n f).frame = s.frame := rfl
@[simp] theorem State.modLane_time (s : State) (n : Nat) (f : LaneSt → LaneSt) : (s.modLane n f).time = s.time := rfl
@[simp] theorem State.modLane_links (s : State) (n : Nat) (f : LaneSt → LaneSt) : (s.modLane n f).links = s.links := rfl
@[simp] theorem State.modLane_adps (s : State) (n : Nat) (f : LaneSt → LaneSt) : (s.modLane n f).adps = s.adps := rfl
@[simp] theorem State.modLane_engs (s : State) (n : Nat) (f : LaneSt → LaneSt) : (s.modLane n f).engs = s.engs := rfl
@[simp] theorem State.modLane_sw (s : State) (n : Nat) (f : LaneSt → LaneSt) : (s.modLane n f).sw = s.sw := rfl
@[simp] theorem State.modLane_scheds (s : State) (n : Nat) (f : LaneSt → LaneSt) : (s.modLane n f).scheds = s.scheds := rfl
@[simp] theorem State.modLane_pol (s : State) (n : Nat) (f : LaneSt → LaneSt) : (s.modLane n f).pol = s.pol := rfl
@[simp] theorem State.modLane_clk (s : State) (n : Nat) (f : LaneSt → LaneSt) : (s.modLane n f).clk = s.clk := rfl
@[simp] theorem State.modLane_pwr (s : State) (n : Nat) (f : LaneSt → LaneSt) : (s.modLane n f).pwr = s.pwr := rfl
@[simp] theorem State.modLane_fuses (s : State) (n : Nat) (f : LaneSt → LaneSt) : (s.modLane n f).fuses = s.fuses := rfl
@[simp] theorem State.modLane_keys (s : State) (n : Nat) (f : LaneSt → LaneSt) : (s.modLane n f).keys = s.keys := rfl
@[simp] theorem State.modLane_img (s : State) (n : Nat) (f : LaneSt → LaneSt) : (s.modLane n f).img = s.img := rfl
@[simp] theorem State.modLane_cmd (s : State) (n : Nat) (f : LaneSt → LaneSt) : (s.modLane n f).cmd = s.cmd := rfl
@[simp] theorem State.modLane_test (s : State) (n : Nat) (f : LaneSt → LaneSt) : (s.modLane n f).test = s.test := rfl
@[simp] theorem State.modLane_uptime (s : State) (n : Nat) (f : LaneSt → LaneSt) : (s.modLane n f).uptime = s.uptime := rfl
@[simp] theorem State.modLane_pipes (s : State) (n : Nat) (f : LaneSt → LaneSt) : (s.modLane n f).pipes = s.pipes := rfl
@[simp] theorem State.modLane_brg (s : State) (n : Nat) (f : LaneSt → LaneSt) : (s.modLane n f).brg = s.brg := rfl
@[simp] theorem State.modLane_usb (s : State) (n : Nat) (f : LaneSt → LaneSt) : (s.modLane n f).usb = s.usb := rfl
@[simp] theorem State.modLane_macs (s : State) (n : Nat) (f : LaneSt → LaneSt) : (s.modLane n f).macs = s.macs := rfl
@[simp] theorem State.modLane_tm (s : State) (n : Nat) (f : LaneSt → LaneSt) : (s.modLane n f).tm = s.tm := rfl
@[simp] theorem State.modLane_pds (s : State) (n : Nat) (f : LaneSt → LaneSt) : (s.modLane n f).pds = s.pds := rfl
@[simp] theorem State.modLane_efs (s : State) (n : Nat) (f : LaneSt → LaneSt) : (s.modLane n f).efs = s.efs := rfl
@[simp] theorem State.modLane_dom (s : State) (n : Nat) (f : LaneSt → LaneSt) : (s.modLane n f).dom = s.dom := rfl
@[simp] theorem State.modLane_out (s : State) (n : Nat) (f : LaneSt → LaneSt) : (s.modLane n f).out = s.out := rfl
@[simp] theorem State.modLane_free (s : State) (n : Nat) (f : LaneSt → LaneSt) : (s.modLane n f).free = s.free := rfl
@[simp] theorem State.modLane_pending (s : State) (n : Nat) (f : LaneSt → LaneSt) : (s.modLane n f).pending = s.pending := rfl
@[simp] theorem State.modLane_reg (s : State) (n : Nat) (f : LaneSt → LaneSt) (r : Nat) : (s.modLane n f).reg r = s.reg r := rfl
@[simp] theorem State.modLane_rd (s : State) (n : Nat) (f : LaneSt → LaneSt) (g : Fld) : (s.modLane n f).rd g = s.rd g := rfl
@[simp] theorem State.modLane_on (s : State) (n : Nat) (f : LaneSt → LaneSt) (g : Fld) : (s.modLane n f).on g = s.on g := rfl

/-! ### `setLink` -/

@[simp] theorem State.setLink_regs (s : State) (p : Nat) (v : LinkSt) : (s.setLink p v).regs = s.regs := rfl
@[simp] theorem State.setLink_mem (s : State) (p : Nat) (v : LinkSt) : (s.setLink p v).mem = s.mem := rfl
@[simp] theorem State.setLink_flash (s : State) (p : Nat) (v : LinkSt) : (s.setLink p v).flash = s.flash := rfl
@[simp] theorem State.setLink_frame (s : State) (p : Nat) (v : LinkSt) : (s.setLink p v).frame = s.frame := rfl
@[simp] theorem State.setLink_time (s : State) (p : Nat) (v : LinkSt) : (s.setLink p v).time = s.time := rfl
@[simp] theorem State.setLink_lanes (s : State) (p : Nat) (v : LinkSt) : (s.setLink p v).lanes = s.lanes := rfl
@[simp] theorem State.setLink_adps (s : State) (p : Nat) (v : LinkSt) : (s.setLink p v).adps = s.adps := rfl
@[simp] theorem State.setLink_engs (s : State) (p : Nat) (v : LinkSt) : (s.setLink p v).engs = s.engs := rfl
@[simp] theorem State.setLink_sw (s : State) (p : Nat) (v : LinkSt) : (s.setLink p v).sw = s.sw := rfl
@[simp] theorem State.setLink_scheds (s : State) (p : Nat) (v : LinkSt) : (s.setLink p v).scheds = s.scheds := rfl
@[simp] theorem State.setLink_pol (s : State) (p : Nat) (v : LinkSt) : (s.setLink p v).pol = s.pol := rfl
@[simp] theorem State.setLink_clk (s : State) (p : Nat) (v : LinkSt) : (s.setLink p v).clk = s.clk := rfl
@[simp] theorem State.setLink_pwr (s : State) (p : Nat) (v : LinkSt) : (s.setLink p v).pwr = s.pwr := rfl
@[simp] theorem State.setLink_fuses (s : State) (p : Nat) (v : LinkSt) : (s.setLink p v).fuses = s.fuses := rfl
@[simp] theorem State.setLink_keys (s : State) (p : Nat) (v : LinkSt) : (s.setLink p v).keys = s.keys := rfl
@[simp] theorem State.setLink_img (s : State) (p : Nat) (v : LinkSt) : (s.setLink p v).img = s.img := rfl
@[simp] theorem State.setLink_cmd (s : State) (p : Nat) (v : LinkSt) : (s.setLink p v).cmd = s.cmd := rfl
@[simp] theorem State.setLink_test (s : State) (p : Nat) (v : LinkSt) : (s.setLink p v).test = s.test := rfl
@[simp] theorem State.setLink_uptime (s : State) (p : Nat) (v : LinkSt) : (s.setLink p v).uptime = s.uptime := rfl
@[simp] theorem State.setLink_pipes (s : State) (p : Nat) (v : LinkSt) : (s.setLink p v).pipes = s.pipes := rfl
@[simp] theorem State.setLink_brg (s : State) (p : Nat) (v : LinkSt) : (s.setLink p v).brg = s.brg := rfl
@[simp] theorem State.setLink_usb (s : State) (p : Nat) (v : LinkSt) : (s.setLink p v).usb = s.usb := rfl
@[simp] theorem State.setLink_macs (s : State) (p : Nat) (v : LinkSt) : (s.setLink p v).macs = s.macs := rfl
@[simp] theorem State.setLink_tm (s : State) (p : Nat) (v : LinkSt) : (s.setLink p v).tm = s.tm := rfl
@[simp] theorem State.setLink_pds (s : State) (p : Nat) (v : LinkSt) : (s.setLink p v).pds = s.pds := rfl
@[simp] theorem State.setLink_efs (s : State) (p : Nat) (v : LinkSt) : (s.setLink p v).efs = s.efs := rfl
@[simp] theorem State.setLink_dom (s : State) (p : Nat) (v : LinkSt) : (s.setLink p v).dom = s.dom := rfl
@[simp] theorem State.setLink_out (s : State) (p : Nat) (v : LinkSt) : (s.setLink p v).out = s.out := rfl
@[simp] theorem State.setLink_free (s : State) (p : Nat) (v : LinkSt) : (s.setLink p v).free = s.free := rfl
@[simp] theorem State.setLink_pending (s : State) (p : Nat) (v : LinkSt) : (s.setLink p v).pending = s.pending := rfl
@[simp] theorem State.setLink_rd (s : State) (p : Nat) (v : LinkSt) (g : Fld) : (s.setLink p v).rd g = s.rd g := rfl
@[simp] theorem State.setLink_on (s : State) (p : Nat) (v : LinkSt) (g : Fld) : (s.setLink p v).on g = s.on g := rfl

/-! ### `modLink` -/

@[simp] theorem State.modLink_regs (s : State) (p : Nat) (f : LinkSt → LinkSt) : (s.modLink p f).regs = s.regs := rfl
@[simp] theorem State.modLink_mem (s : State) (p : Nat) (f : LinkSt → LinkSt) : (s.modLink p f).mem = s.mem := rfl
@[simp] theorem State.modLink_flash (s : State) (p : Nat) (f : LinkSt → LinkSt) : (s.modLink p f).flash = s.flash := rfl
@[simp] theorem State.modLink_frame (s : State) (p : Nat) (f : LinkSt → LinkSt) : (s.modLink p f).frame = s.frame := rfl
@[simp] theorem State.modLink_time (s : State) (p : Nat) (f : LinkSt → LinkSt) : (s.modLink p f).time = s.time := rfl
@[simp] theorem State.modLink_lanes (s : State) (p : Nat) (f : LinkSt → LinkSt) : (s.modLink p f).lanes = s.lanes := rfl
@[simp] theorem State.modLink_adps (s : State) (p : Nat) (f : LinkSt → LinkSt) : (s.modLink p f).adps = s.adps := rfl
@[simp] theorem State.modLink_engs (s : State) (p : Nat) (f : LinkSt → LinkSt) : (s.modLink p f).engs = s.engs := rfl
@[simp] theorem State.modLink_sw (s : State) (p : Nat) (f : LinkSt → LinkSt) : (s.modLink p f).sw = s.sw := rfl
@[simp] theorem State.modLink_scheds (s : State) (p : Nat) (f : LinkSt → LinkSt) : (s.modLink p f).scheds = s.scheds := rfl
@[simp] theorem State.modLink_pol (s : State) (p : Nat) (f : LinkSt → LinkSt) : (s.modLink p f).pol = s.pol := rfl
@[simp] theorem State.modLink_clk (s : State) (p : Nat) (f : LinkSt → LinkSt) : (s.modLink p f).clk = s.clk := rfl
@[simp] theorem State.modLink_pwr (s : State) (p : Nat) (f : LinkSt → LinkSt) : (s.modLink p f).pwr = s.pwr := rfl
@[simp] theorem State.modLink_fuses (s : State) (p : Nat) (f : LinkSt → LinkSt) : (s.modLink p f).fuses = s.fuses := rfl
@[simp] theorem State.modLink_keys (s : State) (p : Nat) (f : LinkSt → LinkSt) : (s.modLink p f).keys = s.keys := rfl
@[simp] theorem State.modLink_img (s : State) (p : Nat) (f : LinkSt → LinkSt) : (s.modLink p f).img = s.img := rfl
@[simp] theorem State.modLink_cmd (s : State) (p : Nat) (f : LinkSt → LinkSt) : (s.modLink p f).cmd = s.cmd := rfl
@[simp] theorem State.modLink_test (s : State) (p : Nat) (f : LinkSt → LinkSt) : (s.modLink p f).test = s.test := rfl
@[simp] theorem State.modLink_uptime (s : State) (p : Nat) (f : LinkSt → LinkSt) : (s.modLink p f).uptime = s.uptime := rfl
@[simp] theorem State.modLink_pipes (s : State) (p : Nat) (f : LinkSt → LinkSt) : (s.modLink p f).pipes = s.pipes := rfl
@[simp] theorem State.modLink_brg (s : State) (p : Nat) (f : LinkSt → LinkSt) : (s.modLink p f).brg = s.brg := rfl
@[simp] theorem State.modLink_usb (s : State) (p : Nat) (f : LinkSt → LinkSt) : (s.modLink p f).usb = s.usb := rfl
@[simp] theorem State.modLink_macs (s : State) (p : Nat) (f : LinkSt → LinkSt) : (s.modLink p f).macs = s.macs := rfl
@[simp] theorem State.modLink_tm (s : State) (p : Nat) (f : LinkSt → LinkSt) : (s.modLink p f).tm = s.tm := rfl
@[simp] theorem State.modLink_pds (s : State) (p : Nat) (f : LinkSt → LinkSt) : (s.modLink p f).pds = s.pds := rfl
@[simp] theorem State.modLink_efs (s : State) (p : Nat) (f : LinkSt → LinkSt) : (s.modLink p f).efs = s.efs := rfl
@[simp] theorem State.modLink_dom (s : State) (p : Nat) (f : LinkSt → LinkSt) : (s.modLink p f).dom = s.dom := rfl
@[simp] theorem State.modLink_out (s : State) (p : Nat) (f : LinkSt → LinkSt) : (s.modLink p f).out = s.out := rfl
@[simp] theorem State.modLink_free (s : State) (p : Nat) (f : LinkSt → LinkSt) : (s.modLink p f).free = s.free := rfl
@[simp] theorem State.modLink_pending (s : State) (p : Nat) (f : LinkSt → LinkSt) : (s.modLink p f).pending = s.pending := rfl
@[simp] theorem State.modLink_reg (s : State) (p : Nat) (f : LinkSt → LinkSt) (r : Nat) : (s.modLink p f).reg r = s.reg r := rfl
@[simp] theorem State.modLink_rd (s : State) (p : Nat) (f : LinkSt → LinkSt) (g : Fld) : (s.modLink p f).rd g = s.rd g := rfl
@[simp] theorem State.modLink_on (s : State) (p : Nat) (f : LinkSt → LinkSt) (g : Fld) : (s.modLink p f).on g = s.on g := rfl

/-! ### `setAdp` -/

@[simp] theorem State.setAdp_regs (s : State) (a : Nat) (v : AdapterSt) : (s.setAdp a v).regs = s.regs := rfl
@[simp] theorem State.setAdp_mem (s : State) (a : Nat) (v : AdapterSt) : (s.setAdp a v).mem = s.mem := rfl
@[simp] theorem State.setAdp_flash (s : State) (a : Nat) (v : AdapterSt) : (s.setAdp a v).flash = s.flash := rfl
@[simp] theorem State.setAdp_frame (s : State) (a : Nat) (v : AdapterSt) : (s.setAdp a v).frame = s.frame := rfl
@[simp] theorem State.setAdp_time (s : State) (a : Nat) (v : AdapterSt) : (s.setAdp a v).time = s.time := rfl
@[simp] theorem State.setAdp_lanes (s : State) (a : Nat) (v : AdapterSt) : (s.setAdp a v).lanes = s.lanes := rfl
@[simp] theorem State.setAdp_links (s : State) (a : Nat) (v : AdapterSt) : (s.setAdp a v).links = s.links := rfl
@[simp] theorem State.setAdp_engs (s : State) (a : Nat) (v : AdapterSt) : (s.setAdp a v).engs = s.engs := rfl
@[simp] theorem State.setAdp_sw (s : State) (a : Nat) (v : AdapterSt) : (s.setAdp a v).sw = s.sw := rfl
@[simp] theorem State.setAdp_scheds (s : State) (a : Nat) (v : AdapterSt) : (s.setAdp a v).scheds = s.scheds := rfl
@[simp] theorem State.setAdp_pol (s : State) (a : Nat) (v : AdapterSt) : (s.setAdp a v).pol = s.pol := rfl
@[simp] theorem State.setAdp_clk (s : State) (a : Nat) (v : AdapterSt) : (s.setAdp a v).clk = s.clk := rfl
@[simp] theorem State.setAdp_pwr (s : State) (a : Nat) (v : AdapterSt) : (s.setAdp a v).pwr = s.pwr := rfl
@[simp] theorem State.setAdp_fuses (s : State) (a : Nat) (v : AdapterSt) : (s.setAdp a v).fuses = s.fuses := rfl
@[simp] theorem State.setAdp_keys (s : State) (a : Nat) (v : AdapterSt) : (s.setAdp a v).keys = s.keys := rfl
@[simp] theorem State.setAdp_img (s : State) (a : Nat) (v : AdapterSt) : (s.setAdp a v).img = s.img := rfl
@[simp] theorem State.setAdp_cmd (s : State) (a : Nat) (v : AdapterSt) : (s.setAdp a v).cmd = s.cmd := rfl
@[simp] theorem State.setAdp_test (s : State) (a : Nat) (v : AdapterSt) : (s.setAdp a v).test = s.test := rfl
@[simp] theorem State.setAdp_uptime (s : State) (a : Nat) (v : AdapterSt) : (s.setAdp a v).uptime = s.uptime := rfl
@[simp] theorem State.setAdp_pipes (s : State) (a : Nat) (v : AdapterSt) : (s.setAdp a v).pipes = s.pipes := rfl
@[simp] theorem State.setAdp_brg (s : State) (a : Nat) (v : AdapterSt) : (s.setAdp a v).brg = s.brg := rfl
@[simp] theorem State.setAdp_usb (s : State) (a : Nat) (v : AdapterSt) : (s.setAdp a v).usb = s.usb := rfl
@[simp] theorem State.setAdp_macs (s : State) (a : Nat) (v : AdapterSt) : (s.setAdp a v).macs = s.macs := rfl
@[simp] theorem State.setAdp_tm (s : State) (a : Nat) (v : AdapterSt) : (s.setAdp a v).tm = s.tm := rfl
@[simp] theorem State.setAdp_pds (s : State) (a : Nat) (v : AdapterSt) : (s.setAdp a v).pds = s.pds := rfl
@[simp] theorem State.setAdp_efs (s : State) (a : Nat) (v : AdapterSt) : (s.setAdp a v).efs = s.efs := rfl
@[simp] theorem State.setAdp_dom (s : State) (a : Nat) (v : AdapterSt) : (s.setAdp a v).dom = s.dom := rfl
@[simp] theorem State.setAdp_out (s : State) (a : Nat) (v : AdapterSt) : (s.setAdp a v).out = s.out := rfl
@[simp] theorem State.setAdp_free (s : State) (a : Nat) (v : AdapterSt) : (s.setAdp a v).free = s.free := rfl
@[simp] theorem State.setAdp_pending (s : State) (a : Nat) (v : AdapterSt) : (s.setAdp a v).pending = s.pending := rfl
@[simp] theorem State.setAdp_rd (s : State) (a : Nat) (v : AdapterSt) (g : Fld) : (s.setAdp a v).rd g = s.rd g := rfl
@[simp] theorem State.setAdp_on (s : State) (a : Nat) (v : AdapterSt) (g : Fld) : (s.setAdp a v).on g = s.on g := rfl

/-! ### `modAdp` -/

@[simp] theorem State.modAdp_regs (s : State) (a : Nat) (f : AdapterSt → AdapterSt) : (s.modAdp a f).regs = s.regs := rfl
@[simp] theorem State.modAdp_mem (s : State) (a : Nat) (f : AdapterSt → AdapterSt) : (s.modAdp a f).mem = s.mem := rfl
@[simp] theorem State.modAdp_flash (s : State) (a : Nat) (f : AdapterSt → AdapterSt) : (s.modAdp a f).flash = s.flash := rfl
@[simp] theorem State.modAdp_frame (s : State) (a : Nat) (f : AdapterSt → AdapterSt) : (s.modAdp a f).frame = s.frame := rfl
@[simp] theorem State.modAdp_time (s : State) (a : Nat) (f : AdapterSt → AdapterSt) : (s.modAdp a f).time = s.time := rfl
@[simp] theorem State.modAdp_lanes (s : State) (a : Nat) (f : AdapterSt → AdapterSt) : (s.modAdp a f).lanes = s.lanes := rfl
@[simp] theorem State.modAdp_links (s : State) (a : Nat) (f : AdapterSt → AdapterSt) : (s.modAdp a f).links = s.links := rfl
@[simp] theorem State.modAdp_engs (s : State) (a : Nat) (f : AdapterSt → AdapterSt) : (s.modAdp a f).engs = s.engs := rfl
@[simp] theorem State.modAdp_sw (s : State) (a : Nat) (f : AdapterSt → AdapterSt) : (s.modAdp a f).sw = s.sw := rfl
@[simp] theorem State.modAdp_scheds (s : State) (a : Nat) (f : AdapterSt → AdapterSt) : (s.modAdp a f).scheds = s.scheds := rfl
@[simp] theorem State.modAdp_pol (s : State) (a : Nat) (f : AdapterSt → AdapterSt) : (s.modAdp a f).pol = s.pol := rfl
@[simp] theorem State.modAdp_clk (s : State) (a : Nat) (f : AdapterSt → AdapterSt) : (s.modAdp a f).clk = s.clk := rfl
@[simp] theorem State.modAdp_pwr (s : State) (a : Nat) (f : AdapterSt → AdapterSt) : (s.modAdp a f).pwr = s.pwr := rfl
@[simp] theorem State.modAdp_fuses (s : State) (a : Nat) (f : AdapterSt → AdapterSt) : (s.modAdp a f).fuses = s.fuses := rfl
@[simp] theorem State.modAdp_keys (s : State) (a : Nat) (f : AdapterSt → AdapterSt) : (s.modAdp a f).keys = s.keys := rfl
@[simp] theorem State.modAdp_img (s : State) (a : Nat) (f : AdapterSt → AdapterSt) : (s.modAdp a f).img = s.img := rfl
@[simp] theorem State.modAdp_cmd (s : State) (a : Nat) (f : AdapterSt → AdapterSt) : (s.modAdp a f).cmd = s.cmd := rfl
@[simp] theorem State.modAdp_test (s : State) (a : Nat) (f : AdapterSt → AdapterSt) : (s.modAdp a f).test = s.test := rfl
@[simp] theorem State.modAdp_uptime (s : State) (a : Nat) (f : AdapterSt → AdapterSt) : (s.modAdp a f).uptime = s.uptime := rfl
@[simp] theorem State.modAdp_pipes (s : State) (a : Nat) (f : AdapterSt → AdapterSt) : (s.modAdp a f).pipes = s.pipes := rfl
@[simp] theorem State.modAdp_brg (s : State) (a : Nat) (f : AdapterSt → AdapterSt) : (s.modAdp a f).brg = s.brg := rfl
@[simp] theorem State.modAdp_usb (s : State) (a : Nat) (f : AdapterSt → AdapterSt) : (s.modAdp a f).usb = s.usb := rfl
@[simp] theorem State.modAdp_macs (s : State) (a : Nat) (f : AdapterSt → AdapterSt) : (s.modAdp a f).macs = s.macs := rfl
@[simp] theorem State.modAdp_tm (s : State) (a : Nat) (f : AdapterSt → AdapterSt) : (s.modAdp a f).tm = s.tm := rfl
@[simp] theorem State.modAdp_pds (s : State) (a : Nat) (f : AdapterSt → AdapterSt) : (s.modAdp a f).pds = s.pds := rfl
@[simp] theorem State.modAdp_efs (s : State) (a : Nat) (f : AdapterSt → AdapterSt) : (s.modAdp a f).efs = s.efs := rfl
@[simp] theorem State.modAdp_dom (s : State) (a : Nat) (f : AdapterSt → AdapterSt) : (s.modAdp a f).dom = s.dom := rfl
@[simp] theorem State.modAdp_out (s : State) (a : Nat) (f : AdapterSt → AdapterSt) : (s.modAdp a f).out = s.out := rfl
@[simp] theorem State.modAdp_free (s : State) (a : Nat) (f : AdapterSt → AdapterSt) : (s.modAdp a f).free = s.free := rfl
@[simp] theorem State.modAdp_pending (s : State) (a : Nat) (f : AdapterSt → AdapterSt) : (s.modAdp a f).pending = s.pending := rfl
@[simp] theorem State.modAdp_reg (s : State) (a : Nat) (f : AdapterSt → AdapterSt) (r : Nat) : (s.modAdp a f).reg r = s.reg r := rfl
@[simp] theorem State.modAdp_rd (s : State) (a : Nat) (f : AdapterSt → AdapterSt) (g : Fld) : (s.modAdp a f).rd g = s.rd g := rfl
@[simp] theorem State.modAdp_on (s : State) (a : Nat) (f : AdapterSt → AdapterSt) (g : Fld) : (s.modAdp a f).on g = s.on g := rfl

/-! ### `setEng` -/

@[simp] theorem State.setEng_regs (s : State) (e : Nat) (v : EngineSt) : (s.setEng e v).regs = s.regs := rfl
@[simp] theorem State.setEng_mem (s : State) (e : Nat) (v : EngineSt) : (s.setEng e v).mem = s.mem := rfl
@[simp] theorem State.setEng_flash (s : State) (e : Nat) (v : EngineSt) : (s.setEng e v).flash = s.flash := rfl
@[simp] theorem State.setEng_frame (s : State) (e : Nat) (v : EngineSt) : (s.setEng e v).frame = s.frame := rfl
@[simp] theorem State.setEng_time (s : State) (e : Nat) (v : EngineSt) : (s.setEng e v).time = s.time := rfl
@[simp] theorem State.setEng_lanes (s : State) (e : Nat) (v : EngineSt) : (s.setEng e v).lanes = s.lanes := rfl
@[simp] theorem State.setEng_links (s : State) (e : Nat) (v : EngineSt) : (s.setEng e v).links = s.links := rfl
@[simp] theorem State.setEng_adps (s : State) (e : Nat) (v : EngineSt) : (s.setEng e v).adps = s.adps := rfl
@[simp] theorem State.setEng_sw (s : State) (e : Nat) (v : EngineSt) : (s.setEng e v).sw = s.sw := rfl
@[simp] theorem State.setEng_scheds (s : State) (e : Nat) (v : EngineSt) : (s.setEng e v).scheds = s.scheds := rfl
@[simp] theorem State.setEng_pol (s : State) (e : Nat) (v : EngineSt) : (s.setEng e v).pol = s.pol := rfl
@[simp] theorem State.setEng_clk (s : State) (e : Nat) (v : EngineSt) : (s.setEng e v).clk = s.clk := rfl
@[simp] theorem State.setEng_pwr (s : State) (e : Nat) (v : EngineSt) : (s.setEng e v).pwr = s.pwr := rfl
@[simp] theorem State.setEng_fuses (s : State) (e : Nat) (v : EngineSt) : (s.setEng e v).fuses = s.fuses := rfl
@[simp] theorem State.setEng_keys (s : State) (e : Nat) (v : EngineSt) : (s.setEng e v).keys = s.keys := rfl
@[simp] theorem State.setEng_img (s : State) (e : Nat) (v : EngineSt) : (s.setEng e v).img = s.img := rfl
@[simp] theorem State.setEng_cmd (s : State) (e : Nat) (v : EngineSt) : (s.setEng e v).cmd = s.cmd := rfl
@[simp] theorem State.setEng_test (s : State) (e : Nat) (v : EngineSt) : (s.setEng e v).test = s.test := rfl
@[simp] theorem State.setEng_uptime (s : State) (e : Nat) (v : EngineSt) : (s.setEng e v).uptime = s.uptime := rfl
@[simp] theorem State.setEng_pipes (s : State) (e : Nat) (v : EngineSt) : (s.setEng e v).pipes = s.pipes := rfl
@[simp] theorem State.setEng_brg (s : State) (e : Nat) (v : EngineSt) : (s.setEng e v).brg = s.brg := rfl
@[simp] theorem State.setEng_usb (s : State) (e : Nat) (v : EngineSt) : (s.setEng e v).usb = s.usb := rfl
@[simp] theorem State.setEng_macs (s : State) (e : Nat) (v : EngineSt) : (s.setEng e v).macs = s.macs := rfl
@[simp] theorem State.setEng_tm (s : State) (e : Nat) (v : EngineSt) : (s.setEng e v).tm = s.tm := rfl
@[simp] theorem State.setEng_pds (s : State) (e : Nat) (v : EngineSt) : (s.setEng e v).pds = s.pds := rfl
@[simp] theorem State.setEng_efs (s : State) (e : Nat) (v : EngineSt) : (s.setEng e v).efs = s.efs := rfl
@[simp] theorem State.setEng_dom (s : State) (e : Nat) (v : EngineSt) : (s.setEng e v).dom = s.dom := rfl
@[simp] theorem State.setEng_out (s : State) (e : Nat) (v : EngineSt) : (s.setEng e v).out = s.out := rfl
@[simp] theorem State.setEng_free (s : State) (e : Nat) (v : EngineSt) : (s.setEng e v).free = s.free := rfl
@[simp] theorem State.setEng_pending (s : State) (e : Nat) (v : EngineSt) : (s.setEng e v).pending = s.pending := rfl
@[simp] theorem State.setEng_rd (s : State) (e : Nat) (v : EngineSt) (g : Fld) : (s.setEng e v).rd g = s.rd g := rfl
@[simp] theorem State.setEng_on (s : State) (e : Nat) (v : EngineSt) (g : Fld) : (s.setEng e v).on g = s.on g := rfl

/-! ### `modEng` -/

@[simp] theorem State.modEng_regs (s : State) (e : Nat) (f : EngineSt → EngineSt) : (s.modEng e f).regs = s.regs := rfl
@[simp] theorem State.modEng_mem (s : State) (e : Nat) (f : EngineSt → EngineSt) : (s.modEng e f).mem = s.mem := rfl
@[simp] theorem State.modEng_flash (s : State) (e : Nat) (f : EngineSt → EngineSt) : (s.modEng e f).flash = s.flash := rfl
@[simp] theorem State.modEng_frame (s : State) (e : Nat) (f : EngineSt → EngineSt) : (s.modEng e f).frame = s.frame := rfl
@[simp] theorem State.modEng_time (s : State) (e : Nat) (f : EngineSt → EngineSt) : (s.modEng e f).time = s.time := rfl
@[simp] theorem State.modEng_lanes (s : State) (e : Nat) (f : EngineSt → EngineSt) : (s.modEng e f).lanes = s.lanes := rfl
@[simp] theorem State.modEng_links (s : State) (e : Nat) (f : EngineSt → EngineSt) : (s.modEng e f).links = s.links := rfl
@[simp] theorem State.modEng_adps (s : State) (e : Nat) (f : EngineSt → EngineSt) : (s.modEng e f).adps = s.adps := rfl
@[simp] theorem State.modEng_sw (s : State) (e : Nat) (f : EngineSt → EngineSt) : (s.modEng e f).sw = s.sw := rfl
@[simp] theorem State.modEng_scheds (s : State) (e : Nat) (f : EngineSt → EngineSt) : (s.modEng e f).scheds = s.scheds := rfl
@[simp] theorem State.modEng_pol (s : State) (e : Nat) (f : EngineSt → EngineSt) : (s.modEng e f).pol = s.pol := rfl
@[simp] theorem State.modEng_clk (s : State) (e : Nat) (f : EngineSt → EngineSt) : (s.modEng e f).clk = s.clk := rfl
@[simp] theorem State.modEng_pwr (s : State) (e : Nat) (f : EngineSt → EngineSt) : (s.modEng e f).pwr = s.pwr := rfl
@[simp] theorem State.modEng_fuses (s : State) (e : Nat) (f : EngineSt → EngineSt) : (s.modEng e f).fuses = s.fuses := rfl
@[simp] theorem State.modEng_keys (s : State) (e : Nat) (f : EngineSt → EngineSt) : (s.modEng e f).keys = s.keys := rfl
@[simp] theorem State.modEng_img (s : State) (e : Nat) (f : EngineSt → EngineSt) : (s.modEng e f).img = s.img := rfl
@[simp] theorem State.modEng_cmd (s : State) (e : Nat) (f : EngineSt → EngineSt) : (s.modEng e f).cmd = s.cmd := rfl
@[simp] theorem State.modEng_test (s : State) (e : Nat) (f : EngineSt → EngineSt) : (s.modEng e f).test = s.test := rfl
@[simp] theorem State.modEng_uptime (s : State) (e : Nat) (f : EngineSt → EngineSt) : (s.modEng e f).uptime = s.uptime := rfl
@[simp] theorem State.modEng_pipes (s : State) (e : Nat) (f : EngineSt → EngineSt) : (s.modEng e f).pipes = s.pipes := rfl
@[simp] theorem State.modEng_brg (s : State) (e : Nat) (f : EngineSt → EngineSt) : (s.modEng e f).brg = s.brg := rfl
@[simp] theorem State.modEng_usb (s : State) (e : Nat) (f : EngineSt → EngineSt) : (s.modEng e f).usb = s.usb := rfl
@[simp] theorem State.modEng_macs (s : State) (e : Nat) (f : EngineSt → EngineSt) : (s.modEng e f).macs = s.macs := rfl
@[simp] theorem State.modEng_tm (s : State) (e : Nat) (f : EngineSt → EngineSt) : (s.modEng e f).tm = s.tm := rfl
@[simp] theorem State.modEng_pds (s : State) (e : Nat) (f : EngineSt → EngineSt) : (s.modEng e f).pds = s.pds := rfl
@[simp] theorem State.modEng_efs (s : State) (e : Nat) (f : EngineSt → EngineSt) : (s.modEng e f).efs = s.efs := rfl
@[simp] theorem State.modEng_dom (s : State) (e : Nat) (f : EngineSt → EngineSt) : (s.modEng e f).dom = s.dom := rfl
@[simp] theorem State.modEng_out (s : State) (e : Nat) (f : EngineSt → EngineSt) : (s.modEng e f).out = s.out := rfl
@[simp] theorem State.modEng_free (s : State) (e : Nat) (f : EngineSt → EngineSt) : (s.modEng e f).free = s.free := rfl
@[simp] theorem State.modEng_pending (s : State) (e : Nat) (f : EngineSt → EngineSt) : (s.modEng e f).pending = s.pending := rfl
@[simp] theorem State.modEng_reg (s : State) (e : Nat) (f : EngineSt → EngineSt) (r : Nat) : (s.modEng e f).reg r = s.reg r := rfl
@[simp] theorem State.modEng_rd (s : State) (e : Nat) (f : EngineSt → EngineSt) (g : Fld) : (s.modEng e f).rd g = s.rd g := rfl
@[simp] theorem State.modEng_on (s : State) (e : Nat) (f : EngineSt → EngineSt) (g : Fld) : (s.modEng e f).on g = s.on g := rfl

/-! ### `setSched` -/

@[simp] theorem State.setSched_regs (s : State) (p : Nat) (v : SchedSt) : (s.setSched p v).regs = s.regs := rfl
@[simp] theorem State.setSched_mem (s : State) (p : Nat) (v : SchedSt) : (s.setSched p v).mem = s.mem := rfl
@[simp] theorem State.setSched_flash (s : State) (p : Nat) (v : SchedSt) : (s.setSched p v).flash = s.flash := rfl
@[simp] theorem State.setSched_frame (s : State) (p : Nat) (v : SchedSt) : (s.setSched p v).frame = s.frame := rfl
@[simp] theorem State.setSched_time (s : State) (p : Nat) (v : SchedSt) : (s.setSched p v).time = s.time := rfl
@[simp] theorem State.setSched_lanes (s : State) (p : Nat) (v : SchedSt) : (s.setSched p v).lanes = s.lanes := rfl
@[simp] theorem State.setSched_links (s : State) (p : Nat) (v : SchedSt) : (s.setSched p v).links = s.links := rfl
@[simp] theorem State.setSched_adps (s : State) (p : Nat) (v : SchedSt) : (s.setSched p v).adps = s.adps := rfl
@[simp] theorem State.setSched_engs (s : State) (p : Nat) (v : SchedSt) : (s.setSched p v).engs = s.engs := rfl
@[simp] theorem State.setSched_sw (s : State) (p : Nat) (v : SchedSt) : (s.setSched p v).sw = s.sw := rfl
@[simp] theorem State.setSched_pol (s : State) (p : Nat) (v : SchedSt) : (s.setSched p v).pol = s.pol := rfl
@[simp] theorem State.setSched_clk (s : State) (p : Nat) (v : SchedSt) : (s.setSched p v).clk = s.clk := rfl
@[simp] theorem State.setSched_pwr (s : State) (p : Nat) (v : SchedSt) : (s.setSched p v).pwr = s.pwr := rfl
@[simp] theorem State.setSched_fuses (s : State) (p : Nat) (v : SchedSt) : (s.setSched p v).fuses = s.fuses := rfl
@[simp] theorem State.setSched_keys (s : State) (p : Nat) (v : SchedSt) : (s.setSched p v).keys = s.keys := rfl
@[simp] theorem State.setSched_img (s : State) (p : Nat) (v : SchedSt) : (s.setSched p v).img = s.img := rfl
@[simp] theorem State.setSched_cmd (s : State) (p : Nat) (v : SchedSt) : (s.setSched p v).cmd = s.cmd := rfl
@[simp] theorem State.setSched_test (s : State) (p : Nat) (v : SchedSt) : (s.setSched p v).test = s.test := rfl
@[simp] theorem State.setSched_uptime (s : State) (p : Nat) (v : SchedSt) : (s.setSched p v).uptime = s.uptime := rfl
@[simp] theorem State.setSched_pipes (s : State) (p : Nat) (v : SchedSt) : (s.setSched p v).pipes = s.pipes := rfl
@[simp] theorem State.setSched_brg (s : State) (p : Nat) (v : SchedSt) : (s.setSched p v).brg = s.brg := rfl
@[simp] theorem State.setSched_usb (s : State) (p : Nat) (v : SchedSt) : (s.setSched p v).usb = s.usb := rfl
@[simp] theorem State.setSched_macs (s : State) (p : Nat) (v : SchedSt) : (s.setSched p v).macs = s.macs := rfl
@[simp] theorem State.setSched_tm (s : State) (p : Nat) (v : SchedSt) : (s.setSched p v).tm = s.tm := rfl
@[simp] theorem State.setSched_pds (s : State) (p : Nat) (v : SchedSt) : (s.setSched p v).pds = s.pds := rfl
@[simp] theorem State.setSched_efs (s : State) (p : Nat) (v : SchedSt) : (s.setSched p v).efs = s.efs := rfl
@[simp] theorem State.setSched_dom (s : State) (p : Nat) (v : SchedSt) : (s.setSched p v).dom = s.dom := rfl
@[simp] theorem State.setSched_out (s : State) (p : Nat) (v : SchedSt) : (s.setSched p v).out = s.out := rfl
@[simp] theorem State.setSched_free (s : State) (p : Nat) (v : SchedSt) : (s.setSched p v).free = s.free := rfl
@[simp] theorem State.setSched_pending (s : State) (p : Nat) (v : SchedSt) : (s.setSched p v).pending = s.pending := rfl
@[simp] theorem State.setSched_rd (s : State) (p : Nat) (v : SchedSt) (g : Fld) : (s.setSched p v).rd g = s.rd g := rfl
@[simp] theorem State.setSched_on (s : State) (p : Nat) (v : SchedSt) (g : Fld) : (s.setSched p v).on g = s.on g := rfl

/-! ### `modSched` -/

@[simp] theorem State.modSched_regs (s : State) (p : Nat) (f : SchedSt → SchedSt) : (s.modSched p f).regs = s.regs := rfl
@[simp] theorem State.modSched_mem (s : State) (p : Nat) (f : SchedSt → SchedSt) : (s.modSched p f).mem = s.mem := rfl
@[simp] theorem State.modSched_flash (s : State) (p : Nat) (f : SchedSt → SchedSt) : (s.modSched p f).flash = s.flash := rfl
@[simp] theorem State.modSched_frame (s : State) (p : Nat) (f : SchedSt → SchedSt) : (s.modSched p f).frame = s.frame := rfl
@[simp] theorem State.modSched_time (s : State) (p : Nat) (f : SchedSt → SchedSt) : (s.modSched p f).time = s.time := rfl
@[simp] theorem State.modSched_lanes (s : State) (p : Nat) (f : SchedSt → SchedSt) : (s.modSched p f).lanes = s.lanes := rfl
@[simp] theorem State.modSched_links (s : State) (p : Nat) (f : SchedSt → SchedSt) : (s.modSched p f).links = s.links := rfl
@[simp] theorem State.modSched_adps (s : State) (p : Nat) (f : SchedSt → SchedSt) : (s.modSched p f).adps = s.adps := rfl
@[simp] theorem State.modSched_engs (s : State) (p : Nat) (f : SchedSt → SchedSt) : (s.modSched p f).engs = s.engs := rfl
@[simp] theorem State.modSched_sw (s : State) (p : Nat) (f : SchedSt → SchedSt) : (s.modSched p f).sw = s.sw := rfl
@[simp] theorem State.modSched_pol (s : State) (p : Nat) (f : SchedSt → SchedSt) : (s.modSched p f).pol = s.pol := rfl
@[simp] theorem State.modSched_clk (s : State) (p : Nat) (f : SchedSt → SchedSt) : (s.modSched p f).clk = s.clk := rfl
@[simp] theorem State.modSched_pwr (s : State) (p : Nat) (f : SchedSt → SchedSt) : (s.modSched p f).pwr = s.pwr := rfl
@[simp] theorem State.modSched_fuses (s : State) (p : Nat) (f : SchedSt → SchedSt) : (s.modSched p f).fuses = s.fuses := rfl
@[simp] theorem State.modSched_keys (s : State) (p : Nat) (f : SchedSt → SchedSt) : (s.modSched p f).keys = s.keys := rfl
@[simp] theorem State.modSched_img (s : State) (p : Nat) (f : SchedSt → SchedSt) : (s.modSched p f).img = s.img := rfl
@[simp] theorem State.modSched_cmd (s : State) (p : Nat) (f : SchedSt → SchedSt) : (s.modSched p f).cmd = s.cmd := rfl
@[simp] theorem State.modSched_test (s : State) (p : Nat) (f : SchedSt → SchedSt) : (s.modSched p f).test = s.test := rfl
@[simp] theorem State.modSched_uptime (s : State) (p : Nat) (f : SchedSt → SchedSt) : (s.modSched p f).uptime = s.uptime := rfl
@[simp] theorem State.modSched_pipes (s : State) (p : Nat) (f : SchedSt → SchedSt) : (s.modSched p f).pipes = s.pipes := rfl
@[simp] theorem State.modSched_brg (s : State) (p : Nat) (f : SchedSt → SchedSt) : (s.modSched p f).brg = s.brg := rfl
@[simp] theorem State.modSched_usb (s : State) (p : Nat) (f : SchedSt → SchedSt) : (s.modSched p f).usb = s.usb := rfl
@[simp] theorem State.modSched_macs (s : State) (p : Nat) (f : SchedSt → SchedSt) : (s.modSched p f).macs = s.macs := rfl
@[simp] theorem State.modSched_tm (s : State) (p : Nat) (f : SchedSt → SchedSt) : (s.modSched p f).tm = s.tm := rfl
@[simp] theorem State.modSched_pds (s : State) (p : Nat) (f : SchedSt → SchedSt) : (s.modSched p f).pds = s.pds := rfl
@[simp] theorem State.modSched_efs (s : State) (p : Nat) (f : SchedSt → SchedSt) : (s.modSched p f).efs = s.efs := rfl
@[simp] theorem State.modSched_dom (s : State) (p : Nat) (f : SchedSt → SchedSt) : (s.modSched p f).dom = s.dom := rfl
@[simp] theorem State.modSched_out (s : State) (p : Nat) (f : SchedSt → SchedSt) : (s.modSched p f).out = s.out := rfl
@[simp] theorem State.modSched_free (s : State) (p : Nat) (f : SchedSt → SchedSt) : (s.modSched p f).free = s.free := rfl
@[simp] theorem State.modSched_pending (s : State) (p : Nat) (f : SchedSt → SchedSt) : (s.modSched p f).pending = s.pending := rfl
@[simp] theorem State.modSched_reg (s : State) (p : Nat) (f : SchedSt → SchedSt) (r : Nat) : (s.modSched p f).reg r = s.reg r := rfl
@[simp] theorem State.modSched_rd (s : State) (p : Nat) (f : SchedSt → SchedSt) (g : Fld) : (s.modSched p f).rd g = s.rd g := rfl
@[simp] theorem State.modSched_on (s : State) (p : Nat) (f : SchedSt → SchedSt) (g : Fld) : (s.modSched p f).on g = s.on g := rfl

/-! ### `setPipe` -/

@[simp] theorem State.setPipe_regs (s : State) (d : Nat) (v : PipeSt) : (s.setPipe d v).regs = s.regs := rfl
@[simp] theorem State.setPipe_mem (s : State) (d : Nat) (v : PipeSt) : (s.setPipe d v).mem = s.mem := rfl
@[simp] theorem State.setPipe_flash (s : State) (d : Nat) (v : PipeSt) : (s.setPipe d v).flash = s.flash := rfl
@[simp] theorem State.setPipe_frame (s : State) (d : Nat) (v : PipeSt) : (s.setPipe d v).frame = s.frame := rfl
@[simp] theorem State.setPipe_time (s : State) (d : Nat) (v : PipeSt) : (s.setPipe d v).time = s.time := rfl
@[simp] theorem State.setPipe_lanes (s : State) (d : Nat) (v : PipeSt) : (s.setPipe d v).lanes = s.lanes := rfl
@[simp] theorem State.setPipe_links (s : State) (d : Nat) (v : PipeSt) : (s.setPipe d v).links = s.links := rfl
@[simp] theorem State.setPipe_adps (s : State) (d : Nat) (v : PipeSt) : (s.setPipe d v).adps = s.adps := rfl
@[simp] theorem State.setPipe_engs (s : State) (d : Nat) (v : PipeSt) : (s.setPipe d v).engs = s.engs := rfl
@[simp] theorem State.setPipe_sw (s : State) (d : Nat) (v : PipeSt) : (s.setPipe d v).sw = s.sw := rfl
@[simp] theorem State.setPipe_scheds (s : State) (d : Nat) (v : PipeSt) : (s.setPipe d v).scheds = s.scheds := rfl
@[simp] theorem State.setPipe_pol (s : State) (d : Nat) (v : PipeSt) : (s.setPipe d v).pol = s.pol := rfl
@[simp] theorem State.setPipe_clk (s : State) (d : Nat) (v : PipeSt) : (s.setPipe d v).clk = s.clk := rfl
@[simp] theorem State.setPipe_pwr (s : State) (d : Nat) (v : PipeSt) : (s.setPipe d v).pwr = s.pwr := rfl
@[simp] theorem State.setPipe_fuses (s : State) (d : Nat) (v : PipeSt) : (s.setPipe d v).fuses = s.fuses := rfl
@[simp] theorem State.setPipe_keys (s : State) (d : Nat) (v : PipeSt) : (s.setPipe d v).keys = s.keys := rfl
@[simp] theorem State.setPipe_img (s : State) (d : Nat) (v : PipeSt) : (s.setPipe d v).img = s.img := rfl
@[simp] theorem State.setPipe_cmd (s : State) (d : Nat) (v : PipeSt) : (s.setPipe d v).cmd = s.cmd := rfl
@[simp] theorem State.setPipe_test (s : State) (d : Nat) (v : PipeSt) : (s.setPipe d v).test = s.test := rfl
@[simp] theorem State.setPipe_uptime (s : State) (d : Nat) (v : PipeSt) : (s.setPipe d v).uptime = s.uptime := rfl
@[simp] theorem State.setPipe_brg (s : State) (d : Nat) (v : PipeSt) : (s.setPipe d v).brg = s.brg := rfl
@[simp] theorem State.setPipe_usb (s : State) (d : Nat) (v : PipeSt) : (s.setPipe d v).usb = s.usb := rfl
@[simp] theorem State.setPipe_macs (s : State) (d : Nat) (v : PipeSt) : (s.setPipe d v).macs = s.macs := rfl
@[simp] theorem State.setPipe_tm (s : State) (d : Nat) (v : PipeSt) : (s.setPipe d v).tm = s.tm := rfl
@[simp] theorem State.setPipe_pds (s : State) (d : Nat) (v : PipeSt) : (s.setPipe d v).pds = s.pds := rfl
@[simp] theorem State.setPipe_efs (s : State) (d : Nat) (v : PipeSt) : (s.setPipe d v).efs = s.efs := rfl
@[simp] theorem State.setPipe_dom (s : State) (d : Nat) (v : PipeSt) : (s.setPipe d v).dom = s.dom := rfl
@[simp] theorem State.setPipe_out (s : State) (d : Nat) (v : PipeSt) : (s.setPipe d v).out = s.out := rfl
@[simp] theorem State.setPipe_free (s : State) (d : Nat) (v : PipeSt) : (s.setPipe d v).free = s.free := rfl
@[simp] theorem State.setPipe_pending (s : State) (d : Nat) (v : PipeSt) : (s.setPipe d v).pending = s.pending := rfl
@[simp] theorem State.setPipe_reg (s : State) (d : Nat) (v : PipeSt) (r : Nat) : (s.setPipe d v).reg r = s.reg r := rfl
@[simp] theorem State.setPipe_rd (s : State) (d : Nat) (v : PipeSt) (g : Fld) : (s.setPipe d v).rd g = s.rd g := rfl
@[simp] theorem State.setPipe_on (s : State) (d : Nat) (v : PipeSt) (g : Fld) : (s.setPipe d v).on g = s.on g := rfl

/-! ### `modPipe` -/

@[simp] theorem State.modPipe_regs (s : State) (d : Nat) (f : PipeSt → PipeSt) : (s.modPipe d f).regs = s.regs := rfl
@[simp] theorem State.modPipe_mem (s : State) (d : Nat) (f : PipeSt → PipeSt) : (s.modPipe d f).mem = s.mem := rfl
@[simp] theorem State.modPipe_flash (s : State) (d : Nat) (f : PipeSt → PipeSt) : (s.modPipe d f).flash = s.flash := rfl
@[simp] theorem State.modPipe_frame (s : State) (d : Nat) (f : PipeSt → PipeSt) : (s.modPipe d f).frame = s.frame := rfl
@[simp] theorem State.modPipe_time (s : State) (d : Nat) (f : PipeSt → PipeSt) : (s.modPipe d f).time = s.time := rfl
@[simp] theorem State.modPipe_lanes (s : State) (d : Nat) (f : PipeSt → PipeSt) : (s.modPipe d f).lanes = s.lanes := rfl
@[simp] theorem State.modPipe_links (s : State) (d : Nat) (f : PipeSt → PipeSt) : (s.modPipe d f).links = s.links := rfl
@[simp] theorem State.modPipe_adps (s : State) (d : Nat) (f : PipeSt → PipeSt) : (s.modPipe d f).adps = s.adps := rfl
@[simp] theorem State.modPipe_engs (s : State) (d : Nat) (f : PipeSt → PipeSt) : (s.modPipe d f).engs = s.engs := rfl
@[simp] theorem State.modPipe_sw (s : State) (d : Nat) (f : PipeSt → PipeSt) : (s.modPipe d f).sw = s.sw := rfl
@[simp] theorem State.modPipe_scheds (s : State) (d : Nat) (f : PipeSt → PipeSt) : (s.modPipe d f).scheds = s.scheds := rfl
@[simp] theorem State.modPipe_pol (s : State) (d : Nat) (f : PipeSt → PipeSt) : (s.modPipe d f).pol = s.pol := rfl
@[simp] theorem State.modPipe_clk (s : State) (d : Nat) (f : PipeSt → PipeSt) : (s.modPipe d f).clk = s.clk := rfl
@[simp] theorem State.modPipe_pwr (s : State) (d : Nat) (f : PipeSt → PipeSt) : (s.modPipe d f).pwr = s.pwr := rfl
@[simp] theorem State.modPipe_fuses (s : State) (d : Nat) (f : PipeSt → PipeSt) : (s.modPipe d f).fuses = s.fuses := rfl
@[simp] theorem State.modPipe_keys (s : State) (d : Nat) (f : PipeSt → PipeSt) : (s.modPipe d f).keys = s.keys := rfl
@[simp] theorem State.modPipe_img (s : State) (d : Nat) (f : PipeSt → PipeSt) : (s.modPipe d f).img = s.img := rfl
@[simp] theorem State.modPipe_cmd (s : State) (d : Nat) (f : PipeSt → PipeSt) : (s.modPipe d f).cmd = s.cmd := rfl
@[simp] theorem State.modPipe_test (s : State) (d : Nat) (f : PipeSt → PipeSt) : (s.modPipe d f).test = s.test := rfl
@[simp] theorem State.modPipe_uptime (s : State) (d : Nat) (f : PipeSt → PipeSt) : (s.modPipe d f).uptime = s.uptime := rfl
@[simp] theorem State.modPipe_brg (s : State) (d : Nat) (f : PipeSt → PipeSt) : (s.modPipe d f).brg = s.brg := rfl
@[simp] theorem State.modPipe_usb (s : State) (d : Nat) (f : PipeSt → PipeSt) : (s.modPipe d f).usb = s.usb := rfl
@[simp] theorem State.modPipe_macs (s : State) (d : Nat) (f : PipeSt → PipeSt) : (s.modPipe d f).macs = s.macs := rfl
@[simp] theorem State.modPipe_tm (s : State) (d : Nat) (f : PipeSt → PipeSt) : (s.modPipe d f).tm = s.tm := rfl
@[simp] theorem State.modPipe_pds (s : State) (d : Nat) (f : PipeSt → PipeSt) : (s.modPipe d f).pds = s.pds := rfl
@[simp] theorem State.modPipe_efs (s : State) (d : Nat) (f : PipeSt → PipeSt) : (s.modPipe d f).efs = s.efs := rfl
@[simp] theorem State.modPipe_dom (s : State) (d : Nat) (f : PipeSt → PipeSt) : (s.modPipe d f).dom = s.dom := rfl
@[simp] theorem State.modPipe_out (s : State) (d : Nat) (f : PipeSt → PipeSt) : (s.modPipe d f).out = s.out := rfl
@[simp] theorem State.modPipe_free (s : State) (d : Nat) (f : PipeSt → PipeSt) : (s.modPipe d f).free = s.free := rfl
@[simp] theorem State.modPipe_pending (s : State) (d : Nat) (f : PipeSt → PipeSt) : (s.modPipe d f).pending = s.pending := rfl
@[simp] theorem State.modPipe_reg (s : State) (d : Nat) (f : PipeSt → PipeSt) (r : Nat) : (s.modPipe d f).reg r = s.reg r := rfl
@[simp] theorem State.modPipe_rd (s : State) (d : Nat) (f : PipeSt → PipeSt) (g : Fld) : (s.modPipe d f).rd g = s.rd g := rfl
@[simp] theorem State.modPipe_on (s : State) (d : Nat) (f : PipeSt → PipeSt) (g : Fld) : (s.modPipe d f).on g = s.on g := rfl

/-! ### `setMac` -/

@[simp] theorem State.setMac_regs (s : State) (m : Nat) (v : MacSt) : (s.setMac m v).regs = s.regs := rfl
@[simp] theorem State.setMac_mem (s : State) (m : Nat) (v : MacSt) : (s.setMac m v).mem = s.mem := rfl
@[simp] theorem State.setMac_flash (s : State) (m : Nat) (v : MacSt) : (s.setMac m v).flash = s.flash := rfl
@[simp] theorem State.setMac_frame (s : State) (m : Nat) (v : MacSt) : (s.setMac m v).frame = s.frame := rfl
@[simp] theorem State.setMac_time (s : State) (m : Nat) (v : MacSt) : (s.setMac m v).time = s.time := rfl
@[simp] theorem State.setMac_lanes (s : State) (m : Nat) (v : MacSt) : (s.setMac m v).lanes = s.lanes := rfl
@[simp] theorem State.setMac_links (s : State) (m : Nat) (v : MacSt) : (s.setMac m v).links = s.links := rfl
@[simp] theorem State.setMac_adps (s : State) (m : Nat) (v : MacSt) : (s.setMac m v).adps = s.adps := rfl
@[simp] theorem State.setMac_engs (s : State) (m : Nat) (v : MacSt) : (s.setMac m v).engs = s.engs := rfl
@[simp] theorem State.setMac_sw (s : State) (m : Nat) (v : MacSt) : (s.setMac m v).sw = s.sw := rfl
@[simp] theorem State.setMac_scheds (s : State) (m : Nat) (v : MacSt) : (s.setMac m v).scheds = s.scheds := rfl
@[simp] theorem State.setMac_pol (s : State) (m : Nat) (v : MacSt) : (s.setMac m v).pol = s.pol := rfl
@[simp] theorem State.setMac_clk (s : State) (m : Nat) (v : MacSt) : (s.setMac m v).clk = s.clk := rfl
@[simp] theorem State.setMac_pwr (s : State) (m : Nat) (v : MacSt) : (s.setMac m v).pwr = s.pwr := rfl
@[simp] theorem State.setMac_fuses (s : State) (m : Nat) (v : MacSt) : (s.setMac m v).fuses = s.fuses := rfl
@[simp] theorem State.setMac_keys (s : State) (m : Nat) (v : MacSt) : (s.setMac m v).keys = s.keys := rfl
@[simp] theorem State.setMac_img (s : State) (m : Nat) (v : MacSt) : (s.setMac m v).img = s.img := rfl
@[simp] theorem State.setMac_cmd (s : State) (m : Nat) (v : MacSt) : (s.setMac m v).cmd = s.cmd := rfl
@[simp] theorem State.setMac_test (s : State) (m : Nat) (v : MacSt) : (s.setMac m v).test = s.test := rfl
@[simp] theorem State.setMac_uptime (s : State) (m : Nat) (v : MacSt) : (s.setMac m v).uptime = s.uptime := rfl
@[simp] theorem State.setMac_pipes (s : State) (m : Nat) (v : MacSt) : (s.setMac m v).pipes = s.pipes := rfl
@[simp] theorem State.setMac_brg (s : State) (m : Nat) (v : MacSt) : (s.setMac m v).brg = s.brg := rfl
@[simp] theorem State.setMac_usb (s : State) (m : Nat) (v : MacSt) : (s.setMac m v).usb = s.usb := rfl
@[simp] theorem State.setMac_tm (s : State) (m : Nat) (v : MacSt) : (s.setMac m v).tm = s.tm := rfl
@[simp] theorem State.setMac_pds (s : State) (m : Nat) (v : MacSt) : (s.setMac m v).pds = s.pds := rfl
@[simp] theorem State.setMac_efs (s : State) (m : Nat) (v : MacSt) : (s.setMac m v).efs = s.efs := rfl
@[simp] theorem State.setMac_dom (s : State) (m : Nat) (v : MacSt) : (s.setMac m v).dom = s.dom := rfl
@[simp] theorem State.setMac_out (s : State) (m : Nat) (v : MacSt) : (s.setMac m v).out = s.out := rfl
@[simp] theorem State.setMac_free (s : State) (m : Nat) (v : MacSt) : (s.setMac m v).free = s.free := rfl
@[simp] theorem State.setMac_pending (s : State) (m : Nat) (v : MacSt) : (s.setMac m v).pending = s.pending := rfl
@[simp] theorem State.setMac_reg (s : State) (m : Nat) (v : MacSt) (r : Nat) : (s.setMac m v).reg r = s.reg r := rfl
@[simp] theorem State.setMac_rd (s : State) (m : Nat) (v : MacSt) (g : Fld) : (s.setMac m v).rd g = s.rd g := rfl
@[simp] theorem State.setMac_on (s : State) (m : Nat) (v : MacSt) (g : Fld) : (s.setMac m v).on g = s.on g := rfl

/-! ### `modMac` -/

@[simp] theorem State.modMac_regs (s : State) (m : Nat) (f : MacSt → MacSt) : (s.modMac m f).regs = s.regs := rfl
@[simp] theorem State.modMac_mem (s : State) (m : Nat) (f : MacSt → MacSt) : (s.modMac m f).mem = s.mem := rfl
@[simp] theorem State.modMac_flash (s : State) (m : Nat) (f : MacSt → MacSt) : (s.modMac m f).flash = s.flash := rfl
@[simp] theorem State.modMac_frame (s : State) (m : Nat) (f : MacSt → MacSt) : (s.modMac m f).frame = s.frame := rfl
@[simp] theorem State.modMac_time (s : State) (m : Nat) (f : MacSt → MacSt) : (s.modMac m f).time = s.time := rfl
@[simp] theorem State.modMac_lanes (s : State) (m : Nat) (f : MacSt → MacSt) : (s.modMac m f).lanes = s.lanes := rfl
@[simp] theorem State.modMac_links (s : State) (m : Nat) (f : MacSt → MacSt) : (s.modMac m f).links = s.links := rfl
@[simp] theorem State.modMac_adps (s : State) (m : Nat) (f : MacSt → MacSt) : (s.modMac m f).adps = s.adps := rfl
@[simp] theorem State.modMac_engs (s : State) (m : Nat) (f : MacSt → MacSt) : (s.modMac m f).engs = s.engs := rfl
@[simp] theorem State.modMac_sw (s : State) (m : Nat) (f : MacSt → MacSt) : (s.modMac m f).sw = s.sw := rfl
@[simp] theorem State.modMac_scheds (s : State) (m : Nat) (f : MacSt → MacSt) : (s.modMac m f).scheds = s.scheds := rfl
@[simp] theorem State.modMac_pol (s : State) (m : Nat) (f : MacSt → MacSt) : (s.modMac m f).pol = s.pol := rfl
@[simp] theorem State.modMac_clk (s : State) (m : Nat) (f : MacSt → MacSt) : (s.modMac m f).clk = s.clk := rfl
@[simp] theorem State.modMac_pwr (s : State) (m : Nat) (f : MacSt → MacSt) : (s.modMac m f).pwr = s.pwr := rfl
@[simp] theorem State.modMac_fuses (s : State) (m : Nat) (f : MacSt → MacSt) : (s.modMac m f).fuses = s.fuses := rfl
@[simp] theorem State.modMac_keys (s : State) (m : Nat) (f : MacSt → MacSt) : (s.modMac m f).keys = s.keys := rfl
@[simp] theorem State.modMac_img (s : State) (m : Nat) (f : MacSt → MacSt) : (s.modMac m f).img = s.img := rfl
@[simp] theorem State.modMac_cmd (s : State) (m : Nat) (f : MacSt → MacSt) : (s.modMac m f).cmd = s.cmd := rfl
@[simp] theorem State.modMac_test (s : State) (m : Nat) (f : MacSt → MacSt) : (s.modMac m f).test = s.test := rfl
@[simp] theorem State.modMac_uptime (s : State) (m : Nat) (f : MacSt → MacSt) : (s.modMac m f).uptime = s.uptime := rfl
@[simp] theorem State.modMac_pipes (s : State) (m : Nat) (f : MacSt → MacSt) : (s.modMac m f).pipes = s.pipes := rfl
@[simp] theorem State.modMac_brg (s : State) (m : Nat) (f : MacSt → MacSt) : (s.modMac m f).brg = s.brg := rfl
@[simp] theorem State.modMac_usb (s : State) (m : Nat) (f : MacSt → MacSt) : (s.modMac m f).usb = s.usb := rfl
@[simp] theorem State.modMac_tm (s : State) (m : Nat) (f : MacSt → MacSt) : (s.modMac m f).tm = s.tm := rfl
@[simp] theorem State.modMac_pds (s : State) (m : Nat) (f : MacSt → MacSt) : (s.modMac m f).pds = s.pds := rfl
@[simp] theorem State.modMac_efs (s : State) (m : Nat) (f : MacSt → MacSt) : (s.modMac m f).efs = s.efs := rfl
@[simp] theorem State.modMac_dom (s : State) (m : Nat) (f : MacSt → MacSt) : (s.modMac m f).dom = s.dom := rfl
@[simp] theorem State.modMac_out (s : State) (m : Nat) (f : MacSt → MacSt) : (s.modMac m f).out = s.out := rfl
@[simp] theorem State.modMac_free (s : State) (m : Nat) (f : MacSt → MacSt) : (s.modMac m f).free = s.free := rfl
@[simp] theorem State.modMac_pending (s : State) (m : Nat) (f : MacSt → MacSt) : (s.modMac m f).pending = s.pending := rfl
@[simp] theorem State.modMac_reg (s : State) (m : Nat) (f : MacSt → MacSt) (r : Nat) : (s.modMac m f).reg r = s.reg r := rfl
@[simp] theorem State.modMac_rd (s : State) (m : Nat) (f : MacSt → MacSt) (g : Fld) : (s.modMac m f).rd g = s.rd g := rfl
@[simp] theorem State.modMac_on (s : State) (m : Nat) (f : MacSt → MacSt) (g : Fld) : (s.modMac m f).on g = s.on g := rfl

/-! ### `modPd` -/

@[simp] theorem State.modPd_regs (s : State) (p : Nat) (f : PdSt → PdSt) : (s.modPd p f).regs = s.regs := rfl
@[simp] theorem State.modPd_mem (s : State) (p : Nat) (f : PdSt → PdSt) : (s.modPd p f).mem = s.mem := rfl
@[simp] theorem State.modPd_flash (s : State) (p : Nat) (f : PdSt → PdSt) : (s.modPd p f).flash = s.flash := rfl
@[simp] theorem State.modPd_frame (s : State) (p : Nat) (f : PdSt → PdSt) : (s.modPd p f).frame = s.frame := rfl
@[simp] theorem State.modPd_time (s : State) (p : Nat) (f : PdSt → PdSt) : (s.modPd p f).time = s.time := rfl
@[simp] theorem State.modPd_lanes (s : State) (p : Nat) (f : PdSt → PdSt) : (s.modPd p f).lanes = s.lanes := rfl
@[simp] theorem State.modPd_links (s : State) (p : Nat) (f : PdSt → PdSt) : (s.modPd p f).links = s.links := rfl
@[simp] theorem State.modPd_adps (s : State) (p : Nat) (f : PdSt → PdSt) : (s.modPd p f).adps = s.adps := rfl
@[simp] theorem State.modPd_engs (s : State) (p : Nat) (f : PdSt → PdSt) : (s.modPd p f).engs = s.engs := rfl
@[simp] theorem State.modPd_sw (s : State) (p : Nat) (f : PdSt → PdSt) : (s.modPd p f).sw = s.sw := rfl
@[simp] theorem State.modPd_scheds (s : State) (p : Nat) (f : PdSt → PdSt) : (s.modPd p f).scheds = s.scheds := rfl
@[simp] theorem State.modPd_pol (s : State) (p : Nat) (f : PdSt → PdSt) : (s.modPd p f).pol = s.pol := rfl
@[simp] theorem State.modPd_clk (s : State) (p : Nat) (f : PdSt → PdSt) : (s.modPd p f).clk = s.clk := rfl
@[simp] theorem State.modPd_pwr (s : State) (p : Nat) (f : PdSt → PdSt) : (s.modPd p f).pwr = s.pwr := rfl
@[simp] theorem State.modPd_fuses (s : State) (p : Nat) (f : PdSt → PdSt) : (s.modPd p f).fuses = s.fuses := rfl
@[simp] theorem State.modPd_keys (s : State) (p : Nat) (f : PdSt → PdSt) : (s.modPd p f).keys = s.keys := rfl
@[simp] theorem State.modPd_img (s : State) (p : Nat) (f : PdSt → PdSt) : (s.modPd p f).img = s.img := rfl
@[simp] theorem State.modPd_cmd (s : State) (p : Nat) (f : PdSt → PdSt) : (s.modPd p f).cmd = s.cmd := rfl
@[simp] theorem State.modPd_test (s : State) (p : Nat) (f : PdSt → PdSt) : (s.modPd p f).test = s.test := rfl
@[simp] theorem State.modPd_uptime (s : State) (p : Nat) (f : PdSt → PdSt) : (s.modPd p f).uptime = s.uptime := rfl
@[simp] theorem State.modPd_pipes (s : State) (p : Nat) (f : PdSt → PdSt) : (s.modPd p f).pipes = s.pipes := rfl
@[simp] theorem State.modPd_brg (s : State) (p : Nat) (f : PdSt → PdSt) : (s.modPd p f).brg = s.brg := rfl
@[simp] theorem State.modPd_usb (s : State) (p : Nat) (f : PdSt → PdSt) : (s.modPd p f).usb = s.usb := rfl
@[simp] theorem State.modPd_macs (s : State) (p : Nat) (f : PdSt → PdSt) : (s.modPd p f).macs = s.macs := rfl
@[simp] theorem State.modPd_tm (s : State) (p : Nat) (f : PdSt → PdSt) : (s.modPd p f).tm = s.tm := rfl
@[simp] theorem State.modPd_efs (s : State) (p : Nat) (f : PdSt → PdSt) : (s.modPd p f).efs = s.efs := rfl
@[simp] theorem State.modPd_dom (s : State) (p : Nat) (f : PdSt → PdSt) : (s.modPd p f).dom = s.dom := rfl
@[simp] theorem State.modPd_out (s : State) (p : Nat) (f : PdSt → PdSt) : (s.modPd p f).out = s.out := rfl
@[simp] theorem State.modPd_free (s : State) (p : Nat) (f : PdSt → PdSt) : (s.modPd p f).free = s.free := rfl
@[simp] theorem State.modPd_pending (s : State) (p : Nat) (f : PdSt → PdSt) : (s.modPd p f).pending = s.pending := rfl
@[simp] theorem State.modPd_reg (s : State) (p : Nat) (f : PdSt → PdSt) (r : Nat) : (s.modPd p f).reg r = s.reg r := rfl
@[simp] theorem State.modPd_rd (s : State) (p : Nat) (f : PdSt → PdSt) (g : Fld) : (s.modPd p f).rd g = s.rd g := rfl
@[simp] theorem State.modPd_on (s : State) (p : Nat) (f : PdSt → PdSt) (g : Fld) : (s.modPd p f).on g = s.on g := rfl

/-! ### `modEf` -/

@[simp] theorem State.modEf_regs (s : State) (n : Nat) (f : EfSt → EfSt) : (s.modEf n f).regs = s.regs := rfl
@[simp] theorem State.modEf_mem (s : State) (n : Nat) (f : EfSt → EfSt) : (s.modEf n f).mem = s.mem := rfl
@[simp] theorem State.modEf_flash (s : State) (n : Nat) (f : EfSt → EfSt) : (s.modEf n f).flash = s.flash := rfl
@[simp] theorem State.modEf_frame (s : State) (n : Nat) (f : EfSt → EfSt) : (s.modEf n f).frame = s.frame := rfl
@[simp] theorem State.modEf_time (s : State) (n : Nat) (f : EfSt → EfSt) : (s.modEf n f).time = s.time := rfl
@[simp] theorem State.modEf_lanes (s : State) (n : Nat) (f : EfSt → EfSt) : (s.modEf n f).lanes = s.lanes := rfl
@[simp] theorem State.modEf_links (s : State) (n : Nat) (f : EfSt → EfSt) : (s.modEf n f).links = s.links := rfl
@[simp] theorem State.modEf_adps (s : State) (n : Nat) (f : EfSt → EfSt) : (s.modEf n f).adps = s.adps := rfl
@[simp] theorem State.modEf_engs (s : State) (n : Nat) (f : EfSt → EfSt) : (s.modEf n f).engs = s.engs := rfl
@[simp] theorem State.modEf_sw (s : State) (n : Nat) (f : EfSt → EfSt) : (s.modEf n f).sw = s.sw := rfl
@[simp] theorem State.modEf_scheds (s : State) (n : Nat) (f : EfSt → EfSt) : (s.modEf n f).scheds = s.scheds := rfl
@[simp] theorem State.modEf_pol (s : State) (n : Nat) (f : EfSt → EfSt) : (s.modEf n f).pol = s.pol := rfl
@[simp] theorem State.modEf_clk (s : State) (n : Nat) (f : EfSt → EfSt) : (s.modEf n f).clk = s.clk := rfl
@[simp] theorem State.modEf_pwr (s : State) (n : Nat) (f : EfSt → EfSt) : (s.modEf n f).pwr = s.pwr := rfl
@[simp] theorem State.modEf_fuses (s : State) (n : Nat) (f : EfSt → EfSt) : (s.modEf n f).fuses = s.fuses := rfl
@[simp] theorem State.modEf_keys (s : State) (n : Nat) (f : EfSt → EfSt) : (s.modEf n f).keys = s.keys := rfl
@[simp] theorem State.modEf_img (s : State) (n : Nat) (f : EfSt → EfSt) : (s.modEf n f).img = s.img := rfl
@[simp] theorem State.modEf_cmd (s : State) (n : Nat) (f : EfSt → EfSt) : (s.modEf n f).cmd = s.cmd := rfl
@[simp] theorem State.modEf_test (s : State) (n : Nat) (f : EfSt → EfSt) : (s.modEf n f).test = s.test := rfl
@[simp] theorem State.modEf_uptime (s : State) (n : Nat) (f : EfSt → EfSt) : (s.modEf n f).uptime = s.uptime := rfl
@[simp] theorem State.modEf_pipes (s : State) (n : Nat) (f : EfSt → EfSt) : (s.modEf n f).pipes = s.pipes := rfl
@[simp] theorem State.modEf_brg (s : State) (n : Nat) (f : EfSt → EfSt) : (s.modEf n f).brg = s.brg := rfl
@[simp] theorem State.modEf_usb (s : State) (n : Nat) (f : EfSt → EfSt) : (s.modEf n f).usb = s.usb := rfl
@[simp] theorem State.modEf_macs (s : State) (n : Nat) (f : EfSt → EfSt) : (s.modEf n f).macs = s.macs := rfl
@[simp] theorem State.modEf_tm (s : State) (n : Nat) (f : EfSt → EfSt) : (s.modEf n f).tm = s.tm := rfl
@[simp] theorem State.modEf_pds (s : State) (n : Nat) (f : EfSt → EfSt) : (s.modEf n f).pds = s.pds := rfl
@[simp] theorem State.modEf_dom (s : State) (n : Nat) (f : EfSt → EfSt) : (s.modEf n f).dom = s.dom := rfl
@[simp] theorem State.modEf_out (s : State) (n : Nat) (f : EfSt → EfSt) : (s.modEf n f).out = s.out := rfl
@[simp] theorem State.modEf_free (s : State) (n : Nat) (f : EfSt → EfSt) : (s.modEf n f).free = s.free := rfl
@[simp] theorem State.modEf_pending (s : State) (n : Nat) (f : EfSt → EfSt) : (s.modEf n f).pending = s.pending := rfl
@[simp] theorem State.modEf_reg (s : State) (n : Nat) (f : EfSt → EfSt) (r : Nat) : (s.modEf n f).reg r = s.reg r := rfl
@[simp] theorem State.modEf_rd (s : State) (n : Nat) (f : EfSt → EfSt) (g : Fld) : (s.modEf n f).rd g = s.rd g := rfl
@[simp] theorem State.modEf_on (s : State) (n : Nat) (f : EfSt → EfSt) (g : Fld) : (s.modEf n f).on g = s.on g := rfl

/-! ### `modBrg` -/

@[simp] theorem State.modBrg_regs (s : State) (f : BridgeSt → BridgeSt) : (s.modBrg f).regs = s.regs := rfl
@[simp] theorem State.modBrg_mem (s : State) (f : BridgeSt → BridgeSt) : (s.modBrg f).mem = s.mem := rfl
@[simp] theorem State.modBrg_flash (s : State) (f : BridgeSt → BridgeSt) : (s.modBrg f).flash = s.flash := rfl
@[simp] theorem State.modBrg_frame (s : State) (f : BridgeSt → BridgeSt) : (s.modBrg f).frame = s.frame := rfl
@[simp] theorem State.modBrg_time (s : State) (f : BridgeSt → BridgeSt) : (s.modBrg f).time = s.time := rfl
@[simp] theorem State.modBrg_lanes (s : State) (f : BridgeSt → BridgeSt) : (s.modBrg f).lanes = s.lanes := rfl
@[simp] theorem State.modBrg_links (s : State) (f : BridgeSt → BridgeSt) : (s.modBrg f).links = s.links := rfl
@[simp] theorem State.modBrg_adps (s : State) (f : BridgeSt → BridgeSt) : (s.modBrg f).adps = s.adps := rfl
@[simp] theorem State.modBrg_engs (s : State) (f : BridgeSt → BridgeSt) : (s.modBrg f).engs = s.engs := rfl
@[simp] theorem State.modBrg_sw (s : State) (f : BridgeSt → BridgeSt) : (s.modBrg f).sw = s.sw := rfl
@[simp] theorem State.modBrg_scheds (s : State) (f : BridgeSt → BridgeSt) : (s.modBrg f).scheds = s.scheds := rfl
@[simp] theorem State.modBrg_pol (s : State) (f : BridgeSt → BridgeSt) : (s.modBrg f).pol = s.pol := rfl
@[simp] theorem State.modBrg_clk (s : State) (f : BridgeSt → BridgeSt) : (s.modBrg f).clk = s.clk := rfl
@[simp] theorem State.modBrg_pwr (s : State) (f : BridgeSt → BridgeSt) : (s.modBrg f).pwr = s.pwr := rfl
@[simp] theorem State.modBrg_fuses (s : State) (f : BridgeSt → BridgeSt) : (s.modBrg f).fuses = s.fuses := rfl
@[simp] theorem State.modBrg_keys (s : State) (f : BridgeSt → BridgeSt) : (s.modBrg f).keys = s.keys := rfl
@[simp] theorem State.modBrg_img (s : State) (f : BridgeSt → BridgeSt) : (s.modBrg f).img = s.img := rfl
@[simp] theorem State.modBrg_cmd (s : State) (f : BridgeSt → BridgeSt) : (s.modBrg f).cmd = s.cmd := rfl
@[simp] theorem State.modBrg_test (s : State) (f : BridgeSt → BridgeSt) : (s.modBrg f).test = s.test := rfl
@[simp] theorem State.modBrg_uptime (s : State) (f : BridgeSt → BridgeSt) : (s.modBrg f).uptime = s.uptime := rfl
@[simp] theorem State.modBrg_pipes (s : State) (f : BridgeSt → BridgeSt) : (s.modBrg f).pipes = s.pipes := rfl
@[simp] theorem State.modBrg_usb (s : State) (f : BridgeSt → BridgeSt) : (s.modBrg f).usb = s.usb := rfl
@[simp] theorem State.modBrg_macs (s : State) (f : BridgeSt → BridgeSt) : (s.modBrg f).macs = s.macs := rfl
@[simp] theorem State.modBrg_tm (s : State) (f : BridgeSt → BridgeSt) : (s.modBrg f).tm = s.tm := rfl
@[simp] theorem State.modBrg_pds (s : State) (f : BridgeSt → BridgeSt) : (s.modBrg f).pds = s.pds := rfl
@[simp] theorem State.modBrg_efs (s : State) (f : BridgeSt → BridgeSt) : (s.modBrg f).efs = s.efs := rfl
@[simp] theorem State.modBrg_dom (s : State) (f : BridgeSt → BridgeSt) : (s.modBrg f).dom = s.dom := rfl
@[simp] theorem State.modBrg_out (s : State) (f : BridgeSt → BridgeSt) : (s.modBrg f).out = s.out := rfl
@[simp] theorem State.modBrg_free (s : State) (f : BridgeSt → BridgeSt) : (s.modBrg f).free = s.free := rfl
@[simp] theorem State.modBrg_pending (s : State) (f : BridgeSt → BridgeSt) : (s.modBrg f).pending = s.pending := rfl
@[simp] theorem State.modBrg_reg (s : State) (f : BridgeSt → BridgeSt) (r : Nat) : (s.modBrg f).reg r = s.reg r := rfl
@[simp] theorem State.modBrg_rd (s : State) (f : BridgeSt → BridgeSt) (g : Fld) : (s.modBrg f).rd g = s.rd g := rfl
@[simp] theorem State.modBrg_on (s : State) (f : BridgeSt → BridgeSt) (g : Fld) : (s.modBrg f).on g = s.on g := rfl

/-! ### `modDom` -/

@[simp] theorem State.modDom_regs (s : State) (f : DomSt → DomSt) : (s.modDom f).regs = s.regs := rfl
@[simp] theorem State.modDom_mem (s : State) (f : DomSt → DomSt) : (s.modDom f).mem = s.mem := rfl
@[simp] theorem State.modDom_flash (s : State) (f : DomSt → DomSt) : (s.modDom f).flash = s.flash := rfl
@[simp] theorem State.modDom_frame (s : State) (f : DomSt → DomSt) : (s.modDom f).frame = s.frame := rfl
@[simp] theorem State.modDom_time (s : State) (f : DomSt → DomSt) : (s.modDom f).time = s.time := rfl
@[simp] theorem State.modDom_lanes (s : State) (f : DomSt → DomSt) : (s.modDom f).lanes = s.lanes := rfl
@[simp] theorem State.modDom_links (s : State) (f : DomSt → DomSt) : (s.modDom f).links = s.links := rfl
@[simp] theorem State.modDom_adps (s : State) (f : DomSt → DomSt) : (s.modDom f).adps = s.adps := rfl
@[simp] theorem State.modDom_engs (s : State) (f : DomSt → DomSt) : (s.modDom f).engs = s.engs := rfl
@[simp] theorem State.modDom_sw (s : State) (f : DomSt → DomSt) : (s.modDom f).sw = s.sw := rfl
@[simp] theorem State.modDom_scheds (s : State) (f : DomSt → DomSt) : (s.modDom f).scheds = s.scheds := rfl
@[simp] theorem State.modDom_pol (s : State) (f : DomSt → DomSt) : (s.modDom f).pol = s.pol := rfl
@[simp] theorem State.modDom_clk (s : State) (f : DomSt → DomSt) : (s.modDom f).clk = s.clk := rfl
@[simp] theorem State.modDom_pwr (s : State) (f : DomSt → DomSt) : (s.modDom f).pwr = s.pwr := rfl
@[simp] theorem State.modDom_fuses (s : State) (f : DomSt → DomSt) : (s.modDom f).fuses = s.fuses := rfl
@[simp] theorem State.modDom_keys (s : State) (f : DomSt → DomSt) : (s.modDom f).keys = s.keys := rfl
@[simp] theorem State.modDom_img (s : State) (f : DomSt → DomSt) : (s.modDom f).img = s.img := rfl
@[simp] theorem State.modDom_cmd (s : State) (f : DomSt → DomSt) : (s.modDom f).cmd = s.cmd := rfl
@[simp] theorem State.modDom_test (s : State) (f : DomSt → DomSt) : (s.modDom f).test = s.test := rfl
@[simp] theorem State.modDom_uptime (s : State) (f : DomSt → DomSt) : (s.modDom f).uptime = s.uptime := rfl
@[simp] theorem State.modDom_pipes (s : State) (f : DomSt → DomSt) : (s.modDom f).pipes = s.pipes := rfl
@[simp] theorem State.modDom_brg (s : State) (f : DomSt → DomSt) : (s.modDom f).brg = s.brg := rfl
@[simp] theorem State.modDom_usb (s : State) (f : DomSt → DomSt) : (s.modDom f).usb = s.usb := rfl
@[simp] theorem State.modDom_macs (s : State) (f : DomSt → DomSt) : (s.modDom f).macs = s.macs := rfl
@[simp] theorem State.modDom_tm (s : State) (f : DomSt → DomSt) : (s.modDom f).tm = s.tm := rfl
@[simp] theorem State.modDom_pds (s : State) (f : DomSt → DomSt) : (s.modDom f).pds = s.pds := rfl
@[simp] theorem State.modDom_efs (s : State) (f : DomSt → DomSt) : (s.modDom f).efs = s.efs := rfl
@[simp] theorem State.modDom_out (s : State) (f : DomSt → DomSt) : (s.modDom f).out = s.out := rfl
@[simp] theorem State.modDom_free (s : State) (f : DomSt → DomSt) : (s.modDom f).free = s.free := rfl
@[simp] theorem State.modDom_pending (s : State) (f : DomSt → DomSt) : (s.modDom f).pending = s.pending := rfl
@[simp] theorem State.modDom_reg (s : State) (f : DomSt → DomSt) (r : Nat) : (s.modDom f).reg r = s.reg r := rfl
@[simp] theorem State.modDom_rd (s : State) (f : DomSt → DomSt) (g : Fld) : (s.modDom f).rd g = s.rd g := rfl
@[simp] theorem State.modDom_on (s : State) (f : DomSt → DomSt) (g : Fld) : (s.modDom f).on g = s.on g := rfl

/-! ### `modPwr` -/

@[simp] theorem State.modPwr_regs (s : State) (f : PowerSt → PowerSt) : (s.modPwr f).regs = s.regs := rfl
@[simp] theorem State.modPwr_mem (s : State) (f : PowerSt → PowerSt) : (s.modPwr f).mem = s.mem := rfl
@[simp] theorem State.modPwr_flash (s : State) (f : PowerSt → PowerSt) : (s.modPwr f).flash = s.flash := rfl
@[simp] theorem State.modPwr_frame (s : State) (f : PowerSt → PowerSt) : (s.modPwr f).frame = s.frame := rfl
@[simp] theorem State.modPwr_time (s : State) (f : PowerSt → PowerSt) : (s.modPwr f).time = s.time := rfl
@[simp] theorem State.modPwr_lanes (s : State) (f : PowerSt → PowerSt) : (s.modPwr f).lanes = s.lanes := rfl
@[simp] theorem State.modPwr_links (s : State) (f : PowerSt → PowerSt) : (s.modPwr f).links = s.links := rfl
@[simp] theorem State.modPwr_adps (s : State) (f : PowerSt → PowerSt) : (s.modPwr f).adps = s.adps := rfl
@[simp] theorem State.modPwr_engs (s : State) (f : PowerSt → PowerSt) : (s.modPwr f).engs = s.engs := rfl
@[simp] theorem State.modPwr_sw (s : State) (f : PowerSt → PowerSt) : (s.modPwr f).sw = s.sw := rfl
@[simp] theorem State.modPwr_scheds (s : State) (f : PowerSt → PowerSt) : (s.modPwr f).scheds = s.scheds := rfl
@[simp] theorem State.modPwr_pol (s : State) (f : PowerSt → PowerSt) : (s.modPwr f).pol = s.pol := rfl
@[simp] theorem State.modPwr_clk (s : State) (f : PowerSt → PowerSt) : (s.modPwr f).clk = s.clk := rfl
@[simp] theorem State.modPwr_fuses (s : State) (f : PowerSt → PowerSt) : (s.modPwr f).fuses = s.fuses := rfl
@[simp] theorem State.modPwr_keys (s : State) (f : PowerSt → PowerSt) : (s.modPwr f).keys = s.keys := rfl
@[simp] theorem State.modPwr_img (s : State) (f : PowerSt → PowerSt) : (s.modPwr f).img = s.img := rfl
@[simp] theorem State.modPwr_cmd (s : State) (f : PowerSt → PowerSt) : (s.modPwr f).cmd = s.cmd := rfl
@[simp] theorem State.modPwr_test (s : State) (f : PowerSt → PowerSt) : (s.modPwr f).test = s.test := rfl
@[simp] theorem State.modPwr_uptime (s : State) (f : PowerSt → PowerSt) : (s.modPwr f).uptime = s.uptime := rfl
@[simp] theorem State.modPwr_pipes (s : State) (f : PowerSt → PowerSt) : (s.modPwr f).pipes = s.pipes := rfl
@[simp] theorem State.modPwr_brg (s : State) (f : PowerSt → PowerSt) : (s.modPwr f).brg = s.brg := rfl
@[simp] theorem State.modPwr_usb (s : State) (f : PowerSt → PowerSt) : (s.modPwr f).usb = s.usb := rfl
@[simp] theorem State.modPwr_macs (s : State) (f : PowerSt → PowerSt) : (s.modPwr f).macs = s.macs := rfl
@[simp] theorem State.modPwr_tm (s : State) (f : PowerSt → PowerSt) : (s.modPwr f).tm = s.tm := rfl
@[simp] theorem State.modPwr_pds (s : State) (f : PowerSt → PowerSt) : (s.modPwr f).pds = s.pds := rfl
@[simp] theorem State.modPwr_efs (s : State) (f : PowerSt → PowerSt) : (s.modPwr f).efs = s.efs := rfl
@[simp] theorem State.modPwr_dom (s : State) (f : PowerSt → PowerSt) : (s.modPwr f).dom = s.dom := rfl
@[simp] theorem State.modPwr_out (s : State) (f : PowerSt → PowerSt) : (s.modPwr f).out = s.out := rfl
@[simp] theorem State.modPwr_free (s : State) (f : PowerSt → PowerSt) : (s.modPwr f).free = s.free := rfl
@[simp] theorem State.modPwr_pending (s : State) (f : PowerSt → PowerSt) : (s.modPwr f).pending = s.pending := rfl
@[simp] theorem State.modPwr_reg (s : State) (f : PowerSt → PowerSt) (r : Nat) : (s.modPwr f).reg r = s.reg r := rfl
@[simp] theorem State.modPwr_rd (s : State) (f : PowerSt → PowerSt) (g : Fld) : (s.modPwr f).rd g = s.rd g := rfl
@[simp] theorem State.modPwr_on (s : State) (f : PowerSt → PowerSt) (g : Fld) : (s.modPwr f).on g = s.on g := rfl

/-! ### `modImg` -/

@[simp] theorem State.modImg_regs (s : State) (f : ImageSt → ImageSt) : (s.modImg f).regs = s.regs := rfl
@[simp] theorem State.modImg_mem (s : State) (f : ImageSt → ImageSt) : (s.modImg f).mem = s.mem := rfl
@[simp] theorem State.modImg_flash (s : State) (f : ImageSt → ImageSt) : (s.modImg f).flash = s.flash := rfl
@[simp] theorem State.modImg_frame (s : State) (f : ImageSt → ImageSt) : (s.modImg f).frame = s.frame := rfl
@[simp] theorem State.modImg_time (s : State) (f : ImageSt → ImageSt) : (s.modImg f).time = s.time := rfl
@[simp] theorem State.modImg_lanes (s : State) (f : ImageSt → ImageSt) : (s.modImg f).lanes = s.lanes := rfl
@[simp] theorem State.modImg_links (s : State) (f : ImageSt → ImageSt) : (s.modImg f).links = s.links := rfl
@[simp] theorem State.modImg_adps (s : State) (f : ImageSt → ImageSt) : (s.modImg f).adps = s.adps := rfl
@[simp] theorem State.modImg_engs (s : State) (f : ImageSt → ImageSt) : (s.modImg f).engs = s.engs := rfl
@[simp] theorem State.modImg_sw (s : State) (f : ImageSt → ImageSt) : (s.modImg f).sw = s.sw := rfl
@[simp] theorem State.modImg_scheds (s : State) (f : ImageSt → ImageSt) : (s.modImg f).scheds = s.scheds := rfl
@[simp] theorem State.modImg_pol (s : State) (f : ImageSt → ImageSt) : (s.modImg f).pol = s.pol := rfl
@[simp] theorem State.modImg_clk (s : State) (f : ImageSt → ImageSt) : (s.modImg f).clk = s.clk := rfl
@[simp] theorem State.modImg_pwr (s : State) (f : ImageSt → ImageSt) : (s.modImg f).pwr = s.pwr := rfl
@[simp] theorem State.modImg_fuses (s : State) (f : ImageSt → ImageSt) : (s.modImg f).fuses = s.fuses := rfl
@[simp] theorem State.modImg_keys (s : State) (f : ImageSt → ImageSt) : (s.modImg f).keys = s.keys := rfl
@[simp] theorem State.modImg_cmd (s : State) (f : ImageSt → ImageSt) : (s.modImg f).cmd = s.cmd := rfl
@[simp] theorem State.modImg_test (s : State) (f : ImageSt → ImageSt) : (s.modImg f).test = s.test := rfl
@[simp] theorem State.modImg_uptime (s : State) (f : ImageSt → ImageSt) : (s.modImg f).uptime = s.uptime := rfl
@[simp] theorem State.modImg_pipes (s : State) (f : ImageSt → ImageSt) : (s.modImg f).pipes = s.pipes := rfl
@[simp] theorem State.modImg_brg (s : State) (f : ImageSt → ImageSt) : (s.modImg f).brg = s.brg := rfl
@[simp] theorem State.modImg_usb (s : State) (f : ImageSt → ImageSt) : (s.modImg f).usb = s.usb := rfl
@[simp] theorem State.modImg_macs (s : State) (f : ImageSt → ImageSt) : (s.modImg f).macs = s.macs := rfl
@[simp] theorem State.modImg_tm (s : State) (f : ImageSt → ImageSt) : (s.modImg f).tm = s.tm := rfl
@[simp] theorem State.modImg_pds (s : State) (f : ImageSt → ImageSt) : (s.modImg f).pds = s.pds := rfl
@[simp] theorem State.modImg_efs (s : State) (f : ImageSt → ImageSt) : (s.modImg f).efs = s.efs := rfl
@[simp] theorem State.modImg_dom (s : State) (f : ImageSt → ImageSt) : (s.modImg f).dom = s.dom := rfl
@[simp] theorem State.modImg_out (s : State) (f : ImageSt → ImageSt) : (s.modImg f).out = s.out := rfl
@[simp] theorem State.modImg_free (s : State) (f : ImageSt → ImageSt) : (s.modImg f).free = s.free := rfl
@[simp] theorem State.modImg_pending (s : State) (f : ImageSt → ImageSt) : (s.modImg f).pending = s.pending := rfl
@[simp] theorem State.modImg_reg (s : State) (f : ImageSt → ImageSt) (r : Nat) : (s.modImg f).reg r = s.reg r := rfl
@[simp] theorem State.modImg_rd (s : State) (f : ImageSt → ImageSt) (g : Fld) : (s.modImg f).rd g = s.rd g := rfl
@[simp] theorem State.modImg_on (s : State) (f : ImageSt → ImageSt) (g : Fld) : (s.modImg f).on g = s.on g := rfl

/-! ### `modUsb` -/

@[simp] theorem State.modUsb_regs (s : State) (f : UsbSt → UsbSt) : (s.modUsb f).regs = s.regs := rfl
@[simp] theorem State.modUsb_mem (s : State) (f : UsbSt → UsbSt) : (s.modUsb f).mem = s.mem := rfl
@[simp] theorem State.modUsb_flash (s : State) (f : UsbSt → UsbSt) : (s.modUsb f).flash = s.flash := rfl
@[simp] theorem State.modUsb_frame (s : State) (f : UsbSt → UsbSt) : (s.modUsb f).frame = s.frame := rfl
@[simp] theorem State.modUsb_time (s : State) (f : UsbSt → UsbSt) : (s.modUsb f).time = s.time := rfl
@[simp] theorem State.modUsb_lanes (s : State) (f : UsbSt → UsbSt) : (s.modUsb f).lanes = s.lanes := rfl
@[simp] theorem State.modUsb_links (s : State) (f : UsbSt → UsbSt) : (s.modUsb f).links = s.links := rfl
@[simp] theorem State.modUsb_adps (s : State) (f : UsbSt → UsbSt) : (s.modUsb f).adps = s.adps := rfl
@[simp] theorem State.modUsb_engs (s : State) (f : UsbSt → UsbSt) : (s.modUsb f).engs = s.engs := rfl
@[simp] theorem State.modUsb_sw (s : State) (f : UsbSt → UsbSt) : (s.modUsb f).sw = s.sw := rfl
@[simp] theorem State.modUsb_scheds (s : State) (f : UsbSt → UsbSt) : (s.modUsb f).scheds = s.scheds := rfl
@[simp] theorem State.modUsb_pol (s : State) (f : UsbSt → UsbSt) : (s.modUsb f).pol = s.pol := rfl
@[simp] theorem State.modUsb_clk (s : State) (f : UsbSt → UsbSt) : (s.modUsb f).clk = s.clk := rfl
@[simp] theorem State.modUsb_pwr (s : State) (f : UsbSt → UsbSt) : (s.modUsb f).pwr = s.pwr := rfl
@[simp] theorem State.modUsb_fuses (s : State) (f : UsbSt → UsbSt) : (s.modUsb f).fuses = s.fuses := rfl
@[simp] theorem State.modUsb_keys (s : State) (f : UsbSt → UsbSt) : (s.modUsb f).keys = s.keys := rfl
@[simp] theorem State.modUsb_img (s : State) (f : UsbSt → UsbSt) : (s.modUsb f).img = s.img := rfl
@[simp] theorem State.modUsb_cmd (s : State) (f : UsbSt → UsbSt) : (s.modUsb f).cmd = s.cmd := rfl
@[simp] theorem State.modUsb_test (s : State) (f : UsbSt → UsbSt) : (s.modUsb f).test = s.test := rfl
@[simp] theorem State.modUsb_uptime (s : State) (f : UsbSt → UsbSt) : (s.modUsb f).uptime = s.uptime := rfl
@[simp] theorem State.modUsb_pipes (s : State) (f : UsbSt → UsbSt) : (s.modUsb f).pipes = s.pipes := rfl
@[simp] theorem State.modUsb_brg (s : State) (f : UsbSt → UsbSt) : (s.modUsb f).brg = s.brg := rfl
@[simp] theorem State.modUsb_macs (s : State) (f : UsbSt → UsbSt) : (s.modUsb f).macs = s.macs := rfl
@[simp] theorem State.modUsb_tm (s : State) (f : UsbSt → UsbSt) : (s.modUsb f).tm = s.tm := rfl
@[simp] theorem State.modUsb_pds (s : State) (f : UsbSt → UsbSt) : (s.modUsb f).pds = s.pds := rfl
@[simp] theorem State.modUsb_efs (s : State) (f : UsbSt → UsbSt) : (s.modUsb f).efs = s.efs := rfl
@[simp] theorem State.modUsb_dom (s : State) (f : UsbSt → UsbSt) : (s.modUsb f).dom = s.dom := rfl
@[simp] theorem State.modUsb_out (s : State) (f : UsbSt → UsbSt) : (s.modUsb f).out = s.out := rfl
@[simp] theorem State.modUsb_free (s : State) (f : UsbSt → UsbSt) : (s.modUsb f).free = s.free := rfl
@[simp] theorem State.modUsb_pending (s : State) (f : UsbSt → UsbSt) : (s.modUsb f).pending = s.pending := rfl
@[simp] theorem State.modUsb_reg (s : State) (f : UsbSt → UsbSt) (r : Nat) : (s.modUsb f).reg r = s.reg r := rfl
@[simp] theorem State.modUsb_rd (s : State) (f : UsbSt → UsbSt) (g : Fld) : (s.modUsb f).rd g = s.rd g := rfl
@[simp] theorem State.modUsb_on (s : State) (f : UsbSt → UsbSt) (g : Fld) : (s.modUsb f).on g = s.on g := rfl

/-! ### `mapSw` -/

@[simp] theorem State.mapSw_regs (s : State) (f : SwitchSt → SwitchSt) : (s.mapSw f).regs = s.regs := rfl
@[simp] theorem State.mapSw_mem (s : State) (f : SwitchSt → SwitchSt) : (s.mapSw f).mem = s.mem := rfl
@[simp] theorem State.mapSw_flash (s : State) (f : SwitchSt → SwitchSt) : (s.mapSw f).flash = s.flash := rfl
@[simp] theorem State.mapSw_frame (s : State) (f : SwitchSt → SwitchSt) : (s.mapSw f).frame = s.frame := rfl
@[simp] theorem State.mapSw_time (s : State) (f : SwitchSt → SwitchSt) : (s.mapSw f).time = s.time := rfl
@[simp] theorem State.mapSw_lanes (s : State) (f : SwitchSt → SwitchSt) : (s.mapSw f).lanes = s.lanes := rfl
@[simp] theorem State.mapSw_links (s : State) (f : SwitchSt → SwitchSt) : (s.mapSw f).links = s.links := rfl
@[simp] theorem State.mapSw_adps (s : State) (f : SwitchSt → SwitchSt) : (s.mapSw f).adps = s.adps := rfl
@[simp] theorem State.mapSw_engs (s : State) (f : SwitchSt → SwitchSt) : (s.mapSw f).engs = s.engs := rfl
@[simp] theorem State.mapSw_scheds (s : State) (f : SwitchSt → SwitchSt) : (s.mapSw f).scheds = s.scheds := rfl
@[simp] theorem State.mapSw_pol (s : State) (f : SwitchSt → SwitchSt) : (s.mapSw f).pol = s.pol := rfl
@[simp] theorem State.mapSw_clk (s : State) (f : SwitchSt → SwitchSt) : (s.mapSw f).clk = s.clk := rfl
@[simp] theorem State.mapSw_pwr (s : State) (f : SwitchSt → SwitchSt) : (s.mapSw f).pwr = s.pwr := rfl
@[simp] theorem State.mapSw_fuses (s : State) (f : SwitchSt → SwitchSt) : (s.mapSw f).fuses = s.fuses := rfl
@[simp] theorem State.mapSw_keys (s : State) (f : SwitchSt → SwitchSt) : (s.mapSw f).keys = s.keys := rfl
@[simp] theorem State.mapSw_img (s : State) (f : SwitchSt → SwitchSt) : (s.mapSw f).img = s.img := rfl
@[simp] theorem State.mapSw_cmd (s : State) (f : SwitchSt → SwitchSt) : (s.mapSw f).cmd = s.cmd := rfl
@[simp] theorem State.mapSw_test (s : State) (f : SwitchSt → SwitchSt) : (s.mapSw f).test = s.test := rfl
@[simp] theorem State.mapSw_uptime (s : State) (f : SwitchSt → SwitchSt) : (s.mapSw f).uptime = s.uptime := rfl
@[simp] theorem State.mapSw_pipes (s : State) (f : SwitchSt → SwitchSt) : (s.mapSw f).pipes = s.pipes := rfl
@[simp] theorem State.mapSw_brg (s : State) (f : SwitchSt → SwitchSt) : (s.mapSw f).brg = s.brg := rfl
@[simp] theorem State.mapSw_usb (s : State) (f : SwitchSt → SwitchSt) : (s.mapSw f).usb = s.usb := rfl
@[simp] theorem State.mapSw_macs (s : State) (f : SwitchSt → SwitchSt) : (s.mapSw f).macs = s.macs := rfl
@[simp] theorem State.mapSw_tm (s : State) (f : SwitchSt → SwitchSt) : (s.mapSw f).tm = s.tm := rfl
@[simp] theorem State.mapSw_pds (s : State) (f : SwitchSt → SwitchSt) : (s.mapSw f).pds = s.pds := rfl
@[simp] theorem State.mapSw_efs (s : State) (f : SwitchSt → SwitchSt) : (s.mapSw f).efs = s.efs := rfl
@[simp] theorem State.mapSw_dom (s : State) (f : SwitchSt → SwitchSt) : (s.mapSw f).dom = s.dom := rfl
@[simp] theorem State.mapSw_out (s : State) (f : SwitchSt → SwitchSt) : (s.mapSw f).out = s.out := rfl
@[simp] theorem State.mapSw_free (s : State) (f : SwitchSt → SwitchSt) : (s.mapSw f).free = s.free := rfl
@[simp] theorem State.mapSw_pending (s : State) (f : SwitchSt → SwitchSt) : (s.mapSw f).pending = s.pending := rfl
@[simp] theorem State.mapSw_reg (s : State) (f : SwitchSt → SwitchSt) (r : Nat) : (s.mapSw f).reg r = s.reg r := rfl
@[simp] theorem State.mapSw_rd (s : State) (f : SwitchSt → SwitchSt) (g : Fld) : (s.mapSw f).rd g = s.rd g := rfl
@[simp] theorem State.mapSw_on (s : State) (f : SwitchSt → SwitchSt) (g : Fld) : (s.mapSw f).on g = s.on g := rfl

/-! ### `send` -/

@[simp] theorem State.send_mem (s : State) (o : Out) : (s.send o).mem = s.mem := rfl
@[simp] theorem State.send_flash (s : State) (o : Out) : (s.send o).flash = s.flash := rfl
@[simp] theorem State.send_frame (s : State) (o : Out) : (s.send o).frame = s.frame := rfl
@[simp] theorem State.send_time (s : State) (o : Out) : (s.send o).time = s.time := rfl
@[simp] theorem State.send_lanes (s : State) (o : Out) : (s.send o).lanes = s.lanes := rfl
@[simp] theorem State.send_links (s : State) (o : Out) : (s.send o).links = s.links := rfl
@[simp] theorem State.send_adps (s : State) (o : Out) : (s.send o).adps = s.adps := rfl
@[simp] theorem State.send_engs (s : State) (o : Out) : (s.send o).engs = s.engs := rfl
@[simp] theorem State.send_sw (s : State) (o : Out) : (s.send o).sw = s.sw := rfl
@[simp] theorem State.send_scheds (s : State) (o : Out) : (s.send o).scheds = s.scheds := rfl
@[simp] theorem State.send_pol (s : State) (o : Out) : (s.send o).pol = s.pol := rfl
@[simp] theorem State.send_clk (s : State) (o : Out) : (s.send o).clk = s.clk := rfl
@[simp] theorem State.send_pwr (s : State) (o : Out) : (s.send o).pwr = s.pwr := rfl
@[simp] theorem State.send_fuses (s : State) (o : Out) : (s.send o).fuses = s.fuses := rfl
@[simp] theorem State.send_keys (s : State) (o : Out) : (s.send o).keys = s.keys := rfl
@[simp] theorem State.send_img (s : State) (o : Out) : (s.send o).img = s.img := rfl
@[simp] theorem State.send_cmd (s : State) (o : Out) : (s.send o).cmd = s.cmd := rfl
@[simp] theorem State.send_test (s : State) (o : Out) : (s.send o).test = s.test := rfl
@[simp] theorem State.send_uptime (s : State) (o : Out) : (s.send o).uptime = s.uptime := rfl
@[simp] theorem State.send_pipes (s : State) (o : Out) : (s.send o).pipes = s.pipes := rfl
@[simp] theorem State.send_brg (s : State) (o : Out) : (s.send o).brg = s.brg := rfl
@[simp] theorem State.send_usb (s : State) (o : Out) : (s.send o).usb = s.usb := rfl
@[simp] theorem State.send_macs (s : State) (o : Out) : (s.send o).macs = s.macs := rfl
@[simp] theorem State.send_tm (s : State) (o : Out) : (s.send o).tm = s.tm := rfl
@[simp] theorem State.send_pds (s : State) (o : Out) : (s.send o).pds = s.pds := rfl
@[simp] theorem State.send_efs (s : State) (o : Out) : (s.send o).efs = s.efs := rfl
@[simp] theorem State.send_dom (s : State) (o : Out) : (s.send o).dom = s.dom := rfl
@[simp] theorem State.send_free (s : State) (o : Out) : (s.send o).free = s.free := rfl
@[simp] theorem State.send_pending (s : State) (o : Out) : (s.send o).pending = s.pending := rfl

/-! ### `setStored` -/

@[simp] theorem State.setStored_regs (s : State) (id : Nat) (v : Option Stored) : (s.setStored id v).regs = s.regs := rfl
@[simp] theorem State.setStored_mem (s : State) (id : Nat) (v : Option Stored) : (s.setStored id v).mem = s.mem := rfl
@[simp] theorem State.setStored_flash (s : State) (id : Nat) (v : Option Stored) : (s.setStored id v).flash = s.flash := rfl
@[simp] theorem State.setStored_frame (s : State) (id : Nat) (v : Option Stored) : (s.setStored id v).frame = s.frame := rfl
@[simp] theorem State.setStored_time (s : State) (id : Nat) (v : Option Stored) : (s.setStored id v).time = s.time := rfl
@[simp] theorem State.setStored_lanes (s : State) (id : Nat) (v : Option Stored) : (s.setStored id v).lanes = s.lanes := rfl
@[simp] theorem State.setStored_links (s : State) (id : Nat) (v : Option Stored) : (s.setStored id v).links = s.links := rfl
@[simp] theorem State.setStored_adps (s : State) (id : Nat) (v : Option Stored) : (s.setStored id v).adps = s.adps := rfl
@[simp] theorem State.setStored_engs (s : State) (id : Nat) (v : Option Stored) : (s.setStored id v).engs = s.engs := rfl
@[simp] theorem State.setStored_scheds (s : State) (id : Nat) (v : Option Stored) : (s.setStored id v).scheds = s.scheds := rfl
@[simp] theorem State.setStored_pol (s : State) (id : Nat) (v : Option Stored) : (s.setStored id v).pol = s.pol := rfl
@[simp] theorem State.setStored_clk (s : State) (id : Nat) (v : Option Stored) : (s.setStored id v).clk = s.clk := rfl
@[simp] theorem State.setStored_pwr (s : State) (id : Nat) (v : Option Stored) : (s.setStored id v).pwr = s.pwr := rfl
@[simp] theorem State.setStored_fuses (s : State) (id : Nat) (v : Option Stored) : (s.setStored id v).fuses = s.fuses := rfl
@[simp] theorem State.setStored_keys (s : State) (id : Nat) (v : Option Stored) : (s.setStored id v).keys = s.keys := rfl
@[simp] theorem State.setStored_img (s : State) (id : Nat) (v : Option Stored) : (s.setStored id v).img = s.img := rfl
@[simp] theorem State.setStored_cmd (s : State) (id : Nat) (v : Option Stored) : (s.setStored id v).cmd = s.cmd := rfl
@[simp] theorem State.setStored_test (s : State) (id : Nat) (v : Option Stored) : (s.setStored id v).test = s.test := rfl
@[simp] theorem State.setStored_uptime (s : State) (id : Nat) (v : Option Stored) : (s.setStored id v).uptime = s.uptime := rfl
@[simp] theorem State.setStored_pipes (s : State) (id : Nat) (v : Option Stored) : (s.setStored id v).pipes = s.pipes := rfl
@[simp] theorem State.setStored_brg (s : State) (id : Nat) (v : Option Stored) : (s.setStored id v).brg = s.brg := rfl
@[simp] theorem State.setStored_usb (s : State) (id : Nat) (v : Option Stored) : (s.setStored id v).usb = s.usb := rfl
@[simp] theorem State.setStored_macs (s : State) (id : Nat) (v : Option Stored) : (s.setStored id v).macs = s.macs := rfl
@[simp] theorem State.setStored_tm (s : State) (id : Nat) (v : Option Stored) : (s.setStored id v).tm = s.tm := rfl
@[simp] theorem State.setStored_pds (s : State) (id : Nat) (v : Option Stored) : (s.setStored id v).pds = s.pds := rfl
@[simp] theorem State.setStored_efs (s : State) (id : Nat) (v : Option Stored) : (s.setStored id v).efs = s.efs := rfl
@[simp] theorem State.setStored_dom (s : State) (id : Nat) (v : Option Stored) : (s.setStored id v).dom = s.dom := rfl
@[simp] theorem State.setStored_out (s : State) (id : Nat) (v : Option Stored) : (s.setStored id v).out = s.out := rfl
@[simp] theorem State.setStored_free (s : State) (id : Nat) (v : Option Stored) : (s.setStored id v).free = s.free := rfl
@[simp] theorem State.setStored_pending (s : State) (id : Nat) (v : Option Stored) : (s.setStored id v).pending = s.pending := rfl
@[simp] theorem State.setStored_reg (s : State) (id : Nat) (v : Option Stored) (r : Nat) : (s.setStored id v).reg r = s.reg r := rfl
@[simp] theorem State.setStored_rd (s : State) (id : Nat) (v : Option Stored) (d : Fld) : (s.setStored id v).rd d = s.rd d := rfl
@[simp] theorem State.setStored_on (s : State) (id : Nat) (v : Option Stored) (d : Fld) : (s.setStored id v).on d = s.on d := rfl

/-! ### `setVoq` -/

@[simp] theorem State.setVoq_regs (s : State) (i : Nat) (l : List Ref) : (s.setVoq i l).regs = s.regs := rfl
@[simp] theorem State.setVoq_mem (s : State) (i : Nat) (l : List Ref) : (s.setVoq i l).mem = s.mem := rfl
@[simp] theorem State.setVoq_flash (s : State) (i : Nat) (l : List Ref) : (s.setVoq i l).flash = s.flash := rfl
@[simp] theorem State.setVoq_frame (s : State) (i : Nat) (l : List Ref) : (s.setVoq i l).frame = s.frame := rfl
@[simp] theorem State.setVoq_time (s : State) (i : Nat) (l : List Ref) : (s.setVoq i l).time = s.time := rfl
@[simp] theorem State.setVoq_lanes (s : State) (i : Nat) (l : List Ref) : (s.setVoq i l).lanes = s.lanes := rfl
@[simp] theorem State.setVoq_links (s : State) (i : Nat) (l : List Ref) : (s.setVoq i l).links = s.links := rfl
@[simp] theorem State.setVoq_adps (s : State) (i : Nat) (l : List Ref) : (s.setVoq i l).adps = s.adps := rfl
@[simp] theorem State.setVoq_engs (s : State) (i : Nat) (l : List Ref) : (s.setVoq i l).engs = s.engs := rfl
@[simp] theorem State.setVoq_scheds (s : State) (i : Nat) (l : List Ref) : (s.setVoq i l).scheds = s.scheds := rfl
@[simp] theorem State.setVoq_pol (s : State) (i : Nat) (l : List Ref) : (s.setVoq i l).pol = s.pol := rfl
@[simp] theorem State.setVoq_clk (s : State) (i : Nat) (l : List Ref) : (s.setVoq i l).clk = s.clk := rfl
@[simp] theorem State.setVoq_pwr (s : State) (i : Nat) (l : List Ref) : (s.setVoq i l).pwr = s.pwr := rfl
@[simp] theorem State.setVoq_fuses (s : State) (i : Nat) (l : List Ref) : (s.setVoq i l).fuses = s.fuses := rfl
@[simp] theorem State.setVoq_keys (s : State) (i : Nat) (l : List Ref) : (s.setVoq i l).keys = s.keys := rfl
@[simp] theorem State.setVoq_img (s : State) (i : Nat) (l : List Ref) : (s.setVoq i l).img = s.img := rfl
@[simp] theorem State.setVoq_cmd (s : State) (i : Nat) (l : List Ref) : (s.setVoq i l).cmd = s.cmd := rfl
@[simp] theorem State.setVoq_test (s : State) (i : Nat) (l : List Ref) : (s.setVoq i l).test = s.test := rfl
@[simp] theorem State.setVoq_uptime (s : State) (i : Nat) (l : List Ref) : (s.setVoq i l).uptime = s.uptime := rfl
@[simp] theorem State.setVoq_pipes (s : State) (i : Nat) (l : List Ref) : (s.setVoq i l).pipes = s.pipes := rfl
@[simp] theorem State.setVoq_brg (s : State) (i : Nat) (l : List Ref) : (s.setVoq i l).brg = s.brg := rfl
@[simp] theorem State.setVoq_usb (s : State) (i : Nat) (l : List Ref) : (s.setVoq i l).usb = s.usb := rfl
@[simp] theorem State.setVoq_macs (s : State) (i : Nat) (l : List Ref) : (s.setVoq i l).macs = s.macs := rfl
@[simp] theorem State.setVoq_tm (s : State) (i : Nat) (l : List Ref) : (s.setVoq i l).tm = s.tm := rfl
@[simp] theorem State.setVoq_pds (s : State) (i : Nat) (l : List Ref) : (s.setVoq i l).pds = s.pds := rfl
@[simp] theorem State.setVoq_efs (s : State) (i : Nat) (l : List Ref) : (s.setVoq i l).efs = s.efs := rfl
@[simp] theorem State.setVoq_dom (s : State) (i : Nat) (l : List Ref) : (s.setVoq i l).dom = s.dom := rfl
@[simp] theorem State.setVoq_out (s : State) (i : Nat) (l : List Ref) : (s.setVoq i l).out = s.out := rfl
@[simp] theorem State.setVoq_free (s : State) (i : Nat) (l : List Ref) : (s.setVoq i l).free = s.free := rfl
@[simp] theorem State.setVoq_pending (s : State) (i : Nat) (l : List Ref) : (s.setVoq i l).pending = s.pending := rfl
@[simp] theorem State.setVoq_reg (s : State) (i : Nat) (l : List Ref) (r : Nat) : (s.setVoq i l).reg r = s.reg r := rfl
@[simp] theorem State.setVoq_rd (s : State) (i : Nat) (l : List Ref) (d : Fld) : (s.setVoq i l).rd d = s.rd d := rfl
@[simp] theorem State.setVoq_on (s : State) (i : Nat) (l : List Ref) (d : Fld) : (s.setVoq i l).on d = s.on d := rfl

/-! ### `setStage` -/

@[simp] theorem State.setStage_regs (s : State) (i : Nat) (l : List StageCell) : (s.setStage i l).regs = s.regs := rfl
@[simp] theorem State.setStage_mem (s : State) (i : Nat) (l : List StageCell) : (s.setStage i l).mem = s.mem := rfl
@[simp] theorem State.setStage_flash (s : State) (i : Nat) (l : List StageCell) : (s.setStage i l).flash = s.flash := rfl
@[simp] theorem State.setStage_frame (s : State) (i : Nat) (l : List StageCell) : (s.setStage i l).frame = s.frame := rfl
@[simp] theorem State.setStage_time (s : State) (i : Nat) (l : List StageCell) : (s.setStage i l).time = s.time := rfl
@[simp] theorem State.setStage_lanes (s : State) (i : Nat) (l : List StageCell) : (s.setStage i l).lanes = s.lanes := rfl
@[simp] theorem State.setStage_links (s : State) (i : Nat) (l : List StageCell) : (s.setStage i l).links = s.links := rfl
@[simp] theorem State.setStage_adps (s : State) (i : Nat) (l : List StageCell) : (s.setStage i l).adps = s.adps := rfl
@[simp] theorem State.setStage_engs (s : State) (i : Nat) (l : List StageCell) : (s.setStage i l).engs = s.engs := rfl
@[simp] theorem State.setStage_scheds (s : State) (i : Nat) (l : List StageCell) : (s.setStage i l).scheds = s.scheds := rfl
@[simp] theorem State.setStage_pol (s : State) (i : Nat) (l : List StageCell) : (s.setStage i l).pol = s.pol := rfl
@[simp] theorem State.setStage_clk (s : State) (i : Nat) (l : List StageCell) : (s.setStage i l).clk = s.clk := rfl
@[simp] theorem State.setStage_pwr (s : State) (i : Nat) (l : List StageCell) : (s.setStage i l).pwr = s.pwr := rfl
@[simp] theorem State.setStage_fuses (s : State) (i : Nat) (l : List StageCell) : (s.setStage i l).fuses = s.fuses := rfl
@[simp] theorem State.setStage_keys (s : State) (i : Nat) (l : List StageCell) : (s.setStage i l).keys = s.keys := rfl
@[simp] theorem State.setStage_img (s : State) (i : Nat) (l : List StageCell) : (s.setStage i l).img = s.img := rfl
@[simp] theorem State.setStage_cmd (s : State) (i : Nat) (l : List StageCell) : (s.setStage i l).cmd = s.cmd := rfl
@[simp] theorem State.setStage_test (s : State) (i : Nat) (l : List StageCell) : (s.setStage i l).test = s.test := rfl
@[simp] theorem State.setStage_uptime (s : State) (i : Nat) (l : List StageCell) : (s.setStage i l).uptime = s.uptime := rfl
@[simp] theorem State.setStage_pipes (s : State) (i : Nat) (l : List StageCell) : (s.setStage i l).pipes = s.pipes := rfl
@[simp] theorem State.setStage_brg (s : State) (i : Nat) (l : List StageCell) : (s.setStage i l).brg = s.brg := rfl
@[simp] theorem State.setStage_usb (s : State) (i : Nat) (l : List StageCell) : (s.setStage i l).usb = s.usb := rfl
@[simp] theorem State.setStage_macs (s : State) (i : Nat) (l : List StageCell) : (s.setStage i l).macs = s.macs := rfl
@[simp] theorem State.setStage_tm (s : State) (i : Nat) (l : List StageCell) : (s.setStage i l).tm = s.tm := rfl
@[simp] theorem State.setStage_pds (s : State) (i : Nat) (l : List StageCell) : (s.setStage i l).pds = s.pds := rfl
@[simp] theorem State.setStage_efs (s : State) (i : Nat) (l : List StageCell) : (s.setStage i l).efs = s.efs := rfl
@[simp] theorem State.setStage_dom (s : State) (i : Nat) (l : List StageCell) : (s.setStage i l).dom = s.dom := rfl
@[simp] theorem State.setStage_out (s : State) (i : Nat) (l : List StageCell) : (s.setStage i l).out = s.out := rfl
@[simp] theorem State.setStage_free (s : State) (i : Nat) (l : List StageCell) : (s.setStage i l).free = s.free := rfl
@[simp] theorem State.setStage_pending (s : State) (i : Nat) (l : List StageCell) : (s.setStage i l).pending = s.pending := rfl
@[simp] theorem State.setStage_reg (s : State) (i : Nat) (l : List StageCell) (r : Nat) : (s.setStage i l).reg r = s.reg r := rfl
@[simp] theorem State.setStage_rd (s : State) (i : Nat) (l : List StageCell) (d : Fld) : (s.setStage i l).rd d = s.rd d := rfl
@[simp] theorem State.setStage_on (s : State) (i : Nat) (l : List StageCell) (d : Fld) : (s.setStage i l).on d = s.on d := rfl

/-! ### `setArrivals` -/

@[simp] theorem State.setArrivals_regs (s : State) (p : Nat) (l : List Arrival) : (s.setArrivals p l).regs = s.regs := rfl
@[simp] theorem State.setArrivals_mem (s : State) (p : Nat) (l : List Arrival) : (s.setArrivals p l).mem = s.mem := rfl
@[simp] theorem State.setArrivals_flash (s : State) (p : Nat) (l : List Arrival) : (s.setArrivals p l).flash = s.flash := rfl
@[simp] theorem State.setArrivals_frame (s : State) (p : Nat) (l : List Arrival) : (s.setArrivals p l).frame = s.frame := rfl
@[simp] theorem State.setArrivals_time (s : State) (p : Nat) (l : List Arrival) : (s.setArrivals p l).time = s.time := rfl
@[simp] theorem State.setArrivals_lanes (s : State) (p : Nat) (l : List Arrival) : (s.setArrivals p l).lanes = s.lanes := rfl
@[simp] theorem State.setArrivals_links (s : State) (p : Nat) (l : List Arrival) : (s.setArrivals p l).links = s.links := rfl
@[simp] theorem State.setArrivals_adps (s : State) (p : Nat) (l : List Arrival) : (s.setArrivals p l).adps = s.adps := rfl
@[simp] theorem State.setArrivals_engs (s : State) (p : Nat) (l : List Arrival) : (s.setArrivals p l).engs = s.engs := rfl
@[simp] theorem State.setArrivals_scheds (s : State) (p : Nat) (l : List Arrival) : (s.setArrivals p l).scheds = s.scheds := rfl
@[simp] theorem State.setArrivals_pol (s : State) (p : Nat) (l : List Arrival) : (s.setArrivals p l).pol = s.pol := rfl
@[simp] theorem State.setArrivals_clk (s : State) (p : Nat) (l : List Arrival) : (s.setArrivals p l).clk = s.clk := rfl
@[simp] theorem State.setArrivals_pwr (s : State) (p : Nat) (l : List Arrival) : (s.setArrivals p l).pwr = s.pwr := rfl
@[simp] theorem State.setArrivals_fuses (s : State) (p : Nat) (l : List Arrival) : (s.setArrivals p l).fuses = s.fuses := rfl
@[simp] theorem State.setArrivals_keys (s : State) (p : Nat) (l : List Arrival) : (s.setArrivals p l).keys = s.keys := rfl
@[simp] theorem State.setArrivals_img (s : State) (p : Nat) (l : List Arrival) : (s.setArrivals p l).img = s.img := rfl
@[simp] theorem State.setArrivals_cmd (s : State) (p : Nat) (l : List Arrival) : (s.setArrivals p l).cmd = s.cmd := rfl
@[simp] theorem State.setArrivals_test (s : State) (p : Nat) (l : List Arrival) : (s.setArrivals p l).test = s.test := rfl
@[simp] theorem State.setArrivals_uptime (s : State) (p : Nat) (l : List Arrival) : (s.setArrivals p l).uptime = s.uptime := rfl
@[simp] theorem State.setArrivals_pipes (s : State) (p : Nat) (l : List Arrival) : (s.setArrivals p l).pipes = s.pipes := rfl
@[simp] theorem State.setArrivals_brg (s : State) (p : Nat) (l : List Arrival) : (s.setArrivals p l).brg = s.brg := rfl
@[simp] theorem State.setArrivals_usb (s : State) (p : Nat) (l : List Arrival) : (s.setArrivals p l).usb = s.usb := rfl
@[simp] theorem State.setArrivals_macs (s : State) (p : Nat) (l : List Arrival) : (s.setArrivals p l).macs = s.macs := rfl
@[simp] theorem State.setArrivals_tm (s : State) (p : Nat) (l : List Arrival) : (s.setArrivals p l).tm = s.tm := rfl
@[simp] theorem State.setArrivals_pds (s : State) (p : Nat) (l : List Arrival) : (s.setArrivals p l).pds = s.pds := rfl
@[simp] theorem State.setArrivals_efs (s : State) (p : Nat) (l : List Arrival) : (s.setArrivals p l).efs = s.efs := rfl
@[simp] theorem State.setArrivals_dom (s : State) (p : Nat) (l : List Arrival) : (s.setArrivals p l).dom = s.dom := rfl
@[simp] theorem State.setArrivals_out (s : State) (p : Nat) (l : List Arrival) : (s.setArrivals p l).out = s.out := rfl
@[simp] theorem State.setArrivals_free (s : State) (p : Nat) (l : List Arrival) : (s.setArrivals p l).free = s.free := rfl
@[simp] theorem State.setArrivals_pending (s : State) (p : Nat) (l : List Arrival) : (s.setArrivals p l).pending = s.pending := rfl
@[simp] theorem State.setArrivals_reg (s : State) (p : Nat) (l : List Arrival) (r : Nat) : (s.setArrivals p l).reg r = s.reg r := rfl
@[simp] theorem State.setArrivals_rd (s : State) (p : Nat) (l : List Arrival) (d : Fld) : (s.setArrivals p l).rd d = s.rd d := rfl
@[simp] theorem State.setArrivals_on (s : State) (p : Nat) (l : List Arrival) (d : Fld) : (s.setArrivals p l).on d = s.on d := rfl

/-! ### `modVdsp` -/

@[simp] theorem State.modVdsp_regs (s : State) (a : Nat) (f : VdspSt → VdspSt) : (s.modVdsp a f).regs = s.regs := rfl
@[simp] theorem State.modVdsp_mem (s : State) (a : Nat) (f : VdspSt → VdspSt) : (s.modVdsp a f).mem = s.mem := rfl
@[simp] theorem State.modVdsp_flash (s : State) (a : Nat) (f : VdspSt → VdspSt) : (s.modVdsp a f).flash = s.flash := rfl
@[simp] theorem State.modVdsp_frame (s : State) (a : Nat) (f : VdspSt → VdspSt) : (s.modVdsp a f).frame = s.frame := rfl
@[simp] theorem State.modVdsp_time (s : State) (a : Nat) (f : VdspSt → VdspSt) : (s.modVdsp a f).time = s.time := rfl
@[simp] theorem State.modVdsp_lanes (s : State) (a : Nat) (f : VdspSt → VdspSt) : (s.modVdsp a f).lanes = s.lanes := rfl
@[simp] theorem State.modVdsp_links (s : State) (a : Nat) (f : VdspSt → VdspSt) : (s.modVdsp a f).links = s.links := rfl
@[simp] theorem State.modVdsp_adps (s : State) (a : Nat) (f : VdspSt → VdspSt) : (s.modVdsp a f).adps = s.adps := rfl
@[simp] theorem State.modVdsp_engs (s : State) (a : Nat) (f : VdspSt → VdspSt) : (s.modVdsp a f).engs = s.engs := rfl
@[simp] theorem State.modVdsp_sw (s : State) (a : Nat) (f : VdspSt → VdspSt) : (s.modVdsp a f).sw = s.sw := rfl
@[simp] theorem State.modVdsp_scheds (s : State) (a : Nat) (f : VdspSt → VdspSt) : (s.modVdsp a f).scheds = s.scheds := rfl
@[simp] theorem State.modVdsp_pol (s : State) (a : Nat) (f : VdspSt → VdspSt) : (s.modVdsp a f).pol = s.pol := rfl
@[simp] theorem State.modVdsp_clk (s : State) (a : Nat) (f : VdspSt → VdspSt) : (s.modVdsp a f).clk = s.clk := rfl
@[simp] theorem State.modVdsp_pwr (s : State) (a : Nat) (f : VdspSt → VdspSt) : (s.modVdsp a f).pwr = s.pwr := rfl
@[simp] theorem State.modVdsp_fuses (s : State) (a : Nat) (f : VdspSt → VdspSt) : (s.modVdsp a f).fuses = s.fuses := rfl
@[simp] theorem State.modVdsp_keys (s : State) (a : Nat) (f : VdspSt → VdspSt) : (s.modVdsp a f).keys = s.keys := rfl
@[simp] theorem State.modVdsp_img (s : State) (a : Nat) (f : VdspSt → VdspSt) : (s.modVdsp a f).img = s.img := rfl
@[simp] theorem State.modVdsp_cmd (s : State) (a : Nat) (f : VdspSt → VdspSt) : (s.modVdsp a f).cmd = s.cmd := rfl
@[simp] theorem State.modVdsp_test (s : State) (a : Nat) (f : VdspSt → VdspSt) : (s.modVdsp a f).test = s.test := rfl
@[simp] theorem State.modVdsp_uptime (s : State) (a : Nat) (f : VdspSt → VdspSt) : (s.modVdsp a f).uptime = s.uptime := rfl
@[simp] theorem State.modVdsp_pipes (s : State) (a : Nat) (f : VdspSt → VdspSt) : (s.modVdsp a f).pipes = s.pipes := rfl
@[simp] theorem State.modVdsp_usb (s : State) (a : Nat) (f : VdspSt → VdspSt) : (s.modVdsp a f).usb = s.usb := rfl
@[simp] theorem State.modVdsp_macs (s : State) (a : Nat) (f : VdspSt → VdspSt) : (s.modVdsp a f).macs = s.macs := rfl
@[simp] theorem State.modVdsp_tm (s : State) (a : Nat) (f : VdspSt → VdspSt) : (s.modVdsp a f).tm = s.tm := rfl
@[simp] theorem State.modVdsp_pds (s : State) (a : Nat) (f : VdspSt → VdspSt) : (s.modVdsp a f).pds = s.pds := rfl
@[simp] theorem State.modVdsp_efs (s : State) (a : Nat) (f : VdspSt → VdspSt) : (s.modVdsp a f).efs = s.efs := rfl
@[simp] theorem State.modVdsp_dom (s : State) (a : Nat) (f : VdspSt → VdspSt) : (s.modVdsp a f).dom = s.dom := rfl
@[simp] theorem State.modVdsp_out (s : State) (a : Nat) (f : VdspSt → VdspSt) : (s.modVdsp a f).out = s.out := rfl
@[simp] theorem State.modVdsp_free (s : State) (a : Nat) (f : VdspSt → VdspSt) : (s.modVdsp a f).free = s.free := rfl
@[simp] theorem State.modVdsp_pending (s : State) (a : Nat) (f : VdspSt → VdspSt) : (s.modVdsp a f).pending = s.pending := rfl
@[simp] theorem State.modVdsp_reg (s : State) (a : Nat) (f : VdspSt → VdspSt) (r : Nat) : (s.modVdsp a f).reg r = s.reg r := rfl
@[simp] theorem State.modVdsp_rd (s : State) (a : Nat) (f : VdspSt → VdspSt) (d : Fld) : (s.modVdsp a f).rd d = s.rd d := rfl
@[simp] theorem State.modVdsp_on (s : State) (a : Nat) (f : VdspSt → VdspSt) (d : Fld) : (s.modVdsp a f).on d = s.on d := rfl

/-! ### `modGroup` -/

@[simp] theorem State.modGroup_regs (s : State) (g : Nat) (f : GroupSt → GroupSt) : (s.modGroup g f).regs = s.regs := rfl
@[simp] theorem State.modGroup_mem (s : State) (g : Nat) (f : GroupSt → GroupSt) : (s.modGroup g f).mem = s.mem := rfl
@[simp] theorem State.modGroup_flash (s : State) (g : Nat) (f : GroupSt → GroupSt) : (s.modGroup g f).flash = s.flash := rfl
@[simp] theorem State.modGroup_frame (s : State) (g : Nat) (f : GroupSt → GroupSt) : (s.modGroup g f).frame = s.frame := rfl
@[simp] theorem State.modGroup_time (s : State) (g : Nat) (f : GroupSt → GroupSt) : (s.modGroup g f).time = s.time := rfl
@[simp] theorem State.modGroup_lanes (s : State) (g : Nat) (f : GroupSt → GroupSt) : (s.modGroup g f).lanes = s.lanes := rfl
@[simp] theorem State.modGroup_links (s : State) (g : Nat) (f : GroupSt → GroupSt) : (s.modGroup g f).links = s.links := rfl
@[simp] theorem State.modGroup_adps (s : State) (g : Nat) (f : GroupSt → GroupSt) : (s.modGroup g f).adps = s.adps := rfl
@[simp] theorem State.modGroup_engs (s : State) (g : Nat) (f : GroupSt → GroupSt) : (s.modGroup g f).engs = s.engs := rfl
@[simp] theorem State.modGroup_sw (s : State) (g : Nat) (f : GroupSt → GroupSt) : (s.modGroup g f).sw = s.sw := rfl
@[simp] theorem State.modGroup_scheds (s : State) (g : Nat) (f : GroupSt → GroupSt) : (s.modGroup g f).scheds = s.scheds := rfl
@[simp] theorem State.modGroup_pol (s : State) (g : Nat) (f : GroupSt → GroupSt) : (s.modGroup g f).pol = s.pol := rfl
@[simp] theorem State.modGroup_clk (s : State) (g : Nat) (f : GroupSt → GroupSt) : (s.modGroup g f).clk = s.clk := rfl
@[simp] theorem State.modGroup_pwr (s : State) (g : Nat) (f : GroupSt → GroupSt) : (s.modGroup g f).pwr = s.pwr := rfl
@[simp] theorem State.modGroup_fuses (s : State) (g : Nat) (f : GroupSt → GroupSt) : (s.modGroup g f).fuses = s.fuses := rfl
@[simp] theorem State.modGroup_keys (s : State) (g : Nat) (f : GroupSt → GroupSt) : (s.modGroup g f).keys = s.keys := rfl
@[simp] theorem State.modGroup_img (s : State) (g : Nat) (f : GroupSt → GroupSt) : (s.modGroup g f).img = s.img := rfl
@[simp] theorem State.modGroup_cmd (s : State) (g : Nat) (f : GroupSt → GroupSt) : (s.modGroup g f).cmd = s.cmd := rfl
@[simp] theorem State.modGroup_test (s : State) (g : Nat) (f : GroupSt → GroupSt) : (s.modGroup g f).test = s.test := rfl
@[simp] theorem State.modGroup_uptime (s : State) (g : Nat) (f : GroupSt → GroupSt) : (s.modGroup g f).uptime = s.uptime := rfl
@[simp] theorem State.modGroup_pipes (s : State) (g : Nat) (f : GroupSt → GroupSt) : (s.modGroup g f).pipes = s.pipes := rfl
@[simp] theorem State.modGroup_usb (s : State) (g : Nat) (f : GroupSt → GroupSt) : (s.modGroup g f).usb = s.usb := rfl
@[simp] theorem State.modGroup_macs (s : State) (g : Nat) (f : GroupSt → GroupSt) : (s.modGroup g f).macs = s.macs := rfl
@[simp] theorem State.modGroup_tm (s : State) (g : Nat) (f : GroupSt → GroupSt) : (s.modGroup g f).tm = s.tm := rfl
@[simp] theorem State.modGroup_pds (s : State) (g : Nat) (f : GroupSt → GroupSt) : (s.modGroup g f).pds = s.pds := rfl
@[simp] theorem State.modGroup_efs (s : State) (g : Nat) (f : GroupSt → GroupSt) : (s.modGroup g f).efs = s.efs := rfl
@[simp] theorem State.modGroup_dom (s : State) (g : Nat) (f : GroupSt → GroupSt) : (s.modGroup g f).dom = s.dom := rfl
@[simp] theorem State.modGroup_out (s : State) (g : Nat) (f : GroupSt → GroupSt) : (s.modGroup g f).out = s.out := rfl
@[simp] theorem State.modGroup_free (s : State) (g : Nat) (f : GroupSt → GroupSt) : (s.modGroup g f).free = s.free := rfl
@[simp] theorem State.modGroup_pending (s : State) (g : Nat) (f : GroupSt → GroupSt) : (s.modGroup g f).pending = s.pending := rfl
@[simp] theorem State.modGroup_reg (s : State) (g : Nat) (f : GroupSt → GroupSt) (r : Nat) : (s.modGroup g f).reg r = s.reg r := rfl
@[simp] theorem State.modGroup_rd (s : State) (g : Nat) (f : GroupSt → GroupSt) (d : Fld) : (s.modGroup g f).rd d = s.rd d := rfl
@[simp] theorem State.modGroup_on (s : State) (g : Nat) (f : GroupSt → GroupSt) (d : Fld) : (s.modGroup g f).on d = s.on d := rfl

/-! ### `modTport` -/

@[simp] theorem State.modTport_regs (s : State) (k : Nat) (f : TunnelPortSt → TunnelPortSt) : (s.modTport k f).regs = s.regs := rfl
@[simp] theorem State.modTport_mem (s : State) (k : Nat) (f : TunnelPortSt → TunnelPortSt) : (s.modTport k f).mem = s.mem := rfl
@[simp] theorem State.modTport_flash (s : State) (k : Nat) (f : TunnelPortSt → TunnelPortSt) : (s.modTport k f).flash = s.flash := rfl
@[simp] theorem State.modTport_frame (s : State) (k : Nat) (f : TunnelPortSt → TunnelPortSt) : (s.modTport k f).frame = s.frame := rfl
@[simp] theorem State.modTport_time (s : State) (k : Nat) (f : TunnelPortSt → TunnelPortSt) : (s.modTport k f).time = s.time := rfl
@[simp] theorem State.modTport_lanes (s : State) (k : Nat) (f : TunnelPortSt → TunnelPortSt) : (s.modTport k f).lanes = s.lanes := rfl
@[simp] theorem State.modTport_links (s : State) (k : Nat) (f : TunnelPortSt → TunnelPortSt) : (s.modTport k f).links = s.links := rfl
@[simp] theorem State.modTport_adps (s : State) (k : Nat) (f : TunnelPortSt → TunnelPortSt) : (s.modTport k f).adps = s.adps := rfl
@[simp] theorem State.modTport_engs (s : State) (k : Nat) (f : TunnelPortSt → TunnelPortSt) : (s.modTport k f).engs = s.engs := rfl
@[simp] theorem State.modTport_sw (s : State) (k : Nat) (f : TunnelPortSt → TunnelPortSt) : (s.modTport k f).sw = s.sw := rfl
@[simp] theorem State.modTport_scheds (s : State) (k : Nat) (f : TunnelPortSt → TunnelPortSt) : (s.modTport k f).scheds = s.scheds := rfl
@[simp] theorem State.modTport_pol (s : State) (k : Nat) (f : TunnelPortSt → TunnelPortSt) : (s.modTport k f).pol = s.pol := rfl
@[simp] theorem State.modTport_clk (s : State) (k : Nat) (f : TunnelPortSt → TunnelPortSt) : (s.modTport k f).clk = s.clk := rfl
@[simp] theorem State.modTport_pwr (s : State) (k : Nat) (f : TunnelPortSt → TunnelPortSt) : (s.modTport k f).pwr = s.pwr := rfl
@[simp] theorem State.modTport_fuses (s : State) (k : Nat) (f : TunnelPortSt → TunnelPortSt) : (s.modTport k f).fuses = s.fuses := rfl
@[simp] theorem State.modTport_keys (s : State) (k : Nat) (f : TunnelPortSt → TunnelPortSt) : (s.modTport k f).keys = s.keys := rfl
@[simp] theorem State.modTport_img (s : State) (k : Nat) (f : TunnelPortSt → TunnelPortSt) : (s.modTport k f).img = s.img := rfl
@[simp] theorem State.modTport_cmd (s : State) (k : Nat) (f : TunnelPortSt → TunnelPortSt) : (s.modTport k f).cmd = s.cmd := rfl
@[simp] theorem State.modTport_test (s : State) (k : Nat) (f : TunnelPortSt → TunnelPortSt) : (s.modTport k f).test = s.test := rfl
@[simp] theorem State.modTport_uptime (s : State) (k : Nat) (f : TunnelPortSt → TunnelPortSt) : (s.modTport k f).uptime = s.uptime := rfl
@[simp] theorem State.modTport_pipes (s : State) (k : Nat) (f : TunnelPortSt → TunnelPortSt) : (s.modTport k f).pipes = s.pipes := rfl
@[simp] theorem State.modTport_brg (s : State) (k : Nat) (f : TunnelPortSt → TunnelPortSt) : (s.modTport k f).brg = s.brg := rfl
@[simp] theorem State.modTport_macs (s : State) (k : Nat) (f : TunnelPortSt → TunnelPortSt) : (s.modTport k f).macs = s.macs := rfl
@[simp] theorem State.modTport_tm (s : State) (k : Nat) (f : TunnelPortSt → TunnelPortSt) : (s.modTport k f).tm = s.tm := rfl
@[simp] theorem State.modTport_pds (s : State) (k : Nat) (f : TunnelPortSt → TunnelPortSt) : (s.modTport k f).pds = s.pds := rfl
@[simp] theorem State.modTport_efs (s : State) (k : Nat) (f : TunnelPortSt → TunnelPortSt) : (s.modTport k f).efs = s.efs := rfl
@[simp] theorem State.modTport_dom (s : State) (k : Nat) (f : TunnelPortSt → TunnelPortSt) : (s.modTport k f).dom = s.dom := rfl
@[simp] theorem State.modTport_out (s : State) (k : Nat) (f : TunnelPortSt → TunnelPortSt) : (s.modTport k f).out = s.out := rfl
@[simp] theorem State.modTport_free (s : State) (k : Nat) (f : TunnelPortSt → TunnelPortSt) : (s.modTport k f).free = s.free := rfl
@[simp] theorem State.modTport_pending (s : State) (k : Nat) (f : TunnelPortSt → TunnelPortSt) : (s.modTport k f).pending = s.pending := rfl
@[simp] theorem State.modTport_reg (s : State) (k : Nat) (f : TunnelPortSt → TunnelPortSt) (r : Nat) : (s.modTport k f).reg r = s.reg r := rfl
@[simp] theorem State.modTport_rd (s : State) (k : Nat) (f : TunnelPortSt → TunnelPortSt) (d : Fld) : (s.modTport k f).rd d = s.rd d := rfl
@[simp] theorem State.modTport_on (s : State) (k : Nat) (f : TunnelPortSt → TunnelPortSt) (d : Fld) : (s.modTport k f).on d = s.on d := rfl

/-! ### What an update of one instance leaves in it -/

@[simp] theorem State.pipe_modPipe (s : State) (n : Nat) (f : PipeSt → PipeSt) : (s.modPipe n f).pipe n = f (s.pipe n) := Tab.get_put_self _ _ _ _
@[simp] theorem State.mac_modMac (s : State) (n : Nat) (f : MacSt → MacSt) : (s.modMac n f).mac n = f (s.mac n) := Tab.get_put_self _ _ _ _
@[simp] theorem State.pd_modPd (s : State) (n : Nat) (f : PdSt → PdSt) : (s.modPd n f).pd n = f (s.pd n) := Tab.get_put_self _ _ _ _
@[simp] theorem State.ef_modEf (s : State) (n : Nat) (f : EfSt → EfSt) : (s.modEf n f).ef n = f (s.ef n) := Tab.get_put_self _ _ _ _
@[simp] theorem State.lane_modLane (s : State) (n : Nat) (f : LaneSt → LaneSt) : (s.modLane n f).lane n = f (s.lane n) := Tab.get_put_self _ _ _ _
@[simp] theorem State.vdsp_modVdsp (s : State) (n : Nat) (f : VdspSt → VdspSt) : (s.modVdsp n f).vdsp n = f (s.vdsp n) := Tab.get_put_self _ _ _ _
@[simp] theorem State.group_modGroup (s : State) (n : Nat) (f : GroupSt → GroupSt) : (s.modGroup n f).group n = f (s.group n) := Tab.get_put_self _ _ _ _
@[simp] theorem State.tport_modTport (s : State) (n : Nat) (f : TunnelPortSt → TunnelPortSt) : (s.modTport n f).tport n = f (s.tport n) :=
  Tab.get_put_self _ _ _ _
@[simp] theorem State.stored_setStored (s : State) (n : Nat) (v : Option Stored) : (s.setStored n v).stored n = v := Tab.get_put_self _ _ _ _
@[simp] theorem State.voq_setVoq (s : State) (n : Nat) (l : List Ref) : (s.setVoq n l).voq n = l := Tab.get_put_self _ _ _ _
@[simp] theorem State.stage_setStage (s : State) (n : Nat) (l : List StageCell) : (s.setStage n l).stage n = l := Tab.get_put_self _ _ _ _
@[simp] theorem State.arrivals_setArrivals (s : State) (n : Nat) (l : List Arrival) : (s.setArrivals n l).arrivals n = l := Tab.get_put_self _ _ _ _
@[simp] theorem State.voq_setStored (s : State) (n i : Nat) (v : Option Stored) : (s.setStored n v).voq i = s.voq i := rfl
@[simp] theorem State.stored_setVoq (s : State) (n i : Nat) (l : List Ref) : (s.setVoq n l).stored i = s.stored i := rfl
@[simp] theorem State.stored_setStage (s : State) (n i : Nat) (l : List StageCell) : (s.setStage n l).stored i = s.stored i := rfl
@[simp] theorem State.stored_setArrivals (s : State) (n i : Nat) (l : List Arrival) : (s.setArrivals n l).stored i = s.stored i := rfl

end Sys2Proof.Machine
end

