-- ==== Sys2Proof/WellFormed.lean ====
section
/-!
DEFINITION. Which commands are well formed: the ranges of operands that their types do not fix. A meaning is total and does not ask it; a sender of the
rules' kind gives well-formed commands only.
-/

namespace Sys2Proof

/-- An owner is a transport (R417), its hub address 14 bits wide (R18); the ROM sends no command frame. -/
def Machine.Owner.wf (o : Machine.Owner) : Bool :=
  match o with
  | .a0 hub => decide (hub < 16384)
  | .usb => true
  | .smbus => true
  | .rom => false

/-- A domain time within its counters (R12). -/
def Machine.Time.wf (t : Machine.Time) : Bool := decide (t.sec < 2 ^ 48 ∧ t.ns < 1000000000 ∧ t.frac < 2 ^ 32)

/-- A picture format within its fields (R203). -/
def Machine.DispFormat.wf (f : Machine.DispFormat) : Bool := decide (f.fmt < 16 ∧ f.width < 65536 ∧ f.height < 65536)

/-- A clock that CK_MON_SRC can name (R349, R359). -/
def Machine.ClockSource.wf (c : Machine.ClockSource) : Bool :=
  match c with
  | .reference => true
  | .rootPll => true
  | .derived n => decide (n < 256)
  | .local _ => true

/-- A list no longer than `n`. -/
def shortList {α : Type} (l : List α) (n : Nat) : Bool := decide (l.length ≤ n)

def Instr.wf (i : Instr) : Bool :=
  match i with
  | .markerBlockReceive _ _ _ _ _ _ => true
  | .dataBlockReceive _ _ => true
  | .codewordReceive _ a b c => decide (a.length = 136) && decide (b.length = 136) && decide (c.length = 136)
  | .trainingFrameReceive _ _ _ _ => true
  | .trainingStepDone _ _ => true
  | .qualWindowEnd _ _ _ => true
  | .trainingRetry _ => true
  | .testWrite _ _ _ => true
  | .giveLane _ => true
  | .lockPatternEnd _ => true
  | .joinMarkerReceive _ _ => true
  | .leadFail _ => true
  | .laneRetrainDone _ _ => true
  | .lowPowerEnter _ => true
  | .esStart _ _ _ => true
  | .esStop _ _ _ => true
  | .esDone _ _ => true
  | .patClear _ _ _ => true
  | .patLocked seen => decide (64 ≤ seen.bits.length)
  | .patLockDrop _ _ _ => true
  | .injFire _ _ _ => true
  | .injInterval _ => true
  | .cellReceive _ => true
  | .packetClassTimeout _ _ => true
  | .creditTimer _ => true
  | .versionOffer _ _ _ _ _ _ => true
  | .versionOfferRepeat _ => true
  | .versionAck _ _ => true
  | .versionTimeout _ => true
  | .creditInit _ init => decide (init.length = 8)
  | .credit _ cum => decide (cum.length = 8)
  | .planFlip _ _ _ => true
  | .leadChange _ _ _ _ _ => true
  | .leadResult _ _ _ _ => true
  | .laneFault _ _ _ => true
  | .restripe _ _ _ => true
  | .lowPower _ _ _ _ => true
  | .authHello _ _ _ => true
  | .authCert _ _ _ _ => true
  | .authKeyshare _ _ _ => true
  | .authFinish _ _ => true
  | .authFail _ _ => true
  | .authStepTimeout _ => true
  | .authRetry _ => true
  | .rekeyTrigger _ => true
  | .keyUpdate _ _ => true
  | .keyUpdateAck _ _ => true
  | .syncExchange _ => true
  | .sync _ _ => true
  | .syncFollow _ _ t1 => t1.wf
  | .delayReq _ _ => true
  | .delayResp _ _ t4 => t4.wf
  | .roleSwapReq _ _ _ => true
  | .roleSwapAck _ _ => true
  | .linkDown _ _ => true
  | .echo _ _ => true
  | .echoReply _ _ => true
  | .wakePatternRepeat _ => true
  | .wakePatternDetect _ => true
  | .enumProbe _ _ => true
  | .enumReply _ _ _ _ _ _ _ _ => true
  | .addrAssign _ _ _ _ => true
  | .routeSet _ _ entries => shortList entries 12
  | .routeAck _ _ _ => true
  | .floorGossip _ _ _ => true
  | .gmAnnounce _ _ _ _ _ => true
  | .hubGone _ => true
  | .eventNotify _ entry => decide (32 ≤ entry.length)
  | .pathProbe _ sent => sent.wf
  | .tunnelOpen _ _ _ _ _ _ => true
  | .tunnelClose _ _ => true
  | .confirm _ _ _ => true
  | .command _ _ _ => true
  | .translatePacket => true
  | .nativeUnitDispatch _ _ _ => true
  | .workItemComplete _ => true
  | .steal _ => true
  | .xsteal _ => true
  | .stealMoveDone _ => true
  | .egressQueueRoom _ => true
  | .egressPacketArrive _ => true
  | .rsqTmo _ => true
  | .packetAdmit _ => true
  | .reserveWaitAdmit _ => true
  | .crossbarGrant _ _ _ => true
  | .mirrorSend => true
  | .auditPeriod => true
  | .farrierStart _ _ => true
  | .auditComplete _ => true
  | .cellSlot _ => true
  | .gateEntryEnd _ => true
  | .epochBoundary => true
  | .decisionPoint => true
  | .armWrite _ _ => true
  | .disarmWrite _ _ => true
  | .probeStart _ => true
  | .peerAnnounce _ => true
  | .gmAnnounceTimer => true
  | .gmAnnounceExpire _ => true
  | .paddockArrive => true
  | .paddockRelease => true
  | .floorGossipTimer => true
  | .floorRecordLapse => true
  | .captureFrameStart _ f _ => f.wf
  | .tileExtract _ => true
  | .refreshPeriod _ => true
  | .captureNoFrame _ => true
  | .hpdLowEnd _ => true
  | .hpdHoldExpire _ => true
  | .pushTailWrite _ _ _ => true
  | .pushRecordSend _ => true
  | .tileRecord _ record _ => shortList record 65536
  | .frameEnd _ _ _ _ => true
  | .format _ f => f.wf
  | .refreshReq _ _ _ => true
  | .sinkEdid _ _ _ block => decide (block.length = 128)
  | .sinkStatus _ _ _ _ => true
  | .hdcpTopo _ _ _ _ _ ids => decide (ids.length % 5 = 0)
  | .vblankStart _ _ => true
  | .stretchEnd _ => true
  | .scanoutFrameStart _ => true
  | .commitTmo _ => true
  | .refreshReqRepeat _ => true
  | .sinkStatusTimer _ => true
  | .underrun _ => true
  | .dpLoss _ => true
  | .hpdReturn _ edid => edid.all fun b => decide (b.length = 128)
  | .relayInputStop _ => true
  | .mcReady _ => true
  | .tlpRecord _ record _ _ _ => shortList record 4116
  | .linkState _ _ _ _ => true
  | .linkStateTimer _ => true
  | .pcieLinkChange _ _ _ _ => true
  | .resetRecord _ _ => true
  | .pbErrorRecord _ _ _ _ _ => true
  | .powerControllerControl _ _ => true
  | .secondaryBusReset _ => true
  | .pcieAck _ _ => true
  | .confirmTimeout _ => true
  | .cplTimeout _ => true
  | .perstRelease _ => true
  | .readRecord _ _ _ _ => true
  | .writeRecord _ _ _ data _ _ => shortList data 256
  | .readResp _ _ _ data => shortList data 32
  | .rbErrorRecord _ _ _ _ => true
  | .i2cDone _ data => shortList data 32
  | .rbReadTimeout _ => true
  | .signalAccept _ _ => true
  | .groupUpdate _ => true
  | .updateReceive _ _ _ edges _ => shortList edges 32
  | .timedApply _ => true
  | .stale _ => true
  | .upstreamConnect _ _ => true
  | .headerRecord _ header => decide (header.length = 12)
  | .dataRecord _ header data => decide (header.length = 12) && shortList data 1024
  | .itpRecord _ _ itp => decide (itp.length = 12)
  | .itpRelease _ => true
  | .usb3PortRecord _ _ => true
  | .hostToken _ _ => true
  | .xfer _ _ _ _ _ data _ _ rdata => shortList data 1024 && shortList rdata 1024
  | .result _ _ _ _ _ _ data => shortList data 1024
  | .sofRecord _ _ _ => true
  | .sofRelease => true
  | .sofLate => true
  | .usb2PortRecord _ _ => true
  | .usbAttachDebounce _ _ _ => true
  | .overcurrent _ => true
  | .suspendEntry => true
  | .remoteWake _ => true
  | .sendCommand wLength data _ => decide (data.length ≤ wLength.val)
  | .getResponse _ _ => true
  | .bulkFrame _ _ => true
  | .busReset => true
  | .frameReceive _ frame _ stamp => shortList frame 16384 && stamp.wf
  | .pfcRepeat _ _ => true
  | .pfcFrame _ pfc _ quanta => decide (quanta.length = if pfc then 8 else 1)
  | .pauseExpire _ _ => true
  | .frameTransmit _ => true
  | .ethLinkChange _ _ _ => true
  | .txtsHeadRead _ _ => true
  | .secondsRollover => true
  | .tmNsRead _ => true
  | .servoSample _ _ _ => true
  | .sourceNoSample => true
  | .acquireTimer => true
  | .tmCmdStep _ => true
  | .ppsInEdge t => t.wf
  | .ppsMiss => true
  | .gptpSyncTimer _ => true
  | .pdelayTimer _ => true
  | .ccAttachDebounce _ _ _ _ => true
  | .detach _ => true
  | .sourceCapTimer _ => true
  | .sourceCapabilities _ caps epr _ => decide (1 ≤ caps.length ∧ caps.length ≤ if epr then 11 else 7)
  | .request _ _ _ _ _ => true
  | .transitionDone _ => true
  | .psRdy _ => true
  | .sinkCapabilities _ caps epr _ _ => decide (1 ≤ caps.length ∧ caps.length ≤ if epr then 11 else 7)
  | .ppsRequestTimeout _ => true
  | .ppsRequestTimer _ => true
  | .eprMode _ _ => true
  | .eprKeepalive _ => true
  | .eprKeepaliveTimeout _ => true
  | .eprKeepaliveTimer _ => true
  | .capsCutTimeout _ => true
  | .prSwap _ => true
  | .drSwap _ => true
  | .vconnSwap _ => true
  | .swapRetry _ => true
  | .vconnOc _ => true
  | .frSwap _ => true
  | .frsSignalDetect _ => true
  | .retakeTimer => true
  | .vbusRangeFault _ => true
  | .hardReset _ => true
  | .discoverIdentity _ _ _ _ _ _ => true
  | .discoverSvids _ _ _ => true
  | .discoverModes _ _ _ _ => true
  | .enterMode _ _ _ => true
  | .exitMode _ _ => true
  | .configure _ _ => true
  | .attention _ => true
  | .pdFirmwareMessage _ _ _ => true
  | .pdFwTimeout _ => true
  | .shortCircuit _ => true
  | .limitStart _ => true
  | .faultTimerExpire _ => true
  | .faultTimerClear _ => true
  | .pgRise _ => true
  | .channelClose _ _ => true
  | .channelOpen _ => true
  | .reverse _ => true
  | .windowEnter _ => true
  | .insertionDebounce _ => true
  | .prechargeDone _ => true
  | .prechargeTimeout _ => true
  | .windowFault _ _ => true
  | .reverseBlock _ => true
  | .blockRelease _ => true
  | .inputValidChange => true
  | .retryTimerExpire _ => true
  | .tripsReset _ => true
  | .efCmdClear _ _ => true
  | .powerOnResetRelease _ => true
  | .pinReset => true
  | .testReset => true
  | .coreResetRelease => true
  | .coreSupplyFail => true
  | .refWindow _ => true
  | .rootPllLock => true
  | .rampStep _ => true
  | .rcTrimWindow _ => true
  | .sofTrimWindow _ => true
  | .clockEnableWrite _ _ => true
  | .clockFault c => c.wf
  | .referenceLoss => true
  | .lanePllUnlock _ => true
  | .refFailTimer => true
  | .pllLockTimeout => true
  | .warmResetWrite _ => true
  | .warmReset => true
  | .portResetWrite _ _ => true
  | .watchdogKick _ _ => true
  | .watchdogExpire => true
  | .psGoWrite _ _ => true
  | .handshakeRound => true
  | .delayExpire => true
  | .maxWaitExpire => true
  | .entryComplete => true
  | .wakeEvent _ _ => true
  | .wakeComplete _ => true
  | .wakeTimerExpire => true
  | .domainIdleOff _ => true
  | .domainWakeDone _ _ => true
  | .load _ _ => true
  | .loadWrapped _ _ => true
  | .unwrapLoad _ _ => true
  | .erase _ => true
  | .encrypt _ => true
  | .decrypt _ => true
  | .wrap _ => true
  | .derive _ => true
  | .keyUnitDone => true
  | .rngHealthFail => true
  | .drainComplete _ => true
  | .dbgauthChallenge => true
  | .dbgVerify _ pub sig => decide (pub.length = 97 ∧ sig.length = 96)
  | .dbgVerifyDone => true
  | .nonceLapse => true
  | .imageLoad _ => true
  | .txnIdleTimeout _ => true
  | .quietPoint _ _ _ => true
  | .drainTimeout => true
  | .getInfo o _ _ _ => o.wf
  | .echoCmd o _ _ _ _ => o.wf
  | .reset o _ _ _ _ _ => o.wf
  | .powerState o _ _ _ _ => o.wf
  | .notifyCfg o _ _ _ _ _ _ => o.wf
  | .begin o _ _ _ => o.wf
  | .stage o _ _ _ _ => o.wf
  | .stageRead o _ _ _ _ => o.wf
  | .commit o _ _ _ => o.wf
  | .rollback o _ _ _ => o.wf
  | .txnInfo o _ _ _ => o.wf
  | .imgInfo o _ _ _ => o.wf
  | .imgErase o _ _ _ _ => o.wf
  | .imgWrite o _ _ _ _ _ _ => o.wf
  | .imgRead o _ _ _ _ _ _ => o.wf
  | .imgCheck o _ _ _ _ => o.wf
  | .tunnelList o _ _ _ => o.wf
  | .tunnelStat o _ _ _ _ => o.wf
  | .tunnelReopen o _ _ _ _ => o.wf
  | .alStatus o _ _ _ _ => o.wf
  | .alTableWrite o _ _ _ _ _ _ => o.wf
  | .alArm o _ _ _ _ _ => o.wf
  | .policerRead o _ _ _ _ => o.wf
  | .linkStatus o _ _ _ _ => o.wf
  | .linkAction o _ _ _ _ _ => o.wf
  | .roleSwap o _ _ _ _ => o.wf
  | .eyeScan o _ _ _ _ _ _ _ _ _ _ => o.wf
  | .pdStatus o _ _ _ _ => o.wf
  | .pdAction o _ _ _ _ _ => o.wf
  | .efStatus o _ _ _ _ => o.wf
  | .efClear o _ _ _ _ => o.wf
  | .budgetStatus o _ _ _ => o.wf
  | .keyLoad o _ _ _ _ _ _ _ => o.wf
  | .keyOp o _ _ _ _ _ => o.wf
  | .keyErase o _ _ _ => o.wf
  | .rollbackAdv o _ _ _ _ => o.wf
  | .certRead o _ _ _ => o.wf
  | .gateViol o _ _ _ _ _ => o.wf
  | .logRead o _ _ _ _ _ => o.wf
  | .bistRun o _ _ _ _ => o.wf
  | .farrierRun o _ _ _ => o.wf
  | .timeGet o _ _ _ => o.wf
  | .timeStep o _ _ _ _ _ => o.wf
  | .txtsRead o _ _ _ _ _ => o.wf
  | .dispStatus o _ _ _ _ => o.wf
  | .dispEdid o _ _ _ _ _ => o.wf
  | .dispTopo o _ _ _ _ => o.wf
  | .domainStatus o _ _ _ => o.wf
  | .hubList o _ _ _ => o.wf
  | .hubRemove o _ _ _ _ => o.wf
  | .routeRead o _ _ _ _ _ => o.wf
  | .relay o _ _ _ _ _ _ => o.wf
  | .relayTimeout o => o.wf
  | .regRead o _ _ _ _ => o.wf
  | .regWrite o _ _ _ _ => o.wf
  | .regRmw o _ _ _ _ _ _ => o.wf
  | .rbRead o _ _ _ _ _ _ => o.wf
  | .rbWrite o _ _ _ _ _ _ _ => o.wf
  | .commandTimeout o => o.wf
  | .smbFrameStart _ data _ => decide (1 ≤ data.length ∧ data.length ≤ 255)
  | .smbFrameContinue _ data _ => decide (1 ≤ data.length ∧ data.length ≤ 255)
  | .smbResponseRead _ => true
  | .smbSelect _ _ => true
  | .smbSclTimeout => true
  | .bistStart _ _ => true
  | .bistDone _ => true
  | .rcCounterRead _ _ => true
  | .registerWrite _ _ data => decide (data.length ∈ [1, 2, 4, 8, 16, 32, 64])
  | .lowPowerExit _ => true
  | .localPllLock _ => true
  | .dpLinkTrained _ _ _ _ _ _ => true
  | .hdcpSessionAuth _ _ _ _ _ _ _ ids => decide (ids.length % 5 = 0)
  | .hubClassRequest _ _ => true
  | .portResetComplete _ => true
  | .upstreamResume => true
  | .ppsPulseEnd => true
  | .accept _ _ => true
  | .senderResponseTimeout _ => true
  | .sourceRecover _ => true
  | .modeExitWait _ => true
  | .interruptEndpointRead _ => true
  | .alertResponse => true
  | .relayInputFrame _ f _ => f.wf
  | .alwaysOnSupplyFail => true
  | .getPpsStatus _ _ _ => true

end Sys2Proof
end

