-- ==== Sys2Proof/Tests/Slice0.lean ====
section
/-!
SUPPORT. Tests: results the spec's worked examples give, a term that each check of well-formedness refuses, and for every obligation a state and operands
that meet the hypotheses of each of its clauses together.
-/

open Sys2Proof Sys2Proof.Machine

namespace Sys2Proof.Tests

set_option Elab.async false


/-! ### The spec's worked examples -/

/-- The 512-byte PCIe write of R75: from A16 of hub 0 to A18 of hub 1, stamped at 1,205 s + 731,046,112 ns. -/
def exampleWrite : Packet :=
  { ver := 3, cls := 1, tc := 2, ackreq := true, dstHub := 1, dstAdp := 18, srcHub := 0, srcAdp := 16, seq := 0x1234, ts := 0x12B92E0E0, len := 512 }

/-- The wire bytes R75 prints for its header. -/
theorem test_packet_header : exampleWrite.header =
    [0x35, 0x10, 0x00, 0x44, 0x80, 0x00, 0x10, 0x40, 0x02, 0x46, 0x89, 0x5C, 0x97, 0x07, 0x00, 0x00] := by decide +kernel

/-- The stamp of R74 at 1,205 s + 731,046,112 ns. -/
theorem test_packet_stamp : ({ sec := 1205, ns := 731046112 } : Time).stamp = 0x12B92E0E0 := by decide +kernel

/-- The first cell of R75's table: header 0x6478_A765, 60 bytes, packet number 0xA7, 5 credits of traffic class 3. -/
theorem test_cell_header : Cell.ofBytes ([0x64, 0x78, 0xA7, 0x65] ++ be 60 0) =
    { kind := 1, first := true, last := false, tc := 2, tail := 0, data := be 60 0, kp := 0, pnLo := 0xA7, crTc := 3, crCnt := 5 } := by decide +kernel

/-- The last cell of R75's table with a failed tag, 0x548A_0000. -/
theorem test_cell_tail : (Cell.ofBytes ([0x54, 0x8A, 0x00, 0x00] ++ be 60 0)).tail = 1 := by decide +kernel

/-- The inner request of the relay that reads DS_STAT of pipe 1: the frame that stands in the chapter on commands. -/
theorem test_request_frame : requestFrame 0x0C00 0x0107 0 3 (addrBody [BitVec.ofNat 32 (DS_STAT 1)]) =
    [0x00, 0x0C, 0x07, 0x01, 0x00, 0x00, 0x00, 0x30, 0x08, 0, 0, 0, 0, 0, 0, 0, 0x01, 0, 0, 0, 0x04, 0x40, 0x60, 0x40] := by decide +kernel

/-- The inner response of the same example. -/
theorem test_response_frame : responseFrame 0x0C00 0x0107 0 3 stOk 0 (wordLe 0x223B#32) =
    [0x00, 0x0C, 0x07, 0x01, 0x00, 0x00, 0x01, 0x30, 0x0C, 0, 0, 0, 0, 0, 0, 0, 0, 0, 0, 0, 0, 0, 0, 0, 0x3B, 0x22, 0, 0] := by decide +kernel

/-- The value of DS_STAT in the same example: STATE 3, RATE 7, LANES 4, HPD 1. -/
theorem test_ds_stat_fields :
    ((((State.reset.wr (DS_STAT.STATE 1) 3).wr (DS_STAT.RATE 1) 7).wr (DS_STAT.LANES 1) 4).wr (DS_STAT.HPD 1) 1).reg (DS_STAT 1) = 0x223B#32 := by
  decide +kernel

/-- The increment of a hub whose reference runs 20 ppm fast, FREQ at −19,999.6 ppb moved by the 0.015 ppb of the stored fraction: 6 ns and the fraction 0x665E_02F6. -/
theorem test_increment : ((State.reset.wr TM_FREQ.FREQ (2 ^ 32 - 5119894)).applyIncrement 0 1).2.incEffective = 6 * 2 ^ 32 + 0x665E02F6 := by
  decide +kernel

/-- R10's example: three events, software writes 1 to the flag, a fourth event: the flag reads 1 and the count 4. -/
theorem test_event_count :
    let s := ((((State.reset.raise Ev.GC_ST_WRITE).raise Ev.GC_ST_WRITE).raise Ev.GC_ST_WRITE).wr GC_EVT.ST_WRITE 0).raise Ev.GC_ST_WRITE
    s.rd GC_EVT.ST_WRITE = 1 ∧ s.rd GC_EVT_CNT.ST_WRITE_CNT = 4 := by decide +kernel

/-! ### The line code -/

/-- The four levels of R30. -/
theorem test_pam4_levels : pam4Levels [false, false, false, true, true, true, true, false] = [-3, -1, 1, 3] := by decide +kernel

/-- α is a root of x¹⁰ + x³ + 1 and has order 1,023 (R39). -/
theorem test_field : gfAlpha 10 = gfAlpha 3 ^^^ 1#10 ∧ gfAlpha 1023 = 1#10 := by decide +kernel

/-- The generator polynomial vanishes at α⁰ to α¹⁵ and not at α¹⁶ (R39). -/
theorem test_generator :
    ((List.range 16).all fun i => polyAt (1#10 :: rsGen).reverse (gfAlpha i) == 0#10) = true ∧ polyAt (1#10 :: rsGen).reverse (gfAlpha 16) ≠ 0#10 := by
  decide +kernel

/-- The first bit of the first cell is the most significant bit of symbol 0 (R40). -/
theorem test_first_symbols :
    (cellSyms ((0x80#8 :: 0x40#8 :: List.replicate 62 0#8) :: List.replicate 4 (List.replicate 64 0#8))).take 2 = [0x201#10, 0#10] := by decide +kernel

/-- Bits 57 to 0 of the scrambler's seed (R38): BLOCK_CNT 1, lane 2. -/
theorem test_seed : scramblerSeed 1 2 = 0x6AA#58 := by decide +kernel

/-! ### Terms that well-formedness refuses -/

theorem test_wf_pattern : (Instr.patLocked ⟨0, List.replicate 63 true⟩).wf = false := by decide +kernel
theorem test_wf_credit_init : (Instr.creditInit 0 [0]).wf = false := by decide +kernel
theorem test_wf_credit : (Instr.credit 0 []).wf = false := by decide +kernel
theorem test_wf_sync_follow : (Instr.syncFollow 0 0 { ns := 1000000000 }).wf = false := by decide +kernel
theorem test_wf_delay_resp : (Instr.delayResp 0 0 { frac := 2 ^ 32 }).wf = false := by decide +kernel
theorem test_wf_route_set : (Instr.routeSet 0 0 (List.replicate 13 0)).wf = false := by decide +kernel
theorem test_wf_event_notify : (Instr.eventNotify 0 []).wf = false := by decide +kernel
theorem test_wf_path_probe : (Instr.pathProbe 0 { sec := 2 ^ 48 }).wf = false := by decide +kernel
theorem test_wf_capture_frame : (Instr.captureFrameStart 0 { fmt := 16 } []).wf = false := by decide +kernel
theorem test_wf_tile_record : (Instr.tileRecord 0 (List.replicate 65537 0) false).wf = false := by decide +kernel
theorem test_wf_format : (Instr.format 0 { width := 65536 }).wf = false := by decide +kernel
theorem test_wf_sink_edid : (Instr.sinkEdid 0 0 0 []).wf = false := by decide +kernel
theorem test_wf_hdcp_topo : (Instr.hdcpTopo 0 0 0 false false [0]).wf = false := by decide +kernel
theorem test_wf_hpd_return : (Instr.hpdReturn 0 [[]]).wf = false := by decide +kernel
theorem test_wf_tlp_record : (Instr.tlpRecord 0 (List.replicate 4117 0) 0 false none).wf = false := by decide +kernel
theorem test_wf_write_record : (Instr.writeRecord 0 0 0 (List.replicate 257 0) 0 false).wf = false := by decide +kernel
theorem test_wf_read_resp : (Instr.readResp 0 0 0 (List.replicate 33 0)).wf = false := by decide +kernel
theorem test_wf_i2c_done : (Instr.i2cDone 0 (List.replicate 33 0)).wf = false := by decide +kernel
theorem test_wf_update_receive : (Instr.updateReceive 0 0 0 (List.replicate 33 0) 0).wf = false := by decide +kernel
theorem test_wf_header_record : (Instr.headerRecord 0 []).wf = false := by decide +kernel
theorem test_wf_data_record_header : (Instr.dataRecord 0 [] []).wf = false := by decide +kernel
theorem test_wf_data_record_data : (Instr.dataRecord 0 (List.replicate 12 0) (List.replicate 1025 0)).wf = false := by decide +kernel
theorem test_wf_itp_record : (Instr.itpRecord 0 0 []).wf = false := by decide +kernel
theorem test_wf_xfer_data : (Instr.xfer .in_ 0 0 false false (List.replicate 1025 0) 0 false []).wf = false := by decide +kernel
theorem test_wf_xfer_answer : (Instr.xfer .in_ 0 0 false false [] 0 false (List.replicate 1025 0)).wf = false := by decide +kernel
theorem test_wf_result : (Instr.result 0 0 0 0 false false (List.replicate 1025 0)).wf = false := by decide +kernel
theorem test_wf_send_command : (Instr.sendCommand 0 [0] true).wf = false := by decide +kernel
theorem test_wf_frame_length : (Instr.frameReceive 0 (List.replicate 16385 0) true {}).wf = false := by decide +kernel
theorem test_wf_frame_stamp : (Instr.frameReceive 0 [] true { ns := 1000000000 }).wf = false := by decide +kernel
theorem test_wf_pfc_quanta : (Instr.pfcFrame 0 true 0 [0]).wf = false := by decide +kernel
theorem test_wf_pause_quanta : (Instr.pfcFrame 0 false 0 []).wf = false := by decide +kernel
theorem test_wf_pps_in : (Instr.ppsInEdge { frac := 2 ^ 32 }).wf = false := by decide +kernel
theorem test_wf_source_none : (Instr.sourceCapabilities 0 [] false false).wf = false := by decide +kernel
theorem test_wf_source_many : (Instr.sourceCapabilities 0 (List.replicate 8 0) false false).wf = false := by decide +kernel
theorem test_wf_source_epr : (Instr.sourceCapabilities 0 (List.replicate 12 0) true false).wf = false := by decide +kernel
theorem test_wf_sink_none : (Instr.sinkCapabilities 0 [] false false 0).wf = false := by decide +kernel
theorem test_wf_sink_many : (Instr.sinkCapabilities 0 (List.replicate 8 0) false false 0).wf = false := by decide +kernel
theorem test_wf_clock : (Instr.clockFault (.derived 256)).wf = false := by decide +kernel
theorem test_wf_dbg_key : (Instr.dbgVerify 0 [] (be 96 0)).wf = false := by decide +kernel
theorem test_wf_dbg_signature : (Instr.dbgVerify 0 (be 97 0) []).wf = false := by decide +kernel
theorem test_wf_smb_start : (Instr.smbFrameStart 0 [] true).wf = false := by decide +kernel
theorem test_wf_smb_continue : (Instr.smbFrameContinue 0 (List.replicate 256 0) true).wf = false := by decide +kernel
theorem test_wf_bus_width : (Instr.registerWrite .a0 0 [0, 0, 0]).wf = false := by decide +kernel
theorem test_wf_hdcp_auth : (Instr.hdcpSessionAuth 0 false false false 0 0 0 [0]).wf = false := by decide +kernel
theorem test_wf_relay_input : (Instr.relayInputFrame 0 { height := 65536 } []).wf = false := by decide +kernel
theorem test_wf_owner_hub : (Instr.echoCmd (.a0 16384) 0 0 0 []).wf = false := by decide +kernel

/-- No row of the command set comes from the ROM. -/
theorem test_wf_owner :
    ([
      (Instr.getInfo .rom 0 0 0).wf,
      (Instr.echoCmd .rom 0 0 0 []).wf,
      (Instr.reset .rom 0 0 0 0 0).wf,
      (Instr.powerState .rom 0 0 0 0).wf,
      (Instr.notifyCfg .rom 0 0 0 0 0 0).wf,
      (Instr.begin .rom 0 0 0).wf,
      (Instr.stage .rom 0 0 0 []).wf,
      (Instr.stageRead .rom 0 0 0 []).wf,
      (Instr.commit .rom 0 0 0).wf,
      (Instr.rollback .rom 0 0 0).wf,
      (Instr.txnInfo .rom 0 0 0).wf,
      (Instr.imgInfo .rom 0 0 0).wf,
      (Instr.imgErase .rom 0 0 0 0).wf,
      (Instr.imgWrite .rom 0 0 0 0 0 []).wf,
      (Instr.imgRead .rom 0 0 0 0 0 0).wf,
      (Instr.imgCheck .rom 0 0 0 0).wf,
      (Instr.tunnelList .rom 0 0 0).wf,
      (Instr.tunnelStat .rom 0 0 0 0).wf,
      (Instr.tunnelReopen .rom 0 0 0 0).wf,
      (Instr.alStatus .rom 0 0 0 0).wf,
      (Instr.alTableWrite .rom 0 0 0 0 0 []).wf,
      (Instr.alArm .rom 0 0 0 0 0).wf,
      (Instr.policerRead .rom 0 0 0 0).wf,
      (Instr.linkStatus .rom 0 0 0 0).wf,
      (Instr.linkAction .rom 0 0 0 0 0).wf,
      (Instr.roleSwap .rom 0 0 0 0).wf,
      (Instr.eyeScan .rom 0 0 0 0 0 0 0 0 0 0).wf,
      (Instr.pdStatus .rom 0 0 0 0).wf,
      (Instr.pdAction .rom 0 0 0 0 0).wf,
      (Instr.efStatus .rom 0 0 0 0).wf,
      (Instr.efClear .rom 0 0 0 0).wf,
      (Instr.budgetStatus .rom 0 0 0).wf,
      (Instr.keyLoad .rom 0 0 0 0 0 0 []).wf,
      (Instr.keyOp .rom 0 0 0 0 []).wf,
      (Instr.keyErase .rom 0 0 0).wf,
      (Instr.rollbackAdv .rom 0 0 0 0).wf,
      (Instr.certRead .rom 0 0 0).wf,
      (Instr.gateViol .rom 0 0 0 0 0).wf,
      (Instr.logRead .rom 0 0 0 0 0).wf,
      (Instr.bistRun .rom 0 0 0 0).wf,
      (Instr.farrierRun .rom 0 0 0).wf,
      (Instr.timeGet .rom 0 0 0).wf,
      (Instr.timeStep .rom 0 0 0 false []).wf,
      (Instr.txtsRead .rom 0 0 0 0 0).wf,
      (Instr.dispStatus .rom 0 0 0 0).wf,
      (Instr.dispEdid .rom 0 0 0 0 0).wf,
      (Instr.dispTopo .rom 0 0 0 0).wf,
      (Instr.domainStatus .rom 0 0 0).wf,
      (Instr.hubList .rom 0 0 0).wf,
      (Instr.hubRemove .rom 0 0 0 0).wf,
      (Instr.routeRead .rom 0 0 0 0 0).wf,
      (Instr.relay .rom 0 0 0 0 0 []).wf,
      (Instr.relayTimeout .rom).wf,
      (Instr.regRead .rom 0 0 0 []).wf,
      (Instr.regWrite .rom 0 0 0 []).wf,
      (Instr.regRmw .rom 0 0 0 0 0 0).wf,
      (Instr.rbRead .rom 0 0 0 0 0 0).wf,
      (Instr.rbWrite .rom 0 0 0 0 0 0 []).wf,
      (Instr.commandTimeout .rom).wf].all fun b => !b) = true := by decide +kernel

/-! ### Hypotheses that a state and operands meet -/

/-- A hub that serves its transports: the image active, every clock and power domain on, transaction 1 of the USB function open. -/
def serving : State :=
  { ((State.reset.setReg GC_CLKEN 0xFFFFFFFF#32).setReg PS_DOM 0xFFFFFFFF#32) with
    clk := { State.reset.clk with phase := .active }
    img := { State.reset.img with txns := [{ id := 1, owner := .usb }] } }

/-- Of equal entries the first is the earliest. -/
theorem earliest_replicate (n : Nat) (f : PdkEntry) : earliest (List.replicate (n + 1) f) = some f := by
  have h : ∀ n, (List.replicate n f).foldl (fun b e => match b with
      | none => some e
      | some f => if e.release < f.release ∨ (e.release = f.release ∧ e.adp = f.adp ∧ 32768 ≤ seqAhead e.seq f.seq) then some e else b) (some f) = some f := by
    intro n
    induction n with
    | zero => rfl
    | succ n ih => simp only [List.replicate_succ, List.foldl_cons, ite_self, ih]
  exact h n

/-- A packet of one cell in the buffer. -/
def onePkt : Stored := { pkt := {}, inp := 0, cells := 1, lossless := false, refs := 1, complete := true }

/-- A packet in the paddock. -/
def duePkt : PdkEntry := { id := 1, adp := 1, release := 9, seq := 0 }

/-- A paddock with 8,192 packets, and one that arrives. -/
def fullPaddock : State :=
  (State.reset.setStored 0 (some onePkt)).mapSw fun w => { w with pdkIn := [(0, 0)], pdk := List.replicate 8192 duePkt }

theorem fullPaddock_len : 8192 ≤ fullPaddock.sw.pdk.length := by
  show 8192 ≤ (List.replicate 8192 duePkt).length
  exact Nat.le_of_eq List.length_replicate.symm
theorem fullPaddock_stored : fullPaddock.stored 0 = some onePkt := rfl
theorem fullPaddock_earliest : earliest fullPaddock.sw.pdk = some duePkt := earliest_replicate 8191 _
theorem fullPaddock_due : (fullPaddock.mapSw fun w => { w with pdkIn := [] }).time.toNs ≤
    fullStamp onePkt.pkt.ts (fullPaddock.mapSw fun w => { w with pdkIn := [] }).time +
      (fullPaddock.mapSw fun w => { w with pdkIn := [] }).skewNs := by decide +kernel

/-- A push pipe with a record in its first slot and an open tunnel, whose reads gate 25 grants; the slot is zero. -/
def pusher : State :=
  (((((((((State.reset.wr (DS_CFG.MODE 0) 2).wr MC_STAT.READY 1).wr (DS_PUSH_SIZE.SLOTS 0) 2).wr (DS_PUSH_TAIL.TAIL 0) 1).wr
    (TA_CFG0.TYPE 1) 2).wr (TA_STAT.OPEN 1) 1).wr (BG_R_PERM.EN 25 0) 1).wr (BG_R_PERM.PERM 25 0) 0x7FFF).wr (BG_R_LIMIT.ADDR 25 0) 0xFFFFFFF)

/-- The same with a record of 8 bytes in the slot. -/
def pusherGood : State := { pusher with frame := [(0, 2#8)] }

/-- The same with the queue of its home engine full. -/
def pusherFull : State := pusherGood.modEng 0 fun x => { x with queue := List.replicate 64 { ingress := true, adp := 1, pkt := {} } }

/-- The 64-byte accesses of a slot. -/
def slotUnits : List (Nat × Nat) := (List.range 256).map fun i => (64 * i, 64)
theorem slotUnits_eq : dmaUnits 0 16384 = slotUnits := by decide +kernel
theorem pusher_granted : ∀ u ∈ slotUnits, (pusher.judge 25 (frameGate u.1) .e .read).ok = true := by decide +kernel
theorem pusherGood_granted : ∀ u ∈ slotUnits, (pusherGood.judge 25 (frameGate u.1) .e .read).ok = true := by decide +kernel
theorem pusherFull_granted : ∀ u ∈ slotUnits, (pusherFull.judge 25 (frameGate u.1) .e .read).ok = true := by decide +kernel

/-- The bytes of the first slot. -/
def slotOf (s : State) : List Byte := slotUnits.flatMap fun u => s.frameBytes u.1 u.2

/-- The access of the push engine to its first slot, all of it granted. -/
def slotRead (s : State) : List Byte × State :=
  s.dmaRead (0 : Fin 4) (s.rd (DS_PUSH_BASE.BASE (0 : Fin 4)) * 16384 + s.rd (DS_PUSH_HEAD.HEAD (0 : Fin 4)) * 16384) 16384

theorem slotRead_granted {s : State} (hb : s.rd (DS_PUSH_BASE.BASE (0 : Fin 4)) = 0) (hh : s.rd (DS_PUSH_HEAD.HEAD (0 : Fin 4)) = 0)
    (h : ∀ u ∈ slotUnits, (s.judge 25 (frameGate u.1) .e .read).ok = true) : slotRead s = (slotOf s, s) := by
  unfold slotRead slotOf
  rw [hb, hh, State.dmaRead_granted s _ _ _ (by rw [slotUnits_eq]; exact h), slotUnits_eq]

theorem pusher_slot : slotRead pusher = (slotOf pusher, pusher) := slotRead_granted (by decide +kernel) (by decide +kernel) pusher_granted
theorem pusherGood_slot : slotRead pusherGood = (slotOf pusherGood, pusherGood) :=
  slotRead_granted (by decide +kernel) (by decide +kernel) pusherGood_granted
theorem pusherFull_slot : slotRead pusherFull = (slotOf pusherFull, pusherFull) :=
  slotRead_granted (by decide +kernel) (by decide +kernel) pusherFull_granted

theorem pusher_len : pushLen (pusher.pipe (0 : Fin 4)).src (slotRead pusher).1 = none := by rw [pusher_slot]; decide +kernel
theorem pusherGood_len : pushLen (pusherGood.pipe (0 : Fin 4)).src (slotRead pusherGood).1 = some 8 := by
  rw [pusherGood_slot]; decide +kernel
theorem pusherFull_len : pushLen (pusherFull.pipe (0 : Fin 4)).src (slotRead pusherFull).1 = some 8 := by
  rw [pusherFull_slot]; decide +kernel

/-- The state after a record of the slot has gone to adapter 1. -/
def slotSent (s : State) : State :=
  (((slotRead s).2.countRd ((slotRead s).1.take 8).length).dispSend (0 : Fin 4) (pushBytes ((slotRead s).1.take 8))).dispatch 1
theorem pusherGood_sent : (slotSent pusherGood).rd (TA_SEQ.TX_SEQ 1) ≠ (slotRead pusherGood).2.rd (TA_SEQ.TX_SEQ 1) := by
  unfold slotSent; rw [pusherGood_slot]; decide +kernel
theorem pusherFull_sent : (slotSent pusherFull).rd (TA_SEQ.TX_SEQ 1) = (slotRead pusherFull).2.rd (TA_SEQ.TX_SEQ 1) := by
  unfold slotSent; rw [pusherFull_slot]; decide +kernel

/-- The certificate store fits a response. -/
theorem certs_small : certBytes.length ≤ 4806 := by
  have h : ∀ (n : Nat) (l : List (List Byte)), l.length ≤ n → (l.flatMap fun c => le 2 (c.take 1600).length ++ c.take 1600).length ≤ 1602 * n := by
    intro n l hl
    induction l generalizing n with
    | nil => simp
    | cons c l ih =>
      cases n with
      | zero => simp at hl
      | succ n =>
        have := ih n (by simpa using hl)
        simp only [List.flatMap_cons, List.length_append, List.length_take] at this ⊢
        have h2 : ∀ k, (le 2 k).length = 2 := fun k => by simp [le]
        rw [h2]; omega
  have := h 3 (Config.certStore.take 3) (by rw [List.length_take]; omega)
  have e : certBytes = (Config.certStore.take 3).flatMap fun c => le 2 (c.take 1600).length ++ c.take 1600 := by
    simp only [certBytes, certs, List.flatMap_map]
  rw [e]; omega

/-- CERT_READ is admitted whatever the store holds. -/
theorem admits_certRead : serving.admits (cmdEntry .usb 0x0704 0 0 3 []) := by
  suffices h : serving.precheck (cmdEntry .usb 0x0704 0 0 3 []) = none by
    refine ⟨?_, ?_, ?_, ?_, ?_, ?_, ?_, h⟩ <;> decide +kernel
  have h1 : ¬ (0x0704 ∉ opcodes) := by decide +kernel
  have h2 : serving.stateCheck (cmdEntry .usb 0x0704 0 0 3 []) = none := by decide +kernel
  have h3 : serving.txnCheck (cmdEntry .usb 0x0704 0 0 3 []) = none := by decide +kernel
  have h4 : ¬ ((hOnly 0x0704 = true ∧ Owner.usb = .smbus) ∨ (writesPower 0x0704 = true ∧ ¬ serving.imageActive = true)) := by decide +kernel
  have h8 : writesPower 0x0704 = false := by decide +kernel
  have h5 : bodyOk 0x0704 [] = true := by decide +kernel
  have h6 : ¬ rowLimit .usb < 24 + certBytes.length := by
    have := certs_small
    have h7 : rowLimit .usb = 65552 := by decide +kernel
    omega
  unfold State.precheck State.bodyCheck
  rw [h2, h3]
  simp only [cmdEntry, State.responseSize] at h1 h4 h5 h6 ⊢
  simp_all

/-! ### For every obligation, a state and operands for the hypotheses of each clause -/

theorem witness_StepRunsTheFrontCommand :
    (let s : State := { State.reset with pending := [.coreResetRelease] }; let c : Instr := .coreResetRelease; let rest : List Instr := []; (s.pending = c :: rest)) ∧
    (let s : State := State.reset; (s.pending = [])) := by
  and_intros <;> decide +kernel

theorem witness_ResetLeavesTheHubHeld :
    (let o : Owner := .usb; (o ≠ .rom)) := by
  decide +kernel

theorem witness_StepKeepsCanonicalForm :
    (let s : State := State.reset; let t : State := State.reset.tick; (Safe s) ∧ (step s = .next t)) :=
  by exact ⟨by unfold Safe; decide +kernel, rfl⟩

theorem witness_EventSetsFlagAndCounts :
    (let s : State := { State.reset with test := { State.reset.test with under := some 3 } }; let e : Evt := Ev.CL_ORPHAN 0; (s.underTest e.source e.inst = true)) ∧
    (let s : State := State.reset; let e : Evt := Ev.EF_SHORT 0; (s.underTest e.source e.inst = false) ∧ (e.flag.width = 1) ∧ (e.flag.lo < 32) ∧ (e.count.width = 8) ∧ (e.count.lo ≤ 24) ∧ (e.flag.addr ≠ e.count.addr ∨ e.flag.lo < e.count.lo ∨ e.count.lo + 8 ≤ e.flag.lo) ∧ (∀ a ∈ [e.flag.addr, e.count.addr], a ∉ [BT_LOG_HEAD, BT_LOG_OLDEST, BT_LOG_LOST, Ev.BT_NOTIFY_LOST.flag.addr, Ev.BT_NOTIFY_LOST.count.addr])) ∧
    (let s : State := State.reset; let e : Evt := Ev.EF_SHORT 0; let a := 0; (s.underTest e.source e.inst = false) ∧ (e.flag.width = 1) ∧ (e.flag.lo < 32) ∧ (e.count.width = 8) ∧ (e.count.lo ≤ 24) ∧ (e.flag.addr ≠ e.count.addr ∨ e.flag.lo < e.count.lo ∨ e.count.lo + 8 ≤ e.flag.lo) ∧ (∀ a ∈ [e.flag.addr, e.count.addr], a ∉ [BT_LOG_HEAD, BT_LOG_OLDEST, BT_LOG_LOST, Ev.BT_NOTIFY_LOST.flag.addr, Ev.BT_NOTIFY_LOST.count.addr]) ∧ (a ∉ [e.flag.addr, e.count.addr, BT_LOG_HEAD, BT_LOG_OLDEST, BT_LOG_LOST, Ev.BT_NOTIFY_LOST.flag.addr, Ev.BT_NOTIFY_LOST.count.addr])) ∧
    (let s : State := State.reset; let e : Evt := Ev.EF_SHORT 0; let g : Fld := ⟨(Ev.EF_SHORT 0).flag.addr, 31, 1⟩; (s.underTest e.source e.inst = false) ∧ (e.flag.width = 1) ∧ (e.flag.lo < 32) ∧ (e.count.width = 8) ∧ (e.count.lo ≤ 24) ∧ (e.flag.addr ≠ e.count.addr ∨ e.flag.lo < e.count.lo ∨ e.count.lo + 8 ≤ e.flag.lo) ∧ (∀ a ∈ [e.flag.addr, e.count.addr], a ∉ [BT_LOG_HEAD, BT_LOG_OLDEST, BT_LOG_LOST, Ev.BT_NOTIFY_LOST.flag.addr, Ev.BT_NOTIFY_LOST.count.addr]) ∧ (g.addr ∈ [e.flag.addr, e.count.addr]) ∧ (g.addr ≠ e.flag.addr ∨ g.lo + g.width ≤ e.flag.lo ∨ e.flag.lo < g.lo) ∧ (g.addr ≠ e.count.addr ∨ g.lo + g.width ≤ e.count.lo ∨ e.count.lo + 8 ≤ g.lo)) := by
  and_intros <;> decide +kernel

theorem witness_FieldsAndMemoriesReadBack :
    (let f : Fld := ({ addr := 0x40000000, lo := 0, width := 8 } : Fld); (f.lo + f.width ≤ 32)) ∧
    (let f : Fld := ⟨0x40000000, 0, 8⟩; let g : Fld := ⟨0x40000000, 8, 24⟩; (g.addr ≠ f.addr ∨ g.lo + g.width ≤ f.lo ∨ f.lo + f.width ≤ g.lo)) ∧
    (let a : Nat := 0; let l : List Byte := []; let b := 0; (b < a ∨ a + l.length ≤ b)) := by
  and_intros <;> decide +kernel

theorem witness_PacketHeaderCarriesItsFields :
    (let p : Packet := ({} : Packet); (p.ver < 2 ^ 4) ∧ (p.cls < 2 ^ 2) ∧ (p.tc < 2 ^ 3) ∧ (p.dstHub < 2 ^ 14) ∧ (p.dstAdp < 2 ^ 8) ∧ (p.srcHub < 2 ^ 14) ∧ (p.srcAdp < 2 ^ 8) ∧ (p.len < 2 ^ 11) ∧ (p.seq < 2 ^ 16) ∧ (p.ts < 2 ^ 34)) ∧
    (let s : State := State.reset; let p : Nat := 0; let st : Stored := ({ pkt := {}, inp := 0, cells := 1, lossless := false, refs := 1, complete := true } : Stored); (s.linkEnc p = false) ∧ (st.pkt.payload.length = st.pkt.len)) ∧
    (let s : State := (State.reset.wr (CL_STAT.ENC 0) 1); let p : Nat := 0; let st : Stored := ({ pkt := {}, inp := 0, cells := 1, lossless := false, refs := 1, complete := true, cut := false } : Stored); (s.linkEnc p = true) ∧ (st.complete = true) ∧ (st.cut = false)) := by
  and_intros <;> decide +kernel

theorem witness_TimeCounterAddsItsIncrement :
    (let s : State := State.reset; (s.time.ns < 1000000000) ∧ (s.time.frac < 2 ^ 32) ∧ (s.time.sec + 1 < 2 ^ 48)) ∧
    (let s : State := State.reset; let f := s.time.frac + s.rd TM_INC_EFF_FRAC.FRAC; let n := s.time.ns + s.rd TM_INC_EFF_NS.NS + f / 2 ^ 32; (s.time.ns < 1000000000) ∧ (s.time.frac < 2 ^ 32) ∧ (s.time.sec + 1 < 2 ^ 48) ∧ (n < 1000000000)) ∧
    (let s : State := { State.reset with time := { ns := 999999999 } }; let f := s.time.frac + s.rd TM_INC_EFF_FRAC.FRAC; let n := s.time.ns + s.rd TM_INC_EFF_NS.NS + f / 2 ^ 32; (s.time.ns < 1000000000) ∧ (s.time.frac < 2 ^ 32) ∧ (s.time.sec + 1 < 2 ^ 48) ∧ (1000000000 ≤ n)) := by
  and_intros <;> decide +kernel

theorem witness_ChannelFaultsTrip :
    (let s : State := (State.reset.wr (EF_STAT.STATE 0) 2); let n : Fin 8 := 0; (s.rd (EF_STAT.STATE n) = 2 ∨ s.rd (EF_STAT.STATE n) = 3 ∨ s.rd (EF_STAT.STATE n) = 4)) ∧
    (let s : State := (State.reset.wr (EF_STAT.STATE 0) 0); let n : Fin 8 := 0; (s.rd (EF_STAT.STATE n) ≠ 2) ∧ (s.rd (EF_STAT.STATE n) ≠ 3) ∧ (s.rd (EF_STAT.STATE n) ≠ 4)) ∧
    (let s : State := (State.reset.wr (EF_STAT.LIMITING 0) 1); let n : Fin 8 := 0; (s.rd (EF_STAT.LIMITING n) ≠ 0)) ∧
    (let s : State := (State.reset.wr (EF_STAT.LIMITING 0) 0); let n : Fin 8 := 0; (s.rd (EF_STAT.LIMITING n) = 0)) ∧
    (let s : State := (State.reset.wr (EF_STAT.STATE 0) 3); let n : Fin 6 := 0; (s.rd (EF_STAT.STATE n) = 3 ∨ s.rd (EF_STAT.STATE n) = 4) ∧ (∀ t, (s.ef n).orientAt = some t → t + 10000000 ≤ s.uptime)) ∧
    (let s : State := (State.reset.wr (EF_STAT.STATE 0) 0); let n : Fin 6 := 0; (s.rd (EF_STAT.STATE n) ≠ 3) ∧ (s.rd (EF_STAT.STATE n) ≠ 4)) ∧
    (let s : State := (State.reset.modEf 0 fun x => { x with orientAt := some 0 }); let n : Fin 6 := 0; let t : Nat := 0; ((s.ef n).orientAt = some t) ∧ (s.uptime < t + 10000000)) ∧
    (let s : State := (State.reset.wr (EF_STAT.STATE (6 + 0)) 2); let k : Fin 2 := 0; (s.rd (EF_STAT.STATE (6 + k)) = 2)) ∧
    (let s : State := (State.reset.wr (EF_STAT.STATE (6 + 0)) 0); let k : Fin 2 := 0; (s.rd (EF_STAT.STATE (6 + k)) ≠ 2)) ∧
    (let s : State := (State.reset.wr (EF_STAT.STATE 0) 0); let n : Fin 8 := 0; (s.rd (EF_STAT.STATE n) ≠ 3) ∧ (s.rd (EF_STAT.STATE n) ≠ 4)) ∧
    (let s : State := (State.reset.wr (EF_STAT.STATE 0) 3); let n : Fin 8 := 0; (s.rd (EF_STAT.STATE n) = 3 ∨ s.rd (EF_STAT.STATE n) = 4)) := by
  and_intros <;> decide +kernel

theorem witness_MainInputSequence :
    (let s : State := (State.reset.wr (EF_CFG.EN (6 + 0)) 1); let k : Fin 2 := 0; (s.rd (EF_CFG.EN (6 + k)) ≠ 0) ∧ (s.rd (EF_STAT.STATE (6 + k)) < 2)) ∧
    (let s : State := ((((State.reset.wr (EF_STAT.IN_WIN (6 + 0)) 1).wr (EF_CFG.EN (6 + 0)) 1).modEf (6 + 0) fun x => { x with debounced := false }).modEf 6 fun x => { x with retryEnd := some 0 }); let k : Fin 2 := 0; (s.rd (EF_STAT.IN_WIN (6 + k)) ≠ 0) ∧ (s.rd (EF_CFG.EN (6 + k)) ≠ 0) ∧ ((s.ef (6 + k)).debounced = false) ∧ ((s.ef (6 + k)).retryEnd ≠ none)) ∧
    (let s : State := (((((State.reset.wr (EF_STAT.IN_WIN (6 + 0)) 1).wr (EF_CFG.EN (6 + 0)) 1).modEf (6 + 0) fun x => { x with debounced := false }).modEf (6 + 0) fun x => { x with retryEnd := none }).wr (EF_STAT.STATE (6 + 0)) 1); let k : Fin 2 := 0; (s.rd (EF_STAT.IN_WIN (6 + k)) ≠ 0) ∧ (s.rd (EF_CFG.EN (6 + k)) ≠ 0) ∧ ((s.ef (6 + k)).debounced = false) ∧ ((s.ef (6 + k)).retryEnd = none) ∧ (s.rd (EF_STAT.STATE (6 + k)) = 1)) ∧
    (let s : State := (State.reset.wr (EF_STAT.STATE (6 + 0)) 2); let k : Fin 2 := 0; (s.rd (EF_STAT.STATE (6 + k)) = 2)) ∧
    (let s : State := (State.reset.wr (EF_STAT.STATE (6 + 0)) 4); let k : Fin 2 := 0; (s.rd (EF_STAT.STATE (6 + k)) = 4)) ∧
    (let s : State := (State.reset.wr (EF_STAT.STATE (6 + 0)) 5); let k : Fin 2 := 0; (s.rd (EF_STAT.STATE (6 + k)) = 5)) ∧
    (let s : State := ((State.reset.wr (EF_STAT.IN_WIN (6 + 0)) 1).wr (EF_STAT.STATE (6 + 0)) 2); let k : Fin 2 := 0; (s.rd (EF_STAT.IN_WIN (6 + k)) ≠ 0) ∧ (s.rd (EF_STAT.STATE (6 + k)) = 2 ∨ s.rd (EF_STAT.STATE (6 + k)) = 3)) ∧
    (let s : State := ((State.reset.wr (EF_STAT.IN_WIN (6 + 0)) 1).wr (EF_STAT.STATE (6 + 0)) 4); let k : Fin 2 := 0; (s.rd (EF_STAT.IN_WIN (6 + k)) ≠ 0) ∧ (s.rd (EF_STAT.STATE (6 + k)) = 4 ∨ s.rd (EF_STAT.STATE (6 + k)) = 5)) := by
  and_intros <;> decide +kernel

theorem witness_ChannelClosesOpensAndRecovers :
    (let s : State := (State.reset.wr (EF_CFG.EN 0) 1); let n : Fin 6 := 0; (s.rd (EF_CFG.EN n) ≠ 0) ∧ (s.rd (EF_STAT.STATE n) < 3)) ∧
    (let s : State := (State.reset.wr (EF_STAT.STATE 0) 3); let n : Fin 6 := 0; (s.rd (EF_STAT.STATE n) = 3 ∨ s.rd (EF_STAT.STATE n) = 4)) ∧
    (let s : State := (State.reset.wr (EF_STAT.STATE 0) 3); let n : Fin 8 := 0; (s.rd (EF_STAT.STATE n) = 3 ∨ s.rd (EF_STAT.STATE n) = 4)) ∧
    (let s : State := ((((State.reset.wr (EF_STAT.STATE 0) 6).wr (EF_CFG.RETRY_MAX 0) 0).modEf 0 fun x => { x with retryEnd := some 0 }).wr (EF_STAT.TRIPS 0) 1); let n : Fin 8 := 0; ((s.ef n).retryEnd.isSome) ∧ (s.rd (EF_STAT.STATE n) = 6) ∧ (s.rd (EF_CFG.RETRY_MAX n) ≠ 15) ∧ (s.rd (EF_CFG.RETRY_MAX n) < s.rd (EF_STAT.TRIPS n))) ∧
    (let s : State := (State.reset.wr (EF_STAT.PG 0) 1); let n : Fin 8 := 0; (s.rd (EF_STAT.PG n) ≠ 0)) ∧
    (let s : State := State.reset; (s.rd (EF_STAT.INPUT_VALID 6) + 2 * s.rd (EF_STAT.INPUT_VALID 7) = s.rd PDB_STAT.IN_VALID)) ∧
    (let s : State := State.reset.wr (EF_STAT.INPUT_VALID 6) 1; (s.rd (EF_STAT.INPUT_VALID 6) + 2 * s.rd (EF_STAT.INPUT_VALID 7) ≠ s.rd PDB_STAT.IN_VALID) ∧ (s.rd (EF_STAT.INPUT_VALID 6) + 2 * s.rd (EF_STAT.INPUT_VALID 7) ≠ 0)) := by
  and_intros <;> decide +kernel

theorem witness_TrainingSequence :
    (let s : State := ((State.reset.wr (CL_STAT.LSTATE 0) 1).modLink 0 fun l => { l with tstep := 2 }); let p : Fin 6 := 0; let locked : Fin 16 := 0; (s.rd (CL_STAT.LSTATE p) = 1) ∧ ((s.link p).relock = false) ∧ ((s.link p).tstep = 2) ∧ (∀ n ∈ s.rxTrainees p, bitOf locked (n % 4) = true ∧ (s.lane n).qual = 1)) ∧
    (let s : State := ((State.reset.wr (CL_STAT.LSTATE 0) 1).modLink 0 fun l => { l with tstep := 3 }); let p : Fin 6 := 0; let locked : Fin 16 := 0; (s.rd (CL_STAT.LSTATE p) = 1) ∧ ((s.link p).relock = false) ∧ ((s.link p).tstep = 3) ∧ (∀ n ∈ s.rxTrainees p, bitOf locked (n % 4) = true ∧ (s.lane n).qual = 1)) ∧
    (let s : State := ((((State.reset.wr (CL_STAT.LSTATE 0) 1).modLink 0 fun l => { l with tstep := 2 }).wr (LN_STAT.STATE 0) 2).wr (LN_STAT.DIR 0) 1); let p : Fin 6 := 0; let locked : Fin 16 := 0; (s.rd (CL_STAT.LSTATE p) = 1) ∧ ((s.link p).relock = false) ∧ ((s.link p).tstep = 2 ∨ (s.link p).tstep = 3) ∧ (∃ n ∈ s.rxTrainees p, bitOf locked (n % 4) = false)) ∧
    (let s : State := ((((State.reset.wr (CL_STAT.LSTATE 0) 1).modLink 0 fun l => { l with tstep := 2 }).wr (LN_STAT.STATE 0) 2).wr (LN_STAT.DIR 0) 1); let p : Fin 6 := 0; let locked : Fin 16 := 1; (s.rd (CL_STAT.LSTATE p) = 1) ∧ ((s.link p).relock = false) ∧ ((s.link p).tstep = 2 ∨ (s.link p).tstep = 3) ∧ (∀ n ∈ s.rxTrainees p, bitOf locked (n % 4) = true) ∧ (∃ n ∈ s.rxTrainees p, (s.lane n).qual ≠ 1)) ∧
    (let s : State := ((State.reset.wr (CL_STAT.LSTATE 0) 1).modLink 0 fun l => { l with tstep := 4 }); let p : Fin 6 := 0; (s.rd (CL_STAT.LSTATE p) = 1) ∧ ((s.link p).relock = false) ∧ ((s.link p).tstep = 4)) ∧
    (let s : State := (State.reset.wr (CL_STAT.LSTATE 0) 0); let p : Fin 6 := 0; (s.rd (CL_STAT.LSTATE p) ≠ 1 ∨ (s.link p).relock = true)) ∧
    (let s : State := (((State.reset.wr (LN_STAT.STATE 0) 2).wr (LN_STAT.DIR 0) 1).wr (LN_STAT.LOCK 0) 1); let n : Fin 24 := 0; let w : BitVec 72 := 0; let r : BitVec 1208 := 0; (s.rd (LN_STAT.STATE n) = 2) ∧ (s.rd (LN_STAT.DIR n) = 1) ∧ (s.rd (LN_STAT.LOCK n) ≠ 0) ∧ (TrainFrame.ofPayload (s.takeData n (w ++ r)).1 = none)) ∧
    (let s : State := ((((State.reset.wr (LN_STAT.STATE 0) 2).wr (LN_STAT.DIR 0) 1).wr (LN_STAT.LOCK 0) 1).wr (CL_STAT.LSTATE 0) 1); let n : Fin 24 := 0; let w : BitVec 72 := BitVec.ofNat 72 ((scramble (State.reset.lane 0).rxScr (TrainFrame.payload ({ step := 0, gaitCap := 1, gaitSel := 0, txReq := 0, preset := 0, txAck := 0, rxReady := true, qual := 1, rtTag := 0, rtEcho := 0, rtHold := 0 } : TrainFrame))).1.toNat / 2 ^ 1208); let r : BitVec 1208 := BitVec.ofNat 1208 (scramble (State.reset.lane 0).rxScr (TrainFrame.payload ({ step := 0, gaitCap := 1, gaitSel := 0, txReq := 0, preset := 0, txAck := 0, rxReady := true, qual := 1, rtTag := 0, rtEcho := 0, rtHold := 0 } : TrainFrame))).1.toNat; let f : TrainFrame := ({ step := 0, gaitCap := 1, gaitSel := 0, txReq := 0, preset := 0, txAck := 0, rxReady := true, qual := 1, rtTag := 0, rtEcho := 0, rtHold := 0 } : TrainFrame); (s.rd (LN_STAT.STATE n) = 2) ∧ (s.rd (LN_STAT.DIR n) = 1) ∧ (s.rd (LN_STAT.LOCK n) ≠ 0) ∧ (TrainFrame.ofPayload (s.takeData n (w ++ r)).1 = some f) ∧ (f.txReq = 0) ∧ (f.preset = 0) ∧ (s.rd (CL_STAT.LSTATE (lanePort n)) = 1) ∧ ((s.link (lanePort n)).tstep ≤ 1)) ∧
    (let f : TrainFrame := ({ step := 0, gaitCap := 1, gaitSel := 0, txReq := 3, preset := 0, txAck := 0, rxReady := true, qual := 1, rtTag := 0, rtEcho := 0, rtHold := 0 } : TrainFrame); (f.txReq ≠ 0) ∧ (bitsOf f.txReq 4 2 = 3 ∨ bitsOf f.txReq 2 2 = 3 ∨ bitsOf f.txReq 0 2 = 3)) ∧
    (let s : State := (((((State.reset.wr (LN_STAT.STATE 0) 2).wr (CL_STAT.LSTATE 0) 1).wr (LN_TRAIN.QUAL_MAX 0) 0).wr (LN_STAT.DIR 0) 1).modLink 0 fun l => { l with tstep := 2 }); let n : Fin 24 := 0; let c : Fin 65536 := 0; (s.rd (LN_STAT.STATE n) = 2) ∧ (s.rd (LN_STAT.DIR n) = 1) ∧ (s.rd (CL_STAT.LSTATE (lanePort n)) = 1) ∧ ((s.link (lanePort n)).tstep = 2 ∨ (s.link (lanePort n)).tstep = 3) ∧ ((s.link (lanePort n)).relock = false) ∧ (c ≤ s.rd (LN_TRAIN.QUAL_MAX n))) ∧
    (let s : State := (((((State.reset.wr (LN_STAT.STATE 0) 2).wr (CL_STAT.LSTATE 0) 1).wr (LN_TRAIN.QUAL_MAX 0) 0).wr (LN_STAT.DIR 0) 1).modLink 0 fun l => { l with tstep := 2 }); let n : Fin 24 := 0; let c : Fin 65536 := 65535; let u : Bool := false; (s.rd (LN_STAT.STATE n) = 2) ∧ (s.rd (LN_STAT.DIR n) = 1) ∧ (s.rd (CL_STAT.LSTATE (lanePort n)) = 1) ∧ ((s.link (lanePort n)).tstep = 2 ∨ (s.link (lanePort n)).tstep = 3) ∧ (s.rd (LN_TRAIN.QUAL_MAX n) < c ∨ u = true) ∧ ((s.link (lanePort n)).relock = false)) ∧
    (let s : State := ((((((State.reset.wr (LN_STAT.STATE 0) 2).wr (CL_STAT.LSTATE 0) 1).wr (LN_TRAIN.QUAL_MAX 0) 0).wr (LN_STAT.DIR 0) 1).modLink 0 fun l => { l with tstep := 2 }).modLink 0 fun l => { l with relock := true }); let n : Fin 24 := 0; let c : Fin 65536 := 65535; let u : Bool := false; (s.rd (LN_STAT.STATE n) = 2) ∧ (s.rd (LN_STAT.DIR n) = 1) ∧ (s.rd (CL_STAT.LSTATE (lanePort n)) = 1) ∧ ((s.link (lanePort n)).tstep = 2 ∨ (s.link (lanePort n)).tstep = 3) ∧ (s.rd (LN_TRAIN.QUAL_MAX n) < c ∨ u = true) ∧ ((s.link (lanePort n)).relock = true)) ∧
    (let s : State := ((State.reset.wr (CL_STAT.LSTATE 0) 1).modLink 0 fun l => { l with tstep := 5 }); let p : Fin 6 := 0; (s.rd (CL_STAT.LSTATE p) = 1) ∧ ((s.link p).tstep = 5)) := by
  and_intros <;> decide +kernel

theorem witness_BlocksAndCodewords :
    (let s : State := (State.reset.wr (LN_STAT.LOCK 0) 1); let n : Fin 24 := 0; let b : BitVec 1282 := 0; (s.rd (LN_STAT.LOCK n) ≠ 0) ∧ ((s.lane n).rxBlk ≠ 256) ∧ (blockHeader b ≠ 1#2)) ∧
    (let s : State := (State.reset.wr (LN_STAT.LOCK 0) 1); let n : Fin 24 := 0; let b : BitVec 1282 := BitVec.ofNat 1282 (2 ^ 1280); (s.rd (LN_STAT.LOCK n) ≠ 0) ∧ ((s.lane n).rxBlk ≠ 256) ∧ (blockHeader b = 1#2)) ∧
    (let s : State := (State.reset.wr (LN_STAT.LOCK 0) 0); let n : Fin 24 := 0; (s.rd (LN_STAT.LOCK n) = 0)) ∧
    (let s : State := ((State.reset.wr (LN_STAT.LOCK 0) 1).modLane 0 fun x => { x with rxBlk := 256 }); let n : Fin 24 := 0; (s.rd (LN_STAT.LOCK n) ≠ 0) ∧ ((s.lane n).rxBlk = 256) ∧ ((s.lane n).missed < 2)) ∧
    (let s : State := ((State.reset.wr (LN_STAT.LOCK 0) 1).modLane 0 fun l => { l with rxBlk := 256, missed := 2 }); let n : Fin 24 := 0; (s.rd (LN_STAT.LOCK n) ≠ 0) ∧ ((s.lane n).rxBlk = 256) ∧ (2 ≤ (s.lane n).missed)) ∧
    (let s : State := (((State.reset.wr (LN_STAT.DIR 0) 1).wr (LN_STAT.STATE 0) 3).wr (LN_STAT.LOCK 0) 1); let n : Fin 24 := 0; (s.rd (LN_STAT.DIR n) = 1) ∧ (s.rd (LN_STAT.STATE n) = 3) ∧ (s.rd (LN_STAT.LOCK n) ≠ 0) ∧ ((s.lane n).rxBlk ≠ 256)) ∧
    (let s : State := ((((State.reset.wr (LN_STAT.DIR 0) 1).wr (LN_STAT.STATE 0) 3).wr (LN_STAT.LOCK 0) 1).modLane 0 fun l => { l with rxBlk := 256 }); let n : Fin 24 := 0; let c : BitVec 64 := comma; let f : BitVec 80 := 0; let r : BitVec 1136 := 0; let skew : Fin 65536 := 0; let w := markerJoined c f r; let i := false; let v := w.toNat; (s.rd (LN_STAT.DIR n) = 1) ∧ (s.rd (LN_STAT.STATE n) = 3) ∧ (s.rd (LN_STAT.LOCK n) ≠ 0) ∧ ((s.lane n).rxBlk = 256) ∧ (commaOf w = some (i, v)) ∧ (skew.val ≤ 320)) ∧
    (let s : State := ((((State.reset.wr (LN_STAT.DIR 0) 1).wr (LN_STAT.STATE 0) 3).wr (LN_STAT.LOCK 0) 1).modLane 0 fun l => { l with rxBlk := 256 }); let n : Fin 24 := 0; let c : BitVec 64 := comma; let f : BitVec 80 := 0; let r : BitVec 1136 := 0; let skew : Fin 65536 := 321; let w := markerJoined c f r; let i := false; let v := w.toNat; (s.rd (LN_STAT.DIR n) = 1) ∧ (s.rd (LN_STAT.STATE n) = 3) ∧ (s.rd (LN_STAT.LOCK n) ≠ 0) ∧ ((s.lane n).rxBlk = 256) ∧ (commaOf w = some (i, v)) ∧ (320 < skew.val) ∧ ((s.markerIn n i v true).rd (LN_STAT.LOCK n) ≠ 0)) ∧
    (let s : State := ((((State.reset.wr (LN_STAT.DIR 0) 1).wr (LN_STAT.STATE 0) 3).wr (LN_STAT.LOCK 0) 1).modLane 0 fun l => { l with rxBlk := 256 }); let n : Fin 24 := 0; let c : BitVec 64 := 0; let f : BitVec 80 := 0; let r : BitVec 1136 := 0; let w := markerJoined c f r; (s.rd (LN_STAT.DIR n) = 1) ∧ (s.rd (LN_STAT.STATE n) = 3) ∧ (s.rd (LN_STAT.LOCK n) ≠ 0) ∧ ((s.lane n).rxBlk = 256) ∧ (commaOf w = none) ∧ ((s.lane n).missed < 2)) ∧
    (let s : State := State.reset; let n : Fin 24 := 0; (s.receives n = false)) ∧
    (let m : List Sym := List.replicate 256 0#10; (m.length = 256)) ∧
    (let s : State := ((((((State.reset.modLink 0 fun l => { l with linkUp := true }).wr (LN_STAT.DIR 0) 1).wr (LN_STAT.STATE 0) 3).wr (LN_STAT.LOCK 0) 1).wr (LN_STAT.WIDTH 0) 1).modLane 0 fun l => { l with rxq := (List.replicate 263 0#10 ++ List.replicate 9 1#10) }); let u : State := ((s.modLane 0 fun x => { x with rxq := [] }).modLink 0 fun x => { x with cwRx := 1, rxOrder := [0], rxRes := 0 }); let p : Fin 6 := 0; let a : List Sym := []; let b : List Sym := []; let c : List Sym := []; let w : RxWord := ({ word := (List.replicate 263 0#10 ++ List.replicate 9 1#10), order := [0], first := 0 } : RxWord); (s.linkRuns p = true) ∧ (s.takeWord p a b c = some (w, u)) ∧ (rsDecode w.word = none)) ∧
    (let s : State := ((((((State.reset.modLink 0 fun l => { l with linkUp := true }).wr (LN_STAT.DIR 0) 1).wr (LN_STAT.STATE 0) 3).wr (LN_STAT.LOCK 0) 1).wr (LN_STAT.WIDTH 0) 1).modLane 0 fun l => { l with rxq := List.replicate 272 0#10 }); let u : State := ((s.modLane 0 fun x => { x with rxq := [] }).modLink 0 fun x => { x with cwRx := 1, rxOrder := [0], rxRes := 0 }); let p : Fin 6 := 0; let a : List Sym := []; let b : List Sym := []; let c : List Sym := []; let w : RxWord := ({ word := List.replicate 272 0#10, order := [0], first := 0 } : RxWord); let word := List.replicate 272 0#10; (s.linkRuns p = true) ∧ (s.takeWord p a b c = some (w, u)) ∧ (rsDecode w.word = some (word, []))) ∧
    (let s : State := State.reset; let p : Fin 6 := 0; let a : List Sym := []; let b : List Sym := []; let c : List Sym := []; (s.linkRuns p = false ∨ s.takeWord p a b c = none)) := by
  and_intros <;> decide +kernel

theorem witness_LeadChangeTurnsALane :
    (let s : State := (State.reset.modLink 0 fun l => { l with act := some ({ kind := 0, lane := 0, tx := true, cw := 0, begun := false } : LaneAct) }); let p : Fin 6 := 0; let a : LaneAct := ({ kind := 0, lane := 0, tx := true, cw := 0, begun := false } : LaneAct); ((s.link p).act = some a) ∧ (a.begun = false) ∧ (a.cw ≤ (if a.tx then (s.link p).cwTx else (s.link p).cwRx)) ∧ (a.kind = 0) ∧ (s.rd (LN_STAT.STATE a.lane) ≠ 5) ∧ (s.rd (LN_STAT.STATE a.lane) ≠ 6)) ∧
    (let s : State := ((State.reset.modLink 0 fun x => { x with act := some (({ kind := 0, lane := 0, tx := true, cw := 0, begun := false } : LaneAct)) }).wr (LN_STAT.STATE (({ kind := 0, lane := 0, tx := true, cw := 0, begun := false } : LaneAct)).lane) 5); let p : Fin 6 := 0; let a : LaneAct := ({ kind := 0, lane := 0, tx := true, cw := 0, begun := false } : LaneAct); ((s.link p).act = some a) ∧ (a.begun = false) ∧ (a.cw ≤ (if a.tx then (s.link p).cwTx else (s.link p).cwRx)) ∧ (a.kind = 0) ∧ (s.rd (LN_STAT.STATE a.lane) = 5 ∨ s.rd (LN_STAT.STATE a.lane) = 6)) ∧
    (let s : State := ((State.reset.wr (LN_CTRL.EN 0) 1).modLink 0 fun l => { l with act := some ({ kind := 1, lane := 0, tx := true, cw := 0, begun := false } : LaneAct) }); let p : Fin 6 := 0; let a : LaneAct := ({ kind := 1, lane := 0, tx := true, cw := 0, begun := false } : LaneAct); ((s.link p).act = some a) ∧ (a.begun = false) ∧ (a.cw ≤ (if a.tx then (s.link p).cwTx else (s.link p).cwRx)) ∧ (a.kind = 1) ∧ (s.rd (LN_CTRL.EN a.lane) ≠ 0)) ∧
    (let s : State := ((State.reset.wr (LN_CTRL.EN 0) 1).modLink 0 fun l => { l with act := some ({ kind := 0, lane := 0, tx := false, cw := 0, begun := true } : LaneAct) }); let p : Fin 6 := 0; let a : LaneAct := ({ kind := 0, lane := 0, tx := false, cw := 0, begun := true } : LaneAct); ((s.link p).act = some a) ∧ (a.kind = 0) ∧ (a.begun = true) ∧ (a.tx = false) ∧ (s.rd (LN_CTRL.EN a.lane) ≠ 0)) ∧
    (let s : State := (State.reset.modLink 0 fun l => { l with act := none }); let p : Fin 6 := 0; ((s.link p).act = none)) ∧
    (let s : State := (State.reset.modLink (lanePort 0) fun l => { l with act := some ({ kind := 0, lane := 0, tx := true, cw := 0, begun := true } : LaneAct) }); let n : Fin 24 := 0; let a : LaneAct := ({ kind := 0, lane := 0, tx := true, cw := 0, begun := true } : LaneAct); ((s.link (lanePort n)).act = some a) ∧ (a.begun = true) ∧ (a.lane = n) ∧ (a.kind = 0) ∧ (a.tx = true)) ∧
    (let s : State := State.reset; let n : Fin 24 := 0; let w : BitVec 1280 := 0; (s.joinFields n w = none)) ∧
    (let s : State := ((State.reset.wr (LN_CTRL.EN 0) 1).modLink 0 fun l => { l with act := some ({ kind := 0, lane := 0, tx := true, cw := 0, begun := true } : LaneAct) }); let n : Fin 24 := 0; let w : BitVec 1280 := BitVec.ofNat 1280 (comma.toNat * 2 ^ 1216 + 2 ^ 71 * 2 ^ 1136 + crc32 (be 10 (2 ^ 71)) * 2 ^ 1104); let i : Bool := false; let f : Nat := 2 ^ 71; let a : LaneAct := ({ kind := 0, lane := 0, tx := true, cw := 0, begun := true } : LaneAct); (s.joinFields n w = some (i, f)) ∧ (s.rd (LN_CTRL.EN n) ≠ 0) ∧ ((s.lane n).joining = false) ∧ ((s.link (lanePort n)).act = some a) ∧ (a.begun = true) ∧ (a.lane = n) ∧ (a.kind = 0) ∧ (a.tx = true)) ∧
    (let s : State := ((State.reset.wr (LN_CTRL.EN 0) 1).modLane 0 fun x => { x with joining := true }); let n : Fin 24 := 0; let w : BitVec 1280 := BitVec.ofNat 1280 (comma.toNat * 2 ^ 1216 + 2 ^ 71 * 2 ^ 1136 + crc32 (be 10 (2 ^ 71)) * 2 ^ 1104); let i : Bool := false; let f : Nat := 2 ^ 71; (s.joinFields n w = some (i, f)) ∧ (s.rd (LN_CTRL.EN n) ≠ 0) ∧ ((s.lane n).joining = true)) ∧
    (let s : State := (((State.reset.modLink (lanePort 0) fun x => { x with linkUp := true }).wr (LN_STAT.STATE 0) 2).wr (LN_CTRL.EN 0) 1); let n : Fin 24 := 0; ((s.link (lanePort n)).linkUp = true) ∧ (s.rd (LN_STAT.STATE n) = 2) ∧ (s.rd (LN_CTRL.EN n) ≠ 0)) ∧
    (let s : State := (((State.reset.modLink (lanePort 0) fun l => { l with linkUp := true }).wr (LN_STAT.STATE 0) 2).wr (LN_STAT.DIR 0) 0); let n : Fin 24 := 0; ((s.link (lanePort n)).linkUp = true) ∧ (s.rd (LN_STAT.STATE n) = 2) ∧ (s.rd (LN_CTRL.EN n) = 0)) ∧
    (let s : State := ((((State.reset.modLink (lanePort 0) fun x => { x with linkUp := true }).wr (LN_STAT.STATE 0) 2).wr (LN_CTRL.EN 0) 1).wr (LN_STAT.DIR 0) 0); let n : Fin 24 := 0; ((s.link (lanePort n)).linkUp = true) ∧ (s.rd (LN_STAT.STATE n) = 2) ∧ (s.rd (LN_CTRL.EN n) ≠ 0) ∧ (s.rd (LN_STAT.DIR n) = 0)) ∧
    (let s : State := ((((State.reset.modLink (lanePort 0) fun x => { x with linkUp := true }).wr (LN_STAT.STATE 0) 2).wr (LN_CTRL.EN 0) 1).wr (LN_STAT.DIR 0) 1); let n : Fin 24 := 0; ((s.link (lanePort n)).linkUp = true) ∧ (s.rd (LN_STAT.STATE n) = 2) ∧ (s.rd (LN_CTRL.EN n) ≠ 0) ∧ (s.rd (LN_STAT.DIR n) ≠ 0)) := by
  and_intros <;> decide +kernel

theorem witness_LowPowerAndWake :
    (let s : State := (State.reset.modLink 0 fun l => { l with act := none }); let p : Fin 6 := 0; ((s.link p).act = none)) ∧
    (let s : State := (State.reset.modLink 0 fun l => { l with act := some ({ kind := 2, lane := 0, tx := true, cw := 1, begun := false } : LaneAct) }); let p : Fin 6 := 0; let a : LaneAct := ({ kind := 2, lane := 0, tx := true, cw := 1, begun := false } : LaneAct); ((s.link p).act = some a) ∧ ((if a.tx then (s.link p).cwTx else (s.link p).cwRx) < a.cw)) ∧
    (let s : State := ((((State.reset.modLink 0 fun l => { l with act := some ({ kind := 2, lane := 0, tx := true, cw := 0, begun := false } : LaneAct) }).wr (LN_STAT.STATE 1) 3).wr (LN_STAT.WIDTH 1) 1).wr (LN_STAT.DIR 1) 0); let p : Fin 6 := 0; let a : LaneAct := ({ kind := 2, lane := 0, tx := true, cw := 0, begun := false } : LaneAct); let u := (((((s.storeRx a.lane).abortScan a.lane).unstripe a.lane).setLaneState a.lane (if a.kind = 2 then 5 else 6)).laneSend a.lane (if a.kind = 2 ∧ s.rd (LN_STAT.DIR a.lane) = 0 then 5 else 0)).endAct p; ((s.link p).act = some a) ∧ (a.begun = false) ∧ (a.cw ≤ (if a.tx then (s.link p).cwTx else (s.link p).cwRx)) ∧ (a.kind = 2 ∨ (a.kind = 3 ∧ (s.link p).prePark ≠ [])) ∧ (u.striped p 0 ≠ [] ∨ u.striped p 1 ≠ [])) ∧
    (let s : State := (State.reset.modLink 0 fun l => { l with act := some ({ kind := 2, lane := 0, tx := true, cw := 0, begun := false } : LaneAct) }); let p : Fin 6 := 0; let a : LaneAct := ({ kind := 2, lane := 0, tx := true, cw := 0, begun := false } : LaneAct); let u := (((((s.storeRx a.lane).abortScan a.lane).unstripe a.lane).setLaneState a.lane (if a.kind = 2 then 5 else 6)).laneSend a.lane (if a.kind = 2 ∧ s.rd (LN_STAT.DIR a.lane) = 0 then 5 else 0)).endAct p; let v := (u.modLink p fun l => { l with parked := true, waking := false }).wr (CL_STAT.TLOCK p) 0; ((s.link p).act = some a) ∧ (a.begun = false) ∧ (a.cw ≤ (if a.tx then (s.link p).cwTx else (s.link p).cwRx)) ∧ (a.kind = 2 ∨ (a.kind = 3 ∧ (s.link p).prePark ≠ [])) ∧ (u.striped p 0 = []) ∧ (u.striped p 1 = []) ∧ ((v.link p).rejoinOwn = false)) ∧
    (let s : State := ((State.reset.wr (LN_STAT.STATE 0) 6).modLink 0 fun l => { l with act := some ({ kind := 4, lane := 0, tx := true, cw := 0, begun := false } : LaneAct) }); let p : Fin 6 := 0; let a : LaneAct := ({ kind := 4, lane := 0, tx := true, cw := 0, begun := false } : LaneAct); ((s.link p).act = some a) ∧ (a.kind = 4) ∧ (a.begun = false) ∧ (a.cw ≤ (if a.tx then (s.link p).cwTx else (s.link p).cwRx)) ∧ (s.rd (LN_STAT.STATE a.lane) = 6) ∧ (a.tx = true)) ∧
    (let s : State := ((State.reset.wr (LN_STAT.STATE 0) 5).modLink 0 fun l => { l with act := some ({ kind := 4, lane := 0, tx := true, cw := 0, begun := false } : LaneAct) }); let p : Fin 6 := 0; let a : LaneAct := ({ kind := 4, lane := 0, tx := true, cw := 0, begun := false } : LaneAct); ((s.link p).act = some a) ∧ (a.kind = 4) ∧ (a.begun = false) ∧ (a.cw ≤ (if a.tx then (s.link p).cwTx else (s.link p).cwRx)) ∧ (s.rd (LN_STAT.STATE a.lane) = 5) ∧ (a.tx = true)) ∧
    (let s : State := ((State.reset.wr (LN_STAT.STATE 0) 5).modLink 0 fun l => { l with act := some ({ kind := 4, lane := 0, tx := false, cw := 0, begun := false } : LaneAct) }); let p : Fin 6 := 0; let a : LaneAct := ({ kind := 4, lane := 0, tx := false, cw := 0, begun := false } : LaneAct); ((s.link p).act = some a) ∧ (a.kind = 4) ∧ (a.begun = false) ∧ (a.cw ≤ (if a.tx then (s.link p).cwTx else (s.link p).cwRx)) ∧ (s.rd (LN_STAT.STATE a.lane) ≠ 0) ∧ (a.tx = false)) ∧
    (let s : State := ((State.reset.modLink 0 fun l => { l with parked := true }).modLink 0 fun l => { l with waking := true }); let p : Fin 6 := 0; ((s.link p).parked = true) ∧ ((s.link p).waking = true)) ∧
    (let s : State := ((State.reset.modLink 0 fun l => { l with parked := true }).modLink 0 fun l => { l with waking := true }); let p : Fin 6 := 0; let u := if s.pwr.step = .parking ∧ 2 ≤ s.pwr.target then s.entryAbandon Ev.PS_ABANDONED 0 stAborted else s.wakeEvent p false; ((s.link p).parked = true) ∧ (u.lanesAwake p = true)) ∧
    (let s : State := ((State.reset.modLink 0 fun l => { l with parked := true }).wr PS_STAT.STATE 3); let p : Fin 6 := 0; let u := if s.pwr.step = .parking ∧ 2 ≤ s.pwr.target then s.entryAbandon Ev.PS_ABANDONED 0 stAborted else s.wakeEvent p false; ((s.link p).parked = true) ∧ (u.lanesAwake p = false)) ∧
    (let s : State := (State.reset.modLink 0 fun l => { l with parked := false }); let p : Fin 6 := 0; ((s.link p).parked = false)) := by
  and_intros <;> decide +kernel

theorem witness_LaneTestsReport :
    (let s : State := ({ (State.reset.wr (LN_ES_CTRL.BUSY 0) 1) with cmd := { ((State.reset.wr (LN_ES_CTRL.BUSY 0) 1)).cmd with entries := [] } } : State); let n : Fin 24 := 0; (s.rd (LN_ES_CTRL.BUSY n) ≠ 0) ∧ (s.cmd.entries = [])) ∧
    (let s : State := (State.reset.wr (LN_ES_CTRL.BUSY 0) 0); let n : Fin 24 := 0; (s.rd (LN_ES_CTRL.BUSY n) = 0)) ∧
    (let s : State := ((State.reset.wr (LN_STAT.STATE 0) 7).wr (LN_PAT_CTRL.CHK_EN 0) 1); let n : Fin 24 := 0; let l : List Bool := List.replicate 71 false; (s.rd (LN_STAT.STATE n) = 7) ∧ (s.rd (LN_PAT_CTRL.CHK_EN n) ≠ 0) ∧ (s.rd (LN_PAT_CTRL.LOCKED n) = 0) ∧ (l.length = prbsDegree (s.rd (LN_PAT_CTRL.SEL n)) + 64) ∧ (prbsHolds (s.rd (LN_PAT_CTRL.SEL n)) [] (l.map fun b => xor b (decide (s.rd (LN_PAT_CTRL.INV n) ≠ 0))) = true)) ∧
    (let s : State := State.reset; let n : Fin 24 := 0; let l : List Bool := []; (s.patLocks n l = false)) ∧
    (let s : State := (State.reset.wr (LN_STAT.STATE 0) 0); let n : Fin 24 := 0; (s.rd (LN_STAT.STATE n) ≠ 7 ∨ s.rd (LN_PAT_CTRL.CHK_EN n) = 0)) ∧
    (let w : BitVec 64 := 0; (ones64 w < 32)) ∧
    (let s : State := (((State.reset.wr (LN_STAT.STATE 0) 7).wr (LN_PAT_CTRL.CHK_EN 0) 1).wr (LN_PAT_CTRL.LOCKED 0) 1); let n : Fin 24 := 0; let w : BitVec 64 := 0xFFFFFFFF; (s.rd (LN_STAT.STATE n) = 7) ∧ (s.rd (LN_PAT_CTRL.CHK_EN n) ≠ 0) ∧ (s.rd (LN_PAT_CTRL.LOCKED n) ≠ 0) ∧ (32 ≤ ones64 w)) ∧
    (let s : State := (((State.reset.wr (LN_STAT.STATE 0) 7).wr (LN_PAT_CTRL.CHK_EN 0) 1).wr (LN_PAT_CTRL.LOCKED 0) 1); let n : Fin 24 := 0; let w : BitVec 64 := 0xFFFFFFFF; let a := 0; (s.rd (LN_STAT.STATE n) = 7) ∧ (s.rd (LN_PAT_CTRL.CHK_EN n) ≠ 0) ∧ (s.rd (LN_PAT_CTRL.LOCKED n) ≠ 0) ∧ (32 ≤ ones64 w) ∧ (a ≠ LN_PAT_CTRL n) ∧ (a ≠ LN_PAT_ERR n) ∧ (a ≠ LN_PAT_BITS_LO n) ∧ (a ≠ LN_PAT_BITS_HI n)) ∧
    (let s : State := ((((State.reset.wr (LN_INJ_CTRL.MODE 0) 2).wr (LN_STAT.STATE 0) 3).wr (LN_STAT.DIR 0) 0).modLane 0 fun l => { l with injBlk := 65536 }); let n : Fin 24 := 0; (s.rd (LN_INJ_CTRL.MODE n) = 2) ∧ (s.rd (LN_STAT.STATE n) = 3) ∧ (s.rd (LN_STAT.DIR n) = 0) ∧ (max 1 (s.rd (LN_INJ_INT.INTERVAL n)) ≤ (s.lane n).injBlk)) ∧
    (let s : State := (((State.reset.wr (LN_INJ_CTRL.MODE 0) 2).wr (LN_STAT.STATE 0) 3).wr (LN_STAT.DIR 0) 0); let n : Fin 24 := 0; (s.rd (LN_INJ_CTRL.MODE n) = 2) ∧ (s.rd (LN_STAT.STATE n) = 3) ∧ (s.rd (LN_STAT.DIR n) = 0) ∧ ((s.lane n).injBlk < max 1 (s.rd (LN_INJ_INT.INTERVAL n)))) := by
  and_intros <;> decide +kernel

theorem witness_CellsAndCredits :
    (let s : State := (State.reset.modLink 0 fun l => { l with cells := [] }); let p : Fin 6 := 0; ((s.link p).cells = [])) ∧
    (let s : State := ((State.reset).modLink 0 fun l => { l with cells := [({}, [0xC0#8, 0, 0, 0])] }); let p : Fin 6 := 0; let at_ : Time := {}; let b : List Byte := [0xC0#8, 0, 0, 0]; let rest : List (Time × List Byte) := []; ((s.link p).cells = (at_, b) :: rest) ∧ ((Cell.ofBytes b).kind = 3)) ∧
    (let s : State := (State.reset.modLink 0 fun x => { x with cells := (({}), []) :: [] }); let p : Fin 6 := 0; let at_ : Time := {}; let b : List Byte := []; let rest : List (Time × List Byte) := []; ((s.link p).cells = (at_, b) :: rest) ∧ ((Cell.ofBytes b).kind = 0)) ∧
    (let s : State := ((State.reset.wr (CL_STAT.LSTATE 0) 4).modLink 0 fun l => { l with cells := [({}, [0x60#8, 0, 0, 0])] }); let p : Fin 6 := 0; let at_ : Time := {}; let b : List Byte := [0x60#8, 0, 0, 0]; let rest : List (Time × List Byte) := []; let c := Cell.ofBytes b; let u := (s.modLink p fun l => { l with cells := rest }).creditReturn p c.crTc c.crCnt; let o := (u.link p).rx.find? fun o => decide (o.tc = c.tc); ((s.link p).cells = (at_, b) :: rest) ∧ ((Cell.ofBytes b).kind = 1) ∧ (u.lstate p = 4) ∧ (c.first = true) ∧ (o = none)) ∧
    (let s : State := ((State.reset.wr (CL_STAT.LSTATE 0) 4).modLink 0 fun l => { l with cells := [({}, [0x40#8, 0, 0, 0])], rx := [({ tc := 0, id := 1, raw := [] } : OpenRx)] }); let p : Fin 6 := 0; let at_ : Time := {}; let b : List Byte := [0x40#8, 0, 0, 0]; let rest : List (Time × List Byte) := []; let c := Cell.ofBytes b; let u := (s.modLink p fun l => { l with cells := rest }).creditReturn p c.crTc c.crCnt; let o := (u.link p).rx.find? fun o => decide (o.tc = c.tc); let x := ({ tc := 0, id := 1, raw := [] } : OpenRx); ((s.link p).cells = (at_, b) :: rest) ∧ ((Cell.ofBytes b).kind = 1) ∧ (u.lstate p = 4) ∧ (c.first = false) ∧ (o = some x)) ∧
    (let s : State := ((State.reset.wr (CL_STAT.LSTATE 0) 4).modLink 0 fun l => { l with cells := [({}, [0x40#8, 0, 0, 0])] }); let p : Fin 6 := 0; let at_ : Time := {}; let b : List Byte := [0x40#8, 0, 0, 0]; let rest : List (Time × List Byte) := []; let c := Cell.ofBytes b; let u := (s.modLink p fun l => { l with cells := rest }).creditReturn p c.crTc c.crCnt; let o := (u.link p).rx.find? fun o => decide (o.tc = c.tc); ((s.link p).cells = (at_, b) :: rest) ∧ ((Cell.ofBytes b).kind = 1) ∧ (u.lstate p = 4) ∧ (c.first = false) ∧ (o = none)) ∧
    (let s : State := ((State.reset).modLink 0 fun l => { l with cells := [({}, [0xB0#8, 0, 0, 0])] }); let p : Fin 6 := 0; let at_ : Time := {}; let b : List Byte := [0xB0#8, 0, 0, 0]; let rest : List (Time × List Byte) := []; let c := Cell.ofBytes b; let u := ((s.modLink p fun l => { l with cells := rest }).creditReturn p c.crTc c.crCnt).modLink p fun l => { l with ctlAt := some at_ }; ((s.link p).cells = (at_, b) :: rest) ∧ ((Cell.ofBytes b).kind = 2) ∧ (c.first = true) ∧ (c.last = true) ∧ ((u.link p).ctlRx = none) ∧ (u.linkEnc p = false)) ∧
    (let s : State := (State.reset.modLink 0 fun l => { l with rx := [{ tc := 0, id := 1, raw := [] }] }); let p : Fin 6 := 0; let tc : Fin 8 := 0; let o : OpenRx := ({ tc := 0, id := 1, raw := [] } : OpenRx); (((s.link p).rx.find? fun o => decide (o.tc = tc.val)) = some o)) ∧
    (let s : State := (((State.reset.modLink 0 fun l => { l with linkUp := true }).wr (CL_STAT.VER 0) 1).modLink 0 fun l => { l with parked := false }); let p : Fin 6 := 0; ((s.link p).linkUp = true) ∧ (s.rd (CL_STAT.VER p) ≠ 0) ∧ ((s.link p).parked = false)) ∧
    (let s : State := (((State.reset.modLink 0 fun l => { l with linkUp := true }).wr (CL_STAT.VER 0) 1).modLink 0 fun l => { l with parked := false }); let p : Fin 6 := 0; ((s.link p).linkUp = true)) := by
  and_intros <;> decide +kernel

theorem witness_CreditReportRaisesCounts :
    (let s : State := (State.reset.modLink 0 fun l => { l with linkUp := true }); let p : Fin 6 := 0; ((s.link p).linkUp = true)) := by
  decide +kernel

theorem witness_VersionNegotiation :
    (let s : State := ((State.reset.modLink 0 fun l => { l with linkUp := true }).wr (CL_STAT.LSTATE 0) 2); let p : Fin 6 := 0; let vers : Fin 256 := 255; ((s.link p).linkUp = true) ∧ (s.rd (CL_STAT.LSTATE p) = 2) ∧ (bitOf (Nat.land vers (s.rd (CL_CTRL.VER_ALLOW p) * 4)) 3 = true)) ∧
    (let s : State := ((State.reset.modLink 0 fun l => { l with linkUp := true }).wr (CL_STAT.LSTATE 0) 2); let p : Fin 6 := 0; let vers : Fin 256 := 0; ((s.link p).linkUp = true) ∧ (s.rd (CL_STAT.LSTATE p) = 2) ∧ (bitOf (Nat.land vers (s.rd (CL_CTRL.VER_ALLOW p) * 4)) 3 = false) ∧ (bitOf (Nat.land vers (s.rd (CL_CTRL.VER_ALLOW p) * 4)) 2 = false)) ∧
    (let s : State := (((State.reset.modLink 0 fun l => { l with linkUp := true }).wr (CL_STAT.LSTATE 0) 2).modLink 0 fun l => { l with offerGot := false }); let p : Fin 6 := 0; ((s.link p).linkUp = true) ∧ (s.rd (CL_STAT.LSTATE p) = 2) ∧ ((s.link p).offerGot = false)) ∧
    (let s : State := (State.reset.modLink 0 fun l => { l with offerGot := true }); let p : Fin 6 := 0; ((s.link p).offerGot = true)) ∧
    (let s : State := (((State.reset.modLink 0 fun l => { l with linkUp := true }).wr (CL_STAT.LSTATE 0) 2).modLink 0 fun l => { l with offerGot := true }); let p : Fin 6 := 0; let v : Fin 256 := 3; ((s.link p).linkUp = true) ∧ (s.rd (CL_STAT.LSTATE p) = 2) ∧ ((s.link p).offerGot = true) ∧ (v.val ≠ (s.link p).chosen)) ∧
    (let s : State := (((State.reset.modLink 0 fun l => { l with linkUp := true }).wr (CL_STAT.LSTATE 0) 2).modLink 0 fun l => { l with offerGot := true }); let p : Fin 6 := 0; let v : Fin 256 := 0; ((s.link p).linkUp = true) ∧ (s.rd (CL_STAT.LSTATE p) = 2) ∧ ((s.link p).offerGot = true) ∧ (v.val = (s.link p).chosen)) := by
  and_intros <;> decide +kernel

theorem witness_AuthenticationSteps :
    (let s : State := (((State.reset.wr (CL_STAT.VER 0) 3).wr (CL_STAT.LSTATE 0) 3).modLink 0 fun l => { l with linkUp := true, authSent := 1, authGot := 0 }); let p : Fin 6 := 0; (s.rd (CL_STAT.VER p) = 3) ∧ (s.rd (CL_STAT.LSTATE p) = 3) ∧ (s.authAt p 1 = true)) ∧
    (let s : State := (State.reset.modLink 0 fun l => { l with linkUp := true, authSent := 2, authGot := 1 }); let p : Fin 6 := 0; let i : Fin 256 := 1; (s.authAt p 2 = true) ∧ (i.val ≠ (s.link p).certs.length)) ∧
    (let s : State := (State.reset.modLink 0 fun l => { l with linkUp := true, authSent := 2, authGot := 1 }); let p : Fin 6 := 0; let i : Fin 256 := 0; let n : Fin 256 := 2; let c : List Byte := []; (s.authAt p 2 = true) ∧ (i.val = (s.link p).certs.length) ∧ (i < n) ∧ (n.val ≤ 3) ∧ (c.length ≤ 1600) ∧ (i.val + 1 < n)) ∧
    (let s : State := (State.reset.modLink 0 fun l => { l with linkUp := true, authSent := 2, authGot := 1 }); let p : Fin 6 := 0; let i : Fin 256 := 0; let n : Fin 256 := 1; let c : List Byte := []; (s.authAt p 2 = true) ∧ (i.val = (s.link p).certs.length) ∧ (i < n) ∧ (n.val ≤ 3) ∧ (c.length ≤ 1600) ∧ (n.val = i.val + 1)) ∧
    (let s : State := (State.reset.modLink 0 fun l => { l with linkUp := true, authSent := 3, authGot := 2 }); let p : Fin 6 := 0; (s.authAt p 3 = true)) ∧
    (let s : State := ((State.reset.wr (CL_STAT.ENC 0) 0).modLink 0 fun l => { l with linkUp := true, authSent := 4, authGot := 3 }); let p : Fin 6 := 0; let u := (s.wr (CL_STAT.AUTH_OK p) 1).modLink p fun l => { l with authSent := 0, authGot := 0, pnTx := 0, prkTx := (s.link p).prkNew, tagFails := 0 }; (s.authAt p 4 = true) ∧ (u.rd (CL_STAT.ENC p) = 0)) ∧
    (let s : State := ((State.reset.modLink 0 fun l => { l with linkUp := true }).wr (CL_STAT.VER 0) 1); let p : Fin 6 := 0; ((s.link p).linkUp = true) ∧ (s.rd (CL_STAT.VER p) ≠ 0)) ∧
    (let s : State := ((State.reset.modLink 0 fun l => { l with linkUp := true }).wr (CL_STAT.LSTATE 0) 3); let p : Fin 6 := 0; (s.authRuns p = true)) ∧
    (let s : State := ((((State.reset.modLink 0 fun l => { l with linkUp := true, peerPolicy := 1 }).wr (CL_STAT.LSTATE 0) 6).wr (CL_AUTH.REASON 0) 3).wr (CL_CTRL.AUTH_POLICY 0) 1); let p : Fin 6 := 0; (s.mayRetry p = true)) := by
  and_intros <;> decide +kernel

theorem witness_KeyPhaseChange :
    (let s : State := ((((((State.reset.wr (CL_STAT.ENC 0) 1).modLink 0 fun l => { l with linkUp := true }).wr (CL_STAT.VER 0) 3).modLink 0 fun l => { l with rekeying := none }).wr (CL_AUTH.REKEY_EXP 0) 0).modLink 0 fun l => { l with pnTx := 1 }); let p : Fin 6 := 0; (2 ^ s.rd (CL_AUTH.REKEY_EXP p) ≤ (s.link p).pnTx) ∧ (s.rd (CL_STAT.ENC p) ≠ 0) ∧ ((s.link p).linkUp = true) ∧ (s.rd (CL_STAT.VER p) = 3) ∧ ((s.link p).rekeying = none)) ∧
    (let s : State := State.reset; let p : Fin 6 := 0; ((s.link p).pnTx < 2 ^ s.rd (CL_AUTH.REKEY_EXP p))) ∧
    (let s : State := ((((State.reset.modLink 0 fun l => { l with linkUp := true }).wr (CL_STAT.ENC 0) 1).wr (CL_STAT.VER 0) 3).modLink 0 fun l => { l with rxNext := none }); let p : Fin 6 := 0; let kp : Fin 2 := 1; ((s.link p).linkUp = true) ∧ (s.rd (CL_STAT.ENC p) ≠ 0) ∧ (s.rd (CL_STAT.VER p) = 3) ∧ (kp.val ≠ (s.link p).kpRx) ∧ ((s.link p).rxNext = none)) ∧
    (let s : State := (((State.reset.modLink 0 fun l => { l with linkUp := true }).wr (CL_STAT.ENC 0) 1).wr (CL_STAT.VER 0) 3); let p : Fin 6 := 0; let kp : Fin 2 := 0; ((s.link p).linkUp = true) ∧ (s.rd (CL_STAT.ENC p) ≠ 0) ∧ (s.rd (CL_STAT.VER p) = 3) ∧ (kp.val = (s.link p).kpRx)) ∧
    (let s : State := (State.reset.modLink 0 fun l => { l with rekeying := some 0 }); let p : Fin 6 := 0; let kp : Fin 2 := 0; ((s.link p).rekeying = some kp.val)) ∧
    (let s : State := State.reset; let p : Fin 6 := 0; let kp : Fin 2 := 0; ((s.link p).rekeying ≠ some kp.val)) := by
  and_intros <;> decide +kernel

theorem witness_LanePlanMessages :
    (let s : State := (((State.reset.modLink 0 fun l => { l with linkUp := true }).wr (AL_CTRL.FOLLOW 0) 1).wr DM_ID.UPPORT 0); let p : Fin 6 := 0; let cw : BitVec 64 := 0; ((s.link p).linkUp = true) ∧ ((s.link p).cwRx ≤ cw.toNat) ∧ (s.rd (AL_CTRL.FOLLOW p) ≠ 0) ∧ (s.planOwner p = some false)) ∧
    (let s : State := ((State.reset.modLink 0 fun l => { l with linkUp := true }).modLink 0 fun l => { l with parked := true }); let p : Fin 6 := 0; ((s.link p).linkUp = true) ∧ ((s.link p).parked = true)) ∧
    (let s : State := ((State.reset.modLink 0 fun l => { l with linkUp := true }).wr (LN_STAT.STATE 0) 3); let p : Fin 6 := 0; let lane : Fin 4 := 0; let g : Fin 2 := 1; let cw : BitVec 64 := 1; let n := s.laneOfPartner p lane; ((s.link p).linkUp = true) ∧ ((s.link p).parked = false) ∧ ((s.link p).act = none) ∧ (s.mayTurn p = true) ∧ ((s.link p).cwTx < cw.toNat) ∧ ((s.link p).cwRx ≤ cw.toNat) ∧ (s.rd (LN_CTRL.NO_TURN n) = 0) ∧ (s.rd (LN_STAT.DIR n) = (if g.val = 1 then 0 else 1)) ∧ (s.laneState n = 3)) ∧
    (let s : State := ((State.reset.modLink 0 fun l => { l with linkUp := true }).wr (LN_STAT.STATE 0) 3).wr (LN_STAT.WIDTH 0) 1; let p : Fin 6 := 0; let lane : Fin 4 := 0; ((s.link p).linkUp = true) ∧ (s.rd (LN_STAT.DIR (s.laneOfPartner p lane)) = 0) ∧ (s.inService (s.laneOfPartner p lane) = true)) ∧
    (let s : State := (((State.reset.modLink 0 fun l => { l with linkUp := true }).wr (AL_CTRL.FOLLOW 0) 1).wr DM_ID.UPPORT 0); let p : Fin 6 := 0; let cw : BitVec 64 := 0; ((s.link p).linkUp = true) ∧ ((s.link p).cwRx ≤ cw.toNat)) ∧
    (let s : State := ((State.reset.modLink 0 fun l => { l with linkUp := true }).modLink 0 fun l => { l with act := some ({ kind := 0, lane := 0, tx := true, cw := 0 } : LaneAct) }); let p : Fin 6 := 0; let a : LaneAct := ({ kind := 0, lane := 0, tx := true, cw := 0 } : LaneAct); ((s.link p).linkUp = true) ∧ ((s.link p).act = some a) ∧ (a.kind = 0)) ∧
    (let s : State := (State.reset.modLink 0 fun l => { l with linkUp := true }); let p : Fin 6 := 0; let cw : BitVec 64 := 1; ((s.link p).linkUp = true) ∧ ((s.link p).act = none) ∧ ((s.link p).cwTx < cw.toNat) ∧ ((s.link p).cwRx ≤ cw.toNat)) ∧
    (let s : State := (State.reset.modLink 0 fun l => { l with linkUp := true }); let p : Fin 6 := 0; let r : Fin 256 := 0; ((s.link p).linkUp = true) ∧ (r = 0)) ∧
    (let s : State := (State.reset.modLink 0 fun l => { l with linkUp := true }); let p : Fin 6 := 0; let r : Fin 256 := 1; ((s.link p).linkUp = true) ∧ (r = 1)) ∧
    (let s : State := (State.reset.modLink 0 fun l => { l with linkUp := true }); let p : Fin 6 := 0; let r : Fin 256 := 2; ((s.link p).linkUp = true) ∧ (2 ≤ r.val)) ∧
    (let s : State := (State.reset.modLink 0 fun l => { l with linkUp := false }); let p : Fin 6 := 0; ((s.link p).linkUp = false)) ∧
    (let s : State := State.reset; let p : Fin 6 := 0; let k : BitVec 32 := 1; ((s.link p).echoTok ≠ k.toNat)) ∧
    (let s : State := ({ (State.reset.modLink 0 fun l => { l with echoTok := 0 }) with cmd := { ((State.reset.modLink 0 fun l => { l with echoTok := 0 })).cmd with entries := [{ owner := .usb, op := 0, seq := 1, txn := 0, csv := 3, body := [], running := true, wait := .echo 0 {} }] } } : State); let p : Fin 6 := 0; let k : BitVec 32 := 0; let e : CmdEntry := { owner := .usb, op := 0, seq := 1, txn := 0, csv := 3, body := [], running := true, wait := .echo 0 {} }; let t0 : Time := {}; ((s.link p).echoTok = k.toNat) ∧ (s.cmd.entries = [e]) ∧ (e.running = true) ∧ (e.wait = .echo p t0)) ∧
    (let r : Fin 3 := 0; (r.val < 2)) := by
  and_intros <;> decide +kernel

theorem witness_TimeExchange :
    (let s : State := (((State.reset.modLink 0 fun l => { l with linkUp := true }).modLink 0 fun l => { l with parked := false }).wr (CL_CTRL.TIME_MASTER 0) 1); let p : Fin 6 := 0; (s.syncRuns p = true) ∧ (s.timeMaster p = true)) ∧
    (let s : State := (((State.reset.modLink 0 fun l => { l with linkUp := true }).modLink 0 fun l => { l with parked := false }).wr (CL_CTRL.TIME_MASTER 0) 0); let p : Fin 6 := 0; (s.syncRuns p = true) ∧ (s.timeMaster p = false)) ∧
    (let s : State := (((State.reset.modLink 0 fun l => { l with linkUp := true }).modLink 0 fun l => { l with parked := false }).wr (CL_CTRL.TIME_MASTER 0) 0); let p : Fin 6 := 0; (s.syncRuns p = true) ∧ (s.timeMaster p = false) ∧ (s.transition p = false)) ∧
    (let s : State := ((((State.reset.modLink 0 fun l => { l with linkUp := true }).modLink 0 fun l => { l with parked := false }).modLink 0 fun l => { l with t2 := some ({} : Time) }).modLink 0 fun l => { l with syncId := 0 }); let p : Fin 6 := 0; let id : BitVec 32 := 0; let t2 : Time := ({} : Time); (s.syncRuns p = true) ∧ ((s.link p).t2 = some t2) ∧ ((s.link p).syncId = id.toNat)) ∧
    (let s : State := ((((((State.reset.modLink 0 fun l => { l with linkUp := true }).modLink 0 fun l => { l with parked := false }).modLink 0 fun l => { l with t1 := some ({} : Time) }).modLink 0 fun l => { l with t2 := some ({} : Time) }).modLink 0 fun l => { l with t3 := some ({} : Time) }).modLink 0 fun l => { l with syncId := 0 }); let p : Fin 6 := 0; let id : BitVec 32 := 0; let t1 : Time := ({} : Time); let t2 : Time := ({} : Time); let t3 : Time := ({} : Time); (s.syncRuns p = true) ∧ ((s.link p).t1 = some t1) ∧ ((s.link p).t2 = some t2) ∧ ((s.link p).t3 = some t3) ∧ ((s.link p).syncId = id.toNat)) ∧
    (let s : State := State.reset; let p : Fin 6 := 0; (s.syncRuns p = false)) := by
  and_intros <;> decide +kernel

theorem witness_EnginesWorkAndSteal :
    (let s : State := (State.reset.modEng 0 fun x => { x with cur := none }); let e : Fin 32 := 0; ((s.eng e).cur = none)) ∧
    (let s : State := (((State.reset.modEng 0 fun x => { x with cur := some ({ ingress := false, adp := 1, pkt := {} } : Item) }).setStored ({ ingress := false, adp := 1, pkt := {} } : Item).id (some ({ pkt := {}, inp := 0, cells := 1, lossless := false, refs := 1, complete := true } : Stored))).mapSw fun w => { w with ready := [(0, 1)] }); let e : Fin 32 := 0; let it : Item := ({ ingress := false, adp := 1, pkt := {} } : Item); let st : Stored := ({ pkt := {}, inp := 0, cells := 1, lossless := false, refs := 1, complete := true } : Stored); ((s.eng e).cur = some it) ∧ (it.ingress = false) ∧ (s.sw.ready.contains (it.id, it.adp) = true) ∧ (s.stored it.id = some st) ∧ ((s.sw.misread.find? fun r => decide (r.id = it.id ∧ r.adp = it.adp)) = none) ∧ (s.sw.gone.contains (it.id, it.adp) = false)) ∧
    (let s : State := (((State.reset.modEng 0 fun x => { x with cur := some ({ ingress := false, adp := 1, pkt := {} } : Item) }).setStored 0 (some ({ pkt := {}, inp := 0, cells := 1, lossless := false, refs := 1, complete := true } : Stored))).mapSw fun w => { w with ready := [(0, 1)], gone := [(0, 1)] }); let e : Fin 32 := 0; let it : Item := ({ ingress := false, adp := 1, pkt := {} } : Item); let st : Stored := ({ pkt := {}, inp := 0, cells := 1, lossless := false, refs := 1, complete := true } : Stored); ((s.eng e).cur = some it) ∧ (it.ingress = false) ∧ (s.sw.ready.contains (it.id, it.adp) = true) ∧ (s.stored it.id = some st) ∧ ((s.sw.misread.find? fun r => decide (r.id = it.id ∧ r.adp = it.adp)) = none) ∧ (s.sw.gone.contains (it.id, it.adp) = true)) ∧
    (let s : State := ((State.reset.modEng 0 fun x => { x with cur := some ({ ingress := true, adp := 1, pkt := {} } : Item), admitted := true }).setStored 0 (some ({ pkt := {}, inp := 0, cells := 1, lossless := false, refs := 1, complete := true } : Stored))); let e : Fin 32 := 0; let it : Item := ({ ingress := true, adp := 1, pkt := {} } : Item); let st : Stored := ({ pkt := {}, inp := 0, cells := 1, lossless := false, refs := 1, complete := true } : Stored); ((s.eng e).cur = some it) ∧ (it.ingress = true) ∧ ((s.eng e).admitted = true) ∧ (s.stored it.id = some st) ∧ (typeFragments (s.adpType it.adp) = false)) ∧
    (let s : State := ((State.reset.wr (SE_CTRL.STEAL_EN 0) 1).modEng 1 fun x => { x with queue := [{ ingress := true, adp := 1, pkt := {} }, { ingress := true, adp := 1, pkt := {} }] }); let e : Fin 32 := 0; let v : Nat := 1; let n : Nat := 2; ((s.eng e).idle = true) ∧ (s.rd (SE_CTRL.STEAL_EN e) ≠ 0) ∧ (s.victim ((cluster e).filter (· ≠ e.val)) = some (v, n))) ∧
    (let s : State := (State.reset.modEng 0 fun x => { x with cur := some { ingress := true, adp := 1, pkt := {} } }); let e : Fin 32 := 0; ((s.eng e).idle = false ∨ s.rd (SE_CTRL.STEAL_EN e) = 0)) ∧
    (let s : State := ((State.reset.wr (SE_CTRL.XSTEAL_EN 0) 1).modEng 8 fun x => { x with queue := [{ ingress := true, adp := 1, pkt := {} }, { ingress := true, adp := 1, pkt := {} }] }); let e : Fin 32 := 0; let v : Nat := 8; let n : Nat := 2; ((s.eng e).idle = true) ∧ (s.rd (SE_CTRL.XSTEAL_EN e) ≠ 0) ∧ (s.victim ((cluster e).filter (· ≠ e.val)) = none) ∧ (s.victim (otherClusters e) = some (v, n))) ∧
    (let s : State := (State.reset.modEng 0 fun x => { x with moving := some [] }); let e : Fin 32 := 0; let l : List Item := []; ((s.eng e).moving = some l)) ∧
    (let s : State := (State.reset.modEng 0 fun x => { x with moving := none }); let e : Fin 32 := 0; ((s.eng e).moving = none)) := by
  and_intros <;> decide +kernel

theorem witness_ResequencerOrders :
    (let s : State := ((State.reset.wr (TA_STAT.OPEN 1) 1).modAdp 1 fun x => { x with rx := [({}, 0, false)] }); let a : Fin 256 := 1; let pkt : Packet := {}; let id : Nat := 0; let rest : List (Packet × Nat × Bool) := []; let u := s.modAdp a fun x => { x with rx := rest }; (a ≠ 0) ∧ ((s.adp a).rx = (pkt, id, false) :: rest) ∧ (pkt.cls ≠ 3) ∧ (s.accepts a pkt = true) ∧ (pkt.seq = u.expSeq a) ∧ (pkt.seq < 65536)) ∧
    (let s : State := ((State.reset.wr (TA_STAT.OPEN 1) 1).modAdp 1 fun x => { x with rx := [({ seq := 1 }, 0, false)] }); let a : Fin 256 := 1; let pkt : Packet := { seq := 1 }; let id : Nat := 0; let rest : List (Packet × Nat × Bool) := []; let u := s.modAdp a fun x => { x with rx := rest }; (a ≠ 0) ∧ ((s.adp a).rx = (pkt, id, false) :: rest) ∧ (pkt.cls ≠ 3) ∧ (s.accepts a pkt = true) ∧ (0 < seqAhead pkt.seq (u.expSeq a)) ∧ (seqAhead pkt.seq (u.expSeq a) < 32768) ∧ (((u.adp a).held.any fun h => decide (h.1.seq = pkt.seq)) = false) ∧ ((u.adp a).held.length < 255)) ∧
    (let s : State := (((State.reset.wr (TA_STAT.OPEN 1) 1).wr (TA_STAT.EXP_SEQ 1) 1).modAdp 1 fun x => { x with rx := [({}, 0, false)] }); let a : Fin 256 := 1; let pkt : Packet := {}; let id : Nat := 0; let rest : List (Packet × Nat × Bool) := []; let u := s.modAdp a fun x => { x with rx := rest }; (a ≠ 0) ∧ ((s.adp a).rx = (pkt, id, false) :: rest) ∧ (pkt.cls ≠ 3) ∧ (s.accepts a pkt = true) ∧ (32768 ≤ seqAhead pkt.seq (u.expSeq a))) ∧
    (let s : State := ((State.reset.wr (TA_STAT.OPEN 1) 1).modAdp 1 fun x => { x with rx := [({ seq := 5 }, 7, false)], held := [({ seq := 5 }, 3, 0)] }); let a : Fin 256 := 1; let pkt : Packet := { seq := 5 }; let id : Nat := 7; let rest : List (Packet × Nat × Bool) := []; let u := s.modAdp a fun x => { x with rx := rest }; (a ≠ 0) ∧ ((s.adp a).rx = (pkt, id, false) :: rest) ∧ (pkt.cls ≠ 3) ∧ (s.accepts a pkt = true) ∧ (0 < seqAhead pkt.seq (u.expSeq a)) ∧ (seqAhead pkt.seq (u.expSeq a) < 32768) ∧ (((u.adp a).held.any fun h => decide (h.1.seq = pkt.seq)) = true)) ∧
    (let s : State := (State.reset.modAdp 1 fun x => { x with rx := (({ cls := 0 } : Packet), 0, false) :: [] }); let a : Fin 256 := 1; let pkt : Packet := ({ cls := 0 } : Packet); let id : Nat := 0; let k : Bool := false; let rest : List (Packet × Nat × Bool) := []; (a ≠ 0) ∧ ((s.adp a).rx = (pkt, id, k) :: rest) ∧ (pkt.cls ≠ 3) ∧ ((s.modAdp a fun x => { x with rx := rest }).accepts a pkt = false)) ∧
    (let s : State := (State.reset.modAdp 0 fun x => { x with rx := (({}), 0, false) :: [] }); let pkt : Packet := {}; let id : Nat := 0; let k : Bool := false; let rest : List (Packet × Nat × Bool) := []; ((s.adp 0).rx = (pkt, id, k) :: rest) ∧ (pkt.cls ≠ 3)) ∧
    (let s : State := (State.reset.modAdp 0 fun x => { x with held := [] }); let a : Fin 256 := 0; ((s.adp a).held = [])) ∧
    (let s : State := (State.reset.modAdp 0 fun x => { x with held := [({ seq := 5 }, 0, 0)] }); let a : Fin 256 := 0; let q : Nat := 5; (s.lowestHeld a = some q)) := by
  and_intros <;> decide +kernel

theorem witness_AdmissionAndCrossbar :
    (let s : State := State.reset; let p : Fin 20 := 0; (takeArrival (fun x => !x.waiting) (s.arrivals p) = none)) ∧
    (let s : State := (State.reset.setArrivals 0 [{ id := 1, pkt := {}, cells := 1, out := some 0 }]); let u : State := s.setArrivals 0 []; let p : Fin 20 := 0; let x : Arrival := { id := 1, pkt := {}, cells := 1, out := some 0 }; let rest : List Arrival := []; (takeArrival (fun x => !x.waiting) (s.arrivals p) = some (x, rest)) ∧ ((s.setArrivals p rest).route p x = (.unrouted, u))) ∧
    (let s : State := (State.reset.setArrivals 0 [{ id := 1, pkt := { mcast := true }, cells := 1 }]); let u : State := s.setArrivals 0 []; let p : Fin 20 := 0; let x : Arrival := { id := 1, pkt := { mcast := true }, cells := 1 }; let rest : List Arrival := []; (takeArrival (fun x => !x.waiting) (s.arrivals p) = some (x, rest)) ∧ ((s.setArrivals p rest).route p x = (.mcMiss, u))) ∧
    (let s : State := (((State.reset.setArrivals 0 [{ id := 1, pkt := { ver := 2 }, cells := 1 }]).wr (SW_TC.LOSSLESS 0) 0).wr SW_SHARED.CELLS 0); let u : State := s.setArrivals 0 []; let p : Fin 20 := 0; let x : Arrival := { id := 1, pkt := { ver := 2 }, cells := 1 }; let rest : List Arrival := []; let outs : List (Nat × Nat) := [(18, 8)]; (takeArrival (fun x => !x.waiting) (s.arrivals p) = some (x, rest)) ∧ ((s.setArrivals p rest).route p x = (.to outs, u)) ∧ (outs ≠ []) ∧ (u.rd (SW_TC.LOSSLESS x.pkt.tc) = 0) ∧ (u.rd SW_SHARED.CELLS < u.rd SW_SHARED_USED.CELLS + x.cells ∨ u.rd (SW_TC.SHR_CAP x.pkt.tc) < u.rd (SW_SHR_USED.CELLS x.pkt.tc) + x.cells)) ∧
    (let s : State := ((State.reset.setArrivals 0 [{ id := 1, pkt := { ver := 2 }, cells := 1 }]).wr (SW_TC.LOSSLESS 0) 1); let u : State := s.setArrivals 0 []; let p : Fin 20 := 0; let x : Arrival := { id := 1, pkt := { ver := 2 }, cells := 1 }; let rest : List Arrival := []; let outs : List (Nat × Nat) := [(18, 8)]; (takeArrival (fun x => !x.waiting) (s.arrivals p) = some (x, rest)) ∧ ((s.setArrivals p rest).route p x = (.to outs, u)) ∧ (outs ≠ []) ∧ (u.rd (SW_TC.LOSSLESS x.pkt.tc) ≠ 0) ∧ (p.val < 6)) ∧
    (let s : State := State.reset; let p : Fin 20 := 0; (takeArrival (fun x => x.waiting && s.reserveFits p x) (s.arrivals p) = none)) ∧
    (let s : State := (State.reset.wr (SW_RSV.CELLS 0) 1).setArrivals 0 [({ id := 1, pkt := {}, cells := 1, waiting := true } : Arrival)]; let p : Fin 20 := 0; let x : Arrival := ({ id := 1, pkt := {}, cells := 1, waiting := true } : Arrival); let rest : List Arrival := []; (takeArrival (fun x => x.waiting && s.reserveFits p x) (s.arrivals p) = some (x, rest))) ∧
    (let s : State := State.reset; let o : Fin 20 := 0; let tc : Fin 8 := 0; (32 ≤ (s.stage (stIdx o tc)).length ∨ s.nextInput o tc = none)) ∧
    (let s : State := ((State.reset.setVoq 0 [{ id := 1 }]).setStored 1 (some { pkt := { len := 100 }, inp := 0, cells := 2, lossless := false, refs := 1, complete := true })); let o : Fin 20 := 0; let tc : Fin 8 := 0; let i : Nat := 0; let r : Ref := { id := 1 }; let rest : List Ref := []; let st : Stored := { pkt := { len := 100 }, inp := 0, cells := 2, lossless := false, refs := 1, complete := true }; ((s.stage (stIdx o tc)).length < 32) ∧ (s.nextInput o tc = some i) ∧ (s.voq (voqIdx i o tc) = r :: rest) ∧ (s.stored r.id = some st) ∧ (r.granted + 1 < st.outCells (s.outEnc o))) ∧
    (let s : State := ((State.reset.setStored 1 (some ({ pkt := {}, inp := 0, cells := 1, lossless := false, refs := 1, complete := true } : Stored))).setVoq (voqIdx 0 0 0) [({ id := 1, granted := 0 } : Ref)]); let o : Fin 20 := 0; let tc : Fin 8 := 0; let i : Nat := 0; let r : Ref := ({ id := 1, granted := 0 } : Ref); let rest : List Ref := []; let st : Stored := ({ pkt := {}, inp := 0, cells := 1, lossless := false, refs := 1, complete := true } : Stored); ((s.stage (stIdx o tc)).length < 32) ∧ (s.nextInput o tc = some i) ∧ (s.voq (voqIdx i o tc) = r :: rest) ∧ (s.stored r.id = some st) ∧ (st.outCells (s.outEnc o) ≤ r.granted + 1)) ∧
    (let s : State := ((State.reset.setVoq 0 [{ id := 1 }]).setStored 1 (some { pkt := { len := 100 }, inp := 0, cells := 2, lossless := false, refs := 1, complete := true })); let o : Fin 20 := 0; let tc : Fin 8 := 0; let i : Nat := 0; let r : Ref := { id := 1 }; let rest : List Ref := []; let st : Stored := { pkt := { len := 100 }, inp := 0, cells := 2, lossless := false, refs := 1, complete := true }; ((s.stage (stIdx o tc)).length < 32) ∧ (s.nextInput o tc = some i) ∧ (s.voq (voqIdx i o tc) = r :: rest) ∧ (s.stored r.id = some st) ∧ (r.granted = 0)) ∧
    (let s : State := ((State.reset.setStored 1 (some ({ pkt := {}, inp := 0, cells := 1, lossless := false, refs := 1, complete := true } : Stored))).setVoq (voqIdx 0 0 0) [({ id := 1, granted := 1 } : Ref)]); let o : Fin 20 := 0; let tc : Fin 8 := 0; let i : Nat := 0; let r : Ref := ({ id := 1, granted := 1 } : Ref); let rest : List Ref := []; let st : Stored := ({ pkt := {}, inp := 0, cells := 1, lossless := false, refs := 1, complete := true } : Stored); ((s.stage (stIdx o tc)).length < 32) ∧ (s.nextInput o tc = some i) ∧ (s.voq (voqIdx i o tc) = r :: rest) ∧ (s.stored r.id = some st) ∧ (0 < r.granted)) := by
  and_intros <;> decide +kernel

theorem witness_TranslatorMirrorFarrier :
    (let s : State := State.reset; ((s.sw.xlate.find? fun x => x.newId.isNone) = none)) ∧
    (let s : State := ((State.reset.setStored 1 (some ({ pkt := {}, inp := 0, cells := 1, lossless := false, refs := 1, complete := true } : Stored))).mapSw fun w => { w with xlate := [({ ref := { id := 1, adp := 8, v2ok := true }, tc := 0, whole := true } : XlatePkt)] }); let x : XlatePkt := ({ ref := { id := 1, adp := 8, v2ok := true }, tc := 0, whole := true } : XlatePkt); let st : Stored := ({ pkt := {}, inp := 0, cells := 1, lossless := false, refs := 1, complete := true } : Stored); ((s.sw.xlate.find? fun x => x.newId.isNone) = some x) ∧ (s.stored x.ref.id = some st) ∧ (x.ref.adp = 8)) ∧
    (let s : State := ((State.reset.setStored 1 (some ({ pkt := { cls := 3, payload := [0, 0, 0x85] }, inp := 0, cells := 1, lossless := false, refs := 1, complete := true } : Stored))).mapSw fun w => { w with xlate := [({ ref := { id := 1, adp := 0, v2ok := true }, tc := 0, whole := true } : XlatePkt)] }); let x : XlatePkt := ({ ref := { id := 1, adp := 0, v2ok := true }, tc := 0, whole := true } : XlatePkt); let st : Stored := ({ pkt := { cls := 3, payload := [0, 0, 0x85] }, inp := 0, cells := 1, lossless := false, refs := 1, complete := true } : Stored); ((s.sw.xlate.find? fun x => x.newId.isNone) = some x) ∧ (s.stored x.ref.id = some st) ∧ (x.ref.adp < 6) ∧ (st.pkt.consumedByV2 = true)) ∧
    (let s : State := ((State.reset.setStored 1 (some ({ pkt := {}, inp := 0, cells := 1, lossless := false, refs := 1, complete := true } : Stored))).mapSw fun w => { w with xlate := [({ ref := { id := 1, adp := 0, v2ok := false }, tc := 0, whole := true } : XlatePkt)] }); let x : XlatePkt := ({ ref := { id := 1, adp := 0, v2ok := false }, tc := 0, whole := true } : XlatePkt); let st : Stored := ({ pkt := {}, inp := 0, cells := 1, lossless := false, refs := 1, complete := true } : Stored); ((s.sw.xlate.find? fun x => x.newId.isNone) = some x) ∧ (s.stored x.ref.id = some st) ∧ (x.ref.adp < 6) ∧ (st.pkt.consumedByV2 = false) ∧ (x.ref.v2ok = false)) ∧
    (let s : State := ((State.reset.setStored 1 (some ({ pkt := {}, inp := 0, cells := 1, lossless := false, refs := 1, complete := true } : Stored))).mapSw fun w => { w with xlate := [({ ref := { id := 1, adp := 0, v2ok := true }, tc := 0, whole := true } : XlatePkt)] }); let x : XlatePkt := ({ ref := { id := 1, adp := 0, v2ok := true }, tc := 0, whole := true } : XlatePkt); let st : Stored := ({ pkt := {}, inp := 0, cells := 1, lossless := false, refs := 1, complete := true } : Stored); ((s.sw.xlate.find? fun x => x.newId.isNone) = some x) ∧ (s.stored x.ref.id = some st) ∧ (x.ref.adp < 6) ∧ (st.pkt.consumedByV2 = false) ∧ (x.ref.v2ok = true)) ∧
    (let x : XlatePkt := ({ ref := { id := 1, adp := 0, v2ok := true }, tc := 0, whole := true } : XlatePkt); (x.whole = true)) ∧
    (let x : XlatePkt := ({ ref := { id := 1, adp := 0, v2ok := true }, tc := 0, whole := false } : XlatePkt); (x.whole = false)) ∧
    (let s : State := ({ State.reset with sw := { State.reset.sw with mirq := [] } } : State); (s.sw.mirq = [])) ∧
    (let s : State := ((State.reset.setStored 1 (some ({ pkt := {}, inp := 0, cells := 1, lossless := false, refs := 1, complete := true } : Stored))).mapSw fun w => { w with mirq := [({ id := 1, mirror := some ({ k := 0, out := 0, tc := 0, snap := 0, hub := 0, adp := 0, src := 0 } : MirRef) } : Ref)] }); let r : Ref := ({ id := 1, mirror := some ({ k := 0, out := 0, tc := 0, snap := 0, hub := 0, adp := 0, src := 0 } : MirRef) } : Ref); let m : MirRef := ({ k := 0, out := 0, tc := 0, snap := 0, hub := 0, adp := 0, src := 0 } : MirRef); let rest : List Ref := []; let st : Stored := ({ pkt := {}, inp := 0, cells := 1, lossless := false, refs := 1, complete := true } : Stored); (s.sw.mirq = r :: rest) ∧ (s.stored r.id = some st) ∧ (r.mirror = some m)) ∧
    (let s : State := (((State.reset.wr SW_FAR_CTRL.EN 1).wr SW_FAR_CTRL.PERIOD 1).wr SW_FAR_STAT.BUSY 0); (s.rd SW_FAR_CTRL.EN ≠ 0) ∧ (s.rd SW_FAR_CTRL.PERIOD ≠ 0) ∧ (s.rd SW_FAR_STAT.BUSY = 0)) ∧
    (let s : State := (State.reset.wr SW_FAR_CTRL.EN 0); (s.rd SW_FAR_CTRL.EN = 0 ∨ s.rd SW_FAR_CTRL.PERIOD = 0 ∨ s.rd SW_FAR_STAT.BUSY ≠ 0)) ∧
    (let s : State := (((State.reset.wr SW_FAR_CTRL.EN 1).wr SW_FAR_CTRL.PERIOD 1).wr SW_FAR_STAT.BUSY 0); (s.rd SW_FAR_STAT.BUSY = 0)) ∧
    (let s : State := ({ ({ (State.reset.wr SW_FAR_STAT.BUSY 1) with sw := { ((State.reset.wr SW_FAR_STAT.BUSY 1)).sw with lost := [] } } : State) with cmd := { (({ (State.reset.wr SW_FAR_STAT.BUSY 1) with sw := { ((State.reset.wr SW_FAR_STAT.BUSY 1)).sw with lost := [] } } : State)).cmd with entries := [] } } : State); (s.rd SW_FAR_STAT.BUSY ≠ 0) ∧ (s.sw.lost = []) ∧ (s.cmd.entries = [])) ∧
    (let s : State := ({ ((State.reset.wr SW_FAR_STAT.BUSY 1).wr SW_FAR_CTRL.RECLAIM 0) with cmd := { (((State.reset.wr SW_FAR_STAT.BUSY 1).wr SW_FAR_CTRL.RECLAIM 0)).cmd with entries := [] } } : State); (s.rd SW_FAR_STAT.BUSY ≠ 0) ∧ (s.rd SW_FAR_CTRL.RECLAIM = 0) ∧ (s.cmd.entries = [])) := by
  and_intros <;> decide +kernel

theorem witness_SchedulerSlotsAndEpochs :
    (let s : State := (State.reset.modLink 0 fun l => { l with linkUp := false }); let p : Fin 6 := 0; ((s.link p).linkUp = false ∨ (s.link p).parked = true)) ∧
    (let s : State := (((State.reset.modLink 0 fun l => { l with linkUp := true, slot := 1 })).modSched 0 fun x => { x with ctl := [({ raw := [1] } : CtlMsg)] }); let p : Fin 6 := 0; let v := if (s.link p).slot = 0 then s.codewordStart p else s; let u := (List.range 15).foldl (fun t q => t.growCredit p (q + 1)) v; let m := ({ raw := [1] } : CtlMsg); let rest := []; ((s.link p).linkUp = true) ∧ ((s.link p).parked = false) ∧ ((u.sched p).ctl = m :: rest)) ∧
    (let s : State := (((State.reset.modLink 0 fun l => { l with linkUp := true, slot := 1 }).setSched 0 (({} : SchedSt).setQueue 1 { opened := some 0 })).setStage 0 [{ ref := { id := 1 }, idx := 0, last := true }]); let p : Fin 6 := 0; let v := if (s.link p).slot = 0 then s.codewordStart p else s; let u := (List.range 15).foldl (fun t q => t.growCredit p (q + 1)) v; let q := 1; ((s.link p).linkUp = true) ∧ ((s.link p).parked = false) ∧ ((u.sched p).ctl = []) ∧ (u.pickQueue p = some q)) ∧
    (let s : State := (State.reset.modLink 0 fun l => { l with linkUp := true, slot := 1 }); let p : Fin 6 := 0; let v := if (s.link p).slot = 0 then s.codewordStart p else s; let u := (List.range 15).foldl (fun t q => t.growCredit p (q + 1)) v; ((s.link p).linkUp = true) ∧ ((s.link p).parked = false) ∧ ((u.sched p).ctl = []) ∧ (u.pickQueue p = none)) ∧
    (let s : State := ((State.reset.modSched 0 fun x => { x with gatePend := true }).wr (AL_TBL0_HDR.GCL_EN 0) 1); let p : Fin 6 := 0; let l : List (Nat × Nat) := s.gateList 0 0; ((s.link p).linkUp = false ∨ (s.link p).parked = true ∨ (s.link p).slot = 0) ∧ ((s.sched p).gatePend = true) ∧ (s.gateChoice p = some l) ∧ (cycleStart l (s.sched p).gateFrom s.time.toNs = true)) ∧
    (let s : State := ((State.reset.modSched 0 fun x => { x with gatePend := true, gateFrom := 1 }).wr (AL_TBL0_HDR.GCL_EN 0) 1); let p : Fin 6 := 0; let l : List (Nat × Nat) := s.gateList 0 0; ((s.link p).linkUp = false ∨ (s.link p).parked = true ∨ (s.link p).slot = 0) ∧ ((s.sched p).gatePend = true) ∧ (s.gateChoice p = some l) ∧ (cycleStart l (s.sched p).gateFrom s.time.toNs = false)) ∧
    (let s : State := (State.reset.modSched 0 fun x => { x with gatePend := false }); let p : Fin 6 := 0; ((s.sched p).gatePend = false ∨ (s.linkRuns p = true ∧ (s.link p).slot ≠ 0))) ∧
    (let s : State := State.reset; (∀ p, p < 6 → (s.sched p).flipNext = false ∧ (s.sched p).flipAt = none ∧ (s.link p).slot = 0)) ∧
    (let s : State := State.reset; let p : Nat := 0; let tb : Nat := 1; (s.act p ≠ tb) ∧ (s.pol.quietUntil ≤ s.time.toNs)) ∧
    (let s : State := ({ State.reset with pol := { State.reset.pol with quietUntil := 1 } } : State); let p : Nat := 0; let tb : Nat := 1; (s.act p ≠ tb) ∧ (s.time.toNs < s.pol.quietUntil)) ∧
    (let s : State := (State.reset.modSched 0 fun x => { x with flipAt := some (1, 0) }); let p : Nat := 0; let tb : Nat := 1; let at_ : Nat := 0; ((s.sched p).flipAt = some (tb, at_)) ∧ (s.act p ≠ tb) ∧ (at_ ≤ s.time.toNs)) ∧
    (let s : State := (State.reset.modSched 0 fun x => { x with flipAt := some (1, 5) }); let p : Nat := 0; let tb : Nat := 1; let at_ : Nat := 5; ((s.sched p).flipAt = some (tb, at_)) ∧ (s.act p ≠ tb) ∧ (s.time.toNs < at_)) ∧
    (let s : State := (State.reset.wr (AL_STAT.ARMED 0) 1); let p : Fin 6 := 0; (s.rd (AL_STAT.ARMED p) ≠ 0) ∧ (s.planOwner p = none)) := by
  and_intros <;> decide +kernel

theorem witness_ResetsOfTheHub :
    (let s : State := ({ State.reset with clk := { State.reset.clk with phase := .held } } : State); (s.clk.phase = .held)) ∧
    (let s : State := ({ State.reset with clk := { State.reset.clk with phase := .active } } : State); (s.clk.phase ≠ .held)) ∧
    (let n : Nat := 0; (n < 8)) ∧
    (let n : Nat := 0; (n < 6)) ∧
    (let n : Nat := 0; (n < 32)) ∧
    (let s : State := ({ ({ State.reset with clk := { State.reset.clk with phase := .active } } : State) with clk := { (({ State.reset with clk := { State.reset.clk with phase := .active } } : State)).clk with warm := none } } : State); (s.clk.phase ≠ .held) ∧ (s.clk.phase ≠ .aon) ∧ (s.clk.warm = none)) ∧
    (let s : State := ({ ({ State.reset with clk := { State.reset.clk with phase := .active } } : State) with clk := { (({ State.reset with clk := { State.reset.clk with phase := .active } } : State)).clk with warm := none } } : State); (s.clk.warm = none)) := by
  and_intros <;> decide +kernel

theorem witness_WarmResetKeepsAndClears :
    (let s : State := ({ State.reset with clk := { State.reset.clk with warm := some 0 } } : State); let c : Nat := 0; (s.clk.warm = some c)) ∧
    (let s : State := ({ State.reset with clk := { State.reset.clk with warm := some 0 } } : State); let c : Nat := 0; let a := 0x40040000; (s.clk.warm = some c) ∧ (warmKeeps a = false) ∧ (a ≠ DM_UID_LO) ∧ (a ≠ DM_UID_HI) ∧ (a ≠ KS_IMG_MIN) ∧ (a ≠ KS_PATCH_MIN) ∧ (a ≠ KS_FUSE_MISC) ∧ (∀ i, i < 12 → a ≠ KS_ROMKH 0 + 4 * i ∧ a ≠ KS_DBGKH 0 + 4 * i)) := by
  and_intros <;> decide +kernel

theorem witness_ReferenceAndRootPll :
    (let s : State := ({ ((({ State.reset with clk := { State.reset.clk with phase := .active } } : State).wr PS_STAT.STATE 0).wr CK_STAT.REF_OK 1) with clk := { (((({ State.reset with clk := { State.reset.clk with phase := .active } } : State).wr PS_STAT.STATE 0).wr CK_STAT.REF_OK 1)).clk with bad := 0 } } : State); let n : Fin 65536 := 0; (s.clk.phase = .active) ∧ (s.rd PS_STAT.STATE = 0) ∧ (s.rd CK_STAT.REF_OK ≠ 0) ∧ (windowAgrees n = false) ∧ (s.clk.bad = 0)) ∧
    (let s : State := ({ ((({ State.reset with clk := { State.reset.clk with phase := .active } } : State).wr PS_STAT.STATE 0).wr CK_STAT.REF_OK 1) with clk := { (((({ State.reset with clk := { State.reset.clk with phase := .active } } : State).wr PS_STAT.STATE 0).wr CK_STAT.REF_OK 1)).clk with bad := 1 } } : State); let n : Fin 65536 := 0; (s.clk.phase = .active) ∧ (s.rd PS_STAT.STATE = 0) ∧ (s.rd CK_STAT.REF_OK ≠ 0) ∧ (windowAgrees n = false) ∧ (s.clk.bad = 1)) ∧
    (let s : State := ((({ State.reset with clk := { State.reset.clk with phase := .rom } } : State).wr PS_STAT.STATE 0).wr CK_STAT.REF_OK 0); let n : Fin 65536 := 15313; (s.clk.phase = .rom) ∧ (s.rd PS_STAT.STATE = 0) ∧ (s.rd CK_STAT.REF_OK = 0) ∧ (windowAgrees n = true) ∧ (s.clk.agree < 3)) ∧
    (let s : State := (({ State.reset with clk := { State.reset.clk with phase := .active } } : State).wr PS_STAT.STATE 0); (s.fullSpeed = true) ∧ (s.rd PS_STAT.STATE ≠ 3)) ∧
    (let s : State := ((({ State.reset with clk := { State.reset.clk with phase := .rom } } : State).wr PS_STAT.STATE 0).wr CK_STAT.REF_OK 0); (s.clk.phase = .rom)) ∧
    (let s : State := State.reset; (s.clk.phase ≠ .rom)) ∧
    (let s : State := ({ State.reset with clk := { State.reset.clk with phase := .pll } } : State); (s.clk.phase = .pll)) ∧
    (let s : State := ({ State.reset with clk := { State.reset.clk with phase := .pll } } : State); (s.clk.phase = .pll) ∧ (s.clk.retries < 3)) ∧
    (let s : State := ((((State.reset.wr CK_CFG.TRIM_EN 1).wr CK_STAT.TRIM_SOF 0).wr CK_STAT.ON_PLL 1).wr CK_RC.TRIM 2); let n : Fin 65536 := 32033; (s.rd CK_CFG.TRIM_EN ≠ 0) ∧ (s.rd CK_STAT.TRIM_SOF = 0) ∧ (s.rd CK_STAT.ON_PLL ≠ 0) ∧ (32032 < n.val) ∧ (1 < s.rd CK_RC.TRIM)) ∧
    (let s : State := ((State.reset.wr CK_CFG.TRIM_EN 1).wr CK_STAT.TRIM_SOF 1); let n : Fin 524288 := 0; (s.rd CK_CFG.TRIM_EN ≠ 0) ∧ (s.rd CK_STAT.TRIM_SOF ≠ 0) ∧ (n.val < 255744) ∧ (s.rd CK_RC.TRIM < 254)) ∧
    (let s : State := State.reset; let c : Fin 8 := 0; (Tab.get 0 s.clk.ramps c = 0)) ∧
    (let s : State := { State.reset with clk := { State.reset.clk with ramps := [(0, 42)] } }; let c : Fin 8 := 0; (Tab.get 0 s.clk.ramps c = 42)) := by
  and_intros <;> decide +kernel

theorem witness_LocalPllsAndWatchdog :
    (let s : State := (State.reset.modLink 0 fun l => { l with linkUp := true }); let p : Fin 6 := 0; ((s.link p).linkUp = true)) ∧
    (let s : State := (({ State.reset with clk := { State.reset.clk with phase := .active } } : State).wr PS_STAT.STATE 0); (s.fullSpeed = true) ∧ (s.rd PS_STAT.STATE ≠ 3)) ∧
    (let s : State := ({ (((State.reset.wr GC_WDT.EN 1).wr GC_WDT.ACT 1).wr GC_WDT.TMO 0) with uptime := 10000000 } : State); let u := s.raise Ev.GC_WDT; (s.rd GC_WDT.EN ≠ 0) ∧ (s.rd PS_STAT.STATE ≤ 1) ∧ (s.clk.wdtAt + max 1 (s.rd GC_WDT.TMO) * 10000000 ≤ s.uptime) ∧ (u.rd GC_WDT.ACT ≠ 0)) ∧
    (let s : State := { State.reset.wr GC_WDT.EN 1 with uptime := 10000000000 }; let u := s.raise Ev.GC_WDT; (s.rd GC_WDT.EN ≠ 0) ∧ (s.rd PS_STAT.STATE ≤ 1) ∧ (s.clk.wdtAt + max 1 (s.rd GC_WDT.TMO) * 10000000 ≤ s.uptime) ∧ (u.rd GC_WDT.ACT = 0)) ∧
    (let s : State := (State.reset.wr GC_WDT.EN 0); (s.rd GC_WDT.EN = 0 ∨ s.uptime < s.clk.wdtAt + max 1 (s.rd GC_WDT.TMO) * 10000000)) := by
  and_intros <;> decide +kernel

theorem witness_PowerStateEntryAndWake :
    (let s : State := { State.reset with pwr := { State.reset.pwr with delayed := [6] } }; (s.pwr.delayed ≠ [])) ∧
    (let s : State := ({ State.reset with pwr := { State.reset.pwr with delayed := [] } } : State); (s.pwr.delayed = [])) ∧
    (let s : State := ({ State.reset with pwr := { State.reset.pwr with step := .handshake } } : State); (s.pwr.step = .handshake) ∧ (((s.psBlocks.filter fun b => !s.pwr.accepted.contains b).filter fun b => decide ((if s.pwr.target = 1 then PsAnswer.accept else s.blockAnswer b) = .refuse)) = []) ∧ (((s.psBlocks.filter fun b => !s.pwr.accepted.contains b).filter fun b => decide ((if s.pwr.target = 1 then PsAnswer.accept else s.blockAnswer b) = .delay)) = [])) ∧
    (let s : State := ({ State.reset with pwr := { State.reset.pwr with step := .handshake } } : State); (s.pwr.step = .handshake)) ∧
    (let s : State := State.reset; (s.pwr.step ≠ .handshake)) ∧
    (let s : State := ({ ({ State.reset with pwr := { State.reset.pwr with step := .parking } } : State) with pwr := { (({ State.reset with pwr := { State.reset.pwr with step := .parking } } : State)).pwr with target := 1 } } : State); (s.pwr.step = .parking) ∧ (s.pwr.target = 1)) ∧
    (let s : State := (State.reset.wr PS_WAKE_EN.SRC 0); let i : Fin 22 := 0; (bitOf (s.rd PS_WAKE_EN.SRC) i = false)) ∧
    (let s : State := (((State.reset.wr PS_STAT.ENTERING 0).wr PS_STAT.STATE 2).wr PS_STAT.WAKING 0); let i : Fin 22 := 0; (bitOf (s.rd PS_WAKE_EN.SRC) i = true) ∧ (s.rd PS_STAT.ENTERING = 0) ∧ (2 ≤ s.rd PS_STAT.STATE) ∧ (s.rd PS_STAT.WAKING = 0)) ∧
    (let s : State := State.reset; (s.rd PS_STAT.STATE < 2 ∨ s.rd PS_WAKE_TMR.MS = 0)) ∧
    (let s : State := ((State.reset.wr PS_STAT.STATE 2).wr PS_WAKE_TMR.MS 1); (2 ≤ s.rd PS_STAT.STATE) ∧ (s.rd PS_WAKE_TMR.MS ≠ 0)) ∧
    (let s : State := (((State.reset.wr PS_STAT.ENTERING 0).wr PS_STAT.STATE 2).wr PS_STAT.WAKING 0); (s.rd PS_STAT.WAKING = 0)) ∧
    (let s : State := ((State.reset.wr PS_STAT.WAKING 1).wr PS_STAT.STATE 2); (s.rd PS_STAT.WAKING ≠ 0) ∧ (s.rd PS_STAT.STATE = 2)) ∧
    (let s : State := ((State.reset.wr PS_STAT.WAKING 1).wr PS_STAT.STATE 3); (s.rd PS_STAT.WAKING ≠ 0) ∧ (s.rd PS_STAT.STATE = 3)) ∧
    (let s : State := State.reset; let d : Fin 22 := 0; (s.domIdle d = false)) ∧
    (let s : State := (State.reset.wr PS_STAT.STATE 1); let d : Fin 22 := 2; (s.rd PS_STAT.STATE = 1) ∧ (s.domIdle d = true)) ∧
    (let s : State := (State.reset.wr (⟨PS_DOM, 0, 1⟩ : Fld) 0); let d : Fin 22 := 0; (s.rd ⟨PS_DOM, d, 1⟩ = 0)) ∧
    (let s : State := (State.reset.modLink 0 fun l => { l with linkUp := true, turned := some 0 }); let p : Fin 6 := 0; let l : Fin 4 := 0; ((s.link p).linkUp = true) ∧ ((s.link p).turned = some (s.laneOfPartner p l))) ∧
    (let s : State := (((State.reset.modLink 0 fun l => { l with linkUp := true }).modLink 0 fun l => { l with act := none }).modLink 0 fun l => { l with held := [] }); let p : Fin 6 := 0; let l : Fin 4 := 0; ((s.link p).linkUp = true) ∧ ((s.link p).turned ≠ some (s.laneOfPartner p l))) ∧
    (let s : State := (((State.reset.modLink 0 fun l => { l with linkUp := true }).modLink 0 fun l => { l with act := none }).modLink 0 fun l => { l with held := [] }); let p : Fin 6 := 0; ((s.link p).linkUp = true) ∧ ((s.link p).act = none) ∧ ((s.link p).held = [])) ∧
    (let s : State := (((State.reset.modLink 0 fun x => { x with linkUp := true }).modLink 0 fun x => { x with act := some (({ kind := 0, lane := 0, tx := true, cw := 0, begun := false } : LaneAct)) }).modLink 0 fun x => { x with held := [] }); let p : Fin 6 := 0; let l : Fin 4 := 0; let a : LaneAct := ({ kind := 0, lane := 0, tx := true, cw := 0, begun := false } : LaneAct); ((s.link p).linkUp = true) ∧ ((s.link p).act = some a) ∧ ((s.link p).held = []) ∧ (a.lane = s.laneOfPartner p l) ∧ (a.kind = 0) ∧ (a.begun = false) ∧ (a.far = false)) := by
  and_intros <;> decide +kernel

theorem witness_KeyUnitAndDebugUnlock :
    ((let s : State := ({ State.reset with keys := { State.reset.keys with op := none } } : State); (s.keys.op = none)) ∧
    (let s : State := ({ State.reset with keys := { State.reset.keys with op := some ({ op := 4, attr := 1, key := [], input := [], kcv := [], dst := 0 } : KeyOp) } } : State); let k : KeyOp := ({ op := 4, attr := 1, key := [], input := [], kcv := [], dst := 0 } : KeyOp); (s.keys.op = some k) ∧ (k.op = 4)) ∧
    (let s : State := { State.reset with keys := { State.reset.keys with op := some { op := 5, attr := 1, key := [], input := [], kcv := [], dst := 0, by_ := some .usb } } }; let k : KeyOp := { op := 5, attr := 1, key := [], input := [], kcv := [], dst := 0, by_ := some .usb }; let o : Owner := .usb; (s.keys.op = some k) ∧ (5 ≤ k.op) ∧ (k.by_ = some o)) ∧
    (let s : State := ({ State.reset with keys := { State.reset.keys with rngOk := true } } : State); (s.keys.rngOk = true)) ∧
    (let s : State := ({ State.reset with keys := { State.reset.keys with dbgPending := some (0, [], [], none) } } : State); let sc : Nat := 0; let pub : List Byte := []; let sig : List Byte := []; let n : Option (List Byte) := none; (s.keys.dbgPending = some (sc, pub, sig, n))) ∧
    (let s : State := ({ State.reset with keys := { State.reset.keys with dbgPending := none } } : State); (s.keys.dbgPending = none)) ∧
    (let s : State := (({ State.reset with keys := { State.reset.keys with dbgPending := some (0, [], [], none) } } : State).wr KS_DBG_STAT.FAILS 0); let sc : Nat := 0; let pub : List Byte := []; let sig : List Byte := []; let u : State := ({ s with keys := { s.keys with dbgPending := none } }).satAdd KS_DBG_STAT.FAILS 1; (s.keys.dbgPending = some (sc, pub, sig, none)) ∧ (s.rd KS_DBG_STAT.FAILS = 0) ∧ (u.rd KS_DBG_STAT.FAILS < 3))) ∧
    (let s : State := ({ State.reset with keys := { State.reset.keys with op := some ({ op := 1, attr := 1, key := [], input := [], kcv := checkValue [], dst := 0 } : KeyOp) } } : State); let k : KeyOp := ({ op := 1, attr := 1, key := [], input := [], kcv := checkValue [], dst := 0 } : KeyOp); (s.keys.op = some k) ∧ (k.op = 1) ∧ (checkValue k.input = k.kcv)) ∧
    (let s : State := ({ State.reset with keys := { State.reset.keys with op := some ({ op := 1, attr := 1, key := [], input := [], kcv := 0 :: checkValue [], dst := 0 } : KeyOp) } } : State); let k : KeyOp := ({ op := 1, attr := 1, key := [], input := [], kcv := 0 :: checkValue [], dst := 0 } : KeyOp); (s.keys.op = some k) ∧ (k.op = 1) ∧ (checkValue k.input ≠ k.kcv)) :=
  ⟨by and_intros <;> decide +kernel,
    by exact ⟨rfl, rfl, rfl⟩,
    by exact ⟨rfl, rfl, fun h => absurd (congrArg List.length h) (by simp)⟩⟩

theorem witness_ImageTransactionSelfTest :
    ((let s : State := State.reset; (s.clk.phase ≠ .imaging)) ∧
    (let s : State := ({ State.reset with clk := { State.reset.clk with phase := .imaging } } : State); (s.clk.phase = .imaging)) ∧
    (let s : State := ({ State.reset with clk := { State.reset.clk with phase := .imaging }, flash := [(0, 0x5A#8), (1, 0x45#8), (2, 0x54#8), (3, 0x48#8), (4, 0x03#8), (5, 0x00#8), (6, 0x00#8), (7, 0x01#8), (1048576, 0x5A#8), (1048577, 0x45#8), (1048578, 0x54#8), (1048579, 0x48#8), (1048580, 0x03#8), (1048581, 0x00#8), (1048582, 0x00#8), (1048583, 0x01#8)] } : State); (s.clk.phase = .imaging) ∧ (headerCandidate (s.slotHeader false) = true) ∧ (headerCandidate (s.slotHeader true) = true)) ∧
    (let s : State := ({ State.reset with clk := { State.reset.clk with phase := .imaging }, flash := [(0, 0x5A#8), (1, 0x45#8), (2, 0x54#8), (3, 0x48#8), (4, 0x03#8), (5, 0x00#8), (6, 0x00#8), (7, 0x01#8)] } : State); (s.clk.phase = .imaging) ∧ (headerCandidate (s.slotHeader false) = true) ∧ (headerCandidate (s.slotHeader true) = false)) ∧
    (let s : State := ((({ State.reset with clk := { State.reset.clk with phase := .aon } } : State).wr CK_STAT.ROOT_LOCK 0).wr CK_STAT.REF_OK 0); (s.clk.phase = .aon) ∧ (s.rd CK_STAT.ROOT_LOCK = 0) ∧ (s.rd CK_STAT.REF_OK = 0)) ∧
    (let s : State := State.reset; (s.clk.phase ≠ .aon)) ∧
    (let s : State := ({ ({ State.reset with img := { State.reset.img with txns := [({ id := 0, owner := .usb } : Txn)] } } : State) with img := { (({ State.reset with img := { State.reset.img with txns := [({ id := 0, owner := .usb } : Txn)] } } : State)).img with commit := none } } : State); let id : Fin 65536 := 0; let x : Txn := ({ id := 0, owner := .usb } : Txn); (s.img.txns = [x]) ∧ (x.id = id) ∧ (s.img.commit = none)) ∧
    (let s : State := ({ State.reset with img := { State.reset.img with txns := [] } } : State); (s.img.txns = [])) ∧
    (let s : State := ({ ({ State.reset with img := { State.reset.img with txns := [({ id := 0, owner := .usb } : Txn)] } } : State) with img := { (({ State.reset with img := { State.reset.img with txns := [({ id := 0, owner := .usb } : Txn)] } } : State)).img with commit := none } } : State); (s.img.commit = none)) ∧
    (let s : State := ({ State.reset with img := { State.reset.img with commit := some (0, []) } } : State); let id : Nat := 0; let l : List Nat := []; (s.img.commit = some (id, l))) ∧
    (let s : State := ({ ({ State.reset with img := { State.reset.img with commit := some (0, []) } } : State) with img := { (({ State.reset with img := { State.reset.img with commit := some (0, []) } } : State)).img with txns := [({ id := 0, owner := .usb } : Txn)] } } : State); let id : Nat := 0; let l : List Nat := []; let x : Txn := ({ id := 0, owner := .usb } : Txn); (s.img.commit = some (id, l)) ∧ (s.img.txns = [x]) ∧ (x.id = id) ∧ (∀ a, a < 256 → 1 ≤ a → adapterGone s (s.overlay x.staged) a = false ∧ adapterNew s (s.overlay x.staged) a = false)) ∧
    (let s : State := ({ State.reset with cmd := { State.reset.cmd with entries := [({ owner := .usb, op := 0, seq := 1, txn := 0, csv := 3, body := [], running := true } : CmdEntry)] } } : State); let e : CmdEntry := ({ owner := .usb, op := 0, seq := 1, txn := 0, csv := 3, body := [], running := true } : CmdEntry); let w : Wait → Bool := fun _ => true; (s.cmd.entries = [e]) ∧ (e.running = true) ∧ (w e.wait = true)) ∧
    (let s : State := ({ State.reset with test := { State.reset.test with under := none } } : State); (s.test.under = none))) ∧
    (let s : State := ({ State.reset with test := { State.reset.test with under := some 0 }, cmd := { State.reset.cmd with entries := [] } } : State); let m : BitVec 32 := State.reset.reg (BT_REF 0); let b : Nat := 0; let u := ({ s with test := { s.test with under := none } } : State).bistReset b; (s.test.under = some b) ∧ (s.cmd.entries = []) ∧ (m = u.reg (BT_REF b)) ∧ (u.cmd.entries = [])) :=
  ⟨by and_intros <;> decide +kernel,
    by exact ⟨rfl, rfl, rfl, rfl⟩⟩

theorem witness_PcieUnitsCrossTheTunnel :
    (let s : State := State.reset; let a : Fin 256 := 0; (s.isPcie a = false)) ∧
    (let s : State := (State.reset.wr (TA_CFG0.TYPE 0) 4); let a : Fin 256 := 0; let u : List Byte := []; (s.isPcie a = true) ∧ (s.tunnelOpen a = false) ∧ (tlpNonPosted u = true)) ∧
    (let s : State := (State.reset.wr (TA_CFG0.TYPE 0) 4); let a : Fin 256 := 0; let u : List Byte := [0x40#8]; (s.isPcie a = true) ∧ (s.tunnelOpen a = false) ∧ (tlpNonPosted u = false)) ∧
    (let s : State := ((((State.reset.wr (TA_CFG0.TYPE 1) 5).wr (TA_STAT.OPEN 1) 1)).modAdp 1 fun x => { x with accepted := List.replicate 64 { bytes := [], ts := 0 } }); let a : Fin 256 := 1; (s.adpType a = 5) ∧ (s.tunnelOpen a = true) ∧ (s.pcieCredit a = 0)) ∧
    (let s : State := ((State.reset.wr (TA_CFG0.TYPE 0) 5).wr (TA_STAT.OPEN 0) 1); let a : Fin 256 := 0; let u : List Byte := []; (s.adpType a = 5) ∧ (s.tunnelOpen a = true) ∧ (0 < s.pcieCredit a) ∧ (tlpIsMemWrite u = false)) ∧
    (let s : State := (((State.reset.wr (TA_CFG0.TYPE 0) 5).wr (TA_STAT.OPEN 0) 1).wr (PB_WIN_CTL.EN 0 0) 1); let a : Fin 256 := 0; let u : List Byte := [0x40#8]; let w := 0; (s.adpType a = 5) ∧ (s.tunnelOpen a = true) ∧ (0 < s.pcieCredit a) ∧ (tlpIsMemWrite u = true) ∧ (s.pbWindow (s.bridgeOf a) (tlpAddr u) = some w)) ∧
    (let s : State := ((State.reset.wr (TA_CFG0.TYPE 0) 4).wr (PB_STAT.LINK_UP 0) 1); let a : Fin 256 := 0; (s.isPcie a = true) ∧ (s.rd (PB_STAT.LINK_UP (s.bridgeOf a)) ≠ 0)) ∧
    (let s : State := (State.reset.wr (TA_CFG0.TYPE 0) 4); let a : Fin 256 := 0; (s.isPcie a = true) ∧ (s.rd (PB_STAT.LINK_UP (s.bridgeOf a)) = 0)) ∧
    (let s : State := (State.reset.wr (TA_CFG0.TYPE 0) 4); let a : Fin 256 := 0; let t : List Byte := []; (s.isPcie a = true) ∧ (s.rd (PB_STAT.LINK_UP (s.bridgeOf a)) = 0) ∧ (tlpNonPosted t = true)) ∧
    (let s : State := (State.reset.wr (TA_CFG0.TYPE 0) 4); let a : Fin 256 := 0; let t : List Byte := [0x0A#8]; (s.isPcie a = true) ∧ (s.rd (PB_STAT.LINK_UP (s.bridgeOf a)) = 0) ∧ (tlpIsCpl t = true)) ∧
    (let s : State := (State.reset.wr (TA_CFG0.TYPE 0) 4); let a : Fin 256 := 0; let t : List Byte := [0x40#8]; (s.isPcie a = true) ∧ (s.rd (PB_STAT.LINK_UP (s.bridgeOf a)) = 0) ∧ (tlpIsMemWrite t = true)) ∧
    (let s : State := ((((State.reset.wr (TA_CFG0.TYPE 1) 4).wr (TA_CFG0.TYPE 2) 4).wr (TA_STAT.OPEN 2) 1).modVdsp 2 fun v => { v with up := true }); let a : Fin 256 := 1; let c : Fin 256 := 2; let t : List Byte := [0x04#8]; (s.adpType a = 4) ∧ (s.adpType c = 4) ∧ (c ≠ a) ∧ (tlpNonPosted t = true) ∧ (tlpIsCpl t = false) ∧ ((s.vdsp c).up = true) ∧ (s.tunnelOpen c = true)) ∧
    (let s : State := ((((State.reset.wr (TA_CFG0.TYPE 1) 4).wr (TA_CFG0.TYPE 2) 4).wr (TA_STAT.OPEN 2) 1).modVdsp 2 fun v => { v with up := false }); let a : Fin 256 := 1; let c : Fin 256 := 2; let t : List Byte := [0x04#8]; (s.adpType a = 4) ∧ (s.adpType c = 4) ∧ (c ≠ a) ∧ (tlpNonPosted t = true) ∧ (tlpIsCpl t = false) ∧ ((s.vdsp c).up = false)) ∧
    (let s : State := (State.reset.wr (TA_CFG0.TYPE 0) 4); let a : Fin 256 := 0; let k : Nat := 4; (s.isPcie a = true) ∧ (4 ≤ k) ∧ (k < 16)) ∧
    (let s : State := (State.reset.wr (TA_CFG0.TYPE 0) 4); let a : Fin 256 := 0; (s.isPcie a = true)) := by
  and_intros <;> decide +kernel

theorem witness_PcieLinkStateAndResets :
    (let s : State := (State.reset.wr (TA_CFG0.TYPE 0) 0); let a : Fin 256 := 0; (s.adpType a ≠ 4)) ∧
    (let s : State := ((State.reset.wr (TA_CFG0.TYPE 0) 4).modVdsp 0 fun x => { x with up := true }); let a : Fin 256 := 0; (s.adpType a = 4)) ∧
    (let s : State := ((State.reset.wr (TA_CFG0.TYPE 0) 4).modVdsp 0 fun x => { x with up := true }); let a : Fin 256 := 0; (s.adpType a = 4) ∧ ((s.vdsp a).up = true)) ∧
    (let s : State := State.reset; let b : Fin 2 := 0; (s.pbMode b ≠ 1)) ∧
    (let s : State := (State.reset.wr (PB_CFG.MODE 0) 1); let b : Fin 2 := 0; (s.pbMode b = 1)) ∧
    (let s : State := (State.reset.wr (PB_CFG.MODE 0) 0); let b : Fin 2 := 0; (s.rd (PB_CFG.MODE b) = 0)) ∧
    (let s : State := (State.reset.wr (PB_CFG.MODE 0) 1); (s.rd (PB_CFG.MODE 0) ≠ 0) ∧ (s.underTest 17 0 = false)) ∧
    (let s : State := (State.reset.wr (TA_CFG0.TYPE 0) 5); let a : Fin 256 := 0; (s.adpType a = 5)) ∧
    (let s : State := (State.reset.wr (TA_CFG0.TYPE 0) 0); let a : Fin 256 := 0; (s.adpType a ≠ 5)) ∧
    (let s : State := (State.reset.modAdp 0 fun x => { x with acks := [0] }); let a : Fin 256 := 0; let q : Fin 65536 := 0; ((s.adp a).acks.contains q.val = true)) ∧
    (let s : State := State.reset; let a : Fin 256 := 0; let q : Fin 65536 := 0; ((s.adp a).acks.contains q.val = false)) ∧
    (let s : State := (State.reset.modAdp 0 fun x => { x with open_ := [] }); let a : Fin 256 := 0; ((s.adp a).open_ = [])) ∧
    (let s : State := (State.reset.modAdp 0 fun x => { x with open_ := [] :: [] }); let a : Fin 256 := 0; let r : List Byte := []; let rest : List (List Byte) := []; ((s.adp a).open_ = r :: rest)) := by
  and_intros <;> decide +kernel

theorem witness_RegisterBusAndConfirms :
    (let s : State := (State.reset.wr (TA_CFG0.TYPE 0) 10); let a : Fin 256 := 0; let sz : Fin 256 := 1; let x : BitVec 32 := 0; (s.adpType a = 10) ∧ (rbValid sz x.toNat = true)) ∧
    (let s : State := (State.reset.wr (TA_CFG0.TYPE 0) 10); let a : Fin 256 := 0; let sz : Fin 256 := 0; let x : BitVec 32 := 0; (s.adpType a = 10) ∧ (rbValid sz x.toNat = false)) ∧
    (let s : State := (State.reset.wr (TA_CFG0.TYPE 0) 10); let a : Fin 256 := 0; let x : BitVec 32 := 0; let d : List Byte := [0]; (s.adpType a = 10) ∧ (rbValid d.length x.toNat = true)) ∧
    (let s : State := (State.reset.wr (TA_CFG0.TYPE 0) 10); let a : Fin 256 := 0; let x : BitVec 32 := 0; let d : List Byte := []; (s.adpType a = 10) ∧ (rbValid d.length x.toNat = false)) ∧
    (let s : State := ({ State.reset with brg := { State.reset.brg with i2c := [] } } : State); (s.brg.i2c = [])) ∧
    (let s : State := ({ State.reset with brg := { State.reset.brg with i2c := [({ adp := 1, tag := 0, read := true, size := 4, addr := 0x40000000, data := [], mine := false } : RbReq)] } } : State); let r : RbReq := ({ adp := 1, tag := 0, read := true, size := 4, addr := 0x40000000, data := [], mine := false } : RbReq); (s.brg.i2c = [r]) ∧ (r.mine = false) ∧ (r.read = true)) ∧
    (let s : State := State.reset; let a : Fin 256 := 0; let tag : Fin 256 := 0; (s.rbFind a tag = none)) ∧
    (let s : State := (State.reset.modBrg fun b => { b with rbOut := [{ adp := 0, tag := 0, read := true, size := 4, addr := 0x40000000, data := [], mine := true }] }); let a : Fin 256 := 0; let tag : Fin 256 := 0; let r : RbReq := { adp := 0, tag := 0, read := true, size := 4, addr := 0x40000000, data := [], mine := true }; (s.rbFind a tag = some r) ∧ (r.read = true)) ∧
    (let s : State := (State.reset.modBrg fun b => { b with rbOut := [{ adp := 0, tag := 0, read := true, size := 4, addr := 0x40000000, data := [], mine := true }] }); let tag : Fin 256 := 0; let r : RbReq := { adp := 0, tag := 0, read := true, size := 4, addr := 0x40000000, data := [], mine := true }; ((s.brg.rbOut.find? fun r => decide (r.tag = tag.val)) = some r) ∧ (r.read = true)) ∧
    (let s : State := State.reset; let tag : Fin 256 := 0; ((s.brg.rbOut.find? fun r => decide (r.tag = tag.val)) = none)) ∧
    (let s : State := (State.reset.wr (TA_CFG0.TYPE 0) 10); let a : Fin 256 := 0; (s.adpType a = 10)) ∧
    (let s : State := (State.reset.modAdp 0 fun x => { x with conf := none }); let a : Fin 256 := 0; ((s.adp a).conf = none)) ∧
    (let s : State := (State.reset.modAdp 0 fun x => { x with conf := some (0, 0, []) }); let a : Fin 256 := 0; let w : Nat := 0; let n : Nat := 0; let rec_ : List Byte := []; let q : Fin 65536 := 1; ((s.adp a).conf = some (w, n, rec_)) ∧ (n ≠ q)) ∧
    (let s : State := ((State.reset.modAdp 0 fun x => { x with conf := some (0, 0, []) }).wr (TA_CFG0.TYPE 0) 0); let a : Fin 256 := 0; let w : Nat := 0; let rec_ : List Byte := []; let q : Fin 65536 := 0; ((s.adp a).conf = some (w, q.val, rec_)) ∧ (s.adpType a ≠ 10)) := by
  and_intros <;> decide +kernel

theorem witness_SidebandGroups :
    (let s : State := ((State.reset.wr (SB_SIG.DIR 0) 1).wr (SB_IN.VALUE.bit 0) 1); let n : Fin 32 := 0; let v : Bool := false; (s.rd (SB_SIG.DIR n) = 1) ∧ (s.on (SB_IN.VALUE.bit n) ≠ v)) ∧
    (let s : State := (State.reset.wr (SB_SIG.DIR 0) 0); let n : Fin 32 := 0; let v : Bool := false; (s.rd (SB_SIG.DIR n) ≠ 1 ∨ s.on (SB_IN.VALUE.bit n) = v)) ∧
    (let s : State := (State.reset.wr (SB_GRP.ADP 0) 0); let g : Fin 8 := 0; (s.rd (SB_GRP.ADP g) = 0)) ∧
    (let s : State := (((State.reset.wr (SB_GRP.ADP 0) 1).wr (TA_STAT.OPEN 1) 1).wr (SB_GRP.INTERVAL 0) 0).modGroup 0 fun x => { x with firstChange := some 0, lastSend := some 0, sentValue := 1 }; let g : Fin 8 := 0; let t : Nat := 0; let c : Nat := 0; (s.rd (SB_GRP.ADP g) ≠ 0) ∧ (s.tunnelOpen (s.rd (SB_GRP.ADP g)) = true) ∧ (s.adpSends (s.rd (SB_GRP.ADP g)) = true) ∧ (s.groupValue g ≠ (s.group g).sentValue) ∧ ((s.group g).firstChange = some c) ∧ ((s.group g).farInterval = none) ∧ ((s.group g).lastSend = some t) ∧ (t + s.rd (SB_GRP.INTERVAL g) * 10000 ≤ s.uptime)) ∧
    (let s : State := (((State.reset.wr (SB_GRP.ADP 0) 1).wr (TA_STAT.OPEN 1) 1).wr (SB_GRP.INTERVAL 0) 1).modGroup 0 fun x => { x with firstChange := some 0, lastSend := some 0, sentValue := 1 }; let g : Fin 8 := 0; let t : Nat := 0; let c : Nat := 0; (s.rd (SB_GRP.ADP g) ≠ 0) ∧ (s.tunnelOpen (s.rd (SB_GRP.ADP g)) = true) ∧ (s.adpSends (s.rd (SB_GRP.ADP g)) = true) ∧ (s.groupValue g ≠ (s.group g).sentValue) ∧ ((s.group g).firstChange = some c) ∧ ((s.group g).farInterval = none) ∧ ((s.group g).lastSend = some t) ∧ (s.uptime < t + s.rd (SB_GRP.INTERVAL g) * 10000)) ∧
    (let s : State := (State.reset.wr (SB_GRP.TIMED 0) 0); let g : Fin 8 := 0; (s.rd (SB_GRP.TIMED g) = 0)) ∧
    (let s : State := (State.reset.modGroup 0 fun x => { x with applied := some (5, 0, []) }); let g : Nat := 0; let t : Nat := 0; let t' : Nat := 5; let v' : Nat := 0; let e' : List Nat := []; ((s.group g).applied = some (t', v', e')) ∧ (t < t')) ∧
    (let s : State := (State.reset.modGroup 0 fun x => { x with waiting := [] }); let g : Fin 8 := 0; ((s.group g).waiting = [])) ∧
    (let s : State := (State.reset.modGroup 0 fun x => { x with waiting := (0, 0, 0, []) :: [] }); let g : Fin 8 := 0; let x : Nat := 0; let t : Nat := 0; let v : Nat := 0; let e : List Nat := []; let rest : List (Nat × Nat × Nat × List Nat) := []; ((s.group g).waiting = (x, t, v, e) :: rest)) ∧
    (let s : State := (((State.reset.wr (SB_GRP.ADP 0) 1).wr (TA_STAT.OPEN 1) 1).wr (SB_GRP.INTERVAL 0) 0).modGroup 0 fun x => { x with firstChange := some 0, lastSend := some 0, sentValue := 1 }; let g : Fin 8 := 0; (s.rd (SB_GRP.ADP g) ≠ 0) ∧ (s.tunnelOpen (s.rd (SB_GRP.ADP g)) = true)) := by
  and_intros <;> decide +kernel

theorem witness_EnumerationRoutesAndTunnels :
    (let s : State := State.reset; let p : Fin 6 := 0; (s.linkIsUp p = false ∨ s.peerPort p = true ∨ s.redundant p = true)) ∧
    (let s : State := (((((State.reset.modLink 0 fun l => { l with linkUp := true }).wr (CL_STAT.LSTATE 0) 4).wr (CL_STAT.TLOCK 0) 1).wr GC_IMG_INFO.ROLE 1).wr DM_CFG.DUAL 0); let p : Fin 6 := 0; (s.linkIsUp p = true) ∧ (s.peerPort p = false) ∧ (s.redundant p = false) ∧ (s.lstate p = 4) ∧ (s.dom.refused.contains p.val = false) ∧ (s.rd (CL_STAT.TLOCK p) ≠ 0 ∨ (s.link p).upAt + 200000000 ≤ s.uptime) ∧ (s.hostRole = true) ∧ (s.rd DM_CFG.DUAL = 0) ∧ (s.unassigned p = false)) ∧
    (let s : State := ((((((State.reset.modLink 0 fun l => { l with linkUp := true }).wr (CL_STAT.LSTATE 0) 4).wr (CL_STAT.TLOCK 0) 1).wr DM_ID.VALID 1).wr DM_ID.UPPORT 1).wr DM_ID.HOP 4); let p : Fin 6 := 0; (s.linkIsUp p = true) ∧ (s.peerPort p = false) ∧ (s.redundant p = false) ∧ (s.lstate p = 4) ∧ (s.dom.refused.contains p.val = false) ∧ (s.rd (CL_STAT.TLOCK p) ≠ 0 ∨ (s.link p).upAt + 200000000 ≤ s.uptime) ∧ (s.hostRole = false) ∧ (s.rd DM_ID.VALID ≠ 0) ∧ (s.rd DM_ID.UPPORT ≠ p) ∧ (4 ≤ s.rd DM_ID.HOP)) ∧
    (let s : State := ({ ((((((State.reset.modLink 0 fun l => { l with linkUp := true }).wr (CL_STAT.LSTATE 0) 4).wr (CL_STAT.TLOCK 0) 1).wr DM_ID.VALID 1).wr DM_ID.UPPORT 1).wr DM_ID.HOP 0) with dom := { State.reset.dom with replyPort := [(5, 0)] } } : State); let p : Fin 6 := 0; (s.linkIsUp p = true) ∧ (s.peerPort p = false) ∧ (s.redundant p = false) ∧ (s.lstate p = 4) ∧ (s.dom.refused.contains p.val = false) ∧ (s.rd (CL_STAT.TLOCK p) ≠ 0 ∨ (s.link p).upAt + 200000000 ≤ s.uptime) ∧ (s.hostRole = false) ∧ (s.rd DM_ID.VALID ≠ 0) ∧ (s.rd DM_ID.UPPORT ≠ p) ∧ (s.rd DM_ID.HOP < 4) ∧ (s.unassigned p = true)) ∧
    (let s : State := (State.reset.wr (DM_PCFG.PEER.bit 0) 1); let p : Fin 6 := 0; (s.peerPort p = true)) ∧
    (let s : State := (State.reset.wr DM_ID.UPPORT 7); let p : Fin 6 := 0; (s.peerPort p = false) ∧ (s.hostRole = false) ∧ (s.rd DM_ID.UPPORT = 7)) ∧
    (let s : State := (((((State.reset.modLink 0 fun l => { l with linkUp := true }).wr (CL_STAT.LSTATE 0) 4).wr DM_ID.VALID 1).wr DM_ID.UPPORT 1).wr DM_ID.HOP 4); let p : Fin 6 := 0; (s.peerPort p = false) ∧ (s.hostRole = false) ∧ (s.rd DM_ID.UPPORT ≠ 7) ∧ (s.rd DM_ID.UPPORT ≠ p)) ∧
    (let s : State := ((((State.reset.modLink 0 fun l => { l with linkUp := true }).wr (CL_STAT.LSTATE 0) 4).wr GC_IMG_INFO.ROLE 1).wr DM_CFG.DUAL 0); let p : Fin 6 := 0; (s.peerPort p = false) ∧ (s.hostRole = true) ∧ (s.dom.refused.contains p.val = false)) ∧
    (let s : State := (((((State.reset.modLink 0 fun l => { l with linkUp := true }).wr (CL_STAT.LSTATE 0) 4).wr DM_ID.VALID 1).wr DM_ID.UPPORT 1).wr DM_ID.HOP 4); let p : Fin 6 := 0; (s.peerPort p = false) ∧ (s.hostRole = false) ∧ (s.dom.refused.contains p.val = false)) ∧
    (let s : State := ((((State.reset.modLink 0 fun l => { l with linkUp := true }).wr (CL_STAT.LSTATE 0) 4).wr GC_IMG_INFO.ROLE 1).wr DM_CFG.DUAL 0); let p : Fin 6 := 0; (s.peerPort p = false) ∧ (s.hostRole = true)) ∧
    (let s : State := (((((State.reset.modLink 0 fun l => { l with linkUp := true }).wr (CL_STAT.LSTATE 0) 4).wr DM_ID.VALID 1).wr DM_ID.UPPORT 1).wr DM_ID.HOP 4); let p : Fin 6 := 0; (s.peerPort p = false) ∧ (s.hostRole = false)) ∧
    (let s : State := ({ (State.reset.wr GC_IMG_INFO.ROLE 1) with dom := { State.reset.dom with hubs := [({ addr := 1, uid := 9, parent := 0, port := 1 } : HubEntry)] } } : State); let p : Fin 6 := 0; let uid : BitVec 64 := 9; let h : HubEntry := ({ addr := 1, uid := 9, parent := 0, port := 1 } : HubEntry); (s.peerPort p = false) ∧ (s.hostRole = true) ∧ ((s.dom.hubs.find? fun g => decide (g.uid = uid.toNat)) = some h) ∧ (h.parent ≠ s.hubAddr ∨ h.port ≠ p)) ∧
    (let s : State := State.reset; let uid : BitVec 64 := 0; (uid.toNat = s.uid) ∧ (s.hostRole = false)) ∧
    (let s : State := State.reset; let uid : BitVec 64 := 1; (uid.toNat ≠ s.uid)) ∧
    (let s : State := ({ State.reset with dom := { State.reset.dom with replyPort := [(5, 0)] } } : State); let uid : BitVec 64 := 5; let r := ((5, 0) : Nat × Nat); ((s.dom.replyPort.find? fun r => decide (r.1 = uid.toNat)) = some r)) ∧
    (let s : State := State.reset; let uid : BitVec 64 := 0; ((s.dom.replyPort.find? fun r => decide (r.1 = uid.toNat)) = none)) ∧
    (let s : State := (State.reset.wr DM_ID.VALID 0); (s.rd DM_ID.VALID = 0)) ∧
    (let s : State := ((((State.reset.modLink 0 fun l => { l with linkUp := true }).wr (CL_STAT.LSTATE 0) 4).wr (DM_PCFG.PEER.bit 0) 1).wr DM_ID.VALID 1); let p : Fin 6 := 0; (s.peerPort p = true) ∧ (s.linkIsUp p = true) ∧ (s.lstate p = 4) ∧ (s.rd DM_ID.VALID ≠ 0)) ∧
    (let n : Fin 65536 := 13; let l : List (BitVec 32) := []; (12 < n.val ∨ l.length < n.val)) ∧
    (let s : State := (((((State.reset.modLink 0 fun l => { l with linkUp := true }).wr (CL_STAT.LSTATE 0) 4).wr DM_ID.VALID 1).wr DM_ID.UPPORT 1).wr DM_ID.HOP 4); (s.hostRole = false)) ∧
    (let s : State := ({ (State.reset.wr GC_IMG_INFO.ROLE 1) with dom := { State.reset.dom with hubs := [({ addr := 1, uid := 9, parent := 0, port := 1 } : HubEntry)], routes := [] } } : State); let src : Fin 16384 := 1; let h : HubEntry := ({ addr := 1, uid := 9, parent := 0, port := 1 } : HubEntry); (s.hostRole = true) ∧ (s.dom.routes = []) ∧ ((s.dom.hubs.find? fun g => decide (g.addr = src.val) && !g.acked) = some h)) ∧
    (let s : State := ({ (State.reset.wr GC_IMG_INFO.ROLE 1) with dom := { State.reset.dom with routes := [(1, 2, 3)] } } : State); let src : Fin 16384 := 1; let new : Nat := 2; let port : Nat := 3; let rest : List (Nat × Nat × Nat) := []; (s.hostRole = true) ∧ (s.dom.routes = (src.val, new, port) :: rest)) ∧
    (let s : State := State.reset; let y : Fin 256 := 0; let c : Fin 4 := 0; let tc : Fin 8 := 0; (y = 0 ∨ s.rd (TA_CFG0.CLASS y) ≠ c ∨ s.rd (TA_CFG0.TC y) ≠ tc)) ∧
    (let s : State := (((State.reset.wr (TA_CFG0.TYPE 1) 1).wr (TA_PEER.HUB 1) 7).wr (TA_PEER.ADP 1) 3); let h : Fin 16384 := 7; let x : Fin 256 := 3; let y : Fin 256 := 1; let g : Fin 16384 := 0; let c : Fin 4 := 0; let tc : Fin 8 := 0; (y ≠ 0) ∧ (s.adpType y ≠ 0) ∧ (g.val = s.hubAddr) ∧ (s.rd (TA_PEER.MCAST y) = 0) ∧ (s.rd (TA_PEER.HUB y) = h) ∧ (s.rd (TA_PEER.ADP y) = x) ∧ (s.rd (TA_CFG0.CLASS y) = c) ∧ (s.rd (TA_CFG0.TC y) = tc) ∧ (s.recentlyGone h = false) ∧ (s.recentlyGone g = false)) ∧
    (let s : State := (((((State.reset.modLink 0 fun l => { l with linkUp := true }).wr (CL_STAT.LSTATE 0) 4).wr DM_ID.VALID 1).wr DM_ID.UPPORT 1).wr DM_ID.HOP 4); let h : Fin 16384 := 0; let u := (s.cmd.entries.filter fun e => e.running && relayTo h e.wait).foldl (fun t e => t.answer e stAborted 0 []) (s.closeToward h); (s.hostRole = false) ∧ (u.hostRole = false)) ∧
    (let s : State := ((State.reset.wr GC_IMG_INFO.ROLE 1).modDom fun d => { d with hubs := [{ addr := 0, uid := 0, parent := 0, port := 0 }] }); let h : Fin 16384 := 0; let v := s.eachIn ((s.dom.hubs.map HubEntry.addr).filter fun g => !(s.subtree 4 [h.val]).contains g) fun g t => t.domMsg g 0 0x87 (be 2 h ++ be 1 0); let u := (v.cmd.entries.filter fun e => e.running && relayTo h e.wait).foldl (fun t e => t.answer e stAborted 0 []) (v.closeToward h); (s.hostRole = true) ∧ ((s.dom.hubs.any fun g => decide (g.addr = h.val)) = true) ∧ (u.hostRole = true) ∧ ((u.dom.hubs.any fun g => decide (g.addr = h.val)) = true)) := by
  and_intros <;> decide +kernel

theorem witness_FloorGrandmasterAndRoles :
    (let s : State := ({ State.reset with dom := { (State.reset).dom with floor := none } } : State); (s.dom.floor = none)) ∧
    (let s : State := ({ State.reset with dom := { State.reset.dom with floor := some (2, 0, 0, 0) } } : State); (s.dom.floor.isSome = true)) ∧
    (let s : State := State.reset; let v : Fin 256 := 0; let age : BitVec 32 := 0; let u := s.holdFloor; (v.val < u.floorRecord.1 ∨ (v.val = u.floorRecord.1 ∧ age.toNat * 10000000 < u.floorRecord.2.2))) ∧
    (let s : State := State.reset; let v : Fin 256 := 3; let age : BitVec 32 := 0; let u := s.holdFloor; (u.floorRecord.1 < v.val ∨ (v.val = u.floorRecord.1 ∧ u.floorRecord.2.2 ≤ age.toNat * 10000000))) ∧
    (let s : State := State.reset; let old : Nat := 0; let r := s.floorRecord; (old ≤ r.1)) ∧
    (let s : State := ({ State.reset with dom := { State.reset.dom with floor := some (2, 0, 0, 0) } } : State); let old : Nat := 3; let r := s.floorRecord; (r.1 < 3) ∧ (old = 3)) ∧
    (let s : State := State.reset; (s.floorRecord.2.2 < 600000000000)) ∧
    (let s : State := ({ State.reset with dom := { State.reset.dom with floor := some (2, 0, 600000000000, 0) } } : State); (600000000000 ≤ s.floorRecord.2.2)) ∧
    (let s : State := (State.reset.wr (DM_PCFG.SPAN_EDGE.bit 0) 1); let p : Fin 6 := 0; (s.spanEdge p = true)) ∧
    (let s : State := State.reset; let p : Fin 6 := 0; (s.spanEdge p = false)) ∧
    (let s : State := State.reset; (s.hostRole = false)) ∧
    (let s : State := ((State.reset.wr GC_IMG_INFO.ROLE 1).wr DM_CFG.DUAL 0); (s.hostRole = true) ∧ (s.rd DM_CFG.DUAL = 0)) ∧
    (let s : State := ((State.reset.wr GC_IMG_INFO.ROLE 1).wr DM_CFG.DUAL 1); let uid : BitVec 64 := 1; (s.hostRole = true) ∧ (s.rd DM_CFG.DUAL ≠ 0) ∧ (s.uid < uid.toNat)) ∧
    (let s : State := ((State.reset.wr GC_IMG_INFO.ROLE 1).wr DM_CFG.DUAL 1); let uid : BitVec 64 := 0; (s.hostRole = true) ∧ (s.rd DM_CFG.DUAL ≠ 0) ∧ (uid.toNat ≤ s.uid)) ∧
    (let s : State := ((State.reset.wr GC_IMG_INFO.ROLE 1).wr DM_CFG.DUAL 0); (s.rd DM_CFG.DUAL = 0)) := by
  and_intros <;> decide +kernel

theorem witness_PaddockHoldsUntilReleaseTime :
    ((let s : State := ({ State.reset with sw := { State.reset.sw with pdkIn := [] } } : State); (s.sw.pdkIn = [])) ∧
    (let s : State := (({ State.reset with sw := { State.reset.sw with pdkIn := (0, 0) :: [] } } : State).setStored 0 (some ({ pkt := {}, inp := 0, cells := 1, lossless := false, refs := 1, complete := true } : Stored))); let id : Nat := 0; let adp : Nat := 0; let rest : List (Nat × Nat) := []; let st : Stored := ({ pkt := {}, inp := 0, cells := 1, lossless := false, refs := 1, complete := true } : Stored); let u := s.mapSw fun w => { w with pdkIn := rest }; let e : PdkEntry := { id := id, adp := adp, release := fullStamp st.pkt.ts u.time + u.skewNs, seq := st.pkt.seq }; (s.sw.pdkIn = (id, adp) :: rest) ∧ (s.stored id = some st) ∧ (s.sw.pdk.length < 8192) ∧ (u.time.toNs ≤ e.release)) ∧
    (let s : State := ({ State.reset with sw := { State.reset.sw with pdkIn := [(0, 0)] }, time := { sec := 1 } } : State).setStored 0 (some { pkt := {}, inp := 0, cells := 1, lossless := false, refs := 1, complete := true }); let id : Nat := 0; let adp : Nat := 0; let rest : List (Nat × Nat) := []; let st : Stored := ({ pkt := {}, inp := 0, cells := 1, lossless := false, refs := 1, complete := true } : Stored); let u := s.mapSw fun w => { w with pdkIn := rest }; let e : PdkEntry := { id := id, adp := adp, release := fullStamp st.pkt.ts u.time + u.skewNs, seq := st.pkt.seq }; (s.sw.pdkIn = (id, adp) :: rest) ∧ (s.stored id = some st) ∧ (s.sw.pdk.length < 8192) ∧ (e.release < s.time.toNs)) ∧
    (let s : State := ({ State.reset with sw := { State.reset.sw with pdk := [] } } : State); (s.sw.pdk = [])) ∧
    (let s : State := (State.reset.mapSw fun w => { w with pdk := [{ id := 1, adp := 1, release := 1, seq := 0 }] }); let e : PdkEntry := { id := 1, adp := 1, release := 1, seq := 0 }; (earliest s.sw.pdk = some e) ∧ (s.time.toNs < e.release)) ∧
    (let s : State := (State.reset.mapSw fun w => { w with pdk := [{ id := 1, adp := 1, release := 0, seq := 0 }] }); let e : PdkEntry := { id := 1, adp := 1, release := 0, seq := 0 }; (earliest s.sw.pdk = some e) ∧ (e.release ≤ s.time.toNs) ∧ (s.queueRoom (s.home e.adp) 1 = true) ∧ (∀ k ∈ s.sw.pdkOut, s.home k.2 ≠ s.home e.adp)) ∧
    (let s : State := ((State.reset.mapSw fun w => { w with pdk := [{ id := 1, adp := 1, release := 0, seq := 0 }] }).modEng 0 fun x => { x with queue := List.replicate 64 { ingress := true, adp := 1, pkt := {} } }); let e : PdkEntry := { id := 1, adp := 1, release := 0, seq := 0 }; (earliest s.sw.pdk = some e) ∧ (e.release ≤ s.time.toNs) ∧ (s.queueRoom (s.home e.adp) 1 = false)) ∧
    (let s : State := ({ State.reset with cmd := { (State.reset).cmd with notifyUsb := false } } : State); (s.cmd.notifyUsb = false ∨ s.cmd.usbReady = false)) ∧
    (let s : State := ({ ({ State.reset with cmd := { (State.reset).cmd with notifyUsb := true } } : State) with cmd := { (({ State.reset with cmd := { (State.reset).cmd with notifyUsb := true } } : State)).cmd with usbReady := true } } : State); (s.cmd.notifyUsb = true) ∧ (s.cmd.usbReady = true))) ∧
    (let s : State := fullPaddock; let id : Nat := 0; let adp : Nat := 0; let rest : List (Nat × Nat) := []; let st : Stored := onePkt; let f : PdkEntry := duePkt; let u := s.mapSw fun w => { w with pdkIn := rest }; let e : PdkEntry := { id := id, adp := adp, release := fullStamp st.pkt.ts u.time + u.skewNs, seq := st.pkt.seq }; (s.sw.pdkIn = (id, adp) :: rest) ∧ (s.stored id = some st) ∧ (8192 ≤ s.sw.pdk.length) ∧ (earliest s.sw.pdk = some f) ∧ (u.time.toNs ≤ e.release)) :=
  ⟨by and_intros <;> decide +kernel,
    by exact ⟨rfl, fullPaddock_stored, fullPaddock_len, fullPaddock_earliest, fullPaddock_due⟩⟩

theorem witness_MacFramesAndPauses :
    (let s : State := (State.reset.wr (EN_CFG.IF 0) 0); let m : Fin 2 := 0; (s.rd (EN_CFG.IF m) = 0 ∨ s.rd (EN_STAT.LINK m) = 0)) ∧
    (let s : State := ((State.reset.wr (EN_CFG.IF 0) 1).wr (EN_STAT.LINK 0) 1); let m : Fin 2 := 0; let f : List Byte := []; let g : Bool := false; (s.rd (EN_CFG.IF m) ≠ 0) ∧ (s.rd (EN_STAT.LINK m) ≠ 0) ∧ (g = false ∨ f.length < 60 ∨ s.rd (EN_CFG.MAXLEN m) < f.length)) ∧
    (let s : State := (((State.reset.wr (EN_CFG.IF 0) 1).wr (EN_STAT.LINK 0) 1).wr (EN_CFG.PTP_MODE 0) 1); let m : Fin 2 := 0; let f : List Byte := List.replicate 12 0#8 ++ [0x88, 0xF7] ++ List.replicate 46 0#8; let u := s.wrapAdd (EN_RX_FRAMES.COUNT m) 1; let h := List.replicate 46 0#8; (s.rd (EN_CFG.IF m) ≠ 0) ∧ (s.rd (EN_STAT.LINK m) ≠ 0) ∧ (60 ≤ f.length) ∧ (f.length ≤ s.rd (EN_CFG.MAXLEN m)) ∧ (u.rd (EN_CFG.PTP_MODE m) = 1) ∧ (ptpOverEthernet f = some h)) ∧
    (let s : State := (((State.reset.wr (EN_CFG.IF 0) 1).wr (EN_STAT.LINK 0) 1).wr (EN_CFG.PTP_MODE 0) 0); let m : Fin 2 := 0; let f : List Byte := List.replicate 60 0; let u := s.wrapAdd (EN_RX_FRAMES.COUNT m) 1; let a := u.frameAdapter m f; (s.rd (EN_CFG.IF m) ≠ 0) ∧ (s.rd (EN_STAT.LINK m) ≠ 0) ∧ (60 ≤ f.length) ∧ (f.length ≤ s.rd (EN_CFG.MAXLEN m)) ∧ (u.rd (EN_CFG.PTP_MODE m) ≠ 1) ∧ (a = 0)) ∧
    (let s : State := (((((State.reset.wr (EN_CFG.IF 0) 1).wr (EN_STAT.LINK 0) 1).wr (EN_CFG.PTP_MODE 0) 0).wr (EN_ADPMAP.DEF_ADP 0) 1).wr (TA_CFG0.DIR 1) 2); let m : Fin 2 := 0; let f : List Byte := List.replicate 60 0#8; let u := s.wrapAdd (EN_RX_FRAMES.COUNT m) 1; let a := u.frameAdapter m f; (s.rd (EN_CFG.IF m) ≠ 0) ∧ (s.rd (EN_STAT.LINK m) ≠ 0) ∧ (60 ≤ f.length) ∧ (f.length ≤ s.rd (EN_CFG.MAXLEN m)) ∧ (u.rd (EN_CFG.PTP_MODE m) ≠ 1) ∧ (a ≠ 0) ∧ (u.rd (TA_CFG0.DIR a) = 2)) ∧
    (let s : State := (((((State.reset.wr (EN_CFG.IF 0) 1).wr (EN_STAT.LINK 0) 1).wr (EN_CFG.PTP_MODE 0) 0).wr (EN_ADPMAP.DEF_ADP 0) 1).wr (EN_RXBUF.SIZE 0 0) 0); let m : Fin 2 := 0; let f : List Byte := List.replicate 60 0; let u := s.wrapAdd (EN_RX_FRAMES.COUNT m) 1; let a := u.frameAdapter m f; let p := u.framePcp m f; (s.rd (EN_CFG.IF m) ≠ 0) ∧ (s.rd (EN_STAT.LINK m) ≠ 0) ∧ (60 ≤ f.length) ∧ (f.length ≤ s.rd (EN_CFG.MAXLEN m)) ∧ (u.rd (EN_CFG.PTP_MODE m) ≠ 1) ∧ (a ≠ 0) ∧ (u.rd (TA_CFG0.DIR a) ≠ 2) ∧ (u.rd (EN_RXBUF.SIZE m p) * 256 < u.partitionUse m p + f.length) ∧ (bitOf (u.rd (EN_PFC.TX_EN m)) p = false)) ∧
    (let s : State := (((((State.reset.wr (EN_CFG.IF 0) 1).wr (EN_STAT.LINK 0) 1).wr (EN_CFG.PTP_MODE 0) 0).wr (EN_ADPMAP.DEF_ADP 0) 1).wr (EN_RXBUF.SIZE 0 0) 1); let m : Fin 2 := 0; let f : List Byte := List.replicate 60 0; let u := s.wrapAdd (EN_RX_FRAMES.COUNT m) 1; let a := u.frameAdapter m f; let p := u.framePcp m f; (s.rd (EN_CFG.IF m) ≠ 0) ∧ (s.rd (EN_STAT.LINK m) ≠ 0) ∧ (60 ≤ f.length) ∧ (f.length ≤ s.rd (EN_CFG.MAXLEN m)) ∧ (u.rd (EN_CFG.PTP_MODE m) ≠ 1) ∧ (a ≠ 0) ∧ (u.rd (TA_CFG0.DIR a) ≠ 2) ∧ (u.partitionUse m p + f.length ≤ u.rd (EN_RXBUF.SIZE m p) * 256)) ∧
    (let s : State := State.reset; let m : Fin 2 := 0; let p : Fin 9 := 0; ((s.mac m).xoff.contains p.val = false)) ∧
    (let s : State := (State.reset.modMac 0 fun x => { x with xoff := [0] }); let m : Fin 2 := 0; let p : Fin 9 := 0; ((s.mac m).xoff.contains p.val = true)) ∧
    (let s : State := (State.reset.wr (EN_PFC.LLFC 0) 1); let m : Fin 2 := 0; let u := s.wrapAdd (EN_PAUSE_RX.COUNT m) 1; (u.rd (EN_PFC.LLFC m) ≠ 0)) ∧
    (let s : State := (State.reset.wr (EN_PFC.LLFC 0) 0); let m : Fin 2 := 0; let u := s.wrapAdd (EN_PAUSE_RX.COUNT m) 1; (u.rd (EN_PFC.LLFC m) = 0)) ∧
    (let s : State := (State.reset.wr (EN_CFG.IF 0) 0); let m : Fin 2 := 0; (s.rd (EN_STAT.LINK m) = 0)) ∧
    (let s : State := (State.reset.wr (EN_STAT.LINK 0) 1); let m : Fin 2 := 0; (s.rd (EN_STAT.LINK m) ≠ 0) ∧ (∀ q < 8, (s.macCredits m).txReady m q = false)) ∧
    (let s : State := ((((State.reset.wr (EN_CFG.IF 0) 1).wr (EN_STAT.LINK 0) 1).wr (EN_CFG.PTP_MODE 0) 0).modMac 0 fun x => { x with txq := [(7, [(List.replicate 60 0, true)])] }); let m : Fin 2 := 0; let q : Nat := 7; let f : List Byte := List.replicate 60 0; let g : Bool := true; let rest : List (List Byte × Bool) := []; let u := s.macCredits m; let v := u.modMac m fun x => { x with txq := Tab.put [] x.txq q rest, sending := some (q, u.uptime + u.frameTime m f) }; let w := if v.rd (EN_TXQCFG.SHAPE m q) = 0 then v else v.modMac m fun x => { x with credit := Tab.put 0 x.credit q (Tab.get 0 x.credit q - (f.length + 24) * 80000) }; let x := (w.send (.eth m f g)).wrapAdd (EN_TX_FRAMES.COUNT m) 1; (s.rd (EN_STAT.LINK m) ≠ 0) ∧ (q < 8) ∧ (u.txReady m q = true) ∧ (∀ k < 8, q < k → u.txReady m k = false) ∧ ((u.mac m).queue q = (f, g) :: rest) ∧ (x.ptpEvent m f = none)) ∧
    (let s : State := ((((State.reset.wr (EN_CFG.IF 0) 1).wr (EN_STAT.LINK 0) 1).wr (EN_CFG.PTP_MODE 0) 2).modMac 0 fun x => { x with txq := [(7, [(List.replicate 12 0#8 ++ [0x88, 0xF7] ++ List.replicate 46 0#8, true)])] }); let m : Fin 2 := 0; let q : Nat := 7; let f : List Byte := List.replicate 12 0#8 ++ [0x88, 0xF7] ++ List.replicate 46 0#8; let g : Bool := true; let rest : List (List Byte × Bool) := []; let u := s.macCredits m; let v := u.modMac m fun x => { x with txq := Tab.put [] x.txq q rest, sending := some (q, u.uptime + u.frameTime m f) }; let w := if v.rd (EN_TXQCFG.SHAPE m q) = 0 then v else v.modMac m fun x => { x with credit := Tab.put 0 x.credit q (Tab.get 0 x.credit q - (f.length + 24) * 80000) }; let x := (w.send (.eth m f g)).wrapAdd (EN_TX_FRAMES.COUNT m) 1; let k := 0; let i := 0; (s.rd (EN_STAT.LINK m) ≠ 0) ∧ (q < 8) ∧ (u.txReady m q = true) ∧ (∀ k < 8, q < k → u.txReady m k = false) ∧ ((u.mac m).queue q = (f, g) :: rest) ∧ (x.ptpEvent m f = some (k, i))) ∧
    (let s : State := (State.reset.wr (EN_CFG.IF 0) 0); let m : Fin 2 := 0; (s.rd (EN_CFG.IF m) = 0)) ∧
    (let s : State := ({ State.reset with test := { State.reset.test with under := some 17 } } : State); let m : Fin 2 := 0; (s.underTest 20 m = true)) ∧
    (let s : State := ((State.reset.wr (EN_CFG.IF 0) 1).wr (EN_STAT.LINK 0) 1); let m : Fin 2 := 0; (s.underTest 20 m = false) ∧ (s.rd (EN_CFG.IF m) ≠ 0) ∧ (s.rd (EN_STAT.LINK m) ≠ 0)) ∧
    (let s : State := (((State.reset.wr (EN_CFG.IF 0) 1).wr (EN_STAT.LINK 0) 1).wr (EN_CFG.IF 0) 3); let m : Fin 2 := 0; (s.underTest 20 m = false) ∧ (s.rd (EN_CFG.IF m) ≠ 0) ∧ (s.rd (EN_STAT.LINK m) ≠ 0) ∧ (s.rd (EN_CFG.IF m) = 3 ∨ s.rd (EN_CFG.IF m) = 5)) ∧
    (let s : State := ((State.reset.wr (EN_CFG.IF 0) 1).wr (EN_CFG.FEC 0) 0); let m : Fin 2 := 0; (s.underTest 20 m = false) ∧ (s.rd (EN_CFG.FEC m) = 0) ∧ (s.rd (EN_CFG.IF m) = 1)) ∧
    (let s : State := ((State.reset.wr (EN_CFG.FEC 0) 0).wr (EN_CFG.IF 0) 2); let m : Fin 2 := 0; (s.underTest 20 m = false) ∧ (s.rd (EN_CFG.FEC m) = 0) ∧ (s.rd (EN_CFG.IF m) = 2)) ∧
    (let s : State := ((State.reset.wr (EN_CFG.IF 0) 3).wr (EN_CFG.FEC 0) 0); let m : Fin 2 := 0; let v : Fin 6 := 1; (s.underTest 20 m = false) ∧ (s.rd (EN_CFG.FEC m) = 0) ∧ (s.rd (EN_CFG.IF m) = 3) ∧ (v ≠ 0)) ∧
    (let s : State := ((State.reset.wr (EN_CFG.IF 0) 5).wr (EN_CFG.FEC 0) 0); let m : Fin 2 := 0; let v : Fin 6 := 1; (s.underTest 20 m = false) ∧ (s.rd (EN_CFG.FEC m) = 0) ∧ (s.rd (EN_CFG.IF m) = 5) ∧ (v ≠ 0)) := by
  and_intros <;> decide +kernel

theorem witness_TimeServoAndPulses :
    (let s : State := State.reset; let src : Fin 9 := 0; (s.timeSource ≠ some src.val) ∧ (src.val < 6 ∨ s.rd TM_SRC.SRC = 0)) ∧
    (let s : State := ((State.reset.wr DM_GM.CAPABLE 0).modLink 0 fun l => { l with linkUp := true }); let src : Fin 9 := 0; let th : Int := 2000000000; let u := ({ s with tm := { s.tm with close := 0 } } : State).wr TM_OFS.OFS (ofSigned 32 (satSigned 32 th)); (s.timeSource = some src.val) ∧ (src.val < 6) ∧ (s.rd DM_GM.CAPABLE = 0) ∧ (128 < th.natAbs) ∧ (u.rd TM_SERVO.STEP_THR * 16000 < th.natAbs)) ∧
    (let s : State := ((State.reset.wr DM_GM.CAPABLE 0).modLink 0 fun l => { l with linkUp := true }); let src : Fin 9 := 0; let th : Int := 129; let u := ({ s with tm := { s.tm with close := 0 } } : State).wr TM_OFS.OFS (ofSigned 32 (satSigned 32 th)); (s.timeSource = some src.val) ∧ (src.val < 6) ∧ (s.rd DM_GM.CAPABLE = 0) ∧ (128 < th.natAbs) ∧ (th.natAbs ≤ u.rd TM_SERVO.STEP_THR * 16000)) ∧
    (let s : State := ((State.reset.wr TM_SRC.SRC 1).wr TM_STAT.SRC_LOCK 1); (s.rd TM_SRC.SRC ≠ 0) ∧ (s.rd TM_STAT.SRC_LOCK ≠ 0)) ∧
    (let s : State := (State.reset.wr TM_SRC.SRC 0); (s.rd TM_SRC.SRC = 0 ∨ s.rd TM_STAT.SRC_LOCK = 0)) ∧
    (let s : State := ({ (((State.reset.wr DM_GM.CAPABLE 1).wr TM_SRC.SRC 0).wr TM_STAT.ACQUIRED 0) with dom := { ((((State.reset.wr DM_GM.CAPABLE 1).wr TM_SRC.SRC 0).wr TM_STAT.ACQUIRED 0)).dom with heard := [] } } : State); (s.rd DM_GM.CAPABLE ≠ 0) ∧ (s.rd TM_SRC.SRC = 0) ∧ (s.rd TM_STAT.ACQUIRED = 0) ∧ (s.dom.heard = [])) ∧
    (let s : State := (State.reset.wr DM_GM.CAPABLE 0); (s.rd DM_GM.CAPABLE = 0 ∨ s.rd TM_SRC.SRC ≠ 0 ∨ s.rd TM_STAT.ACQUIRED ≠ 0)) ∧
    (let s : State := ((State.reset.wr TM_INC_EFF_NS.NS 0).wr TM_INC_EFF_FRAC.FRAC 0); (s.incEffective = 0)) ∧
    (let s : State := ({ State.reset with tm := { State.reset.tm with slewLeft := 0 } } : State); (s.incEffective ≠ 0) ∧ (s.tm.slewLeft = 0) ∧ (s.ticksToSecond s.incEffective ≠ 0)) ∧
    (let s : State := (State.reset.wr TM_PPS.IN_EN 0); (s.rd TM_PPS.IN_EN = 0)) ∧
    (let s : State := (State.reset.wr TM_PPS.IN_EN 1); let t : Time := ({} : Time); (s.rd TM_PPS.IN_EN ≠ 0) ∧ (t.ns < 500000000)) ∧
    (let s : State := (State.reset.wr TM_PPS.IN_EN 1); (s.rd TM_PPS.IN_EN ≠ 0)) ∧
    (let s : State := ({ State.reset with tm := { State.reset.tm with ppsHigh := true } } : State); (s.tm.ppsHigh = true)) ∧
    (let s : State := ({ State.reset with tm := { State.reset.tm with ppsHigh := false } } : State); (s.tm.ppsHigh = false)) ∧
    (let s : State := (State.reset.wr (EN_CFG.PTP_MODE 0) 0); let m : Fin 2 := 0; (s.rd (EN_CFG.PTP_MODE m) ≠ 1 ∨ s.rd (EN_STAT.LINK m) = 0)) ∧
    (let s : State := ((State.reset.wr (EN_CFG.PTP_MODE 0) 1).wr (EN_STAT.LINK 0) 1); let m : Fin 2 := 0; (s.rd (EN_CFG.PTP_MODE m) = 1) ∧ (s.rd (EN_STAT.LINK m) ≠ 0) ∧ (s.rd TM_SRC.SRC ≠ m.val + 1)) ∧
    (let s : State := ((State.reset.wr (EN_CFG.PTP_MODE 0) 1).wr (EN_STAT.LINK 0) 1); let m : Fin 2 := 0; (s.rd (EN_CFG.PTP_MODE m) = 1) ∧ (s.rd (EN_STAT.LINK m) ≠ 0)) := by
  and_intros <;> decide +kernel

theorem witness_CaptureAndPushSources :
    ((let s : State := State.reset; let d : Fin 4 := 0; let f : DispFormat := {}; (s.dsMode d ≠ 1 ∨ s.mcReady = false ∨ formatOk f = false)) ∧
    (let s : State := ((((State.reset.wr (DS_CFG.MODE 0) 1).wr MC_STAT.READY 1).modPipe 0 fun x => { x with extract := some ({ refresh := false, copy := 0, frame := 1 } : Extract) }).modPipe 0 fun x => { x with src := ({ fmt := 0, width := 1, height := 1 } : DispFormat) }); let d : Fin 4 := 0; let f : DispFormat := ({ fmt := 0, width := 1, height := 1 } : DispFormat); (s.dsMode d = 1) ∧ (s.mcReady = true) ∧ (formatOk f = true)) ∧
    (let s : State := (State.reset.modPipe 0 fun x => { x with extract := some ({ refresh := false, copy := 0, frame := 1 } : Extract) }); let d : Fin 4 := 0; let x := s.pipe d; let e := ({ refresh := false, copy := 0, frame := 1 } : Extract); (x.extract = some e)) ∧
    (let s : State := (State.reset.modPipe 0 fun x => { x with last := some 0, due := true }); let d : Fin 4 := 0; let x := s.pipe d; let last := if x.cur.isSome then x.cur else x.last; let c := 0; (x.extract = none) ∧ (last = some c) ∧ (x.armed = true ∨ x.due = true)) ∧
    (let s : State := State.reset; let d : Fin 4 := 0; (s.dsMode d ≠ 1 ∨ s.mcReady = false ∨ ((s.pipe d).extract = none ∧ ((s.pipe d).armed = false ∨ (s.pipe d).last = none) ∧ (s.pipe d).fresh = none))) ∧
    (let s : State := ((State.reset.wr (DS_CFG.MODE 0) 1).wr MC_STAT.READY 1).modPipe 0 fun x => { x with extract := some ({ refresh := false, copy := 0, frame := 1 } : Extract), copies := [(0, { fmt := { width := 1, height := 1, prot := true } })] }; let d : Fin 4 := 0; let e : Extract := ({ refresh := false, copy := 0, frame := 1 } : Extract); let f := (Tab.get {} (s.pipe d).copies e.copy).fmt; (s.dsMode d = 1) ∧ (s.mcReady = true) ∧ ((s.pipe d).extract = some e) ∧ (f.prot = true) ∧ (s.srcEncrypted d = false)) ∧
    (let s : State := ((State.reset.wr (DS_CFG.MODE 0) 1).wr MC_STAT.READY 1).modPipe 0 fun x => { x with extract := some ({ refresh := false, copy := 0, frame := 1 } : Extract), copies := [(0, { fmt := { width := 1, height := 65, prot := false } })] }; let d : Fin 4 := 0; let e : Extract := ({ refresh := false, copy := 0, frame := 1 } : Extract); let f := (Tab.get {} (s.pipe d).copies e.copy).fmt; (s.dsMode d = 1) ∧ (s.mcReady = true) ∧ ((s.pipe d).extract = some e) ∧ (f.prot = false ∨ s.srcEncrypted d = true) ∧ (e.row + 1 < tilesY f)) ∧
    (let s : State := ((((State.reset.wr (DS_CFG.MODE 0) 1).wr MC_STAT.READY 1).modPipe 0 fun x => { x with extract := some ({ refresh := false, copy := 0, frame := 1 } : Extract) }).modPipe 0 fun x => { x with src := ({ fmt := 0, width := 1, height := 1 } : DispFormat) }); let d : Fin 4 := 0; let e : Extract := ({ refresh := false, copy := 0, frame := 1 } : Extract); let f := (Tab.get {} (s.pipe d).copies e.copy).fmt; (s.dsMode d = 1) ∧ (s.mcReady = true) ∧ ((s.pipe d).extract = some e) ∧ (f.prot = false ∨ s.srcEncrypted d = true) ∧ (tilesY f ≤ e.row + 1)) ∧
    (let s : State := ((State.reset.wr (DS_CFG.MODE 0) 1).wr (DS_TILE_CFG.FULL_PERIOD 0) 1); let d : Fin 4 := 0; (s.dsMode d = 1) ∧ (s.rd (DS_TILE_CFG.FULL_PERIOD d) ≠ 0)) ∧
    (let s : State := ((State.reset.wr (DS_CFG.MODE 0) 1).wr (DS_TILE_CFG.FULL_PERIOD 0) 0); let d : Fin 4 := 0; (s.dsMode d = 1) ∧ (s.rd (DS_TILE_CFG.FULL_PERIOD d) = 0)) ∧
    (let s : State := ((((State.reset.wr (DS_CFG.MODE 0) 1).wr MC_STAT.READY 1).modPipe 0 fun x => { x with extract := some ({ refresh := false, copy := 0, frame := 1 } : Extract) }).modPipe 0 fun x => { x with src := ({ fmt := 0, width := 1, height := 1 } : DispFormat) }); let d : Fin 4 := 0; (s.dsMode d = 1)) ∧
    (let s : State := (State.reset.wr (DS_CFG.MODE 0) 2); let d : Fin 4 := 0; (s.dsMode d = 2)) ∧
    (let s : State := (State.reset.modPipe 0 fun x => { x with edidNext := none }); let d : Fin 4 := 0; ((s.pipe d).edidNext = none)) ∧
    (let s : State := (State.reset.modPipe 0 fun x => { x with edidNext := some ([] :: []) }); let d : Fin 4 := 0; let b : List Byte := []; let e : List (List Byte) := []; ((s.pipe d).edidNext = some (b :: e))) ∧
    (let s : State := (State.reset.modPipe 0 fun x => { x with hold := false }); let d : Fin 4 := 0; ((s.pipe d).hold = false)) ∧
    (let s : State := (State.reset.modPipe 0 fun x => { x with hold := true }); let d : Fin 4 := 0; ((s.pipe d).hold = true)) ∧
    (let s : State := State.reset; let d : Fin 4 := 0; (s.dsMode d ≠ 1) ∧ (s.dsMode d ≠ 2)) ∧
    (let s : State := (State.reset.wr (DS_CFG.HDCP_EN 0) 1); let d : Fin 4 := 0; let n : Fin 256 := 0; let l : List Byte := []; (s.rd (DS_CFG.HDCP_EN d) ≠ 0) ∧ (n.val ≤ 31) ∧ (l.length ≤ 155)) ∧
    (let s : State := State.reset; let d : Fin 4 := 0; (s.rd (DS_PUSH_HEAD.HEAD d) = s.rd (DS_PUSH_TAIL.TAIL d))) ∧
    (let s : State := ((((State.reset.wr (DS_CFG.MODE 0) 2).wr MC_STAT.READY 1).wr (DS_PUSH_SIZE.SLOTS 0) 2).wr (DS_PUSH_TAIL.TAIL 0) 1).wr (TA_CFG0.TYPE 1) 2; let d : Fin 4 := 0; let a : Nat := 1; (s.pipeAdapter d = some a) ∧ (s.tunnelOpen a = false))) ∧
    (let s : State := pusher; let d : Fin 4 := 0; let a : Nat := 1; let head := s.rd (DS_PUSH_HEAD.HEAD d); let m := s.dmaRead d (s.rd (DS_PUSH_BASE.BASE d) * 16384 + head * 16384) 16384; (s.dsMode d = 2) ∧ (s.mcReady = true) ∧ (s.rd (DS_PUSH_SIZE.SLOTS d) ≠ 0) ∧ (s.rd (DS_PUSH_HEAD.HEAD d) ≠ s.rd (DS_PUSH_TAIL.TAIL d)) ∧ (s.pipeAdapter d = some a) ∧ ((s.adp a).stopped = false) ∧ ((s.adp a).accepted = []) ∧ (s.tunnelOpen a = true) ∧ (pushLen (s.pipe d).src m.1 = none)) ∧
    (let s : State := pusherGood; let d : Fin 4 := 0; let a : Nat := 1; let head := s.rd (DS_PUSH_HEAD.HEAD d); let m := s.dmaRead d (s.rd (DS_PUSH_BASE.BASE d) * 16384 + head * 16384) 16384; let n := 8; let r := m.1.take n; let t := ((m.2.countRd r.length).dispSend d (pushBytes r)).dispatch a; (s.dsMode d = 2) ∧ (s.mcReady = true) ∧ (s.rd (DS_PUSH_SIZE.SLOTS d) ≠ 0) ∧ (s.rd (DS_PUSH_HEAD.HEAD d) ≠ s.rd (DS_PUSH_TAIL.TAIL d)) ∧ (s.pipeAdapter d = some a) ∧ ((s.adp a).stopped = false) ∧ ((s.adp a).accepted = []) ∧ (s.tunnelOpen a = true) ∧ (pushLen (s.pipe d).src m.1 = some n) ∧ (t.rd (TA_SEQ.TX_SEQ a) ≠ m.2.rd (TA_SEQ.TX_SEQ a))) ∧
    (let s : State := pusherFull; let d : Fin 4 := 0; let a : Nat := 1; let head := s.rd (DS_PUSH_HEAD.HEAD d); let m := s.dmaRead d (s.rd (DS_PUSH_BASE.BASE d) * 16384 + head * 16384) 16384; let n := 8; let r := m.1.take n; let t := ((m.2.countRd r.length).dispSend d (pushBytes r)).dispatch a; (s.dsMode d = 2) ∧ (s.mcReady = true) ∧ (s.rd (DS_PUSH_SIZE.SLOTS d) ≠ 0) ∧ (s.rd (DS_PUSH_HEAD.HEAD d) ≠ s.rd (DS_PUSH_TAIL.TAIL d)) ∧ (s.pipeAdapter d = some a) ∧ ((s.adp a).stopped = false) ∧ ((s.adp a).accepted = []) ∧ (s.tunnelOpen a = true) ∧ (pushLen (s.pipe d).src m.1 = some n) ∧ (t.rd (TA_SEQ.TX_SEQ a) = m.2.rd (TA_SEQ.TX_SEQ a))) :=
  ⟨by and_intros <;> decide +kernel,
    by refine ⟨?_, ?_, ?_, ?_, ?_, ?_, ?_, ?_, pusher_len⟩ <;> decide +kernel,
    by refine ⟨?_, ?_, ?_, ?_, ?_, ?_, ?_, ?_, pusherGood_len, pusherGood_sent⟩ <;> decide +kernel,
    by refine ⟨?_, ?_, ?_, ?_, ?_, ?_, ?_, ?_, pusherFull_len, pusherFull_sent⟩ <;> decide +kernel⟩

theorem witness_SinkRecordsAndCommits :
    (let s : State := State.reset; let d : Fin 4 := 0; (s.dsMode d ≠ 3 ∨ s.mcReady = false ∨ s.oddOfPair d = true)) ∧
    (let s : State := (((State.reset.wr (DS_CFG.MODE 0) 3).wr MC_STAT.READY 1).modPipe 0 fun x => { x with format := none }); let d : Fin 4 := 0; (s.dsMode d = 3) ∧ (s.mcReady = true) ∧ (s.oddOfPair d = false) ∧ ((s.pipe d).format = none)) ∧
    (let s : State := (((State.reset.wr (DS_CFG.MODE 0) 3).wr MC_STAT.READY 1).modPipe 0 fun x => { x with src := ({ fmt := 0, width := 1, height := 1 } : DispFormat), format := some ({ fmt := 0, width := 1, height := 1 } : DispFormat) }); let d : Fin 4 := 0; let r : List Byte := []; let u := s.modPipe d fun y => { y with seen := some (y.latest (beAt r 2 2)) }; let f := ({ fmt := 0, width := 1, height := 1 } : DispFormat); (s.dsMode d = 3) ∧ (s.mcReady = true) ∧ (s.oddOfPair d = false) ∧ ((s.pipe d).format = some f) ∧ ((s.pipe d).stale (beAt r 2 2) = true ∨ tileFits f r = false ∨ u.rd (DS_FS_SIZE.TILES d) ≤ byteAt r 5 * tilesX f + byteAt r 4)) ∧
    (let s : State := (((State.reset.wr (DS_CFG.MODE 0) 3).wr MC_STAT.READY 1).modPipe 0 fun x => { x with src := ({ fmt := 0, width := 1, height := 1 } : DispFormat), format := some ({ fmt := 0, width := 1, height := 1 } : DispFormat) }).wr (DS_FS_SIZE.TILES 0) 1; let d : Fin 4 := 0; let r : List Byte := ([1, 2, 0, 0, 0, 0, 0, 0, 0, 0, 0, 0] ++ be 4 (crc32c (List.replicate (tileBytes ({ fmt := 0, width := 1, height := 1 } : DispFormat) 0 0) 0)) ++ List.replicate (tileBytes ({ fmt := 0, width := 1, height := 1 } : DispFormat) 0 0) 0); let e : Bool := false; let u := s.modPipe d fun y => { y with seen := some (y.latest (beAt r 2 2)) }; let f := ({ fmt := 0, width := 1, height := 1 } : DispFormat); (s.dsMode d = 3) ∧ (s.mcReady = true) ∧ (s.oddOfPair d = false) ∧ ((s.pipe d).format = some f) ∧ ((s.pipe d).stale (beAt r 2 2) = false) ∧ (tileFits f r = true) ∧ (byteAt r 5 * tilesX f + byteAt r 4 < u.rd (DS_FS_SIZE.TILES d)) ∧ (bitOf (byteAt r 1) 1 = true) ∧ (u.protOk d e (bitOf (byteAt r 1) 2) = false)) ∧
    (let s : State := ((((State.reset.wr (DS_CFG.MODE 0) 3).wr MC_STAT.READY 1).wr (DS_FS_SIZE.TILES 0) 1).modPipe 0 fun x => { x with src := ({ fmt := 0, width := 1, height := 1 } : DispFormat), format := some ({ fmt := 0, width := 1, height := 1 } : DispFormat) }); let d : Fin 4 := 0; let r : List Byte := [1, 0, 0, 0, 0, 0, 0, 0, 0, 0, 0, 0] ++ be 4 (crc32c [0, 0, 0, 0]) ++ [0, 0, 0, 0]; let e : Bool := false; let u := s.modPipe d fun y => { y with seen := some (y.latest (beAt r 2 2)) }; let f := ({ fmt := 0, width := 1, height := 1 } : DispFormat); (s.dsMode d = 3) ∧ (s.mcReady = true) ∧ (s.oddOfPair d = false) ∧ ((s.pipe d).format = some f) ∧ ((s.pipe d).stale (beAt r 2 2) = false) ∧ (tileFits f r = true) ∧ (byteAt r 5 * tilesX f + byteAt r 4 < u.rd (DS_FS_SIZE.TILES d)) ∧ (bitOf (byteAt r 1) 1 = false ∨ u.protOk d e (bitOf (byteAt r 1) 2) = true)) ∧
    (let s : State := State.reset; let d : Fin 4 := 0; let n : Fin 65536 := 0; (s.dsMode d ≠ 3 ∨ s.mcReady = false ∨ s.oddOfPair d = true ∨ (s.pipe d).stale n = true)) ∧
    (let s : State := ((((State.reset.wr (DS_CFG.MODE 0) 3).wr MC_STAT.READY 1).wr (DS_CFG.TEAR 0) 0).modPipe 0 fun x => { x with blank := none }); let d : Fin 4 := 0; let n : Fin 65536 := 0; let m : Fin 65536 := 0; let u := s.modPipe d fun y => { y with recv := Tab.put 0 y.recv n 0, seen := some (y.latest n) }; (s.dsMode d = 3) ∧ (s.mcReady = true) ∧ (s.oddOfPair d = false) ∧ ((s.pipe d).stale n = false) ∧ (m.val ≤ Tab.get 0 (s.pipe d).recv n) ∧ (u.on (DS_CFG.TEAR d) = false)) ∧
    (let s : State := (((State.reset.wr (DS_CFG.MODE 0) 3).wr MC_STAT.READY 1).modPipe 0 fun x => { x with src := ({ fmt := 0, width := 1, height := 1 } : DispFormat), blank := some (2, false) }); let d : Fin 4 := 0; let n : Fin 65536 := 0; let m : Fin 65536 := 1; let u := s.modPipe d fun y => { y with recv := Tab.put 0 y.recv n 0, seen := some (y.latest n) }; let v := (u.raise (Ev.DS_MISSING d)).askRefresh d 0; (s.dsMode d = 3) ∧ (s.mcReady = true) ∧ (s.oddOfPair d = false) ∧ ((s.pipe d).stale n = false) ∧ (Tab.get 0 (s.pipe d).recv n < m.val) ∧ (v.on (DS_CFG.TEAR d) = false)) ∧
    (let s : State := (((((State.reset.wr (DS_CFG.MODE 0) 3).wr MC_STAT.READY 1).wr (DS_FS_SIZE.TILES 0) 1).modPipe 0 fun x => { x with src := ({ fmt := 0, width := 1, height := 1 } : DispFormat), format := some ({ fmt := 0, width := 1, height := 1 } : DispFormat) }).wr (DS_CFG.TEAR 0) 1); let d : Fin 4 := 0; let n : Fin 65536 := 0; let m : Fin 65536 := 1; let u := s.modPipe d fun y => { y with recv := Tab.put 0 y.recv n 0, seen := some (y.latest n) }; let v := (u.raise (Ev.DS_MISSING d)).askRefresh d 0; (s.dsMode d = 3) ∧ (s.mcReady = true) ∧ (s.oddOfPair d = false) ∧ ((s.pipe d).stale n = false) ∧ (Tab.get 0 (s.pipe d).recv n < m.val) ∧ (v.on (DS_CFG.TEAR d) = true)) ∧
    (let s : State := (((((State.reset.wr (DS_CFG.MODE 0) 3).wr MC_STAT.READY 1).wr (DS_FS_SIZE.TILES 0) 1).modPipe 0 fun x => { x with src := ({ fmt := 0, width := 1, height := 1 } : DispFormat), format := some ({ fmt := 0, width := 1, height := 1 } : DispFormat) }).wr (DS_CFG.TEAR 0) 1); let d : Fin 4 := 0; let n : Fin 65536 := 0; let m : Fin 65536 := 0; let u := s.modPipe d fun y => { y with recv := Tab.put 0 y.recv n 0, seen := some (y.latest n) }; (s.dsMode d = 3) ∧ (s.mcReady = true) ∧ (s.oddOfPair d = false) ∧ ((s.pipe d).stale n = false) ∧ (m.val ≤ Tab.get 0 (s.pipe d).recv n) ∧ (u.on (DS_CFG.TEAR d) = true)) ∧
    (let s : State := ((State.reset.modPipe 0 fun x => { x with commit := none }).modPipe 0 fun x => { x with pending := [0] }); let d : Fin 4 := 0; ((s.pipe d).commit = none)) ∧
    (let s : State := (State.reset.modPipe 0 fun x => { x with commit := some ({ frame := 1 } : TileCommit), blank := some (2, true) }); let d : Fin 4 := 0; let c : TileCommit := ({ frame := 1 } : TileCommit); ((s.pipe d).commit = some c) ∧ (s.commitNow d = true)) ∧
    (let s : State := (State.reset.modPipe 0 fun x => { x with commit := none }); let d : Fin 4 := 0; ((s.pipe d).commit = none ∨ s.commitNow d = false)) ∧
    (let s : State := State.reset; let d : Fin 4 := 0; let f : DispFormat := {}; (s.dsMode d ≠ 3 ∨ s.mcReady = false ∨ s.oddOfPair d = true ∨ formatOk f = false)) ∧
    (let s : State := (((((State.reset.wr (DS_CFG.MODE 0) 3).wr MC_STAT.READY 1).wr (DS_TIMING_H.ACTIVE 0) 1).wr (DS_TIMING_V.ACTIVE 0) 1).modPipe 0 fun x => { x with src := ({ fmt := 0, width := 1, height := 1 } : DispFormat), format := some ({ fmt := 0, width := 1, height := 1 } : DispFormat) }).wr (DS_FS_SIZE.TILES 0) 1; let d : Fin 4 := 0; let f : DispFormat := ({ fmt := 0, width := 1, height := 1 } : DispFormat); let g := ({ fmt := 0, width := 1, height := 1 } : DispFormat); (s.dsMode d = 3) ∧ (s.mcReady = true) ∧ (s.oddOfPair d = false) ∧ (formatOk f = true) ∧ (tilesX f * tilesY f ≤ s.rd (DS_FS_SIZE.TILES d)) ∧ (f.width = s.rd (DS_TIMING_H.ACTIVE d)) ∧ (f.height = s.rd (DS_TIMING_V.ACTIVE d)) ∧ ((s.pipe d).format = some g) ∧ (g.fmt = f.fmt) ∧ (g.width = f.width) ∧ (g.height = f.height) ∧ (g.mute = f.mute)) ∧
    (let s : State := (((((State.reset.wr (DS_CFG.MODE 0) 3).wr MC_STAT.READY 1).wr (DS_TIMING_H.ACTIVE 0) 1).wr (DS_TIMING_V.ACTIVE 0) 1).modPipe 0 fun x => { x with src := ({ fmt := 0, width := 1, height := 1 } : DispFormat) }).wr (DS_FS_SIZE.TILES 0) 1; let d : Fin 4 := 0; let f : DispFormat := ({ fmt := 0, width := 1, height := 1 } : DispFormat); (s.dsMode d = 3) ∧ (s.mcReady = true) ∧ (s.oddOfPair d = false) ∧ (formatOk f = true) ∧ (tilesX f * tilesY f ≤ s.rd (DS_FS_SIZE.TILES d)) ∧ (f.width = s.rd (DS_TIMING_H.ACTIVE d)) ∧ (f.height = s.rd (DS_TIMING_V.ACTIVE d)) ∧ ((s.pipe d).format = none)) ∧
    (let s : State := (((((State.reset.wr (DS_CFG.MODE 0) 3).wr MC_STAT.READY 1).wr (DS_TIMING_H.ACTIVE 0) 1).wr (DS_TIMING_V.ACTIVE 0) 1).modPipe 0 fun x => { x with src := ({ fmt := 0, width := 1, height := 1 } : DispFormat) }).wr (DS_FS_SIZE.TILES 0) 1; let d : Fin 4 := 0; let f : DispFormat := ({ fmt := 0, width := 1, height := 1 } : DispFormat); (s.dsMode d = 3) ∧ (s.mcReady = true) ∧ (s.oddOfPair d = false) ∧ (formatOk f = true) ∧ (tilesX f * tilesY f ≤ s.rd (DS_FS_SIZE.TILES d)) ∧ (f.width = s.rd (DS_TIMING_H.ACTIVE d)) ∧ (f.height = s.rd (DS_TIMING_V.ACTIVE d)) ∧ ((s.pipe d).format = none) ∧ (s.rd (DS_CFG.PAIR d) = 0) ∧ ((s.pipe d).trained = false)) ∧
    (let s : State := ((((State.reset.wr (DS_CFG.MODE 0) 3).wr MC_STAT.READY 1).wr (DS_FS_SIZE.TILES 0) 0).modPipe 0 fun x => { x with format := none }); let d : Fin 4 := 0; let f : DispFormat := ({ fmt := 0, width := 1, height := 1 } : DispFormat); (s.dsMode d = 3) ∧ (s.mcReady = true) ∧ (s.oddOfPair d = false) ∧ (formatOk f = true) ∧ (s.rd (DS_FS_SIZE.TILES d) < tilesX f * tilesY f) ∧ ((s.pipe d).format = none)) ∧
    (let s : State := (State.reset.modPipe 0 fun x => { x with refreshReq := none }); let d : Fin 4 := 0; ((s.pipe d).refreshReq = none)) ∧
    (let s : State := (State.reset.modPipe 0 fun x => { x with refreshReq := some 0 }); let d : Fin 4 := 0; let r : Nat := 0; ((s.pipe d).refreshReq = some r)) ∧
    (let s : State := (((State.reset.wr (DS_CFG.MODE 0) 3).wr MC_STAT.READY 1).modPipe 0 fun x => { x with format := none }); let d : Fin 4 := 0; (s.dsMode d = 3) ∧ (s.oddOfPair d = false)) ∧
    (let s : State := State.reset; let d : Fin 4 := 0; (s.dsMode d ≠ 3 ∨ s.oddOfPair d = true)) ∧
    (let s : State := (State.reset.modPipe 0 fun x => { x with pending := [] }); let d : Fin 4 := 0; ((s.pipe d).pending = [])) ∧
    (let s : State := ((State.reset.modPipe 0 fun x => { x with commit := none }).modPipe 0 fun x => { x with pending := [0] }); let d : Fin 4 := 0; ((s.pipe d).pending ≠ [])) := by
  and_intros <;> decide +kernel

theorem witness_ScanOutLinksAndFrameMemory :
    (let s : State := (State.reset.wr (DS_CFG.PAIR 0) 1); let d : Fin 4 := 1; (s.oddOfPair d = true)) ∧
    (let s : State := State.reset; let d : Fin 4 := 0; (s.oddOfPair d = false) ∧ (s.panelPipes d = [d.val]) ∧ (s.rd (DS_STAT.STATE d) < 2)) ∧
    (let s : State := ((((State.reset.wr (DS_STAT.STATE 0) 2).wr (DS_CFG.MODE 0) 3).modPipe 0 fun x => { x with damage := false }).modPipe 0 fun x => { x with committed := false }); let d : Fin 4 := 0; (s.oddOfPair d = false) ∧ (s.panelPipes d = [d.val]) ∧ (2 ≤ s.rd (DS_STAT.STATE d)) ∧ (s.dsMode d = 3 ∨ s.dsMode d = 4) ∧ ((s.pipe d).damage = false) ∧ ((s.pipe d).committed = false)) ∧
    (let s : State := ((((State.reset.wr (DS_STAT.STATE 0) 2).wr (DS_CFG.MODE 0) 3).modPipe 0 fun x => { x with damage := true, committed := true }).wr (DS_SIG.SIG 0) 5); let d : Fin 4 := 0; let u := s.modPipe d fun y => { y with late := [] }; (s.oddOfPair d = false) ∧ (s.panelPipes d = [d.val]) ∧ (2 ≤ s.rd (DS_STAT.STATE d)) ∧ (s.dsMode d = 3 ∨ s.dsMode d = 4) ∧ ((s.pipe d).damage = true) ∧ ((s.pipe d).committed = true) ∧ (u.frameSig d ≠ u.rd (DS_SIG.SIG d))) ∧
    (let s : State := ((((State.reset.wr (DS_STAT.STATE 0) 2).wr (DS_CFG.MODE 0) 3).modPipe 0 fun x => { x with damage := true, committed := true }).wr (DS_LOWREF.K 0) 1); let d : Fin 4 := 0; let u := s.modPipe d fun y => { y with late := [] }; (s.oddOfPair d = false) ∧ (s.panelPipes d = [d.val]) ∧ (2 ≤ s.rd (DS_STAT.STATE d)) ∧ (s.dsMode d = 3 ∨ s.dsMode d = 4) ∧ ((s.pipe d).damage = true) ∧ ((s.pipe d).committed = true) ∧ (u.frameSig d = u.rd (DS_SIG.SIG d)) ∧ (((u.scanRead d).wr (DS_SIG.SIG d) (u.frameSig d)).rd (DS_LOWREF.K d) ≤ (s.pipe d).suspects + 1)) ∧
    (let s : State := (((State.reset.wr (DS_CFG.MODE 0) 3)).modPipe 0 fun x => { x with commit := some ({ frame := 1 } : TileCommit) }); let d : Fin 4 := 0; let n : Fin 65536 := 0; let u := s.setBlank d n false; let c := ({ frame := 1 } : TileCommit); (s.dsMode d = 3 ∨ s.dsMode d = 4) ∧ (s.oddOfPair d = false) ∧ ((u.pipe d).commit = some c)) ∧
    (let s : State := (((State.reset.wr (DS_CFG.MODE 0) 3).modPipe 0 fun x => { x with commit := none }).wr (DS_CFG.LOWREF_EN 0) 0); let d : Fin 4 := 0; let n : Fin 65536 := 0; let u := s.setBlank d n false; (s.dsMode d = 3 ∨ s.dsMode d = 4) ∧ (s.oddOfPair d = false) ∧ ((u.pipe d).commit = none) ∧ (u.rd (DS_CFG.LOWREF_EN d) = 0)) ∧
    (let s : State := (((((State.reset.wr (DS_CFG.MODE 0) 3)).modPipe 0 fun x => { x with commit := none, adaptive := true }).wr (DS_CFG.LOWREF_EN 0) 1).wr (DS_LOWREF.N 0) 0); let d : Fin 4 := 0; let n : Fin 65536 := 0; let u := s.setBlank d n false; (s.dsMode d = 3 ∨ s.dsMode d = 4) ∧ (s.oddOfPair d = false) ∧ ((u.pipe d).commit = none) ∧ (u.dsMode d = 3) ∧ (u.rd (DS_CFG.LOWREF_EN d) ≠ 0) ∧ ((u.pipe d).adaptive = true) ∧ (u.rd (DS_LOWREF.N d) ≤ (u.pipe d).quietFrames) ∧ (u.rd (DS_STAT.LOW d) = 0)) ∧
    (let s : State := (State.reset.modPipe 0 fun x => { x with blank := none }); let d : Fin 4 := 0; ((s.pipe d).blank = none)) ∧
    (let s : State := (State.reset.modPipe 0 fun x => { x with blank := some (0, true) }); let d : Fin 4 := 0; let n : Nat := 0; ((s.pipe d).blank = some (n, true))) ∧
    (let s : State := (State.reset.wr (DS_STAT.STATE 0) 3); let d : Fin 4 := 0; (s.rd (DS_STAT.STATE d) = 3)) ∧
    (let s : State := (State.reset.wr (DS_STAT.STATE 0) 0); let d : Fin 4 := 0; (s.rd (DS_STAT.STATE d) ≠ 3)) ∧
    (let s : State := ((((State.reset.wr (DS_STAT.STATE 0) 2).wr (DS_CFG.MODE 0) 3).modPipe 0 fun x => { x with damage := false }).modPipe 0 fun x => { x with committed := false }); let d : Fin 4 := 0; (s.dsMode d = 3 ∨ s.dsMode d = 4)) ∧
    (let s : State := (State.reset.wr (DS_CFG.MODE 0) 3); let d : Fin 4 := 0; let e := ([] : List (List Byte)); (s.dsMode d = 3 ∨ s.dsMode d = 4) ∧ ((s.pipe d).panelEdid = e)) ∧
    (let s : State := (State.reset.wr (DS_CFG.MODE 0) 3); let d : Fin 4 := 0; let e := ([[]] : List (List Byte)); (s.dsMode d = 3 ∨ s.dsMode d = 4) ∧ ((s.pipe d).panelEdid ≠ e)) ∧
    (let s : State := ({ State.reset with test := { State.reset.test with under := some 9 } } : State); let d : Fin 4 := 0; (s.underTest 16 d = true)) ∧
    (let s : State := ((State.reset.wr (DS_CFG.MODE 0) 3).wr (DS_PCLK.KHZ 0) 1000); let d : Fin 4 := 0; let r : Fin 8 := 0; let l : Fin 5 := 0; let m : Fin 385 := 0; let k : Bool := false; let n : Fin 65536 := 0; let w := ((s.wr (DS_STAT.RATE d) r).wr (DS_STAT.LANES d) l).modPipe d fun x => { x with adaptive := k, panelMin := n, dscMax := m, trained := false }; let u := (w.wr (DS_STAT.DSC d) (decide (m.val ≠ 0) && w.on (DS_DSC.ENC d)).toNat).wr (DS_STAT.HPD d) 1; (s.underTest 16 d = false) ∧ (s.dsMode d = 3 ∨ s.dsMode d = 4) ∧ (u.dpRate d (u.rd (DS_STAT.RATE d)) (u.rd (DS_STAT.LANES d)) = none)) ∧
    (let s : State := ((State.reset.wr (DS_CFG.MODE 0) 3).wr (DS_PCLK.KHZ 0) 0); let d : Fin 4 := 0; let r : Fin 8 := 0; let l : Fin 5 := 0; let m : Fin 385 := 0; let k : Bool := false; let n : Fin 65536 := 0; let w := ((s.wr (DS_STAT.RATE d) r).wr (DS_STAT.LANES d) l).modPipe d fun x => { x with adaptive := k, panelMin := n, dscMax := m, trained := false }; let u := (w.wr (DS_STAT.DSC d) (decide (m.val ≠ 0) && w.on (DS_DSC.ENC d)).toNat).wr (DS_STAT.HPD d) 1; let b := 480; (s.underTest 16 d = false) ∧ (s.dsMode d = 3 ∨ s.dsMode d = 4) ∧ (u.dpRate d (u.rd (DS_STAT.RATE d)) (u.rd (DS_STAT.LANES d)) = some b)) ∧
    (let s : State := State.reset; let d : Fin 4 := 0; let f : DispFormat := {}; (s.dsMode d ≠ 4 ∨ s.mcReady = false ∨ formatOk f = false)) ∧
    (let s : State := ((State.reset.wr (DS_CFG.MODE 0) 4).wr MC_STAT.READY 1); let d : Fin 4 := 0; let f : DispFormat := ({ fmt := 0, width := 1, height := 1 } : DispFormat); let l : List (List Byte) := []; let w := (s.storeFrame d 0 l).modPipe d fun x => { x with format := some f, live := [], valid := List.range l.length }; let u := if f.comp then w.wr (DS_STAT.DSC d) 1 else w; let v := (u.send (.bus 3 d 3 (be 1 (u.rd (DS_TILE_CFG.RELAY_LINES d))))).wrapAdd (DS_FRAME.FRAME d) 1; (s.dsMode d = 4) ∧ (s.mcReady = true) ∧ (formatOk f = true) ∧ ((v.pipe d).trained = false)) ∧
    (let s : State := (((State.reset.wr (DS_CFG.MODE 0) 4).wr MC_STAT.READY 1).modPipe 0 fun x => { x with trained := true }); let d : Fin 4 := 0; let f : DispFormat := ({ fmt := 0, width := 1, height := 1 } : DispFormat); let l : List (List Byte) := []; let w := (s.storeFrame d 0 l).modPipe d fun x => { x with format := some f, live := [], valid := List.range l.length }; let u := if f.comp then w.wr (DS_STAT.DSC d) 1 else w; let v := (u.send (.bus 3 d 3 (be 1 (u.rd (DS_TILE_CFG.RELAY_LINES d))))).wrapAdd (DS_FRAME.FRAME d) 1; (s.dsMode d = 4) ∧ (s.mcReady = true) ∧ (formatOk f = true) ∧ ((v.pipe d).trained = true)) ∧
    (let s : State := ((State.reset.wr (DS_CFG.MODE 0) 4).wr (DS_STAT.STATE 0) 3); let d : Fin 4 := 0; (s.dsMode d = 4) ∧ (s.rd (DS_STAT.STATE d) = 3)) ∧
    (let s : State := (State.reset.wr (DS_CFG.HDCP_EN 0) 0); let d : Fin 4 := 0; (s.rd (DS_CFG.HDCP_EN d) = 0)) ∧
    (let s : State := (State.reset.wr (DS_CFG.HDCP_EN 0) 1); let d : Fin 4 := 0; (s.rd (DS_CFG.HDCP_EN d) ≠ 0)) ∧
    (let s : State := (State.reset.wr MC_CFG.CH_EN 15); let n : Fin 16 := 1; (Nat.land n.val (s.rd MC_CFG.CH_EN) ≠ 0)) ∧
    (let s : State := State.reset; let n : Fin 16 := 0; (Nat.land n.val (s.rd MC_CFG.CH_EN) = 0) ∧ (s.mcReady = false) ∧ (∀ d < 4, s.dsMode d = 0 ∧ s.rd (DS_STAT.STATE d) ≠ 4)) := by
  and_intros <;> decide +kernel

theorem witness_UsbUpstreamPortsAndHub :
    (let s : State := State.reset; let src : Fin 4 := 0; (s.upAllowed src = false ∨ s.underTest 19 0 = true)) ∧
    (let s : State := (((State.reset.wr UH_CFG.EN 1).wr GC_IMG_INFO.ROLE 1).wr UH_STAT.UPSRC 0); let src : Fin 4 := 3; (s.upAllowed src = true) ∧ (s.underTest 19 0 = false) ∧ (s.rd UH_STAT.UPSRC = 0)) ∧
    (let s : State := (((((State.reset.wr UH_CFG.EN 1).wr UH_UP.UP3_ADP 1).wr (TA_STAT.OPEN 1) 1).wr UH_STAT.UPSRC 1)); let src : Fin 4 := 1; (s.upAllowed src = true) ∧ (s.underTest 19 0 = false) ∧ (s.rd UH_STAT.UPSRC = src) ∧ (src ≠ 0)) ∧
    (let s : State := (((State.reset.wr UH_CFG.EN 1).wr GC_IMG_INFO.ROLE 1).wr UH_STAT.UPSRC 1); let src : Fin 4 := 3; (s.upAllowed src = true) ∧ (s.underTest 19 0 = false) ∧ (s.rd UH_STAT.UPSRC ≠ 0) ∧ (s.rd UH_STAT.UPSRC ≠ src) ∧ (src ≠ 1)) ∧
    (let s : State := ((((State.reset.wr UH_CFG.EN 1).wr UH_UP.UP3_ADP 1).wr (TA_STAT.OPEN 1) 1).wr UH_STAT.UPSRC 2); let src : Fin 4 := 1; (s.upAllowed src = true) ∧ (s.underTest 19 0 = false) ∧ (s.rd UH_STAT.UPSRC ≠ 0) ∧ (s.rd UH_STAT.UPSRC ≠ 1) ∧ (src = 1)) ∧
    (let s : State := State.reset; let a : Fin 256 := 1; (s.tportOf a = none) ∧ (a.val ≠ s.up3)) ∧
    (let s : State := State.reset; let a : Fin 256 := 1; (s.tportOf a = none) ∧ (a.val ≠ s.up2)) ∧
    (let s : State := (State.reset.wr (UH_TPORT.ADP3 0) 1); let a : Fin 256 := 1; let k : Nat := 0; (s.tportOf a = some k)) ∧
    (let s : State := ((State.reset.wr UH_STAT.UPSRC 0).wr UH_UP.UP3_ADP 1); let a : Fin 256 := 1; (s.tportOf a = none) ∧ (a.val ≠ 0) ∧ (s.rd UH_STAT.UPSRC = 0 ∨ s.rd UH_STAT.UPSRC = 1) ∧ (a.val = s.up3)) ∧
    (let s : State := ((State.reset.wr UH_STAT.UPSRC 0).wr UH_UP.UP2_ADP 1); let a : Fin 256 := 1; (s.tportOf a = none) ∧ (a.val ≠ 0) ∧ (s.rd UH_STAT.UPSRC = 0 ∨ s.rd UH_STAT.UPSRC = 1) ∧ (a.val = s.up2)) ∧
    (let s : State := ((State.reset.wr (UH_PORT.POWER 1) 1).wr (UH_PORT.CONNECT 1) 0); let n : Fin 12 := 1; (s.rd (UH_PORT.POWER n) ≠ 0) ∧ (s.rd (UH_PORT.CONNECT n) = 0) ∧ (1 ≤ n.val) ∧ (n.val ≤ 4)) ∧
    (let s : State := (State.reset.wr (UH_PORT.POWER 0) 0); let n : Fin 12 := 0; (s.rd (UH_PORT.POWER n) = 0 ∨ s.rd (UH_PORT.CONNECT n) ≠ 0)) ∧
    (let s : State := ((State.reset.wr (UH_PORT.POWER 1) 1).wr (UH_PORT.CONNECT 1) 0); let n : Fin 5 := 1; (1 ≤ n.val) ∧ (s.rd (UH_PORT.POWER n) ≠ 0)) ∧
    (let s : State := (((State.reset.wr UH_CFG.EN 1).wr GC_IMG_INFO.ROLE 1).wr UH_STAT.UPSRC 1); (s.rd UH_STAT.UPSRC ≠ 0)) ∧
    (let s : State := (((State.reset.wr UH_CFG.EN 1).wr GC_IMG_INFO.ROLE 1).wr UH_STAT.UPSRC 0); (s.rd UH_STAT.UPSRC = 0)) ∧
    (let s : State := (State.reset.modUsb fun u => { u with driven := [(0, 1)] }); let n : Fin 12 := 0; (s.driven n = 1 ∨ s.driven n = 2)) ∧
    (let s : State := (State.reset.modUsb fun u => { u with driven := [(0, 3)] }); let n : Fin 12 := 0; (s.driven n = 3 ∨ s.driven n = 4)) ∧
    (let s : State := ((({ State.reset with usb := { State.reset.usb with resuming := false } } : State).wr UH_STAT.SUSPENDED 0).wr (UH_PORT.SUSPEND 0) 1); let n : Fin 12 := 0; (s.driven n = 0) ∧ (s.usb.resuming = false) ∧ (s.rd UH_STAT.SUSPENDED = 0) ∧ (s.rd (UH_PORT.SUSPEND n) ≠ 0)) ∧
    (let s : State := ((({ State.reset with usb := { State.reset.usb with resuming := false } } : State).wr UH_STAT.SUSPENDED 0).wr (UH_PORT.SUSPEND 0) 1); (s.rd UH_STAT.SUSPENDED = 0)) ∧
    (let s : State := (State.reset.wr UH_STAT.SUSPENDED 1); (s.rd UH_STAT.SUSPENDED ≠ 0)) ∧
    (let s : State := (State.reset.wr UH_STAT.HS_STATE 3); let n : Fin 12 := 1; (n.val ≠ 0) ∧ (s.rd UH_STAT.HS_STATE = 3)) ∧
    (let s : State := (State.reset.wr (UH_PORT.CONNECT 1) 1); let n : Fin 12 := 1; (1 ≤ n.val) ∧ (n.val < 5) ∧ (s.rd (UH_PORT.CONNECT n) ≠ 0)) ∧
    (let s : State := (State.reset.wr (UH_PORT.CONNECT 5) 1); let n : Fin 12 := 5; (n.val = 5) ∧ (s.rd (UH_PORT.CONNECT n) ≠ 0)) ∧
    (let s : State := (State.reset.wr UH_STAT.UPSRC 1); let d : Fin 3 := 0; let ty : Fin 256 := 1; let ix : Fin 256 := 0; let l := deviceDesc 0x0201 9 0 2 64 (State.reset.rd UH_ID.VID) (State.reset.rd UH_ID.HUB_PID) 0 0 0; (s.rd UH_STAT.UPSRC ≠ 0) ∧ (d.val ≠ 2) ∧ (s.usbDescriptor (usbDevice d) ty ix = some l)) ∧
    (let s : State := (((State.reset.wr UH_CFG.EN 1).wr GC_IMG_INFO.ROLE 1).wr UH_STAT.UPSRC 1); let d : Fin 3 := 0; let ty : Fin 256 := 0; let ix : Fin 256 := 0; (s.rd UH_STAT.UPSRC ≠ 0) ∧ (d.val ≠ 2) ∧ (s.usbDescriptor (usbDevice d) ty ix = none)) ∧
    (let s : State := ((State.reset.wr (UH_PORT.POWER 1) 1).wr (UH_PORT.CONNECT 1) 0); let n : Fin 12 := 1; (s.rd (UH_PORT.CONNECT n) = 0)) ∧
    (let s : State := (State.reset.modUsb fun u => { u with driven := [(0, 1)] }); let n : Fin 12 := 0; (n.val < 6) ∧ (s.driven n = 1)) ∧
    (let s : State := (State.reset.modUsb fun u => { u with driven := [(6, 1)] }); let n : Fin 12 := 6; (6 ≤ n.val) ∧ (s.driven n = 1 ∨ s.driven n = 2)) ∧
    (let s : State := ({ ({ State.reset with usb := { State.reset.usb with control := none } } : State) with usb := { (({ State.reset with usb := { State.reset.usb with control := none } } : State)).usb with bulk := [] } } : State); (s.usb.control = none) ∧ (s.usb.bulk = [])) ∧
    (let s : State := ({ State.reset with usb := { State.reset.usb with control := some (1, []) } } : State); let n := 1; let l := []; (s.usb.control = some (n, l)) ∧ (l.length < n)) := by
  and_intros <;> decide +kernel

theorem witness_UsbPacketsAndTheProxy :
    (let s : State := State.reset; let a : Fin 256 := 0; (s.usbPortOf a = none)) ∧
    (let s : State := (State.reset.wr UH_UP.UP3_ADP 1); let a : Fin 256 := 1; let n : Nat := 0; (s.usbPortOf a = some n)) ∧
    (let s : State := (State.reset.wr UH_UP.UP3_ADP 1); let a : Fin 256 := 1; (a.val ≠ 0) ∧ (a.val = s.up3)) ∧
    (let s : State := ({ State.reset with usb := { State.reset.usb with itps := [] } } : State); (s.usb.itps = [])) ∧
    (let s : State := ({ State.reset with usb := { State.reset.usb with itps := (0, []) :: [] } } : State); let t : Nat := 0; let l : List Byte := []; let rest : List (Nat × List Byte) := []; (s.usb.itps = (t, l) :: rest)) ∧
    (let s : State := State.reset; (s.up2 = 0)) ∧
    (let s : State := (State.reset.wr UH_UP.UP2_ADP 1); (s.up2 ≠ 0)) ∧
    (let s : State := ({ State.reset with usb := { State.reset.usb with sofs := [] } } : State); (s.usb.sofs = [])) ∧
    (let s : State := (State.reset.modUsb fun u => { u with sofs := [(0, 0, 0)], sofLast := some (0, 0, 0) }); let f : Nat := 0; let m : Nat := 0; let t : Nat := 0; let t' : Nat := 0; let rest : List (Nat × Nat × Nat) := []; (s.usb.sofs = (f, m, t) :: rest) ∧ (s.usb.sofLast = some (f, m, t'))) ∧
    (let s : State := ({ ({ State.reset with usb := { State.reset.usb with sofs := (0, 0, 0) :: [] } } : State) with usb := { (({ State.reset with usb := { State.reset.usb with sofs := (0, 0, 0) :: [] } } : State)).usb with sofLast := none } } : State); let f : Nat := 0; let m : Nat := 0; let t : Nat := 0; let rest : List (Nat × Nat × Nat) := []; (s.usb.sofs = (f, m, t) :: rest) ∧ (s.usb.sofLast = none)) ∧
    (let s : State := ({ ({ State.reset with usb := { State.reset.usb with sofs := (0, 0, 0) :: [] } } : State) with usb := { (({ State.reset with usb := { State.reset.usb with sofs := (0, 0, 0) :: [] } } : State)).usb with sofLast := none } } : State); (s.usb.sofLast = none)) ∧
    (let s : State := ({ State.reset with usb := { State.reset.usb with sofLast := some (0, 0, 0) } } : State); let f : Nat := 0; let m : Nat := 0; let t : Nat := 0; (s.usb.sofLast = some (f, m, t))) ∧
    (let s : State := (State.reset.wr (UH_PORT.ENABLE (6 + 0)) 0); let k : Fin 6 := 0; (s.rd (UH_PORT.ENABLE (6 + k)) = 0)) ∧
    (let s : State := (State.reset.wr (UH_PORT.ENABLE (6 + 0)) 1); let k : Fin 6 := 0; (s.rd (UH_PORT.ENABLE (6 + k)) ≠ 0)) ∧
    (let s : State := (State.reset.wr (UH_PORT.ENABLE (6 + 0)) 1); let k : Fin 6 := 0; let a : Fin 128 := 0; let e : Fin 16 := 0; (s.rd (UH_PORT.ENABLE (6 + k)) ≠ 0) ∧ ((s.tport k).find a e false = none)) ∧
    (let s : State := ((State.reset.wr (UH_PORT.ENABLE (6 + 0)) 1).modTport 0 fun t => { t with cache := [{ addr := 0, ep := 0, isIn := true, toggle := false, pending := true }] }); let k : Fin 6 := 0; let a : Fin 128 := 0; let e : Fin 16 := 0; let g : Bool := false; let x : ProxyEntry := { addr := 0, ep := 0, isIn := true, toggle := false, pending := true }; (s.rd (UH_PORT.ENABLE (6 + k)) ≠ 0) ∧ ((s.tport k).find a e true = some x) ∧ (x.result = none) ∧ (x.pending = true) ∧ (x.toggle = g)) ∧
    (let s : State := ((State.reset.wr (UH_PORT.ENABLE (6 + 0)) 1).modTport 0 fun t => { t with cache := [{ addr := 0, ep := 0, isIn := true, toggle := false, result := some (pidAck, false, []) }] }); let k : Fin 6 := 0; let a : Fin 128 := 0; let e : Fin 16 := 0; let g : Bool := false; let tg : Bool := false; let x : ProxyEntry := { addr := 0, ep := 0, isIn := true, toggle := false, result := some (pidAck, false, []) }; let d : List Byte := []; (s.rd (UH_PORT.ENABLE (6 + k)) ≠ 0) ∧ ((s.tport k).find a e true = some x) ∧ (x.result = some (pidAck, tg, d)) ∧ (x.toggle = g)) := by
  and_intros <;> decide +kernel

theorem witness_PdAttachContractsAndFaults :
    (let s : State := (State.reset.wr (PD_STAT.ATTACHED 0) 1); let p : Fin 6 := 0; (s.attached p = true)) ∧
    (let s : State := ((({ State.reset with clk := { State.reset.clk with phase := .active } } : State).wr (PD_STAT.ATTACHED 0) 0).wr (PD_CFG.ROLE 0) 0); let p : Fin 6 := 0; (s.tablesActive = true) ∧ (s.attached p = false) ∧ (s.pstate p ≠ 10) ∧ (s.channelReady p = true) ∧ (s.rd (PD_CFG.ROLE p) ≠ 1)) ∧
    (let s : State := ((((State.reset.wr (PD_STAT.ATTACHED 0) 1).wr (PD_STAT.PWR_ROLE 0) 1).wr (PD_STAT.CONTRACT 0) 0).wr (PD_STAT.PSTATE 0) 3); let p : Fin 6 := 0; (s.attached p = true) ∧ (s.isSource p = true) ∧ (s.contract p = false) ∧ (s.pstate p = 3) ∧ ((s.pd p).capsSent < 51)) ∧
    (let s : State := (((((State.reset.wr (PD_STAT.ATTACHED 0) 1).wr (PD_STAT.PWR_ROLE 0) 1).wr (PD_STAT.CONTRACT 0) 0).wr (PD_STAT.PSTATE 0) 3).modPd 0 fun x => { x with capsSent := 51 }); let p : Fin 6 := 0; (s.attached p = true) ∧ (s.isSource p = true) ∧ (s.contract p = false) ∧ (s.pstate p = 3) ∧ (51 ≤ (s.pd p).capsSent)) ∧
    (let s : State := ((({ State.reset with clk := { State.reset.clk with phase := .active } } : State).wr (PD_STAT.ATTACHED 0) 0).wr (PD_CFG.ROLE 0) 0); let p : Fin 6 := 0; (s.attached p = false)) ∧
    (let s : State := ((State.reset.wr (PD_STAT.ATTACHED 0) 1).wr (PD_STAT.PWR_ROLE 0) 0); let p : Fin 6 := 0; (s.attached p = true) ∧ (s.isSource p = false)) ∧
    (let s : State := (((State.reset.wr (PD_STAT.ATTACHED 0) 1).wr (PD_STAT.PWR_ROLE 0) 1).modPd 0 fun x => { x with offered := [(1, 0)] }); let p : Fin 6 := 0; let pos : Fin 16 := 1; let v : Fin 4096 := 0; let c : Fin 1024 := 0; let w := 0; let v' := 0; let i := 0; let pps := false; (s.attached p = true) ∧ (s.isSource p = true) ∧ (s.contract p = false) ∧ (((s.pd p).offered.find? fun o => decide (o.1 = pos.val)) = some (pos.val, w)) ∧ (requestFits w v c = some (v', i, pps))) ∧
    (let s : State := ((((State.reset.wr (PD_STAT.ATTACHED 0) 1).wr (PD_STAT.PWR_ROLE 0) 1).wr (PD_STAT.CONTRACT 0) 0).modPd 0 fun x => { x with offered := [(0, 0)] }); let p : Fin 6 := 0; let pos : Fin 16 := 0; let v : Fin 4096 := 0; let c : Fin 1024 := 1; let w := 0; (s.attached p = true) ∧ (s.isSource p = true) ∧ (s.contract p = false) ∧ (((s.pd p).offered.find? fun o => decide (o.1 = pos.val)) = some (pos.val, w)) ∧ (requestFits w v c = none)) ∧
    (let s : State := ((((((State.reset.wr (PD_STAT.ATTACHED 0) 1).modPd 0 fun x => { x with frs := 0 }).modPd 0 fun x => { x with swap := none }).modPd 0 fun x => { x with next := some (0, 0, 0, false) }).wr (PD_STAT.PWR_ROLE 0) 1).wr (PD_STAT.PSTATE 0) 5); let p : Fin 6 := 0; let v : Nat := 0; let i : Nat := 0; let pos : Nat := 0; let k : Bool := false; (s.attached p = true) ∧ ((s.pd p).frs = 0) ∧ ((s.pd p).swap = none) ∧ ((s.pd p).next = some (v, i, pos, k)) ∧ (s.isSource p = true) ∧ (s.pstate p = 5)) ∧
    (let s : State := (((((State.reset.wr (PD_STAT.ATTACHED 0) 1).modPd 0 fun x => { x with frs := 0 }).modPd 0 fun x => { x with swap := none }).modPd 0 fun x => { x with next := some (0, 0, 0, false) }).wr (PD_STAT.PWR_ROLE 0) 0); let p : Fin 6 := 0; let v : Nat := 0; let i : Nat := 0; let pos : Nat := 0; let k : Bool := false; (s.attached p = true) ∧ ((s.pd p).frs = 0) ∧ ((s.pd p).swap = none) ∧ ((s.pd p).next = some (v, i, pos, k)) ∧ (s.isSource p = false)) ∧
    (let s : State := ((((State.reset.wr (PD_STAT.ATTACHED 0) 1).wr (PD_STAT.PWR_ROLE 0) 1).wr (PD_STAT.CONTRACT 0) 0).wr (PD_STAT.PSTATE 0) 3); let p : Fin 6 := 0; (s.attached p = true) ∧ (s.isSource p = true)) ∧
    (let s : State := ((State.reset.wr (PD_STAT.PPS 0) 1).wr (PD_STAT.PWR_ROLE 0) 1); let p : Fin 6 := 0; (s.rd (PD_STAT.PPS p) ≠ 0) ∧ (s.isSource p = true)) ∧
    (let s : State := ((State.reset.wr (PD_STAT.PPS 0) 1).wr (PD_STAT.PWR_ROLE 0) 0); let p : Fin 6 := 0; (s.rd (PD_STAT.PPS p) ≠ 0) ∧ (s.isSource p = false)) ∧
    (let s : State := (((State.reset.wr (PD_STAT.ATTACHED 0) 1).wr (PD_STAT.PWR_ROLE 0) 1).wr (PD_STAT.PPS 0) 1); let p : Fin 6 := 0; (s.attached p = true) ∧ (s.isSource p = true) ∧ (s.rd (PD_STAT.PPS p) ≠ 0)) ∧
    (let s : State := (((State.reset.wr (PD_STAT.ATTACHED 0) 1).wr (PD_STAT.PWR_ROLE 0) 1).wr (PD_STAT.PPS 0) 0); let p : Fin 6 := 0; (s.attached p = true) ∧ (s.isSource p = true) ∧ (s.rd (PD_STAT.PPS p) = 0)) ∧
    (let s : State := ((State.reset.wr (PD_STAT.ATTACHED 0) 1).wr (PD_CFG.EPR_EN 0) 0); let p : Fin 6 := 0; (s.attached p = true) ∧ (s.rd (PD_CFG.EPR_EN p) = 0)) ∧
    (let s : State := ((((((((State.reset.wr (PD_STAT.ATTACHED 0) 1).wr (PD_STAT.PWR_ROLE 0) 1).wr (PD_STAT.CONTRACT 0) 1).wr (PD_CFG.EPR_EN 0) 1).wr (PD_ALLOC.ALLOC 0) 300).wr (PD_EPR_PDO.PDO 0 0) 573940).modPd 0 fun x => { x with cableEpr := true, amps5 := true, eprPartner := true, rev2 := false, frs := 0 })); let p : Fin 6 := 0; (s.attached p = true) ∧ (s.isSource p = true) ∧ (s.contract p = true) ∧ (s.rd (PD_CFG.EPR_EN p) ≠ 0) ∧ ((s.pd p).cableEpr = true) ∧ ((s.pd p).amps5 = true) ∧ ((s.pd p).eprPartner = true) ∧ ((s.pd p).rev2 = false) ∧ ((s.pd p).frs = 0) ∧ (s.eprOffer p ≠ [])) ∧
    (let s : State := ((State.reset.wr (PD_STAT.ATTACHED 0) 1).modPd 0 fun x => { x with asked := some .eprEnter }); let p : Fin 6 := 0; (s.attached p = true) ∧ ((s.pd p).asked = some .eprEnter)) ∧
    (let s : State := ((State.reset.wr (PD_STAT.EPR 0) 1).wr (PD_STAT.PWR_ROLE 0) 1); let p : Fin 6 := 0; (s.rd (PD_STAT.EPR p) ≠ 0) ∧ (s.isSource p = true)) ∧
    (let s : State := ((State.reset.wr (PD_STAT.EPR 0) 1).wr (PD_STAT.PWR_ROLE 0) 0); let p : Fin 6 := 0; (s.rd (PD_STAT.EPR p) ≠ 0) ∧ (s.isSource p = false)) ∧
    (let s : State := (State.reset.modPd 0 fun x => { x with cut := true }); let p : Fin 6 := 0; ((s.pd p).cut = true)) ∧
    (let s : State := (State.reset.modPd 0 fun x => { x with cut := false }); let p : Fin 6 := 0; ((s.pd p).cut = false)) ∧
    (let s : State := ((State.reset.wr (PD_STAT.ATTACHED 0) 1).wr (PD_STAT.PWR_ROLE 0) 1); let p : Fin 6 := 0; let u := ((((s.raise (Ev.PD_HARD_RESET p)).endContract p).leaveMode p).finish (fun w => match w with | .pd q a => decide (q = p.val ∧ a ≠ 0) | _ => false) stAborted 0 []).modPd p fun x => { x with partnerTl := false, dropped := none, tries := 0, want := none, frsHeld := 0 }; (s.attached p = true) ∧ (u.isSource p = true)) ∧
    (let s : State := (State.reset.wr (PD_STAT.ATTACHED 0) 1); let p : Fin 6 := 0; let u := ((((s.raise (Ev.PD_HARD_RESET p)).endContract p).leaveMode p).finish (fun w => match w with | .pd q a => decide (q = p.val ∧ a ≠ 0) | _ => false) stAborted 0 []).modPd p fun x => { x with partnerTl := false, dropped := none, tries := 0, want := none, frsHeld := 0 }; (s.attached p = true) ∧ (u.isSource p = false)) ∧
    (let s : State := (((State.reset.wr (PD_STAT.PSTATE 0) 8).wr (PD_STAT.ATTACHED 0) 1).wr (PD_STAT.PWR_ROLE 0) 1); let p : Fin 6 := 0; (s.pstate p = 8) ∧ (s.attached p = true) ∧ (s.isSource p = true)) ∧
    (let s : State := (State.reset.wr (PD_STAT.VCONN 0) 1); let p : Fin 6 := 0; (s.rd (PD_STAT.VCONN p) ≠ 0)) ∧
    (let s : State := (((State.reset.wr (PD_STAT.ATTACHED 0) 1).wr (PD_STAT.CONTRACT 0) 1).modPd 0 fun x => { x with step := none }); let p : Fin 6 := 0; (s.attached p = true) ∧ (s.contract p = true) ∧ ((s.pd p).step = none)) ∧
    (let s : State := ((((State.reset.wr (PD_STAT.ATTACHED 0) 1).wr (PD_STAT.PWR_ROLE 0) 0).modPd 0 fun x => { x with step := none }).modPd 0 fun x => { x with frs := 0 }); let p : Fin 6 := 0; (s.attached p = true) ∧ (s.isSource p = false) ∧ ((s.pd p).step = none) ∧ ((s.pd p).frs = 0)) := by
  and_intros <;> decide +kernel

theorem witness_PdSwapsAndAnswers :
    (let s : State := (State.reset.wr (PD_STAT.CONTRACT 0) 0); let p : Fin 6 := 0; (s.contract p = false)) ∧
    (let s : State := ((((State.reset.wr (PD_STAT.ATTACHED 0) 1).wr (PD_STAT.PWR_ROLE 0) 1).wr (PD_STAT.CONTRACT 0) 1).modPd 0 fun x => { x with swap := some .prSwap }); let p : Fin 6 := 0; (s.attached p = true) ∧ (s.contract p = true) ∧ (s.mustWait p = true)) ∧
    (let s : State := ((((State.reset.wr (PD_STAT.ATTACHED 0) 1).wr (PD_STAT.PWR_ROLE 0) 1).wr (PD_STAT.CONTRACT 0) 1).modPd 0 fun x => { x with swap := some .prSwap }); let p : Fin 6 := 0; (s.attached p = true) ∧ (s.contract p = true) ∧ (s.mustWait p = true) ∧ (s.rd (PD_STAT.MODE p) = 0)) ∧
    (let s : State := ((((State.reset.wr (PD_STAT.ATTACHED 0) 1).wr (PD_STAT.PWR_ROLE 0) 1).wr (PD_STAT.CONTRACT 0) 1).modPd 0 fun x => { x with swap := some .prSwap }); let p : Fin 6 := 0; (s.mustWait p = true)) ∧
    (let s : State := (State.reset.modPd 0 fun x => { x with deferred := none }); let p : Fin 6 := 0; ((s.pd p).deferred = none)) ∧
    (let s : State := (State.reset.modPd 0 fun x => { x with deferred := some .prSwap }); let p : Fin 6 := 0; (s.mustWait p = false) ∧ ((s.pd p).deferred = some .prSwap)) ∧
    (let s : State := ((((State.reset.wr (PD_STAT.ATTACHED 0) 1).wr (PD_STAT.CONTRACT 0) 1).modPd 0 fun x => { x with asked := none }).wr (PD_CFG.ACC_PRS 0) 0); let p : Fin 6 := 0; (s.attached p = true) ∧ (s.contract p = true) ∧ ((s.pd p).asked = none) ∧ ((s.pd p).swap = none) ∧ (s.cfgOn p (PD_CFG.ACC_PRS p) = false)) ∧
    (let s : State := (((((State.reset.wr (PD_STAT.ATTACHED 0) 1).wr (PD_STAT.CONTRACT 0) 1).modPd 0 fun x => { x with asked := none }).wr (PD_CFG.ACC_PRS 0) 1).wr (PD_STAT.PWR_ROLE 0) 1); let p : Fin 6 := 0; (s.attached p = true) ∧ (s.contract p = true) ∧ ((s.pd p).asked = none) ∧ ((s.pd p).swap = none) ∧ (s.cfgOn p (PD_CFG.ACC_PRS p) = true) ∧ (s.isSource p = true)) ∧
    (let s : State := (((((State.reset.wr (PD_STAT.ATTACHED 0) 1).wr (PD_STAT.CONTRACT 0) 1).modPd 0 fun x => { x with asked := none }).wr (PD_CFG.ACC_PRS 0) 1).wr (PD_STAT.PWR_ROLE 0) 0); let p : Fin 6 := 0; (s.attached p = true) ∧ (s.contract p = true) ∧ ((s.pd p).asked = none) ∧ ((s.pd p).swap = none) ∧ (s.isSource p = false) ∧ (s.rd PDB_STAT.AVAIL < 5)) ∧
    (let s : State := ((((State.reset.wr (PD_STAT.ATTACHED 0) 1).wr (PD_STAT.CONTRACT 0) 1).modPd 0 fun x => { x with asked := none }).wr (PD_STAT.MODE 0) 1); let p : Fin 6 := 0; (s.attached p = true) ∧ (s.contract p = true) ∧ ((s.pd p).asked = none) ∧ ((s.pd p).swap = none) ∧ (s.rd (PD_STAT.MODE p) ≠ 0)) ∧
    (let s : State := (((((State.reset.wr (PD_STAT.ATTACHED 0) 1).wr (PD_STAT.CONTRACT 0) 1).modPd 0 fun x => { x with asked := none }).wr (PD_STAT.MODE 0) 0).wr (PD_CFG.ACC_DRS 0) 1); let p : Fin 6 := 0; (s.attached p = true) ∧ (s.contract p = true) ∧ ((s.pd p).asked = none) ∧ ((s.pd p).swap = none) ∧ (s.rd (PD_STAT.MODE p) = 0) ∧ (s.cfgOn p (PD_CFG.ACC_DRS p) = true)) ∧
    (let s : State := (((((State.reset.wr (PD_STAT.ATTACHED 0) 1).wr (PD_STAT.CONTRACT 0) 1).modPd 0 fun x => { x with asked := none }).wr (PD_STAT.MODE 0) 0).wr (PD_CFG.ACC_DRS 0) 0); let p : Fin 6 := 0; (s.attached p = true) ∧ (s.contract p = true) ∧ ((s.pd p).asked = none) ∧ ((s.pd p).swap = none) ∧ (s.rd (PD_STAT.MODE p) = 0) ∧ (s.cfgOn p (PD_CFG.ACC_DRS p) = false)) ∧
    (let s : State := ((((State.reset.wr (PD_STAT.ATTACHED 0) 1).wr (PD_STAT.PWR_ROLE 0) 1).wr (PD_STAT.CONTRACT 0) 1).modPd 0 fun x => { x with asked := none, swap := none, cfg := some 0 }); let p : Fin 6 := 0; (s.attached p = true) ∧ (s.contract p = true) ∧ ((s.pd p).asked = none) ∧ ((s.pd p).swap = none) ∧ (s.cfgOn p (PD_CFG.ACC_VCS p) = false)) ∧
    (let s : State := (((((State.reset.wr (PD_STAT.ATTACHED 0) 1).wr (PD_STAT.CONTRACT 0) 1).modPd 0 fun x => { x with asked := none }).wr (PD_CFG.ACC_VCS 0) 1).wr (PD_STAT.VCONN 0) 1); let p : Fin 6 := 0; (s.attached p = true) ∧ (s.contract p = true) ∧ ((s.pd p).asked = none) ∧ ((s.pd p).swap = none) ∧ (s.cfgOn p (PD_CFG.ACC_VCS p) = true) ∧ (s.rd (PD_STAT.VCONN p) ≠ 0)) ∧
    (let s : State := ((((State.reset.wr (PD_STAT.ATTACHED 0) 1).wr (PD_STAT.CONTRACT 0) 1).modPd 0 fun x => { x with asked := none }).wr (PD_CFG.ACC_PRS 0) 0); let p : Fin 6 := 0; (s.attached p = true) ∧ (s.contract p = true) ∧ ((s.pd p).asked = none) ∧ ((s.pd p).swap = none) ∧ (s.cfgOn p (PD_CFG.ACC_VCS p) = true) ∧ (s.rd (PD_STAT.VCONN p) = 0) ∧ ((s.pd p).vconnLost = false)) ∧
    (let s : State := (State.reset.modPd 0 fun x => { x with asked := some .prSwap }); let p : Fin 6 := 0; let m : PdMsg := .prSwap; ((s.pd p).asked = some m) ∧ (isSwap m = true) ∧ (s.isSource p = false) ∧ (s.pdCommanded p = false)) ∧
    (let s : State := (State.reset.modPd 0 fun x => { x with dropped := none }); let p : Fin 6 := 0; ((s.pd p).dropped = none)) ∧
    (let s : State := ((State.reset.modPd 0 fun x => { x with dropped := some (.vconnSwap, 0) }).wr (PD_STAT.CONTRACT 0) 1); let p : Fin 6 := 0; let n : Nat := 0; ((s.pd p).dropped = some (.vconnSwap, n)) ∧ (s.contract p = true) ∧ (n < 3)) ∧
    (let s : State := ((State.reset.modPd 0 fun x => { x with dropped := some (.vconnSwap, 3) }).wr (PD_STAT.CONTRACT 0) 1); let p : Fin 6 := 0; let n : Nat := 3; ((s.pd p).dropped = some (.vconnSwap, n)) ∧ (s.contract p = true) ∧ (3 ≤ n)) ∧
    (let s : State := (State.reset.modPd 0 fun x => { x with frs := 0 }); let p : Fin 6 := 0; ((s.pd p).frs = 0)) ∧
    (let s : State := (State.reset.modPd 0 fun x => { x with frs := 1 }); let p : Fin 6 := 0; ((s.pd p).frs = 1)) ∧
    (let s : State := (State.reset.modPd 0 fun x => { x with frs := 5 }); let p : Fin 6 := 0; ((s.pd p).frs = 5)) ∧
    (let s : State := State.reset; let p : Fin 6 := 0; (s.frsArmed p = false ∨ (s.pd p).frs ≠ 0)) ∧
    (let s : State := (((((((State.reset.modPd 0 fun x => { x with frs := 0 }).wr (PD_STAT.ATTACHED 0) 1).wr (PD_STAT.CONTRACT 0) 1).wr (PD_CFG.FRS_RX 0) 1).wr PDB_STAT.IN_VALID 1).wr PDB_STAT.AVAIL 100).modPd 0 fun x => { x with frsAsk := 1 }); let p : Fin 6 := 0; (s.frsArmed p = true) ∧ ((s.pd p).frs = 0)) ∧
    (let s : State := (State.reset.wr PDB_STAT.IN_VALID 0); (s.rd PDB_STAT.IN_VALID = 0)) ∧
    (let s : State := (State.reset.wr PDB_STAT.IN_VALID 1); (s.rd PDB_STAT.IN_VALID ≠ 0) ∧ (∀ p < 6, s.attached p = false) ∧ (∀ p < 6, s.pstate p ≠ 10)) ∧
    (let s : State := (State.reset.wr PDB_STAT.IN_VALID 1); (s.rd PDB_STAT.IN_VALID ≠ 0)) ∧
    (let s : State := (State.reset.wr PDB_STAT.IN_VALID 1); let p : Fin 6 := 0; (s.attached p = false)) ∧
    (let s : State := ((((State.reset.wr (PD_STAT.ATTACHED 0) 1).wr (PD_STAT.CONTRACT 0) 1).modPd 0 fun x => { x with asked := none }).wr (PD_CFG.ACC_PRS 0) 0); let p : Fin 6 := 0; (s.attached p = true) ∧ ((s.pd p).asked = none)) ∧
    (let s : State := ((((State.reset.wr (PD_STAT.ATTACHED 0) 1).modPd 0 fun x => { x with asked := some .request }).modPd 0 fun x => { x with next := some (0, 0, 0, false) }).wr (PD_STAT.CONTRACT 0) 0); let p : Fin 6 := 0; let v : Nat := 0; let i : Nat := 0; let pos : Nat := 0; let k : Bool := false; (s.attached p = true) ∧ ((s.pd p).asked = some .request) ∧ ((s.pd p).next = some (v, i, pos, k)) ∧ (s.contract p = false)) ∧
    (let s : State := ((State.reset.wr (PD_STAT.ATTACHED 0) 1).modPd 0 fun x => { x with asked := some .vconnSwap }); let p : Fin 6 := 0; (s.attached p = true) ∧ ((s.pd p).asked = some .vconnSwap)) ∧
    (let s : State := ((((State.reset.wr (PD_STAT.ATTACHED 0) 1).modPd 0 fun x => { x with frs := 0 }).modPd 0 fun x => { x with swap := none }).modPd 0 fun x => { x with asked := some .request }); let p : Fin 6 := 0; (s.attached p = true) ∧ ((s.pd p).frs = 0) ∧ ((s.pd p).swap = none) ∧ ((s.pd p).asked = some .request)) := by
  and_intros <;> decide +kernel

theorem witness_PdDiscoveryAndModes :
    (let s : State := (State.reset.wr (PD_STAT.ATTACHED 0) 0); let p : Fin 6 := 0; (s.attached p = false)) ∧
    (let s : State := (State.reset.wr (PD_STAT.ATTACHED 0) 1); let p : Fin 6 := 0; (s.attached p = true)) ∧
    (let s : State := ((((((State.reset.wr (PD_STAT.ATTACHED 0) 1).wr (PD_CFG.TL_EN 0) 1).wr (LN_CTRL.EN 0) 1).wr (LN_CTRL.EN 1) 1).modPd 0 fun x => { x with partnerTl := true }).setReg (PD_PARTNER_TL 0) 15#32); let p : Fin 6 := 0; let v : BitVec 32 := 15; let u := (s.setReg (PD_PARTNER_TL p) v).modPd p fun x => { x with partnerTl := true }; (s.attached p = true) ∧ (u.wouldEnter p = true)) ∧
    (let s : State := (State.reset.wr (PD_STAT.ATTACHED 0) 1); let p : Fin 6 := 0; let v : BitVec 32 := 0; let u := (s.setReg (PD_PARTNER_TL p) v).modPd p fun x => { x with partnerTl := true }; (s.attached p = true) ∧ (u.wouldEnter p = false)) ∧
    (let s : State := ((((((State.reset.wr (PD_STAT.ATTACHED 0) 1).wr (PD_CFG.TL_EN 0) 1).wr (LN_CTRL.EN 0) 1).wr (LN_CTRL.EN 1) 1).modPd 0 fun x => { x with partnerTl := true }).setReg (PD_PARTNER_TL 0) 15#32); let p : Fin 6 := 0; (s.attached p = true) ∧ (s.offersTl p = true)) ∧
    (let s : State := (State.reset.wr (PD_STAT.ATTACHED 0) 1); let p : Fin 6 := 0; (s.attached p = true) ∧ (s.offersTl p = false)) ∧
    (let s : State := ((((((((State.reset.wr (PD_STAT.ATTACHED 0) 1).wr (PD_STAT.MODE 0) 0).modPd 0 fun x => { x with asked := some .vdm }).wr (PD_CFG.TL_EN 0) 1).wr (LN_CTRL.EN 0) 1).wr (LN_CTRL.EN 1) 1).modPd 0 fun x => { x with partnerTl := true }).setReg (PD_PARTNER_TL 0) 15#32); let p : Fin 6 := 0; (s.attached p = true) ∧ (s.rd (PD_STAT.MODE p) = 0) ∧ ((s.pd p).asked = some .vdm) ∧ (s.wouldEnter p = true)) ∧
    (let s : State := ((State.reset.wr (PD_STAT.ATTACHED 0) 1).wr (PD_STAT.MODE 0) 0); let p : Fin 6 := 0; (s.attached p = true) ∧ (s.rd (PD_STAT.MODE p) = 0) ∧ ((s.pd p).asked ≠ some .vdm)) ∧
    (let s : State := ((((((((State.reset.wr (PD_STAT.ATTACHED 0) 1).wr (PD_STAT.MODE 0) 0).modPd 0 fun x => { x with asked := some .vdm }).wr (PD_CFG.TL_EN 0) 1).wr (LN_CTRL.EN 0) 1).wr (LN_CTRL.EN 1) 1).modPd 0 fun x => { x with partnerTl := true }).setReg (PD_PARTNER_TL 0) 15#32); let p : Fin 6 := 0; (s.attached p = true) ∧ (s.rd (PD_STAT.MODE p) = 0)) ∧
    (let s : State := (((State.reset.wr (PD_STAT.ATTACHED 0) 1).wr (PD_STAT.MODE 0) 0).wr (PD_CFG.TL_EN 0) 0); let p : Fin 6 := 0; (s.attached p = true) ∧ (s.rd (PD_STAT.MODE p) = 0) ∧ (s.cfgOn p (PD_CFG.TL_EN p) = false)) ∧
    (let s : State := ((((((((State.reset.wr (PD_STAT.ATTACHED 0) 1).wr (PD_STAT.MODE 0) 0).modPd 0 fun x => { x with asked := some .vdm }).wr (PD_CFG.TL_EN 0) 1).wr (LN_CTRL.EN 0) 1).wr (LN_CTRL.EN 1) 1).modPd 0 fun x => { x with partnerTl := true }).setReg (PD_PARTNER_TL 0) 15#32); let p : Fin 6 := 0; let v : BitVec 32 := 0; (s.attached p = true) ∧ (s.rd (PD_STAT.MODE p) = 0) ∧ ((s.setReg (PD_PARTNER_TL p) v).offersTl p = true) ∧ ((s.pd p).noTl = false)) ∧
    (let s : State := (((((State.reset.wr (PD_STAT.ATTACHED 0) 1).wr (PD_STAT.MODE 0) 0).wr (PD_CFG.DP_EN 0) 1).wr (DS_CFG.MODE 0) 4).wr (DS_CFG.SRC_PORT 0) 0); let p : Fin 6 := 0; (s.attached p = true) ∧ (s.rd (PD_STAT.MODE p) = 0) ∧ (s.offersDp p = true)) ∧
    (let s : State := ((State.reset.wr (PD_STAT.ATTACHED 0) 1).wr (PD_STAT.MODE 0) 0); let p : Fin 6 := 0; (s.attached p = true) ∧ (s.rd (PD_STAT.MODE p) = 0) ∧ (s.offersDp p = false)) ∧
    (let s : State := ((State.reset.wr (PD_STAT.ATTACHED 0) 1).wr (PD_STAT.MODE 0) 1); let p : Fin 6 := 0; (s.attached p = true) ∧ (s.rd (PD_STAT.MODE p) = 1)) ∧
    (let s : State := ((State.reset.wr (PD_STAT.ATTACHED 0) 1).wr (PD_STAT.MODE 0) 2); let p : Fin 6 := 0; (s.attached p = true) ∧ (s.rd (PD_STAT.MODE p) = 2)) ∧
    (let s : State := (State.reset.wr (PD_STAT.MODE 0) 0); let p : Fin 6 := 0; (s.rd (PD_STAT.MODE p) ≠ 2)) ∧
    (let s : State := (State.reset.wr (PD_STAT.MODE 1) 2); let p : Fin 6 := 1; (s.rd (PD_STAT.MODE p) = 2)) ∧
    (let s : State := (State.reset.wr (PD_STAT.MODE 1) 2); let p : Fin 6 := 1; (s.rd (PD_STAT.MODE p) = 2) ∧ (p ≠ 0)) ∧
    (let s : State := (State.reset.modLink 0 fun l => { l with exitWait := true }); let p : Fin 6 := 0; ((s.link p).exitWait = true)) ∧
    (let s : State := (State.reset.modLink 0 fun l => { l with exitWait := false }); let p : Fin 6 := 0; ((s.link p).exitWait = false)) ∧
    (let s : State := (State.reset.modPd 0 fun x => { x with fwWait := true }); let p : Fin 6 := 0; ((s.pd p).fwWait = true)) ∧
    (let s : State := (State.reset.modPd 0 fun x => { x with fwWait := false }); let p : Fin 6 := 0; ((s.pd p).fwWait = false)) := by
  and_intros <;> decide +kernel

theorem witness_BusAccessesOfTheMasters :
    ((let s : State := ((State.reset.setReg GC_CLKEN 0xFFFFFFFF#32).setReg PS_DOM 0xFFFFFFFF#32); let m : Master := .core 0; let a : BitVec 32 := 0x100000; let d : List Byte := [0,0,0,0]; (s.grants m .write a.toNat d.length) ∧ (0x100000 ≤ a.toNat) ∧ (a.toNat < 0x340000)) ∧
    (let s : State := ((State.reset.setReg GC_CLKEN 0xFFFFFFFF#32).setReg PS_DOM 0xFFFFFFFF#32); let m : Master := .core 0; let a : BitVec 32 := BitVec.ofNat 32 MC_CFG; let d : List Byte := [1,0,0,0]; let b : Block := (blockOf MC_CFG).get (by decide +kernel); let r : RegSpec := (regSpecAt MC_CFG).get (by decide +kernel); (s.grants m .write a.toNat d.length) ∧ (s.targetOf a.toNat = .reg b) ∧ (regSpecAt a.toNat = some r) ∧ (fixedReg a.toNat = false) ∧ (r.changesSt (s.reg a.toNat) (BitVec.ofNat 32 (ofLe d)) = true)) ∧
    (let s : State := State.reset; let u : State := State.reset; let m : Master := .core 0; let a : BitVec 32 := 0x340000; let d : List Byte := [0, 0, 0, 0]; let x : BusEnd := .unmapped; (s.busCheck m m.priv .write a.toNat d.length = (x, u)) ∧ (x ≠ .done)) ∧
    (let s : State := ((State.reset.setReg GC_CLKEN 0xFFFFFFFF#32).setReg PS_DOM 0xFFFFFFFF#32); let m : Master := .core 0; let a : BitVec 32 := BitVec.ofNat 32 PS_STALL; let b : Block := (blockOf PS_STALL).get (by decide +kernel); let r : RegSpec := (regSpecAt PS_STALL).get (by decide +kernel); let u := s.patRead b (b.inst a.toNat) a.toNat; (s.grants m .read a.toNat 4) ∧ (s.targetOf a.toNat = .reg b) ∧ (blockOf a.toNat = some b) ∧ (regSpecAt a.toNat = some r) ∧ (s.viewGlobal a.toNat = none) ∧ (¬ (b.gate = 20 ∧ a.toNat = EN_TXTS_HEAD (b.inst a.toNat))) ∧ (s.viewFree b (b.inst a.toNat) a.toNat = none) ∧ ((r.fields.any fun f => decide (f.access = .rc)) = true) ∧ (u.viewInst b (b.inst a.toNat) a.toNat = none)) ∧
    (let s : State := ((State.reset.setReg GC_CLKEN 0xFFFFFFFF#32).setReg PS_DOM 0xFFFFFFFF#32); let m : Master := .core 0; (s.grants m .read TM_NS 4)) ∧
    (let s : State := ((((State.reset.setReg GC_CLKEN 0xFFFFFFFF#32).setReg PS_DOM 0xFFFFFFFF#32).modMac 0 fun x => { x with stamps := [] })); let m : Master := .core 0; let i : Fin 2 := 0; (s.grants m .read (EN_TXTS_HEAD i) 4) ∧ ((s.mac i).stamps = [])) ∧
    (let s : State := (((State.reset.setReg GC_CLKEN 0xFFFFFFFF#32).setReg PS_DOM 0xFFFFFFFF#32).modMac 0 fun x => { x with stamps := [(1, 2, 3, 4, 5)] }); let m : Master := .core 0; let i : Fin 2 := 0; let msg := 1; let id := 2; let sec := 3; let ns := 4; let fr := 5; let rest := []; (s.grants m .read (EN_TXTS_HEAD i) 4) ∧ ((s.mac i).stamps = (msg, id, sec, ns, fr) :: rest))) ∧
    (let s : State := ((State.reset.setReg GC_CLKEN 0xFFFFFFFF#32).setReg PS_DOM 0xFFFFFFFF#32); let m : Master := .core 0; let a : BitVec 32 := BitVec.ofNat 32 (EF_MEAS 0); let b : Block := (blockOf (EF_MEAS 0)).get (by decide +kernel); let r : RegSpec := (regSpecAt (EF_MEAS 0)).get (by decide +kernel); let f : Word → Word := id; (s.grants m .read a.toNat 4) ∧ (s.targetOf a.toNat = .reg b) ∧ (blockOf a.toNat = some b) ∧ (regSpecAt a.toNat = some r) ∧ (s.viewGlobal a.toNat = none) ∧ (¬ (b.gate = 20 ∧ a.toNat = EN_TXTS_HEAD (b.inst a.toNat))) ∧ (s.viewFree b (b.inst a.toNat) a.toNat = some f)) :=
  ⟨by and_intros <;> decide +kernel,
    by refine ⟨?_, ?_, ?_, ?_, ?_, ?_, rfl⟩ <;> decide +kernel⟩

theorem witness_RowsThatWriteOneRegister :
    (let s : State := ((State.reset.setReg GC_CLKEN 0xFFFFFFFF#32).setReg PS_DOM 0xFFFFFFFF#32); let m : Master := .core 0; let n : Fin 24 := 0; (s.grants m .write (LN_CTRL n) 4)) ∧
    (let s : State := ((State.reset.setReg GC_CLKEN 0xFFFFFFFF#32).setReg PS_DOM 0xFFFFFFFF#32); let m : Master := .core 0; let n : Fin 24 := 0; (s.grants m .write (LN_ES_CTRL n) 4)) ∧
    (let s : State := ((State.reset.setReg GC_CLKEN 0xFFFFFFFF#32).setReg PS_DOM 0xFFFFFFFF#32); let m : Master := .core 0; let n : Fin 24 := 0; (s.grants m .write (LN_PAT_CTRL n) 4)) ∧
    (let s : State := ((State.reset.setReg GC_CLKEN 0xFFFFFFFF#32).setReg PS_DOM 0xFFFFFFFF#32); let m : Master := .core 0; let n : Fin 24 := 0; (s.grants m .write (LN_INJ_CTRL n) 4)) ∧
    (let s : State := ((State.reset.setReg GC_CLKEN 0xFFFFFFFF#32).setReg PS_DOM 0xFFFFFFFF#32); let m : Master := .core 0; (s.grants m .write SW_FAR_CTRL 4)) ∧
    (let s : State := ((State.reset.setReg GC_CLKEN 0xFFFFFFFF#32).setReg PS_DOM 0xFFFFFFFF#32); let m : Master := .core 0; let p : Fin 6 := 0; (s.grants m .write (AL_ARM p) 4)) ∧
    (let s : State := ((State.reset.setReg GC_CLKEN 0xFFFFFFFF#32).setReg PS_DOM 0xFFFFFFFF#32); let m : Master := .core 0; let d : Fin 4 := 0; (s.grants m .write (DS_PUSH_TAIL d) 4)) ∧
    (let s : State := ((State.reset.setReg GC_CLKEN 0xFFFFFFFF#32).setReg PS_DOM 0xFFFFFFFF#32); let m : Master := .core 0; (s.grants m .write TM_CMD 4)) ∧
    (let s : State := ((State.reset.setReg GC_CLKEN 0xFFFFFFFF#32).setReg PS_DOM 0xFFFFFFFF#32); let m : Master := .core 0; let n : Fin 8 := 0; (s.grants m .write (EF_CMD n) 4)) ∧
    (let s : State := ((State.reset.setReg GC_CLKEN 0xFFFFFFFF#32).setReg PS_DOM 0xFFFFFFFF#32); let m : Master := .core 0; (s.grants m .write GC_CLKEN 4)) ∧
    (let s : State := ((State.reset.setReg GC_CLKEN 0xFFFFFFFF#32).setReg PS_DOM 0xFFFFFFFF#32); let m : Master := .core 0; (s.grants m .write GC_RST 4)) ∧
    (let s : State := ((State.reset.setReg GC_CLKEN 0xFFFFFFFF#32).setReg PS_DOM 0xFFFFFFFF#32); let m : Master := .core 0; (s.grants m .write GC_WDT 4)) ∧
    (let s : State := ((State.reset.setReg GC_CLKEN 0xFFFFFFFF#32).setReg PS_DOM 0xFFFFFFFF#32); let m : Master := .core 0; (s.grants m .write PS_CTRL 4)) ∧
    (let s : State := ((State.reset.setReg GC_CLKEN 0xFFFFFFFF#32).setReg PS_DOM 0xFFFFFFFF#32); let m : Master := .core 0; (s.grants m .write KS_CTRL 4)) ∧
    (let s : State := ((State.reset.setReg GC_CLKEN 0xFFFFFFFF#32).setReg PS_DOM 0xFFFFFFFF#32); let m : Master := .core 0; (s.grants m .write BT_CTRL 4)) := by
  and_intros <;> decide +kernel

theorem witness_TransportsCarryFrames :
    (let f : List Byte := le 4 0 ++ be 2 0 ++ [1] ++ be 9 0; (16 ≤ f.length) ∧ (byteAt f 6 % 2 = 1)) ∧
    (let s : State := (State.reset.wr GC_CMD_CFG.A0_EN 1); let f : List Byte := []; (byteAt f 6 % 2 = 0) ∧ (s.rd GC_CMD_CFG.A0_EN ≠ 0)) ∧
    (let s : State := (State.reset.wr GC_CMD_CFG.A0_EN 0); let f : List Byte := []; (byteAt f 6 % 2 = 0) ∧ (s.rd GC_CMD_CFG.A0_EN = 0)) ∧
    (let s : State := ({ State.reset with cmd := { State.reset.cmd with usbReady := false } } : State); (s.cmd.usbReady = false)) ∧
    (let s : State := ({ State.reset with cmd := { State.reset.cmd with usbReady := true } } : State); let n : Fin 65536 := 1; let d : List Byte := []; (s.cmd.usbReady = true) ∧ (d.length < n.val)) ∧
    (let s : State := ({ State.reset with cmd := { State.reset.cmd with usbReady := true } } : State); let n : Fin 65536 := 16; let d : List Byte := be 16 0; (s.cmd.usbReady = true) ∧ (d.length = n.val) ∧ (n.val = 16 + leAt d 8 4)) ∧
    (let s : State := ({ State.reset with cmd := { State.reset.cmd with usbReady := true } } : State); let n : Fin 65536 := 0; let d : List Byte := []; (s.cmd.usbReady = true) ∧ (d.length = n.val) ∧ (n.val ≠ 16 + leAt d 8 4)) ∧
    (let s : State := ({ State.reset with cmd := { State.reset.cmd with usbReady := true } } : State); (s.cmd.usbReady = true)) ∧
    (let s : State := ({ State.reset with cmd := { State.reset.cmd with usbReady := true } } : State); let d : List Byte := []; let f := s.usb.bulk ++ d; let u := s.modUsb fun u => { u with bulk := [] }; (s.cmd.usbReady = true) ∧ (u.bulkAnswers f = false)) ∧
    (let s : State := ({ serving with cmd := { serving.cmd with usbReady := true } } : State); let d : List Byte := be 16 0; let f := s.usb.bulk ++ d; let u := s.modUsb fun u => { u with bulk := [] }; (s.cmd.usbReady = true) ∧ (u.bulkAnswers f = true)) ∧
    (let s : State := ({ ({ State.reset with cmd := { State.reset.cmd with usbReady := true } } : State) with cmd := { (({ State.reset with cmd := { State.reset.cmd with usbReady := true } } : State)).cmd with usbQueue := [] :: [] } } : State); let b : List Byte := []; let l : List (List Byte) := []; (s.cmd.usbReady = true) ∧ (s.cmd.usbQueue = b :: l)) ∧
    (let s : State := ({ ({ State.reset with cmd := { State.reset.cmd with usbReady := true } } : State) with cmd := { (({ State.reset with cmd := { State.reset.cmd with usbReady := true } } : State)).cmd with bulkResp := [] :: [] } } : State); let b : List Byte := []; let l : List (List Byte) := []; (s.cmd.usbReady = true) ∧ (s.cmd.bulkResp = b :: l)) ∧
    (let s : State := State.reset; let x : Fin 128 := 0; (s.smbMatch x = false)) ∧
    (let s : State := (serving.wr GC_CMD_CFG.SMB_PEC 1); let x : Fin 128 := ⟨0x60, by decide⟩; let u := s.wakeEvent 12 false; (s.smbMatch x = true) ∧ (u.on GC_CMD_CFG.SMB_PEC = true)) ∧
    (let s : State := (serving.wr GC_CMD_CFG.SMB_PEC 1); let x : Fin 128 := ⟨0x60, by decide⟩; (s.smbMatch x = true)) ∧
    (let s : State := serving; let x : Fin 128 := ⟨0x60, by decide⟩; let u := s.wakeEvent 12 false; (s.smbMatch x = true) ∧ (u.cmd.partial_ = [])) ∧
    (let s : State := ({ serving with cmd := { serving.cmd with partial_ := [0] } } : State); let x : Fin 128 := ⟨0x60, by decide⟩; let u := s.wakeEvent 12 false; (s.smbMatch x = true) ∧ (u.cmd.partial_ ≠ [])) ∧
    (let s : State := serving; let x : Fin 128 := ⟨0x60, by decide⟩; let u := s.wakeEvent 12 false; (s.smbMatch x = true) ∧ (u.cmd.reading = none) ∧ (u.cmd.unread = [])) ∧
    (let s : State := ({ serving with cmd := { serving.cmd with unread := [(1, [2])] } } : State); let x : Fin 128 := ⟨0x60, by decide⟩; let u := s.wakeEvent 12 false; let q : Nat := 1; let r : List Byte := [2]; let l : List (Nat × List Byte) := []; (s.smbMatch x = true) ∧ (u.cmd.reading = none) ∧ (u.cmd.unread = (q, r) :: l) ∧ (r.length ≤ 255)) ∧
    (let s : State := ({ serving with cmd := { serving.cmd with unread := [(1, be 256 0)] } } : State); let x : Fin 128 := ⟨0x60, by decide⟩; let u := s.wakeEvent 12 false; let q : Nat := 1; let r : List Byte := be 256 0; let l : List (Nat × List Byte) := []; (s.smbMatch x = true) ∧ (u.cmd.reading = none) ∧ (u.cmd.unread = (q, r) :: l) ∧ (255 < r.length)) ∧
    (let s : State := ({ serving with cmd := { serving.cmd with unread := [(1, [])] } } : State); (s.alertLow = true)) ∧
    (let s : State := State.reset; (s.alertLow = false)) ∧
    (let s : State := State.reset; let o : Owner := .usb; (∀ e ∈ s.cmd.entries, e.owner ≠ o)) ∧
    (let s : State := ({ State.reset with cmd := { State.reset.cmd with entries := [({ owner := .usb, op := 0, seq := 1, txn := 0, csv := 3, body := [], running := true, wait := .relay 0 [] } : CmdEntry)] } } : State); let o : Owner := .usb; let e : CmdEntry := ({ owner := .usb, op := 0, seq := 1, txn := 0, csv := 3, body := [], running := true, wait := .relay 0 [] } : CmdEntry); let h : Nat := 0; let f : List Byte := []; (s.cmd.entries = [e]) ∧ (e.running = true) ∧ (e.owner = o) ∧ (e.wait = .relay h f)) := by
  and_intros <;> decide +kernel

theorem witness_FramesAreCheckedInOrder :
    (let s : State := ({ serving with clk := { serving.clk with phase := .held } } : State); let o : Owner := .usb; (s.served o = false)) ∧
    (let s : State := serving; let o : Owner := .usb; let f : List Byte := []; let n : Nat := 0; (s.served o = true) ∧ (f.length ≤ n) ∧ (f.length < 16 ∨ f.length ≠ 16 + leAt f 8 4 ∨ byteAt f 6 % 2 = 1)) ∧
    (let s : State := serving; let o : Owner := .usb; let op : Nat := 0; let seq : Nat := 0; let txn : Nat := 0; let csv : Nat := 0; let body : List Byte := []; (op < 65536) ∧ (seq < 65536) ∧ (txn < 65536) ∧ (csv < 16) ∧ (body.length < 2 ^ 32) ∧ (s.served o = true) ∧ (16 + body.length ≤ rowLimit o) ∧ (s.inHand o seq = false) ∧ (s.cached o seq = none) ∧ (csv ≠ 2 ∧ csv ≠ 3 ∨ csv = 2 ∧ since3 op = true)) ∧
    (let s : State := ({ serving with cmd := { serving.cmd with entries := List.replicate 8 (cmdEntry .usb 0 0 0 3 []) } } : State); let o : Owner := .usb; let op : Nat := 0; let seq : Nat := 0; let txn : Nat := 0; let csv : Nat := 3; let body : List Byte := []; (op < 65536) ∧ (seq < 65536) ∧ (txn < 65536) ∧ (csv < 16) ∧ (body.length < 2 ^ 32) ∧ (s.served o = true) ∧ (16 + body.length ≤ rowLimit o) ∧ (s.inHand o seq = false) ∧ (s.cached o seq = none) ∧ (csv = 3) ∧ (8 ≤ (s.cmd.entries.filter fun x => decide (x.owner = o)).length)) ∧
    (let s : State := (({ serving with cmd := { serving.cmd with entries := [] } } : State).wr PS_STAT.WAKING 0); let o : Owner := .usb; let op : Nat := 2; let seq : Nat := 0; let txn : Nat := 0; let csv : Nat := 3; let body : List Byte := []; let e := cmdEntry o op seq txn csv body; let st := stInvalid; (op < 65536) ∧ (seq < 65536) ∧ (txn < 65536) ∧ (csv < 16) ∧ (body.length < 2 ^ 32) ∧ (s.served o = true) ∧ (16 + body.length ≤ rowLimit o) ∧ (s.inHand o seq = false) ∧ (s.cached o seq = none) ∧ (csv = 3) ∧ (s.cmd.entries = []) ∧ (s.rd PS_STAT.STATE < 2) ∧ (s.rd PS_STAT.WAKING = 0) ∧ (s.precheck e = some st)) ∧
    (let s : State := serving; let o : Owner := .usb; let op : Nat := 0; let seq : Nat := 0; let txn : Nat := 0; let csv : Nat := 3; let body : List Byte := []; let e := cmdEntry o op seq txn csv body; (op < 65536) ∧ (seq < 65536) ∧ (txn < 65536) ∧ (csv < 16) ∧ (body.length < 2 ^ 32) ∧ (s.served o = true) ∧ (16 + body.length ≤ rowLimit o) ∧ (s.inHand o seq = false) ∧ (s.cached o seq = none) ∧ (s.admits e)) := by
  and_intros <;> decide +kernel

theorem witness_CommandsOfSystemTransactionImage :
    (let s : State := serving; let o : Owner := .usb; let q : Fin 65536 := 0; let t : Fin 65536 := 0; let c : Fin 16 := 3; let e := cmdEntry o 0x0000 q t c ([]); (s.admits e)) ∧
    (let s : State := serving; let o : Owner := .usb; let q : Fin 65536 := 0; let t : Fin 65536 := 0; let c : Fin 16 := 3; let d : List Byte := []; let e := cmdEntry o 0x0001 q t c (d); (s.admits e)) ∧
    (let s : State := (serving.wr GC_IMG_STAT.STATE 1); let o : Owner := .usb; let q : Fin 65536 := 0; let t : Fin 65536 := 0; let c : Fin 16 := 3; let x : Fin 256 := 0; let y : Fin 256 := 1; let e := cmdEntry o 0x0002 q t c (be 1 x ++ be 1 y); let u := s.withCommand e; let z : BusEnd := (u.busCheck o.master (u.cmdPriv e.started) .write GC_RST 4).1; let v : State := (u.busCheck o.master (u.cmdPriv e.started) .write GC_RST 4).2; (s.admits e) ∧ (z ≠ .done) ∧ (u.busCheck o.master (u.cmdPriv e.started) .write GC_RST 4 = (z, v))) ∧
    (let s : State := serving; let o : Owner := .usb; let q : Fin 65536 := 0; let t : Fin 65536 := 0; let c : Fin 16 := 3; let x : Fin 256 := 0; let y : Fin 256 := 1; let e := cmdEntry o 0x0002 q t c (be 1 x ++ be 1 y); let u := s.withCommand e; (s.admits e) ∧ ((x : Nat) = 0) ∧ (u.busCheck o.master (u.cmdPriv e.started) .write GC_RST 4 = (.done, u))) ∧
    (let s : State := serving; let o : Owner := .usb; let q : Fin 65536 := 0; let t : Fin 65536 := 0; let c : Fin 16 := 3; let x : Fin 256 := 1; let y : Fin 256 := 1; let e := cmdEntry o 0x0002 q t c (be 1 x ++ be 1 y); let u := s.withCommand e; (s.admits e) ∧ ((x : Nat) = 1) ∧ (u.busCheck o.master (u.cmdPriv e.started) .write GC_RST 4 = (.done, u))) ∧
    (let s : State := serving; let o : Owner := .usb; let q : Fin 65536 := 0; let t : Fin 65536 := 0; let c : Fin 16 := 3; let x : Fin 256 := 0; let e := cmdEntry o 0x0003 q t c (be 1 x); let u := s.withCommand e; (s.admits e) ∧ (u.busCheck o.master (u.cmdPriv e.started) .write PS_CTRL 4 = (.done, u))) ∧
    (let s : State := (serving.wr GC_IMG_STAT.STATE 1); let o : Owner := .usb; let q : Fin 65536 := 0; let t : Fin 65536 := 0; let c : Fin 16 := 3; let x : Fin 256 := 0; let e := cmdEntry o 0x0003 q t c (be 1 x); let u := s.withCommand e; let z : BusEnd := (u.busCheck o.master (u.cmdPriv e.started) .write PS_CTRL 4).1; let v : State := (u.busCheck o.master (u.cmdPriv e.started) .write PS_CTRL 4).2; (s.admits e) ∧ (z ≠ .done) ∧ (u.busCheck o.master (u.cmdPriv e.started) .write PS_CTRL 4 = (z, v))) ∧
    (let s : State := serving; let o : Owner := .usb; let q : Fin 65536 := 0; let t : Fin 65536 := 0; let c : Fin 16 := 3; let x : Fin 256 := 0; let y : Fin 256 := 0; let h : Fin 65536 := 0; let e := cmdEntry o 0x0004 q t c (be 1 x ++ be 1 y ++ le 2 h); (s.admits e)) ∧
    (let s : State := serving; let o : Owner := .usb; let q : Fin 65536 := 0; let t : Fin 65536 := 0; let c : Fin 16 := 3; let e := cmdEntry o 0x0100 q t c ([]); (s.admits e)) ∧
    (let s : State := serving; let o : Owner := .usb; let q : Fin 65536 := 0; let t : Fin 65536 := 1; let c : Fin 16 := 3; let l : List (Word × Word) := [(0, 0)]; let e := cmdEntry o 0x0101 q t c (pairBody l); (s.admits e)) ∧
    (let s : State := serving; let o : Owner := .usb; let q : Fin 65536 := 0; let t : Fin 65536 := 1; let c : Fin 16 := 3; let l : List Word := [0]; let e := cmdEntry o 0x0102 q t c (addrBody l); (s.admits e)) ∧
    (let s : State := ({ serving with img := { serving.img with commit := some (1, []) } } : State); let o : Owner := .usb; let q : Fin 65536 := 0; let t : Fin 65536 := 1; let c : Fin 16 := 3; let e := cmdEntry o 0x0103 q t c ([]); let u := s.withCommand e; (s.admits e) ∧ (u.img.commit.isSome = true)) ∧
    (let s : State := ({ serving with img := { serving.img with txns := [({ id := 1, owner := .usb, staged := [(PB_CFG 1, 0xFFFFFFFF#32)] } : Txn)] } } : State); let o : Owner := .usb; let q : Fin 65536 := 0; let t : Fin 65536 := 1; let c : Fin 16 := 3; let e := cmdEntry o 0x0103 q t c ([]); let u := s.withCommand e; let x : Txn := ({ id := 1, owner := .usb, staged := [(PB_CFG 1, 0xFFFFFFFF#32)] } : Txn); let st := 3; let a := PB_CFG 1; (s.admits e) ∧ (u.img.commit = none) ∧ (u.txnBy o t = some x) ∧ ((u.touchTxn t).validate x.staged = some (st, a))) ∧
    (let s : State := ({ serving with img := { serving.img with commit := none } } : State); let o : Owner := .usb; let q : Fin 65536 := 0; let t : Fin 65536 := 1; let c : Fin 16 := 3; let e := cmdEntry o 0x0103 q t c ([]); let u := s.withCommand e; let x : Txn := ({ id := 1, owner := .usb } : Txn); (s.admits e) ∧ (u.img.commit = none) ∧ (u.txnBy o t = some x) ∧ ((u.touchTxn t).validate x.staged = none)) ∧
    (let s : State := ({ serving with img := { serving.img with commit := some (1, []) } } : State); let o : Owner := .usb; let q : Fin 65536 := 0; let t : Fin 65536 := 1; let c : Fin 16 := 3; let e := cmdEntry o 0x0104 q t c ([]); (s.admits e)) ∧
    (let s : State := ({ serving with img := { serving.img with txns := [] } } : State); let o : Owner := .usb; let q : Fin 65536 := 0; let t : Fin 65536 := 0; let c : Fin 16 := 3; let e := cmdEntry o 0x0105 q t c ([]); let u := s.withCommand e; (s.admits e) ∧ (u.txnOf o = none)) ∧
    (let s : State := serving; let o : Owner := .usb; let q : Fin 65536 := 0; let t : Fin 65536 := 0; let c : Fin 16 := 3; let e := cmdEntry o 0x0105 q t c ([]); let u := s.withCommand e; let x : Txn := ({ id := 1, owner := .usb } : Txn); (s.admits e) ∧ (u.txnOf o = some x)) ∧
    (let s : State := serving; let o : Owner := .usb; let q : Fin 65536 := 0; let t : Fin 65536 := 0; let c : Fin 16 := 3; let e := cmdEntry o 0x0200 q t c ([]); (s.admits e)) ∧
    (let s : State := serving; let o : Owner := .usb; let q : Fin 65536 := 0; let t : Fin 65536 := 0; let c : Fin 16 := 3; let x : Fin 256 := 0; let e := cmdEntry o 0x0201 q t c (be 1 x); (s.admits e)) ∧
    (let s : State := serving; let o : Owner := .usb; let q : Fin 65536 := 0; let t : Fin 65536 := 0; let c : Fin 16 := 3; let x : Fin 256 := 0; let a : BitVec 32 := 0; let d : List Byte := []; let e := cmdEntry o 0x0202 q t c (be 1 x ++ be 3 0 ++ wordLe a ++ d); (s.admits e)) ∧
    (let s : State := serving; let o : Owner := .usb; let q : Fin 65536 := 0; let t : Fin 65536 := 0; let c : Fin 16 := 3; let x : Fin 256 := 0; let a : BitVec 32 := 0; let n : BitVec 32 := 0; let e := cmdEntry o 0x0203 q t c (be 1 x ++ be 3 0 ++ wordLe a ++ wordLe n); (s.admits e)) ∧
    (let s : State := serving; let o : Owner := .usb; let q : Fin 65536 := 0; let t : Fin 65536 := 0; let c : Fin 16 := 3; let x : Fin 256 := 0; let e := cmdEntry o 0x0204 q t c (be 1 x); (s.admits e) ∧ ((x : Nat) < 2)) ∧
    (let s : State := serving; let o : Owner := .usb; let q : Fin 65536 := 0; let t : Fin 65536 := 0; let c : Fin 16 := 3; let x : Fin 256 := 2; let e := cmdEntry o 0x0204 q t c (be 1 x); (s.admits e) ∧ ((x : Nat) = 2)) ∧
    (let s : State := serving; let o : Owner := .usb; let q : Fin 65536 := 0; let t : Fin 65536 := 0; let c : Fin 16 := 3; let e := cmdEntry o 0x0300 q t c ([]); (s.admits e)) ∧
    (let s : State := serving; let o : Owner := .usb; let q : Fin 65536 := 0; let t : Fin 65536 := 0; let c : Fin 16 := 3; let x : Fin 256 := 0; let e := cmdEntry o 0x0301 q t c (be 1 x); (s.admits e)) ∧
    (let s : State := serving; let o : Owner := .usb; let q : Fin 65536 := 0; let t : Fin 65536 := 0; let c : Fin 16 := 3; let x : Fin 256 := 0; let e := cmdEntry o 0x0302 q t c (be 1 x); let u := s.withCommand e; (s.admits e) ∧ ((x : Nat) = 0 ∨ u.adpType x = 0 ∨ u.rd (TA_PEER.MCAST x) ≠ 0 ∨ u.rd (TA_CFG0.DIR x) = 2)) ∧
    (let s : State := ((({ serving with img := { serving.img with commit := some (1, []) } } : State).wr (TA_CFG0.TYPE 1) 1)); let o : Owner := .usb; let q : Fin 65536 := 0; let t : Fin 65536 := 0; let c : Fin 16 := 3; let x : Fin 256 := 1; let e := cmdEntry o 0x0302 q t c (be 1 x); let u := s.withCommand e; (s.admits e) ∧ ((x : Nat) ≠ 0) ∧ (u.adpType x ≠ 0) ∧ (u.rd (TA_PEER.MCAST x) = 0) ∧ (u.rd (TA_CFG0.DIR x) ≠ 2) ∧ (u.img.commit.isSome = true)) ∧
    (let s : State := (serving.wr (TA_CFG0.TYPE 1) 1); let o : Owner := .usb; let q : Fin 65536 := 0; let t : Fin 65536 := 0; let c : Fin 16 := 3; let x : Fin 256 := 1; let e := cmdEntry o 0x0302 q t c (be 1 x); let u := s.withCommand e; (s.admits e) ∧ ((x : Nat) ≠ 0) ∧ (u.adpType x ≠ 0) ∧ (u.rd (TA_PEER.MCAST x) = 0) ∧ (u.rd (TA_CFG0.DIR x) ≠ 2) ∧ (u.img.commit = none)) := by
  and_intros <;> decide +kernel

theorem witness_CommandsOfLinkPowerKeys :
    ((let s : State := serving; let o : Owner := .usb; let q : Fin 65536 := 0; let t : Fin 65536 := 0; let c : Fin 16 := 3; let x : Fin 256 := 0; let e := cmdEntry o 0x0400 q t c (be 1 x); (s.admits e)) ∧
    (let s : State := serving; let o : Owner := .usb; let q : Fin 65536 := 0; let t : Fin 65536 := 0; let c : Fin 16 := 3; let x : Fin 256 := 0; let y : Fin 256 := 0; let l : List (Word × Word) := [(0, 0)]; let e := cmdEntry o 0x0401 q t c (be 1 x ++ be 1 y ++ le 2 l.length ++ l.flatMap fun x => wordLe x.1 ++ wordLe x.2); let u := s.withCommand e; (s.admits e) ∧ (u.act x = y) ∧ (l.length ≤ 32)) ∧
    (let s : State := (serving.wr (AL_STAT.ACT 0) 1); let o : Owner := .usb; let q : Fin 65536 := 0; let t : Fin 65536 := 0; let c : Fin 16 := 3; let x : Fin 256 := 0; let y : Fin 256 := 0; let l : List (Word × Word) := [(0, 0)]; let e := cmdEntry o 0x0401 q t c (be 1 x ++ be 1 y ++ le 2 l.length ++ l.flatMap fun x => wordLe x.1 ++ wordLe x.2); let u := s.withCommand e; (s.admits e) ∧ (u.act x ≠ y) ∧ (l.length ≤ 32)) ∧
    (let s : State := serving; let o : Owner := .usb; let q : Fin 65536 := 0; let t : Fin 65536 := 0; let c : Fin 16 := 3; let x : Fin 256 := 0; let y : Fin 256 := 0; let e := cmdEntry o 0x0402 q t c (be 1 x ++ be 1 y); (s.admits e)) ∧
    (let s : State := serving; let o : Owner := .usb; let q : Fin 65536 := 0; let t : Fin 65536 := 0; let c : Fin 16 := 3; let x : Fin 256 := 1; let e := cmdEntry o 0x0403 q t c (be 1 x); (s.admits e)) ∧
    (let s : State := serving; let o : Owner := .usb; let q : Fin 65536 := 0; let t : Fin 65536 := 0; let c : Fin 16 := 3; let x : Fin 256 := 0; let e := cmdEntry o 0x0500 q t c (be 1 x); (s.admits e)) ∧
    (let s : State := serving; let o : Owner := .usb; let q : Fin 65536 := 0; let t : Fin 65536 := 0; let c : Fin 16 := 3; let x : Fin 256 := 0; let y : Fin 256 := 0; let e := cmdEntry o 0x0501 q t c (be 1 x ++ be 1 y); (s.admits e) ∧ ((y : Nat) = 0)) ∧
    (let s : State := serving; let o : Owner := .usb; let q : Fin 65536 := 0; let t : Fin 65536 := 0; let c : Fin 16 := 3; let x : Fin 256 := 0; let y : Fin 256 := 1; let e := cmdEntry o 0x0501 q t c (be 1 x ++ be 1 y); (s.admits e) ∧ ((y : Nat) = 1)) ∧
    (let s : State := serving; let o : Owner := .usb; let q : Fin 65536 := 0; let t : Fin 65536 := 0; let c : Fin 16 := 3; let x : Fin 256 := 0; let y : Fin 256 := 2; let e := cmdEntry o 0x0501 q t c (be 1 x ++ be 1 y); let u := s.withCommand e; (s.admits e) ∧ ((y : Nat) = 2) ∧ (u.lstate x ≠ 4 ∨ u.linkEnc x = false)) ∧
    (let s : State := ((serving.wr (CL_STAT.LSTATE 0) 4).wr (CL_STAT.ENC 0) 1); let o : Owner := .usb; let q : Fin 65536 := 0; let t : Fin 65536 := 0; let c : Fin 16 := 3; let x : Fin 256 := 0; let y : Fin 256 := 2; let e := cmdEntry o 0x0501 q t c (be 1 x ++ be 1 y); let u := s.withCommand e; (s.admits e) ∧ ((y : Nat) = 2) ∧ (u.lstate x = 4) ∧ (u.linkEnc x = true)) ∧
    (let s : State := (serving.wr (CL_STAT.LSTATE 0) 4); let o : Owner := .usb; let q : Fin 65536 := 0; let t : Fin 65536 := 0; let c : Fin 16 := 3; let x : Fin 256 := 0; let y : Fin 256 := 3; let e := cmdEntry o 0x0501 q t c (be 1 x ++ be 1 y); let u := s.withCommand e; (s.admits e) ∧ ((y : Nat) = 3) ∧ (u.lstate x = 4)) ∧
    (let s : State := serving; let o : Owner := .usb; let q : Fin 65536 := 0; let t : Fin 65536 := 0; let c : Fin 16 := 3; let x : Fin 256 := 0; let e := cmdEntry o 0x0502 q t c (be 1 x); (s.admits e)) ∧
    (let s : State := (serving.wr GC_IMG_STAT.STATE 1); let o : Owner := .usb; let q : Fin 65536 := 0; let t : Fin 65536 := 0; let c : Fin 16 := 3; let n : Fin 256 := 0; let y : Fin 256 := 0; let w : Fin 256 := 10; let a1 : Fin 256 := 0; let a2 : Fin 256 := 0; let b1 : Fin 256 := 0; let b2 : Fin 256 := 0; let e := cmdEntry o 0x0503 q t c (be 1 n ++ be 1 y ++ be 1 w ++ be 1 0 ++ be 1 a1 ++ be 1 a2 ++ be 1 b1 ++ be 1 b2); let u := s.withCommand e; let z : BusEnd := (u.busCheck o.master (u.cmdPriv e.started) .write (LN_ES_CTRL n) 4).1; let v : State := (u.busCheck o.master (u.cmdPriv e.started) .write (LN_ES_CTRL n) 4).2; (s.admits e) ∧ (z ≠ .done) ∧ (u.busCheck o.master (u.cmdPriv e.started) .write (LN_ES_CTRL n) 4 = (z, v))) ∧
    (let s : State := (serving.wr (LN_ES_CTRL.BUSY 0) 1); let o : Owner := .usb; let q : Fin 65536 := 0; let t : Fin 65536 := 0; let c : Fin 16 := 3; let n : Fin 256 := 0; let y : Fin 256 := 0; let w : Fin 256 := 10; let a1 : Fin 256 := 0; let a2 : Fin 256 := 0; let b1 : Fin 256 := 0; let b2 : Fin 256 := 0; let e := cmdEntry o 0x0503 q t c (be 1 n ++ be 1 y ++ be 1 w ++ be 1 0 ++ be 1 a1 ++ be 1 a2 ++ be 1 b1 ++ be 1 b2); let u := s.withCommand e; (s.admits e) ∧ (u.busCheck o.master (u.cmdPriv e.started) .write (LN_ES_CTRL n) 4 = (.done, u)) ∧ (u.rd (LN_ES_CTRL.BUSY n) ≠ 0)) ∧
    (let s : State := (serving.wr (LN_ES_CTRL.BUSY 0) 0); let o : Owner := .usb; let q : Fin 65536 := 0; let t : Fin 65536 := 0; let c : Fin 16 := 3; let n : Fin 256 := 0; let y : Fin 256 := 0; let w : Fin 256 := 10; let a1 : Fin 256 := 0; let a2 : Fin 256 := 0; let b1 : Fin 256 := 0; let b2 : Fin 256 := 0; let e := cmdEntry o 0x0503 q t c (be 1 n ++ be 1 y ++ be 1 w ++ be 1 0 ++ be 1 a1 ++ be 1 a2 ++ be 1 b1 ++ be 1 b2); let u := s.withCommand e; (s.admits e) ∧ (u.busCheck o.master (u.cmdPriv e.started) .write (LN_ES_CTRL n) 4 = (.done, u)) ∧ (u.rd (LN_ES_CTRL.BUSY n) = 0)) ∧
    (let s : State := serving; let o : Owner := .usb; let q : Fin 65536 := 0; let t : Fin 65536 := 0; let c : Fin 16 := 3; let x : Fin 256 := 0; let e := cmdEntry o 0x0600 q t c (be 1 x); (s.admits e)) ∧
    (let s : State := serving; let o : Owner := .usb; let q : Fin 65536 := 0; let t : Fin 65536 := 0; let c : Fin 16 := 3; let x : Fin 256 := 0; let y : Fin 256 := 0; let e := cmdEntry o 0x0601 q t c (be 1 x ++ be 1 y); (s.admits e)) ∧
    (let s : State := serving; let o : Owner := .usb; let q : Fin 65536 := 0; let t : Fin 65536 := 0; let c : Fin 16 := 3; let x : Fin 256 := 0; let e := cmdEntry o 0x0602 q t c (be 1 x); (s.admits e)) ∧
    (let s : State := (serving.wr GC_IMG_STAT.STATE 1); let o : Owner := .usb; let q : Fin 65536 := 0; let t : Fin 65536 := 0; let c : Fin 16 := 3; let x : Fin 256 := 0; let e := cmdEntry o 0x0603 q t c (be 1 x); (s.admits e)) ∧
    (let s : State := serving; let o : Owner := .usb; let q : Fin 65536 := 0; let t : Fin 65536 := 0; let c : Fin 16 := 3; let e := cmdEntry o 0x0604 q t c ([]); (s.admits e)) ∧
    (let s : State := serving; let o : Owner := .usb; let q : Fin 65536 := 0; let t : Fin 65536 := 0; let c : Fin 16 := 3; let x : Fin 256 := 1; let y : Fin 256 := 0; let k : BitVec 32 := 0; let d : List Byte := List.replicate 32 0; let e := cmdEntry o 0x0700 q t c (be 1 x ++ be 1 y ++ be 2 0 ++ wordLe k ++ d); (s.admits e)) ∧
    (let s : State := serving; let o : Owner := .usb; let q : Fin 65536 := 0; let t : Fin 65536 := 0; let c : Fin 16 := 3; let x : Fin 256 := 5; let d : List Byte := []; let e := cmdEntry o 0x0701 q t c (be 1 x ++ be 3 0 ++ d); (s.admits e)) ∧
    (let s : State := serving; let o : Owner := .usb; let q : Fin 65536 := 0; let t : Fin 65536 := 0; let c : Fin 16 := 3; let e := cmdEntry o 0x0702 q t c ([]); (s.admits e)) ∧
    (let s : State := serving; let o : Owner := .usb; let q : Fin 65536 := 0; let t : Fin 65536 := 0; let c : Fin 16 := 3; let x : Fin 256 := 0; let e := cmdEntry o 0x0703 q t c (be 1 x); (s.admits e) ∧ ((x : Nat) = 0)) ∧
    (let s : State := serving; let o : Owner := .usb; let q : Fin 65536 := 0; let t : Fin 65536 := 0; let c : Fin 16 := 3; let x : Fin 256 := 1; let e := cmdEntry o 0x0703 q t c (be 1 x); (s.admits e) ∧ ((x : Nat) = 1)) ∧
    (let s : State := serving; let o : Owner := .usb; let q : Fin 65536 := 0; let t : Fin 65536 := 0; let c : Fin 16 := 3; let x : Fin 256 := 0; let y : Fin 256 := 0; let e := cmdEntry o 0x0705 q t c (be 1 x ++ be 1 y); (s.admits e))) ∧
    (let s : State := serving; let o : Owner := .usb; let q : Fin 65536 := 0; let t : Fin 65536 := 0; let c : Fin 16 := 3; let e := cmdEntry o 0x0704 q t c ([]); (s.admits e)) :=
  ⟨by and_intros <;> decide +kernel,
    by exact admits_certRead⟩

theorem witness_CommandsOfDiagnosticsToRegisters :
    (let s : State := serving; let o : Owner := .usb; let q : Fin 65536 := 0; let t : Fin 65536 := 0; let c : Fin 16 := 3; let i : BitVec 32 := 0; let n : Fin 65536 := 0; let e := cmdEntry o 0x0800 q t c (wordLe i ++ le 2 n); (s.admits e)) ∧
    (let s : State := (serving.wr GC_IMG_STAT.STATE 1); let o : Owner := .usb; let q : Fin 65536 := 0; let t : Fin 65536 := 0; let c : Fin 16 := 3; let x : Fin 256 := 0; let e := cmdEntry o 0x0801 q t c (be 1 x); let u := s.withCommand e; let z : BusEnd := (u.busCheck o.master (u.cmdPriv e.started) .write BT_CTRL 4).1; let v : State := (u.busCheck o.master (u.cmdPriv e.started) .write BT_CTRL 4).2; (s.admits e) ∧ (z ≠ .done) ∧ (u.busCheck o.master (u.cmdPriv e.started) .write BT_CTRL 4 = (z, v))) ∧
    (let s : State := serving; let o : Owner := .usb; let q : Fin 65536 := 0; let t : Fin 65536 := 0; let c : Fin 16 := 3; let x : Fin 256 := 0; let e := cmdEntry o 0x0801 q t c (be 1 x); let u := s.withCommand e; (s.admits e) ∧ (u.busCheck o.master (u.cmdPriv e.started) .write BT_CTRL 4 = (.done, u)) ∧ ((u.bistStart x).1 = stOk)) ∧
    (let s : State := serving; let o : Owner := .usb; let q : Fin 65536 := 0; let t : Fin 65536 := 0; let c : Fin 16 := 3; let x : Fin 256 := 21; let e := cmdEntry o 0x0801 q t c (be 1 x); let u := s.withCommand e; (s.admits e) ∧ (u.busCheck o.master (u.cmdPriv e.started) .write BT_CTRL 4 = (.done, u)) ∧ ((u.bistStart x).1 ≠ stOk)) ∧
    (let s : State := (serving.wr GC_IMG_STAT.STATE 1); let o : Owner := .usb; let q : Fin 65536 := 0; let t : Fin 65536 := 0; let c : Fin 16 := 3; let e := cmdEntry o 0x0802 q t c ([]); let u := s.withCommand e; let z : BusEnd := (u.busCheck o.master (u.cmdPriv e.started) .write SW_FAR_CTRL 4).1; let v : State := (u.busCheck o.master (u.cmdPriv e.started) .write SW_FAR_CTRL 4).2; (s.admits e) ∧ (z ≠ .done) ∧ (u.busCheck o.master (u.cmdPriv e.started) .write SW_FAR_CTRL 4 = (z, v))) ∧
    (let s : State := (serving.wr SW_FAR_STAT.BUSY 1); let o : Owner := .usb; let q : Fin 65536 := 0; let t : Fin 65536 := 0; let c : Fin 16 := 3; let e := cmdEntry o 0x0802 q t c ([]); let u := s.withCommand e; (s.admits e) ∧ (u.busCheck o.master (u.cmdPriv e.started) .write SW_FAR_CTRL 4 = (.done, u)) ∧ (u.rd SW_FAR_STAT.BUSY ≠ 0)) ∧
    (let s : State := (serving.wr SW_FAR_STAT.BUSY 0); let o : Owner := .usb; let q : Fin 65536 := 0; let t : Fin 65536 := 0; let c : Fin 16 := 3; let e := cmdEntry o 0x0802 q t c ([]); let u := s.withCommand e; (s.admits e) ∧ (u.busCheck o.master (u.cmdPriv e.started) .write SW_FAR_CTRL 4 = (.done, u)) ∧ (u.rd SW_FAR_STAT.BUSY = 0)) ∧
    (let s : State := serving; let o : Owner := .usb; let q : Fin 65536 := 0; let t : Fin 65536 := 0; let c : Fin 16 := 3; let e := cmdEntry o 0x0900 q t c ([]); (s.admits e)) ∧
    (let s : State := (serving.wr DM_GM_STAT.IS_GM 0); let o : Owner := .usb; let q : Fin 65536 := 0; let t : Fin 65536 := 0; let c : Fin 16 := 3; let k : Bool := false; let d : List Byte := [0, 0, 0, 0, 0, 0, 0, 0, 0, 0]; let e := cmdEntry o 0x0901 q t c (be 1 k.toNat ++ be 7 0 ++ d); let u := s.withCommand e; (s.admits e) ∧ (u.rd DM_GM_STAT.IS_GM = 0)) ∧
    (let s : State := (serving.wr DM_GM_STAT.IS_GM 1); let o : Owner := .usb; let q : Fin 65536 := 0; let t : Fin 65536 := 0; let c : Fin 16 := 3; let k : Bool := false; let d : List Byte := [0, 0, 0, 0, 0, 0, 0, 0, 0, 0]; let e := cmdEntry o 0x0901 q t c (be 1 k.toNat ++ be 7 0 ++ d); let u := s.withCommand e; (s.admits e) ∧ (u.rd DM_GM_STAT.IS_GM ≠ 0)) ∧
    (let s : State := (serving.wr (EN_CFG.PTP_MODE 0) 0); let o : Owner := .usb; let q : Fin 65536 := 0; let t : Fin 65536 := 0; let c : Fin 16 := 3; let x : Fin 256 := 0; let y : Fin 256 := 1; let e := cmdEntry o 0x0902 q t c (be 1 x ++ be 1 y); let u := s.withCommand e; (s.admits e) ∧ (u.rd (EN_CFG.PTP_MODE x) ≠ 2)) ∧
    (let s : State := (serving.wr (EN_CFG.PTP_MODE 0) 2); let o : Owner := .usb; let q : Fin 65536 := 0; let t : Fin 65536 := 0; let c : Fin 16 := 3; let x : Fin 256 := 0; let y : Fin 256 := 1; let e := cmdEntry o 0x0902 q t c (be 1 x ++ be 1 y); let u := s.withCommand e; (s.admits e) ∧ (u.rd (EN_CFG.PTP_MODE x) = 2) ∧ (u.busCheck o.master (u.cmdPriv e.started) .read (EN_TXTS_HEAD x) 4 = (.done, u))) ∧
    (let s : State := serving; let o : Owner := .usb; let q : Fin 65536 := 0; let t : Fin 65536 := 0; let c : Fin 16 := 3; let x : Fin 256 := 0; let e := cmdEntry o 0x0A00 q t c (be 1 x); (s.admits e)) ∧
    (let s : State := (serving.wr (DS_CFG.MODE 0) 0); let o : Owner := .usb; let q : Fin 65536 := 0; let t : Fin 65536 := 0; let c : Fin 16 := 3; let x : Fin 256 := 0; let y : Fin 256 := 0; let e := cmdEntry o 0x0A01 q t c (be 1 x ++ be 1 y); let u := s.withCommand e; (s.admits e) ∧ (u.dsMode x = 0 ∨ u.dsMode x = 2)) ∧
    (let s : State := ((serving.wr (DS_CFG.MODE 0) 3).modPipe 0 fun x => { x with panelEdid := [[7]] }); let o : Owner := .usb; let q : Fin 65536 := 0; let t : Fin 65536 := 0; let c : Fin 16 := 3; let x : Fin 256 := 0; let y : Fin 256 := 0; let e := cmdEntry o 0x0A01 q t c (be 1 x ++ be 1 y); let u := s.withCommand e; let b : List Byte := [7]; (s.admits e) ∧ (u.dsMode x = 3 ∨ u.dsMode x = 4) ∧ ((u.pipe x).panelEdid[(y : Nat)]? = some b)) ∧
    (let s : State := ((serving.wr (DS_CFG.MODE 0) 1).modPipe 0 fun x => { x with edid := [[7]] }); let o : Owner := .usb; let q : Fin 65536 := 0; let t : Fin 65536 := 0; let c : Fin 16 := 3; let x : Fin 256 := 0; let y : Fin 256 := 0; let e := cmdEntry o 0x0A01 q t c (be 1 x ++ be 1 y); let u := s.withCommand e; let b : List Byte := [7]; (s.admits e) ∧ (u.dsMode x = 1) ∧ ((u.pipe x).edid ≠ []) ∧ ((u.pipe x).edid[(y : Nat)]? = some b)) ∧
    (let s : State := ({ (serving.wr (DS_CFG.MODE 0) 1) with img := { serving.img with edid := [(0, [[7]])] } } : State); let o : Owner := .usb; let q : Fin 65536 := 0; let t : Fin 65536 := 0; let c : Fin 16 := 3; let x : Fin 256 := 0; let y : Fin 256 := 0; let e := cmdEntry o 0x0A01 q t c (be 1 x ++ be 1 y); let u := s.withCommand e; let b : List Byte := [7]; (s.admits e) ∧ (u.dsMode x = 1) ∧ ((u.pipe x).edid = []) ∧ ((Tab.get [] u.img.edid x)[(y : Nat)]? = some b)) ∧
    (let s : State := serving; let o : Owner := .usb; let q : Fin 65536 := 0; let t : Fin 65536 := 0; let c : Fin 16 := 3; let x : Fin 256 := 0; let e := cmdEntry o 0x0A02 q t c (be 1 x); (s.admits e)) ∧
    (let s : State := serving; let o : Owner := .usb; let q : Fin 65536 := 0; let t : Fin 65536 := 0; let c : Fin 16 := 3; let e := cmdEntry o 0x0B00 q t c ([]); (s.admits e)) ∧
    (let s : State := serving; let o : Owner := .usb; let q : Fin 65536 := 0; let t : Fin 65536 := 0; let c : Fin 16 := 3; let e := cmdEntry o 0x0B01 q t c ([]); let u := s.withCommand e; (s.admits e) ∧ (u.hostRole = false)) ∧
    (let s : State := (serving.wr GC_IMG_INFO.ROLE 1); let o : Owner := .usb; let q : Fin 65536 := 0; let t : Fin 65536 := 0; let c : Fin 16 := 3; let e := cmdEntry o 0x0B01 q t c ([]); let u := s.withCommand e; (s.admits e) ∧ (u.hostRole = true)) ∧
    (let s : State := serving; let o : Owner := .usb; let q : Fin 65536 := 0; let t : Fin 65536 := 0; let c : Fin 16 := 3; let x : Fin 65536 := 0; let e := cmdEntry o 0x0B02 q t c (le 2 x); let u := s.withCommand e; (s.admits e) ∧ (u.hostRole = false ∨ (x : Nat) / 64 ≠ u.hubAddr / 64 ∨ (Tab.get ({} : PosEntry) u.dom.positions (x % 64)).held = false)) ∧
    (let s : State := ({ (serving.wr GC_IMG_INFO.ROLE 1) with dom := { serving.dom with positions := [(0, { held := true })] } } : State); let o : Owner := .usb; let q : Fin 65536 := 0; let t : Fin 65536 := 0; let c : Fin 16 := 3; let x : Fin 65536 := 0; let e := cmdEntry o 0x0B02 q t c (le 2 x); let u := s.withCommand e; (s.admits e) ∧ (u.hostRole = true) ∧ ((x : Nat) / 64 = u.hubAddr / 64) ∧ ((Tab.get ({} : PosEntry) u.dom.positions (x % 64)).held = true)) ∧
    (let s : State := (serving.wr GC_IMG_STAT.STATE 1); let o : Owner := .usb; let q : Fin 65536 := 0; let t : Fin 65536 := 0; let c : Fin 16 := 3; let x : Fin 65536 := 0; let y : Fin 65536 := 1; let e := cmdEntry o 0x0B03 q t c (le 2 x ++ le 2 y); (s.admits e)) ∧
    (let s : State := (serving.wr GC_IMG_STAT.STATE 1); let o : Owner := .usb; let q : Fin 65536 := 0; let t : Fin 65536 := 0; let c : Fin 16 := 3; let x : Fin 65536 := 0; let y : Fin 65536 := 1; let f : List Byte := le 2 0 ++ le 2 0 ++ le 2 0 ++ le 2 0x3000 ++ le 4 0 ++ le 4 0; let e := cmdEntry o 0x0B04 q t c (le 2 x ++ le 2 y ++ f); (s.admits e)) ∧
    (let s : State := (serving.wr GC_IMG_STAT.STATE 1); let o : Owner := .usb; let q : Fin 65536 := 0; let t : Fin 65536 := 0; let c : Fin 16 := 3; let l : List Word := [0]; let e := cmdEntry o 0x0C00 q t c (addrBody l); (s.admits e)) ∧
    (let s : State := (serving.wr GC_IMG_STAT.STATE 1); let o : Owner := .usb; let q : Fin 65536 := 0; let t : Fin 65536 := 0; let c : Fin 16 := 3; let l : List (Word × Word) := [(0, 0)]; let e := cmdEntry o 0x0C01 q t c (pairBody l); (s.admits e)) ∧
    (let s : State := (serving.wr GC_IMG_STAT.STATE 1); let o : Owner := .usb; let q : Fin 65536 := 0; let t : Fin 65536 := 0; let c : Fin 16 := 3; let a : BitVec 32 := 0; let m : BitVec 32 := 0; let v : BitVec 32 := 0; let e := cmdEntry o 0x0C02 q t c (wordLe a ++ wordLe m ++ wordLe v); (s.admits e)) ∧
    (let s : State := (serving.wr (TA_CFG0.TYPE 1) 0); let o : Owner := .usb; let q : Fin 65536 := 0; let t : Fin 65536 := 0; let c : Fin 16 := 3; let x : Fin 256 := 1; let y : Fin 256 := 1; let a : BitVec 32 := 0; let e := cmdEntry o 0x0C03 q t c (be 1 x ++ be 1 y ++ be 2 0 ++ wordLe a); let u := s.withCommand e; (s.admits e) ∧ ((x : Nat) ≠ 0) ∧ (u.adpType x ≠ 10)) ∧
    (let s : State := (serving.modBrg fun b => { b with rbOut := List.replicate 16 { adp := 0, tag := 0, read := true, size := 1, addr := 0, data := [], mine := true } }); let o : Owner := .usb; let q : Fin 65536 := 0; let t : Fin 65536 := 0; let c : Fin 16 := 3; let x : Fin 256 := 0; let y : Fin 256 := 1; let a : BitVec 32 := 0; let e := cmdEntry o 0x0C03 q t c (be 1 x ++ be 1 y ++ be 2 0 ++ wordLe a); let u := s.withCommand e; let v : State := (u.rbRequest x true y a.toNat []).2; (s.admits e) ∧ ((x : Nat) = 0 ∨ u.adpType x = 10) ∧ (u.rbRequest x true y a.toNat [] = (.full, v))) ∧
    (let s : State := (serving.wr (TA_CFG0.TYPE 1) 10); let o : Owner := .usb; let q : Fin 65536 := 0; let t : Fin 65536 := 0; let c : Fin 16 := 3; let x : Fin 256 := 1; let y : Fin 256 := 1; let a : BitVec 32 := 0; let e := cmdEntry o 0x0C03 q t c (be 1 x ++ be 1 y ++ be 2 0 ++ wordLe a); let u := s.withCommand e; let v : State := (u.rbRequest x true y a.toNat []).2; let st : Nat := 10; (s.admits e) ∧ ((x : Nat) = 0 ∨ u.adpType x = 10) ∧ (u.rbRequest x true y a.toNat [] = (.done st, v))) ∧
    (let s : State := serving; let o : Owner := .usb; let q : Fin 65536 := 0; let t : Fin 65536 := 0; let c : Fin 16 := 3; let x : Fin 256 := 0; let y : Fin 256 := 1; let a : BitVec 32 := 0; let e := cmdEntry o 0x0C03 q t c (be 1 x ++ be 1 y ++ be 2 0 ++ wordLe a); let u := s.withCommand e; let v : State := (u.rbRequest x true y a.toNat []).2; let k : Nat := 0; (s.admits e) ∧ ((x : Nat) = 0 ∨ u.adpType x = 10) ∧ (u.rbRequest x true y a.toNat [] = (.waits k, v))) ∧
    (let s : State := (serving.wr GC_IMG_STAT.STATE 1); let o : Owner := .usb; let q : Fin 65536 := 0; let t : Fin 65536 := 0; let c : Fin 16 := 3; let x : Fin 256 := 1; let y : Fin 256 := 1; let a : BitVec 32 := 0; let d : List Byte := [0]; let e := cmdEntry o 0x0C04 q t c (be 1 x ++ be 1 y ++ be 2 0 ++ wordLe a ++ d); let u := s.withCommand e; (s.admits e) ∧ ((x : Nat) ≠ 0) ∧ (u.adpType x ≠ 10)) ∧
    (let s : State := ((serving.wr GC_IMG_STAT.STATE 1).modBrg fun b => { b with rbOut := List.replicate 16 { adp := 0, tag := 0, read := true, size := 1, addr := 0, data := [], mine := true } }); let o : Owner := .usb; let q : Fin 65536 := 0; let t : Fin 65536 := 0; let c : Fin 16 := 3; let x : Fin 256 := 0; let y : Fin 256 := 1; let a : BitVec 32 := 0; let d : List Byte := [0]; let e := cmdEntry o 0x0C04 q t c (be 1 x ++ be 1 y ++ be 2 0 ++ wordLe a ++ d); let u := s.withCommand e; let v : State := (u.rbRequest x false y a.toNat d).2; (s.admits e) ∧ ((x : Nat) = 0 ∨ u.adpType x = 10) ∧ (u.rbRequest x false y a.toNat d = (.full, v))) ∧
    (let s : State := ((serving.wr GC_IMG_STAT.STATE 1).wr (TA_CFG0.TYPE 1) 10); let o : Owner := .usb; let q : Fin 65536 := 0; let t : Fin 65536 := 0; let c : Fin 16 := 3; let x : Fin 256 := 1; let y : Fin 256 := 1; let a : BitVec 32 := 0; let d : List Byte := [0]; let e := cmdEntry o 0x0C04 q t c (be 1 x ++ be 1 y ++ be 2 0 ++ wordLe a ++ d); let u := s.withCommand e; let v : State := (u.rbRequest x false y a.toNat d).2; let st : Nat := 10; (s.admits e) ∧ ((x : Nat) = 0 ∨ u.adpType x = 10) ∧ (u.rbRequest x false y a.toNat d = (.done st, v))) ∧
    (let s : State := (serving.wr GC_IMG_STAT.STATE 1); let o : Owner := .usb; let q : Fin 65536 := 0; let t : Fin 65536 := 0; let c : Fin 16 := 3; let x : Fin 256 := 0; let y : Fin 256 := 1; let a : BitVec 32 := 0; let d : List Byte := [0]; let e := cmdEntry o 0x0C04 q t c (be 1 x ++ be 1 y ++ be 2 0 ++ wordLe a ++ d); let u := s.withCommand e; let v : State := (u.rbRequest x false y a.toNat d).2; let k : Nat := 0; (s.admits e) ∧ ((x : Nat) = 0 ∨ u.adpType x = 10) ∧ (u.rbRequest x false y a.toNat d = (.waits k, v))) := by
  and_intros <;> decide +kernel

end Sys2Proof.Tests
end

section
/-!
Proofs of the statements of 00_scope: what a step does with the queue, what reads give after writes of fields and of memory, what reporting an event
changes, and the rows that write one register.
-/

namespace Sys2Proof.Machine

/-! ### A step and the queue -/

theorem step_of_pending_cons {s : State} {c : Instr} {rest : List Instr} (h : s.pending = c :: rest) : step s = exec c { s with pending := rest } := by
  simp only [step, h]

theorem step_of_pending_nil {s : State} (h : s.pending = []) : step s = .next s.tick := by
  simp only [step, h]

/-- Settles O1, by the two cases of the queue. -/
theorem stepRunsTheFrontCommand : Obligations.StepRunsTheFrontCommand :=
  ⟨fun _ _ _ => step_of_pending_cons rfl, fun _ _ _ h => step_of_pending_cons h, fun _ h => step_of_pending_nil h⟩

/-! ### Stretches of a table -/

/-- Write the values of a list at the keys from `a` on; `d` is what each key reads as when it is not listed. -/
def Tab.putFrom {α : Type} [DecidableEq α] (d : Nat → α) : Tab α → Nat → List α → Tab α
  | t, _, [] => t
  | t, a, v :: l => Tab.putFrom d (Tab.put (d a) t a v) (a + 1) l

section
variable {α : Type} [DecidableEq α] (d : Nat → α)

/-- A key outside the stretch written reads what it read before. -/
theorem Tab.get_putFrom_outside (e : α) (l : List α) {b : Nat} : ∀ (t : Tab α) (a : Nat), b < a ∨ a + l.length ≤ b →
    Tab.get e (Tab.putFrom d t a l) b = Tab.get e t b := by
  induction l with
  | nil => exact fun _ _ _ => rfl
  | cons v l ih =>
    intro t a h
    rw [List.length_cons] at h
    have hne : b ≠ a := by omega
    rw [Tab.putFrom, ih _ (a + 1) (by omega), Tab.get_put_ne e (d a) t v hne]

/-- The stretch written reads back as the list. -/
theorem Tab.get_putFrom_range (l : List α) : ∀ (t : Tab α) (a : Nat),
    ((List.range l.length).map fun i => Tab.get (d (a + i)) (Tab.putFrom d t a l) (a + i)) = l := by
  induction l with
  | nil => exact fun _ _ => rfl
  | cons v l ih =>
    intro t a
    have hhead : Tab.get (d a) (Tab.putFrom d t a (v :: l)) a = v := by
      rw [Tab.putFrom, Tab.get_putFrom_outside d _ l _ _ (.inl (Nat.lt_succ_self a)), Tab.get_put_self]
    have htail := ih (Tab.put (d a) t a v) (a + 1)
    rw [List.length_cons, List.range_succ_eq_map, List.map_cons, List.map_map, Nat.add_zero, hhead]
    simpa [Tab.putFrom, Function.comp_def, Nat.add_assoc, Nat.add_comm 1] using htail

end

/-! ### Stretches of memory -/

/-- Bytes written to management RAM or the patch area stand in its table and change nothing else (R22). -/
theorem State.setMemBytes_eq (l : List Byte) : ∀ (s : State) (a : Nat),
    s.setMemBytes a l = { s with mem := Tab.putFrom (fun _ => 0#8) s.mem a l } := by
  induction l with
  | nil => exact fun _ _ => rfl
  | cons b l ih => exact fun s a => ih (s.setMemByte a b) (a + 1)

/-- Bytes written to frame memory stand in its table and change nothing else (R22). -/
theorem State.setFrameBytes_eq (l : List Byte) : ∀ (s : State) (a : Nat),
    s.setFrameBytes a l = { s with frame := Tab.putFrom s.frameFill s.frame a l } := by
  induction l with
  | nil => exact fun _ _ => rfl
  | cons b l ih => exact fun s a => ih (s.setFrameByte a b) (a + 1)

theorem State.memBytes_setMemBytes (s : State) (a : Nat) (l : List Byte) : (s.setMemBytes a l).memBytes a l.length = l := by
  rw [State.setMemBytes_eq]
  exact Tab.get_putFrom_range (fun _ => 0#8) l s.mem a

theorem State.memByte_setMemBytes_outside (s : State) {a b : Nat} {l : List Byte} (h : b < a ∨ a + l.length ≤ b) :
    (s.setMemBytes a l).memByte b = s.memByte b := by
  rw [State.setMemBytes_eq]
  exact Tab.get_putFrom_outside (fun _ => 0#8) 0#8 l s.mem a h

theorem State.frameBytes_setFrameBytes (s : State) (a : Nat) (l : List Byte) : (s.setFrameBytes a l).frameBytes a l.length = l := by
  rw [State.setFrameBytes_eq]
  exact Tab.get_putFrom_range s.frameFill l s.frame a

theorem State.frameByte_setFrameBytes_outside (s : State) {a b : Nat} {l : List Byte} (h : b < a ∨ a + l.length ≤ b) :
    (s.setFrameBytes a l).frameByte b = s.frameByte b := by
  rw [State.setFrameBytes_eq]
  exact Tab.get_putFrom_outside s.frameFill (s.frameFill b) l s.frame a h

/-- Settles O6, from what one field and one stretch of a table read after a write. -/
theorem fieldsAndMemoriesReadBack : Obligations.FieldsAndMemoriesReadBack := by
  refine ⟨fun s f v hf => s.rd_wr_self f v hf, fun s f g v h => s.rd_wr_ne f g v h, fun s a l => ?_, fun s a l => ?_⟩
  · refine ⟨s.memBytes_setMemBytes a l, fun b h => s.memByte_setMemBytes_outside h, fun b => ?_, fun b => ?_, fun r => ?_⟩ <;>
      rw [State.setMemBytes_eq] <;> rfl
  · refine ⟨s.frameBytes_setFrameBytes a l, fun b h => s.frameByte_setFrameBytes_outside h, fun b => ?_, fun b => ?_, fun r => ?_⟩ <;>
      rw [State.setFrameBytes_eq] <;> rfl

/-! ### Reporting an event -/

/-- The registers of the log, and the flag and count of a lost notification. -/
def logRegs : List Nat := [BT_LOG_HEAD, BT_LOG_OLDEST, BT_LOG_LOST, Ev.BT_NOTIFY_LOST.flag.addr, Ev.BT_NOTIFY_LOST.count.addr]

/-- Under self-test an event is not reported (R450). -/
theorem State.raise_underTest {s : State} {e : Evt} (h : s.underTest e.source e.inst = true) : s.raise e = s := by
  simp only [State.raise, State.raiseWith, h, if_true]

/-- Outside the log and the lost notification, reporting an event does what setting its flag does: the entry and the notifications follow it (R454, R456). -/
theorem State.reg_raise_eq_setFlag {s : State} {e : Evt} (h : s.underTest e.source e.inst = false) {a : Nat} (ha : a ∉ logRegs) :
    (s.raise e).reg a = (s.setFlag e).2.reg a := by
  simp only [logRegs, List.mem_cons, List.not_mem_nil, or_false, not_or] at ha
  obtain ⟨hhead, hold, hlost, hflag, hcount⟩ := ha
  simp only [State.raise, State.raiseWith, h, Bool.false_eq_true, if_false]
  split
  · rw [State.reg_notify _ _ hhead hold hlost hflag hcount, State.reg_writeLog _ _ _ _ _ _ _ _ hhead hold hlost]
  · rfl

theorem State.rd_raise_eq_setFlag {s : State} {e : Evt} (h : s.underTest e.source e.inst = false) {f : Fld} (hf : f.addr ∉ logRegs) :
    (s.raise e).rd f = (s.setFlag e).2.rd f := by
  simp only [State.rd, State.reg_raise_eq_setFlag h hf]

section
variable (s : State) {e : Evt} (hfw : e.flag.width = 1) (hcw : e.count.width = 8)
include hfw

theorem State.rd_flag_setFlag (hfl : e.flag.lo < 32) : (s.setFlag e).2.rd e.flag = 1 := by
  have h := State.rd_wr_self (s.satAdd e.count 1) e.flag 1 (by omega)
  rw [hfw] at h
  exact h

include hcw

/-- The count stays at 255 once it is there (R10). -/
theorem State.rd_count_setFlag (hcl : e.count.lo ≤ 24) (hap : e.flag.addr ≠ e.count.addr ∨ e.flag.lo < e.count.lo ∨ e.count.lo + 8 ≤ e.flag.lo) :
    (s.setFlag e).2.rd e.count = min 255 (s.rd e.count + 1) := by
  have hne : (s.setFlag e).2.rd e.count = (s.satAdd e.count 1).rd e.count :=
    State.rd_wr_ne _ _ _ _ (by rw [hfw, hcw]; exact hap.imp Ne.symm (by omega))
  rw [hne, State.satAdd, State.rd_wr_self _ _ _ (by omega), hcw]
  exact Nat.mod_eq_of_lt (by omega)

theorem State.rd_setFlag_apart {g : Fld} (hgf : g.addr ≠ e.flag.addr ∨ g.lo + g.width ≤ e.flag.lo ∨ e.flag.lo < g.lo)
    (hgc : g.addr ≠ e.count.addr ∨ g.lo + g.width ≤ e.count.lo ∨ e.count.lo + 8 ≤ g.lo) : (s.setFlag e).2.rd g = s.rd g := by
  rw [State.setFlag, State.satAdd, State.rd_wr_ne _ _ _ _ (by rw [hfw]; exact hgf), State.rd_wr_ne _ _ _ _ (by rw [hcw]; exact hgc)]

end

/-- Settles O5: what is left outside the log is what setting the flag and counting does. -/
theorem eventSetsFlagAndCounts : Obligations.EventSetsFlagAndCounts := by
  refine ⟨fun _ _ => State.raise_underTest, fun s e hu hfw hfl hcw hcl hap hlog => ?_⟩
  have hoff : ∀ f : Fld, f.addr ∈ [e.flag.addr, e.count.addr] → (s.raise e).rd f = (s.setFlag e).2.rd f :=
    fun f hf => State.rd_raise_eq_setFlag hu (hlog f.addr hf)
  refine ⟨?_, ?_, fun a ha => s.reg_raise e ha, fun g hg hgf hgc => ?_, by simp⟩
  · rw [hoff e.flag (by simp), s.rd_flag_setFlag hfw hfl]
  · rw [hoff e.count (by simp), s.rd_count_setFlag hfw hcw hcl hap]
  · rw [hoff g hg, s.rd_setFlag_apart hfw hcw hgf hgc]

end Sys2Proof.Machine
end

section
/-!
Rows that are a direct write of one register: a granted write of a plain register changes the register and starts what its bits start.
-/

namespace Sys2Proof.Machine

/-- A bit of a word whose field has been set, in the form that `simp` gives a bit at a fixed place. -/
theorem getElem_setField (w : Word) (lo width v i : Nat) (hi : i < 32) :
    (setField w lo width v)[i] = if lo ≤ i ∧ i < lo + width then v.testBit (i - lo) else w[i] := by
  simpa only [BitVec.getLsbD_eq_getElem hi] using getLsbD_setField w lo width v i hi

/-! ### Granted writes of plain registers -/

/-- A register that a direct write reaches like any other: no fixed gate region, no key register, no allotment table, no event flags, and `free` holds of
each of its ST fields. -/
def plainReg (free : FieldSpec → Bool) (a : Nat) : Bool :=
  decide (0x340000 ≤ a ∧ a < 0x80000000) && (blockOf a).isSome && !fixedReg a && !keyReg a && (alTableOf a).isNone &&
    (regSpecAt a).any fun r => r.fields.all fun f => decide (f.access ≠ .w1c) && (!f.isSt || free f)

/-- The condition that no field meets: with it, a plain register has no ST field. -/
def noField (_ : FieldSpec) : Bool := false

/-- A field that shares no bit with LN_CTRL.TEST. -/
def apartFromTest (f : FieldSpec) : Bool := decide (f.lo + f.width ≤ 4 ∨ 4 + 1 ≤ f.lo)

/-- A granted write of a plain register that leaves its ST fields changes the register and starts what the register starts (R8, R23). -/
theorem State.writeBy_plainReg {s : State} {m : Master} {a : Nat} {v : Word} {free : FieldSpec → Bool} (hp : plainReg free a = true)
    (hg : s.grants m .write a 4) (hst : ∀ f, free f = true → getField (s.reg a) f.lo f.width = getField v f.lo f.width) :
    s.writeBy m a v = ((s.writeReg a v).triggers a v).send (.busWrite true) := by
  simp only [plainReg, Bool.and_eq_true, Bool.not_eq_true', decide_eq_true_eq, Option.any_eq_true, Option.isSome_iff_exists, Option.isNone_iff_eq_none,
    List.all_eq_true] at hp
  obtain ⟨⟨⟨⟨⟨⟨hlo, hhi⟩, b, hb⟩, hfixed⟩, hkey⟩, htable⟩, r, hr, hfields⟩ := hp
  have hchanges : r.changesSt (s.reg a) v = false := by
    simp only [RegSpec.changesSt, List.any_eq_false, Bool.and_eq_true, decide_eq_true_eq, not_and, not_not]
    intro f hf hs
    exact hst f (by simpa [hs] using (hfields f hf).2)
  have hflags : (r.fields.any fun f => decide (f.access = .w1c)) = false := by
    simp only [List.any_eq_false, decide_eq_true_eq]
    exact fun f hf => (hfields f hf).1
  exact State.writeBy_reg hg hlo hhi hb hr hfixed hchanges hkey htable hflags

/-- A row that writes a plain register without ST fields, where the bus grants it, answers the write as done after what it starts. -/
theorem State.next_writeBy {s u : State} {m : Master} {a : Nat} {v : Word} (hp : plainReg noField a = true) (hg : s.grants m .write a 4)
    (ht : (s.writeReg a v).triggers a v = u) : (.next (s.writeBy m a v) : Res) = .next (u.send (.busWrite true)) := by
  rw [State.writeBy_plainReg hp hg (fun _ h => Bool.noConfusion h), ht]

/-! ### What the bits of a register start -/

/-- The registers of the whole hub whose bits start something. -/
def startRegs : List Nat := [GC_RST, GC_WDT, PS_CTRL, KS_CTRL, BT_CTRL, TM_CMD, SW_FAR_CTRL]

/-- The gate of the block that an address falls into, and the number of the unit in it, of a register that starts at most what its unit starts. -/
def unitOf (a : Nat) : Option (Nat × Nat) := if a ∈ startRegs then none else (blockOf a).map fun b => (b.gate, b.inst a)

section
variable (s : State) (v : Word)

theorem State.triggers_GC_RST : s.triggers GC_RST v = s.resetWrite v := rfl
theorem State.triggers_GC_WDT : s.triggers GC_WDT v = if v.getLsbD 2 then s.kick else s := rfl
theorem State.triggers_PS_CTRL : s.triggers PS_CTRL v = if v.getLsbD 2 then s.psRequest (bitsOf v.toNat 0 2) else s := rfl
theorem State.triggers_KS_CTRL : s.triggers KS_CTRL v = if v.getLsbD 6 then s.ksGo (bitsOf v.toNat 0 4) (bitsOf v.toNat 4 2) else s := rfl
theorem State.triggers_BT_CTRL : s.triggers BT_CTRL v = if v.getLsbD 5 then s.bistGo else s := rfl
theorem State.triggers_TM_CMD : s.triggers TM_CMD v = if v.getLsbD 0 then s.tmCmdStep else s := rfl
theorem State.triggers_SW_FAR_CTRL : s.triggers SW_FAR_CTRL v = if v.getLsbD 2 then s.startAudit else s := rfl

theorem State.triggers_of_unitOf {a g i : Nat} (h : unitOf a = some (g, i)) :
    ∃ b : Block, b.gate = g ∧ s.triggers a v = s.instTriggers b i a v := by
  simp only [unitOf] at h
  split at h
  · cases h
  · next hne =>
    simp only [startRegs, List.mem_cons, List.not_mem_nil, or_false, not_or] at hne
    obtain ⟨b, hb, hgi⟩ := Option.map_eq_some_iff.mp h
    obtain ⟨rfl, rfl⟩ := Prod.mk.inj hgi
    exact ⟨b, rfl, by simp only [State.triggers, hne, hb, if_false]⟩

/-- A lane's register starts what the lane starts (R60, R62, R63). -/
theorem State.triggers_lane {a n : Nat} (h : unitOf a = some (10, n)) : s.triggers a v = s.laneTriggers n a v := by
  obtain ⟨b, hb, ht⟩ := s.triggers_of_unitOf v h
  rw [ht, State.instTriggers, if_pos hb]

theorem State.triggers_LN_CTRL (n : Fin 24) : s.triggers (LN_CTRL n) v = s := by
  have h : ∀ n : Fin 24, unitOf (LN_CTRL n) = some (10, n.val) := by decide
  rw [s.triggers_lane v (h n), State.laneTriggers, if_neg (by simp [LN_CTRL, LN_ES_CTRL]), if_neg (by simp [LN_CTRL, LN_PAT_CTRL]),
    if_neg (by simp [LN_CTRL, LN_INJ_CTRL])]

theorem State.triggers_LN_ES_CTRL (n : Fin 24) : s.triggers (LN_ES_CTRL n) v =
    let t := if v.getLsbD 1 then s.abortScan n else s
    if v.getLsbD 0 then t.scanStart n else t := by
  have h : ∀ n : Fin 24, unitOf (LN_ES_CTRL n) = some (10, n.val) := by decide
  rw [s.triggers_lane v (h n), State.laneTriggers, if_pos rfl]

theorem State.triggers_LN_PAT_CTRL (n : Fin 24) : s.triggers (LN_PAT_CTRL n) v = if v.getLsbD 7 then s.patClear n else s := by
  have h : ∀ n : Fin 24, unitOf (LN_PAT_CTRL n) = some (10, n.val) := by decide
  rw [s.triggers_lane v (h n), State.laneTriggers, if_neg (by simp [LN_PAT_CTRL, LN_ES_CTRL]), if_pos rfl]

theorem State.triggers_LN_INJ_CTRL (n : Fin 24) : s.triggers (LN_INJ_CTRL n) v = if v.getLsbD 11 then s.injFire n else s := by
  have h : ∀ n : Fin 24, unitOf (LN_INJ_CTRL n) = some (10, n.val) := by decide
  rw [s.triggers_lane v (h n), State.laneTriggers, if_neg (by simp [LN_INJ_CTRL, LN_ES_CTRL]), if_neg (by simp [LN_INJ_CTRL, LN_PAT_CTRL]), if_pos rfl]

theorem State.triggers_AL_ARM (p : Fin 6) : s.triggers (AL_ARM p) v =
    let t := if v.getLsbD 0 then s.arm p else s
    if v.getLsbD 1 then t.disarm p else t := by
  have h : ∀ p : Fin 6, unitOf (AL_ARM p) = some (15, p.val) := by decide
  obtain ⟨b, hb, ht⟩ := s.triggers_of_unitOf v (h p)
  rw [ht, State.instTriggers, if_neg (by omega), if_pos ⟨hb, p.isLt, rfl⟩]

theorem State.triggers_EF_CMD (n : Fin 8) : s.triggers (EF_CMD n) v = if v.getLsbD 0 then s.efClear n else s := by
  have h : ∀ n : Fin 8, unitOf (EF_CMD n) = some (22, n.val) := by decide
  obtain ⟨b, hb, ht⟩ := s.triggers_of_unitOf v (h n)
  rw [ht, State.instTriggers, if_neg (by omega), if_neg (by omega), if_pos ⟨hb, rfl⟩]

/-- A register of a block whose gate is none of those of the lanes, the scheduler and the electronic fuses starts nothing. -/
theorem State.triggers_inert {a g i : Nat} (h : unitOf a = some (g, i)) (hg : g ≠ 10 ∧ g ≠ 15 ∧ g ≠ 22) : s.triggers a v = s := by
  obtain ⟨b, hb, ht⟩ := s.triggers_of_unitOf v h
  rw [ht, State.instTriggers, if_neg (by omega), if_neg (by omega), if_neg (by omega)]

theorem State.triggers_DS_PUSH_TAIL (d : Fin 4) : s.triggers (DS_PUSH_TAIL d) v = s := by
  have h : ∀ d : Fin 4, unitOf (DS_PUSH_TAIL d) = some (16, d.val) := by decide
  exact s.triggers_inert v (h d) (by decide)

theorem State.triggers_GC_CLKEN : s.triggers GC_CLKEN v = s := by
  have h : unitOf GC_CLKEN = some (3, 0) := by decide
  exact s.triggers_inert v h (by decide)

/-- Port bits of GC_RST alone reset those ports (R353). -/
theorem State.resetWrite_ports (ports : BitVec 6) :
    s.resetWrite (setField 0#32 8 6 ports.toNat) = s.each 6 fun p t => if ports.getLsbD p then t.portReset p else t := by
  have hwarm : (setField 0#32 8 6 ports.toNat).getLsbD 0 = false := by simp [getElem_setField]
  have hport : ∀ p ∈ List.range 6, (setField 0#32 8 6 ports.toNat).getLsbD (8 + p) = ports.getLsbD p := by
    intro p hp
    have hlt : p < 6 := List.mem_range.mp hp
    rw [getLsbD_setField _ _ _ _ _ (by omega), if_pos (by omega), Nat.add_sub_cancel_left]
    rfl
  simp only [State.resetWrite, hwarm, Bool.false_eq_true, if_false, State.each]
  exact List.foldl_ext _ _ _ fun t p hp => by rw [hport p hp]

end

/-- A granted write of KS_CTRL with START runs the operation with its attributes (R379). -/
theorem State.next_ksWrite {s : State} {m : Master} (hg : s.grants m .write KS_CTRL 4) {op attr : Nat} (ho : op < 16) (ha : attr < 4) :
    (.next (s.ksWrite m op attr) : Res) =
      .next (((s.writeReg KS_CTRL (BitVec.ofNat 32 (64 + 16 * attr + op))).ksGo op attr).send (.busWrite true)) := by
  refine State.next_writeBy (by decide) hg ?_
  have hv : (BitVec.ofNat 32 (64 + 16 * attr + op)).toNat = 64 + 16 * attr + op := Nat.mod_eq_of_lt (by omega)
  have hstart : (BitVec.ofNat 32 (64 + 16 * attr + op)).getLsbD 6 = true := by
    rw [BitVec.getLsbD, hv, Nat.testBit_eq_decide_div_mod_eq]
    exact decide_eq_true (by omega)
  have hop : bitsOf (64 + 16 * attr + op) 0 4 = op := by simp only [bitsOf]; omega
  have hattr : bitsOf (64 + 16 * attr + op) 4 2 = attr := by simp only [bitsOf]; omega
  rw [State.triggers_KS_CTRL, if_pos hstart, hv, hop, hattr]

/-! ### The rows -/

section
variable {s : State} {m : Master}

/-- TEST_WRITE keeps every field of LN_CTRL but TEST, so no ST field changes (R61). -/
theorem exec_testWrite_granted {n : Fin 24} (k : Bool) (hg : s.grants m .write (LN_CTRL n) 4) :
    exec (.testWrite m n k) s = .next ((s.writeReg (LN_CTRL n) (setField (s.reg (LN_CTRL n)) 4 1 k.toNat)).send (.busWrite true)) := by
  have hplain : ∀ n : Fin 24, plainReg apartFromTest (LN_CTRL n) = true := by decide
  have hkeep : ∀ f, apartFromTest f = true → getField (s.reg (LN_CTRL n)) f.lo f.width =
      getField (setField (s.reg (LN_CTRL n)) 4 1 k.toNat) f.lo f.width :=
    fun f hf => (getField_setField_apart _ _ _ _ _ _ (of_decide_eq_true hf)).symm
  have hw := State.writeBy_plainReg (hplain n) hg hkeep
  rw [State.triggers_LN_CTRL] at hw
  exact congrArg Host.Outcome.next hw

theorem plainReg_LN_ES_CTRL : ∀ n : Fin 24, plainReg noField (LN_ES_CTRL n) = true := by decide

theorem exec_esStart_granted {n : Fin 24} (v : Word) (hg : s.grants m .write (LN_ES_CTRL n) 4) :
    exec (.esStart m n v) s = .next (((s.writeReg (LN_ES_CTRL n) (setField v 0 2 1)).scanStart n).send (.busWrite true)) :=
  State.next_writeBy (plainReg_LN_ES_CTRL n) hg (by simp [State.triggers_LN_ES_CTRL, getElem_setField, Nat.testBit_eq_decide_div_mod_eq])

theorem exec_esStop_granted {n : Fin 24} (v : Word) (hg : s.grants m .write (LN_ES_CTRL n) 4) :
    exec (.esStop m n v) s = .next (((s.writeReg (LN_ES_CTRL n) (setField v 0 2 2)).abortScan n).send (.busWrite true)) :=
  State.next_writeBy (plainReg_LN_ES_CTRL n) hg (by simp [State.triggers_LN_ES_CTRL, getElem_setField, Nat.testBit_eq_decide_div_mod_eq])

theorem exec_patClear_granted {n : Fin 24} (v : Word) (hg : s.grants m .write (LN_PAT_CTRL n) 4) :
    exec (.patClear m n v) s = .next (((s.writeReg (LN_PAT_CTRL n) (setField v 7 1 1)).patClear n).send (.busWrite true)) := by
  have hplain : ∀ n : Fin 24, plainReg noField (LN_PAT_CTRL n) = true := by decide
  exact State.next_writeBy (hplain n) hg (by simp [State.triggers_LN_PAT_CTRL, getElem_setField])

theorem exec_injFire_granted {n : Fin 24} (v : Word) (hg : s.grants m .write (LN_INJ_CTRL n) 4) :
    exec (.injFire m n v) s = .next (((s.writeReg (LN_INJ_CTRL n) (setField v 11 1 1)).injFire n).send (.busWrite true)) := by
  have hplain : ∀ n : Fin 24, plainReg noField (LN_INJ_CTRL n) = true := by decide
  exact State.next_writeBy (hplain n) hg (by simp [State.triggers_LN_INJ_CTRL, getElem_setField])

theorem exec_farrierStart_granted (v : Word) (hg : s.grants m .write SW_FAR_CTRL 4) :
    exec (.farrierStart m v) s = .next (((s.writeReg SW_FAR_CTRL (setField v 2 1 1)).startAudit).send (.busWrite true)) :=
  State.next_writeBy (by decide) hg (by simp [State.triggers_SW_FAR_CTRL, getElem_setField])

theorem plainReg_AL_ARM : ∀ p : Fin 6, plainReg noField (AL_ARM p) = true := by decide

theorem exec_armWrite_granted {p : Fin 6} (hg : s.grants m .write (AL_ARM p) 4) :
    exec (.armWrite m p) s = .next (((s.writeReg (AL_ARM p) 1#32).arm p).send (.busWrite true)) :=
  State.next_writeBy (plainReg_AL_ARM p) hg (by simp [State.triggers_AL_ARM])

theorem exec_disarmWrite_granted {p : Fin 6} (hg : s.grants m .write (AL_ARM p) 4) :
    exec (.disarmWrite m p) s = .next (((s.writeReg (AL_ARM p) 2#32).disarm p).send (.busWrite true)) :=
  State.next_writeBy (plainReg_AL_ARM p) hg (by simp [State.triggers_AL_ARM])

theorem exec_pushTailWrite_granted {d : Fin 4} (x : Fin 4096) (hg : s.grants m .write (DS_PUSH_TAIL d) 4) :
    exec (.pushTailWrite m d x) s = .next ((s.writeReg (DS_PUSH_TAIL d) (BitVec.ofNat 32 x)).send (.busWrite true)) := by
  have hplain : ∀ d : Fin 4, plainReg noField (DS_PUSH_TAIL d) = true := by decide
  exact State.next_writeBy (hplain d) hg (State.triggers_DS_PUSH_TAIL _ _ d)

theorem exec_tmCmdStep_granted (hg : s.grants m .write TM_CMD 4) :
    exec (.tmCmdStep m) s = .next (((s.writeReg TM_CMD 1#32).tmCmdStep).send (.busWrite true)) :=
  State.next_writeBy (by decide) hg (by simp [State.triggers_TM_CMD])

theorem exec_efCmdClear_granted {n : Fin 8} (hg : s.grants m .write (EF_CMD n) 4) :
    exec (.efCmdClear m n) s = .next (((s.writeReg (EF_CMD n) 1#32).efClear n).send (.busWrite true)) := by
  have hplain : ∀ n : Fin 8, plainReg noField (EF_CMD n) = true := by decide
  exact State.next_writeBy (hplain n) hg (by simp [State.triggers_EF_CMD])

theorem exec_clockEnableWrite_granted (v : Word) (hg : s.grants m .write GC_CLKEN 4) :
    exec (.clockEnableWrite m v) s = .next ((s.writeReg GC_CLKEN v).send (.busWrite true)) :=
  State.next_writeBy (by decide) hg (State.triggers_GC_CLKEN _ v)

theorem plainReg_GC_RST : plainReg noField GC_RST = true := by decide

/-- GC_RST with WARM alone resets no port. -/
theorem exec_warmResetWrite_granted (hg : s.grants m .write GC_RST 4) :
    exec (.warmResetWrite m) s = .next (((s.writeReg GC_RST 1#32).requestWarm 3).send (.busWrite true)) :=
  State.next_writeBy plainReg_GC_RST hg rfl

theorem exec_portResetWrite_granted (ports : BitVec 6) (hg : s.grants m .write GC_RST 4) :
    exec (.portResetWrite m ports) s = .next (((s.writeReg GC_RST (setField 0#32 8 6 ports.toNat)).each 6
      fun p t => if ports.getLsbD p then t.portReset p else t).send (.busWrite true)) :=
  State.next_writeBy plainReg_GC_RST hg (by rw [State.triggers_GC_RST, State.resetWrite_ports])

theorem exec_watchdogKick_granted (v : Word) (hg : s.grants m .write GC_WDT 4) :
    exec (.watchdogKick m v) s = .next (((s.writeReg GC_WDT (setField v 2 1 1)).kick).send (.busWrite true)) :=
  State.next_writeBy (by decide) hg (by simp [State.triggers_GC_WDT, getElem_setField])

theorem exec_psGoWrite_granted (x : Fin 4) (hg : s.grants m .write PS_CTRL 4) :
    exec (.psGoWrite m x) s = .next (((s.writeReg PS_CTRL (BitVec.ofNat 32 (4 + x))).psRequest x).send (.busWrite true)) := by
  have hbits : ∀ x : Fin 4, (BitVec.ofNat 32 (4 + x)).getLsbD 2 = true ∧ bitsOf (BitVec.ofNat 32 (4 + x)).toNat 0 2 = x := by decide
  obtain ⟨hgo, htarget⟩ := hbits x
  exact State.next_writeBy (by decide) hg (by rw [State.triggers_PS_CTRL, if_pos hgo, htarget])

theorem exec_bistStart_granted (b : Fin 32) (hg : s.grants m .write BT_CTRL 4) :
    exec (.bistStart m b) s = .next (((s.writeReg BT_CTRL (BitVec.ofNat 32 (32 + b))).bistGo).send (.busWrite true)) := by
  have hstart : ∀ b : Fin 32, (BitVec.ofNat 32 (32 + b)).getLsbD 5 = true := by decide
  exact State.next_writeBy (by decide) hg (by rw [State.triggers_BT_CTRL, if_pos (hstart b)])

end

/-- Settles O55, row by row. -/
theorem rowsThatWriteOneRegister : Obligations.RowsThatWriteOneRegister :=
  ⟨fun _ _ _ k hg => exec_testWrite_granted k hg,
    fun _ _ _ v hg => exec_esStart_granted v hg,
    fun _ _ _ v hg => exec_esStop_granted v hg,
    fun _ _ _ v hg => exec_patClear_granted v hg,
    fun _ _ _ v hg => exec_injFire_granted v hg,
    fun _ _ v hg => exec_farrierStart_granted v hg,
    fun _ _ _ hg => exec_armWrite_granted hg,
    fun _ _ _ hg => exec_disarmWrite_granted hg,
    fun _ _ _ x hg => exec_pushTailWrite_granted x hg,
    fun _ _ hg => exec_tmCmdStep_granted hg,
    fun _ _ _ hg => exec_efCmdClear_granted hg,
    fun _ _ v hg => exec_clockEnableWrite_granted v hg,
    fun _ _ hg => exec_warmResetWrite_granted hg,
    fun _ _ v hg => exec_watchdogKick_granted v hg,
    fun _ _ x hg => exec_psGoWrite_granted x hg,
    fun _ _ x hg => State.next_ksWrite hg (by decide) x.isLt,
    fun _ _ x hg => State.next_ksWrite hg (by decide) x.isLt,
    fun _ _ x hg => State.next_ksWrite hg (by decide) x.isLt,
    fun _ _ hg => State.next_ksWrite hg (by decide) (by decide),
    fun _ _ hg => State.next_ksWrite hg (by decide) (by decide),
    fun _ _ hg => State.next_ksWrite hg (by decide) (by decide),
    fun _ _ hg => State.next_ksWrite hg (by decide) (by decide),
    fun _ _ hg => State.next_ksWrite hg (by decide) (by decide),
    fun _ _ b hg => exec_bistStart_granted b hg,
    fun _ _ v hg => exec_portResetWrite_granted v hg⟩

end Sys2Proof.Machine
end

section
/-!
Proofs of the statements of 01_hub_at_a_glance: the canonical form of the memories and of the register table, which every command keeps and so every step;
and what the rows of the local PLLs, of the clock monitors and of the watchdog do.
-/

namespace Sys2Proof.Machine

/-! ### What every command and every step keeps -/

/-- Every command leaves the queue of waiting commands and keeps the canonical form and the history (`Keeps`), as the one operation it runs does. -/
theorem exec_keeps (s u : State) : ∀ c : Instr, exec c s = .next u → Keeps s u
  | .markerBlockReceive n c f r gap skew => execMarkerBlockReceive_keeps (.rfl' s) n c f r gap skew u
  | .dataBlockReceive n block => execDataBlockReceive_keeps (.rfl' s) n block u
  | .codewordReceive p a b c => execCodewordReceive_keeps (.rfl' s) p a b c u
  | .trainingFrameReceive n w r roundTrip => execTrainingFrameReceive_keeps (.rfl' s) n w r roundTrip u
  | .trainingStepDone p locked => execTrainingStepDone_keeps (.rfl' s) p locked u
  | .qualWindowEnd n corrected uncorr => execQualWindowEnd_keeps (.rfl' s) n corrected uncorr u
  | .trainingRetry p => execTrainingRetry_keeps (.rfl' s) p u
  | .testWrite m n on => execTestWrite_keeps (.rfl' s) m n on u
  | .giveLane p => execGiveLane_keeps (.rfl' s) p u
  | .lockPatternEnd p => execLockPatternEnd_keeps (.rfl' s) p u
  | .joinMarkerReceive n payload => execJoinMarkerReceive_keeps (.rfl' s) n payload u
  | .leadFail n => execLeadFail_keeps (.rfl' s) n u
  | .laneRetrainDone n ok => execLaneRetrainDone_keeps (.rfl' s) n ok u
  | .lowPowerEnter p => execLowPowerEnter_keeps (.rfl' s) p u
  | .esStart m n v => execEsStart_keeps (.rfl' s) m n v u
  | .esStop m n v => execEsStop_keeps (.rfl' s) m n v u
  | .esDone n errors => execEsDone_keeps (.rfl' s) n errors u
  | .patClear m n v => execPatClear_keeps (.rfl' s) m n v u
  | .patLocked seen => execPatLocked_keeps (.rfl' s) seen u
  | .patLockDrop n wrong errors => execPatLockDrop_keeps (.rfl' s) n wrong errors u
  | .injFire m n v => execInjFire_keeps (.rfl' s) m n v u
  | .injInterval n => execInjInterval_keeps (.rfl' s) n u
  | .cellReceive p => execCellReceive_keeps (.rfl' s) p u
  | .packetClassTimeout p tc => execPacketClassTimeout_keeps (.rfl' s) p tc u
  | .creditTimer p => execCreditTimer_keeps (.rfl' s) p u
  | .versionOffer p vers policy role floor uid => execVersionOffer_keeps (.rfl' s) p vers policy role floor uid u
  | .versionOfferRepeat p => execVersionOfferRepeat_keeps (.rfl' s) p u
  | .versionAck p version => execVersionAck_keeps (.rfl' s) p version u
  | .versionTimeout p => execVersionTimeout_keeps (.rfl' s) p u
  | .creditInit p init => execCreditInit_keeps (.rfl' s) p init u
  | .credit p cum => execCredit_keeps (.rfl' s) p cum u
  | .planFlip p table cw => execPlanFlip_keeps (.rfl' s) p table cw u
  | .leadChange p lane giver newPos cw => execLeadChange_keeps (.rfl' s) p lane giver newPos cw u
  | .leadResult p lane result cw => execLeadResult_keeps (.rfl' s) p lane result cw u
  | .laneFault p lane reason => execLaneFault_keeps (.rfl' s) p lane reason u
  | .restripe p lane cw => execRestripe_keeps (.rfl' s) p lane cw u
  | .lowPower p lane action cw => execLowPower_keeps (.rfl' s) p lane action cw u
  | .authHello p nonce uid => execAuthHello_keeps (.rfl' s) p nonce uid u
  | .authCert p index count cert => execAuthCert_keeps (.rfl' s) p index count cert u
  | .authKeyshare p pub sig => execAuthKeyshare_keeps (.rfl' s) p pub sig u
  | .authFinish p mac => execAuthFinish_keeps (.rfl' s) p mac u
  | .authFail p reason => execAuthFail_keeps (.rfl' s) p reason u
  | .authStepTimeout p => execAuthStepTimeout_keeps (.rfl' s) p u
  | .authRetry p => execAuthRetry_keeps (.rfl' s) p u
  | .rekeyTrigger p => execRekeyTrigger_keeps (.rfl' s) p u
  | .keyUpdate p kp => execKeyUpdate_keeps (.rfl' s) p kp u
  | .keyUpdateAck p kp => execKeyUpdateAck_keeps (.rfl' s) p kp u
  | .syncExchange p => execSyncExchange_keeps (.rfl' s) p u
  | .sync p id => execSync_keeps (.rfl' s) p id u
  | .syncFollow p id t1 => execSyncFollow_keeps (.rfl' s) p id t1 u
  | .delayReq p id => execDelayReq_keeps (.rfl' s) p id u
  | .delayResp p id t4 => execDelayResp_keeps (.rfl' s) p id t4 u
  | .roleSwapReq p role uid => execRoleSwapReq_keeps (.rfl' s) p role uid u
  | .roleSwapAck p result => execRoleSwapAck_keeps (.rfl' s) p result u
  | .linkDown p reason => execLinkDown_keeps (.rfl' s) p reason u
  | .echo p token => execEcho_keeps (.rfl' s) p token u
  | .echoReply p token => execEchoReply_keeps (.rfl' s) p token u
  | .wakePatternRepeat p => execWakePatternRepeat_keeps (.rfl' s) p u
  | .wakePatternDetect p => execWakePatternDetect_keeps (.rfl' s) p u
  | .enumProbe p hop => execEnumProbe_keeps (.rfl' s) p hop u
  | .enumReply via src port vers role linked uid declared => execEnumReply_keeps (.rfl' s) via src port vers role linked uid declared u
  | .addrAssign p addr str uid => execAddrAssign_keeps (.rfl' s) p addr str uid u
  | .routeSet src count entries => execRouteSet_keeps (.rfl' s) src count entries u
  | .routeAck src applied status => execRouteAck_keeps (.rfl' s) src applied status u
  | .floorGossip lowest origin age => execFloorGossip_keeps (.rfl' s) lowest origin age u
  | .gmAnnounce p prio cls steps uid => execGmAnnounce_keeps (.rfl' s) p prio cls steps uid u
  | .hubGone hub => execHubGone_keeps (.rfl' s) hub u
  | .eventNotify src entry => execEventNotify_keeps (.rfl' s) src entry u
  | .pathProbe path sent => execPathProbe_keeps (.rfl' s) path sent u
  | .tunnelOpen srcHub srcAdp dstAdp dstHub cls tc => execTunnelOpen_keeps (.rfl' s) srcHub srcAdp dstAdp dstHub cls tc u
  | .tunnelClose adp hub => execTunnelClose_keeps (.rfl' s) adp hub u
  | .confirm a seq status => execConfirm_keeps (.rfl' s) a seq status u
  | .command src neighbour frame => execCommand_keeps (.rfl' s) src neighbour frame u
  | .translatePacket => execTranslatePacket_keeps (.rfl' s) u
  | .nativeUnitDispatch a unit secondary => execNativeUnitDispatch_keeps (.rfl' s) a unit secondary u
  | .workItemComplete e => execWorkItemComplete_keeps (.rfl' s) e u
  | .steal e => execSteal_keeps (.rfl' s) e u
  | .xsteal e => execXsteal_keeps (.rfl' s) e u
  | .stealMoveDone e => execStealMoveDone_keeps (.rfl' s) e u
  | .egressQueueRoom e => execEgressQueueRoom_keeps (.rfl' s) e u
  | .egressPacketArrive a => execEgressPacketArrive_keeps (.rfl' s) a u
  | .rsqTmo a => execRsqTmo_keeps (.rfl' s) a u
  | .packetAdmit p => execPacketAdmit_keeps (.rfl' s) p u
  | .reserveWaitAdmit p => execReserveWaitAdmit_keeps (.rfl' s) p u
  | .crossbarGrant o tc read => execCrossbarGrant_keeps (.rfl' s) o tc read u
  | .mirrorSend => execMirrorSend_keeps (.rfl' s) u
  | .auditPeriod => execAuditPeriod_keeps (.rfl' s) u
  | .farrierStart m v => execFarrierStart_keeps (.rfl' s) m v u
  | .auditComplete dups => execAuditComplete_keeps (.rfl' s) dups u
  | .cellSlot p => execCellSlot_keeps (.rfl' s) p u
  | .gateEntryEnd p => execGateEntryEnd_keeps (.rfl' s) p u
  | .epochBoundary => execEpochBoundary_keeps (.rfl' s) u
  | .decisionPoint => execDecisionPoint_keeps (.rfl' s) u
  | .armWrite m p => execArmWrite_keeps (.rfl' s) m p u
  | .disarmWrite m p => execDisarmWrite_keeps (.rfl' s) m p u
  | .probeStart p => execProbeStart_keeps (.rfl' s) p u
  | .peerAnnounce p => execPeerAnnounce_keeps (.rfl' s) p u
  | .gmAnnounceTimer => execGmAnnounceTimer_keeps (.rfl' s) u
  | .gmAnnounceExpire p => execGmAnnounceExpire_keeps (.rfl' s) p u
  | .paddockArrive => execPaddockArrive_keeps (.rfl' s) u
  | .paddockRelease => execPaddockRelease_keeps (.rfl' s) u
  | .floorGossipTimer => execFloorGossipTimer_keeps (.rfl' s) u
  | .floorRecordLapse => execFloorRecordLapse_keeps (.rfl' s) u
  | .captureFrameStart d f tiles => execCaptureFrameStart_keeps (.rfl' s) d f tiles u
  | .tileExtract d => execTileExtract_keeps (.rfl' s) d u
  | .refreshPeriod d => execRefreshPeriod_keeps (.rfl' s) d u
  | .captureNoFrame d => execCaptureNoFrame_keeps (.rfl' s) d u
  | .hpdLowEnd d => execHpdLowEnd_keeps (.rfl' s) d u
  | .hpdHoldExpire d => execHpdHoldExpire_keeps (.rfl' s) d u
  | .pushTailWrite m d tail => execPushTailWrite_keeps (.rfl' s) m d tail u
  | .pushRecordSend d => execPushRecordSend_keeps (.rfl' s) d u
  | .tileRecord d record enc => execTileRecord_keeps (.rfl' s) d record enc u
  | .frameEnd d full frame tiles => execFrameEnd_keeps (.rfl' s) d full frame tiles u
  | .format d f => execFormat_keeps (.rfl' s) d f u
  | .refreshReq d reason frame => execRefreshReq_keeps (.rfl' s) d reason frame u
  | .sinkEdid d idx total block => execSinkEdid_keeps (.rfl' s) d idx total block u
  | .sinkStatus d flags frame refresh => execSinkStatus_keeps (.rfl' s) d flags frame refresh u
  | .hdcpTopo d depth count devs casc ids => execHdcpTopo_keeps (.rfl' s) d depth count devs casc ids u
  | .vblankStart d lines => execVblankStart_keeps (.rfl' s) d lines u
  | .stretchEnd d => execStretchEnd_keeps (.rfl' s) d u
  | .scanoutFrameStart d => execScanoutFrameStart_keeps (.rfl' s) d u
  | .commitTmo d => execCommitTmo_keeps (.rfl' s) d u
  | .refreshReqRepeat d => execRefreshReqRepeat_keeps (.rfl' s) d u
  | .sinkStatusTimer d => execSinkStatusTimer_keeps (.rfl' s) d u
  | .underrun dry => execUnderrun_keeps (.rfl' s) dry u
  | .dpLoss d => execDpLoss_keeps (.rfl' s) d u
  | .hpdReturn d edid => execHpdReturn_keeps (.rfl' s) d edid u
  | .relayInputStop d => execRelayInputStop_keeps (.rfl' s) d u
  | .mcReady failed => execMcReady_keeps (.rfl' s) failed u
  | .tlpRecord a record seq ackreq peer => execTlpRecord_keeps (.rfl' s) a record seq ackreq peer u
  | .linkState a up speed width => execLinkState_keeps (.rfl' s) a up speed width u
  | .linkStateTimer b => execLinkStateTimer_keeps (.rfl' s) b u
  | .pcieLinkChange b up speed width => execPcieLinkChange_keeps (.rfl' s) b up speed width u
  | .resetRecord a kind => execResetRecord_keeps (.rfl' s) a kind u
  | .pbErrorRecord a cause status seq addr => execPbErrorRecord_keeps (.rfl' s) a cause status seq addr u
  | .powerControllerControl a off => execPowerControllerControl_keeps (.rfl' s) a off u
  | .secondaryBusReset a => execSecondaryBusReset_keeps (.rfl' s) a u
  | .pcieAck a seq => execPcieAck_keeps (.rfl' s) a seq u
  | .confirmTimeout a => execConfirmTimeout_keeps (.rfl' s) a u
  | .cplTimeout a => execCplTimeout_keeps (.rfl' s) a u
  | .perstRelease b => execPerstRelease_keeps (.rfl' s) b u
  | .readRecord a tag size addr => execReadRecord_keeps (.rfl' s) a tag size addr u
  | .writeRecord a tag addr data seq ackreq => execWriteRecord_keeps (.rfl' s) a tag addr data seq ackreq u
  | .readResp a tag status data => execReadResp_keeps (.rfl' s) a tag status data u
  | .rbErrorRecord a tag status addr => execRbErrorRecord_keeps (.rfl' s) a tag status addr u
  | .i2cDone status data => execI2cDone_keeps (.rfl' s) status data u
  | .rbReadTimeout tag => execRbReadTimeout_keeps (.rfl' s) tag u
  | .signalAccept n level => execSignalAccept_keeps (.rfl' s) n level u
  | .groupUpdate g => execGroupUpdate_keeps (.rfl' s) g u
  | .updateReceive g ts value edges interval => execUpdateReceive_keeps (.rfl' s) g ts value edges interval u
  | .timedApply g => execTimedApply_keeps (.rfl' s) g u
  | .stale g => execStale_keeps (.rfl' s) g u
  | .upstreamConnect src ss => execUpstreamConnect_keeps (.rfl' s) src ss u
  | .headerRecord a header => execHeaderRecord_keeps (.rfl' s) a header u
  | .dataRecord a header data => execDataRecord_keeps (.rfl' s) a header data u
  | .itpRecord a ts itp => execItpRecord_keeps (.rfl' s) a ts itp u
  | .itpRelease delta => execItpRelease_keeps (.rfl' s) delta u
  | .usb3PortRecord a event => execUsb3PortRecord_keeps (.rfl' s) a event u
  | .hostToken k t => execHostToken_keeps (.rfl' s) k t u
  | .xfer kind addr ep toggle iso data pid rtoggle rdata => execXfer_keeps (.rfl' s) kind addr ep toggle iso data pid rtoggle rdata u
  | .result k pid addr ep isIn toggle data => execResult_keeps (.rfl' s) k pid addr ep isIn toggle data u
  | .sofRecord ts frame micro => execSofRecord_keeps (.rfl' s) ts frame micro u
  | .sofRelease => execSofRelease_keeps (.rfl' s) u
  | .sofLate => execSofLate_keeps (.rfl' s) u
  | .usb2PortRecord a event => execUsb2PortRecord_keeps (.rfl' s) a event u
  | .usbAttachDebounce n hs ss => execUsbAttachDebounce_keeps (.rfl' s) n hs ss u
  | .overcurrent n => execOvercurrent_keeps (.rfl' s) n u
  | .suspendEntry => execSuspendEntry_keeps (.rfl' s) u
  | .remoteWake n => execRemoteWake_keeps (.rfl' s) n u
  | .sendCommand wLength data status => execSendCommand_keeps (.rfl' s) wLength data status u
  | .getResponse seq wLength => execGetResponse_keeps (.rfl' s) seq wLength u
  | .bulkFrame data last => execBulkFrame_keeps (.rfl' s) data last u
  | .busReset => execBusReset_keeps (.rfl' s) u
  | .frameReceive m frame fcsOk stamp => execFrameReceive_keeps (.rfl' s) m frame fcsOk stamp u
  | .pfcRepeat m p => execPfcRepeat_keeps (.rfl' s) m p u
  | .pfcFrame m pfc enable quanta => execPfcFrame_keeps (.rfl' s) m pfc enable quanta u
  | .pauseExpire m p => execPauseExpire_keeps (.rfl' s) m p u
  | .frameTransmit m => execFrameTransmit_keeps (.rfl' s) m u
  | .ethLinkChange m up speed => execEthLinkChange_keeps (.rfl' s) m up speed u
  | .txtsHeadRead m mac => execTxtsHeadRead_keeps (.rfl' s) m mac u
  | .secondsRollover => execSecondsRollover_keeps (.rfl' s) u
  | .tmNsRead m => execTmNsRead_keeps (.rfl' s) m u
  | .servoSample src theta ms => execServoSample_keeps (.rfl' s) src theta ms u
  | .sourceNoSample => execSourceNoSample_keeps (.rfl' s) u
  | .acquireTimer => execAcquireTimer_keeps (.rfl' s) u
  | .tmCmdStep m => execTmCmdStep_keeps (.rfl' s) m u
  | .ppsInEdge t => execPpsInEdge_keeps (.rfl' s) t u
  | .ppsMiss => execPpsMiss_keeps (.rfl' s) u
  | .gptpSyncTimer m => execGptpSyncTimer_keeps (.rfl' s) m u
  | .pdelayTimer m => execPdelayTimer_keeps (.rfl' s) m u
  | .ccAttachDebounce p source cc2 ra => execCcAttachDebounce_keeps (.rfl' s) p source cc2 ra u
  | .detach p => execDetach_keeps (.rfl' s) p u
  | .sourceCapTimer p => execSourceCapTimer_keeps (.rfl' s) p u
  | .sourceCapabilities p caps epr rev2 => execSourceCapabilities_keeps (.rfl' s) p caps epr rev2 u
  | .request p pos volt cur rev2 => execRequest_keeps (.rfl' s) p pos volt cur rev2 u
  | .transitionDone p => execTransitionDone_keeps (.rfl' s) p u
  | .psRdy p => execPsRdy_keeps (.rfl' s) p u
  | .sinkCapabilities p caps epr rev2 frs => execSinkCapabilities_keeps (.rfl' s) p caps epr rev2 frs u
  | .ppsRequestTimeout p => execPpsRequestTimeout_keeps (.rfl' s) p u
  | .ppsRequestTimer p => execPpsRequestTimer_keeps (.rfl' s) p u
  | .eprMode p kind => execEprMode_keeps (.rfl' s) p kind u
  | .eprKeepalive p => execEprKeepalive_keeps (.rfl' s) p u
  | .eprKeepaliveTimeout p => execEprKeepaliveTimeout_keeps (.rfl' s) p u
  | .eprKeepaliveTimer p => execEprKeepaliveTimer_keeps (.rfl' s) p u
  | .capsCutTimeout p => execCapsCutTimeout_keeps (.rfl' s) p u
  | .prSwap p => execPrSwap_keeps (.rfl' s) p u
  | .drSwap p => execDrSwap_keeps (.rfl' s) p u
  | .vconnSwap p => execVconnSwap_keeps (.rfl' s) p u
  | .swapRetry p => execSwapRetry_keeps (.rfl' s) p u
  | .vconnOc p => execVconnOc_keeps (.rfl' s) p u
  | .frSwap p => execFrSwap_keeps (.rfl' s) p u
  | .frsSignalDetect p => execFrsSignalDetect_keeps (.rfl' s) p u
  | .retakeTimer => execRetakeTimer_keeps (.rfl' s) u
  | .vbusRangeFault p => execVbusRangeFault_keeps (.rfl' s) p u
  | .hardReset p => execHardReset_keeps (.rfl' s) p u
  | .discoverIdentity p kind vdo cable amps5 epr => execDiscoverIdentity_keeps (.rfl' s) p kind vdo cable amps5 epr u
  | .discoverSvids p request lists => execDiscoverSvids_keeps (.rfl' s) p request lists u
  | .discoverModes p request dp vdo => execDiscoverModes_keeps (.rfl' s) p request dp vdo u
  | .enterMode p kind vdo => execEnterMode_keeps (.rfl' s) p kind vdo u
  | .exitMode p answer => execExitMode_keeps (.rfl' s) p answer u
  | .configure p c => execConfigure_keeps (.rfl' s) p c u
  | .attention p => execAttention_keeps (.rfl' s) p u
  | .pdFirmwareMessage p listed ready => execPdFirmwareMessage_keeps (.rfl' s) p listed ready u
  | .pdFwTimeout p => execPdFwTimeout_keeps (.rfl' s) p u
  | .shortCircuit n => execShortCircuit_keeps (.rfl' s) n u
  | .limitStart b => execLimitStart_keeps (.rfl' s) b u
  | .faultTimerExpire n => execFaultTimerExpire_keeps (.rfl' s) n u
  | .faultTimerClear n => execFaultTimerClear_keeps (.rfl' s) n u
  | .pgRise n => execPgRise_keeps (.rfl' s) n u
  | .channelClose n orient => execChannelClose_keeps (.rfl' s) n orient u
  | .channelOpen n => execChannelOpen_keeps (.rfl' s) n u
  | .reverse n => execReverse_keeps (.rfl' s) n u
  | .windowEnter k => execWindowEnter_keeps (.rfl' s) k u
  | .insertionDebounce k => execInsertionDebounce_keeps (.rfl' s) k u
  | .prechargeDone k => execPrechargeDone_keeps (.rfl' s) k u
  | .prechargeTimeout k => execPrechargeTimeout_keeps (.rfl' s) k u
  | .windowFault k above => execWindowFault_keeps (.rfl' s) k above u
  | .reverseBlock k => execReverseBlock_keeps (.rfl' s) k u
  | .blockRelease k => execBlockRelease_keeps (.rfl' s) k u
  | .inputValidChange => execInputValidChange_keeps (.rfl' s) u
  | .retryTimerExpire n => execRetryTimerExpire_keeps (.rfl' s) n u
  | .tripsReset n => execTripsReset_keeps (.rfl' s) n u
  | .efCmdClear m n => execEfCmdClear_keeps (.rfl' s) m n u
  | .powerOnResetRelease straps => execPowerOnResetRelease_keeps (.rfl' s) straps u
  | .pinReset => execPinReset_keeps (.rfl' s) u
  | .testReset => execTestReset_keeps (.rfl' s) u
  | .coreResetRelease => execCoreResetRelease_keeps (.rfl' s) u
  | .coreSupplyFail => execCoreSupplyFail_keeps (.rfl' s) u
  | .refWindow count => execRefWindow_keeps (.rfl' s) count u
  | .rootPllLock => execRootPllLock_keeps (.rfl' s) u
  | .rampStep c => execRampStep_keeps (.rfl' s) c u
  | .rcTrimWindow rc => execRcTrimWindow_keeps (.rfl' s) rc u
  | .sofTrimWindow rc => execSofTrimWindow_keeps (.rfl' s) rc u
  | .clockEnableWrite m v => execClockEnableWrite_keeps (.rfl' s) m v u
  | .clockFault c => execClockFault_keeps (.rfl' s) c u
  | .referenceLoss => execReferenceLoss_keeps (.rfl' s) u
  | .lanePllUnlock p => execLanePllUnlock_keeps (.rfl' s) p u
  | .refFailTimer => execRefFailTimer_keeps (.rfl' s) u
  | .pllLockTimeout => execPllLockTimeout_keeps (.rfl' s) u
  | .warmResetWrite m => execWarmResetWrite_keeps (.rfl' s) m u
  | .warmReset => execWarmReset_keeps (.rfl' s) u
  | .portResetWrite m ports => execPortResetWrite_keeps (.rfl' s) m ports u
  | .watchdogKick m v => execWatchdogKick_keeps (.rfl' s) m v u
  | .watchdogExpire => execWatchdogExpire_keeps (.rfl' s) u
  | .psGoWrite m target => execPsGoWrite_keeps (.rfl' s) m target u
  | .handshakeRound => execHandshakeRound_keeps (.rfl' s) u
  | .delayExpire => execDelayExpire_keeps (.rfl' s) u
  | .maxWaitExpire => execMaxWaitExpire_keeps (.rfl' s) u
  | .entryComplete => execEntryComplete_keeps (.rfl' s) u
  | .wakeEvent src last8 => execWakeEvent_keeps (.rfl' s) src last8 u
  | .wakeComplete slept => execWakeComplete_keeps (.rfl' s) slept u
  | .wakeTimerExpire => execWakeTimerExpire_keeps (.rfl' s) u
  | .domainIdleOff d => execDomainIdleOff_keeps (.rfl' s) d u
  | .domainWakeDone d us => execDomainWakeDone_keeps (.rfl' s) d us u
  | .load m attr => execLoad_keeps (.rfl' s) m attr u
  | .loadWrapped m attr => execLoadWrapped_keeps (.rfl' s) m attr u
  | .unwrapLoad m attr => execUnwrapLoad_keeps (.rfl' s) m attr u
  | .erase m => execErase_keeps (.rfl' s) m u
  | .encrypt m => execEncrypt_keeps (.rfl' s) m u
  | .decrypt m => execDecrypt_keeps (.rfl' s) m u
  | .wrap m => execWrap_keeps (.rfl' s) m u
  | .derive m => execDerive_keeps (.rfl' s) m u
  | .keyUnitDone => execKeyUnitDone_keeps (.rfl' s) u
  | .rngHealthFail => execRngHealthFail_keeps (.rfl' s) u
  | .drainComplete g => execDrainComplete_keeps (.rfl' s) g u
  | .dbgauthChallenge => execDbgauthChallenge_keeps (.rfl' s) u
  | .dbgVerify scope pub sig => execDbgVerify_keeps (.rfl' s) scope pub sig u
  | .dbgVerifyDone => execDbgVerifyDone_keeps (.rfl' s) u
  | .nonceLapse => execNonceLapse_keeps (.rfl' s) u
  | .imageLoad there => execImageLoad_keeps (.rfl' s) there u
  | .txnIdleTimeout id => execTxnIdleTimeout_keeps (.rfl' s) id u
  | .quietPoint quietNs drainUs inflight => execQuietPoint_keeps (.rfl' s) quietNs drainUs inflight u
  | .drainTimeout => execDrainTimeout_keeps (.rfl' s) u
  | .getInfo o seq txn csv => execGetInfo_keeps (.rfl' s) o seq txn csv u
  | .echoCmd o seq txn csv data => execEchoCmd_keeps (.rfl' s) o seq txn csv data u
  | .reset o seq txn csv kind ports => execReset_keeps (.rfl' s) o seq txn csv kind ports u
  | .powerState o seq txn csv target => execPowerState_keeps (.rfl' s) o seq txn csv target u
  | .notifyCfg o seq txn csv paths severity hub => execNotifyCfg_keeps (.rfl' s) o seq txn csv paths severity hub u
  | .begin o seq txn csv => execBegin_keeps (.rfl' s) o seq txn csv u
  | .stage o seq txn csv l => execStage_keeps (.rfl' s) o seq txn csv l u
  | .stageRead o seq txn csv l => execStageRead_keeps (.rfl' s) o seq txn csv l u
  | .commit o seq txn csv => execCommit_keeps (.rfl' s) o seq txn csv u
  | .rollback o seq txn csv => execRollback_keeps (.rfl' s) o seq txn csv u
  | .txnInfo o seq txn csv => execTxnInfo_keeps (.rfl' s) o seq txn csv u
  | .imgInfo o seq txn csv => execImgInfo_keeps (.rfl' s) o seq txn csv u
  | .imgErase o seq txn csv slot => execImgErase_keeps (.rfl' s) o seq txn csv slot u
  | .imgWrite o seq txn csv slot ofs data => execImgWrite_keeps (.rfl' s) o seq txn csv slot ofs data u
  | .imgRead o seq txn csv slot ofs len => execImgRead_keeps (.rfl' s) o seq txn csv slot ofs len u
  | .imgCheck o seq txn csv slot => execImgCheck_keeps (.rfl' s) o seq txn csv slot u
  | .tunnelList o seq txn csv => execTunnelList_keeps (.rfl' s) o seq txn csv u
  | .tunnelStat o seq txn csv adp => execTunnelStat_keeps (.rfl' s) o seq txn csv adp u
  | .tunnelReopen o seq txn csv adp => execTunnelReopen_keeps (.rfl' s) o seq txn csv adp u
  | .alStatus o seq txn csv port => execAlStatus_keeps (.rfl' s) o seq txn csv port u
  | .alTableWrite o seq txn csv port table l => execAlTableWrite_keeps (.rfl' s) o seq txn csv port table l u
  | .alArm o seq txn csv port arm => execAlArm_keeps (.rfl' s) o seq txn csv port arm u
  | .policerRead o seq txn csv k => execPolicerRead_keeps (.rfl' s) o seq txn csv k u
  | .linkStatus o seq txn csv port => execLinkStatus_keeps (.rfl' s) o seq txn csv port u
  | .linkAction o seq txn csv port action => execLinkAction_keeps (.rfl' s) o seq txn csv port action u
  | .roleSwap o seq txn csv port => execRoleSwap_keeps (.rfl' s) o seq txn csv port u
  | .eyeScan o seq txn csv lane eye dwell phLo phHi vLo vHi => execEyeScan_keeps (.rfl' s) o seq txn csv lane eye dwell phLo phHi vLo vHi u
  | .pdStatus o seq txn csv port => execPdStatus_keeps (.rfl' s) o seq txn csv port u
  | .pdAction o seq txn csv port action => execPdAction_keeps (.rfl' s) o seq txn csv port action u
  | .efStatus o seq txn csv channel => execEfStatus_keeps (.rfl' s) o seq txn csv channel u
  | .efClear o seq txn csv channel => execEfClear_keeps (.rfl' s) o seq txn csv channel u
  | .budgetStatus o seq txn csv => execBudgetStatus_keeps (.rfl' s) o seq txn csv u
  | .keyLoad o seq txn csv op attr kcv data => execKeyLoad_keeps (.rfl' s) o seq txn csv op attr kcv data u
  | .keyOp o seq txn csv op data => execKeyOp_keeps (.rfl' s) o seq txn csv op data u
  | .keyErase o seq txn csv => execKeyErase_keeps (.rfl' s) o seq txn csv u
  | .rollbackAdv o seq txn csv which => execRollbackAdv_keeps (.rfl' s) o seq txn csv which u
  | .certRead o seq txn csv => execCertRead_keeps (.rfl' s) o seq txn csv u
  | .gateViol o seq txn csv gate flags => execGateViol_keeps (.rfl' s) o seq txn csv gate flags u
  | .logRead o seq txn csv index count => execLogRead_keeps (.rfl' s) o seq txn csv index count u
  | .bistRun o seq txn csv block => execBistRun_keeps (.rfl' s) o seq txn csv block u
  | .farrierRun o seq txn csv => execFarrierRun_keeps (.rfl' s) o seq txn csv u
  | .timeGet o seq txn csv => execTimeGet_keeps (.rfl' s) o seq txn csv u
  | .timeStep o seq txn csv relative data => execTimeStep_keeps (.rfl' s) o seq txn csv relative data u
  | .txtsRead o seq txn csv mac max_ => execTxtsRead_keeps (.rfl' s) o seq txn csv mac max_ u
  | .dispStatus o seq txn csv pipe => execDispStatus_keeps (.rfl' s) o seq txn csv pipe u
  | .dispEdid o seq txn csv pipe block => execDispEdid_keeps (.rfl' s) o seq txn csv pipe block u
  | .dispTopo o seq txn csv pipe => execDispTopo_keeps (.rfl' s) o seq txn csv pipe u
  | .domainStatus o seq txn csv => execDomainStatus_keeps (.rfl' s) o seq txn csv u
  | .hubList o seq txn csv => execHubList_keeps (.rfl' s) o seq txn csv u
  | .hubRemove o seq txn csv hub => execHubRemove_keeps (.rfl' s) o seq txn csv hub u
  | .routeRead o seq txn csv first count => execRouteRead_keeps (.rfl' s) o seq txn csv first count u
  | .relay o seq txn csv dst tmo inner => execRelay_keeps (.rfl' s) o seq txn csv dst tmo inner u
  | .relayTimeout o => execRelayTimeout_keeps (.rfl' s) o u
  | .regRead o seq txn csv l => execRegRead_keeps (.rfl' s) o seq txn csv l u
  | .regWrite o seq txn csv l => execRegWrite_keeps (.rfl' s) o seq txn csv l u
  | .regRmw o seq txn csv a mask v => execRegRmw_keeps (.rfl' s) o seq txn csv a mask v u
  | .rbRead o seq txn csv adp size a => execRbRead_keeps (.rfl' s) o seq txn csv adp size a u
  | .rbWrite o seq txn csv adp size a data => execRbWrite_keeps (.rfl' s) o seq txn csv adp size a data u
  | .commandTimeout o => execCommandTimeout_keeps (.rfl' s) o u
  | .smbFrameStart addr data pecOk => execSmbFrameStart_keeps (.rfl' s) addr data pecOk u
  | .smbFrameContinue addr data pecOk => execSmbFrameContinue_keeps (.rfl' s) addr data pecOk u
  | .smbResponseRead addr => execSmbResponseRead_keeps (.rfl' s) addr u
  | .smbSelect addr seq => execSmbSelect_keeps (.rfl' s) addr seq u
  | .smbSclTimeout => execSmbSclTimeout_keeps (.rfl' s) u
  | .bistStart m block => execBistStart_keeps (.rfl' s) m block u
  | .bistDone misr => execBistDone_keeps (.rfl' s) misr u
  | .rcCounterRead m a => execRcCounterRead_keeps (.rfl' s) m a u
  | .registerWrite m a data => execRegisterWrite_keeps (.rfl' s) m a data u
  | .lowPowerExit p => execLowPowerExit_keeps (.rfl' s) p u
  | .localPllLock x => execLocalPllLock_keeps (.rfl' s) x u
  | .dpLinkTrained d rate lanes dscMax adaptive minRate => execDpLinkTrained_keeps (.rfl' s) d rate lanes dscMax adaptive minRate u
  | .hdcpSessionAuth d src legacy type1 depth count above ids => execHdcpSessionAuth_keeps (.rfl' s) d src legacy type1 depth count above ids u
  | .hubClassRequest n r => execHubClassRequest_keeps (.rfl' s) n r u
  | .portResetComplete n => execPortResetComplete_keeps (.rfl' s) n u
  | .upstreamResume => execUpstreamResume_keeps (.rfl' s) u
  | .ppsPulseEnd => execPpsPulseEnd_keeps (.rfl' s) u
  | .accept p answer => execAccept_keeps (.rfl' s) p answer u
  | .senderResponseTimeout p => execSenderResponseTimeout_keeps (.rfl' s) p u
  | .sourceRecover p => execSourceRecover_keeps (.rfl' s) p u
  | .modeExitWait p => execModeExitWait_keeps (.rfl' s) p u
  | .interruptEndpointRead bulk => execInterruptEndpointRead_keeps (.rfl' s) bulk u
  | .alertResponse => execAlertResponse_keeps (.rfl' s) u
  | .relayInputFrame d f tiles => execRelayInputFrame_keeps (.rfl' s) d f tiles u
  | .alwaysOnSupplyFail => execAlwaysOnSupplyFail_keeps (.rfl' s) u
  | .getPpsStatus p volt limiting => execGetPpsStatus_keeps (.rfl' s) p volt limiting u

/-- A command executes on the queue's rest, and the queue is no part of the canonical form; a tick keeps it as a command does. -/
theorem step_keeps_safe {s t : State} (hs : Safe s) (hstep : step s = .next t) : Safe t := by
  cases hq : s.pending with
  | nil =>
    rw [step_of_pending_nil hq] at hstep
    exact (Keeps.ofEq (State.tick_keeps (.rfl' s)) (Host.Outcome.next.inj hstep).symm).wf hs
  | cons c rest =>
    rw [step_of_pending_cons hq] at hstep
    exact (exec_keeps { s with pending := rest } t c hstep).wf hs

/-- Settles O3: the front command, or the tick on an empty queue, keeps the canonical form (assumption row 8). -/
theorem stepKeepsCanonicalForm : Obligations.StepKeepsCanonicalForm := fun _ _ => step_keeps_safe

/-! ### Local PLLs -/

section
variable (s : State)

theorem State.on_iff_rd_ne_zero (f : Fld) : s.on f = true ↔ s.rd f ≠ 0 := decide_eq_true_iff

/-- A lane PLL that locks while its port's link is up starts no new training (R353). -/
theorem State.pllLock_lane_up {p : Fin 6} (h : (s.link p).linkUp = true) :
    s.pllLock (.lane p) = if (s.lanePllLock p).rd PS_STAT.WAKING ≠ 0 then (s.lanePllLock p).wakeLink p else s.lanePllLock p := by
  have hno : ¬ (s.lstate p = 0 ∧ ¬ s.linkIsUp p = true) := fun hc => hc.2 h
  simp only [State.pllLock, if_neg hno, State.on_iff_rd_ne_zero]

theorem State.lanePllFault_eq (p : Nat) :
    let u := (s.wr (CK_STAT.LANE_LOCK.bit p) 0).raise Ev.CK_LANE_PLL
    s.lanePllFault p = if s.rd (CK_STAT.LANE_LOCK.bit p) ≠ 0 then u.portReset p else u.linkDown p := by
  simp only [State.lanePllFault, State.on_iff_rd_ne_zero]

/-! ### Clock monitors -/

theorem State.clockFault_derived (c : Nat) (hf : s.fullSpeed = true) (ha : s.rd PS_STAT.STATE ≠ 3) :
    s.clockFault (.derived c) = ((s.wr CK_MON_SRC.CLOCK c).raise Ev.CK_MON).refLoss :=
  if_pos ⟨hf, by simpa [State.asleep] using ha⟩

/-! ### The watchdog -/

/-- The watchdog has run out (R354): it is enabled, the hub is in H0 or H1, and TMO ms have passed since it last restarted. -/
def State.wdtDue (s : State) : Prop :=
  s.rd GC_WDT.EN ≠ 0 ∧ s.rd PS_STAT.STATE ≤ 1 ∧ s.clk.wdtAt + max 1 (s.rd GC_WDT.TMO) * 10000000 ≤ s.uptime

theorem exec_watchdogExpire_notDue (h : ¬ s.wdtDue) : exec .watchdogExpire s = .next s := by
  refine congrArg Host.Outcome.next (if_neg ?_)
  rwa [State.on_iff_rd_ne_zero]

/-- Once it is due the watchdog is reported and restarts, and ACT says whether the hub resets (R354, R357) or the cores stop
(assumption row 148). -/
theorem exec_watchdogExpire_due (h : s.wdtDue) :
    let u := (s.raise Ev.GC_WDT).kick
    exec .watchdogExpire s =
      .next (if (s.raise Ev.GC_WDT).rd GC_WDT.ACT ≠ 0 then u.requestWarm 4 else { u with clk := { u.clk with stopped := true } }) := by
  rw [State.wdtDue, ← State.on_iff_rd_ne_zero] at h
  refine congrArg Host.Outcome.next ((if_pos h).trans ?_)
  simp only [State.on_iff_rd_ne_zero]
  rfl

end

/-- Settles O33, row by row: a PLL that locks or loses lock, a monitor that finds a fault, the watchdog before and after its time. -/
theorem localPllsAndWatchdog : Obligations.LocalPllsAndWatchdog := by
  refine ⟨fun _ _ => rfl, fun _ _ => rfl, fun _ _ => rfl, fun _ => rfl, fun s p h => congrArg Host.Outcome.next (s.pllLock_lane_up h),
    fun s p => congrArg Host.Outcome.next (s.lanePllFault_eq p), fun s c hf ha => congrArg Host.Outcome.next (s.clockFault_derived c hf ha),
    fun _ => rfl, fun s hen hstate htime => ?_, fun s h => exec_watchdogExpire_notDue s fun ⟨hen, _, htime⟩ => ?_⟩
  · have hexp := exec_watchdogExpire_due s ⟨hen, hstate, htime⟩
    exact ⟨fun hact => hexp.trans (congrArg Host.Outcome.next (if_pos hact)),
      fun hact => hexp.trans (congrArg Host.Outcome.next (if_neg (not_not_intro hact)))⟩
  · exact h.elim hen (Nat.not_lt.mpr htime)

end Sys2Proof.Machine
end

section
/-!
Training (R45 to R51): a step of the walk by what its receiving lanes have reached, a training frame of Walk, a qualification window.
-/

namespace Sys2Proof.Machine

/-! ### The end of a training step -/

section
variable {s : State} {p locked : Nat} {next : State}

/-- A target step fails on a lane without lock before it asks whether the lanes have qualified (R47). -/
theorem State.targetDone_of_unlocked (h : ∃ n ∈ s.rxTrainees p, bitOf locked (n % 4) = false) : s.targetDone p locked next = s.fallGait p := by
  have hany : ((s.rxTrainees p).any fun n => !bitOf locked (n % 4)) = true := by simpa using h
  rw [State.targetDone, if_pos hany]

theorem State.targetDone_of_locked (h : ∀ n ∈ s.rxTrainees p, bitOf locked (n % 4) = true) :
    s.targetDone p locked next = if (s.rxTrainees p).any fun n => decide ((s.lane n).qual ≠ 1) then s else next := by
  have hany : ¬ ((s.rxTrainees p).any fun n => !bitOf locked (n % 4)) = true := by simpa using h
  rw [State.targetDone, if_neg hany]

/-- A locked lane that has not qualified keeps the step going (R47). -/
theorem State.targetDone_of_unqualified (h : ∀ n ∈ s.rxTrainees p, bitOf locked (n % 4) = true)
    (hq : ∃ n ∈ s.rxTrainees p, (s.lane n).qual ≠ 1) : s.targetDone p locked next = s := by
  rw [State.targetDone_of_locked h, if_pos (by simpa using hq)]

theorem State.targetDone_of_qualified (h : ∀ n ∈ s.rxTrainees p, bitOf locked (n % 4) = true ∧ (s.lane n).qual = 1) :
    s.targetDone p locked next = next := by
  rw [State.targetDone_of_locked fun n hn => (h n hn).1, if_neg (by simpa using fun n hn => (h n hn).2)]

/-- No step ends on a port that does not train, or whose lane PLL relocks (R46). -/
theorem State.trainStep_idle (h : s.lstate p ≠ 1 ∨ (s.link p).relock = true) : s.trainStep p locked = s := if_pos h

/-- The port trains and its lane PLL has locked. -/
def State.trains (s : State) (p : Nat) : Prop := s.lstate p = 1 ∧ (s.link p).relock = false

/-- Step 2 turns the lanes to the reverse of their direction once it is done, step 3 turns them back (R46). -/
theorem State.trainStep_two (ht : s.trains p) (h : (s.link p).tstep = 2) :
    s.trainStep p locked = s.targetDone p locked ((s.modLink p fun l => { l with tstep := 3 }).direct p true) := by
  simp [State.trainStep, ht.1, ht.2, h]

theorem State.trainStep_three (ht : s.trains p) (h : (s.link p).tstep = 3) :
    s.trainStep p locked = s.targetDone p locked ((s.modLink p fun l => { l with tstep := 4 }).direct p false) := by
  simp [State.trainStep, ht.1, ht.2, h]

theorem State.trainStep_four (ht : s.trains p) (h : (s.link p).tstep = 4) : s.trainStep p locked = s.trainedUp p := by
  simp [State.trainStep, ht.1, ht.2, h]

/-- Both target steps are judged alike: which state follows a step that is done is all that sets them apart. -/
theorem State.trainStep_target (ht : s.trains p) (h : (s.link p).tstep = 2 ∨ (s.link p).tstep = 3) :
    ∃ next, s.trainStep p locked = s.targetDone p locked next :=
  h.elim (fun h => ⟨_, State.trainStep_two ht h⟩) fun h => ⟨_, State.trainStep_three ht h⟩

end

/-! ### Training frames -/

section
variable {s : State} {n : Nat} {b : BitVec 1280} {rt : Nat}

/-- The lane receives training frames: it trains, receives and has block lock (R45). -/
def State.takesFrames (s : State) (n : Nat) : Prop := s.laneState n = 2 ∧ s.rd (LN_STAT.DIR n) = 1 ∧ s.rd (LN_STAT.LOCK n) ≠ 0

/-- The lane does not refuse the block: none of the conditions under which a frame changes nothing holds. -/
theorem State.takesFrames.accepted (h : s.takesFrames n) :
    ¬ (s.laneState n ≠ 2 ∨ s.rd (LN_STAT.DIR n) ≠ 1 ∨ ¬ s.on (LN_STAT.LOCK n) = true) := by
  obtain ⟨hstate, hdir, hlock⟩ := h
  rw [State.on_iff_rd_ne_zero]
  tauto

theorem State.trainFrame_none (h : s.takesFrames n) (hf : TrainFrame.ofPayload (s.takeData n b).1 = none) :
    s.trainFrame n b rt = (s.takeData n b).2 := by
  simp only [State.trainFrame, if_neg h.accepted, hf]

/-- After a good frame the paired lane sends its next block, unless it does not transmit or the lane PLL relocks. -/
theorem State.trainFrame_some {f : TrainFrame} (h : s.takesFrames n) (hf : TrainFrame.ofPayload (s.takeData n b).1 = some f) :
    let t := (s.takeData n b).2.frameIn n f rt
    s.trainFrame n b rt =
      if t.laneState (pairLane n) = 2 ∧ t.rd (LN_STAT.DIR (pairLane n)) = 0 ∧ (t.link (lanePort n)).relock = false then t.trainBlock (pairLane n) else t := by
  simp only [State.trainFrame, if_neg h.accepted, hf]

/-- A frame that asks nothing of the transmitter leaves its taps and TX_ACK (R45). -/
theorem State.takeRequest_none {m : Nat} {f : TrainFrame} (hr : f.txReq = 0) (hp : f.preset = 0) : s.takeRequest m f = s := if_pos ⟨hr, hp⟩

/-- A frame that asks for a reserved step of a tap is refused (assumption row 142). -/
theorem State.takeRequest_reserved {m : Nat} {f : TrainFrame} (hr : f.txReq ≠ 0)
    (h : bitsOf f.txReq 4 2 = 3 ∨ bitsOf f.txReq 2 2 = 3 ∨ bitsOf f.txReq 0 2 = 3) : s.takeRequest m f = s.modLane m fun l => { l with txAck := 2 } := by
  have hres : bitsOf f.txReq 4 2 = 3 ∨ bitsOf f.txReq 2 2 = 3 ∨ bitsOf f.txReq 0 2 = 3 ∨ 8 < f.preset := by omega
  rw [State.takeRequest, if_neg fun hc => hr hc.1, if_pos hres]

/-- In Walk a frame that asks nothing stores the far GAIT_CAP, itself, and the trip without the far hold (R45, R47). -/
theorem State.frameIn_walk {f : TrainFrame} (hr : f.txReq = 0) (hp : f.preset = 0) (ht : s.lstate (lanePort n) = 1) (hw : (s.link (lanePort n)).tstep ≤ 1) :
    s.frameIn n f rt = (s.modLink (lanePort n) fun l => { l with farCap := f.gaitCap }).modLane n fun l =>
      { l with far := some f, farAt := s.uptime, trip := rt - f.rtHold } := by
  have hstep : ¬ 2 ≤ (s.link (lanePort n)).tstep := by omega
  simp only [State.frameIn, State.takeRequest_none hr hp, ht, hw, hstep]
  rfl

end

/-! ### Qualification windows -/

section
variable {s : State} {n c : Nat} {u : Bool}

/-- The lane is in a qualification window: it trains, receives, and its port is at a target step (R47). -/
def State.inWindow (s : State) (n : Nat) : Prop :=
  s.laneState n = 2 ∧ s.rd (LN_STAT.DIR n) = 1 ∧ s.lstate (lanePort n) = 1 ∧ ((s.link (lanePort n)).tstep = 2 ∨ (s.link (lanePort n)).tstep = 3)

theorem State.qualEnd_of_inWindow (h : s.inWindow n) : s.qualEnd n c u =
    if c ≤ s.rd (LN_TRAIN.QUAL_MAX n) ∧ u = false then
      (if (s.link (lanePort n)).relock = false then s.modLane n fun l => { l with qual := 1 } else s)
    else if (s.link (lanePort n)).relock = false then
      ((s.modLane n fun l => { l with qual := 2 }).raise (Ev.LN_QUAL_FAIL n)).fallGait (lanePort n)
    else s.raise (Ev.LN_QUAL_FAIL n) := by
  obtain ⟨hstate, hdir, hport, hstep⟩ := h
  have hin : ¬ (s.laneState n ≠ 2 ∨ s.lstate (lanePort n) ≠ 1 ∨ s.rd (LN_STAT.DIR n) ≠ 1 ∨
      ((s.link (lanePort n)).tstep ≠ 2 ∧ (s.link (lanePort n)).tstep ≠ 3)) := by tauto
  simp only [State.qualEnd, if_neg hin, Bool.not_eq_true']

theorem State.qualEnd_good (h : s.inWindow n) (hr : (s.link (lanePort n)).relock = false) (hc : c ≤ s.rd (LN_TRAIN.QUAL_MAX n)) :
    s.qualEnd n c false = s.modLane n fun l => { l with qual := 1 } := by
  rw [State.qualEnd_of_inWindow h, if_pos ⟨hc, rfl⟩, if_pos hr]

theorem State.qualEnd_bad (h : s.inWindow n) (hb : s.rd (LN_TRAIN.QUAL_MAX n) < c ∨ u = true) : s.qualEnd n c u =
    if (s.link (lanePort n)).relock = false then
      ((s.modLane n fun l => { l with qual := 2 }).raise (Ev.LN_QUAL_FAIL n)).fallGait (lanePort n)
    else s.raise (Ev.LN_QUAL_FAIL n) := by
  have hbad : ¬ (c ≤ s.rd (LN_TRAIN.QUAL_MAX n) ∧ u = false) := by
    rintro ⟨hc, rfl⟩
    exact hb.elim (Nat.not_lt.mpr hc) Bool.noConfusion
  rw [State.qualEnd_of_inWindow h, if_neg hbad]

end

/-- Settles O13, clause by clause: the target steps, the end of training, frames of Walk (assumption rows 140 and 142), windows and the retry. -/
theorem trainingSequence : Obligations.TrainingSequence := by
  refine ⟨fun s p locked hl hr ht h => ?_, fun s p locked hl hr ht h => ?_, fun s p locked hl hr ht => ?_, fun s p locked hl hr ht => ?_,
    fun s p locked h => congrArg Host.Outcome.next (State.trainStep_idle h), fun s n w r rt hs hd hk hf => ?_,
    fun s n w r rt f hs hd hk hf hreq hpre hl ht => ?_, fun s m f hreq h => State.takeRequest_reserved hreq h,
    fun s n c hs hd hl ht hr hc => congrArg Host.Outcome.next (State.qualEnd_good ⟨hs, hd, hl, ht⟩ hr hc),
    fun s n c u hs hd hl ht hb => ?_, fun s p hl ht => congrArg Host.Outcome.next (if_pos ⟨hl, ht⟩)⟩
  · exact congrArg Host.Outcome.next ((State.trainStep_two ⟨hl, hr⟩ ht).trans (State.targetDone_of_qualified h))
  · exact congrArg Host.Outcome.next ((State.trainStep_three ⟨hl, hr⟩ ht).trans (State.targetDone_of_qualified h))
  · obtain ⟨next, hnext⟩ := State.trainStep_target (locked := locked) ⟨hl, hr⟩ ht
    exact ⟨fun h => congrArg Host.Outcome.next (hnext.trans (State.targetDone_of_unlocked h)),
      fun h hq => congrArg Host.Outcome.next (hnext.trans (State.targetDone_of_unqualified h hq))⟩
  · exact congrArg Host.Outcome.next (State.trainStep_four ⟨hl, hr⟩ ht)
  · exact congrArg Host.Outcome.next (State.trainFrame_none ⟨hs, hd, hk⟩ hf)
  · have hframe := State.trainFrame_some (b := w ++ r) (rt := rt) ⟨hs, hd, hk⟩ hf
    rw [show (s.takeData n (w ++ r)).2.frameIn n f rt = _ from State.frameIn_walk hreq hpre hl ht] at hframe
    exact congrArg Host.Outcome.next hframe
  · have hbad := State.qualEnd_bad ⟨hs, hd, hl, ht⟩ hb
    exact ⟨fun hr => congrArg Host.Outcome.next (hbad.trans (if_pos hr)),
      fun hr => congrArg Host.Outcome.next (hbad.trans (if_neg (by rw [hr]; exact Bool.noConfusion)))⟩

end Sys2Proof.Machine
end

section
/-!
Blocks, markers and codewords of a lane (R33 to R43): a data block and a marker by the place they come at, the scrambler and the link code, a codeword
by what its decoding gives.
-/

namespace Sys2Proof.Machine

/-! ### Reading the state -/

/-- The branch that a field's bit reads 0 is not taken. -/
theorem State.not_not_on {s : State} {f : Fld} (h : s.rd f ≠ 0) : ¬ ¬ s.on f = true := not_not_intro ((s.on_iff_rd_ne_zero f).mpr h)

theorem State.not_on {s : State} {f : Fld} (h : s.rd f = 0) : ¬ s.on f = true := fun hon => (s.on_iff_rd_ne_zero f).mp hon h

@[simp] theorem State.link_modSched (s : State) (p q : Nat) (f : SchedSt → SchedSt) : (s.modSched p f).link q = s.link q := rfl
@[simp] theorem State.sched_modLink (s : State) (p q : Nat) (f : LinkSt → LinkSt) : (s.modLink p f).sched q = s.sched q := rfl

/-! ### Data blocks and missed markers -/

section
variable {s : State} {n : Nat}

/-- A locked lane moves on over a marker position that brought no marker: the next count, and the scrambler of that count (R35, R38). -/
def State.skipMarker (s : State) (n : Nat) : State :=
  s.modLane n fun l => { l with
    missed := l.missed + 1, rxBlk := 0, rxCnt := (l.rxCnt + 1) % 2 ^ 48, rxScr := scramblerSeed ((l.rxCnt + 1) % 2 ^ 48) (s.rd (LN_STAT.PARTNER_LANE n)) }

/-- The third missed marker in a row loses the lock (R35). -/
theorem State.markerMissed_eq : s.markerMissed n = if 2 ≤ (s.lane n).missed then (s.skipMarker n).lockLoss n else s.skipMarker n := by
  have hcount : ((s.skipMarker n).lane n).missed = (s.lane n).missed + 1 := congrArg LaneSt.missed (State.lane_modLane s n _)
  have hthird : 3 ≤ ((s.skipMarker n).lane n).missed ↔ 2 ≤ (s.lane n).missed := by omega
  rw [← if_congr hthird rfl rfl]
  rfl

theorem State.markerMissed_of_lt (h : (s.lane n).missed < 2) : s.markerMissed n = s.skipMarker n := by
  rw [State.markerMissed_eq, if_neg (Nat.not_le.mpr h)]

theorem State.markerMissed_of_ge (h : 2 ≤ (s.lane n).missed) : s.markerMissed n = (s.skipMarker n).lockLoss n := by
  rw [State.markerMissed_eq, if_pos h]

section
variable {d : BitVec 2} {w : BitVec 1280}

theorem State.dataBlock_unlocked (h : s.rd (LN_STAT.LOCK n) = 0) : s.dataBlock n d w = s := by
  rw [State.dataBlock, if_pos (State.not_on h)]

/-- At a data position the block is data whatever its header (R36). -/
theorem State.dataBlock_data (hl : s.rd (LN_STAT.LOCK n) ≠ 0) (hb : (s.lane n).rxBlk ≠ 256) :
    s.dataBlock n d w = ((if d = 1#2 then s else s.raise (Ev.LN_HDR_ERR n)).takeData n w).2 := by
  rw [State.dataBlock, if_neg (State.not_not_on hl), if_neg hb]

theorem State.dataBlock_markerDue (hl : s.rd (LN_STAT.LOCK n) ≠ 0) (hb : (s.lane n).rxBlk = 256) : s.dataBlock n d w = s.markerMissed n := by
  rw [State.dataBlock, if_neg (State.not_not_on hl), if_pos hb]

end

/-! ### Markers -/

section
variable {w : BitVec 1280} {gap skew : Nat}

theorem State.marker_notReceiving (h : s.receives n = false) : s.marker n w gap skew = s := by
  rw [State.marker, if_pos h]

section
variable (hr : s.receives n = true) (hl : s.rd (LN_STAT.LOCK n) ≠ 0)
include hr hl

/-- On a locked lane a marker away from its expected position is data with a wrong header (R36). -/
theorem State.marker_misplaced (hb : (s.lane n).rxBlk ≠ 256) : s.marker n w gap skew = ((s.raise (Ev.LN_HDR_ERR n)).takeData n w).2 := by
  simp [State.marker, hr, (s.on_iff_rd_ne_zero _).mpr hl, hb]

/-- A lane more than 32 ns late against the others loses the lock that the marker leaves it (R35). -/
theorem State.marker_accepted {i : Bool} {v : Nat} (hb : (s.lane n).rxBlk = 256) (hc : commaOf w = some (i, v)) : s.marker n w gap skew =
    if 320 < skew ∧ (s.markerIn n i v true).rd (LN_STAT.LOCK n) ≠ 0 then (s.markerIn n i v true).lockLoss n else s.markerIn n i v true := by
  simp only [← State.on_iff_rd_ne_zero]
  simp [State.marker, hr, (s.on_iff_rd_ne_zero _).mpr hl, hb, hc]

theorem State.marker_noComma (hb : (s.lane n).rxBlk = 256) (hc : commaOf w = none) : s.marker n w gap skew = s.markerMissed n := by
  simp [State.marker, hr, (s.on_iff_rd_ne_zero _).mpr hl, hb, hc]

end

theorem State.receives_of_active (hd : s.rd (LN_STAT.DIR n) = 1) (hs : s.rd (LN_STAT.STATE n) = 3) : s.receives n = true :=
  decide_eq_true ⟨hd, .inr hs⟩

end

end

/-! ### The scrambler and the link code -/

/-- What the generator gives does not depend on the payload, so scrambling twice from the same contents adds it twice (R38). -/
theorem scramble_scramble (g : BitVec 58) (w : BitVec 1280) :
    (scramble g (scramble g w).1).1 = w ∧ (scramble g (scramble g w).1).2 = (scramble g w).2 := by
  refine ⟨?_, rfl⟩
  simp only [scramble, BitVec.xor_assoc, BitVec.xor_self, BitVec.xor_zero]

theorem rsGood_rsEncode {m : List Sym} (h : m.length = 256) : rsGood (rsEncode m) = true := by
  simp only [rsGood, rsEncode, ← h, List.take_left', List.drop_left', decide_true]

/-! ### Codewords -/

section
variable {s u : State} {p : Nat} {a b c : List Sym} {w : RxWord} {word : List Sym}

theorem State.codeword_none (h : s.linkRuns p = false ∨ s.takeWord p a b c = none) : s.codeword p a b c = s := by
  rw [State.codeword]
  split
  · rfl
  · next hruns => rw [h.resolve_left (by simpa using hruns)]

theorem State.codeword_undecoded (hr : s.linkRuns p = true) (hw : s.takeWord p a b c = some (w, u)) (hd : rsDecode w.word = none) :
    s.codeword p a b c = u.codewordBad p := by
  simp only [State.codeword, if_neg (not_not_intro hr), hw, hd]

theorem State.codeword_decoded {places : List Nat} (hr : s.linkRuns p = true) (hw : s.takeWord p a b c = some (w, u))
    (hd : rsDecode w.word = some (word, places)) : s.codeword p a b c = u.codewordGood p w word places := by
  simp only [State.codeword, if_neg (not_not_intro hr), hw, hd]

/-- A codeword without an error counts against no lane: its slots and its cells are all it leaves (R43). -/
theorem State.codewordGood_clean :
    let cells := symCells (word.take 256)
    u.codewordGood p w word [] =
      (u.modSched p fun x => { x with slotsRx := x.slotsRx + 5, busyRx := x.busyRx + (cells.filter fun c => !cellIdle c).length }).modLink p fun l =>
        { l with cells := l.cells ++ cells.map fun c => (u.time, c) } := by
  simp [State.codewordGood, State.eachIn, List.foldl_fixed]

end

/-- Settles O14, clause by clause: data blocks, markers, the scrambler, the link code, codewords. -/
theorem blocksAndCodewords : Obligations.BlocksAndCodewords := by
  refine ⟨fun s n b hl hb => ?_, fun s n b hl => congrArg Host.Outcome.next (State.dataBlock_unlocked hl), fun s n b hl hb => ?_,
    fun s n c f r gap skew hd hs hl => ?_, fun s n c f r gap skew hr => congrArg Host.Outcome.next (State.marker_notReceiving hr),
    scramble_scramble, fun m => rsGood_rsEncode, fun s u p a b c w hr hw => ?_, fun s p a b c h => congrArg Host.Outcome.next (State.codeword_none h)⟩
  · have hdata := State.dataBlock_data (d := blockHeader b) (w := blockPayload b) hl hb
    exact ⟨fun hh => congrArg Host.Outcome.next (by rw [hdata, if_neg hh]), fun hh => congrArg Host.Outcome.next (by rw [hdata, if_pos hh])⟩
  · have hmiss := State.dataBlock_markerDue (d := blockHeader b) (w := blockPayload b) hl hb
    exact ⟨fun hm => congrArg Host.Outcome.next (hmiss.trans (State.markerMissed_of_lt hm)),
      fun hm => congrArg Host.Outcome.next (hmiss.trans (State.markerMissed_of_ge hm))⟩
  · have hr := State.receives_of_active hd hs
    refine ⟨fun hb => congrArg Host.Outcome.next (State.marker_misplaced hr hl hb), fun i v hb hc => ?_,
      fun hb hc hm => congrArg Host.Outcome.next ((State.marker_noComma hr hl hb hc).trans (State.markerMissed_of_lt hm))⟩
    have hacc := State.marker_accepted (gap := gap) (skew := skew) hr hl hb hc
    exact ⟨fun hk => congrArg Host.Outcome.next (hacc.trans (if_neg fun h => Nat.not_lt.mpr hk h.1)),
      fun hk hon => congrArg Host.Outcome.next (hacc.trans (if_pos ⟨hk, hon⟩))⟩
  · refine ⟨fun hd => congrArg Host.Outcome.next (State.codeword_undecoded hr hw hd), fun word hd => ?_⟩
    refine ⟨_, congrArg Host.Outcome.next ((State.codeword_decoded hr hw hd).trans State.codewordGood_clean), ?_⟩
    simp

end Sys2Proof.Machine
end

section
/-!
Lane actions (R54 to R59): when an announced action is due, what GIVE_LANE does with it, and how the lane comes back: the lock pattern, the join marker, a
failure, training on its own.
-/

namespace Sys2Proof.Machine

/-! ### The action that is due -/

section
variable {s : State} {p : Nat} {a : LaneAct}

/-- The codeword of the direction that an action names (R81). -/
def State.cwOf (s : State) (p : Nat) (a : LaneAct) : Nat := if a.tx then (s.link p).cwTx else (s.link p).cwRx

theorem State.dueAct_none (h : (s.link p).act = none) : s.dueAct p = none := by
  simp only [State.dueAct, h]

theorem State.dueAct_early (h : (s.link p).act = some a) (hcw : s.cwOf p a < a.cw) : s.dueAct p = none := by
  have hno : ¬ (¬ a.begun = true ∧ a.cw ≤ s.cwOf p a) := fun hc => Nat.not_lt.mpr hc.2 hcw
  simp only [State.dueAct, h]
  exact if_neg hno

theorem State.dueAct_due (h : (s.link p).act = some a) (hb : a.begun = false) (hcw : a.cw ≤ s.cwOf p a) : s.dueAct p = some a := by
  have hyes : ¬ a.begun = true ∧ a.cw ≤ s.cwOf p a := ⟨by rw [hb]; exact Bool.false_ne_true, hcw⟩
  simp only [State.dueAct, h]
  exact if_pos hyes

end

/-! ### GIVE_LANE -/

section
variable {s : State} {p : Nat} {a : LaneAct}

theorem State.giveLane_none (h : s.dueAct p = none) : s.giveLane p = s := by
  simp only [State.giveLane, h]

section
variable (hd : s.dueAct p = some a)
include hd

theorem State.giveLane_turn (hk : a.kind = 0) (h5 : s.laneState a.lane ≠ 5) (h6 : s.laneState a.lane ≠ 6) : s.giveLane p = s.turnLane p a := by
  simp only [State.giveLane, hd, if_pos hk, h5, h6, or_self, if_false]

/-- A lane in Stand or Stable leaves low power before it turns (R58). -/
theorem State.giveLane_lowPower (hk : a.kind = 0) (h : s.laneState a.lane = 5 ∨ s.laneState a.lane = 6) :
    s.giveLane p = (s.modLink p fun l => { l with held := { a with noLate := true } :: l.held }).exitLane p { a with kind := 4 } := by
  simp only [State.giveLane, hd, if_pos hk, if_pos h]

/-- A restripe trains the declared lane again (R57). -/
theorem State.giveLane_restripe (hk : a.kind = 1) (he : s.rd (LN_CTRL.EN a.lane) ≠ 0) :
    s.giveLane p = ((s.retrainLane a.lane (s.rd (LN_STAT.DIR a.lane))).endAct p).retrainIfEmpty p := by
  have hne : ¬ a.kind = 0 := by omega
  simp only [State.giveLane, hd, if_neg hne, if_pos hk, if_pos ((s.on_iff_rd_ne_zero _).mpr he)]

end

/-! ### The lane comes back -/

theorem State.lockPatternEnd_none (h : (s.link p).act = none) : s.lockPatternEnd p = s := by
  simp only [State.lockPatternEnd, h]

/-- The hub that now transmits on a lane that turned joins it (R54 steps 5 and 6). -/
theorem State.lockPatternEnd_turned (h : (s.link p).act = some a) (hk : a.kind = 0) (hb : a.begun = true) (ht : a.tx = false) :
    s.lockPatternEnd p = s.joinLane p a := by
  have hmine : a.begun = true ∧ ((a.kind = 0 ∧ ¬ a.tx = true) ∨ (a.kind = 4 ∧ a.tx = true)) := ⟨hb, .inl ⟨hk, by simp [ht]⟩⟩
  simp only [State.lockPatternEnd, h, if_pos hmine]

theorem State.joinLane_turned (hk : a.kind = 0) (he : s.rd (LN_CTRL.EN a.lane) ≠ 0) : s.joinLane p a =
    (((((s.stripe a.lane 0).wr (LN_STAT.POS a.lane) a.newPos).modLink p fun l => { l with turned := some a.lane }).sendJoin a.lane).laneSend
      a.lane 4).rejoined p := by
  simp only [State.joinLane, if_neg (State.not_not_on he), if_pos hk]

end

section
variable {s : State} {n : Nat} {a : LaneAct}

/-- The giving hub waits for the join marker of lane `n`: its lead change has begun there (R54 step 6). -/
def State.awaitsJoin (s : State) (n : Nat) (a : LaneAct) : Prop :=
  (s.link (lanePort n)).act = some a ∧ a.begun = true ∧ a.lane = n ∧ a.kind = 0 ∧ a.tx = true

/-- LEAD_FAIL at the giving hub (R56, R165). -/
theorem State.leadFail_awaits (h : s.awaitsJoin n a) :
    let u := (s.raise (Ev.LN_LEAD_FAIL n)).sendCtl (lanePort n) 0x07 (be 1 (n % 4) ++ be 1 1 ++ be 2 0 ++ be 8 a.cw)
    s.leadFail n = (((u.modSched (lanePort n) fun x => { x with dwell := 0 }).retrainLane n 0).planFail (lanePort n)).endAct (lanePort n) := by
  obtain ⟨hact, hcond⟩ := h
  simp only [State.leadFail, hact, if_pos hcond]

section
variable {w : BitVec 1280}

theorem State.joinMarker_none (h : s.joinFields n w = none) : s.joinMarker n w = s := by
  simp only [State.joinMarker, h]

section
variable {i : Bool} {f : Nat} (hf : s.joinFields n w = some (i, f)) (he : s.rd (LN_CTRL.EN n) ≠ 0)
include hf he

/-- A lane trained again joins with its marker whatever action is in progress (R56). -/
theorem State.joinMarker_joining (hj : (s.lane n).joining = true) : s.joinMarker n w = s.joinIn n i f := by
  simp only [State.joinMarker, hf, if_neg (State.not_not_on he), if_pos hj]

/-- The giving hub takes the lane in, counts its turn and answers LEAD_RESULT 0 (R54 step 6, R64; assumption row 37). -/
theorem State.joinMarker_awaits (hj : (s.lane n).joining = false) (h : s.awaitsJoin n a) : s.joinMarker n w =
    ((((s.joinIn n i f).wrapAdd (LN_TURN_CNT.TURNS n) 1).sendCtl (lanePort n) 0x07 (be 1 (n % 4) ++ be 1 0 ++ be 2 0 ++ be 8 a.cw)).rejoined
      (lanePort n)) := by
  obtain ⟨hact, hb, hl, hk, ht⟩ := h
  have hmine : a.begun = true ∧ a.lane = n ∧ ((a.kind = 0 ∧ a.tx = true) ∨ (a.kind = 4 ∧ ¬ a.tx = true)) := ⟨hb, hl, .inl ⟨hk, ht⟩⟩
  have hnot : ¬ (s.lane n).joining = true := by simp [hj]
  simp only [State.joinMarker, hf, if_neg (State.not_not_on he), if_neg hnot, hact, if_pos hmine, if_pos hk]

end

end

/-! ### A lane trained on its own -/

section
variable {k : Bool} (h : (s.link (lanePort n)).linkUp = true ∧ s.laneState n = 2)
include h

/-- A lane undeclared meanwhile goes to Off (R50). -/
theorem State.retrainDone_undeclared (he : s.rd (LN_CTRL.EN n) = 0) : s.retrainDone n k = (s.setLaneState n 0).laneSend n 0 :=
  (if_pos h).trans (if_pos (State.not_on he))

section
variable (he : s.rd (LN_CTRL.EN n) ≠ 0)
include he

theorem State.retrainDone_declared : s.retrainDone n k =
    if k = true then
      if s.rd (LN_STAT.DIR n) = 0 then ((s.stripe n 0).sendJoin n).laneSend n 4 else s.modLane n fun l => { l with joining := true }
    else (s.setLaneState n 8).laneSend n 0 :=
  (if_pos h).trans (if_neg (State.not_not_on he))

theorem State.retrainDone_failed : s.retrainDone n false = (s.setLaneState n 8).laneSend n 0 :=
  State.retrainDone_declared h he

theorem State.retrainDone_transmits (hd : s.rd (LN_STAT.DIR n) = 0) : s.retrainDone n true = ((s.stripe n 0).sendJoin n).laneSend n 4 :=
  (State.retrainDone_declared h he).trans (if_pos hd)

theorem State.retrainDone_receives (hd : s.rd (LN_STAT.DIR n) ≠ 0) : s.retrainDone n true = s.modLane n fun l => { l with joining := true } :=
  (State.retrainDone_declared h he).trans (if_neg hd)

end

end

end

/-- Settles O15, clause by clause: GIVE_LANE, the end of the lock pattern, LEAD_FAIL, the join marker, a lane trained on its own
(assumption rows 37 and 138). -/
theorem leadChangeTurnsALane : Obligations.LeadChangeTurnsALane := by
  refine ⟨fun s p a ha hb hcw => ?_,
    fun s p a ha hk hb ht he => congrArg Host.Outcome.next ((State.lockPatternEnd_turned ha hk hb ht).trans (State.joinLane_turned hk he)),
    fun s p ha => ⟨congrArg Host.Outcome.next (State.lockPatternEnd_none ha), congrArg Host.Outcome.next (State.giveLane_none (State.dueAct_none ha))⟩,
    fun s n a ha hb hl hk ht => congrArg Host.Outcome.next (State.leadFail_awaits ⟨ha, hb, hl, hk, ht⟩),
    fun s n w hf => congrArg Host.Outcome.next (State.joinMarker_none hf),
    fun s n w i f a hf he hj ha hb hl hk ht => congrArg Host.Outcome.next (State.joinMarker_awaits hf he hj ⟨ha, hb, hl, hk, ht⟩),
    fun s n w i f hf he hj => congrArg Host.Outcome.next (State.joinMarker_joining hf he hj), fun s n hup hst => ?_⟩
  · have hdue : s.dueAct p = some a := State.dueAct_due ha hb hcw
    exact ⟨fun hk h5 h6 => congrArg Host.Outcome.next (State.giveLane_turn hdue hk h5 h6),
      fun hk hlow => congrArg Host.Outcome.next (State.giveLane_lowPower hdue hk hlow),
      fun hk he => congrArg Host.Outcome.next (State.giveLane_restripe hdue hk he)⟩
  · have hon : (s.link (lanePort n)).linkUp = true ∧ s.laneState n = 2 := ⟨hup, hst⟩
    exact ⟨fun he => congrArg Host.Outcome.next (State.retrainDone_failed hon he),
      fun he _ => congrArg Host.Outcome.next (State.retrainDone_undeclared hon he),
      fun he hd => congrArg Host.Outcome.next (State.retrainDone_transmits hon he hd),
      fun he hd => congrArg Host.Outcome.next (State.retrainDone_receives hon he hd)⟩

end Sys2Proof.Machine
end

section
/-!
Low power and wake (R59, R100, R364, R365): a lane leaves striping for Stand or Stable, the last one parks the link, a lane comes back, and the wake pattern
unparks the link.
-/

namespace Sys2Proof.Machine

/-! ### Entering low power -/

section
variable {s : State} {p : Nat} {a : LaneAct}

/-- A lane leaves striping for Stand or Stable (R59): its set is stored, its scan ends, and its action with it. -/
def State.laneRests (s : State) (p : Nat) (a : LaneAct) : State :=
  (((((s.storeRx a.lane).abortScan a.lane).unstripe a.lane).setLaneState a.lane (if a.kind = 2 then 5 else 6)).laneSend a.lane
    (if a.kind = 2 ∧ s.rd (LN_STAT.DIR a.lane) = 0 then 5 else 0)).endAct p

/-- The link is parked, its time lock has fallen (R364, R99). -/
def State.park (s : State) (p : Nat) : State := (s.modLink p fun l => { l with parked := true, waking := false }).wr (CL_STAT.TLOCK p) 0

theorem State.lowPowerEnter_none (h : s.dueAct p = none) : s.lowPowerEnter p = s := by
  simp only [State.lowPowerEnter, h]

section
variable (hd : s.dueAct p = some a) (hk : a.kind = 2 ∨ (a.kind = 3 ∧ (s.link p).prePark ≠ []))
include hd hk

/-- After the first lane of a park the POS held before it stand already, so that nothing but the lane changes. -/
theorem State.lowPowerEnter_due : s.lowPowerEnter p =
    if ((s.laneRests p a).striped p 0).isEmpty = true ∧ ((s.laneRests p a).striped p 1).isEmpty = true then
      if (((s.laneRests p a).park p).link p).rejoinOwn then ((s.laneRests p a).park p).wakeLink p else (s.laneRests p a).park p
    else (s.laneRests p a).nextRejoin p := by
  have henters : a.kind = 2 ∨ a.kind = 3 := hk.imp_right And.left
  have hheld : ¬ (a.kind = 3 ∧ (s.link p).prePark.isEmpty = true) := by
    rintro ⟨h3, hempty⟩
    exact hk.elim (by omega) fun h => h.2 (List.isEmpty_iff.mp hempty)
  simp only [State.lowPowerEnter, hd, if_pos henters, if_neg hheld]
  rfl

theorem State.lowPowerEnter_striping (h : (s.laneRests p a).striped p 0 ≠ [] ∨ (s.laneRests p a).striped p 1 ≠ []) :
    s.lowPowerEnter p = (s.laneRests p a).nextRejoin p := by
  have hsome : ¬ (((s.laneRests p a).striped p 0).isEmpty = true ∧ ((s.laneRests p a).striped p 1).isEmpty = true) := by
    simp only [List.isEmpty_iff]
    tauto
  rw [State.lowPowerEnter_due hd hk, if_neg hsome]

theorem State.lowPowerEnter_last (h0 : (s.laneRests p a).striped p 0 = []) (h1 : (s.laneRests p a).striped p 1 = [])
    (hr : (((s.laneRests p a).park p).link p).rejoinOwn = false) : s.lowPowerEnter p = (s.laneRests p a).park p := by
  rw [State.lowPowerEnter_due hd hk, if_pos ⟨List.isEmpty_iff.mpr h0, List.isEmpty_iff.mpr h1⟩, if_neg (by simp [hr])]

end

/-! ### Leaving low power -/

theorem State.lowPowerExit_none (h : s.dueAct p = none) : s.lowPowerExit p = s := by
  simp only [State.lowPowerExit, h]

theorem State.lowPowerExit_due (hd : s.dueAct p = some a) (hk : a.kind = 4) (h : s.laneState a.lane ≠ 0) : s.lowPowerExit p = s.exitLane p a := by
  simp only [State.lowPowerExit, hd, if_neg (not_not_intro hk), if_neg h]

/-- The stored sets of a lane are loaded and its action has begun. -/
def State.wakesLane (s : State) (p : Nat) (a : LaneAct) : State :=
  (s.loadSets a.lane).modLink p fun l => { l with act := some { a with begun := true } }

theorem State.laneState_wakesLane (n : Nat) : (s.wakesLane p a).laneState n = s.laneState n := rfl

/-- A receiving lane waits for the join marker. -/
theorem State.exitLane_receives (ht : a.tx = false) : s.exitLane p a = s.wakesLane p a := by
  have hno : ∀ c : Prop, ¬ (a.tx = true ∧ c) := fun c hc => by simp [ht] at hc
  simp only [State.exitLane, State.beginExit, if_neg (hno _)]
  rfl

/-- A transmitting lane in Stable sends the lock pattern first. -/
theorem State.exitLane_stable (ht : a.tx = true) (h : s.laneState a.lane = 6) :
    s.exitLane p a = (s.wakesLane p a).laneSend a.lane 2 [(s.wakesLane p a).lockLen a.lane] := by
  have hbegin : s.beginExit p a = (s.wakesLane p a).laneSend a.lane 2 [(s.wakesLane p a).lockLen a.lane] :=
    if_pos ⟨ht, by rw [← State.wakesLane, State.laneState_wakesLane, h]; decide⟩
  have hstate : (s.beginExit p a).laneState a.lane = 6 := by rw [hbegin]; exact h
  rw [State.exitLane, hstate, if_neg fun hc => absurd hc.2 (by decide), hbegin]

/-- A transmitting lane in Stand joins at once. -/
theorem State.exitLane_stand (ht : a.tx = true) (h : s.laneState a.lane = 5) : s.exitLane p a = (s.wakesLane p a).joinLane p a := by
  have hbegin : s.beginExit p a = s.wakesLane p a := if_neg fun hc => hc.2 h
  have hstate : (s.wakesLane p a).laneState a.lane = 5 := h
  rw [State.exitLane, hbegin, hstate, if_pos ⟨ht, rfl⟩]

end

/-! ### The wake pattern -/

section
variable {s : State} {p : Nat}

theorem State.wakePattern_notParked (h : (s.link p).parked = false) : s.wakePattern p = s := if_neg (by simp [h])

section
variable (h : (s.link p).parked = true)
include h

/-- An end that was not waking sends the wake pattern before it unparks (R365). -/
theorem State.wakePattern_awake (ha : (s.patternWakes p).lanesAwake p = true) : s.wakePattern p =
    (if ((s.patternWakes p).link p).waking then s.patternWakes p else (s.patternWakes p).sendWake p).unpark p :=
  (if_pos h).trans (if_pos ha)

theorem State.wakePattern_asleep (ha : (s.patternWakes p).lanesAwake p = false) : s.wakePattern p = s.patternWakes p :=
  (if_pos h).trans (if_neg (by simp [ha]))

end

theorem exec_wakePatternRepeat_notParked {p : Fin 6} (h : (s.link p).parked = false) : exec (.wakePatternRepeat p) s = .next s :=
  congrArg Host.Outcome.next (if_neg fun hc => by simp [h] at hc)

end

/-- Settles O16, clause by clause: entering low power, leaving it, the wake pattern. -/
theorem lowPowerAndWake : Obligations.LowPowerAndWake := by
  refine ⟨fun s p ha => ?_, fun s p a ha hcw => ?_, fun s p a ha hb hcw hk => ?_, fun s p a ha hk hb hcw => ?_,
    fun s p hp hw => congrArg Host.Outcome.next (if_pos ⟨hp, hw⟩), fun s p hp => ?_,
    fun s p hp => ⟨exec_wakePatternRepeat_notParked hp, congrArg Host.Outcome.next (State.wakePattern_notParked hp)⟩⟩
  · have hdue := State.dueAct_none ha
    exact ⟨congrArg Host.Outcome.next (State.lowPowerEnter_none hdue), congrArg Host.Outcome.next (State.lowPowerExit_none hdue)⟩
  · have hdue := State.dueAct_early ha hcw
    exact ⟨congrArg Host.Outcome.next (State.lowPowerEnter_none hdue), congrArg Host.Outcome.next (State.lowPowerExit_none hdue)⟩
  · have hdue := State.dueAct_due ha hb hcw
    exact ⟨fun h => congrArg Host.Outcome.next (State.lowPowerEnter_striping hdue hk h),
      fun h0 h1 hr => congrArg Host.Outcome.next (State.lowPowerEnter_last hdue hk h0 h1 hr)⟩
  · have hdue := State.dueAct_due ha hb hcw
    refine ⟨fun h6 ht => congrArg Host.Outcome.next ?_, fun h5 ht => congrArg Host.Outcome.next ?_, fun h0 ht => congrArg Host.Outcome.next ?_⟩
    · have hstate : s.laneState a.lane = 6 := h6
      exact (State.lowPowerExit_due hdue hk (by omega)).trans (State.exitLane_stable ht hstate)
    · have hstate : s.laneState a.lane = 5 := h5
      exact (State.lowPowerExit_due hdue hk (by omega)).trans (State.exitLane_stand ht hstate)
    · exact (State.lowPowerExit_due hdue hk h0).trans (State.exitLane_receives ht)
  · exact ⟨fun ha => congrArg Host.Outcome.next (State.wakePattern_awake hp ha), fun ha => congrArg Host.Outcome.next (State.wakePattern_asleep hp ha)⟩

end Sys2Proof.Machine
end

section
/-!
Lane tests (R60 to R63): the eye scan, the pattern checker, the injector.
-/

namespace Sys2Proof.Machine

/-! ### Reporting an event leaves the commands that execute -/

section
variable (s : State)

theorem State.entries_notifyLost : s.notifyLost.cmd.entries = s.cmd.entries := by
  simp only [State.notifyLost]
  split <;> rfl

theorem State.entries_notifyUsb (b : List Byte) : ((s.notifyUsb b).getD s.notifyLost).cmd.entries = s.cmd.entries := by
  simp only [State.notifyUsb]
  split
  · rfl
  · exact s.entries_notifyLost

theorem State.entries_notifyHub (b : List Byte) : ((s.notifyHub b).getD s.notifyLost).cmd.entries = s.cmd.entries := by
  simp only [State.notifyHub]
  split
  · split
    · exact s.entries_notifyLost
    · rfl
  · rfl

theorem State.entries_notify (e : LogEntry) : (s.notify e).cmd.entries = s.cmd.entries := by
  simp only [State.notify]
  split
  · rfl
  · split <;> split <;> simp only [State.entries_notifyHub, State.entries_notifyUsb]

@[simp] theorem State.entries_raise (e : Evt) : (s.raise e).cmd.entries = s.cmd.entries := by
  simp only [State.raise, State.raiseWith]
  split
  · rfl
  · split
    · rw [State.entries_notify]
      rfl
    · rfl

end

/-! ### The eye scan -/

section
variable {s : State} {n : Nat} {e : Word}

theorem State.scanDone_idle (h : s.rd (LN_ES_CTRL.BUSY n) = 0) : s.scanDone n e = s := if_neg (State.not_on h)

theorem State.waiter_of_noEntries {w : Wait → Bool} (h : s.cmd.entries = []) : s.waiter w = none := by
  rw [State.waiter, h, List.find?_nil]

/-- With no command in hand the point of the scan is all that completes (R60). -/
theorem State.scanDone_running (hb : s.rd (LN_ES_CTRL.BUSY n) ≠ 0) (hc : s.cmd.entries = []) : s.scanDone n e = s.scanResult n e := by
  have hnone : (s.scanResult n e).cmd.entries = [] := (State.entries_raise _ _).trans hc
  rw [State.scanDone, if_pos ((s.on_iff_rd_ne_zero _).mpr hb)]
  simp only [State.waiter_of_noEntries hnone]

end

/-! ### The pattern checker -/

section
variable {s : State} {n : Nat}

theorem State.checking_iff : s.checking n = true ↔ s.rd (LN_STAT.STATE n) = 7 ∧ s.rd (LN_PAT_CTRL.CHK_EN n) ≠ 0 := by
  rw [State.checking, Bool.and_eq_true, decide_eq_true_iff, State.on_iff_rd_ne_zero]
  rfl

theorem State.not_checking (h : s.rd (LN_STAT.STATE n) ≠ 7 ∨ s.rd (LN_PAT_CTRL.CHK_EN n) = 0) : ¬ s.checking n = true := by
  rw [State.checking_iff]
  tauto

/-- Counting errors and bits writes the counts' registers alone (R62). -/
theorem State.reg_patAdd {e a : Nat} (herr : a ≠ LN_PAT_ERR n) (hlo : a ≠ LN_PAT_BITS_LO n) (hhi : a ≠ LN_PAT_BITS_HI n) :
    (s.patAdd n e).reg a = s.reg a := by
  rw [State.patAdd, State.modLane_reg, State.wr64, State.reg_wr_ne _ (LN_PAT_BITS_HI.BITS_HI n) _ hhi,
    State.reg_wr_ne _ (LN_PAT_BITS_LO.BITS_LO n) _ hlo, State.satAdd, State.reg_wr_ne _ (LN_PAT_ERR.ERRORS n) _ herr]

/-- The error count saturates (R62, R459). -/
theorem State.rd_errors_patAdd {e : Nat} : (s.patAdd n e).rd (LN_PAT_ERR.ERRORS n) = min (2 ^ 32 - 1) (s.rd (LN_PAT_ERR.ERRORS n) + e) := by
  have hhi : (LN_PAT_ERR.ERRORS n).addr ≠ (LN_PAT_BITS_HI.BITS_HI n).addr := by simp [LN_PAT_ERR.ERRORS, LN_PAT_ERR, LN_PAT_BITS_HI.BITS_HI, LN_PAT_BITS_HI]
  have hlo : (LN_PAT_ERR.ERRORS n).addr ≠ (LN_PAT_BITS_LO.BITS_LO n).addr := by simp [LN_PAT_ERR.ERRORS, LN_PAT_ERR, LN_PAT_BITS_LO.BITS_LO, LN_PAT_BITS_LO]
  have hfits : min (2 ^ 32 - 1) (s.rd (LN_PAT_ERR.ERRORS n) + e) < 2 ^ 32 := by omega
  rw [State.patAdd, State.modLane_rd, State.wr64, State.rd_wr_ne _ _ _ _ (.inl hhi), State.rd_wr_ne _ _ _ _ (.inl hlo), State.satAdd,
    State.rd_wr_self _ (LN_PAT_ERR.ERRORS n) _ (Nat.le_refl 32)]
  exact Nat.mod_eq_of_lt hfits

/-- A checker whose lock drops: the errors are counted, then LOCKED falls (R62). -/
def State.patDropped (s : State) (n e : Nat) : State := (s.patAdd n e).wr (LN_PAT_CTRL.LOCKED n) 0

theorem State.rd_locked_patDropped {e : Nat} : (s.patDropped n e).rd (LN_PAT_CTRL.LOCKED n) = 0 :=
  State.rd_wr_self _ _ _ (show 6 + 1 ≤ 32 by decide)

theorem State.rd_errors_patDropped {e : Nat} :
    (s.patDropped n e).rd (LN_PAT_ERR.ERRORS n) = min (2 ^ 32 - 1) (s.rd (LN_PAT_ERR.ERRORS n) + e) := by
  have hne : (LN_PAT_ERR.ERRORS n).addr ≠ (LN_PAT_CTRL.LOCKED n).addr := by simp [LN_PAT_ERR.ERRORS, LN_PAT_ERR, LN_PAT_CTRL.LOCKED, LN_PAT_CTRL]
  rw [State.patDropped, State.rd_wr_ne _ _ _ _ (.inl hne), State.rd_errors_patAdd]

theorem State.reg_patDropped {e a : Nat} (hctrl : a ≠ LN_PAT_CTRL n) (herr : a ≠ LN_PAT_ERR n) (hlo : a ≠ LN_PAT_BITS_LO n)
    (hhi : a ≠ LN_PAT_BITS_HI n) : (s.patDropped n e).reg a = s.reg a := by
  rw [State.patDropped, State.reg_wr_ne _ (LN_PAT_CTRL.LOCKED n) _ hctrl, State.reg_patAdd herr hlo hhi]

end

section
variable {s : State} {n : Fin 24}

theorem exec_patLocked_locks {l : List Bool} (hc : s.checking n = true) (hk : s.rd (LN_PAT_CTRL.LOCKED n) = 0) (hl : s.patLocks n l = true) :
    exec (.patLocked ⟨n, l⟩) s = .next ((s.wr (LN_PAT_CTRL.LOCKED n) 1).modLane n fun x => { x with patAt := s.uptime }) :=
  congrArg Host.Outcome.next (if_pos ⟨hc, State.not_on hk, hl⟩)

theorem exec_patLocked_ignored {l : List Bool} (h : ¬ s.checking n = true ∨ s.patLocks n l = false) : exec (.patLocked ⟨n, l⟩) s = .next s :=
  congrArg Host.Outcome.next (if_neg fun hc => h.elim (fun hn => hn hc.1) fun hn => Bool.false_ne_true (hn.symm.trans hc.2.2))

section
variable {w : BitVec 64} {e : Fin 4294967296}

theorem exec_patLockDrop_drops (hc : s.checking n = true) (hk : s.rd (LN_PAT_CTRL.LOCKED n) ≠ 0) (hw : 32 ≤ ones64 w) :
    exec (.patLockDrop n w e) s = .next (s.patDropped n (max (ones64 w) e)) :=
  congrArg Host.Outcome.next (if_pos ⟨hc, (s.on_iff_rd_ne_zero _).mpr hk, hw⟩)

theorem exec_patLockDrop_ignored (h : ¬ s.checking n = true ∨ ones64 w < 32) : exec (.patLockDrop n w e) s = .next s :=
  congrArg Host.Outcome.next (if_neg fun hc => h.elim (fun hn => hn hc.1) (Nat.not_lt.mpr hc.2.2))

end

end

/-! ### The injector -/

section
variable {s : State} {n : Nat}

theorem State.injInterval_due (hm : s.rd (LN_INJ_CTRL.MODE n) = 2) (ht : s.transmits n = true)
    (h : max 1 (s.rd (LN_INJ_INT.INTERVAL n)) ≤ (s.lane n).injBlk) : s.injInterval n = (s.burst n).modLane n fun l => { l with injBlk := 0 } :=
  if_pos ⟨hm, ht, h⟩

theorem State.injInterval_early (h : (s.lane n).injBlk < max 1 (s.rd (LN_INJ_INT.INTERVAL n))) : s.injInterval n = s :=
  if_neg fun hc => Nat.not_le.mpr h hc.2.2

end

/-- Settles O17, clause by clause: the eye scan, the lock of the checker and its loss, the injector. -/
theorem laneTestsReport : Obligations.LaneTestsReport := by
  refine ⟨fun s n e hb hc => congrArg Host.Outcome.next (State.scanDone_running hb hc), fun s n e hb => congrArg Host.Outcome.next (State.scanDone_idle hb),
    fun s n l hs hc hk hlen hbits => ?_, fun s n l hl => exec_patLocked_ignored (.inr hl), fun s n h => ?_,
    fun s n w e hw => exec_patLockDrop_ignored (.inr hw), fun s n w e hs hc hk hw => ?_, fun s n hm hs hd => ?_⟩
  · have hlocks : s.patLocks n l = true := by
      rw [State.patLocks, Bool.and_eq_true]
      exact ⟨decide_eq_true hlen, hbits⟩
    exact exec_patLocked_locks (State.checking_iff.mpr ⟨hs, hc⟩) hk hlocks
  · have hno := State.not_checking h
    exact ⟨fun l => exec_patLocked_ignored (.inl hno), fun w e => exec_patLockDrop_ignored (.inl hno)⟩
  · exact ⟨_, exec_patLockDrop_drops (State.checking_iff.mpr ⟨hs, hc⟩) hk hw, State.rd_locked_patDropped, State.rd_errors_patDropped, rfl,
      fun a => State.reg_patDropped⟩
  · have ht : s.transmits n = true := decide_eq_true ⟨hs, hd⟩
    exact ⟨fun h => congrArg Host.Outcome.next (State.injInterval_due hm ht h), fun h => congrArg Host.Outcome.next (State.injInterval_early h)⟩

end Sys2Proof.Machine
end

section
/-!
Messages of the lane plan (R57, R59, R81, R161), of a link that goes down (R516) and of an echo (R80): an announced action is taken up, held, refused or late.
-/

namespace Sys2Proof.Machine

/-! ### Taking an announced action up -/

section
variable {s : State} {p : Nat} {a : LaneAct}

/-- An action is not late while its codeword has not begun in either direction (R81). -/
theorem State.lateAct_of_ahead (htx : (s.link p).cwTx < a.cw) (hrx : (s.link p).cwRx ≤ a.cw) : s.lateAct p a = false := by
  refine decide_eq_false (Nat.not_lt.mpr ?_)
  split
  · split <;> omega
  · exact hrx

theorem State.holdAct_free (h : (s.link p).act = none) : s.holdAct p a = s.modLink p fun l => { l with act := some a } := by
  simp only [State.holdAct, State.modLink, h, Option.isSome_none, Bool.false_eq_true, if_false]

theorem State.announced_onTime (ha : (s.link p).act = none) (h : s.lateAct p a = false) :
    s.announced p a = s.modLink p fun l => { l with act := some a } := by
  have hon : ¬ ((s.link p).act.isNone = true ∧ s.lateAct p a = true) := by simp [h]
  rw [State.announced, if_neg hon, State.holdAct_free ha]

/-- A refusal says so in LEAD_RESULT 3 and reports nothing (R80). -/
theorem State.refuseAct_refused : s.refuseAct p a 3 = s.sendCtl p 0x07 (be 1 (a.lane % 4) ++ be 1 3 ++ be 2 0 ++ be 8 a.cw) := by
  rw [State.refuseAct, if_neg (by decide)]

end

/-! ### The messages -/

section
variable {s : State} {p : Nat} (hup : (s.link p).linkUp = true)
include hup

/-- A follower stores the table and its codeword (R161). -/
theorem State.planFlip_follows {tb cw : Nat} (hcw : (s.link p).cwRx ≤ cw) (hf : s.rd (AL_CTRL.FOLLOW p) ≠ 0) (ho : s.planOwner p = some false) :
    s.planFlip p tb cw = s.modSched p fun x => { x with follow := some (tb, cw) } := by
  have hfollows : s.on (AL_CTRL.FOLLOW p) = true ∧ s.planOwner p = some false := ⟨(s.on_iff_rd_ne_zero _).mpr hf, ho⟩
  refine (if_pos hup).trans ?_
  simp only [if_neg (Nat.not_lt.mpr hcw), if_pos hfollows]

section
variable {lane g np cw : Nat}

/-- The lead change that a message announces: the lane stands in it in this end's numbering (assumption row 138). -/
def State.announcedTurn (s : State) (p lane g np cw : Nat) : LaneAct :=
  { kind := 0, lane := s.laneOfPartner p lane, tx := decide (g = 1), newPos := np, cw := cw, far := true }

theorem State.leadChange_parked (hp : (s.link p).parked = true) :
    s.leadChange p lane g np cw = s.refuseAct p (s.announcedTurn p lane g np cw) 3 :=
  (if_pos hup).trans (if_pos (.inl hp))

/-- A lane in Active that may turn and stands in the giver's direction turns (R54). -/
theorem State.leadChange_turns (hp : (s.link p).parked = false) (hm : s.mayTurn p = true) (hn : s.rd (LN_CTRL.NO_TURN (s.laneOfPartner p lane)) = 0)
    (hd : s.rd (LN_STAT.DIR (s.laneOfPartner p lane)) = if g = 1 then 0 else 1) (hs : s.laneState (s.laneOfPartner p lane) = 3) :
    s.leadChange p lane g np cw = s.announced p (s.announcedTurn p lane g np cw) := by
  refine (if_pos hup).trans (if_neg ?_)
  rintro (h | h | h | h | h)
  · simp [hp] at h
  · exact State.not_on hn h
  · exact h hm
  · exact h hd
  · exact h (.inl hs)

end

/-- A transmitting lane in service is restriped out of its direction, 1 us ahead (R57). -/
theorem State.laneFault_served {lane : Nat} (hd : s.rd (LN_STAT.DIR (s.laneOfPartner p lane)) = 0) (hs : s.inService (s.laneOfPartner p lane) = true) :
    let n := s.laneOfPartner p lane
    let cw := (s.link p).cwTx + 1 + s.codewordsIn p 0 1000
    s.laneFault p lane = (s.sendCtl p 0x09 (be 1 (n % 4) ++ be 3 0 ++ be 8 cw)).holdAct p { kind := 1, lane := n, tx := true, cw := cw } :=
  if_pos ⟨hup, hd, hs⟩

theorem State.restripe_onTime {lane cw : Nat} (hcw : (s.link p).cwRx ≤ cw) :
    s.restripe p lane cw = s.holdAct p { kind := 1, lane := s.laneOfPartner p lane, tx := false, cw := cw, far := true } := by
  have hnot : decide (cw < (s.link p).cwRx) = false := decide_eq_false (Nat.not_lt.mpr hcw)
  refine (if_pos hup).trans ?_
  simp only [hnot, Bool.false_eq_true, if_false, max_eq_left hcw]

section
variable {lane cw : Nat}

/-- A low-power action that a message announces. -/
def State.announcedPower (s : State) (p lane k cw : Nat) : LaneAct :=
  { kind := 2 + k, lane := s.laneOfPartner p lane, tx := decide (s.rd (LN_STAT.DIR (s.laneOfPartner p lane)) = 0), cw := cw, far := true }

/-- A park is refused during a lead change (R364). -/
theorem State.lowPower_turning {a : LaneAct} (ha : (s.link p).act = some a) (hk : a.kind = 0) :
    s.lowPower p lane 1 cw = s.refuseAct p (s.announcedPower p lane 1 cw) 3 := by
  refine (if_pos hup).trans (if_pos (.inl ⟨rfl, ?_⟩))
  simp [ha, hk]

/-- The exit of a lane that is not late is taken up (R59). -/
theorem State.lowPower_exit (ha : (s.link p).act = none) (htx : (s.link p).cwTx < cw) (hrx : (s.link p).cwRx ≤ cw) :
    s.lowPower p lane 2 cw = s.modLink p fun l => { l with act := some (s.announcedPower p lane 2 cw) } := by
  have hlate : s.lateAct p (s.announcedPower p lane 2 cw) = false := State.lateAct_of_ahead htx hrx
  refine (if_pos hup).trans ((if_neg ?_).trans ((if_neg ?_).trans (State.holdAct_free ha)))
  · rintro (⟨h, _⟩ | ⟨h, _⟩) <;> cases h
  · exact ne_true_of_eq_false hlate

end

/-- Any reason but 0 and 1 trains the link again (R516). -/
theorem State.linkDownMsg_retrains {r : Nat} (hr : 2 ≤ r) : s.linkDownMsg p r = (s.linkDown p).startTraining p := by
  obtain ⟨r, rfl⟩ := Nat.exists_eq_add_of_le' hr
  exact if_pos hup

end

section
variable {s : State} {p : Nat}

/-- A reply ends the echo command that waits for its token, with the round trip (R80, R437). -/
theorem State.echoReply_awaited {k : Nat} {e : CmdEntry} {t0 : Time} (hk : (s.link p).echoTok = k) (he : s.cmd.entries = [e]) (hr : e.running = true)
    (hw : e.wait = .echo p t0) : s.echoReply p k = s.answer e stOk 0 (le 4 (s.time.toNs - t0.toNs)) := by
  refine (if_pos hk).trans ?_
  simp [State.waiter, he, hr, hw]

/-- ROLE_SWAP_ACK 0 or 1 leaves the partner's role as it was (R177). -/
theorem State.roleSwapAckMsg_of_lt {r : Nat} (h : r < 2) :
    s.roleSwapAckMsg p r = (s.roleSwapAck p r).finish (fun w => decide (w = .roleSwap p)) stOk 0 (le 1 r) := by
  rw [State.roleSwapAckMsg, if_neg (by omega)]

end

/-- Settles O23, clause by clause: the announced lane actions (assumption rows 54 and 138), LINK_DOWN, the echo, the role swap. -/
theorem lanePlanMessages : Obligations.LanePlanMessages := by
  refine ⟨fun s p tb cw hup hcw hf ho => congrArg Host.Outcome.next (State.planFlip_follows hup hcw hf ho),
    fun s p lane g np cw hup hp => congrArg Host.Outcome.next ((State.leadChange_parked hup hp).trans State.refuseAct_refused),
    fun s p lane g np cw hup hp ha hm htx hrx hn hd hs => congrArg Host.Outcome.next
      ((State.leadChange_turns hup hp hm hn hd hs).trans (State.announced_onTime ha (State.lateAct_of_ahead htx hrx))),
    fun s p lane r hup hd hs => congrArg Host.Outcome.next (State.laneFault_served hup hd hs),
    fun s p lane cw hup hcw => congrArg Host.Outcome.next (State.restripe_onTime hup hcw),
    fun s p lane cw a hup ha hk => congrArg Host.Outcome.next ((State.lowPower_turning hup ha hk).trans State.refuseAct_refused),
    fun s p lane cw hup ha htx hrx => congrArg Host.Outcome.next (State.lowPower_exit hup ha htx hrx), fun s p r hup => ⟨?_, ?_, fun hr => ?_⟩,
    fun s p r hup => congrArg Host.Outcome.next (if_neg (ne_true_of_eq_false hup)), fun s p k => rfl,
    fun s p k hk => congrArg Host.Outcome.next (if_neg hk), fun s p k e t0 hk he hr hw => congrArg Host.Outcome.next (State.echoReply_awaited hk he hr hw),
    fun s p r hr => congrArg Host.Outcome.next (State.roleSwapAckMsg_of_lt hr)⟩
  · rintro rfl
    exact congrArg Host.Outcome.next (if_pos hup)
  · rintro rfl
    exact congrArg Host.Outcome.next (if_pos hup)
  · exact congrArg Host.Outcome.next (State.linkDownMsg_retrains hup hr)

end Sys2Proof.Machine
end

section
/-!
Power states (R362 to R371): the handshake, the end of an entry, wake sources, the end of a wake, domains, and LEAD_RESULT, which ends a turn of this end.
-/

namespace Sys2Proof.Machine

/-! ### The values of a field, and the actions that wait on a link -/

theorem State.rd_lt (s : State) (f : Fld) : s.rd f < 2 ^ f.width := by
  refine Nat.lt_pow_two_of_testBit _ fun i hi => ?_
  rw [State.rd, testBit_getField, decide_eq_false (Nat.not_lt.mpr hi), Bool.false_and]

theorem State.modLink_filter_held {s : State} {p : Nat} (h : (s.link p).held = []) (q : LaneAct → Bool) :
    (s.modLink p fun l => { l with held := l.held.filter q }) = s.modLink p fun l => { l with held := [] } := by
  rw [State.modLink, State.modLink, h, List.filter_nil]

/-! ### The entry -/

section
variable {s : State}

/-- While blocks delay, DELAY_EXPIRE alone asks them again (R362). -/
theorem exec_handshake_delayed (h : s.pwr.delayed ≠ []) : exec .handshakeRound s = .next s ∧ exec .delayExpire s = .next s.handshake := by
  have hno : ¬ s.pwr.delayed.isEmpty = true := by simpa using h
  exact ⟨congrArg Host.Outcome.next (if_neg hno), congrArg Host.Outcome.next (if_neg hno)⟩

theorem exec_handshake_notDelayed (h : s.pwr.delayed = []) : exec .handshakeRound s = .next s.handshake ∧ exec .delayExpire s = .next s := by
  have hyes : s.pwr.delayed.isEmpty = true := by simpa using h
  exact ⟨congrArg Host.Outcome.next (if_pos hyes), congrArg Host.Outcome.next (if_pos hyes)⟩

/-- The answer of a block to the entry in progress: none refuses or delays H1 (R362). -/
def State.entryAnswer (s : State) (b : Nat) : PsAnswer := if s.pwr.target = 1 then PsAnswer.accept else s.blockAnswer b

/-- The blocks that have not accepted yet. -/
def State.askedBlocks (s : State) : List Nat := s.psBlocks.filter fun b => !s.pwr.accepted.contains b

theorem State.handshake_accepted (hs : s.pwr.step = .handshake) (hr : (s.askedBlocks.filter fun b => decide (s.entryAnswer b = .refuse)) = [])
    (hd : (s.askedBlocks.filter fun b => decide (s.entryAnswer b = .delay)) = []) : s.handshake = s.allAccepted := by
  have hnone : ¬ ¬ (s.askedBlocks.filter fun b => decide (s.entryAnswer b = .refuse)).isEmpty = true := not_not_intro (List.isEmpty_iff.mpr hr)
  exact (if_pos hs).trans ((if_neg hnone).trans (if_pos (List.isEmpty_iff.mpr hd)))

/-- An entry to H1 ends in it with nothing parked, and the next request runs (R361, R366). -/
theorem State.entryComplete_h1 (hs : s.pwr.step = .parking) (ht : s.pwr.target = 1) : s.entryComplete =
    (((s.wr PS_STAT.STATE 1).wr PS_STAT.ENTERING 0).modPwr fun w => { w with step := .idle, lateLevel := [] }).nextRequest := by
  refine (if_pos ⟨hs, .inl ht⟩).trans ?_
  simp only [ht, if_true]

end

/-! ### Wake sources -/

section
variable {s : State} {i : Nat} {l : Bool}

theorem State.wakeEvent_disabled (h : bitOf (s.rd PS_WAKE_EN.SRC) i = false) : s.wakeEvent i l = s := if_pos (ne_true_of_eq_false h)

theorem State.wakeEvent_asleep (h : bitOf (s.rd PS_WAKE_EN.SRC) i = true) (he : s.rd PS_STAT.ENTERING = 0) (hs : 2 ≤ s.rd PS_STAT.STATE)
    (hw : s.rd PS_STAT.WAKING = 0) : s.wakeEvent i l = s.beginWake [i] :=
  (if_neg (not_not_intro h)).trans ((if_neg fun hc => State.not_on he hc.1).trans (if_pos ⟨hs, State.not_on hw⟩))

theorem exec_wakeTimerExpire_idle (h : s.rd PS_STAT.STATE < 2 ∨ s.rd PS_WAKE_TMR.MS = 0) : exec .wakeTimerExpire s = .next s :=
  congrArg Host.Outcome.next (if_neg fun hc => h.elim (Nat.not_lt.mpr hc.1) hc.2)

end

/-! ### The end of a wake -/

section
variable {s : State} {slept : Nat}

/-- The domains that slept are on again, and the watchdog goes on from where it stood (R354, R371). -/
def State.domainsBack (s : State) : State :=
  let t := (s.setDomains s.pwr.sleepDoms true).modPwr fun w => { w with sleepDoms := [] }
  { t with clk := { t.clk with wdtAt := t.clk.wdtAt + (t.uptime - t.pwr.sleepAt) } }

/-- The hub is in the state of WAKE_TO and its adapters go on (R364, R368). -/
def State.awake (s : State) : State :=
  ((s.domainsBack.wr PS_STAT.STATE (s.domainsBack.rd PS_CFG.WAKE_TO)).wr PS_STAT.WAKING 0).pauseAll false

/-- The time slept in H3 is added, and where it led is recorded (R369). -/
def State.timeSlept (s : State) (slept : Nat) : State :=
  let t : State := { s with time := s.time.add slept 0 }
  (t.wr PS_WAKE_TS_S.VALUE (t.time.sec % 2 ^ 32)).wr PS_WAKE_TS_NS.VALUE t.time.ns

theorem State.wakeComplete_idle (h : s.rd PS_STAT.WAKING = 0) : s.wakeComplete slept = s := if_neg (State.not_on h)

section
variable (hw : s.rd PS_STAT.WAKING ≠ 0)
include hw

theorem State.wakeComplete_of_h2 (hs : s.rd PS_STAT.STATE = 2) : s.wakeComplete slept = s.awake.nextRequest := by
  have hne : ¬ s.rd PS_STAT.STATE = 3 := by omega
  refine (if_pos ((s.on_iff_rd_ne_zero _).mpr hw)).trans ?_
  simp only [if_neg hne]
  rfl

theorem State.wakeComplete_of_h3 (hs : s.rd PS_STAT.STATE = 3) : s.wakeComplete slept = (s.awake.timeSlept slept).nextRequest := by
  refine (if_pos ((s.on_iff_rd_ne_zero _).mpr hw)).trans ?_
  simp only [if_pos hs]
  rfl

end

/-! What the end of a wake leaves: the operations on every adapter and on every domain keep whatever each single one keeps. -/

theorem State.eachIn_induction {α : Type} {P : State → Prop} {f : α → State → State} (hf : ∀ x t, P t → P (f x t)) :
    ∀ (l : List α) (t : State), P t → P (t.eachIn l f)
  | [], _, h => h
  | x :: l, t, h => State.eachIn_induction hf l (f x t) (hf x t h)

theorem State.pauseAll_kept (on : Bool) : (s.pauseAll on).regs = s.regs ∧ (s.pauseAll on).time = s.time ∧ (s.pauseAll on).pwr = s.pwr := by
  refine State.eachIn_induction (P := fun t => t.regs = s.regs ∧ t.time = s.time ∧ t.pwr = s.pwr) (fun a t h => ?_) _ _ ⟨rfl, rfl, rfl⟩
  exact h

theorem State.setDomains_kept (l : List Nat) (on : Bool) :
    (∀ f : Fld, f.addr ≠ PS_DOM → (s.setDomains l on).rd f = s.rd f) ∧ (s.setDomains l on).time = s.time :=
  State.eachIn_induction (P := fun t => (∀ f : Fld, f.addr ≠ PS_DOM → t.rd f = s.rd f) ∧ t.time = s.time)
    (fun _ _ h => ⟨fun f hf => (State.rd_wr_ne _ _ _ _ (.inl hf)).trans (h.1 f hf), h.2⟩) _ _ ⟨fun _ _ => rfl, rfl⟩

theorem State.rd_pauseAll (on : Bool) (f : Fld) : (s.pauseAll on).rd f = s.rd f := by
  rw [State.rd, State.rd, State.reg, State.reg, (s.pauseAll_kept on).1]

theorem State.time_awake : s.awake.time = s.time :=
  (State.pauseAll_kept false).2.1.trans (State.setDomains_kept s.pwr.sleepDoms true).2

theorem State.sleepDoms_awake : s.awake.pwr.sleepDoms = [] := congrArg PowerSt.sleepDoms (State.pauseAll_kept false).2.2

theorem State.rd_waking_awake : s.awake.rd PS_STAT.WAKING = 0 := by
  rw [State.awake, State.rd_pauseAll, State.rd_wr_self _ _ _ (by decide), Nat.zero_mod]

theorem State.rd_state_awake : s.awake.rd PS_STAT.STATE = s.rd PS_CFG.WAKE_TO := by
  have hto : s.domainsBack.rd PS_CFG.WAKE_TO = s.rd PS_CFG.WAKE_TO := (State.setDomains_kept s.pwr.sleepDoms true).1 _ (by decide)
  have hbit : s.rd PS_CFG.WAKE_TO < 2 := s.rd_lt PS_CFG.WAKE_TO
  rw [State.awake, State.rd_pauseAll, State.rd_wr_ne _ _ _ _ (by decide), State.rd_wr_self _ _ _ (by decide), hto]
  exact Nat.mod_eq_of_lt (Nat.lt_trans hbit (by decide))

theorem State.time_timeSlept : (s.timeSlept slept).time = s.time.add slept 0 := rfl

theorem State.rd_timeSlept {f : Fld} (hs : f.addr ≠ PS_WAKE_TS_S) (hn : f.addr ≠ PS_WAKE_TS_NS) : (s.timeSlept slept).rd f = s.rd f := by
  rw [State.timeSlept, State.rd_wr_ne _ _ _ _ (.inl hn), State.rd_wr_ne _ _ _ _ (.inl hs)]
  rfl

theorem State.rd_wakeSeconds_timeSlept : (s.timeSlept slept).rd PS_WAKE_TS_S.VALUE = (s.timeSlept slept).time.sec % 2 ^ 32 := by
  rw [State.timeSlept, State.rd_wr_ne _ _ _ _ (.inl (by decide)), State.rd_wr_self _ _ _ (by decide)]
  exact Nat.mod_mod _ _

theorem State.rd_wakeNanos_timeSlept : (s.timeSlept slept).rd PS_WAKE_TS_NS.VALUE = (s.timeSlept slept).time.ns % 2 ^ 30 :=
  State.rd_wr_self _ _ _ (by decide)

end

/-! ### Domains -/

section
variable {s : State} {d : Fin 22}

theorem exec_domainIdleOff_busy (h : s.domIdle d = false) : exec (.domainIdleOff d) s = .next s :=
  congrArg Host.Outcome.next (if_neg fun hc => ne_true_of_eq_false h hc.2)

theorem exec_domainIdleOff_h1 (hs : s.rd PS_STAT.STATE = 1) (h : s.domIdle d = true) :
    exec (.domainIdleOff d) s = .next ((s.wr ⟨PS_DOM, d, 1⟩ 0).domHeld d) :=
  congrArg Host.Outcome.next (if_pos ⟨.inl hs, h⟩)

theorem State.domainReady_off {us : Nat} (h : s.rd ⟨PS_DOM, d, 1⟩ = 0) :
    s.domainReady d us = (s.wr ⟨PS_DOM, d, 1⟩ 1).wr PS_STALL.US (max (s.rd PS_STALL.US) us) := by
  have hoff : ¬ s.domOn d = true := by
    have hne : ¬ d.val = 22 := by omega
    simpa [State.domOn, hne] using State.not_on h
  exact if_neg hoff

end

/-! ### LEAD_RESULT -/

section
variable {s : State} {p lane : Nat} (hup : (s.link p).linkUp = true)
include hup

/-- The turn of this end that waits for its result is counted (R54, R64). -/
theorem State.leadResult_done (h : (s.link p).turned = some (s.laneOfPartner p lane)) : s.leadResult p lane 0 =
    (s.modLink p fun k => { k with turned := none }).wrapAdd (LN_TURN_CNT.TURNS (s.laneOfPartner p lane)) 1 :=
  (if_pos hup).trans (if_pos h)

theorem State.leadResult_done_unawaited (h : (s.link p).turned ≠ some (s.laneOfPartner p lane)) : s.leadResult p lane 0 = s :=
  (if_pos hup).trans (if_neg h)

section
variable (hh : (s.link p).held = [])
include hh

/-- A refusal where no action is in progress is of a plan that this end has given up (R165). -/
theorem State.leadResult_refused_none (ha : (s.link p).act = none) :
    s.leadResult p lane 3 = (s.modLink p fun k => { k with held := [] }).planFail p := by
  refine (if_pos hup).trans ?_
  simp [ha, hh, State.modLink_filter_held hh]

/-- A refused turn of this end that has not begun ends, counts as the last plan change and fails the plan (R165). -/
theorem State.leadResult_refused_turn {a : LaneAct} (ha : (s.link p).act = some a) (hl : a.lane = s.laneOfPartner p lane) (hk : a.kind = 0)
    (hb : a.begun = false) (hf : a.far = false) : s.leadResult p lane 3 =
    ((((s.modLink p fun k => { k with held := [] }).endAct p).modSched p fun x => { x with dwell := 0 }).planFail p) := by
  refine (if_pos hup).trans ?_
  simp [ha, hh, hl, hk, hb, hf, State.modLink_filter_held hh]

end

end

/-- Settles O34, clause by clause: the entry (assumption row 78), wake sources, the end of a wake, domains, LEAD_RESULT (assumption rows 37 and 138). -/
theorem powerStateEntryAndWake : Obligations.PowerStateEntryAndWake := by
  refine ⟨fun s => exec_handshake_delayed, fun s => exec_handshake_notDelayed, fun s hs hr hd => State.handshake_accepted hs hr hd,
    fun s hs => congrArg Host.Outcome.next (if_pos hs), fun s hs => congrArg Host.Outcome.next (if_neg hs),
    fun s hs ht => congrArg Host.Outcome.next (State.entryComplete_h1 hs ht), fun s i l h => congrArg Host.Outcome.next (State.wakeEvent_disabled h),
    fun s i l h he hs hw => congrArg Host.Outcome.next (State.wakeEvent_asleep h he hs hw), fun s h => exec_wakeTimerExpire_idle h,
    fun s hs hm => congrArg Host.Outcome.next (if_pos ⟨hs, hm⟩), fun s n hw => congrArg Host.Outcome.next (State.wakeComplete_idle hw),
    fun s n hw hs => congrArg Host.Outcome.next (State.wakeComplete_of_h2 hw hs), fun s n hw hs => ?_, fun s d h => exec_domainIdleOff_busy h,
    fun s d hs h => exec_domainIdleOff_h1 hs h, fun s d us h => congrArg Host.Outcome.next (State.domainReady_off h), fun s p l cw hup => ?_,
    fun s p l cw hup ha hh => congrArg Host.Outcome.next (State.leadResult_refused_none hup hh ha),
    fun s p l cw a hup ha hh hl hk hb hf => congrArg Host.Outcome.next (State.leadResult_refused_turn hup hh ha hl hk hb hf)⟩
  · refine ⟨s.awake.timeSlept n.toNat, congrArg Host.Outcome.next (State.wakeComplete_of_h3 hw hs), ?_, ?_, ?_, State.sleepDoms_awake,
      State.rd_wakeSeconds_timeSlept, State.rd_wakeNanos_timeSlept⟩
    · rw [State.time_timeSlept, State.time_awake]
    · rw [State.rd_timeSlept (by decide) (by decide), State.rd_waking_awake]
    · rw [State.rd_timeSlept (by decide) (by decide), State.rd_state_awake]
  · exact ⟨fun h => congrArg Host.Outcome.next (State.leadResult_done hup h), fun h => congrArg Host.Outcome.next (State.leadResult_done_unawaited hup h)⟩

end Sys2Proof.Machine
end

section
/-!
The packet header (R70) and the bytes of a packet on a link (R70, R75, R88, R91).
-/

namespace Sys2Proof.Machine

/-- FLAGS of a packet header: TC, MCAST, SPRAY, ACKREQ (R70). -/
def Packet.flags (p : Packet) : Nat := p.tc * 8 + p.mcast.toNat * 4 + p.spray.toNat * 2 + p.ackreq.toNat

/-- The header of a packet as a number (R70). -/
def Packet.headerNat (p : Packet) : Nat :=
  p.ver * 2 ^ 124 + p.cls * 2 ^ 122 + p.flags * 2 ^ 116 + p.dstHub * 2 ^ 102 + p.dstAdp * 2 ^ 94 + p.srcHub * 2 ^ 80 +
    p.srcAdp * 2 ^ 72 + p.len * 2 ^ 61 + p.seq * 2 ^ 45 + p.ts * 2 ^ 11

theorem Packet.header_eq (p : Packet) : p.header = be 16 p.headerNat := rfl

/-- Every field fits its bits of the header (R70). -/
structure Packet.Fits (p : Packet) : Prop where
  ver : p.ver < 2 ^ 4
  cls : p.cls < 2 ^ 2
  tc : p.tc < 2 ^ 3
  dstHub : p.dstHub < 2 ^ 14
  dstAdp : p.dstAdp < 2 ^ 8
  srcHub : p.srcHub < 2 ^ 14
  srcAdp : p.srcAdp < 2 ^ 8
  len : p.len < 2 ^ 11
  seq : p.seq < 2 ^ 16
  ts : p.ts < 2 ^ 34

/-- A bit of a number is the bit whose value it shows. -/
theorem bitOf_of_toNat {v i : Nat} {b : Bool} (h : v / 2 ^ i % 2 = b.toNat) : bitOf v i = b := by
  rw [bitOf, h]
  cases b <;> rfl

section
variable {p : Packet} (h : p.Fits)
include h

theorem Packet.Fits.flags_lt : p.flags < 2 ^ 6 := by
  have htc := h.tc
  have hm := p.mcast.toNat_le
  have hs := p.spray.toNat_le
  have ha := p.ackreq.toNat_le
  simp only [Packet.flags]
  omega

/-- The header number read field by field (R70). -/
theorem Packet.Fits.bitsOf_headerNat :
    p.headerNat < 2 ^ 128 ∧ bitsOf p.headerNat 124 4 = p.ver ∧ bitsOf p.headerNat 122 2 = p.cls ∧ bitsOf p.headerNat 116 6 = p.flags ∧
      bitsOf p.headerNat 102 14 = p.dstHub ∧ bitsOf p.headerNat 94 8 = p.dstAdp ∧ bitsOf p.headerNat 80 14 = p.srcHub ∧
      bitsOf p.headerNat 72 8 = p.srcAdp ∧ bitsOf p.headerNat 61 11 = p.len ∧ bitsOf p.headerNat 45 16 = p.seq ∧ bitsOf p.headerNat 11 34 = p.ts ∧
      bitsOf p.headerNat 0 11 = 0 := by
  have hflags := h.flags_lt
  obtain ⟨hver, hcls, -, hdh, hda, hsh, hsa, hlen, hseq, hts⟩ := h
  simp only [bitsOf, Packet.headerNat]
  refine ⟨?_, ?_, ?_, ?_, ?_, ?_, ?_, ?_, ?_, ?_, ?_, ?_⟩ <;> omega

/-- TC and the three flags read at their own bits (R70). -/
theorem Packet.Fits.flags_bits : bitsOf p.headerNat 119 3 = p.tc ∧ bitOf p.headerNat 118 = p.mcast ∧ bitOf p.headerNat 117 = p.spray ∧
    bitOf p.headerNat 116 = p.ackreq := by
  obtain ⟨-, -, -, hflags, -⟩ := h.bitsOf_headerNat
  have htc := h.tc
  simp only [bitsOf, Packet.flags] at hflags
  have hm := p.mcast.toNat_le
  have hs := p.spray.toNat_le
  have ha := p.ackreq.toNat_le
  refine ⟨?_, bitOf_of_toNat ?_, bitOf_of_toNat ?_, bitOf_of_toNat ?_⟩
  · simp only [bitsOf]
    omega
  all_goals omega

theorem Packet.Fits.ofBe_header : ofBe p.header = p.headerNat := by
  obtain ⟨hlt, -⟩ := h.bitsOf_headerNat
  rw [Packet.header_eq, ofBe_be]
  exact Nat.mod_eq_of_lt (Nat.lt_of_lt_of_eq hlt (by decide))

/-- The receiver reads the fields it was given, whatever follows the header (R70). -/
theorem Packet.Fits.ofHeader_header (l : List Byte) : Packet.ofHeader (p.header ++ l) = { p with payload := [], tail := 0 } := by
  obtain ⟨-, hver, hcls, -, hdh, hda, hsh, hsa, hlen, hseq, hts, -⟩ := h.bitsOf_headerNat
  obtain ⟨htc, hm, hs, ha⟩ := h.flags_bits
  have htake : (p.header ++ l).take 16 = p.header := List.take_left' (be_length 16 _)
  simp only [Packet.ofHeader, htake, h.ofBe_header, hver, hcls, htc, hm, hs, ha, hdh, hda, hsh, hsa, hlen, hseq, hts]

end

/-! ### The bytes on a link -/

section
variable {s : State} {p pn : Nat} {st : Stored} {prk : List Byte}

theorem State.wireBytes_clear (h : s.linkEnc p = false) : s.wireBytes p st prk pn = st.pkt.header ++ st.pkt.payload :=
  if_neg (ne_true_of_eq_false h)

/-- A complete packet on an encrypted link: the trailer byte is encrypted behind the payload, the tag covers header and ciphertext (R88, R91). -/
theorem State.wireBytes_sealed (h : s.linkEnc p = true) (hc : st.complete = true) (hcut : st.cut = false) :
    let k := s.linkCipher p prk true pn
    let ct := xorBytes (st.pkt.payload ++ [BitVec.ofNat 8 st.pkt.tail]) (Config.gcmPad k.1 k.2 (st.pkt.len + 1))
    s.wireBytes p st prk pn = st.pkt.header ++ ct ++ Config.gcmTag k.1 k.2 st.pkt.header ct :=
  (if_pos h).trans (if_pos ⟨hc, ne_true_of_eq_false hcut⟩)

end

/-- Settles O7: the header by its fields, then the packet in clear and encrypted (the sealed form rests on assumption rows 2 and 48). -/
theorem packetHeaderCarriesItsFields : Obligations.PacketHeaderCarriesItsFields := by
  refine ⟨fun p l hver hcls htc hdh hda hsh hsa hlen hseq hts => ?_, fun s p st prk pn h hlen => ?_, fun s p st prk pn h hc hcut => ?_⟩
  · have h : p.Fits := ⟨hver, hcls, htc, hdh, hda, hsh, hsa, hlen, hseq, hts⟩
    obtain ⟨-, hbits⟩ := h.bitsOf_headerNat
    rw [← h.ofBe_header] at hbits
    obtain ⟨hver, hcls, hflags, hdh, hda, hsh, hsa, hlen, hseq, hts, hzero⟩ := hbits
    exact ⟨be_length 16 _, hver, hcls, hflags, hdh, hda, hsh, hsa, hlen, hseq, hts, hzero, h.ofHeader_header l⟩
  · have hwire : s.wireBytes p st prk pn = st.pkt.header ++ st.pkt.payload := State.wireBytes_clear h
    exact ⟨hwire, by rw [hwire, List.length_append, hlen, Packet.header_eq, be_length]⟩
  · exact State.wireBytes_sealed h hc hcut

end Sys2Proof.Machine
end

section
/-!
Credits (R77, R78): the credits a header returns, and a report of cumulative counts, class by class.
-/

namespace Sys2Proof.Machine

/-- What the first `k` steps of an operation run for every number have kept holds after all of them. -/
theorem State.each_induction {P : Nat → State → Prop} {s : State} {f : Nat → State → State} (h0 : P 0 s)
    (hf : ∀ i t, P i t → P (i + 1) (f i t)) : ∀ n, P n (s.each n f)
  | 0 => h0
  | n + 1 => by
    rw [State.each, List.range_succ, List.foldl_append]
    exact hf n _ (State.each_induction h0 hf n)

/-- A field reads the same where its register does. -/
theorem State.rd_of_reg {s t : State} {f : Fld} (h : t.reg f.addr = s.reg f.addr) : t.rd f = s.rd f := by
  rw [State.rd, State.rd, h]

section
variable {s : State} {p tc n : Nat}

theorem State.creditReturn_pos (h : n ≠ 0) : s.creditReturn p tc n =
    (s.wr (CL_CRED_AVAIL.AVAIL p tc) (s.rd (CL_CRED_AVAIL.AVAIL p tc) + n)).modLink p fun l =>
      { l with credCum := l.credCum.set tc ((l.credCum.getD tc 0 + n) % 2 ^ 24) } := if_neg h

theorem State.rd_creditReturn_self : (s.creditReturn p tc n).rd (CL_CRED_AVAIL.AVAIL p tc) = (s.rd (CL_CRED_AVAIL.AVAIL p tc) + n) % 2 ^ 24 := by
  by_cases h : n = 0
  · rw [State.creditReturn, if_pos h, h, Nat.add_zero]
    exact (Nat.mod_eq_of_lt (s.rd_lt (CL_CRED_AVAIL.AVAIL p tc))).symm
  · rw [State.creditReturn_pos h]
    exact State.rd_wr_self _ _ _ (by decide : (0 : Nat) + 24 ≤ 32)

theorem State.reg_creditReturn_ne {a : Nat} (ha : a ≠ CL_CRED_AVAIL p tc) : (s.creditReturn p tc n).reg a = s.reg a := by
  by_cases h : n = 0
  · rw [State.creditReturn, if_pos h]
  · rw [State.creditReturn_pos h]
    exact State.reg_wr_ne _ (CL_CRED_AVAIL.AVAIL p tc) _ ha

theorem State.credCum_creditReturn_ne {i : Nat} (hi : i ≠ tc) : ((s.creditReturn p tc n).link p).credCum.getD i 0 = (s.link p).credCum.getD i 0 := by
  by_cases h : n = 0
  · rw [State.creditReturn, if_pos h]
  · rw [State.creditReturn_pos h, State.link_modLink]
    simp only [List.getD_eq_getElem?_getD, List.getElem?_set_ne hi.symm]
    rfl

@[simp] theorem State.creditReturn_out : (s.creditReturn p tc n).out = s.out := by
  by_cases h : n = 0
  · rw [State.creditReturn, if_pos h]
  · rw [State.creditReturn_pos h]
    rfl

end

theorem CL_CRED_AVAIL_injective {p i j : Nat} (h : CL_CRED_AVAIL p i = CL_CRED_AVAIL p j) : i = j := by
  simp only [CL_CRED_AVAIL] at h
  omega

/-! ### A report of cumulative counts -/

/-- How far a reported count is ahead of the last known one (R78). -/
def creditAhead (s : State) (p : Nat) (cum : List Nat) (tc : Nat) : Nat := (cum.getD tc 0 + 2 ^ 24 - (s.link p).credCum.getD tc 0) % 2 ^ 24

/-- The count of a class after a report: it rises by what is ahead, where that is below 2^23 (R78). -/
def creditRaised (s : State) (p : Nat) (cum : List Nat) (tc : Nat) : Nat :=
  if creditAhead s p cum tc < 2 ^ 23 then (s.rd (CL_CRED_AVAIL.AVAIL p tc) + creditAhead s p cum tc) % 2 ^ 24 else s.rd (CL_CRED_AVAIL.AVAIL p tc)

/-- The report of one class (R78). -/
def State.creditClass (p : Nat) (cum : List Nat) (tc : Nat) (t : State) : State :=
  if creditAhead t p cum tc < 2 ^ 23 then t.creditReturn p tc (creditAhead t p cum tc) else t

theorem State.credit_eq {s : State} {p : Nat} {cum : List Nat} (h : (s.link p).linkUp = true) :
    s.credit p cum = s.each 8 (State.creditClass p cum) := if_pos h

theorem State.rd_creditClass_self {t : State} {p tc : Nat} {cum : List Nat} :
    (t.creditClass p cum tc).rd (CL_CRED_AVAIL.AVAIL p tc) = creditRaised t p cum tc := by
  rw [State.creditClass, creditRaised]
  split
  · exact State.rd_creditReturn_self
  · rfl

/-- The classes below `k` have been raised as the report says, the others stand as before, and nothing else has changed. -/
structure State.CreditsRaised (s : State) (p : Nat) (cum : List Nat) (k : Nat) (t : State) : Prop where
  raised : ∀ tc, tc < k → t.rd (CL_CRED_AVAIL.AVAIL p tc) = creditRaised s p cum tc
  cum_eq : ∀ tc, k ≤ tc → (t.link p).credCum.getD tc 0 = (s.link p).credCum.getD tc 0
  reg_eq : ∀ a, (∀ tc, tc < k → a ≠ CL_CRED_AVAIL p tc) → t.reg a = s.reg a
  out_eq : t.out = s.out

theorem State.creditClass_raises {s t : State} {p k : Nat} {cum : List Nat} (h : s.CreditsRaised p cum k t) :
    s.CreditsRaised p cum (k + 1) (t.creditClass p cum k) := by
  obtain ⟨hraised, hcum, hreg, hout⟩ := h
  have hrd : t.rd (CL_CRED_AVAIL.AVAIL p k) = s.rd (CL_CRED_AVAIL.AVAIL p k) :=
    State.rd_of_reg (f := CL_CRED_AVAIL.AVAIL p k) (hreg _ fun tc htc heq => Nat.ne_of_gt htc (CL_CRED_AVAIL_injective heq))
  have hahead : creditAhead t p cum k = creditAhead s p cum k := by rw [creditAhead, creditAhead, hcum k (Nat.le_refl k)]
  have hreg' : ∀ a, a ≠ CL_CRED_AVAIL p k → (t.creditClass p cum k).reg a = t.reg a := fun a ha => by
    rw [State.creditClass]
    split
    · exact State.reg_creditReturn_ne ha
    · rfl
  refine ⟨fun tc htc => ?_, fun tc htc => ?_, fun a ha => ?_, ?_⟩
  · rcases Nat.lt_succ_iff_lt_or_eq.mp htc with hlt | rfl
    · exact (State.rd_of_reg (f := CL_CRED_AVAIL.AVAIL p tc) (hreg' _ fun heq => Nat.ne_of_lt hlt (CL_CRED_AVAIL_injective heq))).trans (hraised tc hlt)
    · rw [State.rd_creditClass_self, creditRaised, creditRaised, hahead, hrd]
  · rw [← hcum tc (by omega), State.creditClass]
    split
    · exact State.credCum_creditReturn_ne (by omega)
    · rfl
  · rw [hreg' a (ha k (Nat.lt_succ_self k)), hreg a fun tc htc => ha tc (Nat.lt_succ_of_lt htc)]
  · rw [← hout, State.creditClass]
    split
    · exact State.creditReturn_out
    · rfl

theorem State.credit_raises {s : State} {p : Nat} {cum : List Nat} (h : (s.link p).linkUp = true) : s.CreditsRaised p cum 8 (s.credit p cum) := by
  rw [State.credit_eq h]
  exact State.each_induction (P := s.CreditsRaised p cum)
    ⟨fun _ htc => absurd htc (Nat.not_lt_zero _), fun _ _ => rfl, fun _ _ => rfl, rfl⟩ (fun _ _ => State.creditClass_raises) 8

/-- Settles O19, by induction on the classes reported. -/
theorem creditReportRaisesCounts : Obligations.CreditReportRaisesCounts := by
  intro s p cum hup
  obtain ⟨hraised, -, hreg, hout⟩ := State.credit_raises (cum := cum.map BitVec.toNat) hup
  exact ⟨_, rfl, hraised, hreg, hout⟩

end Sys2Proof.Machine
end

section
/-!
Cells received (R66, R69, R78, R79): what CELL_RECEIVE does with the oldest cell by its kind, the packet and the control message it belongs to; the class
timeout and the rows of credits.
-/

namespace Sys2Proof.Machine

/-! ### The oldest cell by its kind -/

/-- The oldest cell has been taken and the credit of its header returned (R78). -/
def State.cellTaken (s : State) (p : Nat) (b : List Byte) (rest : List (Time × List Byte)) : State :=
  (s.modLink p fun l => { l with cells := rest }).creditReturn p (Cell.ofBytes b).crTc (Cell.ofBytes b).crCnt

section
variable {s : State} {p : Nat} {at_ : Time} {b : List Byte} {rest : List (Time × List Byte)}

theorem State.cellReceive_none (h : (s.link p).cells = []) : s.cellReceive p = s := by
  simp only [State.cellReceive, h]

section
variable (h : (s.link p).cells = (at_, b) :: rest)
include h

theorem State.cellReceive_idle (hk : (Cell.ofBytes b).kind = 0) : s.cellReceive p = s.cellTaken p b rest := by
  simp only [State.cellReceive, h, hk, State.cellTaken]

theorem State.cellReceive_packet (hk : (Cell.ofBytes b).kind = 1) : s.cellReceive p = (s.cellTaken p b rest).rxPacket p (Cell.ofBytes b) := by
  simp only [State.cellReceive, h, hk, State.cellTaken]

theorem State.cellReceive_control (hk : (Cell.ofBytes b).kind = 2) : s.cellReceive p = (s.cellTaken p b rest).rxCtl p at_ (Cell.ofBytes b) := by
  simp only [State.cellReceive, h, hk, State.cellTaken]

/-- A cell of the reserved kind is dropped, its header credit still counted (R69). -/
theorem State.cellReceive_reserved (hk : (Cell.ofBytes b).kind = 3) : s.cellReceive p = (s.cellTaken p b rest).orphan p := by
  simp only [State.cellReceive, h, hk, State.cellTaken]

end

end

/-! ### Packet cells and control cells -/

section
variable {s : State} {p : Nat} {c : Cell}

/-- The open packet of a cell's class. -/
def State.openRx (s : State) (p : Nat) (c : Cell) : Option OpenRx := (s.link p).rx.find? fun o => decide (o.tc = c.tc)

section
variable (hl : s.lstate p = 4)
include hl

theorem State.rxPacket_first (hf : c.first = true) (ho : s.openRx p c = none) : s.rxPacket p c = s.rxOpen p c := by
  rw [State.openRx] at ho
  simp [State.rxPacket, hl, hf, ho]

theorem State.rxPacket_next {o : OpenRx} (hf : c.first = false) (ho : s.openRx p c = some o) : s.rxPacket p c = s.rxExtend p o c := by
  rw [State.openRx] at ho
  simp [State.rxPacket, hl, hf, ho]

/-- A cell that goes on with no packet frees its place (assumption row 44). -/
theorem State.rxPacket_stray (hf : c.first = false) (ho : s.openRx p c = none) : s.rxPacket p c = (s.orphan p).freeCredit p c.tc 1 := by
  rw [State.openRx] at ho
  simp [State.rxPacket, hl, hf, ho]

end

/-- A message of one cell on a link without encryption, where none is open, is whole at once (R79). -/
theorem State.rxCtl_single {at_ : Time} (hf : c.first = true) (hl : c.last = true)
    (hn : ((s.modLink p fun l => { l with ctlAt := some at_ }).link p).ctlRx = none)
    (he : (s.modLink p fun l => { l with ctlAt := some at_ }).linkEnc p = false) :
    s.rxCtl p at_ c = ((s.modLink p fun l => { l with ctlAt := some at_ }).modLink p fun l => { l with ctlRx := none }).rxCtlClose p c.data 0 [] := by
  simp only [State.rxCtl, hf, hl, hn, he, if_true, Option.isSome_none, Bool.false_eq_true, if_false, false_and, and_false, List.nil_append]

/-- The open packet of a class that brings no cell for 20 us ends with code 3 (R69). -/
theorem State.classTimeout_open {tc : Nat} {o : OpenRx} (ho : ((s.link p).rx.find? fun o => decide (o.tc = tc)) = some o) :
    s.classTimeout p tc = (s.dropRx p o.id).cutPacket p o.id 3 := by
  simp only [State.classTimeout, ho]

end

/-- Settles O18, clause by clause: the cell by its kind (an orphan frees its place by assumption row 44), the class timeout, CREDIT_TIMER (what CREDIT
covers is assumption row 45), CREDIT_INIT. -/
theorem cellsAndCredits : Obligations.CellsAndCredits := by
  refine ⟨fun s p h => congrArg Host.Outcome.next (State.cellReceive_none h),
    fun s p at_ b rest h hk => congrArg Host.Outcome.next (State.cellReceive_reserved h hk),
    fun s p at_ b rest h hk => congrArg Host.Outcome.next (State.cellReceive_idle h hk), fun s p at_ b rest h hk => ?_,
    fun s p at_ b rest h hk => ?_, fun s p tc o ho => congrArg Host.Outcome.next (State.classTimeout_open ho),
    fun s p hup hv hp => congrArg Host.Outcome.next (if_pos ⟨hup, hv, ne_true_of_eq_false hp⟩),
    fun s p init hup => congrArg Host.Outcome.next (if_pos hup)⟩
  · intro c u o hl
    have hcell : s.cellReceive p = u.rxPacket p c := State.cellReceive_packet h hk
    exact ⟨fun hf ho => congrArg Host.Outcome.next (hcell.trans (State.rxPacket_first hl hf ho)), fun hf =>
      ⟨fun x ho => congrArg Host.Outcome.next (hcell.trans (State.rxPacket_next hl hf ho)),
        fun ho => congrArg Host.Outcome.next (hcell.trans (State.rxPacket_stray hl hf ho))⟩⟩
  · intro c u hf hl hn he
    exact congrArg Host.Outcome.next ((State.cellReceive_control h hk).trans (State.rxCtl_single hf hl hn he))

end Sys2Proof.Machine
end

section
/-!
Version negotiation (R80, R83): an offer by the versions it shares, the offers and the timeout of this end, the answer to an ACK.
-/

namespace Sys2Proof.Machine

section
variable {s : State} {p : Nat}

/-- Version negotiation runs on the port: the link is up and in LSTATE 2 (R83). -/
def State.negotiates (s : State) (p : Nat) : Prop := s.linkIsUp p = true ∧ s.lstate p = 2

section
variable {vers policy role uid : Nat} (hn : s.negotiates p)
include hn

/-- Version 3 is chosen wherever both ends have it (R83). -/
theorem State.versionOffer_three (h3 : bitOf (Nat.land vers (s.versBitmap p)) 3 = true) : s.versionOffer p vers policy role uid =
    (s.modLink p fun l => { l with offerGot := true, peerPolicy := policy, peerRole := role, peerUid := uid, chosen := 3 }).sendCtl p 0x02
      (be 1 3 ++ be 3 0 ++ be 8 s.uid) := by
  refine (if_pos hn).trans ?_
  simp only [h3, if_true]
  rfl

/-- An offer that shares no version fails the negotiation (R83). -/
theorem State.versionOffer_unshared (h3 : bitOf (Nat.land vers (s.versBitmap p)) 3 = false) (h2 : bitOf (Nat.land vers (s.versBitmap p)) 2 = false) :
    s.versionOffer p vers policy role uid =
      (s.modLink p fun l => { l with offerGot := true, peerPolicy := policy, peerRole := role, peerUid := uid, chosen := 0 }).verFail p := by
  refine (if_pos hn).trans ?_
  simp only [h3, h2, Bool.false_eq_true, if_false, if_true]

section
variable {version : Nat} (hg : (s.link p).offerGot = true)
include hg

theorem State.versionAck_other (h : version ≠ (s.link p).chosen) : s.versionAck p version = s.verFail p :=
  (if_pos ⟨hn.1, hn.2, hg⟩).trans (if_neg h)

/-- The ACK of the chosen version sends the credits of this end and goes on with the floor and the policies (R77, R83, R86). -/
theorem State.versionAck_chosen (h : version = (s.link p).chosen) :
    let u := (s.wr (CL_STAT.VER p) version).wr (DM_PEER.VER p) version
    s.versionAck p version = ((u.sendCtl p 0x03 (creditBody ((List.range 8).map fun tc => u.rd (CL_CRED_INIT.INIT p tc)))).ownFloor).policies p :=
  (if_pos ⟨hn.1, hn.2, hg⟩).trans (if_pos h)

end

end

end

/-- Until an offer has come this end repeats its own, and the timeout fails the negotiation (R83). -/
theorem exec_version_waiting {s : State} {p : Fin 6} (hn : s.negotiates p) (hg : (s.link p).offerGot = false) :
    exec (.versionOfferRepeat p) s = .next (s.sendOffer p) ∧ exec (.versionTimeout p) s = .next (s.verFail p) := by
  have hwait : s.linkIsUp p = true ∧ s.lstate p = 2 ∧ ¬ (s.link p).offerGot = true := ⟨hn.1, hn.2, ne_true_of_eq_false hg⟩
  exact ⟨congrArg Host.Outcome.next (if_pos hwait), congrArg Host.Outcome.next (if_pos hwait)⟩

/-- After the partner's offer neither the repeat nor the timeout does anything (R83). -/
theorem exec_version_offered {s : State} {p : Fin 6} (hg : (s.link p).offerGot = true) :
    exec (.versionOfferRepeat p) s = .next s ∧ exec (.versionTimeout p) s = .next s := by
  have hoff : ¬ (s.linkIsUp p = true ∧ s.lstate p = 2 ∧ ¬ (s.link p).offerGot = true) := fun h => h.2.2 hg
  exact ⟨congrArg Host.Outcome.next (if_neg hoff), congrArg Host.Outcome.next (if_neg hoff)⟩

/-- Settles O20, clause by clause: offers, the wait for one, ACKs. -/
theorem versionNegotiation : Obligations.VersionNegotiation :=
  ⟨fun _ _ _ _ _ _ _ hup hl h3 => congrArg Host.Outcome.next (State.versionOffer_three ⟨hup, hl⟩ h3),
    fun _ _ _ _ _ _ _ hup hl h3 h2 => congrArg Host.Outcome.next (State.versionOffer_unshared ⟨hup, hl⟩ h3 h2),
    fun _ _ hup hl hg => exec_version_waiting ⟨hup, hl⟩ hg,
    fun _ _ hg => exec_version_offered hg,
    fun _ _ _ hup hl hg h => congrArg Host.Outcome.next (State.versionAck_other ⟨hup, hl⟩ hg h),
    fun _ _ _ hup hl hg h => congrArg Host.Outcome.next (State.versionAck_chosen ⟨hup, hl⟩ hg h)⟩

end Sys2Proof.Machine
end

section
/-!
Authentication (R86 to R89): each AUTH message at its step, a failure and its record; the change of the key phase (R90).
-/

namespace Sys2Proof.Machine

/-! ### The steps of authentication -/

section
variable {s : State} {p : Nat}

/-- A failure is sent, then recorded like one of the partner's: reported, its reason kept, AUTH_OK cleared, link control only (R89; that it clears AUTH_OK is
assumption row 52). -/
theorem State.authFail_eq (reason : Nat) : s.authFail p reason =
    (((((s.sendCtl p 0x14 (be 1 reason)).raise (Ev.CL_AUTH_FAIL p)).wr (CL_AUTH.REASON p) reason).wr (CL_STAT.AUTH_OK p) 0).modLink p fun l =>
      { l with authSent := 0, authGot := 0 }).linkOnly p := rfl

/-- A link that authenticates has sent its HELLO, so an AUTH_HELLO does not make it begin (R86, R87). -/
theorem State.authHello_awaited {nonce : List Byte} {uid : Nat} (hv : s.rd (CL_STAT.VER p) = 3) (hl : s.rd (CL_STAT.LSTATE p) = 3)
    (ha : s.authAt p 1 = true) :
    s.authHello p nonce uid = (s.modLink p fun l => { l with peerNonce := nonce, peerUid := uid }).authNext p 1 (nonce ++ be 8 uid) := by
  have hver : s.linkVer p = 3 := hv
  have hstate : s.lstate p = 3 := hl
  have hretry : s.mayRetry p = false := by simp [State.mayRetry, hstate]
  simp [State.authHello, hver, hretry, ha]

section
variable {i n : Nat} {c : List Byte} (ha : s.authAt p 2 = true)
include ha

theorem State.authCert_outOfOrder (h : i ≠ (s.link p).certs.length) : s.authCert p i n c = s.authFail p 1 :=
  (if_pos ha).trans (if_pos (.inl h))

section
variable (hi : i = (s.link p).certs.length) (hin : i < n) (hn : n ≤ 3) (hc : c.length ≤ 1600)
include hi hin hn hc

/-- A certificate in its place is kept; with the last one the chain is checked (R87, R89, R377; assumption row 3). -/
theorem State.authCert_inOrder :
    let all := (s.link p).certs ++ [c]
    let u := s.modLink p fun l => { l with certs := all }
    let r := Config.certCheck all s.img.anchors (s.link p).peerUid
    s.authCert p i n c = if i + 1 < n then u
      else if r = 0 then u.authNext p 2 ((List.range n).flatMap fun k => be 1 k ++ be 1 n ++ all.getD k [])
      else u.authFail p (if r = 1 ∨ r = 7 then r else 2) := by
  have hgood : ¬ (i ≠ (s.link p).certs.length ∨ n = 0 ∨ 3 < n ∨ n ≤ i ∨ 1600 < c.length) := by omega
  have hlen : ((s.link p).certs ++ [c]).length = i + 1 := by rw [hi, List.length_append, List.length_singleton]
  refine ((if_pos ha).trans (if_neg hgood)).trans ?_
  simp only [hlen, State.link_modLink]
  rfl

end

end

theorem State.authKeyshare_judged {pub sig : List Byte} (ha : s.authAt p 3 = true) :
    let ok := Config.ecdsaVerify (Config.certPublicKey ((s.link p).certs.getD 0 [])) (Config.sha384 ((s.link p).transcript ++ pub)) sig
    s.authKeyshare p pub sig = if ok then (s.modLink p fun l =>
      { l with prkNew := Config.hmac384 (s.inOrder p (s.link p).nonce (s.link p).peerNonce) (Config.p384Ecdh (s.link p).eph pub) }).authNext p 3 (pub ++ sig)
      else s.authFail p 3 := if_pos ha

/-- On a link that is not yet encrypted a right MAC turns encryption on with key phase 0 and brings the link up (R87, R88). -/
theorem State.authFinish_clear {mac : List Byte} (ha : s.authAt p 4 = true) :
    let u := (s.wr (CL_STAT.AUTH_OK p) 1).modLink p fun l =>
      { l with authSent := 0, authGot := 0, pnTx := 0, prkTx := (s.link p).prkNew, tagFails := 0 }
    u.rd (CL_STAT.ENC p) = 0 → s.authFinish p mac = if mac = s.finishMac p then
      (((u.wr (CL_STAT.ENC p) 1).wr (CL_STAT.KP p) 0).modLink p fun l =>
        { l with prkRx := (s.link p).prkNew, pnRx := none, kpRx := 0, rxNext := none }).bringUp p
      else s.authFail p 4 := by
  intro u hu
  have henc : ¬ (u.linkEnc p = true ∧ u.lstate p = 4) := fun h => State.not_on hu h.1
  refine (if_pos ha).trans ?_
  split
  · exact if_neg henc
  · rfl

end

/-- Settles O21, clause by clause: the failure (assumption rows 51 and 52), then the messages in the order of the steps (assumption rows 2 and 3). -/
theorem authenticationSteps : Obligations.AuthenticationSteps := by
  refine ⟨fun s p reason => State.authFail_eq reason, fun s p nonce uid hv hl ha => congrArg Host.Outcome.next (State.authHello_awaited hv hl ha),
    fun s p i n c ha h => congrArg Host.Outcome.next (State.authCert_outOfOrder ha h), fun s p i n c ha hi hin hn hc => ?_,
    fun s p pub sig ha => congrArg Host.Outcome.next (State.authKeyshare_judged ha),
    fun s p mac ha hu => congrArg Host.Outcome.next (State.authFinish_clear ha hu),
    fun s p r hup hv => congrArg Host.Outcome.next (if_pos ⟨hup, hv⟩), fun s p h => congrArg Host.Outcome.next (if_pos h),
    fun s p h => congrArg Host.Outcome.next (if_pos h)⟩
  have hcert := State.authCert_inOrder ha hi hin hn hc
  refine ⟨fun h => congrArg Host.Outcome.next (hcert.trans (if_pos h)), fun h => congrArg Host.Outcome.next (hcert.trans (if_neg ?_))⟩
  omega

/-! ### The key phase -/

section
variable {s : State} {p : Nat}

/-- A link that runs version 3 encrypted. -/
def State.sealedV3 (s : State) (p : Nat) : Prop := s.linkIsUp p = true ∧ s.linkEnc p = true ∧ s.linkVer p = 3

theorem State.sealedV3_intro (hup : (s.link p).linkUp = true) (he : s.rd (CL_STAT.ENC p) ≠ 0) (hv : s.rd (CL_STAT.VER p) = 3) : s.sealedV3 p :=
  ⟨hup, (s.on_iff_rd_ne_zero _).mpr he, hv⟩

section
variable (h : s.sealedV3 p)
include h

theorem State.keyChange_starts (hr : (s.link p).rekeying = none) : s.keyChange p =
    (s.sendCtl p 0x15 (be 1 (1 - s.rd (CL_STAT.KP p)))).modLink p fun l => { l with rekeying := some (1 - s.rd (CL_STAT.KP p)) } := by
  obtain ⟨hup, henc, hver⟩ := h
  simp [State.keyChange, hup, henc, hver, hr]

/-- KEY_UPDATE of a phase that is neither in use nor held derives the next key and holds it (R90). -/
theorem State.keyUpdate_new {kp : Nat} (hk : kp ≠ (s.link p).kpRx) (hn : (s.link p).rxNext = none) : s.keyUpdate p kp =
    (s.modLink p fun l => { l with rxNext := some (nextPrk l.prkRx) }).sendCtl p 0x16 (be 1 kp) := by
  have hnew : kp ≠ (s.link p).kpRx ∧ (s.link p).rxNext.isNone = true := ⟨hk, by rw [hn]; rfl⟩
  refine (if_pos h).trans ?_
  simp only [if_pos hnew]

theorem State.keyUpdate_repeated {kp : Nat} (hk : kp = (s.link p).kpRx) : s.keyUpdate p kp = s.sendCtl p 0x16 (be 1 kp) := by
  have hold : ¬ (kp ≠ (s.link p).kpRx ∧ (s.link p).rxNext.isNone = true) := fun hc => hc.1 hk
  refine (if_pos h).trans ?_
  simp only [if_neg hold]

end

end

/-- Settles O22, clause by clause: the trigger, KEY_UPDATE, its acknowledgement. -/
theorem keyPhaseChange : Obligations.KeyPhaseChange :=
  ⟨fun _ _ hpn he hup hv hr => congrArg Host.Outcome.next ((if_pos hpn).trans (State.keyChange_starts (State.sealedV3_intro hup he hv) hr)),
    fun _ _ hpn => congrArg Host.Outcome.next (if_neg (Nat.not_le.mpr hpn)),
    fun _ _ _ hup he hv hk hn => congrArg Host.Outcome.next (State.keyUpdate_new (State.sealedV3_intro hup he hv) hk hn),
    fun _ _ _ hup he hv hk => congrArg Host.Outcome.next (State.keyUpdate_repeated (State.sealedV3_intro hup he hv) hk),
    fun _ _ _ hr => congrArg Host.Outcome.next (if_pos hr),
    fun _ _ _ hr => congrArg Host.Outcome.next (if_neg hr)⟩

end Sys2Proof.Machine
end

section
/-!
Time synchronisation of a link (R96 to R99, R183, R187): SYNC at the master and at a slave, what the messages of an exchange store and send, the judgement
of the lock.
-/

namespace Sys2Proof.Machine

/-! ### The time master does not depend on the course of an exchange -/

section
variable {s : State} {p : Nat} {f : LinkSt → LinkSt}

/-- What an update of a link keeps of it, every link keeps. -/
theorem State.link_modLink_keeps {α : Type} {g : LinkSt → α} (h : g (f (s.link p)) = g (s.link p)) (q : Nat) :
    g ((s.modLink p f).link q) = g (s.link q) := by
  by_cases hq : q = p
  · rw [hq, State.link_modLink, h]
  · exact congrArg g (Tab.get_put_ne _ _ _ _ hq)

theorem State.bestAnnounce_modLink (hu : (f (s.link p)).peerUid = (s.link p).peerUid) : (s.modLink p f).bestAnnounce = s.bestAnnounce := by
  have huid : ∀ q, ((s.modLink p f).link q).peerUid = (s.link q).peerUid := State.link_modLink_keeps hu
  simp only [State.bestAnnounce, huid]
  rfl

theorem State.timeMaster_modLink (hu : (f (s.link p)).peerUid = (s.link p).peerUid) (hf : (f (s.link p)).peerForces = (s.link p).peerForces)
    (hr : (f (s.link p)).peerRole = (s.link p).peerRole) : (s.modLink p f).timeMaster p = s.timeMaster p := by
  simp only [State.timeMaster, State.bestAnnounce_modLink hu, State.link_modLink, hu, hf, hr]
  rfl

end

/-! ### The messages of an exchange -/

section
variable {s : State} {p id : Nat}

theorem State.syncRuns_eq : s.syncRuns p = (((s.link p).linkUp && !(s.link p).parked) && !s.spanEdge p) := rfl

/-- While no time is exchanged on the link, no message of an exchange does anything (R96, R183). -/
theorem State.exchange_idle (h : s.syncRuns p = false) (t : Time) :
    s.syncExchange p = s ∧ s.sync p id = s ∧ s.syncFollow p id t = s ∧ s.delayResp p id t = s := by
  have hno : ¬ s.syncRuns p = true := ne_true_of_eq_false h
  refine ⟨if_neg hno, if_neg hno, if_neg fun hc => hno hc.1, ?_⟩
  rw [State.delayResp]
  split
  · exact if_neg fun hc => hno hc.1
  · rfl

section
variable (h : s.syncRuns p = true)
include h

theorem State.syncExchange_master (hm : s.timeMaster p = true) :
    let id := ((s.link p).syncId + 1) % 2 ^ 32
    s.syncExchange p = (s.modLink p fun l => { l with syncId := id }).sendCtl p 0x20 (be 4 id) := (if_pos h).trans (if_pos hm)

theorem State.syncExchange_slave (hm : s.timeMaster p = false) :
    s.syncExchange p = s.modLink p fun l => { l with syncIdle := l.syncIdle + 1, peerForces := l.peerForces && decide (l.syncIdle < 3) } :=
  (if_pos h).trans (if_neg (ne_true_of_eq_false hm))

/-- A slave notes that SYNC came and stamps it: what an exchange before left is gone (R96, R187). -/
theorem State.sync_slave (hm : s.timeMaster p = false) (ht : s.transition p = false) :
    s.sync p id = (s.modLink p fun l => { l with syncIdle := 0, peerForces := l.peerForces }).modLink p fun l =>
      { l with syncId := id, t2 := some (s.rxStamp p), t1 := none, t3 := none } := by
  have hstep : (s.modLink p fun l => { l with syncIdle := 0, peerForces := l.peerForces || s.timeMaster p }) =
      s.modLink p fun l => { l with syncIdle := 0, peerForces := l.peerForces } := by simp only [hm, Bool.or_false]
  have hslave : (s.modLink p fun l => { l with syncIdle := 0, peerForces := l.peerForces }).timeMaster p = false :=
    (State.timeMaster_modLink rfl rfl rfl).trans hm
  have htrans : (s.modLink p fun l => { l with syncIdle := 0, peerForces := l.peerForces }).transition p = false := by
    refine Eq.trans ?_ ht
    simp only [State.transition, State.link_modLink]
    rfl
  have hstamp : (s.modLink p fun l => { l with syncIdle := 0, peerForces := l.peerForces }).rxStamp p = s.rxStamp p := by
    simp only [State.rxStamp, State.link_modLink]
    rfl
  refine (if_pos h).trans ?_
  simp only [hstep, hslave, htrans, hstamp, Bool.false_eq_true, if_false]

theorem State.syncFollow_awaited {t1 t2 : Time} (h2 : (s.link p).t2 = some t2) (hid : (s.link p).syncId = id) :
    s.syncFollow p id t1 = (s.sendCtl p 0x22 (be 4 id)).modLink p fun l => { l with t1 := some t1 } :=
  if_pos ⟨h, by rw [h2]; rfl, hid⟩

/-- With all four stamps offset and delay are stored, rounded to the nearest, and the lock is judged by the offset before rounding (R98, R99; assumption
rows 53, 139 and 145). -/
theorem State.delayResp_complete {t1 t2 t3 t4 : Time} (h1 : (s.link p).t1 = some t1) (h2 : (s.link p).t2 = some t2) (h3 : (s.link p).t3 = some t3)
    (hid : (s.link p).syncId = id) :
    let exact := syncExact t1.sixteenths t2.sixteenths t3.sixteenths t4.sixteenths (s.tripOf p 1 - s.tripOf p 0)
    let dly := syncDelay t1.sixteenths t2.sixteenths t3.sixteenths t4.sixteenths
    let u := ((s.wr (CL_SYNC_OFS.OFFSET p) (ofSigned 32 (satSigned 32 (roundDiv exact 20)))).wr (CL_SYNC_DLY.DELAY p)
      (ofSigned 32 (satSigned 32 dly))).modLink p fun l => { l with t1 := none, t2 := none, t3 := none }
    s.delayResp p id t4 = (u.judgeSync p exact).servoSample p (roundDiv exact 20) 1 := by
  have hgo : s.syncRuns p = true ∧ (s.link p).syncId = id := ⟨h, hid⟩
  simp only [State.delayResp, h1, h2, h3, if_pos hgo]
  rfl

end

end

theorem exec_delayReq_idle {s : State} {p : Fin 6} {id : BitVec 32} (h : s.syncRuns p = false) : exec (.delayReq p id) s = .next s :=
  congrArg Host.Outcome.next (if_neg fun hc => ne_true_of_eq_false h hc.1)

/-- Settles O24, clause by clause: when time is exchanged (assumption row 153), the master and the slave, DELAY_RESP and its judgement. -/
theorem timeExchange : Obligations.TimeExchange := by
  refine ⟨fun s p => State.syncRuns_eq, fun s p h hm => congrArg Host.Outcome.next (State.syncExchange_master h hm),
    fun s p h hm => congrArg Host.Outcome.next (State.syncExchange_slave h hm), fun s p id h hm ht => ?_,
    fun s p id t1 t2 h h2 hid => congrArg Host.Outcome.next (State.syncFollow_awaited h h2 hid),
    fun s p id h hm => congrArg Host.Outcome.next (if_pos ⟨h, hm⟩),
    fun s p id t1 t2 t3 t4 h h1 h2 h3 hid => congrArg Host.Outcome.next (State.delayResp_complete h h1 h2 h3 hid), fun s p exact => rfl,
    fun s p id t h => ?_⟩
  · refine ⟨_, congrArg Host.Outcome.next (State.sync_slave h hm ht), ?_⟩
    simp
  · obtain ⟨hexchange, hsync, hfollow, hresp⟩ := State.exchange_idle (id := id.toNat) h t
    exact ⟨congrArg Host.Outcome.next hexchange, congrArg Host.Outcome.next hsync, congrArg Host.Outcome.next hfollow, exec_delayReq_idle h,
      congrArg Host.Outcome.next hresp⟩

end Sys2Proof.Machine
end

section
/-!
The translator (R84), the analysis port (R139, R140) and the farrier (R141 to R144).
-/

namespace Sys2Proof.Machine

/-! ### The translator -/

section
variable {s : State}

theorem State.translatePacket_none (h : (s.sw.xlate.find? fun x => x.newId.isNone) = none) : s.translatePacket = s := by
  simp only [State.translatePacket, h]

section
variable {x : XlatePkt} {st : Stored} (hx : (s.sw.xlate.find? fun x => x.newId.isNone) = some x) (hst : s.stored x.ref.id = some st)
include hx hst

/-- A packet from a version-2 link becomes version 3 and is routed again (R84). -/
theorem State.translatePacket_back (hp : x.ref.adp = 8) : s.translatePacket = s.xlateStart x st (some (st.pkt.toV3 s.time, none)) := by
  simp only [State.translatePacket, hx, hst, hp, if_true]

section
variable (hp : x.ref.adp < 6)
include hp

/-- A packet for a version-2 link (R84): consumed, not allowed there, or sent on as version 2. -/
theorem State.translatePacket_on : s.translatePacket =
    if st.pkt.consumedByV2 then s.xlateStart x st none
    else if ¬ x.ref.v2ok then (s.xlateStart x st none).raise (Ev.CL_XLATE_DROP x.ref.adp)
    else s.xlateStart x st (some (st.pkt.toV2, some x.ref.adp)) := by
  have hne : ¬ x.ref.adp = 8 := by omega
  simp only [State.translatePacket, hx, hst, if_neg hne]

theorem State.translatePacket_consumed (hc : st.pkt.consumedByV2 = true) : s.translatePacket = s.xlateStart x st none :=
  (State.translatePacket_on hx hst hp).trans (if_pos hc)

section
variable (hc : st.pkt.consumedByV2 = false)
include hc

theorem State.translatePacket_dropped (hv : x.ref.v2ok = false) : s.translatePacket = (s.xlateStart x st none).raise (Ev.CL_XLATE_DROP x.ref.adp) :=
  (State.translatePacket_on hx hst hp).trans ((if_neg (ne_true_of_eq_false hc)).trans (if_pos (ne_true_of_eq_false hv)))

theorem State.translatePacket_sent (hv : x.ref.v2ok = true) : s.translatePacket = s.xlateStart x st (some (st.pkt.toV2, some x.ref.adp)) :=
  (State.translatePacket_on hx hst hp).trans ((if_neg (ne_true_of_eq_false hc)).trans (if_neg (not_not_intro hv)))

end

end

end

section
variable {x : XlatePkt} {st : Stored} {pkt : Packet} {out : Option Nat}

/-- A packet that is all there is admitted anew, and its first admission released (R84). -/
theorem State.xlateStart_whole (hw : x.whole = true) : s.xlateStart x st (some (pkt, out)) =
    (((s.readmit 18 { id := 0, pkt := { pkt with payload := x.payload st, tail := (x.ref.view st.pkt).tail }, cells := 0, whole := true
                      origin := st.origin, out := out, analysed := st.analysed }).mapSw fun w =>
      { w with xlate := w.xlate.filter fun y => !decide (y.ref.id = x.ref.id ∧ y.ref.adp = x.ref.adp) }).release x.ref.id none).drainXlate x.tc 64 := by
  simp only [State.xlateStart, hw, if_true]

/-- A packet of which cells are still to come is admitted, and the translator keeps the number under which it grows (R84; assumption row 25). -/
theorem State.xlateStart_growing (hw : x.whole = false) : s.xlateStart x st (some (pkt, out)) =
    (s.readmit 18 { id := 0, pkt := { pkt with payload := x.payload st, tail := 0 }, cells := 0, whole := false, origin := st.origin, out := out
                    analysed := st.analysed }).mapSw fun w =>
      { w with xlate := w.xlate.map fun y => if y.ref.id = x.ref.id ∧ y.ref.adp = x.ref.adp then { y with newId := some (w.nextId - 1) } else y } := by
  simp only [State.xlateStart, hw, Bool.false_eq_true, if_false, Option.isSome_some, if_true]

/-- What the admission of a packet that grows leaves: its number with the translator, what is stored and the registers as they were. -/
theorem State.xlateStart_growing_keeps (hw : x.whole = false) : (s.xlateStart x st (some (pkt, out))).sw.xlate = (s.sw.xlate.map fun y =>
      if y.ref.id = x.ref.id ∧ y.ref.adp = x.ref.adp then { y with newId := some s.sw.nextId } else y) ∧
    (s.xlateStart x st (some (pkt, out))).sw.store = s.sw.store ∧ (s.xlateStart x st (some (pkt, out))).regs = s.regs := by
  rw [State.xlateStart_growing hw]
  exact ⟨rfl, rfl, rfl⟩

end

end

/-! ### The analysis port -/

section
variable {s : State}

theorem State.mirrorSend_none (h : s.sw.mirq = []) : s.mirrorSend = s := by
  simp only [State.mirrorSend, h]

/-- The oldest copy leaves as the packet that SP17 builds of it, counts and leaves the hold (R139, R140). -/
theorem State.mirrorSend_copy {r : Ref} {m : MirRef} {rest : List Ref} {st : Stored} (hq : s.sw.mirq = r :: rest) (hst : s.stored r.id = some st)
    (hm : r.mirror = some m) : s.mirrorSend =
      (((((s.mapSw fun w => { w with mirq := rest }).mapSw fun w =>
        { w with mirSkip := Tab.put 0 w.mirSkip m.k 0, mirSeq := Tab.put 0 w.mirSeq m.k ((Tab.get 0 w.mirSeq m.k + 1) % 65536) }).satAdd
          (SW_MIR_CNT.COPIES m.k) 1).release r.id (some m)).readmit 17
            { id := 0, pkt := (s.mapSw fun w => { w with mirq := rest }).mirrorPacket r m st, cells := 0 }).drainMirror st.pkt.tc 64 := by
  have hst' : (s.mapSw fun w => { w with mirq := rest }).stored r.id = some st := hst
  simp only [State.mirrorSend, hq, hst', hm]

end

/-! ### The farrier -/

section
variable {s : State}

theorem exec_auditPeriod_starts (he : s.rd SW_FAR_CTRL.EN ≠ 0) (hp : s.rd SW_FAR_CTRL.PERIOD ≠ 0) (hb : s.rd SW_FAR_STAT.BUSY = 0) :
    exec .auditPeriod s = .next ((s.mapSw fun w => { w with mark := w.mark + 1 }).wr SW_FAR_STAT.BUSY 1) :=
  congrArg Host.Outcome.next ((if_pos ⟨(s.on_iff_rd_ne_zero _).mpr he, hp⟩).trans (if_neg (State.not_on hb)))

/-- No audit starts that is turned off, has no period, or runs already (R141). -/
theorem exec_auditPeriod_idle (h : s.rd SW_FAR_CTRL.EN = 0 ∨ s.rd SW_FAR_CTRL.PERIOD = 0 ∨ s.rd SW_FAR_STAT.BUSY ≠ 0) :
    exec .auditPeriod s = .next s := by
  refine congrArg Host.Outcome.next ?_
  rcases h with he | hp | hb
  · exact if_neg fun hc => State.not_on he hc.1
  · exact if_neg fun hc => hc.2 hp
  · exact ite_eq_right_iff.mpr fun _ => if_pos ((s.on_iff_rd_ne_zero _).mpr hb)

/-- The cells lost before the audit that an audit has found suspect already: the leak (R142, R144). -/
def State.leaks (s : State) : List Lost := s.sw.lost.filter fun l => decide (l.mark ≠ s.sw.mark) && l.suspect

/-- The other lost cells, suspect from now on where they lack the audit's mark (R142). -/
def State.suspects (s : State) : List Lost :=
  (s.sw.lost.filter fun l => !(decide (l.mark ≠ s.sw.mark) && l.suspect)).map fun l => { l with suspect := decide (l.mark ≠ s.sw.mark) }

/-- The results of an audit that reclaims nothing: LEAKED, DUP, what is lost, the free count without the duplicates, the end of the audit (R142). -/
def State.auditResult (s : State) (d : Nat) : State :=
  (((((s.wr SW_FAR_RES.LEAKED (min 65535 (s.leaks.map Lost.cells).sum)).wr SW_FAR_RES.DUP d).mapSw fun w =>
    { w with lost := s.leaks ++ s.suspects }).subCells SW_FREE.FREE d).wr SW_FAR_STAT.BUSY 0).wrapAdd SW_FAR_STAT.AUDITS 1

/-- The events of an audit that found `n` leaked cells and `d` duplicates (R142). -/
def State.auditEvents (s : State) (n d : Nat) : State :=
  let t := if n = 0 then s else s.raise Ev.SW_LEAK
  if d = 0 then t else t.raise Ev.SW_DUP

@[simp] theorem State.entries_auditEvents (n d : Nat) : (s.auditEvents n d).cmd.entries = s.cmd.entries := by
  simp only [State.auditEvents]
  split <;> split <;> simp only [State.entries_raise]

@[simp] theorem State.auditEvents_sw (n d : Nat) : (s.auditEvents n d).sw = s.sw := by
  simp only [State.auditEvents]
  split <;> split <;> simp only [State.raise_sw]

/-- The events of an audit write none of its result registers. -/
theorem State.rd_auditEvents {n d : Nat} {f : Fld} (hf : f.addr = SW_FAR_RES ∨ f.addr = SW_FAR_STAT) : (s.auditEvents n d).rd f = s.rd f := by
  have hleak : f.addr ∉ eventRegs Ev.SW_LEAK := by rcases hf with h | h <;> rw [h] <;> decide
  have hdup : f.addr ∉ eventRegs Ev.SW_DUP := by rcases hf with h | h <;> rw [h] <;> decide
  simp only [State.auditEvents]
  split <;> split <;> simp only [State.rd_raise _ _ _ hleak, State.rd_raise _ _ _ hdup]

theorem State.finishRegs_of_noEntries {w : Wait → Bool} {l : List (Nat × Nat)} {b : List Byte} (h : s.cmd.entries = []) : s.finishRegs w l b = s := by
  simp only [State.finishRegs, State.waiter_of_noEntries h]

/-- An audit that has nothing to reclaim, with no command waiting for it: its results, then the events of a leak and of duplicates (R142). -/
theorem State.auditEnd_unreclaimed {d : Nat} (hd : d < 65536) (hb : s.rd SW_FAR_STAT.BUSY ≠ 0) (hr : s.rd SW_FAR_CTRL.RECLAIM = 0 ∨ s.leaks = [])
    (hc : s.cmd.entries = []) : s.auditEnd d = (s.auditResult d).auditEvents (s.leaks.map Lost.cells).sum d := by
  have hdup : min 65535 d = d := by omega
  have hlost : (if s.on SW_FAR_CTRL.RECLAIM = true then [] else s.leaks) = s.leaks := by
    rcases hr with hr | hr
    · exact if_neg (State.not_on hr)
    · rw [hr, ite_self]
  have hkept : ∀ u : State, (if s.on SW_FAR_CTRL.RECLAIM = true then u.eachIn s.leaks fun l t => t.reclaim l else u) = u := by
    intro u
    rcases hr with hr | hr
    · exact if_neg (State.not_on hr)
    · rw [hr]
      exact ite_self u
  have hnone : ((s.auditResult d).auditEvents (s.leaks.map Lost.cells).sum d).cmd.entries = [] := (State.entries_auditEvents _ _).trans hc
  rw [← State.finishRegs_of_noEntries hnone (w := fun w => decide (w = .farrier)) (l := [(14, SW_FAR_RES), (14, SW_FAR_RECL)]) (b := [])]
  simp only [State.leaks] at hlost hkept
  refine (if_pos ((s.on_iff_rd_ne_zero _).mpr hb)).trans ?_
  simp only [hlost, hkept, hdup]
  rfl

theorem State.auditEnd_idle {d : Nat} (hb : s.rd SW_FAR_STAT.BUSY = 0) : s.auditEnd d = s := if_neg (State.not_on hb)

/-- What the results leave in the registers and of the lost cells. -/
theorem State.auditResult_reads {d : Nat} (hd : d < 65536) : (s.auditResult d).rd SW_FAR_RES.LEAKED = min 65535 (s.leaks.map Lost.cells).sum ∧
    (s.auditResult d).rd SW_FAR_RES.DUP = d ∧ (s.auditResult d).rd SW_FAR_STAT.BUSY = 0 ∧ (s.auditResult d).sw.lost = s.leaks ++ s.suspects := by
  have hcap : min 65535 (s.leaks.map Lost.cells).sum < 2 ^ 16 := by omega
  refine ⟨?_, ?_, ?_, rfl⟩
  · rw [State.auditResult, State.wrapAdd, State.rd_wr_ne _ _ _ _ (by decide), State.rd_wr_ne _ _ _ _ (by decide), State.subCells,
      State.rd_wr_ne _ _ _ _ (by decide), State.mapSw_rd, State.rd_wr_ne _ _ _ _ (by decide), State.rd_wr_self _ _ _ (by decide)]
    exact Nat.mod_eq_of_lt hcap
  · rw [State.auditResult, State.wrapAdd, State.rd_wr_ne _ _ _ _ (by decide), State.rd_wr_ne _ _ _ _ (by decide), State.subCells,
      State.rd_wr_ne _ _ _ _ (by decide), State.mapSw_rd, State.rd_wr_self _ _ _ (by decide)]
    exact Nat.mod_eq_of_lt hd
  · rw [State.auditResult, State.wrapAdd, State.rd_wr_ne _ _ _ _ (by decide), State.rd_wr_self _ _ _ (by decide)]
    exact Nat.zero_mod _

end

/-- Settles O28, clause by clause: the translator (assumption row 25), the analysis port, the farrier (assumption row 146). -/
theorem translatorMirrorFarrier : Obligations.TranslatorMirrorFarrier := by
  refine ⟨fun s h => congrArg Host.Outcome.next (State.translatePacket_none h), fun s x st hx hst => ?_,
    fun s x st pkt out hw => State.xlateStart_whole hw, fun s x st pkt out hw => ⟨_, rfl, State.xlateStart_growing_keeps hw⟩,
    fun s h => congrArg Host.Outcome.next (State.mirrorSend_none h), fun s r m rest st hq hst hm => ?_,
    fun s he hp hb => exec_auditPeriod_starts he hp hb, fun s h => exec_auditPeriod_idle h,
    fun s d hb => congrArg Host.Outcome.next (State.auditEnd_idle hb), fun s d hb hl hc => ?_, fun s d hb hr hc => ?_⟩
  · exact ⟨fun hp => congrArg Host.Outcome.next (State.translatePacket_back hx hst hp),
      fun hp hcon => congrArg Host.Outcome.next (State.translatePacket_consumed hx hst hp hcon),
      fun hp hcon hv => congrArg Host.Outcome.next (State.translatePacket_dropped hx hst hp hcon hv),
      fun hp hcon hv => congrArg Host.Outcome.next (State.translatePacket_sent hx hst hp hcon hv)⟩
  · exact ⟨(s.mapSw fun w => { w with mirq := rest }).mirrorPacket r m st, rfl, rfl, rfl, rfl, rfl, rfl, rfl, rfl,
      congrArg Host.Outcome.next (State.mirrorSend_copy hq hst hm)⟩
  · have hleaks : s.leaks = [] := by rw [State.leaks, hl, List.filter_nil]
    have hsuspects : s.suspects = [] := by rw [State.suspects, hl, List.filter_nil, List.map_nil]
    have hend := State.auditEnd_unreclaimed d.isLt hb (.inr hleaks) hc
    simp only [State.auditEvents, State.auditResult, hleaks, hsuspects, List.map_nil, List.sum_nil, Nat.min_zero, List.append_nil, if_true] at hend
    exact congrArg Host.Outcome.next (hend.trans (if_congr (Fin.ext_iff (a := d) (b := 0)).symm rfl rfl))
  · obtain ⟨hleaked, hdup, hbusy, hlost⟩ := s.auditResult_reads d.isLt
    have hend := State.auditEnd_unreclaimed d.isLt hb (.inl hr) hc
    refine ⟨_, congrArg Host.Outcome.next hend, ?_, ?_, ?_, ?_⟩
    · exact (State.rd_auditEvents (.inl rfl)).trans hleaked
    · exact (State.rd_auditEvents (.inl rfl)).trans hdup
    · exact (State.rd_auditEvents (.inr rfl)).trans hbusy
    · rw [State.auditEvents_sw, hlost]
      rfl

end Sys2Proof.Machine
end

section
/-!
The paddock (R188 to R190): what releasing an entry leaves alone and where the packet goes, the arrival of a packet, the entry that is due; the messages
without a further effect (R82).
-/

namespace Sys2Proof.Machine

/-! ### Releasing an entry -/

section
variable {s : State} {l : List PdkEntry}

/-- DEPTH stands in none of the adapters' registers, so an adapter's home engine is the same whatever the paddock holds. -/
@[simp] theorem State.home_setPdk (a : Nat) : (s.setPdk l).home a = s.home a := by
  refine State.rd_wr_ne _ _ _ _ (.inl ?_)
  simp only [TA_CFG0.HOME, TA_CFG0, DM_PDK_STAT.DEPTH, DM_PDK_STAT]
  omega

@[simp] theorem State.queueRoom_setPdk (e n : Nat) : (s.setPdk l).queueRoom e n = s.queueRoom e n := rfl
@[simp] theorem State.setPdk_time : (s.setPdk l).time = s.time := rfl

@[simp] theorem State.startItem_time (e : Nat) (it : Item) : (s.startItem e it).time = s.time := by
  simp only [State.startItem]
  split <;> rfl

@[simp] theorem State.startNext_time (e : Nat) : (s.startNext e).time = s.time := by
  simp only [State.startNext]
  split
  · exact State.startItem_time _ _
  · rfl

@[simp] theorem State.pdkEnter_time (id adp : Nat) : (s.pdkEnter id adp).time = s.time := State.startNext_time _

/-- The home engine of an entry takes it at once: its queue has room, and no packet that came out of the paddock waits for it (R113; assumption row 127). -/
def State.pdkTakes (s : State) (e : PdkEntry) : Prop :=
  s.queueRoom (s.home e.adp) 1 = true ∧ (s.sw.pdkOut.all fun k => decide (s.home k.2 ≠ s.home e.adp)) = true

section
variable {e : PdkEntry}

/-- A released packet goes on to its home engine, or waits in the buffer with QFULL (R113, R188). -/
theorem State.pdkRelease_takes (h : s.pdkTakes e) : s.pdkRelease e = (s.setPdk (s.sw.pdk.erase e)).pdkEnter e.id e.adp := by
  refine if_pos ?_
  simp only [State.home_setPdk, State.queueRoom_setPdk]
  exact h

theorem State.pdkRelease_waits (h : ¬ s.pdkTakes e) : s.pdkRelease e =
    ((s.setPdk (s.sw.pdk.erase e)).mapSw fun w => { w with pdkOut := w.pdkOut ++ [(e.id, e.adp)] }).raise (Ev.SE_QFULL (s.home e.adp)) := by
  refine (if_neg ?_).trans ?_
  · simp only [State.home_setPdk, State.queueRoom_setPdk]
    exact h
  · rw [State.home_setPdk]

@[simp] theorem State.pdkRelease_time : (s.pdkRelease e).time = s.time := by
  by_cases h : s.pdkTakes e
  · rw [State.pdkRelease_takes h, State.pdkEnter_time, State.setPdk_time]
  · rw [State.pdkRelease_waits h, State.raise_time]
    rfl

/-- The item that a released packet becomes (R113). -/
theorem State.pdkEnter_setPdk : (s.setPdk l).pdkEnter e.id e.adp = (s.setPdk l).enqueue (s.home e.adp)
    { ingress := false, adp := e.adp, pkt := (s.stored e.id).elim {} Stored.pkt, id := e.id, pdk := true } := by
  rw [State.pdkEnter, State.home_setPdk]
  rfl

end

end

/-! ### The arrival of a packet -/

/-- The oldest packet that goes through the paddock has been taken up. -/
def State.pdkNext (s : State) (rest : List (Nat × Nat)) : State := s.mapSw fun w => { w with pdkIn := rest }

/-- The entry of a packet: it leaves at its full stamp plus SKEW (R188). -/
def State.pdkEntry (s : State) (id adp : Nat) (st : Stored) : PdkEntry :=
  { id := id, adp := adp, release := fullStamp st.pkt.ts s.time + s.skewNs, seq := st.pkt.seq }

/-- A paddock that is full makes room: FULL is reported and counted, and the earliest entry goes (R189). -/
def State.pdkRoom (s : State) : State :=
  if 8192 ≤ s.sw.pdk.length then
    let s := (s.raise Ev.DM_PDK_FULL).satAdd DM_PDK_CNT.FULL 1
    match earliest s.sw.pdk with
    | some f => s.pdkRelease f
    | none => s
  else s

section
variable {s : State}

theorem State.pdkRoom_notFull (h : s.sw.pdk.length < 8192) : s.pdkRoom = s := if_neg (Nat.not_le.mpr h)

theorem State.pdkRoom_full {f : PdkEntry} (h : 8192 ≤ s.sw.pdk.length) (hf : earliest s.sw.pdk = some f) :
    s.pdkRoom = ((s.raise Ev.DM_PDK_FULL).satAdd DM_PDK_CNT.FULL 1).pdkRelease f := by
  have hsw : ((s.raise Ev.DM_PDK_FULL).satAdd DM_PDK_CNT.FULL 1).sw = s.sw := State.raise_sw s _
  refine (if_pos h).trans ?_
  simp only [hsw, hf]

theorem State.pdkRoom_full_time {f : PdkEntry} (h : 8192 ≤ s.sw.pdk.length) (hf : earliest s.sw.pdk = some f) : s.pdkRoom.time = s.time := by
  rw [State.pdkRoom_full h hf, State.pdkRelease_time]
  exact State.raise_time s _

theorem State.paddockArrive_none (h : s.sw.pdkIn = []) : s.paddockArrive = s := by
  simp only [State.paddockArrive, h]

section
variable {id adp : Nat} {rest : List (Nat × Nat)} {st : Stored} (hin : s.sw.pdkIn = (id, adp) :: rest) (hst : s.stored id = some st)
include hin hst

/-- A packet enters the paddock, room made first where it is full; late, it is reported, counted and released at once (R188, R189). -/
theorem State.paddockArrive_stored :
    let u := s.pdkNext rest
    let e := u.pdkEntry id adp st
    let t := u.pdkRoom.setPdk (u.pdkRoom.sw.pdk ++ [e])
    s.paddockArrive = if e.release < t.time.toNs then ((t.raise Ev.DM_PDK_LATE).satAdd DM_PDK_CNT.LATE 1).pdkRelease e else t := by
  have hst' : (s.pdkNext rest).stored id = some st := hst
  rw [State.pdkNext] at hst'
  simp only [State.paddockArrive, hin, hst', State.pdkRoom, State.pdkEntry, State.pdkNext]
  rfl

section
variable (h : s.sw.pdk.length < 8192)
include h

theorem State.paddockArrive_early (hr : s.time.toNs ≤ ((s.pdkNext rest).pdkEntry id adp st).release) :
    let u := s.pdkNext rest
    s.paddockArrive = u.setPdk (u.sw.pdk ++ [u.pdkEntry id adp st]) := by
  have hroom : (s.pdkNext rest).pdkRoom = s.pdkNext rest := State.pdkRoom_notFull h
  have harr := State.paddockArrive_stored hin hst
  simp only [hroom] at harr
  exact harr.trans (if_neg (Nat.not_lt.mpr hr))

theorem State.paddockArrive_late (hr : ((s.pdkNext rest).pdkEntry id adp st).release < s.time.toNs) :
    let u := s.pdkNext rest
    let e := u.pdkEntry id adp st
    s.paddockArrive = (((u.setPdk (u.sw.pdk ++ [e])).raise Ev.DM_PDK_LATE).satAdd DM_PDK_CNT.LATE 1).pdkRelease e := by
  have hroom : (s.pdkNext rest).pdkRoom = s.pdkNext rest := State.pdkRoom_notFull h
  have harr := State.paddockArrive_stored hin hst
  simp only [hroom] at harr
  exact harr.trans (if_pos hr)

end

/-- At a full paddock the packet is entered after the earliest entry has gone (R189). -/
theorem State.paddockArrive_full {f : PdkEntry} (h : 8192 ≤ s.sw.pdk.length) (hf : earliest s.sw.pdk = some f)
    (hr : s.time.toNs ≤ ((s.pdkNext rest).pdkEntry id adp st).release) :
    let u := s.pdkNext rest
    let v := ((u.raise Ev.DM_PDK_FULL).satAdd DM_PDK_CNT.FULL 1).pdkRelease f
    s.paddockArrive = v.setPdk (v.sw.pdk ++ [u.pdkEntry id adp st]) := by
  have hroom := State.pdkRoom_full (s := s.pdkNext rest) h hf
  have htime : (s.pdkNext rest).pdkRoom.time = s.time := State.pdkRoom_full_time (s := s.pdkNext rest) h hf
  have harr := State.paddockArrive_stored hin hst
  rw [hroom] at htime
  simp only [State.setPdk_time, hroom, htime] at harr
  exact harr.trans (if_neg (Nat.not_lt.mpr hr))

end

/-! ### The entry that is due -/

theorem State.paddockRelease_empty (h : s.sw.pdk = []) : s.paddockRelease = s := by
  simp only [State.paddockRelease, h, earliest, List.foldl_nil]

section
variable {e : PdkEntry} (he : earliest s.sw.pdk = some e)
include he

theorem State.paddockRelease_early (h : s.time.toNs < e.release) : s.paddockRelease = s := by
  simp only [State.paddockRelease, he, if_neg (Nat.not_le.mpr h)]

theorem State.paddockRelease_due (h : e.release ≤ s.time.toNs) : s.paddockRelease = s.pdkRelease e := by
  simp only [State.paddockRelease, he, if_pos h]

end

end

/-- EVENT_NOTIFY goes on only where a host has asked for it over a USB path that is there (R82, R456). -/
theorem exec_eventNotify_ignored {s : State} {h : Fin 16384} {l : List Byte} (hn : s.cmd.notifyUsb = false ∨ s.cmd.usbReady = false) :
    exec (.eventNotify h l) s = .next s := by
  refine congrArg Host.Outcome.next ?_
  rcases hn with hn | hn
  · exact if_neg (ne_true_of_eq_false hn)
  · exact ite_eq_right_iff.mpr fun _ => if_neg (ne_true_of_eq_false hn)

/-- Settles O43, clause by clause: the arrival, the release (a packet that waits outside the paddock with QFULL is assumption row 127), the messages. -/
theorem paddockHoldsUntilReleaseTime : Obligations.PaddockHoldsUntilReleaseTime := by
  refine ⟨fun s h => congrArg Host.Outcome.next (State.paddockArrive_none h), fun s id adp rest st hin hst h => ?_,
    fun s h => congrArg Host.Outcome.next (State.paddockRelease_empty h), fun s e he => ?_, fun s id adp rest st f hin hst h hf => ?_,
    fun s h l hn => exec_eventNotify_ignored hn, fun s h l hn hu => congrArg Host.Outcome.next ((if_pos hn).trans (if_pos hu)), fun s p t => rfl⟩
  · exact ⟨fun hr => congrArg Host.Outcome.next (State.paddockArrive_early hin hst h hr),
      fun hr => congrArg Host.Outcome.next (State.paddockArrive_late hin hst h hr)⟩
  · refine ⟨fun hr => congrArg Host.Outcome.next (State.paddockRelease_early he hr), fun hr hroom hno => ?_, fun hr hroom => ?_⟩
    · have htakes : s.pdkTakes e := ⟨hroom, List.all_eq_true.mpr fun k hk => decide_eq_true (hno k hk)⟩
      exact congrArg Host.Outcome.next ((State.paddockRelease_due he hr).trans ((State.pdkRelease_takes htakes).trans State.pdkEnter_setPdk))
    · have hfull : ¬ s.pdkTakes e := fun hc => ne_true_of_eq_false hroom hc.1
      exact congrArg Host.Outcome.next ((State.paddockRelease_due he hr).trans (State.pdkRelease_waits hfull))
  · intro u e v hr
    exact congrArg Host.Outcome.next (State.paddockArrive_full hin hst h hf hr)

end Sys2Proof.Machine
end

section
/-!
Strings and tunnels: probes and replies (R172, R174, R177), addresses (R172, R182, R194), routes (R172, R178), tunnels that open and close (R413), hubs
that are gone (R175).
-/

namespace Sys2Proof.Machine

/-! ### Probes -/

section
variable {s : State} {p : Nat}

theorem State.probeStart_idle (h : s.linkIsUp p = false ∨ s.peerPort p = true ∨ s.redundant p = true) : s.probeStart p = s := by
  refine if_pos ?_
  rcases h with h | h | h
  · exact .inl (ne_true_of_eq_false h)
  · exact .inr (.inl h)
  · exact .inr (.inr (.inl h))

/-- The port may be probed for the first time: open, not refused, its time locked or up for 20 ms (R172, R174). -/
structure State.Probed (s : State) (p : Nat) : Prop where
  up : s.linkIsUp p = true
  notPeer : s.peerPort p = false
  notRedundant : s.redundant p = false
  opened : s.lstate p = 4
  notRefused : s.dom.refused.contains p = false
  timed : s.rd (CL_STAT.TLOCK p) ≠ 0 ∨ (s.link p).upAt + 200000000 ≤ s.uptime

section
variable (hp : s.Probed p)
include hp

/-- What starts the probe of a port depends on the role and the address of this hub, its hops, and the hub behind the port. -/
theorem State.probeStart_probed : s.probeStart p =
    if ¬ s.hostRole = true ∧ (¬ s.on DM_ID.VALID = true ∨ p = s.rd DM_ID.UPPORT) then s
    else if s.hostRole = true ∧ s.on DM_CFG.DUAL = true ∧ (s.link p).peerRole = 1 then s.sendRoleSwap p 1
    else
      let hop := (if s.hostRole = true then 0 else s.rd DM_ID.HOP) + 1
      if 5 ≤ hop then s.refuseHub p
      else if s.unassigned p = true then s.shutOut p
      else s.neighMsg p 0x80 (be 1 hop ++ be 1 p ++ be 2 0 ++ be 8 s.uid) := by
  obtain ⟨hup, hpeer, hred, hopen, href, htime⟩ := hp
  rw [← State.on_iff_rd_ne_zero] at htime
  have hgo : ¬ (¬ s.linkIsUp p = true ∨ s.peerPort p = true ∨ s.redundant p = true ∨ ¬ (s.lstate p = 4 ∨ s.dom.refused.contains p = true) ∨
      ¬ (s.on (CL_STAT.TLOCK p) = true ∨ (s.link p).upAt + 200000000 ≤ s.uptime)) := by
    rw [hup, hpeer, hred]
    tauto
  refine (if_neg hgo).trans ?_
  simp only [href, Bool.false_eq_true, if_false, not_false_eq_true, true_and]

theorem State.probeStart_host (hh : s.hostRole = true) (hd : s.rd DM_CFG.DUAL = 0) (hu : s.unassigned p = false) :
    s.probeStart p = s.neighMsg p 0x80 (be 1 1 ++ be 1 p ++ be 2 0 ++ be 8 s.uid) := by
  have hdual := State.not_on hd
  rw [State.probeStart_probed hp]
  simp [hh, hdual, hu]

section
variable (hh : s.hostRole = false) (hv : s.rd DM_ID.VALID ≠ 0) (hport : s.rd DM_ID.UPPORT ≠ p)
include hh hv hport

/-- A hub-role hub with an address probes every port but its upstream port; it refuses a hub that would be the fifth hop (R172, R174). -/
theorem State.probeStart_hub : s.probeStart p =
    if 5 ≤ s.rd DM_ID.HOP + 1 then s.refuseHub p else if s.unassigned p = true then s.shutOut p
    else s.neighMsg p 0x80 (be 1 (s.rd DM_ID.HOP + 1) ++ be 1 p ++ be 2 0 ++ be 8 s.uid) := by
  have hvalid := (s.on_iff_rd_ne_zero _).mpr hv
  rw [State.probeStart_probed hp]
  simp [hh, hvalid, hport.symm]

theorem State.probeStart_fifthHop (hhop : 4 ≤ s.rd DM_ID.HOP) : s.probeStart p = s.refuseHub p :=
  (State.probeStart_hub hp hh hv hport).trans (if_pos (by omega))

/-- A hub that got no address since the probe before has been refused by the host-role hub (assumption row 150). -/
theorem State.probeStart_unassigned (hhop : s.rd DM_ID.HOP < 4) (hu : s.unassigned p = true) : s.probeStart p = s.shutOut p :=
  (State.probeStart_hub hp hh hv hport).trans ((if_neg (by omega)).trans (if_pos hu))

end

end

section
variable {hop : Nat} (hh : s.hostRole = false)
include hh

/-- The first probe makes its port the upstream port (R172). -/
theorem State.enumProbe_first (hup : s.rd DM_ID.UPPORT = 7) :
    let u := (s.wr DM_ID.UPPORT p).modDom fun d => { d with probeHop := hop }
    s.enumProbe p hop = u.neighMsg p 0x81 (u.enumReplyBody p) := by
  simp [State.enumProbe, hh, hup]

/-- A probe on another port is noted until its reply has left (R172, R194). -/
theorem State.enumProbe_second (hne : s.rd DM_ID.UPPORT ≠ 7) (hp : s.rd DM_ID.UPPORT ≠ p) :
    let u := s.modDom fun d => { d with twice := d.twice.filter (fun e => decide (e.1 ≠ p)) ++ [(p, hop, false)] }
    s.enumProbe p hop = u.neighMsg p 0x81 (u.enumReplyBody p) := by
  simp [State.enumProbe, hh, hne, hp]

end

/-! ### Replies -/

section
variable {src port vers linked uid declared : Nat}

/-- A host-role hub behind a port that is no peer port is refused, by a host-role hub with ROLE_CONFLICT (R174, R177). -/
theorem State.enumReply_host (hp : s.peerPort p = false) (hr : s.dom.refused.contains p = false) :
    s.enumReply (some p) src port vers 1 linked uid declared = (if s.hostRole = true then s.raise Ev.DM_ROLE_CONFLICT else s).refuseHub p :=
  (if_pos ⟨rfl, ne_true_of_eq_false hp⟩).trans (if_neg (ne_true_of_eq_false hr))

theorem State.enumReply_atHost (hh : s.hostRole = true) :
    s.enumReply (some p) src port vers 0 linked uid declared = s.assignPosition s.hubAddr p uid := by
  simp only [State.enumReply, Nat.zero_ne_one, false_and, if_false, hh, if_true]

/-- A hub-role prober keeps the port of the reply and sends it on to the host-role hub (R172). -/
theorem State.enumReply_atHub (hh : s.hostRole = false) : s.enumReply (some p) src port vers 0 linked uid declared =
    ((s.modDom fun d => { d with replyPort := d.replyPort.filter (fun r => decide (r.1 ≠ uid)) ++ [(uid, p)] }).domMsg s.hostAddr 0 0x81
      (be 1 vers ++ be 1 0 ++ be 1 linked ++ be 1 0 ++ be 8 uid ++ be 2 declared)).checkTwice p := by
  simp only [State.enumReply, Nat.zero_ne_one, false_and, if_false, hh, Bool.false_eq_true]
  rfl

/-- A hub known behind another port: the link of this one is redundant (R172). -/
theorem State.assignPosition_redundant {h : HubEntry} (hf : (s.dom.hubs.find? fun g => decide (g.uid = uid)) = some h)
    (hne : h.parent ≠ s.hubAddr ∨ h.port ≠ p) : s.assignPosition s.hubAddr p uid = s.markRedundant p := by
  have hother : ¬ (h.parent = s.hubAddr ∧ h.port = p) := by tauto
  simp only [State.assignPosition, hf, if_neg hother, if_true]

end

/-! ### Addresses -/

section
variable {addr str uid : Nat}

theorem State.addrAssign_own (hu : uid = s.uid) (hh : s.hostRole = false) : s.addrAssign (some p) addr str uid = s.takeAddress addr :=
  (if_pos hu).trans (if_neg (ne_true_of_eq_false hh))

theorem State.addrAssign_other (hu : uid ≠ s.uid) : s.addrAssign (some p) addr str uid = s.peerAddress p addr := if_neg hu

/-- The prober hands an address on over the port from which the reply came (R172). -/
theorem State.addrAssign_relayed {r : Nat × Nat} (hr : (s.dom.replyPort.find? fun r => decide (r.1 = uid)) = some r) : s.addrAssign none addr str uid =
    ((s.neighMsg r.2 0x82 (be 2 addr ++ be 2 str ++ be 8 uid)).wr (DM_PEER.ADDR r.2) addr).wr (DM_PEER.VALID r.2) 1 := by
  simp only [State.addrAssign, hr]

/-- The hub was lost before its address came: the prober tells the host-role hub (R194). -/
theorem State.addrAssign_lost (hr : (s.dom.replyPort.find? fun r => decide (r.1 = uid)) = none) :
    s.addrAssign none addr str uid = s.domMsg s.hostAddr 0 0x87 (hubGoneBody addr 0) := by
  simp only [State.addrAssign, hr]

end

/-! ### Routes -/

section
variable {src : Nat}

/-- A ROUTE_SET that is too long, or shorter than it says, is refused whole (R178). -/
theorem State.routeSet_refused {n : Nat} {l : List Nat} (h : 12 < n ∨ l.length < n) : s.routeSet src n l = s.domMsg src 0 0x84 (be 2 0 ++ be 1 3) := if_pos h

theorem State.routeSet_single {e : Nat} : s.routeSet src 1 [e] =
    ((s.wr (DM_RT.PORT (bitsOf e 18 14)) (bitsOf e 15 3)).wr (DM_RT.ALT (bitsOf e 18 14)) (bitsOf e 12 3)).domMsg src 0 0x84 (be 2 1 ++ be 1 0) :=
  if_neg (by simp)

/-- With no ROUTE_SET outstanding the answer is that of a hub that has taken its address (R172). -/
theorem State.routeAck_address {h : HubEntry} (hr : s.dom.routes = []) (hf : (s.dom.hubs.find? fun g => decide (g.addr = src) && !g.acked) = some h) :
    s.routeAck src = s.routeNew h := by
  simp only [State.routeAck, hr, hf]

/-- The outstanding ROUTE_SET is done: the next goes out, and with the last of a hub its tunnels open (R172; assumption row 43). -/
theorem State.routeAck_outstanding {new port : Nat} {rest : List (Nat × Nat × Nat)} (hr : s.dom.routes = (src, new, port) :: rest) :
    let u := (s.modDom fun d => { d with routes := rest }).sendRoute
    s.routeAck src = if (rest.any fun r => decide (r.2.1 = new)) = true then u else u.openTunnelsTo new := by
  simp only [State.routeAck, hr, if_true]

end

/-! ### Tunnels -/

section
variable {hub x y dst c tc : Nat}

/-- TUNNEL_OPEN for an adapter that is none, or of another class or TC, is discarded (R413). -/
theorem State.tunnelOpenMsg_mismatch (h : y = 0 ∨ s.rd (TA_CFG0.CLASS y) ≠ c ∨ s.rd (TA_CFG0.TC y) ≠ tc) : s.tunnelOpenMsg hub x y dst c tc = s := by
  refine if_pos ?_
  tauto

/-- An adapter that names the sender opens and answers, unless this is the answer to its own TUNNEL_OPEN (R413, R194). -/
theorem State.tunnelOpenMsg_opens (hy : y ≠ 0) (ht : s.adpType y ≠ 0) (hd : dst = s.hubAddr) (hm : s.rd (TA_PEER.MCAST y) = 0)
    (hh : s.rd (TA_PEER.HUB y) = hub) (ha : s.rd (TA_PEER.ADP y) = x) (hc : s.rd (TA_CFG0.CLASS y) = c) (htc : s.rd (TA_CFG0.TC y) = tc)
    (hg : s.recentlyGone hub = false) (hg' : s.recentlyGone dst = false) :
    let u := s.tunnelOpened y
    s.tunnelOpenMsg hub x y dst c tc =
      if u.dom.openSent.contains y = true then u.modDom fun d => { d with openSent := d.openSent.filter (· ≠ y) }
      else u.domMsg hub 0 0x8A (u.tunnelOpenBody y) := by
  have hmc := State.not_on hm
  rw [hd] at hg'
  simp [State.tunnelOpenMsg, hy, ht, hd, hmc, hh, ha, hc, htc, hg, hg']

end

/-! ### Hubs that are gone -/

section
variable {h : Nat}

/-- Every adapter toward the hub closes, and the RELAYs that wait for it are answered ABORTED (R175, R446). -/
def State.cutOff (s : State) (h : Nat) : State :=
  (s.cmd.entries.filter fun e => e.running && relayTo h e.wait).foldl (fun t e => t.answer e stAborted 0 []) (s.closeToward h)

theorem State.hubGone_atHub (hh : (s.cutOff h).hostRole = false) : s.hubGone h =
    if h / 64 = (s.cutOff h).hubAddr / 64 ∧ h ≠ (s.cutOff h).hostAddr then (s.cutOff h).dropRoute h else s.cutOff h := if_neg (ne_true_of_eq_false hh)

theorem State.hubGone_atHost (hh : (s.cutOff h).hostRole = true) (hk : ((s.cutOff h).dom.hubs.any fun g => decide (g.addr = h)) = true) :
    s.hubGone h = (s.cutOff h).freePosition h := (if_pos hh).trans (if_pos hk)

/-- A hub that is not host-role passes no HUB_GONE on (assumption row 42). -/
theorem State.hubGoneMsg_atHub (hh : s.hostRole = false) : s.hubGoneMsg h = s.hubGone h := by
  simp only [State.hubGoneMsg, hh, Bool.false_eq_true, false_and, if_false]
  rfl

/-- The host-role hub tells the other hubs of its string (R175; assumption row 42). -/
theorem State.hubGoneMsg_atHost (hh : s.hostRole = true) (hk : (s.dom.hubs.any fun g => decide (g.addr = h)) = true) : s.hubGoneMsg h =
    (s.eachIn ((s.dom.hubs.map HubEntry.addr).filter fun g => !(s.subtree 4 [h]).contains g) fun g t => t.domMsg g 0 0x87 (hubGoneBody h 0)).hubGone h := by
  simp only [State.hubGoneMsg, hh, hk, true_and, if_true]

end

end

theorem exec_peerAnnounce_unnamed {s : State} {p : Fin 6} (hv : s.rd DM_ID.VALID = 0) : exec (.peerAnnounce p) s = .next s :=
  congrArg Host.Outcome.next (if_neg fun h => State.not_on hv h.2.2)

theorem exec_peerAnnounce_open {s : State} {p : Fin 6} (hp : s.peerPort p = true) (hup : s.linkIsUp p = true) (hl : s.lstate p = 4)
    (hv : s.rd DM_ID.VALID ≠ 0) :
    exec (.peerAnnounce p) s = .next (s.neighMsg p 0x82 (be 2 s.hubAddr ++ be 2 (s.hubAddr / 64) ++ be 8 s.uid)) := by
  have hdom : s.domainPort p = true := by rw [State.domainPort, hup, hl]; rfl
  exact congrArg Host.Outcome.next (if_pos ⟨hp, .inl hdom, (s.on_iff_rd_ne_zero _).mpr hv⟩)

/-- Settles O41, clause by clause: probes (assumption row 150), replies, addresses (row 151), routes (row 43), tunnels, gone hubs (row 42). -/
theorem enumerationRoutesAndTunnels : Obligations.EnumerationRoutesAndTunnels := by
  refine ⟨fun s p h => congrArg Host.Outcome.next (State.probeStart_idle h), fun s p hup hpeer hred hl href htime => ?_,
    fun s p h hp => congrArg Host.Outcome.next (if_pos hp), fun s p h hp hh hup => ?_, fun s p h hp hh hne hup => ?_,
    fun s p port src v l uid n hp => ?_, fun s p port src v l uid n h hp hh hf hne => ?_,
    fun s p x g uid hu hh => congrArg Host.Outcome.next (State.addrAssign_own hu hh),
    fun s p x g uid hu => congrArg Host.Outcome.next (State.addrAssign_other hu), fun s x g uid => ?_, fun s p hv => exec_peerAnnounce_unnamed hv,
    fun s p hp hup hl hv => exec_peerAnnounce_open hp hup hl hv, fun s src n l h => congrArg Host.Outcome.next (State.routeSet_refused (by simpa using h)),
    fun s src e => congrArg Host.Outcome.next State.routeSet_single,
    fun s src n st hh => congrArg Host.Outcome.next (if_neg (ne_true_of_eq_false hh)),
    fun s src n st h hh hr hf => congrArg Host.Outcome.next ((if_pos hh).trans (State.routeAck_address hr hf)),
    fun s src n st new port rest hh hr => congrArg Host.Outcome.next ((if_pos hh).trans (State.routeAck_outstanding hr)),
    fun s h x y g c tc hm => congrArg Host.Outcome.next (State.tunnelOpenMsg_mismatch (hm.imp_left (congrArg Fin.val))),
    fun s h x y g c tc hy ht hd hm hh ha hc htc hg hg' =>
      congrArg Host.Outcome.next (State.tunnelOpenMsg_opens (fun h0 => hy (Fin.ext h0)) ht hd hm hh ha hc htc hg hg'),
    fun s x h => rfl, fun s h hh hu => congrArg Host.Outcome.next ((State.hubGoneMsg_atHub hh).trans (State.hubGone_atHub hu)),
    fun s h hh hk hu huk => congrArg Host.Outcome.next ((State.hubGoneMsg_atHost hh hk).trans (State.hubGone_atHost hu huk))⟩
  · have hprobed : s.Probed p := ⟨hup, hpeer, hred, hl, href, htime⟩
    exact ⟨fun hh hd hu => congrArg Host.Outcome.next (State.probeStart_host hprobed hh hd hu),
      fun hh hv hport hhop => congrArg Host.Outcome.next (State.probeStart_fifthHop hprobed hh hv hport hhop),
      fun hh hv hport hhop hu => congrArg Host.Outcome.next (State.probeStart_unassigned hprobed hh hv hport hhop hu)⟩
  · exact congrArg Host.Outcome.next ((if_neg (ne_true_of_eq_false hp)).trans (State.enumProbe_first hh hup))
  · exact congrArg Host.Outcome.next ((if_neg (ne_true_of_eq_false hp)).trans (State.enumProbe_second hh hne hup))
  · exact ⟨fun hh hr => congrArg Host.Outcome.next ((State.enumReply_host hp hr).trans (by rw [if_pos hh])),
      fun hh hr => congrArg Host.Outcome.next ((State.enumReply_host hp hr).trans (by rw [if_neg (ne_true_of_eq_false hh)])),
      fun hh => congrArg Host.Outcome.next (State.enumReply_atHost hh), fun hh => congrArg Host.Outcome.next (State.enumReply_atHub hh)⟩
  · exact congrArg Host.Outcome.next ((State.enumReply_atHost hh).trans (State.assignPosition_redundant hf hne))
  · exact ⟨fun r hr => congrArg Host.Outcome.next (State.addrAssign_relayed hr), fun hr => congrArg Host.Outcome.next (State.addrAssign_lost hr)⟩

end Sys2Proof.Machine
end

section
/-!
Power Delivery at a port (R302 to R310, R314, R318, R319): attach and detach, capabilities and Requests, contracts, EPR and PPS, Hard Reset and faults.
-/

namespace Sys2Proof.Machine

/-! ### Attach and detach -/

section
variable {s : State} {p : Nat}

/-- The port has found a sink: its roles and orientation stand, a port left unlinked may try again, and the PD_CFG fields of this attachment are taken (R83,
R302, R303). -/
def State.sinkFound (s : State) (p : Nat) (cc2 : Bool) : State :=
  let v := ((((s.wr (PD_STAT.ATTACHED p) 1).wr (PD_STAT.PWR_ROLE p) 1).wr (PD_STAT.DATA_ROLE p) 1).wr (PD_STAT.ORIENT p) cc2.toNat).setPstate p 2
  let u := if v.lstate p = 5 then v.wr (CL_STAT.LSTATE p) 0 else v
  { u with pds := Tab.put {} u.pds p { ra := false, leftSink := false, cable := 1, cfg := some (u.reg (PD_CFG p)) } }

theorem State.pdAttach_attached {source cc2 ra : Bool} (h : s.attached p = true) : s.pdAttach p source cc2 ra = s := if_pos (.inr (.inl h))

/-- A source that finds a sink without Ra regulates 5 V, closes F(p) and recomputes the budget (R303). -/
theorem State.pdAttach_source {cc2 : Bool} (hact : s.tablesActive = true) (hatt : s.attached p = false) (hstate : s.pstate p ≠ 10)
    (hch : s.channelReady p = true) (hrole : s.rd (PD_CFG.ROLE p) ≠ 1) :
    s.pdAttach p true cc2 false = (((s.sinkFound p cc2).regulate p 250 300).closeChannel p 0).budget := by
  have hgo : ¬ (¬ s.tablesActive = true ∨ s.attached p = true ∨ s.pstate p = 10 ∨ ¬ s.channelReady p = true ∨
      (true = true ∧ s.rd (PD_CFG.ROLE p) = 1) ∨
      (¬ true = true ∧ s.rd (PD_CFG.ROLE p) = 0 ∧
        ¬ (decide (p = 0) && !true && !bitOf (s.rd GC_STRAP.STRAPS) 0 && decide (s.rd PDB_STAT.IN_VALID = 0)) = true)) := by
    rw [hact, hatt, hch]
    simp only [hstate, hrole, not_true_eq_false, Bool.false_eq_true, and_false, false_and, or_false, not_false_eq_true]
  refine (if_neg hgo).trans ?_
  simp only [Bool.not_true, Bool.and_false, Bool.false_and, Bool.false_eq_true, false_and, if_true, if_false, not_false_eq_true, and_self]
  rfl

theorem State.pdDetach_empty (h : s.attached p = false) : s.pdDetach p = s := if_pos (ne_true_of_eq_false h)

/-- A sink that detaches outside every step is empty and recomputes the budget; only a source discharges (R303, R318). -/
theorem State.pdDetach_sink (ha : s.attached p = true) (hr : s.isSource p = false) (hs : (s.pd p).step = none) (hf : (s.pd p).frs = 0) :
    s.pdDetach p = (((s.portEmpty p).setPstate p 0).wr (PD_STAT.DEAD_BATT p) 0).budget := by
  refine (if_neg (not_not_intro ha)).trans ?_
  simp only [hs, hf, hr, ne_eq, not_true_eq_false, Bool.false_eq_true, if_false]

end

/-- An attach is wake source 6 + p, and so is a detach (R26, R303). -/
theorem exec_ccAttachDebounce {s : State} {p : Fin 6} {source cc2 ra : Bool} (h : s.attached p = false) :
    exec (.ccAttachDebounce p source cc2 ra) s =
      .next ((s.pdAttach p source cc2 ra).wakesIf (6 + p) ((s.pdAttach p source cc2 ra).attached p)) := by
  refine congrArg Host.Outcome.next ?_
  rw [h, Bool.not_false, Bool.true_and]

theorem exec_ccAttachDebounce_attached {s : State} {p : Fin 6} {source cc2 ra : Bool} (h : s.attached p = true) :
    exec (.ccAttachDebounce p source cc2 ra) s = .next s := by
  refine congrArg Host.Outcome.next ?_
  rw [State.pdAttach_attached h, h]
  rfl

theorem exec_detach {s : State} {p : Fin 6} : exec (.detach p) s = .next ((s.pdDetach p).wakesIf (6 + p) (s.attached p)) := rfl

theorem exec_detach_empty {s : State} {p : Fin 6} (h : s.attached p = false) : exec (.detach p) s = .next s := by
  rw [exec_detach, State.pdDetach_empty h, h]
  rfl

/-! ### Capabilities and Requests -/

section
variable {s : State} {p : Fin 6}

section
variable (ha : s.attached p = true) (hr : s.isSource p = true) (hc : s.contract p = false) (hst : s.pstate p = 3)
include ha hr hc hst

/-- A source without a contract sends its capabilities 51 times: the first and 50 repeats (R303). -/
theorem exec_sourceCapTimer_sends (h : (s.pd p).capsSent < 51) :
    exec (.sourceCapTimer p) s = .next (((s.modPd p fun x => { x with capsSent := x.capsSent + 1 }).sendCaps p).setPstate p 3) :=
  congrArg Host.Outcome.next ((if_pos ⟨ha, hr, ne_true_of_eq_false hc, .inr hst⟩).trans (if_pos h))

theorem exec_sourceCapTimer_over (h : 51 ≤ (s.pd p).capsSent) :
    exec (.sourceCapTimer p) s = .next (if s.peerPort p then s.modeMissing p else s) :=
  congrArg Host.Outcome.next ((if_pos ⟨ha, hr, ne_true_of_eq_false hc, .inr hst⟩).trans (if_neg (Nat.not_lt.mpr h)))

end

end

section
variable {s : State} {p : Nat}

theorem State.partnerRev_attached {r : Bool} (h : s.attached p = true) : s.partnerRev p r = s.modPd p fun x => { x with rev2 := r } := if_pos h

theorem State.partnerRev_empty {r : Bool} (h : s.attached p = false) : s.partnerRev p r = s := if_neg (ne_true_of_eq_false h)

theorem State.sourceCapsIn_empty {caps : List Nat} {e : Bool} (h : s.attached p = false) : s.sourceCapsIn p caps e = s :=
  if_pos (.inl (ne_true_of_eq_false h))

/-- A sink answers capabilities with the Request of what it chooses (R302, R305). -/
theorem State.sourceCapsIn_sink {w : Nat} {e : Bool} (ha : s.attached p = true) (hr : s.isSource p = false) : s.sourceCapsIn p [w] e =
    (let u := s.modPd p fun x => { x with eprPartner := e, asked := none }
     let c := u.sinkChoice p [w]
     ((u.sendRequest p c.1 c.2.1 c.2.2 false).setPstate p 3).pdAnswer p stOk [1]) := by
  have hgo : ¬ (¬ s.attached p = true ∨ [w].isEmpty = true) := by simp [ha]
  exact (if_neg hgo).trans (if_neg (ne_true_of_eq_false hr))

section
variable {pos v c w : Nat} (ha : s.attached p = true) (hr : s.isSource p = true)
  (ho : ((s.pd p).offered.find? fun o => decide (o.1 = pos)) = some (pos, w))
include ha hr ho

/-- A Request that the object offered can meet is accepted, and the step to its voltage begins (R305, R306; assumption rows 60 and 159). -/
theorem State.pdRequest_accepted {v' i : Nat} {pps : Bool} (hc : s.contract p = false) (hf : requestFits w v c = some (v', i, pps)) : s.pdRequest p pos v c =
    (((s.modPd p fun x => { x with next := some (v', i, pos, pps), step := some (250, v'), cut := false }).pdSend p .accept).regulate p v'
      (regLimit w i pps)).setPstate p 5 := by
  simp only [State.pdRequest, ha, hr, ho, hf, hc, Option.bind_some, Option.map_some, not_true_eq_false, or_self, if_false, Bool.false_eq_true]

theorem State.pdRequest_rejected (hf : requestFits w v c = none) : s.pdRequest p pos v c = s.pdSend p .reject := by
  simp only [State.pdRequest, ha, hr, ho, hf, Option.bind_some, Option.map_none, not_true_eq_false, or_self, if_false]

end

/-- What Sink_Capabilities of the partner changes of a port (R309, R315). -/
def sinkWants (caps : List Nat) (epr : Bool) (frs : Nat) (x : PdSt) : PdSt :=
  { x with want := some ((caps.map pdoPower).foldl max 0), eprPartner := x.eprPartner || epr, frsAsk := frs }

theorem State.sinkCapsIn_source {caps : List Nat} {e : Bool} {f : Nat} (ha : s.attached p = true) (hr : s.isSource p = true) :
    s.sinkCapsIn p caps e f = (s.modPd p (sinkWants caps e f)).budget := (if_neg (not_not_intro ha)).trans (if_pos hr)

/-! ### The end of a transition -/

section
variable {v i pos : Nat} {k : Bool} (hf : (s.pd p).frs = 0) (hs : (s.pd p).swap = none) (hn : (s.pd p).next = some (v, i, pos, k))
include hf hs hn

/-- VBUS has arrived: the source says PS_RDY and its contract stands (R305). -/
theorem State.transitionDone_contract (hr : s.isSource p = true) (hst : s.pstate p = 5) :
    s.transitionDone p = ((s.pdSend p .psRdy).contractMade p v i pos k).pdAnswer p stOk [2] := by
  simp [State.transitionDone, hf, hs, hn, hr, hst]

theorem State.psRdy_contract (hr : s.isSource p = false) : s.psRdy p = s.contractMade p v i pos k := by
  simp [State.psRdy, hf, hs, hn, hr]

end

/-! ### EPR -/

theorem State.isSource_wr_epr (v : Nat) : (s.wr (PD_STAT.EPR p) v).isSource p = s.isSource p := by
  have hne : (s.wr (PD_STAT.EPR p) v).rd (PD_STAT.PWR_ROLE p) = s.rd (PD_STAT.PWR_ROLE p) := State.rd_wr_ne _ _ _ _ (.inr (.inl (by decide : 1 + 1 ≤ 6)))
  rw [State.isSource, State.on, hne]
  rfl

section
variable (ha : s.attached p = true)
include ha

/-- EPR is entered where this end, the cable and the partner can, and there is an object to offer (R307). -/
theorem State.eprMode_entered (hr : s.isSource p = true) (hc : s.contract p = true) (he : s.rd (PD_CFG.EPR_EN p) ≠ 0) (hcab : (s.pd p).cableEpr = true)
    (h5 : (s.pd p).amps5 = true) (hpar : (s.pd p).eprPartner = true) (hrev : (s.pd p).rev2 = false) (hf : (s.pd p).frs = 0) (ho : s.eprOffer p ≠ []) :
    s.eprMode p 0 = ((s.pdSend p .eprEntered).wr (PD_STAT.EPR p) 1).sendCaps p := by
  have hall : s.isSource p = true ∧ s.contract p = true ∧ s.on (PD_CFG.EPR_EN p) = true ∧ (s.pd p).cableEpr = true ∧ (s.pd p).amps5 = true ∧
      (s.pd p).eprPartner = true ∧ ¬ (s.pd p).rev2 = true ∧ (s.pd p).frs = 0 ∧ ¬ (s.eprOffer p).isEmpty = true :=
    ⟨hr, hc, (s.on_iff_rd_ne_zero _).mpr he, hcab, h5, hpar, ne_true_of_eq_false hrev, hf, fun h => ho (List.isEmpty_iff.mp h)⟩
  exact (if_neg (not_not_intro ha)).trans ((if_pos rfl).trans (if_pos hall))

theorem State.eprMode_refused (he : s.rd (PD_CFG.EPR_EN p) = 0) : s.eprMode p 0 = s.pdSend p .eprEnterFailed :=
  (if_neg (not_not_intro ha)).trans ((if_pos rfl).trans (if_neg fun h => State.not_on he h.2.2.1))

theorem State.eprMode_succeeded (hq : (s.pd p).asked = some .eprEnter) :
    s.eprMode p 1 = ((s.modPd p fun x => { x with asked := none }).wr (PD_STAT.EPR p) 1).pdAnswer p stOk [0x0A] := by
  simp [State.eprMode, ha, hq]

theorem State.eprMode_failed (hq : (s.pd p).asked = some .eprEnter) :
    s.eprMode p 2 = (s.modPd p fun x => { x with asked := none }).pdAnswer p stDenied [0x0A] := by
  simp [State.eprMode, ha, hq]

/-- A sink that leaves EPR has no capabilities to send again (R307). -/
theorem State.eprMode_exit_sink (hr : s.isSource p = false) : s.eprMode p 3 = s.wr (PD_STAT.EPR p) 0 := by
  have hsink : (s.wr (PD_STAT.EPR p) 0).isSource p = false := (State.isSource_wr_epr 0).trans hr
  simp [State.eprMode, ha, hsink]

end

/-! ### Hard Reset -/

/-- A command that waits for the end of an exchange on the port; a Hard Reset it asked for itself is none. -/
def awaitsPd (p : Nat) (w : Wait) : Bool :=
  match w with
  | .pd q a => decide (q = p ∧ a ≠ 0)
  | _ => false

/-- What a Hard Reset ends: the contract, the mode and the exchanges of the port (R319, R332). -/
def State.pdEnded (s : State) (p : Nat) : State :=
  ((((s.raise (Ev.PD_HARD_RESET p)).endContract p).leaveMode p).finish (awaitsPd p) stAborted 0 []).modPd p fun x =>
    { x with partnerTl := false, dropped := none, tries := 0, want := none, frsHeld := 0 }

section
variable (ha : s.attached p = true)
include ha

/-- A source takes VBUS to vSafe0V, a sink waits anew (R319). -/
theorem State.hardReset_attached : s.hardReset p =
    if (s.pdEnded p).isSource p = true then ((((s.pdEnded p).openChannel p).stopReg p).discharge p 1).setPstate p 8
    else ((s.pdEnded p).setPstate p 2).pdAnswer p stOk [] := if_neg (not_not_intro ha)

theorem State.hardReset_source (hr : (s.pdEnded p).isSource p = true) :
    s.hardReset p = ((((s.pdEnded p).openChannel p).stopReg p).discharge p 1).setPstate p 8 := (State.hardReset_attached ha).trans (if_pos hr)

theorem State.hardReset_sink (hr : (s.pdEnded p).isSource p = false) : s.hardReset p = ((s.pdEnded p).setPstate p 2).pdAnswer p stOk [] :=
  (State.hardReset_attached ha).trans (if_neg (ne_true_of_eq_false hr))

end

end

/-! ### Rows by the role of the port -/

section
variable {s : State} {p : Fin 6}

theorem exec_pps_source (hp : s.rd (PD_STAT.PPS p) ≠ 0) (hr : s.isSource p = true) :
    exec (.ppsRequestTimeout p) s = .next (s.sendHardReset p) ∧ exec (.ppsRequestTimer p) s = .next s :=
  ⟨congrArg Host.Outcome.next (if_pos ⟨(s.on_iff_rd_ne_zero _).mpr hp, hr⟩), congrArg Host.Outcome.next (if_neg fun h => h.2 hr)⟩

theorem exec_ppsRequestTimer_sink (hp : s.rd (PD_STAT.PPS p) ≠ 0) (hr : s.isSource p = false) : exec (.ppsRequestTimer p) s =
    .next (s.sendRequest p (s.rd (PD_CONTRACT.POS p)) (s.rd (PD_CONTRACT.VOLT p)) (s.rd (PD_CONTRACT.CURR p)) true) :=
  congrArg Host.Outcome.next (if_pos ⟨(s.on_iff_rd_ne_zero _).mpr hp, ne_true_of_eq_false hr⟩)

theorem exec_getPpsStatus_attached {v : Fin 65536} {k : Bool} (ha : s.attached p = true) (hr : s.isSource p = true) :
    (s.rd (PD_STAT.PPS p) ≠ 0 → exec (.getPpsStatus p v k) s = .next (s.pdSend p .ppsStatus [v.val, k.toNat])) ∧
    (s.rd (PD_STAT.PPS p) = 0 → exec (.getPpsStatus p v k) s = .next (s.pdSend p .notSupported)) :=
  ⟨fun hp => congrArg Host.Outcome.next ((if_neg (not_not_intro ha)).trans (if_pos ⟨(s.on_iff_rd_ne_zero _).mpr hp, hr⟩)),
    fun hp => congrArg Host.Outcome.next ((if_neg (not_not_intro ha)).trans (if_neg fun h => State.not_on hp h.1))⟩

theorem exec_epr_source (he : s.rd (PD_STAT.EPR p) ≠ 0) (hr : s.isSource p = true) :
    exec (.eprKeepalive p) s = .next (s.pdSend p .eprKeepAliveAck) ∧ exec (.eprKeepaliveTimeout p) s = .next (s.sendHardReset p) := by
  have hon : s.on (PD_STAT.EPR p) = true ∧ s.isSource p = true := ⟨(s.on_iff_rd_ne_zero _).mpr he, hr⟩
  exact ⟨congrArg Host.Outcome.next (if_pos hon), congrArg Host.Outcome.next (if_pos hon)⟩

theorem exec_eprKeepaliveTimer_sink (he : s.rd (PD_STAT.EPR p) ≠ 0) (hr : s.isSource p = false) :
    exec (.eprKeepaliveTimer p) s = .next (s.pdSend p .eprKeepAlive) :=
  congrArg Host.Outcome.next (if_pos ⟨(s.on_iff_rd_ne_zero _).mpr he, ne_true_of_eq_false hr⟩)

end

/-- Settles O51, clause by clause: attach (5 V and 3 A are assumption rows 60 and 159), capabilities, contracts, PPS and EPR, Hard Reset, faults, detach. -/
theorem pdAttachContractsAndFaults : Obligations.PdAttachContractsAndFaults := by
  refine ⟨fun s p x y z h => exec_ccAttachDebounce_attached h, fun s p c hact hatt hstate hch hrole => ?_,
    fun s p ha hr hc hst => ⟨exec_sourceCapTimer_sends ha hr hc hst, exec_sourceCapTimer_over ha hr hc hst⟩, fun s p caps e r ha => ?_,
    fun s p w e r ha hr => ?_, fun s p pos v c r ha hr hc => ?_, fun s p v i pos k ha hf hs hn => ?_, fun s p ha => ?_, fun s p caps e r f ha hr => ?_,
    fun s p hp => ⟨exec_pps_source hp, exec_ppsRequestTimer_sink hp⟩, fun s p v k ha hr => exec_getPpsStatus_attached ha hr,
    fun s p ha he => congrArg Host.Outcome.next (State.eprMode_refused ha he),
    fun s p ha hr hc he hcab h5 hpar hrev hf ho => congrArg Host.Outcome.next (State.eprMode_entered ha hr hc he hcab h5 hpar hrev hf ho),
    fun s p ha hq => ⟨congrArg Host.Outcome.next (State.eprMode_succeeded ha hq), congrArg Host.Outcome.next (State.eprMode_failed ha hq)⟩,
    fun s p ha hr => congrArg Host.Outcome.next (State.eprMode_exit_sink ha hr),
    fun s p he => ⟨exec_epr_source he, exec_eprKeepaliveTimer_sink he⟩,
    fun s p => ⟨fun h => congrArg Host.Outcome.next (if_pos h), fun h => congrArg Host.Outcome.next (if_neg (ne_true_of_eq_false h))⟩,
    fun s p ha => ?_, fun s p hst ha hr => congrArg Host.Outcome.next (if_pos ⟨hst, ha, hr⟩),
    fun s p hv => congrArg Host.Outcome.next (if_pos ((s.on_iff_rd_ne_zero _).mpr hv)),
    fun s p ha hc hs => congrArg Host.Outcome.next (if_pos ⟨ha, hc, by rw [hs]; rfl⟩), fun s p ha => exec_detach_empty ha,
    fun s p ha hr hs hf => ?_⟩
  · rw [exec_ccAttachDebounce hatt, State.pdAttach_source hact hatt hstate hch hrole]
    rfl
  · exact congrArg Host.Outcome.next ((congrArg (State.sourceCapsIn · p _ e) (State.partnerRev_empty ha)).trans (State.sourceCapsIn_empty ha))
  · exact congrArg Host.Outcome.next ((congrArg (State.sourceCapsIn · p _ e) (State.partnerRev_attached ha)).trans
      (State.sourceCapsIn_sink (s := s.modPd p fun x => { x with rev2 := r }) ha hr))
  · intro u
    have hoff : (u.pd p).offered = (s.pd p).offered := (congrArg PdSt.offered (State.pd_modPd s p fun x => { x with rev2 := r })).trans rfl
    have hreq : exec (.request p pos v c r) s = .next (u.pdRequest p pos v c) :=
      congrArg Host.Outcome.next (congrArg (State.pdRequest · p pos v c) (State.partnerRev_attached ha))
    refine ⟨fun w v' i pps ho hf => ?_, fun w ho hf => ?_⟩ <;> rw [← hoff] at ho
    · exact hreq.trans (congrArg Host.Outcome.next (State.pdRequest_accepted (s := u) ha hr ho hc hf))
    · exact hreq.trans (congrArg Host.Outcome.next (State.pdRequest_rejected (s := u) ha hr ho hf))
  · exact ⟨fun hr hst => congrArg Host.Outcome.next ((if_pos ha).trans (by rw [State.transitionDone_contract hf hs hn hr hst])),
      fun hr => congrArg Host.Outcome.next ((if_pos ha).trans (by rw [State.psRdy_contract hf hs hn hr]))⟩
  · exact ⟨congrArg Host.Outcome.next (if_neg (ne_true_of_eq_false ha)), congrArg Host.Outcome.next (if_neg (ne_true_of_eq_false ha))⟩
  · refine ⟨sinkWants (caps.map BitVec.toNat) e f, fun x => ⟨rfl, rfl, rfl, rfl⟩, ?_⟩
    exact congrArg Host.Outcome.next ((congrArg (State.sinkCapsIn · p _ e f) (State.partnerRev_attached ha)).trans
      (State.sinkCapsIn_source (s := s.modPd p fun x => { x with rev2 := r }) ha hr))
  · exact ⟨fun hr => congrArg Host.Outcome.next (congrArg (State.c0Check · p) (State.hardReset_source ha hr)),
      fun hr => congrArg Host.Outcome.next (congrArg (State.c0Check · p) (State.hardReset_sink ha hr))⟩
  · rw [exec_detach, State.pdDetach_sink ha hr hs hf, ha]

end Sys2Proof.Machine
end

section
/-!
Tunnel adapters and stride engines: an engine ends its item (R112), stealing and the move (R114 to R116), what an adapter accepts (R107) and the
re-sequencer (R117, R118, R120).
-/

namespace Sys2Proof.Machine

/-! ### The end of an item -/

section
variable {s : State} {e : Nat} {it : Item}

theorem State.completeItem_none (hcur : (s.eng e).cur = none) : s.completeItem e = s := by
  simp only [State.completeItem, hcur]

/-- A packet read without error is handed over as it is stored (R131). -/
theorem State.localPacket_clean {id adp : Nat} {d : Packet} {st : Stored} (hst : s.stored id = some st)
    (hclean : (s.sw.misread.find? fun r => decide (r.id = id ∧ r.adp = adp)) = none) : s.localPacket id adp d = st.pkt := by
  simp only [State.localPacket, hst, hclean, Option.elim]

section
variable (hcur : (s.eng e).cur = some it)
include hcur

section
variable (heg : it.ingress = false) (hready : s.sw.ready.contains (it.id, it.adp) = true)
include heg hready

/-- An egress item whose last cell has come goes to the re-sequencer, unless its descriptor was lost on the way (R112, R132). -/
theorem State.completeItem_egress : s.completeItem e =
    if s.sw.gone.contains (it.id, it.adp) = true then (s.forgetLocal it.id it.adp).endItem e
    else ((s.forgetLocal it.id it.adp).modAdp it.adp fun x =>
      { x with rx := x.rx ++ [(s.localPacket it.id it.adp it.pkt, it.id, it.pdk)] }).endItem e := by
  simp only [State.completeItem, hcur, heg, hready, Bool.false_eq_true, if_false, if_true]

theorem State.completeItem_egress_lost (hgone : s.sw.gone.contains (it.id, it.adp) = true) :
    s.completeItem e = (s.forgetLocal it.id it.adp).endItem e := (State.completeItem_egress hcur heg hready).trans (if_pos hgone)

theorem State.completeItem_egress_clean {st : Stored} (hst : s.stored it.id = some st)
    (hclean : (s.sw.misread.find? fun r => decide (r.id = it.id ∧ r.adp = it.adp)) = none) (hgone : s.sw.gone.contains (it.id, it.adp) = false) :
    s.completeItem e = ((s.forgetLocal it.id it.adp).modAdp it.adp fun x => { x with rx := x.rx ++ [(st.pkt, it.id, it.pdk)] }).endItem e := by
  rw [State.completeItem_egress hcur heg hready, if_neg (ne_true_of_eq_false hgone), State.localPacket_clean hst hclean]

end

/-- An ingress item is written to its end; its adapter counts the packet and the native bytes (R112, R125). -/
theorem State.completeItem_ingress {st : Stored} (hin : it.ingress = true) (hadm : (s.eng e).admitted = true) (hst : s.stored it.id = some st) :
    let u := (s.setStored it.id (some { st with complete := true })).wrapAdd (TA_PKT_TX.PACKETS it.adp) 1
    s.completeItem e = (u.wrapAdd64 (TA_BYTE_TX_LO.BYTES_LO it.adp) (TA_BYTE_TX_HI.BYTES_HI it.adp) (u.nativeBytes it.adp it.pkt)).endItem e := by
  simp only [State.completeItem, hcur, hin, hadm, hst, if_true]

end

/-- Counting packets leaves the type of an adapter. -/
theorem State.adpType_countTx (s : State) (a n : Nat) : (s.wrapAdd (TA_PKT_TX.PACKETS a) n).adpType a = s.adpType a := by
  have haddr : TA_CFG0 a ≠ TA_PKT_TX a := by
    simp only [TA_CFG0, TA_PKT_TX]
    omega
  exact State.rd_wr_ne s _ _ _ (.inl haddr)

/-- An adapter whose type forms no fragments counts the whole payload (R109). -/
theorem State.nativeBytes_whole {a : Nat} {p : Packet} (h : typeFragments (s.adpType a) = false) : s.nativeBytes a p = p.payload.length :=
  if_neg (ne_true_of_eq_false h)

theorem State.completeItem_ingress_whole {st : Stored} (hcur : (s.eng e).cur = some it) (hin : it.ingress = true) (hadm : (s.eng e).admitted = true)
    (hst : s.stored it.id = some st) (hty : typeFragments (s.adpType it.adp) = false) :
    s.completeItem e = (((s.setStored it.id (some { st with complete := true })).wrapAdd (TA_PKT_TX.PACKETS it.adp) 1).wrapAdd64
      (TA_BYTE_TX_LO.BYTES_LO it.adp) (TA_BYTE_TX_HI.BYTES_HI it.adp) it.pkt.payload.length).endItem e := by
  have htype := State.adpType_countTx (s.setStored it.id (some { st with complete := true })) it.adp 1
  rw [State.completeItem_ingress hcur hin hadm hst, State.nativeBytes_whole ((congrArg typeFragments htype).trans hty)]

end

/-! ### Stealing -/

section
variable {s : State} {e : Fin 32}

theorem exec_steal_victim {v n : Nat} (hidle : (s.eng e).idle = true) (hen : s.rd (SE_CTRL.STEAL_EN e) ≠ 0)
    (hv : s.victim ((cluster e).filter (· ≠ e.val)) = some (v, n)) : exec (.steal e) s = .next (s.steal e v n false) := by
  have hmay : (s.eng e).idle = true ∧ s.on (SE_CTRL.STEAL_EN e) = true := ⟨hidle, (s.on_iff_rd_ne_zero _).mpr hen⟩
  exact congrArg Host.Outcome.next ((if_pos hmay).trans (by rw [hv]))

/-- A busy engine, and one that may not steal, takes nothing (R114). -/
theorem exec_steal_none (h : (s.eng e).idle = false ∨ s.rd (SE_CTRL.STEAL_EN e) = 0) : exec (.steal e) s = .next s := by
  have hmust : ¬ ((s.eng e).idle = true ∧ s.on (SE_CTRL.STEAL_EN e) = true) := fun ⟨hidle, hon⟩ =>
    h.elim (ne_true_of_eq_false · hidle) (State.not_on · hon)
  exact congrArg Host.Outcome.next (if_neg hmust)

/-- A thief whose own cluster gives no victim looks in the others (R115). -/
theorem exec_xsteal_victim {v n : Nat} (hidle : (s.eng e).idle = true) (hen : s.rd (SE_CTRL.XSTEAL_EN e) ≠ 0)
    (hown : s.victim ((cluster e).filter (· ≠ e.val)) = none) (hv : s.victim (otherClusters e) = some (v, n)) :
    exec (.xsteal e) s = .next (s.steal e v n true) := by
  have hmay : (s.eng e).idle = true ∧ s.on (SE_CTRL.XSTEAL_EN e) = true ∧
      (¬ s.on (SE_CTRL.STEAL_EN e) = true ∨ (s.victim ((cluster e).filter (· ≠ e.val))).isNone = true) :=
    ⟨hidle, (s.on_iff_rd_ne_zero _).mpr hen, .inr (by rw [hown]; rfl)⟩
  exact congrArg Host.Outcome.next ((if_pos hmay).trans (by rw [hv]))

theorem exec_stealMoveDone_some {l : List Item} (h : (s.eng e).moving = some l) :
    exec (.stealMoveDone e) s = .next ((s.modEng e fun x => { x with moving := none, queue := l ++ x.queue }).startNext e) :=
  congrArg Host.Outcome.next (by rw [h])

theorem exec_stealMoveDone_none (h : (s.eng e).moving = none) : exec (.stealMoveDone e) s = .next s := congrArg Host.Outcome.next (by rw [h])

end

/-- Settles O25, clause by clause: the end of an item, STEAL, XSTEAL, the move, room in a home queue. -/
theorem enginesWorkAndSteal : Obligations.EnginesWorkAndSteal := by
  refine ⟨fun s e hcur => congrArg Host.Outcome.next (State.completeItem_none hcur), fun s e it st hcur heg hready hst hclean => ?_,
    fun s e it st hcur hin hadm hst hty => congrArg Host.Outcome.next (State.completeItem_ingress_whole hcur hin hadm hst hty),
    fun s e v n hidle hen hv => exec_steal_victim hidle hen hv, fun s e h => exec_steal_none h,
    fun s e v n hidle hen hown hv => exec_xsteal_victim hidle hen hown hv, fun s e l h => exec_stealMoveDone_some h,
    fun s e h => exec_stealMoveDone_none h, fun s e => rfl⟩
  exact ⟨fun hgone => congrArg Host.Outcome.next (State.completeItem_egress_clean hcur heg hready hst hclean hgone),
    fun hgone => congrArg Host.Outcome.next (State.completeItem_egress_lost hcur heg hready hgone)⟩

/-! ### The re-sequencer -/

theorem seqAhead_self (q : Nat) : seqAhead q q = 0 := by
  simp [seqAhead]

section
variable {s : State} {a : Nat} {pkt : Packet} {id : Nat}

section
variable {fuel : Nat}

/-- The packet expected is delivered, and the run held behind it follows (R117). -/
theorem State.resequence_expected (h : pkt.seq = s.expSeq a) :
    s.resequence a pkt id (fuel + 1) = ((s.deliver a pkt id).wrapAdd (TA_STAT.EXP_SEQ a) 1).deliverRun a 256 :=
  if_pos (by rw [h, seqAhead_self])

theorem State.resequence_behind (h : 32768 ≤ seqAhead pkt.seq (s.expSeq a)) : s.resequence a pkt id (fuel + 1) = s.dropLate a pkt id :=
  (if_neg (by omega)).trans (if_neg (Nat.not_lt.mpr h))

section
variable (hpos : 0 < seqAhead pkt.seq (s.expSeq a)) (hlt : seqAhead pkt.seq (s.expSeq a) < 32768)
include hpos hlt

/-- A packet ahead is dropped when it is held already, held while there is room, and handled again after a skip when there is none (R117). -/
theorem State.resequence_ahead : s.resequence a pkt id (fuel + 1) =
    if ((s.adp a).held.any fun h => decide (h.1.seq = pkt.seq)) = true then s.dropLate a pkt id
    else if 255 ≤ (s.adp a).held.length then (s.skipToLowest a).resequence a pkt id fuel
    else s.setHeld a ((s.adp a).held ++ [(pkt, id, s.uptime)]) :=
  (if_neg hpos.ne').trans (if_pos hlt)

theorem State.resequence_double (h : ((s.adp a).held.any fun h => decide (h.1.seq = pkt.seq)) = true) :
    s.resequence a pkt id (fuel + 1) = s.dropLate a pkt id := (State.resequence_ahead hpos hlt).trans (if_pos h)

theorem State.resequence_held (hnew : ((s.adp a).held.any fun h => decide (h.1.seq = pkt.seq)) = false) (hroom : (s.adp a).held.length < 255) :
    s.resequence a pkt id (fuel + 1) = s.setHeld a ((s.adp a).held ++ [(pkt, id, s.uptime)]) :=
  (State.resequence_ahead hpos hlt).trans ((if_neg (ne_true_of_eq_false hnew)).trans (if_neg (Nat.not_le.mpr hroom)))

end

end

/-! ### What an adapter accepts -/

@[simp] theorem State.accepts_modAdp (s : State) (a b : Nat) (f : AdapterSt → AdapterSt) (pkt : Packet) :
    (s.modAdp a f).accepts b pkt = s.accepts b pkt := rfl

section
variable {k : Bool} {rest : List (Packet × Nat × Bool)} (hrx : (s.adp a).rx = (pkt, id, k) :: rest) (hcls : pkt.cls ≠ 3)
include hrx hcls

/-- A data packet is refused, passed as it came, or put in order (R107, R117, R120). -/
theorem State.egressArrive_data : let u := s.modAdp a fun x => { x with rx := rest }
    s.egressArrive a = if a = 0 ∨ ¬ u.accepts a pkt = true then (u.raise (Ev.TA_MISROUTE a)).letGo a id
      else if k = true then u.passThrough a pkt id else u.resequence a pkt id 2 := by
  simp only [State.egressArrive, hrx, if_neg hcls]

theorem State.egressArrive_refused (h : a = 0 ∨ (s.modAdp a fun x => { x with rx := rest }).accepts a pkt = false) :
    s.egressArrive a = ((s.modAdp a fun x => { x with rx := rest }).raise (Ev.TA_MISROUTE a)).letGo a id :=
  (State.egressArrive_data hrx hcls).trans (if_pos (h.imp_right ne_true_of_eq_false))

end

theorem State.egressArrive_resequenced {rest : List (Packet × Nat × Bool)} (hrx : (s.adp a).rx = (pkt, id, false) :: rest) (hcls : pkt.cls ≠ 3)
    (ha : a ≠ 0) (hacc : s.accepts a pkt = true) : s.egressArrive a = (s.modAdp a fun x => { x with rx := rest }).resequence a pkt id 2 := by
  rw [State.egressArrive_data hrx hcls]
  simp [ha, hacc]

theorem State.skipToLowest_empty (h : (s.adp a).held = []) : s.skipToLowest a = s := by
  simp only [State.skipToLowest, State.lowestHeld, h, List.foldl_nil]

theorem State.skipToLowest_held {q : Nat} (h : s.lowestHeld a = some q) : s.skipToLowest a =
    (((s.farGap a 0 (s.expSeq a)).raise (Ev.TA_GAP a)).wr (TA_STAT.EXP_SEQ a) q).deliverRun a 256 := by
  simp only [State.skipToLowest, h]

end

/-- Settles O26, clause by clause: a packet in order, ahead, behind or held twice; packets refused; the time-out. -/
theorem resequencerOrders : Obligations.ResequencerOrders := by
  refine ⟨fun s a pkt id rest ha hrx hcls hacc => ?_,
    fun s a pkt id k rest ha hrx hcls hacc => congrArg Host.Outcome.next (State.egressArrive_refused hrx hcls (.inr hacc)),
    fun s pkt id k rest hrx hcls => congrArg Host.Outcome.next (State.egressArrive_refused hrx hcls (.inl rfl)),
    fun s a h => congrArg Host.Outcome.next (State.skipToLowest_empty h), fun s a q h => congrArg Host.Outcome.next (State.skipToLowest_held h)⟩
  intro u
  have hexec : exec (.egressPacketArrive a) s = .next (u.resequence a pkt id 2) :=
    congrArg Host.Outcome.next (State.egressArrive_resequenced hrx hcls (fun h0 => ha (Fin.ext h0)) hacc)
  rw [hexec]
  exact ⟨fun hexp _ => congrArg Host.Outcome.next (State.resequence_expected hexp),
    fun hpos hlt hnew hroom => congrArg Host.Outcome.next (State.resequence_held hpos hlt hnew hroom),
    fun hback => congrArg Host.Outcome.next (State.resequence_behind hback),
    fun hpos hlt hdbl => congrArg Host.Outcome.next (State.resequence_double hpos hlt hdbl)⟩

end Sys2Proof.Machine
end

section
/-!
Switch core: admission of what has arrived at an input (R128, R134) and the crossbar's grants with the outcomes of a read (R130 to R132).
-/

namespace Sys2Proof.Machine

/-! ### Choosing an arrival -/

/-- The arrival taken is one the test selects. -/
theorem takeArrival_selects {f : Arrival → Bool} {x : Arrival} : ∀ {l rest : List Arrival}, takeArrival f l = some (x, rest) → f x = true
  | [], _, h => nomatch h
  | y :: l, rest, h => by
    rw [takeArrival] at h
    split at h
    case isTrue hy =>
      obtain ⟨rfl, rfl⟩ := h
      exact hy
    case isFalse =>
      obtain ⟨⟨x', l'⟩, htail, heq⟩ := Option.map_eq_some_iff.mp h
      obtain ⟨rfl, -⟩ := Prod.mk.inj heq
      exact takeArrival_selects htail

section
variable {s : State} {p : Nat}

theorem State.packetAdmit_none (h : takeArrival (fun x => !x.waiting) (s.arrivals p) = none) : s.packetAdmit p = s := by
  simp only [State.packetAdmit, h]

theorem State.packetAdmit_some {x : Arrival} {rest : List Arrival} (h : takeArrival (fun x => !x.waiting) (s.arrivals p) = some (x, rest)) :
    s.packetAdmit p = (s.setArrivals p rest).admitArrival p x := by
  simp only [State.packetAdmit, h]

theorem State.reserveWaitAdmit_none (h : takeArrival (fun x => x.waiting && s.reserveFits p x) (s.arrivals p) = none) :
    s.reserveWaitAdmit p = s := by
  simp only [State.reserveWaitAdmit, h]

theorem State.reserveWaitAdmit_some {x : Arrival} {rest : List Arrival}
    (h : takeArrival (fun x => x.waiting && s.reserveFits p x) (s.arrivals p) = some (x, rest)) :
    s.reserveWaitAdmit p = (s.setArrivals p rest).admitArrival p { x with waiting := false } := by
  simp only [State.reserveWaitAdmit, h]

/-- RESERVE_WAIT_ADMIT takes no packet the reserve has no room for (R134). -/
theorem State.reserveFits_of_taken {x : Arrival} {rest : List Arrival}
    (h : takeArrival (fun x => x.waiting && s.reserveFits p x) (s.arrivals p) = some (x, rest)) :
    s.rd (SW_RSV_USED.CELLS p) + x.cells ≤ s.rd (SW_RSV.CELLS p) :=
  have ⟨_, hfits⟩ := (Bool.and_eq_true_iff ..).mp (takeArrival_selects h)
  of_decide_eq_true hfits

end

/-! ### Judging an arrival -/

section
variable {s u : State} {p : Nat} {x : Arrival}

theorem State.admitArrival_unrouted (h : s.route p x = (.unrouted, u)) :
    s.admitArrival p x = (u.satAdd (SW_PDROP.UNROUTED p) 1).dropArrival p x := by
  simp only [State.admitArrival, h]

theorem State.admitArrival_mcMiss (h : s.route p x = (.mcMiss, u)) : s.admitArrival p x = (u.raise Ev.SW_MC_MISS).dropArrival p x := by
  simp only [State.admitArrival, h]

theorem State.admitArrival_to {outs : List (Nat × Nat)} (h : s.route p x = (.to outs, u)) (hne : outs ≠ []) :
    s.admitArrival p x = u.admitTo p x outs := by
  simp only [State.admitArrival, h, List.isEmpty_iff, if_neg hne]

/-- A lossy packet beyond the shared pool or the cap of its class goes with the drop counted and reported (R134). -/
theorem State.admitTo_lossy_full (outs : List (Nat × Nat)) (hlossy : s.rd (SW_TC.LOSSLESS x.pkt.tc) = 0)
    (hfull : s.rd SW_SHARED.CELLS < s.rd SW_SHARED_USED.CELLS + x.cells ∨
      s.rd (SW_TC.SHR_CAP x.pkt.tc) < s.rd (SW_SHR_USED.CELLS x.pkt.tc) + x.cells) :
    s.admitTo p x outs = ((s.satAdd (SW_PDROP.ADMIT p) 1).raise Ev.SW_ADMIT_DROP).dropArrival p x :=
  (if_neg (State.not_on hlossy)).trans (if_pos hfull)

/-- The credits of a cable's lossless class have made room already (R134). -/
theorem State.admitTo_lossless_cable (outs : List (Nat × Nat)) (hlossless : s.rd (SW_TC.LOSSLESS x.pkt.tc) ≠ 0) (hp : p < 6) :
    s.admitTo p x outs = s.takeIn p x true outs :=
  (if_pos ((s.on_iff_rd_ne_zero _).mpr hlossless)).trans (if_pos (.inl hp))

end

/-! ### Grants of the crossbar -/

theorem State.readCell_clean (s : State) (r : Ref) : s.readCell r 0 = (r, s) := rfl

theorem State.readCell_corrected (s : State) (r : Ref) : s.readCell r 1 = (r, s.satAdd SW_ECC.CORR 1) := rfl

/-- Only this reference is marked, with free bytes: the model's choice (R131, assumption rows 27 and 1). -/
theorem State.readCell_uncorrectable (s : State) (r : Ref) : s.readCell r 2 =
    ({ r with bad := r.bad ++ [(r.granted, (s.freshBytes 60).1)] }, ((s.freshBytes 60).2.satAdd SW_ECC.UNCORR 1).raise Ev.SW_ECC_UNCORR) := rfl

section
variable {s : State} {o tc i : Nat}

theorem State.crossbarGrant_idle (read : Nat) (h : 32 ≤ (s.stage (stIdx o tc)).length ∨ s.nextInput o tc = none) :
    s.crossbarGrant o tc read = s := by
  by_cases hroom : (s.stage (stIdx o tc)).length < 32
  · simp only [State.crossbarGrant, h.resolve_left (Nat.not_le.mpr hroom), ite_self]
  · exact if_neg hroom

theorem State.crossbarGrant_next (read : Nat) (hroom : (s.stage (stIdx o tc)).length < 32) (hnext : s.nextInput o tc = some i) :
    s.crossbarGrant o tc read = s.grant o tc i read := by
  simp only [State.crossbarGrant, if_pos hroom, hnext]

section
variable {r : Ref} {rest : List Ref} {st : Stored} (hvoq : s.voq (voqIdx i o tc) = r :: rest) (hst : s.stored r.id = some st)
include hvoq hst

theorem State.grant_descErr : s.grant o tc i 3 = s.grantLost o tc i r rest := by
  simp only [State.grant, hvoq, hst, if_true]

/-- A clean read of a cell with others to come leaves the reference running in its VOQ (R130). -/
theorem State.grant_clean_running (hmore : r.granted + 1 < st.outCells (s.outEnc o)) : s.grant o tc i 0 =
    ((s.setVoq (voqIdx i o tc) ({ r with granted := r.granted + 1 } :: rest)).mapSw fun w =>
      { w with running := Tab.put none w.running (stIdx o tc) (some i) }).stageCell o tc
        { ref := { r with granted := r.granted + 1 }, idx := r.granted, last := false } := by
  simp only [State.grant, hvoq, hst, State.readCell_clean, OfNat.zero_ne_ofNat, hmore.not_ge, decide_false, Bool.false_eq_true, if_false]

/-- A clean read of the last cell ends the packet and moves the round robin on (R130). -/
theorem State.grant_clean_last (hlast : st.outCells (s.outEnc o) ≤ r.granted + 1) : s.grant o tc i 0 =
    (s.packetEnds (voqIdx i o tc) o tc i rest).stageCell o tc { ref := { r with granted := r.granted + 1 }, idx := r.granted, last := true } := by
  simp only [State.grant, hvoq, hst, State.readCell_clean, OfNat.zero_ne_ofNat, hlast, decide_true, if_true, if_false]

end

/-- A double-bit error drops a packet of which nothing has left; other copies stay (R132, assumption row 146). -/
theorem State.grantLost_unbegun {r : Ref} (rest : List Ref) (h : r.granted = 0) :
    s.grantLost o tc i r rest = ((s.setVoq (voqIdx i o tc) rest).loseStored r.id r.mirror).raise Ev.SW_DESC_ERR :=
  congrArg (State.raise · Ev.SW_DESC_ERR) (if_pos h)

/-- A double-bit error closes a packet that has begun: a lost last cell ends it (R132, assumption row 146). -/
theorem State.grantLost_begun {r : Ref} (rest : List Ref) (h : 0 < r.granted) : s.grantLost o tc i r rest =
    ((s.packetEnds (voqIdx i o tc) o tc i rest).stageCell o tc { ref := r, idx := r.granted, last := true, lost := true }).raise Ev.SW_DESC_ERR :=
  congrArg (State.raise · Ev.SW_DESC_ERR) (if_neg h.ne')

end

/-- Settles O27: the arrival taken and how it is judged, the waiting ones, then the crossbar's grant by the outcome of the read. -/
theorem admissionAndCrossbar : Obligations.AdmissionAndCrossbar := by
  refine ⟨fun s p h => congrArg Host.Outcome.next (State.packetAdmit_none h), fun s u p x rest h => ?unjudged,
    fun s u p x rest outs h hto hne => ?routed, fun s p h => congrArg Host.Outcome.next (State.reserveWaitAdmit_none h),
    fun s p x rest h => ⟨congrArg Host.Outcome.next (State.reserveWaitAdmit_some h), State.reserveFits_of_taken h⟩,
    fun s o tc r h => congrArg Host.Outcome.next (State.crossbarGrant_idle r h), fun s o tc i r rest st hroom hnext hvoq hst hmore => ?running,
    fun s o tc i r rest st hroom hnext hvoq hst => ?ends, fun s r => ⟨s.readCell_corrected r, s.readCell_uncorrectable r⟩⟩
  case unjudged =>
    have hjudge := State.packetAdmit_some h
    exact ⟨fun hr => congrArg Host.Outcome.next (hjudge.trans (State.admitArrival_unrouted hr)),
      fun hr => congrArg Host.Outcome.next (hjudge.trans (State.admitArrival_mcMiss hr))⟩
  case routed =>
    have hjudge := (State.packetAdmit_some h).trans (State.admitArrival_to hto hne)
    exact ⟨fun hlossy hfull => congrArg Host.Outcome.next (hjudge.trans (State.admitTo_lossy_full outs hlossy hfull)),
      fun hlossless hp => congrArg Host.Outcome.next (hjudge.trans (State.admitTo_lossless_cable outs hlossless hp))⟩
  case running =>
    exact congrArg Host.Outcome.next ((State.crossbarGrant_next 0 hroom hnext).trans (State.grant_clean_running hvoq hst hmore))
  case ends =>
    have hlost := (State.crossbarGrant_next 3 hroom hnext).trans (State.grant_descErr hvoq hst)
    exact ⟨fun hlast => congrArg Host.Outcome.next ((State.crossbarGrant_next 0 hroom hnext).trans (State.grant_clean_last hvoq hst hlast)),
      fun h0 => congrArg Host.Outcome.next (hlost.trans (State.grantLost_unbegun rest h0)),
      fun hpos => congrArg Host.Outcome.next (hlost.trans (State.grantLost_begun rest hpos))⟩

end Sys2Proof.Machine
end

section
/-!
Proofs of the statement of 06_allotment_and_scheduling: the commands of the allotment, link, power and key groups. A command that is admitted executes at
once, its body reads back as the fields its row names, and the command of its opcode does with them what its group says.
-/

namespace Sys2Proof.Machine

/-! ### The command of a row that is admitted -/

theorem rowLimit_le (o : Owner) : rowLimit o ≤ 65552 := by
  unfold rowLimit
  split <;> omega

@[simp] theorem cmdEntry_started_body (o : Owner) (op seq txn csv : Nat) (body : List Byte) : (cmdEntry o op seq txn csv body).started.body = body := rfl

/-- A row's command that is admitted does what the catalogue gives its opcode; RELAY stands apart (R424 to R427, R446). -/
theorem State.command_admitted {s v : State} {o : Owner} {op : Nat} {q t : Fin 65536} {c : Fin 16} {body : List Byte}
    (h : s.admits (cmdEntry o op q t c body))
    (hrun : State.runBase (cmdEntry o op q t c body).started (s.withCommand (cmdEntry o op q t c body)) = v)
    (hop : op < 65536 := by decide) (hrelay : op ≠ 0x0B04 := by decide) : s.command o op q t c body = .next v := by
  have hfits : 16 + body.length ≤ rowLimit o := h.2.2.2.1
  have hlimit := rowLimit_le o
  have hrow := State.admits_runs hop q.isLt t.isLt c.isLt (by omega) h
  exact congrArg Host.Outcome.next (hrow.trans ((if_neg hrelay).trans hrun))

/-! ### Fields of a body -/

@[simp] theorem byteAt_be_one (x : Fin 256) : byteAt (be 1 x) 0 = x := by
  simp [byteAt, be, le]

@[simp] theorem byteAt_be_one_append_zero (x : Fin 256) (r : List Byte) : byteAt (be 1 x ++ r) 0 = x := byteAt_be_one x

@[simp] theorem byteAt_be_one_append_succ (v : Nat) (r : List Byte) (i : Nat) : byteAt (be 1 v ++ r) (i + 1) = byteAt r i := rfl

theorem leAt_append_wordLe (p q : List Byte) (w : Word) {i : Nat} (h : p.length = i) : leAt (p ++ (wordLe w ++ q)) i 4 = w.toNat := by
  rw [← List.append_assoc]
  exact leAt_append p q 4 w.toNat i h w.isLt

/-- Entries of two words read back behind the bytes in front of them (R433, R436, R444). -/
theorem pairs_read_back (l : List (Word × Word)) : ∀ (p : List Byte) (a : Nat), p.length = a →
    ((List.range l.length).map fun i =>
      (leAt (p ++ l.flatMap fun z => wordLe z.1 ++ wordLe z.2) (a + 8 * i) 4, leAt (p ++ l.flatMap fun z => wordLe z.1 ++ wordLe z.2) (a + 4 + 8 * i) 4)) =
      l.map fun z => (z.1.toNat, z.2.toNat) := by
  induction l with
  | nil => exact fun _ _ _ => rfl
  | cons z l ih =>
    intro p a hp
    have hfst := leAt_append_wordLe p (wordLe z.2 ++ l.flatMap fun z => wordLe z.1 ++ wordLe z.2) z.1 hp
    have hsnd := leAt_append_wordLe (p ++ wordLe z.1) (l.flatMap fun z => wordLe z.1 ++ wordLe z.2) z.2 (i := a + 4) (by simp [hp])
    have hrest := ih (p ++ (wordLe z.1 ++ wordLe z.2)) (a + 8) (by simp [hp])
    have hnext (b i : Nat) : b + 8 * (i + 1) = b + 8 + 8 * i := by omega
    simp only [List.append_assoc] at hsnd hrest
    simp only [List.length_cons, List.range_succ_eq_map, List.map_cons, List.map_map, Function.comp_def, List.flatMap_cons, List.append_assoc,
      Nat.mul_zero, Nat.add_zero, Nat.succ_eq_add_one, hnext, Nat.add_right_comm a 4 8, hfst, hsnd, hrest]

/-- The entries of AL_TABLE_WRITE: an offset and a word of four bytes each (R436; assumption row 106). -/
theorem tableEntries_body {p : List Byte} {l : List (Word × Word)} (hp : p.length = 2) (hl : l.length < 65536) :
    tableEntries (p ++ le 2 l.length ++ l.flatMap fun z => wordLe z.1 ++ wordLe z.2) = l.map fun z => (z.1.toNat, z.2.toNat) := by
  rw [tableEntries, leAt_append p _ 2 l.length 2 hp hl]
  exact pairs_read_back l (p ++ le 2 l.length) 4 (by simp [hp])

section
variable {u v : State} {e : CmdEntry} {x y : Nat}

section
variable (hx : byteAt e.body 0 = x)
include hx

/-! ### Commands that read registers of one instance -/

theorem State.cmdAlStatus_port : u.cmdAlStatus e = u.answerRegs e [AL_STAT x, AL_BACKLOG x, AL_EVT x, AL_EVT_CNT0 x, AL_EVT_CNT1 x, AL_EPOCH_NUM] := by
  subst hx; rfl

theorem State.cmdPolicerRead_policer : u.cmdPolicerRead e = u.answerRegs e [AL_POL_RATE x, AL_POL_BURST x, AL_POL_PASS x, AL_POL_DROP x] := by
  subst hx; rfl

theorem State.cmdLinkStatus_port : u.cmdLinkStatus e = u.answerRegs e ([CL_STAT x, CL_EVT x, CL_EVT_CNT0 x, CL_EVT_CNT1 x, CL_CW_CORR x,
    CL_CW_UNCORR x, CL_SYNC_OFS x] ++ (portLanes x).map LN_STAT) := by
  subst hx; rfl

theorem State.cmdPdStatus_port :
    u.cmdPdStatus e = u.answerRegs e [PD_STAT x, PD_CONTRACT x, PD_ALLOC x, PD_CABLE_VDO x, PD_PARTNER_IDH x, PD_PARTNER_TL x] := by
  subst hx; rfl

theorem State.cmdEfStatus_channel :
    u.cmdEfStatus e = u.answerRegs e [EF_STAT x, EF_TMR x, EF_MEAS x, EF_EVT x, EF_EVT_CNT0 x, EF_EVT_CNT1 x] := by
  subst hx; rfl

/-! ### Allotment group: writes at privilege H (R168; assumption row 106) -/

theorem State.cmdAlArm_fields (hy : byteAt e.body 1 = y) :
    u.cmdAlArm e = u.withWrites e .h [(AL_ARM x, 1 + y)] fun v => v.answerRegs e [AL_STAT x] := by
  subst hx hy; rfl

/-- The writes that AL_TABLE_WRITE makes for its entries. -/
def tableWrites (p t : Nat) (l : List (Word × Word)) : List (Nat × Nat) := l.map fun z => (AL_TBL0_HDR p + 0x80 * t + z.1.toNat, z.2.toNat)

section
variable {l : List (Word × Word)} (hy : byteAt e.body 1 = y) (hl : tableEntries e.body = l.map fun z => (z.1.toNat, z.2.toNat))
include hy hl

/-- The first write of the table in force is made, is ignored there, and ends the command (R159). -/
theorem State.cmdAlTableWrite_active (hact : u.act x = y) :
    u.cmdAlTableWrite e = u.withWrites e .h ((tableWrites x y l).take 1) fun v => v.answer e stConflict 0 [] := by
  simp only [State.cmdAlTableWrite, hx, hy, hl, hact, if_true, List.map_map]
  rfl

theorem State.cmdAlTableWrite_inactive (hact : u.act x ≠ y) :
    u.cmdAlTableWrite e = u.withWrites e .h (tableWrites x y l) fun v => v.answer e stOk 0 [] := by
  simp only [State.cmdAlTableWrite, hx, hy, hl, hact, if_false, List.map_map]
  rfl

end

/-! ### Link and port group (R437) -/

theorem State.cmdLinkAction_reset (hy : byteAt e.body 1 = 0) : u.cmdLinkAction e = (u.portReset x).answer e stOk 0 [] := by
  simp only [State.cmdLinkAction, hx, hy]

/-- LINK_ACTION 1 ends LSTATE 5 too (assumption row 149). -/
theorem State.cmdLinkAction_allow (hy : byteAt e.body 1 = 1) : u.cmdLinkAction e = (u.allowThrum x).answer e stOk 0 [] := by
  simp only [State.cmdLinkAction, hx, hy]

theorem State.cmdLinkAction_noKeyChange (hy : byteAt e.body 1 = 2) (h : u.lstate x ≠ 4 ∨ u.linkEnc x = false) :
    u.cmdLinkAction e = u.answer e stConflict 0 [] := by
  simp only [State.cmdLinkAction, hx, hy]
  exact if_pos (h.imp_right ne_true_of_eq_false)

theorem State.cmdLinkAction_keyChange (hy : byteAt e.body 1 = 2) (hup : u.lstate x = 4) (henc : u.linkEnc x = true) :
    u.cmdLinkAction e = (u.keyChange x).answer e stOk 0 [] := by
  simp only [State.cmdLinkAction, hx, hy]
  exact if_neg (not_or.mpr ⟨not_not_intro hup, not_not_intro henc⟩)

/-- The ECHO of a command is sent with a fresh token (assumption row 1). -/
def State.sendEcho (s : State) (p : Nat) : State :=
  (s.fresh.2.modLink p fun l => { l with echoTok := s.fresh.1.toNat }).sendCtl p 0x3F (be 4 s.fresh.1.toNat)

theorem State.cmdLinkAction_echo (hy : byteAt e.body 1 = 3) (hup : u.lstate x = 4) :
    u.cmdLinkAction e = (u.sendEcho x).setWait e (.echo x (u.sendEcho x).time) := by
  simp only [State.cmdLinkAction, hx, hy]
  exact if_neg (not_not_intro hup)

theorem State.cmdRoleSwap_port :
    u.cmdRoleSwap e = if u.linkIsUp x then (u.sendRoleSwap x 0).setWait e (.roleSwap x) else u.answer e stConflict 0 [] := by
  subst hx; rfl

theorem State.cmdEyeScan_refused {z : BusEnd} (hz : z ≠ .done) (h : u.busCheck e.owner.master (u.cmdPriv e) .write (LN_ES_CTRL x) 4 = (z, v)) :
    u.cmdEyeScan e = v.answer e z.status 0 [] := by
  simp only [State.cmdEyeScan, hx, h]
  exact if_pos hz

section
variable (h : u.busCheck e.owner.master (u.cmdPriv e) .write (LN_ES_CTRL x) 4 = (.done, u))
include h

theorem State.cmdEyeScan_busy (hb : u.rd (LN_ES_CTRL.BUSY x) ≠ 0) : u.cmdEyeScan e = u.answer e stBusy 0 [] := by
  simp only [State.cmdEyeScan, hx, h]
  exact (if_neg (not_not_intro rfl)).trans (if_pos ((u.on_iff_rd_ne_zero _).mpr hb))

theorem State.cmdEyeScan_starts {w : Nat} (hy : byteAt e.body 1 = y) (hw : byteAt e.body 2 = w) (hb : u.rd (LN_ES_CTRL.BUSY x) = 0) :
    u.cmdEyeScan e = ((u.wr (LN_ES_CTRL.EYE x) y).wr (LN_ES_CTRL.DWELL x) w).scanPoints e x (scanGrid e.body) [] := by
  simp only [State.cmdEyeScan, hx, hy, hw, h]
  exact (if_neg (not_not_intro rfl)).trans (if_neg (State.not_on hb))

end

/-! ### Power group (R438) -/

/-- PD_ACTION is INVALID where it is not possible, and BUSY while a commanded exchange or a swap runs (assumption row 112). -/
theorem State.cmdPdAction_fields (hy : byteAt e.body 1 = y) :
    u.cmdPdAction e = if u.pdPossible x y = false then u.answer e stInvalid 0 []
      else if u.pdCommanded x = true ∨ (y ≠ 0 ∧ ((u.pd x).asked.isSome = true ∨ (u.pd x).swap.isSome = true)) then u.answer e stBusy 0 []
      else (u.setWait e (.pd x y)).pdStart x y := by
  simp only [State.cmdPdAction, hx, hy, Bool.not_eq_true]

theorem State.cmdEfClear_channel :
    u.cmdEfClear e = u.withWrites e (u.cmdPriv e) [(EF_CMD x, 1)] fun v => v.answer e stOk 0 [] := by
  subst hx; rfl

/-! ### Keys and security group (R439) -/

theorem State.cmdKeyLoad_fields {k : Nat} {d : List Byte} (hy : byteAt e.body 1 = y) (hk : leAt e.body 4 4 = k) (hd : e.body.drop 8 = d) :
    u.cmdKeyLoad e = u.cmdKey e x y d (be 4 k) := by
  subst hx hy hk hd; rfl

theorem State.cmdKeyOp_fields {d : List Byte} (hd : e.body.drop 4 = d) : u.cmdKeyOp e = u.cmdKey e x 0 d [] := by
  subst hx hd; rfl

theorem State.cmdGateViol_fields (hy : byteAt e.body 1 = y) :
    u.cmdGateViol e = u.withRegs e [BG_VIOL_INFO x, BG_VIOL_ADDR_LO x, BG_VIOL_ADDR_HI x, BG_VIOL_TS_S x, BG_VIOL_TS_NS x, BG_VIOL_MORE x] fun d v =>
      if bitOf y 0 then v.withWrites e (v.cmdPriv e) [(BG_VIOL_INFO x, 0x80000000)] fun w => w.answer e stOk 0 d else v.answer e stOk 0 d := by
  subst hx hy; rfl

end

/-- The fuses of the image's minimum version rise to that of the image that runs, never fall, and the command answers with them (R375). -/
theorem State.cmdRollbackAdv_image (hx : byteAt e.body 0 = 0) :
    u.cmdRollbackAdv e = (let k := max u.fuses.imgMin (if u.imageActive then min 32 (u.rd GC_IMG_INFO.SVN) else 0)
      ({ u with fuses := { u.fuses with imgMin := k } } : State).answer e stOk 0 (le 1 k)) := if_pos hx

theorem State.cmdRollbackAdv_patch (hx : byteAt e.body 0 ≠ 0) :
    u.cmdRollbackAdv e = (let k := max u.fuses.patchMin (min 16 (u.keys.patch.getD 0))
      ({ u with fuses := { u.fuses with patchMin := k } } : State).answer e stOk 0 (le 1 k)) := if_neg hx

end

/-! ### The statement -/

/-- Settles O59, command by command: its fields read back from its body, then what the command does with them. The clauses of AL_TABLE_WRITE rest on
assumption row 106 as well, those of PD_ACTION on 112, LINK_ACTION 1 on 149, its echo token on 1, and the key operations on 84 to 86. -/
theorem commandsOfLinkPowerKeys : Obligations.CommandsOfLinkPowerKeys := by
  refine ⟨fun s o q t c x h => State.command_admitted h (State.cmdAlStatus_port (byteAt_be_one x)), fun s o q t c x y l h => ?alTableWrite,
    fun s o q t c x y h => State.command_admitted h (State.cmdAlArm_fields (by simp) (by simp)),
    fun s o q t c x h => State.command_admitted h (State.cmdPolicerRead_policer (byteAt_be_one x)),
    fun s o q t c x h => State.command_admitted h (State.cmdLinkStatus_port (byteAt_be_one x)), fun s o q t c x y h => ?linkAction,
    fun s o q t c x h => State.command_admitted h (State.cmdRoleSwap_port (byteAt_be_one x)), fun s o q t c n y w a1 a2 b1 b2 h => ?eyeScan,
    fun s o q t c x h => State.command_admitted h (State.cmdPdStatus_port (byteAt_be_one x)),
    fun s o q t c x y h => State.command_admitted h (State.cmdPdAction_fields (by simp) (by simp)),
    fun s o q t c x h => State.command_admitted h (State.cmdEfStatus_channel (byteAt_be_one x)),
    fun s o q t c x h => State.command_admitted h (State.cmdEfClear_channel (byteAt_be_one x)),
    fun s o q t c h => State.command_admitted h rfl, fun s o q t c x y k d h => ?keyLoad, fun s o q t c x d h => ?keyOp,
    fun s o q t c h => State.command_admitted h rfl, fun s o q t c x h => ?rollbackAdv, fun s o q t c h => State.command_admitted h rfl,
    fun s o q t c x y h => State.command_admitted h (State.cmdGateViol_fields (by simp) (by simp))⟩
  case alTableWrite =>
    have entries (hl : l.length ≤ 32) := tableEntries_body (p := be 1 x ++ be 1 y) (l := l) (by simp) (by omega)
    exact ⟨fun hact hl => State.command_admitted h (State.cmdAlTableWrite_active (by simp) (by simp) (entries hl) hact),
      fun hact hl => State.command_admitted h (State.cmdAlTableWrite_inactive (by simp) (by simp) (entries hl) hact)⟩
  case linkAction =>
    have action {k : Nat} (hy : (y : Nat) = k) : byteAt (be 1 x ++ be 1 y) 1 = k := by simpa using hy
    exact ⟨fun hy => State.command_admitted h (State.cmdLinkAction_reset (by simp) (action hy)),
      fun hy => State.command_admitted h (State.cmdLinkAction_allow (by simp) (action hy)),
      fun hy hno => State.command_admitted h (State.cmdLinkAction_noKeyChange (by simp) (action hy) hno),
      fun hy hup henc => State.command_admitted h (State.cmdLinkAction_keyChange (by simp) (action hy) hup henc),
      fun hy hup => State.command_admitted h (State.cmdLinkAction_echo (by simp) (action hy) hup)⟩
  case eyeScan =>
    exact ⟨fun z v hz hchk => State.command_admitted h (State.cmdEyeScan_refused (by simp) hz hchk),
      fun hchk hb => State.command_admitted h (State.cmdEyeScan_busy (by simp) hchk hb),
      fun hchk hb => State.command_admitted h (State.cmdEyeScan_starts (by simp) hchk (by simp) (by simp) hb)⟩
  case keyLoad =>
    have hkcv := leAt_append (be 1 x ++ be 1 y ++ be 2 0) d 4 k.toNat 4 (by simp) k.isLt
    exact State.command_admitted h (State.cmdKeyLoad_fields (by simp) (by simp) hkcv (List.drop_left' (by simp)))
  case keyOp => exact State.command_admitted h (State.cmdKeyOp_fields (by simp) (List.drop_left' (by simp)))
  case rollbackAdv =>
    have which {k : Nat} (hx : (x : Nat) = k) : byteAt (be 1 x) 0 = k := (byteAt_be_one x).trans hx
    exact ⟨fun hx => State.command_admitted h (State.cmdRollbackAdv_image (which hx)),
      fun hx => State.command_admitted h (State.cmdRollbackAdv_patch (ne_of_eq_of_ne (which hx) Nat.one_ne_zero))⟩

end Sys2Proof.Machine
end

section
/-!
Proofs of the statement of 07_strings_spans_domains: the floor record (R191, R192), grandmaster announcements (R183, R186) and role requests (R177).
-/

namespace Sys2Proof.Machine

/-! ### The floor record -/

section
variable {s : State}

theorem State.holdFloor_without (h : s.dom.floor = none) :
    s.holdFloor = (s.modDom fun d => { d with floor := some (s.ownVersion, s.hubAddr, 0, s.uptime) }).showFloor (s.rd DM_FLOOR.FLOOR) :=
  if_neg (by simp [h])

theorem State.holdFloor_with (h : s.dom.floor.isSome = true) : s.holdFloor = s := if_pos h

section
variable {v origin age : Nat}

/-- A lower version, or the same version heard of more recently, replaces the record (R191). -/
theorem State.offerFloor_replaces
    (h : v < s.holdFloor.floorRecord.1 ∨ (v = s.holdFloor.floorRecord.1 ∧ age < s.holdFloor.floorRecord.2.2)) :
    s.offerFloor v origin age =
      (s.holdFloor.modDom fun d => { d with floor := some (v, origin, age, s.holdFloor.uptime) }).showFloor (s.holdFloor.rd DM_FLOOR.FLOOR) :=
  if_pos h

/-- Any other offer leaves the record (R191). -/
theorem State.offerFloor_leaves
    (h : s.holdFloor.floorRecord.1 < v ∨ (v = s.holdFloor.floorRecord.1 ∧ s.holdFloor.floorRecord.2.2 ≤ age)) :
    s.offerFloor v origin age = s.holdFloor :=
  if_neg (by omega)

end

/-- A floor that does not fall is shown and nothing more. -/
theorem State.showFloor_notFallen {old : Nat} (h : old ≤ s.floorRecord.1) :
    s.showFloor old = (s.wr DM_FLOOR.FLOOR s.floorRecord.1).wr DM_FLOOR.ORIGIN s.floorRecord.2.1 := by
  have hdrop : ¬ (old = 3 ∧ s.floorRecord.1 < 3) := by omega
  exact (if_neg h.not_gt).trans (if_neg hdrop)

/-- A floor that falls from 3 is an event and is gossiped on every port at once (R191, R192). -/
theorem State.showFloor_fallsFrom3 (h : s.floorRecord.1 < 3) :
    s.showFloor 3 =
      (((s.wr DM_FLOOR.FLOOR s.floorRecord.1).wr DM_FLOOR.ORIGIN s.floorRecord.2.1).raise Ev.DM_FLOOR_DROP).each 6 fun p t => t.sendGossip p := by
  simp only [State.showFloor, h, and_self, if_true]

theorem exec_floorRecordLapse_young (h : s.floorRecord.2.2 < 600000000000) : exec .floorRecordLapse s = .next s :=
  congrArg Host.Outcome.next (if_pos h)

theorem exec_floorRecordLapse_lapsed (h : 600000000000 ≤ s.floorRecord.2.2) : exec .floorRecordLapse s =
    .next (((s.modDom fun d => { d with floor := some (s.ownVersion, s.hubAddr, 0, s.uptime) }).showFloor (s.rd DM_FLOOR.FLOOR)).ownFloor) :=
  congrArg Host.Outcome.next (if_neg h.not_gt)

end

/-! ### Grandmaster announcements -/

section
variable {s : State} {p : Fin 6} {prio cls steps : Fin 256} {uid : BitVec 64}

/-- Announcements do not cross a span edge (R183). -/
theorem exec_gmAnnounce_spanEdge (h : s.spanEdge p = true) : exec (.gmAnnounce p prio cls steps uid) s = .next s :=
  congrArg Host.Outcome.next (if_pos h)

theorem exec_gmAnnounce_inSpan (h : s.spanEdge p = false) :
    exec (.gmAnnounce p prio cls steps uid) s = .next (s.setHeard p (some ⟨prio, cls, steps, uid.toNat⟩)) :=
  congrArg Host.Outcome.next (if_neg (ne_true_of_eq_false h))

end

/-! ### Role requests -/

section
variable {s : State} {p uid : Nat}

/-- A hub that is not host-role grants the host role to the sender (R177). -/
theorem State.roleSwapReq_notHost (hh : s.hostRole = false) : s.roleSwapReq p 1 uid = s.sendCtl p 0x31 (be 1 0) := by
  simp [State.roleSwapReq, hh]

/-- A hub that is not dual-role does not take the host role (R177). -/
theorem State.roleSwapReq_take_notDual (hd : s.rd DM_CFG.DUAL = 0) : s.roleSwapReq p 0 uid = s.sendCtl p 0x31 (be 1 1) := by
  simp [State.roleSwapReq, State.not_on hd]

section
variable (hh : s.hostRole = true)
include hh

/-- What a host-role hub answers to a hub that asks for host depends on its dual role and the two UIDs (R177). -/
theorem State.roleSwapReq_host : s.roleSwapReq p 1 uid =
    if s.rd DM_CFG.DUAL = 0 then s.sendCtl p 0x31 (be 1 1) else if s.uid < uid then s.yieldRole.sendCtl p 0x31 (be 1 2) else s := by
  simp [State.roleSwapReq, hh, State.on_iff_rd_ne_zero]

theorem State.roleSwapReq_host_notDual (hd : s.rd DM_CFG.DUAL = 0) : s.roleSwapReq p 1 uid = s.sendCtl p 0x31 (be 1 1) :=
  (State.roleSwapReq_host hh).trans (if_pos hd)

/-- The lower UID yields (R177). -/
theorem State.roleSwapReq_host_yields (hd : s.rd DM_CFG.DUAL ≠ 0) (hu : s.uid < uid) :
    s.roleSwapReq p 1 uid = s.yieldRole.sendCtl p 0x31 (be 1 2) :=
  (State.roleSwapReq_host hh).trans ((if_neg hd).trans (if_pos hu))

theorem State.roleSwapReq_host_stays (hd : s.rd DM_CFG.DUAL ≠ 0) (hu : uid ≤ s.uid) : s.roleSwapReq p 1 uid = s :=
  (State.roleSwapReq_host hh).trans ((if_neg hd).trans (if_neg hu.not_gt))

end

end

/-! ### Yielding the host role -/

section
variable {s : State}

theorem State.rd_wr64_apart {lo hi f : Fld} {v : Nat} (hlo : f.addr ≠ lo.addr) (hhi : f.addr ≠ hi.addr) : (s.wr64 lo hi v).rd f = s.rd f := by
  rw [State.wr64, State.rd_wr_ne _ _ _ _ (.inl hhi), State.rd_wr_ne _ _ _ _ (.inl hlo)]

@[simp] theorem State.dom_showPositions : s.showPositions.dom = s.dom := rfl

theorem State.rd_showPositions {f : Fld} (hlo : f.addr ≠ DM_POS_LO) (hhi : f.addr ≠ DM_POS_HI) : s.showPositions.rd f = s.rd f :=
  State.rd_wr64_apart hlo hhi

/-- A hub that yields keeps no hub of its string (R169, R177). -/
theorem State.dom_yieldRole : s.yieldRole.dom.yielded = true ∧ s.yieldRole.dom.hubs = [] := by
  simp only [State.yieldRole, State.dom_showPositions, State.wr_dom]
  exact ⟨rfl, rfl⟩

/-- A hub that yields has no address until the winner assigns one (R177). -/
theorem State.rd_valid_yieldRole : s.yieldRole.rd DM_ID.VALID = 0 := by
  rw [State.yieldRole, State.rd_showPositions (by decide) (by decide), State.rd_wr_ne _ _ _ _ (by decide), State.rd_wr_self _ _ _ (by decide),
    Nat.zero_mod]

theorem State.rd_upport_yieldRole : s.yieldRole.rd DM_ID.UPPORT = 7 := by
  rw [State.yieldRole, State.rd_showPositions (by decide) (by decide), State.rd_wr_self _ _ _ (by decide)]
  rfl

end

/-- Settles O42, clause by clause: the floor record (R191, R192), announcements (R183, R186), and role requests (R177). -/
theorem floorGrandmasterAndRoles : Obligations.FloorGrandmasterAndRoles := by
  refine ⟨fun s h => State.holdFloor_without h, fun s h => State.holdFloor_with h,
    fun s v o age h => congrArg Host.Outcome.next (State.offerFloor_replaces h),
    fun s v o age h => congrArg Host.Outcome.next (State.offerFloor_leaves h),
    fun s old => ?shown, fun s h => exec_floorRecordLapse_young h, fun s h => exec_floorRecordLapse_lapsed h, fun s => rfl,
    fun s p a b c uid h => exec_gmAnnounce_spanEdge h, fun s p a b c uid h => exec_gmAnnounce_inSpan h, fun s p => rfl, fun s => rfl,
    fun s p uid => ?roleRequest,
    fun s => ⟨State.dom_yieldRole.1, State.dom_yieldRole.2, State.rd_valid_yieldRole, State.rd_upport_yieldRole⟩⟩
  case shown =>
    refine ⟨fun h => State.showFloor_notFallen h, fun h hold => ?_⟩
    rw [hold]
    exact State.showFloor_fallsFrom3 h
  case roleRequest =>
    exact ⟨fun hh => congrArg Host.Outcome.next (State.roleSwapReq_notHost hh),
      fun hh hd => congrArg Host.Outcome.next (State.roleSwapReq_host_notDual hh hd),
      fun hh hd hu => congrArg Host.Outcome.next (State.roleSwapReq_host_yields hh hd hu),
      fun hh hd hu => congrArg Host.Outcome.next (State.roleSwapReq_host_stays hh hd hu),
      fun hd => congrArg Host.Outcome.next (State.roleSwapReq_take_notDual hd)⟩

end Sys2Proof.Machine
end

section
/-!
Display pipes that take frames (R203 to R210, R221, R222): frames in turn, the rows of tiles that leave, EDIDs and hot-plug, direct tile push.
-/

namespace Sys2Proof.Machine

/-! ### Frames in turn -/

/-- A pipe as its frame starts (R206, R208): the frame before is complete, and a refresh that is due is armed once there is a complete frame. -/
def PipeSt.turned (x : PipeSt) : PipeSt :=
  let last := if x.cur.isSome then x.cur else x.last
  { x with last := last, cur := none, armed := x.armed || (x.due && last.isSome), due := x.due && last.isNone }

section
variable {x : PipeSt} {c : Nat}

theorem PipeSt.armed_turned (hl : x.turned.last = some c) (ha : x.armed = true ∨ x.due = true) : x.turned.armed = true := by
  show (x.armed || (x.due && x.turned.last.isSome)) = true
  rw [hl, Option.isSome_some, Bool.and_true, Bool.or_eq_true]
  exact ha

/-- The next frame goes to the copy that is not being extracted (R206). -/
theorem PipeSt.target_extracting {e : Extract} (h : x.extract = some e) : x.target = 1 - e.copy := by
  rw [PipeSt.target, h]

end

section
variable {s : State} {d c : Nat}

/-- Nothing begins beside an extraction that runs (R207). -/
theorem State.beginExtract_running {e : Extract} (h : (s.pipe d).extract = some e) : s.beginExtract d = s := if_pos (by rw [h]; rfl)

/-- An armed refresh begins with the last complete frame and its FORMAT (R207, R208). -/
theorem State.beginExtract_refresh (hx : (s.pipe d).extract = none) (ha : (s.pipe d).armed = true) (hl : (s.pipe d).last = some c) :
    s.beginExtract d = (s.extractCopy d c true).dispSend d (formatRec (Tab.get {} (s.pipe d).copies c).fmt) := by
  refine (if_neg (by simp [hx])).trans ?_
  simp only [ha, hl, if_true]

theorem State.beginExtract_nothing (hx : (s.pipe d).extract = none) (hr : (s.pipe d).armed = false ∨ (s.pipe d).last = none)
    (hf : (s.pipe d).fresh = none) : s.beginExtract d = s := by
  have hrefresh : (if (s.pipe d).armed then (s.pipe d).last else none) = none := by
    rcases hr with ha | hl
    · exact if_neg (ne_true_of_eq_false ha)
    · rw [hl, ite_self]
  refine (if_neg (by simp [hx])).trans ?_
  simp only [hrefresh, hf]

theorem State.captureTurn_eq : s.captureTurn d = (s.modPipe d PipeSt.turned).beginExtract d := rfl

theorem State.extract_turned {e : Option Extract} (h : (s.pipe d).extract = e) : ((s.modPipe d PipeSt.turned).pipe d).extract = e := by
  rw [State.pipe_modPipe]
  exact h

theorem State.captureTurn_running {e : Extract} (h : (s.pipe d).extract = some e) : s.captureTurn d = s.modPipe d PipeSt.turned :=
  State.beginExtract_running (State.extract_turned h)

theorem State.captureTurn_refresh (hx : (s.pipe d).extract = none) (hl : (s.pipe d).turned.last = some c)
    (ha : (s.pipe d).armed = true ∨ (s.pipe d).due = true) :
    s.captureTurn d = ((s.modPipe d PipeSt.turned).extractCopy d c true).dispSend d (formatRec (Tab.get {} (s.pipe d).copies c).fmt) := by
  have hpipe : (s.modPipe d PipeSt.turned).pipe d = (s.pipe d).turned := State.pipe_modPipe s d PipeSt.turned
  rw [State.captureTurn_eq, State.beginExtract_refresh (c := c) (State.extract_turned hx) (hpipe ▸ PipeSt.armed_turned hl ha) (hpipe ▸ hl), hpipe]
  rfl

/-! ### Rows of tiles -/

/-- The tiles of a row, one after the other (R207). -/
def State.extractRow (s : State) (d : Nat) (e : Extract) : State :=
  (List.range (tilesX (Tab.get {} (s.pipe d).copies e.copy).fmt)).foldl (fun t i => t.extractTile d e i) s

theorem State.tileExtract_idle (h : s.dsMode d ≠ 1 ∨ s.mcReady = false ∨ ((s.pipe d).extract = none ∧
    ((s.pipe d).armed = false ∨ (s.pipe d).last = none) ∧ (s.pipe d).fresh = none)) : s.tileExtract d = s := by
  by_cases hgo : s.dsMode d ≠ 1 ∨ ¬ s.mcReady = true
  · exact if_pos hgo
  · obtain ⟨hx, hr, hf⟩ := (h.resolve_left fun hm => hgo (.inl hm)).resolve_left fun hr => hgo (.inr (ne_true_of_eq_false hr))
    refine (if_neg hgo).trans ?_
    simp only [State.beginExtract_nothing hx hr hf, hx]

/-- Content that is not protected leaves on any link, protected content on an encrypted one (R222). -/
theorem State.extract_allowed {f : DispFormat} (hp : f.prot = false ∨ s.srcEncrypted d = true) : ¬ (f.prot = true ∧ ¬ s.srcEncrypted d = true) :=
  fun ⟨hprot, hclear⟩ => hp.elim (ne_true_of_eq_false · hprot) hclear

section
variable {e : Extract} (hm : s.dsMode d = 1) (hr : s.mcReady = true) (he : (s.pipe d).extract = some e)
include hm hr he

theorem State.tileExtract_running : s.tileExtract d =
    let f := (Tab.get {} (s.pipe d).copies e.copy).fmt
    if f.prot ∧ ¬ s.srcEncrypted d then
      ((s.sendMute d).raise (Ev.DS_HDCP_FAIL d)).modPipe d fun y => { y with extract := none, armed := y.armed || e.refresh }
    else if tilesY f ≤ e.row + 1 then
      (((s.extractRow d e).dispSend d (frameEndRec e.refresh f.prot e.frame ((((s.extractRow d e).pipe d).extract.map Extract.sent).getD 0))).modPipe d
        fun y => { y with extract := none }).wr (DS_FRAME.FRAME d) e.frame
    else (s.extractRow d e).modPipe d fun y => { y with extract := y.extract.map fun z => { z with row := z.row + 1 } } := by
  refine (if_neg (not_or.mpr ⟨not_not_intro hm, not_not_intro hr⟩)).trans ?_
  simp only [State.beginExtract_running he, he]
  rfl

/-- A protected frame does not leave on a link that is not encrypted (R222). -/
theorem State.tileExtract_barred (hp : (Tab.get {} (s.pipe d).copies e.copy).fmt.prot = true) (hc : s.srcEncrypted d = false) :
    s.tileExtract d =
      ((s.sendMute d).raise (Ev.DS_HDCP_FAIL d)).modPipe d fun y => { y with extract := none, armed := y.armed || e.refresh } :=
  (State.tileExtract_running hm hr he).trans (if_pos ⟨hp, ne_true_of_eq_false hc⟩)

section
variable (hp : (Tab.get {} (s.pipe d).copies e.copy).fmt.prot = false ∨ s.srcEncrypted d = true)
include hp

theorem State.tileExtract_row (hy : e.row + 1 < tilesY (Tab.get {} (s.pipe d).copies e.copy).fmt) : s.tileExtract d =
    (s.extractRow d e).modPipe d fun y => { y with extract := y.extract.map fun z => { z with row := z.row + 1 } } :=
  (State.tileExtract_running hm hr he).trans ((if_neg (State.extract_allowed hp)).trans (if_neg hy.not_ge))

/-- The last row is followed by FRAME_END (R207). -/
theorem State.tileExtract_lastRow (hy : tilesY (Tab.get {} (s.pipe d).copies e.copy).fmt ≤ e.row + 1) : s.tileExtract d =
    (((s.extractRow d e).dispSend d (frameEndRec e.refresh (Tab.get {} (s.pipe d).copies e.copy).fmt.prot e.frame
      ((((s.extractRow d e).pipe d).extract.map Extract.sent).getD 0))).modPipe d fun y => { y with extract := none }).wr (DS_FRAME.FRAME d) e.frame :=
  (State.tileExtract_running hm hr he).trans ((if_neg (State.extract_allowed hp)).trans (if_pos hy))

end

end

end

/-! ### EDIDs and hot-plug -/

section
variable {s : State} {d : Fin 4}

theorem exec_hpdLowEnd_none (h : (s.pipe d).edidNext = none) : exec (.hpdLowEnd d) s = .next s := by
  show execHpdLowEnd d s = .next s
  simp only [execHpdLowEnd, h]

/-- HPD rises with the EDID that waits (R209). -/
theorem exec_hpdLowEnd_waiting {b : List Byte} {e : List (List Byte)} (h : (s.pipe d).edidNext = some (b :: e)) : exec (.hpdLowEnd d) s =
    .next ((s.modPipe d fun x => { x with edid := b :: e, edidNext := none }).setHpd d 1) := by
  show execHpdLowEnd d s = _
  simp only [execHpdLowEnd, h, List.isEmpty_cons, Bool.false_eq_true, if_false]

/-- The one block of a short EDID completes it (R209). -/
theorem exec_sinkEdid_single {b : List Byte} (hm : s.dsMode d = 1) : exec (.sinkEdid d 0 1 b) s =
    .next ((s.modPipe d fun x => { x with edidIn := [] }).presentEdid d [b.take 128]) :=
  congrArg Host.Outcome.next ((if_pos (.inl hm)).trans (if_pos ⟨rfl, hm⟩))

/-- The ReceiverID_List that a repeater makes of a topology it is told: DEPTH one greater, what exceeds the limits marked (R221). -/
def topoBody (depth count : Fin 256) (devs casc : Bool) (ids : List Byte) : List Byte :=
  be 1 (depth.val + 1) ++ be 1 count ++ be 1 ((devs || decide (31 < count.val)).toNat + 2 * (casc || decide (4 < depth.val + 1)).toNat) ++ ids.take 155

theorem topoBody_within {n : Fin 256} {l : List Byte} (hn : n.val ≤ 31) (hl : l.length ≤ 155) :
    topoBody 1 n false false l = be 1 2 ++ be 1 n ++ be 1 0 ++ l := by
  rw [topoBody, List.take_of_length_le hl, decide_eq_false hn.not_gt]
  rfl

theorem exec_hdcpTopo {depth count : Fin 256} {devs casc : Bool} {ids : List Byte} (h : s.rd (DS_CFG.HDCP_EN d) ≠ 0) :
    exec (.hdcpTopo d depth count devs casc ids) s = .next ((s.modPipe d fun x => { x with topo := topoBody depth count devs casc ids }).send
      (.bus 3 d 1 (topoBody depth count devs casc ids))) :=
  congrArg Host.Outcome.next (if_pos ((s.on_iff_rd_ne_zero _).mpr h))

end

/-! ### Direct tile push -/

section
variable {s t : State} {d a next : Nat}

theorem State.pushSend_empty (h : s.rd (DS_PUSH_HEAD.HEAD d) = s.rd (DS_PUSH_TAIL.TAIL d)) : s.pushSend d = s := if_pos (.inr (.inr (.inr h)))

theorem State.pushSend_closed (ha : s.pipeAdapter d = some a) (ho : s.tunnelOpen a = false) : s.pushSend d = s := by
  refine ite_eq_left_iff.mpr fun _ => ?_
  simp only [ha]
  exact if_pos (.inr (.inr (ne_true_of_eq_false ho)))

/-- With a record in the ring and the adapter free the slot at HEAD is read (R210). -/
theorem State.pushSend_slot (hm : s.dsMode d = 2) (hr : s.mcReady = true) (hs : s.rd (DS_PUSH_SIZE.SLOTS d) ≠ 0)
    (hh : s.rd (DS_PUSH_HEAD.HEAD d) ≠ s.rd (DS_PUSH_TAIL.TAIL d)) (ha : s.pipeAdapter d = some a) (hst : (s.adp a).stopped = false)
    (hac : (s.adp a).accepted = []) (ho : s.tunnelOpen a = true) :
    s.pushSend d = s.pushSlot d a (s.rd (DS_PUSH_HEAD.HEAD d)) (s.rd (DS_PUSH_SIZE.SLOTS d)) := by
  refine (if_neg (by simp only [hm, hr, hs, hh, ne_eq, not_true_eq_false, or_self, not_false_eq_true])).trans ?_
  simp only [ha]
  exact if_neg (by simp only [hst, hac, ho, List.isEmpty_nil, Bool.false_eq_true, not_true_eq_false, or_self, not_false_eq_true])

theorem State.pushRead_bad {m : List Byte × State} (h : pushLen (s.pipe d).src m.1 = none) :
    s.pushRead d a next m = (m.2.raise (Ev.DS_PUSH_ERR d)).wr (DS_PUSH_HEAD.HEAD d) next := by
  rw [State.pushRead, h]

theorem State.pushRead_good {m : List Byte × State} {n : Nat} (h : pushLen (s.pipe d).src m.1 = some n) :
    s.pushRead d a next m = m.2.pushRecord d a next (m.1.take n) := by
  rw [State.pushRead, h]

section
variable {r : List Byte} (ht : t = ((s.countRd r.length).dispSend d (pushBytes r)).dispatch a)
include ht

/-- HEAD advances once the last fragment is queued (R210). -/
theorem State.pushRecord_queued (h : t.rd (TA_SEQ.TX_SEQ a) ≠ s.rd (TA_SEQ.TX_SEQ a)) :
    s.pushRecord d a next r = (t.pushTrace d r).wr (DS_PUSH_HEAD.HEAD d) next := by
  subst ht
  exact if_pos h

theorem State.pushRecord_stays (h : t.rd (TA_SEQ.TX_SEQ a) = s.rd (TA_SEQ.TX_SEQ a)) :
    s.pushRecord d a next r = t.modAdp a fun x => { x with accepted := [] } := by
  subst ht
  exact if_neg (not_not_intro h)

end

end

/-- Settles O46, clause by clause: frames in turn (a format the hub does not take is assumption row 154), rows of tiles, refreshes, EDIDs and hot-plug,
the topology, direct tile push. -/
theorem captureAndPushSources : Obligations.CaptureAndPushSources := by
  refine ⟨fun s d f l h => ?ignored, fun s d f l hm hr hf => congrArg Host.Outcome.next (if_pos ⟨hm, hr, hf⟩),
    fun s d => ⟨fun e he => ?running, fun c hx hl ha => State.captureTurn_refresh hx hl ha⟩,
    fun s d h => congrArg Host.Outcome.next (State.tileExtract_idle h),
    fun s d e hm hr he => ⟨fun hp hc => congrArg Host.Outcome.next (State.tileExtract_barred hm hr he hp hc),
      fun hp hy => congrArg Host.Outcome.next (State.tileExtract_row hm hr he hp hy),
      fun hp hy => congrArg Host.Outcome.next (State.tileExtract_lastRow hm hr he hp hy)⟩,
    fun s d hm => ⟨fun hp => congrArg Host.Outcome.next (if_pos ⟨hm, hp⟩), fun hp => congrArg Host.Outcome.next (if_neg fun h => h.2 hp),
      fun r n => congrArg Host.Outcome.next (if_pos hm), congrArg Host.Outcome.next (if_pos hm)⟩,
    fun s d hm r n => congrArg Host.Outcome.next ((if_neg (by rw [hm]; decide)).trans (if_pos hm)),
    fun s d h => exec_hpdLowEnd_none h, fun s d b e h => exec_hpdLowEnd_waiting h,
    fun s d h => congrArg Host.Outcome.next (if_neg (ne_true_of_eq_false h)), fun s d h => congrArg Host.Outcome.next (if_pos h),
    fun s d k n r => rfl, fun s d i n b h1 h2 => congrArg Host.Outcome.next (if_neg (not_or.mpr ⟨h1, h2⟩)),
    fun s d b hm => exec_sinkEdid_single hm, fun s d n l hen hn hl => ⟨_, exec_hdcpTopo hen, by rw [topoBody_within hn hl]; rfl, rfl⟩,
    fun s d h => congrArg Host.Outcome.next (State.pushSend_empty h), fun s d a ha ho => congrArg Host.Outcome.next (State.pushSend_closed ha ho),
    fun s d a hm hr hs hh ha hst hac ho => ?push⟩
  case ignored =>
    refine congrArg Host.Outcome.next (if_neg ?_)
    rintro ⟨hm, hr, hf⟩
    simp [hm, hr, hf] at h
  case running =>
    have hturn := State.captureTurn_running he
    exact ⟨hturn, PipeSt.target_extracting (hturn ▸ State.extract_turned he)⟩
  case push =>
    have hslot := State.pushSend_slot hm hr hs hh ha hst hac ho
    exact ⟨fun hbad => congrArg Host.Outcome.next (hslot.trans (State.pushRead_bad hbad)),
      fun n hgood =>
        ⟨fun hq => congrArg Host.Outcome.next (hslot.trans ((State.pushRead_good hgood).trans (State.pushRecord_queued rfl hq))),
          fun hq => congrArg Host.Outcome.next (hslot.trans ((State.pushRead_good hgood).trans (State.pushRecord_stays rfl hq)))⟩⟩

end Sys2Proof.Machine
end

section
/-!
Sinks (R211 to R214, R223): tiles, the end of a frame, what waits for the blank, a FORMAT, requests and reports.
-/

namespace Sys2Proof.Machine

/-! ### What events and register writes leave of a pipe -/

@[simp] theorem State.pipe_raise (s : State) (e : Evt) (d : Nat) : (s.raise e).pipe d = s.pipe d := by
  rw [State.pipe, State.pipe, State.raise_pipes]

@[simp] theorem State.pipe_wr (s : State) (f : Fld) (v d : Nat) : (s.wr f v).pipe d = s.pipe d := by
  rw [State.pipe, State.pipe, State.wr_pipes]

/-! ### Records a sink takes up -/

section
variable {s : State} {d : Nat}

theorem State.sinkTakes_ready (hm : s.dsMode d = 3) (hr : s.mcReady = true) (ho : s.oddOfPair d = false) : s.sinkTakes d = true := by
  simp only [State.sinkTakes, hm, hr, ho, decide_true, Bool.not_false, Bool.and_self]

theorem State.sinkTakes_not (h : s.dsMode d ≠ 3 ∨ s.mcReady = false ∨ s.oddOfPair d = true) : s.sinkTakes d = false := by
  rcases h with hm | hr | ho
  · simp only [State.sinkTakes, hm, decide_false, Bool.false_and]
  · simp only [State.sinkTakes, hr, Bool.and_false, Bool.false_and]
  · simp only [State.sinkTakes, ho, Bool.not_true, Bool.and_false]

/-- Why a record changes nothing: the pipe takes none up, or the record itself does not count. -/
theorem State.sinkTakes_not_or {p : Prop} (h : s.dsMode d ≠ 3 ∨ s.mcReady = false ∨ s.oddOfPair d = true ∨ p) : s.sinkTakes d = false ∨ p := by
  rcases h with hm | hr | ho | hp
  exacts [.inl (State.sinkTakes_not (.inl hm)), .inl (State.sinkTakes_not (.inr (.inl hr))), .inl (State.sinkTakes_not (.inr (.inr ho))), .inr hp]

end

/-! ### Tiles -/

/-- A sink notes the FRAME of a record (R213). -/
def State.noteFrame (s : State) (d frame : Nat) : State := s.modPipe d fun y => { y with seen := some (y.latest frame) }

section
variable {s : State} {d : Nat} {r : List Byte} {e : Bool} {f : DispFormat}

theorem State.tileRecord_ignored (h : s.sinkTakes d = false) : s.tileRecord d r e = s := if_pos h

section
variable (ht : s.sinkTakes d = true)
include ht

theorem State.tileRecord_unformatted (hf : (s.pipe d).format = none) : s.tileRecord d r e = s.noteFrame d (beAt r 2 2) := by
  refine (if_neg (by rw [ht]; decide)).trans ?_
  simp only [hf]
  rfl

/-- A record with a format to judge it by: stale or misfit, barred, or stored (R211, R213, R223). -/
theorem State.tileRecord_judged (hf : (s.pipe d).format = some f) : s.tileRecord d r e =
    let u := s.noteFrame d (beAt r 2 2)
    if (s.pipe d).stale (beAt r 2 2) || !tileFits f r || decide (u.rd (DS_FS_SIZE.TILES d) ≤ byteAt r 5 * tilesX f + byteAt r 4) then u
    else if bitOf (byteAt r 1) 1 ∧ ¬ u.protOk d e (bitOf (byteAt r 1) 2) then
      (u.modPipe d fun y => { y with muteFrame := true }).raise (Ev.DS_HDCP_FAIL d)
    else u.storeTile d f r := by
  refine (if_neg (by rw [ht]; decide)).trans ?_
  simp only [hf]
  rfl

theorem State.tileRecord_misfit (hf : (s.pipe d).format = some f) (h : (s.pipe d).stale (beAt r 2 2) = true ∨ tileFits f r = false ∨
    (s.noteFrame d (beAt r 2 2)).rd (DS_FS_SIZE.TILES d) ≤ byteAt r 5 * tilesX f + byteAt r 4) :
    s.tileRecord d r e = s.noteFrame d (beAt r 2 2) := by
  refine (State.tileRecord_judged ht hf).trans (if_pos ?_)
  rw [Bool.or_eq_true, Bool.or_eq_true, Bool.not_eq_true', decide_eq_true_iff]
  exact or_assoc.mpr h

section
variable (hf : (s.pipe d).format = some f) (hs : (s.pipe d).stale (beAt r 2 2) = false) (hfit : tileFits f r = true)
  (hroom : byteAt r 5 * tilesX f + byteAt r 4 < (s.noteFrame d (beAt r 2 2)).rd (DS_FS_SIZE.TILES d))
include hf hs hfit hroom

theorem State.tileRecord_fits : s.tileRecord d r e =
    let u := s.noteFrame d (beAt r 2 2)
    if bitOf (byteAt r 1) 1 ∧ ¬ u.protOk d e (bitOf (byteAt r 1) 2) then
      (u.modPipe d fun y => { y with muteFrame := true }).raise (Ev.DS_HDCP_FAIL d)
    else u.storeTile d f r := by
  refine (State.tileRecord_judged ht hf).trans (if_neg ?_)
  rw [hs, hfit, decide_eq_false hroom.not_ge]
  decide

/-- A protected tile that its link or the panel's session does not allow mutes the frame (R223). -/
theorem State.tileRecord_barred (hp : bitOf (byteAt r 1) 1 = true)
    (hno : (s.noteFrame d (beAt r 2 2)).protOk d e (bitOf (byteAt r 1) 2) = false) : s.tileRecord d r e =
      ((s.noteFrame d (beAt r 2 2)).modPipe d fun y => { y with muteFrame := true }).raise (Ev.DS_HDCP_FAIL d) :=
  (State.tileRecord_fits ht hf hs hfit hroom).trans (if_pos ⟨hp, ne_true_of_eq_false hno⟩)

theorem State.tileRecord_stored (h : bitOf (byteAt r 1) 1 = false ∨ (s.noteFrame d (beAt r 2 2)).protOk d e (bitOf (byteAt r 1) 2) = true) :
    s.tileRecord d r e = (s.noteFrame d (beAt r 2 2)).storeTile d f r :=
  (State.tileRecord_fits ht hf hs hfit hroom).trans (if_neg fun ⟨hp, hno⟩ => h.elim (ne_true_of_eq_false · hp) hno)

end

end

end

/-! ### The end of a frame -/

/-- A sink closes the count of a frame's records and notes its FRAME (R213). -/
def State.closeFrame (s : State) (d n : Nat) : State := s.modPipe d fun y => { y with recv := Tab.put 0 y.recv n 0, seen := some (y.latest n) }

/-- A frame closed with records missing raises MISSING and asks for a refresh (R213). -/
def State.closeMissing (s : State) (d n : Nat) : State := ((s.closeFrame d n).raise (Ev.DS_MISSING d)).askRefresh d 0

section
variable {s : State} {d n m : Nat} {k : Bool}

theorem State.frameEnd_ignored (h : s.sinkTakes d = false ∨ (s.pipe d).stale n = true) : s.frameEnd d k n m = s := if_pos h

section
variable (ht : s.sinkTakes d = true) (hs : (s.pipe d).stale n = false)
include ht hs

theorem State.frameEnd_complete (h : m ≤ Tab.get 0 (s.pipe d).recv n) : s.frameEnd d k n m =
    if (s.closeFrame d n).on (DS_CFG.TEAR d) then
      (if k then (s.closeFrame d n).modPipe d fun y => { y with refreshReq := none } else s.closeFrame d n)
    else ((s.closeFrame d n).gather d { frame := n, full := k, clean := k }).tryCommit d := by
  refine (if_neg (by rw [ht, hs]; decide)).trans ?_
  simp only [decide_eq_false h.not_gt, Bool.not_false, Bool.and_true, Bool.false_eq_true, if_false]
  rfl

/-- With records missing the tiles commit nevertheless, and the refresh asked for stands (R213, R214). -/
theorem State.frameEnd_missing (h : Tab.get 0 (s.pipe d).recv n < m) : s.frameEnd d k n m =
    if (s.closeMissing d n).on (DS_CFG.TEAR d) then s.closeMissing d n
    else ((s.closeMissing d n).gather d { frame := n, full := k }).tryCommit d := by
  refine (if_neg (by rw [ht, hs]; decide)).trans ?_
  simp only [decide_eq_true h, Bool.not_true, Bool.and_false, Bool.false_eq_true, if_false, if_true]
  rfl

end

end

/-! ### What waits for the blank -/

section
variable {s : State} {d : Nat} {c : TileCommit}

theorem State.gather_first (h : (s.pipe d).commit = none) : s.gather d c = s.setPipe d { s.pipe d with
    pending := [], pendDamage := [], commit := some { c with damage := (s.pipe d).pendDamage, tiles := (s.pipe d).pending } } := by
  have hall : (s.pipe d).pending.filter (fun t => !([] : List Nat).contains t) = (s.pipe d).pending := List.filter_eq_self.mpr fun _ _ => rfl
  simp only [State.gather, State.modPipe, h, Option.getD_none, Bool.false_or, List.nil_append, hall]

theorem State.tryCommit_now (h : (s.pipe d).commit = some c) (hn : s.commitNow d = true) : s.tryCommit d = s.commitTiles d c := by
  simp only [State.tryCommit, h, hn, if_true]

theorem State.tryCommit_waits (h : (s.pipe d).commit = none ∨ s.commitNow d = false) : s.tryCommit d = s := by
  rcases h with hnone | hlater
  · simp only [State.tryCommit, hnone]
  · simp only [State.tryCommit, hlater, Bool.false_eq_true, if_false]
    split <;> rfl

end

/-! ### Formats -/

section
variable {s : State} {d : Nat} {f : DispFormat}

/-- A sink takes up a FORMAT: another one than the last starts anew (R214). -/
def State.takeFormat (s : State) (d : Nat) (f : DispFormat) : State :=
  if (s.pipe d).format.elim false fun g => sameShape g f && decide (g.mute = f.mute) then s.modPipe d fun y => { y with format := some f }
  else (s.modPipe d fun y => { y with format := some f }).startFormat d

theorem State.takeFormat_same {g : DispFormat} (h : (s.pipe d).format = some g) (hs : g.fmt = f.fmt) (hw : g.width = f.width)
    (hh : g.height = f.height) (hm : g.mute = f.mute) : s.takeFormat d f = s.modPipe d fun y => { y with format := some f } :=
  if_pos (by rw [h, Option.elim_some, sameShape, decide_eq_true ⟨hs, hw, hh⟩, decide_eq_true hm]; rfl)

theorem State.takeFormat_first (h : (s.pipe d).format = none) :
    s.takeFormat d f = (s.modPipe d fun y => { y with format := some f }).startFormat d := if_neg (by rw [h]; exact Bool.false_ne_true)

theorem State.newFormat_refused (h : s.sinkTakes d = false ∨ formatOk f = false) : s.newFormat d f = s := if_pos h

section
variable (ht : s.sinkTakes d = true) (hok : formatOk f = true)
include ht hok

/-- A format that has room in the region and the size of the timing is no mismatch (R211, R215). -/
theorem State.newFormat_fits (hroom : tilesX f * tilesY f ≤ s.rd (DS_FS_SIZE.TILES d)) (hw : f.width = s.rd (DS_TIMING_H.ACTIVE d))
    (hh : f.height = s.rd (DS_TIMING_V.ACTIVE d)) : s.newFormat d f = s.takeFormat d f := by
  refine (if_neg (by rw [ht, hok]; decide)).trans ?_
  simp only [decide_eq_false hroom.not_gt, hw, hh, ne_eq, not_true_eq_false, or_self, decide_false, Bool.or_self, Bool.false_eq_true, if_false]
  rfl

/-- A format too big for the region is muted (R211). -/
theorem State.newFormat_tooBig (hroom : s.rd (DS_FS_SIZE.TILES d) < tilesX f * tilesY f) :
    s.newFormat d f = (s.raise (Ev.DS_FMT_MISMATCH d)).takeFormat d { f with mute := true } := by
  refine (if_neg (by rw [ht, hok]; decide)).trans ?_
  simp only [decide_eq_true hroom, Bool.true_or, if_true]
  rfl

end

@[simp] theorem State.panelPipes_modPipe (s : State) (k : Nat) (g : PipeSt → PipeSt) (d : Nat) : (s.modPipe k g).panelPipes d = s.panelPipes d := rfl

/-- A panel that is no pair's is driven by its one pipe (R216). -/
theorem State.panelPipes_unpaired (h : s.rd (DS_CFG.PAIR d) = 0) : s.panelPipes d = [d] := if_neg fun hc => State.not_on h hc.1

/-- A panel of one pipe whose link has not trained shows no state of its FORMAT (R215). -/
theorem State.startFormat_untrained (hp : s.rd (DS_CFG.PAIR d) = 0) (ht : (s.pipe d).trained = false) : s.startFormat d =
    (s.modPipe d fun y => { y with pending := [], pendDamage := [], valid := [], recv := [], commit := none, fmtFrame := y.seen }).askRefresh d 1 := by
  simp only [State.startFormat, State.panelPipes_modPipe, State.panelPipes_unpaired hp, State.eachIn, List.foldl_cons, List.foldl_nil, State.pipe_modPipe, ht,
    Bool.false_eq_true, false_and, if_false]

end

/-! ### Requests and reports -/

section
variable {s : State} {d : Fin 4}

theorem exec_refreshReqRepeat_none (h : (s.pipe d).refreshReq = none) : exec (.refreshReqRepeat d) s = .next s := by
  show execRefreshReqRepeat d s = _
  rw [execRefreshReqRepeat, h]

theorem exec_refreshReqRepeat_stands {r : Nat} (h : (s.pipe d).refreshReq = some r) : exec (.refreshReqRepeat d) s = .next (s.askRefresh d r) := by
  show execRefreshReqRepeat d s = _
  rw [execRefreshReqRepeat, h]

theorem exec_sinkStatusTimer_other (h : s.dsMode d ≠ 3 ∨ s.oddOfPair d = true) : exec (.sinkStatusTimer d) s = .next s :=
  congrArg Host.Outcome.next (if_neg fun ⟨hm, ho⟩ => h.elim (· hm) (ne_true_of_eq_false ho))

end

/-- Settles O47, clause by clause: tiles, FRAME_END, commits, FORMAT (one the hub does not take is assumption row 154, what a new one drops and makes stale is
row 33, the odd pipe of a pair is row 32), requests, reports and the timeout. -/
theorem sinkRecordsAndCommits : Obligations.SinkRecordsAndCommits := by
  refine ⟨fun s d r e h => congrArg Host.Outcome.next (State.tileRecord_ignored (State.sinkTakes_not h)), fun s d r e hm hr ho => ?tile,
    fun s d k n m h => congrArg Host.Outcome.next (State.frameEnd_ignored (State.sinkTakes_not_or h)), fun s d k n m hm hr ho hs => ?frameEnd,
    fun s d c => ⟨State.gather_first, State.tryCommit_now, State.tryCommit_waits⟩,
    fun s d f h => congrArg Host.Outcome.next (State.newFormat_refused (State.sinkTakes_not_or h)),
    fun s d f hm hr ho hok hroom hw hh => ?formatFits, fun s d f hm hr ho hok hroom hf => ?formatTooBig,
    fun s d h => exec_refreshReqRepeat_none h, fun s d r h => exec_refreshReqRepeat_stands h,
    fun s d => ⟨fun hm ho => congrArg Host.Outcome.next (if_pos ⟨hm, ho⟩), exec_sinkStatusTimer_other⟩,
    fun s d h => congrArg Host.Outcome.next (if_pos (List.isEmpty_iff.mpr h)), fun s d h => congrArg Host.Outcome.next (if_neg (mt List.isEmpty_iff.mp h))⟩
  case tile =>
    have ht := State.sinkTakes_ready hm hr ho
    exact ⟨fun hf => congrArg Host.Outcome.next (State.tileRecord_unformatted ht hf),
      fun f hf h => congrArg Host.Outcome.next (State.tileRecord_misfit ht hf h),
      fun f hf hs hfit hroom => ⟨fun hp hno => congrArg Host.Outcome.next (State.tileRecord_barred ht hf hs hfit hroom hp hno),
        fun h => congrArg Host.Outcome.next (State.tileRecord_stored ht hf hs hfit hroom h)⟩⟩
  case frameEnd =>
    have ht := State.sinkTakes_ready hm hr ho
    exact ⟨fun h htear => congrArg Host.Outcome.next ((State.frameEnd_complete ht hs h).trans (if_neg (ne_true_of_eq_false htear))),
      fun h htear => congrArg Host.Outcome.next ((State.frameEnd_missing ht hs h).trans (if_neg (ne_true_of_eq_false htear))),
      fun h htear => congrArg Host.Outcome.next ((State.frameEnd_missing ht hs h).trans (if_pos htear)),
      fun h htear => ⟨congrArg Host.Outcome.next ((State.frameEnd_complete ht hs h).trans (if_pos htear)),
        congrArg Host.Outcome.next ((State.frameEnd_complete ht hs h).trans (if_pos htear))⟩⟩
  case formatFits =>
    have htake := State.newFormat_fits (State.sinkTakes_ready hm hr ho) hok hroom hw hh
    exact ⟨fun g hg hs hgw hgh hgm => congrArg Host.Outcome.next (htake.trans (State.takeFormat_same hg hs hgw hgh hgm)),
      fun hf => congrArg Host.Outcome.next (htake.trans (State.takeFormat_first hf)),
      fun hf hp ht => congrArg Host.Outcome.next (htake.trans ((State.takeFormat_first hf).trans
        (State.startFormat_untrained hp (by rw [State.pipe_modPipe]; exact ht))))⟩
  case formatTooBig =>
    exact congrArg Host.Outcome.next ((State.newFormat_tooBig (State.sinkTakes_ready hm hr ho) hok hroom).trans
      (State.takeFormat_first (by rw [State.pipe_raise]; exact hf)))

end Sys2Proof.Machine
end

section
/-!
Scan-out (R215 to R220), the panel's link (R199, R217), relay input (R225), sessions (R221) and the readiness of the frame memory (R229).
-/

namespace Sys2Proof.Machine

/-! ### A frame starts -/

/-- What a frame's start leaves of a pipe that scans out (R219, R220): its signature, the tiles read, the run of suspects and of quiet frames, no marks. -/
def State.frameScanned (u : State) (d suspects quiet : Nat) : State :=
  ((u.scanRead d).wr (DS_SIG.SIG d) (u.frameSig d)).modPipe d fun y =>
    { y with suspects := suspects, quietFrames := quiet, committed := false, damage := false, blank := none }

section
variable {s : State} {d : Nat}

theorem State.scanFrame_odd (h : s.oddOfPair d = true) : s.scanFrame d = s := if_pos h

theorem State.scanFrame_single {t : State} (ho : s.oddOfPair d = false) (hp : s.panelPipes d = [d]) (ht : s.scanPipe d = t) :
    s.scanFrame d = t.modPipe d fun y => { y with muteFrame := false } := by
  refine (if_neg (ne_true_of_eq_false ho)).trans ?_
  rw [hp, ← ht]
  rfl

theorem State.scanPipe_untrained (h : s.rd (DS_STAT.STATE d) < 2) : s.scanPipe d = s := if_pos (.inl h)

section
variable (h2 : 2 ≤ s.rd (DS_STAT.STATE d)) (hm : s.dsMode d = 3 ∨ s.dsMode d = 4)
include h2 hm

theorem State.scanPipe_go : ¬ (s.rd (DS_STAT.STATE d) < 2 ∨ ¬ (s.dsMode d = 3 ∨ s.dsMode d = 4)) := not_or.mpr ⟨h2.not_gt, not_not_intro hm⟩

theorem State.scanPipe_quiet (hd : (s.pipe d).damage = false) (hc : (s.pipe d).committed = false) :
    s.scanPipe d = (s.modPipe d fun y => { y with late := [] }).frameScanned d (s.pipe d).suspects ((s.pipe d).quietFrames + 1) := by
  refine (if_neg (State.scanPipe_go h2 hm)).trans ?_
  simp only [State.pipe_modPipe, hd, hc, Bool.false_and, Bool.false_eq_true, if_false]
  rfl

section
variable {u : State} (hu : u = s.modPipe d fun y => { y with late := [] }) (hd : (s.pipe d).damage = true) (hc : (s.pipe d).committed = true)
include hu hd hc

theorem State.scanPipe_moving (hsig : u.frameSig d ≠ u.rd (DS_SIG.SIG d)) : s.scanPipe d = u.frameScanned d 0 0 := by
  subst hu
  refine (if_neg (State.scanPipe_go h2 hm)).trans ?_
  simp only [State.pipe_modPipe, hd, hc, decide_eq_false hsig, Bool.and_false, Bool.false_and, Bool.false_eq_true, if_false, if_true]
  rfl

/-- The K-th damaged frame in a row of the same signature is a freeze (R220). -/
theorem State.scanPipe_frozen (hsig : u.frameSig d = u.rd (DS_SIG.SIG d))
    (hk : ((u.scanRead d).wr (DS_SIG.SIG d) (u.frameSig d)).rd (DS_LOWREF.K d) ≤ (s.pipe d).suspects + 1) :
    s.scanPipe d = ((u.frameScanned d 0 0).raise (Ev.DS_FREEZE d)).sendSinkStatus ((u.frameScanned d 0 0).pairBase d) := by
  subst hu
  refine (if_neg (State.scanPipe_go h2 hm)).trans ?_
  simp only [State.pipe_modPipe, hd, hc, decide_eq_true hsig, decide_eq_true hk, Bool.and_self, if_true]
  rfl

end

end

end

section
variable {s : State} {d : Fin 4}

theorem dsCfg_not_freezeRegs (k d : Fin 4) : DS_CFG k ∉ eventRegs (Ev.DS_FREEZE d) := by
  revert k d
  decide

/-- A freeze leaves the pairing of the pipes. -/
theorem State.pairBase_freeze : (s.raise (Ev.DS_FREEZE d)).pairBase d = s.pairBase d := by
  have hpair : (s.raise (Ev.DS_FREEZE d)).on (DS_CFG.PAIR (d - 1 : Nat)) = s.on (DS_CFG.PAIR (d - 1 : Nat)) := by
    rw [State.on, State.on, State.rd_raise _ _ _ (dsCfg_not_freezeRegs ⟨d - 1, by omega⟩ d)]
  rw [State.pairBase, State.pairBase, hpair]

end

/-! ### The blank -/

section
variable {s : State} {d lines : Nat}

theorem State.vblank_runs (hm : s.dsMode d = 3 ∨ s.dsMode d = 4) (ho : s.oddOfPair d = false) {u : State} (hu : u = s.setBlank d lines false) :
    (∀ c, (u.pipe d).commit = some c → s.vblank d lines = (u.commitTiles d c).stretch d lines) ∧
    ((u.pipe d).commit = none → s.vblank d lines = u.stretch d lines) := by
  subst hu
  have hgo : ¬ (¬ (s.dsMode d = 3 ∨ s.dsMode d = 4) ∨ s.oddOfPair d = true) := not_or.mpr ⟨not_not_intro hm, ne_true_of_eq_false ho⟩
  refine ⟨fun c hc => (if_neg hgo).trans ?_, fun hc => (if_neg hgo).trans ?_⟩
  · simp only [hc]
  · simp only [hc]

theorem State.stretch_off (h : s.rd (DS_CFG.LOWREF_EN d) = 0) : s.stretch d lines = s := if_neg fun hc => State.not_on h hc.2.1

/-- After N frames without a commit the blank stretches, and the source is told when it begins to (R219). -/
theorem State.stretch_begins (hm : s.dsMode d = 3) (he : s.rd (DS_CFG.LOWREF_EN d) ≠ 0) (ha : (s.pipe d).adaptive = true)
    (hn : s.rd (DS_LOWREF.N d) ≤ (s.pipe d).quietFrames) (hlow : s.rd (DS_STAT.LOW d) = 0) : s.stretch d lines =
      ((s.setBlank d lines true).eachIn (s.panelPipes d) fun k t => t.wr (DS_STAT.LOW k) 1).sendSinkStatus d :=
  (if_pos ⟨hm, (s.on_iff_rd_ne_zero _).mpr he, ha, hn⟩).trans (if_neg (State.not_on hlow))

end

section
variable {s : State} {d : Fin 4}

theorem exec_stretchEnd_noBlank (h : (s.pipe d).blank = none) : exec (.stretchEnd d) s = .next s :=
  congrArg Host.Outcome.next (if_neg (by rw [h]; decide))

theorem exec_stretchEnd_stretched {n : Nat} (h : (s.pipe d).blank = some (n, true)) : exec (.stretchEnd d) s = .next (s.scanFrame d) :=
  congrArg Host.Outcome.next (if_pos (by rw [h]; rfl))

end

/-! ### The panel's link -/

/-- What a trained link shows of itself and of the panel, before the pipe's mode is judged against it (R199, R217, R218). -/
def State.linkShown (s : State) (d rate lanes dscMax : Nat) (adaptive : Bool) (minRate : Nat) : State :=
  let w := ((s.wr (DS_STAT.RATE d) rate).wr (DS_STAT.LANES d) lanes).modPipe d fun x =>
    { x with adaptive := adaptive, panelMin := minRate, dscMax := dscMax, trained := false }
  (w.wr (DS_STAT.DSC d) (decide (dscMax ≠ 0) && w.on (DS_DSC.ENC d)).toNat).wr (DS_STAT.HPD d) 1

section
variable {s : State} {d : Nat}

theorem State.dsMode_wr {f : Fld} {v : Nat} (h : DS_CFG d ≠ f.addr) : (s.wr f v).dsMode d = s.dsMode d := State.rd_wr_ne _ _ _ _ (.inl h)

theorem dsCfg_ne_dsStat (d : Nat) : DS_CFG d ≠ DS_STAT d := by
  unfold DS_CFG DS_STAT
  omega

theorem State.judgeMode_unfit (h : s.dpRate d (s.rd (DS_STAT.RATE d)) (s.rd (DS_STAT.LANES d)) = none) :
    s.judgeMode d = ((s.modPipe d fun x => { x with trained := false, outRate := 0 }).wr (DS_STAT.STATE d) 1).raise (Ev.DS_MODE_FAIL d) := by
  rw [State.judgeMode, h]

/-- A link that had not trained shows the pipe once its mode fits (R199, R215). -/
theorem State.judgeMode_fits {b : Nat} (h : s.dpRate d (s.rd (DS_STAT.RATE d)) (s.rd (DS_STAT.LANES d)) = some b) (ht : (s.pipe d).trained = false) :
    s.judgeMode d = (s.modPipe d fun x => { x with trained := true, outRate := b }).wr (DS_STAT.STATE d) (s.shownState d) := by
  rw [State.judgeMode, h]
  exact if_neg (ne_true_of_eq_false ht)

section
variable {rate lanes dscMax minRate : Nat} {k : Bool}

theorem State.trained_linkShown : ((s.linkShown d rate lanes dscMax k minRate).pipe d).trained = false := by
  simp only [State.linkShown, State.pipe_wr, State.pipe_modPipe]

section
variable (hm : s.dsMode d = 3 ∨ s.dsMode d = 4)
include hm

theorem State.dpTrained_panel : s.dpTrained d rate lanes dscMax k minRate =
    let v := (s.linkShown d rate lanes dscMax k minRate).judgeMode d
    if (v.pipe d).trained then v.sendSinkStatus (v.pairBase d) else v := by
  have hmode : ((s.wr (DS_STAT.RATE d) rate).wr (DS_STAT.LANES d) lanes).dsMode d = s.dsMode d :=
    (State.dsMode_wr (dsCfg_ne_dsStat d)).trans (State.dsMode_wr (dsCfg_ne_dsStat d))
  exact if_pos (by rw [hmode]; exact hm)

section
variable {u : State} (hu : u = s.linkShown d rate lanes dscMax k minRate)
include hu

/-- A mode that does not fit its link is not shown (R199). -/
theorem State.dpTrained_unfit (h : u.dpRate d (u.rd (DS_STAT.RATE d)) (u.rd (DS_STAT.LANES d)) = none) : s.dpTrained d rate lanes dscMax k minRate =
    ((u.modPipe d fun x => { x with trained := false, outRate := 0 }).wr (DS_STAT.STATE d) 1).raise (Ev.DS_MODE_FAIL d) := by
  rw [State.dpTrained_panel hm, ← hu, State.judgeMode_unfit h]
  exact if_neg (by simp only [State.pipe_raise, State.pipe_wr, State.pipe_modPipe, Bool.false_eq_true, not_false_eq_true])

/-- A mode that fits is shown and reported (R199, R215). -/
theorem State.dpTrained_fits {b : Nat} (h : u.dpRate d (u.rd (DS_STAT.RATE d)) (u.rd (DS_STAT.LANES d)) = some b) {v : State}
    (hv : v = (u.modPipe d fun x => { x with trained := true, outRate := b }).wr (DS_STAT.STATE d) (u.shownState d)) :
    s.dpTrained d rate lanes dscMax k minRate = v.sendSinkStatus (v.pairBase d) := by
  rw [State.dpTrained_panel hm, ← hu, State.judgeMode_fits h (hu ▸ State.trained_linkShown), ← hv]
  exact if_pos (by simp only [hv, State.pipe_wr, State.pipe_modPipe])

end

end

end

end

section
variable {s : State} {d : Fin 4} {e : List (List Byte)} {u : State} (hm : s.dsMode d = 3 ∨ s.dsMode d = 4)
  (hu : u = ((s.wr (DS_STAT.HPD d) 1).wr (DS_STAT.STATE d) 1).modPipe d fun x => { x with panelEdid := e, quietFrames := 0 })
include hm hu

theorem exec_hpdReturn_known (h : (s.pipe d).panelEdid = e) : exec (.hpdReturn d e) s = .next (u.send (.bus 3 d 2 [])) := by
  subst hu
  refine congrArg Host.Outcome.next ((if_pos hm).trans ?_)
  simp only [h, if_true]

/-- Another EDID than before goes to the source (R214, R217). -/
theorem exec_hpdReturn_other (h : (s.pipe d).panelEdid ≠ e) : exec (.hpdReturn d e) s = .next ((u.sendEdid d).send (.bus 3 d 2 [])) := by
  subst hu
  refine congrArg Host.Outcome.next ((if_pos hm).trans ?_)
  simp only [h, if_false]

end

/-! ### Relay input -/

/-- A frame of relay input goes to the frame store and out, RELAY_LINES behind the input (R225). -/
def State.relayFrame (s : State) (d : Nat) (f : DispFormat) (l : List (List Byte)) : State :=
  let w := (s.storeFrame d 0 l).modPipe d fun x => { x with format := some f, live := [], valid := List.range l.length }
  let u := if f.comp then w.wr (DS_STAT.DSC d) 1 else w
  (u.send (.bus 3 d 3 (be 1 (u.rd (DS_TILE_CFG.RELAY_LINES d))))).wrapAdd (DS_FRAME.FRAME d) 1

section
variable {s : State} {d : Fin 4} {f : DispFormat} {l : List (List Byte)}

theorem exec_relayInputFrame_ignored (h : s.dsMode d ≠ 4 ∨ s.mcReady = false ∨ formatOk f = false) : exec (.relayInputFrame d f l) s = .next s := by
  refine congrArg Host.Outcome.next (if_neg ?_)
  rintro ⟨hm, hr, hf⟩
  exact h.elim (· hm) fun h => h.elim (ne_true_of_eq_false · hr) (ne_true_of_eq_false · hf)

theorem exec_relayInputFrame_taken (hm : s.dsMode d = 4) (hr : s.mcReady = true) (hf : formatOk f = true) : exec (.relayInputFrame d f l) s =
    .next (if ((s.relayFrame d f l).pipe d).trained then (s.relayFrame d f l).wr (DS_STAT.STATE d) 3 else s.relayFrame d f l) :=
  congrArg Host.Outcome.next (if_pos ⟨hm, hr, hf⟩)

/-- A pipe that showed relay input shows DS_MUTE when it stops (R225). -/
theorem exec_relayInputStop_shown (hm : s.dsMode d = 4) (hst : s.rd (DS_STAT.STATE d) = 3) : exec (.relayInputStop d) s =
    .next (((s.modPipe d fun x => { x with format := x.format.map fun f => { f with mute := true } }).wr (DS_STAT.STATE d) 4).raise (Ev.DS_DP_LOSS d)) :=
  congrArg Host.Outcome.next ((if_pos hm).trans (congrArg (State.raise · (Ev.DS_DP_LOSS d)) (if_pos hst)))

end

/-! ### The frame memory is ready -/

theorem State.each_fixed {s : State} {f : Nat → State → State} : ∀ {n : Nat}, (∀ i < n, f i s = s) → s.each n f = s
  | 0, _ => rfl
  | n + 1, h => by
    have ih := State.each_fixed (n := n) fun i hi => h i (Nat.lt_succ_of_lt hi)
    rw [State.each] at ih
    rw [State.each, List.range_succ, List.foldl_append, ih]
    exact h n n.lt_succ_self

theorem dsRegs_ne_mcStat {d : Nat} (hd : d < 4) : DS_CFG d ≠ MC_STAT ∧ DS_STAT d ≠ MC_STAT := by
  unfold DS_CFG DS_STAT MC_STAT
  omega

/-- The frame memory is in service: its failed channels shown, READY up (R229). -/
def State.memoryReady (s : State) (bad : Nat) : State := (s.wr MC_STAT.CH_FAIL bad).wr MC_STAT.READY 1

section
variable {s : State} {n : Fin 16}

theorem exec_mcReady_failed (h : Nat.land n.val (s.rd MC_CFG.CH_EN) ≠ 0) :
    exec (.mcReady n) s = .next (s.wr MC_STAT.CH_FAIL (Nat.land n.val (s.rd MC_CFG.CH_EN))) :=
  congrArg Host.Outcome.next (if_pos (.inl h))

theorem State.rd_memoryReady {f : Fld} (b : Nat) (h : f.addr ≠ MC_STAT) : (s.memoryReady b).rd f = s.rd f :=
  (State.rd_wr_ne _ _ _ _ (.inl h)).trans (State.rd_wr_ne _ _ _ _ (.inl h))

/-- Pipes that are off and not muted stay as they are when READY rises (R229). -/
theorem exec_mcReady_off (h : Nat.land n.val (s.rd MC_CFG.CH_EN) = 0) (hr : s.mcReady = false)
    (hoff : ∀ d < 4, s.dsMode d = 0 ∧ s.rd (DS_STAT.STATE d) ≠ 4) : exec (.mcReady n) s = .next (s.memoryReady 0) := by
  have hready : (s.wr MC_STAT.CH_FAIL 0).mcReady = false := by
    rw [State.mcReady, State.on, State.rd_wr_ne _ _ _ _ (.inr (.inl (by decide)))]
    exact hr
  show execMcReady n s = _
  rw [execMcReady, h]
  refine congrArg Host.Outcome.next ((if_neg (by rw [hready]; decide)).trans (State.each_fixed fun d hd => ?_))
  obtain ⟨hmode, hstate⟩ := hoff d hd
  obtain ⟨hcfg, hstat⟩ := dsRegs_ne_mcStat hd
  have hmode' : (s.memoryReady 0).dsMode d = 0 := (State.rd_memoryReady 0 hcfg).trans hmode
  have hstate' : (s.memoryReady 0).rd (DS_STAT.STATE d) ≠ 4 := ne_of_eq_of_ne (State.rd_memoryReady 0 hstat) hstate
  rw [State.memoryReady] at hmode' hstate'
  simp only [hstate', if_false, hmode']

end

/-- Settles O48, clause by clause: frame starts (on a pair's even pipe alone, assumption row 32), blanks, underruns, the panel's link (self-test is assumption
row 165), relay input (a format the hub does not take is row 154), sessions, the frame memory. -/
theorem scanOutLinksAndFrameMemory : Obligations.ScanOutLinksAndFrameMemory := by
  refine ⟨fun s d h => congrArg Host.Outcome.next (State.scanFrame_odd h),
    fun s d ho hp h2 => congrArg Host.Outcome.next (State.scanFrame_single ho hp (State.scanPipe_untrained h2)), fun s d ho hp h2 hm => ?frameStart,
    fun s d n hm ho => ?blank, fun s d h => exec_stretchEnd_noBlank h, fun s d n h => exec_stretchEnd_stretched h,
    fun s d y x => ⟨fun h => congrArg Host.Outcome.next (if_pos h), fun h => congrArg Host.Outcome.next (if_neg h)⟩,
    fun s d hm => ⟨congrArg Host.Outcome.next (if_pos hm), fun e => ⟨exec_hpdReturn_known hm rfl, exec_hpdReturn_other hm rfl⟩⟩,
    fun s d r l m k n h => congrArg Host.Outcome.next (if_pos h), fun s d r l m k n ht hm => ?trained,
    fun s d f l h => exec_relayInputFrame_ignored h, fun s d f l hm hr hf => ?relay, fun s d hm hst => exec_relayInputStop_shown hm hst,
    fun s d a b c x y z l h => congrArg Host.Outcome.next (if_pos (State.not_on h)),
    fun s d b x y z l h => congrArg Host.Outcome.next ((if_neg (State.not_not_on h)).trans (if_pos rfl)),
    fun s n h => exec_mcReady_failed h, fun s n h hr hoff => exec_mcReady_off h hr hoff⟩
  case frameStart =>
    have hstart {t : State} (ht : s.scanPipe d = t) : exec (.scanoutFrameStart d) s = .next (t.modPipe d fun y => { y with muteFrame := false }) :=
      congrArg Host.Outcome.next (State.scanFrame_single ho hp ht)
    refine ⟨fun hd hc => hstart (State.scanPipe_quiet h2 hm hd hc), fun hd hc hsig => hstart (State.scanPipe_moving h2 hm rfl hd hc hsig),
      fun hd hc hsig hk => hstart ?_⟩
    rw [State.pairBase_freeze]
    exact State.scanPipe_frozen h2 hm rfl hd hc hsig hk
  case blank =>
    obtain ⟨hcommit, hnone⟩ := State.vblank_runs (lines := n) hm ho rfl
    exact ⟨fun c hc => congrArg Host.Outcome.next (hcommit c hc), fun hc hoff => congrArg Host.Outcome.next ((hnone hc).trans (State.stretch_off hoff)),
      fun hc hm3 he ha hn hlow => congrArg Host.Outcome.next ((hnone hc).trans (State.stretch_begins hm3 he ha hn hlow))⟩
  case trained =>
    have htrains : exec (.dpLinkTrained d r l m k n) s = .next (s.dpTrained d r l m k n) := congrArg Host.Outcome.next (if_neg (ne_true_of_eq_false ht))
    exact ⟨fun h => htrains.trans (congrArg Host.Outcome.next (State.dpTrained_unfit hm rfl h)),
      fun b h => htrains.trans (congrArg Host.Outcome.next (State.dpTrained_fits hm rfl h rfl))⟩
  case relay =>
    have htaken := exec_relayInputFrame_taken (l := l) hm hr hf
    exact ⟨fun ht => htaken.trans (congrArg Host.Outcome.next (if_neg (ne_true_of_eq_false ht))),
      fun ht => htaken.trans (congrArg Host.Outcome.next (if_pos ht))⟩

end Sys2Proof.Machine
end

section
/-!
Proofs of the statements of 09_storage_and_sideband_bridges: what passes between the native link of a PCIe bridge and the tunnel, the state and the resets
of that link, the register bus and its confirms, and the groups of the sideband mirror.
-/

namespace Sys2Proof.Machine

/-! ### Places of a bridge record -/

/-- KIND of a bridge record reads back (R235). -/
theorem kind_pbRecord {k w : Nat} (t : List Byte) (hk : k < 16) (hw : w < 16) : byteAt (pbRecord k w t) 0 / 16 = k := by
  simp only [byteAt, pbRecord, List.cons_append, List.getD_cons_zero, BitVec.toNat_ofNat]
  omega

theorem body_pbRecord (k w : Nat) (t : List Byte) : (pbRecord k w t).drop 4 = t := rfl

/-! ### The kinds of TLP, by the type of the header (R230; assumption row 7) -/

theorem tlpType_of_memWrite {t : List Byte} (h : tlpIsMemWrite t = true) : tlpType t = 0 := of_decide_eq_true ((Bool.and_eq_true_iff ..).mp h).1

theorem tlpNonPosted_of_memWrite {t : List Byte} (h : tlpIsMemWrite t = true) : tlpNonPosted t = false := by
  simp only [tlpNonPosted, h, Bool.not_true, Bool.and_false]

theorem tlpNonPosted_of_cpl {t : List Byte} (h : tlpIsCpl t = true) : tlpNonPosted t = false := by
  simp only [tlpNonPosted, h, Bool.not_true, Bool.false_and]

theorem tlpIsCpl_of_memWrite {t : List Byte} (h : tlpIsMemWrite t = true) : tlpIsCpl t = false := by
  simp [tlpIsCpl, tlpType_of_memWrite h]

theorem tlpIsMem_of_memWrite {t : List Byte} (h : tlpIsMemWrite t = true) : tlpIsMem t = true := by
  simp [tlpIsMem, tlpType_of_memWrite h]

/-! ### PCIe adapters -/

theorem State.isPcie_vdsp {s : State} {a : Nat} (h : s.adpType a = 4) : s.isPcie a = true := decide_eq_true (.inl h)

theorem State.isPcie_root {s : State} {a : Nat} (h : s.adpType a = 5) : s.isPcie a = true := decide_eq_true (.inr h)

/-! ### From the native link into the tunnel (R233, R238, R239) -/

section
variable {s : State} {a : Nat} {t : List Byte}

theorem State.fromNative_closed (h : s.tunnelOpen a = false) : s.fromNative a t false = s.refuseTlp a t :=
  if_pos (.inl (ne_true_of_eq_false h))

theorem State.refuseTlp_nonPosted (h : tlpNonPosted t = true) : s.refuseTlp a t = s.send (.bus 0 (s.bridgeOf a) 0 (tlpCpl 1 (tlpTag t))) :=
  if_pos h

theorem State.refuseTlp_posted (h : tlpNonPosted t = false) : s.refuseTlp a t = s := if_neg (ne_true_of_eq_false h)

section
variable (hr : s.adpType a = 5) (ho : s.tunnelOpen a = true)
include hr ho

/-- The open tunnel of a ROOT bridge refuses no TLP (R233). -/
theorem State.root_takes : ¬ (¬ s.tunnelOpen a = true ∨ (s.adpType a = 4 ∧ ¬ (s.vdsp a).up = true ∧ ¬ tlpIsCpl t = true)) := by
  simp [hr, ho]

/-- Without credit the link partner keeps the TLP (R237). -/
theorem State.fromNative_noCredit (hc : s.pcieCredit a = 0) : s.fromNative a t false = s :=
  (if_neg (State.root_takes hr ho)).trans (if_pos hc)

section
variable (hc : 0 < s.pcieCredit a)
include hc

theorem State.fromNative_unwindowed (h : tlpIsMemWrite t = false) : s.fromNative a t false = s.present a (pbRecord 0 15 t) := by
  refine (if_neg (State.root_takes hr ho)).trans ((if_neg hc.ne').trans ?_)
  simp only [Bool.false_eq_true, if_false, h]
  rfl

theorem State.fromNative_window {w : Nat} (h : tlpIsMemWrite t = true) (hw : s.pbWindow (s.bridgeOf a) (tlpAddr t) = some w) :
    s.fromNative a t false = s.present a (pbRecord 0 w t) (s.on (PB_WIN_CTL.CONF (s.bridgeOf a) w)) := by
  refine (if_neg (State.root_takes hr ho)).trans ((if_neg hc.ne').trans ?_)
  simp only [Bool.false_eq_true, if_false, h, if_true, hw]
  rfl

end
end
end

section
variable {s t : State} {a : Fin 256} {u : List Byte} {k : Bool}

/-- A unit given to a PCIe adapter is a TLP of its native link; the adapter then dispatches its oldest unit (R517). -/
theorem exec_nativeUnitDispatch_pcie (hp : s.isPcie a = true) (h : s.fromNative a u k = t) :
    exec (.nativeUnitDispatch a (some u) k) s = .next (t.dispatch a) :=
  congrArg (fun v : State => Host.Outcome.next (v.dispatch a)) ((if_pos hp).trans h)

theorem exec_nativeUnitDispatch_local (hp : s.isPcie a = false) :
    exec (.nativeUnitDispatch a (some u) k) s = .next ((s.present a u).dispatch a) :=
  congrArg (fun v : State => Host.Outcome.next (v.dispatch a)) (if_neg (ne_true_of_eq_false hp))

end

/-! ### From the tunnel to the native link (R234, R240, R242) -/

section
variable {s : State} {a : Nat} {t : List Byte}

@[simp] theorem State.out_requestDone (s : State) (a tag : Nat) : (s.requestDone a tag).out = s.out := rfl
@[simp] theorem State.regs_requestDone (s : State) (a tag : Nat) : (s.requestDone a tag).regs = s.regs := rfl

/-- A completed request leaves what waits for Acks and for completions of the native link. -/
theorem State.waits_requestDone (s : State) (a tag : Nat) :
    ((s.requestDone a tag).adp a).acks = (s.adp a).acks ∧ ((s.requestDone a tag).adp a).owed = (s.adp a).owed := by
  simp only [State.requestDone, State.adp_modAdp, and_self]

/-- A TLP on the native link, noted where it needs an Ack or a completion. -/
def State.forwardTlp (s : State) (a : Nat) (t : List Byte) (seq : Nat) (ackreq : Bool) : State :=
  (s.nativeTlp a t).modAdp a fun x => { x with
    owed := if tlpNonPosted t then x.owed ++ [t] else x.owed, acks := if ackreq then x.acks ++ [seq] else x.acks }

theorem State.adp_forwardTlp (s : State) (a : Nat) (t : List Byte) (seq : Nat) (k : Bool) : (s.forwardTlp a t seq k).adp a = { s.adp a with
    owed := if tlpNonPosted t then (s.adp a).owed ++ [t] else (s.adp a).owed, acks := if k then (s.adp a).acks ++ [seq] else (s.adp a).acks } :=
  State.adp_modAdp ..

theorem State.toNative_up (q : Nat) (k : Bool) (h : s.rd (PB_STAT.LINK_UP (s.bridgeOf a)) ≠ 0) : s.toNative a t q k =
    if tlpIsCpl t && cplFinal t then (s.forwardTlp a t q k).requestDone a (cplTag t) else s.forwardTlp a t q k :=
  if_pos ((s.on_iff_rd_ne_zero _).mpr h)

section
variable {q : Nat} (h : s.rd (PB_STAT.LINK_UP (s.bridgeOf a)) = 0)
include h

theorem State.toNative_down_confirmed : s.toNative a t q true = s.sendConfirm a q 0xA := (if_neg (State.not_on h)).trans (if_pos rfl)

theorem State.toNative_down_unconfirmed : s.toNative a t q false =
    if tlpNonPosted t then s.present a (pbRecord 0 15 (tlpCpl 1 (tlpTag t)))
    else if tlpIsCpl t then s
    else s.sendPbError a 3 0 q (if tlpIsMem t then tlpAddr t else 0) := (if_neg (State.not_on h)).trans (if_neg Bool.false_ne_true)

theorem State.toNative_down_nonPosted (hn : tlpNonPosted t = true) :
    s.toNative a t q false = s.present a (pbRecord 0 15 (tlpCpl 1 (tlpTag t))) := (State.toNative_down_unconfirmed h).trans (if_pos hn)

theorem State.toNative_down_cpl (hc : tlpIsCpl t = true) : s.toNative a t q false = s := by
  simp only [State.toNative_down_unconfirmed h, tlpNonPosted_of_cpl hc, hc, Bool.false_eq_true, if_false, if_true]

/-- A posted write that finds the link down is reported to the far bridge with cause 3 (R242). -/
theorem State.toNative_down_write (hw : tlpIsMemWrite t = true) : s.toNative a t q false = s.sendPbError a 3 0 q (tlpAddr t) := by
  simp only [State.toNative_down_unconfirmed h, tlpNonPosted_of_memWrite hw, tlpIsCpl_of_memWrite hw, tlpIsMem_of_memWrite hw, Bool.false_eq_true,
    if_false, if_true]

end

/-! ### Between two vDSPs (R233) -/

section
variable {c q : Nat} (hn : tlpNonPosted t = true) (hc : tlpIsCpl t = false)
include hn hc

theorem State.toPeer_up (hu : (s.vdsp c).up = true) (ho : s.tunnelOpen c = true) : s.toPeer a c t q false =
    (s.modAdp c fun x => { x with p2p := x.p2p ++ [(tlpTag t, a)] }).present c (pbRecord 0 15 t) := by
  simp only [State.toPeer, hn, hc, hu, ho, Bool.false_and, Bool.false_eq_true, if_false, and_self, if_true]

theorem State.toPeer_down (hu : (s.vdsp c).up = false) : s.toPeer a c t q false = s.present a (pbRecord 0 15 (tlpCpl 1 (tlpTag t))) := by
  simp only [State.toPeer, hn, hc, hu, Bool.false_and, Bool.false_eq_true, if_false, false_and, if_true]

end

/-! ### Records by their KIND (R235) -/

section
variable {q : Nat} {k : Bool} (hp : s.isPcie a = true)
include hp

theorem State.tlpRecord_toNative : s.tlpRecord a (pbRecord 0 15 t) q k none = s.toNative a t q k := by
  simp only [State.tlpRecord, hp, not_true_eq_false, if_false, kind_pbRecord, body_pbRecord, Nat.reduceLT]

theorem State.tlpRecord_unknown {i : Nat} (hi : 4 ≤ i) (hi' : i < 16) :
    s.tlpRecord a (pbRecord i 0 t) q k none = s.raiseWith (Ev.PB_FAR_ERR (s.bridgeOf a)) true [] := by
  obtain ⟨j, rfl⟩ := Nat.exists_eq_add_of_le' hi
  simp only [State.tlpRecord, hp, not_true_eq_false, if_false, kind_pbRecord t hi' (Nat.zero_lt_succ 15)]

end

theorem State.tlpRecord_toPeer {c q : Nat} {k : Bool} (ha : s.adpType a = 4) (hc : s.adpType c = 4) (hne : c ≠ a) :
    s.tlpRecord a (pbRecord 0 15 t) q k (some c) = s.toPeer a c t q k := by
  simp only [State.tlpRecord, State.isPcie_vdsp ha, not_true_eq_false, if_false, kind_pbRecord, body_pbRecord, Nat.reduceLT]
  exact if_pos ⟨hne, ha, hc⟩

end

/-- Settles O37, clause by clause: TLPs of the native link (the ingress windows at a ROOT bridge), TLPs of the tunnel with the link up and down, those that
pass between two vDSPs (the vDSP a TLP's routing names is an operand, assumption row 20), other records. -/
theorem pcieUnitsCrossTheTunnel : Obligations.PcieUnitsCrossTheTunnel := by
  refine ⟨fun s a k => rfl, fun s a u k hp => exec_nativeUnitDispatch_local hp, fun s a u hp hcl => ?closed,
    fun s a u hr ho hc => exec_nativeUnitDispatch_pcie (State.isPcie_root hr) (State.fromNative_noCredit hr ho hc), fun s a u hr ho hc => ?credit,
    fun s a t q k hp hup => ?linkUp, fun s a t q hp hdown => ?linkDown, fun s a c t q ha hc hne hn hcpl => ?peer,
    fun s a k t q c hp hk hk' => congrArg Host.Outcome.next (State.tlpRecord_unknown hp hk hk'), fun s a c st q x hp => congrArg Host.Outcome.next (if_pos hp)⟩
  case closed =>
    have hrefused := State.fromNative_closed (t := u) hcl
    exact ⟨fun hn => exec_nativeUnitDispatch_pcie hp (hrefused.trans (State.refuseTlp_nonPosted hn)),
      fun hn => exec_nativeUnitDispatch_pcie hp (hrefused.trans (State.refuseTlp_posted hn))⟩
  case credit =>
    exact ⟨fun h => exec_nativeUnitDispatch_pcie (State.isPcie_root hr) (State.fromNative_unwindowed hr ho hc h),
      fun w h hw => exec_nativeUnitDispatch_pcie (State.isPcie_root hr) (State.fromNative_window hr ho hc h hw)⟩
  case linkUp =>
    refine ⟨_, congrArg Host.Outcome.next ((State.tlpRecord_toNative hp).trans (State.toNative_up q k hup)), ?_⟩
    have hadp := s.adp_forwardTlp a t q k
    split
    · obtain ⟨hacks, howed⟩ := (s.forwardTlp a t q k).waits_requestDone a (cplTag t)
      rw [hacks, howed, hadp]
      exact ⟨rfl, rfl, rfl, rfl⟩
    · rw [hadp]
      exact ⟨rfl, rfl, rfl, rfl⟩
  case linkDown =>
    have hnative {k : Bool} {u : State} (h : s.toNative a t q k = u) : exec (.tlpRecord a (pbRecord 0 15 t) q k none) s = .next u :=
      congrArg Host.Outcome.next ((State.tlpRecord_toNative hp).trans h)
    exact ⟨hnative (State.toNative_down_confirmed hdown), fun hn => hnative (State.toNative_down_nonPosted hdown hn),
      fun hc => hnative (State.toNative_down_cpl hdown hc), fun hw => hnative (State.toNative_down_write hdown hw)⟩
  case peer =>
    have hpeer := State.tlpRecord_toPeer (t := t) (q := q) (k := false) ha hc (Fin.val_ne_of_ne hne)
    exact ⟨fun hup ho => congrArg Host.Outcome.next (hpeer.trans (State.toPeer_up hn hcpl hup ho)),
      fun hdown => congrArg Host.Outcome.next (hpeer.trans (State.toPeer_down hn hcpl hdown))⟩

/-! ### Link state (R236) -/

section
variable {s : State} {a : Nat} {up : Bool} {sp w : Nat}

theorem State.linkState_notVdsp (h : s.adpType a ≠ 4) : s.linkState a up sp w = s := if_pos h

section
variable (h : s.adpType a = 4)
include h

theorem State.linkState_keepsUp (hup : (s.vdsp a).up = up) : s.linkState a up sp w = s.modVdsp a fun x => { x with up := up, speed := sp, width := w } :=
  (if_neg (not_not_intro h)).trans (if_pos hup)

/-- The vDSP of a link that falls shows presence and link change, and reports Surprise Down (R236). -/
theorem State.linkState_falls (hup : (s.vdsp a).up = true) : s.linkState a false sp w =
    (let u := (s.modVdsp a fun x => { x with up := false, speed := sp, width := w }).modVdsp a fun x =>
      { x with presence := true, linkChange := true, surprise := x.surprise || true }
     (u.raise (Ev.PB_SURPRISE_DOWN (u.bridgeOf a))).vdspMsi a) :=
  (if_neg (not_not_intro h)).trans ((if_neg (by rw [hup]; decide)).trans rfl)

end
end

section
variable {s : State} {b : Fin 2} {up : Bool} {sp : Fin 8} {w : Fin 16}

theorem State.sendLinkState_root {b : Nat} (h : s.pbMode b = 1) : s.sendLinkState b = s.eachIn (s.bridgeAdapters b) fun a t => t.present a
    (pbRecord 1 15 (be 1 (t.rd (PB_STAT.LINK_UP b)) ++ be 1 (t.rd (PB_STAT.SPEED b)) ++ be 1 (t.rd (PB_STAT.WIDTH b)) ++ be 1 0)) :=
  if_neg (not_not_intro h)

theorem State.pcieLinkChange_off {b sp w : Nat} (h : s.rd (PB_CFG.MODE b) = 0) : s.pcieLinkChange b up sp w = s := if_pos (.inl h)

/-- The native link of bridge P0 comes up: its state is shown and told to the tunnels (R236). -/
theorem State.pcieLinkChange_up {sp w : Nat} (h : s.rd (PB_CFG.MODE 0) ≠ 0) : s.pcieLinkChange 0 true sp w =
    (((s.wr (PB_STAT.LINK_UP 0) 1).wr (PB_STAT.SPEED 0) sp).wr (PB_STAT.WIDTH 0) w).sendLinkState 0 := by
  have hrun : ¬ (s.rd (PB_CFG.MODE 0) = 0 ∨ ((0 : Nat) = 1 ∧ s.pbMode 0 = 3)) := by simp [h]
  refine (if_neg hrun).trans ?_
  simp only [Bool.not_true, Bool.and_false, Bool.false_eq_true, if_false, if_true, Bool.toNat_true]

/-- A link change of a bridge in mode OFF is lost, under self-test as well (R230, R450). -/
theorem exec_pcieLinkChange_off (h : s.rd (PB_CFG.MODE b) = 0) : exec (.pcieLinkChange b up sp w) s = .next s :=
  congrArg Host.Outcome.next ((congrArg (ite _ s) (State.pcieLinkChange_off h)).trans (ite_self s))

end

/-! ### Resets (R234 to R236) -/

section
variable {s : State} {a : Nat}

theorem State.resetRecord_notRoot {k : Nat} (h : s.adpType a ≠ 5) : s.resetRecord a k = s := if_pos h

section
variable (h : s.adpType a = 5)
include h

theorem State.resetRecord_hot : s.resetRecord a 0 = s.send (.bus 0 (s.bridgeOf a) 3 []) := (if_neg (not_not_intro h)).trans (if_pos rfl)

theorem State.resetRecord_assert : s.resetRecord a 1 =
    (s.modBrg fun x => { x with perst := x.perst.filter (· ≠ s.bridgeOf a) }).send (.pin 3 (s.bridgeOf a) 0) :=
  (if_neg (not_not_intro h)).trans ((if_neg (by decide)).trans (if_pos rfl))

theorem State.resetRecord_release : s.resetRecord a 2 =
    (s.modBrg fun x => { x with perst := x.perst.filter (· ≠ s.bridgeOf a) ++ [s.bridgeOf a] }).send (.pin 3 (s.bridgeOf a) 1) :=
  (if_neg (not_not_intro h)).trans ((if_neg (by decide)).trans ((if_neg (by decide)).trans (if_pos rfl)))

end
end

section
variable {s : State} {a : Fin 256} (h : s.adpType a = 4)
include h

theorem exec_powerControllerControl_off : exec (.powerControllerControl a true) s =
    .next ((s.modVdsp a fun v => { v with powerOff := true }).present a (pbRecord 2 15 (be 1 1 ++ be 3 0))) :=
  congrArg Host.Outcome.next (if_pos h)

theorem exec_powerControllerControl_on : exec (.powerControllerControl a false) s =
    .next ((s.modVdsp a fun v => { v with powerOff := false }).present a (pbRecord 2 15 (be 1 2 ++ be 3 0))) :=
  congrArg Host.Outcome.next (if_pos h)

end

/-! ### Acks and completions (R240, R242) -/

section
variable {s : State} {a : Fin 256} {q : Fin 65536}

theorem exec_pcieAck_waiting (h : (s.adp a).acks.contains q.val = true) :
    exec (.pcieAck a q) s = .next ((s.modAdp a fun x => { x with acks := x.acks.erase q.val }).sendConfirm a q 0) :=
  congrArg Host.Outcome.next (if_pos h)

theorem exec_pcieAck_unknown (h : (s.adp a).acks.contains q.val = false) : exec (.pcieAck a q) s = .next s :=
  congrArg Host.Outcome.next (if_neg (ne_true_of_eq_false h))

end

section
variable {s : State} {a : Nat}

@[simp] theorem State.bridgeOf_present (s : State) (a c : Nat) (l : List Byte) (k : Bool) : (s.present c l k).bridgeOf a = s.bridgeOf a := by
  unfold State.present
  split <;> rfl

@[simp] theorem State.bridgeOf_answerRequest (s : State) (a status tag : Nat) : (s.answerRequest a status tag).bridgeOf a = s.bridgeOf a := by
  unfold State.answerRequest
  split
  · exact State.bridgeOf_present ..
  · rfl

theorem State.cplTimeout_none (h : (s.adp a).open_ = []) : s.cplTimeout a = s := by
  simp only [State.cplTimeout, h]

/-- The oldest request is gone and answered CA where it came from; the bridge named in the event is that of the adapter still (R242). -/
theorem State.cplTimeout_oldest {r : List Byte} {rest : List (List Byte)} (h : (s.adp a).open_ = r :: rest) : s.cplTimeout a =
    (let w := (s.modAdp a fun x => { x with open_ := rest }).answerRequest a 4 (tlpTag r)
     ((w.raise (Ev.PB_CPL_TMO (w.bridgeOf a))).modAdp a fun x => { x with p2p := x.p2p.filter fun y => decide (y.1 ≠ tlpTag r) }).pbOwnError
       a 5 4 0 (if tlpIsMem r then tlpAddr r else 0) (r.take (tlpHdr r)) true) := by
  simp only [State.cplTimeout, h, State.bridgeOf_answerRequest]

section
variable {tag : Nat} (st : Nat)

/-- A request of another vDSP is answered into that one's tunnel, the host's own on the native link (R233, R242). -/
theorem State.answerRequest_peer {x : Nat × Nat} (h : ((s.adp a).p2p.find? fun r => decide (r.1 = tag)) = some x) :
    s.answerRequest a st tag = s.present x.2 (pbRecord 0 15 (tlpCpl st tag)) := by
  simp only [State.answerRequest, h]

theorem State.answerRequest_native (h : ((s.adp a).p2p.find? fun r => decide (r.1 = tag)) = none) :
    s.answerRequest a st tag = s.send (.bus 0 (s.bridgeOf a) 0 (tlpCpl st tag)) := by
  simp only [State.answerRequest, h]
  rfl

end
end

/-- Settles O38, clause by clause: link state of the vDSP and of the native link, resets, Acks, completion time-outs. -/
theorem pcieLinkStateAndResets : Obligations.PcieLinkStateAndResets := by
  refine ⟨fun s a up sp w h => congrArg Host.Outcome.next (State.linkState_notVdsp h),
    fun s a sp w h => congrArg Host.Outcome.next (State.linkState_keepsUp h rfl), fun s a sp w h hup => congrArg Host.Outcome.next (State.linkState_falls h hup),
    fun s b h => congrArg Host.Outcome.next (if_pos h), fun s b h => congrArg Host.Outcome.next (State.sendLinkState_root h),
    fun s b up sp w h => exec_pcieLinkChange_off h, fun s sp w h hu => ?linkUp,
    fun s a h => ⟨congrArg Host.Outcome.next (State.resetRecord_hot h), congrArg Host.Outcome.next (State.resetRecord_assert h),
      congrArg Host.Outcome.next (State.resetRecord_release h)⟩,
    fun s a k h => congrArg Host.Outcome.next (State.resetRecord_notRoot h), fun s b h => congrArg Host.Outcome.next (if_pos h),
    fun s a h => ⟨exec_powerControllerControl_off h, exec_powerControllerControl_on h, congrArg Host.Outcome.next (if_pos h)⟩,
    fun s a q h => exec_pcieAck_waiting h, fun s a q h => exec_pcieAck_unknown h, fun s a h => congrArg Host.Outcome.next (State.cplTimeout_none h),
    fun s a r rest h => ?cplTimeout⟩
  case linkUp => exact congrArg Host.Outcome.next ((if_neg (ne_true_of_eq_false hu)).trans (State.pcieLinkChange_up h))
  case cplTimeout =>
    refine congrArg Host.Outcome.next ((State.cplTimeout_oldest h).trans ?_)
    have hp2p : ((s.modAdp a fun x => { x with open_ := rest }).adp a).p2p = (s.adp a).p2p := by rw [State.adp_modAdp]
    cases hf : (s.adp a).p2p.find? fun x => decide (x.1 = tlpTag r) with
    | none => rw [State.answerRequest_native 4 (by rw [hp2p, hf])]
    | some x => rw [State.answerRequest_peer 4 (by rw [hp2p, hf])]

/-! ### Register bus: requests at the target bridge (R244, R245) -/

section
variable {s : State} {r : RbReq}

/-- The answer to a refused or failed read carries no data (R245). -/
theorem State.rbAnswer_read {st : Nat} (d : List Byte) (h : r.read = true) : s.rbAnswer r st d =
    s.present r.adp (be 1 0x81 ++ be 1 r.tag ++ be 1 r.size ++ be 1 st ++ be 4 0 ++ (if st = 0 then d.take r.size else [])) := if_pos h

theorem State.rbAnswer_confirmed {st : Nat} (d : List Byte) (h : r.read = false) (hc : r.conf.isSome = true) :
    s.rbAnswer r st d = s.sendConfirm r.adp r.seq st := (if_neg (ne_true_of_eq_false h)).trans (if_pos hc)

/-- A write that asked for no CONFIRM is answered where it failed alone (R246). -/
theorem State.rbAnswer_posted {st : Nat} (d : List Byte) (h : r.read = false) (hc : r.conf = none) (hst : st ≠ 0) : s.rbAnswer r st d =
    s.present r.adp (be 1 0x83 ++ be 1 r.tag ++ be 1 0 ++ be 1 st ++ be 4 r.addr) :=
  (if_neg (ne_true_of_eq_false h)).trans ((if_neg (by rw [hc]; decide)).trans (if_neg hst))

theorem State.i2cQueue_first (h : s.brg.i2c = []) : s.i2cQueue r = (s.modBrg fun b => { b with i2c := b.i2c ++ [r] }).i2cStart r :=
  if_pos (by rw [h]; rfl)

theorem State.i2cDone_idle (st : Nat) (d : List Byte) (h : s.brg.i2c = []) : s.i2cDone st d = s := by
  simp only [State.i2cDone, h]

/-- The only request of the queue, a read for a peer, ends and is answered; no other starts (R244, R245). -/
theorem State.i2cDone_peerRead (d : List Byte) (h : s.brg.i2c = [r]) (hm : r.mine = false) (hr : r.read = true) : s.i2cDone 0 d =
    ((s.modBrg fun b => { b with i2c := [] }).wr SB_RB_STAT.BUSY 0).present r.adp
      (be 1 0x81 ++ be 1 r.tag ++ be 1 r.size ++ be 1 0 ++ be 4 0 ++ d.take r.size) := by
  simp only [State.i2cDone, h, hm, Bool.false_eq_true, if_false, State.rbAnswer_read d hr, if_true]

end

/-- The request that a READ record makes (R245). -/
def readRequest (a tag sz : Fin 256) (x : BitVec 32) : RbReq :=
  { adp := a, tag := tag, read := true, size := sz, addr := x.toNat, data := [], mine := false }

/-- The request that a WRITE record makes (R245, R246). -/
def writeRequest (a tag : Fin 256) (x : BitVec 32) (d : List Byte) (q : Fin 65536) (k : Bool) : RbReq :=
  { adp := a, tag := tag, read := false, size := d.length, addr := x.toNat, data := d, mine := false, conf := if k then some 15 else none, seq := q }

section
variable {s : State} {a tag : Fin 256} {x : BitVec 32} (h : s.adpType a = 10)
include h

/-- READ_RECORD and WRITE_RECORD queue a request in range, and refuse another with status 3 (R245). -/
theorem exec_readRecord (sz : Fin 256) : exec (.readRecord a tag sz x) s =
    .next (if rbValid sz x.toNat then s.i2cQueue (readRequest a tag sz x) else s.rbAnswer (readRequest a tag sz x) 3 []) :=
  congrArg Host.Outcome.next (if_neg (not_not_intro h))

theorem exec_writeRecord (d : List Byte) (q : Fin 65536) (k : Bool) : exec (.writeRecord a tag x d q k) s =
    .next (if rbValid d.length x.toNat then s.i2cQueue (writeRequest a tag x d q k) else s.rbAnswer (writeRequest a tag x d q k) 3 []) :=
  congrArg Host.Outcome.next (if_neg (not_not_intro h))

theorem exec_writeRecord_refused {d : List Byte} (q : Fin 65536) {k : Bool} (hv : rbValid d.length x.toNat = false) :
    exec (.writeRecord a tag x d q k) s = .next (s.rbAnswer (writeRequest a tag x d q k) 3 []) :=
  (exec_writeRecord h d q k).trans (congrArg Host.Outcome.next (if_neg (ne_true_of_eq_false hv)))

end

/-! ### Register bus: what ends a request of this hub (R245, R246) -/

section
variable {s : State} {r : RbReq}

theorem State.readResp_late {a tag : Nat} (st : Nat) (d : List Byte) (h : s.rbFind a tag = none) : s.readResp a tag st d = s := by
  simp only [State.readResp, h]

theorem State.readResp_read {a tag : Nat} (st : Nat) (d : List Byte) (h : s.rbFind a tag = some r) (hr : r.read = true) : s.readResp a tag st d =
    (s.setRbOut (s.brg.rbOut.erase r)).rbFinish r stOk st (d.take r.size) := by
  simp only [State.readResp, h, hr, if_true]

section
variable {tag : Nat}

theorem State.rbReadTimeout_none (h : (s.brg.rbOut.find? fun r => decide (r.tag = tag)) = none) : s.rbReadTimeout tag = s := by
  simp only [State.rbReadTimeout, h]

theorem State.rbReadTimeout_read (h : (s.brg.rbOut.find? fun r => decide (r.tag = tag)) = some r) (hr : r.read = true) : s.rbReadTimeout tag =
    ((s.setRbOut (s.brg.rbOut.erase r)).raise Ev.SB_RB_TMO).rbFinish r stTimeout stTimeout [] := by
  simp only [State.rbReadTimeout, h, hr, if_true]

end
end

/-! ### The hold of a confirmed write (R241) -/

section
variable {s : State} {a : Nat}

section
variable (h : (s.adp a).conf = none)
include h

theorem State.confirm_unheld (q st : Nat) : s.confirm a q st = s := by
  simp only [State.confirm, h]

theorem State.confirmTimeout_unheld : s.confirmTimeout a = s := by
  simp only [State.confirmTimeout, h]

end

section
variable {w n : Nat} {l : List Byte} (h : (s.adp a).conf = some (w, n, l))
include h

theorem State.confirm_held (st : Nat) : s.confirm a n st = s.confirmed a w n l st stOk := by
  simp only [State.confirm, h, if_true]

/-- A CONFIRM for another SEQ than the held one is discarded (R107, R241). -/
theorem State.confirm_other {q : Nat} (st : Nat) (hn : n ≠ q) : s.confirm a q st = s := by
  simp only [State.confirm, h, hn, if_false]

theorem State.confirmTimeout_held : s.confirmTimeout a = s.confirmed a w n l stTimeout stTimeout := by
  simp only [State.confirmTimeout, h]

end

/-- The hold of adapter `a` ends. -/
def State.endHold (s : State) (a : Nat) : State := s.modAdp a fun x => { x with conf := none }

section
variable {w q cst : Nat} {l : List Byte} (h : s.adpType a ≠ 10)
include h

theorem State.confirmed_ok : s.confirmed a w q l 0 cst = (s.endHold a).satAdd (PB_WIN_CNT.CONFIRMED ((s.endHold a).bridgeOf a) w) 1 :=
  (if_neg h).trans (if_pos rfl)

/-- A write that failed is counted, reported by the event and as cause 4, with its address and header (R241, R242). -/
theorem State.confirmed_failed {st : Nat} (hst : st ≠ 0) : s.confirmed a w q l st cst =
    (let u := s.endHold a
     ((u.satAdd (PB_WIN_CNT.FAILED (u.bridgeOf a) w) 1).raise (Ev.PB_CONF_FAIL (u.bridgeOf a))).pbOwnError a 4 st q (tlpAddr (l.drop 4))
      ((l.drop 4).take (tlpHdr (l.drop 4)))) :=
  (if_neg h).trans (if_neg hst)

end
end

/-- Settles O39, clause by clause: requests at the target bridge, what ends a request of this hub, the hold of a confirmed write of a PCIe bridge. -/
theorem registerBusAndConfirms : Obligations.RegisterBusAndConfirms := by
  refine ⟨fun s a tag sz x h => ?readRecord,
    fun s a tag x d q k h hv => ⟨writeRequest a tag x d q k, rfl, rfl, rfl, rfl, rfl, rfl, by cases k <;> rfl,
      (exec_writeRecord h d q k).trans (congrArg Host.Outcome.next (if_pos hv))⟩,
    fun s a tag x d q h hv => ?refusedWrite, fun s r h => State.i2cQueue_first h, fun s st d h => congrArg Host.Outcome.next (State.i2cDone_idle st d h),
    fun s r d h hm hr => congrArg Host.Outcome.next (State.i2cDone_peerRead d h hm hr),
    fun s a tag st d h => congrArg Host.Outcome.next (State.readResp_late st d h),
    fun s a tag st d r h hr => congrArg Host.Outcome.next (State.readResp_read st d h hr),
    fun s tag r h hr => congrArg Host.Outcome.next (State.rbReadTimeout_read h hr), fun s tag h => congrArg Host.Outcome.next (State.rbReadTimeout_none h),
    fun s a tag st x h => congrArg Host.Outcome.next (if_pos h),
    fun s a q st h => ⟨congrArg Host.Outcome.next (State.confirm_unheld h q st), congrArg Host.Outcome.next (State.confirmTimeout_unheld h)⟩,
    fun s a w n l q st h hn => congrArg Host.Outcome.next (State.confirm_other h st hn), fun s a w l q h ht => ?held⟩
  case readRecord =>
    exact ⟨fun hv => (exec_readRecord h sz).trans (congrArg Host.Outcome.next (if_pos hv)),
      fun hv => (exec_readRecord h sz).trans (congrArg Host.Outcome.next ((if_neg (ne_true_of_eq_false hv)).trans (State.rbAnswer_read [] rfl)))⟩
  case refusedWrite =>
    exact ⟨(exec_writeRecord_refused h q hv).trans (congrArg Host.Outcome.next (State.rbAnswer_confirmed [] rfl rfl)),
      (exec_writeRecord_refused h q hv).trans (congrArg Host.Outcome.next (State.rbAnswer_posted [] rfl rfl (by decide)))⟩
  case held =>
    exact ⟨congrArg Host.Outcome.next ((State.confirm_held h 0).trans (State.confirmed_ok ht)),
      congrArg Host.Outcome.next ((State.confirmTimeout_held h).trans (State.confirmed_failed ht (by decide)))⟩

/-! ### Sideband inputs and updates (R247 to R249) -/

section
variable {s : State} {n : Fin 32} {v : Bool}

/-- An input's level changes: its bit follows and its edge counts (R247). -/
def State.inputEdge (s : State) (n : Fin 32) (v : Bool) : State :=
  (s.wr (SB_IN.VALUE.bit n) v.toNat).modBrg fun b => { b with edges := Tab.put 0 b.edges n ((Tab.get 0 b.edges n + 1) % 16) }

theorem exec_signalAccept_new (hd : s.rd (SB_SIG.DIR n) = 1) (hv : s.on (SB_IN.VALUE.bit n) ≠ v) : exec (.signalAccept n v) s =
    .next ((s.inputEdge n v).modGroup ((s.inputEdge n v).rd (SB_SIG.GROUP n)) fun x =>
      { x with firstChange := some (x.firstChange.getD (s.inputEdge n v).time.stamp) }) :=
  congrArg Host.Outcome.next (if_pos ⟨hd, hv⟩)

theorem exec_signalAccept_old (h : s.rd (SB_SIG.DIR n) ≠ 1 ∨ s.on (SB_IN.VALUE.bit n) = v) : exec (.signalAccept n v) s = .next s :=
  congrArg Host.Outcome.next (if_neg fun ⟨hd, hv⟩ => h.elim (· hd) hv)

end

section
variable {s : State} {g : Nat}

theorem State.groupUpdate_noAdapter (h : s.rd (SB_GRP.ADP g) = 0) : s.groupUpdate g = s := if_pos (.inl h)

section
variable {t c : Nat} (ha : s.rd (SB_GRP.ADP g) ≠ 0) (ho : s.tunnelOpen (s.rd (SB_GRP.ADP g)) = true) (hs : s.adpSends (s.rd (SB_GRP.ADP g)) = true)
  (hv : s.groupValue g ≠ (s.group g).sentValue) (hc : (s.group g).firstChange = some c) (hf : (s.group g).farInterval = none)
  (hl : (s.group g).lastSend = some t)
include ha ho hs hv hc hf hl

/-- A group whose value changed sends when INTERVAL has passed since its last update, with the stamp of the first change (R248, R249). -/
theorem State.groupUpdate_changed : s.groupUpdate g = if t + s.rd (SB_GRP.INTERVAL g) * 10000 ≤ s.uptime then
    (s.accept (s.rd (SB_GRP.ADP g)) { bytes := updateRecord (s.groupValue g) (s.groupEdges g) (s.rd (SB_GRP.INTERVAL g)), ts := c }).modGroup g fun y =>
      { y with sentValue := s.groupValue g, sentEdges := s.groupEdges g, lastSend := some s.uptime, firstChange := none }
    else s := by
  have hgo : ¬ (s.rd (SB_GRP.ADP g) = 0 ∨ ¬ s.tunnelOpen (s.rd (SB_GRP.ADP g)) = true ∨ ¬ s.adpSends (s.rd (SB_GRP.ADP g)) = true) := by
    simp only [ha, ho, hs, not_true_eq_false, or_false, not_false_eq_true]
  simp only [State.groupUpdate, if_neg hgo, hl, hf, hc, ne_eq, hv, not_false_eq_true, true_or, decide_true, if_true, Option.getD_none, Option.getD_some,
    Nat.max_zero, decide_eq_true_eq]
  rfl

end

/-! ### Updates received (R250, R251) -/

theorem State.updateReceive_untimed (ts v : Nat) (e : List Nat) (i : Nat) (h : s.rd (SB_GRP.TIMED g) = 0) : s.updateReceive g ts v e i =
    (s.modGroup g fun y => { y with farInterval := some i }).applyUpdate g (fullStamp ts s.time) v e :=
  if_neg (State.not_on h)

/-- An update older than the last applied is not applied (R250). -/
theorem State.applyUpdate_older {t t' v' : Nat} {e' : List Nat} (v : Nat) (e : List Nat) (h : (s.group g).applied = some (t', v', e')) (ht : t < t') :
    s.applyUpdate g t v e = s := by
  simp only [State.applyUpdate, h, ht, decide_true, if_true]

end

section
variable {s : State} {g : Fin 8}

theorem exec_timedApply_none (h : (s.group g).waiting = []) : exec (.timedApply g) s = .next s := by
  show execTimedApply g s = _
  simp only [execTimedApply, h]

theorem exec_timedApply_first {x t v : Nat} {e : List Nat} {rest : List (Nat × Nat × Nat × List Nat)} (h : (s.group g).waiting = (x, t, v, e) :: rest) :
    exec (.timedApply g) s = .next ((s.modGroup g fun y => { y with waiting := rest }).applyUpdate g t v e) := by
  show execTimedApply g s = _
  simp only [execTimedApply, h]

end

/-- Settles O40, clause by clause: inputs, updates sent and received, timed application, staleness. -/
theorem sidebandGroups : Obligations.SidebandGroups := by
  refine ⟨fun s n v hd hv => ⟨s.inputEdge n v, rfl, exec_signalAccept_new hd hv⟩, fun s n v h => exec_signalAccept_old h,
    fun s g h => congrArg Host.Outcome.next (State.groupUpdate_noAdapter h), fun s g t c ha ho hs hv hc hf hl => ?update,
    fun s g ts v e i h => congrArg Host.Outcome.next (State.updateReceive_untimed _ _ _ _ h), fun s g t v e t' v' e' h ht => State.applyUpdate_older v e h ht,
    fun s g h => exec_timedApply_none h, fun s g x t v e rest h => exec_timedApply_first h, fun s g ha ho => congrArg Host.Outcome.next (if_pos ⟨ha, ho⟩),
    fun s g h => congrArg Host.Outcome.next (if_neg fun ⟨ha, _⟩ => ha h)⟩
  case update =>
    have hsends := State.groupUpdate_changed ha ho hs hv hc hf hl
    exact ⟨fun hdue => congrArg Host.Outcome.next (hsends.trans (if_pos hdue)),
      fun hwait => congrArg Host.Outcome.next (hsends.trans (if_neg (Nat.not_le.mpr hwait)))⟩

end Sys2Proof.Machine
end

section
/-!
Proofs of the statement of 09_storage_and_sideband_bridges: the commands of the diagnostics, time, display, domain and register groups. The body of an
admitted command reads back as the fields its row names, and the command of its opcode does with them what its group says.
-/

namespace Sys2Proof.Machine

/-! ### Entries of a body -/

theorem leAt_le_two (x : Fin 65536) (r : List Byte) : leAt (le 2 x ++ r) 0 2 = x := leAt_append [] r 2 x 0 rfl x.isLt

/-- Words read back behind the bytes in front of them (R444). -/
theorem words_read_back (l : List Word) : ∀ (p : List Byte) (a : Nat), p.length = a →
    ((List.range l.length).map fun i => leAt (p ++ l.flatMap wordLe) (a + 4 * i) 4) = l.map BitVec.toNat := by
  induction l with
  | nil => exact fun _ _ _ => rfl
  | cons w l ih =>
    intro p a hp
    have hhead := leAt_append_wordLe p (l.flatMap wordLe) w hp
    have hrest := ih (p ++ wordLe w) (a + 4) (by simp [hp])
    have hnext (i : Nat) : a + 4 * (i + 1) = a + 4 + 4 * i := by omega
    simp only [List.append_assoc] at hrest
    simp only [List.length_cons, List.range_succ_eq_map, List.map_cons, List.map_map, Function.comp_def, List.flatMap_cons, Nat.mul_zero, Nat.add_zero,
      Nat.succ_eq_add_one, hnext, hhead, hrest]

theorem addrEntries_body {l : List Word} (h : l.length < 65536) : addrEntries (addrBody l) = l.map BitVec.toNat := by
  have hcount : leAt (addrBody l) 0 2 = l.length := by
    rw [addrBody, List.append_assoc]
    exact leAt_le_two ⟨l.length, h⟩ _
  rw [addrEntries, hcount]
  exact words_read_back l (le 2 l.length ++ be 2 0) 4 (by simp)

theorem pairEntries_body {l : List (Word × Word)} (h : l.length < 65536) : pairEntries (pairBody l) = l.map fun z => (z.1.toNat, z.2.toNat) := by
  have hcount : leAt (pairBody l) 0 2 = l.length := by
    rw [pairBody, List.append_assoc]
    exact leAt_le_two ⟨l.length, h⟩ _
  rw [pairEntries, hcount]
  exact pairs_read_back l (le 2 l.length ++ be 2 0) 4 (by simp)

/-- The frame of an admitted command bounds its body, and so the entries in it (R424). -/
theorem State.admits_body_le {s : State} {o : Owner} {op q t c : Nat} {body : List Byte} (h : s.admits (cmdEntry o op q t c body)) :
    body.length ≤ 65536 := by
  obtain ⟨-, -, -, hfits, -⟩ := h
  have hlimit := rowLimit_le o
  have hframe : 16 + body.length ≤ rowLimit o := hfits
  omega

theorem addrBody_length (l : List Word) : (addrBody l).length = 4 + 4 * l.length := by
  simp only [addrBody, List.length_append, le_length, be_length, List.length_flatMap, wordLe_length, List.map_const', List.sum_replicate_nat]
  omega

theorem pairBody_length (l : List (Word × Word)) : (pairBody l).length = 4 + 8 * l.length := by
  simp only [pairBody, List.length_append, le_length, be_length, List.length_flatMap, wordLe_length, List.map_const', List.sum_replicate_nat]
  omega

section
variable {u v : State} {e : CmdEntry} {x y : Nat}

/-! ### Diagnostics group (R440) -/

/-- The index a LOG_READ from `i` answers with: behind the last entry it returns, or where the log begins (R440, R452). -/
def State.logNext (s : State) (l : List LogEntry) (i : Nat) : Nat :=
  match l.getLast? with
  | some x => x.index + 1
  | none => max i (s.rd BT_LOG_OLDEST.VALUE)

theorem State.cmdLogRead_from {i : Nat} (hi : leAt e.body 0 4 = i) : u.cmdLogRead e =
    (let next := u.logNext (u.logFrom e.body) i
     (if e.owner = .smbus then { u with cmd := { u.cmd with smbNext := max u.cmd.smbNext next } } else u).answer e stOk 0
      (le 4 next ++ (u.logFrom e.body).flatMap fun y => y.bytes)) := by
  subst hi
  rfl

theorem State.cmdBistRun_refused {z : BusEnd} (hz : z ≠ .done) (h : u.busCheck e.owner.master (u.cmdPriv e) .write BT_CTRL 4 = (z, v)) :
    u.cmdBistRun e = v.answer e z.status 0 [] := by
  simp only [State.cmdBistRun, h]
  exact if_pos hz

section
variable (hx : byteAt e.body 0 = x)
include hx

section
variable (h : u.busCheck e.owner.master (u.cmdPriv e) .write BT_CTRL 4 = (.done, u))
include h

theorem State.cmdBistRun_starts (hs : (u.bistStart x).1 = stOk) : u.cmdBistRun e = ((u.bistStart x).2.wr BT_CTRL.BLOCK x).setWait e (.bist x) := by
  simp only [State.cmdBistRun, hx, h]
  exact (if_neg (not_not_intro rfl)).trans (if_pos hs)

theorem State.cmdBistRun_fails (hs : (u.bistStart x).1 ≠ stOk) : u.cmdBistRun e = (u.bistStart x).2.answer e (u.bistStart x).1 0 [] := by
  simp only [State.cmdBistRun, hx, h]
  exact (if_neg (not_not_intro rfl)).trans (if_neg hs)

end
end

theorem State.cmdFarrierRun_refused {z : BusEnd} (hz : z ≠ .done) (h : u.busCheck e.owner.master (u.cmdPriv e) .write SW_FAR_CTRL 4 = (z, v)) :
    u.cmdFarrierRun e = v.answer e z.status 0 [] := by
  simp only [State.cmdFarrierRun, h]
  exact if_pos hz

section
variable (h : u.busCheck e.owner.master (u.cmdPriv e) .write SW_FAR_CTRL 4 = (.done, u))
include h

theorem State.cmdFarrierRun_busy (hb : u.rd SW_FAR_STAT.BUSY ≠ 0) : u.cmdFarrierRun e = u.answer e stBusy 0 [] := by
  simp only [State.cmdFarrierRun, h]
  exact (if_neg (not_not_intro rfl)).trans (if_pos ((u.on_iff_rd_ne_zero _).mpr hb))

theorem State.cmdFarrierRun_starts (hb : u.rd SW_FAR_STAT.BUSY = 0) : u.cmdFarrierRun e = u.startAudit.setWait e .farrier := by
  simp only [State.cmdFarrierRun, h]
  exact (if_neg (not_not_intro rfl)).trans (if_neg (State.not_on hb))

end

/-! ### Time group (R441) -/

/-- Time is stepped at the grandmaster alone (assumption row 113). -/
theorem State.cmdTimeStep_notGm (h : u.rd DM_GM_STAT.IS_GM = 0) : u.cmdTimeStep e = u.answer e stConflict 0 [] := if_pos (State.not_on h)

theorem State.cmdTimeStep_gm (h : u.rd DM_GM_STAT.IS_GM ≠ 0) : u.cmdTimeStep e =
    (let t := u.stepTarget e.body
     u.withWrites e (u.cmdPriv e) [(TM_SET_NS, t.ns), (TM_SET_SEC_LO, t.sec % 2 ^ 32), (TM_SET_SEC_HI, t.sec / 2 ^ 32), (TM_CMD, 1)] fun v =>
      v.answer e stOk 0 []) := if_neg (State.not_not_on h)

section
variable (hx : byteAt e.body 0 = x)
include hx

theorem State.cmdTxtsRead_notPtp (h : u.rd (EN_CFG.PTP_MODE x) ≠ 2) : u.cmdTxtsRead e = u.answer e stConflict 0 [] := by
  simp only [State.cmdTxtsRead, hx]
  exact if_pos h

theorem State.cmdTxtsRead_stamps (hy : byteAt e.body 1 = y) (h : u.rd (EN_CFG.PTP_MODE x) = 2)
    (hc : u.busCheck e.owner.master (u.cmdPriv e) .read (EN_TXTS_HEAD x) 4 = (.done, u)) : u.cmdTxtsRead e =
    (u.takeStamps x y [] 0).2.2.answer e stOk 0 (le 1 (u.takeStamps x y [] 0).2.1 ++ le 3 0 ++ (u.takeStamps x y [] 0).1) := by
  simp only [State.cmdTxtsRead, hx, hy, hc]
  exact (if_neg (not_not_intro h)).trans (if_neg (not_not_intro rfl))

/-! ### Display group (R442) -/

theorem State.cmdDispStatus_pipe : u.cmdDispStatus e = u.answerRegs e [DS_STAT x, DS_EVT x, DS_EVT_CNT0 x, DS_EVT_CNT1 x, DS_EVT_CNT2 x, DS_SIG x,
    DS_FRAME x, DS_TILES x] := by
  subst hx; rfl

theorem State.cmdDispTopo_pipe :
    u.cmdDispTopo e = if u.on (DS_CFG.HDCP_EN x) then u.answer e stOk 0 (u.pipe x).topo else u.answer e stConflict 0 [] := by
  subst hx; rfl

end

/-- The EDID blocks that DISP_EDID reads of a pipe: those a source presents, its peer's or the image's, or the panel's (R442). -/
def State.edidBlocks (s : State) (d : Nat) : List (List Byte) :=
  if s.dsMode d = 1 then (if (s.pipe d).edid.isEmpty then Tab.get [] s.img.edid d else (s.pipe d).edid)
  else if s.dsMode d = 3 ∨ s.dsMode d = 4 then (s.pipe d).panelEdid else []

theorem State.edidBlocks_none (h : u.dsMode x = 0 ∨ u.dsMode x = 2) : u.edidBlocks x = [] :=
  (if_neg (by omega)).trans (if_neg (by omega))

theorem State.edidBlocks_panel (h : u.dsMode x = 3 ∨ u.dsMode x = 4) : u.edidBlocks x = (u.pipe x).panelEdid :=
  (if_neg (by omega)).trans (if_pos h)

theorem State.edidBlocks_peer (h : u.dsMode x = 1) (hne : (u.pipe x).edid ≠ []) : u.edidBlocks x = (u.pipe x).edid :=
  (if_pos h).trans (if_neg (mt List.isEmpty_iff.mp hne))

theorem State.edidBlocks_image (h : u.dsMode x = 1) (he : (u.pipe x).edid = []) : u.edidBlocks x = Tab.get [] u.img.edid x :=
  (if_pos h).trans (if_pos (List.isEmpty_iff.mpr he))

section
variable (hx : byteAt e.body 0 = x) (hy : byteAt e.body 1 = y)
include hx hy

theorem State.cmdDispEdid_absent (h : (u.edidBlocks x)[y]? = none) : u.cmdDispEdid e = u.answer e stConflict 0 [] := by
  subst hx hy
  simp only [State.edidBlocks] at h
  simp only [State.cmdDispEdid, h]

theorem State.cmdDispEdid_block {b : List Byte} (h : (u.edidBlocks x)[y]? = some b) : u.cmdDispEdid e = u.answer e stOk 0 b := by
  subst hx hy
  simp only [State.edidBlocks] at h
  simp only [State.cmdDispEdid, h]

end

/-! ### Domain group (R443) -/

theorem State.cmdHubList_notHost (h : u.hostRole = false) : u.cmdHubList e = u.answer e stConflict 0 [] := if_pos (ne_true_of_eq_false h)

theorem State.cmdHubList_host (h : u.hostRole = true) : u.cmdHubList e = u.withRegs e [DM_POS_LO, DM_POS_HI] fun d v =>
    v.answer e stOk 0 (d ++ (List.range 64).flatMap fun i =>
      if (Tab.get ({} : PosEntry) v.dom.positions i).held then le 1 i ++ le 8 (Tab.get ({} : PosEntry) v.dom.positions i).uid else []) :=
  if_neg (not_not_intro h)

section
variable (hx : leAt e.body 0 2 = x)
include hx

/-- Only the host-role hub removes a hub, one of its string whose position is held (assumption row 114). -/
theorem State.cmdHubRemove_refused
    (h : u.hostRole = false ∨ x / 64 ≠ u.hubAddr / 64 ∨ (Tab.get ({} : PosEntry) u.dom.positions (x % 64)).held = false) :
    u.cmdHubRemove e = u.answer e stConflict 0 [] := by
  subst hx
  refine if_neg ?_
  rintro ⟨hhost, hstring, hheld⟩
  rcases h with h | h | h
  · exact ne_true_of_eq_false h hhost
  · exact h hstring
  · exact ne_true_of_eq_false h hheld

theorem State.cmdHubRemove_removes (hh : u.hostRole = true) (hs : x / 64 = u.hubAddr / 64)
    (hp : (Tab.get ({} : PosEntry) u.dom.positions (x % 64)).held = true) : u.cmdHubRemove e = (u.removeHub x).answer e stOk 0 [] := by
  subst hx
  exact if_pos ⟨hh, hs, hp⟩

theorem State.cmdRouteRead_entries (hy : leAt e.body 2 2 = y) : u.cmdRouteRead e = u.answerRegs e ((List.range y).map fun i => DM_RT (x + i)) := by
  subst hx hy; rfl

/-- A RELAY to this hub runs its inner frame here; another goes to its hub, and the command waits (R446). -/
theorem State.runCmd_relay {f : List Byte} (hop : e.op = 0x0B04) (hf : e.body.drop 4 = f) : State.runCmd e u =
    if x = u.hubAddr then (u.setWait e (.relay x f)).acceptFrame State.runBase (fun z => decide (z.op ≠ 0x0B04)) (.a0 x) f 65552
    else (u.domMsg x 0 0x8D f).setWait e (.relay x f) := by
  subst hx hf
  exact if_pos hop

end

/-! ### Register-access group (R444, R445) -/

theorem State.cmdRegRead_entries {l : List Nat} (h : addrEntries e.body = l) : u.cmdRegRead e = u.answerRegs e l := by
  subst h; rfl

theorem State.cmdRegWrite_entries {l : List (Nat × Nat)} (h : pairEntries e.body = l) : u.cmdRegWrite e = u.regWrites e 0 l := by
  subst h; rfl

/-- REG_RMW writes the bits of the mask over what the register reads; one that would stop a block with an open tunnel is a CONFLICT (R348; assumption row
108). -/
theorem State.cmdRegRmw_fields {a m w : BitVec 32} (ha : leAt e.body 0 4 = a.toNat) (hm : leAt e.body 4 4 = m.toNat) (hw : leAt e.body 8 4 = w.toNat) :
    u.cmdRegRmw e = u.withRegs e [a.toNat] fun d t =>
      let z := (BitVec.ofNat 32 (leAt d 0 4) &&& ~~~ m) ||| (w &&& m)
      if t.clearsEnable a.toNat z.toNat then t.answer e stConflict a.toNat []
      else t.withWrites e (t.cmdPriv e) [(a.toNat, z.toNat)] fun y => y.answer e stOk 0 d := by
  simp only [State.cmdRegRmw, ha, hm, hw, BitVec.ofNat_toNat, BitVec.setWidth_eq]

section
variable (hx : byteAt e.body 0 = x)
include hx

theorem State.cmdRb_invalid {k : Bool} (h0 : x ≠ 0) (h : u.adpType x ≠ 10) : u.cmdRb e k = u.answer e stInvalid 0 [] := by
  subst hx
  exact if_pos ⟨h0, h⟩

section
variable {k : Bool} {a : Nat} {d : List Byte} (hy : byteAt e.body 1 = y) (ha : leAt e.body 4 4 = a) (hd : e.body.drop 8 = d)
  (hv : x = 0 ∨ u.adpType x = 10)
include hy ha hd hv

/-- What became of the request decides the answer (R244, R444); no room is RESOURCE (assumption row 109). -/
theorem State.cmdRb_full (hr : u.rbRequest x k y a d = (.full, v)) : u.cmdRb e k = v.answer e stResource 0 [] := by
  simp only [State.cmdRb, hx, hy, ha, hd, hr]
  exact if_neg fun ⟨h0, ht⟩ => hv.elim h0 ht

theorem State.cmdRb_done {st : Nat} (hr : u.rbRequest x k y a d = (.done st, v)) : u.cmdRb e k = v.answer e stOk 0 (rbData k st []) := by
  simp only [State.cmdRb, hx, hy, ha, hd, hr]
  exact if_neg fun ⟨h0, ht⟩ => hv.elim h0 ht

theorem State.cmdRb_waits {g : Nat} (hr : u.rbRequest x k y a d = (.waits g, v)) : u.cmdRb e k = v.setWait e (.regBus g) := by
  simp only [State.cmdRb, hx, hy, ha, hd, hr]
  exact if_neg fun ⟨h0, ht⟩ => hv.elim h0 ht

end
end
end

/-! ### The statement -/

/-- RELAY that is admitted executes as every command does (R424 to R427, R446). -/
theorem State.relay_admitted {s v : State} {o : Owner} {q t : Fin 65536} {c : Fin 16} {body : List Byte} (h : s.admits (cmdEntry o 0x0B04 q t c body))
    (hrun : State.runCmd (cmdEntry o 0x0B04 q t c body).started (s.withCommand (cmdEntry o 0x0B04 q t c body)) = v) :
    s.command o 0x0B04 q t c body = .next v := by
  have hbody := State.admits_body_le h
  exact congrArg Host.Outcome.next ((State.admits_runs (by decide) q.isLt t.isLt c.isLt (by omega) h).trans hrun)

/-- Settles O60, command by command: its fields read back from its body, then what the command does with them. RESOURCE rests on assumption row 109 as well,
the CONFLICT of REG_RMW on 108, TIME_STEP on 113 and HUB_REMOVE on 114. -/
theorem commandsOfDiagnosticsToRegisters : Obligations.CommandsOfDiagnosticsToRegisters := by
  refine ⟨fun s o q t c i n h => State.command_admitted h (State.cmdLogRead_from (leAt_append_wordLe [] (le 2 n) i rfl)), fun s o q t c x h => ?bistRun,
    fun s o q t c h => ?farrierRun, fun s o q t c h => State.command_admitted h rfl, fun s o q t c k d h => ?timeStep, fun s o q t c x y h => ?txtsRead,
    fun s o q t c x h => State.command_admitted h (State.cmdDispStatus_pipe (byteAt_be_one x)), fun s o q t c x y h => ?dispEdid,
    fun s o q t c x h => State.command_admitted h (State.cmdDispTopo_pipe (byteAt_be_one x)), fun s o q t c h => State.command_admitted h rfl,
    fun s o q t c h => ?hubList, fun s o q t c x h => ?hubRemove, fun s o q t c x y h => ?routeRead, fun s o q t c x y f h => ?relay,
    fun s o q t c l h => ?regRead, fun s o q t c l h => ?regWrite, fun s o q t c a m v h => ?regRmw, fun s o q t c x y a h => ?rbRead,
    fun s o q t c x y a d h => ?rbWrite⟩
  case bistRun =>
    exact ⟨fun z v hz hchk => State.command_admitted h (State.cmdBistRun_refused hz hchk),
      fun hchk hs => State.command_admitted h (State.cmdBistRun_starts (byteAt_be_one x) hchk hs),
      fun hchk hs => State.command_admitted h (State.cmdBistRun_fails (byteAt_be_one x) hchk hs)⟩
  case farrierRun =>
    exact ⟨fun z v hz hchk => State.command_admitted h (State.cmdFarrierRun_refused hz hchk),
      fun hchk hb => State.command_admitted h (State.cmdFarrierRun_busy hchk hb), fun hchk hb => State.command_admitted h (State.cmdFarrierRun_starts hchk hb)⟩
  case timeStep =>
    exact ⟨fun hgm => State.command_admitted h (State.cmdTimeStep_notGm hgm), fun hgm => State.command_admitted h (State.cmdTimeStep_gm hgm)⟩
  case txtsRead =>
    exact ⟨fun hm => State.command_admitted h (State.cmdTxtsRead_notPtp (by simp) hm),
      fun hm hchk => State.command_admitted h (State.cmdTxtsRead_stamps (by simp) (by simp) hm hchk)⟩
  case dispEdid =>
    have hblock {b : List Byte} {l : List (List Byte)} (hl : (s.withCommand (cmdEntry o 0x0A01 q t c (be 1 x ++ be 1 y))).edidBlocks x = l)
        (hb : l[(y : Nat)]? = some b) := State.command_admitted h (State.cmdDispEdid_block (by simp) (by simp) (hl ▸ hb))
    exact ⟨fun hm => State.command_admitted h (State.cmdDispEdid_absent (x := x) (y := y) (by simp) (by simp) (by rw [State.edidBlocks_none hm]; rfl)),
      fun b hm hb => hblock (State.edidBlocks_panel hm) hb, fun b hm hne hb => hblock (State.edidBlocks_peer hm hne) hb,
      fun b hm he hb => hblock (State.edidBlocks_image hm he) hb⟩
  case hubList =>
    exact ⟨fun hh => State.command_admitted h (State.cmdHubList_notHost hh), fun hh => State.command_admitted h (State.cmdHubList_host hh)⟩
  case hubRemove =>
    have hhub : leAt (le 2 x) 0 2 = x := by simpa using leAt_le_two x []
    exact ⟨fun hno => State.command_admitted h (State.cmdHubRemove_refused hhub hno),
      fun hh hs hp => State.command_admitted h (State.cmdHubRemove_removes hhub hh hs hp)⟩
  case routeRead =>
    have hcount : leAt (le 2 x ++ le 2 y) 2 2 = y := by simpa using leAt_append (le 2 x) [] 2 y 2 (by simp) y.isLt
    exact State.command_admitted h (State.cmdRouteRead_entries (leAt_le_two x _) hcount)
  case relay =>
    have hdst : leAt (le 2 x ++ le 2 y ++ f) 0 2 = x := by simpa using leAt_le_two x (le 2 y ++ f)
    exact State.relay_admitted h (State.runCmd_relay hdst rfl (List.drop_left' (by simp)))
  case regRead =>
    have hlen := State.admits_body_le h
    rw [addrBody_length] at hlen
    exact State.command_admitted h (State.cmdRegRead_entries (addrEntries_body (by omega)))
  case regWrite =>
    have hlen := State.admits_body_le h
    rw [pairBody_length] at hlen
    exact State.command_admitted h (State.cmdRegWrite_entries (pairEntries_body (by omega)))
  case regRmw =>
    have haddr : leAt (wordLe a ++ wordLe m ++ wordLe v) 0 4 = a.toNat := by simpa using leAt_append_wordLe [] (wordLe m ++ wordLe v) a rfl
    have hmask : leAt (wordLe a ++ wordLe m ++ wordLe v) 4 4 = m.toNat := by simpa using leAt_append_wordLe (wordLe a) (wordLe v) m (by simp)
    have hvalue : leAt (wordLe a ++ wordLe m ++ wordLe v) 8 4 = v.toNat := by
      simpa using leAt_append_wordLe (wordLe a ++ wordLe m) [] v (by simp)
    have hrun := State.cmdRegRmw_fields (u := s.withCommand (cmdEntry o 0x0C02 q t c (wordLe a ++ wordLe m ++ wordLe v)))
      (e := (cmdEntry o 0x0C02 q t c (wordLe a ++ wordLe m ++ wordLe v)).started) haddr hmask hvalue
    exact State.command_admitted h hrun
  case rbRead =>
    have haddr : leAt (be 1 x ++ be 1 y ++ be 2 0 ++ wordLe a) 4 4 = a.toNat := by
      simpa using leAt_append_wordLe (be 1 x ++ be 1 y ++ be 2 0) [] a (by simp)
    have hrest : (be 1 x ++ be 1 y ++ be 2 0 ++ wordLe a).drop 8 = [] := List.drop_of_length_le (by simp)
    exact ⟨fun h0 ht => State.command_admitted h (State.cmdRb_invalid (by simp) h0 ht),
      fun hv v hr => State.command_admitted h (State.cmdRb_full (by simp) (by simp) haddr hrest hv hr),
      fun hv v st hr => State.command_admitted h (State.cmdRb_done (by simp) (by simp) haddr hrest hv hr),
      fun hv v k hr => State.command_admitted h (State.cmdRb_waits (by simp) (by simp) haddr hrest hv hr)⟩
  case rbWrite =>
    have haddr := leAt_append (be 1 x ++ be 1 y ++ be 2 0) d 4 a.toNat 4 (by simp) a.isLt
    have hrest : (be 1 x ++ be 1 y ++ be 2 0 ++ wordLe a ++ d).drop 8 = d := List.drop_left' (by simp)
    exact ⟨fun h0 ht => State.command_admitted h (State.cmdRb_invalid (by simp) h0 ht),
      fun hv v hr => State.command_admitted h (State.cmdRb_full (by simp) (by simp) haddr hrest hv hr),
      fun hv v st hr => State.command_admitted h (State.cmdRb_done (by simp) (by simp) haddr hrest hv hr),
      fun hv v k hr => State.command_admitted h (State.cmdRb_waits (by simp) (by simp) haddr hrest hv hr)⟩

end Sys2Proof.Machine
end

section
/-!
The USB hub (R255 to R272): its upstream, PORT records, what its ports report and drive, resume and remote wake, the host's requests, the bus reset.
-/

namespace Sys2Proof.Machine

/-! ### Upstream (R256) -/

@[simp] theorem State.rd_present (s : State) (a : Nat) (l : List Byte) (k : Bool) (f : Fld) : (s.present a l k).rd f = s.rd f := by
  unfold State.present
  split <;> rfl

theorem State.up2_sendPort3 (s : State) (a e : Nat) : (s.sendPort3 a e).up2 = s.up2 := by
  unfold State.sendPort3
  split
  · rfl
  · exact State.rd_present ..

/-- A source that presents a connection stands last among the offers (R256). -/
def State.offer (s : State) (src ss : Nat) : State :=
  s.modUsb fun u => { u with offers := u.offers.filter (fun o => o.1 ≠ src) ++ [(src, ss)] }

section
variable {s : State} {src ss : Nat}

theorem State.upConnect_notAllowed (h : s.upAllowed src = false) : s.upConnect src ss = s := if_pos (ne_true_of_eq_false h)

theorem State.upConnect_allowed (h : s.upAllowed src = true) : s.upConnect src ss =
    if s.rd UH_STAT.UPSRC = 0 then (s.offer src ss).upTake src ss
    else if s.rd UH_STAT.UPSRC = src then s.offer src ss
    else (s.offer src ss).upRefuse src := if_neg (not_not_intro h)

theorem State.upConnect_free (h : s.upAllowed src = true) (hu : s.rd UH_STAT.UPSRC = 0) : s.upConnect src ss = (s.offer src ss).upTake src ss :=
  (State.upConnect_allowed h).trans (if_pos hu)

theorem State.upConnect_holder (h : s.upAllowed src = true) (hu : s.rd UH_STAT.UPSRC = src) (h0 : src ≠ 0) : s.upConnect src ss = s.offer src ss :=
  (State.upConnect_allowed h).trans ((if_neg (hu ▸ h0)).trans (if_pos hu))

theorem State.upConnect_second (h : s.upAllowed src = true) (h0 : s.rd UH_STAT.UPSRC ≠ 0) (hu : s.rd UH_STAT.UPSRC ≠ src) :
    s.upConnect src ss = (s.offer src ss).upRefuse src := (State.upConnect_allowed h).trans ((if_neg h0).trans (if_neg hu))

theorem State.upRefuse_native (h : src ≠ 1) : s.upRefuse src = s.raise Ev.UH_UP_BUSY := if_neg h

/-- A tunnel that is refused is answered disconnect on its two adapters, the second as it stands after the answer on the first (R256). -/
theorem State.upRefuse_tunnel : s.upRefuse 1 =
    (let u := s.raise Ev.UH_UP_BUSY
     (u.sendPort3 u.up3 1).sendPort2 (u.sendPort3 u.up3 1).up2 1) := by
  simp only [State.up2_sendPort3]
  rfl

end

theorem exec_upstreamConnect {s : State} {src : Fin 4} {ss : Fin 5} (h : s.underTest 19 0 = false) :
    exec (.upstreamConnect src ss) s = .next (s.upConnect src ss) := congrArg Host.Outcome.next (if_neg (ne_true_of_eq_false h))

/-- Under self-test the row is ignored (assumption row 165), and a source that is not allowed takes nothing (R256). -/
theorem exec_upstreamConnect_ignored {s : State} {src : Fin 4} {ss : Fin 5} (h : s.upAllowed src = false ∨ s.underTest 19 0 = true) :
    exec (.upstreamConnect src ss) s = .next s :=
  congrArg Host.Outcome.next (ite_eq_left_iff.mpr fun ht => State.upConnect_notAllowed (h.resolve_right ht))

/-! ### PORT records (R258 to R260) -/

section
variable {s : State} {a : Nat}

theorem State.usb3Port_unbound {e : Nat} (hn : s.tportOf a = none) (ha : a ≠ s.up3) : s.usb3Port a e = s := by
  simp only [State.usb3Port, hn]
  exact if_pos (.inr ha)

theorem State.usb2Port_unbound {e : Nat} (hn : s.tportOf a = none) (ha : a ≠ s.up2) : s.usb2Port a e = s := by
  simp only [State.usb2Port, hn]
  exact if_pos (.inr ha)

/-- On a tunnel port: connect, disconnect, U3 (R258, R259). -/
theorem State.usb3Port_tunnel {k : Nat} (hk : s.tportOf a = some k) :
    s.usb3Port a 0 = s.modTport k (fun t => { t with far := true }) ∧
    s.usb3Port a 1 = (s.modTport k fun t => { t with far := false }).portGone (6 + k) ∧
    s.usb3Port a 4 = s.wr (UH_PORT.U_STATE (6 + k)) 3 := by
  refine ⟨?_, ?_, ?_⟩ <;> simp only [State.usb3Port, hk]

/-- On a tunnel port: connect, disconnect, the end of L1 (R258, R260). -/
theorem State.usb2Port_tunnel {k : Nat} (hk : s.tportOf a = some k) :
    s.usb2Port a 0 = s.modTport k (fun t => { t with far := true }) ∧
    s.usb2Port a 1 = (s.modTport k fun t => { t with far := false }).portGone (6 + k) ∧
    s.usb2Port a 8 = s.wr (UH_PORT.L1 (6 + k)) 0 := by
  refine ⟨?_, ?_, ?_⟩ <;> simp only [State.usb2Port, hk]

section
variable (hn : s.tportOf a = none) (ha : a ≠ 0) (hs : s.rd UH_STAT.UPSRC = 0 ∨ s.rd UH_STAT.UPSRC = 1)
include hn ha hs

/-- The upstream tunnel's SuperSpeed adapter while no native source holds the upstream: U3 suspends (R259, R265). -/
theorem State.usb3Port_upstream (hu : a = s.up3) : s.usb3Port a 4 = s.wr UH_STAT.SUSPENDED 1 := by
  have hown : ¬ (a = 0 ∨ a ≠ s.up3) := by tauto
  have hfree : ¬ (s.rd UH_STAT.UPSRC ≠ 0 ∧ s.rd UH_STAT.UPSRC ≠ 1) := by tauto
  simp only [State.usb3Port, hn, if_neg hown, if_neg hfree]

theorem State.usb2Port_upstream (hu : a = s.up2) : s.usb2Port a 0 = s.upConnect 1 0 ∧ s.usb2Port a 1 = s.upDisconnect 1 := by
  have hown : ¬ (a = 0 ∨ a ≠ s.up2) := by tauto
  have hfree : ¬ (s.rd UH_STAT.UPSRC ≠ 0 ∧ s.rd UH_STAT.UPSRC ≠ 1) := by tauto
  simp only [State.usb2Port, hn, if_neg hown, if_neg hfree, and_self]

end

end

/-! ### Port events (R258, R265, R266) -/

section
variable {s : State} {n : Nat}

theorem State.attachDebounce_native {hs ss : Nat} (hp : s.rd (UH_PORT.POWER n) ≠ 0) (hc : s.rd (UH_PORT.CONNECT n) = 0) (h1 : 1 ≤ n) (h4 : n ≤ 4) :
    s.attachDebounce n hs ss = ((((s.wr (UH_PORT.CONNECT n) 1).wr (UH_PORT.HS_SPEED n) hs).wr (UH_PORT.SS_SPEED n) ss).wr
      (UH_PORT.U_STATE n) (if ss = 0 then 5 else 0)).setChange n 1 := by
  have hpower : s.on (UH_PORT.POWER n) = true := (s.on_iff_rd_ne_zero _).mpr hp
  have hconn : s.on (UH_PORT.CONNECT n) = false := eq_false_of_ne_true (State.not_on hc)
  have h6 : ¬ 6 ≤ n := by omega
  have h5 : ¬ 5 ≤ n := by omega
  have hne : n ≠ 5 := by omega
  simp only [State.attachDebounce, hpower, hconn, h6, h5, hne, h1, decide_true, Bool.not_false, Bool.and_self, false_and, or_self, if_true, if_false]

theorem State.attachDebounce_ignored {hs ss : Nat} (h : s.rd (UH_PORT.POWER n) = 0 ∨ s.rd (UH_PORT.CONNECT n) ≠ 0) : s.attachDebounce n hs ss = s := by
  have hno : (s.on (UH_PORT.POWER n) && !s.on (UH_PORT.CONNECT n)) = false := by
    rcases h with hp | hc
    · rw [eq_false_of_ne_true (State.not_on hp), Bool.false_and]
    · rw [(s.on_iff_rd_ne_zero _).mpr hc, Bool.not_true, Bool.and_false]
  simp only [State.attachDebounce, hno, Bool.false_and, Bool.false_eq_true, if_false]

/-- A port of this hub, and not of a tunnel, that ends its bus reset is enabled, out of suspend, and its reset bit changes (R265). -/
theorem State.driveEnd_reset (h : s.driven n = 1) :
    s.driveEnd n = (((s.setDriven n 0).wr (UH_PORT.ENABLE n) 1).wr (UH_PORT.SUSPEND n) 0).setChange n 16 := by
  simp only [State.driveEnd, h]

end

section
variable {s : State} {n : Fin 12}

theorem exec_portResetComplete_native (hn : n.val < 6) : exec (.portResetComplete n) s = .next (s.driveEnd n) :=
  congrArg Host.Outcome.next (if_neg fun hc => Nat.not_le.mpr hn hc.1)

theorem exec_portResetComplete_tunnel (hn : 6 ≤ n.val) (hd : s.driven n = 1 ∨ s.driven n = 2) : exec (.portResetComplete n) s = .next s :=
  congrArg Host.Outcome.next (if_pos ⟨hn, hd⟩)

end

/-! ### Remote wake and resume (R265, R271, R272) -/

section
variable {s : State} {n : Nat}

theorem State.remoteWake_inReset (h : s.driven n = 1 ∨ s.driven n = 2) : s.remoteWake n = s := if_pos h

/-- A wake at a port that already drives resume is a collision (R271; assumption row 58). -/
theorem State.remoteWake_inResume (h : s.driven n = 3 ∨ s.driven n = 4) : s.remoteWake n = s.collide :=
  (if_neg (by omega)).trans (if_pos (or_assoc.mp (.inl h)))

theorem State.remoteWake_portSuspended (hd : s.driven n = 0) (hr : s.usb.resuming = false) (hs : s.rd UH_STAT.SUSPENDED = 0)
    (hp : s.rd (UH_PORT.SUSPEND n) ≠ 0) : s.remoteWake n = s.resumePort n := by
  have hidle : ¬ (s.driven n = 3 ∨ s.driven n = 4 ∨ s.usb.resuming = true) := by
    rw [hd, hr]
    decide
  calc s.remoteWake n
    _ = _ := if_neg (by omega)
    _ = _ := if_neg hidle
    _ = _ := if_neg (State.not_on hs)
    _ = s.resumePort n := if_pos ((s.on_iff_rd_ne_zero _).mpr hp)

end

/-! ### Requests of the host (R255, R265 to R268) -/

section
variable {s : State} {n : Nat}

theorem State.not_unconfigured (hn : n ≠ 0) (hc : s.rd UH_STAT.HS_STATE = 3) : ¬ (n = 0 ∨ s.rd UH_STAT.HS_STATE ≠ 3) := by tauto

theorem State.hubRequest_powerOn (hn : n ≠ 0) (hc : s.rd UH_STAT.HS_STATE = 3) :
    s.hubRequest n (.portPower true) = ((s.wr (UH_PORT.POWER n) 1).wr (UH_PORT.OVERCURRENT n) 0).upwren n 1 :=
  if_neg (State.not_unconfigured hn hc)

theorem State.hubRequest_powerOff (hn : n ≠ 0) (hc : s.rd UH_STAT.HS_STATE = 3) : s.hubRequest n (.portPower false) = s.portOff n :=
  if_neg (State.not_unconfigured hn hc)

theorem State.hubRequest_reset_empty (h : s.rd (UH_PORT.CONNECT n) = 0) : s.hubRequest n .portReset = s :=
  if_neg fun hc => State.not_on h ((Bool.and_eq_true_iff ..).mp hc).2

/-- A connected port that is no tunnel port drives reset; at port 5 the reset reaches the function (R265, R270). -/
theorem State.hubRequest_reset_native (h1 : 1 ≤ n) (h6 : n < 6) (hc : s.rd (UH_PORT.CONNECT n) ≠ 0) :
    s.hubRequest n .portReset =
      (if n = 5 then ((s.setDriven n 1).wr (UH_PORT.ENABLE n) 0).functionReset else (s.setDriven n 1).wr (UH_PORT.ENABLE n) 0).usbWire n 1 [] := by
  have hhere : (decide (1 ≤ n) && s.on (UH_PORT.CONNECT n)) = true := by
    rw [(s.on_iff_rd_ne_zero _).mpr hc, decide_eq_true h1, Bool.and_self]
  simp only [State.hubRequest, hhere, State.dropCache, Nat.not_le.mpr h6, if_true, if_false]

section
variable {d : Fin 3} {ty ix : Fin 256} {len : Fin 65536} (hu : s.rd UH_STAT.UPSRC ≠ 0) (hd : d.val ≠ 2)
include hu hd

/-- Under an upstream the two hubs answer a read of a descriptor whatever port 5 shows (R255). -/
theorem State.descriptor_notRefused : ¬ (s.rd UH_STAT.UPSRC = 0 ∨ (d.val = 2 ∧ ¬ s.on (UH_PORT.CONNECT 5) = true)) := by tauto

theorem State.hubRequest_descriptor {l : List Byte} (h : s.usbDescriptor (usbDevice d) ty ix = some l) :
    s.hubRequest n (.getDescriptor d ty ix len) = s.usbWire 0 13 (l.take len) := by
  simp only [State.hubRequest, if_neg (State.descriptor_notRefused hu hd), h]

theorem State.hubRequest_noDescriptor (h : s.usbDescriptor (usbDevice d) ty ix = none) :
    s.hubRequest n (.getDescriptor d ty ix len) = s.usbWire 0 9 [] := by
  simp only [State.hubRequest, if_neg (State.descriptor_notRefused hu hd), h]

end

end

/-! ### The bus reset (R265, R270) -/

section
variable {s : State}

theorem State.functionReset_idle (hc : s.usb.control = none) (hb : s.usb.bulk = []) : s.functionReset = s.functionDefault := by
  simp [State.functionReset, hc, hb]

/-- A data stage cut short is a transfer cut short and a frame discarded (R270). -/
theorem State.functionReset_cut {n : Nat} {l : List Byte} (hc : s.usb.control = some (n, l)) (hl : l.length < n) :
    s.functionReset = ((s.raise Ev.UH_RESET_MID).raise Ev.UH_CMD_DISCARD).functionDefault := by
  simp [State.functionReset, hc, hl]

end

/-- Settles O49, clause by clause: the upstream (a hub under self-test is assumption row 165), PORT records, port events, resume and remote wake (the collision
with a resume is assumption row 58), the host's requests, the resets. -/
theorem usbUpstreamPortsAndHub : Obligations.UsbUpstreamPortsAndHub := by
  refine ⟨fun s src ss h => exec_upstreamConnect_ignored h, ?connect, fun s a hn ha e => congrArg Host.Outcome.next (State.usb3Port_unbound hn ha),
    fun s a hn ha e => congrArg Host.Outcome.next (State.usb2Port_unbound hn ha), ?tunnel, ?upstream,
    fun s n hs ss hp hc h1 h4 => congrArg Host.Outcome.next (State.attachDebounce_native hp hc h1 h4),
    fun s n hs ss h => congrArg Host.Outcome.next (State.attachDebounce_ignored h),
    fun s n h1 hp => congrArg Host.Outcome.next (if_pos ⟨h1, (s.on_iff_rd_ne_zero _).mpr hp⟩),
    fun s => ⟨fun hu => congrArg Host.Outcome.next (if_pos hu), fun hu => congrArg Host.Outcome.next (if_neg (not_not_intro hu))⟩,
    fun s n => ⟨fun h => congrArg Host.Outcome.next (State.remoteWake_inReset h), fun h => congrArg Host.Outcome.next (State.remoteWake_inResume h)⟩,
    fun s n hd hr hs hp => congrArg Host.Outcome.next (State.remoteWake_portSuspended hd hr hs hp),
    fun s hs => congrArg Host.Outcome.next (if_neg (State.not_on hs)),
    fun s hs => congrArg Host.Outcome.next (if_pos ((s.on_iff_rd_ne_zero _).mpr hs)), ?request,
    fun s n hn hd => (exec_portResetComplete_native hn).trans (congrArg Host.Outcome.next (State.driveEnd_reset hd)),
    fun s n hn hd => exec_portResetComplete_tunnel hn hd, fun s => ⟨fun hc hb => ?_, fun n l hc hl => ?_⟩⟩
  case connect =>
    intro s src ss ha ht
    have hconnect := exec_upstreamConnect (src := src) (ss := ss) ht
    refine ⟨fun h0 => ?_, fun hu h0 => ?_, fun h0 hu h1 => ?_, fun h0 hu h1 => ?_⟩
    · rw [hconnect, State.upConnect_free ha h0]
      rfl
    · rw [hconnect, State.upConnect_holder ha hu (Fin.val_ne_of_ne h0)]
      rfl
    · rw [hconnect, State.upConnect_second ha h0 hu, State.upRefuse_native (Fin.val_ne_of_ne h1)]
      rfl
    · subst h1
      rw [hconnect, State.upConnect_second ha h0 hu]
      exact congrArg Host.Outcome.next State.upRefuse_tunnel
  case tunnel =>
    intro s a k hk
    obtain ⟨hconnect3, hgone3, hu3⟩ := State.usb3Port_tunnel hk
    obtain ⟨hconnect2, hgone2, hl1⟩ := State.usb2Port_tunnel hk
    exact ⟨congrArg Host.Outcome.next hconnect3, congrArg Host.Outcome.next hconnect2, congrArg Host.Outcome.next hgone3,
      congrArg Host.Outcome.next hgone2, congrArg Host.Outcome.next hu3, congrArg Host.Outcome.next hl1⟩
  case upstream =>
    intro s a hn ha hs
    refine ⟨fun hu => congrArg Host.Outcome.next (State.usb3Port_upstream hn ha hs hu), fun hu => ?_⟩
    obtain ⟨hconnect, hgone⟩ := State.usb2Port_upstream hn ha hs hu
    exact ⟨congrArg Host.Outcome.next hconnect, congrArg Host.Outcome.next hgone⟩
  case request =>
    intro s n
    refine ⟨fun x => rfl, fun b => rfl, fun b => rfl, fun hn hc => congrArg Host.Outcome.next (State.hubRequest_powerOn hn hc),
      fun hn hc => congrArg Host.Outcome.next (State.hubRequest_powerOff hn hc), fun h1 h5 hc => congrArg Host.Outcome.next ?_,
      fun h5 hc => congrArg Host.Outcome.next ?_,
      fun hu d ty ix len hd => ⟨fun l h => congrArg Host.Outcome.next (State.hubRequest_descriptor hu hd h),
        fun h => congrArg Host.Outcome.next (State.hubRequest_noDescriptor hu hd h)⟩,
      fun hc => congrArg Host.Outcome.next (State.hubRequest_reset_empty hc)⟩
    · rw [State.hubRequest_reset_native h1 (by omega) hc, if_neg h5.ne]
    · rw [State.hubRequest_reset_native (by omega) (by omega) hc, if_pos h5]
  · exact congrArg (fun t : State => Host.Outcome.next t.hubDefault) (State.functionReset_idle hc hb)
  · exact congrArg (fun t : State => Host.Outcome.next t.hubDefault) (State.functionReset_cut hc hl)

end Sys2Proof.Machine
end

section
/-!
SuperSpeed packets, micro-frames and the transaction proxy (R259 to R264).
-/

namespace Sys2Proof.Machine

@[simp] theorem State.usb_modUsb (s : State) (f : UsbSt → UsbSt) : (s.modUsb f).usb = f s.usb := rfl

/-! ### SuperSpeed packets (R259) -/

section
variable {s : State} {a : Fin 256} {header data : List Byte}

theorem exec_headerRecord_unbound (h : s.usbPortOf a = none) : exec (.headerRecord a header) s = .next s := by
  show execHeaderRecord a header s = _
  simp only [execHeaderRecord, h]

theorem exec_dataRecord_unbound (h : s.usbPortOf a = none) : exec (.dataRecord a header data) s = .next s := by
  show execDataRecord a header data s = _
  simp only [execDataRecord, h]

theorem exec_headerRecord_port {n : Nat} (h : s.usbPortOf a = some n) :
    exec (.headerRecord a header) s = .next (s.send (.bus 1 n 0x21 (header.take 12))) := by
  show execHeaderRecord a header s = _
  simp only [execHeaderRecord, h, State.usbWire]

theorem exec_dataRecord_port {n : Nat} (h : s.usbPortOf a = some n) :
    exec (.dataRecord a header data) s = .next (s.send (.bus 1 n 0x22 (header.take 12 ++ data.take 1024))) := by
  show execDataRecord a header data s = _
  simp only [execDataRecord, h, State.usbWire]

end

/-! ### Isochronous timestamps and micro-frames (R259, R263, R272) -/

section
variable {s : State}

theorem exec_itpRelease_none {x : Fin 8192} (h : s.usb.itps = []) : exec (.itpRelease x) s = .next s := by
  show execItpRelease x s = _
  simp only [execItpRelease, h]

theorem exec_itpRelease_oldest {x : Fin 8192} {t : Nat} {l : List Byte} {rest : List (Nat × List Byte)} (h : s.usb.itps = (t, l) :: rest) :
    exec (.itpRelease x) s = .next ((s.modUsb fun u => { u with itps := rest }).send
      (.bus 1 0 0x23 (be 4 (x.val * 2 ^ 19 + beAt l 0 4 % 2 ^ 19) ++ l.drop 4))) := by
  show execItpRelease x s = _
  simp only [execItpRelease, h, State.usbWire]

theorem exec_sofRelease_none (h : s.usb.sofs = []) : exec .sofRelease s = .next s := by
  show execSofRelease s = _
  simp only [execSofRelease, h]

section
variable {f m t : Nat} {rest : List (Nat × Nat × Nat)} (h : s.usb.sofs = (f, m, t) :: rest)
include h

/-- A micro-frame that a late SOF has started is not started again (R272). -/
theorem exec_sofRelease_started {t' : Nat} (hl : s.usb.sofLast = some (f, m, t')) :
    exec .sofRelease s = .next (s.modUsb fun u => { u with sofs := rest }) := by
  show execSofRelease s = _
  simp only [execSofRelease, h, State.usb_modUsb, hl, and_self, if_true]

theorem exec_sofRelease_first (hl : s.usb.sofLast = none) :
    exec .sofRelease s = .next ((s.modUsb fun u => { u with sofs := rest }).startMicro f m t) := by
  show execSofRelease s = _
  simp only [execSofRelease, h, State.usb_modUsb, hl]

end

theorem exec_sofLate_none (h : s.usb.sofLast = none) : exec .sofLate s = .next s := by
  show execSofLate s = _
  simp only [execSofLate, h]

theorem exec_sofLate_next {f m t : Nat} (h : s.usb.sofLast = some (f, m, t)) :
    exec .sofLate s = .next ((s.startMicro (nextMicro f m).1 (nextMicro f m).2 (t + 125000)).raise Ev.UH_SOF_LATE) := by
  show execSofLate s = _
  simp only [execSofLate, h]

end

/-! ### Tokens of the host (R261, R262) -/

section
variable {s : State} {k : Fin 6}

theorem exec_hostToken_disabled {t : HostToken} (h : s.rd (UH_PORT.ENABLE (6 + k)) = 0) : exec (.hostToken k t) s = .next s :=
  congrArg Host.Outcome.next (if_pos (State.not_on h))

theorem exec_hostToken_sof {f : Fin 2048} {m : Fin 8} (h : s.rd (UH_PORT.ENABLE (6 + k)) ≠ 0) :
    exec (.hostToken k (.sof f m)) s = .next (s.present (s.tpAdp2 k) (be 1 0x13 ++ be 3 0 ++ be 2 f ++ be 1 m)) :=
  congrArg Host.Outcome.next (if_neg (State.not_not_on h))

theorem exec_hostToken_xfer {y : TokenKind} {a : Fin 128} {e : Fin 16} {g i c : Bool} {d : List Byte} (h : s.rd (UH_PORT.ENABLE (6 + k)) ≠ 0) :
    exec (.hostToken k (.xfer y a e g i c d)) s = .next (s.hostXfer k y a e g i c d) :=
  congrArg Host.Outcome.next (if_neg (State.not_not_on h))

end

section
variable {s : State} {k a e : Nat} {g c : Bool} {d : List Byte}

/-- A PID that is a handshake or data is answered on the port's wires (R261). -/
theorem State.proxyAnswer_wire {pid : Nat} (h : pid ≠ 0) : s.proxyAnswer k pid d = s.send (.bus 1 (6 + k) 0x10 (be 1 pid ++ d)) := if_neg h

theorem State.hostXfer_setup {i : Bool} : s.hostXfer k .setup a e g i c d =
    ((s.modTport k fun t => t.seeSetup a d).send (.bus 1 (6 + k) 0x10 (be 1 pidAck ++ []))).present (s.tpAdp2 k) (xferRecord .setup a e g i d) := by
  simp only [State.hostXfer, if_true]
  rw [State.proxyAnswer_wire (by decide)]

/-- The first OUT of an endpoint is remembered, forwarded and put off (R261). -/
theorem State.hostXfer_firstOut (h : (s.tport k).find a e false = none) : s.hostXfer k .out a e g false c d =
    ((s.modTport k fun t => { t with cache := t.cache ++ [{ addr := a, ep := e, isIn := false, toggle := g, pending := true }] }).present
      (s.tpAdp2 k) (xferRecord .out a e g false d)).send (.bus 1 (6 + k) 0x10 (be 1 pidNak ++ [])) := by
  simp only [State.hostXfer, reduceCtorEq, decide_false, h, if_false, Bool.false_eq_true]
  rw [State.proxyAnswer_wire (by decide)]

section
variable {x : ProxyEntry} (h : (s.tport k).find a e true = some x) (hg : x.toggle = g)
include h hg

/-- An IN whose result is missing is put off and not forwarded again (R261). -/
theorem State.hostXfer_inWaits (hr : x.result = none) (hp : x.pending = true) :
    s.hostXfer k .in_ a e g false c [] = s.send (.bus 1 (6 + k) 0x10 (be 1 pidNak ++ [])) := by
  simp only [State.hostXfer, reduceCtorEq, decide_true, h, hr, hp, hg, if_false, if_true, Bool.false_eq_true, and_self, or_true]
  rw [State.proxyAnswer_wire (by decide)]

/-- A cached IN answers with its data; once the host has acknowledged it, it is gone (R261). -/
theorem State.hostXfer_inCached {tg : Bool} (hr : x.result = some (pidAck, tg, d)) : s.hostXfer k .in_ a e g false true [] =
    (s.send (.bus 1 (6 + k) 0x10 (be 1 pidAck ++ (be 1 tg.toNat ++ d)))).modTport k fun t => t.drop a e true := by
  simp only [State.hostXfer, reduceCtorEq, decide_true, h, hr, hg, if_false, if_true, Bool.false_eq_true, and_self, or_true]
  rw [State.proxyAnswer_wire (by decide)]

end

end

/-! ### Transactions at the far hub (R261, R262, R264) -/

/-- The far hub has played an OUT on its wires and keeps the device's answer `pid` in its part of the proxy (R261, R264). -/
def State.outPlayed (s : State) (a e : Nat) (g r : Bool) (d : List Byte) (pid : Nat) : State :=
  (s.send (.bus 1 0 0x12 (xferRecord .out a e g false d))).modTport farEnd fun t =>
    ({ t.drop a e false with cache := (t.drop a e false).cache ++
      [{ addr := a, ep := e, isIn := false, toggle := g, result := some (pid, r, []) }] } : TunnelPortSt).seeResult a e false pid []

section
variable {s : State} {a : Fin 128} {e : Fin 16} {g r : Bool} {d z : List Byte} {p : Fin 256}

theorem exec_xfer_noTunnel {y : TokenKind} {i : Bool} (h : s.up2 = 0) : exec (.xfer y a e g i d p r z) s = .next s :=
  congrArg Host.Outcome.next (if_pos h)

theorem exec_xfer_isoOut (h : s.up2 ≠ 0) : exec (.xfer .out a e g true d p r z) s =
    .next (s.modUsb fun u => { u with isoOut := u.isoOut ++ [(a.val, xferRecord .out a e g true d)] }) :=
  congrArg Host.Outcome.next ((if_neg h).trans (if_pos ⟨rfl, by decide⟩))

theorem exec_xfer_out (h : s.up2 ≠ 0) : exec (.xfer .out a e g false d p r []) s =
    .next ((s.outPlayed a e g r d p).present (s.outPlayed a e g r d p).up2 (resultRecord p a e false r [])) := by
  show execXfer .out a e g false d p r [] s = _
  simp only [execXfer, if_neg h, reduceCtorEq, decide_false, Bool.false_eq_true, false_and, if_false]
  rfl

end

/-- The result of an OUT fills the entry of its endpoint that waits (R261). -/
theorem exec_result_out {s : State} {k : Fin 6} {p : Fin 256} {a : Fin 128} {e : Fin 16} {g : Bool} {d : List Byte} :
    exec (.result k p a e false g d) s = .next (s.modTport k fun t => ({ t with cache := t.cache.map fun y =>
      if y.addr = a.val ∧ y.ep = e.val ∧ y.isIn = false ∧ y.pending then { y with pending := false, result := some (p.val, g, d) } else y } :
        TunnelPortSt).seeResult a e false p d) := by
  show execResult k p a e false g d s = _
  simp only [execResult, Bool.false_eq_true, false_and, if_false]

/-- Settles O50, clause by clause: packets, timestamps and micro-frames, tokens of the host, transactions at the far hub and their results. -/
theorem usbPacketsAndTheProxy : Obligations.UsbPacketsAndTheProxy := by
  refine ⟨fun s a h => ⟨fun _ => exec_headerRecord_unbound h, fun _ _ => exec_dataRecord_unbound h⟩,
    fun s a n h => ⟨fun _ => exec_headerRecord_port h, fun _ _ => exec_dataRecord_port h⟩,
    fun s a x l ha hu => congrArg Host.Outcome.next (if_pos ⟨ha, hu⟩), fun s x h => exec_itpRelease_none h, fun s x t l rest h => exec_itpRelease_oldest h,
    fun s x f m => ⟨fun h => congrArg Host.Outcome.next (if_pos h), fun h => congrArg Host.Outcome.next (if_neg h)⟩,
    fun s h => exec_sofRelease_none h, fun s f m t t' rest h hl => exec_sofRelease_started h hl, fun s f m t rest h hl => exec_sofRelease_first h hl,
    fun s h => exec_sofLate_none h, fun s f m t h => exec_sofLate_next h, fun s k t h => exec_hostToken_disabled h, fun s k hon => ?token,
    fun s y a e g i r d z p h => exec_xfer_noTunnel h, fun s a e g r d z p h => exec_xfer_isoOut h,
    fun s a e g r d p h => ⟨s.outPlayed a e g r d p, rfl, rfl, exec_xfer_out h⟩, fun s k p a e g d => exec_result_out⟩
  case token =>
    have hrun {y a e g i c d t} (h : s.hostXfer k y _ _ g i c d = t) : exec (.hostToken k (.xfer y a e g i c d)) s = .next t :=
      (exec_hostToken_xfer hon).trans (congrArg Host.Outcome.next h)
    exact ⟨fun f m => exec_hostToken_sof hon, fun a e g i c d => hrun State.hostXfer_setup, fun a e g c d h => hrun (State.hostXfer_firstOut h),
      fun a e g c x h hr hp hg => hrun (State.hostXfer_inWaits h hg hr hp), fun a e g tg x d h hr hg => hrun (State.hostXfer_inCached h hg hr)⟩

end Sys2Proof.Machine
end

section
/-!
The transports of command frames (R269, R270, R422, R423, R431, R446): COMMAND between hubs, the USB function, the SMBus target, time limits.
-/

namespace Sys2Proof.Machine

/-! ### COMMAND (R422, R448) -/

section
variable {s : State} {src : Nat} {f : List Byte}

theorem State.commandMsg_response (hl : 16 ≤ f.length) (hr : byteAt f 6 % 2 = 1) : s.commandMsg src false f = s.relayResponse src f :=
  (if_neg Bool.false_ne_true).trans (if_pos ⟨hl, hr⟩)

theorem State.commandMsg_request (hr : byteAt f 6 % 2 = 0) :
    s.commandMsg src false f = if s.on GC_CMD_CFG.A0_EN then s.acceptCmd (.a0 src) f 65552 else s :=
  (if_neg Bool.false_ne_true).trans (if_neg fun hc => by omega)

end

/-! ### The USB function (R269, R270) -/

section
variable {s : State} {d : List Byte}

section
variable (h : s.cmd.usbReady = false)
include h

theorem State.sendCommand_unready {n : Nat} {k : Bool} : s.sendCommand n d k = s := if_pos (ne_true_of_eq_false h)
theorem exec_getResponse_unready {q n : Fin 65536} : exec (.getResponse q n) s = .next s := congrArg Host.Outcome.next (if_neg (ne_true_of_eq_false h))
theorem State.bulkFrame_unready {k : Bool} : s.bulkFrame d k = s := if_pos (ne_true_of_eq_false h)
theorem State.endpointRead_unready {k : Bool} : s.endpointRead k = s := if_pos (ne_true_of_eq_false h)

end

section
variable (h : s.cmd.usbReady = true)
include h

theorem State.sendCommand_short {n : Nat} {k : Bool} (hd : d.length < n) :
    s.sendCommand n d k = s.modUsb fun u => { u with control := some (n, d) } := (if_neg (not_not_intro h)).trans (if_pos hd)

/-- The data stage is complete: the frame is handed over, with a stall when its LENGTH is not that of the transfer (R269). -/
theorem State.sendCommand_complete {n : Nat} {k : Bool} (hd : d.length = n) : s.sendCommand n d k =
    ((if n ≠ 16 + leAt d 8 4 then s.usbWire 0 9 [] else s).modUsb fun u => { u with control := if k then none else some (n, d) }).acceptCmd .usb d 4096 := by
  have hlen : ¬ d.length < n := hd.not_lt
  simp only [State.sendCommand, if_neg (not_not_intro h), if_neg hlen, List.take_of_length_le hd.le]

theorem exec_getResponse_ready {q n : Fin 65536} : exec (.getResponse q n) s = .next (s.send (.bus 1 0 10 ((s.usbResponse q).take n))) :=
  congrArg Host.Outcome.next (if_pos h)

theorem State.bulkFrame_more : s.bulkFrame d false = s.modUsb fun u => { u with bulk := s.usb.bulk ++ d } :=
  (if_neg (not_not_intro h)).trans (if_pos Bool.false_ne_true)

/-- The last packet ends the frame; its sequence is noted where a response will leave by the bulk endpoint (R269). -/
theorem State.bulkFrame_last {u : State} (hu : u = s.modUsb fun u => { u with bulk := [] }) : s.bulkFrame d true =
    (if u.bulkAnswers (s.usb.bulk ++ d) then { u with cmd := { u.cmd with bulkSeq := u.cmd.bulkSeq ++ [leAt (s.usb.bulk ++ d) 2 2] } } else u).acceptCmd
      .usb (s.usb.bulk ++ d) 65552 := by
  subst hu
  exact (if_neg (not_not_intro h)).trans (if_neg (not_not_intro rfl))

section
variable {b : List Byte} {l : List (List Byte)}

theorem State.endpointRead_notification (hq : s.cmd.usbQueue = b :: l) :
    s.endpointRead false = ({ s with cmd := { s.cmd with usbQueue := l } } : State).send (.notify 0 b) := by
  simp only [State.endpointRead, h, hq, not_true_eq_false, Bool.false_eq_true, if_false]

theorem State.endpointRead_bulk (hq : s.cmd.bulkResp = b :: l) :
    s.endpointRead true = ({ s with cmd := { s.cmd with bulkResp := l } } : State).send (.bus 1 0 11 b) := by
  simp only [State.endpointRead, h, hq, not_true_eq_false, if_false, if_true, State.usbWire]

end

end

end

/-! ### The SMBus target (R423) -/

section
variable {s : State} {x : Nat} {first : Bool} {d : List Byte} {pec : Bool}

section
variable (h : s.smbMatch x = false)
include h

theorem State.smbWrite_otherAddress : s.smbWrite first x d pec = s := if_pos (ne_true_of_eq_false h)
theorem State.smbRead_otherAddress : s.smbRead x = s := if_pos (ne_true_of_eq_false h)

end

section
variable {u : State} (h : s.smbMatch x = true) (hu : u = s.wakeEvent 12 false)
include h hu

/-- A match is wake source 12 (R367; assumption rows 63 and 166); a Block Write whose PEC is wrong is discarded where PEC is on (R423). -/
theorem State.smbWrite_badPec (hp : u.on GC_CMD_CFG.SMB_PEC = true) : s.smbWrite first x d false = u.dropPartial.raise Ev.GC_FRAME_ERR := by
  subst hu
  exact (if_neg (not_not_intro h)).trans (if_pos ⟨hp, Bool.false_ne_true⟩)

theorem State.smbWrite_goodPec : s.smbWrite first x d true =
    if first then u.smbAssemble d else if u.cmd.partial_.isEmpty then u else u.smbAssemble (u.cmd.partial_ ++ d) := by
  subst hu
  exact (if_neg (not_not_intro h)).trans (if_neg fun hc => hc.2 rfl)

theorem State.smbWrite_start : s.smbWrite true x d true = u.smbAssemble d := State.smbWrite_goodPec h hu

theorem State.smbWrite_nothingToContinue (hp : u.cmd.partial_ = []) : s.smbWrite false x d true = u := by
  rw [State.smbWrite_goodPec h hu, if_neg Bool.false_ne_true, hp]
  rfl

theorem State.smbWrite_continue (hp : u.cmd.partial_ ≠ []) : s.smbWrite false x d true = u.smbAssemble (u.cmd.partial_ ++ d) := by
  rw [State.smbWrite_goodPec h hu, if_neg Bool.false_ne_true, if_neg (mt List.isEmpty_iff.mp hp)]

section
variable (hr : u.cmd.reading = none)
include hr

theorem State.smbRead_nothing (hl : u.cmd.unread = []) : s.smbRead x = u.send (.bus 7 0 3 []) := by
  subst hu
  simp only [State.smbRead, h, hr, hl, not_true_eq_false, if_false, Option.none_or, List.head?_nil, State.smbSend]

section
variable {q : Nat} {r : List Byte} {l : List (Nat × List Byte)} (hl : u.cmd.unread = (q, r) :: l)
include hl

/-- What is left of a response of at most 255 bytes leaves at once, and the response is read (R423). -/
theorem State.smbRead_last (hlen : r.length ≤ 255) :
    s.smbRead x = ({ u with cmd := { u.cmd with reading := none, unread := l } } : State).send (.bus 7 0 3 r) := by
  subst hu
  simp only [State.smbRead, h, hr, hl, not_true_eq_false, if_false, Option.none_or, List.head?_cons, List.drop_of_length_le hlen, List.isEmpty_nil, if_true,
    decide_true, List.eraseP_cons_of_pos, List.take_of_length_le hlen, State.smbSend]

theorem State.smbRead_first (hlen : 255 < r.length) :
    s.smbRead x = ({ u with cmd := { u.cmd with reading := some (q, r.drop 255) } } : State).send (.bus 7 0 3 (r.take 255)) := by
  subst hu
  have hleft : (r.drop 255).isEmpty = false := by simpa using hlen
  simp only [State.smbRead, h, hr, hl, hleft, not_true_eq_false, if_false, Option.none_or, List.head?_cons, Bool.false_eq_true, State.smbSend]

end

end

end

end

theorem exec_smbSelect_otherAddress {s : State} {x : Fin 128} {q : Fin 65536} (h : s.smbMatch x = false) : exec (.smbSelect x q) s = .next s :=
  congrArg Host.Outcome.next (if_neg (ne_true_of_eq_false h))

/-! ### Time limits (R431, R446) -/

section
variable {s : State} {o : Owner}

section
variable (h : ∀ e ∈ s.cmd.entries, e.owner ≠ o)
include h

theorem State.find_entry_none (p q : CmdEntry → Bool) : (s.cmd.entries.find? fun e => p e && decide (e.owner = o) && q e) = none :=
  List.find?_eq_none.mpr fun e he => by simp [h e he]

theorem State.commandTimeout_none : s.commandTimeout o = s := by
  rw [State.commandTimeout, State.find_entry_none h]

theorem State.relayTimeout_none : s.relayTimeout o = s := by
  rw [State.relayTimeout, State.find_entry_none h]

end

section
variable {e : CmdEntry} {dst : Nat} {f : List Byte} (h : s.cmd.entries = [e]) (hr : e.running = true) (ho : e.owner = o) (hw : e.wait = .relay dst f)
include h hr ho hw

/-- The command past its limit is answered TIMEOUT, and what it started stands (R431; assumption row 118). -/
theorem State.commandTimeout_relay : s.commandTimeout o = s.answer e stTimeout 0 [] := by
  simp [State.commandTimeout, h, hr, ho, hw]

theorem State.relayTimeout_relay : s.relayTimeout o = s.answer e stTimeout 0 [] := by
  simp [State.relayTimeout, h, hr, ho, hw]

end

end

/-- Settles O56, clause by clause: COMMAND, the USB function, the SMBus target (the wake by SMBus is assumption rows 63 and 166, a sequence without a cached
response row 120), time limits (assumption row 118). -/
theorem transportsCarryFrames : Obligations.TransportsCarryFrames := by
  refine ⟨fun s h f => rfl, fun s h f hl hr => congrArg Host.Outcome.next (State.commandMsg_response hl hr), fun s h f hr => ?request,
    fun s h => ⟨fun n d k => congrArg Host.Outcome.next (State.sendCommand_unready h), fun q n => exec_getResponse_unready h,
      fun d k => congrArg Host.Outcome.next (State.bulkFrame_unready h), fun k => congrArg Host.Outcome.next (State.endpointRead_unready h)⟩,
    fun s n d k h => ?control, fun s q n h => exec_getResponse_ready h, fun s d h => ?bulk,
    fun s b l h => ⟨fun hq => congrArg Host.Outcome.next (State.endpointRead_notification h hq),
      fun hq => congrArg Host.Outcome.next (State.endpointRead_bulk h hq)⟩,
    fun s x h => ⟨fun d k => congrArg Host.Outcome.next (State.smbWrite_otherAddress h), fun d k => congrArg Host.Outcome.next (State.smbWrite_otherAddress h),
      congrArg Host.Outcome.next (State.smbRead_otherAddress h), fun q => exec_smbSelect_otherAddress h⟩,
    fun s x d h => ?smbus, fun s => rfl,
    fun s => ⟨fun h => congrArg Host.Outcome.next (if_pos h), fun h => congrArg Host.Outcome.next (if_neg (ne_true_of_eq_false h))⟩,
    fun s o h => ⟨congrArg Host.Outcome.next (State.commandTimeout_none h), congrArg Host.Outcome.next (State.relayTimeout_none h)⟩,
    fun s o e dst f h hr ho hw => ⟨congrArg Host.Outcome.next (State.commandTimeout_relay h hr ho hw),
      congrArg Host.Outcome.next (State.relayTimeout_relay h hr ho hw)⟩⟩
  case request =>
    have hreq := State.commandMsg_request (s := s) (src := h) hr
    exact ⟨fun hon => congrArg Host.Outcome.next (hreq.trans (if_pos ((s.on_iff_rd_ne_zero _).mpr hon))),
      fun hoff => congrArg Host.Outcome.next (hreq.trans (if_neg (State.not_on hoff)))⟩
  case control =>
    refine ⟨fun hd => congrArg Host.Outcome.next (State.sendCommand_short h hd), fun hd hn => congrArg Host.Outcome.next ?_,
      fun hd hn => congrArg Host.Outcome.next ?_⟩
    · rw [State.sendCommand_complete h hd, if_neg (not_not_intro hn)]
    · rw [State.sendCommand_complete h hd, if_pos hn]
      rfl
  case bulk =>
    refine ⟨congrArg Host.Outcome.next (State.bulkFrame_more h), fun hb => congrArg Host.Outcome.next ?_, fun hb => congrArg Host.Outcome.next ?_⟩
    · rw [State.bulkFrame_last h rfl, if_neg (ne_true_of_eq_false hb)]
    · rw [State.bulkFrame_last h rfl, if_pos hb]
  case smbus =>
    exact ⟨fun hp => ⟨congrArg Host.Outcome.next (State.smbWrite_badPec h rfl hp), congrArg Host.Outcome.next (State.smbWrite_badPec h rfl hp)⟩,
      congrArg Host.Outcome.next (State.smbWrite_start h rfl), fun hp => congrArg Host.Outcome.next (State.smbWrite_nothingToContinue h rfl hp),
      fun hp => congrArg Host.Outcome.next (State.smbWrite_continue h rfl hp), fun hr hl => congrArg Host.Outcome.next (State.smbRead_nothing h rfl hr hl),
      fun q r l hr hl => ⟨fun hlen => congrArg Host.Outcome.next (State.smbRead_last h rfl hr hl hlen),
        fun hlen => congrArg Host.Outcome.next (State.smbRead_first h rfl hr hl hlen)⟩,
      fun q => congrArg Host.Outcome.next (if_pos h)⟩

end Sys2Proof.Machine
end

section
/-!
What every command leaves of the hub's history, the state at reset, and the tick of the time counter.
-/

namespace Sys2Proof.Machine

/-- No command stops the machine. -/
theorem exec_completes (c : Instr) (s : State) : ∃ t, exec c s = .next t := by
  cases c
  all_goals exact ⟨_, rfl⟩

/-- Settles O4: every command answers a state, and every answered state keeps the history (`exec_keeps`). -/
theorem commandsCompleteAndKeepHistory : Obligations.CommandsCompleteAndKeepHistory := by
  intro c s
  obtain ⟨t, ht⟩ := exec_completes c s
  have hk := exec_keeps s t c ht
  exact ⟨t, ht, hk.pending, hk.out, hk.uptime, hk.imgMin, hk.patchMin⟩

/-- Refutes O2: its last clause speaks of CL_CRED_INIT of every port and class number, and the address formula carries class 0x2FFFF0 of port 0 to MC_CFG,
which resets to 0x0000_00F0. -/
theorem not_resetLeavesTheHubHeld : ¬ Obligations.ResetLeavesTheHubHeld := by
  rintro ⟨-, -, -, -, -, -, -, -, -, -, hcfg, -, -, -, hcred⟩
  have haddr : (CL_CRED_INIT.INIT 0 0x2FFFF0).addr = MC_CFG := rfl
  have h := hcred 0 0x2FFFF0
  rw [State.rd, haddr, hcfg] at h
  exact absurd h (by decide)

/-! ### The time counter -/

@[simp] theorem State.time_endSlew (s : State) : s.endSlew.time = s.time := rfl

@[simp] theorem State.time_ppsRise (s : State) : s.ppsRise.time = s.time := by
  rw [State.ppsRise]
  split <;> rfl

theorem State.time_addTicks (s : State) (n : Nat) :
    (s.addTicks n).time = s.time.add (s.incEffective * n / 2 ^ 32) (s.incEffective * n % 2 ^ 32) := by
  simp only [State.addTicks]
  split
  · rw [State.time_ppsRise]
  · rfl

theorem State.time_timeTick (s : State) :
    s.timeTick.time = s.time.add (s.rd TM_INC_EFF_NS.NS) (s.rd TM_INC_EFF_FRAC.FRAC) := by
  have hfrac : s.rd TM_INC_EFF_FRAC.FRAC < 2 ^ 32 := s.rd_lt TM_INC_EFF_FRAC.FRAC
  have hns : s.incEffective * 1 / 2 ^ 32 = s.rd TM_INC_EFF_NS.NS := by rw [State.incEffective]; omega
  have hfr : s.incEffective * 1 % 2 ^ 32 = s.rd TM_INC_EFF_FRAC.FRAC := by rw [State.incEffective]; omega
  have htime := s.time_addTicks 1
  rw [hns, hfr] at htime
  rw [State.timeTick]
  split
  · rw [State.time_endSlew, htime]
  · exact htime

/-- Settles O8: a tick is one addition of the increment, which is below 16 ns, so the nanoseconds carry at most once. -/
theorem timeCounterAddsItsIncrement : Obligations.TimeCounterAddsItsIncrement := by
  refine ⟨rfl, fun s hns hfrac hsec => ?_⟩
  have hincNs : s.rd TM_INC_EFF_NS.NS < 2 ^ 4 := s.rd_lt TM_INC_EFF_NS.NS
  have hincFrac : s.rd TM_INC_EFF_FRAC.FRAC < 2 ^ 32 := s.rd_lt TM_INC_EFF_FRAC.FRAC
  simp only [State.time_timeTick, Time.add]
  refine ⟨trivial, ?_, ?_, ?_, fun hlow => ?_, fun hhigh => ?_⟩ <;> omega

end Sys2Proof.Machine
end

section
/-!
The eFuse channels: what the shared operations of R331 to R335 leave in EF_STAT, and the commands built from them.
-/

namespace Sys2Proof.Machine

/-! ### EF_STAT after the shared operations -/

theorem State.efClosed_iff {s : State} {n : Nat} : s.efClosed n = true ↔ s.rd (EF_STAT.STATE n) = 3 ∨ s.rd (EF_STAT.STATE n) = 4 := decide_eq_true_iff

theorem efMain_iff {n : Nat} : efMain n = true ↔ 6 ≤ n := decide_eq_true_iff

theorem State.rd_setPg_apart (s : State) (n v : Nat) {g : Fld} (h : g.addr ≠ EF_STAT n ∨ g.lo + g.width ≤ 3 ∨ 4 ≤ g.lo) :
    (s.setPg n v).rd g = s.rd g := by
  have hwr : (s.wr (EF_STAT.PG n) v).rd g = s.rd g := s.rd_wr_ne _ _ _ h
  rw [State.setPg]
  split <;> exact hwr

theorem State.rd_pg_setPg (s : State) (n v : Nat) : (s.setPg n v).rd (EF_STAT.PG n) = v % 2 := by
  have hwr : (s.wr (EF_STAT.PG n) v).rd (EF_STAT.PG n) = v % 2 := s.rd_wr_self (EF_STAT.PG n) v (by decide : 3 + 1 ≤ 32)
  rw [State.setPg]
  split <;> exact hwr

theorem State.rd_gateOff_apart (s : State) (n : Nat) {g : Fld} (h : g.addr ≠ EF_STAT n ∨ g.lo + g.width ≤ 3 ∨ 5 ≤ g.lo) :
    (s.gateOff n).rd g = s.rd g := by
  have hlim : g.addr ≠ EF_STAT n ∨ g.lo + g.width ≤ 4 ∨ 5 ≤ g.lo := by omega
  have hpg : ((s.send (.pin 6 n 0)).setPg n 0).rd g = s.rd g := (s.send (.pin 6 n 0)).rd_setPg_apart n 0 (by omega)
  refine (State.rd_wr_ne _ (EF_STAT.LIMITING n) g 0 hlim).trans ?_
  split <;> exact hpg

theorem State.rd_pg_gateOff (s : State) (n : Nat) : (s.gateOff n).rd (EF_STAT.PG n) = 0 := by
  have hpg : ((s.send (.pin 6 n 0)).setPg n 0).rd (EF_STAT.PG n) = 0 := State.rd_pg_setPg _ n 0
  refine (State.rd_wr_ne _ (EF_STAT.LIMITING n) (EF_STAT.PG n) 0 (.inr (.inl (Nat.le_refl 4)))).trans ?_
  split <;> exact hpg

theorem State.rd_limiting_gateOff (s : State) (n : Nat) : (s.gateOff n).rd (EF_STAT.LIMITING n) = 0 :=
  State.rd_wr_self _ (EF_STAT.LIMITING n) 0 (by decide : 4 + 1 ≤ 32)

@[simp] theorem State.uptime_gateOff (s : State) (n : Nat) : (s.gateOff n).uptime = s.uptime := by
  simp only [State.gateOff, State.setPg]
  split <;> rfl

@[simp] theorem State.uptime_setPg (s : State) (n v : Nat) : (s.setPg n v).uptime = s.uptime := by
  rw [State.setPg]
  split <;> rfl

@[simp] theorem State.ef_setPg (s : State) (n v m : Nat) : (s.setPg n v).ef m = s.ef m := by
  rw [State.setPg]
  split <;> rfl

theorem State.rd_setEf_apart (s : State) (n st : Nat) {g : Fld} (h : g.addr ≠ EF_STAT n ∨ 3 ≤ g.lo ∧ (g.lo + g.width ≤ 6 ∨ 7 ≤ g.lo)) :
    (s.setEf n st).rd g = s.rd g := by
  have hstate : (s.wr (EF_STAT.STATE n) st).rd g = s.rd g := s.rd_wr_ne (EF_STAT.STATE n) g st (h.imp_right fun hlo => .inr hlo.1)
  rw [State.setEf, State.showInput]
  split
  · exact (State.rd_wr_ne _ (EF_STAT.INPUT_VALID n) g _ (h.imp_right And.right)).trans hstate
  · exact hstate

theorem State.rd_state_setEf (s : State) (n st : Nat) : (s.setEf n st).rd (EF_STAT.STATE n) = st % 8 := by
  have hstate : (s.wr (EF_STAT.STATE n) st).rd (EF_STAT.STATE n) = st % 8 := s.rd_wr_self (EF_STAT.STATE n) st (by decide : 0 + 3 ≤ 32)
  rw [State.setEf, State.showInput]
  split
  · exact (State.rd_wr_ne _ (EF_STAT.INPUT_VALID n) (EF_STAT.STATE n) _ (.inr (.inl (by decide : 0 + 3 ≤ 6)))).trans hstate
  · exact hstate

@[simp] theorem State.efs_setEf (s : State) (n st : Nat) : (s.setEf n st).efs = s.efs := by
  rw [State.setEf, State.showInput]
  split <;> rfl

theorem efStat_notLatchEvent (n : Fin 8) : EF_STAT n ∉ eventRegs (Ev.EF_LATCH n) := by
  revert n
  decide

theorem efStat_notHeldEvent (k : Fin 2) : EF_STAT (6 + k) ∉ eventRegs (Ev.EF_INS_HELD (6 + k)) := by
  revert k
  decide

/-! ### A trip (R335) -/

/-- The channel with its gate off, TRIPS counted and the retry timer started: a trip before it goes to Tripped or Latched. -/
def State.tripped (s : State) (n : Nat) : State :=
  let t := (s.gateOff n).satAdd (EF_STAT.TRIPS n) 1
  t.modEf n fun x => { x with faultAcc := 0, retryEnd := some (t.uptime + max 1 (t.rd (EF_CFG.RETRY_T n)) * 1000000000) }

theorem State.tripChannel_eq (s : State) (n : Nat) :
    s.tripChannel n = if (s.tripped n).tripsOver n then ((s.tripped n).setEf n 7).raise (Ev.EF_LATCH n) else (s.tripped n).setEf n 6 := rfl

theorem State.rd_tripped (s : State) (n : Nat) (g : Fld) :
    (s.tripped n).rd g = ((s.gateOff n).wr (EF_STAT.TRIPS n) (min (2 ^ 4 - 1) ((s.gateOff n).rd (EF_STAT.TRIPS n) + 1))).rd g := by
  rw [State.tripped, State.modEf_rd, State.satAdd]
  rfl

theorem State.rd_tripped_apart (s : State) (n : Nat) {g : Fld} (h : g.addr ≠ EF_STAT n ∨ g.lo + g.width ≤ 3) : (s.tripped n).rd g = s.rd g := by
  rw [State.rd_tripped, State.rd_wr_ne _ (EF_STAT.TRIPS n) g _ (h.imp_right fun hlo => .inl (hlo.trans (by decide : 3 ≤ 8)))]
  exact s.rd_gateOff_apart n (h.imp_right .inl)

theorem State.rd_pg_tripped (s : State) (n : Nat) : (s.tripped n).rd (EF_STAT.PG n) = 0 := by
  rw [State.rd_tripped, State.rd_wr_ne _ (EF_STAT.TRIPS n) (EF_STAT.PG n) _ (.inr (.inl (by decide : 3 + 1 ≤ 8))), State.rd_pg_gateOff]

theorem State.rd_limiting_tripped (s : State) (n : Nat) : (s.tripped n).rd (EF_STAT.LIMITING n) = 0 := by
  rw [State.rd_tripped, State.rd_wr_ne _ (EF_STAT.TRIPS n) (EF_STAT.LIMITING n) _ (.inr (.inl (by decide : 4 + 1 ≤ 8))), State.rd_limiting_gateOff]

theorem State.rd_trips_tripped (s : State) (n : Nat) : (s.tripped n).rd (EF_STAT.TRIPS n) = min 15 (s.rd (EF_STAT.TRIPS n) + 1) := by
  have hcount : (s.gateOff n).rd (EF_STAT.TRIPS n) = s.rd (EF_STAT.TRIPS n) := s.rd_gateOff_apart n (.inr (.inr (by decide : 5 ≤ 8)))
  rw [State.rd_tripped, State.rd_wr_self _ (EF_STAT.TRIPS n) _ (by decide : 8 + 4 ≤ 32), hcount]
  exact Nat.mod_eq_of_lt (by omega : min (2 ^ 4 - 1) (s.rd (EF_STAT.TRIPS n) + 1) < 2 ^ 4)

theorem State.ef_tripped (s : State) (n : Nat) :
    ((s.tripped n).ef n).retryEnd = some (s.uptime + max 1 (s.rd (EF_CFG.RETRY_T n)) * 1000000000) := by
  have hretry : (s.tripped n).rd (EF_CFG.RETRY_T n) = s.rd (EF_CFG.RETRY_T n) :=
    s.rd_tripped_apart n (.inl (by simp [EF_CFG.RETRY_T, EF_CFG, EF_STAT]))
  rw [State.tripped, State.modEf_rd] at hretry
  rw [State.tripped, State.ef_modEf, hretry, State.satAdd, State.wr_uptime, State.uptime_gateOff]

theorem State.tripsOver_tripped (s : State) (n : Nat) :
    (s.tripped n).tripsOver n = true ↔
      s.rd (EF_CFG.RETRY_MAX n) ≠ 15 ∧ s.rd (EF_CFG.RETRY_MAX n) < min 15 (s.rd (EF_STAT.TRIPS n) + 1) := by
  have hmax : (s.tripped n).rd (EF_CFG.RETRY_MAX n) = s.rd (EF_CFG.RETRY_MAX n) :=
    s.rd_tripped_apart n (.inl (by simp [EF_CFG.RETRY_MAX, EF_CFG, EF_STAT]))
  rw [State.tripsOver, decide_eq_true_iff, hmax, s.rd_trips_tripped]

/-- A field of EF_STAT that neither STATE nor INPUT_VALID holds, after a trip. -/
theorem State.rd_tripChannel (s : State) (n : Fin 8) {g : Fld} (ha : g.addr = EF_STAT n) (h : 3 ≤ g.lo ∧ (g.lo + g.width ≤ 6 ∨ 7 ≤ g.lo)) :
    (s.tripChannel n).rd g = (s.tripped n).rd g := by
  rw [State.tripChannel_eq]
  split
  · rw [State.rd_raise _ _ _ (ha ▸ efStat_notLatchEvent n), State.rd_setEf_apart _ _ _ (.inr h)]
  · exact State.rd_setEf_apart _ _ _ (.inr h)

theorem State.rd_state_tripChannel (s : State) (n : Fin 8) :
    (s.tripChannel n).rd (EF_STAT.STATE n) = if (s.tripped n).tripsOver n then 7 else 6 := by
  rw [State.tripChannel_eq]
  split
  · rw [State.rd_raise _ _ _ (efStat_notLatchEvent n), State.rd_state_setEf]
  · rw [State.rd_state_setEf]

theorem State.ef_tripChannel (s : State) (n m : Nat) : (s.tripChannel n).ef m = (s.tripped n).ef m := by
  rw [State.tripChannel_eq]
  split <;> simp [State.ef]

/-- Settles O9: each field of EF_STAT through the gate, the count and the state change of a trip (that TRIPS saturates is assumption row 30). -/
theorem channelTripOpensAndCounts : Obligations.ChannelTripOpensAndCounts := by
  intro s n
  have hpg := (s.rd_tripChannel n (g := EF_STAT.PG n) rfl (by decide : 3 ≤ 3 ∧ (3 + 1 ≤ 6 ∨ 7 ≤ 3))).trans (s.rd_pg_tripped n)
  have hlim := (s.rd_tripChannel n (g := EF_STAT.LIMITING n) rfl (by decide : 3 ≤ 4 ∧ (4 + 1 ≤ 6 ∨ 7 ≤ 4))).trans (s.rd_limiting_tripped n)
  have htrips := (s.rd_tripChannel n (g := EF_STAT.TRIPS n) rfl (by decide : 3 ≤ 8 ∧ (8 + 4 ≤ 6 ∨ 7 ≤ 8))).trans (s.rd_trips_tripped n)
  refine ⟨hpg, hlim, htrips, ?_, ?_⟩
  · exact (s.rd_state_tripChannel n).trans (if_congr (s.tripsOver_tripped n) rfl rfl)
  · rw [State.ef_tripChannel, State.ef_tripped]

/-! ### Faults that trip (R329 to R333, R340) -/

theorem State.breaker_eq (s : State) (n : Nat) : s.breaker n = if 6 ≤ n then s.tripChannel n else (s.tripChannel n).pdTrip n :=
  if_congr efMain_iff rfl rfl

theorem State.breaker_vbus (s : State) (n : Fin 6) : s.breaker n = (s.tripChannel n).pdTrip n :=
  (s.breaker_eq n).trans (if_neg (by omega))

theorem State.breaker_main (s : State) (k : Fin 2) : s.breaker (6 + k) = s.tripChannel (6 + k) :=
  (s.breaker_eq (6 + k)).trans (if_pos (by omega))

section
variable {s : State}

theorem exec_shortCircuit_live {n : Fin 8} (h : s.rd (EF_STAT.STATE n) = 2 ∨ s.rd (EF_STAT.STATE n) = 3 ∨ s.rd (EF_STAT.STATE n) = 4) :
    exec (.shortCircuit n) s = .next ((s.raise (Ev.EF_SHORT n)).breaker n) :=
  congrArg Host.Outcome.next (if_pos (by rw [State.efClosed_iff]; exact h.symm))

theorem exec_shortCircuit_idle {n : Fin 8} (h2 : s.rd (EF_STAT.STATE n) ≠ 2) (h3 : s.rd (EF_STAT.STATE n) ≠ 3) (h4 : s.rd (EF_STAT.STATE n) ≠ 4) :
    exec (.shortCircuit n) s = .next s :=
  congrArg Host.Outcome.next (if_neg fun h => h.elim (fun hc => (State.efClosed_iff.mp hc).elim h3 h4) h2)

theorem State.reverseSeen_iff {n : Nat} : s.reverseSeen n = true ↔ ∀ t, (s.ef n).orientAt = some t → t + 10000000 ≤ s.uptime := by
  rw [State.reverseSeen]
  cases (s.ef n).orientAt with
  | none => simp
  | some t => simp

theorem exec_limitStart_open {n : Fin 8} {g : Fin 10000} (h3 : s.rd (EF_STAT.STATE n) ≠ 3) (h4 : s.rd (EF_STAT.STATE n) ≠ 4) :
    exec (.limitStart ⟨n, g⟩) s = .next s :=
  congrArg Host.Outcome.next (if_pos fun hc => (State.efClosed_iff.mp hc).elim h3 h4)

/-- The fault timer of a limiting channel goes on without the pause; one that does not limit starts at 0. -/
theorem State.limitAcc_eq (n g : Nat) :
    (if s.on (EF_STAT.LIMITING n) then s.limitTime n - g * 1000 else 0) =
      if s.rd (EF_STAT.LIMITING n) = 0 then 0 else (s.ef n).faultAcc + (s.uptime - (s.ef n).limitFrom) - g * 1000 := by
  by_cases h : s.rd (EF_STAT.LIMITING n) = 0
  · rw [if_pos h, if_neg (State.not_on h)]
  · rw [if_neg h, if_pos ((s.on_iff_rd_ne_zero _).mpr h)]
    rfl

theorem exec_limitStart_closed {n : Fin 8} {g : Fin 10000} (h : s.rd (EF_STAT.STATE n) = 3 ∨ s.rd (EF_STAT.STATE n) = 4) :
    exec (.limitStart ⟨n, g⟩) s = .next (((s.wr (EF_STAT.LIMITING n) 1).setPg n 0).modEf n fun x => { x with
      faultAcc := if s.rd (EF_STAT.LIMITING n) = 0 then 0 else (s.ef n).faultAcc + (s.uptime - (s.ef n).limitFrom) - g * 1000, limitFrom := s.uptime }) := by
  rw [← State.limitAcc_eq]
  exact congrArg Host.Outcome.next (if_neg (not_not_intro (State.efClosed_iff.mpr h)))

end

/-- Settles O10, clause by clause: short circuit, fault timer, reverse current, pre-charge, and the start of limiting (assumption row 160). -/
theorem channelFaultsTrip : Obligations.ChannelFaultsTrip := by
  refine ⟨fun s n h => ?_, fun s n h2 h3 h4 => exec_shortCircuit_idle h2 h3 h4, fun s n h => ?_, fun s n h => ?_, fun s n h ho => ?_,
    fun s n h3 h4 => ?_, fun s n t ht hlt => ?_, fun s k h => ?_, fun s k h => ?_, fun s n h3 h4 g => exec_limitStart_open h3 h4,
    fun s n g h => exec_limitStart_closed h⟩
  · rw [exec_shortCircuit_live h, State.breaker_eq]
  · rw [← State.breaker_eq]
    exact congrArg Host.Outcome.next (if_pos ((s.on_iff_rd_ne_zero _).mpr h))
  · exact congrArg Host.Outcome.next (if_neg (State.not_on h))
  · rw [← State.breaker_vbus]
    exact congrArg Host.Outcome.next (if_pos ⟨State.efClosed_iff.mpr h, State.reverseSeen_iff.mpr ho⟩)
  · exact congrArg Host.Outcome.next (if_neg fun hc => (State.efClosed_iff.mp hc.1).elim h3 h4)
  · exact congrArg Host.Outcome.next (if_neg fun hc => Nat.not_le.mpr hlt (State.reverseSeen_iff.mp hc.2 t ht))
  · rw [← State.breaker_main]
    exact congrArg Host.Outcome.next (if_pos h)
  · exact congrArg Host.Outcome.next (if_neg h)

/-! ### The main inputs (R333, R334, R336) -/

/-- A window fault of a main channel before it changes state: out of the window, the timers cleared, every transistor off. -/
def State.outOfWindow (s : State) (n : Nat) : State :=
  ((s.wr (EF_STAT.IN_WIN n) 0).modEf n fun x => { x with debounced := false, faultAcc := 0 }).gateOff n

theorem State.rd_state_outOfWindow (s : State) (n : Nat) : (s.outOfWindow n).rd (EF_STAT.STATE n) = s.rd (EF_STAT.STATE n) :=
  (State.rd_gateOff_apart _ n (g := EF_STAT.STATE n) (.inr (.inl (Nat.le_refl 3)))).trans (s.rd_wr_ne (EF_STAT.IN_WIN n) (EF_STAT.STATE n) 0 (.inr (.inl (by decide : 0 + 3 ≤ 7))))

theorem exec_windowFault {s : State} {k : Fin 2} {above : Bool} (h : s.rd (EF_STAT.IN_WIN (6 + k)) ≠ 0) :
    exec (.windowFault k above) s = .next
      ((if s.rd (EF_STAT.STATE (6 + k)) = 2 ∨ s.rd (EF_STAT.STATE (6 + k)) = 3 then (s.outOfWindow (6 + k)).setEf (6 + k) 1
        else if s.rd (EF_STAT.STATE (6 + k)) = 4 ∨ s.rd (EF_STAT.STATE (6 + k)) = 5 then (s.outOfWindow (6 + k)).setEf (6 + k) 0
        else (s.outOfWindow (6 + k)).showInput (6 + k)).raise (if above then Ev.EF_OV (6 + k) else Ev.EF_UV (6 + k))) := by
  rw [← State.rd_state_outOfWindow]
  exact congrArg Host.Outcome.next (if_neg (State.not_not_on h))

theorem exec_windowEnter_enabled {s : State} {k : Fin 2} (he : s.rd (EF_CFG.EN (6 + k)) ≠ 0) (hst : s.rd (EF_STAT.STATE (6 + k)) < 2) :
    exec (.windowEnter k) s =
      .next (((s.wr (EF_STAT.IN_WIN (6 + k)) 1).modEf (6 + k) fun x => { x with debounced := false }).setEf (6 + k) 1) := by
  have hen : (s.wr (EF_STAT.IN_WIN (6 + k)) 1).rd (EF_CFG.EN (6 + k)) = s.rd (EF_CFG.EN (6 + k)) :=
    s.rd_wr_ne _ _ _ (.inl (by simp [EF_CFG.EN, EF_CFG, EF_STAT.IN_WIN, EF_STAT]))
  have hstate : (s.wr (EF_STAT.IN_WIN (6 + k)) 1).rd (EF_STAT.STATE (6 + k)) = s.rd (EF_STAT.STATE (6 + k)) :=
    s.rd_wr_ne _ _ _ (.inr (.inl (by decide : 0 + 3 ≤ 7)))
  exact congrArg Host.Outcome.next (if_pos ⟨(State.on_iff_rd_ne_zero _ _).mpr (hen.trans_ne he), hstate.trans_lt hst⟩)

section
variable {s : State} {k : Fin 2} (hw : s.rd (EF_STAT.IN_WIN (6 + k)) ≠ 0) (he : s.rd (EF_CFG.EN (6 + k)) ≠ 0)
  (hd : (s.ef (6 + k)).debounced = false)
include hw he hd

/-- The end of the debounce time of a channel that is inside its window, enabled, and not yet debounced. -/
theorem exec_insertionDebounce_first :
    exec (.insertionDebounce k) s =
      let t := s.modEf (6 + k) fun x => { x with debounced := true }
      .next (if (t.ef (6 + k)).retryEnd.isSome then t.raise (Ev.EF_INS_HELD (6 + k))
        else if t.efState (6 + k) = 1 then t.precharge (6 + k) else t) := by
  refine congrArg Host.Outcome.next (if_neg ?_)
  rintro (hno | hno | hdeb)
  · exact hno ((s.on_iff_rd_ne_zero _).mpr hw)
  · exact hno ((s.on_iff_rd_ne_zero _).mpr he)
  · exact ne_true_of_eq_false hd hdeb

theorem exec_insertionDebounce_held (hr : (s.ef (6 + k)).retryEnd ≠ none) :
    exec (.insertionDebounce k) s = .next ((s.modEf (6 + k) fun x => { x with debounced := true }).raise (Ev.EF_INS_HELD (6 + k))) := by
  rw [exec_insertionDebounce_first hw he hd]
  refine congrArg Host.Outcome.next (if_pos ?_)
  rw [State.ef_modEf]
  exact Option.isSome_iff_ne_none.mpr hr

theorem exec_insertionDebounce_starts (hr : (s.ef (6 + k)).retryEnd = none) (hst : s.rd (EF_STAT.STATE (6 + k)) = 1) :
    exec (.insertionDebounce k) s = .next ((s.modEf (6 + k) fun x => { x with debounced := true }).precharge (6 + k)) := by
  rw [exec_insertionDebounce_first hw he hd]
  have hnone : ¬ (((s.modEf (6 + k) fun x => { x with debounced := true }).ef (6 + k)).retryEnd.isSome = true) := by
    rw [State.ef_modEf]
    exact Option.not_isSome_iff_eq_none.mpr hr
  exact congrArg Host.Outcome.next ((if_neg hnone).trans (if_pos hst))

end

/-- Settles O11, clause by clause: window, debounce, pre-charge, reverse block and its release, window fault. -/
theorem mainInputSequence : Obligations.MainInputSequence := by
  refine ⟨fun s k he hst => exec_windowEnter_enabled he hst, fun s k hw he hd hr => exec_insertionDebounce_held hw he hd hr,
    fun s k hw he hd hr hst => exec_insertionDebounce_starts hw he hd hr hst, fun s k h => congrArg Host.Outcome.next (if_pos h),
    fun s k h => congrArg Host.Outcome.next (if_pos h), fun s k h => congrArg Host.Outcome.next (if_pos h), fun s k above hw => ⟨fun h => ?_, fun h => ?_⟩⟩
  · rw [exec_windowFault hw, if_pos h]
    rfl
  · rw [exec_windowFault hw, if_neg (by omega), if_pos h]
    rfl

/-! ### The VBUS channels, recovery and the inputs (R309, R330 to R336) -/

section
variable {s : State}

theorem exec_channelClose_open {n : Fin 6} {o : Fin 2} (he : s.rd (EF_CFG.EN n) ≠ 0) (hst : s.rd (EF_STAT.STATE n) < 3) :
    exec (.channelClose n o) s = .next (((s.setOrient n o).setEf n 3).send (.pin 6 n 1)) := by
  have henabled : ¬ (¬ s.on (EF_CFG.EN n) = true ∨ 6 ≤ s.rd (EF_STAT.STATE n)) := fun h => h.elim (State.not_not_on he) (by omega)
  have hopen : ¬ s.efClosed n = true := fun h => by have := State.efClosed_iff.mp h; omega
  exact congrArg Host.Outcome.next ((if_neg henabled).trans (if_neg hopen))

theorem exec_pgRise_closed {n : Fin 8} (h : s.rd (EF_STAT.STATE n) = 3 ∨ s.rd (EF_STAT.STATE n) = 4) :
    let u := (s.wr (EF_STAT.LIMITING n) 0).modEf n fun x => { x with faultAcc := 0 }
    exec (.pgRise n) s = .next ((if 6 ≤ n.val then u.send (.pin 7 n 0) else u).setEf n 4 |>.setPg n 1) := by
  refine congrArg Host.Outcome.next ((if_pos (State.efClosed_iff.mpr h)).trans ?_)
  exact congrArg (fun t => (State.setEf t n 4).setPg n 1) (if_congr efMain_iff rfl rfl)

theorem exec_retryTimerExpire_latches {n : Fin 8} (hr : (s.ef n).retryEnd.isSome) (hst : s.rd (EF_STAT.STATE n) = 6)
    (hmax : s.rd (EF_CFG.RETRY_MAX n) ≠ 15) (hover : s.rd (EF_CFG.RETRY_MAX n) < s.rd (EF_STAT.TRIPS n)) :
    exec (.retryTimerExpire n) s = .next (((s.modEf n fun x => { x with retryEnd := none }).setEf n 7).raise (Ev.EF_LATCH n)) := by
  have hruns : ¬ (s.ef n).retryEnd.isNone = true := by
    rw [Option.isNone_iff_eq_none]
    exact Option.isSome_iff_ne_none.mp hr
  exact congrArg Host.Outcome.next ((if_neg hruns).trans ((if_neg (not_not_intro hst)).trans (if_pos (decide_eq_true ⟨hmax, hover⟩))))

theorem exec_inputValidChange_same (h : s.rd (EF_STAT.INPUT_VALID 6) + 2 * s.rd (EF_STAT.INPUT_VALID 7) = s.rd PDB_STAT.IN_VALID) :
    exec .inputValidChange s = .next s := by
  have hsame : s.inputsChanged = s := if_pos h
  refine congrArg Host.Outcome.next ?_
  rw [hsame]
  exact if_neg (ne_true_of_eq_false (decide_eq_false (not_not_intro h)))

theorem exec_inputValidChange_other (h : s.rd (EF_STAT.INPUT_VALID 6) + 2 * s.rd (EF_STAT.INPUT_VALID 7) ≠ s.rd PDB_STAT.IN_VALID)
    (hv : s.rd (EF_STAT.INPUT_VALID 6) + 2 * s.rd (EF_STAT.INPUT_VALID 7) ≠ 0) :
    exec .inputValidChange s =
      .next (((s.wr PDB_STAT.IN_VALID (s.rd (EF_STAT.INPUT_VALID 6) + 2 * s.rd (EF_STAT.INPUT_VALID 7))).budget).wakeEvent 19 false) := by
  have hchanged : s.inputsChanged = (s.wr PDB_STAT.IN_VALID (s.rd (EF_STAT.INPUT_VALID 6) + 2 * s.rd (EF_STAT.INPUT_VALID 7))).budget :=
    (if_neg h).trans (congrArg State.budget (if_neg fun hc => hv hc.1))
  refine congrArg Host.Outcome.next ?_
  rw [hchanged]
  exact if_pos (decide_eq_true h)

end

/-- Settles O12, clause by clause: the PD side's close and open, power-good, the timers, TRIPS and the inputs. -/
theorem channelClosesOpensAndRecovers : Obligations.ChannelClosesOpensAndRecovers :=
  ⟨fun _ _ _ he hst => exec_channelClose_open he hst, fun _ _ _ => rfl,
    fun _ _ h => congrArg Host.Outcome.next (if_pos (State.efClosed_iff.mpr h)), fun _ _ h => exec_pgRise_closed h, fun _ _ => rfl,
    fun _ _ hr hst hmax hover => exec_retryTimerExpire_latches hr hst hmax hover,
    fun s _ h => congrArg Host.Outcome.next (if_pos ((s.on_iff_rd_ne_zero _).mpr h)),
    fun _ h => exec_inputValidChange_same h, fun _ h hv => exec_inputValidChange_other h hv⟩

end Sys2Proof.Machine
end

section
/-!
Resets, the fuse shadow, the reference, the root PLL and the trims (R344 to R356, R374, R510, R511).
-/

namespace Sys2Proof.Machine

/-! ### The balls at reset only send -/

/-- `t` is `s` with more sent. -/
def State.SendsTo (s t : State) : Prop := ∃ sent, t = { s with out := s.out ++ sent }

theorem State.SendsTo.refl (s : State) : s.SendsTo s := ⟨[], by rw [List.append_nil]⟩

theorem State.SendsTo.trans {s t u : State} (hst : s.SendsTo t) (htu : t.SendsTo u) : s.SendsTo u := by
  obtain ⟨l, rfl⟩ := hst
  obtain ⟨m, rfl⟩ := htu
  exact ⟨l ++ m, by rw [← List.append_assoc]⟩

theorem State.SendsTo.flash {s t : State} (h : s.SendsTo t) : t.flash = s.flash := by
  obtain ⟨l, rfl⟩ := h
  rfl

theorem State.SendsTo.fuses {s t : State} (h : s.SendsTo t) : t.fuses = s.fuses := by
  obtain ⟨l, rfl⟩ := h
  rfl

theorem State.SendsTo.pending {s t : State} (h : s.SendsTo t) : t.pending = s.pending := by
  obtain ⟨l, rfl⟩ := h
  rfl

theorem State.SendsTo.uptime {s t : State} (h : s.SendsTo t) : t.uptime = s.uptime := by
  obtain ⟨l, rfl⟩ := h
  rfl

theorem State.sendsTo_send (s : State) (o : Out) : s.SendsTo (s.send o) := ⟨[o], rfl⟩

theorem State.sendsTo_each {s : State} {f : Nat → State → State} (hf : ∀ i t, State.SendsTo t (f i t)) (n : Nat) : s.SendsTo (s.each n f) :=
  State.each_induction (P := fun _ t => s.SendsTo t) (.refl s) (fun i t ht => ht.trans (hf i t)) n

theorem State.SendsTo.mem {s t : State} (h : s.SendsTo t) {o : Out} (ho : o ∈ s.out) : o ∈ t.out := by
  obtain ⟨l, rfl⟩ := h
  exact List.mem_append_left l ho

/-- What one round of a loop that only sends puts out is there at its end. -/
theorem State.mem_out_each {s : State} {f : Nat → State → State} (hf : ∀ i t, State.SendsTo t (f i t)) {o : Out} {k n : Nat} (hk : k < n)
    (ho : ∀ t : State, o ∈ (f k t).out) : o ∈ (s.each n f).out := by
  refine State.each_induction (P := fun i t => k < i → o ∈ t.out) (fun h => absurd h (Nat.not_lt_zero k)) (fun i t ht hki => ?_) n hk
  obtain rfl | hlt := Nat.lt_succ_iff_lt_or_eq.mp hki |>.symm
  · exact ho t
  · exact (hf i t).mem (ht hlt)

theorem State.sendsTo_three (s : State) (a b c : Out) : s.SendsTo (((s.send a).send b).send c) := ⟨[a, b, c], by simp [State.send]⟩

theorem State.mem_out_three (s : State) (a b c : Out) : a ∈ (((s.send a).send b).send c).out ∧ b ∈ (((s.send a).send b).send c).out ∧
    c ∈ (((s.send a).send b).send c).out := by simp

/-- The transmitters of the lanes fall silent. -/
def State.lanesSilent (s : State) : State := s.each 24 fun n t => if t.laneState n = 0 ∨ t.laneState n = 8 then t else t.laneSend n 0

/-- S0 to S31 float. -/
def State.shuntsFloat (s : State) : State := s.each 32 fun n t => t.send (.pin 2 n 2)

/-- The outputs with a pull go low. -/
def State.outputsLow (s : State) : State :=
  let t := s.each 4 fun i t => (t.send (.pin 1 i 0)).send (.pin 4 (i + 1) 0)
  ((t.send (.pin 3 0 0)).send (.pin 3 1 0)).send (.pin 5 0 0)

theorem State.coreBalls_eq (s : State) : s.coreBalls = s.lanesSilent.shuntsFloat.outputsLow := rfl

theorem State.sendsTo_lanesSilent (s : State) : s.SendsTo s.lanesSilent := by
  refine State.sendsTo_each (fun n t => ?_) 24
  split
  · exact .refl t
  · exact t.sendsTo_send _

theorem State.sendsTo_shuntsFloat (s : State) : s.SendsTo s.shuntsFloat := State.sendsTo_each (fun _ t => t.sendsTo_send _) 32

theorem State.sendsTo_outputsLow (s : State) : s.SendsTo s.outputsLow :=
  (State.sendsTo_each (fun _ t => (t.sendsTo_send _).trans (State.sendsTo_send _ _)) 4).trans (State.sendsTo_three _ _ _ _)

theorem State.sendsTo_coreBalls (s : State) : s.SendsTo s.coreBalls :=
  s.sendsTo_lanesSilent.trans ((State.sendsTo_shuntsFloat _).trans (State.sendsTo_outputsLow _))

theorem State.sendsTo_gatesOff (s : State) : s.SendsTo s.gatesOff := State.sendsTo_each (fun _ t => t.sendsTo_three _ _ _) 8

/-- No regulator, VCONN or discharge at the ports. -/
def State.portsOff (s : State) : State := s.each 6 fun p t => ((t.send (.pin 10 p 0)).send (.pin 11 p 0)).send (.pin 15 p 0)

theorem State.resetBalls_eq (s : State) : s.resetBalls = s.gatesOff.coreBalls.portsOff.send (.pin 12 0 1) := rfl

theorem State.sendsTo_portsOff (s : State) : s.SendsTo s.portsOff := State.sendsTo_each (fun _ t => t.sendsTo_three _ _ _) 6

theorem State.sendsTo_resetBalls (s : State) : s.SendsTo s.resetBalls :=
  s.sendsTo_gatesOff.trans ((State.sendsTo_coreBalls _).trans ((State.sendsTo_portsOff _).trans (State.sendsTo_send _ _)))

theorem State.gates_in_resetBalls (s : State) {n : Nat} (hn : n < 8) :
    Out.pin 6 n 0 ∈ s.resetBalls.out ∧ Out.pin 7 n 0 ∈ s.resetBalls.out ∧ Out.pin 8 n 0 ∈ s.resetBalls.out := by
  have hrest : s.gatesOff.SendsTo s.resetBalls := (State.sendsTo_coreBalls _).trans ((State.sendsTo_portsOff _).trans (State.sendsTo_send _ _))
  have hgate : ∀ o, (∀ t : State, o ∈ (((t.send (.pin 6 n 0)).send (.pin 7 n 0)).send (.pin 8 n 0)).out) → o ∈ s.resetBalls.out := fun o ho =>
    hrest.mem (State.mem_out_each (fun _ t => t.sendsTo_three _ _ _) hn ho)
  exact ⟨hgate _ fun t => (t.mem_out_three _ _ _).1, hgate _ fun t => (t.mem_out_three _ _ _).2.1, hgate _ fun t => (t.mem_out_three _ _ _).2.2⟩

theorem State.ports_in_resetBalls (s : State) {p : Nat} (hp : p < 6) : Out.pin 10 p 0 ∈ s.resetBalls.out ∧ Out.pin 11 p 0 ∈ s.resetBalls.out := by
  have hport : ∀ o, (∀ t : State, o ∈ (((t.send (.pin 10 p 0)).send (.pin 11 p 0)).send (.pin 15 p 0)).out) → o ∈ s.resetBalls.out := fun o ho =>
    (State.sendsTo_send _ _).mem (State.mem_out_each (fun _ t => t.sendsTo_three _ _ _) hp ho)
  exact ⟨hport _ fun t => (t.mem_out_three _ _ _).1, hport _ fun t => (t.mem_out_three _ _ _).2.1⟩

theorem State.shunts_in_resetBalls (s : State) {n : Nat} (hn : n < 32) : Out.pin 2 n 2 ∈ s.resetBalls.out := by
  have hrest : s.gatesOff.lanesSilent.shuntsFloat.SendsTo s.resetBalls :=
    (State.sendsTo_outputsLow _).trans ((State.sendsTo_portsOff _).trans (State.sendsTo_send _ _))
  exact hrest.mem (State.mem_out_each (fun _ t => t.sendsTo_send _) hn fun t => List.mem_append_right _ (List.mem_singleton_self _))

/-- What the reset of a hub keeps of a state that differs in what has been sent. -/
theorem State.wiped_of_sendsTo {s t : State} (h : s.SendsTo t) :
    t.wiped.flash = s.flash ∧ t.wiped.fuses = s.fuses ∧ t.wiped.pending = s.pending ∧ t.wiped.uptime = s.uptime ∧ t.wiped.out = t.out :=
  ⟨h.flash, h.fuses, h.pending, h.uptime, rfl⟩

theorem State.wiped_clears (s : State) : s.wiped.clk.phase = .held ∧ s.wiped.regs = [] ∧ s.wiped.mem = [] := ⟨rfl, rfl, rfl⟩

/-- Settles O30, clause by clause: the reset of each source. -/
theorem resetsOfTheHub : Obligations.ResetsOfTheHub := by
  refine ⟨fun s w h => congrArg Host.Outcome.next (if_pos h), fun s w h => congrArg Host.Outcome.next (if_neg h), fun s h => ?supply,
    fun s n => ⟨s.gates_in_resetBalls, s.ports_in_resetBalls, s.shunts_in_resetBalls⟩, fun s h => congrArg Host.Outcome.next (if_neg h),
    fun s hheld haon hw => ?core, fun s h => ?none, fun s => rfl⟩
  case supply =>
    obtain ⟨hheld, hregs, hmem⟩ := s.resetBalls.wiped_clears
    obtain ⟨hflash, hfuses, hpending, huptime, hout⟩ := State.wiped_of_sendsTo s.sendsTo_resetBalls
    exact ⟨s.resetBalls.wiped, congrArg Host.Outcome.next (if_neg h), hheld, hregs, hmem, hflash, hfuses, hpending, huptime, hout⟩
  case core =>
    have hno : ¬ s.clk.warm.isSome = true := by rw [hw]; exact Bool.false_ne_true
    exact congrArg Host.Outcome.next ((if_neg (not_or.mpr ⟨hheld, haon⟩)).trans (if_neg hno))
  case none =>
    refine congrArg Host.Outcome.next ?_
    rw [State.warmReset, h]

/-! ### A warm reset (R352) -/

/-- `t` differs from `s` in registers only. -/
def State.RegsOnly (s t : State) : Prop := t = { s with regs := t.regs }

theorem State.RegsOnly.trans {s t u : State} (hst : s.RegsOnly t) (htu : t.RegsOnly u) : s.RegsOnly u := by
  rw [State.RegsOnly] at *
  rw [htu, hst]

theorem State.regsOnly_wr (s : State) (f : Fld) (v : Nat) : s.RegsOnly (s.wr f v) := rfl

theorem State.regsOnly_wr64 (s : State) (lo hi : Fld) (v : Nat) : s.RegsOnly (s.wr64 lo hi v) := rfl

theorem State.regsOnly_satAdd (s : State) (f : Fld) (n : Nat) : s.RegsOnly (s.satAdd f n) := rfl

theorem State.regsOnly_setRegs : ∀ (l : List Word) (s : State) (a : Nat), s.RegsOnly (s.setRegs a l)
  | [], _, _ => rfl
  | w :: l, s, a => State.RegsOnly.trans (t := s.setReg a w) rfl (State.regsOnly_setRegs l _ _)

theorem State.reg_setRegs_apart {b : Nat} : ∀ (l : List Word) (s : State) (a : Nat), (∀ i, i < l.length → b ≠ a + 4 * i) → (s.setRegs a l).reg b = s.reg b
  | [], _, _, _ => rfl
  | w :: l, s, a, h => by
    have htail : ∀ i, i < l.length → b ≠ a + 4 + 4 * i := fun i hi => by
      have := h (i + 1) (Nat.succ_lt_succ hi)
      omega
    rw [State.setRegs, State.reg_setRegs_apart l _ _ htail, State.reg_setReg_ne _ _ (show b ≠ a from h 0 (Nat.succ_pos _))]

/-- The two key hashes of the fuses in their registers. -/
def State.loadHashes (s : State) (f : Fuses) : State := (s.setRegs (KS_ROMKH 0) (f.romKeyHash.take 12)).setRegs (KS_DBGKH 0) (f.dbgKeyHash.take 12)

theorem State.loadShadow_warm (s : State) :
    s.loadShadow false = ((((s.wr64 DM_UID_LO.UID DM_UID_HI.UID s.fuses.uid).loadHashes s.fuses).wr KS_IMG_MIN.COUNT (2 ^ s.fuses.imgMin - 1)).wr
      KS_PATCH_MIN.COUNT (2 ^ s.fuses.patchMin - 1)).wr KS_FUSE_MISC.DBG_DISABLE s.fuses.dbgDisable.toNat := rfl

theorem State.regsOnly_loadShadow_warm (s : State) : s.RegsOnly (s.loadShadow false) := by
  have hhash : (s.wr64 DM_UID_LO.UID DM_UID_HI.UID s.fuses.uid).RegsOnly ((s.wr64 DM_UID_LO.UID DM_UID_HI.UID s.fuses.uid).loadHashes s.fuses) :=
    (State.regsOnly_setRegs _ _ _).trans (State.regsOnly_setRegs _ _ _)
  rw [State.loadShadow_warm]
  exact (s.regsOnly_wr64 _ _ _).trans (hhash.trans ((State.regsOnly_wr _ _ _).trans ((State.regsOnly_wr _ _ _).trans (State.regsOnly_wr _ _ _))))

theorem State.reg_loadShadow_warm_apart (s : State) {a : Nat} (hlo : a ≠ DM_UID_LO) (hhi : a ≠ DM_UID_HI) (himg : a ≠ KS_IMG_MIN)
    (hpatch : a ≠ KS_PATCH_MIN) (hmisc : a ≠ KS_FUSE_MISC) (hkeys : ∀ i, i < 12 → a ≠ KS_ROMKH 0 + 4 * i ∧ a ≠ KS_DBGKH 0 + 4 * i) :
    (s.loadShadow false).reg a = s.reg a := by
  have hlen : ∀ (l : List Word) (i : Nat), i < (l.take 12).length → i < 12 := fun l i hi => by
    rw [List.length_take] at hi
    omega
  rw [State.loadShadow_warm, State.reg_wr_ne _ _ _ hmisc, State.reg_wr_ne _ _ _ hpatch, State.reg_wr_ne _ _ _ himg, State.loadHashes,
    State.reg_setRegs_apart _ _ _ fun i hi => (hkeys i (hlen _ i hi)).2, State.reg_setRegs_apart _ _ _ fun i hi => (hkeys i (hlen _ i hi)).1,
    State.wr64, State.reg_wr_ne _ _ _ hhi, State.reg_wr_ne _ _ _ hlo]

theorem State.reg_pllsOff (s : State) {a : Nat} (h : a ≠ CK_STAT) : s.pllsOff.reg a = s.reg a := by
  rw [State.pllsOff, State.reg_wr_ne _ _ _ h, State.reg_wr_ne _ _ _ h, State.reg_wr_ne _ _ _ h, State.reg_wr_ne _ _ _ h, State.reg_wr_ne _ _ _ h]

theorem State.regsOnly_pllsOff (s : State) : s.RegsOnly s.pllsOff := rfl

/-- A warm reset before the fuse shadow is loaded. -/
def State.warmWiped (s : State) : State :=
  { s.coreBalls.wiped with
    regs := s.regs.filter (fun e => warmKeeps e.1)
    clk := { s.clk with warm := none, phase := .aon, ramps := [] }
    pds := s.pds
    efs := s.efs }

/-- The power-state controller is back in H0 (R372). -/
def State.powerIdle (s : State) : State := ((s.wr PS_STAT.STATE 0).wr PS_STAT.ENTERING 0).wr PS_STAT.WAKING 0

theorem State.regsOnly_powerIdle (s : State) : s.RegsOnly s.powerIdle := rfl

theorem State.warmReset_of_request {s : State} {c : Nat} (h : s.clk.warm = some c) :
    s.warmReset = ((s.warmWiped.loadShadow false).pllsOff.powerIdle.wr GC_RST_CAUSE.LAST c).satAdd GC_RST_CAUSE.WARM_CNT 1 := by
  rw [State.warmReset, h]
  rfl

theorem State.regsOnly_warmReset {s : State} {c : Nat} (h : s.clk.warm = some c) : s.warmWiped.RegsOnly s.warmReset := by
  rw [State.warmReset_of_request h]
  exact s.warmWiped.regsOnly_loadShadow_warm.trans ((State.regsOnly_pllsOff _).trans ((State.regsOnly_powerIdle _).trans
    ((State.regsOnly_wr _ _ _).trans (State.regsOnly_satAdd _ _ _))))

theorem State.rd_state_powerIdle (s : State) : s.powerIdle.rd PS_STAT.STATE = 0 := by
  rw [State.powerIdle, State.rd_wr_ne _ _ _ _ (by decide), State.rd_wr_ne _ _ _ _ (by decide), State.rd_wr_self _ _ _ (by decide)]
  rfl

theorem State.rd_state_warmReset {s : State} {c : Nat} (h : s.clk.warm = some c) : s.warmReset.rd PS_STAT.STATE = 0 := by
  rw [State.warmReset_of_request h, State.satAdd, State.rd_wr_ne _ _ _ _ (by decide), State.rd_wr_ne _ _ _ _ (by decide), State.rd_state_powerIdle]

theorem State.rd_cause_warmReset {s : State} {c : Nat} (h : s.clk.warm = some c) :
    s.warmReset.rd GC_RST_CAUSE.LAST = c % 2 ^ GC_RST_CAUSE.LAST.width := by
  rw [State.warmReset_of_request h, State.satAdd, State.rd_wr_ne _ _ _ _ (by decide), State.rd_wr_self _ _ _ (by decide)]

theorem Tab.get_of_unlisted {α : Type} (d : α) {k : Nat} : ∀ t : Tab α, (∀ e ∈ t, e.1 ≠ k) → Tab.get d t k = d
  | [], _ => rfl
  | (j, v) :: t, h => by
    rw [Tab.get, if_neg (h (j, v) List.mem_cons_self)]
    exact Tab.get_of_unlisted d t fun e he => h e (List.mem_cons_of_mem _ he)

theorem State.reg_warmWiped {s : State} {a : Nat} (h : warmKeeps a = false) : s.warmWiped.reg a = resetValue a := by
  refine Tab.get_of_unlisted _ _ fun e he hea => ?_
  have hkeeps : warmKeeps e.1 = true := (List.mem_filter.mp he).2
  rw [hea, h] at hkeeps
  exact Bool.false_ne_true hkeeps

theorem State.reg_warmReset_notKept {s : State} {c a : Nat} (h : s.clk.warm = some c) (ha : warmKeeps a = false) :
    s.warmReset.reg a = (s.warmWiped.loadShadow false).reg a := by
  have hapart : ∀ b, warmKeeps b = true → a ≠ b := fun b hb hab => by
    rw [hab, hb] at ha
    exact Bool.false_ne_true ha.symm
  have hcause : a ≠ GC_RST_CAUSE := hapart _ (by decide)
  have hps : a ≠ PS_STAT := hapart _ (by decide)
  rw [State.warmReset_of_request h, State.satAdd, State.reg_wr_ne _ _ _ hcause, State.reg_wr_ne _ _ _ hcause, State.powerIdle,
    State.reg_wr_ne _ _ _ hps, State.reg_wr_ne _ _ _ hps, State.reg_wr_ne _ _ _ hps, State.reg_pllsOff _ (hapart _ (by decide))]

theorem State.warmReset_history {s : State} {c : Nat} (h : s.clk.warm = some c) :
    s.warmReset.flash = s.flash ∧ s.warmReset.fuses = s.fuses ∧ s.warmReset.pending = s.pending ∧ s.warmReset.out = s.coreBalls.out := by
  rw [State.regsOnly_warmReset h]
  simp only [State.warmWiped, State.wiped]
  exact ⟨s.sendsTo_coreBalls.flash, s.sendsTo_coreBalls.fuses, s.sendsTo_coreBalls.pending, trivial⟩

theorem State.warmReset_platform {s : State} {c : Nat} (h : s.clk.warm = some c) :
    s.warmReset.pds = s.pds ∧ s.warmReset.efs = s.efs ∧ s.warmReset.clk.phase = .aon ∧ s.warmReset.clk.warm = none := by
  rw [State.regsOnly_warmReset h]
  exact ⟨rfl, rfl, rfl, rfl⟩

theorem State.warmReset_clears {s : State} {c : Nat} (h : s.clk.warm = some c) :
    s.warmReset.mem = [] ∧ s.warmReset.frame = [] ∧ s.warmReset.lanes = [] ∧ s.warmReset.links = [] ∧ s.warmReset.adps = [] ∧ s.warmReset.sw = {} ∧
      s.warmReset.cmd = {} := by
  rw [State.regsOnly_warmReset h]
  exact ⟨rfl, rfl, rfl, rfl, rfl, rfl, rfl⟩

/-- Settles O31: a warm reset wipes and then writes registers only (PS_STAT.STATE 0 is assumption row 76, the lock bits row 75). -/
theorem warmResetKeepsAndClears : Obligations.WarmResetKeepsAndClears := by
  intro s c h
  obtain ⟨hflash, hfuses, hpending, hout⟩ := State.warmReset_history h
  obtain ⟨hpds, hefs, hphase, hwarm⟩ := State.warmReset_platform h
  obtain ⟨hmem, hframe, hlanes, hlinks, hadps, hsw, hcmd⟩ := State.warmReset_clears h
  exact ⟨s.warmReset, rfl, hflash, hfuses, hpds, hefs, hout, hpending, hmem, hframe, hlanes, hlinks, hadps, hsw, hcmd, hphase, hwarm,
    State.rd_state_warmReset h, State.rd_cause_warmReset h, fun a ha hlo hhi himg hpatch hmisc hkeys => (State.reg_warmReset_notKept h ha).trans
      ((State.reg_loadShadow_warm_apart _ hlo hhi himg hpatch hmisc hkeys).trans (State.reg_warmWiped ha))⟩

/-! ### The reference and the root PLL (R344, R349, R350, R355, R356) -/

section
variable {s : State} {n : Nat}

/-- A window of the reference is judged: out of reset, and the hub not asleep. -/
theorem State.refWindow_judged (hheld : s.clk.phase ≠ .held) (haon : s.clk.phase ≠ .aon) (hst : s.rd PS_STAT.STATE = 0) :
    s.refWindow n =
      let t := s.wr CK_REFCNT.COUNT n
      if s.rd CK_STAT.REF_OK ≠ 0 then
        let bad := if windowAgrees n then 0 else s.clk.bad + 1
        let t := { t with clk := { t.clk with bad := bad } }
        if 2 ≤ bad then (t.raise Ev.CK_REF_LOSS).refLoss else t
      else
        let agree := if windowAgrees n then s.clk.agree + 1 else 0
        let t := { t with clk := { t.clk with agree := agree } }
        if 4 ≤ agree then t.refStable else t := by
  have hawake : s.asleep = false := decide_eq_false fun h => by omega
  have hrd : (s.wr CK_REFCNT.COUNT n).rd CK_STAT.REF_OK = s.rd CK_STAT.REF_OK := s.rd_wr_ne _ _ _ (by decide)
  have hgo : ¬ (s.clk.phase = .held ∨ s.clk.phase = .aon ∨ (s.asleep = true ∧ ¬ s.on PS_STAT.WAKING = true)) := fun h =>
    h.elim hheld fun h => h.elim haon fun h => ne_true_of_eq_false hawake h.1
  have hon : (s.wr CK_REFCNT.COUNT n).on CK_STAT.REF_OK = true ↔ s.rd CK_STAT.REF_OK ≠ 0 := by rw [State.on_iff_rd_ne_zero, hrd]
  exact (if_neg hgo).trans (if_congr hon rfl rfl)

theorem State.refWindow_disagrees (hph : s.clk.phase = .active) (hst : s.rd PS_STAT.STATE = 0) (hok : s.rd CK_STAT.REF_OK ≠ 0)
    (hbad : windowAgrees n = false) :
    s.refWindow n =
      let t := { s.wr CK_REFCNT.COUNT n with clk := { s.clk with bad := s.clk.bad + 1 } }
      if 2 ≤ s.clk.bad + 1 then (t.raise Ev.CK_REF_LOSS).refLoss else t := by
  rw [State.refWindow_judged (by rw [hph]; decide) (by rw [hph]; decide) hst, if_pos hok, hbad]
  rfl

theorem State.refWindow_searching (hph : s.clk.phase = .rom) (hst : s.rd PS_STAT.STATE = 0) (hok : s.rd CK_STAT.REF_OK = 0)
    (hgood : windowAgrees n = true) (hfew : s.clk.agree < 3) :
    s.refWindow n = { s.wr CK_REFCNT.COUNT n with clk := { s.clk with agree := s.clk.agree + 1 } } := by
  rw [State.refWindow_judged (by rw [hph]; decide) (by rw [hph]; decide) hst, if_neg (not_not_intro hok), hgood]
  exact if_neg (by omega : ¬ 4 ≤ s.clk.agree + 1)

theorem State.trim_fast {count nominal : Nat} (hfast : nominal + nominal / 1000 < count) (ht : 1 < s.rd CK_RC.TRIM) :
    s.trim count nominal = s.wr CK_RC.TRIM (s.rd CK_RC.TRIM - 1) := by
  have hlt : s.rd CK_RC.TRIM < 2 ^ 8 := s.rd_lt CK_RC.TRIM
  simp only [State.trim, if_pos hfast]
  exact if_neg (by omega)

theorem State.trim_slow {count nominal : Nat} (hslow : count + nominal / 1000 < nominal) (ht : s.rd CK_RC.TRIM < 254) :
    s.trim count nominal = s.wr CK_RC.TRIM (s.rd CK_RC.TRIM + 1) := by
  have hmin : min 255 (s.rd CK_RC.TRIM + 1) = s.rd CK_RC.TRIM + 1 := by omega
  have hfast : ¬ nominal + nominal / 1000 < count := by omega
  simp only [State.trim, if_neg hfast, if_pos hslow, hmin]
  exact if_neg (by omega)

theorem State.rcTrim_trims {n : Fin 65536} (hen : s.rd CK_CFG.TRIM_EN ≠ 0) (hsof : s.rd CK_STAT.TRIM_SOF = 0) (hpll : s.rd CK_STAT.ON_PLL ≠ 0) :
    exec (.rcTrimWindow n) s = .next (s.trim n 32000).trimSource :=
  congrArg Host.Outcome.next ((if_neg fun h => State.not_on hsof h.1).trans (congrArg State.trimSource
    (if_pos ⟨(s.on_iff_rd_ne_zero _).mpr hen, State.not_on hsof, (s.on_iff_rd_ne_zero _).mpr hpll⟩)))

theorem State.sofTrim_trims {n : Fin 524288} (hen : s.rd CK_CFG.TRIM_EN ≠ 0) (hsof : s.rd CK_STAT.TRIM_SOF ≠ 0) :
    exec (.sofTrimWindow n) s = .next (s.trim n 256000).trimSource :=
  congrArg Host.Outcome.next ((if_pos ((s.on_iff_rd_ne_zero _).mpr hsof)).trans (congrArg State.trimSource
    (if_pos ((s.on_iff_rd_ne_zero _).mpr hen))))

theorem exec_rampStep_runs {c : Fin 8} (h : Tab.get 0 s.clk.ramps c ≠ 0) :
    exec (.rampStep c) s =
      let m := (rampSteps.find? fun k => decide (Tab.get 0 s.clk.ramps c < k)).getD 64
      .next { s with clk := { s.clk with ramps := Tab.put 0 s.clk.ramps c (if m = 64 then 0 else m) } } :=
  congrArg Host.Outcome.next (if_neg h)

theorem exec_pllLockTimeout_retries (hph : s.clk.phase = .pll) (hr : s.clk.retries < 3) :
    let u := s.raise Ev.CK_PLL_UNLOCK
    exec .pllLockTimeout s = .next { u with clk := { u.clk with retries := s.clk.retries + 1 } } := by
  have hclk : (s.raise Ev.CK_PLL_UNLOCK).clk = s.clk := State.raise_clk _ _
  have hfew : (s.raise Ev.CK_PLL_UNLOCK).clk.retries < 3 := by rwa [hclk]
  intro u
  rw [← hclk]
  exact congrArg Host.Outcome.next ((if_pos hph).trans (if_pos hfew))

end

/-- Settles O32, clause by clause: reference windows and loss, boot failure, root PLL (its power bits are assumption row 77), trims (the direction of a trim
is row 74), ramps. -/
theorem referenceAndRootPll : Obligations.ReferenceAndRootPll := by
  refine ⟨fun s n hph hst hok hbad hfirst => ?_, fun s n hph hst hok hbad hsecond => ?_,
    fun s n hph hst hok hgood hfew => congrArg Host.Outcome.next (State.refWindow_searching hph hst hok hgood hfew), fun s hfull hst => ?_,
    fun s h => congrArg Host.Outcome.next (if_pos h), fun s h => congrArg Host.Outcome.next (if_neg h),
    fun s h => congrArg Host.Outcome.next (if_pos h), fun s hph hr => exec_pllLockTimeout_retries hph hr,
    fun s n hen hsof hpll hfast ht => ?_, fun s n hen hsof hslow ht => ?_, fun s c h => congrArg Host.Outcome.next (if_pos h), fun s c h => ?_⟩
  · refine congrArg Host.Outcome.next ((State.refWindow_disagrees hph hst hok hbad).trans ?_)
    rw [hfirst]
    rfl
  · refine congrArg Host.Outcome.next ((State.refWindow_disagrees hph hst hok hbad).trans ?_)
    rw [hsecond]
    rfl
  · exact congrArg Host.Outcome.next (if_pos ⟨.inr hfull, ne_true_of_eq_false (decide_eq_false hst)⟩)
  · rw [State.rcTrim_trims hen hsof hpll, State.trim_fast hfast ht]
  · rw [State.sofTrim_trims hen hsof, State.trim_slow (by omega) ht]
  · rw [exec_rampStep_runs (by rw [h]; decide), h]
    rfl

end Sys2Proof.Machine
end

section
/-!
The checks a request frame passes before its command starts (R418, R419, R424 to R427).
-/

namespace Sys2Proof.Machine

/-! ### A frame of a row -/

theorem requestFrame_length (op seq txn csv : Nat) (body : List Byte) : (requestFrame op seq txn csv body).length = 16 + body.length := by
  simp [requestFrame]
  omega

theorem frameOk_iff {f : List Byte} : frameOk f = true ↔ 16 ≤ f.length ∧ f.length = 16 + leAt f 8 4 ∧ byteAt f 6 % 2 = 0 := decide_eq_true_iff

theorem frameOk_requestFrame {op seq txn csv : Nat} {body : List Byte} (h : body.length < 2 ^ 32) : frameOk (requestFrame op seq txn csv body) = true := by
  have hlen : leAt (requestFrame op seq txn csv body) 8 4 = body.length := by
    have := leAt_append (le 2 op ++ le 2 seq ++ le 2 txn ++ le 2 (csv * 4096)) (le 4 0 ++ body) 4 body.length 8 (by simp) (by omega)
    simpa only [requestFrame, List.append_assoc] using this
  have hresp : byteAt (requestFrame op seq txn csv body) 6 % 2 = 0 := by
    have hflags : csv * 4096 % 256 = 0 := by omega
    simp [byteAt, requestFrame, le, List.range_succ, hflags]
  rw [frameOk_iff, requestFrame_length, hlen]
  exact ⟨Nat.le_add_right 16 _, rfl, hresp⟩

section
variable {s : State} {o : Owner} {f : List Byte} {n : Nat}

theorem State.acceptCmd_unserved (h : s.served o = false) : s.acceptCmd o f n = s := if_pos (ne_true_of_eq_false h)

theorem State.acceptCmd_bad (hs : s.served o = true) (hn : f.length ≤ n) (hf : frameOk f = false) : s.acceptCmd o f n = s.raise Ev.GC_FRAME_ERR :=
  (if_neg (not_not_intro hs)).trans ((if_neg (Nat.not_lt.mpr hn)).trans (if_pos (ne_true_of_eq_false hf)))

/-- A good frame with a new SEQ goes to its owner's queue. -/
theorem State.acceptCmd_new (hs : s.served o = true) (hn : f.length ≤ n) (hf : frameOk f = true) (hin : s.inHand o (entryOf o f n).seq = false)
    (hc : s.cached o (entryOf o f n).seq = none) : s.acceptCmd o f n = s.queueCmd State.runCmd (fun _ => true) (entryOf o f n) := by
  refine (if_neg (not_not_intro hs)).trans ((if_neg (Nat.not_lt.mpr hn)).trans ((if_neg (not_not_intro hf)).trans
    ((if_neg (ne_true_of_eq_false hin)).trans ?_)))
  rw [hc]

end

section
variable {s : State} {o : Owner} {op seq txn csv : Nat} {body : List Byte} (hop : op < 65536) (hseq : seq < 65536) (htxn : txn < 65536) (hcsv : csv < 16)
  (hbody : body.length < 2 ^ 32) (hs : s.served o = true) (hlim : 16 + body.length ≤ rowLimit o) (hin : s.inHand o seq = false)
  (hc : s.cached o seq = none)
include hop hseq htxn hcsv hbody hs hlim hin hc

theorem State.acceptCmd_request :
    s.acceptCmd o (requestFrame op seq txn csv body) (rowLimit o) = s.queueCmd State.runCmd (fun _ => true) (cmdEntry o op seq txn csv body) := by
  have hentry : entryOf o (requestFrame op seq txn csv body) (rowLimit o) = cmdEntry o op seq txn csv body := entryOf_request hop hseq htxn hcsv
  have hnew := State.acceptCmd_new (f := requestFrame op seq txn csv body) (n := rowLimit o) hs
    (by rw [requestFrame_length]; exact hlim) (frameOk_requestFrame hbody) (by rw [hentry]; exact hin) (by rw [hentry]; exact hc)
  rwa [hentry] at hnew

end

/-! ### The queue (R424 orders 4 to 9, R426, R427) -/

section
variable {s : State} {run : CmdEntry → State → State} {only : CmdEntry → Bool} {e : CmdEntry}

theorem State.queueCmd_version (h : e.csv ≠ 2 ∧ e.csv ≠ 3 ∨ e.csv = 2 ∧ since3 e.op = true) : s.queueCmd run only e = s.refuse e stVersion true := if_pos h

theorem current_version (h : e.csv = 3) : ¬ (e.csv ≠ 2 ∧ e.csv ≠ 3 ∨ e.csv = 2 ∧ since3 e.op = true) := by omega

theorem State.queueCmd_full (hv : e.csv = 3) (h : 8 ≤ (s.cmd.entries.filter fun x => decide (x.owner = e.owner)).length) :
    s.queueCmd run only e = (s.raise Ev.GC_QUEUE_FULL).refuse e stBusy false :=
  (if_neg (current_version hv)).trans (if_pos h)

/-- The state with one command, not yet started. -/
def State.withWaiting (s : State) (e : CmdEntry) : State := { s with cmd := { s.cmd with entries := [e] } }

theorem State.queueCmd_alone (hv : e.csv = 3) (he : s.cmd.entries = []) : s.queueCmd run only e = (s.withWaiting e).runQueued run only 1 := by
  have hroom : ¬ 8 ≤ (s.cmd.entries.filter fun x => decide (x.owner = e.owner)).length := by
    rw [he]
    exact Nat.not_succ_le_zero 7
  refine (if_neg (current_version hv)).trans ((if_neg hroom).trans ?_)
  rw [he]
  rfl

theorem State.startable_alone (hrun : e.running = false) (hstop : s.clk.stopped = false) (hst : s.rd PS_STAT.STATE < 2) (hw : s.rd PS_STAT.WAKING = 0) :
    (s.withWaiting e).startable (fun _ => true) = some e := by
  have hgo : ¬ (s.clk.stopped = true ∨ 4 ≤ ([e].filter CmdEntry.running).length ∨ 2 ≤ s.rd PS_STAT.STATE ∨ s.on PS_STAT.WAKING = true) := by
    have hfew := List.length_filter_le CmdEntry.running [e]
    simp only [List.length_singleton] at hfew
    rw [hstop, State.on_iff_rd_ne_zero, hw]
    simp
    omega
  refine (if_neg hgo).trans ?_
  simp [State.withWaiting, hrun]

theorem State.start_refused {st : Nat} (he : s.cmd.entries = []) (h : s.precheck e = some st) : (s.withWaiting e).start run e = s.refuse e st true := by
  have hpre : (s.withWaiting e).precheck e = some st := h
  have hself : ({ s.withWaiting e with cmd := { (s.withWaiting e).cmd with entries := [e].erase e } } : State) = s := by
    rw [List.erase_cons_head, ← he]
    rfl
  rw [State.start, hpre]
  exact congrArg (fun t : State => t.refuse e st true) hself

theorem State.queueCmd_refused {st : Nat} (hv : e.csv = 3) (hrun : e.running = false) (he : s.cmd.entries = []) (hstop : s.clk.stopped = false)
    (hst : s.rd PS_STAT.STATE < 2) (hw : s.rd PS_STAT.WAKING = 0) (h : s.precheck e = some st) :
    s.queueCmd run (fun _ => true) e = s.refuse e st true := by
  rw [State.queueCmd_alone hv he, State.runQueued, State.startable_alone hrun hstop hst hw, ← State.start_refused (run := run) he h]
  rfl

end

theorem State.not_stopped_of_served {s : State} {o : Owner} (h : s.served o = true) : s.clk.stopped = false := by
  rw [State.served, Bool.and_eq_true, Bool.not_eq_true'] at h
  exact h.1

/-- Settles O57: the checks of a frame, then those of its entry in the order of the queue. -/
theorem framesAreCheckedInOrder : Obligations.FramesAreCheckedInOrder := by
  refine ⟨fun s o f n h => State.acceptCmd_unserved h, fun s o f n hs hn hbad => ?bad,
    fun s o op seq txn csv body hop hseq htxn hcsv hbody hs hlim hin hc => ?entry⟩
  case bad =>
    refine State.acceptCmd_bad hs hn (Bool.eq_false_iff.mpr fun hok => ?_)
    obtain ⟨hshort, hlength, hresp⟩ := frameOk_iff.mp hok
    omega
  case entry =>
    have hqueue := State.acceptCmd_request hop hseq htxn hcsv hbody hs hlim hin hc
    refine ⟨fun hv => hqueue.trans (State.queueCmd_version hv), fun hv hfull => hqueue.trans (State.queueCmd_full hv hfull),
      fun st hv he hst hw hpre => hqueue.trans (State.queueCmd_refused hv rfl he (State.not_stopped_of_served hs) hst hw hpre),
      fun hadm => State.admits_runs hop hseq htxn hcsv hbody hadm⟩

end Sys2Proof.Machine
end

section
/-!
The commands of the system, transaction, image and tunnel groups (R432 to R435): what each does with the fields of its body.
-/

namespace Sys2Proof.Machine

section
variable {u v : State} {e : CmdEntry} {x y : Nat}

/-! ### System group (R432) -/

section
variable {z : BusEnd}

theorem State.cmdReset_refused (hz : z ≠ .done) (h : u.busCheck e.owner.master (u.cmdPriv e) .write GC_RST 4 = (z, v)) :
    u.cmdReset e = v.answer e z.status 0 [] := by
  simp only [State.cmdReset, h]
  exact if_pos hz

theorem State.cmdReset_warm (hx : byteAt e.body 0 = 0) (h : u.busCheck e.owner.master (u.cmdPriv e) .write GC_RST 4 = (.done, u)) :
    u.cmdReset e = (u.answer e stOk 0 []).requestWarm 3 := by
  simp only [State.cmdReset, h]
  exact (if_neg (not_not_intro rfl)).trans (if_pos (decide_eq_true hx))

theorem State.cmdReset_ports (hx : byteAt e.body 0 = 1) (hy : byteAt e.body 1 = y)
    (h : u.busCheck e.owner.master (u.cmdPriv e) .write GC_RST 4 = (.done, u)) :
    u.cmdReset e = (u.answer e stOk 0 []).each 6 fun p v => if bitOf y p then v.portReset p else v := by
  have hports : ¬ decide (byteAt e.body 0 = 0) = true := by rw [hx]; decide
  subst hy
  simp only [State.cmdReset, h]
  exact (if_neg (not_not_intro rfl)).trans (if_neg hports)

theorem State.cmdPowerState_refused (hz : z ≠ .done) (h : u.busCheck e.owner.master (u.cmdPriv e) .write PS_CTRL 4 = (z, v)) :
    u.cmdPowerState e = v.answer e z.status 0 [] := by
  simp only [State.cmdPowerState, h]
  exact if_pos hz

theorem State.cmdPowerState_asks (hx : byteAt e.body 0 = x) (h : u.busCheck e.owner.master (u.cmdPriv e) .write PS_CTRL 4 = (.done, u)) :
    u.cmdPowerState e = (u.setWait e .power).psRequest x := by
  subst hx
  simp only [State.cmdPowerState, h]
  exact if_neg (not_not_intro rfl)

end

theorem State.cmdNotifyCfg_fields {h : Nat} (hx : byteAt e.body 0 = x) (hy : byteAt e.body 1 = y) (hh : leAt e.body 2 2 = h) :
    u.cmdNotifyCfg e = ({ u with cmd := { u.cmd with
      notifyUsb := bitOf x 0, notifyAlert := bitOf x 1, notifyA0 := bitOf x 2, notifySev := y, notifyHub := h } } : State).answer e stOk 0 [] := by
  subst hx hy hh
  rfl

/-! ### Transaction group (R433) -/

theorem State.cmdStage_pairs {l : List (Word × Word)} (h : pairEntries e.body = l.map fun z => (z.1.toNat, z.2.toNat)) :
    u.cmdStage e = (let r := (u.touchTxn e.txn).stageAll e.owner e.txn 0 (l.map fun z => (z.1.toNat, z.2))
      r.2.2.2.answer e r.1 r.2.1 (if r.1 = stOk then le 2 r.2.2.1 else [])) := by
  have hwords : ((pairEntries e.body).map fun z => (z.1, BitVec.ofNat 32 z.2)) = l.map fun z => (z.1.toNat, z.2) := by
    simp [h, Function.comp_def]
  simp only [State.cmdStage, hwords]

theorem State.cmdStageRead_addresses {l : List Nat} (h : addrEntries e.body = l) :
    u.cmdStageRead e = (let r := (u.touchTxn e.txn).stageRead e.owner.master (u.cmdPriv e) (((u.txnBy e.owner e.txn).map Txn.staged).getD []) l []
      r.2.2.2.answer e r.1 r.2.1 (if r.1 = stOk then r.2.2.1 else [])) := by
  subst h
  rfl

section
variable {t : Txn} (ht : u.txnBy e.owner e.txn = some t)
include ht

theorem State.cmdCommit_busy (hc : u.img.commit.isSome = true) : u.cmdCommit e = u.answer e stBusy 0 [] := by
  simp only [State.cmdCommit, ht, hc, if_true]

theorem State.cmdCommit_invalid {st a : Nat} (hc : u.img.commit = none) (hv : (u.touchTxn e.txn).validate t.staged = some (st, a)) :
    u.cmdCommit e = ((u.touchTxn e.txn).raise Ev.GC_VAL_FAIL).answer e st a [] := by
  simp only [State.cmdCommit, ht, hc, hv]
  rfl

theorem State.cmdCommit_waits (hc : u.img.commit = none) (hv : (u.touchTxn e.txn).validate t.staged = none) :
    u.cmdCommit e = (let l := (u.touchTxn e.txn).affected t.staged
      ((((u.touchTxn e.txn).loadShadows t.staged).modImg fun i => { i with commit := some (t.id, l) }).haltAdapters l true).setWait e (.commit t.id)) := by
  simp only [State.cmdCommit, ht, hc, hv]
  rfl

end

theorem State.cmdTxnInfo_none (h : u.txnOf e.owner = none) : u.cmdTxnInfo e = u.answer e stOk 0 (le 8 0) := by
  simp only [State.cmdTxnInfo, h]

theorem State.cmdTxnInfo_open {t : Txn} (h : u.txnOf e.owner = some t) :
    u.cmdTxnInfo e = u.answer e stOk 0 (le 2 t.id ++ le 2 t.staged.length ++ le 4 ((u.uptime - t.last) / 10000000)) := by
  simp only [State.cmdTxnInfo, h]

/-- A command that names a transaction is admitted only while its owner has it open (R424 order 8). -/
theorem State.txn_of_precheck (hop : needsTxn e.op = true) (h : u.precheck e = none) : (u.txnBy e.owner e.txn).isSome = true := by
  by_contra hno
  have hcheck : u.txnCheck e = some stNoTxn := by rw [State.txnCheck, if_pos hop, if_neg hno]
  simp only [State.precheck, hcheck] at h
  repeat' split at h
  all_goals exact Option.some_ne_none _ h

theorem State.txn_of_admits (hop : needsTxn e.op = true) (h : u.admits e) : ((u.withCommand e).txnBy e.owner e.txn).isSome = true := by
  obtain ⟨-, -, -, -, -, -, -, hpre⟩ := h
  exact State.txn_of_precheck hop hpre

/-! ### Image group (R434) -/

section
variable (hx : byteAt e.body 0 = x)
include hx

theorem State.cmdImgErase_slot : u.cmdImgErase e =
    if u.running x then u.answer e stConflict 0 [] else (u.eraseFlash (areaBase x) (slotSize x)).answer e stOk 0 [] := by
  subst hx
  rfl

theorem State.cmdImgWrite_fields {a : Nat} {d : List Byte} (ha : leAt e.body 4 4 = a) (hd : e.body.drop 8 = d) : u.cmdImgWrite e =
    if u.running x then u.answer e stConflict 0 [] else
      let v := u.program (areaBase x + a) d
      v.answer e (if v.flashBytes (areaBase x + a) d.length = d then stOk else stIntegrity) 0 [] := by
  subst hx ha hd
  rfl

theorem State.cmdImgRead_fields {a n : Nat} (ha : leAt e.body 4 4 = a) (hn : leAt e.body 8 4 = n) :
    u.cmdImgRead e = u.answer e stOk 0 (u.flashBytes (areaBase x + a) n) := by
  subst hx ha hn
  rfl

theorem State.cmdImgCheck_slot (hslot : x < 2) : u.cmdImgCheck e =
    u.answer e (u.checkSlot (decide (x = 1))) 0 (if u.checkSlot (decide (x = 1)) = stOk then le 4 (hdrRelease (u.slotHeader (decide (x = 1)))) else []) := by
  subst hx
  exact if_neg (by omega)

theorem State.cmdImgCheck_patch (hpatch : x = 2) : u.cmdImgCheck e =
    u.answer e (if u.flashPatch.1 = 0xFE then stInvalid else u.flashPatch.1) 0 (if u.flashPatch.1 = stOk then le 4 u.flashPatch.2 else []) := by
  refine (if_pos (hx.trans hpatch)).trans ?_
  by_cases hok : u.flashPatch.1 = stOk
  · simp only [hok, if_true]
    rfl
  · simp only [hok, if_false]

/-! ### Tunnel group (R435) -/

theorem State.cmdTunnelStat_adapter : u.cmdTunnelStat e = u.answerRegs e [TA_STAT x, TA_SEQ x, TA_EVT x, TA_EVT_CNT0 x, TA_EVT_CNT1 x,
    TA_PKT_TX x, TA_PKT_RX x, TA_BYTE_TX_LO x, TA_BYTE_TX_HI x, TA_BYTE_RX_LO x, TA_BYTE_RX_HI x, TA_DROP x] := by
  subst hx
  rfl

theorem State.cmdTunnelReopen_invalid (h : x = 0 ∨ u.adpType x = 0 ∨ u.rd (TA_PEER.MCAST x) ≠ 0 ∨ u.rd (TA_CFG0.DIR x) = 2) :
    u.cmdTunnelReopen e = u.answer e stInvalid 0 [] := by
  subst hx
  exact if_pos (by rwa [State.on_iff_rd_ne_zero])

section
variable (h0 : x ≠ 0) (ht : u.adpType x ≠ 0) (hm : u.rd (TA_PEER.MCAST x) = 0) (hd : u.rd (TA_CFG0.DIR x) ≠ 2)
include h0 ht hm hd

theorem State.cmdTunnelReopen_possible :
    ¬ (byteAt e.body 0 = 0 ∨ u.adpType (byteAt e.body 0) = 0 ∨ u.on (TA_PEER.MCAST (byteAt e.body 0)) = true ∨ u.rd (TA_CFG0.DIR (byteAt e.body 0)) = 2) := by
  rw [hx, State.on_iff_rd_ne_zero]
  exact not_or.mpr ⟨h0, not_or.mpr ⟨ht, not_or.mpr ⟨not_not_intro hm, hd⟩⟩⟩

theorem State.cmdTunnelReopen_conflict (hc : u.img.commit.isSome = true) : u.cmdTunnelReopen e = u.answer e stConflict 0 [] :=
  (if_neg (State.cmdTunnelReopen_possible hx h0 ht hm hd)).trans (if_pos hc)

theorem State.cmdTunnelReopen_reopens (hc : u.img.commit = none) : u.cmdTunnelReopen e =
    (((u.tunnelClosed x).sendTunnelClose x (u.rd (TA_PEER.HUB x))).sendTunnelOpen x).answer e stOk 0 [] := by
  have hidle : ¬ u.img.commit.isSome = true := by rw [hc]; exact Bool.false_ne_true
  refine (if_neg (State.cmdTunnelReopen_possible hx h0 ht hm hd)).trans ((if_neg hidle).trans ?_)
  rw [hx]

end

end

end

/-- Settles O58, command by command: its fields read back from its body, then what the command does with them. The length of a patch in IMG_INFO and the
answer for an erased one rest on assumption row 110, TUNNEL_REOPEN with DIR = 2 on row 93. -/
theorem commandsOfSystemTransactionImage : Obligations.CommandsOfSystemTransactionImage := by
  refine ⟨fun s o q t c h => State.command_admitted h rfl, fun s o q t c d h => State.command_admitted h rfl, fun s o q t c x y h => ?reset,
    fun s o q t c x h => ?powerState, fun s o q t c x y n h => ?notifyCfg, fun s o q t c h => State.command_admitted h rfl,
    fun s o q t c l h => ?stage, fun s o q t c l h => ?stageRead, fun s o q t c h => ?commit, fun s o q t c h => State.command_admitted h rfl,
    fun s o q t c h => ?txnInfo, fun s o q t c h => State.command_admitted h rfl,
    fun s o q t c x h => State.command_admitted h (State.cmdImgErase_slot (byteAt_be_one x)), fun s o q t c x a d h => ?imgWrite,
    fun s o q t c x a n h => ?imgRead, fun s o q t c x h => ?imgCheck, fun s o q t c h => State.command_admitted h rfl,
    fun s o q t c x h => State.command_admitted h (State.cmdTunnelStat_adapter (byteAt_be_one x)), fun s o q t c x h => ?tunnelReopen⟩
  case reset =>
    have kind {k : Nat} (hx : (x : Nat) = k) : byteAt (be 1 x ++ be 1 y) 0 = k := by simpa using hx
    exact ⟨fun z v hz hchk => State.command_admitted h (State.cmdReset_refused hz hchk),
      fun hx hchk => State.command_admitted h (State.cmdReset_warm (kind hx) hchk),
      fun hx hchk => State.command_admitted h (State.cmdReset_ports (kind hx) (by simp) hchk)⟩
  case powerState =>
    exact ⟨fun hchk => State.command_admitted h (State.cmdPowerState_asks (byteAt_be_one x) hchk),
      fun z v hz hchk => State.command_admitted h (State.cmdPowerState_refused hz hchk)⟩
  case notifyCfg =>
    have hhub : leAt (be 1 x ++ be 1 y ++ le 2 n) 2 2 = n := by simpa using leAt_append (be 1 x ++ be 1 y) [] 2 n 2 (by simp) n.isLt
    exact State.command_admitted h (State.cmdNotifyCfg_fields (by simp) (by simp) hhub)
  case stage =>
    have hlen := State.admits_body_le h
    rw [pairBody_length] at hlen
    exact State.command_admitted h (State.cmdStage_pairs (pairEntries_body (by omega)))
  case stageRead =>
    have hlen := State.admits_body_le h
    rw [addrBody_length] at hlen
    exact State.command_admitted h (State.cmdStageRead_addresses (addrEntries_body (by omega)))
  case commit =>
    obtain ⟨x, hx⟩ := Option.isSome_iff_exists.mp (State.txn_of_admits rfl h)
    exact ⟨fun hc => State.command_admitted h (State.cmdCommit_busy hx hc),
      fun hc x st a hx hv => State.command_admitted h (State.cmdCommit_invalid hx hc hv),
      fun hc x hx hv => State.command_admitted h (State.cmdCommit_waits hx hc hv)⟩
  case txnInfo =>
    exact ⟨fun hno => State.command_admitted h (State.cmdTxnInfo_none hno), fun x hx => State.command_admitted h (State.cmdTxnInfo_open hx)⟩
  case imgWrite =>
    have haddr := leAt_append (be 1 x ++ be 3 0) d 4 a.toNat 4 (by simp) a.isLt
    exact State.command_admitted h (State.cmdImgWrite_fields (by simp) haddr (List.drop_left' (by simp)))
  case imgRead =>
    have haddr := leAt_append (be 1 x ++ be 3 0) (wordLe n) 4 a.toNat 4 (by simp) a.isLt
    have hlen : leAt (be 1 x ++ be 3 0 ++ wordLe a ++ wordLe n) 8 4 = n.toNat := by
      simpa using leAt_append_wordLe (be 1 x ++ be 3 0 ++ wordLe a) [] n (by simp)
    exact State.command_admitted h (State.cmdImgRead_fields (by simp) haddr hlen)
  case imgCheck =>
    exact ⟨fun hx => State.command_admitted h (State.cmdImgCheck_slot (byteAt_be_one x) hx),
      fun hx => State.command_admitted h (State.cmdImgCheck_patch (byteAt_be_one x) hx)⟩
  case tunnelReopen =>
    exact ⟨fun hno => State.command_admitted h (State.cmdTunnelReopen_invalid (byteAt_be_one x) hno),
      fun h0 ht hm hd hc => State.command_admitted h (State.cmdTunnelReopen_conflict (byteAt_be_one x) h0 ht hm hd hc),
      fun h0 ht hm hd hc => State.command_admitted h (State.cmdTunnelReopen_reopens (byteAt_be_one x) h0 ht hm hd hc)⟩

end Sys2Proof.Machine
end

section
/-!
The key unit's operations and the debug unlock (R378 to R380, R389).
-/

namespace Sys2Proof.Machine

section
variable {s : State}

/-! ### The end of an operation (R379, R380) -/

theorem exec_keyUnitDone_idle (h : s.keys.op = none) : exec .keyUnitDone s = .next s :=
  congrArg Host.Outcome.next (by rw [h])

section
variable {k : KeyOp}

theorem exec_keyUnitDone_ends (h : s.keys.op = some k) : exec .keyUnitDone s = .next (s.keyDone k) :=
  congrArg Host.Outcome.next (by rw [h])

/-- The load of an outside key: its check value decides (R380 step 2). -/
theorem State.keyDone_load (hop : k.op = 1) :
    s.keyDone k = if checkValue k.input = k.kcv then
        let u : State := { s.clearKeyRegs with keys := { s.clearKeyRegs.keys with key := k.input } }
        let v := ((u.wr KS_STAT.LOADED 1).wr KS_STAT.ATTR k.attr).wrapAdd KS_STAT.GEN 1
        v.keyEnd stOk (le 2 (v.rd KS_STAT.GEN))
      else (s.clearKeyRegs.raise Ev.KS_KCV_FAIL).keyEnd stIntegrity [] := by
  have hkey : s.clearKeyRegs.shadowKey k = some k.input := if_pos hop
  simp only [State.keyDone, hop, hkey, true_or, if_true]

theorem State.keyDone_erase (hop : k.op = 4) :
    s.keyDone k = ({ s with keys := { s.keys with key := [] } }.wr KS_STAT.LOADED 0).keyEnd stOk [] :=
  (if_neg (by omega)).trans (if_pos hop)

theorem State.keyDone_command {o : Owner} (hop : 5 ≤ k.op) (hby : k.by_ = some o) : s.keyDone k = s.keyEnd (keyOutput k).1 (keyOutput k).2 := by
  refine (if_neg (by omega)).trans ((if_neg (by omega)).trans ?_)
  rw [hby]

end

/-! ### The debug unlock (R389) -/

theorem exec_dbgauthChallenge_good (h : s.keys.rngOk = true) :
    exec .dbgauthChallenge s = .next ({ s with free := s.free + 1, keys := { s.keys with nonce := some (Config.freeBytes s.free 32) } }.send
      (.bus 6 0 0 (Config.freeBytes s.free 32 ++ be 8 s.fuses.uid))) := congrArg Host.Outcome.next (if_pos h)

theorem exec_dbgVerify_waits {sc : BitVec 32} {pub sig : List Byte} (h : s.keys.dbgPending = none) : exec (.dbgVerify sc pub sig) s =
    .next { s with keys := { s.keys with dbgResult := 0, dbgPending := some (sc.toNat, pub, sig, s.keys.nonce) } } := by
  have hidle : ¬ s.keys.dbgPending.isSome = true := by rw [h]; exact Bool.false_ne_true
  exact congrArg Host.Outcome.next (if_neg hidle)

/-- A failed unlock counted; `u` is the state with the verdict no longer pending. -/
def State.unlockFailed (u : State) : State :=
  let f := u.satAdd KS_DBG_STAT.FAILS 1
  let g := if 3 ≤ f.rd KS_DBG_STAT.FAILS then f.wr KS_DBG_STAT.LOCKOUT 1 else f
  { g with keys := { g.keys with dbgResult := if 3 ≤ f.rd KS_DBG_STAT.FAILS then 3 else 2 } }.raise Ev.KS_DBG_FAIL

theorem State.unlockFailed_few {u : State} (h : (u.satAdd KS_DBG_STAT.FAILS 1).rd KS_DBG_STAT.FAILS < 3) :
    u.unlockFailed = { u.satAdd KS_DBG_STAT.FAILS 1 with keys := { (u.satAdd KS_DBG_STAT.FAILS 1).keys with dbgResult := 2 } }.raise Ev.KS_DBG_FAIL := by
  simp only [State.unlockFailed, if_neg (Nat.not_le.mpr h)]

section
variable {sc : Nat} {pub sig : List Byte} {n : Option (List Byte)} (h : s.keys.dbgPending = some (sc, pub, sig, n))
include h

/-- The verdict on the unlock asked for, with the nonce held then (assumption row 87). -/
theorem exec_dbgVerifyDone_verdict :
    let u : State := { s with keys := { s.keys with dbgPending := none } }
    let v : State := { u with keys := { u.keys with dbgResult := 1 } }
    exec .dbgVerifyDone s = .next (if u.dbgGood sc pub sig n = true then
        ((v.wr KS_DBG_STAT.UNLOCKED 1).wr KS_DBG_SCOPE.SCOPE (Nat.lor (v.rd KS_DBG_SCOPE.SCOPE) sc)).liftLocks.raise Ev.KS_DBG_UNLOCK
      else u.unlockFailed) := by
  intro u v
  have hdone : exec .dbgVerifyDone s = .next (s.dbgDone sc pub sig n) := congrArg Host.Outcome.next (by rw [h])
  rw [hdone]
  refine congrArg Host.Outcome.next (if_congr Iff.rfl rfl ?_)
  simp only [State.unlockFailed, State.onlyIf, decide_eq_true_eq]
  rfl

theorem exec_dbgVerifyDone_noNonce (hn : n = none)
    (hfew : (({ s with keys := { s.keys with dbgPending := none } } : State).satAdd KS_DBG_STAT.FAILS 1).rd KS_DBG_STAT.FAILS < 3) :
    let u : State := ({ s with keys := { s.keys with dbgPending := none } }).satAdd KS_DBG_STAT.FAILS 1
    exec .dbgVerifyDone s = .next ({ u with keys := { u.keys with dbgResult := 2 } }.raise Ev.KS_DBG_FAIL) := by
  subst hn
  exact (exec_dbgVerifyDone_verdict h).trans (congrArg Host.Outcome.next ((if_neg Bool.false_ne_true).trans (State.unlockFailed_few hfew)))

end

end

/-- Settles O35, clause by clause: the operations of the key unit, the random source, a drained gate, and the debug unlock (the nonce is the one held at
DBG_VERIFY, assumption row 87). -/
theorem keyUnitAndDebugUnlock : Obligations.KeyUnitAndDebugUnlock := by
  refine ⟨fun s h => exec_keyUnitDone_idle h, fun s k h hop hkcv => ?_, fun s k h hop hkcv => ?_, fun s k h hop => ?_, fun s k o h hop hby => ?_,
    fun s => rfl, fun s g => rfl, fun s h => exec_dbgauthChallenge_good h, fun s sc pub sig n h => exec_dbgVerifyDone_verdict h, fun s => rfl,
    fun s sc pub sig h => exec_dbgVerify_waits h, fun s sc pub sig h _ hfew => exec_dbgVerifyDone_noNonce h rfl hfew⟩
  · rw [exec_keyUnitDone_ends h, State.keyDone_load hop, if_pos hkcv]
  · rw [exec_keyUnitDone_ends h, State.keyDone_load hop, if_neg hkcv]
  · rw [exec_keyUnitDone_ends h, State.keyDone_erase hop]
  · rw [exec_keyUnitDone_ends h, State.keyDone_command hop hby]

end Sys2Proof.Machine
end

section
/-!
The image load, the core reset release, the end of a transaction and of a self-test (R355, R382, R400, R401, R407, R411, R450, R451).
-/

namespace Sys2Proof.Machine

section
variable {s : State}

/-! ### Loading an image (R400, R401) -/

theorem exec_imageLoad_outside {b : Bool} (h : s.clk.phase ≠ .imaging) : exec (.imageLoad b) s = .next s := congrArg Host.Outcome.next (if_pos h)

theorem exec_imageLoad_noFlash (h : s.clk.phase = .imaging) :
    exec (.imageLoad false) s = .next (((s.setSlotStatus false stTimeout).setSlotStatus true stTimeout).tryImages []) :=
  congrArg Host.Outcome.next ((if_neg (not_not_intro h)).trans (if_neg Bool.false_ne_true))

/-- A slot that holds no candidate shows why (R400 step 2). -/
def State.markSlot (s : State) (b : Bool) : State :=
  if headerCandidate (s.slotHeader b) then s else s.setSlotStatus b (if headerErased (s.slotHeader b) then 0xFE else stInvalid)

theorem State.markSlot_candidate {b : Bool} (h : headerCandidate (s.slotHeader b) = true) : s.markSlot b = s := if_pos h

theorem State.markSlot_other {b : Bool} (h : headerCandidate (s.slotHeader b) = false) :
    s.markSlot b = s.setSlotStatus b (if headerErased (s.slotHeader b) then 0xFE else stInvalid) := if_neg (ne_true_of_eq_false h)

theorem exec_imageLoad_flash (h : s.clk.phase = .imaging) :
    exec (.imageLoad true) s = .next (((s.markSlot false).markSlot true).tryImages ((s.markSlot false).markSlot true).candidates) :=
  congrArg Host.Outcome.next ((if_neg (not_not_intro h)).trans (if_pos rfl))

@[simp] theorem State.slotHeader_setSlotStatus (b c : Bool) (st : Nat) : (s.setSlotStatus b st).slotHeader c = s.slotHeader c := by
  cases b <;> rfl

/-- Of two candidates the one of the higher RELEASE comes first, A on a tie. -/
theorem State.candidates_both (ha : headerCandidate (s.slotHeader false) = true) (hb : headerCandidate (s.slotHeader true) = true) :
    s.candidates = (let b := decide (hdrRelease (s.slotHeader false) < hdrRelease (s.slotHeader true)); [b, !b]) := by
  simp only [State.candidates, ha, hb, and_self, if_true]
  by_cases hlt : hdrRelease (s.slotHeader false) < hdrRelease (s.slotHeader true)
  · simp [hlt]
  · simp [hlt]

theorem State.candidates_slotA (ha : headerCandidate (s.slotHeader false) = true) (hb : headerCandidate (s.slotHeader true) = false) :
    s.candidates = [false] := by
  simp [State.candidates, ha, hb]

/-- What follows the check of a candidate (R400): activation, or its failure and the candidates that are left. -/
def State.imageTried (s : State) (b : Bool) (rest : List Bool) : Except Nat Held → State
  | .ok h => s.activate b h
  | .error e => (if rest.isEmpty then s.setSlotStatus b e else (s.setSlotStatus b e).raise Ev.GC_IMG_FALLBACK).tryImages rest

theorem State.tryImages_cons (b : Bool) (rest : List Bool) : s.tryImages (b :: rest) = s.imageTried b rest (s.checkImage (s.slotImage b)) := by
  unfold State.tryImages
  generalize s.checkImage (s.slotImage b) = r
  cases r with
  | ok h => rfl
  | error e => rfl

/-- Of two candidates `b` is tried first, then the other. -/
theorem exec_imageLoad_both {b : Bool} (h : s.clk.phase = .imaging) (hA : headerCandidate (s.slotHeader false) = true)
    (hB : headerCandidate (s.slotHeader true) = true) (hb : b = decide (hdrRelease (s.slotHeader false) < hdrRelease (s.slotHeader true))) :
    exec (.imageLoad true) s = .next (s.imageTried b [!b] (s.checkImage (s.slotImage b))) := by
  subst hb
  rw [exec_imageLoad_flash h, State.markSlot_candidate hA, State.markSlot_candidate hB, State.candidates_both hA hB, State.tryImages_cons]

theorem exec_imageLoad_slotA {u : State} (h : s.clk.phase = .imaging) (hA : headerCandidate (s.slotHeader false) = true)
    (hB : headerCandidate (s.slotHeader true) = false)
    (hu : u = s.setSlotStatus true (if headerErased (s.slotHeader true) then 0xFE else stInvalid)) :
    exec (.imageLoad true) s = .next (u.imageTried false [] (u.checkImage (u.slotImage false))) := by
  subst hu
  rw [exec_imageLoad_flash h, State.markSlot_candidate hA, State.markSlot_other hB, State.candidates_slotA (by simpa using hA) (by simpa using hB),
    State.tryImages_cons]

/-! ### Core reset release (R355, R382) -/

theorem State.reg_setMemBytes (a : Nat) (l : List Byte) (r : Nat) : (s.setMemBytes a l).reg r = s.reg r := by
  rw [State.setMemBytes_eq]
  rfl

/-- A field reads the same in states with the same register table. -/
theorem State.rd_of_regs {t u : State} (h : t.regs = u.regs) (f : Fld) : t.rd f = u.rd f := by
  rw [State.rd, State.rd, State.reg, State.reg, h]

theorem State.rd_setMemBytes (a : Nat) (l : List Byte) (f : Fld) : (s.setMemBytes a l).rd f = s.rd f := State.rd_of_reg (State.reg_setMemBytes a l f.addr)

/-- Region 0 of gate 2 fixed for the patch that runs (R382). -/
def State.fixPatchRegion (u : State) : State :=
  ((u.setReg (BG_R_BASE 2 0) 0x300#32).setReg (BG_R_LIMIT 2 0) 0x33F#32).setReg (BG_R_PERM 2 0) 0x00018005#32

theorem State.rd_clock_fixPatchRegion {f : Fld} (h : f.addr = CK_STAT) : s.fixPatchRegion.rd f = s.rd f := by
  have hbase : f.addr ≠ BG_R_BASE 2 0 := by rw [h]; decide
  have hlimit : f.addr ≠ BG_R_LIMIT 2 0 := by rw [h]; decide
  have hperm : f.addr ≠ BG_R_PERM 2 0 := by rw [h]; decide
  exact State.rd_of_reg ((State.reg_setReg_ne _ _ hperm).trans ((State.reg_setReg_ne _ _ hlimit).trans (State.reg_setReg_ne _ _ hbase)))

/-- The check of the patch leaves the clock status. -/
theorem State.rd_clock_patchCheck {f : Fld} (h : f.addr = CK_STAT) : s.patchCheck.rd f = s.rd f := by
  have hfail (t : State) : (t.raise Ev.KS_PATCH_FAIL).rd f = t.rd f := t.rd_raise _ _ (by rw [h]; decide)
  have hgood (t : State) (k : KeySt) : ({ t.fixPatchRegion with keys := k } : State).rd f = t.rd f :=
    (State.rd_of_regs rfl f).trans (State.rd_clock_fixPatchRegion h)
  have hcopy : (s.setMemBytes patchBase (s.flashBytes 0x200000 patchSize)).rd f = s.rd f := State.rd_setMemBytes _ _ _
  rw [← hcopy]
  unfold State.patchCheck
  generalize s.setMemBytes patchBase (s.flashBytes 0x200000 patchSize) = t
  simp only
  split
  · rfl
  · split
    · split
      · exact hgood t _
      · exact hfail t
    · exact hfail t

/-- How boot goes on once the patch is checked: by what runs of the clocks. -/
def State.bootOn (u : State) : State :=
  if u.on CK_STAT.ROOT_LOCK ∧ u.on CK_STAT.ON_PLL then { u.wr ⟨GC_CLKEN, 21, 1⟩ 1 with clk := { u.clk with phase := .imaging } }
  else if u.on CK_STAT.REF_OK then { u with clk := { u.clk with phase := .pll } }
  else { u with clk := { u.clk with phase := .rom } }

theorem State.coreRelease_held (h : s.clk.phase = .aon) : s.coreRelease = (s.wr ⟨GC_CLKEN, 22, 1⟩ 1).patchCheck.bootOn := if_pos h

theorem State.bootOn_noReference (s : State) (hlock : s.rd CK_STAT.ROOT_LOCK = 0) (href : s.rd CK_STAT.REF_OK = 0) :
    s.bootOn = { s with clk := { s.clk with phase := .rom } } :=
  (if_neg fun hc => State.not_on hlock hc.1).trans (if_neg (State.not_on href))

theorem exec_coreResetRelease_noReference (h : s.clk.phase = .aon) (hlock : s.rd CK_STAT.ROOT_LOCK = 0) (href : s.rd CK_STAT.REF_OK = 0) :
    let u := (s.wr ⟨GC_CLKEN, 22, 1⟩ 1).patchCheck
    exec .coreResetRelease s = .next { u with clk := { u.clk with phase := .rom } } := by
  intro u
  have hclock {f : Fld} (hf : f.addr = CK_STAT) : u.rd f = s.rd f :=
    (State.rd_clock_patchCheck hf).trans (s.rd_wr_ne _ _ _ (.inl (by rw [hf]; decide)))
  have hnoLock : u.rd CK_STAT.ROOT_LOCK = 0 := (hclock rfl).trans hlock
  have hnoRef : u.rd CK_STAT.REF_OK = 0 := (hclock rfl).trans href
  exact congrArg Host.Outcome.next ((State.coreRelease_held h).trans (u.bootOn_noReference hnoLock hnoRef))

/-! ### Transactions that end (R407, R411) -/

theorem exec_txnIdleTimeout_open {id : Fin 65536} {x : Txn} (hx : s.img.txns = [x]) (hid : x.id = id) (hc : s.img.commit = none) :
    exec (.txnIdleTimeout id) s = .next ((s.dropTxn id).raise Ev.GC_IDLE_RB) := by
  refine congrArg Host.Outcome.next (if_pos ⟨?_, ?_⟩)
  · rw [hx]
    simp [hid]
  · rw [State.isCommitting, hc]
    exact Bool.false_ne_true

theorem exec_txnIdleTimeout_none {id : Fin 65536} (hx : s.img.txns = []) : exec (.txnIdleTimeout id) s = .next s := by
  refine congrArg Host.Outcome.next (if_neg fun h => ?_)
  rw [hx] at h
  exact Bool.false_ne_true h.1

theorem exec_quietPoint_none {q d : Fin 65536} {f : BitVec 26} (h : s.img.commit = none) : exec (.quietPoint q d f) s = .next s :=
  congrArg Host.Outcome.next (by rw [State.quietPoint, h])

theorem exec_drainTimeout_none (h : s.img.commit = none) : exec .drainTimeout s = .next s := congrArg Host.Outcome.next (by rw [h])

/-- No adapter from 1 on meets a condition that none of them meets. -/
theorem adapters_none {p : Nat → Bool} (h : ∀ a, a < 256 → 1 ≤ a → p a = false) : (((List.range 256).drop 1).filter p) = [] := by
  refine List.filter_eq_nil_iff.mpr fun a ha => ne_true_of_eq_false ?_
  obtain ⟨i, hi, rfl⟩ := List.mem_iff_getElem.mp ha
  simp only [List.length_drop, List.length_range] at hi
  simp only [List.getElem_drop, List.getElem_range]
  exact h _ (by omega) (by omega)

section
variable {id : Nat} {l : List Nat} (hc : s.img.commit = some (id, l))
include hc

theorem exec_drainTimeout_commit : exec .drainTimeout s =
    .next ((((((s.haltAdapters l false).modImg fun i => { i with commit := none }).raise Ev.GC_DRAIN_TMO).touchTxn id).finish
      (fun w => decide (w = .commit id)) stTimeout 0 [])) := congrArg Host.Outcome.next (by rw [hc])

/-- A commit that opens and closes no tunnel (R411, assumption row 96). -/
theorem exec_quietPoint_noTunnel {q d : Fin 65536} {x : Txn} (hx : s.img.txns = [x]) (hid : x.id = id)
    (hnone : ∀ a, a < 256 → 1 ≤ a → adapterGone s (s.overlay x.staged) a = false ∧ adapterNew s (s.overlay x.staged) a = false) :
    let u := ((((((s.beginQuiet q).strobe x.staged).haltAdapters l false).wr GC_QUIET.QUIET_NS q).wr GC_QUIET.DRAIN_US d)).dropTxn id
    let v := (u.modImg fun i => { i with commit := none }).wrapAdd GC_COMMITS.COUNT 1
    exec (.quietPoint q d 0#26) s = .next (v.finishRegs (fun w => decide (w = .commit id)) [(3, GC_QUIET)] []) := by
  intro u v
  have hstaged : ((s.img.txns.find? fun t => decide (t.id = id)).map Txn.staged).getD [] = x.staged := by
    rw [hx]
    simp [hid]
  have hgone := adapters_none fun a ha h1 => (hnone a ha h1).1
  have hnew := adapters_none fun a ha h1 => (hnone a ha h1).2
  have hflight (t : State) : (t.each 26 fun g w =>
      if bitOf (0#26).toNat g = true ∧ x.staged.any (fun e => decide ((regionOf e.1).map Prod.fst = some g)) = true then w.wr (BG_STAT.DRAIN g) 0 else w) = t := by
    refine State.each_fixed fun g _ => if_neg fun h => ?_
    simp [bitOf] at h
  refine congrArg Host.Outcome.next ?_
  simp only [State.quietPoint, hc, hstaged, hgone, hnew, hflight, List.filter_nil, State.eachIn, List.foldl_nil]
  rfl

end

/-- The command that waits is answered with the registers, or DENIED where the gate of its transport forbids them. -/
theorem State.finishRegs_one {e : CmdEntry} {w : Wait → Bool} {g a : Nat} (he : s.cmd.entries = [e]) (hrun : e.running = true) (hw : w e.wait = true) :
    let r := s.gatePass g a e.owner.master e.owner.priv .read 4
    s.finishRegs w [(g, a)] [] = (if r.1 then r.2.answer e stOk 0 (wordLe (r.2.reg a)) else r.2.answer e stDenied 0 []) := by
  intro r
  have hwaiter : s.waiter w = some e := by
    rw [State.waiter, he, List.find?_cons_of_pos]
    simp [hrun, hw]
  have hpass : s.readsPass e.owner [(g, a)] = (r.1, r.2) := by
    simp only [State.readsPass]
    by_cases hr : r.1 = true
    · exact (if_pos hr).trans (Prod.ext hr.symm rfl)
    · exact if_neg hr
  simp only [State.finishRegs, hwaiter, hpass, List.flatMap_cons, List.flatMap_nil, List.append_nil]

/-! ### The end of a self-test (R450, R451) -/

theorem exec_bistDone_idle {m : BitVec 32} (h : s.test.under = none) : exec (.bistDone m) s = .next s :=
  congrArg Host.Outcome.next (by rw [State.bistDone, h])

/-- The end of a self-test of block `b`, whose logic has been reset. -/
def State.bistEnd (u : State) (m : Word) (b : Nat) : State :=
  let ok := decide (m = u.reg (BT_REF b))
  let v := (((u.setReg BT_MISR m).wr BT_STAT.LAST b).wr BT_STAT.BUSY 0).wr BT_STAT.MATCH ok.toNat
  (if ok then v else v.raiseWith Ev.BT_MISMATCH true []).finishRegs (fun w => decide (w = .bist b)) [(8, BT_MISR), (8, BT_REF b)] (be 1 ok.toNat)

theorem State.bistDone_under {m : Word} {b : Nat} (h : s.test.under = some b) :
    s.bistDone m = ((({ s with test := { s.test with under := none } } : State).bistReset b).bistEnd m b) := by
  simp only [State.bistDone, h, State.bistEnd]

theorem State.bistEnd_match {m : Word} {b : Nat} (hm : m = s.reg (BT_REF b)) (he : s.cmd.entries = []) :
    s.bistEnd m b = (((s.setReg BT_MISR m).wr BT_STAT.LAST b).wr BT_STAT.BUSY 0).wr BT_STAT.MATCH 1 := by
  have hshown : ((((s.setReg BT_MISR m).wr BT_STAT.LAST b).wr BT_STAT.BUSY 0).wr BT_STAT.MATCH 1).cmd.entries = [] := he
  simp only [State.bistEnd, decide_eq_true hm, if_true, Bool.toNat_true]
  exact State.finishRegs_of_noEntries hshown

end

/-- Settles O36, clause by clause: image load (the answer of the flash is an operand, assumption row 92; the order of the checks is row 89), core reset
release with the patch check (row 91), transactions, the quiet point as one step (row 96), self-test. -/
theorem imageTransactionSelfTest : Obligations.ImageTransactionSelfTest := by
  refine ⟨fun s b h => exec_imageLoad_outside h, fun s h => exec_imageLoad_noFlash h, fun s h ha hb => ?_, fun s h ha hb => ?_,
    fun s h hlock href => exec_coreResetRelease_noReference h hlock href, fun s h => congrArg Host.Outcome.next (if_neg h),
    fun s id x hx hid hc => exec_txnIdleTimeout_open hx hid hc, fun s id hx => exec_txnIdleTimeout_none hx,
    fun s q d f h => ⟨exec_quietPoint_none h, exec_drainTimeout_none h⟩, fun s id l hc => exec_drainTimeout_commit hc,
    fun s q d id l x hc hx hid hnone => exec_quietPoint_noTunnel hc hx hid hnone, fun s e w he hrun hw => State.finishRegs_one he hrun hw,
    fun s m h => exec_bistDone_idle h, fun s m b h _ => ?_⟩
  · intro b
    rw [exec_imageLoad_both h ha hb (show b = _ from rfl)]
    generalize s.checkImage (s.slotImage b) = r
    cases r <;> rfl
  · intro u
    rw [exec_imageLoad_slotA h ha hb (show u = _ from rfl)]
    generalize u.checkImage (u.slotImage false) = r
    cases r <;> rfl
  · intro u hm he
    exact congrArg Host.Outcome.next ((State.bistDone_under h).trans (State.bistEnd_match hm he))

end Sys2Proof.Machine
end

section
/-!
The Ethernet MACs (R274 to R281, R294) and the time servo, its sources and the pulses (R283 to R290, R295, R296).
-/

namespace Sys2Proof.Machine

section
variable {s : State} {m : Fin 2}

theorem State.ite_on {α : Type} (s : State) (f : Fld) (a b : α) : (if s.on f then a else b) = if s.rd f = 0 then b else a := by
  by_cases h : s.rd f = 0
  · rw [if_pos h, if_neg (State.not_on h)]
  · rw [if_neg h, if_pos ((s.on_iff_rd_ne_zero f).mpr h)]

/-! ### Receiving (R276 to R278) -/

theorem exec_frameReceive_down {f : List Byte} {g : Bool} {t : Time} (h : s.rd (EN_CFG.IF m) = 0 ∨ s.rd (EN_STAT.LINK m) = 0) :
    exec (.frameReceive m f g t) s = .next s :=
  congrArg Host.Outcome.next (if_pos (h.imp_right State.not_on))

section
variable {f : List Byte} {t : Time} (hif : s.rd (EN_CFG.IF m) ≠ 0) (hlink : s.rd (EN_STAT.LINK m) ≠ 0)
include hif hlink

theorem not_mac_down : ¬ (s.rd (EN_CFG.IF m) = 0 ∨ ¬ s.on (EN_STAT.LINK m) = true) := fun h => h.elim hif (State.not_not_on hlink)

theorem exec_frameReceive_bad {g : Bool} (h : g = false ∨ f.length < 60 ∨ s.rd (EN_CFG.MAXLEN m) < f.length) :
    exec (.frameReceive m f g t) s = .next (s.raise (Ev.EN_FCS_ERR m)) :=
  congrArg Host.Outcome.next ((if_neg (not_mac_down hif hlink)).trans (if_pos h))

/-- A good frame of a MAC that is no gPTP message; `u` is the state with the frame counted (R276 to R278). -/
def State.frameToAdapter (u : State) (m : Nat) (f : List Byte) (t : Time) : State :=
  if u.frameAdapter m f = 0 then u.raise (Ev.EN_NO_ADP m)
  else if ¬ u.adpSends (u.frameAdapter m f) then u
  else if u.rd (EN_RXBUF.SIZE m (u.framePcp m f)) * 256 < u.partitionUse m (u.framePcp m f) + f.length ∧
      ¬ bitOf (u.rd (EN_PFC.TX_EN m)) (u.framePcp m f) then
    (u.satAdd (EN_RX_DROP.COUNT m) 1).raise (Ev.EN_RX_DROP m)
  else (u.accept (u.frameAdapter m f) { bytes := f, ts := (t.shift16 (-(u.rd (EN_PTP_LAT.RX m) : Int))).stamp, part := some (u.framePcp m f) }).flowControl m

section
variable (hmin : 60 ≤ f.length) (hmax : f.length ≤ s.rd (EN_CFG.MAXLEN m))
include hmin hmax

omit hif hlink in
theorem not_frame_bad : ¬ (true = false ∨ f.length < 60 ∨ s.rd (EN_CFG.MAXLEN m) < f.length) := by
  simp only [Bool.true_eq_false, false_or]
  omega

theorem exec_frameReceive_gptp {h : List Byte} (hmode : (s.wrapAdd (EN_RX_FRAMES.COUNT m) 1).rd (EN_CFG.PTP_MODE m) = 1)
    (hp : ptpOverEthernet f = some h) :
    exec (.frameReceive m f true t) s = .next ((s.wrapAdd (EN_RX_FRAMES.COUNT m) 1).gptpReceive m h) := by
  refine congrArg Host.Outcome.next ((if_neg (not_mac_down hif hlink)).trans ((if_neg (not_frame_bad hmin hmax)).trans ?_))
  simp only [hmode, hp, if_true]

theorem exec_frameReceive_good (hmode : (s.wrapAdd (EN_RX_FRAMES.COUNT m) 1).rd (EN_CFG.PTP_MODE m) ≠ 1) :
    exec (.frameReceive m f true t) s = .next ((s.wrapAdd (EN_RX_FRAMES.COUNT m) 1).frameToAdapter m f t) := by
  refine congrArg Host.Outcome.next ((if_neg (not_mac_down hif hlink)).trans ((if_neg (not_frame_bad hmin hmax)).trans ?_))
  simp only [hmode, if_false]
  rfl

end

end

section
variable {u : State} {f : List Byte} {t : Time} {m : Nat}

theorem State.frameToAdapter_none (h : u.frameAdapter m f = 0) : u.frameToAdapter m f t = u.raise (Ev.EN_NO_ADP m) := if_pos h

section
variable (ha : u.frameAdapter m f ≠ 0)
include ha

theorem State.frameToAdapter_closed (h : u.rd (TA_CFG0.DIR (u.frameAdapter m f)) = 2) : u.frameToAdapter m f t = u := by
  have hno : ¬ u.adpSends (u.frameAdapter m f) = true := ne_true_of_eq_false (decide_eq_false (not_not_intro h))
  exact (if_neg ha).trans (if_pos hno)

variable (hd : u.rd (TA_CFG0.DIR (u.frameAdapter m f)) ≠ 2)
include hd

theorem State.frameToAdapter_full
    (hfull : u.rd (EN_RXBUF.SIZE m (u.framePcp m f)) * 256 < u.partitionUse m (u.framePcp m f) + f.length)
    (hpause : bitOf (u.rd (EN_PFC.TX_EN m)) (u.framePcp m f) = false) :
    u.frameToAdapter m f t = (u.satAdd (EN_RX_DROP.COUNT m) 1).raise (Ev.EN_RX_DROP m) :=
  (if_neg ha).trans ((if_neg (not_not_intro (decide_eq_true hd))).trans (if_pos ⟨hfull, ne_true_of_eq_false hpause⟩))

theorem State.frameToAdapter_room
    (hroom : u.partitionUse m (u.framePcp m f) + f.length ≤ u.rd (EN_RXBUF.SIZE m (u.framePcp m f)) * 256) :
    u.frameToAdapter m f t = (u.accept (u.frameAdapter m f)
      { bytes := f, ts := (t.shift16 (-(u.rd (EN_PTP_LAT.RX m) : Int))).stamp, part := some (u.framePcp m f) }).flowControl m :=
  (if_neg ha).trans ((if_neg (not_not_intro (decide_eq_true hd))).trans (if_neg fun h => Nat.not_lt.mpr hroom h.1))

end

end

/-! ### Pauses (R279, R280) -/

theorem State.pfcFrame_classes {m : Nat} {e : Nat} {l : List Nat} : s.pfcFrame m true e l =
    (s.wrapAdd (EN_PAUSE_RX.COUNT m) 1).each 8 fun p t => if bitOf e p ∧ bitOf (t.rd (EN_PFC.RX_EN m)) p then t.setPause m p (l.getD p 0) else t := by
  simp only [State.pfcFrame, if_true]

theorem State.pfcFrame_noClass {m : Nat} {l : List Nat} : s.pfcFrame m true 0 l = s.wrapAdd (EN_PAUSE_RX.COUNT m) 1 := by
  rw [State.pfcFrame_classes]
  refine State.each_fixed fun p _ => if_neg fun h => ?_
  simp [bitOf] at h

/-- The class-enable vector 1 is priority 0 alone. -/
theorem State.pfcFrame_class0 {m q : Nat} :
    let u := s.wrapAdd (EN_PAUSE_RX.COUNT m) 1
    s.pfcFrame m true 1 [q] = if bitOf (u.rd (EN_PFC.RX_EN m)) 0 then u.setPause m 0 q else u := by
  intro u
  have hbits : ∀ p < 8, p ≠ 0 → bitOf 1 p = false := by decide
  rw [State.pfcFrame_classes, State.each, List.range_succ_eq_map, List.foldl_cons, List.foldl_map]
  have hrest : ∀ t : State, (List.range 7).foldl (fun t p =>
      if bitOf 1 (p + 1) = true ∧ bitOf (t.rd (EN_PFC.RX_EN m)) (p + 1) = true then t.setPause m (p + 1) ([q].getD (p + 1) 0) else t) t = t := fun t =>
    State.each_fixed (n := 7) (f := fun p t =>
      if bitOf 1 (p + 1) = true ∧ bitOf (t.rd (EN_PFC.RX_EN m)) (p + 1) = true then t.setPause m (p + 1) ([q].getD (p + 1) 0) else t)
      fun p hp => if_neg fun h => ne_true_of_eq_false (hbits (p + 1) (by omega) p.succ_ne_zero) h.1
  refine (hrest _).trans ?_
  have hbit0 : bitOf 1 0 = true := by decide
  simp only [hbit0, true_and]
  rfl

theorem State.pfcFrame_pause {m q : Nat} :
    let u := s.wrapAdd (EN_PAUSE_RX.COUNT m) 1
    s.pfcFrame m false 0 [q] = if u.rd (EN_PFC.LLFC m) = 0 then u else u.setPause m 8 q := by
  simp only [State.pfcFrame, Bool.false_eq_true, if_false, State.ite_on]
  rfl

theorem State.paused_setPause_ended {m p : Nat} : ((s.setPause m p 0).mac m).paused.contains p = false := by
  rw [State.setPause, State.mac_modMac]
  simp

/-! ### Transmitting (R281, R294) -/

theorem exec_frameTransmit_down (h : s.rd (EN_STAT.LINK m) = 0) : exec (.frameTransmit m) s = .next s :=
  congrArg Host.Outcome.next (if_pos (State.not_on h))

/-- The highest ready queue of a MAC. -/
def State.nextTxQueue (s : State) (m : Nat) : Option Nat := ((List.range 8).reverse).find? fun q => s.txReady m q

theorem State.nextTxQueue_none {m : Nat} (h : ∀ q < 8, s.txReady m q = false) : s.nextTxQueue m = none := by
  refine List.find?_eq_none.mpr fun q hq => ne_true_of_eq_false (h q ?_)
  rw [List.mem_reverse] at hq
  exact List.mem_range.mp hq

theorem State.nextTxQueue_highest {m q : Nat} (hq : q < 8) (hr : s.txReady m q = true) (hno : ∀ k < 8, q < k → s.txReady m k = false) :
    s.nextTxQueue m = some q := by
  have hfind : ∀ n, q < n → (∀ k < n, q < k → s.txReady m k = false) → ((List.range n).reverse).find? (fun k => s.txReady m k) = some q := by
    intro n
    induction n with
    | zero => exact fun h => absurd h (Nat.not_lt_zero q)
    | succ n ih =>
      intro hlt hnone
      rw [List.range_succ, List.reverse_append, List.reverse_singleton, List.singleton_append]
      obtain rfl | hlt' := Nat.lt_succ_iff_lt_or_eq.mp hlt |>.symm
      · exact List.find?_cons_of_pos hr
      · rw [List.find?_cons_of_neg (ne_true_of_eq_false (hnone n n.lt_succ_self hlt'))]
        exact ih hlt' fun k hk => hnone k (Nat.lt_succ_of_lt hk)
  exact hfind 8 hq hno

/-- A frame at the head of queue `q` leaves; `u` has the credits of now. -/
def State.transmitHead (u : State) (m q : Nat) (f : List Byte) (g : Bool) (rest : List (List Byte × Bool)) : State :=
  let v := u.modMac m fun x => { x with txq := Tab.put [] x.txq q rest, sending := some (q, u.uptime + u.frameTime m f) }
  let w := if v.rd (EN_TXQCFG.SHAPE m q) = 0 then v
    else v.modMac m fun x => { x with credit := Tab.put 0 x.credit q (Tab.get 0 x.credit q - (f.length + 24) * 80000) }
  (w.send (.eth m f g)).wrapAdd (EN_TX_FRAMES.COUNT m) 1

theorem exec_frameTransmit_idle (h : s.rd (EN_STAT.LINK m) ≠ 0) (hno : ∀ q < 8, (s.macCredits m).txReady m q = false) :
    exec (.frameTransmit m) s = .next (s.macCredits m) := by
  have hnone : ((List.range 8).reverse).find? (fun q => (s.macCredits m).txReady m q) = none := State.nextTxQueue_none hno
  refine congrArg Host.Outcome.next ((if_neg (State.not_not_on h)).trans ?_)
  simp only [hnone]

section
variable {q : Nat} {f : List Byte} {g : Bool} {rest : List (List Byte × Bool)} (hlink : s.rd (EN_STAT.LINK m) ≠ 0) (hq : q < 8)
  (hready : (s.macCredits m).txReady m q = true) (hhigh : ∀ k < 8, q < k → (s.macCredits m).txReady m k = false)
  (hqueue : ((s.macCredits m).mac m).queue q = (f, g) :: rest)
include hlink hq hready hhigh hqueue

theorem State.frameTransmit_head :
    s.frameTransmit m = match ((s.macCredits m).transmitHead m q f g rest).ptpEvent m f with
      | some (k, i) => ((s.macCredits m).transmitHead m q f g rest).txStamp m k i
      | none => (s.macCredits m).transmitHead m q f g rest := by
  have hnext : ((List.range 8).reverse).find? (fun q => (s.macCredits m).txReady m q) = some q := State.nextTxQueue_highest hq hready hhigh
  refine (if_neg (State.not_not_on hlink)).trans ?_
  simp only [hnext, hqueue, State.ite_on, State.transmitHead] <;> rfl

theorem exec_frameTransmit_plain (hp : ((s.macCredits m).transmitHead m q f g rest).ptpEvent m f = none) :
    exec (.frameTransmit m) s = .next ((s.macCredits m).transmitHead m q f g rest) := by
  refine congrArg Host.Outcome.next ((State.frameTransmit_head hlink hq hready hhigh hqueue).trans ?_)
  simp only [hp]

theorem exec_frameTransmit_stamped {k i : Nat} (hp : ((s.macCredits m).transmitHead m q f g rest).ptpEvent m f = some (k, i)) :
    exec (.frameTransmit m) s = .next (((s.macCredits m).transmitHead m q f g rest).txStamp m k i) := by
  refine congrArg Host.Outcome.next ((State.frameTransmit_head hlink hq hready hhigh hqueue).trans ?_)
  simp only [hp]

end

/-! ### The link (R274, R275) -/

theorem exec_ethLinkChange_off {up : Bool} {v : Fin 6} (h : s.rd (EN_CFG.IF m) = 0) : exec (.ethLinkChange m up v) s = .next s := by
  have hsame : s.ethLinkChange m up v = s := if_pos h
  refine congrArg Host.Outcome.next ?_
  rw [hsame, ite_self]

/-- A MAC under self-test does not see its link (assumption row 165). -/
theorem exec_ethLinkChange_underTest {up : Bool} {v : Fin 6} (h : s.underTest 20 m = true) : exec (.ethLinkChange m up v) s = .next s :=
  congrArg Host.Outcome.next (if_pos h)

theorem exec_ethLinkChange_inService {up : Bool} {v : Fin 6} (h : s.underTest 20 m = false) :
    exec (.ethLinkChange m up v) s = .next (s.ethLinkChange m up v) := congrArg Host.Outcome.next (if_neg (ne_true_of_eq_false h))

theorem State.ethDown_up {m : Nat} (h : s.rd (EN_STAT.LINK m) ≠ 0) :
    s.ethDown m = ((((s.wr (EN_STAT.LINK m) 0).wr (EN_STAT.SPEED m) 0).wr (EN_STAT.AN_DONE m) 0).wr (EN_STAT.FEC_LOCK m) 0).raise (Ev.EN_LINK_DOWN m) :=
  if_pos ((s.on_iff_rd_ne_zero _).mpr h)

theorem State.ethLinkChange_down {m v : Nat} (h : s.rd (EN_CFG.IF m) ≠ 0) : s.ethLinkChange m false v = s.ethDown m := (if_neg h).trans (if_pos rfl)

theorem State.ethLinkChange_refused {m : Nat} (h : s.rd (EN_CFG.IF m) = 3 ∨ s.rd (EN_CFG.IF m) = 5) :
    s.ethLinkChange m true 0 = (s.ethDown m).raise (Ev.EN_SPEED_REFUSED m) :=
  (if_neg (by omega)).trans ((if_neg Bool.false_ne_true.symm).trans (if_pos ⟨rfl, h⟩))

/-- A link without FEC comes up at its interface's speed; SGMII and USXGMII have negotiated it. -/
theorem State.ethLinkChange_up {m v i speed an : Nat} (hi : s.rd (EN_CFG.IF m) = i) (hi0 : i ≠ 0) (hi4 : i ≠ 4) (hv : i = 3 ∨ i = 5 → v ≠ 0)
    (hspeed : ethSpeed i v = speed) (han : (decide (i = 3 ∨ i = 5)).toNat = an) (hfec : s.rd (EN_CFG.FEC m) = 0) : s.ethLinkChange m true v =
      (((s.wr (EN_STAT.LINK m) 1).wr (EN_STAT.SPEED m) speed).wr (EN_STAT.AN_DONE m) an).wr (EN_STAT.FEC_LOCK m) 0 := by
  subst hi hspeed han
  have hneg : (decide (s.rd (EN_CFG.IF m) = 3 ∨ s.rd (EN_CFG.IF m) = 5) || (decide (s.rd (EN_CFG.IF m) = 4) && s.on (EN_CFG.AN_EN m))) =
      decide (s.rd (EN_CFG.IF m) = 3 ∨ s.rd (EN_CFG.IF m) = 5) := by
    rw [decide_eq_false hi4, Bool.false_and, Bool.or_false]
  refine (if_neg hi0).trans ((if_neg Bool.false_ne_true.symm).trans ((if_neg fun h => hv h.2 h.1).trans ?_))
  simp only [hneg, hfec]
  rfl

end

/-- Settles O44, clause by clause: a frame received, pauses, a frame sent, the link (a MAC under self-test: assumption row 165). -/
theorem macFramesAndPauses : Obligations.MacFramesAndPauses := by
  refine ⟨fun s m f g t h => exec_frameReceive_down h, fun s m f g t hif hlink h => exec_frameReceive_bad hif hlink h,
    fun s m f t hif hlink hmin hmax => ?receive, fun s m p h => congrArg Host.Outcome.next (if_neg (ne_true_of_eq_false h)),
    fun s m p h => congrArg Host.Outcome.next (if_pos h), fun s m q => ?pfc, fun s m p => ⟨rfl, State.paused_setPause_ended⟩,
    fun s m h => exec_frameTransmit_down h, fun s m h hno => exec_frameTransmit_idle h hno, fun s m q f g rest hlink => ?transmit,
    fun s m up v h => exec_ethLinkChange_off h, fun s m up v h => exec_ethLinkChange_underTest h, fun s m ht hif hlink => ?down,
    fun s m v ht hfec => ?up⟩
  case receive =>
    have hgood := exec_frameReceive_good (t := t) hif hlink hmin hmax
    exact ⟨fun hmode h hp => exec_frameReceive_gptp hif hlink hmin hmax hmode hp,
      fun hmode ha => (hgood hmode).trans (congrArg Host.Outcome.next (State.frameToAdapter_none ha)),
      fun hmode ha hd => (hgood hmode).trans (congrArg Host.Outcome.next (State.frameToAdapter_closed ha hd)),
      fun hmode ha hd hfull hpause => (hgood hmode).trans (congrArg Host.Outcome.next (State.frameToAdapter_full ha hd hfull hpause)),
      fun hmode ha hd hroom => (hgood hmode).trans (congrArg Host.Outcome.next (State.frameToAdapter_room ha hd hroom))⟩
  case pfc =>
    exact ⟨fun h => congrArg Host.Outcome.next (State.pfcFrame_pause.trans (if_neg h)),
      fun h => congrArg Host.Outcome.next (State.pfcFrame_pause.trans (if_pos h)), congrArg Host.Outcome.next State.pfcFrame_noClass,
      congrArg Host.Outcome.next State.pfcFrame_class0⟩
  case transmit =>
    exact fun hq hready hhigh hqueue => ⟨fun hp => exec_frameTransmit_plain hlink hq hready hhigh hqueue hp,
      fun k i hp => exec_frameTransmit_stamped hlink hq hready hhigh hqueue hp⟩
  case down =>
    refine ⟨fun v => ?_, fun hi => ?_⟩
    · rw [exec_ethLinkChange_inService ht, State.ethLinkChange_down hif, State.ethDown_up hlink]
    · rw [← State.ethDown_up hlink, ← State.ethLinkChange_refused hi]
      exact exec_ethLinkChange_inService ht
  case up =>
    have hspeed (h : v ≠ 0) : (v : Nat) ≠ 0 := fun h0 => h (Fin.ext h0)
    intro u
    refine ⟨fun hi => ?_, fun hi => ?_, fun hi hv => ?_, fun hi hv => ?_⟩ <;> rw [exec_ethLinkChange_inService ht]
    · rw [State.ethLinkChange_up hi (by decide) (by decide) (by omega) rfl rfl hfec]
      rfl
    · rw [State.ethLinkChange_up hi (by decide) (by decide) (by omega) rfl rfl hfec]
      rfl
    · rw [State.ethLinkChange_up hi (by decide) (by decide) (fun _ => hspeed hv) rfl rfl hfec]
      rfl
    · rw [State.ethLinkChange_up hi (by decide) (by decide) (fun _ => hspeed hv) rfl rfl hfec]
      rfl

/-! ### The servo (R286, R287, R290) -/

section
variable {s : State}

/-- A sample of a cable port within no acquisition: the offset is not close. -/
theorem State.judgeLink_far {th : Int} (h : 128 < th.natAbs) : s.judgeLink th = { s with tm := { s.tm with close := 0 } } := by
  have hfar : ¬ th.natAbs ≤ 128 := Nat.not_le.mpr h
  simp only [State.judgeLink, if_neg hfar]
  exact if_neg fun hc => absurd hc.1 (by decide)

theorem exec_servoSample_other {src : Fin 9} {th : Int} {ms : Fin 8192} (h : s.timeSource ≠ some src.val) (hsrc : src.val < 6 ∨ s.rd TM_SRC.SRC = 0) :
    exec (.servoSample src th ms) s = .next s := by
  have hunused : ¬ decide (s.timeSource = some src.val) = true := ne_true_of_eq_false (decide_eq_false h)
  refine congrArg Host.Outcome.next ?_
  by_cases hlt : src.val < 6
  · exact (if_pos hlt).trans (if_neg hunused)
  · exact (if_neg hlt).trans (if_neg fun hc => hc.1 (hsrc.resolve_left hlt))

theorem exec_servoSample_port {src : Fin 9} {th : Int} {ms : Fin 8192} (h : s.timeSource = some src.val) (hsrc : src.val < 6) :
    exec (.servoSample src th ms) s = .next ((s.judgeLink th).steer src th 1) :=
  congrArg Host.Outcome.next ((if_pos hsrc).trans (if_pos (decide_eq_true h)))

section
variable {src : Nat} {th : Int}

theorem State.steer_steps (hsrc : src < 6) :
    let u := s.wr TM_OFS.OFS (ofSigned 32 (satSigned 32 th))
    u.rd TM_SERVO.STEP_THR * 16000 < th.natAbs → s.steer src th 1 = u.stepTime (u.time.shift16 (-th)) := fun h => if_pos ⟨h, .inl hsrc⟩

theorem State.steer_slews :
    let u := s.wr TM_OFS.OFS (ofSigned 32 (satSigned 32 th))
    th.natAbs ≤ u.rd TM_SERVO.STEP_THR * 16000 →
    let v := u.wr TM_FREQ.FREQ (ofSigned 32 (satSigned 32 (u.freq - roundDiv (th * 16000) (2 ^ u.rd TM_SERVO.KI_SH))))
    let r := v.applyIncrement th 1
    let w : State := { r.2 with tm := { r.2.tm with slewLeft := 156250 } }
    s.steer src th 1 = if r.1 then w.raise Ev.TM_SLEW_LIMIT else w := by
  intro u h v r w
  have hv : v = u.wr TM_FREQ.FREQ (ofSigned 32 (satSigned 32 (u.freq - roundDiv (th * 16000) (1 * 2 ^ u.rd TM_SERVO.KI_SH)))) := by
    rw [Nat.one_mul]
  refine (if_neg fun hc => Nat.not_lt.mpr h hc.1).trans ?_
  simp only [w, r, hv]
  rfl

end

/-! ### The external source, the timers and the pulses (R288, R290, R295, R296) -/

theorem exec_sourceNoSample_locked (hsrc : s.rd TM_SRC.SRC ≠ 0) (hlock : s.rd TM_STAT.SRC_LOCK ≠ 0) : exec .sourceNoSample s = .next s.sourceLost :=
  congrArg Host.Outcome.next (if_pos ⟨hsrc, (s.on_iff_rd_ne_zero _).mpr hlock⟩)

theorem exec_sourceNoSample_unlocked (h : s.rd TM_SRC.SRC = 0 ∨ s.rd TM_STAT.SRC_LOCK = 0) : exec .sourceNoSample s = .next s :=
  congrArg Host.Outcome.next (if_neg fun hc => h.elim hc.1 fun hl => State.not_on hl hc.2)

theorem exec_acquireTimer_acquires (hcap : s.rd DM_GM.CAPABLE ≠ 0) (hsrc : s.rd TM_SRC.SRC = 0) (hacq : s.rd TM_STAT.ACQUIRED = 0) (hno : s.dom.heard = []) :
    exec .acquireTimer s = .next ((s.wr TM_STAT.ACQUIRED 1).gmChanged s.bestAnnounce) :=
  congrArg Host.Outcome.next (if_pos ⟨(s.on_iff_rd_ne_zero _).mpr hcap, hsrc, State.not_on hacq, List.isEmpty_iff.mpr hno⟩)

theorem exec_acquireTimer_other (h : s.rd DM_GM.CAPABLE = 0 ∨ s.rd TM_SRC.SRC ≠ 0 ∨ s.rd TM_STAT.ACQUIRED ≠ 0) : exec .acquireTimer s = .next s := by
  refine congrArg Host.Outcome.next (if_neg ?_)
  rintro ⟨hcap, hsrc, hacq, -⟩
  exact h.elim (fun h0 => State.not_on h0 hcap) fun h => h.elim (fun hn => hn hsrc) fun hn => State.not_not_on hn hacq

theorem exec_secondsRollover_steady (hinc : s.incEffective ≠ 0) (hslew : s.tm.slewLeft = 0) (hticks : s.ticksToSecond s.incEffective ≠ 0) :
    exec .secondsRollover s = .next (s.addTicks (s.ticksToSecond s.incEffective)) := by
  have hend : ¬ s.tm.slewLeft = s.ticksToSecond s.incEffective := fun h => hticks (h.symm.trans hslew)
  exact congrArg Host.Outcome.next ((if_neg hinc).trans ((if_pos (.inl hslew)).trans (if_neg hend)))

theorem exec_ppsInEdge_off {t : Time} (h : s.rd TM_PPS.IN_EN = 0) : exec (.ppsInEdge t) s = .next s := congrArg Host.Outcome.next (if_neg (State.not_on h))

/-- An edge in the first half of a second is late by its distance from the second. -/
theorem exec_ppsInEdge_late {t : Time} (h : s.rd TM_PPS.IN_EN ≠ 0) (hns : t.ns < 500000000) :
    exec (.ppsInEdge t) s = .next
      (((s.wr TM_PPS_IN_NS.NS t.ns).wr TM_PPS_IN_SEC.SEC (t.sec % 2 ^ 32)).servoSample 8 ((t.ns * 16 + t.frac / 2 ^ 28 : Nat) : Int) 1000) := by
  refine congrArg Host.Outcome.next ((if_pos ((s.on_iff_rd_ne_zero _).mpr h)).trans ?_)
  simp only [hns, if_true]
  push_cast
  rfl

section
variable {m : Fin 2}

theorem exec_gptpSyncTimer_silent (h : s.rd (EN_CFG.PTP_MODE m) ≠ 1 ∨ s.rd (EN_STAT.LINK m) = 0) : exec (.gptpSyncTimer m) s = .next s :=
  congrArg Host.Outcome.next (if_neg fun hc => h.elim (fun hm => hm hc.1) fun hl => State.not_on hl hc.2.2)

theorem exec_pdelayTimer_silent (h : s.rd (EN_CFG.PTP_MODE m) ≠ 1 ∨ s.rd (EN_STAT.LINK m) = 0) : exec (.pdelayTimer m) s = .next s :=
  congrArg Host.Outcome.next (if_neg fun hc => h.elim (fun hm => hm hc.1) fun hl => State.not_on hl hc.2)

variable (hmode : s.rd (EN_CFG.PTP_MODE m) = 1) (hlink : s.rd (EN_STAT.LINK m) ≠ 0)
include hmode hlink

theorem exec_gptpSyncTimer_master (hsrc : s.rd TM_SRC.SRC ≠ m.val + 1) : exec (.gptpSyncTimer m) s =
    .next ((s.gptpSend m 0 (s.mac m).seqSync).modMac m fun x => { x with seqSync := (x.seqSync + 1) % 65536 }) :=
  congrArg Host.Outcome.next (if_pos ⟨hmode, hsrc, (s.on_iff_rd_ne_zero _).mpr hlink⟩)

theorem exec_pdelayTimer_sends : exec (.pdelayTimer m) s =
    .next ((s.gptpSend m 2 (s.mac m).seqDelay).modMac m fun x => { x with seqDelay := (x.seqDelay + 1) % 65536 }) :=
  congrArg Host.Outcome.next (if_pos ⟨hmode, (s.on_iff_rd_ne_zero _).mpr hlink⟩)

end

end

/-- Settles O45, clause by clause: samples of a cable port (R285 to R287), the external source, acquisition, the second, pulses and the gPTP timers. -/
theorem timeServoAndPulses : Obligations.TimeServoAndPulses := by
  refine ⟨fun s src th ms h hsrc => exec_servoSample_other h hsrc, fun s src th ms h hsrc _ hfar => ?steps, fun s src th ms h hsrc _ hfar => ?slews,
    fun s hsrc hlock => exec_sourceNoSample_locked hsrc hlock, fun s h => exec_sourceNoSample_unlocked h,
    fun s hcap hsrc hacq hno => exec_acquireTimer_acquires hcap hsrc hacq hno, fun s h => exec_acquireTimer_other h,
    fun s h => congrArg Host.Outcome.next (if_pos h), fun s hinc hslew hticks => exec_secondsRollover_steady hinc hslew hticks,
    fun s t h => exec_ppsInEdge_off h, fun s t h hns => exec_ppsInEdge_late h hns,
    fun s => ⟨fun h => congrArg Host.Outcome.next (if_pos ((s.on_iff_rd_ne_zero _).mpr h)), fun h => congrArg Host.Outcome.next (if_neg (State.not_on h))⟩,
    fun s => ⟨fun h => congrArg Host.Outcome.next (if_pos h), fun h => congrArg Host.Outcome.next (if_neg (ne_true_of_eq_false h))⟩,
    fun s m h => ⟨exec_gptpSyncTimer_silent h, exec_pdelayTimer_silent h⟩,
    fun s m hmode hlink => ⟨fun hsrc => exec_gptpSyncTimer_master hmode hlink hsrc, exec_pdelayTimer_sends hmode hlink⟩⟩
  case steps =>
    intro u hthr
    rw [exec_servoSample_port h hsrc, State.judgeLink_far hfar]
    exact congrArg Host.Outcome.next (State.steer_steps hsrc hthr)
  case slews =>
    intro u hthr v r w
    rw [exec_servoSample_port h hsrc, State.judgeLink_far hfar]
    exact congrArg Host.Outcome.next (State.steer_slews hthr)

end Sys2Proof.Machine
end

section
/-!
Power Delivery between two partners (R301, R308, R312, R313, R315 to R317, R320 to R323): role swaps and Fast Role Swaps, the answers to what the hub sent,
discovery, the Thrumlink and DisplayPort modes, and messages for the firmware.
-/

namespace Sys2Proof.Machine

/-! ### A port's record, written twice -/

/-- A second write at a listed key replaces the first, in a table of any order. -/
theorem Tab.ins_ins {α : Type} (k : Nat) (v w : α) : ∀ t : Tab α, Tab.ins (Tab.ins t k v) k w = Tab.ins t k w
  | [] => by simp [Tab.ins]
  | (j, x) :: t => by
    by_cases hj : j = k
    · simp [Tab.ins, hj]
    · by_cases hlt : k < j
      · simp [Tab.ins, hj, hlt]
      · simp [Tab.ins, hj, hlt, Tab.ins_ins k v w t]

/-- Two changes of a port's record that leave it other than the empty one are one change. -/
theorem State.modPd_modPd {s : State} {p : Nat} {f g : PdSt → PdSt} (hf : f (s.pd p) ≠ {}) (hg : g (f (s.pd p)) ≠ {}) :
    (s.modPd p f).modPd p g = s.modPd p fun x => g (f x) := by
  have hput : Tab.put {} (s.modPd p f).pds p (g ((s.modPd p f).pd p)) = Tab.put {} s.pds p (g (f (s.pd p))) := by
    rw [State.pd_modPd, Tab.put, if_neg hg, Tab.put, if_neg hg, State.modPd, Tab.put, if_neg hf]
    exact Tab.ins_ins p _ _ s.pds
  exact congrArg (fun t => ({ s with pds := t } : State)) hput

/-! ### Swaps of the partner -/

section
variable {s : State} {p : Nat}

theorem State.mustWait_idle (hq : (s.pd p).asked = none) (hs : (s.pd p).swap = none) : s.mustWait p = false := by
  simp [State.mustWait, hq, hs]

theorem State.swapCollide_idle (hq : (s.pd p).asked = none) : s.swapCollide p = s := by
  simp only [State.swapCollide, hq]

/-- The source's request meets a swap of the hub's own that no command asked for: it is discarded, to be sent again (R313). -/
theorem State.swapCollide_own {m : PdMsg} (hq : (s.pd p).asked = some m) (hm : isSwap m = true) (hr : s.isSource p = false) (hc : s.pdCommanded p = false) :
    s.swapCollide p = ((s.modPd p fun x => { x with asked := none, dropped := some (m, x.tries) }).raise (Ev.PD_COLLIDE p)).pdAnswer p stConflict [0] := by
  simp only [State.swapCollide, hq, hm, hr, hc, Bool.false_eq_true, not_false_eq_true, and_self, if_true, if_false]

/-- Without a contract no swap is served (R312). -/
theorem State.swaps_without_contract (hc : s.contract p = false) : s.prSwapIn p = s ∧ s.drSwapIn p = s ∧ s.vconnSwapIn p = s :=
  ⟨if_pos (.inr (ne_true_of_eq_false hc)), if_pos (.inr (ne_true_of_eq_false hc)), if_pos (.inr (ne_true_of_eq_false hc))⟩

section
variable (ha : s.attached p = true) (hc : s.contract p = true)
include ha hc

/-- The guard of the three swap requests of the partner. -/
theorem State.swap_served : ¬ (¬ s.attached p = true ∨ ¬ s.contract p = true) := fun h => h.elim (absurd ha) (absurd hc)

/-- A source with a swap of its own under way keeps the partner's for later (R313). -/
theorem State.swaps_deferred (hw : s.mustWait p = true) : s.prSwapIn p = s.deferSwap p .prSwap ∧ s.vconnSwapIn p = s.deferSwap p .vconnSwap ∧
    (s.rd (PD_STAT.MODE p) = 0 → s.drSwapIn p = s.deferSwap p .drSwap) :=
  ⟨(if_neg (State.swap_served ha hc)).trans (if_pos hw), (if_neg (State.swap_served ha hc)).trans (if_pos hw),
    fun hm => (if_neg (State.swap_served ha hc)).trans ((if_neg (not_not_intro hm)).trans (if_pos hw))⟩

theorem State.drSwapIn_mode (hm : s.rd (PD_STAT.MODE p) ≠ 0) : s.drSwapIn p = s.sendHardReset p :=
  (if_neg (State.swap_served ha hc)).trans (if_pos hm)

section
variable (hq : (s.pd p).asked = none) (hs : (s.pd p).swap = none)
include hq hs

theorem State.prSwapIn_idle : s.prSwapIn p =
    if s.cfgOn p (PD_CFG.ACC_PRS p) = true ∧ (s.isSource p = true ∨ 5 ≤ s.rd PDB_STAT.AVAIL) then (s.pdSend p .accept).prSwapAgreed p
    else s.pdSend p .reject := by
  rw [State.prSwapIn, if_neg (State.swap_served ha hc), if_neg (ne_true_of_eq_false (State.mustWait_idle hq hs)), State.swapCollide_idle hq]

theorem State.drSwapIn_idle (hm : s.rd (PD_STAT.MODE p) = 0) : s.drSwapIn p =
    if s.cfgOn p (PD_CFG.ACC_DRS p) = true then
      ((s.pdSend p .accept).wr (PD_STAT.DATA_ROLE p) (1 - s.rd (PD_STAT.DATA_ROLE p))).startDiscovery p
    else s.pdSend p .reject := by
  rw [State.drSwapIn, if_neg (State.swap_served ha hc), if_neg (not_not_intro hm), if_neg (ne_true_of_eq_false (State.mustWait_idle hq hs)),
    State.swapCollide_idle hq]

theorem State.vconnSwapIn_idle : s.vconnSwapIn p =
    if s.cfgOn p (PD_CFG.ACC_VCS p) = true ∧ (s.on (PD_STAT.VCONN p) = true ∨ ¬ (s.pd p).vconnLost = true) then
      (s.pdSend p .accept).vconnAgreed p
    else s.pdSend p .reject := by
  rw [State.vconnSwapIn, if_neg (State.swap_served ha hc), if_neg (ne_true_of_eq_false (State.mustWait_idle hq hs)), State.swapCollide_idle hq]

/-- The end that has VCONN waits for the partner's PS_RDY (R312). -/
theorem State.vconnSwapIn_gives (hacc : s.cfgOn p (PD_CFG.ACC_VCS p) = true) (hv : s.rd (PD_STAT.VCONN p) ≠ 0) :
    s.vconnSwapIn p = (s.pdSend p .accept).modPd p fun x => { x with swap := some .vconnSwap, asked := none } := by
  have hon := (s.on_iff_rd_ne_zero (PD_STAT.VCONN p)).mpr hv
  exact (State.vconnSwapIn_idle ha hc hq hs).trans ((if_pos ⟨hacc, .inl hon⟩).trans (if_pos hon))

/-- The other turns VCONN on and says so (R312; assumption row 60). -/
theorem State.vconnSwapIn_takes (hacc : s.cfgOn p (PD_CFG.ACC_VCS p) = true) (hv : s.rd (PD_STAT.VCONN p) = 0) (hl : (s.pd p).vconnLost = false) :
    s.vconnSwapIn p = (((s.pdSend p .accept).setVconn p 1).pdSend p .psRdy).modPd p fun x => { x with asked := none } :=
  (State.vconnSwapIn_idle ha hc hq hs).trans ((if_pos ⟨hacc, .inr (ne_true_of_eq_false hl)⟩).trans (if_neg (State.not_on hv)))

end

end

theorem State.serveDeferred_waits (hw : s.mustWait p = true) : s.serveDeferred p = s := if_pos hw

theorem State.serveDeferred_none (hd : (s.pd p).deferred = none) : s.serveDeferred p = s := by
  simp only [State.serveDeferred, hd, ite_self]

theorem State.serveDeferred_prSwap (hw : s.mustWait p = false) (hd : (s.pd p).deferred = some .prSwap) :
    s.serveDeferred p = (s.modPd p fun x => { x with deferred := none }).prSwapIn p := by
  simp only [State.serveDeferred, hw, hd, Bool.false_eq_true, if_false]

/-! ### The hub's own swap, sent again -/

theorem State.swapRetry_none (hd : (s.pd p).dropped = none) : s.swapRetry p = s := by
  simp only [State.swapRetry, hd]

/-- A VCONN_SWAP has its cause as long as the contract stands; it is sent again three times (R313). -/
theorem State.swapRetry_vconnSwap {n : Nat} (hd : (s.pd p).dropped = some (.vconnSwap, n)) (hc : s.contract p = true) : s.swapRetry p =
    (let u := s.modPd p fun x => { x with dropped := none }
     if n < 3 then (u.modPd p fun x => { x with tries := n + 1 }).askSwap p .vconnSwap else u) := by
  have hcu : (s.modPd p fun x => { x with dropped := none }).contract p = true := hc
  simp only [State.swapRetry, hd, hcu, and_true]

/-! ### Fast Role Swap -/

theorem State.frSwap_idle (hf : (s.pd p).frs = 0) : s.frSwap p = s := by
  simp only [State.frSwap, hf]

theorem State.frSwap_initiator (hf : (s.pd p).frs = 1) :
    s.frSwap p = ((s.modPd p fun x => { x with frs := 2, asked := some .frSwap }).pdSend p .frSwap).send (.pin 9 p 0) := by
  simp only [State.frSwap, hf]

/-- The responder accepts and is the new source (R316). -/
theorem State.frSwap_responder (hf : (s.pd p).frs = 5) : s.frSwap p =
    ((((((s.pdSend p .accept).endContract p).wr (PD_STAT.PWR_ROLE p) 1).setPstate p 2).modPd p fun x =>
      { x with frs := 0, frsHeld := 0, leftSink := false }).pdSend p .psRdy).budget := by
  simp only [State.frSwap, hf]

theorem State.frsSignal_ignored (h : s.frsArmed p = false ∨ (s.pd p).frs ≠ 0) : s.frsSignal p = s :=
  if_neg fun ⟨harmed, hf⟩ => h.elim (fun h => ne_true_of_eq_false h harmed) fun h => h hf

end

/-! ### Taking the source's role back -/

/-- What RETAKE_TIMER does at one port: a port the budget disabled may attach again, and a port that left the source's role asks for it (R317). -/
def State.retakePort (s : State) (p : Nat) (t : State) : State :=
  let u := if t.pstate p = 10 ∧ s.rd PDB_RESERVE.WATTS ≤ s.supply then t.setPstate p 0 else t
  if u.attached p = true ∧ u.isSource p = false ∧ (u.pd p).leftSink = true ∧ u.prefersSource p = true ∧ (u.pd p).asked = none then u.askSwap p .prSwap else u

/-- With a valid input RETAKE_TIMER goes through the ports (R317). -/
theorem exec_retakeTimer {s : State} (h : s.rd PDB_STAT.IN_VALID ≠ 0) : exec .retakeTimer s = .next (s.each 6 s.retakePort) := by
  have hport : s.retakePort = fun p t =>
      let u := if t.pstate p = 10 ∧ s.rd PDB_RESERVE.WATTS ≤ s.supply then t.setPstate p 0 else t
      if u.attached p ∧ ¬ u.isSource p ∧ (u.pd p).leftSink ∧ u.prefersSource p ∧ (u.pd p).asked.isNone then u.askSwap p .prSwap else u := by
    funext p t
    simp only [State.retakePort, Bool.not_eq_true, Option.isNone_iff_eq_none]
  exact congrArg Host.Outcome.next ((if_neg h).trans (congrArg (s.each 6) hport.symm))

theorem State.retakePort_idle {s : State} {p : Nat} (ha : s.attached p = false) (hst : s.pstate p ≠ 10) : s.retakePort p s = s := by
  simp only [State.retakePort, hst, ha, false_and, if_false, Bool.false_eq_true]

/-! ### Answers of the partner -/

section
variable {s : State} {p : Nat}

theorem State.pdAnswered_unasked {a : PdAnswer} (hq : (s.pd p).asked = none) : s.pdAnswered p a = s := by
  simp only [State.pdAnswered, hq]

/-- The Request at voltage `v` is accepted while no contract stands: the step from 5 V begins (R305). -/
def requestGranted (v : Nat) (x : PdSt) : PdSt := { x with asked := none, step := some (250, v) }

theorem State.pdAnswered_request {v i pos : Nat} {k : Bool} (hq : (s.pd p).asked = some .request) (hn : (s.pd p).next = some (v, i, pos, k))
    (hc : s.contract p = false) : s.pdAnswered p .accept = (s.modPd p (requestGranted v)).setPstate p 5 := by
  have hcu : (s.modPd p fun x => { x with asked := none, next := x.next }).contract p = false := hc
  have hne : ∀ x : PdSt, x.next = some (v, i, pos, k) → x ≠ {} := fun x hx h => by simp [h] at hx
  have hmod : (s.modPd p fun x => { x with asked := none, next := x.next }).modPd p (fun x => { x with step := some (250, v) }) =
      s.modPd p (requestGranted v) := State.modPd_modPd (hne _ hn) (hne _ hn)
  rw [← hmod]
  simp only [State.pdAnswered, hq, decide_true, if_true, State.pd_modPd, hn, hcu, Bool.false_eq_true, if_false, Option.elim_some]

/-- A VCONN_SWAP that the partner refuses has ended (R312, R438). -/
theorem State.pdAnswered_vconnSwap_refused {a : PdAnswer} (hq : (s.pd p).asked = some .vconnSwap) (hne : a ≠ .accept) :
    s.pdAnswered p a = s.swapDone p stDenied a.code := by
  simp only [State.pdAnswered, hq, decide_eq_false hne, Bool.false_eq_true, if_false]

theorem State.pdTimeout_request (hf : (s.pd p).frs = 0) (hs : (s.pd p).swap = none) (hq : (s.pd p).asked = some .request) :
    s.pdTimeout p = s.sendHardReset p := by
  simp [State.pdTimeout, hf, hs, hq]

end

/-- Settles O52, clause by clause: the partner's swaps and the hub's own (VCONN after an accepted VCONN_SWAP is assumption row 60), Fast Role Swap, the retake,
answers and time-outs. -/
theorem pdSwapsAndAnswers : Obligations.PdSwapsAndAnswers := by
  refine ⟨fun s p hc => ?contractless, fun s p ha hc hw => ?deferred, fun s p => ⟨fun hw => State.serveDeferred_waits hw,
    fun hd => State.serveDeferred_none hd, fun hw hd => congrArg Host.Outcome.next (State.serveDeferred_prSwap hw hd).symm⟩,
    fun s p ha hc hq hs => ?swaps, fun s p m hq hm hr hc => State.swapCollide_own hq hm hr hc,
    fun s p hd => congrArg Host.Outcome.next (State.swapRetry_none hd), fun s p n hd hc => ?retry,
    fun s p hf => congrArg Host.Outcome.next (State.frSwap_idle hf), fun s p hf => congrArg Host.Outcome.next (State.frSwap_initiator hf),
    fun s p hf => congrArg Host.Outcome.next (State.frSwap_responder hf), fun s p h => congrArg Host.Outcome.next (State.frsSignal_ignored h),
    fun s p harmed hf => congrArg Host.Outcome.next (if_pos ⟨harmed, hf⟩), fun s hv => congrArg Host.Outcome.next (if_pos hv),
    fun s hv ha hst => ?retakeIdle, fun s hv => exec_retakeTimer hv, fun s p a ha => congrArg Host.Outcome.next (if_neg (ne_true_of_eq_false ha)),
    fun s p a ha hq => ?unasked, fun s p v i pos k ha hq hn hc => ?granted, fun s p ha hq => ?refused, fun s p ha hf hs hq => ?timeout,
    fun s p ha => congrArg Host.Outcome.next (if_neg (ne_true_of_eq_false ha))⟩
  case contractless =>
    obtain ⟨hpr, hdr, hvc⟩ := State.swaps_without_contract hc
    exact ⟨congrArg Host.Outcome.next hpr, congrArg Host.Outcome.next hdr, congrArg Host.Outcome.next hvc⟩
  case deferred =>
    obtain ⟨hpr, hvc, hdr⟩ := State.swaps_deferred ha hc hw
    exact ⟨congrArg Host.Outcome.next hpr, congrArg Host.Outcome.next hvc, fun hm => congrArg Host.Outcome.next (hdr hm)⟩
  case swaps =>
    have hpr := State.prSwapIn_idle ha hc hq hs
    have hvc := State.vconnSwapIn_idle ha hc hq hs
    refine ⟨fun h => congrArg Host.Outcome.next (hpr.trans (if_neg fun k => ne_true_of_eq_false h k.1)),
      fun h hr => congrArg Host.Outcome.next (hpr.trans (if_pos ⟨h, .inl hr⟩)),
      fun hr hav => congrArg Host.Outcome.next (hpr.trans (if_neg fun k => k.2.elim (ne_true_of_eq_false hr) (Nat.not_le.mpr hav))),
      fun hm => congrArg Host.Outcome.next (State.drSwapIn_mode ha hc hm),
      fun hm h => congrArg Host.Outcome.next ((State.drSwapIn_idle ha hc hq hs hm).trans (if_pos h)),
      fun hm h => congrArg Host.Outcome.next ((State.drSwapIn_idle ha hc hq hs hm).trans (if_neg (ne_true_of_eq_false h))),
      fun h => congrArg Host.Outcome.next (hvc.trans (if_neg fun k => ne_true_of_eq_false h k.1)),
      fun h hv => congrArg Host.Outcome.next (State.vconnSwapIn_gives ha hc hq hs h hv),
      fun h hv hl => congrArg Host.Outcome.next (State.vconnSwapIn_takes ha hc hq hs h hv hl)⟩
  case retry =>
    have hretry := State.swapRetry_vconnSwap hd hc
    exact ⟨fun hn => congrArg Host.Outcome.next (hretry.trans (if_pos hn)), fun hn => congrArg Host.Outcome.next (hretry.trans (if_neg (Nat.not_lt.mpr hn)))⟩
  case retakeIdle =>
    exact (exec_retakeTimer hv).trans (congrArg Host.Outcome.next (State.each_fixed fun p hp => State.retakePort_idle (ha p hp) (hst p hp)))
  case unasked =>
    exact congrArg Host.Outcome.next ((if_pos ha).trans (congrArg (State.serveDeferred · p) (State.pdAnswered_unasked hq)))
  case granted =>
    exact ⟨requestGranted v, fun x => ⟨rfl, rfl, rfl⟩,
      congrArg Host.Outcome.next ((if_pos ha).trans (congrArg (State.serveDeferred · p) (State.pdAnswered_request hq hn hc)))⟩
  case refused =>
    have hans : ∀ a : PdAnswer, a ≠ .accept → exec (.accept p a) s = .next ((s.swapDone p stDenied a.code).serveDeferred p) := fun a hne =>
      congrArg Host.Outcome.next ((if_pos ha).trans (congrArg (State.serveDeferred · p) (State.pdAnswered_vconnSwap_refused hq hne)))
    exact ⟨hans .reject (by decide), hans .wait (by decide)⟩
  case timeout =>
    exact congrArg Host.Outcome.next ((if_pos ha).trans (congrArg (State.serveDeferred · p) (State.pdTimeout_request hf hs hq)))

/-! ### Discovery -/

section
variable {s : State} {p : Nat}

/-- The partner's Thrumlink VDO, as it is shown, leaves the port's configuration alone (R321). -/
theorem State.cfgOn_partnerTl {v : Word} : (s.setReg (PD_PARTNER_TL p) v).cfgOn p (PD_CFG.TL_EN p) = s.cfgOn p (PD_CFG.TL_EN p) := by
  have hne : PD_CFG p ≠ PD_PARTNER_TL p := by simp only [PD_CFG, PD_PARTNER_TL]; omega
  have hrd : (s.setReg (PD_PARTNER_TL p) v).rd (PD_CFG.TL_EN p) = s.rd (PD_CFG.TL_EN p) := congrArg (getField · 15 1) (State.reg_setReg_ne s v hne)
  rw [State.cfgOn, State.cfgRd, hrd]
  rfl

theorem State.offersTl_off (h : s.cfgOn p (PD_CFG.TL_EN p) = false) : s.offersTl p = false := by
  rw [State.offersTl, h, Bool.false_and]

/-- Discovery and the modes are for an attached port (R320). -/
theorem State.discovery_unattached (h : s.attached p = false) : (∀ k v c a e, s.discoverIdentity p k v c a e = s) ∧
    (∀ q l, s.discoverSvids p q l = s) ∧ (∀ q d v, s.discoverModes p q d v = s) ∧ ∀ k v, s.enterMode p k v = s :=
  have hn := ne_true_of_eq_false h
  ⟨fun _ _ _ _ _ => if_pos hn, fun _ _ => if_pos hn, fun _ _ _ => if_pos hn, fun _ _ => if_pos (.inl hn)⟩

section
variable (ha : s.attached p = true)
include ha

/-- The cable's answer is shown and the partner is asked (R320). -/
theorem State.discoverIdentity_cable {v : BitVec 32} {c : Nat} {a e : Bool} : s.discoverIdentity p 0 v.toNat c a e =
    ((s.setReg (PD_CABLE_VDO p) v).modPd p fun x => { x with cable := c, amps5 := a, cableEpr := e }).pdSend p .vdm [0, 0xFF00, 1, 0] := by
  rw [State.discoverIdentity, if_neg (not_not_intro ha), if_pos rfl, BitVec.ofNat_toNat, BitVec.setWidth_eq]

theorem State.discoverIdentity_partner {v : BitVec 32} {c : Nat} {a e : Bool} :
    s.discoverIdentity p 1 v.toNat c a e = (s.setReg (PD_PARTNER_IDH p) v).pdSend p .vdm [0, 0xFF00, 2, 0] := by
  rw [State.discoverIdentity, if_neg (not_not_intro ha), if_neg Nat.one_ne_zero, if_pos rfl, BitVec.ofNat_toNat, BitVec.setWidth_eq]

/-- The partner's modes are known: the VDO is shown (R321). -/
def State.partnerModes (s : State) (p : Nat) (v : Word) : State := (s.setReg (PD_PARTNER_TL p) v).modPd p fun x => { x with partnerTl := true }

/-- A VDO that fits the hub's own is answered by Enter Mode (R321). -/
theorem State.discoverModes_answer {v : BitVec 32} : s.discoverModes p false false v.toNat =
    if (s.partnerModes p v).wouldEnter p = true then
      (s.partnerModes p v).pdSend p .vdm [0, 0x2E7D, 4, 0, (s.partnerModes p v).thrumVdo p]
    else ((s.partnerModes p v).vdmDone p).modeMissing p := by
  rw [State.discoverModes, if_neg (not_not_intro ha), if_neg Bool.false_ne_true, BitVec.ofNat_toNat, BitVec.setWidth_eq]
  rfl

theorem State.discoverModes_request {v : Nat} : s.discoverModes p true false v =
    if s.offersTl p = true then s.pdSend p .vdm [0, 0x2E7D, 3, 1, s.thrumVdo p] else s.pdSend p .vdm [0, 0x2E7D, 3, 2] :=
  (if_neg (not_not_intro ha)).trans ((if_pos rfl).trans (if_neg Bool.false_ne_true))

/-! ### Entering a mode -/

section
variable (hm : s.rd (PD_STAT.MODE p) = 0)
include hm

/-- A mode is entered where none is active (R321). -/
theorem State.mode_enterable : ¬ (¬ s.attached p = true ∨ s.rd (PD_STAT.MODE p) ≠ 0) := fun h => h.elim (absurd ha) fun h => h hm

theorem State.enterMode_acknowledged {v : Nat} : s.enterMode p 0 v =
    if (s.pd p).asked = some .vdm ∧ s.wouldEnter p = true then s.enterThrum p else s :=
  (if_neg (State.mode_enterable ha hm)).trans (if_pos rfl)

theorem State.enterMode_refused {v : Nat} : s.enterMode p 1 v = (s.vdmDone p).modeMissing p := by
  rw [State.enterMode, if_neg (State.mode_enterable ha hm), if_neg Nat.one_ne_zero, if_pos rfl]

/-- The partner enters the Thrumlink mode (R321). -/
theorem State.enterMode_thrum {v : BitVec 32} : s.enterMode p 2 v.toNat =
    (let u := s.setReg (PD_PARTNER_TL p) v
     if u.offersTl p = true ∧ ¬ (u.pd p).noTl = true then (u.pdSend p .vdm [0, 0x2E7D, 4, 1]).enterThrum p
     else u.pdSend p .vdm [0, 0x2E7D, 4, 2]) := by
  rw [State.enterMode, if_neg (State.mode_enterable ha hm), if_neg (by decide), if_neg (by decide), if_pos rfl, BitVec.ofNat_toNat, BitVec.setWidth_eq]

theorem State.enterMode_displayPort {v : Nat} : s.enterMode p 3 v =
    if s.offersDp p = true then (s.pdSend p .vdm [0, 0xFF01, 4, 1]).wr (PD_STAT.MODE p) 2 else s.pdSend p .vdm [0, 0xFF01, 4, 2] := by
  rw [State.enterMode, if_neg (State.mode_enterable ha hm), if_neg (by decide), if_neg (by decide), if_neg (by decide)]

end

end

/-! ### Leaving a mode; DisplayPort -/

/-- The answer to Exit Mode carries the SVID of the mode that ends (R323, R516). -/
theorem State.exitMode_request {svid : Nat} (h : (if s.rd (PD_STAT.MODE p) = 2 then 0xFF01 else 0x2E7D) = svid) : s.exitMode p false =
    ((s.pdSend p .vdm [0, svid, 5, 1]).leaveMode p).modLink p fun l => { l with exitWait := false } := by
  rw [← h]
  rfl

theorem State.attention_displayPort (h : s.rd (PD_STAT.MODE p) = 2) :
    s.attention p = s.pdSend p .vdm [0, 0xFF01, 6, 0, (s.relayHpd p).toNat * 2 ^ 7] := if_pos h

/-- A port other than C0 has no upstream USB that its pin assignment could slow down (R257, R322). -/
theorem State.dpConfigure_downstream {pin : Nat} (h : s.rd (PD_STAT.MODE p) = 2) (hp : p ≠ 0) :
    s.dpConfigure p pin = ((s.modPd p fun x => { x with dpPin := pin }).pdSend p .vdm [0, 0xFF01, 0x11, 1]).attention p :=
  (if_pos h).trans (congrArg (State.attention · p) (if_neg fun k => hp k.1))

/-! ### Messages for the firmware -/

theorem State.pdFirmware_unlisted {r : Bool} (ha : s.attached p = true) : s.pdFirmware p false r = s.pdSend p .notSupported :=
  (if_neg (not_not_intro ha)).trans (if_pos Bool.false_ne_true)

theorem State.pdFirmware_due (ha : s.attached p = true) : s.pdFirmware p true false = s.modPd p fun x => { x with fwWait := true } :=
  (if_neg (not_not_intro ha)).trans ((if_neg (not_not_intro rfl)).trans (if_neg Bool.false_ne_true))

/-- The answer's word is image data, which the spec does not give (R301). -/
theorem State.pdFirmware_ready (ha : s.attached p = true) :
    s.pdFirmware p true true = ({ s with free := s.free + 1 } : State).pdSend p .firmware [(Config.freeWord s.free).toNat] :=
  (if_neg (not_not_intro ha)).trans ((if_neg (not_not_intro rfl)).trans (if_pos rfl))

end

theorem exec_pdFirmwareMessage {s : State} {p : Fin 6} {listed ready : Bool} (ha : s.attached p = true) :
    exec (.pdFirmwareMessage p listed ready) s = .next ((s.pdFirmware p listed ready).wakesIf 21 listed) := by
  refine congrArg Host.Outcome.next ?_
  rw [ha, Bool.true_and]

/-- Settles O53, clause by clause: discovery, entering and leaving the modes, DisplayPort, the exit wait, and messages for the firmware. -/
theorem pdDiscoveryAndModes : Obligations.PdDiscoveryAndModes := by
  refine ⟨fun s p ha => ?unattached, fun s p v c a e ha => ?identity, fun s p ha => ?svids, fun s p v ha => ?modes, fun s p v ha hm => ?enter,
    fun s p ha hm => ?exitThrum, fun s p ha hm => ?exitDp,
    fun s p c hm => ⟨congrArg Host.Outcome.next (if_neg hm), congrArg Host.Outcome.next (if_neg hm)⟩, fun s p hm => ?displayPort,
    fun s p => ⟨fun h => congrArg Host.Outcome.next (if_pos h), fun h => congrArg Host.Outcome.next (if_neg (ne_true_of_eq_false h))⟩,
    fun s p r ha => ?firmware,
    fun s p => ⟨fun h => congrArg Host.Outcome.next (if_pos h), fun h => congrArg Host.Outcome.next (if_neg (ne_true_of_eq_false h))⟩⟩
  case unattached =>
    obtain ⟨hid, hsvid, hmode, henter⟩ := State.discovery_unattached ha
    exact ⟨fun k v c a e => congrArg Host.Outcome.next (hid k v.toNat c a e), fun q l => congrArg Host.Outcome.next (hsvid q l),
      fun q d v => congrArg Host.Outcome.next (hmode q d v.toNat), fun k v => congrArg Host.Outcome.next (henter k v.toNat),
      fun a => congrArg Host.Outcome.next (if_neg fun h => ne_true_of_eq_false ha h.1)⟩
  case identity =>
    exact ⟨congrArg Host.Outcome.next (State.discoverIdentity_cable ha), congrArg Host.Outcome.next (State.discoverIdentity_partner ha),
      congrArg Host.Outcome.next (if_neg (not_not_intro ha))⟩
  case svids =>
    exact ⟨congrArg Host.Outcome.next (if_neg (not_not_intro ha)), congrArg Host.Outcome.next (if_neg (not_not_intro ha)),
      congrArg Host.Outcome.next (if_neg (not_not_intro ha))⟩
  case modes =>
    have hans := State.discoverModes_answer (v := v) ha
    have hreq := State.discoverModes_request (v := v.toNat) ha
    exact ⟨fun h => congrArg Host.Outcome.next (hans.trans (if_pos h)), fun h => congrArg Host.Outcome.next (hans.trans (if_neg (ne_true_of_eq_false h))),
      fun h => congrArg Host.Outcome.next (hreq.trans (if_pos h)), fun h => congrArg Host.Outcome.next (hreq.trans (if_neg (ne_true_of_eq_false h)))⟩
  case enter =>
    have hack := State.enterMode_acknowledged (v := v.toNat) ha hm
    have hthrum := State.enterMode_thrum (v := v) ha hm
    have hdp := State.enterMode_displayPort (v := v.toNat) ha hm
    refine ⟨fun hq hw => congrArg Host.Outcome.next (hack.trans (if_pos ⟨hq, hw⟩)), fun hq => congrArg Host.Outcome.next (hack.trans (if_neg fun h => hq h.1)),
      congrArg Host.Outcome.next (State.enterMode_refused ha hm), fun hoff => ?_,
      fun ho hn => congrArg Host.Outcome.next (hthrum.trans (if_pos ⟨ho, ne_true_of_eq_false hn⟩)),
      fun h => congrArg Host.Outcome.next (hdp.trans (if_pos h)), fun h => congrArg Host.Outcome.next (hdp.trans (if_neg (ne_true_of_eq_false h)))⟩
    have hno := State.offersTl_off (State.cfgOn_partnerTl (v := v).trans hoff)
    exact congrArg Host.Outcome.next (hthrum.trans (if_neg fun h => ne_true_of_eq_false hno h.1))
  case exitThrum =>
    have hmode : s.rd (PD_STAT.MODE p) ≠ 0 := hm.trans_ne Nat.one_ne_zero
    exact congrArg Host.Outcome.next ((if_pos ⟨ha, .inl hmode⟩).trans (State.exitMode_request (if_neg (hm.trans_ne (by decide)))))
  case exitDp =>
    have hmode : s.rd (PD_STAT.MODE p) ≠ 0 := hm.trans_ne two_ne_zero
    exact congrArg Host.Outcome.next ((if_pos ⟨ha, .inl hmode⟩).trans (State.exitMode_request (if_pos hm)))
  case displayPort =>
    exact ⟨congrArg Host.Outcome.next (State.attention_displayPort hm),
      fun hp => congrArg Host.Outcome.next (State.dpConfigure_downstream hm (Fin.val_ne_of_ne hp))⟩
  case firmware =>
    refine ⟨?_, ?_, Config.freeWord s.free, ?_⟩ <;> rw [exec_pdFirmwareMessage ha]
    · rw [State.pdFirmware_unlisted ha]
      rfl
    · rw [State.pdFirmware_due ha]
    · rw [State.pdFirmware_ready ha]

end Sys2Proof.Machine
end
